-- ==== Sys2Proof/Word.lean ====
section
/-!
DEFINITION. Word: the words and bytes of the device's registers and memory (R9).
-/
namespace Sys2Proof

/-- A 32-bit register word. -/
abbrev Word := BitVec 32

/-- A byte of memory. -/
abbrev Byte := BitVec 8

/-- A run of bytes as memory holds it, lowest address first. -/
abbrev Bytes := List Byte

end Sys2Proof
end

