-- ==== Sys2Proof/Syntax.lean ====
section
/-!
DEFINITION. Syntax: the commands the block takes, one constructor for each row of the opcode table, with the operands each
carries. The table gives its rows no operands and no bits, so the operands are read from each row's rule (log entry 1).
-/
namespace Sys2Proof

/-- Who makes a register access: the physical function, a virtual instance through its own window, a core of the manager, a
Husk, the Pip lane, an application-core hart, the IEEE 1149.7 debug port, another node over an Icvik port, or the physical function of a link that
is not the manager link, which reaches nothing but a BAR0 of 4 KiB of its own (R10, R15, R30, R44, R473, R510, R635). -/
inductive Path where
  | pf
  | vi (v : Nat)
  | mgr (core : Nat)
  | husk (which : Nat)
  | pip
  | hart (h : Nat)
  | debug
  | icvik (port : Nat)
  | link (l : Nat)
  deriving DecidableEq, Repr, Inhabited

/-- A requester: its path and the world its request carries (R510). -/
structure Req where
  path : Path
  secure : Bool
  deriving DecidableEq, Repr, Inhabited

/-- Bytes that memory outside the device holds when a command reads it: the window whose function reads, the device address of
the first byte (bit 63 set for host memory; a local address for memory behind an Icvik import), and the bytes. A read that no
run covers faults (log entry 7). -/
structure HostRun where
  w : Nat
  addr : Nat
  bytes : Bytes
  deriving DecidableEq, Repr, Inhabited


/-- A sample that a primitive of a draw covers, with what the fragment shader leaves for it (log entry 27): pixel, sample, whether the primitive
faces front, its depth in the depth attachment's format after bias and clamp, and for each colour attachment written its R, G, B and A as
the shader's 32-bit words. -/
structure Frag where
  x : Nat
  y : Nat
  smp : Nat
  front : Bool
  z : Nat
  out : List (Nat × List Nat)
  deriving DecidableEq, Repr, Inhabited

/-- An access shaders make (log entry 27): through entry `b` of the table bound to a set, to a range of a buffer or a texel of a level and layer of
an image; or to a device address. -/
inductive Access where
  | bufRead (set b off len : Nat)
  | bufWrite (set b off : Nat) (v : Bytes)
  | imgRead (set b layer level x y : Nat)
  | imgWrite (set b layer level x y v : Nat)
  | read (addr len : Nat)
  | write (addr : Nat) (v : Bytes)
  deriving DecidableEq, Repr, Inhabited

/-- What the shaders of a descriptor leave behind when it completes (log entry 27): the samples its primitives cover, in the order of R318, and the
accesses its shaders make, in order. -/
structure Work where
  frags : List Frag
  access : List Access
  deriving DecidableEq, Repr, Inhabited

/-- What validation and translation of a pipeline's modules give (log entry 28): no module fault of SPIR-V validation, no
unsupported item, no limit exceeded; the word of the first error; and the cache units the code takes. -/
structure Verdict where
  valid : Bool
  supported : Bool
  inLimits : Bool
  errorWord : Nat
  units : Nat
  deriving DecidableEq, Repr, Inhabited

/-- The flash as it is fitted and written outside the device (R570, R571): its size in MiB, its erase block in KiB, its content by offset (what no
run covers reads 0xFF), ranges that cannot be read, and the pipes that the PIPES record marks SPARE, whose marking the record has no
place for (R599; log entry 58). -/
structure FlashIn where
  sizeMiB : Nat
  eraseKiB : Nat
  runs : List (Nat × Bytes)
  bad : List (Nat × Nat)
  spares : List Nat
  deriving DecidableEq, Repr, Inhabited

/-- A device as the pod directory shows it (R634, R646): POD_DIR_STATE's state and fields, its root priority, CHIP_DIR_GEN and path. -/
structure NodeInfo where
  state : Nat
  prio : Nat
  joins : Nat
  code : Nat
  major : Nat
  gen : Nat
  path : Nat
  deriving DecidableEq, Repr, Inhabited

/-- What a HELLO flit states (R630): the node number, none where the device asks the root for one, its port, whether it is the very device
already present, the number the root gives this device, and its identity. -/
structure Hello where
  node : Option Nat
  port : Nat
  known : Bool
  give : Option Nat
  info : NodeInfo
  deriving DecidableEq, Repr, Inhabited

/-- A link of the port graph (R632): two nodes and their ports. -/
structure PortEdge where
  a : Nat
  ap : Nat
  b : Nat
  bp : Nat
  deriving DecidableEq, Repr, Inhabited

/-- What a CONTROL message asks or tells. The spec gives the requests that use CONTROL and not their layout (log entry 47). -/
inductive CtlMsg where
  /-- An import asks the source node for an export of a handle, with its BW (R642); its answer: status code and chunks. -/
  | importReq (imp handle bw : Nat)
  | importAnswer (imp status chunks : Nat)
  /-- An import was closed; an export has gone (R642, R644). -/
  | importEnd (handle : Nat)
  | exportEnd (handle : Nat)
  /-- Pixel reservations of an outgoing port of this device taken or released for a route (R642). -/
  | reserve (port bw : Nat) (add : Bool)
  /-- An entry of the pod directory (R634). -/
  | directory (node : Nat) (info : NodeInfo)
  /-- New values of a pod frame reference and when they take force (R640). -/
  | refs (r epoch period at_ : Nat)
  /-- A remote access to PF BAR0, and its answer (R635). -/
  | raccReq (secure write : Bool) (addr : Nat) (v : Word)
  | raccAnswer (ok : Bool) (v : Word)
  /-- The destination acknowledges a message (R628). -/
  | ack (tag : Nat)
  deriving DecidableEq, Repr, Inhabited

/-- What the gPTP engine of a MAC finds from a frame: asCapable, role, the offset of gPTP time from device time, the mean link delay, and
whether the frame was a sync. The engine's own rules are IEEE 802.1AS, outside the spec (log entry 48). -/
structure PtpIn where
  asCapable : Bool
  role : Nat
  offset : Nat
  delay : Nat
  sync : Bool
  deriving DecidableEq, Repr, Inhabited

/-- A packet of an AVTP listener's stream as the AAF format of IEEE 1722 decodes it: stream ID, presentation time of its first sample and
its frames, channel by channel (R396; the format is outside the spec, log entry 48). -/
structure AvtpIn where
  id : Nat
  time : Nat
  frames : List (List Nat)
  period : Nat
  deriving DecidableEq, Repr, Inhabited

/-- A tagged instruction as a sampler follows it (R682 to R685): its hart or cluster, the tags that fell due while it was followed, whether
it retired or completed, its ADDR, DATA_ADDR, LATENCY and EVENTS; of a hart its privilege; of a cluster its queue, stage and word. -/
structure Tagged where
  sel : Nat
  missed : Nat
  retired : Bool
  addr : Nat
  data : Nat
  latency : Nat
  events : Nat
  priv : Nat
  queue : Nat
  stage : Nat
  word : Nat
  deriving DecidableEq, Repr, Inhabited

/-- What the regulator controller reads of a phase (R548, R549): the phase, its current in 0.1 A, its temperature in °C, and the cycles that
were limited since the last reading. -/
structure PhaseIn where
  phase : Nat
  amps : Nat
  temp : Nat
  limited : Nat
  deriving DecidableEq, Repr, Inhabited

/-- What the budgeter measures at a tick (R350, R353 to R363): the energy of each of the nine classes in the tick that ended and of each
cluster, in µJ; the power of each external rail in mW, and whether that telemetry works; how busy GFX0 to GFX3, APP_CPU0 and APP_CPU1 were, in
percent; the clusters each queue can use; and the compose clocks left of each composition that runs, or is due in the tick, by pipe. -/
structure BudgetIn where
  used : List Nat
  clusters : List Nat
  rails : List Nat
  supplyOk : Bool
  busy : List Nat
  uses : List (Nat × Nat)
  compose : List (Nat × Nat)
  deriving DecidableEq, Repr, Inhabited

/-- A power domain that comes ON (R544): its number, the stacks and channels behind it that will fail at the start (R98), and the errors the
reads meet that the start makes then (R86). -/
structure DomainUp where
  d : Nat
  defects : List Nat
  hosts : List HostRun
  deriving DecidableEq, Repr, Inhabited


/-- The commands, one constructor for each row of spec/opcode_table.json. The first operand `dt` of every command is the
device time in ns since the command before it (log entry 2). -/
inductive Instr where
  /-- REGISTER_WRITE (R12). A write to a register field that has no row of its own acts by its access code (RW, W1C, W1S, RWL, WO, RSV). -/
  | registerWrite (dt : Nat) (r : Req) (addr : Nat) (v : Word)
  /-- REGISTER_READ_CLEAR (R12). A read of an RC field returns its value and clears it, except through the debug port. -/
  | registerReadClear (dt : Nat) (r : Req) (addr : Nat)
  /-- READ_LOW_WORD (R10). A read of the low word of a 64-bit register latches the high word for the next high read on that path. -/
  | readLowWord (dt : Nat) (r : Req) (addr : Nat)
  /-- WRITE_HIGH_WORD (R11). A write of the high word of a 64-bit register puts the staged 64-bit value into effect. -/
  | writeHighWord (dt : Nat) (r : Req) (addr : Nat) (v : Word)
  /-- UIF_POWER_REQ (R34). A write of UIF_POWER.REQ asks a unit or pod for a power state, refused with BAD_PARAM, BUSY or CLAIMED, or raising its domain first. -/
  | uifPowerReq (dt : Nat) (r : Req) (u : Nat) (req : Nat)
  /-- UIF_POWER_DONE (R34). A unit or pod reaches the requested power state and STATE leaves TRANSITION. -/
  | uifPowerDone (dt : Nat) (u : Nat)
  /-- UIF_RESET_GO (R35). A write of UIF_RESET.GO resets a unit, abandoning work in flight and counting a restart. -/
  | uifResetGo (dt : Nat) (r : Req) (u : Nat)
  /-- UIF_RESET_DONE (R35). A unit reset completes and BUSY clears. -/
  | uifResetDone (dt : Nat) (u : Nat)
  /-- DIRECTORY_CHANGE (R40). A spare enters service or a unit leaves service; directory entries update and CHIP_DIR_GEN increments. -/
  | directoryChange (dt : Nat) (u : Nat) (spare : Option Nat)
  /-- RING_ENABLE (R53). A write of RING_CTRL.ENABLE = 1 enables a submission ring or sets BAD_CONFIG for an invalid, misaligned or unbound ring. -/
  | ringEnable (dt : Nat) (w : Nat) (n : Nat) (v : Word)
  /-- RING_DISABLE (R278). A write of RING_CTRL.ENABLE = 0 disables a ring, abandoning unstarted entries and clearing queue or check-context work as stated. -/
  | ringDisable (dt : Nat) (w : Nat) (n : Nat) (v : Word) (hosts : List HostRun)
  /-- RING_DOORBELL (R54). A doorbell write gives a new tail count, accepted, or ignored with OVERFLOW or BACKWARD. -/
  | ringDoorbell (dt : Nat) (w : Nat) (n : Nat) (v : Word)
  /-- RING_ENTRY_FETCH (R56). The device reads the next ring entry from host memory; a faulting read disables the ring with READ_FAULT. -/
  | ringEntryFetch (dt : Nat) (w : Nat) (n : Nat) (hosts : List HostRun)
  /-- CREATE_LAYER (R109). A control-ring CREATE of kind 0x01 makes a disabled layer bound to one pipe and path. -/
  | createLayer (dt : Nat) (w : Nat) (ext : Option Bytes)
  /-- CREATE_RENDER_QUEUE (R276). A control-ring CREATE of kind 0x02 makes a render queue with a context and tile-list pool. -/
  | createRenderQueue (dt : Nat) (w : Nat) (ext : Option Bytes)
  /-- CREATE_COMPUTE_QUEUE (R276). A control-ring CREATE of kind 0x03 makes a compute queue, foreground or fill. -/
  | createComputeQueue (dt : Nat) (w : Nat) (ext : Option Bytes)
  /-- CREATE_AUDIO_STREAM_IN (R397). A control-ring CREATE of kind 0x04 takes a run of free matrix inputs for a guest stream. -/
  | createAudioStreamIn (dt : Nat) (w : Nat) (ext : Option Bytes)
  /-- CREATE_AUDIO_STREAM_OUT (R397). A control-ring CREATE of kind 0x05 takes a run of free matrix outputs for a guest stream. -/
  | createAudioStreamOut (dt : Nat) (w : Nat) (ext : Option Bytes)
  /-- STREAM_CREATE_SWAP_IDLE (R397). A waiting stream CREATE proceeds once the swap STATE is IDLE, zeroing its run in the shadow bank. -/
  | streamCreateSwapIdle (dt : Nat) (k : Nat)
  /-- CREATE_TOUCH_ZONE (R427). A control-ring CREATE of kind 0x06 groups owned electrodes of one block into a button, slider or wheel. -/
  | createTouchZone (dt : Nat) (w : Nat) (ext : Option Bytes)
  /-- CREATE_HAPTIC_EFFECT_SLOT (R450). A control-ring CREATE of kind 0x07 grants one library entry on one channel at one gain. -/
  | createHapticEffectSlot (dt : Nat) (w : Nat) (ext : Option Bytes)
  /-- CREATE_CHECK_CONTEXT (R266). A control-ring CREATE of kind 0x08 makes a CRC and alive-check context. -/
  | createCheckContext (dt : Nat) (w : Nat) (ext : Option Bytes)
  /-- CREATE_FENCE (R179). A control-ring CREATE of kind 0x09 makes a 64-bit timeline fence. -/
  | createFence (dt : Nat) (w : Nat) (ext : Option Bytes)
  /-- CREATE_MEMORY_CHUNK (R78). A control-ring CREATE of kind 0x0A takes chunks, checked in order, to be zeroed and mapped at DADDR. -/
  | createMemoryChunk (dt : Nat) (w : Nat) (ext : Option Bytes)
  /-- CHUNK_ZERO_DONE (R79). Zeroing of the chunks of a created memory chunk channel ends; they are mapped and CHANNEL_DONE is written. -/
  | chunkZeroDone (dt : Nat) (idx : Nat)
  /-- CREATE_REFLEX_BINDING (R462). A control-ring CREATE of kind 0x0B binds a zone event to haptic, chime and highlight actions. -/
  | createReflexBinding (dt : Nat) (w : Nat) (ext : Option Bytes)
  /-- CREATE_WRITEBACK_TARGET (R152). A PF control-ring CREATE of kind 0x0C sets a writeback target on a pipe. -/
  | createWritebackTarget (dt : Nat) (w : Nat) (ext : Option Bytes)
  /-- DESTROY (R62). A control-ring DESTROY increments the index generation, unbinds any ring and starts retiring the channel's work. -/
  | destroy (dt : Nat) (w : Nat) (hosts : List HostRun)
  /-- DESTROY_DRAIN_DONE (R62). The last work of a destroyed channel leaves the device; the index is freed and CHANNEL_DONE is written. -/
  | destroyDrainDone (dt : Nat) (kind : Nat) (i : Nat)
  /-- CHUNK_UNMAP_DRAIN_DONE (R80). Accesses translated before a chunk range was unmapped complete; the chunks are zeroed and freed. -/
  | chunkUnmapDrainDone (dt : Nat) (idx : Nat)
  /-- BIND_RING (R63). A control-ring BIND_RING binds a ring to a channel that has a submission format. -/
  | bindRing (dt : Nat) (w : Nat)
  /-- UNBIND_RING (R64). A control-ring UNBIND_RING unbinds a disabled bound ring. -/
  | unbindRing (dt : Nat) (w : Nat)
  /-- QUERY (R65). A control-ring QUERY writes the channel's state block to PARAM_ADDR. -/
  | query (dt : Nat) (w : Nat)
  /-- EVR_ENABLE (R68). A write of EVR_CTRL.ENABLE = 1 enables an event ring and writes queued PF events or EVENTS_LOST first. -/
  | evrEnable (dt : Nat) (w : Nat) (v : Word)
  /-- EVR_HEAD_WRITE (R69). Software advances EVR_HEAD; when space returns after loss an EVENTS_LOST record is written first. -/
  | evrHeadWrite (dt : Nat) (w : Nat) (v : Word)
  /-- EVR_IRQ_TIMER (R67). The moderation timer of an event ring expires and raises its MSI-X interrupt. -/
  | evrIrqTimer (dt : Nat) (w : Nat)
  /-- SCRUB_CHUNK (R89). The patrol scrub reads the next chunk of a memory, correcting, counting or poisoning words. -/
  | scrubChunk (dt : Nat) (mem : Nat) (errs : List (Nat × Bool))
  /-- PAGE_RETIRED (R92). Copy, remap switch and mirroring of a retired page end and MEM_RETIRED increments. -/
  | pageRetired (dt : Nat) (mem : Nat) (page : Nat)
  /-- LPDDR_DRIFT_TRACK (R97). Periodic DQS drift and ZQ tracking of an LPDDR channel. -/
  | lpddrDriftTrack (dt : Nat) (ch : Nat)
  /-- BW_WINDOW (R100). A 1 µs arbitration window of a memory divides bandwidth among classes. -/
  | bwWindow (dt : Nat) (mem : Nat) (want : List Nat)
  /-- MEM_BW_CLASS_WRITE (R103). A write of a class setting, refused with NO_RESOURCE beyond the 75 % limit. -/
  | memBwClassWrite (dt : Nat) (mem : Nat) (c : Nat) (v : Word)
  /-- LAYER_TABLE_WRITE (R125). A write to a degamma table or coefficient set, ignored while referenced. -/
  | layerTableWrite (dt : Nat) (r : Req) (addr : Nat) (v : Word)
  /-- LAYER_PIPE_BG_WRITE (R157). A write of LAYER_PIPE_BG is held whole until the next compose-start. -/
  | layerPipeBgWrite (dt : Nat) (r : Req) (p : Nat) (v : Nat)
  /-- COMMIT_TOKEN (R167). A write of COMMIT_TOKEN closes a commit, refused with SPOOF, DENIED, BAD_PARAM or BUSY, or accepted with its acceptance time. -/
  | commitToken (dt : Nat) (w : Nat) (p : Nat) (token : Word)
  /-- COMMIT_CHECK_DONE (R169). The check of an accepted commit list ends, making it WAITING or FAILED. -/
  | commitCheckDone (dt : Nat) (w : Nat) (p : Nat) (hosts : List HostRun)
  /-- LINE_START (R200). A pipe's raster reaches the first pixel clock of a line. -/
  | lineStart (dt : Nat) (p : Nat) (line : Nat) (hosts : List HostRun)
  /-- LINE_ZERO (R159). A pipe reaches line 0; the frame number increments and lock error, CS and deadlines are updated. -/
  | lineZero (dt : Nat) (p : Nat) (hosts : List HostRun)
  /-- COMPOSE_START (R161). At line CS the layer engine takes composed-layer states and starts composing the next frame. -/
  | composeStart (dt : Nat) (p : Nat) (hosts : List HostRun)
  /-- COMPOSITION_DONE (R163). A composition of a frame finishes writing its frame-store buffer. -/
  | compositionDone (dt : Nat) (p : Nat) (hosts : List HostRun)
  /-- WB_FRAME_WRITTEN (R153). A composed frame is fully written to a writeback buffer and its fence is signalled. -/
  | wbFrameWritten (dt : Nat) (p : Nat)
  /-- LAST_ACTIVE_PIXEL (R241). The last active pixel of a frame enters stage 8. -/
  | lastActivePixel (dt : Nat) (p : Nat) (hosts : List HostRun)
  /-- LATCH_POINT (R160). At line V_ACTIVE the pipe switches frame-store buffer, takes direct states, latches commits and publishes check results. -/
  | latchPoint (dt : Nat) (p : Nat) (hosts : List HostRun)
  /-- LAYER_FAULT (R194). A fetch of a layer's pixels, flags or metadata faults and the layer is switched off. -/
  | layerFault (dt : Nat) (slot : Nat) (faddr : Nat) (line : Nat) (x : Nat) (tiles : List Nat) (hosts : List HostRun)
  /-- UNDERRUN (R213). Stage 2 reaches direct-layer data not in the FIFO; the layer is off for the rest of the frame. -/
  | underrun (dt : Nat) (slot : Nat) (line : Nat) (x : Nat) (hosts : List HostRun)
  /-- PIPE_ENABLE (R205). A write of PIPE_CTRL.ENABLE = 1 while OFF starts the checks of a pipe start. -/
  | pipeEnable (dt : Nat) (r : Req) (p : Nat) (v : Word)
  /-- PIPE_RECONFIG (R208). A write of PIPE_CTRL.RECONFIG = 1 while RUNNING starts the checks of a reconfiguration. -/
  | pipeReconfig (dt : Nat) (r : Req) (p : Nat) (v : Word)
  /-- PIPE_DISABLE (R209). A write of PIPE_CTRL.ENABLE = 0 stops a running, starting or reconfiguring pipe. -/
  | pipeDisable (dt : Nat) (r : Req) (p : Nat) (v : Word)
  /-- PIPE_CHECKS_DONE (R205). The checks of an ENABLE or RECONFIG end, failing or reserving resources and reading STARTING. -/
  | pipeChecksDone (dt : Nat) (p : Nat) (hosts : List HostRun)
  /-- PLL_LOCKED (R203). A pixel PLL started for a pipe locks. -/
  | pllLocked (dt : Nat) (j : Nat) (hosts : List HostRun)
  /-- PIPE_STOPPED (R209). A STOPPING pipe reaches the end of its frame, releases its resources and reads OFF. -/
  | pipeStopped (dt : Nat) (p : Nat)
  /-- PIPE_LUT_WRITE (R217). A write to a LUT bank, ignored with LUT_IGNORED while the bank is in use. -/
  | pipeLutWrite (dt : Nat) (r : Req) (addr : Nat) (v : Nat)
  /-- PLL_WRITE (R203). A write to PLL_INT, PLL_FRAC or PLL_DIV, held while an output feeds a running pipe. -/
  | pllWrite (dt : Nat) (r : Req) (j : Nat) (reg : Nat) (v : Word)
  /-- DSC_CFG_WRITE (R225). A write to DSC_CFG, held while the encoder is in use. -/
  | dscCfgWrite (dt : Nat) (r : Req) (e : Nat) (v : Word)
  /-- HPD_PLUG (R227). A port's HPD is high for 2 ms; a plug starts link training. -/
  | hpdPlug (dt : Nat) (port : Nat)
  /-- HPD_UNPLUG (R227). A port's HPD is low for more than 2 ms. -/
  | hpdUnplug (dt : Nat) (port : Nat)
  /-- IRQ_HPD (R227). A low HPD pulse of 0.5 to 1 ms makes the device read link status and retrain if lost. -/
  | irqHpd (dt : Nat) (port : Nat) (lost : Bool)
  /-- DP_RETRAIN (R228). A write to DP_RETRAIN starts link training. -/
  | dpRetrain (dt : Nat) (r : Req) (port : Nat) (v : Word)
  /-- LINK_TRAINED (R228). Link training ends; streams that do not fit become LINK_SHORT. -/
  | linkTrained (dt : Nat) (port : Nat) (ok : Bool) (rate : Nat) (lanes : Nat) (capacity : Nat)
  /-- DP_AUX_CMD (R231). A write of DP_AUX_CMD issues a PF AUX transaction. -/
  | dpAuxCmd (dt : Nat) (r : Req) (port : Nat) (v : Word)
  /-- AUX_TRANSACTION_DONE (R231). An AUX transaction ends with OK, FAULT, BUSY or TIMEOUT. -/
  | auxTransactionDone (dt : Nat) (port : Nat) (outcome : Nat) (rx : Bytes)
  /-- DSI_CMD (R233). A write of DSI_CMD issues an LP command. -/
  | dsiCmd (dt : Nat) (r : Req) (port : Nat) (v : Word)
  /-- DSI_CMD_DONE (R233). An LP command is sent in blanking or at once, with any read reply. -/
  | dsiCmdDone (dt : Nat) (port : Nat) (ok : Bool) (reply : Bytes)
  /-- CHK_WRITE (R254). A write to region control, rectangle, source or expected registers, held to the next latch point. -/
  | chkWrite (dt : Nat) (r : Req) (addr : Nat) (v : Word)
  /-- FRAME_MISSING (R257). A running pipe's check set publishes nothing for two nominal frame times. -/
  | frameMissing (dt : Nat) (p : Nat)
  /-- DCU_DATA (R265). A write of DCU_DATA feeds 4 bytes into a data check unit. -/
  | dcuData (dt : Nat) (r : Req) (u : Nat) (v : Word)
  /-- DCU_DATA8 (R265). A write of DCU_DATA8 feeds one byte into a data check unit. -/
  | dcuData8 (dt : Nat) (r : Req) (u : Nat) (v : Word)
  /-- DCU_RESTART (R265). DCU_CMD.RESTART sets reg to INIT. -/
  | dcuRestart (dt : Nat) (r : Req) (u : Nat)
  /-- DCU_VALUE_WRITE (R274). A write of DCU_POLY, DCU_INIT, DCU_XOROUT or DCU_VALUE, ignored with BAD_PARAM above the width. -/
  | dcuValueWrite (dt : Nat) (r : Req) (u : Nat) (which : Nat) (v : Nat)
  /-- DCU_CFG_WRITE (R274). A write of DCU_CFG, refused when narrowing below set bits, resetting reg on a width change. -/
  | dcuCfgWrite (dt : Nat) (r : Req) (u : Nat) (v : Word)
  /-- CHECK_ENTRY_DISPATCH (R268). A waiting check-context entry gets a free unit and its context is loaded. -/
  | checkEntryDispatch (dt : Nat)
  /-- FEED (R269). A check-context FEED entry feeds LEN bytes, with the alive check when ALIVE is 1. -/
  | chkFeed (dt : Nat) (i : Nat) (hosts : List HostRun)
  /-- FINISH (R269). A check-context FINISH entry forms and writes the result, compares it and resets reg. -/
  | chkFinish (dt : Nat) (i : Nat)
  /-- SET (R269). A check-context SET entry loads reg from ARG. -/
  | chkSet (dt : Nat) (i : Nat)
  /-- RESTART (R269). A check-context RESTART entry sets reg to INIT keeping the alive value. -/
  | chkRestart (dt : Nat) (i : Nat)
  /-- TRANSLATE (R288). An XLATE_TOKEN write with OP TRANSLATE submits a pipeline record for translation. -/
  | translate (dt : Nat) (w : Nat) (token : Word)
  /-- EVICT (R289). An XLATE_TOKEN write with OP EVICT removes a key from the window's cache. -/
  | evict (dt : Nat) (w : Nat) (token : Word)
  /-- PUBLISH (R290). An XLATE_TOKEN write with OP PUBLISH from the PF translates into the shared cache. -/
  | publish (dt : Nat) (w : Nat) (token : Word)
  /-- XLATE_DONE (R286). A translation request completes; header fields are written, the fence signalled and the event written. -/
  | xlateDone (dt : Nat) (w : Nat) (v : Verdict) (hosts : List HostRun)
  /-- PASS_BEGIN (R312). A descriptor opens a render pass and AUTO chooses its mode. -/
  | passBegin (dt : Nat) (q : Nat) (hosts : List HostRun)
  /-- PASS_END (R313). A descriptor closes a render pass, rendering tiles and storing attachments. -/
  | passEnd (dt : Nat) (q : Nat) (hosts : List HostRun)
  /-- BIND_PIPELINE (R326). A descriptor binds a translated pipeline by its KEY. -/
  | bindPipeline (dt : Nat) (q : Nat) (hosts : List HostRun)
  /-- BIND_RESOURCES (R301). A descriptor binds a resource table to a set. -/
  | bindResources (dt : Nat) (q : Nat) (hosts : List HostRun)
  /-- BIND_INDEX (R306). A descriptor binds the index buffer. -/
  | bindIndex (dt : Nat) (q : Nat) (hosts : List HostRun)
  /-- BIND_VERTEX (R306). A descriptor binds a vertex buffer. -/
  | bindVertex (dt : Nat) (q : Nat) (hosts : List HostRun)
  /-- PUSH (R306). A descriptor sets 16 bytes of push constants. -/
  | push (dt : Nat) (q : Nat) (hosts : List HostRun)
  /-- SET_VIEWPORT (R306). A descriptor sets the viewport. -/
  | setViewport (dt : Nat) (q : Nat) (hosts : List HostRun)
  /-- SET_SCISSOR (R306). A descriptor sets the scissor. -/
  | setScissor (dt : Nat) (q : Nat) (hosts : List HostRun)
  /-- DRAW (R318). A descriptor draws non-indexed primitives in the open pass. -/
  | draw (dt : Nat) (q : Nat) (need : Nat) (tiles : List (Nat × Nat)) (hosts : List HostRun)
  /-- DRAW_INDEXED (R318). A descriptor draws indexed primitives in the open pass. -/
  | drawIndexed (dt : Nat) (q : Nat) (need : Nat) (tiles : List (Nat × Nat)) (hosts : List HostRun)
  /-- DRAW_INDIRECT (R306). A descriptor draws from indirect records. -/
  | drawIndirect (dt : Nat) (q : Nat) (need : Nat) (tiles : List (Nat × Nat)) (hosts : List HostRun)
  /-- TILE_POOL_GROWTH (R323). An asynchronous tile pool growth by one 2 MiB chunk completes. -/
  | tilePoolGrowth (dt : Nat) (q : Nat)
  /-- DISPATCH (R306). A descriptor runs a compute dispatch. -/
  | dispatch (dt : Nat) (q : Nat) (hosts : List HostRun)
  /-- DISPATCH_INDIRECT (R306). A descriptor runs a dispatch from an indirect record. -/
  | dispatchIndirect (dt : Nat) (q : Nat) (hosts : List HostRun)
  /-- CLEAR (R298). A descriptor clears a surface or the attachments of the open pass. -/
  | clear (dt : Nat) (q : Nat) (hosts : List HostRun)
  /-- COPY (R299). A descriptor copies bytes, ignoring flags. -/
  | copy (dt : Nat) (q : Nat) (hosts : List HostRun)
  /-- BARRIER (R307). A descriptor orders earlier stages before later ones. -/
  | barrier (dt : Nat) (q : Nat) (hosts : List HostRun)
  /-- FENCE_WAIT (R308). A descriptor holds later descriptors until a fence reaches a value. -/
  | fenceWait (dt : Nat) (q : Nat) (hosts : List HostRun)
  /-- FENCE_WAIT_RELEASE (R308). A waited fence reaches its value and the queue proceeds. -/
  | fenceWaitRelease (dt : Nat) (q : Nat) (hosts : List HostRun)
  /-- FENCE_SIGNAL (R308). A descriptor signals a fence once earlier descriptors complete and are visible. -/
  | fenceSignal (dt : Nat) (q : Nat) (hosts : List HostRun)
  /-- TIMESTAMP (R309). A QUERY descriptor writes device time after earlier descriptors complete. -/
  | timestamp (dt : Nat) (q : Nat) (hosts : List HostRun)
  /-- OCCLUSION_BEGIN (R309). A QUERY descriptor opens an occlusion count. -/
  | occlusionBegin (dt : Nat) (q : Nat) (hosts : List HostRun)
  /-- OCCLUSION_END (R309). A QUERY descriptor writes the occlusion sample count. -/
  | occlusionEnd (dt : Nat) (q : Nat) (hosts : List HostRun)
  /-- PASS_INFO (R309). A QUERY descriptor writes signature, cost and mode of the last pass. -/
  | passInfo (dt : Nat) (q : Nat) (hosts : List HostRun)
  /-- RESOLVE (R299). A descriptor rewrites clear and compressed blocks as raw. -/
  | resolve (dt : Nat) (q : Nat) (hosts : List HostRun)
  /-- DEADLINE (R336). A descriptor sets or removes the queue's active deadline. -/
  | deadline (dt : Nat) (q : Nat) (hosts : List HostRun)
  /-- DESCRIPTOR_COMPLETE (R308). Running work of a descriptor completes on the device. -/
  | descriptorComplete (dt : Nat) (q : Nat) (cnt : Nat) (k : Work) (hosts : List HostRun)
  /-- PREEMPTION_BOUNDARY (R334). Work on a cluster reaches a boundary or a cluster is freed and the scheduler picks the next queue. -/
  | preemptionBoundary (dt : Nat) (c : Nat)
  /-- CONTEXT_SAVED (R345). A pre-empted context's state is saved and it reads PREEMPTED. -/
  | contextSaved (dt : Nat) (q : Nat)
  /-- CONTEXT_RESTORED (R345). A pre-empted context is restored on a cluster. -/
  | contextRestored (dt : Nat) (q : Nat)
  /-- DEADLINE_MISSED (R339). A deadline instant passes before the queue meets it. -/
  | deadlineMissed (dt : Nat) (q : Nat)
  /-- WATCHDOG_FIRED (R347). A draw, tile or workgroup exceeds the watchdog limit and the queue faults with TIMEOUT. -/
  | watchdogFired (dt : Nat) (q : Nat) (cnt : Nat) (ranges : List (Nat × Nat)) (hosts : List HostRun)
  /-- FILL_LIMIT_EXPIRY (R348). A fill dispatch exceeds its cluster-time limit and is stopped. -/
  | fillLimitExpiry (dt : Nat) (q : Nat) (cnt : Nat) (ranges : List (Nat × Nat)) (hosts : List HostRun)
  /-- BUDGET_TICK (R350). Every 100 µs the budgeter measures, banks, grants classes, allots clusters and chooses operating points. -/
  | budgetTick (dt : Nat) (m : BudgetIn)
  /-- SAFE_BUDGETING (R367). The budgeter misses a tick and safe budgeting begins. -/
  | safeBudgeting (dt : Nat)
  /-- DERATING_END (R351). The 10 s cold-start derating of P_thermal ends. -/
  | deratingEnd (dt : Nat)
  /-- BUDGET_CAP_WRITE (R365). A write of BUDGET_CAP is clamped to the variant limits and taken at the next tick. -/
  | budgetCapWrite (dt : Nat) (r : Req) (v : Word)
  /-- AUDIO_DOMAIN_ENABLE (R377). A write of AUDIO_DOM_CTRL.ENABLE = 1 checks and starts a clock domain. -/
  | audioDomainEnable (dt : Nat) (r : Req) (d : Nat) (v : Word)
  /-- AUDIO_DOMAIN_DISABLE (R377). A write of ENABLE = 0 stops a domain at its next sample boundary. -/
  | audioDomainDisable (dt : Nat) (r : Req) (d : Nat) (v : Word)
  /-- AUDIO_DOM_CTRL_WRITE (R377). A write of RATE, SRC or SRC_INDEX, ignored with BAD_STATE while enabled. -/
  | audioDomCtrlWrite (dt : Nat) (r : Req) (d : Nat) (v : Word)
  /-- SAMPLE_BOUNDARY (R379). A domain computes one sample: inputs, chains, matrix, streams, players and changeovers. -/
  | sampleBoundary (dt : Nat) (d : Nat) (pins : List (Nat × Word)) (hosts : List HostRun)
  /-- AUDIO_SOURCE_LOST (R375). A domain's TDM or AVTP clock source is lost or off frequency and it enters holdover. -/
  | audioSourceLost (dt : Nat) (d : Nat)
  /-- DOMAIN_LOCK (R375). A domain's source has been valid for 100 ms and it leaves holdover. -/
  | domainLock (dt : Nat) (d : Nat) (ppm : Word)
  /-- AUDIO_MAP_WRITE (R378). A write of a port, AVTP or player map, refused on overlap or domain mismatch. -/
  | audioMapWrite (dt : Nat) (r : Req) (k : Nat) (v : Word)
  /-- AUDIO_SWAP_GO (R388). AUDIO_SWAP.GO = 1 starts checking the shadow bank. -/
  | audioSwapGo (dt : Nat) (r : Req) (v : Word)
  /-- SWAP_CHECK_DONE (R388). The shadow bank check ends, failing or arming the changeover. -/
  | swapCheckDone (dt : Nat) (hosts : List HostRun)
  /-- SWAP_DONE (R391). The new active bank is copied to the shadow; STATE is IDLE and ACTIVE toggles. -/
  | swapDone (dt : Nat)
  /-- AUDIO_PATH_SEL_WRITE (R393). A write of AUDIO_PATH_SEL loads the latency of that path. -/
  | audioPathSelWrite (dt : Nat) (r : Req) (v : Word)
  /-- PLAYER_TRIGGER (R386). PLAYER_CTRL.TRIGGER starts or restarts a sample player at the next boundary. -/
  | playerTrigger (dt : Nat) (r : Req) (n : Nat)
  /-- PLAYER_STOP (R385). PLAYER_CTRL.STOP stops a sample player. -/
  | playerStop (dt : Nat) (r : Req) (n : Nat)
  /-- STREAM_RUN (R400). A write of STREAM_CTRL.RUN starts or stops a guest stream. -/
  | streamRun (dt : Nat) (w : Nat) (sl : Nat) (v : Word)
  /-- TDM_CLK_LOST (R394). A slave TDM port's frame clock is absent or off-rate and its inputs read 0. -/
  | tdmClkLost (dt : Nat) (p : Nat)
  /-- SWR_CMD (R395). A write of SWR_CMD issues a SoundWire register access served between frames. -/
  | swrCmd (dt : Nat) (r : Req) (m : Nat) (v : Word)
  /-- AVTP_TALKER_INTERVAL (R396). A talker's class interval forms one AVTP packet with capture time plus TRANSIT_NS. -/
  | avtpTalkerInterval (dt : Nat) (i : Nat)
  /-- AVTP_STREAM (R396). A listener has no packet for 2 class intervals and outputs 0. -/
  | avtpStream (dt : Nat) (i : Nat)
  /-- TBLK_ENABLE (R411). A write of TBLK_CTRL.ENABLE = 1 checks and starts a sense block. -/
  | tblkEnable (dt : Nat) (r : Req) (b : Nat) (v : Word)
  /-- SCAN_START (R408). A sense block starts a scan at its phase instant, normal or hop, skipping if a hop scan runs. -/
  | scanStart (dt : Nat) (b : Nat)
  /-- SCAN_MEASURE_END (R408). The measure phase ends; the engine evaluates signals, states, zones and reflex bindings. -/
  | scanMeasureEnd (dt : Nat) (b : Nat) (readings : List Nat) (noise : List Nat) (survey : List Nat) (ns : Nat)
  /-- TEL_THRESH_WRITE (R415). A write of TEL_THRESH, storing RELEASE_TH no higher than TOUCH_TH. -/
  | telThreshWrite (dt : Nat) (r : Req) (e : Nat) (v : Word)
  /-- TEL_CTRL_WRITE (R425). A write of TEL_CTRL, OWNER ignored while the electrode is in a zone. -/
  | telCtrlWrite (dt : Nat) (r : Req) (e : Nat) (v : Word)
  /-- WAKE_SCAN (R431). The AON wake scanner scans its armed electrodes every PERIOD_MS. -/
  | wakeScan (dt : Nat) (readings : List Nat)
  /-- HL_PULSE_END (R464). HL_MS after a PULSE action the layer's reflex highlight flag clears. -/
  | hlPulseEnd (dt : Nat) (i : Nat)
  /-- HAP_ENABLE (R439). A write of HAP_CTRL.ENABLE = 1 checks and enables a haptic channel. -/
  | hapEnable (dt : Nat) (r : Req) (c : Nat) (v : Word)
  /-- HAP_DISABLE (R438). A write of HAP_CTRL.ENABLE = 0 turns a channel off and clears FAULT and FB_LOST. -/
  | hapDisable (dt : Nat) (r : Req) (c : Nat) (v : Word)
  /-- HSLOT_PLAY (R451). HSLOT_PLAY.PLAY triggers a slot, admitted, made pending or refused. -/
  | hslotPlay (dt : Nat) (w : Nat) (k : Nat)
  /-- HSLOT_STOP (R451). HSLOT_PLAY.STOP sends the slot's effect to BRAKE. -/
  | hslotStop (dt : Nat) (w : Nat) (k : Nat)
  /-- HAP_CAL (R454). HAP_CMD.CAL runs a full resonance sweep on an IDLE channel. -/
  | hapCal (dt : Nat) (r : Req) (c : Nat)
  /-- HAP_STOP (R469). HAP_CMD.STOP sends a running effect to BRAKE. -/
  | hapStop (dt : Nat) (r : Req) (c : Nat)
  /-- HAP_LIB_COMMIT (R443). A write to word 7 of a library entry puts the whole entry into force. -/
  | hapLibCommit (dt : Nat) (r : Req) (k : Nat) (v : Word)
  /-- HAP_CONTROL_PERIOD (R446). A 48 kHz control period runs the loop, phase changes and triggers taken. -/
  | hapControlPeriod (dt : Nat) (c : Nat) (amp : Nat) (freq : Nat)
  /-- HAP_SHORT (R438). Output current exceeds the short limit; the output is disabled and the channel enters FAULT. -/
  | hapShort (dt : Nat) (c : Nat)
  /-- ACCEL_READ (R441). The accelerometer sample is read at ODR; three failures change feedback to BEMF. -/
  | accelRead (dt : Nat) (c : Nat) (v : Option Word)
  /-- CAL_DONE (R452). A channel's calibration ends, successful or FAULT. -/
  | calDone (dt : Nat) (c : Nat) (near : Nat) (low : Bool) (peak : Bool) (f0 : Nat) (rc : Nat) (l : Nat) (k : Nat)
  /-- HAP_BIN_BOUNDARY (R456). At each 10 ms bin boundary drive time is counted and the pending trigger rechecked. -/
  | hapBinBoundary (dt : Nat) (c : Nat)
  /-- HAPTIC_DROPPED (R457). A pending trigger still waits WAIT_MS after arrival and is discarded. -/
  | hapticDropped (dt : Nat) (c : Nat)
  /-- HAP_REST_END (R458). A channel's REST_MS rest ends. -/
  | hapRestEnd (dt : Nat) (c : Nat)
  /-- COIL_MODEL_UPDATE (R459). Every 1 ms the coil temperature model is updated. -/
  | coilModelUpdate (dt : Nat) (c : Nat) (irms : Nat) (amb : Word)
  /-- CREATE_VI (R481). A VIMGR command binds a free VI to a link and VF. -/
  | createVi (dt : Nat) (r : Req) (v : Nat) (ext : Option Bytes)
  /-- DESTROY_VI (R482). A VIMGR command resets a VI, returns its grants and frees it. -/
  | destroyVi (dt : Nat) (r : Req) (v : Nat) (ext : Option Bytes)
  /-- GRANT (R484). A VIMGR command sets a range, count, share, bitmap or role grant of a VI. -/
  | grant (dt : Nat) (r : Req) (v : Nat) (ext : Option Bytes)
  /-- RESET_VI (R492). A VIMGR command resets a VI. -/
  | resetVi (dt : Nat) (r : Req) (v : Nat) (ext : Option Bytes)
  /-- VI_RESET_DONE (R492). A VI reset drains all old-generation operations and destroys its channels. -/
  | viResetDone (dt : Nat) (v : Nat)
  /-- FREEZE (R495). A VIMGR command quiesces a VI. -/
  | freeze (dt : Nat) (r : Req) (v : Nat) (ext : Option Bytes)
  /-- FREEZE_COMPLETE (R495). No context of the freezing VI holds a cluster and no request is in flight; it reads FROZEN. -/
  | freezeComplete (dt : Nat) (v : Nat)
  /-- VI_FREEZE_TIMEOUT (R495). A FREEZE not complete within FREEZE_US completes with TIMEOUT and the VI is ACTIVE again. -/
  | viFreezeTimeout (dt : Nat) (v : Nat)
  /-- THAW (R496). A VIMGR command returns a frozen VI to ACTIVE, retranslating pipelines if needed. -/
  | thaw (dt : Nat) (r : Req) (v : Nat) (ext : Option Bytes)
  /-- THAW_RETRANSLATION_DONE (R496). Every retranslation of a restored VI ends and the THAW completes. -/
  | thawRetranslationDone (dt : Nat) (v : Nat) (vs : List Verdict) (hosts : List HostRun)
  /-- SAVE (R497). A VIMGR command writes the state image of a frozen VI. -/
  | save (dt : Nat) (r : Req) (v : Nat) (ext : Option Bytes)
  /-- SAVE_COMPLETE (R497). The state image has been written. -/
  | saveComplete (dt : Nat) (v : Nat)
  /-- RESTORE (R498). A VIMGR command reads and checks an image into a frozen VI. -/
  | restore (dt : Nat) (r : Req) (v : Nat) (ext : Option Bytes)
  /-- RESTORE_COMPLETE (R498). An image restore ends, recreating channels or failing in check order. -/
  | restoreComplete (dt : Nat) (v : Nat) (ext : Option Bytes)
  /-- COPY_OUT (R479). A VIMGR command copies VI local memory to a destination. -/
  | copyOut (dt : Nat) (r : Req) (v : Nat) (ext : Option Bytes)
  /-- COPY_IN (R479). A VIMGR command copies into a frozen VI's local memory. -/
  | copyIn (dt : Nat) (r : Req) (v : Nat) (ext : Option Bytes)
  /-- VI_COPY_COMPLETE (R479). A COPY_OUT or COPY_IN finishes its DMA. -/
  | viCopyComplete (dt : Nat) (v : Nat) (hosts : List HostRun)
  /-- DIRTY_CTRL (R503). A VIMGR command turns dirty logging on or off and zeroes the bitmaps. -/
  | dirtyCtrl (dt : Nat) (r : Req) (v : Nat) (ext : Option Bytes)
  /-- DIRTY_HARVEST (R506). A VIMGR command copies and clears part of the dirty bitmap. -/
  | dirtyHarvest (dt : Nat) (r : Req) (v : Nat) (ext : Option Bytes)
  /-- FUNCTION_LEVEL_RESET (R476). A PCIe function-level reset of a VF resets its VI. -/
  | functionLevelReset (dt : Nat) (l : Nat) (vf : Nat)
  /-- VF_ENABLE_CLEARED (R476). VF Enable cleared on a link resets every VI bound there. -/
  | vfEnableCleared (dt : Nat) (l : Nat)
  /-- BUS_MASTER_ENABLE_CHANGE (R476). Bus Master Enable of a VF clears or sets, faulting or allowing host accesses. -/
  | busMasterEnableChange (dt : Nat) (l : Nat) (vf : Nat) (on : Bool)
  /-- PCIE_LINK_DOWN (R476). A host link goes down and every VI bound to it is reset. -/
  | pcieLinkDown (dt : Nat) (l : Nat)
  /-- PCIE_LINK_UP (R509). A host link comes up. -/
  | pcieLinkUp (dt : Nat) (l : Nat)
  /-- WORLD_HART_WRITE (R511). A hart writes WORLD_HART to change its world, faulting from the normal world. -/
  | worldHartWrite (dt : Nat) (h : Nat) (machine : Bool) (secure : Bool)
  /-- RC_ENTRY_COMMIT (R515). A write to word 7 of a region entry checks it and puts all words into force. -/
  | rcEntryCommit (dt : Nat) (r : Req) (c : Nat) (e : Nat) (v : Word)
  /-- HULL_CREATE (R520). A hart's HULL_CMD CREATE takes a hull number and entry and zeroes the range. -/
  | hullCreate (dt : Nat) (r : Req)
  /-- HULL_ADD (R522). HULL_CMD ADD copies a page into a building hull and extends its measurement. -/
  | hullAdd (dt : Nat) (r : Req)
  /-- HULL_SEAL (R522). HULL_CMD SEAL finishes the measurement. -/
  | hullSeal (dt : Nat) (r : Req)
  /-- HULL_ENTER (R523). HULL_CMD ENTER starts or resumes a hart in a sealed hull. -/
  | hullEnter (dt : Nat) (r : Req) (ret : Nat)
  /-- HULL_EXIT (R523). HULL_CMD EXIT returns the hart from the hull with registers cleared. -/
  | hullExit (dt : Nat) (r : Req) (x10 : Nat) (x11 : Nat)
  /-- HULL_ASYNC_EXIT (R523). An interrupt or unhandled trap in a hull saves the hart to its slot and exits with HULL_EXIT. -/
  | hullAsyncExit (dt : Nat) (h : Nat) (cause : Nat) (pc : Nat) (xs : List Nat)
  /-- HULL_WINDOW_OPEN (R524). HULL_CMD WINDOW_OPEN takes an entry as a window of the hull. -/
  | hullWindowOpen (dt : Nat) (r : Req)
  /-- HULL_WINDOW_CLOSE (R524). HULL_CMD WINDOW_CLOSE disables a window. -/
  | hullWindowClose (dt : Nat) (r : Req)
  /-- WINDOW_CLOSE_DRAINED (R524). Requests checked before a window close complete and the command completes. -/
  | windowCloseDrained (dt : Nat) (c : Nat) (e : Nat)
  /-- HULL_REPORT (R526). HULL_CMD REPORT writes a signed attestation report. -/
  | hullReport (dt : Nat) (r : Req)
  /-- HULL_DESTROY (R525). HULL_CMD DESTROY closes windows and starts zeroing the hull. -/
  | hullDestroy (dt : Nat) (r : Req)
  /-- HULL_DESTROY_DONE (R525). Zeroing of a destroyed hull ends and it is EMPTY. -/
  | hullDestroyDone (dt : Nat) (k : Nat)
  /-- DEBUG_TOKEN_SUBMIT (R530). WORLD_DBG_CMD.SUBMIT checks a debug token and adds its enables. -/
  | debugTokenSubmit (dt : Nat) (r : Req)
  /-- DEBUG_REVOKE (R530). WORLD_DBG_CMD.REVOKE withdraws token enables and ends debug sessions. -/
  | debugRevoke (dt : Nat) (r : Req)
  /-- CLAIM_TAKE (R531). WORLD_CLAIM_CMD TAKE sets a claim to HELD. -/
  | claimTake (dt : Nat) (r : Req) (u : Nat)
  /-- CLAIM_RELEASE (R531). WORLD_CLAIM_CMD RELEASE sets a claim to NONE. -/
  | claimRelease (dt : Nat) (r : Req) (u : Nat)
  /-- CLAIM_REARM (R531). WORLD_CLAIM_CMD REARM sets a LOST claim to HELD. -/
  | claimRearm (dt : Nat) (r : Req) (u : Nat)
  /-- CLAIM_LOST (R534). 1 ms after a trip the claimed units stop and their claims read LOST. -/
  | claimLost (dt : Nat) (d : Nat)
  /-- POWER_DOM_CTRL_WRITE (R540). A write of a domain's FLOOR, AUTO or IDLE_US changes its requested state. -/
  | powerDomCtrlWrite (dt : Nat) (r : Req) (d : Nat) (v : Word)
  /-- DOMAIN_AUTO_DROP (R541). A domain idle for IDLE_US drops to its AUTO state. -/
  | domainAutoDrop (dt : Nat) (d : Nat) (idle : Nat) (waits : Bool)
  /-- DOMAIN_RAMP_START (R542). The next waiting domain begins its switch ramp. -/
  | domainRampStart (dt : Nat) (work : List Nat)
  /-- DOMAIN_POWER_GOOD (R544). A ramping domain's rail reaches power-good; isolation and reset release follow. -/
  | domainPowerGood (dt : Nat) (d : Nat)
  /-- DOMAIN_ON (R544). A raised domain's PLLs lock and it reads ON. -/
  | domainOn (dt : Nat) (x : DomainUp)
  /-- DOMAIN_FAULT (R544). Power-good is not reached in time; the domain stays OFF with its units in FAULT. -/
  | domainFault (dt : Nat) (d : Nat)
  /-- DOMAIN_FAULT_RETRY (R608). 10 ms after a domain fault the Husk raises the domain again. -/
  | domainFaultRetry (dt : Nat) (d : Nat)
  /-- VR_PHASE_UPDATE (R548). Every 10 µs the controller sets the active phase count of each rail. -/
  | vrPhaseUpdate (dt : Nat) (rail : Nat) (amps : Nat) (mv : Nat) (phases : List PhaseIn)
  /-- STAGE_OVERTEMP (R549). A power stage exceeds STAGE_TMAX and its phase is shed HOT. -/
  | stageOvertemp (dt : Nat) (p : Nat) (temp : Nat)
  /-- VR_SENSE_LOST (R549). A phase's current sense is out of range for 3 cycles and the phase is disabled. -/
  | vrSenseLost (dt : Nat) (p : Nat)
  /-- SUPPLY_DROOP (R549). A rail falls 6 % below target and clocks are stretched. -/
  | supplyDroop (dt : Nat) (rail : Nat) (mv : Nat)
  /-- RAIL_OVER_VOLTAGE (R549). A rail exceeds target + 12 % and all its phases and domains are shut off. -/
  | railOverVoltage (dt : Nat) (rail : Nat) (mv : Nat)
  /-- VR_CTRL_CLEAR (R549). A secure write of VR_CTRL.CLEAR allows a rail shut by over-voltage to restart. -/
  | vrCtrlClear (dt : Nat) (r : Req) (v : Word)
  /-- RAIL_RECOVERY (R608). 100 ms after an over-voltage the Husk clears the rail and restarts its domains. -/
  | railRecovery (dt : Nat) (rail : Nat)
  /-- SENSOR_READ (R553). Every 20 µs the sensors are read; domains are capped or tripped by level. -/
  | sensorRead (dt : Nat) (readings : List (Int × Nat))
  /-- THERMAL_CLEAR (R556). A tripped domain stays below T_LIMIT − 5 °C for 100 ms and TRIPPED clears. -/
  | thermalClear (dt : Nat) (d : Nat)
  /-- CRITICAL_TEMPERATURE (R557). The critical level is reached; all but AON lose power and THERMTRIP_N goes low. -/
  | criticalTemperature (dt : Nat) (analog : Option Int)
  /-- THERMTRIP_RELEASE (R557). The analog sensor reads below T_LIMIT − 5 °C for 1 s; THERMTRIP_N releases and a cold start runs. -/
  | thermtripRelease (dt : Nat) (highest : Int)
  /-- REFERENCE_LOST (R561). The 38.4 MHz reference stops or drifts and PLLs move to the internal oscillator. -/
  | referenceLost (dt : Nat) (cause : Nat) (ppm : Nat)
  /-- REFERENCE_OK (R561). The reference is good again and REF_OK is set. -/
  | referenceOk (dt : Nat) (ppm : Nat)
  /-- CLOCK_RETURN (R561). A secure write of POWER_CLK_CTRL.RETURN moves PLLs back to the reference. -/
  | clockReturn (dt : Nat) (r : Req) (v : Word)
  /-- SLOW_CLOCK_LOST (R561). The 32.768 kHz crystal stops and AON takes its slow clock from the reference. -/
  | slowClockLost (dt : Nat)
  /-- SLOW_CLOCK_RETURN (R561). The 32.768 kHz crystal runs within tolerance for 100 ms and SLOW_OK is set. -/
  | slowClockReturn (dt : Nat)
  /-- SLEEP_REQUEST (R562). POWER_SLEEP.GO = 1 is checked and starts sleep entry. -/
  | sleepRequest (dt : Nat) (r : Req) (v : Word)
  /-- SLEEP_ENTERED (R563). Domains are off, Husks retained, the reference stopped and RAIL_EN low. -/
  | sleepEntered (dt : Nat)
  /-- WAKE_PIN (R564). WAKE_IN_N is low for 10 µs and wakes the device. -/
  | wakePin (dt : Nat)
  /-- WAKE_TIME (R564). Device time reaches POWER_WAKE_TIME and wakes the device. -/
  | wakeTime (dt : Nat)
  /-- RAILS_OK_RISE (R697). RAILS_OK rises during a wake and the reference restarts for the warm start. -/
  | railsOkRise (dt : Nat)
  /-- PWRGOOD_RISE (R583). PWRGOOD rises and a cold start begins. -/
  | pwrgoodRise (dt : Nat) (flash : Option FlashIn)
  /-- PWRGOOD_FALL (R695). PWRGOOD falls; VR_ENp go low and all but AON are held in reset. -/
  | pwrgoodFall (dt : Nat)
  /-- VDD_SAFE_LOSS (R611). VDD_SAFE falls below threshold and every domain but AON is held in reset. -/
  | vddSafeLoss (dt : Nat)
  /-- VDD_SAFE_RETURN (R611). VDD_SAFE returns and a cold start runs. -/
  | vddSafeReturn (dt : Nat)
  /-- START_TIMEOUT (R580). A cold start not at FULL within 2 s marks its slot TRIED_BAD and resets the device. -/
  | startTimeout (dt : Nat) (hosts : List HostRun)
  /-- PIP_FIRST_HANDOVER (R584). Once the Seedbank serves, a Pip-first output reserves its frame store and switches to it. -/
  | pipFirstHandover (dt : Nat) (p : Nat) (hosts : List HostRun)
  /-- START_FULL (R583). The start reaches PHASE FULL and START_T_FULL is loaded. -/
  | startFull (dt : Nat)
  /-- PSET_WRITE_DUE (R592). MIN_S after the first change the persistent settings are written to the inactive slot. -/
  | psetWriteDue (dt : Nat)
  /-- RECORDER_FLUSH (R675). Every 15 min the recorder slots are written to the inactive slot's recorder area. -/
  | recorderFlush (dt : Nat)
  /-- NVM_WRITE (R593). An area write completes, or fails with NVM_FAULT. -/
  | nvmWrite (dt : Nat) (ok : Bool)
  /-- CONFIRM (R600). START_CMD CONFIRM burns the fused rollback level up to the active slot's. -/
  | confirm (dt : Nat) (r : Req)
  /-- SHUTDOWN (R595). START_CMD SHUTDOWN stops new work and writes both areas. -/
  | shutdown (dt : Nat) (r : Req)
  /-- SHUTDOWN_DONE (R595). The shutdown writes end and PHASE reads SHUTDOWN_DONE. -/
  | shutdownDone (dt : Nat)
  /-- PSET_FLUSH (R592). START_CMD PSET_FLUSH writes the persistent settings now. -/
  | psetFlush (dt : Nat) (r : Req)
  /-- START_CMD_RESTART (R582). START_CMD RESTART starts the device again. -/
  | startCmdRestart (dt : Nat) (r : Req)
  /-- CLEAR_MARKS (R580). START_CMD CLEAR_MARKS clears the TRIED_BAD marks. -/
  | clearMarks (dt : Nat) (r : Req)
  /-- HOST_OWN_WRITE (R594). A write of START_NVM_CTRL.HOST_OWN takes or releases the flash; release writes both areas within 1 s. -/
  | hostOwnWrite (dt : Nat) (r : Req) (v : Word)
  /-- NVM_ERASE (R594). START_NVM_CMD ERASE erases flash blocks, checked by region controller 3. -/
  | nvmErase (dt : Nat) (r : Req) (len : Nat)
  /-- NVM_PROGRAM (R594). START_NVM_CMD PROGRAM writes flash from the buffer. -/
  | nvmProgram (dt : Nat) (r : Req) (len : Nat)
  /-- NVM_READ (R594). START_NVM_CMD READ reads flash into the buffer. -/
  | nvmRead (dt : Nat) (r : Req) (len : Nat)
  /-- NVM_CMD_DONE (R594). A manager flash command completes. -/
  | nvmCmdDone (dt : Nat) (ok : Bool) (hosts : List HostRun)
  /-- LOAD (R597). START_UPD_CMD LOAD reads and checks an update package into inactive on-die slots. -/
  | load (dt : Nat) (r : Req) (u : Nat)
  /-- UPDATE_LOADED (R597). A package load completes and UIF_SLOT_VER changes. -/
  | updateLoaded (dt : Nat) (hosts : List HostRun)
  /-- ACTIVATE (R598). START_UPD_CMD ACTIVATE hands a unit over to its other slot at its hand-over point. -/
  | activate (dt : Nat) (r : Req) (u : Nat)
  /-- REVERT (R597). START_UPD_CMD REVERT hands a unit back to the slot run before. -/
  | revert (dt : Nat) (r : Req) (u : Nat)
  /-- HANDOVER_DONE (R598). New firmware reports ready and the hand-over ends. -/
  | handoverDone (dt : Nat) (pause : Nat)
  /-- UPDATE_FAILED (R597). New firmware is not ready within the pause and the unit returns to its previous slot. -/
  | updateFailed (dt : Nat)
  /-- MOVE (R599). START_UPD_CMD MOVE has a spare pipe take over a running pipe. -/
  | move (dt : Nat) (r : Req) (u : Nat)
  /-- SPARE_LOCK_TIMEOUT (R599). A spare not locked within 1 s takes the port at the next latch point anyway. -/
  | spareLockTimeout (dt : Nat)
  /-- HUSK_HEARTBEAT (R605). A running Husk sends its beat at a whole millisecond. -/
  | huskHeartbeat (dt : Nat) (b : Nat)
  /-- HUSK_BEAT_MISSED (R605). A beat window closes without a beat; partners restart after 3 or 4 misses. -/
  | huskBeatMissed (dt : Nat) (b : Nat) (hosts : List HostRun)
  /-- HUSK_LOCKSTEP_MISMATCH (R604). A Husk's cores disagree and it halts. -/
  | huskLockstepMismatch (dt : Nat) (b : Nat)
  /-- UNIT_FAULT (R608). A unit's UIF_HEALTH.STATE reads FAULT, including a bus error to a core. -/
  | unitFault (dt : Nat) (u : Nat) (why : Nat)
  /-- HUSK_UNIT_RECOVERY (R607). Within 1 ms of a unit fault a running Husk resets it or gives up. -/
  | huskUnitRecovery (dt : Nat) (u : Nat)
  /-- MANAGER_BEAT_MISSED (R608). The manager firmware misses 10 beats and all four cores are reset. -/
  | managerBeatMissed (dt : Nat)
  /-- DEGRADED_RETRY (R616). The retry time elapses and the Husks are released to return to full service. -/
  | degradedRetry (dt : Nat)
  /-- PIP_BEAT_MISSED (R615). In degraded mode the Pip lane misses 5 beats and is reset, or outputs stop on a second loss. -/
  | pipBeatMissed (dt : Nat)
  /-- PIP_LOCKSTEP_MISMATCH (R619). The Pip lane's cores disagree and a Husk restarts it. -/
  | pipLockstepMismatch (dt : Nat) (store : Bool)
  /-- PIP_RELOAD_DONE (R619). PIP_FW and PIP_SPRITES are reloaded after a Pip store error and sprites show again. -/
  | pipReloadDone (dt : Nat)
  /-- PIP_LIST_COMMIT (R617). PIP_LIST_CTRL.COMMIT captures a sprite list for the next latch point. -/
  | pipListCommit (dt : Nat) (r : Req) (p : Nat) (v : Word) (hosts : List HostRun)
  /-- PIP_REPLACE_WRITE (R221). A write of PIP_LIST_CTRL.REPLACE sets or clears REPLACE from the next line. -/
  | pipReplaceWrite (dt : Nat) (r : Req) (p : Nat) (on : Bool) (hosts : List HostRun)
  /-- ICVIK_PORT_ENABLE (R629). ICVIK_PORT_CTRL.ENABLE = 1 starts training a port. -/
  | icvikPortEnable (dt : Nat) (r : Req) (p : Nat) (v : Word)
  /-- ICVIK_TRAINING_DONE (R629). Port training ends at the best working lane count. -/
  | icvikTrainingDone (dt : Nat) (p : Nat) (lanes : Nat)
  /-- ICVIK_PORT_TIMEOUT (R629). No valid flit arrives for 4 µs and the port goes down and retrains. -/
  | icvikPortTimeout (dt : Nat) (p : Nat)
  /-- FLIT_RECEIVE (R628). A flit arrives; a CRC failure discards it and later flits until replay. -/
  | flitReceive (dt : Nat) (p : Nat) (flit : Bytes) (nak : Bool)
  /-- HELLO (R630). A HELLO flit joins a device, refuses it, or changes the root. -/
  | hello (dt : Nat) (p : Nat) (h : Hello)
  /-- TIME_FLIT (R637). A TIME flit updates link delay and offset and device time is slewed or stepped. -/
  | timeFlit (dt : Nat) (p : Nat) (got : Nat) (sent : Nat)
  /-- TIME_FLIT_SEND (R637). Every 1 ms each side sends a TIME flit. -/
  | timeFlitSend (dt : Nat) (p : Nat)
  /-- BEAT (R633). A BEAT flit from a node's Husk is received. -/
  | beat (dt : Nat) (n : Nat)
  /-- BEAT_SEND (R633). Every 1 ms each Husk sends a BEAT flit to every joined device. -/
  | beatSend (dt : Nat)
  /-- NODE_LOST (R633). No beat from a node for 10 ms; it reads LOST and its imports become LOST. -/
  | nodeLost (dt : Nat) (n : Nat)
  /-- ROUTE_UPDATE (R632). After a port change every device installs new routes and replaces reservations. -/
  | routeUpdate (dt : Nat) (edges : List PortEdge) (misfit : List Nat)
  /-- CONTROL (R628). A CONTROL message is received and checked end to end. -/
  | icvControl (dt : Nat) (p : Nat) (src : Nat) (tag : Nat) (msg : CtlMsg) (crcOk : Bool)
  /-- CONTROL_RETRY (R628). An unacknowledged CONTROL message is sent again after 1 ms, or its request times out. -/
  | controlRetry (dt : Nat) (tag : Nat)
  /-- READ (R643). A remote READ request is served at the source memory under its region controller. -/
  | icvRead (dt : Nat) (src : Nat) (tag : Nat) (e : Nat) (off : Nat) (len : Nat)
  /-- PIXEL (R643). A PIXEL flit returns remote read data to the requesting engine. -/
  | icvPixel (dt : Nat) (i : Nat) (off : Nat) (bs : Bytes)
  /-- RACC_READ (R635). RACC_CMD with WRITE = 0 reads PF BAR0 of another node. -/
  | raccRead (dt : Nat) (r : Req) (v : Word)
  /-- RACC_WRITE (R635). RACC_CMD with WRITE = 1 writes PF BAR0 of another node. -/
  | raccWrite (dt : Nat) (r : Req) (v : Word)
  /-- RACC_DONE (R635). A remote access completes or reads TIMEOUT after 5 ms. -/
  | raccDone (dt : Nat) (answer : Option (Bool × Word))
  /-- POD_REF_APPLY (R640). A root write of POD_REF_CTRL.APPLY sends new frame reference values to all devices. -/
  | podRefApply (dt : Nat) (r : Req) (k : Nat)
  /-- POD_REF_ACTIVATE (R640). Device time reaches POD_REF_AT and the new reference values take force. -/
  | podRefActivate (dt : Nat) (k : Nat)
  /-- IMPORT_OPEN (R642). IMP_CTRL.EN = 1 asks the source node for an export. -/
  | importOpen (dt : Nat) (r : Req) (i : Nat) (v : Word)
  /-- IMPORT_OPEN_DONE (R642). An import request completes, mapping and reserving, or failing. -/
  | importOpenDone (dt : Nat) (i : Nat) (answer : Option Nat) (chunks : Nat) (room : Bool)
  /-- IMPORT_CLOSE (R642). IMP_CTRL.EN = 0 unmaps an import and releases reservations. -/
  | importClose (dt : Nat) (r : Req) (i : Nat) (v : Word)
  /-- TSN_ENABLE (R659). A write of TSN_CTRL.ENABLE enables a MAC or disables it, discarding rings and the operational gate list. -/
  | tsnEnable (dt : Nat) (r : Req) (m : Nat) (v : Word)
  /-- TSN_LINK (R659). USXGMII auto-negotiation reports link up or down. -/
  | tsnLink (dt : Nat) (m : Nat) (up : Bool) (rate : Nat)
  /-- TSN_FRAME_TX (R650). At a frame boundary the MAC sends from the highest eligible traffic class, checking talker frames. -/
  | tsnFrameTx (dt : Nat) (m : Nat) (hosts : List HostRun)
  /-- TSN_FRAME_RX (R657). A received frame is routed to gPTP, a listener, the PF ring or dropped. -/
  | tsnFrameRx (dt : Nat) (m : Nat) (frame : Bytes) (ptp : Option PtpIn) (avtp : Option AvtpIn) (hosts : List HostRun)
  /-- GCL_APPLY (R652). TSN_GCL_CTRL.APPLY checks and copies the administrative gate list. -/
  | gclApply (dt : Nat) (r : Req) (m : Nat)
  /-- TSN_GCL_SWITCH (R652). At the chosen cycle start the pending list becomes operational. -/
  | tsnGclSwitch (dt : Nat) (m : Nat)
  /-- PTP_SYNC_LOSS (R653). No sync for 3 intervals puts the gPTP port in holdover. -/
  | ptpSyncLoss (dt : Nat) (m : Nat)
  /-- TSN_TXR_DOORBELL (R655). A transmit ring doorbell gives descriptors written. -/
  | tsnTxrDoorbell (dt : Nat) (r : Req) (m : Nat) (v : Word)
  /-- TSN_RXR_DOORBELL (R655). A receive ring doorbell gives descriptors made available. -/
  | tsnRxrDoorbell (dt : Nat) (r : Req) (m : Nat) (v : Word)
  /-- TSN_RING_ENABLE (R655). A write of TSN_TXR_CTRL or TSN_RXR_CTRL.ENABLE enables a PF frame ring by the rules of ring enabling. -/
  | tsnRingEnable (dt : Nat) (r : Req) (m : Nat) (rx : Bool) (v : Word)
  /-- TSN_MDIO_CMD (R661). A write of TSN_MDIO_CMD issues an MDIO request. -/
  | tsnMdioCmd (dt : Nat) (r : Req) (m : Nat) (v : Word)
  /-- MDIO_DONE (R661). An MDIO request completes and BUSY clears. -/
  | mdioDone (dt : Nat) (m : Nat) (data : Nat)
  /-- REC_APPLY (R667). Once per millisecond staged values are applied to a recorder slot. -/
  | recApply (dt : Nat) (n : Nat)
  /-- REC_CLEAR (R670). REC_CMD or REC_VIEW_CMD CLEAR empties a recorder slot. -/
  | recClear (dt : Nat) (r : Req) (view : Bool) (v : Word)
  /-- REC_SLOT_CFG_WRITE (R672). A secure write changing REC_SLOT_CFG empties the slot as a clear. -/
  | recSlotCfgWrite (dt : Nat) (r : Req) (n : Nat) (v : Nat)
  /-- CNT_VALUE_WRITE (R680). A high-word write presets a counter. -/
  | cntValueWrite (dt : Nat) (r : Req) (i : Nat) (v : Nat) (inc : Nat)
  /-- COUNTER_WRAP (R680). A counter passes 2^64 − 1, wraps and sets WRAPPED. -/
  | counterWrap (dt : Nat) (i : Nat) (n : Nat)
  /-- SMP_ENABLE (R687). SMP_CTRL.ENABLE = 1 restarts a sampler's windows and ring counts. -/
  | smpEnable (dt : Nat) (r : Req) (m : Nat) (v : Word)
  /-- SMP_SEED_WRITE (R682). A write of SMP_SEED reloads the selectors' LFSR. -/
  | smpSeedWrite (dt : Nat) (r : Req) (m : Nat) (v : Word)
  /-- SAMPLE_RECORD (R684). A tagged instruction retires, completes or is squashed and one record is written. -/
  | sampleRecord (dt : Nat) (m : Nat) (g : Tagged)
  /-- STAGE_COOLED (R549). A power stage in HOT falls 10 °C below STAGE_TMAX and its phase becomes usable again. -/
  | stageCooled (dt : Nat) (p : Nat) (temp : Nat)
  /-- DROOP_END (R549). A drooping rail rises above target − 3 % and the clocks of its domains return to full frequency. -/
  | droopEnd (dt : Nat) (rail : Nat) (mv : Nat)
  /-- ZEROING_DONE (R74). Chunks in ZEROING after a VI reset, a frame-store release or a tile-pool release finish zeroing and return to the free pool. -/
  | zeroingDone (dt : Nat) (mem : Nat) (chunk : Nat)
  /-- RESET_WORK_STOP (R492). 1,500 µs after a VI reset is accepted, work of the VI that reached no boundary, priority 7 included, is stopped where it stands. -/
  | resetWorkStop (dt : Nat) (v : Nat)
  /-- TDM_CLK_RETURN (R394). A slave TDM/I2S port's frame clock returns at rate, CLK_LOST clears and its inputs carry data again. -/
  | tdmClkReturn (dt : Nat) (p : Nat)
  /-- SWR_CMD_DONE (R395). A SoundWire register access served between frames completes and CMD_RESULT and SWR_CMD_DATA are loaded. -/
  | swrCmdDone (dt : Nat) (m : Nat) (ok : Bool) (byte : Byte)
  /-- SWR_PERIPHERAL_ATTACH (R395). A SoundWire peripheral attaches to or detaches from its manager's bus and its bit in SWR_STATUS changes. -/
  | swrPeripheralAttach (dt : Nat) (m : Nat) (k : Nat) (on : Bool) (chIn : Nat) (chOut : Nat)
  /-- PTP_INTERVAL (R653). A gPTP sync, announce or peer-delay interval of a MAC elapses and the engine queues its message. -/
  | ptpInterval (dt : Nat) (m : Nat) (msg : Bytes) (ptp : Option PtpIn)
  /-- PPS_PULSE (R649). ETHm_PPS rises at each whole second of gPTP time and falls 10 ms later. -/
  | ppsPulse (dt : Nat) (m : Nat)
  /-- GATE_CONTROL_ENTRY (R652). The operational gate list moves to its next entry or next cycle, opening and closing traffic-class gates. -/
  | gateControlEntry (dt : Nat) (m : Nat)
  /-- NO_ROUTE_TIMEOUT (R643). A reissued remote read has found no route for 5 ms and faults by R76. -/
  | noRouteTimeout (dt : Nat) (i : Nat) (addr : Nat)
  /-- VDD_AON_LOSS (R696). VDD_AON or VDDIO18 falls below its range and the device is held in reset whatever PWRGOOD shows. -/
  | vddAonLoss (dt : Nat)
  /-- VDD_AON_RETURN (R696). VDD_AON and VDDIO18 are back in range, AON powers up with empty recorder slots and SLOW_OK at 0. -/
  | vddAonReturn (dt : Nat)
  deriving DecidableEq, Repr

end Sys2Proof
end

