-- ==== Sys2Proof/Decode.lean ====
section
/-!
DEFINITION. Decode: the commands that words spell. The opcode table gives no row any bits (log entry 1), so no word spells a command.
-/
namespace Sys2Proof

/-- The command a word of `nbits` bits spells by the table's bits. The table gives every row the encoding "block command" with no
field, so no word spells one. -/
def decodeTableWord (_nbits _w : Nat) : Option Instr := none

end Sys2Proof
end

