-- ==== Sys2Proof/Machine/RegTable.lean ====
section
/-!
DEFINITION. RegTable: the registers of the device whose words REGISTER_WRITE and REGISTER_READ_CLEAR act on, one row each, written
from the register tables of spec/. A row gives the offset, the strides of its copies, whether it is 64 bits wide, which bits
carry which access code of R12, and the value after reset. Bits in none of the masks are RO, WO or RSV.
-/
namespace Sys2Proof.Machine

/-- One register, or one register repeated at strides. `levels` lists stride and count, outermost first. -/
structure RegRow where
  off : Nat
  levels : List (Nat × Nat)
  wide : Bool
  rw : Nat
  rwl : Nat
  w1c : Nat
  w1s : Nat
  rc : Nat
  reset : Nat
  deriving DecidableEq, Repr, Inhabited

/-- Rows of the Window registers. -/
def rowsWindow : List RegRow := [
  -- RING_BASE (R51)
  ⟨0x10000, [(0x20, 256)], true, 0xFFFFFFFFFFFFF000, 0x0, 0x0, 0x0, 0x0, 0x0⟩,
  -- RING_CTRL (R51)
  ⟨0x10008, [(0x20, 256)], false, 0x8000000F, 0x0, 0x0, 0x0, 0x0, 0x0⟩,
  -- RING_STATUS (R51)
  ⟨0x10018, [(0x20, 256)], false, 0x0, 0x0, 0xF, 0x0, 0x0, 0x0⟩,
  -- VI_TIME (R51)
  ⟨0x12008, [], true, 0x0, 0x0, 0x0, 0x0, 0x0, 0x0⟩,
  -- EVR_BASE (R66)
  ⟨0x90000, [], true, 0xFFFFFFFFFFFFFFFF, 0x0, 0x0, 0x0, 0x0, 0x0⟩,
  -- EVR_CTRL (R66)
  ⟨0x90008, [], false, 0x8000000F, 0x0, 0x0, 0x0, 0x0, 0x0⟩,
  -- EVR_HEAD (R66)
  ⟨0x9000C, [], false, 0xFFFFFFFF, 0x0, 0x0, 0x0, 0x0, 0x0⟩,
  -- EVR_IRQ (R66)
  ⟨0x90014, [], false, 0xFFFFFF3F, 0x0, 0x0, 0x0, 0x0, 0x0⟩,
  -- EVR_LOST (R66)
  ⟨0x90018, [], false, 0x0, 0x0, 0x0, 0x0, 0xFFFFFFFF, 0x0⟩,
  -- COMMIT_LIST (R164)
  ⟨0x13000, [(0x20, 16)], true, 0xFFFFFFFFFFFFFFFF, 0x0, 0x0, 0x0, 0x0, 0x0⟩,
  -- COMMIT_FRAME (R164)
  ⟨0x13018, [(0x20, 16)], true, 0x0, 0x0, 0x0, 0x0, 0x0, 0xFFFFFFFFFFFFFFFF⟩,
  -- PIPE_VIEW_EVENTS (R238)
  ⟨0x1340C, [(0x10, 16)], false, 0xFFFF0007, 0x0, 0x0, 0x0, 0x0, 0x0⟩,
  -- CHK_FRAME in the safety owner's window (R273)
  ⟨0x14028, [(0x800, 16), (0x40, 16)], true, 0x0, 0x0, 0x0, 0x0, 0x0, 0x0⟩,
  -- XLATE_ADDR (R284)
  ⟨0x1C000, [], true, 0xFFFFFFFFFFFFFFFF, 0x0, 0x0, 0x0, 0x0, 0x0⟩,
  -- XLATE_FENCE (R284)
  ⟨0x1C010, [], false, 0xFFFFFFFF, 0x0, 0x0, 0x0, 0x0, 0x0⟩,
  -- XLATE_CTRL (R284)
  ⟨0x1C014, [], false, 0xFFFFFFFF, 0x0, 0x0, 0x0, 0x0, 0x0⟩,
  -- XLATE_VALUE (R284)
  ⟨0x1C018, [], true, 0xFFFFFFFFFFFFFFFF, 0x0, 0x0, 0x0, 0x0, 0x0⟩,
  -- STREAM_CTRL (R399)
  ⟨0x20000, [(0x10, 256)], false, 0xC0000000, 0x0, 0x0, 0x0, 0x0, 0x0⟩,
  -- STREAM_APPL (R399)
  ⟨0x20004, [(0x10, 256)], false, 0xFFFFFFFF, 0x0, 0x0, 0x0, 0x0, 0x0⟩,
  -- STREAM_STATUS (R399)
  ⟨0x2000C, [(0x10, 256)], false, 0x0, 0x0, 0x3, 0x0, 0x0, 0x0⟩,
  -- REC_VIEW_SEL (R674)
  ⟨0x80000, [], false, 0xFF, 0x0, 0x0, 0x0, 0x0, 0x0⟩]

/-- Rows of the Chip registers. -/
def rowsChip : List RegRow := [
  -- CHIP_ID (R7)
  ⟨0x0, [], false, 0x0, 0x0, 0x0, 0x0, 0x0, 0x5A541000⟩]

/-- Rows of the Power registers. -/
def rowsPower : List RegRow := [
  -- BUDGET_CAP (R368)
  ⟨0x180000, [], false, 0xFFFF, 0x0, 0x0, 0x0, 0x0, 0x0⟩,
  -- BUDGET_SUPPLY (R368)
  ⟨0x180004, [], false, 0xFFFF, 0x0, 0x0, 0x0, 0x0, 0x0⟩,
  -- BUDGET_CTRL (R368)
  ⟨0x180008, [], false, 0xFF0F00, 0x0, 0x0, 0x0, 0x0, 0x50400⟩,
  -- BUDGET_TICKS (R368)
  ⟨0x180010, [], true, 0x0, 0x0, 0x0, 0x0, 0x0, 0x0⟩,
  -- SCHED_WATCHDOG (R368)
  ⟨0x180020, [], false, 0x1FFFF, 0x0, 0x0, 0x0, 0x0, 0x7D0⟩,
  -- SCHED_FILL_LIMIT (R368)
  ⟨0x180024, [], false, 0xFFFF, 0x0, 0x0, 0x0, 0x0, 0x3E8⟩,
  -- SCHED_VI_RENDER (R368)
  ⟨0x180200, [(0x10, 256)], false, 0x0, 0x0, 0x0, 0x0, 0x0, 0x400⟩,
  -- SCHED_VI_COMPOSE (R368)
  ⟨0x180204, [(0x10, 256)], false, 0x0, 0x0, 0x0, 0x0, 0x0, 0x400⟩,
  -- SCHED_VI_ENERGY (R368)
  ⟨0x180208, [(0x10, 256)], true, 0x0, 0x0, 0x0, 0x0, 0x0, 0x0⟩,
  -- POWER_LOCK (R567)
  ⟨0x100008, [], false, 0x0, 0x0, 0x0, 0x1, 0x0, 0x0⟩,
  -- POWER_STAGGER (R567)
  ⟨0x10000C, [], false, 0x0, 0xFF, 0x0, 0x0, 0x0, 0x14⟩,
  -- POWER_WAKE_CTRL (R567)
  ⟨0x100014, [], false, 0x7, 0x0, 0x0, 0x0, 0x0, 0x2⟩,
  -- POWER_WAKE_TIME (R567)
  ⟨0x100018, [], true, 0xFFFFFFFFFFFFFFFF, 0x0, 0x0, 0x0, 0x0, 0x0⟩,
  -- POWER_TRIP (R567)
  ⟨0x10002C, [], false, 0x0, 0xFF87, 0x0, 0x0, 0x0, 0xA782⟩,
  -- POWER_DOM_CTRL (R567)
  ⟨0x101000, [(0x20, 24)], false, 0xF00FFFFF, 0x0, 0x0, 0x0, 0x0, 0x0⟩,
  -- POWER_DOM_INRUSH (R567)
  ⟨0x101008, [(0x20, 24)], false, 0x0, 0xFFFF, 0x0, 0x0, 0x0, 0xC8⟩,
  -- POWER_DOM_OPP (R567)
  ⟨0x10100C, [(0x20, 24)], false, 0x0, 0x0, 0x0, 0x0, 0x0, 0x70000⟩,
  -- POWER_OPP_FV (R567)
  ⟨0x102000, [(0x80, 24), (0x10, 8)], false, 0x0, 0xFFFFFFFF, 0x0, 0x0, 0x0, 0x0⟩,
  -- POWER_OPP_PJ (R567)
  ⟨0x102004, [(0x80, 24), (0x10, 8)], false, 0x0, 0xFFFFFFFF, 0x0, 0x0, 0x0, 0x0⟩,
  -- VR_RAIL_CFG (R567)
  ⟨0x108014, [(0x10, 2)], false, 0x0, 0xFFFF, 0x0, 0x0, 0x0, 0x10A⟩,
  -- VR_PHASE_CFG (R567)
  ⟨0x108100, [(0x10, 16)], false, 0x0, 0xC000FFFF, 0x0, 0x0, 0x0, 0x0⟩]

/-- Rows of the Start registers. -/
def rowsStart : List RegRow := [
  -- START_SEQ (R601)
  ⟨0x200010, [], true, 0x0, 0x0, 0x0, 0x0, 0x0, 0x0⟩,
  -- START_NVM_CTRL (R601)
  ⟨0x200030, [], false, 0x80000000, 0x0, 0x0, 0x0, 0x0, 0x0⟩,
  -- START_NVM_ADDR (R601)
  ⟨0x200038, [], false, 0xFFFFFFFF, 0x0, 0x0, 0x0, 0x0, 0x0⟩,
  -- START_NVM_BUF (R601)
  ⟨0x200040, [], true, 0xFFFFFFFFFFFFFFFF, 0x0, 0x0, 0x0, 0x0, 0x0⟩,
  -- START_PSET_CTRL (R601)
  ⟨0x200050, [], false, 0xFFF, 0x0, 0x0, 0x0, 0x0, 0x3C⟩,
  -- START_PSET_SEQ (R601)
  ⟨0x200058, [], true, 0x0, 0x0, 0x0, 0x0, 0x0, 0x0⟩,
  -- START_UPD_ADDR (R601)
  ⟨0x200100, [], true, 0xFFFFFFFFFFFFFFFF, 0x0, 0x0, 0x0, 0x0, 0x0⟩,
  -- START_UPD_LEN (R601)
  ⟨0x200108, [], false, 0xFFFFFFFF, 0x0, 0x0, 0x0, 0x0, 0x0⟩,
  -- START_UPD_ARG (R601)
  ⟨0x200110, [], false, 0xFFF, 0x0, 0x0, 0x0, 0x0, 0x0⟩]

/-- Rows of the Husk registers. -/
def rowsHusk : List RegRow := [
  -- HUSK_CTRL (R623)
  ⟨0x300004, [], false, 0x0, 0xFFFFFF, 0x0, 0x0, 0x0, 0x3000A⟩,
  -- PIP_LIST_ENTRY (R623)
  ⟨0x308000, [(0x400, 16), (0x10, 32)], false, 0xFFFFFFFF, 0x0, 0x0, 0x0, 0x0, 0x0⟩,
  -- PIP_LIST_CTRL (R623)
  ⟨0x308200, [(0x400, 16)], false, 0x4000003F, 0x0, 0x0, 0x0, 0x0, 0x0⟩,
  -- PIP_LIST_STATUS (R623)
  ⟨0x308204, [(0x400, 16)], false, 0x0, 0x0, 0x40000000, 0x0, 0x0, 0x0⟩]

/-- Rows of the Vimgr registers. -/
def rowsVimgr : List RegRow := [
  -- VIMGR_CTRL (R507)
  ⟨0x400004, [], false, 0x3FFFF, 0x0, 0x0, 0x0, 0x0, 0x7E4⟩,
  -- VIMGR_SAFETY (R507)
  ⟨0x400008, [], false, 0x0, 0x0, 0x0, 0x0, 0x0, 0xFFFF⟩,
  -- VIMGR_CMD_ADDR (R507)
  ⟨0x400010, [], true, 0xFFFFFFFFFFFFFFE0, 0x0, 0x0, 0x0, 0x0, 0x0⟩,
  -- VI_DIRTY_STATUS (R507)
  ⟨0x410014, [(0x40, 256)], false, 0x0, 0x0, 0x3, 0x0, 0x0, 0x0⟩,
  -- VI_MAC (R507)
  ⟨0x410020, [(0x40, 256)], true, 0x0, 0x0, 0x0, 0x0, 0x0, 0x0⟩,
  -- VI_TALKERS (R507)
  ⟨0x410028, [(0x40, 256)], true, 0x0, 0x0, 0x0, 0x0, 0x0, 0x0⟩,
  -- VI_SHARES (R507)
  ⟨0x410034, [(0x40, 256)], false, 0x0, 0x0, 0x0, 0x0, 0x0, 0x4000400⟩]

/-- Rows of the World registers. -/
def rowsWorld : List RegRow := [
  -- WORLD_LOCK (R535)
  ⟨0x500004, [], false, 0x0, 0x0, 0x0, 0x1, 0x0, 0x0⟩,
  -- WORLD_FN (R535)
  ⟨0x500008, [], false, 0x0, 0x3, 0x0, 0x0, 0x0, 0x0⟩,
  -- WORLD_DBG_HULL_NI (R535)
  ⟨0x500028, [], true, 0x0, 0x0, 0x0, 0x0, 0x0, 0x0⟩,
  -- WORLD_DBG_HULL_I (R535)
  ⟨0x500030, [], true, 0x0, 0x0, 0x0, 0x0, 0x0, 0x0⟩,
  -- WORLD_DBG_TOKEN (R535)
  ⟨0x500100, [(0x4, 48)], false, 0xFFFFFFFF, 0x0, 0x0, 0x0, 0x0, 0x0⟩,
  -- WORLD_SEVR_BASE (R535)
  ⟨0x500210, [], true, 0xC00000FFFFFFFFFF, 0x0, 0x0, 0x0, 0x0, 0x0⟩,
  -- WORLD_SEVR_CTRL (R535)
  ⟨0x500218, [], false, 0x8000000F, 0x0, 0x0, 0x0, 0x0, 0x0⟩,
  -- WORLD_SEVR_HEAD (R535)
  ⟨0x50021C, [], false, 0xFFFFFFFF, 0x0, 0x0, 0x0, 0x0, 0x0⟩,
  -- WORLD_SEVR_LOST (R535)
  ⟨0x500224, [], false, 0x0, 0x0, 0x0, 0x0, 0xFFFFFFFF, 0x0⟩,
  -- RC_DENIALS (R535)
  ⟨0x500304, [(0x20, 4)], false, 0x0, 0x0, 0x0, 0x0, 0xFFFFFFFF, 0x0⟩,
  -- RC_DENY_ADDR (R535)
  ⟨0x500308, [(0x20, 4)], true, 0x0, 0x0, 0x0, 0x0, 0x0, 0x0⟩,
  -- HULL_ARG0 (R535)
  ⟨0x504000, [], true, 0xFFFFFFFFFFFFFFFF, 0x0, 0x0, 0x0, 0x0, 0x0⟩,
  -- HULL_ARG1 (R535)
  ⟨0x504008, [], true, 0xFFFFFFFFFFFFFFFF, 0x0, 0x0, 0x0, 0x0, 0x0⟩,
  -- HULL_ARG2 (R535)
  ⟨0x504010, [], true, 0xFFFFFFFFFFFFFFFF, 0x0, 0x0, 0x0, 0x0, 0x0⟩]

/-- Rows of the Mem registers. -/
def rowsMem : List RegRow := [
  -- MEM_RETIRE_CTRL (R104)
  ⟨0x600010, [], false, 0xFF00FF, 0x0, 0x0, 0x0, 0x0, 0x180003⟩,
  -- MEM_SCRUB_CTRL (R104)
  ⟨0x600014, [], false, 0xFF, 0x0, 0x0, 0x0, 0x0, 0x18⟩,
  -- MEM_CE_COUNT (R104)
  ⟨0x600020, [], true, 0x0, 0x0, 0x0, 0x0, 0x0, 0x0⟩,
  -- MEM_UE_COUNT (R104)
  ⟨0x600028, [], true, 0x0, 0x0, 0x0, 0x0, 0x0, 0x0⟩,
  -- MEM_UE_ADDR (R104)
  ⟨0x600030, [], true, 0x0, 0x0, 0x0, 0x0, 0x0, 0x0⟩,
  -- MEM_FAULTS (R104)
  ⟨0x60003C, [], false, 0x0, 0x0, 0x0, 0x0, 0xFFFFFFFF, 0x0⟩,
  -- MEM_BW_CLASS (R104)
  ⟨0x600040, [(0x20, 2), (0x4, 8)], false, 0xFFFF, 0x0, 0x0, 0x0, 0x0, 0x0⟩]

/-- Rows of the Layer registers. -/
def rowsLayer : List RegRow := [
  -- LAYER_TABLE_STATUS (R155)
  ⟨0x100000C, [], false, 0x0, 0x0, 0xFFFFFFFF, 0x0, 0x0, 0x0⟩,
  -- LAYER_PIPE_CTRL (R155)
  ⟨0x1000100, [(0x10, 16)], false, 0x80000000, 0x0, 0x0, 0x0, 0x0, 0x0⟩,
  -- LAYER_PIPE_BG (R155)
  ⟨0x1000108, [(0x10, 16)], true, 0xFFFFFFFFFFFF, 0x0, 0x0, 0x0, 0x0, 0x0⟩,
  -- LAYER_WB_STATUS (R155)
  ⟨0x1000200, [(0x8, 16)], false, 0x0, 0x0, 0x40000000, 0x0, 0x0, 0x0⟩,
  -- LAYER_COEF (R155)
  ⟨0x1020000, [(0x4, 8192)], false, 0xFFFFFFFF, 0x0, 0x0, 0x0, 0x0, 0x0⟩,
  -- LAYER_DEGAMMA (R155)
  ⟨0x1030000, [(0x1000, 16), (0x4, 513)], false, 0xFFFFFFFF, 0x0, 0x0, 0x0, 0x0, 0x0⟩]

/-- Rows of the Pipe registers. -/
def rowsPipe : List RegRow := [
  -- PIPE_CTRL (R242)
  ⟨0x1800000, [(0x10000, 16)], false, 0x80000033, 0x0, 0x0, 0x0, 0x0, 0x0⟩,
  -- PIPE_H_SIZE (R242)
  ⟨0x1800008, [(0x10000, 16)], false, 0xFFFFFFFF, 0x0, 0x0, 0x0, 0x0, 0x0⟩,
  -- PIPE_H_SYNC (R242)
  ⟨0x180000C, [(0x10000, 16)], false, 0xFFFFFFFF, 0x0, 0x0, 0x0, 0x0, 0x0⟩,
  -- PIPE_V_SIZE (R242)
  ⟨0x1800010, [(0x10000, 16)], false, 0xFFFFFFFF, 0x0, 0x0, 0x0, 0x0, 0x0⟩,
  -- PIPE_V_SYNC (R242)
  ⟨0x1800014, [(0x10000, 16)], false, 0xFFFFFFFF, 0x0, 0x0, 0x0, 0x0, 0x0⟩,
  -- PIPE_CLOCK (R242)
  ⟨0x1800018, [(0x10000, 16)], false, 0xF, 0x0, 0x0, 0x0, 0x0, 0x0⟩,
  -- PIPE_OUTPUT (R242)
  ⟨0x180001C, [(0x10000, 16)], false, 0xFFFF0000, 0x0, 0x0, 0x0, 0x0, 0x0⟩,
  -- PIPE_CS (R242)
  ⟨0x1800020, [(0x10000, 16)], false, 0xFFFF, 0x0, 0x0, 0x0, 0x0, 0x0⟩,
  -- PIPE_COLOUR (R242)
  ⟨0x1800024, [(0x10000, 16)], false, 0xFC, 0x0, 0x0, 0x0, 0x0, 0x80⟩,
  -- PIPE_LOCK (R242)
  ⟨0x1800028, [(0x10000, 16)], false, 0xFFC0FF00, 0x0, 0x0, 0x0, 0x0, 0x400A00⟩,
  -- PIPE_REF_EPOCH (R242)
  ⟨0x1800030, [(0x10000, 16)], true, 0xFFFFFFFFFFFFFFFF, 0x0, 0x0, 0x0, 0x0, 0x0⟩,
  -- PIPE_REF_PERIOD (R242)
  ⟨0x1800038, [(0x10000, 16)], true, 0xFFFFFFFFFFFF, 0x0, 0x0, 0x0, 0x0, 0x0⟩,
  -- PIPE_FRAME (R242)
  ⟨0x1800040, [(0x10000, 16)], true, 0x0, 0x0, 0x0, 0x0, 0x0, 0x0⟩,
  -- PIPE_FLAGS (R242)
  ⟨0x180004C, [(0x10000, 16)], false, 0x0, 0x0, 0xF, 0x0, 0x0, 0x0⟩,
  -- PIPE_GAMMA (R242)
  ⟨0x1802000, [(0x10000, 16), (0x2000, 2), (0x8, 1024)], true, 0xFFFFFFFFFFFF, 0x0, 0x0, 0x0, 0x0, 0x0⟩,
  -- The 3D LUT (R242)
  ⟨0x1900000, [(0x20000, 16), (0x10000, 2), (0x8, 4913)], true, 0xFFFFFFFFFFFF, 0x0, 0x0, 0x0, 0x0, 0x0⟩,
  -- DP_CTRL (R244)
  ⟨0x1808000, [(0x10000, 16)], false, 0xC0008F07, 0x0, 0x0, 0x0, 0x0, 0x0⟩,
  -- DP_AUX_DATA (R244)
  ⟨0x1808010, [(0x10000, 16), (0x4, 4)], false, 0xFFFFFFFF, 0x0, 0x0, 0x0, 0x0, 0x0⟩,
  -- DSI_CTRL (R244)
  ⟨0x180A000, [(0x10000, 16)], false, 0xFF070FFF, 0x0, 0x0, 0x0, 0x0, 0x0⟩,
  -- DSI_CMD_DATA (R244)
  ⟨0x180A010, [(0x10000, 16), (0x4, 16)], false, 0xFFFFFFFF, 0x0, 0x0, 0x0, 0x0, 0x0⟩,
  -- PLL_INT (R245)
  ⟨0x1B00000, [(0x10, 8)], false, 0x1FF, 0x0, 0x0, 0x0, 0x0, 0x0⟩,
  -- PLL_FRAC (R245)
  ⟨0x1B00004, [(0x10, 8)], false, 0xFFFFFF, 0x0, 0x0, 0x0, 0x0, 0x0⟩,
  -- PLL_DIV (R245)
  ⟨0x1B00008, [(0x10, 8)], false, 0x7FF07FF, 0x0, 0x0, 0x0, 0x0, 0x0⟩,
  -- DSC_CFG (R245)
  ⟨0x1B01000, [(0x10, 8)], false, 0xE3FF3FFF, 0x0, 0x0, 0x0, 0x0, 0x0⟩]

/-- Rows of the Render registers. -/
def rowsRender : List RegRow := [
  -- RENDER_SHARED (R328)
  ⟨0x200000C, [], false, 0x80000000, 0x0, 0x0, 0x0, 0x0, 0x0⟩,
  -- RENDER_CTX_POOL (R328)
  ⟨0x2010008, [(0x10, 1024)], false, 0xFFFF0000, 0x0, 0x0, 0x0, 0x0, 0x0⟩]

/-- Rows of the Audio registers. -/
def rowsAudio : List RegRow := [
  -- AUDIO_LOCK (R403)
  ⟨0x300000C, [], false, 0x0, 0x0, 0x0, 0x1, 0x0, 0x0⟩,
  -- AUDIO_PATH_SEL (R403)
  ⟨0x300001C, [], false, 0x1FF03FF, 0x0, 0x0, 0x0, 0x0, 0x0⟩,
  -- AUDIO_FX_SAT (R403)
  ⟨0x3000024, [], false, 0x0, 0x0, 0x0, 0x0, 0xFFFFFFFF, 0x0⟩,
  -- AUDIO_DOM_CTRL (R403)
  ⟨0x3000040, [(0x20, 2)], false, 0xBF00003F, 0x0, 0x0, 0x0, 0x0, 0x0⟩,
  -- AUDIO_DOM_SAMPLES (R403)
  ⟨0x3000048, [(0x20, 2)], true, 0x0, 0x0, 0x0, 0x0, 0x0, 0x0⟩,
  -- AUDIO_DOM_SWAP (R403)
  ⟨0x3000050, [(0x20, 2)], true, 0x0, 0x0, 0x0, 0x0, 0x0, 0x0⟩,
  -- TDM_CTRL (R403)
  ⟨0x3000100, [(0x10, 8)], false, 0x0, 0xFFFF0000, 0x0, 0x0, 0x0, 0x0⟩,
  -- TDM_MAP (R403)
  ⟨0x3000104, [(0x10, 8)], false, 0x0, 0x1FF03FF, 0x0, 0x0, 0x0, 0x0⟩,
  -- SWR_CTRL (R403)
  ⟨0x3000200, [(0x20, 4)], false, 0x0, 0xC0FFFFFF, 0x0, 0x0, 0x0, 0x0⟩,
  -- SWR_MAP (R403)
  ⟨0x3000204, [(0x20, 4)], false, 0x0, 0x1FF03FF, 0x0, 0x0, 0x0, 0x0⟩,
  -- SWR_CMD_DATA (R403)
  ⟨0x3000210, [(0x20, 4)], false, 0xFF, 0x0, 0x0, 0x0, 0x0, 0x0⟩,
  -- AUDIO_OUT_SAT (R403)
  ⟨0x3001C00, [(0x4, 256)], false, 0x0, 0x0, 0x0, 0x0, 0xFFFFFFFF, 0x0⟩,
  -- PLAYER_MAP (R403)
  ⟨0x3002008, [(0x10, 64)], false, 0x0, 0x800003FF, 0x0, 0x0, 0x0, 0x0⟩,
  -- AVTP_RX_ID (R403)
  ⟨0x3004000, [(0x20, 64)], true, 0x0, 0xFFFFFFFFFFFFFFFF, 0x0, 0x0, 0x0, 0x0⟩,
  -- AVTP_RX_CTRL (R403)
  ⟨0x3004008, [(0x20, 64)], false, 0x0, 0xFFC003FF, 0x0, 0x0, 0x0, 0x0⟩,
  -- AVTP_TX_ID (R403)
  ⟨0x3004800, [(0x20, 64)], true, 0x0, 0xFFFFFFFFFFFFFFFF, 0x0, 0x0, 0x0, 0x0⟩,
  -- AVTP_TX_CTRL (R403)
  ⟨0x3004808, [(0x20, 64)], false, 0x0, 0xFFC003FF, 0x0, 0x0, 0x0, 0x0⟩,
  -- AVTP_TX_TRANSIT (R403)
  ⟨0x300480C, [(0x20, 64)], false, 0x0, 0xFFFFFFFF, 0x0, 0x0, 0x0, 0x1E8480⟩]

/-- Rows of the Touch registers. -/
def rowsTouch : List RegRow := [
  -- TOUCH_WAKE_CTRL (R433)
  ⟨0x3800010, [], false, 0x80FFFFFF, 0x0, 0x0, 0x0, 0x0, 0x320000⟩,
  -- TOUCH_WAKE_TH (R433)
  ⟨0x3800014, [], false, 0xFFFF, 0x0, 0x0, 0x0, 0x0, 0xC8⟩,
  -- TBLK_CTRL (R433)
  ⟨0x3801000, [(0x40, 16)], false, 0xCFF307FF, 0x0, 0x0, 0x0, 0x0, 0xA10040⟩,
  -- TBLK_TIMING (R433)
  ⟨0x3801004, [(0x40, 16)], false, 0xFFFF83FF, 0x0, 0x0, 0x0, 0x0, 0x138800C8⟩,
  -- TBLK_PHASE (R433)
  ⟨0x3801008, [(0x40, 16)], false, 0x1FFFF, 0x0, 0x0, 0x0, 0x0, 0x0⟩,
  -- TBLK_NOISE_TH (R433)
  ⟨0x380100C, [(0x40, 16)], false, 0xFFFF, 0x0, 0x0, 0x0, 0x0, 0x10⟩,
  -- TBLK_SCANS (R433)
  ⟨0x3801018, [(0x40, 16)], true, 0x0, 0x0, 0x0, 0x0, 0x0, 0x0⟩,
  -- TEL_CTRL (R433)
  ⟨0x3810000, [(0x20, 512)], false, 0x8000FFFF, 0x0, 0x0, 0x0, 0x0, 0xFFFF⟩,
  -- TEL_THRESH (R433)
  ⟨0x3810004, [(0x20, 512)], false, 0xFFFFFFFF, 0x0, 0x0, 0x0, 0x0, 0x9600C8⟩,
  -- TEL_LONG (R433)
  ⟨0x3810008, [(0x20, 512)], false, 0xFFF, 0x0, 0x0, 0x0, 0x0, 0x14⟩,
  -- TEL_STATUS (R433)
  ⟨0x3810018, [(0x20, 512)], false, 0x0, 0x0, 0x0, 0x0, 0x0, 0x80000000⟩]

/-- Rows of the Haptic registers. -/
def rowsHaptic : List RegRow := [
  -- HAPTIC_I3C_CTRL (R469)
  ⟨0x3A0000C, [], false, 0x8000FFFF, 0x0, 0x0, 0x0, 0x0, 0x0⟩,
  -- HAP_CTRL (R469)
  ⟨0x3A01000, [(0x40, 16)], false, 0xFE00FFFF, 0x0, 0x0, 0x0, 0x0, 0xFFFF⟩,
  -- HAP_LIMIT (R469)
  ⟨0x3A01004, [(0x40, 16)], false, 0xFFFFFFFF, 0x0, 0x0, 0x0, 0x0, 0xC800190⟩,
  -- HAP_PROT (R469)
  ⟨0x3A01008, [(0x40, 16)], false, 0xFFFFFFFF, 0x0, 0x0, 0x0, 0x0, 0x1E3207D0⟩,
  -- HAP_REST (R469)
  ⟨0x3A0100C, [(0x40, 16)], false, 0xFFFFFF00, 0x0, 0x0, 0x0, 0x0, 0xC86E00⟩,
  -- HAP_COIL (R469)
  ⟨0x3A01010, [(0x40, 16)], false, 0xFFFFFFFF, 0x0, 0x0, 0x0, 0x0, 0x0⟩,
  -- HAP_ACCEL (R469)
  ⟨0x3A01014, [(0x40, 16)], false, 0x7F7FFF00, 0x0, 0x0, 0x0, 0x0, 0x0⟩,
  -- HAP_FULLSCALE (R469)
  ⟨0x3A01018, [(0x40, 16)], false, 0xFFFF, 0x0, 0x0, 0x0, 0x0, 0xBB8⟩,
  -- HAP_LIB (R469)
  ⟨0x3A10000, [(0x4, 2048)], false, 0xFFFFFFFF, 0x0, 0x0, 0x0, 0x0, 0x0⟩,
  -- REFLEX_FIRED (R469)
  ⟨0x3A80008, [], true, 0x0, 0x0, 0x0, 0x0, 0x0, 0x0⟩,
  -- REFLEX_SKIPS (R469)
  ⟨0x3A80010, [], false, 0x0, 0x0, 0x0, 0x0, 0xFFFFFFFF, 0x0⟩,
  -- REFLEX_MAX_NS (R469)
  ⟨0x3A80014, [], false, 0x0, 0x0, 0x0, 0x0, 0xFFFF, 0x0⟩,
  -- REFLEX_CHIME_GRANT (R469)
  ⟨0x3A81000, [(0x8, 256)], true, 0xFFFFFFFFFFFFFFFF, 0x0, 0x0, 0x0, 0x0, 0x0⟩]

/-- Rows of the Check registers. -/
def rowsCheck : List RegRow := [
  -- CHECK_CONTEXTS (R273)
  ⟨0x3C00004, [], false, 0x0, 0x0, 0x0, 0x0, 0x0, 0x1000⟩,
  -- CHK_CTRL (R273)
  ⟨0x3C10000, [(0x1000, 16), (0x40, 16)], false, 0xF0FFFF00, 0x0, 0x0, 0x0, 0x0, 0x0⟩,
  -- CHK_RECT_XY (R273)
  ⟨0x3C10004, [(0x1000, 16), (0x40, 16)], false, 0xFFFFFFFF, 0x0, 0x0, 0x0, 0x0, 0x0⟩,
  -- CHK_RECT_WH (R273)
  ⟨0x3C10008, [(0x1000, 16), (0x40, 16)], false, 0xFFFFFFFF, 0x0, 0x0, 0x0, 0x0, 0x10001⟩,
  -- CHK_SRC (R273)
  ⟨0x3C1000C, [(0x1000, 16), (0x40, 16)], false, 0x3FFFF, 0x0, 0x0, 0x0, 0x0, 0x0⟩,
  -- CHK_EXPECTm (R273)
  ⟨0x3C10010, [(0x1000, 16), (0x40, 16), (0x4, 4)], false, 0xFFFFFFFF, 0x0, 0x0, 0x0, 0x0, 0x0⟩,
  -- CHK_FRAME (R273)
  ⟨0x3C10028, [(0x1000, 16), (0x40, 16)], true, 0x0, 0x0, 0x0, 0x0, 0x0, 0xFFFFFFFFFFFFFFFF⟩,
  -- CHK_STATUS (R273)
  ⟨0x3C10034, [(0x1000, 16), (0x40, 16)], false, 0x0, 0x0, 0xC0000000, 0x0, 0x0, 0x0⟩,
  -- CHK_SET_STATUS (R273)
  ⟨0x3C10400, [(0x1000, 16)], false, 0x0, 0x0, 0x80000000, 0x0, 0x0, 0x0⟩,
  -- DCU_CFG (R273)
  ⟨0x3C20000, [(0x40, 64)], false, 0xF, 0x0, 0x0, 0x0, 0x0, 0x0⟩,
  -- DCU_POLY (R273)
  ⟨0x3C20008, [(0x40, 64)], true, 0xFFFFFFFFFFFFFFFF, 0x0, 0x0, 0x0, 0x0, 0x0⟩,
  -- DCU_INIT (R273)
  ⟨0x3C20010, [(0x40, 64)], true, 0xFFFFFFFFFFFFFFFF, 0x0, 0x0, 0x0, 0x0, 0x0⟩,
  -- DCU_XOROUT (R273)
  ⟨0x3C20018, [(0x40, 64)], true, 0xFFFFFFFFFFFFFFFF, 0x0, 0x0, 0x0, 0x0, 0x0⟩,
  -- DCU_VALUE (R273)
  ⟨0x3C20020, [(0x40, 64)], true, 0xFFFFFFFFFFFFFFFF, 0x0, 0x0, 0x0, 0x0, 0x0⟩,
  -- DCU_RESULT (R273)
  ⟨0x3C20028, [(0x40, 64)], true, 0x0, 0x0, 0x0, 0x0, 0x0, 0x0⟩]

/-- Rows of the Recorder registers. -/
def rowsRecorder : List RegRow := [
  -- REC_LOCK (R686)
  ⟨0x3E00004, [], false, 0x0, 0x0, 0x0, 0x1, 0x0, 0x0⟩,
  -- REC_CMD_SLOT (R686)
  ⟨0x3E0000C, [], false, 0xFF, 0x0, 0x0, 0x0, 0x0, 0x0⟩,
  -- REC_SLOT_CFG (R686)
  ⟨0x3E01000, [(0x8, 256)], true, 0x0, 0xFFFFFFFFFFFFFC00, 0x0, 0x0, 0x0, 0x0⟩]

/-- Rows of the Counters registers. -/
def rowsCounters : List RegRow := [
  -- CNT_VALUE (R686)
  ⟨0x4010000, [(0x10, 4096)], true, 0xFFFFFFFFFFFFFFFF, 0x0, 0x0, 0x0, 0x0, 0x0⟩,
  -- CNT_CFG (R686)
  ⟨0x4010008, [(0x10, 4096)], false, 0xC0000000, 0x0, 0x20000000, 0x0, 0x0, 0x0⟩,
  -- SMP_CTRL (R686)
  ⟨0x4020000, [(0x40, 2)], false, 0x9F1F0000, 0x0, 0x0, 0x0, 0x0, 0x0⟩,
  -- SMP_SEED (R686)
  ⟨0x4020004, [(0x40, 2)], false, 0xFFFFFFFF, 0x0, 0x0, 0x0, 0x0, 0x1⟩,
  -- SMP_BASE (R686)
  ⟨0x4020008, [(0x40, 2)], true, 0xFFFFFFFFFFFFFFFF, 0x0, 0x0, 0x0, 0x0, 0x0⟩,
  -- SMP_HEAD (R686)
  ⟨0x4020010, [(0x40, 2)], false, 0xFFFFFFFF, 0x0, 0x0, 0x0, 0x0, 0x0⟩,
  -- SMP_THRESH (R686)
  ⟨0x4020018, [(0x40, 2)], false, 0xFFFFFFFF, 0x0, 0x0, 0x0, 0x0, 0x0⟩,
  -- SMP_LOST (R686)
  ⟨0x402001C, [(0x40, 2)], false, 0x0, 0x0, 0x0, 0x0, 0xFFFFFFFF, 0x0⟩,
  -- SMP_FILTERED (R686)
  ⟨0x4020020, [(0x40, 2)], false, 0x0, 0x0, 0x0, 0x0, 0xFFFFFFFF, 0x0⟩]

/-- Rows of the Icvik registers. -/
def rowsIcvik : List RegRow := [
  -- ICVIK_NODE (R646)
  ⟨0x5000004, [], false, 0x0, 0x800F0FFF, 0x0, 0x0, 0x0, 0x0⟩,
  -- ICVIK_LOCK (R646)
  ⟨0x500000C, [], false, 0x0, 0x0, 0x0, 0x1, 0x0, 0x0⟩,
  -- ICVIK_PATH (R646)
  ⟨0x5000010, [], true, 0x0, 0xFFFFFFFFFFFFF, 0x0, 0x0, 0x0, 0x0⟩,
  -- ICVIK_TIME_CTRL (R646)
  ⟨0x5000020, [], false, 0x0, 0xC0000000, 0x0, 0x0, 0x0, 0x0⟩,
  -- RACC_ADDR (R646)
  ⟨0x5000030, [], false, 0xFFFFFFFF, 0x0, 0x0, 0x0, 0x0, 0x0⟩,
  -- RACC_DATA (R646)
  ⟨0x5000034, [], false, 0xFFFFFFFF, 0x0, 0x0, 0x0, 0x0, 0x0⟩,
  -- ICVIK_PORT_CTRL (R646)
  ⟨0x5001000, [(0x40, 4)], false, 0x0, 0xF0000000, 0x0, 0x0, 0x0, 0x0⟩,
  -- POD_REF_EPOCH (R646)
  ⟨0x5002000, [(0x20, 8)], true, 0xFFFFFFFFFFFFFFFF, 0x0, 0x0, 0x0, 0x0, 0x0⟩,
  -- POD_REF_PERIOD (R646)
  ⟨0x5002008, [(0x20, 8)], true, 0xFFFFFFFFFFFF, 0x0, 0x0, 0x0, 0x0, 0x0⟩,
  -- POD_REF_AT (R646)
  ⟨0x5002010, [(0x20, 8)], true, 0xFFFFFFFFFFFFFFFF, 0x0, 0x0, 0x0, 0x0, 0x0⟩,
  -- EXP_HANDLE (R646)
  ⟨0x5004000, [(0x10, 64)], false, 0xFFFFFFFF, 0x0, 0x0, 0x0, 0x0, 0x0⟩,
  -- EXP_CTRL (R646)
  ⟨0x5004004, [(0x10, 64)], false, 0x80000FFF, 0x0, 0x0, 0x0, 0x0, 0x0⟩,
  -- IMP_SRC (R646)
  ⟨0x5006000, [(0x20, 64)], true, 0xFFFFFFFFFFFFFFFF, 0x0, 0x0, 0x0, 0x0, 0x0⟩,
  -- IMP_DADDR (R646)
  ⟨0x5006008, [(0x20, 64)], true, 0xFFFFFFFFFFFFFFFF, 0x0, 0x0, 0x0, 0x0, 0x0⟩,
  -- IMP_CTRL (R646)
  ⟨0x5006010, [(0x20, 64)], false, 0x8FFFFFFF, 0x0, 0x0, 0x0, 0x0, 0x0⟩,
  -- POD_DIR_PATH (R646)
  ⟨0x5100008, [(0x10, 4096)], true, 0x0, 0x0, 0x0, 0x0, 0x0, 0x0⟩]

/-- Rows of the Tsn registers. -/
def rowsTsn : List RegRow := [
  -- TSN_CTRL (R660)
  ⟨0x6000004, [(0x10000, 2)], false, 0x0, 0xF0000000, 0x0, 0x0, 0x0, 0x0⟩,
  -- TSN_SR_VID (R660)
  ⟨0x600000C, [(0x10000, 2)], false, 0x0, 0xFFF, 0x0, 0x0, 0x0, 0x2⟩,
  -- TSN_MAC_ADDR (R660)
  ⟨0x6000010, [(0x10000, 2)], true, 0x0, 0xFFFFFFFFFFFF, 0x0, 0x0, 0x0, 0x0⟩,
  -- TSN_QAV_A (R660)
  ⟨0x6000018, [(0x10000, 2)], false, 0x3FFFF, 0x0, 0x0, 0x0, 0x0, 0x0⟩,
  -- TSN_QAV_B (R660)
  ⟨0x600001C, [(0x10000, 2)], false, 0x3FFFF, 0x0, 0x0, 0x0, 0x0, 0x0⟩,
  -- TSN_GCL_CTRL (R660)
  ⟨0x6000020, [(0x10000, 2)], false, 0x7F, 0x0, 0x0, 0x0, 0x0, 0x0⟩,
  -- TSN_GCL_BASE (R660)
  ⟨0x6000028, [(0x10000, 2)], true, 0xFFFFFFFFFFFFFFFF, 0x0, 0x0, 0x0, 0x0, 0x0⟩,
  -- TSN_GCL_CYCLE (R660)
  ⟨0x6000030, [(0x10000, 2)], false, 0xFFFFFFFF, 0x0, 0x0, 0x0, 0x0, 0x0⟩,
  -- TSN_PTP_CTRL (R660)
  ⟨0x6000034, [(0x10000, 2)], false, 0x0, 0xC00000FF, 0x0, 0x0, 0x0, 0xF8⟩,
  -- TSN_PTP_OFFSET (R660)
  ⟨0x6000040, [(0x10000, 2)], true, 0x0, 0x0, 0x0, 0x0, 0x0, 0x0⟩,
  -- TSN_TXR_BASE (R660)
  ⟨0x6000050, [(0x10000, 2)], true, 0xFFFFFFFFFFFFFFFF, 0x0, 0x0, 0x0, 0x0, 0x0⟩,
  -- TSN_TXR_CTRL (R660)
  ⟨0x6000058, [(0x10000, 2)], false, 0x8000000F, 0x0, 0x0, 0x0, 0x0, 0x0⟩,
  -- TSN_RXR_BASE (R660)
  ⟨0x6000068, [(0x10000, 2)], true, 0xFFFFFFFFFFFFFFFF, 0x0, 0x0, 0x0, 0x0, 0x0⟩,
  -- TSN_RXR_CTRL (R660)
  ⟨0x6000070, [(0x10000, 2)], false, 0x8000000F, 0x0, 0x0, 0x0, 0x0, 0x0⟩,
  -- TSN_RING_STATUS (R660)
  ⟨0x600007C, [(0x10000, 2)], false, 0x0, 0x0, 0xFF, 0x0, 0x0, 0x0⟩,
  -- TSN_TX_FRAMES (R660)
  ⟨0x6000090, [(0x10000, 2)], true, 0x0, 0x0, 0x0, 0x0, 0x0, 0x0⟩,
  -- TSN_RX_FRAMES (R660)
  ⟨0x6000098, [(0x10000, 2)], true, 0x0, 0x0, 0x0, 0x0, 0x0, 0x0⟩,
  -- TSN_RX_DROPS (R660)
  ⟨0x60000A0, [(0x10000, 2)], false, 0x0, 0x0, 0x0, 0x0, 0xFFFFFFFF, 0x0⟩,
  -- TSN_RX_MCAST (R660)
  ⟨0x6000100, [(0x10000, 2), (0x8, 32)], true, 0x8000FFFFFFFFFFFF, 0x0, 0x0, 0x0, 0x0, 0x0⟩,
  -- TSN_GCL_ENTRY (R660)
  ⟨0x6000400, [(0x10000, 2), (0x4, 64)], false, 0xFFFFFFFF, 0x0, 0x0, 0x0, 0x0, 0x0⟩]

/-- The rows of the block a PF BAR0 offset lies in (R43). -/
def pfRows (a : Nat) : List RegRow :=
  if 0x0 ≤ a ∧ a < 0x100000 then rowsChip else
  if 0x100000 ≤ a ∧ a < 0x200000 then rowsPower else
  if 0x200000 ≤ a ∧ a < 0x300000 then rowsStart else
  if 0x300000 ≤ a ∧ a < 0x400000 then rowsHusk else
  if 0x400000 ≤ a ∧ a < 0x500000 then rowsVimgr else
  if 0x500000 ≤ a ∧ a < 0x600000 then rowsWorld else
  if 0x600000 ≤ a ∧ a < 0x1000000 then rowsMem else
  if 0x1000000 ≤ a ∧ a < 0x1800000 then rowsLayer else
  if 0x1800000 ≤ a ∧ a < 0x2000000 then rowsPipe else
  if 0x2000000 ≤ a ∧ a < 0x3000000 then rowsRender else
  if 0x3000000 ≤ a ∧ a < 0x3800000 then rowsAudio else
  if 0x3800000 ≤ a ∧ a < 0x3A00000 then rowsTouch else
  if 0x3A00000 ≤ a ∧ a < 0x3C00000 then rowsHaptic else
  if 0x3C00000 ≤ a ∧ a < 0x3E00000 then rowsCheck else
  if 0x3E00000 ≤ a ∧ a < 0x4000000 then rowsRecorder else
  if 0x4000000 ≤ a ∧ a < 0x5000000 then rowsCounters else
  if 0x5000000 ≤ a ∧ a < 0x6000000 then rowsIcvik else
  if 0x6000000 ≤ a ∧ a < 0x7000000 then rowsTsn else
  []

/-- How far `a` lies past one of the copies of a register at strides `levels` from `off`; `none` when it lies in no copy. -/
def inCopy : List (Nat × Nat) → Nat → Option Nat
  | [], r => some r
  | (st, n) :: ls, r => if r / st < n then inCopy ls (r % st) else none

/-- Whether the word at `a` belongs to the row, and then whether it is the high word. -/
def RegRow.hit (row : RegRow) (a : Nat) : Option Bool :=
  if a < row.off then none else
    match inCopy row.levels (a - row.off) with
    | none => none
    | some r => if r < 4 then some false else if row.wide && r < 8 then some true else none

/-- The first row that holds the word at `a`, with whether `a` is its high word. -/
def findRow : List RegRow → Nat → Option (RegRow × Bool)
  | [], _ => none
  | row :: rest, a => match row.hit a with | some h => some (row, h) | none => findRow rest a

end Sys2Proof.Machine
end

