-- ==== Sys2Proof/Config.lean ====
section
/-!
DEFINITION. Config: the values the spec leaves open. Each is a constant with no body, so that no statement can rest on its value.
-/
namespace Sys2Proof

/-- The n-th free 32-bit value (log entry 4): one the spec leaves open after a command that goes on. -/
opaque Config.freeWord : Nat → Word

/-- The n-th free byte (log entry 4). -/
opaque Config.freeByte : Nat → Byte

/-- ECDSA P-384 verification: key, message digest, signature (named by the rules on signatures; log entry 6). -/
opaque Config.ecdsaVerify : Bytes → Bytes → Bytes → Bool

/-- The ECDSA P-384 signature of the device's attestation key over a message digest, 96 bytes (R526; log entry 6). -/
opaque Config.attestSign : Bytes → Vector Byte 96

/-- The fuse-set device identity WORLD_DEV_ID, and the attestation public key, per part (R535; log entry 6). -/
opaque Config.devId : Nat → Word

/-- The attestation public key, word by word (R535; log entry 6). -/
opaque Config.attestPub : Nat → Word

/-- The SHA-384 digest fused for a debug key, and none for a key that is absent (R529, R530; log entry 6). -/
opaque Config.fusedKey : Nat → Option (Vector Byte 48)

/-- The HAP_VDRV rail as the device measures it, in mV (R436; log entry 38). -/
opaque Config.hapVdrv : Nat

/-- The domain a temperature sensor belongs to, fuse-set (R553; log entry 50). -/
opaque Config.sensorDomain : Nat → Fin 24

/-- The switched capacitance C_NF of a domain, fuse-set (R543, R567; log entry 50). -/
opaque Config.domainNf : Nat → BitVec 16

/-- CHIP_REV: MAJOR and MINOR, fuse-set (R8; log entry 8). -/
opaque Config.chipRev : Word

/-- The hardware version a UIF shows for a kind of unit (R29; log entry 8). -/
opaque Config.hwVersion : Nat → BitVec 16

/-- RENDER_XLATE_VER of translator firmware of version 0 (R291, R329; log entry 8). -/
opaque Config.xlateBase : Word

/-- The SHA-384 digest fused for an owner key, and none for a key that is absent or revoked (R573; log entry 6). -/
opaque Config.ownerKey : Nat → Option (Vector Byte 48)

/-- Which failing status a slot's check reports, by the condition of R574 that fails: the status code less 1 (log entry 59). -/
opaque Config.slotFault : Nat → Fin 21

/-- Which failing status the absence of an essential record reports: the status code less 1 (R581; log entry 59). -/
opaque Config.absentRecord : Nat → Fin 21

/-- The AES-256-GCM tag of a persistent-settings or recorder area, over its header after the tag and its records (R589; log entry 6). -/
opaque Config.areaTag : Bytes → Vector Byte 16

/-- The bodies of LPDDR_TRAIN, and the model terms of THERMAL_MODEL, as the device records them (R590; log entry 62). -/
opaque Config.trainBody : Bytes
opaque Config.modelTerms : Bytes

/-- The level of VR_PWMp of a phase that is driven, at a device time: the controller's pulses between its 10 µs decisions (R546, R703; log entry 78). -/
opaque Config.pwmLevel : Nat → Nat → Bool

end Sys2Proof
end

