-- ==== Sys2Proof/Machine/Tbl.lean ====
section
/-!
DEFINITION. Tbl: a table from natural numbers to values, held as a list of pairs in one canonical form: keys strictly rising, and
no pair that holds the value an unlisted key reads as. Memory, the register file and every table of the state take this form.
-/
namespace Sys2Proof.Machine

/-- A table from numbers to values. -/
abbrev Tbl (α : Type) := List (Nat × α)

/-- The value at a key; an unlisted key reads as `d`. -/
def tget {α : Type} (d : α) : Tbl α → Nat → α
  | [], _ => d
  | (k', v) :: m, k => if k = k' then v else tget d m k

/-- The table without a key. -/
def tdel {α : Type} : Tbl α → Nat → Tbl α
  | [], _ => []
  | (k', v) :: m, k => if k = k' then tdel m k else (k', v) :: tdel m k

/-- The table with a pair put in before the first larger key. -/
def tins {α : Type} (k : Nat) (v : α) : Tbl α → Tbl α
  | [] => [(k, v)]
  | (k', v') :: m => if k < k' then (k, v) :: (k', v') :: m else (k', v') :: tins k v m

/-- The table with `v` at `k`. A value equal to what an unlisted key reads as is not listed. -/
def tset {α : Type} [DecidableEq α] (d : α) (m : Tbl α) (k : Nat) (v : α) : Tbl α :=
  if v = d then tdel m k else tins k v (tdel m k)

/-- Every key of the table is above `b`, and the keys rise strictly. -/
def tsorted {α : Type} : Option Nat → Tbl α → Bool
  | _, [] => true
  | b, (k, _) :: m => (match b with | none => true | some x => decide (x < k)) && tsorted (some k) m

/-- The canonical form: keys strictly rising and no pair equal to what an unlisted key reads as. -/
def twf {α : Type} [DecidableEq α] (d : α) (m : Tbl α) : Bool :=
  tsorted none m && m.all (fun c => decide (c.2 ≠ d))

/-- The table with the value at a key changed by a function. -/
def tmod {α : Type} [DecidableEq α] (d : α) (m : Tbl α) (k : Nat) (f : α → α) : Tbl α :=
  tset d m k (f (tget d m k))

/-- The table without the keys from `lo` up to but not including `hi`. -/
def tcut {α : Type} : Tbl α → Nat → Nat → Tbl α
  | [], _, _ => []
  | (k, v) :: m, lo, hi => if lo ≤ k ∧ k < hi then tcut m lo hi else (k, v) :: tcut m lo hi

/-- `n` bytes from address `a` on. -/
def readBytes (m : Tbl Byte) (a : Nat) : Nat → Bytes
  | 0 => []
  | n + 1 => tget 0 m a :: readBytes m (a + 1) n

/-- The bytes written from address `a` on. -/
def writeBytes (m : Tbl Byte) (a : Nat) : Bytes → Tbl Byte
  | [] => m
  | b :: bs => writeBytes (tset 0 m a b) (a + 1) bs

/-- The number a run of bytes holds, little-endian (conventions, Byte order). -/
def leNat : Bytes → Nat
  | [] => 0
  | b :: bs => b.toNat + 256 * leNat bs

/-- `n` bytes that hold a number, little-endian. -/
def leBytes (v : Nat) : Nat → Bytes
  | 0 => []
  | n + 1 => BitVec.ofNat 8 v :: leBytes (v / 256) n

/-- Bits hi to lo of a number. -/
def bits (v hi lo : Nat) : Nat := v / 2 ^ lo % 2 ^ (hi + 1 - lo)

/-- One bit of a number. -/
def bit (v i : Nat) : Bool := v.testBit i

/-- A number with bits hi to lo replaced by the low bits of `x`. -/
def setBits (v hi lo x : Nat) : Nat :=
  v / 2 ^ (hi + 1) * 2 ^ (hi + 1) + x % 2 ^ (hi + 1 - lo) * 2 ^ lo + v % 2 ^ lo

/-- 1 or 0 for a truth value. -/
def b2n (b : Bool) : Nat := if b then 1 else 0

/-- The signed value of the low `w` bits (two's complement). -/
def sext (w v : Nat) : Int :=
  let u := v % 2 ^ w
  if u < 2 ^ (w - 1) then (u : Int) else (u : Int) - (2 ^ w : Nat)

/-- The low `w` bits of an integer (two's complement). -/
def tobits (w : Nat) (i : Int) : Nat := (i % ((2 ^ w : Nat) : Int)).toNat

/-- An integer held between two bounds. -/
def clampI (lo hi i : Int) : Int := if i < lo then lo else if hi < i then hi else i

/-- A counter of `w` bits that stops at its highest value. -/
def satAdd (w v n : Nat) : Nat := min (v + n) (2 ^ w - 1)

/-- Division rounded up. -/
def cdiv (a b : Nat) : Nat := (a + b - 1) / b

/-- The elements of a list with one replaced, if it is there. -/
def lset {α : Type} : List α → Nat → α → List α
  | [], _, _ => []
  | _ :: xs, 0, v => v :: xs
  | x :: xs, n + 1, v => x :: lset xs n v

end Sys2Proof.Machine
end

