-- ==== Sys2Proof/Machine/Variants.lean ====
section
/-!
DEFINITION. Variants: the twelve parts of the family and what each has (R1, R2, R711).
-/
namespace Sys2Proof.Machine

/-- The parts of the family (R1). -/
inductive Variant where
  | zt1680
  | zt1664
  | zt1648
  | zt1632n
  | zt1232
  | zt0832a
  | zt0824a
  | zt0816a
  | zt0612a
  | zt0408a
  | zt0404a
  | zt0202a
  deriving DecidableEq, Repr, Inhabited

/-- The unit counts of a part, by the columns of R1 and R711. -/
structure VariantRow where
  code : Nat
  pipes : Nat
  dpPorts : Nat
  dsiPorts : Nat
  clusters : Nat
  appCores : Nat
  vis : Nat
  contexts : Nat
  seedbankMiB : Nat
  lpChannels : Nat
  audioIn : Nat
  audioOut : Nat
  electrodes : Nat
  haptics : Nat
  icvikPorts : Nat
  large : Bool
  automotive : Bool
  capMaxW : Nat
  capDefaultW : Nat
  engines : Nat
  scalers : Nat
  backends : Nat
  plls : Nat
  dscs : Nat
  deriving DecidableEq, Repr, Inhabited

/-- The row of a part in the tables of R1 and R711. -/
def Variant.row : Variant → VariantRow
  | .zt1680 => ⟨1, 16, 16, 0, 32, 8, 256, 1024, 16384, 8, 512, 256, 512, 16, 4, true, false, 130, 110, 8, 32, 8, 8, 8⟩
  | .zt1664 => ⟨2, 16, 16, 0, 24, 8, 256, 1024, 16384, 8, 512, 256, 512, 16, 4, true, false, 95, 85, 8, 32, 6, 8, 8⟩
  | .zt1648 => ⟨3, 16, 16, 0, 16, 8, 256, 768, 16384, 8, 512, 256, 256, 8, 2, true, false, 75, 65, 8, 32, 4, 8, 8⟩
  | .zt1632n => ⟨4, 16, 16, 0, 8, 8, 256, 512, 16384, 8, 512, 256, 0, 0, 4, true, false, 55, 50, 8, 32, 2, 8, 8⟩
  | .zt1232 => ⟨5, 12, 12, 0, 12, 6, 192, 512, 8192, 8, 256, 128, 256, 8, 2, true, false, 60, 55, 6, 24, 3, 6, 6⟩
  | .zt0832a => ⟨6, 8, 8, 4, 16, 8, 128, 512, 8192, 8, 512, 256, 512, 16, 0, true, true, 60, 50, 4, 16, 4, 4, 4⟩
  | .zt0824a => ⟨7, 8, 8, 4, 12, 6, 128, 512, 8192, 8, 256, 128, 384, 16, 0, true, true, 48, 42, 4, 16, 3, 4, 4⟩
  | .zt0816a => ⟨8, 8, 6, 4, 8, 4, 64, 256, 8192, 4, 256, 128, 256, 12, 0, false, true, 36, 32, 4, 16, 2, 4, 4⟩
  | .zt0612a => ⟨9, 6, 4, 4, 6, 4, 64, 256, 8192, 4, 256, 128, 192, 8, 0, false, true, 30, 26, 3, 12, 2, 3, 3⟩
  | .zt0408a => ⟨10, 4, 4, 2, 4, 4, 32, 128, 4096, 4, 128, 64, 128, 8, 0, false, true, 22, 18, 2, 8, 1, 2, 2⟩
  | .zt0404a => ⟨11, 4, 2, 2, 2, 2, 16, 64, 4096, 2, 128, 64, 96, 4, 0, false, true, 15, 12, 2, 8, 1, 2, 2⟩
  | .zt0202a => ⟨12, 2, 2, 0, 1, 2, 8, 32, 4096, 2, 64, 32, 64, 4, 0, false, true, 9, 8, 1, 4, 1, 1, 1⟩

end Sys2Proof.Machine
end

