-- ==== Sys2Proof/Machine/State.lean ====
section
/-!
DEFINITION. State: everything the spec gives the device, as plain data, and the state right after reset.
-/
namespace Sys2Proof.Machine

/-- A command stops with a fault: none does. Every condition the spec names is a status code, an event or a state of the device,
so no constructor is needed; the type is empty (safe: nothing stops). -/
inductive Fault : Type
  deriving DecidableEq, Repr

/-- Why a command is refused. -/
inductive Refusal where
  /-- Raised by the dispatch for a command that has no meaning yet (safe: the machine stops). -/
  | notModelled (mnemonic : String)
  deriving DecidableEq, Repr

/-! ### Channels, rings and units (Pods, units and handles) -/

/-- Where a channel index stands (R48, R62). -/
inductive ChanPhase where
  /-- Holds no channel. -/
  | free
  /-- Taken by a CREATE that has not completed, with its TAG. -/
  | creating (tag : Nat)
  /-- Holds a channel. -/
  | live
  /-- A DESTROY was accepted, with its TAG; its work has not all left the device. -/
  | draining (tag : Nat)
  deriving DecidableEq, Repr, Inhabited

/-- What hardware did to registers at the current instant (R13, R14): the W1C bits it set, by key, and of an RC register the value it had
before the first update and what the updates came to. -/
structure Cycle where
  raised : Tbl Nat := []
  updates : Tbl (Option (Nat × Nat)) := []
  deriving DecidableEq, Repr, Inhabited

/-- A channel index: its phase and the window that owns it (R47, R48). -/
structure Chan where
  phase : ChanPhase := .free
  owner : Nat := 0
  deriving DecidableEq, Repr, Inhabited

/-- A control-ring entry read and accepted, waiting to be processed (R58, R60). -/
structure CtlEntry where
  /-- A CREATE that was accepted and has not completed: the entries after it wait (R60). -/
  begun : Bool := false
  opcode : Nat
  kind : Nat
  tag : Nat
  handle : Nat
  paramAddr : Nat
  paramLen : Nat
  ring : Nat
  deriving DecidableEq, Repr, Inhabited

/-- A unit as its unit interface shows it (R28, R29). State codes are those of UIF_POWER.STATE and UIF_HEALTH.STATE. -/
structure UnitSt where
  req : Nat := 0
  state : Nat := 0
  powerResult : Nat := 0
  target : Nat := 0
  resetBusy : Bool := false
  resetResult : Nat := 0
  restarts : Nat := 0
  lastStatus : Nat := 0
  health : Nat := 0
  slotActive : Nat := 0
  slotPending : Nat := 0
  verA : Nat := 0
  verB : Nat := 0
  fw : Nat := 0
  spare : Bool := false
  uifMoved : Nat := 0
  /-- OFFLINE until device reset (R607). -/
  gaveUp : Bool := false
  deriving DecidableEq, Repr, Inhabited

/-- The event of a record that waits, by R587, for the PF event ring: kind, status, handle, detail, time. -/
structure QueuedEvent where
  kind : Nat
  status : Nat
  handle : Nat
  detail : Nat
  time : Nat
  deriving DecidableEq, Repr, Inhabited

/-- Units, channels and rings. -/
structure Pods where
  /-- Units by directory index (R37). -/
  units : Tbl UnitSt := []
  /-- Channels by kind × 2^18 + index (R45). -/
  chans : Tbl Chan := []
  /-- Generation of each index (R48). -/
  gens : Tbl Nat := []
  /-- When each index was freed, as a count of frees; 0 for one never used (R49). -/
  freed : Tbl Nat := []
  freeSeq : Nat := 0
  /-- The control entry of each window that is being processed (R60). -/
  ctl : Tbl (Option CtlEntry) := []
  /-- Entries read from a bound ring and not yet started: by the channel's key, and for check contexts by the ring's (R56, R268). -/
  fetched : Tbl (List Bytes) := []
  /-- Events not written since the last EVENTS_LOST record, per window (R69). -/
  lostSince : Tbl Nat := []
  /-- Records not yet signalled, per window, and when the first of them was written (R67). -/
  unsignalled : Tbl Nat := []
  firstUnsignalled : Tbl (Option Nat) := []
  /-- Interrupts raised, by window × 64 + vector (R67). -/
  msix : Tbl Nat := []
  /-- PF events raised while the PF event ring is disabled (R587). -/
  pfQueue : List QueuedEvent := []
  deriving DecidableEq, Repr, Inhabited

/-! ### Seedbank and external memory -/

/-- A chunk of the Seedbank or LPDDR: its state code of R105 and its owner; spare and failed chunks are computed. -/
structure ChunkSt where
  state : Nat := 0
  owner : Nat := 0
  retired : Nat := 0
  deriving DecidableEq, Repr, Inhabited

/-- One 2 MiB chunk of a function's local space (R75, R79). -/
structure MapEnt where
  mapped : Bool := false
  /-- 0 Seedbank, 1 LPDDR, 3 a remote chunk of an import (R642). -/
  mem : Nat := 0
  chunk : Nat := 0
  readOnly : Bool := false
  deriving DecidableEq, Repr, Inhabited

/-- A memory chunk channel (R77). -/
structure MemChan where
  daddr : Nat := 0
  count : Nat := 0
  mem : Nat := 0
  readOnly : Bool := false
  chunks : List Nat := []
  deriving DecidableEq, Repr, Inhabited

/-- A page in a suspect table: the times of its corrected errors, latest first (R90). -/
structure Suspect where
  mem : Nat
  page : Nat
  times : List Nat
  deriving DecidableEq, Repr, Inhabited

/-- A page retired, or being retired, to a spare page (R92). -/
structure Retirement where
  mem : Nat
  page : Nat
  spare : Nat
  deriving DecidableEq, Repr, Inhabited

/-- The memories and their managers. -/
structure Seed where
  /-- Whether each Seedbank stack is present and in service: 0 absent, 1 in service, 2 FAILED (R105). -/
  stack0 : Nat := 1
  stack1 : Nat := 1
  /-- Spare chunks per Seedbank stack and per LPDDR channel (R94). -/
  sbSpares : Nat := 8
  lpSpares : Nat := 8
  /-- Chunks by memory × 2^20 + number. -/
  chunks : Tbl ChunkSt := []
  /-- Chunk maps by window × 2^19 + local chunk (R75). -/
  maps : Tbl MapEnt := []
  /-- Memory chunk channels by index. -/
  chans : Tbl MemChan := []
  /-- Poisoned 64-bit words by physical address ÷ 8 (R86). -/
  poison : Tbl Bool := []
  suspects : List Suspect := []
  retiring : List Retirement := []
  retired : List Retirement := []
  /-- Memories whose SPARES_EXHAUSTED event was written (R94). -/
  exhausted : List Nat := []
  /-- Chunk the patrol scrub reads next, per memory (R89). -/
  scrubPos : Tbl Nat := []
  /-- One more than the time of the last MEM_FAULT event, per window (R76). -/
  lastFault : Tbl Nat := []
  /-- SCANOUT needs of the pipes in 0.1 GB/s (R102). -/
  needs : Tbl Nat := []
  /-- Bytes granted to each class in the last window, by memory × 8 + class (R100). -/
  granted : Tbl Nat := []
  /-- Time of the last drift tracking of each LPDDR channel (R97). -/
  tracked : Tbl Nat := []
  /-- What fails its test or its training when the start comes to it: Seedbank stacks 0 and 1, LPDDR channel c as 2 + c (R98). -/
  defects : List Nat := []
  /-- LPDDR was trained in full, its calibration data having failed its check (R97). -/
  trainedFull : Bool := false
  deriving DecidableEq, Repr, Inhabited

/-! ### Worlds and hulls -/

/-- A region entry in force (R514). -/
structure RcEntry where
  en : Bool := false
  hullHeld : Bool := false
  sRwx : Nat := 0
  nRwx : Nat := 0
  classes : Nat := 0
  hullSel : Nat := 0
  hull : Nat := 0
  viSel : Nat := 0
  vi : Nat := 0
  limit : Nat := 0
  base : Nat := 0
  deriving DecidableEq, Repr, Inhabited

/-- A claim on a directory index: 0 NONE, 1 HELD, 2 LOST (R531). -/
structure Claim where
  state : Nat := 0
  deriving DecidableEq, Repr, Inhabited

/-- An application-core hart as far as worlds and hulls concern it (R511, R520, R523): whether it has left the secure world, the hull
it executes in, its general registers by number, where it executes, the instruction after its ENTER, the last trap delivered to it
(0 none, 1 access fault, 2 HULL_EXIT), and its bank of HULL_ARG0 to HULL_ARG2 and HULL_STATUS. -/
structure HartSt where
  normal : Bool := false
  hull : Option Nat := none
  x : Tbl Nat := []
  pc : Nat := 0
  ret : Nat := 0
  trap : Nat := 0
  arg0 : Nat := 0
  arg1 : Nat := 0
  arg2 : Nat := 0
  status : Nat := 0
  deriving DecidableEq, Repr, Inhabited

/-- A hull (R520 to R525): its state code, its world, DEBUG_OK, its memory and range, its region entry, its measurement, its entry
offset, and the hart whose DESTROY is pending. -/
structure Hull where
  state : Nat := 0
  secure : Bool := false
  debugOk : Bool := false
  mem : Nat := 0
  base : Nat := 0
  size : Nat := 0
  entry : Nat := 0
  m : Bytes := []
  start : Nat := 0
  by_ : Nat := 0
  deriving DecidableEq, Repr, Inhabited

/-- Worlds, region controllers, hulls, debug and claims. -/
structure Worlds where
  harts : Tbl HartSt := []
  hulls : Tbl Hull := []
  /-- Windows being closed, by controller × 64 + entry, with one more than the hart that closes them (R524). -/
  closing : Tbl Nat := []
  /-- Token enables: of worlds as WORLDS encodes them, and of hulls, non-invasive and invasive (R528, R530). -/
  tokWorlds : Nat := 0
  tokNi : Nat := 0
  tokI : Nat := 0
  /-- Region entries in force by controller × 64 + entry (R515). -/
  entries : Tbl RcEntry := []
  claims : Tbl Claim := []
  /-- One more than the time of the last REGION_DENIED event of each controller (R518). -/
  lastDenied : Tbl Nat := []
  /-- Controllers out of service (R519). -/
  rcFaulted : List Nat := []
  deriving DecidableEq, Repr, Inhabited

/-! ### Virtual instances -/

/-- Dirty logging of a VI: the bitmap area in the PF's local space, the local limit, the host window and its pages (R503). -/
structure DirtyCfg where
  area : Nat := 0
  limit : Nat := 0
  hostBase : Nat := 0
  hostPages : Nat := 0
  deriving DecidableEq, Repr, Inhabited

/-- A VIMGR command that is pending: opcode, parameter block, and when it was accepted (R478, R480). -/
structure VimOp where
  op : Nat
  par : Nat
  at_ : Nat
  deriving DecidableEq, Repr, Inhabited

/-- A VI reset in progress: its cause of R509, the state it came from, whether it ends in FREE, and when it was accepted (R492). -/
structure VimReset where
  cause : Nat
  from_ : Nat
  destroy : Bool
  at_ : Nat
  deriving DecidableEq, Repr, Inhabited

/-- Virtual instances beyond what their registers show. -/
structure Vims where
  /-- Functions whose Bus Master Enable is clear, by link × 256 + VF (R476; set after reset, log entry 41). -/
  noMaster : List Nat := []
  /-- The command of each VI that is pending (R480). -/
  ops : Tbl (Option VimOp) := []
  /-- The reset of each VI in progress (R492). -/
  resets : Tbl (Option VimReset) := []
  /-- VIs restored from an image and not thawed since; records to be translated at the THAW: address and the key they had (R496). -/
  restored : List Nat := []
  retrans : Tbl (List (Nat × Nat)) := []
  /-- One more than the start of the last 1 ms spoof window of each VI (R490). -/
  spoofAt : Tbl Nat := []
  /-- Dirty logging per VI, where it is on (R503). -/
  dirty : Tbl (Option DirtyCfg) := []
  deriving DecidableEq, Repr, Inhabited

/-! ### Layers, commits, fences and pipes -/

/-- A layer slot in use (R107 to R111). Records are the numbers their 128 bytes hold. -/
structure LayerSt where
  pipe : Nat := 0
  direct : Bool := false
  /-- The state shown last, or due to be shown: 0 for a disabled layer. -/
  shown : Nat := 0
  /-- A state taken and not ready (R186). -/
  pend : Option Nat := none
  /-- The pending state has a scaler reserved (R171). -/
  pendRes : Bool := false
  /-- Switched off by a fault until a commit names it (R194). -/
  off : Bool := false
  /-- The scaler held (R142). -/
  scaler : Option Nat := none
  /-- Release fences to signal at the next decision point: fence handle and value (R184). -/
  rel : List (Nat × Nat) := []
  /-- The state in effect has not been shown yet. -/
  fresh : Bool := false
  /-- The state in effect was switched off by a fault and its buffer released: nothing shows it again (R184, R194). -/
  dead : Bool := false
  deriving DecidableEq, Repr, Inhabited

/-- An entry of a commit that passed its check (R166). -/
structure CommitEnt where
  slot : Nat
  gen : Nat
  lsr : Nat
  res : Bool
  deriving DecidableEq, Repr, Inhabited

/-- Where an accepted commit stands (R165, R173, R176). -/
inductive CommitPhase where
  | checking
  | waiting
  /-- Taken by the running composition; its direct states wait for the latch point. -/
  | composing
  /-- Taken by a composition that was abandoned; the next composition takes it again (R190). -/
  | again
  deriving DecidableEq, Repr, Inhabited

/-- An accepted commit that has not latched (R168). -/
structure Commit where
  w : Nat
  pipe : Nat
  token : Nat
  list : Nat
  /-- Frames it would first be shown in, composed or direct, by the moment of acceptance (R172). -/
  ifComposed : Nat
  ifDirect : Nat
  phase : CommitPhase := .checking
  composed : Bool := false
  target : Nat := 0
  ents : List CommitEnt := []
  /-- Its VI was reset after it was taken: what it still writes carries an old generation (R178, R493). -/
  dead : Bool := false
  deriving DecidableEq, Repr, Inhabited

/-- A fence (R179, R180). -/
structure FenceSt where
  value : Nat := 0
  mirror : Nat := 0
  deriving DecidableEq, Repr, Inhabited

/-- A layer as a frame draws it: its slot, its owner's window, its record, whether it shows SOLID (R186), whether its outline is
drawn (R149), and its vertical taps (R147). -/
structure Drawn where
  slot : Nat
  owner : Nat
  lsr : Nat
  solid : Bool
  hl : Bool
  taps : Nat
  deriving DecidableEq, Repr, Inhabited

/-- A composition (R161, R163). -/
structure Composition where
  /-- The frame it composes. -/
  frame : Nat
  buffer : Nat
  /-- Still waiting for the check of a commit accepted before its compose-start (R174). -/
  waiting : Bool := false
  done : Bool := false
  /-- When it finished (R664). -/
  doneAt : Nat := 0
  /-- Background, blending space and reflex highlight flags as sampled at the compose-start (R127, R150, R157). -/
  bg : Nat := 0
  linear : Bool := false
  hls : List Nat := []
  layers : List Drawn := []
  /-- Tiles already composed, row by row (R132, R194). -/
  tiles : List Nat := []
  /-- Slots that met a reserved flag, and slots with a pixel of their outline drawn (R139, R156). -/
  reserved : List Nat := []
  outlined : List Nat := []
  /-- Chunk mappings removed since it started: it goes on to read through them (R193). -/
  held : Tbl MapEnt := []
  /-- The metadata words are still to be read (R251). -/
  metasDue : Bool := false
  /-- The metadata words read for the frame, by slot (R251). -/
  metas : List (Nat × Nat) := []
  /-- It uses the configuration of a RECONFIG that has not reached its first line 0 (R208). -/
  next : Bool := false
  deriving DecidableEq, Repr, Inhabited

/-- A composed frame on its way to a writeback buffer: its number, the frame it is first shown in, its rows, and its target (R153). -/
structure WbFrame where
  target : Nat
  n : Nat
  frame : Nat
  rows : List Bytes
  deriving DecidableEq, Repr, Inhabited

/-- A pipe configuration in force or reserved (R199, R204). -/
structure PipeCfg where
  hActive : Nat := 0
  hTotal : Nat := 0
  hStart : Nat := 0
  hWidth : Nat := 0
  vActive : Nat := 0
  vTotal : Nat := 0
  vStart : Nat := 0
  vWidth : Nat := 0
  ctrl : Nat := 0
  clock : Nat := 0
  output : Nat := 0
  /-- PLL_INT.N × 2^24 + PLL_FRAC.F and the divider, without trim. -/
  factor : Nat := 0
  divider : Nat := 1
  deriving DecidableEq, Repr, Inhabited

/-- A Pip sprite as taken (R618). -/
structure Sprite where
  icon : Nat
  x : Nat
  y : Nat
  colour : Nat
  deriving DecidableEq, Repr, Inhabited

/-- A frame-store buffer of a pipe: its chunks, and the safety rectangles and metadata words of the frame it holds (R81, R129, R251). -/
structure StoreBuf where
  chunks : List Nat := []
  safety : List (Int × Int × Nat × Nat) := []
  metas : List (Nat × Nat) := []
  /-- The space it was blended in (R127). -/
  linear : Bool := false
  /-- Slots shown from their buffers, with PROTECTED_SAFETY, in the frame it holds (R251). -/
  sources : List Nat := []
  deriving DecidableEq, Repr, Inhabited

/-- A pipe beyond its registers. -/
structure PipeSt where
  cfg : PipeCfg := {}
  /-- The configuration of an accepted RECONFIG until its first line 0, with its frame store (R208). -/
  next : Option PipeCfg := none
  store : List StoreBuf := []
  nextStore : List StoreBuf := []
  /-- The checks that run: 0 none, 1 of an ENABLE, 2 of a RECONFIG (R205). -/
  checks : Nat := 0
  /-- The configuration held at the write that started the checks. -/
  held : PipeCfg := {}
  /-- ENABLE was written 0 while the checks run (R209). -/
  abandon : Bool := false
  /-- ENABLE was written 0 during STARTING, or while an accepted RECONFIG waits (R209). -/
  stop : Bool := false
  /-- The pipe has started since reset, and the number of the last frame shown (R207). -/
  begun : Bool := false
  frameNo : Nat := 0
  /-- The buffer being scanned, and the one composed for the next frame. -/
  front : Nat := 0
  ready : Option Nat := none
  comp : Option Composition := none
  /-- Composition has something to do at the next compose-start (R138). -/
  dirty : Bool := true
  /-- What the last composition sampled: background, blending space and highlight flags (R138). -/
  last : Option (Nat × Bool × List Nat) := none
  /-- Whether compose-start and latch point of the current frame have passed (R172). -/
  csDone : Bool := false
  latchDone : Bool := false
  cs : Nat := 0
  directs : List Drawn := []
  /-- Position from which a direct layer is off in this frame: slot, line, pixel (R194, R213). -/
  offAt : List (Nat × Nat × Nat) := []
  /-- Slots whose UNDERRUN was reported in this frame (R213). -/
  underran : List Nat := []
  /-- Direct layers whose reflex flag was set at the last latch point, and those that met a reserved flag in this frame (R139, R150). -/
  hls : List Nat := []
  rsvMet : List Nat := []
  directMetas : List (Nat × Nat) := []
  colour : Nat := 0x80
  sprites : List Sprite := []
  /-- A REPLACE written in the current line: in force from the next one on (R221). -/
  replace : Option Bool := none
  /-- Lines of the current frame already sent, and the pixels sent: line × 8,192 + position, 16 bits a component, R lowest. -/
  scanned : Nat := 0
  out : Tbl Nat := []
  /-- Pip-first: stage 1 delivers the Pip background (R584, R612); its link is idle for the next frame (R599). -/
  pipFirst : Bool := false
  idle : Bool := false
  /-- The spare that takes the pipe over, once locked or due without lock; and the pipe a spare is taking over (R599). -/
  moveTo : Option Nat := none
  spareOf : Option Nat := none
  deriving DecidableEq, Repr, Inhabited

/-- Frame lock of a pipe (R234 to R237). -/
structure LockSt where
  lock : Nat := 0x00400A00
  good : Nat := 0
  bad : Nat := 0
  trim : Int := 0
  /-- Lines by which the front porch of the current frame is longer (R235). -/
  slew : Nat := 0
  /-- The instant of the last line 0, and whether there was one. -/
  zeroAt : Nat := 0
  seen : Bool := false
  deriving DecidableEq, Repr, Inhabited

/-- The Pip lane: what it holds of the safety owner's content (R219, R617 to R621). -/
structure PipSt where
  /-- PIP_SPRITES as loaded into the Pip store. -/
  sprites : Bytes := []
  /-- The sprite list captured by COMMIT and not yet taken, per pipe. -/
  captured : Tbl (Option (List Sprite)) := []
  /-- Words the Pip lane firmware wrote for a list of its own, by p × 0x400 + offset (R614, R619; log entry 78). -/
  own : Tbl Nat := []
  /-- The firmware's own list, per pipe (R619). -/
  overrides : Tbl (Option (List Sprite)) := []
  /-- The safety owner's list as last taken, per pipe. -/
  taken : Tbl (List Sprite) := []
  /-- The 128-byte block of PIP_CONFIG as loaded, as a number (R620). -/
  config : Nat := 0
  deriving DecidableEq, Repr, Inhabited

/-- Layers, commits, fences, writeback and pipes. -/
structure Display where
  layers : Tbl LayerSt := []
  /-- Accepted commits that have not latched, in order of acceptance (R175). -/
  commits : List Commit := []
  fences : Tbl FenceSt := []
  /-- Writeback targets by index: the parameter block and the count of composed frames (R152, R153). -/
  wbParams : Tbl Nat := []
  wbCount : Tbl Nat := []
  /-- Pipes whose configuration in force has had its WB_FAULT for a width that does not fit, and as 16 + p those whose RECONFIG that waits has
  (R154). -/
  wbMisfit : List Nat := []
  /-- The composed frames being written back, per pipe, oldest first. -/
  wbFrame : Tbl (List WbFrame) := []
  /-- Composition clocks of the last 10 ms: time, window, clocks (R343). -/
  use : List (Nat × Nat × Nat) := []
  pipes : Tbl PipeSt := []
  locks : Tbl LockSt := []
  /-- PLL settings held while an output is in use: PLL_INT, PLL_FRAC, PLL_DIV in force (R203). -/
  plls : Tbl (Nat × Nat × Nat) := []
  /-- DSC_CFG in force by encoder (R225). -/
  dscs : Tbl Nat := []
  /-- DP_CTRL mode and DSI_CTRL in force by port (R244). -/
  dpModes : Tbl Nat := []
  dsiCtrls : Tbl Nat := []
  /-- Payloads of MST streams in order of pipe start: port, stream, pipe (R230). -/
  payloads : List (Nat × Nat × Nat) := []
  /-- Streams made LINK_SHORT: pipe (R228). -/
  short : List Nat := []
  /-- Ports on which video is being carried: pipe (R229). -/
  video : List Nat := []
  /-- The AUX request and the LP command being served, by port (R231, R233). -/
  aux : Tbl (Option Nat) := []
  lp : Tbl (Option Nat) := []
  /-- Ports whose link is being trained (R228), and the payload capacity of each trained link, in bit/s. -/
  training : List Nat := []
  capacity : Tbl Nat := []
  /-- Pod frame references in force: epoch and period (R640). -/
  podRefs : Tbl (Nat × Nat) := []
  deriving DecidableEq, Repr, Inhabited

/-! ### Check units -/

/-- The registers of a display check region in force (R254). -/
structure Region where
  ctrl : Nat := 0
  xy : Nat := 0
  wh : Nat := 0x00010001
  src : Nat := 0
  e0 : Nat := 0
  e1 : Nat := 0
  e2 : Nat := 0
  e3 : Nat := 0
  /-- It has computed a frame since it was enabled (R260). -/
  seen : Bool := false
  deriving DecidableEq, Repr, Inhabited

/-- A check context (R266): its parameter block, reg, the stored alive value, and the entry that runs. -/
structure CheckCtx where
  params : Nat := 0
  reg : Nat := 0
  stored : Option Nat := none
  running : Option Bytes := none
  /-- The ring whose entry runs, or ran last. -/
  ring : Nat := 0
  deriving DecidableEq, Repr, Inhabited

/-- Check units. -/
structure Checks where
  /-- Regions in force by pipe × 16 + region. -/
  regions : Tbl Region := []
  ctxs : Tbl CheckCtx := []
  /-- Rings of contexts whose next entry waits for a unit, in the order in which those entries became ready (R268). -/
  ready : List Nat := []
  /-- One more than the time of the last publication, or of the start, of each pipe's set (R257). -/
  published : Tbl Nat := []
  /-- The last frame published of each pipe's set (R257). -/
  lastFrames : Tbl Nat := []
  deriving DecidableEq, Repr, Inhabited

/-! ### Render queues and translation -/

/-- A translated pipeline in a cache: its key, the 64 KiB units it takes, whether it is a compute pipeline, and of a graphics one the
colour formats, depth and stencil formats and samples (R282, R289, R326). -/
structure XlateEnt where
  key : Nat
  units : Nat
  compute : Bool
  /-- The address of the record it was translated from (R496, R502). -/
  addr : Nat := 0
  colour : Nat := 0
  depth : Nat := 0
  stencil : Nat := 0
  samples : Nat := 0
  /-- Its fixed state, and from bit 1024 its vertex bindings and from bit 1536 its attributes, as the record holds them (R282, R283). -/
  fixed : Nat := 0
  deriving DecidableEq, Repr, Inhabited

/-- An accepted translation request: OP, record address, token, fence and value (R285). -/
structure XlateReq where
  op : Nat
  addr : Nat
  token : Nat
  fence : Nat
  value : Nat
  /-- The version of the translator that accepted it (R291). -/
  ver : Nat
  deriving DecidableEq, Repr, Inhabited

/-- A descriptor that started and has not completed: its count, its 32 bytes as a number, whether its work is done, and the samples
of it that passed (R303, R309). -/
structure Desc where
  cnt : Nat
  word : Nat
  done : Bool := false
  passed : Nat := 0
  /-- The records of a draw: its payload, or those a DRAW_INDIRECT read (R306). -/
  recs : List Nat := []
  /-- The limit in force when its work started: SCHED_WATCHDOG in µs, or SCHED_FILL_LIMIT in ms (R349). -/
  limit : Nat := 0
  /-- The queue's times on clusters when it started: with any cluster, and summed over clusters, in ns (R347, R348). -/
  held0 : Nat := 0
  clusterTime0 : Nat := 0
  /-- What the queue had bound when it started: fixed state, tables, index and vertex buffers, scissor (R305). -/
  fixed : Nat := 0
  tables : Tbl (Nat × Nat) := []
  index : Option (Nat × Nat × Bool) := none
  vertex : Tbl (Nat × Nat) := []
  scissor : Option Nat := none
  deriving DecidableEq, Repr, Inhabited

/-- One sample of an attachment as work of a pass writes it: attachment 0 to 7, 8 depth or 9 stencil; pixel; sample; its bytes as a number. -/
structure Sample where
  att : Nat
  x : Nat
  y : Nat
  smp : Nat
  v : Nat
  deriving DecidableEq, Repr, Inhabited

/-- What work of an open pass does to attachment content, in order (R298, R318). -/
inductive PassOp where
  /-- A clear of the attachments of a mask over a rectangle. -/
  | clear (mask x y w h : Nat)
  /-- Samples written by a draw. -/
  | draw (px : List Sample)
  deriving DecidableEq, Repr, Inhabited

/-- An open pass (R306, R310). -/
structure Pass where
  cnt : Nat
  header : Nat
  /-- The ten attachment entries, each the number its 64 bytes hold (R311). -/
  atts : List Nat
  /-- The mode it started in and the mode it runs in: 0 TILED, 1 IMMEDIATE. -/
  started : Nat
  immediate : Bool
  unordered : Bool
  sig : Nat
  /-- PASS_END has started (R305). -/
  ended : Bool := false
  /-- Attachment work binned and not yet rendered, and the tiles it touches (R313). -/
  ops : List PassOp := []
  tiles : List (Nat × Nat) := []
  /-- Tiles already rendered by a flush (R324). -/
  flushed : List (Nat × Nat) := []
  /-- Tile chunks that bins of the pass hold, and whether anything was binned since the last flush. -/
  chunks : Nat := 0
  binned : Bool := false
  flushes : Nat := 0
  fallback : Bool := false
  reported : Bool := false
  energy : Nat := 0
  deriving DecidableEq, Repr, Inhabited

/-- A queue's active deadline (R336 to R339). -/
structure DeadlineSt where
  pipe : Nat
  frame : Nat
  /-- The order in which it started among all deadlines (R332). -/
  order : Nat
  /-- Met before its instant, or reported missed. -/
  settled : Bool := false
  missed : Bool := false
  deriving DecidableEq, Repr, Inhabited

/-- A render or compute queue. -/
structure QueueSt where
  ctx : Nat := 0
  fill : Bool := false
  prio : Nat := 0
  running : List Desc := []
  /-- The time the queue has held any cluster, and summed over clusters, in ns, up to the instant it was last counted (R347, R348). -/
  held : Nat := 0
  clusterTime : Nat := 0
  holdAt : Nat := 0
  /-- The count of the FENCE_WAIT that holds the queue, its fence handle and value (R308). -/
  wait : Option (Nat × Nat × Nat) := none
  /-- Disabled with work still running (R278). -/
  abandoned : Bool := false
  pass : Option Pass := none
  gPipe : Option XlateEnt := none
  cPipe : Option XlateEnt := none
  /-- Resource tables by set, compute ones from 4 on: address and count (R301). -/
  tables : Tbl (Nat × Nat) := []
  /-- Index buffer: address, size, 32-bit indices. -/
  index : Option (Nat × Nat × Bool) := none
  vertex : Tbl (Nat × Nat) := []
  /-- Push constants, 128 bytes each. -/
  pushG : Nat := 0
  pushC : Nat := 0
  viewport : Option Nat := none
  scissor : Option Nat := none
  /-- An occlusion query is open, and the samples counted since its BEGIN (R309). -/
  occlOpen : Bool := false
  occl : Nat := 0
  /-- The 16 bytes of PASS_INFO on the last completed pass. -/
  info : Option Nat := none
  /-- Signatures with their executions, most recently used first; each execution is its mode and cost, oldest first (R316). -/
  hist : List (Nat × List (Nat × Nat)) := []
  deadline : Option DeadlineSt := none
  /-- LPDDR chunks of the tile-list pool, its free tile chunks, and whether a growth is on its way (R323). -/
  pool : List Nat := []
  freeTiles : Nat := 0
  growing : Bool := false
  /-- Energy charged to the context in µJ (R363). -/
  energy : Nat := 0
  /-- The time at which it last held a cluster (R332). -/
  lastRan : Nat := 0
  /-- It was pre-empted and its state is saved; a save or a restore is on its way (R345). -/
  saved : Bool := false
  saving : Bool := false
  restoring : Bool := false
  deriving DecidableEq, Repr, Inhabited

/-- The render pipeline and the scheduler. -/
structure Render where
  /-- Queues by kind × 2^18 + index. -/
  queues : Tbl QueueSt := []
  /-- Requests accepted and not complete, and own cache entries and chunks, by window. -/
  reqs : Tbl (List XlateReq) := []
  /-- The lowest window whose turn is next (R286). -/
  turn : Nat := 0
  cache : Tbl (List XlateEnt) := []
  cacheChunks : Tbl (List Nat) := []
  shared : List XlateEnt := []
  sharedChunks : List Nat := []
  /-- The queue that holds each cluster; 0 for none. -/
  clusters : Tbl Nat := []
  /-- Clusters allotted to each queue in this tick (R359). -/
  allot : Tbl Nat := []
  deadlines : Nat := 0
  deriving DecidableEq, Repr, Inhabited

/-! ### The budgeter -/

/-- The budgeter and the scheduler's accounts (R350 to R363): the budget of the tick that runs, none before the first tick; energies
measured in the last ticks, newest first; the first tick since the cold start, and ticks measured since; whether P_thermal is derated;
classes short in the last tick; queues that were ready at it; since when each cluster is held (plus 1), and how long each was held by each
queue in this tick (cluster × 2^24 + queue); and the time clusters were held for each VI in the last 100 ticks, newest first. -/
structure BudgetSt where
  /-- Consecutive ticks missed (R367, R608). -/
  missed : Nat := 0
  e : Option Nat := none
  powers : List Nat := []
  first : Option Nat := none
  ticks : Nat := 0
  derated : Bool := false
  short : List Nat := []
  ready : List Nat := []
  since : Tbl Nat := []
  held : Tbl Nat := []
  hist : List (List (Nat × Nat)) := []
  deriving DecidableEq, Repr, Inhabited

/-! ### Audio -/

/-- The effect states of a computation of the matrix: biquad histories x[n−1], x[n−2], y[n−1], y[n−2] by number; what delay lines (by
line) and dynamics processors (by 256 + number) were fed, newest first, as 32-bit words (R382 to R384). -/
structure FxSt where
  biquads : Tbl (Nat × Nat × Nat × Nat) := []
  fed : Tbl (List Nat) := []
  /-- The smoothed reduction and the mean square of each dynamics processor, in the units of Machine/Dynamics.lean (R383). -/
  dyns : Tbl (Int × Nat) := []
  deriving DecidableEq, Repr, Inhabited

/-- A clock domain beyond its registers (R374, R389, R390). -/
structure DomSt where
  running : Bool := false
  /-- ENABLE was written 0; it stops at its next sample boundary. -/
  stopping : Bool := false
  /-- It has passed no boundary since it was enabled. -/
  fresh : Bool := true
  /-- It has taken the new bank of the swap in progress, and the samples of the crossfade delivered. -/
  changed : Bool := false
  k : Nat := 0
  fx : FxSt := {}
  /-- The states of the new bank's computation during a crossfade. -/
  fxNew : Option FxSt := none
  deriving DecidableEq, Repr, Inhabited

/-- A sample player (R385, R386). -/
structure PlayerSt where
  trig : Bool := false
  playing : Bool := false
  bad : Bool := false
  frame : Nat := 0
  left : Nat := 0
  addr : Nat := 0
  len : Nat := 0
  wide : Bool := false
  loops : Nat := 0
  /-- The on-die cache (R385): the address, the length and the width of the record it was filled for, and the bytes of its first 256 frames. -/
  cache : Option (Nat × Nat × Bool × Bytes) := none
  deriving DecidableEq, Repr, Inhabited

/-- A guest stream (R397 to R400): its parameter block, the first input or output of its run, the samples until its first frame, and
whether a run of XRUN goes on. -/
structure StreamSt where
  params : Nat := 0
  base : Nat := 0
  wait : Nat := 0
  xrun : Bool := false
  /-- The run still waits for the shadow bank, or is to be zeroed before it is free (R397, R398). -/
  waiting : Bool := false
  zero : Bool := false
  deriving DecidableEq, Repr, Inhabited

/-- An AVTP packet: presentation time of its first sample, and its frames, channel by channel, as sample codes (R396); of a talker's
packet also the VI the talker is granted to, its source address and its stream ID (R658). -/
structure AvtpPkt where
  time : Nat := 0
  frames : List (List Nat) := []
  vi : Option Nat := none
  src : Nat := 0
  id : Nat := 0
  deriving DecidableEq, Repr, Inhabited

/-- The audio matrix and its ports. -/
structure Audio where
  /-- The bank in force and the shadow bank, words by offset (R387, R405). -/
  active : Tbl Nat := []
  shadow : Tbl Nat := []
  /-- The crossfade length of the swap in progress. -/
  soft : Nat := 0
  doms : Tbl DomSt := []
  players : Tbl PlayerSt := []
  /-- Guest streams by kind × 2^18 + index. -/
  streams : Tbl StreamSt := []
  /-- Channels in and out of the peripherals attached to each SoundWire manager, by manager × 16 + peripheral (R395). -/
  swr : Tbl (Nat × Nat) := []
  swrBusy : Tbl (Option Nat) := []
  /-- What each sink was last given, by output, in the code of its format (R373). -/
  out : Tbl Nat := []
  /-- Samples received by each listener and not yet presented: presentation time and channels (R396). -/
  rx : Tbl (List (Nat × List Nat)) := []
  /-- Frames a talker has captured since its last packet, with the time of the first; and packets formed and not sent. -/
  cap : Tbl (Nat × List (List Nat)) := []
  packets : Tbl (List AvtpPkt) := []
  /-- Whether delay memory is there (R384), and its memory and chunks. -/
  delayMem : Option (Nat × List Nat) := none
  deriving DecidableEq, Repr, Inhabited

/-! ### Touch, haptics and reflexes -/

/-- A sense block beyond its registers (R411, R422): the register words in force, the starting scan, the count of noisy scans and the
scan in progress: 0 none, 1 normal, 2 a hop scan, with the instant it started. -/
structure BlkSt where
  ctrl : Nat := 0
  timing : Nat := 0
  phase : Nat := 0
  noiseTh : Nat := 0
  first : Bool := false
  ovr : Nat := 0
  scan : Nat := 0
  startAt : Nat := 0
  deriving DecidableEq, Repr, Inhabited

/-- An electrode beyond its registers (R414 to R420): the register words of its scan, the consecutive counts of touching, released,
out-of-range, in-range and excursion scans, how it is to be baselined at its next scan (0 not, 1 with the stored baseline considered, 2
without), the instant its time in IDLE counts from, the instant it entered TOUCH, and its last reading. -/
structure ElSt where
  ctrl : Nat := 0x0000FFFF
  thresh : Nat := 0x009600C8
  long : Nat := 0x14
  up : Nat := 0
  down : Nat := 0
  oor : Nat := 0
  inr : Nat := 0
  exc : Nat := 0
  fresh : Nat := 2
  idleAt : Nat := 0
  touchAt : Nat := 0
  raw : Nat := 0
  deriving DecidableEq, Repr, Inhabited

/-- A touch zone (R426 to R429): its parameter block, whether it is pressed, its last position or angle, the position of the last
SLIDER_MOVE and the last detent index. -/
structure ZoneSt where
  params : Nat := 0
  pressed : Bool := false
  pos : Nat := 0
  last : Nat := 0
  index : Nat := 0
  deriving DecidableEq, Repr, Inhabited

/-- The wake scanner (R431): scans since entry, the sum of the first four readings, then the baseline, and the touching scans, by
electrode. -/
structure WakeSt where
  scans : Nat := 0
  base : Tbl Nat := []
  count : Tbl Nat := []
  deriving DecidableEq, Repr, Inhabited

/-- A haptic effect on its way: the slot that triggered it, its entry (the copy taken at the start, for one that runs) and its gain (R443, R445). -/
structure HapEffect where
  slot : Nat := 0
  entry : Nat := 0
  gain : Nat := 0
  deriving DecidableEq, Repr, Inhabited

/-- A haptic channel beyond its registers. -/
structure HapSt where
  /-- The running effect, or the one that ran last. -/
  run : HapEffect := {}
  /-- The effect the next control period starts (R448). -/
  next : Option HapEffect := none
  /-- The pending trigger: slot and arrival (R457). -/
  pend : Option (Nat × Nat) := none
  /-- Plays that remain after this one. -/
  left : Nat := 0
  /-- When the phase, or the rest, began. -/
  phaseAt : Nat := 0
  /-- STATE reads GAP or REST: it is REST (R458). -/
  resting : Bool := false
  /-- The brake is followed by a rest. -/
  restNext : Bool := false
  /-- Amplitude of the drive in mV: negative in antiphase, 0 with the coil shorted or off, or with no amplitude asked for. -/
  drive : Int := 0
  /-- Drive time is counted up to this instant (R455). -/
  counted : Nat := 0
  /-- Drive of the current bin and of the complete bins, newest first, in ns. -/
  bin : Nat := 0
  bins : List Nat := []
  /-- The run of continuous drive: its start, where there is one, and its last drive. -/
  runFrom : Option Nat := none
  runTo : Nat := 0
  /-- Drive of the play that runs, in ns (R664). -/
  played : Option Nat := none
  /-- dT of the coil model in units of 2^-16 °C; whether a COIL_HOT limit is in force (R459). -/
  heat : Int := 0
  hot : Bool := false
  /-- A calibration: it starts with the quick check (R452). -/
  quick : Bool := false
  /-- Failed reads in a row, and the latest sample of the accelerometer (R441). -/
  fails : Nat := 0
  sample : Word := 0
  /-- Coil inductance in µH and motor constant k of the calibration in use (R440, R452). -/
  l : Nat := 0
  k : Nat := 0
  deriving DecidableEq, Repr, Inhabited

/-- Touch surfaces, haptic channels and reflex bindings. -/
structure Panel where
  blks : Tbl BlkSt := []
  els : Tbl ElSt := []
  zones : Tbl ZoneSt := []
  wake : WakeSt := {}
  haps : Tbl HapSt := []
  /-- Parameter blocks of haptic effect slots and of reflex bindings, by index. -/
  slots : Tbl Nat := []
  binds : Tbl Nat := []
  /-- Times each binding has fired since CREATE, and its actions skipped (R65). -/
  fires : Tbl (Nat × Nat) := []
  /-- Library entries in force (R443). -/
  lib : Tbl Nat := []
  /-- When the highlight pulse of each layer ends (R464). -/
  pulses : Tbl (Option Nat) := []
  deriving DecidableEq, Repr, Inhabited

/-! ### Start -/

/-- The persistent settings in use (R590): 8-byte page entries, θ in 0.001 °C/W, baselines by electrode, starting settings by block and
calibrations by channel: F0, R_coil, L, k. -/
structure PsetRec where
  pages : List (Nat × Nat) := []
  theta : Nat := 0
  base : Tbl Nat := []
  setting : Tbl Nat := []
  hap : Tbl (Nat × Nat × Nat × Nat) := []
  deriving DecidableEq, Repr, Inhabited

/-- An update command in progress (R597 to R599): its opcode, directory index, the on-die slot handed over to (1 A, 2 B), when it began, and for
LOAD the package's address and length, and whether a secure requester gave it. -/
structure UpdOp where
  op : Nat := 0
  index : Nat := 0
  slot : Nat := 0
  at_ : Nat := 0
  addr : Nat := 0
  len : Nat := 0
  secure : Bool := false
  /-- Of the Pip lane: when its pause began, just after a latch point of the designated pipe with the shortest frame (R598). -/
  begun : Option Nat := none
  deriving DecidableEq, Repr, Inhabited

/-- A manager command on the flash in progress (R594): opcode, flash offset, buffer and length. -/
structure NvmOp where
  op : Nat := 0
  addr : Nat := 0
  buf : Nat := 0
  len : Nat := 0
  deriving DecidableEq, Repr, Inhabited

/-- Start, flash and update. -/
structure StartSt where
  pset : PsetRec := {}
  /-- When the first change since the last write came (R592). -/
  psetDue : Option Nat := none
  /-- The four debug public keys of the configuration image in use (R529). -/
  dbgKeys : List Bytes := []
  /-- SECRETS as the configuration image in use holds it (R577). -/
  secrets : Bytes := []
  /-- The flash: its bytes, 0xFF where none is listed; ranges that cannot be read; pipes that PIPES marks SPARE (R570, R599). -/
  flash : Tbl Byte := []
  flashBad : List (Nat × Nat) := []
  spares : List Nat := []
  /-- The start (R583): the point it has reached, 0 for none; since when it counts; slots tried (R581); the write list being applied, its record
  kind, and since when its WAIT polls (R578). -/
  step : Nat := 0
  since : Nat := 0
  tried : List Nat := []
  list : List Nat := []
  listKind : Nat := 0
  waitFrom : Option Nat := none
  /-- A return from degraded mode (R616). -/
  returning : Bool := false
  /-- The fused rollback level (R574, R600). -/
  rollback : Nat := 0
  /-- Per unit: the on-die slot run before (R597), and whether slot s, at unit × 4 + s, holds firmware of a live update (R600). -/
  ran : Tbl Nat := []
  live : Tbl Nat := []
  /-- The area being written, 1 persistent, 2 recorder, and those that wait; areas whose last write failed; when the next recorder write falls
  (R592, R593, R675). -/
  writing : Option Nat := none
  writes : List Nat := []
  failed : List Nat := []
  recDue : Option Nat := none
  nvm : Option NvmOp := none
  upd : Option UpdOp := none
  /-- A SHUTDOWN is in progress, since then (R595). -/
  shutdown : Option Nat := none
  deriving DecidableEq, Repr, Inhabited

/-! ### Icvik links and TSN MACs -/

/-- An Icvik port beyond its registers (R627, R628, R637): the SEQ expected next, whether flits are discarded until a replay, the SEQ
sent next, flits sent and not acknowledged (SEQ and TYPE), when replays of the oldest of them came, when the last valid flit came, and
when the last TIME flit was sent. -/
structure PortSt where
  rxSeq : Nat := 0
  discard : Bool := false
  txSeq : Nat := 0
  unacked : List (Nat × Nat) := []
  /-- The replays of the last 1 ms: when, and the last flit replayed, of which all before it that wait were replayed too (R628). -/
  replays : List (Nat × Nat) := []
  heardAt : Nat := 0
  timeSent : Nat := 0
  deriving DecidableEq, Repr, Inhabited

/-- A node of the system (R634): its entry, and when its last beat came (R633). -/
structure NodeSt where
  info : NodeInfo := ⟨0, 0, 0, 0, 0, 0, 0⟩
  beatAt : Nat := 0
  deriving DecidableEq, Repr, Inhabited

/-- A CONTROL message sent and not acknowledged (R628). -/
structure CtlOut where
  tag : Nat
  dest : Nat
  msg : CtlMsg
  tries : Nat
  at_ : Nat
  deriving DecidableEq, Repr, Inhabited

/-- An import (R642, R644): JOINS of its source when it opened, its chunks, its place in the order of opening, and since when its source has
had no route. -/
structure ImportSt where
  joins : Nat := 0
  chunks : Nat := 0
  order : Nat := 0
  noRoute : Option Nat := none
  deriving DecidableEq, Repr, Inhabited

/-- A gate list (R652): its entries as TSN_GCL_ENTRY words, its cycle time, and the instant from which it runs. -/
structure GateList where
  entries : List Nat := []
  cycle : Nat := 0
  at_ : Nat := 0
  deriving DecidableEq, Repr, Inhabited

/-- A TSN MAC beyond its registers: the accepted list and the operational one, with its entry and the start of its cycle (R652); the gates;
frames of the gPTP engine that wait (R650); transmit descriptors read from the ring with their counts, those finished, the count read next (R655); the tails
of both rings; credits of classes 3 and 2 in kb/s × ns and when they were brought up to date (R651); classes whose next frame the guard
band holds;
when TSN_RING was last written for each ring, plus 1; whether gPTP time has been found; when PPS falls; the last frame sent. -/
structure MacSt where
  next : Option GateList := none
  oper : Option GateList := none
  entry : Nat := 0
  cycleAt : Nat := 0
  gates : Nat := 0xFF
  gptp : List Bytes := []
  txq : List (Nat × Nat) := []
  done : List Nat := []
  txNext : Nat := 0
  txTail : Nat := 0
  rxTail : Nat := 0
  creditA : Int := 0
  creditB : Int := 0
  creditAt : Nat := 0
  held : List Nat := []
  txEvt : Nat := 0
  rxEvt : Nat := 0
  /-- A TSN_RING event of each ring that waits for its 10 µs (R655). -/
  txOwed : Bool := false
  rxOwed : Bool := false
  found : Bool := false
  pps : Option Nat := none
  mdio : Nat := 0
  sent : Bytes := []
  deriving DecidableEq, Repr, Inhabited

/-- Icvik and the MACs. -/
structure Net where
  ports : Tbl PortSt := []
  nodes : Tbl NodeSt := []
  /-- The node number the root gave this device (R630). -/
  given : Option Nat := none
  /-- CHIP_DIR_GEN as last told to the other nodes (R634). -/
  toldGen : Nat := 0
  /-- The port graph (R632). -/
  edges : List PortEdge := []
  outs : List CtlOut := []
  nextTag : Nat := 0
  imports : Tbl ImportSt := []
  opened : Nat := 0
  /-- Bytes of imported ranges that PIXEL flits have returned, by memory 3 × 2^60 + (import × 2^19 + chunk) × 2^21 + offset (R643). -/
  arrived : Tbl (Option Byte) := []
  /-- Reference values that wait for their instant: epoch, period, instant (R640). -/
  refs : Tbl (Option (Nat × Nat × Nat)) := []
  /-- The request tag and the data of the last READ served. -/
  served : Option (Nat × Option Bytes) := none
  /-- The remote access in progress: when it was accepted, and whether it writes (R635). -/
  racc : Option (Nat × Bool) := none
  macs : Tbl MacSt := []
  deriving DecidableEq, Repr, Inhabited

/-! ### Power, heat and clocks -/

/-- A raise of a domain from OFF or RETAIN that has begun: the domain, the start of its ramp, t_ramp in µs, power-good reached, and from
OFF (R544). -/
structure Ramp where
  d : Nat := 0
  at_ : Nat := 0
  us : Nat := 0
  good : Bool := false
  off : Bool := true
  deriving DecidableEq, Repr, Inhabited

/-- VR_ENp and VR_PWMp of a phase (R703): whether the enable is high, and whether the PWM pin is driven; not driven it is at high impedance. -/
structure VrPin where
  enable : Bool := false
  driven : Bool := false
  deriving DecidableEq, Repr, Inhabited

/-- Power beyond its registers. Times held in a table are the time plus 1; 0 stands for none. -/
structure PowerSt where
  /-- Domains that wait for their ramp, in order of request; raises begun and not ON; the start of the last ramp (R542). -/
  waiting : List Nat := []
  raising : List Ramp := []
  lastRamp : Option Nat := none
  /-- Faults of each domain that its Husk handles, latest first, and those due to be raised again (R608). -/
  domFaults : Tbl (List Nat) := []
  /-- Rails shut by over-voltage, since when, and all their faults, latest first (R549, R608). -/
  offRails : Tbl Nat := []
  railFaults : Tbl (List Nat) := []
  /-- Rails whose clocks are stretched; the last SUPPLY_DROOP of each; since when a rail needs fewer phases (R548, R549). -/
  stretched : List Nat := []
  droopAt : Tbl Nat := []
  fewer : Tbl Nat := []
  /-- Lowest voltage of each rail in the running ms, and that ms (R664). -/
  lowest : Tbl Nat := []
  railMs : Tbl Nat := []
  /-- Valid readings of the sensors in 1/256 °C; the ms of the last JUNCTION_TEMP value; since when a tripped domain is cool (R553, R556). -/
  temps : Tbl (Option Int) := []
  hotMs : Nat := 0
  cool : Tbl Nat := []
  /-- Trips whose covered units still run (R534). -/
  trips : Tbl Nat := []
  /-- Power is removed at the critical level, since when AON reads cool, and the reading of the THERMAL_TRIP event that is owed (R557). -/
  critical : Bool := false
  critCool : Option Nat := none
  critOwed : Option Nat := none
  /-- 0 awake, 1 entering sleep, 2 asleep, 3 waking; the wake source latched during entry; the touch event and WAKE owed (R563, R564, R697). -/
  sleep : Nat := 0
  latched : Nat := 0
  touchOwed : Option Nat := none
  wakeOwed : Bool := false
  /-- A loss of the slow crystal was reported (R561). -/
  slowTold : Bool := false
  /-- Pins: PWRGOOD counted high, since when; VDD_SAFE and VDD_AON or VDDIO18 below range; HUSK_FAIL_N and THERMTRIP_N driven low; RAIL_EN high
  (R694 to R697, R704). -/
  pwrgood : Bool := false
  goodAt : Nat := 0
  safeLow : Bool := false
  aonLow : Bool := false
  huskFail : Bool := true
  thermtrip : Bool := false
  railEn : Bool := true
  /-- The pins of each phase of the regulator controller (R703). -/
  vr : Tbl VrPin := []
  /-- Times the secure interrupt of the application cores was raised (R534). -/
  secIrq : Nat := 0
  deriving DecidableEq, Repr, Inhabited

/-! ### Recovery -/

/-- The Husks, the Acorn sequencer and degraded mode beyond their registers (R604 to R619). -/
structure HuskSt where
  /-- Consecutive missed beats of Husk A and Husk B (R605); one more than the start of a hand-over of each (R606). -/
  missA : Nat := 0
  missB : Nat := 0
  handA : Nat := 0
  handB : Nat := 0
  /-- Restarts of each unit, latest first (R607). -/
  restarts : Tbl (List Nat) := []
  /-- Degraded mode is in force, since when, the time of the next retry, and failed returns since full service (R612, R616). -/
  degraded : Bool := false
  degradedAt : Nat := 0
  retryAt : Option Nat := none
  failed : Nat := 0
  /-- Times the Pip lane was lost in degraded mode, latest first; the degraded outputs send idle (R615). -/
  pipLost : List Nat := []
  stopped : Bool := false
  /-- PIP_FW and PIP_SPRITES are being reloaded (R619). -/
  reload : Bool := false
  deriving DecidableEq, Repr, Inhabited

/-! ### Event recorder and counters -/

/-- A recorder slot (R663 to R673): its image; whether REC_SATURATED has been written since the last clear; one more than the time of
the last REC_CLEARED event; the values staged, oldest first, with their device times; and one more than the millisecond of the last
application. -/
structure RecSlot where
  bins : Tbl Nat := []
  satBins : Nat := 0
  count : Nat := 0
  sum : Int := 0
  min : Int := 0x7FFFFFFFFFFFFFFF
  minTime : Nat := 0
  max : Int := -0x8000000000000000
  maxTime : Nat := 0
  seq : Nat := 0
  clears : Nat := 0
  clearAt : Nat := 0
  clearer : Nat := 0
  countSat : Bool := false
  sumSat : Bool := false
  told : Bool := false
  clearTold : Nat := 0
  staged : List (Int × Nat) := []
  applied : Nat := 0
  deriving DecidableEq, Repr, Inhabited

/-- The recorder and the samplers. -/
structure Recs where
  slots : Tbl RecSlot := []
  /-- Peak and saturations of each output in its 1,024 samples (R664). -/
  audio : Tbl (Nat × Nat) := []
  /-- Counters brought up to date while the domain of their unit is OFF, each with that domain: they hold their values (R676). -/
  heldCnt : List (Nat × Nat) := []
  /-- Domains that have not been OFF all the time since the counters were last 0 (R676). -/
  ranDom : List Nat := []
  /-- The LFSR of each selector, plus 1; 0 before it was loaded: by sampler × 64 + hart or cluster (R682). -/
  sels : Tbl Nat := []
  deriving DecidableEq, Repr, Inhabited

/-! ### The whole state -/

/-- The device. -/
structure State where
  /-- Commands that wait, first in, first out. -/
  pending : List Instr := []
  /-- Device time in ns, modulo 2^64. -/
  now : Nat := 0
  /-- Which part of the family this is (R1). -/
  variant : Variant := .zt1680
  /-- Which free value comes next: the model's own field (log entry 4). -/
  freeCount : Nat := 0
  /-- The register file: word by key. A PF BAR0 word has its offset for key; a word of VI v's window has (v + 1) × 2^32 plus its offset. -/
  regs : Tbl Word := []
  /-- High words latched, by path × 2^44 + the key of the register (R10). -/
  latch : Tbl (Option Word) := []
  /-- Low words staged, likewise (R11). -/
  staged : Tbl (Option Word) := []
  /-- What hardware did at this instant to registers that a software access in the same cycle must not lose (R13, R14). -/
  cycle : Cycle := {}
  /-- What the last register read returned. -/
  lastRead : Word := 0
  /-- Bytes of the device's memories, by memory × 2^60 + offset (MEM_UE_ADDR, R105). -/
  mem : Tbl Byte := []
  /-- Bytes the device wrote to host memory, by window × 2^63 + bus address (R75). -/
  hostMem : Tbl Byte := []
  pods : Pods := {}
  seed : Seed := {}
  display : Display := {}
  pip : PipSt := {}
  checks : Checks := {}
  render : Render := {}
  audio : Audio := {}
  panel : Panel := {}
  start : StartSt := {}
  worlds : Worlds := {}
  vims : Vims := {}
  net : Net := {}
  recs : Recs := {}
  power : PowerSt := {}
  budget : BudgetSt := {}
  husk : HuskSt := {}
  deriving DecidableEq, Repr, Inhabited

/-- The device right after reset: every register at the value of its reset column, nothing created, nothing in memory. Values the
spec does not give are those of log entries 3 to 8. -/
def State.reset : State := {}

end Sys2Proof.Machine
end

