-- ==== Sys2Proof/Machine/Regs.lean ====
section
/-!
DEFINITION. Regs: where each register lies, and reading and writing the register file. Every read and every write of a register
word goes through `State.rd` and `State.wr`.
-/
namespace Sys2Proof.Machine

/-- The number VI_INFO.VI reads in the PF channel window; as a window it names that window (R52). -/
def pfWin : Nat := 0xFFFF

/-- The key of the first word of a window: the PF channel window lies in PF BAR0 (R43), a VI's window in its own BAR0 (R44). -/
def win (w : Nat) : Nat := if w = pfWin then 0x07000000 else (w + 1) * 2 ^ 32

/-- The register row a key falls in, with whether it is the high word. -/
def keyRow (k : Nat) : Option (RegRow × Bool) :=
  if 2 ^ 32 ≤ k then findRow rowsWindow (k % 2 ^ 32)
  else if 0x07000000 ≤ k ∧ k < 0x07100000 then findRow rowsWindow (k - 0x07000000)
  else findRow (pfRows k) k

/-- The defaults of MEM_BW_CLASS at a memory; HARD reads 1 for classes 0 and 1 (R99, R105). -/
def bwDefault (c : Nat) : Nat :=
  match c with
  | 0 => 2 ^ 31 | 1 => 2 ^ 31 | 2 => 64 | 3 => 32 | 4 => 64 | 5 => 64 | 6 => 8 | _ => 16

/-- The default operating points (R552): voltage and frequency in word 0, energy per clock in word 1; domains of no row hold 0. Those of the
ZT1680 stand for every part, and the compose row's energy for the application cores is left 0 (log entry 50). -/
def oppDefault (d p w : Nat) : Nat :=
  let mv := [600, 640, 680, 720, 760, 810, 860, 920].getD p 0
  let gfx := 8 ≤ d && d ≤ 12
  let app := d == 6 || d == 7
  if w = 0 then
    if gfx then mv * 2 ^ 16 + [400, 600, 800, 1000, 1200, 1400, 1600, 1800].getD p 0
    else if app then mv * 2 ^ 16 + [600, 800, 1000, 1200, 1400, 1600, 1800, 2000].getD p 0
    else if d = 13 then mv * 2 ^ 16 + [300, 450, 600, 750, 900, 1000, 1100, 1200].getD p 0
    else 0
  else if w = 4 then
    if gfx then [430, 470, 520, 570, 620, 690, 760, 833].getD p 0
    else if d = 13 then [410, 450, 500, 550, 600, 680, 740, 800].getD p 0
    else 0
  else 0

/-- The bilinear set a coefficient set holds after reset, by offset in the set (R126, R146). -/
def coefReset (o : Nat) : Nat :=
  let p := o % 0x400 / 0x10
  let near := 1024 - 16 * p
  let far := 16 * p
  if o < 0x400 then (match o % 0x10 with | 4 => near * 2 ^ 16 | 8 => far | _ => 0)
  else match o % 0x10 with | 4 => far * 2 ^ 16 + near | _ => 0

/-- A word of a degamma table after reset, by its offset in the table (R126). -/
def degammaReset (o : Nat) : Nat :=
  let e (i : Nat) : Nat := min 65535 (i * 64)
  if o < 2048 then e (o / 2 + 1) * 2 ^ 16 + e (o / 2) else if o = 2048 then e 1024 else 0

/-- A word of a gamma LUT bank after reset, by its offset in the bank (R218). -/
def gammaReset (o : Nat) : Nat :=
  let e := (o / 8 * 131070 + 1023) / 2046
  if o % 8 = 0 then e * 2 ^ 16 + e else e

/-- A word of a 3D LUT bank after reset, by its offset in the bank (R218). -/
def cubeReset (o : Nat) : Nat :=
  let i := o / 8
  let e (x : Nat) : Nat := (x * 131070 + 16) / 32
  if 4913 ≤ i then 0 else if o % 8 = 0 then e (i / 17 % 17) * 2 ^ 16 + e (i % 17) else e (i / 289)

/-- Tables whose content after reset has a rule of its own, and registers marked "—" whose value the model names (R126, R218, R274; log entry
8). -/
def regOwn (k : Nat) : Option Nat :=
  if k < 0x01020000 then
    match k with
    | 0x0020004C => some (64 * 2 ^ 16 + 64)
    | 0x00180000 => some 1100
    | 0x00300000 => some (2 ^ 29 + 2 ^ 26 + 2 ^ 24)
    | 0x00600008 => some (2 ^ 31)
    | _ => none
  else if k < 0x01028000 then some (coefReset (k % 0x800))
  else if 0x01030000 ≤ k ∧ k < 0x01040000 then some (degammaReset (k % 0x1000))
  else if 0x01800000 ≤ k ∧ k < 0x01900000 then
    (if 0x2000 ≤ k % 0x10000 ∧ k % 0x10000 < 0x6000 then some (gammaReset ((k % 0x10000 - 0x2000) % 0x2000)) else none)
  else if 0x01900000 ≤ k ∧ k < 0x01B00000 then some (cubeReset (k % 0x10000))
  else if k = 0x03C00000 then some 8
  else none

/-- The value of a register word after reset (R17): the Reset column, and R99 for the bandwidth classes. -/
def regReset (k : Nat) : Nat :=
  match regOwn k with
  | some v => v
  | none =>
  if 0x00102000 ≤ k ∧ k < 0x00102C00 then oppDefault ((k - 0x00102000) / 0x80) (k % 0x80 / 0x10) (k % 0x10) else
  if 0x00600040 ≤ k ∧ k < 0x00600080 then bwDefault ((k - 0x00600040) / 4 % 8)
  else
    match keyRow k with
    | some (row, false) => row.reset % 2 ^ 32
    | some (row, true) => row.reset / 2 ^ 32
    | none => 0

/-- The word at a key. -/
def State.rd (s : State) (k : Nat) : Nat := (tget (BitVec.ofNat 32 (regReset k)) s.regs k).toNat

/-- The state with a word written. -/
def State.wr (s : State) (k v : Nat) : State :=
  { s with regs := tset (BitVec.ofNat 32 (regReset k)) s.regs k (BitVec.ofNat 32 v) }

/-- A 64-bit register: two words, low word first (R9). -/
def State.rd64 (s : State) (k : Nat) : Nat := s.rd k + 2 ^ 32 * s.rd (k + 4)

/-- A 64-bit register written. -/
def State.wr64 (s : State) (k v : Nat) : State := (s.wr k v).wr (k + 4) (v / 2 ^ 32)

/-- A field of a register. -/
def State.rf (s : State) (k hi lo : Nat) : Nat := bits (s.rd k) hi lo

/-- A bit of a register. -/
def State.rb (s : State) (k i : Nat) : Bool := bit (s.rd k) i

/-- New work is refused: the device enters sleep, or SHUTDOWN was accepted (R563, R595; log entry 18). -/
def State.noWork (s : State) : Bool := s.power.sleep != 0 || s.start.shutdown.isSome || s.rf 0x00200000 31 28 == 6

/-- A field of a register written; the other bits stay. -/
def State.wf (s : State) (k hi lo v : Nat) : State := s.wr k (setBits (s.rd k) hi lo v)

/-- A bit of a register written. -/
def State.wb (s : State) (k i : Nat) (b : Bool) : State := s.wf k i i (b2n b)

/-- A 32-bit counter register that wraps. -/
def State.incr (s : State) (k : Nat) : State := s.wr k (s.rd k + 1)

/-- A 32-bit counter register that stops at all ones. -/
def State.sat (s : State) (k n : Nat) : State := s.wr k (satAdd 32 (s.rd k) n)

/-- Hardware sets a W1C bit: a write of 1 to it at the same instant leaves it set (R13). -/
def State.raise (s : State) (k i : Nat) : State :=
  let t := s.wb k i true
  { t with cycle := { t.cycle with raised := tmod 0 t.cycle.raised k (· ||| 2 ^ i) } }

/-- Hardware updates an RC register: a read at the same instant returns the value before, and keeps the update (R14). `f` is the update. -/
def State.rcUpdate (s : State) (k : Nat) (f : Nat → Nat) : State :=
  let old := match tget none s.cycle.updates k with | some (v, n) => (v, f n) | none => (s.rd k, f 0)
  let t := s.wr k (f (s.rd k))
  { t with cycle := { t.cycle with updates := tset none t.cycle.updates k (some old) } }

/-- An RC counter that stops at all ones. -/
def State.rcCount (s : State) (k n : Nat) : State := s.rcUpdate k fun v => satAdd 32 v n

/-- A field of a register that counts and stops at its highest value. -/
def State.satf (s : State) (k hi lo n : Nat) : State := s.wf k hi lo (satAdd (hi + 1 - lo) (s.rf k hi lo) n)

/-- A 64-bit counter register that wraps. -/
def State.incr64 (s : State) (k n : Nat) : State := s.wr64 k (s.rd64 k + n)

/-- Several words written in order. -/
def State.wrs (s : State) : List (Nat × Nat) → State
  | [] => s
  | (k, v) :: r => (s.wr k v).wrs r

/-- The words of a run of registers set to their values after reset: `n` words from key `k` on. -/
def State.clr (s : State) (k : Nat) : Nat → State
  | 0 => s
  | n + 1 => (s.wr k (regReset k)).clr (k + 4) n

/-- The half of a 64-bit mask that belongs to the low or the high word. -/
def halfOf (high : Bool) (m : Nat) : Nat := if high then m / 2 ^ 32 else m % 2 ^ 32

/-- The word left by a write of `v` over `old`, by the access codes of R12. `locked` is the LOCK bit of the block. -/
def accessWrite (row : RegRow) (high locked : Bool) (old v : Nat) : Nat :=
  let rw : Nat := halfOf high row.rw ||| (if locked then 0 else halfOf high row.rwl)
  let kept : Nat := old &&& (0xFFFFFFFF ^^^ rw)
  let put : Nat := kept ||| (v &&& rw)
  let cleared : Nat := put &&& (0xFFFFFFFF ^^^ (v &&& halfOf high row.w1c))
  cleared ||| (v &&& halfOf high row.w1s)

/-! ### Named registers used throughout -/

/-- RING_BASE of ring n of a window, and the registers after it (R51). -/
def ringBase (w n : Nat) : Nat := win w + 0x10000 + n * 0x20
def ringCtrl (w n : Nat) : Nat := win w + 0x10008 + n * 0x20
def ringHead (w n : Nat) : Nat := win w + 0x1000C + n * 0x20
def ringTail (w n : Nat) : Nat := win w + 0x10010 + n * 0x20
def ringBind (w n : Nat) : Nat := win w + 0x10014 + n * 0x20
def ringStatus (w n : Nat) : Nat := win w + 0x10018 + n * 0x20

/-- The five registers of an event ring: BASE, CTRL, HEAD, TAIL, LOST. The secure ring has its own place (R66, R69, R535). -/
structure EvrRegs where
  base : Nat
  ctrl : Nat
  head : Nat
  tail : Nat
  lost : Nat
  deriving DecidableEq, Repr, Inhabited

/-- The window number that stands for the secure event ring, which no window holds. -/
def secWin : Nat := 0x10000

/-- The registers of the event ring of a window, or of the secure ring (R66, R69). -/
def evr (w : Nat) : EvrRegs :=
  if w = secWin then ⟨0x00500210, 0x00500218, 0x0050021C, 0x00500220, 0x00500224⟩
  else ⟨win w + 0x90000, win w + 0x90008, win w + 0x9000C, win w + 0x90010, win w + 0x90018⟩

/-- EVR_IRQ of a window (R66). -/
def evrIrq (w : Nat) : Nat := win w + 0x90014

/-- The registers of VI v and of its grants (R507). -/
def viReg (v off : Nat) : Nat := 0x00410000 + v * 0x40 + off
def grantReg (v k off : Nat) : Nat := 0x00420000 + v * 0x200 + k * 0x10 + off

/-- The registers of region controller c (R535). -/
def rcReg (c off : Nat) : Nat := 0x00500300 + c * 0x20 + off

end Sys2Proof.Machine
end

