-- ==== Sys2Proof/Machine/Flags.lean ====
section
/-!
DEFINITION. Flags: the status codes and how the first of several is chosen (R18 to R20).
-/
namespace Sys2Proof.Machine

/-- The status codes (R18). -/
inductive Status where
  | ok | pending | busy | staleHandle | badHandle | badParam | badGeometry | badState | unsupported | noResource | claimed
  | lost | denied | spoof | fault | late | throttled | timeout | badSignature | badCrc | orphaned | shrinkPending
  deriving DecidableEq, Repr, Inhabited

/-- The number of a status code (R18). -/
def Status.code : Status → Nat
  | .ok => 0x00 | .pending => 0x01 | .busy => 0x02 | .staleHandle => 0x03 | .badHandle => 0x04 | .badParam => 0x05
  | .badGeometry => 0x06 | .badState => 0x07 | .unsupported => 0x08 | .noResource => 0x09 | .claimed => 0x0A | .lost => 0x0B
  | .denied => 0x0C | .spoof => 0x0D | .fault => 0x0E | .late => 0x0F | .throttled => 0x10 | .timeout => 0x11
  | .badSignature => 0x12 | .badCrc => 0x13 | .orphaned => 0x14 | .shrinkPending => 0x15

/-- The place of a rejecting status in the order of R19; statuses outside the list come after it. -/
def Status.rank : Status → Nat
  | .spoof => 0 | .denied => 1 | .badHandle => 2 | .staleHandle => 3 | .badState => 4 | .claimed => 5 | .badParam => 6
  | .badGeometry => 7 | .unsupported => 8 | .noResource => 9 | .busy => 10 | _ => 11

/-- The first failing check decides; with none, OK. The checks are given in the order of their rule. -/
def firstFail : List (Bool × Status) → Status
  | [] => .ok
  | (bad, st) :: r => if bad then st else firstFail r

/-- The status that R19 reports when several apply: the one of lowest rank. -/
def byR19 : List (Bool × Status) → Status
  | [] => .ok
  | (bad, st) :: r =>
    let rest := byR19 r
    if bad then (if rest = .ok then st else if rest.rank < st.rank then rest else st) else rest

end Sys2Proof.Machine
end

