-- ==== Sys2Proof/Machine/Operands.lean ====
section
/-!
DEFINITION. Operands: the operand forms of the commands: requesters, handles, device addresses, ring entries and event records.
-/
namespace Sys2Proof.Machine

/-- A number for each path, for the tables of latched and staged words (R10, R11). -/
def pathCode : Path → Nat
  | .pf => 0
  | .debug => 1
  | .pip => 2
  | .husk b => 4 + b % 4
  | .mgr c => 16 + c % 16
  | .hart h => 32 + h % 32
  | .icvik p => 64 + p % 64
  | .link l => 128 + l % 8
  | .vi v => 256 + v

/-- The window a path speaks for: a VI's own, none for the physical function of another link (R473), otherwise the PF channel window. -/
def pathWin : Path → Nat
  | .vi v => v
  | .link _ => 0xFFFE
  | _ => pfWin

/-- VIMGR_LINK of a link (R507, R508). -/
def linkReg (l : Nat) : Nat := 0x00400040 + l * 4

/-- The key of the word a requester names by a BAR0 offset (R43, R44, R473). -/
def reqKey (r : Req) (addr : Nat) : Nat :=
  match r.path with
  | .vi v => win v + addr
  | .link l => linkReg l + addr
  | _ => addr

/-- A local channel handle (R45). -/
structure Handle where
  kind : Nat
  gen : Nat
  index : Nat
  deriving DecidableEq, Repr, Inhabited

/-- The fields of a handle word (R45). -/
def handleOf (v : Nat) : Handle := ⟨bits v 31 27, bits v 26 18, bits v 17 0⟩

/-- The word of a handle (R45). -/
def Handle.word (h : Handle) : Nat := h.kind * 2 ^ 27 + h.gen * 2 ^ 18 + h.index

/-- The key of a channel index among the pools of all kinds. -/
def chanKey (kind index : Nat) : Nat := kind * 2 ^ 18 + index

/-- The channel kinds (R45). -/
def kLayer : Nat := 0x01
def kRender : Nat := 0x02
def kCompute : Nat := 0x03
def kStreamIn : Nat := 0x04
def kStreamOut : Nat := 0x05
def kZone : Nat := 0x06
def kHslot : Nat := 0x07
def kCheck : Nat := 0x08
def kFence : Nat := 0x09
def kMem : Nat := 0x0A
def kReflex : Nat := 0x0B
def kWb : Nat := 0x0C

/-- A device address in host memory (R75). -/
def isHost (a : Nat) : Bool := bit a 63

/-- A local device address whose HIGH field is not 0 (R75, R76). -/
def highSet (a : Nat) : Bool := bits a 62 40 != 0

/-- The 16 bytes of an event record as one number (R22). -/
def recordNat (kind status handle detail time phase : Nat) : Nat :=
  status % 2 ^ 7 + phase % 2 * 2 ^ 7 + kind % 2 ^ 8 * 2 ^ 8 + time % 2 ^ 48 * 2 ^ 16 + handle % 2 ^ 32 * 2 ^ 64 + detail % 2 ^ 32 * 2 ^ 96

/-- The fields of a control-ring entry (R58). -/
structure CtlFields where
  opcode : Nat
  kind : Nat
  tag : Nat
  handle : Nat
  paramAddr : Nat
  paramLen : Nat
  ring : Nat
  vi : Nat
  seq : Nat
  /-- A field marked "Must be 0" is not 0. -/
  rsvSet : Bool
  deriving DecidableEq, Repr, Inhabited

/-- A control-ring entry read from its 32 bytes (R58). -/
def ctlFields (e : Bytes) : CtlFields :=
  let n := leNat e
  { opcode := bits n 7 0, kind := bits n 12 8, tag := bits n 31 16, handle := bits n 63 32, paramAddr := bits n 127 64,
    paramLen := bits n 143 128, ring := bits n 159 144, vi := bits n 175 160, seq := bits n 223 192,
    rsvSet := bits n 15 13 != 0 || bits n 191 176 != 0 || bits n 255 224 != 0 }

/-- The attributes of a checked memory request (R510): world, hull, VI and class. -/
structure Attr where
  secure : Bool
  hull : Option Nat
  vi : Option Nat
  cls : Nat
  deriving DecidableEq, Repr, Inhabited

end Sys2Proof.Machine
end

