-- ==== Sys2Proof/Machine/Ops.lean ====
section
/-!
DEFINITION. Ops: the named operations on the state that the commands share: time, free values, host memory, event records,
region checks, memory made for a function, channels and grants.
-/
namespace Sys2Proof.Machine

/-- Every command goes on from the state with its device time passed (log entry 2). Device time is 64 bits of ns. Commands at one instant
count as in one cycle (log entry 21). -/
def State.tick (dt : Nat) (s : State) : State :=
  { s with now := (s.now + dt) % 2 ^ 64, cycle := if dt = 0 then s.cycle else {} }

/-- The next free word, and the state in which the one after it comes next (log entry 4). -/
def State.freeWord (s : State) : Word × State :=
  (Config.freeWord s.freeCount, { s with freeCount := s.freeCount + 1 })

/-- `n` free bytes. -/
def State.freeBytes (s : State) : Nat → Bytes × State
  | 0 => ([], s)
  | n + 1 =>
    let (bs, t) := ({ s with freeCount := s.freeCount + 1 } : State).freeBytes n
    (Config.freeByte s.freeCount :: bs, t)

/-- The part's row in the tables of units. -/
def State.row (s : State) : VariantRow := s.variant.row

/-- Changes of the parts of the state. -/
def State.mPods (s : State) (f : Pods → Pods) : State := { s with pods := f s.pods }
def State.mSeed (s : State) (f : Seed → Seed) : State := { s with seed := f s.seed }
def State.mDisplay (s : State) (f : Display → Display) : State := { s with display := f s.display }
def State.mPip (s : State) (f : PipSt → PipSt) : State := { s with pip := f s.pip }
def State.mChecks (s : State) (f : Checks → Checks) : State := { s with checks := f s.checks }
def State.mRender (s : State) (f : Render → Render) : State := { s with render := f s.render }
def State.mAudio (s : State) (f : Audio → Audio) : State := { s with audio := f s.audio }
def State.mPanel (s : State) (f : Panel → Panel) : State := { s with panel := f s.panel }
def State.mStart (s : State) (f : StartSt → StartSt) : State := { s with start := f s.start }
def State.mWorlds (s : State) (f : Worlds → Worlds) : State := { s with worlds := f s.worlds }
def State.mVims (s : State) (f : Vims → Vims) : State := { s with vims := f s.vims }

def State.mNet (s : State) (f : Net → Net) : State := { s with net := f s.net }
def State.mPower (s : State) (f : PowerSt → PowerSt) : State := { s with power := f s.power }
def State.mHusk (s : State) (f : HuskSt → HuskSt) : State := { s with husk := f s.husk }
def State.mBudget (s : State) (f : BudgetSt → BudgetSt) : State := { s with budget := f s.budget }
def State.mRecs (s : State) (f : Recs → Recs) : State := { s with recs := f s.recs }

/-- The recorder slots whose REC_SLOT_CFG names a source and an instance (R664). -/
def State.recSlotsOf (s : State) (source inst : Nat) : List Nat :=
  s.regs.filterMap fun c =>
    if 0x03E01000 ≤ c.1 && c.1 < 0x03E01800 && c.1 % 8 == 0 && bits c.2.toNat 31 24 == source && bits c.2.toNat 23 16 == inst then
      some ((c.1 - 0x03E01000) / 8)
    else none

/-- A source produces a value now: it is staged in every slot it feeds (R664, R667). -/
def State.recValue (s : State) (source inst : Nat) (v : Int) : State :=
  (s.recSlotsOf source inst).foldl (fun s n =>
    s.mRecs fun r => { r with slots := tmod {} r.slots n fun t => { t with staged := t.staged ++ [(v, s.now)] } }) s

/-! ### Host memory -/

/-- The key of a byte of host memory reached through a window's PCIe function (R75). -/
def hostKey (w addr : Nat) : Nat := w * 2 ^ 63 + addr % 2 ^ 63

/-- The state code of VI_STATE in which a window's events are only counted: FREEZING, FROZEN, SAVING, RESTORING (R494). -/
def State.viHeld (s : State) (w : Nat) : Bool :=
  w < 256 && (let st := s.rf (viReg w 0) 31 28; 3 ≤ st && st ≤ 6)

/-- The VI that owns a window is FREE, RESETTING or DESTROYING: writes to its window are ignored (R474, R477). -/
def State.winDead (s : State) (w : Nat) : Bool :=
  w < 256 && (let st := s.rf (viReg w 0) 31 28; st == 0 || st == 2 || st == 7)

/-- Whether accesses to host memory made for a window reach it: Bus Master Enable is set (R476). -/
def State.hostOk (s : State) (w : Nat) : Bool :=
  256 ≤ w || !s.vims.noMaster.contains (s.rf (viReg w 0) 26 24 * 256 + s.rf (viReg w 0) 15 8)

/-- A write to host memory for a window; with Bus Master Enable clear it is dropped (R476). -/
def State.hostWrite (s : State) (w addr : Nat) (bs : Bytes) : State :=
  if s.hostOk w then { s with hostMem := writeBytes s.hostMem (hostKey w addr) bs } else s

/-! ### Worlds of functions -/

/-- The world a function acts in: normal but for WORLD_FN (R512). -/
def State.fnSecure (s : State) (w : Nat) : Bool :=
  if w = pfWin then s.rb 0x00500008 0 else s.rb 0x00500008 1 && s.rf 0x00400008 15 0 == w

/-- The attributes of a request an engine of a class makes for a function (R510). -/
def State.fnAttr (s : State) (w cls : Nat) : Attr :=
  ⟨s.fnSecure w, none, if w = pfWin then none else some w, cls % 8⟩

/-- The world a register access comes from (R510 to R512). -/
def State.reqSecure (s : State) (r : Req) : Bool :=
  match r.path with
  | .pf => s.fnSecure pfWin
  | .vi v => s.fnSecure v
  | .mgr _ => true
  | .husk _ => true
  | .pip => true
  | .hart h => !(tget {} s.worlds.harts h).normal
  | .link _ => false
  | _ => r.secure

/-- Whether a claim covers a directory index: one on it, or one on the device, the pod above every unit (R531; log entry 14). A
claim that reads LOST covers as well (R534). -/
def State.covered (s : State) (u : Nat) : Bool :=
  (tget {} s.worlds.claims u).state != 0 || (tget {} s.worlds.claims 0).state != 0

/-- A claim refuses a request to a unit: claims are the secure world's, and never refuse a secure requester (R33, R532). -/
def State.claimBlocks (s : State) (u : Nat) (secure : Bool) : Bool := s.covered u && !secure

/-! ### Event records -/

/-- The windows: the PF channel window, then the VIs. -/
def State.windows (s : State) : List Nat := pfWin :: List.range s.row.vis

/-- Whether the manager has granted a pipe to a window's function (R483); the PF holds every pipe. -/
def State.pipeGranted (s : State) (w p : Nat) : Bool := if w = pfWin then true else bit (s.rd (viReg w 0x30)) p

/-- The safety owner's window (R488). -/
def State.safetyWin (s : State) : Nat := s.rf 0x00400008 15 0

/-- Whether the event ring takes records: enabled, and its VI not held by R494 (R68, R69, R494). -/
def State.evrOpen (s : State) (w : Nat) : Bool := s.rb (evr w).ctrl 31 && !s.viHeld w

/-- The number of records the ring holds (R67). -/
def State.evrSize (s : State) (w : Nat) : Nat := 2 ^ s.rf (evr w).ctrl 3 0

/-- The ring is held full at one record short of its size (R69). -/
def State.evrFull (s : State) (w : Nat) : Bool :=
  (s.rd (evr w).tail + 2 ^ 32 - s.rd (evr w).head) % 2 ^ 32 == s.evrSize w - 1

/-- Raising the MSI-X vector of a window's event ring: outside the VI's vector grant nothing is signalled (R67, R487). -/
def State.raiseMsix (s : State) (w : Nat) : State :=
  let v := s.rf (evrIrq w) 5 0
  let granted := if w < 256 then s.rf (viReg w 0x1C) 6 0 else 64
  let s := s.mPods fun p => { p with unsignalled := tset 0 p.unsignalled w 0, firstUnsignalled := tset none p.firstUnsignalled w none }
  if v < granted then s.mPods fun p => { p with msix := tmod 0 p.msix (w * 64 + v) (· + 1) } else s

/-- Counting a record as not yet signalled, and the interrupt at THRESHOLD (R67). The secure ring has no EVR_IRQ. -/
def State.signal (s : State) (w : Nat) : State :=
  if w = secWin then s else
    let n := tget 0 s.pods.unsignalled w + 1
    let s := s.mPods fun p =>
      { p with unsignalled := tset 0 p.unsignalled w n,
               firstUnsignalled := if n = 1 then tset none p.firstUnsignalled w (some s.now) else p.firstUnsignalled }
    if max 1 (s.rf (evrIrq w) 15 8) ≤ n then s.raiseMsix w else s

/-- Counting an uncorrectable error at a physical word met by a bandwidth class for a VI (R86, R87). -/
def State.ueCount (s : State) (pa cls w : Nat) : State :=
  ((s.incr64 0x00600028 1).wr64 0x00600030 (pa / 8 * 8)).wr 0x00600038 (cls * 2 ^ 16 + w)

/-- A physical write: a write of all of a poisoned word clears its mark, a smaller one is dropped there and counted (R87). That no event
and no retirement follows a counted write is the model's reading (DEDUCED, log entry 69). -/
def State.pwrite (s : State) (pa : Nat) (bs : Bytes) (cls w : Nat) : State :=
  let n := bs.length
  let words := (List.range ((pa + n + 7) / 8 - pa / 8)).map (pa / 8 + ·)
  let bad := words.filter fun k => tget false s.seed.poison k
  let whole := bad.filter fun k => pa ≤ k * 8 ∧ k * 8 + 8 ≤ pa + n
  let part := bad.filter fun k => ¬ (pa ≤ k * 8 ∧ k * 8 + 8 ≤ pa + n)
  let s := s.mSeed fun m => { m with poison := whole.foldl (fun t k => tset false t k false) m.poison }
  let s := { s with mem := (List.range n).foldl (fun m i =>
    if part.contains ((pa + i) / 8) then m else tset 0 m (pa + i) (bs.getD i 0)) s.mem }
  part.foldl (fun s k => s.ueCount (k * 8) cls w) s

/-- Dirty logging of a write of a VI (R504): the bits of the pages of a local or host range are set. -/
def State.markDirty (s : State) (w addr len : Nat) : State :=
  match if w < 256 then tget none s.vims.dirty w else none with
  | none => s
  | some d =>
    let pages (base limit lo : Nat) (s : State) (outside : Nat) : State :=
      let first := lo / 4096
      let count := (lo + len - 1) / 4096 + 1 - first
      (List.range count).foldl (fun (s : State) i =>
        let p := first + i
        if p < limit then
          let a := d.area + base + p / 8
          let e := tget {} s.seed.maps (pfWin * 2 ^ 19 + a / 2 ^ 21)
          let k := e.mem * 2 ^ 60 + e.chunk * 2 ^ 21 + a % 2 ^ 21
          if e.mapped then
            s.pwrite k [BitVec.ofNat 8 ((tget 0 s.mem k).toNat ||| 2 ^ (p % 8))] 7 pfWin
          else s
        else s.raise (viReg w 0x14) outside) s
    if len = 0 then s
    else if isHost addr then
      let a := addr % 2 ^ 63
      if a < d.hostBase then s.raise (viReg w 0x14) 1
      else pages (cdiv (d.limit / 32768) 64 * 64) d.hostPages (a - d.hostBase) s 1
    else pages 0 (d.limit / 4096) addr s 0

/-- Writing one record at the tail: bytes 1 to 15 first, then byte 0 (R22, R23, R68). -/
def State.putRecord (s : State) (w kind status handle detail time : Nat) : State :=
  let tail := s.rd (evr w).tail
  let size := s.evrSize w
  let base := s.rd64 (evr w).base
  let bs := leBytes (recordNat kind status handle detail time (1 - tail / size % 2)) 16
  let off := tail % size * 16
  let s :=
    if w = secWin then
      let a := bits base 63 62 * 2 ^ 60 + bits base 39 0 + off
      (s.pwrite (a + 1) (bs.drop 1) 7 pfWin).pwrite a (bs.take 1) 7 pfWin
    else
      let s := if s.hostOk w then (s.hostWrite w (base + off + 1) (bs.drop 1)).hostWrite w (base + off) (bs.take 1) else s
      s.markDirty w (2 ^ 63 + (base + off) % 2 ^ 63) 16
  (s.incr (evr w).tail).signal w

/-- Counting an event that is not written (R69). -/
def State.loseEvent (s : State) (w : Nat) : State :=
  (s.rcCount (evr w).lost 1).mPods fun p => { p with lostSince := tmod 0 p.lostSince w (fun n => satAdd 32 n 1) }

/-- The EVENTS_LOST record that goes before any newer event once space has returned (R69, R71). -/
def State.flushLost (s : State) (w : Nat) : State :=
  let n := tget 0 s.pods.lostSince w
  if n ≠ 0 ∧ s.evrOpen w ∧ ¬ s.evrFull w then
    (s.putRecord w 0x01 Status.ok.code 0 n s.now).mPods fun p => { p with lostSince := tset 0 p.lostSince w 0 }
  else s

/-- Raising an event at a ring (R66 to R70, R587). The record carries the time of the event. -/
def State.emitAt (s : State) (w kind status handle detail time : Nat) : State :=
  if w = pfWin ∧ ¬ s.rb (evr w).ctrl 31 ∧ s.pods.pfQueue.length < 32 then
    s.mPods fun p => { p with pfQueue := p.pfQueue ++ [⟨kind, status, handle, detail, time⟩] }
  else
    let s := s.flushLost w
    if s.evrOpen w && !s.evrFull w then s.putRecord w kind status handle detail time else s.loseEvent w

/-- Raising an event now. -/
def State.emit (s : State) (w kind : Nat) (st : Status) (handle detail : Nat) : State :=
  s.emitAt w kind st.code handle detail s.now

/-- Raising an event at the PF event ring. -/
def State.emitPf (s : State) (kind : Nat) (st : Status) (detail : Nat) : State := s.emit pfWin kind st 0 detail

/-! ### Region checks (R514 to R518) -/

/-- Whether an entry admits a requester: CLASSES, HULL_SEL, VI_SEL and VI (R514, R516). -/
def RcEntry.admits (e : RcEntry) (a : Attr) : Bool :=
  bit e.classes a.cls
  && (e.hullSel == 0 || (e.hullSel == 1 && a.hull.isNone))
  && (e.viSel == 0 || (e.viSel == 1 && a.vi == some e.vi) || (e.viSel == 2 && a.vi.isNone))

/-- The bits of an entry for a world: R is 4, W is 2, X is 1 (R514). -/
def RcEntry.allows (e : RcEntry) (secure : Bool) (right : Nat) : Bool :=
  (if secure then e.sRwx else e.nRwx) &&& right != 0

/-- Whether the range of an enabled entry holds an offset. -/
def RcEntry.holds (e : RcEntry) (off : Nat) : Bool := e.en && e.base ≤ off && off ≤ e.limit

/-- The 64 entries of a controller in force, lowest number first. -/
def State.rcEntries (s : State) (c : Nat) : List RcEntry :=
  (List.range 64).map fun e => tget {} s.worlds.entries (c * 64 + e)

/-- The world of the hull a range entry holds: the entry has its bits in S_RWX for the secure world, in N_RWX otherwise (R516, R520;
log entry 44). -/
def RcEntry.hullSecure (e : RcEntry) : Bool := e.sRwx != 0

/-- The decision at one byte (R516). The Pip store, the first 24 MiB of on-die SRAM (log entry 9), is open to no requester (R517). -/
def rcByte (entries : List RcEntry) (c : Nat) (a : Attr) (right off : Nat) : Bool :=
  if c = 2 ∧ off < 24 * 2 ^ 20 then false else
    match entries.find? (fun e => e.hullSel == 2 && e.holds off) with
    | some h =>
      if a.hull = some h.hull then h.allows h.hullSecure right
      else
        match entries.find? (fun w => w.hullHeld && w.hullSel != 2 && w.hull == h.hull && w.holds off && w.admits a) with
        | some w => w.allows a.secure right
        | none => false
    | none =>
      match entries.find? (fun e => !e.hullHeld && e.holds off && e.admits a) with
      | some e => e.allows a.secure right
      | none => false

/-- The first denied byte of an access, if any: an access of several bytes is allowed only when every byte is (R516). A controller
out of service denies everything (R519). -/
def State.rcDenied (s : State) (c : Nat) (a : Attr) (right off len : Nat) : Option Nat :=
  if s.worlds.rcFaulted.contains c then some off
  else ((List.range len).map (off + ·)).find? (fun o => !rcByte (s.rcEntries c) c a right o)

/-- What a denial does (R518). -/
def State.deny (s : State) (c : Nat) (a : Attr) (write : Bool) (off : Nat) : State :=
  let s := s.rcCount (rcReg c 0x04) 1
  let s := s.wr64 (rcReg c 0x08) off
  let vi := a.vi.getD 0xFFFF
  let s := s.wr (rcReg c 0x10)
    (b2n a.secure * 2 ^ 31 + b2n write * 2 ^ 30 + b2n a.hull.isSome * 2 ^ 29 + a.cls * 2 ^ 26 + a.hull.getD 0 * 2 ^ 16 + vi)
  let last := tget 0 s.worlds.lastDenied c
  if last ≠ 0 ∧ s.now < last - 1 + 1000 then s
  else
    let s := s.mWorlds fun w => { w with lastDenied := tset 0 w.lastDenied c (s.now + 1) }
    let d := c * 2 ^ 28 + b2n write * 2 ^ 27 + a.cls * 2 ^ 24 + vi
    let s := s.emit secWin 0x20 .denied 0 d
    if a.secure then s else s.emit pfWin 0x20 .denied 0 d

/-! ### Memory made for a function (R75, R76, R86 to R88) -/

/-- The MEM_FAULT event of a faulting access, at most one per VI in 64 ns; the others are counted (R76). -/
def State.memFault (s : State) (w addr : Nat) : State :=
  let last := tget 0 s.seed.lastFault w
  if last ≠ 0 ∧ s.now < last - 1 + 64 then s.rcCount 0x0060003C 1
  else
    let s := s.mSeed fun m => { m with lastFault := tset 0 m.lastFault w (s.now + 1) }
    s.emit w 0x28 .fault 0 (bits addr 39 8)

/-- The chunk map entry of a local address (R75). -/
def State.mapOf (s : State) (w addr : Nat) : MapEnt := tget {} s.seed.maps (w * 2 ^ 19 + addr / 2 ^ 21)

/-- The physical address of a local address, if a chunk is mapped there (R75, R76). -/
def State.phys (s : State) (w addr : Nat) : Option Nat :=
  if highSet addr || isHost addr then none
  else
    let e := s.mapOf w addr
    if e.mapped then some (e.mem * 2 ^ 60 + e.chunk * 2 ^ 21 + addr % 2 ^ 21) else none

/-- Chunks of Seedbank stack `k` (R72): a stack of 8 GiB has 4,096; the half-populated stack of 4 GiB has 2,048. -/
def State.stackChunks (s : State) (k : Nat) : Nat :=
  min 4096 (s.row.seedbankMiB / 2 - k * 4096)

/-- Whether a Seedbank stack is present and in service (R98, R105). -/
def State.stackUp (s : State) (k : Nat) : Bool :=
  0 < s.stackChunks k && (if k = 0 then s.seed.stack0 else s.seed.stack1) == 1

/-- Channels of LPDDR in service; none while LPDDR is out of service (R98, R105). -/
def State.lpChannels (s : State) : Nat := if s.rb 0x00600008 31 then 0 else s.rf 0x00600008 23 16

/-- Chunks of LPDDR in service: raw capacity, seven eighths of it with inline ECC (R72, R85). -/
def State.lpChunks (s : State) : Nat :=
  let raw := s.lpChannels * 2 ^ (s.rf 0x00600008 11 10 + 1) * 512
  if s.rb 0x00600008 30 then raw * 7 / 8 else raw

/-- Whether chunk `i` of a memory is in service (R72, R98). -/
def State.chunkUp (s : State) (mem i : Nat) : Bool :=
  if mem = 0 then s.stackUp (i / 4096) && i % 4096 < s.stackChunks (i / 4096) && i < 8192 else i < s.lpChunks

/-- Whether chunk `i` of a memory is a spare chunk (R94). -/
def State.chunkSpare (s : State) (mem i : Nat) : Bool :=
  if mem = 0 then s.chunkUp 0 i && s.stackChunks (i / 4096) - s.seed.sbSpares ≤ i % 4096
  else s.chunkUp 1 i && s.lpChunks - s.seed.lpSpares * s.lpChannels ≤ i

/-- The state code of a chunk (R105): FAILED beyond the memory in service, SPARE by R94, otherwise as held. -/
def State.chunkState (s : State) (mem i : Nat) : Nat :=
  if !s.chunkUp mem i then 6 else if s.chunkSpare mem i then 4 else (tget {} s.seed.chunks (mem * 2 ^ 20 + i)).state

/-- The spare chunks of a memory in order (R94). -/
def State.spareChunks (s : State) (mem : Nat) : List Nat :=
  if mem = 0 then
    (if s.stackUp 0 then (List.range s.seed.sbSpares).map (s.stackChunks 0 - s.seed.sbSpares + ·) else [])
      ++ (if s.stackUp 1 then (List.range s.seed.sbSpares).map (4096 + s.stackChunks 1 - s.seed.sbSpares + ·) else [])
  else (List.range (s.seed.lpSpares * s.lpChannels)).map (s.lpChunks - s.seed.lpSpares * s.lpChannels + ·)

/-- A page is to be retired: a spare page is taken and mirroring starts; with no spare page left the page stays in service and one
SPARES_EXHAUSTED event is written (R90, R91, R92 step 1, R94). On-die SRAM has no spare chunks. -/
def State.retirePage (s : State) (mem page : Nat) : State :=
  if 2 ≤ mem ∨ s.seed.retiring.any (fun r => r.mem == mem && r.page == page) then s
  else
    let used := (s.seed.retired ++ s.seed.retiring).countP fun r => r.mem == mem
    let sp := s.spareChunks mem
    if used < sp.length * 512 then
      s.mSeed fun m =>
        { m with retiring := m.retiring ++ [⟨mem, page, sp.getD (used / 512) 0 * 512 + used % 512⟩],
                 suspects := m.suspects.filter fun q => !(q.mem == mem && q.page == page) }
    else if s.seed.exhausted.contains mem then s
    else (s.mSeed fun m => { m with exhausted := m.exhausted ++ [mem] }).emitPf 0x2B .noResource (mem * 2 ^ 28)

/-- An uncorrectable error is found at a physical word by a reader: the word is poisoned and reported, and its page retired at
once (R86, R91). A read that meets a poisoned word again finds it again, and its page is retired again (DESIGN CHOICE, log entry 69). -/
def State.ueFound (s : State) (pa cls w : Nat) : State :=
  let s := (s.mSeed fun m => { m with poison := tset false m.poison (pa / 8) true }).ueCount pa cls w
  let s := s.emitPf 0x29 .fault (pa / 2 ^ 60 * 2 ^ 28 + pa % 2 ^ 60 / 4096)
  s.retirePage (pa / 2 ^ 60) (pa % 2 ^ 60 / 4096)

/-- Hours in ns. -/
def hourNs : Nat := 3600000000000

/-- A single-bit error found at a word: counted, and its page noted in the suspect table, which may retire it (R86, R90). -/
def State.ceFound (s : State) (pa : Nat) : State :=
  let s := s.incr64 0x00600020 1
  let mem := pa / 2 ^ 60
  let page := pa % 2 ^ 60 / 4096
  let mine := s.seed.suspects.filter fun q => q.mem == mem
  let others := s.seed.suspects.filter fun q => q.mem != mem
  let old := (mine.find? fun q => q.page == page).map (·.times)
  let rest := mine.filter fun q => q.page != page
  let rest :=
    if old.isNone ∧ 256 ≤ rest.length then
      let oldest := rest.foldl (fun m q => min m (q.times.headD 0)) (2 ^ 64)
      match rest.find? fun q => q.times.headD 0 == oldest with
      | some q => rest.filter fun r => r.page != q.page
      | none => rest
    else rest
  let times := s.now :: old.getD []
  let s := s.mSeed fun m => { m with suspects := others ++ rest ++ [⟨mem, page, times⟩] }
  let window := max 1 (s.rf 0x00600010 23 16) * hourNs
  let th := s.rf 0x00600010 7 0
  if th ≠ 0 ∧ th ≤ times.countP (fun x => s.now < x + window) then s.retirePage mem page else s

/-- The window number by which a run of an operand says that the memory word at its address, memory × 2^60 + offset, has an error when the
command reads it: its byte is 0 for a single-bit error, otherwise uncorrectable (R86; log entry 70). -/
def memErr : Nat := 0x20000

/-- One error that a command's reads meet (R86). LPDDR finds none with inline ECC off (R85). A single-bit error is corrected and counted; the
word of an uncorrectable one has lost its data, and the read that meets it reports it. -/
def State.memError (s : State) (r : HostRun) : State :=
  if r.w ≠ memErr ∨ (r.addr / 2 ^ 60 = 1 ∧ ¬ s.rb 0x00600008 30) then s
  else if r.bytes.headD 0 = 0 then s.ceFound (r.addr / 8 * 8)
  else s.mSeed fun m => { m with poison := tset false m.poison (r.addr / 8) true }

/-- The time of a command passes, and the errors its reads meet are there (R86). -/
def State.tickMem (dt : Nat) (hosts : List HostRun) (s : State) : State := hosts.foldl State.memError (s.tick dt)

/-- Every byte of a run of local addresses, physically; `none` when one is not mapped. -/
def State.physAll (s : State) (w addr n : Nat) : Option (List Nat) :=
  (List.range n).mapM fun i => s.phys w (addr + i)

/-- The bandwidth class number of MEM_UE_INFO that stands for an engine of a class of R510 (R99): COMPOSE for DISP, AUDIO, RENDER
for GFX, DMA otherwise; the class itself where the engine's traffic has one of its own. -/
def bwOf (cls : Nat) : Nat := if 8 ≤ cls then cls / 8 - 1 else match cls with | 3 => 5 | 4 => 4 | 5 => 3 | _ => 7

/-- The engine class of a direct layer's reads and of fill work: the class of R510, with the bandwidth class of R99 it is issued in (DIRECT 2,
FILL 6), plus 1, above it. -/
def clsDirect : Nat := 28
def clsFill : Nat := 59

/-- A read for a function by an engine of class `cls` (R76, R88, R510, R516). Bytes in host memory, or behind an import, come as
`ext`; `none` there is a read that faulted, unless PIXEL flits have returned the bytes (R643). The answer is `none` on a fault, after the reports of R76, R86 and R518. -/
def State.fetch (s : State) (w cls addr n : Nat) (ext : Option Bytes) : Option Bytes × State :=
  if isHost addr then
    match (if s.hostOk w then ext else none) with
    | some b => (some (b.take n ++ List.replicate (n - b.length) 0), s)
    | none => (none, s.memFault w addr)
  else
    match s.physAll w addr n with
    | none => (none, s.memFault w addr)
    | some pas =>
      if (s.mapOf w addr).mem = 3 then
        match ext, pas.mapM (fun p => tget none s.net.arrived p) with
        | some b, _ => (some (b.take n ++ List.replicate (n - b.length) 0), s)
        | none, some b => (some b, s)
        | none, none => (none, s.memFault w addr)
      else
        let a := s.fnAttr w cls
        match pas.find? (fun p => (s.rcDenied (p / 2 ^ 60) a 4 (p % 2 ^ 60) 1).isSome) with
        | some p => (none, s.deny (p / 2 ^ 60) a false (p % 2 ^ 60))
        | none =>
          match pas.find? (fun p => tget false s.seed.poison (p / 8)) with
          | some p =>
            let s := s.ueFound p (bwOf cls) w
            (none, if w = pfWin then s else s.emit w 0x29 .fault 0 (bits addr 39 12))
          | none => (some (pas.map fun p => tget 0 s.mem p), s)

/-- A write for a function by an engine of class `cls`: whether it was made, and the state after it. A faulting write is dropped
(R76); a denied one too (R518). A write of a VI that is being reset carries an old generation: it is dropped and counted (R493). -/
def State.store (s : State) (w cls addr : Nat) (bs : Bytes) : Bool × State :=
  if s.winDead w then (true, s.sat (viReg w 0x0C) 1)
  else if isHost addr then
    if s.hostOk w then (true, (s.hostWrite w addr bs).markDirty w addr bs.length) else (false, s.memFault w addr)
  else
    match s.physAll w addr bs.length with
    | none => (false, s.memFault w addr)
    | some pas =>
      if (List.range bs.length).any (fun i => (s.mapOf w (addr + i)).readOnly || (s.mapOf w (addr + i)).mem == 3) then
        (false, s.memFault w addr)
      else
        let a := s.fnAttr w cls
        match pas.find? (fun p => (s.rcDenied (p / 2 ^ 60) a 2 (p % 2 ^ 60) 1).isSome) with
        | some p => (false, s.deny (p / 2 ^ 60) a true (p % 2 ^ 60))
        | none =>
          let first := min bs.length (2 ^ 21 - addr % 2 ^ 21)
          let s := s.pwrite (pas.headD 0) (bs.take first) (bwOf cls) w
          let s := if first < bs.length then s.pwrite (pas.getD first 0) (bs.drop first) (bwOf cls) w else s
          (true, s.markDirty w addr bs.length)

/-! ### Grants, pools and channels (R45 to R49, R483 to R486) -/

/-- The size of the index pool of a channel kind; 0 where the function is absent (R483). -/
def State.poolSize (s : State) (kind : Nat) : Nat :=
  match kind with
  | 0x01 => 512
  | 0x02 => 1024
  | 0x03 => 1024
  | 0x04 => 256
  | 0x05 => 128
  | 0x06 => if s.row.electrodes = 0 then 0 else 256
  | 0x07 => if s.row.haptics = 0 then 0 else 256
  | 0x08 => 4096
  | 0x09 => 65536
  | 0x0A => 16384
  | 0x0B => if s.row.electrodes = 0 ∧ s.row.haptics = 0 then 0 else 128
  | 0x0C => s.row.pipes
  | _ => 0

/-- Whether an index lies in the range a VI's grant of the kind gives it (R484). -/
def State.inViRange (s : State) (v kind idx : Nat) : Bool :=
  let b := s.rd (grantReg v kind 0)
  b ≤ idx && idx < b + s.rd (grantReg v kind 4)

/-- Whether an index lies in the range of a window: the VI's, or for the PF what lies in no VI's range (R47, R484). -/
def State.inRange (s : State) (w kind idx : Nat) : Bool :=
  idx < s.poolSize kind &&
    (if w = pfWin then (List.range s.row.vis).all fun v => !s.inViRange v kind idx else s.inViRange w kind idx)

/-- The channel at an index. -/
def State.chan (s : State) (kind idx : Nat) : Chan := tget {} s.pods.chans (chanKey kind idx)

/-- The current generation of an index (R48). -/
def State.gen (s : State) (kind idx : Nat) : Nat := tget 0 s.pods.gens (chanKey kind idx)

/-- Whether a window's function owns the channel at an index, a draining one among them. -/
def State.owns (s : State) (w kind idx : Nat) : Bool :=
  (s.chan kind idx).phase != .free && (s.chan kind idx).owner == w

/-- The check of a handle that a field of kind `kind` names for window `w` (R47, R48): the index, or the status of the refusal. -/
def State.handleCheck (s : State) (w kind hw : Nat) : Except Status Nat :=
  let h := handleOf hw
  if h.kind ≠ kind ∨ ¬ (h.index < s.poolSize kind) ∨ ¬ (s.inRange w kind h.index ∨ s.owns w kind h.index) then .error .badHandle
  else if h.gen ≠ s.gen kind h.index then .error .staleHandle
  else if (s.chan kind h.index).phase = .live ∧ (s.chan kind h.index).owner = w then .ok h.index
  else .error .badHandle

/-- The handle word of the channel at an index: its generation is the current one (R45, R48), or the one before while the channel drains, since
an accepted DESTROY moved it on (R62). -/
def State.handleWord (s : State) (kind idx : Nat) : Nat :=
  let draining := match (s.chan kind idx).phase with | .draining _ => true | _ => false
  (Handle.mk kind (if draining then (s.gen kind idx + 511) % 512 else s.gen kind idx) idx).word

/-- The first of `n` numbers from `i` on that `p` holds of. -/
def findFrom (p : Nat → Bool) : Nat → Nat → Option Nat
  | 0, _ => none
  | n + 1, i => if p i then some i else findFrom p n (i + 1)

/-- The number of `n` from `i` on that `p` holds of with the lowest `key`; the first of them on a tie. -/
def findLeast (p : Nat → Bool) (key : Nat → Nat) : Nat → Nat → Option Nat → Option Nat
  | 0, _, best => best
  | n + 1, i, best =>
    findLeast p key n (i + 1)
      (if p i then (match best with | none => some i | some b => if key i < key b then some i else best) else best)

/-- The ranges of a kind that VIs hold: base and count, where the count is not 0 (R484). -/
def State.viRanges (s : State) (kind : Nat) : List (Nat × Nat) :=
  (List.range s.row.vis).filterMap fun v =>
    let n := s.rd (grantReg v kind 4)
    if n = 0 then none else some (s.rd (grantReg v kind 0), n)

/-- The free index of a kind that was freed longest ago among those in the window's range; those never used come first, lowest
first (R49, R485; log entry 10). While the VI holds more than a lowered grant none is taken (R486). -/
def State.pickIndex (s : State) (w kind : Nat) : Option Nat :=
  let rs := s.viRanges kind
  let base := if w = pfWin then 0 else s.rd (grantReg w kind 0)
  let n := if w = pfWin then s.poolSize kind else min (s.rd (grantReg w kind 4)) (s.poolSize kind - base)
  let ok := fun i => (w == pfWin || !s.rb (viReg w 0x10) (kind - 1)) && (w != pfWin || rs.all fun r => i < r.1 || r.1 + r.2 ≤ i) && (s.chan kind i).phase == .free
  let age := fun i => tget 0 s.pods.freed (chanKey kind i)
  match findFrom (fun i => ok i && age i == 0) n base with
  | some i => some i
  | none => findLeast ok age n base none

/-- The state with an index taken for a window (R49, R485); the grant's USED counts it. -/
def State.takeIndex (s : State) (w kind idx : Nat) (ph : ChanPhase) : State :=
  let s := s.mPods fun p => { p with chans := tset {} p.chans (chanKey kind idx) ⟨ph, w⟩ }
  if w = pfWin then s else s.wr (grantReg w kind 8) (s.rd (grantReg w kind 8) + 1)

/-- Whether what a VI holds of a grant kind lies above its grant, and the VI_SHRINK bit and SHRINK_DONE event that follow (R486). -/
def State.shrinkCheck (s : State) (v kind : Nat) : State :=
  if v = pfWin then s
  else
    let outside :=
      if kind ≤ 0x0B then
        (List.range (s.poolSize kind)).any fun i => s.owns v kind i && !s.inViRange v kind i
      else decide (s.rd (grantReg v kind 4) < s.rd (grantReg v kind 8))
    if s.rb (viReg v 0x10) (kind - 1) && !outside then
      (s.wb (viReg v 0x10) (kind - 1) false).emitPf 0x08 .ok (kind * 2 ^ 24 + v)
    else if outside then s.wb (viReg v 0x10) (kind - 1) true
    else s

/-- The state with an index given back to the free list (R49, R62). -/
def State.freeIndex (s : State) (kind idx : Nat) : State :=
  let w := (s.chan kind idx).owner
  let s := s.mPods fun p =>
    { p with chans := tset {} p.chans (chanKey kind idx) {}, freeSeq := p.freeSeq + 1,
             freed := tset 0 p.freed (chanKey kind idx) (p.freeSeq + 1) }
  let s := if w = pfWin then s else s.wr (grantReg w kind 8) (s.rd (grantReg w kind 8) - 1)
  s.shrinkCheck w kind

/-- The generation of an index moved on: 511 is followed by 0 (R48). -/
def State.bumpGen (s : State) (kind idx : Nat) : State :=
  s.mPods fun p => { p with gens := tmod 0 p.gens (chanKey kind idx) (fun g => (g + 1) % 512) }

/-- The CHANNEL_DONE record of a control-ring entry (R60, R71). -/
def State.channelDone (s : State) (w : Nat) (st : Status) (handle tag opcode : Nat) : State :=
  s.emit w 0x02 st handle (tag * 2 ^ 16 + opcode * 2 ^ 8)

/-- A grant of amount kind holds room for `n` more; the PF is not limited (R485, R486). -/
def State.grantRoom (s : State) (w kind n : Nat) : Bool :=
  w == pfWin || s.rd (grantReg w kind 8) + n ≤ s.rd (grantReg w kind 4)

/-- `n` counted against a grant of a VI. -/
def State.grantTake (s : State) (w kind n : Nat) : State :=
  if w = pfWin then s else s.wr (grantReg w kind 8) (s.rd (grantReg w kind 8) + n)

/-- `n` given back to a grant of a VI (R486). -/
def State.grantGive (s : State) (w kind n : Nat) : State :=
  if w = pfWin then s else (s.wr (grantReg w kind 8) (s.rd (grantReg w kind 8) - n)).shrinkCheck w kind

/-! ### Control-ring entries in process (R58, R60) -/

/-- The control entry of a window that waits for the command named by an opcode and, for CREATE, a kind. -/
def State.ctlWaits (s : State) (w opcode kind : Nat) : Option CtlEntry :=
  match tget none s.pods.ctl w with
  | some e => if !e.begun ∧ e.opcode = opcode ∧ (opcode = 1 → e.kind = kind) then some e else none
  | none => none

/-- The control entry of a window leaves the process; its CHANNEL_DONE may come later (R60, R62, R79). -/
def State.ctlClear (s : State) (w : Nat) : State := s.mPods fun p => { p with ctl := tset none p.ctl w none }

/-- The CREATE in process of a window is accepted and completes later; the entries after it wait (R60). -/
def State.ctlBegin (s : State) (w : Nat) : State :=
  s.mPods fun p => { p with ctl := tset none p.ctl w ((tget none p.ctl w).map fun e => { e with begun := true }) }

/-- A CREATE that was begun has completed: the next entry is processed (R60). -/
def State.ctlEnd (s : State) (w : Nat) : State :=
  s.mPods fun p => { p with ctl := match tget none p.ctl w with | some e => if e.begun then tset none p.ctl w none else p.ctl | none => p.ctl }

/-- The control entry of a window completes with a status and a handle (R60). -/
def State.ctlDone (s : State) (w : Nat) (e : CtlEntry) (st : Status) (handle : Nat) : State :=
  (s.ctlClear w).channelDone w st handle e.tag e.opcode

/-- The parameter block of a control entry, which lies in host memory (R58): the bytes read, or `none` on a fault (R76). -/
def State.params (s : State) (w : Nat) (e : CtlEntry) (ext : Option Bytes) : Option Bytes × State :=
  s.fetch w 6 (2 ^ 63 + e.paramAddr % 2 ^ 63) e.paramLen ext

/-- A CREATE whose parameter block cannot be read completes with FAULT, in `t`, the state the read leaves; where what it needs whatever the block
says is not there, it is refused, and the read leaves no trace (R19, R20). -/
def State.createFault (s t : State) (w : Nat) (e : CtlEntry) (short : Bool) : State :=
  if short then s.ctlDone w e .noResource 0 else t.ctlDone w e .fault 0

/-- Something the persistent settings hold has changed (R592). -/
def State.psetChanged (s : State) : State :=
  s.mStart fun t => { t with psetDue := match t.psetDue with | some d => some d | none => some s.now }

/-! ### Spoof drops -/

/-- A SPOOF drop or refusal of a VI: counted, and the first in any 1 ms reported to the PF with the field (R490). -/
def State.spoofDrop (s : State) (w field : Nat) : State :=
  if w = pfWin then s
  else
    let s := (s.sat (viReg w 0x08) 1).sat 0x0040000C 1
    let last := tget 0 s.vims.spoofAt w
    if last ≠ 0 ∧ s.now < last - 1 + 1000000 then s
    else
      (s.mVims fun v => { v with spoofAt := tset 0 v.spoofAt w (s.now + 1) }).emitPf 0x06 .spoof (field * 2 ^ 24 + w)

end Sys2Proof.Machine
end

