-- ==== Sys2Proof/Machine/Fences.lean ====
section
/-!
DEFINITION. Fences: reads of memory outside the device as operands supply them, readers of a function's memory, and timeline
fences (Commit and frame timing).
-/
namespace Sys2Proof.Machine

/-- The bytes a window reads at a device address outside the device, if a run holds them all. -/
def runAt (hosts : List HostRun) (w addr n : Nat) : Option Bytes :=
  match hosts.find? fun r => r.w == w && r.addr ≤ addr && addr + n ≤ r.addr + r.bytes.length with
  | some r => some ((r.bytes.drop (addr - r.addr)).take n)
  | none => none

/-- Bytes read for a function without any report: the bytes, or the address whose read faults. -/
def State.peek (s : State) (w cls : Nat) (hosts : List HostRun) (addr n : Nat) : Except Nat Bytes :=
  if isHost addr then
    match (if s.hostOk w then runAt hosts w addr n else none) with
    | some b => .ok b
    | none => .error addr
  else
    match (List.range n).find? fun i => (s.phys w (addr + i)).isNone with
    | some i => .error (addr + i)
    | none =>
      if (s.mapOf w addr).mem = 3 then
        match runAt hosts w addr n, (List.range n).mapM (fun i => tget none s.net.arrived ((s.phys w (addr + i)).getD 0)) with
        | some b, _ => .ok b
        | none, some b => .ok b
        | none, none => .error addr
      else
        let pa (i : Nat) : Nat := (s.phys w (addr + i)).getD 0
        let a := s.fnAttr w cls
        match (List.range n).find? fun i =>
            (s.rcDenied (pa i / 2 ^ 60) a 4 (pa i % 2 ^ 60) 1).isSome || tget false s.seed.poison (pa i / 8) with
        | some i => .error (addr + i)
        | none => .ok ((List.range n).map fun i => tget 0 s.mem (pa i))

/-- The reports of a read that faults at an address: MEM_FAULT, a denial or an uncorrectable error (R76, R86, R518). -/
def State.reportFault (s : State) (w cls addr : Nat) : State := (s.fetch w cls addr 1 none).2

/-- Bytes read for a function, with the reports of a fault. -/
def State.load (s : State) (w cls : Nat) (hosts : List HostRun) (addr n : Nat) : Option Bytes × State :=
  match s.peek w cls hosts addr n with
  | .ok b => (some b, s)
  | .error a => (none, s.reportFault w cls a)

/-- The fence at an index. -/
def State.fence (s : State) (i : Nat) : FenceSt := tget {} s.display.fences i

/-- Signalling a fence, named by a handle of the window's function, to a value (R180, R181). A handle whose fence is gone signals
nothing; 0 names none. -/
def State.fenceSignal (s : State) (w hw v : Nat) : State :=
  if hw = 0 then s
  else
    match s.handleCheck w kFence hw with
    | .error _ => s
    | .ok i =>
      let f := s.fence i
      if v ≤ f.value then s
      else
        let s := s.mDisplay fun d => { d with fences := tset {} d.fences i { f with value := v } }
        if f.mirror = 0 then s else (s.store w 6 f.mirror (leBytes v 8)).2

/-- Several fences signalled in order. -/
def State.fenceSignals (s : State) (w : Nat) : List (Nat × Nat) → State
  | [] => s
  | (h, v) :: r => (s.fenceSignal w h v).fenceSignals w r

/-- Whether a fence counts as signalled for a value; handle 0 counts as ready, a destroyed fence never does (R180, R182, R183). -/
def State.fenceReady (s : State) (w hw v : Nat) : Bool :=
  hw == 0 ||
    match s.handleCheck w kFence hw with
    | .error _ => false
    | .ok i => v ≤ (s.fence i).value

/-- A CREATE completes at once: the index is taken live and the handle reported (R49, R60). -/
def State.createDone (s : State) (w : Nat) (e : CtlEntry) (kind idx : Nat) : State :=
  let s := s.takeIndex w kind idx .live
  s.ctlDone w e .ok (s.handleWord kind idx)

/-- CREATE of a fence (R179, R485). -/
def execCreateFence (dt w : Nat) (ext : Option Bytes) (s : State) : Host.Outcome State Fault Refusal :=
  let s := s.tick dt
  match s.ctlWaits w 1 kFence with
  | none => .next s
  | some e =>
    if e.paramLen ≠ 16 then .next (s.ctlDone w e .badParam 0)
    else
      match s.params w e ext with
      | (none, t) => .next (s.createFault t w e (s.pickIndex w kFence).isNone)
      | (some b, s) =>
        let n := leNat b
        let mirror := bits n 127 64
        if mirror % 8 ≠ 0 ∨ (¬ isHost mirror ∧ highSet mirror) then .next (s.ctlDone w e .badParam 0)
        else
          match s.pickIndex w kFence with
          | none => .next (s.ctlDone w e .noResource 0)
          | some i =>
            let s := s.mDisplay fun d => { d with fences := tset {} d.fences i ⟨bits n 63 0, mirror⟩ }
            .next (s.createDone w e kFence i)

end Sys2Proof.Machine
end

