-- ==== Sys2Proof/Machine/Surface.lean ====
section
/-!
DEFINITION. Surface: pixel formats and their conversion, compressed blocks and flags, the scalers, the blend arithmetic and the
frame-store words: the pure arithmetic of Layers and composition, and of the surfaces of Render pipeline.
-/
namespace Sys2Proof.Machine

/-! ### Pixels -/

/-- A pixel in the 16-bit working form (R120). -/
structure Px where
  a : Nat
  r : Nat
  g : Nat
  b : Nat
  deriving DecidableEq, Repr, Inhabited

/-- Transparent black (R144). -/
def Px.clear : Px := ⟨0, 0, 0, 0⟩

/-- A colour function applied to the three colour components. -/
def Px.mapRgb (f : Nat → Nat) (p : Px) : Px := ⟨p.a, f p.r, f p.g, f p.b⟩

/-- Exact division by 65,535, rounded to nearest with ties upward (R128). -/
def mul16 (a b : Nat) : Nat := (2 * a * b + 65535) / 131070

/-- The expansion of an 8-bit, 10-bit and 2-bit component (R120). -/
def exp8 (v : Nat) : Nat := v * 257
def exp10 (v : Nat) : Nat := v * 64 + v / 16
def exp2 (v : Nat) : Nat := v * 21845

/-- A binary16 value as a 16-bit unorm: NaN gives 0, otherwise clamped to [0, 1] and rounded, ties upward (R120). -/
def half16 (h : Nat) : Nat :=
  let e := bits h 14 10
  let m := bits h 9 0
  if e = 31 ∧ m ≠ 0 then 0
  else if bit h 15 then 0
  else if e = 31 then 65535
  else
    let n := if e = 0 then m else 1024 + m
    min 65535 ((2 * n * 65535 * 2 ^ (max e 1) + 2 ^ 25) / 2 ^ 26)

/-- A colour of 64 bits: A, R, G, B from the top, 16 bits each (R111). -/
def px64 (v : Nat) : Px := ⟨bits v 63 48, bits v 47 32, bits v 31 16, bits v 15 0⟩

/-- A colour of 32 bits: A, R, G, B from the top, 8 bits each, expanded (R111, R120). -/
def px32 (v : Nat) : Px := ⟨exp8 (bits v 31 24), exp8 (bits v 23 16), exp8 (bits v 15 8), exp8 (bits v 7 0)⟩

/-! ### Formats -/

/-- Bytes of a pixel word of plane 0 of a format the layer engine reads; 0 for a code of no such format (R116, R295). -/
def fmtBytes (f : Nat) : Nat :=
  match f with
  | 0x01 => 4 | 0x02 => 4 | 0x03 => 4 | 0x04 => 4 | 0x05 => 4 | 0x06 => 4 | 0x07 => 4 | 0x08 => 8 | 0x09 => 8
  | 0x10 => 1 | 0x11 => 1 | 0x12 => 2 | 0x13 => 2 | 0x20 => 4 | 0x21 => 8 | _ => 0

/-- The bits per pixel of R116; for the ZCMP formats those of R212. -/
def fmtBits (f : Nat) : Nat :=
  match f with
  | 0x10 => 12 | 0x11 => 16 | 0x12 => 24 | 0x13 => 32 | _ => 8 * fmtBytes f

/-- Whether a format carries alpha (R116). -/
def fmtAlpha (f : Nat) : Bool := [0x01, 0x03, 0x05, 0x07, 0x08, 0x09, 0x20, 0x21].contains f

/-- Whether a format is one of the YCbCr formats (R116). -/
def fmtYuv (f : Nat) : Bool := 0x10 ≤ f && f ≤ 0x13

/-- Whether chroma is at half height (R116). -/
def fmt420 (f : Nat) : Bool := f == 0x10 || f == 0x12

/-- Whether samples have 10 bits in 16-bit words (R116). -/
def fmtTen (f : Nat) : Bool := f == 0x12 || f == 0x13

/-- Whether a format is blocked (R295). -/
def fmtZcmp (f : Nat) : Bool := f == 0x20 || f == 0x21

/-- The widths of the fields of a pixel word, from bit 0 upward (R116, R294, R297). -/
def fmtChannels (f : Nat) : List Nat :=
  match f with
  | 0x05 => [10, 10, 10, 2] | 0x06 => [10, 10, 10, 2] | 0x07 => [10, 10, 10, 2]
  | 0x08 => [16, 16, 16, 16] | 0x09 => [16, 16, 16, 16] | 0x21 => [16, 16, 16, 16]
  | 0x30 => [8] | 0x31 => [8, 8] | 0x32 => [16] | 0x33 => [16, 16] | 0x34 => [32] | 0x35 => [32, 32] | 0x36 => [32, 32, 32, 32] | 0x37 => [32]
  | 0x40 => [16] | 0x41 => [32] | 0x42 => [8]
  | _ => [8, 8, 8, 8]

/-- A pixel word of an RGB format expanded (R116, R117, R120). -/
def fmtExpand (f v : Nat) : Px :=
  let p : Px :=
    match f with
    | 0x01 => px32 v
    | 0x02 => px32 v
    | 0x03 => ⟨exp8 (bits v 31 24), exp8 (bits v 7 0), exp8 (bits v 15 8), exp8 (bits v 23 16)⟩
    | 0x04 => ⟨0, exp8 (bits v 7 0), exp8 (bits v 15 8), exp8 (bits v 23 16)⟩
    | 0x05 => ⟨exp2 (bits v 31 30), exp10 (bits v 29 20), exp10 (bits v 19 10), exp10 (bits v 9 0)⟩
    | 0x06 => ⟨0, exp10 (bits v 29 20), exp10 (bits v 19 10), exp10 (bits v 9 0)⟩
    | 0x07 => ⟨exp2 (bits v 31 30), exp10 (bits v 9 0), exp10 (bits v 19 10), exp10 (bits v 29 20)⟩
    | 0x08 => ⟨bits v 63 48, bits v 15 0, bits v 31 16, bits v 47 32⟩
    | 0x20 => ⟨exp8 (bits v 31 24), exp8 (bits v 7 0), exp8 (bits v 15 8), exp8 (bits v 23 16)⟩
    | _ => ⟨half16 (bits v 63 48), half16 (bits v 15 0), half16 (bits v 31 16), half16 (bits v 47 32)⟩
  if fmtAlpha f then p else { p with a := 65535 }

/-- Kr and Kb of a CSC code in ten-thousandths (R122). -/
def cscK (csc : Nat) : Nat × Nat := if csc ≤ 2 then (2990, 1140) else if csc ≤ 4 then (2126, 722) else (2627, 593)

/-- A rational brought to 16 bits: times 65,535, rounded to nearest with ties upward, clamped (R122). -/
def unorm16 (num : Int) (den : Nat) : Nat :=
  (clampI 0 65535 ((2 * num * 65535 + (den : Int)) / (2 * (den : Int)))).toNat

/-- A YCbCr sample of `n` bits converted (R120, R122). Codes 1, 3 and 5 are limited range. -/
def cscPx (csc n y cb cr : Nat) : Px :=
  let sh := 2 ^ (16 - n)
  let m : Nat := (2 ^ n - 1) * sh
  let limited := csc % 2 = 1
  let yn : Int := if limited then (y * sh : Nat) - 4096 else (y * sh : Nat)
  let yd : Nat := if limited then 56064 else m
  let bn : Int := (cb * sh : Nat) - 32768
  let rn : Int := (cr * sh : Nat) - 32768
  let cd : Nat := if limited then 57344 else m
  let (kr, kb) := cscK csc
  let kg : Nat := 10000 - kr - kb
  let r := unorm16 (yn * cd * 10000 + 2 * (10000 - kr : Nat) * rn * yd) (yd * cd * 10000)
  let b := unorm16 (yn * cd * 10000 + 2 * (10000 - kb : Nat) * bn * yd) (yd * cd * 10000)
  let g := unorm16 (yn * cd * kg * 10000 - 2 * kr * (10000 - kr : Nat) * rn * yd - 2 * kb * (10000 - kb : Nat) * bn * yd)
    (yd * cd * kg * 10000)
  ⟨65535, r, g, b⟩

/-! ### Layer state records (R111) -/

/-- A layer state record as the number its 128 bytes hold. -/
abbrev Lsr := Nat

def lsrEnable (l : Lsr) : Bool := bit l 0
def lsrOpaque (l : Lsr) : Bool := bit l 1
def lsrSafety (l : Lsr) : Bool := bit l 2
def lsrFeather (l : Lsr) : Bool := bit l 3
def lsrHl (l : Lsr) : Bool := bit l 4
def lsrBlend (l : Lsr) : Nat := bits l 9 8
def lsrLate (l : Lsr) : Nat := bits l 11 10
def lsrCsc (l : Lsr) : Nat := bits l 15 12
def lsrDegamma (l : Lsr) : Nat := bits l 20 16
def lsrCoef (l : Lsr) : Nat := bits l 27 24
def lsrFormat (l : Lsr) : Nat := bits l 39 32
def lsrZ (l : Lsr) : Nat := bits l 47 40
def lsrAlpha (l : Lsr) : Nat := bits l 63 48
def lsrPlane0 (l : Lsr) : Nat := bits l 127 64
def lsrPlane1 (l : Lsr) : Nat := bits l 191 128
def lsrFlags (l : Lsr) : Nat := bits l 255 192
def lsrMeta (l : Lsr) : Nat := bits l 319 256
def lsrStride0 (l : Lsr) : Nat := bits l 351 320
def lsrStride1 (l : Lsr) : Nat := bits l 383 352
def lsrBufW (l : Lsr) : Nat := bits l 399 384
def lsrBufH (l : Lsr) : Nat := bits l 415 400
def lsrCropX (l : Lsr) : Nat := bits l 431 416
def lsrCropY (l : Lsr) : Nat := bits l 447 432
def lsrCropW (l : Lsr) : Nat := bits l 463 448
def lsrCropH (l : Lsr) : Nat := bits l 479 464
def lsrDstX (l : Lsr) : Int := sext 16 (bits l 495 480)
def lsrDstY (l : Lsr) : Int := sext 16 (bits l 511 496)
def lsrDstW (l : Lsr) : Nat := bits l 527 512
def lsrDstH (l : Lsr) : Nat := bits l 543 528
def lsrHlColour (l : Lsr) : Nat := bits l 575 544
def lsrSolid (l : Lsr) : Nat := bits l 639 576
def lsrClear (l : Lsr) : Nat := bits l 703 640
def lsrAcqFence (l : Lsr) : Nat := bits l 735 704
def lsrRelFence (l : Lsr) : Nat := bits l 767 736
def lsrAcqValue (l : Lsr) : Nat := bits l 831 768
def lsrRelValue (l : Lsr) : Nat := bits l 895 832
def lsrHlWidth (l : Lsr) : Nat := bits l 903 896

/-- A layer is scaled when its crop size differs from its destination size (R141). -/
def lsrScaled (l : Lsr) : Bool := lsrCropW l != lsrDstW l || lsrCropH l != lsrDstH l

/-- The vertical taps that fit the line buffer (R147); 0 for a layer that is not scaled. -/
def lsrTaps (l : Lsr) : Nat :=
  if !lsrScaled l then 0
  else if lsrCropW l * 5 ≤ 40960 then 6
  else if lsrCropW l * 3 ≤ 40960 then 4
  else 2

/-- An address that is a local one with HIGH not 0 (R75, R112). -/
def badHigh (a : Nat) : Bool := !isHost a && highSet a

/-- A reserved bit or encoding of a record, or a value the second row of R112 names. -/
def lsrBadParam (l : Lsr) : Bool :=
  let f := lsrFormat l
  bits l 1023 904 != 0 || bits l 31 28 != 0 || bits l 23 21 != 0 || bits l 7 5 != 0 || fmtBytes f == 0 || lsrLate l == 3
  || 6 < lsrCsc l || 16 < lsrDegamma l || 63 < lsrZ l || 16 < lsrHlWidth l || (lsrCsc l == 0) == fmtYuv f
  || (lsrFlags l != 0 && fmtYuv f)
  || lsrPlane0 l % 256 != 0 || lsrPlane1 l % 256 != 0 || lsrFlags l % 64 != 0 || lsrMeta l % 4 != 0
  || badHigh (lsrPlane0 l) || badHigh (lsrPlane1 l) || badHigh (lsrFlags l) || badHigh (lsrMeta l)

/-- A stride below its plane's row size or not a multiple of 64; the ZCMP formats take the rules of R295 (R112, R118). The row of plane 1 of a
buffer of odd width holds half the width rounded up (DESIGN CHOICE, log entry 71). -/
def lsrBadStride (l : Lsr) : Bool :=
  let f := lsrFormat l
  let w := lsrBufW l
  if fmtZcmp f then lsrStride0 l % 256 != 0 || lsrStride0 l < cdiv w 8 * 64 * fmtBytes f
  else
    lsrStride0 l % 64 != 0 || lsrStride0 l < w * fmtBytes f
    || (fmtYuv f && (lsrStride1 l % 64 != 0 || lsrStride1 l < cdiv w 2 * 2 * fmtBytes f))

/-- The geometry row of R112, with R119 and R141. -/
def lsrBadGeometry (direct : Bool) (l : Lsr) : Bool :=
  let size (v : Nat) : Bool := v == 0 || 16384 < v
  let pos (v : Int) : Bool := v < -16384 || 16383 < v
  let f := lsrFormat l
  size (lsrBufW l) || size (lsrBufH l) || size (lsrCropW l) || size (lsrCropH l) || size (lsrDstW l) || size (lsrDstH l)
  || pos (lsrDstX l) || pos (lsrDstY l)
  || lsrBufW l < lsrCropX l + lsrCropW l || lsrBufH l < lsrCropY l + lsrCropH l || lsrBadStride l
  || (fmtYuv f && (lsrCropX l % 2 != 0 || lsrCropW l % 2 != 0))
  || (fmt420 f && (lsrCropY l % 2 != 0 || lsrCropH l % 2 != 0))
  || (if direct then lsrScaled l
      else lsrDstW l < cdiv (lsrCropW l) 8 || lsrCropW l * 16 < lsrDstW l || lsrDstH l < cdiv (lsrCropH l) 8 || lsrCropH l * 16 < lsrDstH l)

/-! ### Fetching a layer's pixels -/

/-- How bytes are read: the number `n` bytes at a device address hold, or the address that faulted. -/
abbrev Reader := Nat → Nat → Except Nat Nat

/-- The address of pixel (x, y) of a linear or a blocked surface (R295). -/
def pixelAddr (f base stride x y : Nat) : Nat :=
  let n := fmtBytes f
  if fmtZcmp f then base + y / 8 * stride + x / 8 * (64 * n) + (y % 8 * 8 + x % 8) * n else base + y * stride + x * n

/-- The flag of the block that holds (x, y): 0 clear, 1 compressed, 2 raw, 3 reserved (R296). -/
def blockFlag (rd : Reader) (flags width x y : Nat) : Except Nat Nat :=
  let fstride := cdiv (cdiv width 32) 64 * 64
  (rd (flags + y / 8 * fstride + x / 8 / 4) 1).map fun b => b / 2 ^ (2 * (x / 8 % 4)) % 4

/-- The channel headers of a compressed block: smallest value and width of each, and the bits read (R297). -/
def blockHeader (stream : Nat) : List Nat → Nat → List (Nat × Nat) × Nat
  | [], pos => ([], pos)
  | b :: bs, pos =>
    let m := stream / 2 ^ pos % 2 ^ b
    let w := stream / 2 ^ (pos + b) % 32
    let (rest, e) := blockHeader stream bs (pos + b + 5)
    ((m, w) :: rest, e)

/-- The pixel word of pixel `p` of a compressed block: the channels' values put side by side (R297). -/
def blockPixel (stream p : Nat) : List (Nat × Nat) → List Nat → Nat → Nat → Nat
  | (m, w) :: hs, b :: bs, pos, shift =>
    (m + stream / 2 ^ (pos + p * w) % 2 ^ w) % 2 ^ b * 2 ^ shift + blockPixel stream p hs bs (pos + 64 * w) (shift + b)
  | _, _, _, _ => 0

/-- The bytes of pixels 0 to 31 of the block that holds (x, y), as one number: `n` bytes a pixel, pixel (x, y) at address `a x y` (R297). -/
def blockStream (rd : Reader) (n : Nat) (a : Nat → Nat → Nat) (x y : Nat) : Nat → Except Nat Nat
  | 0 => .ok 0
  | k + 1 =>
    match blockStream rd n a x y k with
    | .error e => .error e
    | .ok st =>
      match rd (a (x / 8 * 8 + k % 8) (y / 8 * 8 + k / 8)) n with
      | .error e => .error e
      | .ok v => .ok (st + v * 2 ^ (8 * n * k))

/-- A compressed pixel word of a format (R297). -/
def blockWord (rd : Reader) (f n : Nat) (a : Nat → Nat → Nat) (x y : Nat) : Except Nat Nat :=
  (blockStream rd n a x y 32).map fun st =>
    let (hs, pos) := blockHeader st (fmtChannels f) 0
    blockPixel st (y % 8 * 8 + x % 8) hs (fmtChannels f) pos 0

/-- A chroma sample of plane 1, Cb and Cr, at a column and row of it; outside the crop the nearest inside (R116, R121). -/
def chromaAt (rd : Reader) (l : Lsr) (cx cy : Int) : Except Nat (Nat × Nat) :=
  let f := lsrFormat l
  let n := fmtBytes f
  let x := clampI (lsrCropX l / 2 : Nat) ((lsrCropX l + lsrCropW l) / 2 - 1 : Nat) cx
  let y := if fmt420 f then clampI (lsrCropY l / 2 : Nat) ((lsrCropY l + lsrCropH l) / 2 - 1 : Nat) cy
           else clampI (lsrCropY l : Nat) (lsrCropY l + lsrCropH l - 1 : Nat) cy
  (rd (lsrPlane1 l + y.toNat * lsrStride1 l + x.toNat * 2 * n) (2 * n)).map fun v =>
    if fmtTen f then (bits v 15 6, bits v 31 22) else (bits v 7 0, bits v 15 8)

/-- The vertical step of chroma upsampling at a chroma column (R121). -/
def chromaV (rd : Reader) (l : Lsr) (cx : Int) (y : Nat) : Except Nat (Nat × Nat) := do
  if fmt420 (lsrFormat l) then
    let near ← chromaAt rd l cx (y / 2 : Nat)
    let far ← chromaAt rd l cx (if y % 2 = 0 then (y / 2 : Int) - 1 else ((y + 1) / 2 : Nat))
    pure ((3 * near.1 + far.1 + 2) / 4, (3 * near.2 + far.2 + 2) / 4)
  else chromaAt rd l cx (y : Nat)

/-- Chroma at a luma position: vertical step first, then horizontal (R121). -/
def chroma (rd : Reader) (l : Lsr) (x y : Nat) : Except Nat (Nat × Nat) := do
  let c ← chromaV rd l (x / 2 : Nat) y
  if x % 2 = 0 then pure c
  else
    let d ← chromaV rd l (x / 2 + 1 : Nat) y
    pure ((c.1 + d.1 + 1) / 2, (c.2 + d.2 + 1) / 2)

/-- One buffer pixel through steps 1 to 4 of R123, with whether its block's flag was reserved (R117, R121, R122, R139). -/
def sourcePx (rd : Reader) (l : Lsr) (x y : Nat) : Except Nat (Px × Bool) := do
  let f := lsrFormat l
  let fix (p : Px) : Px := if lsrOpaque l || !fmtAlpha f then { p with a := 65535 } else p
  if fmtYuv f then
    let v ← rd (lsrPlane0 l + y * lsrStride0 l + x * fmtBytes f) (fmtBytes f)
    let c ← chroma rd l x y
    if fmtTen f then pure (fix (cscPx (lsrCsc l) 10 (bits v 15 6) c.1 c.2), false)
    else pure (fix (cscPx (lsrCsc l) 8 v c.1 c.2), false)
  else
    let flag ← if lsrFlags l = 0 then pure 2 else blockFlag rd (lsrFlags l) (lsrBufW l) x y
    if flag = 0 then pure (fix (px64 (lsrClear l)), false)
    else if flag = 1 then
      let v ← blockWord rd f (fmtBytes f) (pixelAddr f (lsrPlane0 l) (lsrStride0 l)) x y
      pure (fix (fmtExpand f v), false)
    else if flag = 2 then
      let v ← rd (pixelAddr f (lsrPlane0 l) (lsrStride0 l) x y) (fmtBytes f)
      pure (fix (fmtExpand f v), false)
    else pure (fix Px.clear, true)

/-! ### Degamma and scaling -/

/-- The degamma function of a table whose entries `e` gives (R124). -/
def degamma16 (e : Nat → Nat) (v : Nat) : Nat :=
  let i := v / 64
  let f : Int := (v % 64 : Nat)
  ((e i : Int) + (((e (i + 1) : Int) - (e i : Int)) * f + 32) / 64).toNat

/-- The scaler coefficient sets: set, vertical or not, phase and tap give a signed coefficient (R145, R146). -/
abbrev Coefs := Nat → Bool → Nat → Nat → Int

/-- The source position of output pixel `i` on an axis: base and phase (R143). -/
def scalePos (crop dst i : Nat) : Int × Nat :=
  let step := crop * 65536 / dst
  let pos : Int := (step / 2 : Nat) - 32768 + (i * step : Nat)
  (pos / 65536, (pos % 65536).toNat / 1024)

/-- The vertical taps used: offset from base of the first, and the coefficients, folded when reduced (R144, R148). -/
def vTaps (c : Nat → Int) (taps : Nat) : Int × List Int :=
  let fold (v : Int) : Int := clampI (-2048) 2047 v
  if taps = 4 then (-1, [fold (c 0 + c 1), c 2, c 3, fold (c 4 + c 5)])
  else if taps = 2 then (0, [fold (c 0 + c 1 + c 2), fold (c 3 + c 4 + c 5)])
  else (-2, [c 0, c 1, c 2, c 3, c 4, c 5])

/-- A filter sum clamped and rounded (R145). -/
def filterOut (sum : Int) : Nat := (clampI 0 65535 ((sum + 512) / 1024)).toNat

/-- Several pixels weighted, component by component (R145). -/
def weighPx : List (Int × Px) → Px := fun l =>
  let f (g : Px → Nat) : Nat := filterOut (l.foldl (fun s c => s + c.1 * (g c.2 : Int)) 0)
  ⟨f Px.a, f Px.r, f Px.g, f Px.b⟩

/-- A list of pixels fetched, with whether any met a reserved flag. -/
def fetchAll {α : Type} (get : α → Except Nat (Px × Bool)) : List α → Except Nat (List Px × Bool)
  | [] => .ok ([], false)
  | a :: r => do
    let p ← get a
    let q ← fetchAll get r
    pure (p.1 :: q.1, p.2 || q.2)

/-- A tap's source position brought into the crop; `none` is a transparent edge (R144). -/
def tapAt (feather : Bool) (crop : Nat) (i : Int) : Option Nat :=
  if 0 ≤ i ∧ i < (crop : Int) then some i.toNat else if feather then none else some (clampI 0 ((crop : Int) - 1) i).toNat

/-- A scaled pixel at output position (i, j) of the destination: vertical pass, then horizontal (R143 to R148). `src` gives the
source pixel at a crop position, through steps 1 to 5. -/
def scaledPx (src : Nat → Nat → Except Nat (Px × Bool)) (coef : Coefs) (l : Lsr) (taps i j : Nat) : Except Nat (Px × Bool) := do
  let (bx, px) := scalePos (lsrCropW l) (lsrDstW l) i
  let (by_, py) := scalePos (lsrCropH l) (lsrDstH l) j
  let (v0, vc) := vTaps (coef (lsrCoef l) true py) taps
  let column (k : Nat) : Except Nat (Px × Bool) := do
    match tapAt (lsrFeather l) (lsrCropW l) (bx - 3 + k) with
    | none => pure (Px.clear, false)
    | some x =>
      let got ← fetchAll (fun (t : Nat) =>
        match tapAt (lsrFeather l) (lsrCropH l) (by_ + v0 + t) with
        | none => Except.ok (Px.clear, false)
        | some y => src x y) (List.range vc.length)
      pure (weighPx (vc.zip got.1), got.2)
  let cols ← fetchAll column (List.range 8)
  pure (weighPx (((List.range 8).map (coef (lsrCoef l) false px)).zip cols.1), cols.2)

/-! ### Blending -/

/-- Layer colour `p` over `d` by a mode of R130, with plane alpha `pa`. -/
def blendPx (mode pa : Nat) (p d : Px) : Px :=
  let a := mul16 p.a pa
  let f (c d : Nat) : Nat :=
    match mode with
    | 0 => min 65535 (mul16 c pa + mul16 d (65535 - a))
    | 1 => min 65535 (mul16 c a + mul16 d (65535 - a))
    | 2 => min 65535 (d + mul16 c a)
    | _ => c
  ⟨65535, f p.r d.r, f p.g d.g, f p.b d.b⟩

/-- A 16-bit component narrowed to `n` bits (R131). -/
def narrow (n v : Nat) : Nat := (v * (2 ^ n - 1) * 2 + 65535) / 131070

/-- The frame-store word of a pixel: 8 bytes or 4 bytes (R131, R198). -/
def storeWord (wide : Bool) (p : Px) : Nat :=
  if wide then p.r * 2 ^ 32 + p.g * 2 ^ 16 + p.b else narrow 10 p.r * 2 ^ 20 + narrow 10 p.g * 2 ^ 10 + narrow 10 p.b

/-- A frame-store word expanded (R198). -/
def storePx (wide : Bool) (v : Nat) : Px :=
  if wide then ⟨65535, bits v 47 32, bits v 31 16, bits v 15 0⟩ else ⟨65535, exp10 (bits v 29 20), exp10 (bits v 19 10), exp10 (bits v 9 0)⟩

/-! ### What a layer shows -/

/-- Whether an active-area position lies in the destination rectangle. -/
def Drawn.covers (d : Drawn) (x y : Nat) : Bool :=
  lsrDstX d.lsr ≤ x && (x : Int) < lsrDstX d.lsr + lsrDstW d.lsr && lsrDstY d.lsr ≤ y && (y : Int) < lsrDstY d.lsr + lsrDstH d.lsr

/-- The order of layers, lowest first: those without PROTECTED_SAFETY, then those with it; by Z, then by slot (R129). -/
def Drawn.key (d : Drawn) : Nat := (b2n (lsrSafety d.lsr) * 64 + lsrZ d.lsr) * 512 + d.slot

/-- A layer counts as opaque (R133). -/
def Drawn.opaque (d : Drawn) : Bool :=
  let l := d.lsr
  if d.solid then bits (lsrSolid l) 63 48 == 65535
  else
    lsrBlend l == 3
    || (lsrBlend l ≤ 1 && (!fmtAlpha (lsrFormat l) || lsrOpaque l) && lsrAlpha l == 65535 && !(lsrScaled l && lsrFeather l))

/-- A layer put into a list in the order of R129. -/
def insertDrawn (d : Drawn) : List Drawn → List Drawn
  | [] => [d]
  | e :: r => if d.key < e.key then d :: e :: r else e :: insertDrawn d r

/-- A destination position lies on the outline (R149). -/
def Drawn.onOutline (d : Drawn) (x y : Nat) : Bool :=
  let i := ((x : Int) - lsrDstX d.lsr).toNat
  let j := ((y : Int) - lsrDstY d.lsr).toNat
  let w := lsrHlWidth d.lsr
  d.hl && d.covers x y && (i < w || j < w || lsrDstW d.lsr - w ≤ i || lsrDstH d.lsr - w ≤ j)

/-- One layer's pixel blended over `d`, with its outline; whether a reserved flag was met (R123, R129, R130, R149, R186).
`gamma` and `coef` are the degamma tables and the coefficient sets. -/
def drawPx (rd : Reader) (gamma : Nat → Nat → Nat) (coef : Coefs) (linear : Bool) (dl : Drawn) (x y : Nat) (d : Px) : Except Nat (Px × Bool) := do
  let l := dl.lsr
  let i := ((x : Int) - lsrDstX l).toNat
  let j := ((y : Int) - lsrDstY l).toNat
  let src (sx sy : Nat) : Except Nat (Px × Bool) := do
    let p ← sourcePx rd l (lsrCropX l + sx) (lsrCropY l + sy)
    if linear && lsrDegamma l != 0 then pure (p.1.mapRgb (degamma16 (gamma (lsrDegamma l - 1))), p.2) else pure p
  let base ← if dl.solid then pure (blendPx 1 65535 (px64 (lsrSolid l)) d, false)
    else do
      let p ← if lsrScaled l then scaledPx src coef l dl.taps i j else src i j
      pure (blendPx (lsrBlend l) (lsrAlpha l) p.1 d, p.2)
  if dl.onOutline x y then
    pure (blendPx 1 65535 (px32 (lsrHlColour l)) base.1, base.2)
  else pure base

end Sys2Proof.Machine
end

