-- ==== Sys2Proof/Machine/Units.lean ====
section
/-!
DEFINITION. Units: the unit directory of a part: which kinds of unit it lists, in which order, and in which power domain each lies
(R37, R38, R538, R711).
-/
namespace Sys2Proof.Machine

/-- TDM/I2S ports, SoundWire managers and regulator phases that are bonded (R691). -/
def VariantRow.tdmPorts (r : VariantRow) : Nat := if r.large then 8 else 4
def VariantRow.swrManagers (r : VariantRow) : Nat := if r.large then 4 else 2
def VariantRow.phases (r : VariantRow) : Nat := if r.large then 16 else 8

/-- A key of an array of registers, or blocks, of which the part has fewer than the map: `count` at `stride` from `base` to below `top`. -/
def beyond (k base top stride count : Nat) : Bool := base ≤ k && k < top && count ≤ (k - base) / stride

/-- A word of PF BAR0 that belongs to a unit or a feature the part lacks (R6, R691). -/
def VariantRow.lacks (r : VariantRow) (k : Nat) : Bool :=
  beyond k 0x00108100 0x00108200 0x10 r.phases
  || beyond k 0x00308000 0x0030C000 0x400 r.pipes
  || beyond k 0x00410000 0x00414000 0x40 r.vis || beyond k 0x00420000 0x00440000 0x200 r.vis
  || beyond k 0x00180200 0x00181200 0x10 r.vis
  || beyond k 0x01000100 0x01000200 0x10 r.pipes || beyond k 0x01000200 0x01000280 8 r.pipes
  || (0x01800000 ≤ k && k < 0x01900000
      && (let i := (k - 0x01800000) / 0x10000
          let o := k % 0x10000
          (if o < 0x8000 ∨ 0xC000 ≤ o then r.pipes else if o < 0xA000 then r.dpPorts else r.dsiPorts) ≤ i))
  || beyond k 0x01900000 0x01B00000 0x20000 r.pipes
  || beyond k 0x01B00000 0x01B00080 0x10 r.plls || beyond k 0x01B01000 0x01B01080 0x10 r.dscs
  || beyond k 0x02010000 0x02014000 0x10 r.contexts
  || beyond k 0x03000100 0x03000180 0x10 r.tdmPorts || beyond k 0x03000200 0x03000280 0x20 r.swrManagers
  || (0x03800000 ≤ k && k < 0x03A00000 && r.electrodes == 0)
  || beyond k 0x03801000 0x03801400 0x40 (r.electrodes / 32) || beyond k 0x03810000 0x03814000 0x20 r.electrodes
  || (0x03A00000 ≤ k && k < 0x03A80000 && r.haptics == 0)
  || (0x03A80000 ≤ k && k < 0x03C00000 && r.electrodes == 0 && r.haptics == 0)
  || beyond k 0x03A01000 0x03A01400 0x40 r.haptics
  || beyond k 0x03C10000 0x03C20000 0x1000 r.pipes
  || beyond k 0x05001000 0x05001100 0x40 r.icvikPorts

/-- The kinds of the units a part has and how many of each, in directory order after entry 0, the device. The order is the model's
(log entry 14). -/
def VariantRow.kinds (r : VariantRow) : List (Nat × Nat) :=
  [(0x10, 4), (0x11, r.appCores), (0x12, 2), (0x13, 1), (0x14, 1), (0x15, 1), (0x16, 1), (0x30, r.clusters), (0x31, r.backends),
   (0x32, 1), (0x20, r.pipes), (0x21, r.engines), (0x22, r.scalers), (0x23, r.dscs), (0x24, r.dpPorts), (0x25, r.dsiPorts),
   (0x26, r.plls), (0x40, if r.seedbankMiB = 16384 then 2 else 1), (0x41, r.lpChannels), (0x42, 4), (0x50, 1), (0x51, 1), (0x52, r.tdmPorts),
   (0x53, r.swrManagers), (0x60, r.electrodes / 32), (0x70, r.pipes), (0x71, 64), (0x61, r.haptics),
   (0x62, if r.electrodes = 0 ∧ r.haptics = 0 then 0 else 1), (0x33, 1), (0x80, 2), (0x81, 2), (0x82, r.icvikPorts), (0x90, 1), (0x91, 1)]

/-- The number of directory entries, entry 0 among them (R39). -/
def VariantRow.unitCount (r : VariantRow) : Nat := 1 + r.kinds.foldl (fun n k => n + k.2) 0

/-- The kind and the instance number of directory index `u` within a list of kinds that starts at index `first`. -/
def kindAt : List (Nat × Nat) → Nat → Nat → Option (Nat × Nat)
  | [], _, _ => none
  | (k, n) :: r, first, u => if first ≤ u ∧ u < first + n then some (k, u - first) else kindAt r (first + n) u

/-- The directory index of an instance of a kind. -/
def kindIndex : List (Nat × Nat) → Nat → Nat → Nat → Option Nat
  | [], _, _, _ => none
  | (k, n) :: r, first, kind, i => if k = kind then (if i < n then some (first + i) else none) else kindIndex r (first + n) kind i

/-- The kind and instance of a directory index; the device is kind 1 (R38). -/
def State.unitAt (s : State) (u : Nat) : Option (Nat × Nat) := if u = 0 then some (1, 0) else kindAt s.row.kinds 1 u

/-- The directory index of an instance of a kind. -/
def State.unitIndex (s : State) (kind i : Nat) : Option Nat := kindIndex s.row.kinds 1 kind i

/-- A unit as its interface shows it. -/
def State.unit (s : State) (u : Nat) : UnitSt := tget {} s.pods.units u

/-- A unit changed. -/
def State.mUnit (s : State) (u : Nat) (f : UnitSt → UnitSt) : State := s.mPods fun p => { p with units := tmod {} p.units u f }

/-- Whether an instance of a kind is present and in service: health OK or DEGRADED (R29). -/
def State.unitUp (s : State) (kind i : Nat) : Bool :=
  match s.unitIndex kind i with
  | some u => (s.unit u).health ≤ 1
  | none => false

/-- Another world holds a claim on an instance of a kind (R531, R532). -/
def State.claimedFor (s : State) (kind i : Nat) (r : Req) : Bool :=
  match s.unitIndex kind i with
  | some u => s.claimBlocks u (s.reqSecure r)
  | none => false

/-- RENDER_XLATE_VER: the version of the running translator (R291, R329). It follows from the version of the translator's firmware, its high
byte added to the MAJOR and its low byte to the MINOR of a base the spec leaves open, so that firmware of another version gives another
RENDER_XLATE_VER (DESIGN CHOICE, log entry 8). -/
def State.xlateVer (s : State) : Nat :=
  let fw := match s.unitIndex 0x33 0 with | some u => (s.unit u).fw | none => 0
  (bits Config.xlateBase.toNat 31 16 + fw / 256) % 2 ^ 16 * 2 ^ 16 + (bits Config.xlateBase.toNat 15 0 + fw % 256) % 2 ^ 16

/-- A manager core is being reset (R598, R608). -/
def State.mgrDown (s : State) : Bool :=
  (List.range 4).any fun i => match s.unitIndex 0x10 i with | some u => (s.unit u).resetBusy | none => false

/-- A manager core is being handed over (R598). -/
def State.mgrHand (s : State) : Bool :=
  (List.range 4).any fun i => match s.unitIndex 0x10 i with | some u => (s.unit u).slotPending != 0 | none => false

/-- The power domain of a unit (R538). The device and the VI manager lie in CHIP_CTRL; the recorder and the counters lie there too,
their memory in AON (log entry 14). -/
def unitDomain (kind i : Nat) : Nat :=
  match kind with
  | 0x10 => 5
  | 0x11 => if i < 4 then 6 else 7
  | 0x12 => 1 + i
  | 0x13 => 3
  | 0x14 => 0
  | 0x20 => if i < 8 then 14 else 15
  | 0x21 => 13
  | 0x22 => 13
  | 0x23 => if i < 4 then 14 else 15
  | 0x24 => if i < 8 then 16 else 17
  | 0x25 => 16
  | 0x26 => if i < 4 then 14 else 15
  | 0x30 => 8 + i / 8
  | 0x31 => 12
  | 0x32 => 12
  | 0x33 => 5
  | 0x40 => 18
  | 0x41 => 19
  | 0x50 => 20
  | 0x51 => 20
  | 0x52 => 20
  | 0x53 => 20
  | 0x60 => 21
  | 0x61 => 21
  | 0x62 => 21
  | 0x70 => 3
  | 0x80 => 22
  | 0x81 => 23
  | 0x82 => 23
  | 0x90 => 0
  | _ => 4

/-- A domain whose units are all absent reads ABSENT (R538). -/
def State.domainAbsent (s : State) (d : Nat) : Bool :=
  match d with
  | 7 => s.row.appCores ≤ 4
  | 8 => s.row.clusters = 0
  | 9 => s.row.clusters ≤ 8
  | 10 => s.row.clusters ≤ 16
  | 11 => s.row.clusters ≤ 24
  | 15 => s.row.pipes ≤ 8
  | 17 => s.row.dpPorts ≤ 8
  | 21 => s.row.electrodes = 0 && s.row.haptics = 0
  | _ => false

/-- The registers of power domain d (R567), and the state it is in: 0 OFF, 1 RETAIN, 2 GATED, 3 ON, 7 TRANSITION (R568). -/
def domainReg (d off : Nat) : Nat := 0x00101000 + d * 0x20 + off
def State.domainState (s : State) (d : Nat) : Nat := s.rf (domainReg d 4) 31 29

/-- Why a domain cannot be raised (R540, R544, R545, R549). -/
def State.raiseBar (s : State) (d : Nat) : Status :=
  if s.domainAbsent d then .unsupported
  else if s.rb (domainReg d 4) 28 || tget 0 s.power.trips d != 0 then .throttled
  else if s.rb (domainReg d 4) 26 then .fault
  else .ok

/-- A domain is to be raised to ON from OFF or RETAIN: it waits for its ramp (R542). -/
def State.domainQueue (s : State) (d : Nat) : State :=
  if s.power.waiting.contains d || s.power.raising.any (·.d == d) then s
  else s.mPower fun p => { p with waiting := p.waiting ++ [d] }

/-- Work needs a domain ON: from GATED at once, from below through its ramp (R540 to R542). -/
def State.domainNeed (s : State) (d : Nat) : State :=
  if s.raiseBar d = .ok then
    (if s.domainState d = 2 then s.wf (domainReg d 4) 31 29 3 else if s.domainState d < 2 then s.domainQueue d else s)
  else s

/-! ### Performance counters (R676 to R680) -/

/-- The number of events a unit of a kind counts (R677). The device itself has no counters (log entry 49). -/
def kindEvents (kind : Nat) : Nat :=
  match kind with
  | 0x01 => 0
  | 0x11 => 8
  | 0x20 => 6
  | 0x21 => 5
  | 0x30 => 6
  | 0x31 => 4
  | 0x40 => 6
  | 0x41 => 6
  | 0x42 => 4
  | 0x50 => 4
  | 0x60 => 4
  | 0x61 => 4
  | _ => 2

/-- MULTI events add 0 to 255 a cycle (R677). -/
def multiEvent (kind ev : Nat) : Bool :=
  match kind, ev with
  | 0x11, 2 => true
  | 0x20, 3 => true
  | 0x21, 2 => true
  | 0x30, 3 => true
  | 0x31, 2 => true
  | 0x50, 2 => true
  | _, _ => false

/-- The kind, directory index and event of counter `i`, within a list of kinds that starts at directory index `u`. -/
def counterAt : List (Nat × Nat) → Nat → Nat → Option (Nat × Nat × Nat)
  | [], _, _ => none
  | (k, n) :: r, u, i =>
    if i < n * kindEvents k then some (k, u + i / kindEvents k, i % kindEvents k) else counterAt r (u + n) (i - n * kindEvents k)

/-- The unit and event counter `i` counts: counters follow the directory (R676; log entry 49). -/
def State.counter (s : State) (i : Nat) : Option (Nat × Nat × Nat) := counterAt s.row.kinds 1 i

/-- The first counter of directory index `u`: UIF_COUNTERS.FIRST. -/
def firstCounter : List (Nat × Nat) → Nat → Nat → Nat
  | [], _, _ => 0
  | (k, n) :: r, first, u => if u < first + n then (u - first) * kindEvents k else n * kindEvents k + firstCounter r (first + n) u

/-- CNT_VALUE of counter i, and the registers after it (R686). -/
def cntReg (i off : Nat) : Nat := 0x04010000 + i * 0x10 + off

/-- A counter adds `n`: past 2^64 − 1 it wraps, sets WRAPPED and reports it (R680). -/
def State.cntAdd (s : State) (i n : Nat) : State :=
  let v := s.rd64 (cntReg i 0) + n
  let s := s.wr64 (cntReg i 0) (v % 2 ^ 64)
  if v < 2 ^ 64 then s
  else if s.rb (cntReg i 8) 29 then s
  else
    let s := s.raise (cntReg i 8) 29
    if s.rb (cntReg i 8) 31 then s.emitPf 0xB2 .ok i else s

/-- An event of a unit occurs `n` times: its counter adds `n` in edge mode, and a free amount in level mode, where cycles count
(R678; log entry 49). -/
def State.cntEvent (s : State) (kind inst ev n : Nat) : State :=
  match s.unitIndex kind inst with
  | none => s
  | some u =>
    let i := firstCounter s.row.kinds 1 u + ev
    if s.rb (cntReg i 8) 30 then (let (w, s) := s.freeWord; s.cntAdd i w.toNat) else s.cntAdd i n

/-- The events that commands of the model are, and that it counts exactly; all others come as free amounts (log entry 49). -/
def exactEvent (kind ev : Nat) : Bool :=
  match kind, ev with
  | 0x20, 2 => true
  | 0x20, 4 => true
  | 0x20, 5 => true
  | 0x60, 2 => true
  | 0x60, 3 => true
  | 0x61, 3 => true
  | _, _ => false

/-- A counter is brought up to date for a read: what it has counted that no command of the model shows is a free amount (log entry 49). While the
domain of its unit is OFF it is so once, for what it counted before (R676). -/
def State.cntFresh (s : State) (i : Nat) : State :=
  match s.counter i with
  | none => s
  | some (k, u, ev) =>
    let d := match s.unitAt u with | some (k, j) => unitDomain k j | none => 4
    let off := s.domainState d == 0
    if (exactEvent k ev && !s.rb (cntReg i 8) 30) || (off && (!s.recs.ranDom.contains d || s.recs.heldCnt.contains (i, d))) then s
    else
      let s := if off then s.mRecs fun r => { r with heldCnt := (i, d) :: r.heldCnt } else s
      let (a, s) := s.freeWord
      let (b, s) := s.freeWord
      s.cntAdd i (a.toNat + 2 ^ 32 * b.toNat)

end Sys2Proof.Machine
end

