-- ==== Sys2Proof/Machine/Layers.lean ====
section
/-!
DEFINITION. Layers: the layer channel, its tables, composition of a pipe's frames, and writeback (Layers and composition).
-/
namespace Sys2Proof.Machine

/-! ### Pipes and slots as registers -/

/-- A register of pipe p (R242). -/
def pipeReg (p off : Nat) : Nat := 0x01800000 + p * 0x10000 + off

/-- PIPE_STATUS.STATE: 0 OFF, 1 STARTING, 2 RUNNING, 3 STOPPING (R243). -/
def State.pipeState (s : State) (p : Nat) : Nat := s.rf (pipeReg p 4) 2 0

/-- A pipe. -/
def State.pipe (s : State) (p : Nat) : PipeSt := tget {} s.display.pipes p

/-- A pipe changed. -/
def State.mPipe (s : State) (p : Nat) (f : PipeSt → PipeSt) : State :=
  s.mDisplay fun d => { d with pipes := tmod {} d.pipes p f }

/-- Whether a pipe is scanning out: RUNNING, or STOPPING until its frame ends (R177, R209). -/
def State.scanning (s : State) (p : Nat) : Bool := s.pipeState p == 2 || s.pipeState p == 3

/-- The current frame number (R159). -/
def State.frame (s : State) (p : Nat) : Nat := s.rd64 (pipeReg p 0x40)

/-- The frame number a pipe carries when it next starts or reaches line 0 (R207). -/
def State.nextFrame (s : State) (p : Nat) : Nat := if (s.pipe p).begun then ((s.pipe p).frameNo + 1) % 2 ^ 64 else 0

/-- LAYER_STATE_OWNER and the words after it of a slot (R155). -/
def layerReg (i off : Nat) : Nat := 0x01010000 + i * 0x10 + off

/-- A layer slot. -/
def State.layer (s : State) (i : Nat) : LayerSt := tget {} s.display.layers i

/-- A layer slot changed. -/
def State.mLayer (s : State) (i : Nat) (f : LayerSt → LayerSt) : State :=
  s.mDisplay fun d => { d with layers := tmod {} d.layers i f }

/-- The window that owns a layer. -/
def State.layerOwner (s : State) (i : Nat) : Nat := (s.chan kLayer i).owner

/-- Whether a slot holds a layer of a pipe. -/
def State.layerOn (s : State) (p i : Nat) : Bool := (s.chan kLayer i).phase != .free && (s.layer i).pipe == p

/-- The layers of a pipe on one path, by slot. -/
def State.layersOf (s : State) (p : Nat) (direct : Bool) : List Nat :=
  (List.range 512).filter fun i => s.layerOn p i && (s.layer i).direct == direct

/-! ### Scalers (R142, R171) -/

/-- The scalers in service. -/
def State.scalersUp (s : State) : List Nat := (List.range s.row.scalers).filter fun i => s.unitUp 0x22 i

/-- The scalers in service that no layer holds, lowest first. -/
def State.freeScalers (s : State) : List Nat :=
  s.scalersUp.filter fun i => !s.display.layers.any fun l => l.2.scaler == some i

/-- The entries of checked commits not taken yet: all of one that waits, and the direct ones of a composed commit whose composition took its
composed states (R125, R171, R173). -/
def State.untaken (s : State) : List CommitEnt :=
  s.display.commits.flatMap fun c =>
    match c.phase with
    | .checking => []
    | .waiting => c.ents
    | _ => c.ents.filter fun e => (s.layer e.slot).direct

/-- The scalers reserved by checked commits and pending states (R171). -/
def State.reservedScalers (s : State) : Nat := s.untaken.countP (·.res) + s.display.layers.countP fun l => l.2.pendRes

/-- The state that comes before a new one on a layer: the last checked one, else the pending one, else the one in effect. -/
def State.lastState (s : State) (i : Nat) : Nat :=
  match s.untaken.foldl (fun (r : Option Nat) e => if e.slot = i then some e.lsr else r) none with
  | some l => l
  | none => (s.layer i).pend.getD (s.layer i).shown

/-- Whether a record newly needs a scaler on a layer (R112, R171). -/
def State.needsScaler (s : State) (i lsr : Nat) : Bool :=
  lsrEnable lsr && lsrScaled lsr && !(lsrEnable (s.lastState i) && lsrScaled (s.lastState i))

/-! ### Layer state -/

/-- LAYER_STATE_STATUS brought up to date with the state in effect (R156): TAPS_REDUCED and VTAPS change when the state takes effect, though its
TAPS_REDUCED event came with the check (DESIGN CHOICE, log entry 71). The bits a frame sets stay. -/
def State.layerStatus (s : State) (i : Nat) : State :=
  let l := s.layer i
  let k := layerReg i 4
  let on := lsrEnable l.shown
  let taps := if l.scaler.isSome then lsrTaps l.shown else 0
  let s := ((s.wb k 31 on).wb k 30 (on && lsrSafety l.shown)).wb k 29 l.scaler.isSome
  let s := (s.wb k 28 (taps == 2 || taps == 4)).wf k 27 25 taps
  s.wf k 20 16 (l.scaler.getD 0)

/-- What a frame showed of a layer: 0 the committed buffer, 1 HOLD, 2 HIDE or off, 3 SOLID (R156). -/
def State.layerShown (s : State) (i v : Nat) : State := s.wf (layerReg i 4) 15 14 v

/-- The release fences due on a layer are signalled (R184). -/
def State.flushRel (s : State) (i : Nat) : State :=
  let l := s.layer i
  (s.fenceSignals (s.layerOwner i) l.rel).mLayer i fun l => { l with rel := [] }

/-- The release fence of a record (R184): a disabled state names no buffer. -/
def relOf (lsr : Nat) : List (Nat × Nat) := if lsrEnable lsr && lsrRelFence lsr != 0 then [(lsrRelFence lsr, lsrRelValue lsr)] else []

/-- A layer's scaler brought into line with the state in effect: taken, kept or released (R142). A free one is one that no other state has reserved
(R171); of several the lowest-numbered is taken (DESIGN CHOICE, log entry 71). -/
def State.layerScaler (s : State) (i : Nat) : State :=
  let l := s.layer i
  let held := match l.scaler with | some k => if s.unitUp 0x22 k then some k else none | none => none
  let want := lsrEnable l.shown && lsrScaled l.shown
  let s := s.mLayer i fun l => { l with scaler := none }
  let got := if want then (match held with
    | some k => some k
    | none => if s.reservedScalers < s.freeScalers.length then s.freeScalers.head? else none) else none
  s.mLayer i fun l => { l with scaler := got }

/-- A pending state that is ready comes into effect; the state it replaces is due for release (R142, R182, R184, R186, R187). -/
def State.layerSettle (s : State) (i : Nat) : State :=
  let l := s.layer i
  match l.pend with
  | none => s
  | some p =>
    if !lsrEnable p || s.fenceReady (s.layerOwner i) (lsrAcqFence p) (lsrAcqValue p) then
      let s := s.mLayer i fun l =>
        { l with shown := if lsrEnable p then p else 0, pend := none, pendRes := false, fresh := true, dead := false,
                 rel := l.rel ++ (if l.dead then [] else relOf l.shown) }
      (s.layerScaler i).layerStatus i
    else s

/-- A state of a commit is taken: it replaces a pending one, whose buffer was never read and whose reservation lasts only for a scaled state
(R171, R175, R184, R187). A layer destroyed since the check is left (R178). -/
def State.layerTake (s : State) (w : Nat) (e : CommitEnt) : State :=
  if (s.chan kLayer e.slot).phase = .live ∧ s.gen kLayer e.slot = e.gen then
    let l := s.layer e.slot
    let s := match l.pend with | some p => s.fenceSignals w (relOf p) | none => s
    s.mLayer e.slot fun l =>
      { l with pend := some e.lsr, pendRes := e.res || (l.pendRes && lsrEnable e.lsr && lsrScaled e.lsr), off := false }
  else s

/-- The composition of the pipe's next frame has something to do (R138). -/
def State.pipeDirty (s : State) (p : Nat) : State := s.mPipe p fun ps => { ps with dirty := true }

/-- A layer is switched off by a fault: it stays off until a commit names it, its release fence is due, and LAYER_FAULT is written
for the frame (R194, R195). -/
def State.layerOff (s : State) (i frame : Nat) : State :=
  let l := s.layer i
  let s := s.mLayer i fun l => { l with off := true, dead := true, rel := l.rel ++ (if l.dead then [] else relOf l.shown) }
  let s := s.layerShown i 2
  let s := if l.direct then s else s.pipeDirty l.pipe
  s.emit (s.layerOwner i) 0x37 .fault (s.handleWord kLayer i) frame

/-- The reflex highlight flag of a layer (R149). -/
def State.hlFlag (s : State) (i : Nat) : Bool := s.rb (layerReg i 4) 24

/-- Whether a layer's owner may show it on its pipe now: the pipe granted, and the VI not being reset (R487, R492). -/
def State.layerAllowed (s : State) (i : Nat) : Bool :=
  s.pipeGranted (s.layerOwner i) (s.layer i).pipe && !s.winDead (s.layerOwner i)

/-- What a layer shows in the next frame of its path: the code of SHOWN, and the drawn layer if there is one (R110, R134, R142, R149, R186,
R194). `hls` are the slots whose reflex flag was sampled as set. A late HOLD after a fault shows nothing: the buffer of the previous state was
released (DEDUCED, log entry 72). -/
def State.layerDraws (s : State) (hls : List Nat) (i : Nat) : Nat × Option Drawn :=
  let l := s.layer i
  let w := s.layerOwner i
  let draw (lsr : Nat) (solid : Bool) : Option Drawn := some ⟨i, w, lsr, solid, lsrHl lsr || hls.contains i, lsrTaps lsr⟩
  let prev : Option Drawn :=
    if lsrEnable l.shown && !l.dead && (!lsrScaled l.shown || l.scaler.isSome) then draw l.shown false else none
  if (s.chan kLayer i).phase != .live || !s.layerAllowed i || l.off then (2, none)
  else
    match l.pend with
    | some p =>
      match lsrLate p with
      | 0 => (1, prev)
      | 1 => (2, none)
      | _ => (3, draw p true)
    | none => if lsrEnable l.shown && prev.isNone then (2, none) else (0, prev)

/-! ### The channel (R107 to R115) -/

/-- CREATE of a layer: disabled, bound to one pipe and one path (R107 to R110). -/
def execCreateLayer (dt w : Nat) (ext : Option Bytes) (s : State) : Host.Outcome State Fault Refusal :=
  let s := s.tick dt
  match s.ctlWaits w 1 kLayer with
  | none => .next s
  | some e =>
    if e.paramLen ≠ 8 then .next (s.ctlDone w e .badParam 0)
    else
      match s.params w e ext with
      | (none, t) => .next (s.createFault t w e (s.pickIndex w kLayer).isNone)
      | (some b, s) =>
        let n := leNat b
        let p := bits n 7 0
        let direct := bit n 8
        let onPipe := (List.range 512).countP fun i => s.layerOn p i
        let directs := (s.layersOf p true).length
        let st := byR19 [
          (!s.pipeGranted w p, .denied),
          (bits n 63 9 != 0 || decide (s.row.pipes ≤ p), .badParam),
          ((s.pickIndex w kLayer).isNone || decide (64 ≤ onPipe) || (direct && decide (4 ≤ directs)), .noResource)]
        if st ≠ .ok then .next (s.ctlDone w e st 0)
        else
          let i := (s.pickIndex w kLayer).getD 0
          let s := s.mDisplay fun d => { d with layers := tset {} d.layers i { pipe := p, direct := direct } }
          let s := s.wr (layerReg i 0) (2 ^ 31 + b2n direct * 2 ^ 30 + p * 2 ^ 16 + w)
          let s := (s.wr (layerReg i 4) 0).wr (layerReg i 8) 0
          let use := 0x01000104 + p * 0x10
          let s := s.wf use 7 0 (s.rf use 7 0 + 1)
          let s := if direct then s.wf use 15 8 (s.rf use 15 8 + 1) else s
          .next (s.createDone w e kLayer i)

/-- A layer's slot is given up: its scaler, its states and its registers (R62, R107, R142). -/
def State.layerGone (s : State) (i : Nat) : State :=
  let l := s.layer i
  let use := 0x01000104 + l.pipe * 0x10
  let s := s.wf use 7 0 (s.rf use 7 0 - 1)
  let s := if l.direct then s.wf use 15 8 (s.rf use 15 8 - 1) else s
  let s := ((s.wr (layerReg i 0) 0).wr (layerReg i 4) 0).wr (layerReg i 8) 0
  let s := s.mPanel fun p => { p with pulses := tdel p.pulses i }
  s.mDisplay fun d => { d with layers := tset {} d.layers i {} }

/-- A DESTROY of a layer is accepted: it is absent from the next decision point on, checked states of it that were not taken are discarded, and the
release fences of all its states are due (R178, R184). -/
def State.layerDestroy (s : State) (i : Nat) : State :=
  let l := s.layer i
  let waits := s.untaken.filter (·.slot == i)
  let s := s.mLayer i fun l =>
    { l with shown := 0, pend := none, pendRes := false, scaler := none, dead := false,
             rel := l.rel ++ (if l.dead then [] else relOf l.shown) ++ (match l.pend with | some p => relOf p | none => [])
               ++ waits.flatMap fun e => relOf e.lsr }
  let s := s.mDisplay fun d => { d with commits := d.commits.map fun c => { c with ents := c.ents.filter fun e => e.slot != i } }
  let s := s.layerStatus i
  if l.direct then s else s.pipeDirty l.pipe

/-- Whether a composition or a scan still reads a layer: it drains when none does (R62, R184). -/
def State.layerRead (s : State) (i : Nat) : Bool :=
  let ps := s.pipe (s.layer i).pipe
  (match ps.comp with | some c => !c.done && c.layers.any (·.slot == i) | none => false)
  || (s.scanning (s.layer i).pipe && ps.directs.any (·.slot == i))

/-- The block QUERY of a layer writes (R115). -/
def State.layerQuery (s : State) (i : Nat) : Bytes :=
  leBytes (s.rd (layerReg i 0)) 4 ++ leBytes (s.rd (layerReg i 4)) 4 ++ leBytes (s.rd (layerReg i 8)) 4 ++ leBytes 0 4

/-! ### Tables (R124 to R126, R146, R155) -/

/-- The records that count as referencing tables (R125). -/
def State.tableStates (s : State) : List Nat :=
  (s.display.layers.flatMap fun l => l.2.shown :: l.2.pend.toList) ++ s.untaken.map (·.lsr)

/-- LAYER_TABLE_REF: the degamma tables and coefficient sets that enabled states name (R125, R156). -/
def State.tableRef (s : State) : Nat :=
  s.tableStates.foldl (fun n l =>
    if lsrEnable l then
      let n := if lsrDegamma l = 0 then n else n ||| 2 ^ (16 + (lsrDegamma l - 1))
      if lsrScaled l then n ||| 2 ^ lsrCoef l else n
    else n) 0

/-- The bit of LAYER_TABLE_REF and LAYER_TABLE_STATUS for a word of a table or set; none for a reserved offset (R146, R155). -/
def tableBit (addr : Nat) : Option Nat :=
  if 0x01020000 ≤ addr ∧ addr < 0x01028000 then
    (if 0x400 ≤ addr % 0x800 ∧ addr % 0x10 = 0xC then none else some ((addr - 0x01020000) / 0x800))
  else if 0x01030000 ≤ addr ∧ addr < 0x01040000 ∧ addr % 0x1000 ≤ 2048 then some (16 + (addr - 0x01030000) / 0x1000)
  else none

/-- A write to a table or set from PF BAR0; ignored while it is referenced, and marked (R125). -/
def execLayerTableWrite (dt : Nat) (r : Req) (addr : Nat) (v : Word) (s : State) : Host.Outcome State Fault Refusal :=
  let s := s.tick dt
  match r.path, tableBit addr with
  | .vi _, _ => .next s
  | _, none => .next s
  | _, some i =>
    if bit s.tableRef i then .next (s.raise 0x0100000C i)
    else if addr < 0x01030000 then .next (s.wr addr (v.toNat &&& 0x0FFF0FFF))
    else .next (s.wr addr (if addr % 0x1000 = 2048 then v.toNat % 2 ^ 16 else v.toNat))

/-- Entry i of degamma table t (R124, R155). -/
def State.gammaEntry (s : State) (t i : Nat) : Nat :=
  let w := s.rd (0x01030000 + t * 0x1000 + i / 2 * 4)
  if i % 2 = 0 then bits w 15 0 else bits w 31 16

/-- A coefficient of a set: vertical or horizontal, phase, tap (R145, R146). -/
def State.coef (s : State) : Coefs := fun set vertical phase tap =>
  let w := s.rd (0x01020000 + set * 0x800 + (if vertical then 0x400 else 0) + phase * 0x10 + tap / 2 * 4)
  sext 12 (if tap % 2 = 0 then bits w 11 0 else bits w 27 16)

/-- A write of LAYER_PIPE_BG, held whole and read at the next compose-start, which finds whether it has changed (R138, R157). -/
def execLayerPipeBgWrite (dt : Nat) (r : Req) (p v : Nat) (s : State) : Host.Outcome State Fault Refusal :=
  let s := s.tick dt
  match r.path with
  | .vi _ => .next s
  | _ => if s.row.pipes ≤ p then .next s else .next (s.wr64 (0x01000108 + p * 0x10) (bits v 47 0))

/-! ### Composing a frame -/

/-- The configuration and the frame store a composition uses (R208). -/
def PipeSt.compCfg (ps : PipeSt) (c : Composition) : PipeCfg := if c.next then ps.next.getD ps.cfg else ps.cfg
def PipeSt.compStore (ps : PipeSt) (c : Composition) : List StoreBuf := if c.next then ps.nextStore else ps.store

/-- Bytes per pixel of a configuration's frame store (R198). -/
def PipeCfg.bpp (c : PipeCfg) : Nat := if bit c.ctrl 0 then 8 else 4

/-- The stride of its buffers (R81). -/
def PipeCfg.stride (c : PipeCfg) : Nat := cdiv (c.hActive * c.bpp) 256 * 256

/-- The physical key of a pixel of a frame-store buffer (R81). -/
def storeKey (c : PipeCfg) (b : StoreBuf) (x y : Nat) : Nat :=
  let off := y * c.stride + x * c.bpp
  b.chunks.getD (off / 2 ^ 21) 0 * 2 ^ 21 + off % 2 ^ 21

/-- The frame-store word of a pixel; the pixels of a poisoned word are zero (R88). -/
def State.storeAt (s : State) (c : PipeCfg) (b : StoreBuf) (x y : Nat) : Nat :=
  let k := storeKey c b x y
  if tget false s.seed.poison (k / 8) then 0 else leNat (readBytes s.mem k c.bpp)

/-- The memory with the mappings a composition still reads through (R193). -/
def State.heldMaps (s : State) (c : Composition) : State :=
  s.mSeed fun m => { m with maps := c.held.foldl (fun t e => tset {} t e.1 e.2) m.maps }

/-- The reader of a layer's owner for the layer engine, or for a pipe's direct layers (R99, R510). -/
def State.layerReader (s : State) (cls : Nat) (hosts : List HostRun) (w : Nat) : Reader := fun addr n =>
  match s.peek w cls hosts addr n with
  | .ok b => .ok (leNat b)
  | .error a => .error a

/-- Layers blended over a pixel, lowest first; a fault names the slot and the address (R123, R129, R194). -/
def State.blendAll (s : State) (hosts : List HostRun) (linear : Bool) (x y : Nat) :
    List Drawn → Px → Except (Nat × Nat) (Px × List Nat)
  | [], d => .ok (d, [])
  | l :: r, d =>
    if l.covers x y then
      match drawPx (s.layerReader 4 hosts l.owner) s.gammaEntry s.coef linear l x y d with
      | .error a => .error (l.slot, a)
      | .ok (d, rsv) =>
        match s.blendAll hosts linear x y r d with
        | .error e => .error e
        | .ok (d, rs) => .ok (d, if rsv then l.slot :: rs else rs)
    else s.blendAll hosts linear x y r d

/-- Tiles across a configuration's active area (R132). -/
def PipeCfg.tileCols (c : PipeCfg) : Nat := cdiv c.hActive 64
def PipeCfg.tileRows (c : PipeCfg) : Nat := cdiv c.vActive 64

/-- The pixels of a compose tile inside the active area (R132). -/
def PipeCfg.tilePixels (c : PipeCfg) (t : Nat) : List (Nat × Nat) :=
  let x0 := t % c.tileCols * 64
  let y0 := t / c.tileCols * 64
  (List.range (min 64 (c.vActive - y0))).flatMap fun j => (List.range (min 64 (c.hActive - x0))).map fun i => (x0 + i, y0 + j)

/-- A layer's destination rectangle covers every pixel of a tile (R134). -/
def Drawn.coversTile (d : Drawn) (c : PipeCfg) (t : Nat) : Bool :=
  let x0 := t % c.tileCols * 64
  let y0 := t / c.tileCols * 64
  d.covers x0 y0 && d.covers (min c.hActive (x0 + 64) - 1) (min c.vActive (y0 + 64) - 1)

/-- The layers composed in a tile: from the topmost opaque layer that covers it upward (R134, R135). -/
def culled (c : PipeCfg) (t : Nat) : List Drawn → List Drawn
  | [] => []
  | d :: r =>
    if r.any (fun e => e.opaque && e.coversTile c t) then culled c t r else d :: r

/-- The pixels of a tile as frame-store words, or the slot and the address of a faulting fetch (R123, R129, R131). -/
def State.tileWords (s : State) (hosts : List HostRun) (c : PipeCfg) (comp : Composition) (ls : List Drawn) :
    List (Nat × Nat) → Except (Nat × Nat) (List (Nat × Nat × Nat) × List Nat)
  | [] => .ok ([], [])
  | (x, y) :: r =>
    let bg : Px := ⟨65535, bits comp.bg 47 32, bits comp.bg 31 16, bits comp.bg 15 0⟩
    match s.blendAll hosts comp.linear x y ls bg with
    | .error e => .error e
    | .ok (p, rs) =>
      match s.tileWords hosts c comp ls r with
      | .error e => .error e
      | .ok (ws, qs) => .ok ((x, y, storeWord (bit c.ctrl 0) p) :: ws, rs ++ qs)

/-- Words written into a frame-store buffer; two neighbours of 4 bytes go as one memory word (R81, R87). -/
def State.putWords (s : State) (c : PipeCfg) (b : StoreBuf) : List (Nat × Nat × Nat) → State
  | [] => s
  | [(x, y, v)] => s.pwrite (storeKey c b x y) (leBytes v c.bpp) 4 pfWin
  | (x, y, v) :: (x', y', v') :: r =>
    if c.bpp = 4 ∧ x % 2 = 0 ∧ x' = x + 1 ∧ y' = y then (s.pwrite (storeKey c b x y) (leBytes (v + v' * 2 ^ 32) 8) 4 pfWin).putWords c b r
    else (s.pwrite (storeKey c b x y) (leBytes v c.bpp) 4 pfWin).putWords c b ((x', y', v') :: r)

/-- Outline pixels and layer pixels of a tile per owner (R137, R343). -/
def tileClocks (c : PipeCfg) (t : Nat) (ls : List Drawn) : List (Nat × Nat) :=
  ls.map fun d =>
    (d.owner, (c.tilePixels t).foldl (fun n q => if d.covers q.1 q.2 then n + 1 + b2n (d.onOutline q.1 q.2) else n) 0)

/-- The slots whose outline has a pixel in a tile (R149, R156). -/
def outlinesIn (c : PipeCfg) (t : Nat) (ls : List Drawn) : List Nat :=
  (ls.filter fun d => (c.tilePixels t).any fun q => d.onOutline q.1 q.2).map (·.slot)

/-- One tile composed into the buffer. A faulting fetch switches its layer off, with the reports of R76, and the tile is composed
again without it (R136, R194). `fuel` bounds the layers that can fault. -/
def State.composeTile (s : State) (hosts : List HostRun) (p t : Nat) : Nat → State
  | 0 => s
  | fuel + 1 =>
    let ps := s.pipe p
    match ps.comp with
    | none => s
    | some comp =>
      let c := ps.compCfg comp
      let ls := culled c t comp.layers
      match (s.heldMaps comp).tileWords hosts c comp ls (c.tilePixels t) with
      | .ok (ws, rs) =>
        let s := s.putWords c ((ps.compStore comp).getD comp.buffer {}) ws
        let total := (tileClocks c t ls).foldl (fun n q => n + q.2) 0
        let s := s.mDisplay fun d =>
          { d with use := d.use ++ (tileClocks c t ls).map fun q => (s.now, q.1, if total = 0 then 0 else cdiv total 8 * q.2 / total) }
        s.mPipe p fun ps =>
          { ps with comp := some { comp with
              tiles := comp.tiles ++ [t], reserved := comp.reserved ++ rs.filter (fun i => !comp.reserved.contains i),
              outlined := comp.outlined ++ (outlinesIn c t ls).filter fun i => !comp.outlined.contains i } }
      | .error (slot, a) =>
        let s := (s.reportFault (s.layerOwner slot) 4 a).layerOff slot comp.frame
        let s := s.mPipe p fun ps =>
          { ps with comp := some { comp with layers := comp.layers.filter fun d => d.slot != slot } }
        s.composeTile hosts p t fuel

/-- Several tiles composed in order; those already composed are left. -/
def State.composeTiles (s : State) (hosts : List HostRun) (p : Nat) : List Nat → State
  | [] => s
  | t :: r =>
    let done := match (s.pipe p).comp with | some c => c.tiles.contains t | none => true
    (if done then s else s.composeTile hosts p t 65).composeTiles hosts p r

/-- The metadata words of the layers a composition or a latch takes (R251): a faulting read switches the layer off (R194). -/
def State.readMetas (s : State) (hosts : List HostRun) (frame : Nat) : List Drawn → State × List Drawn × List (Nat × Nat)
  | [] => (s, [], [])
  | d :: r =>
    if d.solid || lsrMeta d.lsr = 0 then
      let (s, ds, ms) := s.readMetas hosts frame r
      (s, d :: ds, ms)
    else
      match s.load d.owner 4 hosts (lsrMeta d.lsr) 4 with
      | (some b, s) =>
        let (s, ds, ms) := s.readMetas hosts frame r
        (s, d :: ds, (d.slot, leNat b) :: ms)
      | (none, s) => (s.layerOff d.slot frame).readMetas hosts frame r

/-- The states of layers settled and their due fences signalled, at a decision point of their path (R182, R184, R187). A layer
whose state needs a scaler and has none tries again (R142). -/
def State.settleAll (s : State) (frame : Nat) : List Nat → State
  | [] => s
  | i :: r =>
    let had := (s.layer i).scaler.isSome
    let s := (s.layerSettle i).flushRel i
    let s := (s.layerScaler i).layerStatus i
    let l := s.layer i
    let s :=
      if had && lsrEnable l.shown && lsrScaled l.shown && l.scaler.isNone then
        ((s.layerShown i 2).pipeDirty l.pipe).emit (s.layerOwner i) 0x37 .fault (s.handleWord kLayer i) frame
      else if !had && l.scaler.isSome then s.pipeDirty l.pipe
      else s
    s.settleAll frame r

/-- What the layers of a path show is worked out: SHOWN is set and LAYER_LATE written for each under a late policy (R186, R188). -/
def State.drawAll (s : State) (hls : List Nat) (frame : Nat) : List Nat → State × List Drawn
  | [] => (s, [])
  | i :: r =>
    let (code, d) := s.layerDraws hls i
    let s := s.layerShown i code
    let s :=
      if (s.layer i).pend.isSome && s.layerAllowed i && !(s.layer i).off then
        s.emit (s.layerOwner i) 0x36 .late (s.handleWord kLayer i) frame
      else s
    let (s, ds) := s.drawAll hls frame r
    (s, match d with | some d => insertDrawn d ds | none => ds)

/-- The slots that a list of drawn layers shows from their buffers under PROTECTED_SAFETY (R251). -/
def safetySources (ds : List Drawn) : List Nat := (ds.filter fun d => lsrSafety d.lsr && !d.solid).map (·.slot)

/-- The rectangles of a frame on which direct layers without PROTECTED_SAFETY are not drawn, at most 64 (R129). -/
def safetyRects (ds : List Drawn) : List (Int × Int × Nat × Nat) :=
  ((ds.filter fun d => lsrSafety d.lsr).map fun d => (lsrDstX d.lsr, lsrDstY d.lsr, lsrDstW d.lsr, lsrDstH d.lsr)).take 64

/-- The frame-store buffer a composition writes: not the one being read (R162); of a pipe that a spare takes over, the first of the spare's
(R599). -/
def PipeSt.freeBuffer (ps : PipeSt) : Nat :=
  if ps.store.length = 0 ∨ (ps.moveTo.isSome ∧ ps.store.length ≤ 2 * ps.front) then 0 else (ps.front + 1) % ps.store.length

/-- What a compose-start samples: a composition of a frame that has not begun (R127, R150, R157, R174). -/
def State.sampled (s : State) (p frame : Nat) (next : Bool) : Composition :=
  { frame := frame, buffer := 0, waiting := true, next := next, bg := s.rd64 (0x01000108 + p * 0x10), linear := s.rb (0x01000100 + p * 0x10) 31,
    hls := (s.layersOf p false).filter s.hlFlag }

/-- The metadata words of a composition that waits for them are read (R251). -/
def State.compMetas (s : State) (hosts : List HostRun) (p : Nat) : State :=
  match (s.pipe p).comp with
  | none => s
  | some c =>
    if !c.metasDue then s
    else
      let (s, ds, ms) := s.readMetas hosts c.frame c.layers
      s.mPipe p fun ps => { ps with comp := some { c with layers := ds, metas := ms, metasDue := false } }

/-- A composition starts, once no check holds it (R161, R174), with what its compose-start sampled: states are settled, fences evaluated (R182),
and the frame is composed when something has changed since the frame last composed (R138): a background, a space or a highlight flag that
changed and changed back counts as unchanged (DEDUCED, log entry 72). A COMPOSE domain that is GATED comes ON for it (R541). -/
def State.beginComposition (s : State) (p : Nat) (c : Composition) : State :=
  let ids := s.layersOf p false
  let pending := ids.any fun i => (s.layer i).pend.isSome
  let s := s.settleAll c.frame ids
  let ps := s.pipe p
  let go := ps.dirty || pending || c.next || s.pipeState p == 1 || ps.last != some (c.bg, c.linear, c.hls)
  if !go then s.mPipe p fun ps => { ps with comp := none }
  else
    let (s, ds) := (s.domainNeed 13).drawAll c.hls c.frame ids
    let comp : Composition := { c with waiting := false, buffer := if c.next then 0 else (s.pipe p).freeBuffer, layers := ds, metasDue := true }
    s.mPipe p fun ps => { ps with dirty := false, last := some (c.bg, c.linear, c.hls), comp := some comp }

/-- The rows of a composed frame in a writeback format (R153). -/
def State.wbRows (s : State) (c : PipeCfg) (b : StoreBuf) (fmt : Nat) : List Bytes :=
  (List.range c.vActive).map fun y =>
    (List.range c.hActive).flatMap fun x =>
      let p := storePx (bit c.ctrl 0) (s.storeAt c b x y)
      match fmt with
      | 0x01 => leBytes (0xFF * 2 ^ 24 + narrow 8 p.r * 2 ^ 16 + narrow 8 p.g * 2 ^ 8 + narrow 8 p.b) 4
      | 0x05 => leBytes (3 * 2 ^ 30 + narrow 10 p.r * 2 ^ 20 + narrow 10 p.g * 2 ^ 10 + narrow 10 p.b) 4
      | _ => leBytes (0xFFFF * 2 ^ 48 + p.b * 2 ^ 32 + p.g * 2 ^ 16 + p.r) 8

/-- The writeback target of a pipe (R151, R156). -/
def State.wbTarget (s : State) (p : Nat) : Option Nat :=
  let v := s.rd (0x01000200 + p * 8)
  if bit v 31 then some (bits v 17 0) else none

/-- Bytes per pixel of a writeback format (R152). -/
def wbBytes (fmt : Nat) : Nat := if fmt = 0x08 then 8 else 4

/-- The poisoned words of a frame-store buffer, found by a reader of a bandwidth class (R86, R88). -/
def State.storeErrors (s : State) (b : StoreBuf) (cls : Nat) : State :=
  (s.seed.poison.filter fun k => b.chunks.contains (k.1 * 8 / 2 ^ 21)).foldl (fun s k => s.ueFound (k.1 * 8) cls pfWin) s

/-- A composed frame is taken for writeback, or counted and reported where its width does not fit, once for a configuration (R153, R154). A
composition that began before CREATE completed and ends after it counts as n = 1 (DESIGN CHOICE, log entry 71). -/
def State.wbCapture (s : State) (p : Nat) (c : PipeCfg) (b : StoreBuf) (comp : Composition) : State :=
  match s.wbTarget p with
  | none => s
  | some i =>
    if (s.chan kWb i).phase ≠ .live then s
    else
      let n := tget 0 s.display.wbCount i + 1
      let s := s.mDisplay fun d => { d with wbCount := tset 0 d.wbCount i n }
      let par := tget 0 s.display.wbParams i
      let fmt := bits par 15 8
      let mark := if comp.next then 16 + p else p
      if bits par 63 32 < c.hActive * wbBytes fmt then
        if s.display.wbMisfit.contains mark then s
        else (s.mDisplay fun d => { d with wbMisfit := d.wbMisfit ++ [mark] }).emit pfWin 0x33 .badGeometry (s.handleWord kWb i) comp.frame
      else
        let s := s.mDisplay fun d => { d with wbFrame := tmod [] d.wbFrame p (· ++ [⟨i, n, comp.frame, s.wbRows c b fmt⟩]) }
        s.storeErrors b 4

/-- FLAG_RESERVED events of a composed frame, and the bits that say what it drew, for every composed layer of the pipe (R139, R156, R158). -/
def State.frameMarks (s : State) (comp : Composition) : List Nat → State
  | [] => s
  | i :: r =>
    let s := (s.wb (layerReg i 4) 23 (comp.outlined.contains i)).wb (layerReg i 4) 22 (comp.reserved.contains i)
    let s := if comp.reserved.contains i then s.emit (s.layerOwner i) 0x31 .badParam (s.handleWord kLayer i) comp.frame else s
    s.frameMarks comp r

/-- A composition finishes: the tiles not yet composed are, the buffer holds the frame, and writeback takes it (R132, R153, R163). -/
def State.finishComposition (s : State) (hosts : List HostRun) (p : Nat) : State :=
  match (s.pipe p).comp with
  | none => s
  | some comp =>
    let c := (s.pipe p).compCfg comp
    let s := (s.compMetas hosts p).composeTiles hosts p (List.range (c.tileCols * c.tileRows))
    match (s.pipe p).comp with
    | none => s
    | some comp =>
      let mark (bufs : List StoreBuf) : List StoreBuf :=
        lset bufs comp.buffer
          { bufs.getD comp.buffer {} with
            safety := safetyRects comp.layers, metas := comp.metas, sources := safetySources comp.layers, linear := comp.linear }
      let s := s.mPipe p fun ps =>
        { ps with comp := some { comp with done := true, doneAt := s.now },
                  store := if comp.next then ps.store else mark ps.store,
                  nextStore := if comp.next then mark ps.nextStore else ps.nextStore }
      let s := s.frameMarks comp (s.layersOf p false)
      s.wbCapture p c (((s.pipe p).compStore comp).getD comp.buffer {}) comp

/-- A composition of a frame finishes writing its frame-store buffer (R163). -/
def execCompositionDone (dt p : Nat) (hosts : List HostRun) (s : State) : Host.Outcome State Fault Refusal :=
  let s := s.tickMem dt hosts
  match (s.pipe p).comp with
  | none => .next s
  | some c => if c.waiting || c.done then .next s else .next (s.finishComposition hosts p)

/-! ### Writeback (R151 to R154) -/

/-- The checks of a writeback target's parameter block (R151, R152). A STRIDE that is no multiple of 256 is a field outside its range, BAD_PARAM
(DESIGN CHOICE, log entry 71). -/
def State.wbStatus (s : State) (w n : Nat) : Status :=
  let p := bits n 7 0
  let fmt := bits n 15 8
  let count := bits n 18 16
  let buf (i : Nat) : Nat := bits n (191 + 64 * i) (128 + 64 * i)
  let bufs := (List.range count).map buf
  let width := if s.pipeState p = 0 then s.rf (pipeReg p 8) 15 0 else (s.pipe p).cfg.hActive
  let fence := match s.handleCheck w kFence (bits n 95 64) with | .error e => (true, e) | .ok _ => (false, Status.ok)
  byR19 [
    fence,
    (bits n 31 19 != 0 || bits n 127 96 != 0 || count == 0 || 4 < count || !(fmt == 1 || fmt == 5 || fmt == 8)
      || decide (s.row.pipes ≤ p) || bufs.any (fun a => a % 256 != 0 || badHigh a) || bits n 63 32 % 256 != 0
      || (List.range 4).any (fun i => count ≤ i && buf i != 0), .badParam),
    (decide (bits n 63 32 < width * wbBytes fmt), .badGeometry),
    ((s.wbTarget p).isSome || (s.pickIndex w kWb).isNone, .noResource)]

/-- CREATE of a writeback target (R151, R152). -/
def execCreateWritebackTarget (dt w : Nat) (ext : Option Bytes) (s : State) : Host.Outcome State Fault Refusal :=
  let s := s.tick dt
  match s.ctlWaits w 1 kWb with
  | none => .next s
  | some e =>
    if w ≠ pfWin then .next (s.ctlDone w e .denied 0)
    else if e.paramLen ≠ 48 then .next (s.ctlDone w e .badParam 0)
    else
      match s.params w e ext with
      | (none, t) => .next (s.createFault t w e (s.pickIndex w kWb).isNone)
      | (some b, s) =>
        let n := leNat b
        let st := s.wbStatus w n
        if st ≠ .ok then .next (s.ctlDone w e st 0)
        else
          let i := (s.pickIndex w kWb).getD 0
          let p := bits n 7 0
          let s := s.mDisplay fun d => { d with wbParams := tset 0 d.wbParams i n, wbCount := tset 0 d.wbCount i 0 }
          let s := (s.wr (0x01000200 + p * 8) (2 ^ 31 + i)).wr (0x01000204 + p * 8) 0
          .next (s.createDone w e kWb i)

/-- The rows of a frame written to a buffer; whether every write was made (R153, R154). -/
def State.wbWrite (s : State) (base stride : Nat) : List Bytes → Bool × State
  | [] => (true, s)
  | r :: rs =>
    match s.store pfWin 4 base r with
    | (true, s) => s.wbWrite (base + stride) stride rs
    | (false, s) => (false, s)

/-- The oldest composed frame of a pipe on its way is written to its writeback buffer, its fence signalled and WB_DONE written; a faulting write
drops the rest (R153, R154, R158). -/
def execWbFrameWritten (dt p : Nat) (s : State) : Host.Outcome State Fault Refusal :=
  let s := s.tick dt
  match tget [] s.display.wbFrame p with
  | [] => .next s
  | f :: fs =>
    let i := f.target
    let par := tget 0 s.display.wbParams i
    let k := (f.n - 1) % max 1 (bits par 18 16)
    let s := s.mDisplay fun d => { d with wbFrame := tset [] d.wbFrame p fs }
    match s.wbWrite (bits par (191 + 64 * k) (128 + 64 * k)) (bits par 63 32) f.rows with
    | (true, s) =>
      let s := (s.fenceSignal pfWin (bits par 95 64) f.n).incr (0x01000204 + p * 8)
      .next (s.emit pfWin 0x32 .ok (s.handleWord kWb i) f.frame)
    | (false, s) => .next ((s.raise (0x01000200 + p * 8) 30).emit pfWin 0x33 .fault (s.handleWord kWb i) f.frame)

end Sys2Proof.Machine
end

