-- ==== Sys2Proof/Machine/Scan.lean ====
section
/-!
DEFINITION. Scan: the stages of a pipe from the frame store to the link pixel (Display pipes and outputs).
-/
namespace Sys2Proof.Machine

/-- Gamma entry i of a bank of a pipe's LUT, a component by its place: 0 B, 1 G, 2 R (R215, R242). -/
def State.gammaLut (s : State) (p bank comp i : Nat) : Nat :=
  let k := pipeReg p (0x2000 + bank * 0x2000 + i * 8)
  if comp = 0 then bits (s.rd k) 15 0 else if comp = 1 then bits (s.rd k) 31 16 else bits (s.rd (k + 4)) 15 0

/-- The gamma mapping of a component (R215). -/
def gammaMap (e : Nat → Nat) (v : Nat) : Nat :=
  let pos := v * 1023
  let i := pos / 65535
  let f : Int := (pos % 65535 : Nat)
  if i = 1023 then e 1023 else ((e i : Int) + (((e (i + 1) : Int) - (e i : Int)) * f + 32767) / 65535).toNat

/-- An entry of a 3D LUT bank, a component by its place (R216, R242). -/
def State.lut3d (s : State) (p bank comp r g b : Nat) : Nat :=
  let k := 0x01900000 + p * 0x20000 + bank * 0x10000 + ((r * 17 + g) * 17 + b) * 8
  if comp = 0 then bits (s.rd k) 15 0 else if comp = 1 then bits (s.rd k) 31 16 else bits (s.rd (k + 4)) 15 0

/-- The cell and the fraction of a component on an axis of the 3D LUT (R216). -/
def lutAxis (v : Nat) : Nat × Nat :=
  let i := v * 16 / 65535
  if i = 16 then (15, 65535) else (i, v * 16 % 65535)

/-- Axes in the order of falling fractions; equal fractions keep the order r, g, b, numbered 0, 1, 2 (R216). -/
def axisOrder (fr fg fb : Nat) : Nat × Nat × Nat :=
  if fg ≤ fr then
    (if fb ≤ fg then (0, 1, 2) else if fb ≤ fr then (0, 2, 1) else (2, 0, 1))
  else
    (if fb ≤ fr then (1, 0, 2) else if fb ≤ fg then (1, 2, 0) else (2, 1, 0))

/-- One component of the tetrahedral interpolation (R216). -/
def lutInterp (l : Nat → Nat → Nat → Nat) (p : Px) : Nat :=
  let (ir, fr) := lutAxis p.r
  let (ig, fg) := lutAxis p.g
  let (ib, fb) := lutAxis p.b
  let (x, y, z) := axisOrder fr fg fb
  let fr_of (a : Nat) : Int := ((if a = 0 then fr else if a = 1 then fg else fb : Nat) : Int)
  let step (q : Nat × Nat × Nat) (a : Nat) : Nat × Nat × Nat :=
    if a = 0 then (q.1 + 1, q.2.1, q.2.2) else if a = 1 then (q.1, q.2.1 + 1, q.2.2) else (q.1, q.2.1, q.2.2 + 1)
  let q0 := (ir, ig, ib)
  let q1 := step q0 x
  let q2 := step q1 y
  let at_ (q : Nat × Nat × Nat) : Int := (l q.1 q.2.1 q.2.2 : Int)
  let v0 := at_ q0
  let v1 := at_ q1
  let v2 := at_ q2
  let v3 := at_ (ir + 1, ig + 1, ib + 1)
  (clampI 0 65535 (v0 + ((v1 - v0) * fr_of x + (v2 - v1) * fr_of y + (v3 - v2) * fr_of z + 32767) / 65535)).toNat

/-- The colour stage by a value of PIPE_COLOUR (R215 to R217). -/
def State.colourStage (s : State) (p colour : Nat) (v : Px) : Px :=
  let gb := b2n (bit colour 3)
  let v : Px :=
    if bit colour 2 then
      ⟨v.a, gammaMap (s.gammaLut p gb 2) v.r, gammaMap (s.gammaLut p gb 1) v.g, gammaMap (s.gammaLut p gb 0) v.b⟩
    else v
  let lb := b2n (bit colour 5)
  if bit colour 4 then
    ⟨v.a, lutInterp (s.lut3d p lb 2) v, lutInterp (s.lut3d p lb 1) v, lutInterp (s.lut3d p lb 0) v⟩
  else v

/-! ### Pip overlay (R219 to R222) -/

/-- A descriptor of PIP_SPRITES: icon i, as a number (R621). -/
def State.iconDesc (s : State) (i : Nat) : Nat := leNat ((s.pip.sprites.drop (64 + i * 16)).take 16)

/-- The number of icons loaded (R621). -/
def State.iconCount (s : State) : Nat := leNat (s.pip.sprites.take 2)

/-- An icon is loaded: below the count, with a format of R621. -/
def State.iconLoaded (s : State) (i : Nat) : Bool :=
  let d := s.iconDesc i
  i < s.iconCount && (bits d 7 0 == 0x01 || bits d 7 0 == 0x40) && bits d 47 32 != 0 && bits d 63 48 != 0 && bits d 47 32 ≤ 512
    && bits d 63 48 ≤ 512 && bits d 97 96 == 0

/-- The pixel a sprite draws at an active-area position, premultiplied, if it draws there (R219). -/
def State.spritePx (s : State) (sp : Sprite) (x y : Nat) : Option Px :=
  if !s.iconLoaded sp.icon then none
  else
    let d := s.iconDesc sp.icon
    let i := (x : Int) - sext 16 sp.x
    let j := (y : Int) - sext 16 sp.y
    let w := bits d 47 32
    let h := bits d 63 48
    if 0 ≤ i ∧ i < (w : Int) ∧ 0 ≤ j ∧ j < (h : Int) then
      let bpp := if bits d 7 0 = 0x01 then 4 else 1
      let off := bits d 127 96 + j.toNat * (cdiv (w * bpp) 4 * 4) + i.toNat * bpp
      let v := leNat ((s.pip.sprites.drop off).take bpp)
      if bpp = 4 then some (px32 v)
      else
        let c := px32 sp.colour
        let a := mul16 (exp8 v) c.a
        some ⟨a, mul16 c.r a, mul16 c.g a, mul16 c.b a⟩
    else none

/-- Sprites blended over a pixel in list order (R219). -/
def State.spritesOver (s : State) (x y : Nat) : List Sprite → Px → Px
  | [], d => d
  | sp :: r, d =>
    match s.spritePx sp x y with
    | some p => s.spritesOver x y r (blendPx 0 65535 p d)
    | none => s.spritesOver x y r d

/-- The Pip lane's background colour (R221, R620). -/
def State.pipBg (s : State) : Px :=
  let v := bits s.pip.config 63 40
  ⟨65535, exp8 (bits v 23 16), exp8 (bits v 15 8), exp8 (bits v 7 0)⟩

/-! ### Depth conversion (R223) -/

/-- The dither matrix, row by row. -/
def ditherM (j i : Nat) : Nat := [0, 8, 2, 10, 12, 4, 14, 6, 3, 11, 1, 9, 15, 7, 13, 5].getD (j * 4 + i) 0

/-- Its rotations. -/
def ditherR (r j i : Nat) : Nat :=
  match r with
  | 0 => ditherM j i
  | 1 => ditherM (3 - i) j
  | 2 => ditherM (3 - j) (3 - i)
  | _ => ditherM i (3 - j)

/-- A component brought to `n` bits at a position of a frame, by a value of PIPE_COLOUR. -/
def toDepth (colour n frame x y v : Nat) : Nat :=
  if bit colour 6 then
    let t := ditherR (if bit colour 7 then frame % 4 else 0) (y % 4) (x % 4)
    (v * (2 ^ n - 1) * 32 + (2 * t + 1) * 65535) / (32 * 65535)
  else narrow n v

/-- The link depth of a configuration (R243). -/
def PipeCfg.depth (c : PipeCfg) : Nat := 6 + 2 * bits c.output 21 20

/-! ### A line -/

/-- Direct layers blended over a pixel, with the slots that met a reserved flag (R129, R139, R211): a layer is off from the position at which it
faulted or ran dry; one without PROTECTED_SAFETY is not drawn on a safety rectangle of the composed frame. -/
def State.directOver (s : State) (hosts : List HostRun) (ps : PipeSt) (linear inSafe : Bool) (x y : Nat) :
    List Drawn → Px → Except (Nat × Nat) (Px × List Nat)
  | [], d => .ok (d, [])
  | l :: r, d =>
    let off := ps.offAt.any fun o => o.1 == l.slot && (o.2.1 < y || (o.2.1 == y && o.2.2 ≤ x))
    if l.covers x y && !off && !(inSafe && !lsrSafety l.lsr) then
      match drawPx (s.layerReader clsDirect hosts l.owner) s.gammaEntry s.coef linear l x y d with
      | .error a => .error (l.slot, a)
      | .ok q =>
        match s.directOver hosts ps linear inSafe x y r q.1 with
        | .error e => .error e
        | .ok (d, rs) => .ok (d, if q.2 then l.slot :: rs else rs)
    else s.directOver hosts ps linear inSafe x y r d

/-- A position lies in one of the safety rectangles. -/
def inRects (rs : List (Int × Int × Nat × Nat)) (x y : Nat) : Bool :=
  rs.any fun r => r.1 ≤ x && (x : Int) < r.1 + r.2.2.1 && r.2.1 ≤ y && (y : Int) < r.2.1 + r.2.2.2

/-- Stage 1 of a pipe delivers the Pip background: Pip-first, or with REPLACE in force (R221, R584). -/
def State.pipUnder (s : State) (p : Nat) : Bool :=
  (s.pipe p).pipFirst || (s.rb (pipeReg p 0xC000) 31 && s.rb (pipeReg p 0xC000) 29)

/-- The link pixel at a position of the frame being scanned (R196), R lowest, 16 bits a component (R249), with the slots that met a reserved flag.
Direct layers are blended in the space of the composed frame that is scanned (R127; DEDUCED, log entry 72). -/
def State.linkPx (s : State) (hosts : List HostRun) (p x y : Nat) : Except (Nat × Nat) (Nat × List Nat) :=
  let ps := s.pipe p
  let buf := ps.store.getD ps.front {}
  let pipSt := s.rd (pipeReg p 0xC000)
  let under : Except (Nat × Nat) (Px × List Nat) :=
    if s.pipUnder p then .ok (s.pipBg, [])
    else
      match s.directOver hosts ps buf.linear (inRects buf.safety x y) x y ps.directs (storePx (bit ps.cfg.ctrl 0) (s.storeAt ps.cfg buf x y)) with
      | .error e => .error e
      | .ok (q, rs) => .ok (s.colourStage p ps.colour q, rs)
  match under with
  | .error e => .error e
  | .ok (q, rs) =>
    let q := if bit pipSt 31 && !s.rb 0x00300020 30 then s.spritesOver x y ps.sprites q else q
    let n := ps.cfg.depth
    let f (v : Nat) : Nat := toDepth ps.colour n (s.frame p) x y v
    .ok (f q.r + f q.g * 2 ^ 16 + f q.b * 2 ^ 32, rs)

/-- The frame-store word of a pixel is found poisoned by the pipe's read of it: reported at its first pixel (R86, R88). -/
def State.storeFound (s : State) (p x y : Nat) : State :=
  let ps := s.pipe p
  let k := storeKey ps.cfg (ps.store.getD ps.front {}) x y
  if !s.pipUnder p && tget false s.seed.poison (k / 8) && k % 8 == 0 then s.ueFound k 1 pfWin else s

/-- Direct layers that meet a reserved flag: FLAG_RESERVED once for each in a frame (R139, R156, R158). -/
def State.directRsv (s : State) (p : Nat) : List Nat → State
  | [] => s
  | i :: r =>
    let s :=
      if (s.pipe p).rsvMet.contains i then s
      else
        ((s.mPipe p fun ps => { ps with rsvMet := ps.rsvMet ++ [i] }).wb (layerReg i 4) 22 true).emit (s.layerOwner i) 0x31 .badParam
          (s.handleWord kLayer i) (s.frame p)
    s.directRsv p r

/-- A direct layer is switched off by a fault for the rest of the frame, and until a commit names it (R194). -/
def State.directOff (s : State) (p slot x y : Nat) : State :=
  (s.layerOff slot (s.frame p)).mPipe p fun ps => { ps with offAt := ps.offAt ++ [(slot, y, x)] }

/-- The pixels of a line from `x` on. `fuel` bounds the pixels and the layers that can fault. -/
def State.scanLine (s : State) (hosts : List HostRun) (p y : Nat) : Nat → Nat → State
  | 0, _ => s
  | fuel + 1, x =>
    if (s.pipe p).cfg.hActive ≤ x then s
    else
      match s.linkPx hosts p x y with
      | .ok (v, rs) =>
        let s := (s.storeFound p x y).directRsv p rs
        (s.mPipe p fun ps => { ps with out := tset 0 ps.out (y * 8192 + x) v }).scanLine hosts p y fuel (x + 1)
      | .error (slot, a) => ((s.reportFault (s.layerOwner slot) clsDirect a).directOff p slot x y).scanLine hosts p y fuel x

/-- Lines sent up to but not including `y` (R197, R211): what has not been scanned yet is scanned now. -/
def State.scanLines (s : State) (hosts : List HostRun) (p : Nat) : Nat → State
  | 0 => s
  | y + 1 =>
    let s := s.scanLines hosts p y
    if y < (s.pipe p).scanned || (s.pipe p).cfg.vActive ≤ y then s
    else (s.scanLine hosts p y ((s.pipe p).cfg.hActive + 5) 0).mPipe p fun ps => { ps with scanned := y + 1 }

/-- A REPLACE that was written comes into force: the line after the write starts (R221). -/
def State.replaceNow (s : State) (p : Nat) : State :=
  match (s.pipe p).replace with
  | some b => (s.wb (pipeReg p 0xC000) 29 b).mPipe p fun ps => { ps with replace := none }
  | none => s

/-- The scan of a pipe brought up to a line, while it scans out; with it the lines between have started. -/
def State.scanTo (s : State) (hosts : List HostRun) (p y : Nat) : State :=
  if s.scanning p then (if s.rf (pipeReg p 0x48) 15 0 + 1 < y then s.replaceNow p else s).scanLines hosts p y else s

/-- The raster of a pipe reaches a line: the lines before it are sent, and PIPE_POS.LINE shows it. -/
def State.toLine (s : State) (hosts : List HostRun) (p y : Nat) : State :=
  ((s.scanTo hosts p y).replaceNow p).wf (pipeReg p 0x48) 15 0 y

end Sys2Proof.Machine
end

