-- ==== Sys2Proof/Machine/Checks.lean ====
section
/-!
DEFINITION. Checks: display check regions, data check units and check contexts (Check units).
-/
namespace Sys2Proof.Machine

/-! ### Check values (R250, R264) -/

/-- The low `w` bits of a number in reverse order. -/
def revBits (w v : Nat) : Nat := (List.range w).foldl (fun n i => n * 2 + v / 2 ^ i % 2) 0

/-- One bit step of the check register (R264). -/
def crcShift (w poly reg : Nat) : Nat :=
  if bit reg (w - 1) then ((reg * 2) ^^^ poly) % 2 ^ w else reg * 2 % 2 ^ w

/-- One byte fed (R264). -/
def crcByte (w poly : Nat) (refIn : Bool) (reg b : Nat) : Nat :=
  let b := if refIn then revBits 8 b else b
  (List.range 8).foldl (fun r _ => crcShift w poly r) ((reg ^^^ (b * 2 ^ (w - 8))) % 2 ^ w)

/-- Bytes fed in address order (R264). -/
def crcFeed (w poly : Nat) (refIn : Bool) (reg : Nat) (bs : Bytes) : Nat :=
  bs.foldl (fun r b => crcByte w poly refIn r b.toNat) reg

/-- The finished result (R264). -/
def crcResult (w xorOut : Nat) (refOut : Bool) (reg : Nat) : Nat :=
  ((if refOut then revBits w reg else reg) ^^^ xorOut) % 2 ^ w

/-- The CRC-32 of IEEE 802.3 (R250). -/
def crc32 (bs : Bytes) : Nat := crcResult 32 0xFFFFFFFF true (crcFeed 32 0x04C11DB7 true 0xFFFFFFFF bs)

/-! ### Display check regions -/

/-- A register of region r of pipe p, and CHK_SET_STATUS of the pipe (R273). -/
def regionReg (p r off : Nat) : Nat := 0x03C10000 + p * 0x1000 + r * 0x40 + off
def setStatus (p : Nat) : Nat := 0x03C10400 + p * 0x1000

/-- A region's held registers, as they are taken (R254). -/
def State.heldRegion (s : State) (p r : Nat) : Region :=
  let k := regionReg p r
  let old := tget {} s.checks.regions (p * 16 + r)
  { ctrl := s.rd (k 0), xy := s.rd (k 4), wh := s.rd (k 8), src := s.rd (k 0xC), e0 := s.rd (k 0x10), e1 := s.rd (k 0x14),
    e2 := s.rd (k 0x18), e3 := s.rd (k 0x1C), seen := bit old.ctrl 31 && old.seen }

/-- The held registers of a pipe's regions are taken (R254, R712). -/
def State.takeRegions (s : State) (p : Nat) : State :=
  (List.range 16).foldl (fun s r =>
    s.mChecks fun c => { c with regions := tset {} c.regions (p * 16 + r) (s.heldRegion p r) }) s

/-- The source alive value of a slot in the frame being scanned; `none` when the source counts as absent (R251). -/
def State.sourceValue (s : State) (p slot : Nat) : Option Nat :=
  let ps := s.pipe p
  let buf := ps.store.getD ps.front {}
  let direct := (ps.directs.any fun d => d.slot == slot && lsrSafety d.lsr && !d.solid)
    && !((ps.offAt.any fun o => o.1 == slot) && !ps.underran.contains slot)
  if buf.sources.contains slot then (buf.metas.find? fun m => m.1 == slot).map (·.2)
  else if direct then (ps.directMetas.find? fun m => m.1 == slot).map (·.2)
  else none

/-- The pixels of a rectangle of the frame just sent, 6 bytes each (R249). -/
def State.rectBytes (s : State) (p x y w h : Nat) : Bytes :=
  (List.range h).flatMap fun j => (List.range w).flatMap fun i => leBytes (tget 0 (s.pipe p).out ((y + j) * 8192 + x + i)) 6

/-- An event of a pipe's check set: to the PF, and to the safety owner's VI (R261). -/
def State.checkEvent (s : State) (kind : Nat) (st : Status) (detail : Nat) : State :=
  let s := s.emitPf kind st detail
  if s.safetyWin < 256 then s.emit s.safetyWin kind st 0 detail else s

/-- One region's results for frame f are published (R249 to R253, R258 to R260). -/
def State.publishRegion (s : State) (p f r : Nat) : State :=
  let g := tget {} s.checks.regions (p * 16 + r)
  let k := regionReg p r
  let ps := s.pipe p
  let x := bits g.xy 15 0
  let y := bits g.xy 31 16
  let w := bits g.wh 15 0
  let h := bits g.wh 31 16
  let detail := p * 2 ^ 24 + r * 2 ^ 20 + f % 2 ^ 20
  if !bit g.ctrl 31 then s
  else if ps.cfg.hActive < x + w || ps.cfg.vActive < y + h then
    let was := s.rb (k 0x34) 29
    let s := (s.wr64 (k 0x28) f).wb (k 0x34) 29 true
    if was then s else s.checkEvent 0xA2 .badGeometry detail
  else
    let srcEn := bit g.ctrl 30
    let src := s.sourceValue p (bits g.src 17 0)
    let val := src.getD 0
    let px := s.rectBytes p x y w h
    let head := leBytes (f % 2 ^ 16) 2 ++ (if srcEn then leBytes val 4 else [])
    let value := crc32 (head ++ px)
    let content := crc32 (List.replicate head.length 0 ++ px)
    let wasAbsent := s.rb (k 0x34) 28
    let last := s.rd (k 0x30)
    let absent := src.isNone
    let s := (((s.wr (k 0x20) value).wr (k 0x24) content).wr64 (k 0x28) f).wr (k 0x30) val
    let s := (s.wb (k 0x34) 29 false).wb (k 0x34) 28 absent
    let s :=
      if bit g.ctrl 29 then
        let want := if bit g.ctrl 28 then [g.e0, g.e1, g.e2, g.e3].getD (f % 4) 0 else g.e0
        if content = want then (s.wb (k 0x34) 27 true).wf (k 0x3C) 31 16 0
        else
          let s := ((s.wb (k 0x34) 27 false).sat (k 0x38) 1).satf (k 0x3C) 31 16 1
          if bits g.ctrl 15 8 < s.rf (k 0x3C) 31 16 ∧ ¬ s.rb (k 0x34) 31 then
            (s.raise (k 0x34) 31).checkEvent 0xA0 .badCrc detail
          else s
      else s
    let s :=
      if ¬ g.seen then s.wf (k 0x3C) 15 0 0
      else if srcEn ∧ bits g.ctrl 23 16 ≠ 0 then
        let d := (val + 2 ^ 32 - last) % 2 ^ 32
        if (¬ absent ∧ ¬ wasAbsent ∧ 1 ≤ d ∧ d < 2 ^ 31) then s.wf (k 0x3C) 15 0 0
        else
          let s := s.satf (k 0x3C) 15 0 1
          if bits g.ctrl 23 16 < s.rf (k 0x3C) 15 0 ∧ ¬ s.rb (k 0x34) 30 then
            (s.raise (k 0x34) 30).checkEvent 0xA1 .late detail
          else s
      else s
    s.mChecks fun c => { c with regions := tset {} c.regions (p * 16 + r) { g with seen := true } }

/-- The results of frame f of a RUNNING pipe are published at its latch point, region by region, while the PIP domain is ON (R247, R253, R255,
R257). -/
def State.publish (s : State) (p f : Nat) : State :=
  if s.unitUp 0x70 p ∧ s.domainState 3 = 3 ∧ s.pipeState p = 2 then
    let s := (List.range 16).foldl (fun s r => s.publishRegion p f r) s
    let s := s.recValue 9 p (((List.range 16).countP fun r =>
      let g := tget {} s.checks.regions (p * 16 + r)
      let c := (s.pipe p).cfg
      bit g.ctrl 31 && bit g.ctrl 29 && bits g.xy 15 0 + bits g.wh 15 0 ≤ c.hActive && bits g.xy 31 16 + bits g.wh 31 16 ≤ c.vActive
        && !s.rb (regionReg p r 0x34) 27) : Nat)
    let s := s.wf (setStatus p) 15 0 (f % 2 ^ 16)
    s.mChecks fun c => { c with published := tset 0 c.published p (s.now + 1), lastFrames := tset (2 ^ 64 - 1) c.lastFrames p f }
  else s

/-- Where a requester's offset lies in the display check registers: the offset in PF BAR0, if the requester reaches it (R262, R273). -/
def State.checkAddr (s : State) (r : Req) (addr : Nat) : Option Nat :=
  match r.path with
  | .vi v =>
    if 0x14000 ≤ addr ∧ addr < 0x14000 + s.row.pipes * 0x800 ∧ s.safetyWin = v ∧ s.pipeGranted v ((addr - 0x14000) / 0x800) ∧ ¬ s.winDead v then
      some (0x03C10000 + (addr - 0x14000) / 0x800 * 0x1000 + (addr - 0x14000) % 0x800)
    else none
  | _ => if 0x03C10000 ≤ addr ∧ addr < 0x03C10000 + s.row.pipes * 0x1000 then some addr else none

/-- The bits of a region register that are kept, by its offset in the region; `none` where the offset is not a held register (R274). -/
def regionMask (off : Nat) : Option Nat :=
  match off with
  | 0x00 => some 0xF0FFFF00
  | 0x04 => some 0xFFFFFFFF
  | 0x08 => some 0xFFFFFFFF
  | 0x0C => some 0x3FFFF
  | 0x10 => some 0xFFFFFFFF
  | 0x14 => some 0xFFFFFFFF
  | 0x18 => some 0xFFFFFFFF
  | 0x1C => some 0xFFFFFFFF
  | _ => none

/-- A write to a region's held registers (R254, R262, R273). -/
def execChkWrite (dt : Nat) (r : Req) (addr : Nat) (v : Word) (s : State) : Host.Outcome State Fault Refusal :=
  let s := s.tick dt
  match s.checkAddr r addr with
  | none => .next s
  | some k =>
    let p := (k - 0x03C10000) / 0x1000
    let off := k % 0x1000
    match (if off < 0x400 then regionMask (off % 0x40) else none), s.unitIndex 0x70 p with
    | some m, some u =>
      if s.claimBlocks u (s.reqSecure r) then .next (s.wf (setStatus p) 22 16 Status.claimed.code)
      else
        let n := v.toNat &&& m
        let n := if off % 0x40 = 8 then max 1 (bits n 31 16) * 2 ^ 16 + max 1 (bits n 15 0) else n
        .next (s.wr k n)
    | _, _ => .next s

/-- A write to another register of a pipe's check unit set, by its access codes; a claim of another world refuses it (R262). -/
def State.setClaimed (s : State) (r : Req) (p : Nat) : Option State :=
  if s.claimedFor 0x70 p r then some (s.wf (setStatus p) 22 16 Status.claimed.code) else none

/-- The nominal frame time of a pipe in ns: V_TOTAL lines of PIPE_VIEW_LINE picoseconds (R238, R257). -/
def PipeCfg.linePs (c : PipeCfg) : Nat :=
  let den := 4 * 38400000 * c.factor
  if den = 0 then 0 else (2 * c.hTotal * c.divider * 2 ^ 24 * 1000000000000 + den) / (2 * den)

/-- A running pipe's set has published nothing for two nominal frame times (R257). With no frame published, the last one reads all ones, as
CHK_FRAME does (log entry 67). -/
def execFrameMissing (dt p : Nat) (s : State) : Host.Outcome State Fault Refusal :=
  let s := s.tick dt
  let c := (s.pipe p).cfg
  let last := tget 0 s.checks.published p
  if s.pipeState p = 2 ∧ last ≠ 0 ∧ 2 * c.vTotal * c.linePs ≤ (s.now + 1 - last) * 1000 ∧ ¬ s.rb (setStatus p) 31 then
    .next ((s.raise (setStatus p) 31).checkEvent 0xA3 .late (p * 2 ^ 24 + tget (2 ^ 64 - 1) s.checks.lastFrames p % 2 ^ 24))
  else .next s

/-! ### Data check units through their registers (R265, R274) -/

/-- A register of data unit u (R273). -/
def dcuReg (u off : Nat) : Nat := 0x03C20000 + u * 0x40 + off

/-- CHECK_PARAM.DCU_DIRECT: units served through registers (R274). -/
def State.dcuDirect (s : State) : Nat := s.rf 0x03C00000 7 0

/-- A width code in bits (R266, R274). -/
def widthBits (c : Nat) : Nat := 8 * 2 ^ (c % 4)

/-- The width, POLY, INIT and reflections of a unit. -/
def State.dcuWidth (s : State) (u : Nat) : Nat := widthBits (s.rf (dcuReg u 0) 3 2)

/-- The status of a refused write to a unit (R265). -/
def State.dcuRefuse (s : State) (u : Nat) (st : Status) : State := s.wr (dcuReg u 0x3C) st.code

/-- A register write to a unit goes through: the unit is served through its registers, and the write came through PF BAR0 (R265, R273). -/
def State.dcuOpen (s : State) (r : Req) (u : Nat) : Bool :=
  (match r.path with | .vi _ => false | _ => true) && u < s.dcuDirect

/-- A write that does not go through (R265): no VF window holds the registers. -/
def State.dcuClosed (s : State) (r : Req) (u : Nat) : State :=
  match r.path with
  | .vi _ => s
  | _ => s.dcuRefuse u .denied

/-- Bytes fed into a unit through its registers. -/
def State.dcuFeed (s : State) (u : Nat) (bs : Bytes) : State :=
  s.wr64 (dcuReg u 0x20)
    (crcFeed (s.dcuWidth u) (s.rd64 (dcuReg u 8)) (s.rb (dcuReg u 0) 1) (s.rd64 (dcuReg u 0x20)) bs)

/-- DCU_DATA feeds its 4 bytes from bits [7:0] upward (R265). -/
def execDcuData (dt : Nat) (r : Req) (u : Nat) (v : Word) (s : State) : Host.Outcome State Fault Refusal :=
  let s := s.tick dt
  if s.dcuOpen r u then .next (s.dcuFeed u (leBytes v.toNat 4)) else .next (s.dcuClosed r u)

/-- DCU_DATA8 feeds bits [7:0] (R265). -/
def execDcuData8 (dt : Nat) (r : Req) (u : Nat) (v : Word) (s : State) : Host.Outcome State Fault Refusal :=
  let s := s.tick dt
  if s.dcuOpen r u then .next (s.dcuFeed u (leBytes v.toNat 1)) else .next (s.dcuClosed r u)

/-- DCU_CMD.RESTART sets reg to INIT (R265). -/
def execDcuRestart (dt : Nat) (r : Req) (u : Nat) (s : State) : Host.Outcome State Fault Refusal :=
  let s := s.tick dt
  if s.dcuOpen r u then .next (s.wr64 (dcuReg u 0x20) (s.rd64 (dcuReg u 0x10))) else .next (s.dcuClosed r u)

/-- A write of POLY, INIT, XOROUT or VALUE, registers 0 to 3; bits at W and above refuse it (R264, R274). -/
def execDcuValueWrite (dt : Nat) (r : Req) (u which v : Nat) (s : State) : Host.Outcome State Fault Refusal :=
  let s := s.tick dt
  if s.dcuOpen r u then
    if 2 ^ s.dcuWidth u ≤ v then .next (s.dcuRefuse u .badParam) else .next (s.wr64 (dcuReg u (8 + which * 8)) v)
  else .next (s.dcuClosed r u)

/-- A write of DCU_CFG: refused when it narrows below set bits; an accepted change of WIDTH sets reg to INIT (R274). -/
def execDcuCfgWrite (dt : Nat) (r : Req) (u : Nat) (v : Word) (s : State) : Host.Outcome State Fault Refusal :=
  let s := s.tick dt
  if s.dcuOpen r u then
    let w := widthBits (bits v.toNat 3 2)
    if w = s.dcuWidth u then .next (s.wr (dcuReg u 0) (bits v.toNat 3 0))
    else if 2 ^ w ≤ s.rd64 (dcuReg u 8) ∨ 2 ^ w ≤ s.rd64 (dcuReg u 0x10) ∨ 2 ^ w ≤ s.rd64 (dcuReg u 0x18) then
      .next (s.dcuRefuse u .badParam)
    else .next ((s.wr (dcuReg u 0) (bits v.toNat 3 0)).wr64 (dcuReg u 0x20) (s.rd64 (dcuReg u 0x10)))
  else .next (s.dcuClosed r u)

/-! ### Check contexts (R266 to R271) -/

/-- The fields of a context's parameter block (R266). -/
def ctxWidth (p : Nat) : Nat := widthBits (bits p 13 12)
def ctxPoly (p : Nat) : Nat := bits p 127 64
def ctxInit (p : Nat) : Nat := bits p 191 128
def ctxXor (p : Nat) : Nat := bits p 255 192
def ctxAliveBytes (p : Nat) : Nat := match bits p 15 14 with | 0 => 0 | 1 => 1 | 2 => 2 | _ => 4

/-- A value outside its range, or a breach of R264 (R266). -/
def ctxBad (p : Nat) : Bool :=
  let top := 2 ^ ctxWidth p
  bits p 31 16 != 0 || bits p 9 0 != 0 || decide (top ≤ ctxPoly p) || decide (top ≤ ctxInit p) || decide (top ≤ ctxXor p)
  || (ctxAliveBytes p != 0 && (bits p 39 32 == 0 || decide (bits p 47 40 < bits p 39 32)))

/-- A context, and a context changed. -/
def State.ctx (s : State) (i : Nat) : CheckCtx := tget {} s.checks.ctxs i
def State.mCtx (s : State) (i : Nat) (f : CheckCtx → CheckCtx) : State := s.mChecks fun c => { c with ctxs := tmod {} c.ctxs i f }

/-- CREATE of a check context (R266). -/
def execCreateCheckContext (dt w : Nat) (ext : Option Bytes) (s : State) : Host.Outcome State Fault Refusal :=
  let s := s.tick dt
  match s.ctlWaits w 1 kCheck with
  | none => .next s
  | some e =>
    if e.paramLen ≠ 32 then .next (s.ctlDone w e .badParam 0)
    else
      match s.params w e ext with
      | (none, t) => .next (s.createFault t w e (s.dcuDirect == 64 || (s.pickIndex w kCheck).isNone))
      | (some b, s) =>
        let n := leNat b
        if ctxBad n then .next (s.ctlDone w e .badParam 0)
        else
          match (if s.dcuDirect = 64 then none else s.pickIndex w kCheck) with
          | none => .next (s.ctlDone w e .noResource 0)
          | some i =>
            let s := s.mChecks fun c => { c with ctxs := tset {} c.ctxs i { params := n, reg := ctxInit n } }
            .next (s.createDone w e kCheck i)

/-- The key of a ring that serves check contexts, and the index of the context it is bound to (R268). -/
def entRing (w n : Nat) : Nat := 2 ^ 24 + w * 256 + n
def State.ringCtx (s : State) (k : Nat) : Nat := (handleOf (s.rd (ringBind ((k - 2 ^ 24) / 256) (k % 256)))).index

/-- The entries of a ring fetched and not started. -/
def State.ringQueue (s : State) (k : Nat) : List Bytes := tget [] s.pods.fetched k

/-- A ring whose next entry can be served joins the order of those that wait: its entries run one at a time (R268). -/
def State.ctxReady (s : State) (k : Nat) : State :=
  let c := s.ctx (s.ringCtx k)
  if s.ringQueue k ≠ [] ∧ ¬ (c.running.isSome ∧ c.ring = k) ∧ ¬ s.checks.ready.contains k then
    s.mChecks fun c => { c with ready := c.ready ++ [k] }
  else s

/-- The fields of a check-context entry (R267). -/
def entOp (n : Nat) : Nat := bits n 7 0
def entTag (n : Nat) : Nat := bits n 207 192

/-- CHECK_DONE of an entry (R272). -/
def State.checkDone (s : State) (i : Nat) (st : Status) (tag result : Nat) : State :=
  s.emit (s.chan kCheck i).owner 0xA8 st (s.handleWord kCheck i) (tag * 2 ^ 16 + result % 2 ^ 16)

/-- The running entry of a context ends, and its ring's next entry becomes ready (R268). -/
def State.ctxEnd (s : State) (i : Nat) : State := (s.mCtx i fun c => { c with running := none }).ctxReady (s.ctx i).ring

/-- An entry with a reserved opcode, a reserved bit set, or a field out of range completes with BAD_PARAM (R267). -/
def entBad (n : Nat) : Bool :=
  let op := entOp n
  bits n 31 10 != 0 || op == 0 || 4 < op
  || (op == 1 && (bits n 63 32 == 0 || 16777216 < bits n 63 32 || badHigh (bits n 191 128)))
  || (op == 2 && (bits n 191 128 % 8 != 0 || badHigh (bits n 191 128)))

/-- A waiting entry gets a free unit and its context is loaded; the ring ready longest comes first, but for one whose context serves an entry of
another ring (R268). -/
def execCheckEntryDispatch (dt : Nat) (s : State) : Host.Outcome State Fault Refusal :=
  let s := s.tick dt
  let busy := s.checks.ctxs.countP fun c => c.2.running.isSome
  match s.checks.ready.find? fun k => (s.ctx (s.ringCtx k)).running.isNone with
  | none => .next s
  | some k =>
    if 64 - s.dcuDirect ≤ busy then .next s
    else
      let i := s.ringCtx k
      let s := s.mChecks fun c => { c with ready := c.ready.filter (· != k) }
      match s.ringQueue k with
      | [] => .next s
      | b :: q =>
        let s := s.mPods fun p => { p with fetched := tset [] p.fetched k q }
        if entBad (leNat b) then .next ((s.checkDone i .badParam (entTag (leNat b)) 0).ctxReady k)
        else .next (s.mCtx i fun c => { c with running := some b, ring := k })

/-- The running entry of a context, if its opcode is the one asked for. -/
def State.ctxRuns (s : State) (i op : Nat) : Option Nat :=
  match (s.ctx i).running with
  | some b => if entOp (leNat b) = op then some (leNat b) else none
  | none => none

/-- The alive check of a FEED (R270): the counter field against the stored value. -/
def State.aliveCheck (s : State) (i n : Nat) (data : Bytes) : State :=
  let c := s.ctx i
  let wb := ctxAliveBytes c.params
  let new := leNat ((data.drop (bits c.params 63 48)).take wb)
  let s' := s.mCtx i fun c => { c with stored := some new }
  match c.stored with
  | none => s'
  | some old =>
    let d := (new + 2 ^ (8 * wb) - old) % 2 ^ (8 * wb)
    if bits c.params 39 32 ≤ d ∧ d ≤ bits c.params 47 40 then s'
    else
      s'.emit (s.chan kCheck i).owner 0xA9 .badCrc (s.handleWord kCheck i) ((if d = 0 then 1 else 2) * 2 ^ 30 + entTag n)

/-- A FEED entry feeds LEN bytes, with the alive check when ALIVE is 1 (R269, R270). -/
def execChkFeed (dt i : Nat) (hosts : List HostRun) (s : State) : Host.Outcome State Fault Refusal :=
  let s := s.tickMem dt hosts
  match s.ctxRuns i 1 with
  | none => .next s
  | some n =>
    let c := s.ctx i
    let w := (s.chan kCheck i).owner
    let len := bits n 63 32
    let alive := bit n 8 && ctxAliveBytes c.params != 0
    if alive && len < bits c.params 63 48 + ctxAliveBytes c.params then .next ((s.checkDone i .badGeometry (entTag n) 0).ctxEnd i)
    else
      match s.load w 4 hosts (bits n 191 128) len with
      | (none, s) => .next ((s.checkDone i .fault (entTag n) 0).ctxEnd i)
      | (some data, s) =>
        let s := s.mCtx i fun c => { c with reg := crcFeed (ctxWidth c.params) (ctxPoly c.params) (bit c.params 11) c.reg data }
        let s := if alive then s.aliveCheck i n data else s
        .next (s.ctxEnd i)

/-- A FINISH entry forms and writes the result, compares it and resets reg (R269). -/
def execChkFinish (dt i : Nat) (s : State) : Host.Outcome State Fault Refusal :=
  let s := s.tick dt
  match s.ctxRuns i 2 with
  | none => .next s
  | some n =>
    let c := s.ctx i
    let res := crcResult (ctxWidth c.params) (ctxXor c.params) (bit c.params 10) c.reg
    let addr := bits n 191 128
    let s := if addr = 0 then s else (s.store (s.chan kCheck i).owner 4 addr (leBytes res 8)).2
    let s := s.mCtx i fun c => { c with reg := ctxInit c.params }
    let st := if bit n 9 && res != bits n 127 64 then Status.badCrc else .ok
    .next ((s.checkDone i st (entTag n) res).ctxEnd i)

/-- A SET entry loads reg from ARG; bits at W and above are refused (R269). -/
def execChkSet (dt i : Nat) (s : State) : Host.Outcome State Fault Refusal :=
  let s := s.tick dt
  match s.ctxRuns i 3 with
  | none => .next s
  | some n =>
    let arg := bits n 127 64
    if 2 ^ ctxWidth (s.ctx i).params ≤ arg then .next ((s.checkDone i .badParam (entTag n) 0).ctxEnd i)
    else .next ((s.mCtx i fun c => { c with reg := arg }).ctxEnd i)

/-- A RESTART entry sets reg to INIT and keeps the alive value (R269). -/
def execChkRestart (dt i : Nat) (s : State) : Host.Outcome State Fault Refusal :=
  let s := s.tick dt
  match s.ctxRuns i 4 with
  | none => .next s
  | some _ => .next ((s.mCtx i fun c => { c with reg := ctxInit c.params }).ctxEnd i)

/-- Entries of a ring consumed and not started are abandoned without events (R271). -/
def State.ringAbandon (s : State) (k : Nat) : State :=
  let s := s.mPods fun p => { p with fetched := tset [] p.fetched k [] }
  s.mChecks fun c => { c with ready := c.ready.filter (· != k) }

/-- Those of every ring bound to a context, on its DESTROY (R271). -/
def State.ctxAbandon (s : State) (i : Nat) : State :=
  let w := (s.chan kCheck i).owner
  (List.range 256).foldl (fun s n =>
    let h := handleOf (s.rd (ringBind w n))
    if h.kind = kCheck ∧ h.index = i then s.ringAbandon (entRing w n) else s) s

/-- The block QUERY of a check context writes (R271). -/
def State.ctxQuery (s : State) (i : Nat) : Bytes :=
  leBytes (s.ctx i).reg 8 ++ leBytes ((s.ctx i).stored.getD (2 ^ 64 - 1)) 8

end Sys2Proof.Machine
end

