-- ==== Sys2Proof/Machine/Dynamics.lean ====
section
/-!
DEFINITION. Dynamics: the real-number model of a dynamics processor in fixed point, and the limits it sets on the processor's output (R383).
Levels and reductions are in units of 2^-40 dB; the smoothing constants have 60 fraction bits. The steps of the fixed point lie far below the 0.1 dB
that R383 leaves open (log entry 35).
-/
namespace Sys2Proof.Machine

/-- 2^-40 dB units of one dB, and of one unit of Q8.8. -/
def dbUnit : Int := 2 ^ 40
def dbOf (q : Int) : Int := q * 2 ^ 32

/-- The fraction bits of log2 of a number in [1, 2) with 60 fraction bits. -/
def log2Bits : Nat → Nat → Nat → Nat
  | 0, _, r => r
  | n + 1, m, r =>
    let m := m * m / 2 ^ 60
    if 2 ^ 61 ≤ m then log2Bits n (m / 2) (2 * r + 1) else log2Bits n m (2 * r)

/-- log2 of a number above 0, in units of 2^-40. -/
def log2Fix (n : Nat) : Int :=
  let k := Nat.log2 n
  ((k * 2 ^ 40 + log2Bits 40 (n * 2 ^ 60 / 2 ^ k) 0 : Nat) : Int)

/-- 2 to the power y, y in units of 2^-60, with 60 fraction bits. -/
def exp2Fix (y : Int) : Nat :=
  let i := y / 2 ^ 60
  let t := (y % 2 ^ 60).toNat * 799144290325165979 / 2 ^ 60
  let e := ((List.range 24).foldl (fun (a : Nat × Nat) n => (a.1 + a.2, a.2 * t / 2 ^ 60 / (n + 1))) (0, 2 ^ 60)).1
  if 0 ≤ i then e * 2 ^ i.toNat else if -200 < i then e / 2 ^ (-i).toNat else 0

/-- 10 to the power of a level in dB ÷ 20, with 60 fraction bits. -/
def gainFix (g : Int) : Nat := exp2Fix (g * 191496116867664726 / 2 ^ 40)

/-- The part a one-pole with a time constant in µs keeps from sample to sample: e^(−1 ÷ (τ × rate)), with 60 fraction bits. -/
def keepFix (tauUs hz : Nat) : Nat := exp2Fix (-(1663314137230540311 * 1000000 / max 1 (tauUs * hz) : Nat))

/-- A one-pole moved on towards a target. -/
def onePole (keep : Nat) (old target : Int) : Int := target + Int.tdiv ((old - target) * keep) (2 ^ 60)

/-- 20 log10 of |x| as a sample in dBFS, and 10 log10 of a mean square kept with 20 fraction bits; `none` for 0. -/
def peakDb (x : Int) : Option Int := if x = 0 then none else some ((log2Fix x.natAbs - 31 * 2 ^ 40) * 6619719610838 / 2 ^ 40)
def rmsDb (ms : Nat) : Option Int := if ms = 0 then none else some ((log2Fix ms - 82 * 2 ^ 40) * 6619719610838 / 2 ^ 41)

/-- The static reduction of a record at a level (R383). -/
def dynStatic (r : Nat) (level : Option Int) : Int :=
  let t := dbOf (sext 16 (bits r 111 96))
  let w := dbOf (bits r 143 128 : Nat)
  let range := dbOf (bits r 159 144 : Nat)
  let ratio : Int := (bits r 127 112 : Nat)
  -- the curve of a compressor with 1 ÷ R − 1 = −num ÷ den
  let curve (num den : Int) : Int :=
    match level with
    | none => 0
    | some l =>
      if 2 * (l - t) < -w then 0
      else if 2 * (l - t) ≤ w ∧ w ≠ 0 then -(num * ((l - t) * 2 + w) ^ 2 / (8 * w * den))
      else -(num * (l - t) / den)
  match bits r 2 0 with
  | 1 => curve (ratio - 256) ratio
  | 2 => curve 1 1
  | 3 =>
    match level with
    | none => if ratio = 256 then 0 else -range
    | some l => if l < t then max (-range) ((ratio - 256) * (l - t) / 256) else 0
  | 4 =>
    match level with
    | none => -range
    | some l => if l < t then -range else 0
  | _ => 0

/-- A sample at a processor's detector: the level, and the smoothed reduction and the mean square it leaves (R383). -/
def dynDetect (r hz : Nat) (st : Int × Nat) (x : Int) : Option Int × (Int × Nat) :=
  let ms := if bit r 3 then (onePole (keepFix 10000 hz) (st.2 : Int) ((x.natAbs * x.natAbs * 2 ^ 20 : Nat) : Int)).toNat else st.2
  let level := if bit r 3 then rmsDb ms else peakDb x
  let g := dynStatic r level
  let tau := if g < st.1 then bits r 191 160 else bits r 223 192
  (level, (onePole (keepFix tau hz) st.1 g, ms))

/-- The least and the greatest magnitude within 0.1 dB of a delayed sample times MAKEUP and the reduction, held just above the sample range. -/
def dynRange (r : Nat) (g d : Int) : Nat × Nat :=
  let m := d.natAbs * (sext 32 (bits r 255 224)).natAbs
  let tol := dbUnit * 1001 / 10000
  let top := 2 ^ 31 + 1
  (min top (m * gainFix (g - tol) / 2 ^ 88), min top (if m = 0 then 0 else m * gainFix (g + tol) / 2 ^ 88 + 1))

end Sys2Proof.Machine
end

