-- ==== Sys2Proof/Machine/Net.lean ====
section
/-!
DEFINITION. Net: what the Icvik link shares with other parts: register places, node numbers, routes, and messages to other nodes
(Icvik link and multi-device pods).
-/
namespace Sys2Proof.Machine

/-- Registers of port p, reference r, export e and import i (R646). -/
def icvPort (p off : Nat) : Nat := 0x05001000 + p * 0x40 + off
def podRef (r off : Nat) : Nat := 0x05002000 + r * 0x20 + off
def expReg (e off : Nat) : Nat := 0x05004000 + e * 0x10 + off
def impReg (i off : Nat) : Nat := 0x05006000 + i * 0x20 + off

/-- A port, and the state with a port changed. -/
def State.icv (s : State) (p : Nat) : PortSt := tget {} s.net.ports p
def State.mIcv (s : State) (p : Nat) (f : PortSt → PortSt) : State := s.mNet fun n => { n with ports := tmod {} n.ports p f }

/-- A node's entry, and the state with it changed. -/
def State.node (s : State) (n : Nat) : NodeSt := tget {} s.net.nodes n
def State.mNode (s : State) (n : Nat) (f : NodeSt → NodeSt) : State := s.mNet fun t => { t with nodes := tmod {} t.nodes n f }

/-- The device's node number: ICVIK_NODE.NODE, the one the root gave where AUTO is 1, otherwise 0 (R42, R630). -/
def State.myNode (s : State) : Nat :=
  if s.row.icvikPorts = 0 then 0 else if s.rb 0x05000004 31 then s.net.given.getD 0 else s.rf 0x05000004 11 0

/-- The other nodes that have joined (R634). -/
def State.joined (s : State) : List Nat := (s.net.nodes.filter fun c => c.2.info.state == 1).map (·.1)

/-- The nodes a node is linked to, lowest own port first: port and node. -/
def linked (es : List PortEdge) (n : Nat) : List (Nat × Nat) :=
  (List.range 4).flatMap fun p =>
    es.filterMap fun e => if e.a = n ∧ e.ap = p then some (p, e.b) else if e.b = n ∧ e.bp = p then some (p, e.a) else none

/-- Shortest routes, found level by level: node, first port, hops. On a tie the lower port number wins (R632). -/
def spread (es : List PortEdge) : Nat → List (Nat × Nat × Nat) → List (Nat × Nat × Nat) → List (Nat × Nat × Nat)
  | 0, seen, _ => seen
  | fuel + 1, seen, front =>
    let next := front.foldl (fun acc c =>
      (linked es c.1).foldl (fun acc m =>
        if (seen ++ acc).any (fun x => x.1 == m.2) then acc else acc ++ [(m.2, c.2.1, c.2.2 + 1)]) acc) []
    if next.isEmpty then seen else spread es fuel (seen ++ next) next

/-- The routes of this device: node, first port, hops (R632). -/
def State.routes (s : State) : List (Nat × Nat × Nat) :=
  let me := s.myNode
  let first := (linked s.net.edges me).foldl (fun acc m => if acc.any (fun x => x.1 == m.2) || m.2 == me then acc else acc ++ [(m.2, m.1, 1)]) []
  (spread s.net.edges 4096 ((me, 0, 0) :: first) first).drop 1

/-- The first port and the hops of the route to a node. -/
def State.routeTo (s : State) (n : Nat) : Option (Nat × Nat) := (s.routes.find? fun x => x.1 == n).map fun x => (x.2.1, x.2.2)

/-- A flit of a TYPE goes out of a port (R627, R628). -/
def State.flitOut (s : State) (p ty : Nat) : State :=
  s.mIcv p fun t => { t with txSeq := (t.txSeq + 1) % 2 ^ 16, unacked := t.unacked ++ [(t.txSeq, ty)] }

/-- A flit for a node goes out of the port its route starts with (R632). -/
def State.flitTo (s : State) (n ty : Nat) : State :=
  match s.routeTo n with
  | some (p, _) => s.flitOut p ty
  | none => s

/-- A CONTROL message is sent to a node and waits for its acknowledgement (R628). -/
def State.ctlSend (s : State) (dest : Nat) (m : CtlMsg) : State :=
  (s.flitTo dest 3).mNet fun n => { n with outs := n.outs ++ [⟨n.nextTag, dest, m, 0, s.now⟩], nextTag := n.nextTag + 1 }

/-- The enabled exports of a local channel: their destination nodes (R641). -/
def State.exportsOf (s : State) (idx : Nat) : List Nat :=
  (List.range 64).filterMap fun e =>
    let h := handleOf (s.rd (expReg e 0))
    if s.rb (expReg e 4) 31 && h.kind == kMem && h.index == idx then some (s.rf (expReg e 4) 11 0) else none

/-- An exported channel is gone: the nodes that import it are told (R644). -/
def State.exportGone (s : State) (idx : Nat) : State :=
  (s.exportsOf idx).foldl (fun s n => s.ctlSend n (.exportEnd (s.handleWord kMem idx))) s

/-! ### TSN MACs: what talkers share with them (R650, R651, R654) -/

/-- The registers of MAC m (R660), its state, and the state with it changed. -/
def tsnReg (m off : Nat) : Nat := 0x06000000 + m * 0x10000 + off
def State.mac (s : State) (m : Nat) : MacSt := tget {} s.net.macs m
def State.mMac (s : State) (m : Nat) (f : MacSt → MacSt) : State := s.mNet fun n => { n with macs := tmod {} n.macs m f }

/-- gPTP time of a MAC (R654). -/
def State.gptp (s : State) (m : Nat) : Nat := (s.now + s.rd64 (tsnReg m 0x40)) % 2 ^ 64

/-- The setup word of talker i (R403): its MAC, and its traffic class (R650). -/
def State.talkerCtrl (s : State) (i : Nat) : Nat := s.rd (0x03004808 + i * 0x20)
def State.talkerMac (s : State) (i : Nat) : Nat := bits (s.talkerCtrl i) 23 22
def State.talkerClass (s : State) (i : Nat) : Nat := if bit (s.talkerCtrl i) 27 then 2 else 3

/-- The VI a talker is granted to (R658). -/
def State.talkerVi (s : State) (i : Nat) : Option Nat := (List.range s.row.vis).find? fun v => bit (s.rd64 (viReg v 0x28)) i

/-- The talkers with a frame ready for a class of a MAC, in order of their numbers. -/
def State.talkersReady (s : State) (m c : Nat) : List Nat :=
  (List.range 64).filter fun i => s.talkerMac i == m && s.talkerClass i == c && !(tget [] s.audio.packets i).isEmpty

/-- The traffic class a transmit descriptor names (R656). -/
def descTc (d : Nat) : Nat := bits d 30 28

/-- The rate in force in Mb/s (R661). -/
def tsnRate (code : Nat) : Nat := match code with | 0 => 100 | 1 => 1000 | 2 => 2500 | 3 => 5000 | _ => 10000
def State.macRate (s : State) (m : Nat) : Nat := tsnRate (s.rf (tsnReg m 8) 30 28)

/-- The idle slope of traffic class 3 or 2 in kb/s, at most the port rate; 0 leaves the class unshaped (R651). -/
def State.idleSlope (s : State) (m c : Nat) : Nat := min (s.rf (tsnReg m (if c = 3 then 0x18 else 0x1C)) 17 0 * 64) (s.macRate m * 1000)

/-- Credit of a class after time `e`: it accrues while the gate is open and a frame waits or credit is negative; with none waiting it does
not stay above 0 (R651, IEEE 802.1Qav). -/
def creditAfter (idle e : Nat) (open_ busy : Bool) (c : Int) : Int :=
  let c := if open_ && (busy || c < 0) then c + (idle : Int) * e else c
  if busy then c else min c 0

/-- The credits of a MAC brought up to date. -/
def State.creditTick (s : State) (m : Nat) : State :=
  let t := s.mac m
  let e := s.now - t.creditAt
  let busy (c : Nat) : Bool := !(s.talkersReady m c).isEmpty || t.txq.any fun d => descTc d.2 == c && !t.done.contains d.1
  s.mMac m fun t =>
    { t with creditA := creditAfter (s.idleSlope m 3) e (bit t.gates 3) (busy 3) t.creditA,
             creditB := creditAfter (s.idleSlope m 2) e (bit t.gates 2) (busy 2) t.creditB, creditAt := s.now }

end Sys2Proof.Machine
end

