-- ==== Sys2Proof/Machine/Seedbank.lean ====
section
/-!
DEFINITION. Seedbank: the chunk allocator, memory chunk channels, frame stores, ECC and retirement, and the bandwidth classes
(Seedbank and external memory).
-/
namespace Sys2Proof.Machine

/-! ### Chunks -/

/-- Chunks of a memory in service, spare ones left out (R105). -/
def State.usable (s : State) (mem : Nat) : Nat :=
  if mem = 0 then
    (if s.stackUp 0 then s.stackChunks 0 - s.seed.sbSpares else 0) + (if s.stackUp 1 then s.stackChunks 1 - s.seed.sbSpares else 0)
  else s.lpChunks - s.seed.lpSpares * s.lpChannels

/-- Chunks of a memory in state FREE (R105). Every chunk that is listed holds another state. -/
def State.freeChunks (s : State) (mem : Nat) : Nat :=
  s.usable mem - s.seed.chunks.countP fun c => c.1 / 2 ^ 20 == mem && c.2.state != 0

/-- Free chunks of a Seedbank stack (R83). -/
def State.freeInStack (s : State) (k : Nat) : Nat :=
  if s.stackUp k then
    s.stackChunks k - s.seed.sbSpares - s.seed.chunks.countP fun c => c.1 / 2 ^ 20 == 0 && c.1 % 2 ^ 20 / 4096 == k && c.2.state != 0
  else 0

/-- The first `n` free chunks of a memory among `fuel` numbers from `i` on. Which free chunk is taken is the model's choice: the
lowest-numbered (log entry 11). -/
def pickChunks (s : State) (mem : Nat) : Nat → Nat → Nat → List Nat
  | 0, _, _ => []
  | _, _, 0 => []
  | fuel + 1, i, n + 1 => if s.chunkState mem i = 0 then i :: pickChunks s mem fuel (i + 1) n else pickChunks s mem fuel (i + 1) (n + 1)

/-- A chunk's state and owner set. -/
def State.setChunk (s : State) (mem i state owner : Nat) : State :=
  s.mSeed fun m => { m with chunks := tmod {} m.chunks (mem * 2 ^ 20 + i) fun c => { c with state := state, owner := owner } }

/-- Several chunks' state and owner set. -/
def State.setChunks (s : State) (mem state owner : Nat) : List Nat → State
  | [] => s
  | i :: r => (s.setChunk mem i state owner).setChunks mem state owner r

/-- A chunk filled with zeros (R74). The write of whole words clears poison marks (R87). -/
def State.zeroChunk (s : State) (mem i : Nat) : State :=
  let a := mem * 2 ^ 60 + i * 2 ^ 21
  let s := { s with mem := tcut s.mem a (a + 2 ^ 21) }
  s.mSeed fun m => { m with poison := tcut m.poison (a / 8) (a / 8 + 2 ^ 18) }

/-- Several chunks filled with zeros. -/
def State.zeroChunks (s : State) (mem : Nat) : List Nat → State
  | [] => s
  | i :: r => (s.zeroChunk mem i).zeroChunks mem r

/-- VI_CHUNKS of a VI: its count of chunks held in a memory moved up or down (R507). -/
def State.viChunks (s : State) (w mem n : Nat) (up : Bool) : State :=
  if w = pfWin then s
  else
    let (hi, lo) := if mem = 0 then (15, 0) else (31, 16)
    let v := s.rf (viReg w 0x18) hi lo
    s.wf (viReg w 0x18) hi lo (if up then v + n else v - n)

/-- Chunks taken for a function, counted against its grant (R485). -/
def State.countChunks (s : State) (w mem n : Nat) : State := (s.grantTake w (0x11 + mem) n).viChunks w mem n true

/-- Chunks given back by a function (R486). -/
def State.uncountChunks (s : State) (w mem n : Nat) : State := (s.viChunks w mem n false).grantGive w (0x11 + mem) n

/-! ### Memory chunk channels -/

/-- The fields of the parameter block of a memory chunk CREATE (R77), and whether one lies outside its range. -/
structure MemParams where
  daddr : Nat
  count : Nat
  mem : Nat
  readOnly : Bool
  bad : Bool
  deriving DecidableEq, Repr, Inhabited

/-- The parameter block read from its 16 bytes (R77). -/
def memParams (b : Bytes) : MemParams :=
  let n := leNat b
  let count := bits n 95 64
  let daddr := bits n 63 0
  { daddr := daddr, count := count, mem := bits n 103 96, readOnly := bit n 104,
    bad := bits n 127 112 != 0 || bits n 111 105 != 0 || 2 < bits n 103 96 || count == 0 || 4096 < count
      || bit daddr 63 || bits daddr 62 40 != 0 || bits daddr 20 0 != 0 }

/-- Whether a range of local chunks of a window overlaps a mapping, or the range of a memory chunk channel not yet mapped (R78). -/
def State.rangeMapped (s : State) (w first n : Nat) : Bool :=
  (List.range n).any (fun i => (tget {} s.seed.maps (w * 2 ^ 19 + first + i)).mapped)
  || s.seed.chans.any (fun c => s.owns w kMem c.1 && c.2.daddr / 2 ^ 21 < first + n && first < c.2.daddr / 2 ^ 21 + c.2.count)

/-- The memory a CREATE takes its chunks from (R77): MEM = 0x02 takes the Seedbank when COUNT fits the grant and the free chunks. -/
def State.chooseMem (s : State) (w : Nat) (p : MemParams) : Nat :=
  if p.mem = 2 then (if s.grantRoom w 0x11 p.count ∧ p.count ≤ s.freeChunks 0 then 0 else 1) else p.mem

/-- The checks of a memory chunk CREATE in the order of R78; an index that is not there comes last (R485). -/
def State.memCreateStatus (s : State) (w : Nat) (p : MemParams) : Status :=
  let mem := s.chooseMem w p
  firstFail [
    (p.bad, .badParam),
    (decide (2 ^ 40 < p.daddr + p.count * 2 ^ 21) || s.rangeMapped w (p.daddr / 2 ^ 21) p.count, .badGeometry),
    (!s.grantRoom w (0x11 + mem) p.count || decide (s.freeChunks mem < p.count), .noResource),
    ((s.pickIndex w kMem).isNone, .noResource)]

/-- CREATE of a memory chunk channel (R77, R78, R485): the chunks are taken and begin to be zeroed; CHANNEL_DONE waits for R79. -/
def execCreateMemoryChunk (dt w : Nat) (ext : Option Bytes) (s : State) : Host.Outcome State Fault Refusal :=
  let s := s.tick dt
  match s.ctlWaits w 1 kMem with
  | none => .next s
  | some e =>
    if e.paramLen ≠ 16 then .next (s.ctlDone w e .badParam 0)
    else
      match s.params w e ext with
      | (none, t) => .next (s.createFault t w e (s.pickIndex w kMem).isNone)
      | (some b, s) =>
        let p := memParams b
        match s.memCreateStatus w p with
        | .ok =>
          let mem := s.chooseMem w p
          let idx := (s.pickIndex w kMem).getD 0
          let chunks := pickChunks s mem (if mem = 0 then 8192 else s.lpChunks) 0 p.count
          let s := s.takeIndex w kMem idx (.creating e.tag)
          let s := s.setChunks mem 5 0 chunks
          let s := s.countChunks w mem p.count
          let s := s.mSeed fun m => { m with chans := tset {} m.chans idx ⟨p.daddr, p.count, mem, p.readOnly, chunks⟩ }
          .next (s.ctlBegin w)
        | st => .next (s.ctlDone w e st 0)

/-- Chunks mapped from a local chunk on (R79). -/
def State.mapChunks (s : State) (w mem : Nat) (ro : Bool) : Nat → List Nat → State
  | _, [] => s
  | at_, i :: r =>
    (s.mSeed fun m => { m with maps := tset {} m.maps (w * 2 ^ 19 + at_) ⟨true, mem, i, ro⟩ }).mapChunks w mem ro (at_ + 1) r

/-- Local chunks unmapped (R80). -/
def State.unmapChunks (s : State) (w first n : Nat) : State :=
  s.mSeed fun m => { m with maps := tcut m.maps (w * 2 ^ 19 + first) (w * 2 ^ 19 + first + n) }

/-- Zeroing of the chunks of a CREATE ends: they are mapped and CHANNEL_DONE is written (R74, R79). -/
def execChunkZeroDone (dt idx : Nat) (s : State) : Host.Outcome State Fault Refusal :=
  let s := s.tick dt
  match (s.chan kMem idx).phase with
  | .creating tag =>
    let w := (s.chan kMem idx).owner
    let c := tget {} s.seed.chans idx
    let s := s.zeroChunks c.mem c.chunks
    let s := s.setChunks c.mem (if w = pfWin then 3 else 2) (if w = pfWin then 0 else w) c.chunks
    let s := s.mapChunks w c.mem c.readOnly (c.daddr / 2 ^ 21) c.chunks
    let s := s.mPods fun p => { p with chans := tset {} p.chans (chanKey kMem idx) ⟨.live, w⟩ }
    .next ((s.ctlEnd w).channelDone w .ok (s.handleWord kMem idx) tag 1)
  | _ => .next s

/-- Compositions that run go on to read through the mappings of a range that is unmapped (R80, R193). -/
def State.compHold (s : State) (w first n : Nat) : State :=
  let gone := s.seed.maps.filter fun e => w * 2 ^ 19 + first ≤ e.1 && e.1 < w * 2 ^ 19 + first + n
  s.mDisplay fun d => { d with pipes := d.pipes.map fun q =>
    (q.1, { q.2 with comp := q.2.comp.map fun c =>
      if c.waiting || c.done then c else { c with held := gone.foldl (fun t e => tset {} t e.1 e.2) c.held } }) }

/-- Whether a composition that runs still reads a chunk of a memory through a mapping that was removed (R80, R193). -/
def State.compReads (s : State) (mem : Nat) (chunks : List Nat) : Bool :=
  s.display.pipes.any fun q =>
    match q.2.comp with
    | some c => !c.done && c.held.any fun e => e.2.mem == mem && chunks.contains e.2.chunk
    | none => false

/-- The part of an accepted DESTROY of a memory chunk channel that is done at once: the whole range is unmapped (R80), and imports of the
channel are lost (R644). -/
def State.memUnmap (s : State) (w idx : Nat) : State :=
  let c := tget {} s.seed.chans idx
  ((s.compHold w (c.daddr / 2 ^ 21) c.count).unmapChunks w (c.daddr / 2 ^ 21) c.count).exportGone idx

/-- Whether a page of one of the chunks is being retired: the retirement completes first (R93). -/
def State.retiringIn (s : State) (mem : Nat) (chunks : List Nat) : Bool :=
  s.seed.retiring.any fun r => r.mem == mem && chunks.contains (r.page / 512)

/-- The accesses translated before an unmapping have completed: the chunks are zeroed and freed, and the DESTROY completes (R80,
R62). While a page of them is being retired (R93), or a composition that began before still reads them (R193), this waits. -/
def execChunkUnmapDrainDone (dt idx : Nat) (s : State) : Host.Outcome State Fault Refusal :=
  let s := s.tick dt
  let c := tget {} s.seed.chans idx
  match (s.chan kMem idx).phase with
  | .draining tag =>
    if s.retiringIn c.mem c.chunks || s.compReads c.mem c.chunks then .next s
    else
      let w := (s.chan kMem idx).owner
      let h := (Handle.mk kMem ((s.gen kMem idx + 511) % 512) idx).word
      let s := (s.zeroChunks c.mem c.chunks).setChunks c.mem 0 0 c.chunks
      let s := s.uncountChunks w c.mem c.count
      let s := s.mSeed fun m => { m with chans := tset {} m.chans idx {} }
      let s := s.freeIndex kMem idx
      .next (s.channelDone w .ok h tag 2)
  | _ => .next s

/-- Chunks released by a VI reset, a frame store or a tile pool finish zeroing and are free again (R74). A chunk that a CREATE is
zeroing, or with a page being retired, is left (R79, R93). -/
def execZeroingDone (dt mem chunk : Nat) (s : State) : Host.Outcome State Fault Refusal :=
  let s := s.tick dt
  let held := s.seed.chans.any fun c => c.2.mem == mem && c.2.chunks.contains chunk
  if s.chunkState mem chunk = 5 ∧ ¬ held ∧ ¬ s.retiringIn mem [chunk] then .next ((s.zeroChunk mem chunk).setChunk mem chunk 0 0)
  else .next s

/-! ### Frame stores -/

/-- The stride of a frame-store buffer (R81). -/
def storeStride (hActive bpp : Nat) : Nat := cdiv (hActive * bpp) 256 * 256

/-- The chunks of one frame-store buffer (R81). -/
def storeChunks (hActive vActive bpp : Nat) : Nat := cdiv (storeStride hActive bpp * vActive) 2097152

/-- One buffer of `c` chunks placed in one stack: the one with more free chunks, stack 0 on a tie, the other if it fits only there
(R83). The chunks are zeroed before they are handed out (R74). -/
def State.placeBuffer (s : State) (pipe c : Nat) : Option (List Nat × State) :=
  let f0 := s.freeInStack 0
  let f1 := s.freeInStack 1
  let first := if f0 < f1 then 1 else 0
  let k := if c ≤ s.freeInStack first then some first else if c ≤ s.freeInStack (1 - first) then some (1 - first) else none
  match k with
  | none => none
  | some k =>
    let chunks := pickChunks s 0 4096 (k * 4096) c
    some (chunks, (s.zeroChunks 0 chunks).setChunks 0 1 pipe chunks)

/-- The buffers of a frame store, placed one at a time in buffer order (R83); `none` when one does not fit (R82). -/
def State.placeStore (s : State) (pipe c : Nat) : Nat → Option (List (List Nat) × State)
  | 0 => some ([], s)
  | b + 1 =>
    match s.placeBuffer pipe c with
    | none => none
    | some (chunks, s) =>
      match s.placeStore pipe c b with
      | none => none
      | some (rest, s) => some (chunks :: rest, s)

/-- The chunks of a frame store released: they enter ZEROING (R74, R84). -/
def State.releaseStore (s : State) : List (List Nat) → State
  | [] => s
  | b :: r => (s.setChunks 0 5 0 b).releaseStore r

/-! ### ECC, scrub and retirement -/

/-- The chunks of a memory the scrub walks: those in service; on-die SRAM, which is not chunked, in runs of 2 MiB (R89). -/
def State.scrubLength (s : State) (mem : Nat) : Nat :=
  match mem with
  | 0 => if s.stackUp 1 then 4096 + s.stackChunks 1 else s.stackChunks 0
  | 1 => s.lpChunks
  | _ => 48

/-- One error the scrub meets in the chunk: a byte offset in the chunk, and whether it is uncorrectable (R86). -/
def State.scrubError (s : State) (mem base : Nat) (e : Nat × Bool) : State :=
  let pa := mem * 2 ^ 60 + base + e.1 % 2 ^ 21 / 8 * 8
  if e.2 then s.ueFound pa 7 0xFFFF else s.ceFound pa

/-- The patrol scrub reads the next chunk of a memory (R86, R89 to R91). `errs` are the errors its reads meet. LPDDR is scrubbed only
with inline ECC on. -/
def execScrubChunk (dt mem : Nat) (errs : List (Nat × Bool)) (s : State) : Host.Outcome State Fault Refusal :=
  let s := s.tick dt
  let n := s.scrubLength mem
  if n = 0 ∨ (mem = 1 ∧ ¬ s.rb 0x00600008 30) then .next s
  else
    let pos := tget 0 s.seed.scrubPos mem % n
    let s := errs.foldl (fun s e => s.scrubError mem (pos * 2 ^ 21) e) s
    if pos + 1 < n then .next (s.mSeed fun m => { m with scrubPos := tset 0 m.scrubPos mem (pos + 1) })
    else
      let s := (s.mSeed fun m => { m with scrubPos := tset 0 m.scrubPos mem 0 }).incr 0x00600018
      .next (s.emitPf 0x2C .ok (mem * 2 ^ 28 + bits (s.rd 0x00600018) 27 0))

/-- The copy, the switch and the mirroring of a retirement end (R92 steps 2 to 4); the persistent settings hold the list of retired pages
(R95, R592). -/
def execPageRetired (dt mem page : Nat) (s : State) : Host.Outcome State Fault Refusal :=
  let s := s.tick dt
  match s.seed.retiring.find? fun r => r.mem == mem && r.page == page with
  | none => .next s
  | some r =>
    let s := s.mSeed fun m =>
      { m with retiring := m.retiring.filter (fun q => !(q.mem == mem && q.page == page)), retired := m.retired ++ [r],
               chunks := tmod {} m.chunks (mem * 2 ^ 20 + page / 512) fun c => { c with retired := min 31 (c.retired + 1) } }
    let s := (if mem = 0 then s.satf 0x0060001C 15 0 1 else s.satf 0x0060001C 31 16 1).psetChanged
    .next (s.emitPf 0x2A .ok (mem * 2 ^ 28 + page))

/-- DQS drift and ZQ tracking of a channel: the memory's contents and its traffic are unchanged (R97). -/
def execLpddrDriftTrack (dt ch : Nat) (s : State) : Host.Outcome State Fault Refusal :=
  let s := s.tick dt
  if ch < s.lpChannels then .next (s.mSeed fun m => { m with tracked := tset 0 m.tracked ch s.now }) else .next s

/-! ### Bandwidth classes -/

/-- Peak bytes of a memory in a window of 1 µs: 1,024 GB/s per stack, 512 for the half-populated one; LPDDR by its rate (R72, R96). -/
def State.peakBytes (s : State) (mem : Nat) : Nat :=
  if mem = 0 then
    (if s.stackUp 0 then s.stackChunks 0 * 250 else 0) + (if s.stackUp 1 then s.stackChunks 1 * 250 else 0)
  else
    let perCh := match s.rf 0x00600008 15 12 with | 0 => 25600 | 1 => 30000 | 2 => 34132 | _ => 38400
    s.lpChannels * perCh

/-- MEM_BW_CLASS of a class at a memory (R104). -/
def bwKey (mem c : Nat) : Nat := 0x00600040 + mem * 0x20 + c * 4

/-- The bytes left divided among classes with requests, in proportion to their weights, round by round: a class that asks for less
than its part gets what it asks for, and the rest is divided again (R100). Bytes left by rounding go one each to the first of the classes, by
precedence, since all of them still ask (R101). -/
def weigh : Nat → Nat → List (Nat × Nat × Nat) → List (Nat × Nat)
  | 0, _, _ => []
  | fuel + 1, left, cs =>
    let tw := cs.foldl (fun n c => n + c.2.2) 0
    if tw = 0 then [] else
      let sat := cs.filter fun c => c.2.1 ≤ left * c.2.2 / tw
      if sat = [] then
        let rest := left - cs.foldl (fun n c => n + left * c.2.2 / tw) 0
        (List.range cs.length).zip cs |>.map fun c => (c.2.1, left * c.2.2.2 / tw + b2n (decide (c.1 < rest)))
      else
        let used := sat.foldl (fun n c => n + c.2.1) 0
        sat.map (fun c => (c.1, c.2.1)) ++ weigh fuel (left - used) (cs.filter fun c => ¬ c.2.1 ≤ left * c.2.2 / tw)

/-- What each class receives of `peak` bytes: hard reservations first, by precedence; then the weighted classes; a class of weight 0
gets only what no other class asked for (R100, R101). -/
def bwDivide (peak : Nat) (hard weights want : List Nat) : List (Nat × Nat) :=
  let g0 := min (min (want.getD 0 0) (hard.getD 0 0 * 100)) peak
  let g1 := min (min (want.getD 1 0) (hard.getD 1 0 * 100)) (peak - g0)
  let left := peak - g0 - g1
  let cs := (List.range 6).map (· + 2) |>.filterMap fun c =>
    if want.getD c 0 = 0 ∨ weights.getD c 0 = 0 then none else some (c, want.getD c 0, weights.getD c 0)
  let given := weigh 7 left cs
  let used := given.foldl (fun n c => n + c.2) 0
  let zeros := (List.range 6).map (· + 2) |>.filter fun c => want.getD c 0 ≠ 0 ∧ weights.getD c 0 = 0
  let tail := zeros.foldl (fun (acc : Nat × List (Nat × Nat)) c =>
    let g := min (want.getD c 0) acc.1
    (acc.1 - g, acc.2 ++ [(c, g)])) (left - used, [])
  [(0, g0), (1, g1)] ++ given ++ tail.2

/-- A 1 µs arbitration window of a memory: `want` is what each class asks for in it, in bytes (R100, R101). -/
def execBwWindow (dt mem : Nat) (want : List Nat) (s : State) : Host.Outcome State Fault Refusal :=
  let s := s.tick dt
  let vals := (List.range 8).map fun c => s.rf (bwKey mem c) 15 0
  let got := bwDivide (s.peakBytes mem) vals vals want
  .next (s.mSeed fun m =>
    { m with granted := (List.range 8).foldl (fun t c =>
        tset 0 t (mem * 8 + c) (((got.find? fun g => g.1 == c).map (·.2)).getD 0)) m.granted })

/-- MEM_BW_RESERVED of a memory brought up to date (R104). -/
def State.bwTotal (s : State) (mem : Nat) : State :=
  s.wr (0x00600080 + mem * 4) (s.rf (bwKey mem 0) 15 0 + s.rf (bwKey mem 1) 15 0)

/-- Whether hard reservations of `total` 0.1 GB/s stay within 75 % of the peak in service (R103). -/
def State.bwFits (s : State) (mem total : Nat) : Bool := total * 100 * 4 ≤ s.peakBytes mem * 3

/-- A write of a class setting: class 1 is read-only; a hard reservation beyond 75 % fails with NO_RESOURCE and changes nothing;
weights above 255 are stored as 255 (R103, R105). -/
def execMemBwClassWrite (dt mem c : Nat) (v : Word) (s : State) : Host.Outcome State Fault Refusal :=
  let s := s.tick dt
  let v := bits v.toNat 15 0
  if c = 0 then
    if s.bwFits mem (v + s.rf (bwKey mem 1) 15 0) then .next ((s.wf (bwKey mem 0) 15 0 v).bwTotal mem) else .next s
  else if c = 1 then .next s
  else .next (s.wr (bwKey mem c) (min v 255))

/-- The SCANOUT need of a pipe in 0.1 GB/s, rounded up (R102). -/
def scanoutNeed (pixelHz bpp : Nat) : Nat := cdiv (pixelHz * bpp * 17) (16 * 100000000)

/-- A pipe's SCANOUT need set; class 1 at the Seedbank is the sum of the needs (R99, R102). -/
def State.setNeed (s : State) (pipe need : Nat) : State :=
  let s := s.mSeed fun m => { m with needs := tset 0 m.needs pipe need }
  let sum := s.seed.needs.foldl (fun n c => n + c.2) 0
  (s.wf (bwKey 0 1) 15 0 sum).bwTotal 0

end Sys2Proof.Machine
end

