-- ==== Sys2Proof/Machine/Audio.lean ====
section
/-!
DEFINITION. Audio: clock domains, the matrix, insert chains and effects, banks and swaps, ports, players and guest streams (Audio
routing and effects).
-/
namespace Sys2Proof.Machine

/-! ### Numbers (R371 to R373, R379) -/

/-- A sample or gain word as an integer, and back. -/
def s32 (v : Nat) : Int := sext 32 v
def w32 (i : Int) : Nat := tobits 32 i

/-- The sample range. -/
def satS (i : Int) : Int := clampI (-2147483648) 2147483647 i

/-- Arithmetic shift right. -/
def asr (i : Int) (n : Nat) : Int := i / (2 ^ n : Nat)

/-- A gain applied to a sample: round to nearest, ties upward (R379). -/
def gainMul (g x : Int) : Int := asr (g * x + 134217728) 28

/-- A code of `n` bits to a sample, and a sample to a code (R373). -/
def codeIn (n v : Nat) : Int := s32 (v % 2 ^ n * 2 ^ (32 - n))
def codeOut (n : Nat) (v : Int) : Nat :=
  if n = 32 then w32 v
  else tobits n (clampI (-(2 ^ (n - 1) : Nat)) ((2 ^ (n - 1) : Nat) - 1) (asr (v + (2 ^ (31 - n) : Nat)) (32 - n)))

/-- Rounding of p ÷ q to nearest, ties to even. -/
def rne (p q : Nat) : Nat :=
  let d := p / q
  let r := p % q
  if 2 * r < q then d else if q < 2 * r then d + 1 else d + d % 2

/-- binary32 to a sample (R373): NaN gives 0; otherwise x × 2^31 rounded, ties to even, and clamped. -/
def floatIn (v : Nat) : Int :=
  let e := bits v 30 23
  let m := bits v 22 0
  if e = 255 ∧ m ≠ 0 then 0
  else
    let mag : Nat :=
      if e = 255 then 2 ^ 40
      else if e = 0 then rne m (2 ^ 118)
      else if 158 < e then 2 ^ 40
      else if 119 ≤ e then (2 ^ 23 + m) * 2 ^ (e - 119)
      else rne (2 ^ 23 + m) (2 ^ (119 - e))
    satS (if bit v 31 then -(mag : Int) else (mag : Int))

/-- A sample to binary32: v ÷ 2^31 rounded to nearest, ties to even (R373). -/
def floatOut (v : Int) : Nat :=
  let m := v.natAbs
  if m = 0 then 0
  else
    let k := Nat.log2 m
    let (e, f) := if k ≤ 23 then (k, m * 2 ^ (23 - k)) else
      let r := rne m (2 ^ (k - 23))
      if r = 2 ^ 24 then (k + 1, 2 ^ 23) else (k, r)
    b2n (decide (v < 0)) * 2 ^ 31 + (e + 127 - 31) * 2 ^ 23 + (f - 2 ^ 23)

/-! ### Banks (R387, R401, R405) -/

/-- What a word of a bank holds at device reset (R401, R405). -/
def bankDefault (off : Nat) : Nat :=
  if 0x90000 ≤ off ∧ off < 0x98000 ∧ off % 0x20 = 0 then 0x40000000
  else if 0xA0000 ≤ off ∧ off < 0xA1000 then
    match off % 0x40 with
    | 0x1C => 0x10000000
    | 0x18 => 0x000186A0
    | 0x14 => 0x000003E8
    | 0x0C => 0x01000000
    | _ => 0
  else 0

/-- Whether an offset is a word of the bank layout. -/
def bankWord (off : Nat) : Bool :=
  off % 4 == 0 && (off < 0x80000 || (0x80000 ≤ off && off < 0x8C000) || (0x90000 ≤ off && off < 0x98000)
    || (0xA0000 ≤ off && off < 0xA1000) || (0xB0000 ≤ off && off < 0xB1000) || (0xC0000 ≤ off && off < 0xC0800))

/-- A word of a bank. -/
abbrev Bank := Tbl Nat
def bankGet (b : Bank) (off : Nat) : Nat := tget (bankDefault off) b off
def bankSet (b : Bank) (off v : Nat) : Bank := tset (bankDefault off) b off v

/-- A record of `n` words as one number. -/
def bankRec (b : Bank) (off : Nat) : Nat → Nat
  | 0 => 0
  | n + 1 => bankGet b off % 2 ^ 32 + 2 ^ 32 * bankRec b (off + 4) n

def nodeOff (i j : Nat) : Nat := j * 0x800 + i * 4
def slotOff (c k : Nat) : Nat := 0x80000 + c * 0x40 + k * 4
def biquadOff (b : Nat) : Nat := 0x90000 + b * 0x20
def dynOff (d : Nat) : Nat := 0xA0000 + d * 0x40
def delayOff (l : Nat) : Nat := 0xB0000 + l * 0x10
def playerOff (n : Nat) : Nat := 0xC0000 + n * 0x20

/-! ### Registers -/

def domReg (d off : Nat) : Nat := 0x03000040 + d * 0x20 + off
def tdmReg (p off : Nat) : Nat := 0x03000100 + p * 0x10 + off
def swrReg (m off : Nat) : Nat := 0x03000200 + m * 0x20 + off
def playerReg (n off : Nat) : Nat := 0x03002000 + n * 0x10 + off
def avtpRx (i off : Nat) : Nat := 0x03004000 + i * 0x20 + off
def avtpTx (i off : Nat) : Nat := 0x03004800 + i * 0x20 + off
def bankStatus : Nat := 0x03000014
def audioLock : Nat := 0x0300000C
def streamReg (w sl off : Nat) : Nat := win w + 0x20000 + sl * 0x10 + off

/-- The parts of the audio state. -/
def State.dom (s : State) (d : Nat) : DomSt := tget {} s.audio.doms d
def State.mDom (s : State) (d : Nat) (f : DomSt → DomSt) : State := s.mAudio fun a => { a with doms := tmod {} a.doms d f }
def State.player (s : State) (n : Nat) : PlayerSt := tget {} s.audio.players n
def State.mPlayer (s : State) (n : Nat) (f : PlayerSt → PlayerSt) : State := s.mAudio fun a => { a with players := tmod {} a.players n f }
def State.stream (s : State) (k : Nat) : StreamSt := tget {} s.audio.streams k
def State.mStream (s : State) (k : Nat) (f : StreamSt → StreamSt) : State := s.mAudio fun a => { a with streams := tmod {} a.streams k f }

/-- The swap state of AUDIO_BANK_STATUS (R404). -/
def State.swapState (s : State) : Nat := s.rf bankStatus 30 28

/-- Another world holds a claim on the audio matrix unit: the write is ignored and RESULT reads CLAIMED (R403). -/
def State.audioClaimed (s : State) (r : Req) : Bool :=
  match s.unitIndex 0x50 0 with
  | some u => s.claimBlocks u (s.reqSecure r)
  | none => false

/-- AUDIO_LOCK.RESULT. -/
def State.audioResult (s : State) (st : Status) : State := s.wf audioLock 22 16 st.code

/-! ### Maps (R378) -/

/-- The fields of a stream's parameter block (R397). -/
def stRing (p : Nat) : Nat := bits p 255 192
def stFrames (p : Nat) : Nat := bits p 191 160
def stPeriod (p : Nat) : Nat := bits p 159 144
def stSlot (p : Nat) : Nat := bits p 135 128
def stFormat (p : Nat) : Nat := bits p 15 12
def stChannels (p : Nat) : Nat := bits p 11 8
def stDomain (p : Nat) : Nat := bits p 0 0

/-- A run of matrix inputs or outputs that something serves: kind, unit, domain, first, count, owner (R404). -/
structure MapRun where
  kind : Nat
  unit : Nat
  dom : Nat
  first : Nat
  count : Nat
  vi : Nat := 0xFFFF
  deriving DecidableEq, Repr, Inhabited

/-- Channels of the peripherals attached to a SoundWire manager, in enumeration order: in and out (R395, R403). -/
def State.swrChannels (s : State) (m : Nat) : Nat × Nat :=
  (List.range 11).foldl (fun (a : Nat × Nat) k =>
    if s.rb (swrReg m 8) k then let c := tget (0, 0) s.audio.swr (m * 16 + k); (a.1 + c.1, a.2 + c.2) else a) (0, 0)

/-- The slots of a TDM port: I2S and left-justified use 2 (R394). -/
def tdmSlots (c : Nat) : Nat := if bits c 29 28 = 2 then bits c 26 22 + 1 else 2

/-- The runs of the guest streams of a kind. -/
def State.streamRuns (s : State) (kind : Nat) : List MapRun :=
  s.audio.streams.filterMap fun c =>
    if c.1 / 2 ^ 18 = kind then
      some ⟨4, stSlot c.2.params, stDomain c.2.params, c.2.base, stChannels c.2.params, (s.chan kind (c.1 % 2 ^ 18)).owner⟩
    else none

/-- The runs of inputs in the order TDM, SoundWire, AVTP, players, streams. A player's domain is 0 (log entry 34). -/
def State.inRuns (s : State) : List MapRun :=
  ((List.range 8).filterMap fun p =>
    let c := s.rd (tdmReg p 0)
    if bit c 31 && bit c 17 then some ⟨1, p, b2n (bit c 27), s.rf (tdmReg p 4) 9 0, tdmSlots c, 0xFFFF⟩ else none)
  ++ ((List.range 4).filterMap fun m =>
    let n := (s.swrChannels m).1
    if s.rb (swrReg m 0) 31 && n != 0 then some ⟨2, m, b2n (s.rb (swrReg m 0) 30), s.rf (swrReg m 4) 9 0, n, 0xFFFF⟩ else none)
  ++ ((List.range 64).filterMap fun i =>
    let c := s.rd (avtpRx i 8)
    if bit c 31 then some ⟨3, i, b2n (bit c 30), bits c 9 0, bits c 26 24 + 1, 0xFFFF⟩ else none)
  ++ ((List.range 64).filterMap fun n =>
    if s.rb (playerReg n 8) 31 then some ⟨5, n, 0, s.rf (playerReg n 8) 9 0, 1, 0xFFFF⟩ else none)
  ++ s.streamRuns kStreamIn

/-- The runs of outputs. -/
def State.outRuns (s : State) : List MapRun :=
  ((List.range 8).filterMap fun p =>
    let c := s.rd (tdmReg p 0)
    if bit c 31 && bit c 16 then some ⟨1, p, b2n (bit c 27), s.rf (tdmReg p 4) 24 16, tdmSlots c, 0xFFFF⟩ else none)
  ++ ((List.range 4).filterMap fun m =>
    let n := (s.swrChannels m).2
    if s.rb (swrReg m 0) 31 && n != 0 then some ⟨2, m, b2n (s.rb (swrReg m 0) 30), s.rf (swrReg m 4) 24 16, n, 0xFFFF⟩ else none)
  ++ ((List.range 64).filterMap fun i =>
    let c := s.rd (avtpTx i 8)
    if bit c 31 then some ⟨3, i, b2n (bit c 30), bits c 9 0, bits c 26 24 + 1, 0xFFFF⟩ else none)
  ++ s.streamRuns kStreamOut

/-- The run that holds a number. -/
def runOf (rs : List MapRun) (i : Nat) : Option MapRun := rs.find? fun r => r.first ≤ i && i < r.first + r.count

/-- AUDIO_IN_MAP or AUDIO_OUT_MAP of a number (R404). -/
def mapWord (rs : List MapRun) (i : Nat) : Nat :=
  match runOf rs i with
  | none => 0
  | some r => r.kind * 2 ^ 28 + r.dom * 2 ^ 27 + r.unit % 64 * 2 ^ 21 + (i - r.first) % 32 * 2 ^ 16 + r.vi

/-- Runs that overlap one another, and runs past the matrix. -/
def runsOverlap (rs : List MapRun) : Bool :=
  rs.any fun a => decide (1 < rs.countP fun b => a.first < b.first + b.count && b.first < a.first + a.count)
def runsPast (rs : List MapRun) (n : Nat) : Bool := rs.any fun r => n < r.first + r.count

/-- The rate code of a domain, its rate in Hz, and the output units of one output in it (R376). -/
def State.domRate (s : State) (d : Nat) : Nat := s.rf (domReg d 0) 29 26
def rateHz (code : Nat) : Nat := match code with | 0 => 44100 | 1 => 48000 | 2 => 88200 | 3 => 96000 | 4 => 176400 | _ => 192000
def State.outUnits (s : State) (d : Nat) : Nat := if 4 ≤ s.domRate d then 2 else 1

/-- Output units used by sinks in the domains that `on` holds of (R376). -/
def State.unitsUsed (s : State) (on : Nat → Bool) : Nat :=
  s.outRuns.foldl (fun n r => if on r.dom then n + r.count * s.outUnits r.dom else n) 0

/-- AUDIO_CAPACITY brought up to date. -/
def State.capacityShow (s : State) : State :=
  s.wr 0x03000008 (s.unitsUsed (fun d => (s.dom d).running) * 2 ^ 16 + s.row.audioOut)

/-- A write of a map: kept when it fits, otherwise ignored with AUDIO_LOCK.RESULT (R378). `t` is the state with the write made. -/
def State.mapCommit (s t : State) (bad : Bool) : State :=
  let st := byR19 [
    (bad || runsPast t.inRuns s.row.audioIn || runsPast t.outRuns s.row.audioOut, .badParam),
    (runsOverlap t.inRuns || runsOverlap t.outRuns || s.row.audioOut < t.unitsUsed (fun d => (t.dom d).running), .noResource)]
  match st with
  | .ok => t.capacityShow
  | st => s.audioResult st

/-- A TDM setup word with a reserved encoding, an option R394 does not support, or a clock beyond 49.152 MHz at its domain's rate. -/
def State.tdmBad (s : State) (c : Nat) : Bool :=
  let width := 16 + 8 * bits c 21 20
  let rate := rateHz (s.domRate (b2n (bit c 27)))
  bit c 31 && (bits c 29 28 == 3 || bits c 21 20 == 3 || bits c 19 18 == 3 || bits c 21 20 < bits c 19 18 || 49152000 < tdmSlots c * width * rate)

/-- A SoundWire setup word with a bus clock that R395 does not support: 2.4 MHz to 12.288 MHz, to 11.2896 MHz where the domain's rate is of the
44.1 kHz family. -/
def State.swrBad (s : State) (c : Nat) : Bool :=
  bit c 31 && (bits c 23 0 < 2400000 || (if s.domRate (b2n (bit c 30)) % 2 = 0 then 11289600 else 12288000) < bits c 23 0)

/-- An AVTP setup word with a reserved encoding. -/
def avtpBad (c : Nat) : Bool := bit c 31 && (bits c 29 28 == 3 || 1 < bits c 23 22)

/-- Which map register a key is: a TDM setup, an AVTP setup or another. -/
def State.mapBad (s : State) (k v : Nat) : Bool :=
  if 0x03000100 ≤ k ∧ k < 0x03000180 ∧ k % 16 = 0 then s.tdmBad v
  else if 0x03000200 ≤ k ∧ k < 0x03000280 ∧ k % 0x20 = 0 then s.swrBad v
  else if (0x03004000 ≤ k ∧ k < 0x03005000) ∧ k % 0x20 = 8 then avtpBad v
  else false

/-- A write of a port, AVTP or player map register (R378, R403). Every field is RWL: ignored once LOCK is 1 (R12). -/
def execAudioMapWrite (dt : Nat) (r : Req) (k : Nat) (v : Word) (s : State) : Host.Outcome State Fault Refusal :=
  let s := s.tick dt
  if s.audioClaimed r then .next (s.audioResult .claimed)
  else
    match keyRow k with
    | none => .next s
    | some (row, high) =>
      let t := s.wr k (accessWrite row high (s.rb audioLock 0) (s.rd k) v.toNat)
      .next (s.mapCommit t (s.mapBad k (t.rd k)))

/-! ### Domains (R374 to R377) -/

/-- Writes AUDIO_DOM_STATUS.RESULT. -/
def State.domResult (s : State) (d : Nat) (st : Status) : State := s.wf (domReg d 4) 22 16 st.code

/-- The status of an ENABLE with setup word `v` (R375 to R377). A port that is not a clock slave of the domain, or a listener that is
not enabled, counts as absent. -/
def State.domCheck (s : State) (d v : Nat) : Status :=
  let src := bits v 25 24
  let i := bits v 5 0
  let t := s.wr (domReg d 0) v
  byR19 [
    (5 < bits v 29 26 || src == 3, .badParam),
    ((src == 1 && (8 ≤ i || !s.rb (tdmReg i 0) 31 || s.rb (tdmReg i 0) 30 || b2n (s.rb (tdmReg i 0) 27) != d))
      || (src == 2 && (!s.rb (avtpRx i 8) 31 || b2n (s.rb (avtpRx i 8) 30) != d)), .unsupported),
    (s.row.audioOut < t.unitsUsed (fun e => e == d || (s.dom e).running), .noResource)]

/-- ENABLE = 1 checks and starts a domain (R377); one that fails has no effect but RESULT (R20); started while a swap waits for the others, it takes the new bank at its start (R389). -/
def execAudioDomainEnable (dt : Nat) (r : Req) (d : Nat) (v : Word) (s : State) : Host.Outcome State Fault Refusal :=
  let s := s.tick dt
  let v := v.toNat &&& 0xBF00003F
  if s.audioClaimed r then .next (s.audioResult .claimed)
  else if !bit v 31 || s.rb (domReg d 0) 31 then .next s
  else
    match s.domCheck d v with
    | .ok =>
      let s := (s.wr (domReg d 0) v).mDom d fun m => { m with running := true, stopping := false, fresh := true, changed := decide (2 ≤ s.swapState), k := if 2 ≤ s.swapState then s.audio.soft else 0, fxNew := none }
      let s := (s.wf (domReg d 4) 31 29 (if bits v 25 24 = 0 then 6 else 4)).domResult d .ok
      .next s.capacityShow
    | st => .next (s.domResult d st)

/-- ENABLE = 0: the domain stops at its next sample boundary; its other fields stay (R377). -/
def execAudioDomainDisable (dt : Nat) (r : Req) (d : Nat) (v : Word) (s : State) : Host.Outcome State Fault Refusal :=
  let s := s.tick dt
  if s.audioClaimed r then .next (s.audioResult .claimed)
  else if bit v.toNat 31 || !s.rb (domReg d 0) 31 then .next s
  else
    let s := if v.toNat &&& 0x3F00003F = s.rd (domReg d 0) &&& 0x3F00003F then s else s.domResult d .badState
    .next ((s.wb (domReg d 0) 31 false).mDom d fun m => { m with stopping := true })

/-- A write of RATE, SRC or SRC_INDEX: stored while ENABLE is 0, ignored with BAD_STATE while it is 1 (R377). -/
def execAudioDomCtrlWrite (dt : Nat) (r : Req) (d : Nat) (v : Word) (s : State) : Host.Outcome State Fault Refusal :=
  let s := s.tick dt
  let fields := v.toNat &&& 0x3F00003F
  if s.audioClaimed r then .next (s.audioResult .claimed)
  else if s.rb (domReg d 0) 31 then
    if bit v.toNat 31 && fields != (s.rd (domReg d 0) &&& 0x3F00003F) then .next (s.domResult d .badState) else .next s
  else if bit v.toNat 31 then .next s
  else .next (s.wr (domReg d 0) fields)

/-- The DOMAIN_LOCK event (R375, R406). -/
def State.domLockEvent (s : State) (d : Nat) (locked : Bool) : State :=
  s.emitPf 0x77 .ok (d * 2 ^ 24 + b2n locked * 2 ^ 16 + s.rf (domReg d 4) 15 0)

/-- A domain's TDM or AVTP source is lost or beyond ±500 ppm: holdover at the last frequency (R375). -/
def execAudioSourceLost (dt d : Nat) (s : State) : Host.Outcome State Fault Refusal :=
  let s := s.tick dt
  if (s.dom d).running ∧ s.rf (domReg d 0) 25 24 ≠ 0 ∧ ¬ s.rb (domReg d 4) 29 then
    .next (((s.wb (domReg d 4) 30 false).wb (domReg d 4) 29 true).domLockEvent d false)
  else .next s

/-- A domain's source has been valid for 100 ms: LOCKED, out of holdover (R375). -/
def execDomainLock (dt d : Nat) (ppm : Word) (s : State) : Host.Outcome State Fault Refusal :=
  let s := s.tick dt
  if (s.dom d).running ∧ s.rf (domReg d 0) 25 24 ≠ 0 ∧ ¬ s.rb (domReg d 4) 30 then
    let s := s.wf (domReg d 4) 15 0 ppm.toNat
    .next (((s.wb (domReg d 4) 30 true).wb (domReg d 4) 29 false).domLockEvent d true)
  else .next s

/-! ### Effects and chains (R381 to R384) -/

/-- A biquad section (R382): output, new state, saturated. -/
def biquadStep (rec_ : Nat) (h : Nat × Nat × Nat × Nat) (x : Int) : Int × (Nat × Nat × Nat × Nat) × Bool :=
  if bit rec_ 160 then (x, (0, 0, 0, 0), false)
  else
    let c (lo : Nat) : Int := s32 (bits rec_ (lo + 31) lo)
    let acc := c 0 * x + c 32 * s32 h.1 + c 64 * s32 h.2.1 - c 96 * s32 h.2.2.1 - c 128 * s32 h.2.2.2
    let r := asr (acc + 536870912) 30
    let y := satS r
    (y, (w32 x, h.1, w32 y, h.2.2.1), y != r)

/-- A sample fed to a history, and the sample `n` before it (R383, R384). -/
def histFeed (fx : FxSt) (key depth n : Nat) (x : Int) : Int × FxSt :=
  let l := w32 x :: tget [] fx.fed key
  (s32 (l.getD n 0), { fx with fed := tset [] fx.fed key (l.take depth) })

/-- A dynamics processor (R383) at a sample `x`, with the delayed sample `d`: output, its state after, saturated. Off and settled it applies MAKEUP
alone; otherwise its output is a free value within 0.1 dB of the model, and any sample for a level at or below −100 dBFS (log entry 35). A
processor of a link group applies the largest reduction of the group, `group`, or its own where that is larger. -/
def State.dynStep (s : State) (rec_ hz : Nat) (group : Int) (st : Int × Nat) (x d : Int) : Int × (Int × Nat) × Bool × State :=
  let (level, st) := dynDetect rec_ hz st x
  let red := if bits rec_ 15 12 = 0 then st.1 else min group st.1
  if bits rec_ 2 0 = 0 ∧ red = 0 then
    let r := gainMul (s32 (bits rec_ 255 224)) d
    (satS r, st, satS r != r, s)
  else
    let (w, s) := s.freeWord
    if (match level with | some l => decide (-100 * dbUnit < l) | none => false) then
      let (lo, hi) := dynRange rec_ red d
      let mag : Int := (lo + w.toNat % (hi + 1 - lo) : Nat)
      let r := if s32 (bits rec_ 255 224) * d < 0 then -mag else mag
      (satS r, st, satS r != r, s)
    else (s32 w.toNat, st, false, s)

/-- One slot of a chain (R381) at a sample rate in Hz, with the reductions of the link groups: output and state. -/
def State.slotStep (s : State) (hz : Nat) (link : Tbl Int) (b : Bank) (fx : FxSt) (slot : Nat) (x : Int) : Int × FxSt × State :=
  let i := bits slot 9 0
  match bits slot 15 14 with
  | 1 =>
    let (y, h, sat) := biquadStep (bankRec b (biquadOff i) 8) (tget (0, 0, 0, 0) fx.biquads i) x
    (y, { fx with biquads := tset (0, 0, 0, 0) fx.biquads i h }, if sat then s.rcCount 0x03000024 1 else s)
  | 2 =>
    let rec_ := bankRec b (dynOff i) 16
    let (d, fx) := histFeed fx (256 + i) 97 (bits rec_ 23 16) x
    let (y, st, sat, s) := s.dynStep rec_ hz (tget 0 link (bits rec_ 15 12)) (tget (0, 0) fx.dyns i) x d
    (y, { fx with dyns := tset (0, 0) fx.dyns i st }, if sat then s.rcCount 0x03000024 1 else s)
  | 3 =>
    let n := if s.audio.delayMem.isSome then bankGet b (delayOff i) % 65536 else 0
    let (d, fx) := histFeed fx i 48001 n x
    (d, fx, s)
  | _ => (x, fx, s)

/-- A chain of 16 slots, slot 0 first (R381). -/
def State.chainStep (s : State) (hz : Nat) (link : Tbl Int) (b : Bank) (fx : FxSt) (c : Nat) (x : Int) : Int × FxSt × State :=
  (List.range 16).foldl (fun (a : Int × FxSt × State) k => a.2.2.slotStep hz link b a.2.1 (bankGet b (slotOff c k)) a.1) (x, fx, s)

/-- Chains run over numbered samples, in order. -/
def State.chains (s : State) (hz : Nat) (link : Tbl Int) (b : Bank) (fx : FxSt) (off : Nat) : List (Nat × Int) → List (Nat × Int) × FxSt × State
  | [] => ([], fx, s)
  | (i, x) :: r =>
    let (y, fx, s) := s.chainStep hz link b fx (off + i) x
    let (ys, fx, s) := s.chains hz link b fx off r
    ((i, y) :: ys, fx, s)

/-- The sum of an output over the inputs of its domain (R379). -/
def matrixSum (b : Bank) (xs : List (Nat × Int)) (j : Nat) : Int :=
  xs.foldl (fun a x => a + gainMul (s32 (bankGet b (nodeOff x.1 j))) x.2) 0

/-- One sample of a domain with one bank and the reductions of its link groups. -/
def State.matrixPass (s : State) (hz : Nat) (link : Tbl Int) (b : Bank) (fx : FxSt) (xs : List (Nat × Int)) (outs : List Nat) :
    List (Nat × Int) × List Nat × FxSt × State :=
  let (ins, fx, s) := s.chains hz link b fx 0 xs
  let acc := outs.map fun j => (j, matrixSum b ins j)
  let sat := (acc.filter fun c => satS c.2 != c.2).map (·.1)
  let (ys, fx, s) := s.chains hz link b fx 512 (acc.map fun c => (c.1, satS c.2))
  (ys, sat, fx, s)

/-- The dynamics processors of a link group that stand in the chains of a bank over given inputs and outputs, with their groups (R383). -/
def linkMembers (b : Bank) (cs : List Nat) : List (Nat × Nat) :=
  (cs.flatMap fun c => (List.range 16).map fun k => bankGet b (slotOff c k)).filterMap fun slot =>
    let g := bits (bankRec b (dynOff (bits slot 9 0)) 16) 15 12
    if bits slot 15 14 = 2 ∧ g ≠ 0 then some (bits slot 9 0, g) else none

/-- One sample of a domain with one bank: each output's value after its output chain, the outputs whose matrix sum was clamped, the
effect states (R379, R381). Where processors are linked, a first pass finds the reduction each has at this sample, and the second applies the
largest of each group (R383; log entry 35). -/
def State.matrixStep (s : State) (hz : Nat) (b : Bank) (fx : FxSt) (xs : List (Nat × Int)) (outs : List Nat) :
    List (Nat × Int) × List Nat × FxSt × State :=
  let ms := linkMembers b (xs.map (·.1) ++ outs.map (512 + ·))
  if ms = [] then s.matrixPass hz [] b fx xs outs
  else
    let first := (s.matrixPass hz [] b fx xs outs).2.2.1
    let link := ms.foldl (fun t m => tset 0 t m.2 (min (tget 0 t m.2) (tget (0, 0) first.dyns m.1).1)) ([] : Tbl Int)
    s.matrixPass hz link b fx xs outs

/-- AUDIO_OUT_SAT counts a clamped output; the first since it was read writes OUTPUT_SATURATED (R380). -/
def State.satCount (s : State) (j : Nat) : State :=
  let k := 0x03001C00 + j * 4
  let first := s.rd k = 0
  let s := s.rcCount k 1
  if first then s.emitPf 0x76 .throttled j else s

/-- Peak and saturations of the outputs of a domain for the recorder, over each 1,024 samples (R664). -/
def State.audioNote (s : State) (n : Nat) (sat : List Nat) (ys : List (Nat × Int)) : State :=
  ys.foldl (fun s y =>
    let a := tget (0, 0) s.recs.audio y.1
    let a := (max a.1 (y.2.natAbs / 65536), if sat.contains y.1 then a.2 + 1 else a.2)
    if n % 1024 = 1023 then
      ((s.recValue 6 y.1 (a.1 : Nat)).recValue 7 y.1 (a.2 : Nat)).mRecs fun r => { r with audio := tset (0, 0) r.audio y.1 (0, 0) }
    else s.mRecs fun r => { r with audio := tset (0, 0) r.audio y.1 a }) s

/-! ### Sources (R385, R386, R396, R400) -/

/-- Whether a trigger is taken, and the player after it, at a boundary (R386). -/
def State.playerTake (s : State) (bank : Bank) (n : Nat) : State :=
  let p := s.player n
  let rec_ := bankRec bank (playerOff n) 8
  if !p.trig then s
  else
    let s := s.mPlayer n fun p => { p with trig := false }
    if p.bad || bits rec_ 191 160 = 0 || (p.playing && !bit rec_ 15) then s
    else
      let s := s.mPlayer n fun p =>
        { p with playing := true, frame := 0, left := bits rec_ 7 0, addr := bits rec_ 127 64, len := bits rec_ 191 160, wide := bits rec_ 11 8 == 1,
                 loops := bits rec_ 7 0 }
      s.wr (playerReg n 4) (2 ^ 30)

/-- The bytes of a frame of a play: the first 256 frames of a buffer come from the player's on-die cache, filled when its record came into
force (R385). -/
def State.playerBytes (s : State) (hosts : List HostRun) (p : PlayerSt) : Option Bytes × State :=
  let n := if p.wide then 4 else 2
  let cached := match p.cache with
    | some (a, len, wide, b) => if p.frame < 256 ∧ a = p.addr ∧ len = p.len ∧ wide = p.wide ∧ (p.frame + 1) * n ≤ b.length then some b else none
    | none => none
  match cached with
  | some b => (some ((b.drop (p.frame * n)).take n), s)
  | none => s.load pfWin 5 hosts (p.addr + p.frame * n) n

/-- The sample a player gives at a boundary, before its gain; it moves on, ends or faults (R385, R386). -/
def State.playerStep (s : State) (bank : Bank) (hosts : List HostRun) (n : Nat) : Int × State :=
  let s := s.playerTake bank n
  let p := s.player n
  if !p.playing then (0, s)
  else
    let bytes := if p.wide then 4 else 2
    match s.playerBytes hosts p with
    | (none, s) => (0, (s.mPlayer n fun p => { p with playing := false }).wr (playerReg n 4) (3 * 2 ^ 30))
    | (some b, s) =>
      let x := codeIn (8 * bytes) (leNat b)
      let s :=
        if p.frame + 1 < p.len then
          (s.mPlayer n fun p => { p with frame := p.frame + 1 }).wr (playerReg n 4) (2 ^ 30 + p.frame + 1)
        else if p.loops ≠ 0 ∧ p.left ≤ 1 then (s.mPlayer n fun p => { p with playing := false }).wr (playerReg n 4) 0
        else (s.mPlayer n fun p => { p with frame := 0, left := p.left - 1 }).wr (playerReg n 4) (2 ^ 30)
      (x, s)

/-- The gain of a bank applied to the samples of the players (R385). -/
def playerGain (bank : Bank) (rs : List MapRun) (xs : List (Nat × Int)) : List (Nat × Int) :=
  xs.map fun x =>
    match runOf rs x.1 with
    | some r => if r.kind = 5 then (x.1, satS (gainMul (s32 (bits (bankRec bank (playerOff r.unit) 8) 223 192)) x.2)) else x
    | none => x

/-- The sample bytes of a stream format, a code to a sample and a sample to a code (R373, R397). -/
def fmtSize (f : Nat) : Nat := if f = 0 then 2 else 4
def fmtToSample (f v : Nat) : Int := if f = 0 then codeIn 16 v else if f = 1 then codeIn 32 v else floatIn v
def fmtFromSample (f : Nat) (v : Int) : Nat := if f = 0 then codeOut 16 v else if f = 1 then codeOut 32 v else floatOut v

/-- The owner's window and handle of a stream. -/
def State.streamOwner (s : State) (k : Nat) : Nat := (s.chan (k / 2 ^ 18) (k % 2 ^ 18)).owner
def State.streamHandle (s : State) (k : Nat) : Nat := s.handleWord (k / 2 ^ 18) (k % 2 ^ 18)
def State.streamAt (s : State) (k off : Nat) : Nat := streamReg (s.streamOwner k) (stSlot (s.stream k).params) off

/-- An event of a stream with STREAM_HW (R400, R406). -/
def State.streamEvent (s : State) (k kind : Nat) (st : Status) : State :=
  s.emit (s.streamOwner k) kind st (s.streamHandle k) (s.rd (s.streamAt k 8))

/-- STREAM_HW moves on by a frame; PERIOD events (R400). -/
def State.streamNext (s : State) (k : Nat) : State :=
  let s := s.incr (s.streamAt k 8)
  if s.rb (s.streamAt k 0) 30 ∧ s.rd (s.streamAt k 8) % stPeriod (s.stream k).params = 0 then s.streamEvent k 0x73 .ok else s

/-- XRUN: set, with one event for each run of it (R400). -/
def State.streamXrun (s : State) (k : Nat) : State :=
  let first := !(s.stream k).xrun
  let s := (s.raise (s.streamAt k 12) 0).mStream k fun t => { t with xrun := true }
  if first then s.streamEvent k 0x72 .late else s

/-- A ring access faulted: RUN clears, FAULT is set, the event is written (R400). -/
def State.streamFault (s : State) (k : Nat) : State :=
  ((((s.wb (s.streamAt k 0) 31 false).wb (s.streamAt k 12) 31 false).raise (s.streamAt k 12) 1)).streamEvent k 0x74 .fault

/-- Whether a stream moves samples at this boundary: RUN, live, its owner not held by a freeze (R400, R495), its first frame due. -/
def State.streamRuns? (s : State) (k : Nat) : Bool :=
  s.rb (s.streamAt k 0) 31 && (s.chan (k / 2 ^ 18) (k % 2 ^ 18)).phase == .live && !s.viHeld (s.streamOwner k) && (s.stream k).wait == 0

/-- A boundary at which a stream moves no sample: only a stream that runs, and is not held, counts down to its first frame (R400). -/
def State.streamWait (s : State) (k : Nat) : State :=
  if s.rb (s.streamAt k 0) 31 && (s.chan (k / 2 ^ 18) (k % 2 ^ 18)).phase == .live && !s.viHeld (s.streamOwner k) then
    s.mStream k fun t => { t with wait := t.wait - 1 }
  else s

/-- The address of frame n of a stream (R399). -/
def streamAddr (p n : Nat) : Nat := stRing p + n % stFrames p * stChannels p * fmtSize (stFormat p)

/-- The samples a stream in presents at a boundary, channel by channel (R400). -/
def State.streamIn (s : State) (hosts : List HostRun) (k : Nat) : List Int × State :=
  let p := (s.stream k).params
  let zero := List.replicate (stChannels p) (0 : Int)
  if !s.streamRuns? k then (zero, s.streamWait k)
  else
    let n := s.rd (s.streamAt k 8)
    let d := (s.rd (s.streamAt k 4) + 2 ^ 32 - n) % 2 ^ 32
    if d = 0 ∨ 2 ^ 31 ≤ d then (zero, (s.streamXrun k).streamNext k)
    else
      let size := fmtSize (stFormat p)
      match s.load (s.streamOwner k) 5 hosts (streamAddr p n) (stChannels p * size) with
      | (none, s) => (zero, s.streamFault k)
      | (some b, s) =>
        let xs := (List.range (stChannels p)).map fun c => fmtToSample (stFormat p) (leNat ((b.drop (c * size)).take size))
        (xs, (s.mStream k fun t => { t with xrun := false }).streamNext k)

/-- A frame a stream out writes at a boundary (R400). -/
def State.streamOut (s : State) (k : Nat) (ys : List Int) : State :=
  let p := (s.stream k).params
  if !s.streamRuns? k then s.streamWait k
  else
    let n := s.rd (s.streamAt k 8)
    let size := fmtSize (stFormat p)
    let bs := ys.flatMap fun y => leBytes (fmtFromSample (stFormat p) y) size
    match s.store (s.streamOwner k) 5 (streamAddr p n) bs with
    | (false, s) => s.streamFault k
    | (true, s) =>
      let s := s.streamNext k
      let d := (s.rd (s.streamAt k 8) + 2 ^ 32 - s.rd (s.streamAt k 4)) % 2 ^ 32
      if stFrames p < d ∧ d < 2 ^ 31 then s.streamXrun k else s.mStream k fun t => { t with xrun := false }

/-- The samples an AVTP listener presents at a boundary: the oldest whose presentation time has come (R396). -/
def State.avtpIn (s : State) (i n : Nat) : List Int × State :=
  match tget [] s.audio.rx i with
  | (t, xs) :: r =>
    if t ≤ s.now then (xs.map fun v => s32 v, s.mAudio fun a => { a with rx := tset [] a.rx i r }) else (List.replicate n 0, s)
  | [] => (List.replicate n 0, s)

/-- The bits of a code of a TDM port or an AVTP stream. -/
def wordBits (c : Nat) : Nat := 16 + 8 * c

/-- The port of a run is in service: a fault of one affects what it maps alone (R402). -/
def State.portServes (s : State) (r : MapRun) : Bool :=
  match r.kind with
  | 1 => s.unitUp 0x52 r.unit
  | 2 => s.unitUp 0x53 r.unit
  | _ => true

/-- The samples of a run of inputs at a boundary. `pins` gives the codes on the TDM and SoundWire inputs; a SoundWire code has 24
bits (log entry 36). A slave port whose frame clock is lost gives 0 (R394). -/
def State.runIn (s : State) (bank : Bank) (hosts : List HostRun) (pins : List (Nat × Word)) (r : MapRun) : List (Nat × Int) × State :=
  let codes (n : Nat) : List (Nat × Int) := (List.range r.count).map fun c =>
    (r.first + c, match pins.find? fun q => q.1 == r.first + c with | some q => codeIn n q.2.toNat | none => 0)
  let number (xs : List Int) : List (Nat × Int) := (List.range r.count).map fun c => (r.first + c, xs.getD c 0)
  if !s.portServes r then (number [], s)
  else
  match r.kind with
  | 1 =>
    if !s.rb (tdmReg r.unit 0) 30 && s.rb (tdmReg r.unit 8) 31 then (number [], s) else (codes (wordBits (s.rf (tdmReg r.unit 0) 19 18)), s)
  | 2 => (codes 24, s)
  | 3 => let (xs, s) := s.avtpIn r.unit r.count; (number xs, s)
  | 5 => let (x, s) := s.playerStep bank hosts r.unit; (number [x], s)
  | _ =>
    match s.audio.streams.find? fun c => c.1 / 2 ^ 18 == kStreamIn && c.2.base == r.first with
    | some c => let (xs, s) := s.streamIn hosts c.1; (number xs, s)
    | none => (number [], s)

/-- The samples of several runs. -/
def State.runsIn (s : State) (bank : Bank) (hosts : List HostRun) (pins : List (Nat × Word)) : List MapRun → List (Nat × Int) × State
  | [] => ([], s)
  | r :: rs =>
    let (x, s) := s.runIn bank hosts pins r
    let (y, s) := s.runsIn bank hosts pins rs
    (x ++ y, s)

/-! ### Sinks -/

/-- What a run of outputs is given: the code of its format, a captured frame of a talker, a frame of a stream out (R373, R396, R400). -/
def State.runOut (s : State) (ys : List (Nat × Int)) (r : MapRun) : State :=
  let v (c : Nat) : Int := ((ys.find? fun y => y.1 == r.first + c).map (·.2)).getD 0
  let all := (List.range r.count).map v
  if !s.portServes r then s.mAudio fun a => { a with out := tcut a.out r.first (r.first + r.count) }
  else
  let put (s : State) (f : Int → Nat) : State :=
    s.mAudio fun a => { a with out := (List.range r.count).foldl (fun t c => tset 0 t (r.first + c) (f (v c))) a.out }
  match r.kind with
  | 1 => put s (codeOut (wordBits (s.rf (tdmReg r.unit 0) 19 18)))
  | 2 => put s (codeOut 24)
  | 3 =>
    let n := wordBits (s.rf (avtpTx r.unit 8) 29 28)
    let s := put s (codeOut n)
    s.mAudio fun a =>
      let (t, fs) := tget (0, []) a.cap r.unit
      { a with cap := tset (0, []) a.cap r.unit (if fs = [] then s.now else t, fs ++ [all.map (codeOut n)]) }
  | _ =>
    match s.audio.streams.find? fun c => c.1 / 2 ^ 18 == kStreamOut && c.2.base == r.first with
    | some c => (put s w32).streamOut c.1 all
    | none => s

/-! ### Swaps (R388 to R391) -/

/-- Whether an input or output number serves anything, and its domain. -/
def runDom (rs : List MapRun) (i : Nat) : Option Nat := (runOf rs i).map (·.dom)

/-- The pool of effects of a slot kind. -/
def fxPool (kind : Nat) : Nat := match kind with | 1 => 1024 | 2 => 64 | _ => 256

/-- A dynamics record with a field outside its range or a reserved encoding (R405). -/
def dynBad (r : Nat) : Bool :=
  let rel := bits r 223 192
  let att := bits r 191 160
  let th := sext 16 (bits r 111 96)
  bits r 511 256 != 0 || bits r 95 24 != 0 || bits r 11 4 != 0 || rel < 1000 || 10000000 < rel || att < 10 || 1000000 < att
  || 0x8000 < bits r 159 144 || 0x1800 < bits r 143 128 || bits r 127 112 < 0x100 || 0x4000 < bits r 127 112
  || th < -32768 || 0 < th || 96 < bits r 23 16 || 4 < bits r 2 0

/-- A player record with a field outside its range (R405). -/
def playerBad (r : Nat) : Bool :=
  16777216 < bits r 191 160 || bits r 159 128 != 0 || bits r 63 17 != 0 || bits r 14 12 != 0 || 1 < bits r 11 8 || bits r 71 64 != 0
  || bit r 127 || bits r 126 104 != 0

/-- An effect stands in a slot of a chain before this one (R381). -/
def slotTaken (b : Bank) (off slot : Nat) : Bool :=
  b.any fun e => 0x80000 ≤ e.1 && e.1 / 0x40 < off / 0x40 && e.2 == slot

/-- What is wrong with a word of the shadow bank, as the DETAIL of SWAP_FAILED (R388, R406). A word that holds its reset value is in
order, since empty chains, zero nodes and reset records are. -/
def State.bankBad (s : State) (b : Bank) (off v : Nat) : Option Nat :=
  if off < 0x80000 then
    let i := off % 0x800 / 4
    let j := off / 0x800
    match runDom s.inRuns i, runDom s.outRuns j with
    | some a, some c => if a = c then none else some (j * 512 + i)
    | _, _ => some (j * 512 + i)
  else if off < 0x90000 then
    let c := (off - 0x80000) / 0x40
    let serves := if c < 512 then (runOf s.inRuns c).isSome else (runOf s.outRuns (c - 512)).isSome
    if bits v 31 16 != 0 || bits v 13 10 != 0
      || (bits v 15 14 != 0 && (!serves || fxPool (bits v 15 14) ≤ bits v 9 0 || slotTaken b off v)) then some (2 ^ 28 + c) else none
  else if off < 0xA0000 then
    let i := (off - 0x90000) / 0x20
    if bits (bankRec b (biquadOff i) 8) 255 161 != 0 then some (2 * 2 ^ 28 + i) else none
  else if off < 0xB0000 then
    let i := (off - 0xA0000) / 0x40
    if dynBad (bankRec b (dynOff i) 16) then some (3 * 2 ^ 28 + i) else none
  else if off < 0xC0000 then
    let i := (off - 0xB0000) / 0x10
    let r := bankRec b (delayOff i) 4
    if bits r 127 16 != 0 || 48000 < bits r 15 0 then some (4 * 2 ^ 28 + i) else none
  else
    let i := (off - 0xC0000) / 0x20
    if playerBad (bankRec b (playerOff i) 8) then some (5 * 2 ^ 28 + i) else none

/-- The first failing item of the shadow bank. -/
def State.bankCheck (s : State) : Option Nat := s.audio.shadow.findSome? fun e => s.bankBad s.audio.shadow e.1 e.2

/-- AUDIO_SWAP.GO starts the check of the shadow bank (R388). -/
def execAudioSwapGo (dt : Nat) (r : Req) (v : Word) (s : State) : Host.Outcome State Fault Refusal :=
  let s := s.tick dt
  let s' := if s.audioClaimed r then s.audioResult .claimed else s
  if !bit v.toNat 31 then .next s'
  else
    match byR19 [(s.audioClaimed r, .claimed), (s.swapState != 0, .busy)] with
    | .ok =>
      let s := s.mAudio fun a => { a with soft := min 256 (bits v.toNat 8 0), doms := a.doms.map fun c => (c.1, { c.2 with changed := false, k := 0 }) }
      .next (s.wr bankStatus (b2n (s.rb bankStatus 31) * 2 ^ 31 + 2 ^ 28 + Status.pending.code * 2 ^ 16))
    | st => .next (s'.wf bankStatus 22 16 st.code)

/-- The domains that run. -/
def State.runningDoms (s : State) : List Nat := [0, 1].filter fun d => (s.dom d).running

/-- The swap moves on when every running domain has reached its changeover, then its crossfade's end (R389). -/
def State.swapAdvance (s : State) : State :=
  let ds := s.runningDoms
  let s := s.wf bankStatus 8 0 (ds.foldl (fun m d => max m (s.dom d).k) 0)
  let s := if s.swapState = 2 ∧ ds.all (fun d => (s.dom d).changed) then s.wf bankStatus 30 28 (if s.audio.soft = 0 ∨ ds = [] then 4 else 3) else s
  if s.swapState = 3 ∧ ds.all (fun d => (s.dom d).k == s.audio.soft) then (s.wf bankStatus 30 28 4).wf bankStatus 8 0 0 else s

/-- The first 256 frames of a player's new record go into its cache; a read that faults leaves none (R385). -/
def State.playerFill (s : State) (hosts : List HostRun) (n new : Nat) : State :=
  let wide := bits new 11 8 == 1
  let len := bits new 191 160
  if len = 0 then s.mPlayer n fun p => { p with cache := none }
  else
    let (b, s) := s.load pfWin 5 hosts (bits new 127 64) (min 256 len * (if wide then 4 else 2))
    s.mPlayer n fun p => { p with cache := b.map fun b => (bits new 127 64, len, wide, b) }

/-- A player's BAD, with its status register (R385). -/
def State.playerBad (s : State) (n : Nat) (bad : Bool) : State :=
  if bad then
    ((s.mPlayer n fun p => { p with bad := true, playing := false, trig := false }).wr (playerReg n 4) (2 * 2 ^ 30)).emitPf 0x78 .badCrc n
  else if (s.player n).bad then (s.mPlayer n fun p => { p with bad := false }).wr (playerReg n 4) 0
  else s

/-- A player record whose buffer is new is checked, its player reading BAD on a mismatch, and its first frames are cached (R385). -/
def State.playerCheck (s : State) (hosts : List HostRun) (n : Nat) : State :=
  let old := bankRec s.audio.active (playerOff n) 8
  let new := bankRec s.audio.shadow (playerOff n) 8
  let same := bits old 127 64 == bits new 127 64 && bits old 191 160 == bits new 191 160 && bits old 11 8 == bits new 11 8
    && bits old 255 224 == bits new 255 224
  if same then s
  else if !bit new 16 then (s.playerBad n false).playerFill hosts n new
  else
    let (got, s) := s.load pfWin 5 hosts (bits new 127 64) (bits new 191 160 * (if bits new 11 8 = 0 then 2 else 4))
    let ok := match got with | some b => crc32 b == bits new 255 224 | none => false
    (s.playerBad n !ok).playerFill hosts n new

/-- The check of the shadow bank ends (R388, R389): it fails and names its first failing item, or the changeover is armed. -/
def execSwapCheckDone (dt : Nat) (hosts : List HostRun) (s : State) : Host.Outcome State Fault Refusal :=
  let s := s.tickMem dt hosts
  if s.swapState ≠ 1 then .next s
  else
    match s.bankCheck with
    | some item => .next (((s.wf bankStatus 30 28 0).wf bankStatus 22 16 Status.badParam.code).emitPf 0x71 .badParam item)
    | none =>
      let s := (s.wf bankStatus 30 28 2).wf bankStatus 22 16 Status.ok.code
      .next ((List.range 64).foldl (fun s n => s.playerCheck hosts n) s).swapAdvance

/-- The new bank is copied to the shadow, STATE is IDLE, ACTIVE toggles (R391). -/
def execSwapDone (dt : Nat) (s : State) : Host.Outcome State Fault Refusal :=
  let s := s.tick dt
  if s.swapState ≠ 4 then .next s
  else
    let s := (s.mAudio fun a => { a with active := a.shadow, doms := a.doms.map fun c => (c.1, { c.2 with changed := false, k := 0 }) })
    let s := ((s.wf bankStatus 30 28 0).wb bankStatus 31 (!s.rb bankStatus 31)).incr 0x03000018
    .next (s.emitPf 0x70 .ok (s.rd 0x03000018 % 2 ^ 16))

/-- A write of a word of the shadow bank: ignored, with IGNORED, while STATE is not IDLE (R391). -/
def State.bankWrite (s : State) (off v : Nat) : State :=
  if !bankWord off then s
  else if s.swapState ≠ 0 then s.wb bankStatus 27 true
  else s.mAudio fun a => { a with shadow := bankSet a.shadow off v }

/-! ### The sample boundary (R379 to R391) -/

/-- A run's nodes and chains zeroed in a bank (R397, R398). -/
def bankZero (b : Bank) (isIn : Bool) (first n : Nat) : Bank :=
  b.filter fun e =>
    !(if e.1 < 0x80000 then (if isIn then first ≤ e.1 % 0x800 / 4 && e.1 % 0x800 / 4 < first + n else first ≤ e.1 / 0x800 && e.1 / 0x800 < first + n)
      else if e.1 < 0x90000 then
        let c := (e.1 - 0x80000) / 0x40
        let f := if isIn then first else 512 + first
        f ≤ c && c < f + n
      else false)

/-- The runs of destroyed streams of a domain are zeroed in both banks (R398). -/
def State.zeroRuns (s : State) (d : Nat) : State :=
  s.mAudio fun a => (a.streams.filter fun c => c.2.zero && stDomain c.2.params == d).foldl (fun a c =>
    let f (b : Bank) : Bank := bankZero b (c.1 / 2 ^ 18 == kStreamIn) c.2.base (stChannels c.2.params)
    { a with active := f a.active, shadow := f a.shadow }) a

/-- The crossfade of an output (R390). -/
def fade (old new : Int) (k l : Nat) : Int := old + (new - old) * k / l

/-- One sample of a domain: inputs, chains, matrix, sinks, then the changeover of a swap (R379, R389, R390). -/
def State.sampleStep (s : State) (d : Nat) (hosts : List HostRun) (pins : List (Nat × Word)) : State :=
  let m := s.dom d
  let n := if m.fresh then 0 else s.rd64 (domReg d 8) + 1
  let s := (s.zeroRuns d).wr64 (domReg d 8) n
  let inRuns := s.inRuns.filter fun r => r.dom == d
  let (xs, s) := s.runsIn (if m.changed then s.audio.shadow else s.audio.active) hosts pins inRuns
  let outRuns := s.outRuns.filter fun r => r.dom == d
  let outs := outRuns.flatMap fun r => (List.range r.count).map (r.first + ·)
  let swapping := s.swapState == 2 || s.swapState == 3
  let fading := swapping && m.changed && m.k < s.audio.soft
  let bank := if m.changed && !fading then s.audio.shadow else s.audio.active
  let (ys, sat, fx, s) := s.matrixStep (rateHz (s.domRate d)) bank m.fx (playerGain bank inRuns xs) outs
  let k := if fading then m.k + 1 else m.k
  let (ys, sat, fx, fxNew, s) :=
    if fading then
      let (zs, sat', fx', s) := s.matrixStep (rateHz (s.domRate d)) s.audio.shadow (m.fxNew.getD m.fx) (playerGain s.audio.shadow inRuns xs) outs
      let both := ys.map fun y => (y.1, fade y.2 (((zs.find? fun z => z.1 == y.1).map (·.2)).getD 0) k s.audio.soft)
      if k = s.audio.soft then (both, sat ++ sat', fx', none, s) else (both, sat ++ sat', fx, some fx', s)
    else (ys, sat, fx, m.fxNew, s)
  let s := sat.eraseDups.foldl (fun s j => s.satCount j) s
  let s := outRuns.foldl (fun s r => s.runOut ys r) s
  let s := s.audioNote n sat ys
  let change := s.swapState == 2 && !m.changed
  let s := s.mDom d fun m => { m with fresh := false, fx := fx, fxNew := fxNew, k := k, changed := m.changed || change }
  let s := if change then s.wr64 (domReg d 16) n else s
  s.swapAdvance

/-- A domain stops at its boundary: its sinks output 0, effect states are kept (R377). -/
def State.domStop (s : State) (d : Nat) : State :=
  let s := s.mDom d fun m => { m with running := false, stopping := false, fresh := true, changed := false, k := 0, fx := m.fxNew.getD m.fx, fxNew := none }
  let s := (s.wf (domReg d 4) 31 29 0).mAudio fun a =>
    { a with out := (s.outRuns.filter fun r => r.dom == d).foldl (fun t r => tcut t r.first (r.first + r.count)) a.out }
  (s.capacityShow).swapAdvance

/-- The audio matrix unit is in service (R402). -/
def State.audioUp (s : State) : Bool :=
  match s.unitIndex 0x50 0 with
  | some u => (s.unit u).health ≤ 1 && !(s.unit u).resetBusy
  | none => false

/-- A sample boundary of a domain (R379). While the matrix unit is out of service every sink outputs 0 (R402). `pins` are the codes on its TDM and SoundWire inputs. -/
def execSampleBoundary (dt d : Nat) (pins : List (Nat × Word)) (hosts : List HostRun) (s : State) : Host.Outcome State Fault Refusal :=
  let s := s.tickMem dt hosts
  let m := s.dom d
  if !m.running then .next s
  else if m.stopping then .next ((s.zeroRuns d).domStop d)
  else if s.audioUp then .next (s.sampleStep d hosts pins)
  else .next (s.mAudio fun a => { a with out := [] })

/-! ### Path latency (R392, R393) -/

/-- Samples a slot adds. -/
def State.slotLatency (s : State) (b : Bank) (slot : Nat) : Nat :=
  match bits slot 15 14 with
  | 2 => bits (bankRec b (dynOff (bits slot 9 0)) 16) 23 16
  | 3 => if s.audio.delayMem.isSome then bankGet b (delayOff (bits slot 9 0)) % 65536 else 0
  | _ => 0

/-- Samples a chain adds. -/
def State.chainLatency (s : State) (b : Bank) (c : Nat) : Nat :=
  (List.range 16).foldl (fun n k => n + s.slotLatency b (bankGet b (slotOff c k))) 0

/-- Samples a source or sink adds (R392). -/
def edgeLatency (kind : Nat) : Nat := match kind with | 1 => 2 | 2 => 3 | _ => 1

/-- A write of AUDIO_PATH_SEL loads the latency of the path (R393). -/
def execAudioPathSelWrite (dt : Nat) (r : Req) (v : Word) (s : State) : Host.Outcome State Fault Refusal :=
  let s := s.tick dt
  if s.audioClaimed r then .next (s.audioResult .claimed)
  else
    let v := v.toNat &&& 0x01FF03FF
    let i := bits v 9 0
    let j := bits v 24 16
    let b := s.audio.active
    let s := s.wr 0x0300001C v
    match runOf s.inRuns i, runOf s.outRuns j with
    | some a, some c =>
      if i < 512 ∧ j < 256 ∧ bankGet b (nodeOff i j) ≠ 0 then
        let n := edgeLatency a.kind + s.chainLatency b i + 1 + s.chainLatency b (512 + j) + edgeLatency c.kind
        .next (s.wr 0x03000020 (2 ^ 31 + n % 2 ^ 20))
      else .next (s.wr 0x03000020 0)
    | _, _ => .next (s.wr 0x03000020 0)

/-! ### Players -/

/-- A trigger arrives at a player (R386): from PLAYER_CTRL, the reflex engine or the Pip lane. -/
def State.playerTrigger (s : State) (n : Nat) : State :=
  if (s.player n).bad then s else s.mPlayer n fun p => { p with trig := true }

/-- A player stopped. -/
def State.playerHalt (s : State) (n : Nat) : State :=
  let s := s.mPlayer n fun p => { p with playing := false, trig := false }
  if (s.player n).bad then s else s.wr (playerReg n 4) 0

/-- PLAYER_CTRL.TRIGGER (R386). -/
def execPlayerTrigger (dt : Nat) (r : Req) (n : Nat) (s : State) : Host.Outcome State Fault Refusal :=
  let s := s.tick dt
  if s.audioClaimed r then .next (s.audioResult .claimed) else .next (s.playerTrigger n)

/-- PLAYER_CTRL.STOP (R385). -/
def execPlayerStop (dt : Nat) (r : Req) (n : Nat) (s : State) : Host.Outcome State Fault Refusal :=
  let s := s.tick dt
  if s.audioClaimed r then .next (s.audioResult .claimed) else .next (s.playerHalt n)

/-! ### Guest streams (R397 to R400) -/

/-- The lowest run of `n` free numbers below `limit` (R397). -/
def freeRun (rs : List MapRun) (n limit : Nat) : Option Nat :=
  findFrom (fun i => (List.range n).all fun c => (runOf rs (i + c)).isNone) (limit + 1 - n) 0

/-- The wait for the swap is over (R397): the run is zeroed in the shadow bank, CHANNEL_DONE and STREAM_MAP follow. -/
def State.streamReady (s : State) (k tag : Nat) : State :=
  let kind := k / 2 ^ 18
  let i := k % 2 ^ 18
  let w := s.streamOwner k
  let t := s.stream k
  let isIn := kind == kStreamIn
  let s := s.mAudio fun a => { a with shadow := bankZero a.shadow isIn t.base (stChannels t.params) }
  let s := s.mStream k fun t => { t with waiting := false }
  let s := s.mPods fun p => { p with chans := tset {} p.chans (chanKey kind i) ⟨.live, w⟩ }
  let s := (s.ctlEnd w).channelDone w .ok (s.handleWord kind i) tag 1
  s.emit pfWin 0x75 .ok (s.handleWord kind i)
    (w % 2 ^ 16 * 2 ^ 16 + b2n (!isIn) * 2 ^ 15 + (stChannels t.params - 1) * 2 ^ 12 + stDomain t.params * 2 ^ 10 + t.base)

/-- CREATE of an audio stream (R376, R397). -/
def State.createStream (s : State) (w kind : Nat) (e : CtlEntry) (ext : Option Bytes) : State :=
  if e.paramLen ≠ 32 then s.ctlDone w e .badParam 0
  else
    match s.params w e ext with
    | (none, t) => s.createFault t w e (s.pickIndex w kind).isNone
    | (some b, s) =>
      let p := leNat b
      let isIn := kind == kStreamIn
      let taken := s.audio.streams.any fun c => s.streamOwner c.1 == w && stSlot c.2.params == stSlot p
      let run := freeRun (if isIn then s.inRuns else s.outRuns) (stChannels p) (if isIn then s.row.audioIn else s.row.audioOut)
      let st := byR19 [
        (taken, .badState),
        (bits p 143 136 != 0 || bits p 127 16 != 0 || bits p 7 1 != 0 || stRing p % 256 != 0 || stFrames p < 64 || 1048576 < stFrames p
          || stPeriod p < 16 || 4096 < stPeriod p || stFrames p < 2 * stPeriod p || 63 < stSlot p || 2 < stFormat p
          || stChannels p == 0 || 8 < stChannels p, .badParam),
        ((s.pickIndex w kind).isNone || run.isNone
          || (!isIn && (s.dom (stDomain p)).running
              && s.row.audioOut < s.unitsUsed (fun d => (s.dom d).running) + stChannels p * s.outUnits (stDomain p)), .noResource)]
      match st with
      | .ok =>
        let i := (s.pickIndex w kind).getD 0
        let k := chanKey kind i
        let s := s.takeIndex w kind i (.creating e.tag)
        let t : StreamSt := { params := p, base := run.getD 0, waiting := true }
        let s := ((s.mAudio fun a => { a with streams := tset {} a.streams k t }).capacityShow).ctlBegin w
        let s := s.wrs [(streamReg w (stSlot p) 0, 0), (streamReg w (stSlot p) 4, 0), (streamReg w (stSlot p) 8, 0), (streamReg w (stSlot p) 12, 0)]
        if s.swapState = 0 then s.streamReady k e.tag else s
      | st => s.ctlDone w e st 0

/-- CREATE of a guest stream in (R397). -/
def execCreateAudioStreamIn (dt w : Nat) (ext : Option Bytes) (s : State) : Host.Outcome State Fault Refusal :=
  let s := s.tick dt
  match s.ctlWaits w 1 kStreamIn with
  | none => .next s
  | some e => .next (s.createStream w kStreamIn e ext)

/-- CREATE of a guest stream out (R397). -/
def execCreateAudioStreamOut (dt w : Nat) (ext : Option Bytes) (s : State) : Host.Outcome State Fault Refusal :=
  let s := s.tick dt
  match s.ctlWaits w 1 kStreamOut with
  | none => .next s
  | some e => .next (s.createStream w kStreamOut e ext)

/-- A waiting stream CREATE goes on once STATE is IDLE (R397). -/
def execStreamCreateSwapIdle (dt k : Nat) (s : State) : Host.Outcome State Fault Refusal :=
  let s := s.tick dt
  if s.swapState ≠ 0 ∨ ¬ (s.stream k).waiting then .next s
  else
    match (s.chan (k / 2 ^ 18) (k % 2 ^ 18)).phase with
    | .creating tag => .next (s.streamReady k tag)
    | _ => .next s

/-- The stream with a slot of a window. -/
def State.streamBySlot (s : State) (w sl : Nat) : Option Nat :=
  (s.audio.streams.find? fun c => s.streamOwner c.1 == w && stSlot c.2.params == sl && (s.chan (c.1 / 2 ^ 18) (c.1 % 2 ^ 18)).phase == .live).map (·.1)

/-- A write of STREAM_CTRL (R399, R400): RUN = 1 starts fetching, and the first frame is presented PERIOD samples later. A slot that
holds no stream only keeps the fields; windows of VIs held or not in service ignore the write (R474, R494). -/
def execStreamRun (dt w sl : Nat) (v : Word) (s : State) : Host.Outcome State Fault Refusal :=
  let s := s.tick dt
  if s.winDead w ∨ s.viHeld w then .next s
  else
    let k0 := streamReg w sl 0
    let was := s.rb k0 31
    let s := s.wr k0 (v.toNat &&& 0xC0000000)
    match s.streamBySlot w sl with
    | none => .next (s.wb k0 31 false)
    | some k =>
      let run := bit v.toNat 31
      let s := s.wb (streamReg w sl 12) 31 run
      if run ∧ ¬ was then .next (s.mStream k fun t => { t with wait := stPeriod t.params, xrun := false }) else .next s

/-- An accepted DESTROY stops a stream at once; its run is zeroed at the next boundary of its domain (R398). -/
def State.streamStop (s : State) (k : Nat) : State :=
  let s := (s.wb (s.streamAt k 0) 31 false).wb (s.streamAt k 12) 31 false
  s.mStream k fun t => { t with zero := true }

/-- A destroyed stream has left: its run is free, with its nodes and chains zero in both banks (R398). -/
def State.streamGone (s : State) (k : Nat) : State :=
  let s := (s.mStream k fun t => { t with zero := true }).zeroRuns (stDomain (s.stream k).params)
  (s.mAudio fun a => { a with streams := tdel a.streams k }).capacityShow

/-- The block QUERY of a stream writes (R65). -/
def State.streamQuery (s : State) (k : Nat) : Bytes :=
  let p := (s.stream k).params
  leBytes (s.rd (s.streamAt k 8)) 4 ++ leBytes (s.rd (s.streamAt k 12)) 4 ++ leBytes (stDomain p * 256 + stSlot p) 4 ++ leBytes 0 4

/-! ### Ports (R394 to R396) -/

/-- A slave TDM port's frame clock is absent or off-rate (R394). -/
def execTdmClkLost (dt p : Nat) (s : State) : Host.Outcome State Fault Refusal :=
  let s := s.tick dt
  if s.rb (tdmReg p 0) 31 && !s.rb (tdmReg p 0) 30 then .next (s.wb (tdmReg p 8) 31 true) else .next s

/-- The frame clock returns at rate (R394). -/
def execTdmClkReturn (dt p : Nat) (s : State) : Host.Outcome State Fault Refusal :=
  let s := s.tick dt
  .next (s.wb (tdmReg p 8) 31 false)

/-- A write of SWR_CMD issues a register access, served between frames (R395). One made while another is served is dropped. -/
def execSwrCmd (dt : Nat) (r : Req) (m : Nat) (v : Word) (s : State) : Host.Outcome State Fault Refusal :=
  let s := s.tick dt
  if s.audioClaimed r then .next (s.audioResult .claimed)
  else if (tget none s.audio.swrBusy m).isSome then .next s
  else
    let s := s.mAudio fun a => { a with swrBusy := tset none a.swrBusy m (some (v.toNat &&& 0x8F00FFFF)) }
    .next (s.wf (swrReg m 8) 20 16 Status.pending.code)

/-- A SoundWire register access completes (R395): CMD_RESULT, and the byte of a read. A peripheral that is not attached does not
answer (TIMEOUT). -/
def execSwrCmdDone (dt m : Nat) (ok : Bool) (byte : Byte) (s : State) : Host.Outcome State Fault Refusal :=
  let s := s.tick dt
  match tget none s.audio.swrBusy m with
  | none => .next s
  | some c =>
    let there := bits c 27 24 < 11 && s.rb (swrReg m 8) (bits c 27 24)
    let s := s.mAudio fun a => { a with swrBusy := tset none a.swrBusy m none }
    let s := s.wf (swrReg m 8) 20 16 (if ok && there then Status.ok.code else Status.timeout.code)
    .next (if bit c 31 && ok && there then s.wr (swrReg m 16) byte.toNat else s)

/-- A SoundWire peripheral attaches to a manager's bus or detaches (R395); its channels join or leave the manager's map. -/
def execSwrPeripheralAttach (dt m k : Nat) (on : Bool) (chIn chOut : Nat) (s : State) : Host.Outcome State Fault Refusal :=
  let s := s.tick dt
  if on && !s.rb (swrReg m 0) 31 then .next s
  else
    let s := s.mAudio fun a => { a with swr := tset (0, 0) a.swr (m * 16 + k) (if on then (chIn, chOut) else (0, 0)) }
    .next ((s.wb (swrReg m 8) k on).capacityShow)

/-- A talker's class interval forms a packet from the frames captured since the last: its time is the capture time, in gPTP time of its
MAC, plus TRANSIT_NS (R396, R654). It carries the stream ID and source address of R658; while the link is down, and for a VI without
a MAC grant, no frame is sent (R658, R659). -/
def execAvtpTalkerInterval (dt i : Nat) (s : State) : Host.Outcome State Fault Refusal :=
  let s := s.tick dt
  let (t, fs) := tget (0, []) s.audio.cap i
  let m := s.talkerMac i
  let vi := s.talkerVi i
  let src := match vi with | some v => bits (s.rd64 (viReg v 0x20)) 47 0 | none => bits (s.rd64 (tsnReg m 0x10)) 47 0
  if !s.rb (avtpTx i 8) 31 || fs = [] then .next s
  else
    let s := s.mAudio fun a => { a with cap := tset (0, []) a.cap i (0, []) }
    if !s.rb (tsnReg m 8) 31 || (vi.isSome && src == 0) then .next s
    else
      let p : AvtpPkt := ⟨(t + s.rd64 (tsnReg m 0x40) + s.rd (avtpTx i 12)) % 2 ^ 64, fs, vi, src, s.rd64 (avtpTx i 0)⟩
      .next ((s.creditTick m).mAudio fun a => { a with packets := tset [] a.packets i (tget [] a.packets i ++ [p]) })

/-- A listener has no packet for 2 class intervals (R396): it outputs 0 and AVTP_STREAM is written. -/
def execAvtpStream (dt i : Nat) (s : State) : Host.Outcome State Fault Refusal :=
  let s := s.tick dt
  if s.rb (avtpRx i 8) 31 && s.rb (avtpRx i 12) 31 then
    let s := (s.wb (avtpRx i 12) 31 false).mAudio fun a => { a with rx := tset [] a.rx i [] }
    .next (s.emitPf 0x79 .ok i)
  else .next s

/-- A packet reaches a listener (R396): frames at `period` ns from a presentation time on. One whose presentation time has passed is
dropped and counted. -/
def State.avtpReceive (s : State) (i : Nat) (p : AvtpPkt) (period : Nat) : State :=
  if !s.rb (avtpRx i 8) 31 then s
  else if p.time < s.now then s.satf (avtpRx i 12) 30 0 1
  else
    let n := wordBits (s.rf (avtpRx i 8) 29 28)
    let fs := (List.range p.frames.length).map fun j => (p.time + j * period, (p.frames.getD j []).map fun v => w32 (codeIn n v))
    let s := s.mAudio fun a => { a with rx := tset [] a.rx i (tget [] a.rx i ++ fs) }
    if s.rb (avtpRx i 12) 31 then s else (s.wb (avtpRx i 12) 31 true).emitPf 0x79 .ok (2 ^ 16 + i)

/-! ### Start and failure (R401, R402) -/

/-- Delay memory is taken at start: 24 chunks of LPDDR, or of the Seedbank, in state MANAGER (R384). The answer is whether it was. -/
def State.takeDelay (s : State) : Bool × State :=
  let mem := if 24 ≤ s.freeChunks 1 then 1 else 0
  if s.freeChunks mem < 24 then (false, s)
  else
    let c := pickChunks s mem (if mem = 0 then 8192 else s.lpChunks) 0 24
    (true, ((s.zeroChunks mem c).setChunks mem 3 0 c).mAudio fun a => { a with delayMem := some (mem, c) })

/-- The audio matrix unit is reset or faults (R402): sinks output 0, effect states and delay memory restart at 0, streams that run
report XRUN; the banks come from the last active bank. -/
def State.audioRestart (s : State) : State :=
  let s := s.mAudio fun a =>
    { a with out := [], shadow := a.active, doms := a.doms.map fun c => (c.1, { c.2 with fx := {}, fxNew := none, changed := false, k := 0 }) }
  let s := s.wr bankStatus (b2n (s.rb bankStatus 31) * 2 ^ 31)
  s.audio.streams.foldl (fun s c => if s.rb (s.streamAt c.1 0) 31 then s.streamXrun c.1 else s) s

end Sys2Proof.Machine
end

