-- ==== Sys2Proof/Machine/Commit.lean ====
section
/-!
DEFINITION. Commit: commit ports, the check of a commit list, and the taking and latching of commits (Commit and frame timing).
-/
namespace Sys2Proof.Machine

/-- A register of the commit port of pipe p in a window (R164). -/
def portReg (w p off : Nat) : Nat := win w + 0x13000 + p * 0x20 + off

/-- The token after one: 0xFFFF_FFFF is followed by 1 (R165). -/
def nextToken (t : Nat) : Nat := if t = 0xFFFFFFFF then 1 else t + 1

/-- COMMIT_STATUS.STATE and RESULT follow the last token written (R165): a later refusal keeps them. -/
def State.portState (s : State) (c : Commit) (st res : Nat) : State :=
  let k := portReg c.w c.pipe 0x10
  if c.dead ∨ s.rf k 31 28 = 5 ∨ s.rd (portReg c.w c.pipe 0x0C) ≠ c.token then s else (s.wf k 31 28 st).wf k 22 16 res

/-- COMMIT_FRAME, while the commit is the one COMMIT_SEQ names (R165, R176). -/
def State.portFrame (s : State) (c : Commit) (f : Nat) : State :=
  if ¬ c.dead ∧ s.rd (portReg c.w c.pipe 0x0C) = c.token then s.wr64 (portReg c.w c.pipe 0x18) f else s

/-- COMMIT_STATUS.PENDING counts the port's accepted commits that have not latched or failed (R165). -/
def State.portPending (s : State) (w p : Nat) : State :=
  s.wf (portReg w p 0x10) 2 0 (s.display.commits.countP fun c => c.w == w && c.pipe == p && !c.dead)

/-- The device writes the FRAME field of a list header; a faulting write is dropped by R76, and one for a VI reset since the commit was taken
carries an old generation and is dropped and counted (R493). -/
def State.headerFrame (s : State) (c : Commit) (frame : Nat) : State :=
  if c.dead then s.sat (viReg c.w 0x0C) 1 else (s.store c.w 4 (c.list + 24) (leBytes frame 8)).2

/-- The device writes the FRAME, RESULT and STATE fields of a list header (R166). -/
def State.headerWrite (s : State) (c : Commit) (st res frame : Nat) : State :=
  let s := s.headerFrame c frame
  if c.dead then s else (s.store c.w 4 (c.list + 20) (leBytes (res + st * 256) 2)).2

/-- A refused token: STATE, RESULT and the COMMIT_FAILED event (R167, R195). -/
def State.refuseToken (s : State) (w p token : Nat) (st : Status) : State :=
  let k := portReg w p 0x10
  ((s.wf k 31 28 5).wf k 22 16 st.code).emit w 0x34 st 0 (p * 2 ^ 24 + token % 2 ^ 24)

/-- The frames a commit accepted now would first be shown in: composed, and direct (R172, R177). -/
def State.targets (s : State) (p : Nat) : Nat × Nat :=
  if s.scanning p then
    let k := s.frame p
    (k + 1 + b2n (s.pipe p).csDone, k + 1 + b2n (s.pipe p).latchDone)
  else (s.nextFrame p, s.nextFrame p)

/-- A write of COMMIT_TOKEN (R164, R167, R168, R494): ports of absent pipes, and windows of VIs not in service, ignore it. -/
def execCommitToken (dt w p : Nat) (token : Word) (s : State) : Host.Outcome State Fault Refusal :=
  let s := s.tick dt
  let t := token.toNat
  if s.row.pipes ≤ p ∨ s.winDead w then .next s
  else
    let list := s.rd64 (portReg w p 0)
    let st := byR19 [
      (t != nextToken (s.rd (portReg w p 0x0C)), .spoof),
      (!s.pipeGranted w p, .denied),
      (s.noWork, .badState),
      (bits list 63 40 != 0 || bits list 5 0 != 0, .badParam),
      (s.rf (portReg w p 0x10) 2 0 == 4 || s.viHeld w, .busy)]
    if st ≠ .ok then
      let s := s.refuseToken w p t st
      .next (if st = .spoof then s.spoofDrop w 0x04 else s)
    else
      let tg := s.targets p
      let s := s.wr (portReg w p 0x0C) t
      let s := (s.wf (portReg w p 0x10) 31 28 1).wf (portReg w p 0x10) 22 16 Status.pending.code
      let s := s.mDisplay fun d =>
        { d with commits := d.commits ++ [{ w := w, pipe := p, token := t, list := list, ifComposed := tg.1, ifDirect := tg.2 }] }
      .next (s.portPending w p)

/-! ### The check (R169) -/

/-- What one entry of a list gives: the statuses that may apply, and the entry when its handle names a layer. -/
structure EntryCheck where
  fails : List (Bool × Status)
  ent : Option CommitEnt
  deriving DecidableEq, Repr, Inhabited

/-- The checks of R112 and the fence check of R169 on a record with ENABLE = 1. -/
def State.lsrFails (s : State) (w : Nat) (direct : Bool) (l : Lsr) : List (Bool × Status) :=
  if !lsrEnable l then []
  else
    let bad (hw : Nat) : Bool := hw != 0 && (match s.handleCheck w kFence hw with | .ok _ => false | .error _ => true)
    [(lsrSafety l && s.safetyWin != w, .denied), (bad (lsrAcqFence l) || bad (lsrRelFence l), .badHandle), (lsrBadParam l, .badParam),
     (lsrBadGeometry direct l, .badGeometry)]

/-- One entry of 192 bytes checked (R111, R112, R166, R169). -/
def State.entryCheck (s : State) (c : Commit) (b : Bytes) : EntryCheck :=
  let h := leNat (b.take 64)
  let l := leNat (b.drop 64)
  let hw := bits h 31 0
  match s.handleCheck c.w kLayer hw with
  | .error e => ⟨[(true, e), (bits h 511 32 != 0, .badParam)], none⟩
  | .ok i =>
    let lay := s.layer i
    ⟨[(bits h 511 32 != 0 || lay.pipe != c.pipe, .badParam)] ++ s.lsrFails c.w lay.direct l,
     some ⟨i, s.gen kLayer i, l, s.needsScaler i l⟩⟩

/-- The entries of a list read and checked; a read that faults gives FAULT (R169). -/
def State.entryChecks (s : State) (c : Commit) (hosts : List HostRun) : Nat → Nat → State × List EntryCheck
  | 0, _ => (s, [])
  | n + 1, i =>
    match s.load c.w 4 hosts (c.list + 64 + i * 192) 192 with
    | (none, s) => (s, [⟨[(true, .fault)], none⟩])
    | (some b, s) =>
      let (s, r) := s.entryChecks c hosts n (i + 1)
      (s, s.entryCheck c b :: r)

/-- The number a window's function writes in a VI field: its VI number, 0xFFFF for the PF (R52). -/
def w16 (w : Nat) : Nat := w % 2 ^ 16

/-- Two of a list's entries name one layer. -/
def twice : List CommitEnt → Bool
  | [] => false
  | e :: r => r.any (fun f => f.slot == e.slot) || twice r

/-- The result of a commit's check: the status and, with OK, its entries (R169). -/
def State.checkCommit (s : State) (c : Commit) (hosts : List HostRun) : State × Status × List CommitEnt :=
  match s.load c.w 4 hosts c.list 64 with
  | (none, s) => (s, .fault, [])
  | (some b, s) =>
    let h := leNat b
    let count := bits h 39 32
    let badCount := count == 0 || 64 < count
    let (s, es) := if badCount then (s, []) else s.entryChecks c hosts count 0
    let ents := es.filterMap (·.ent)
    let rsv := bits h 511 256 != 0 || bits h 191 176 != 0 || bit h 167 || bits h 159 64 != 0
    let need := ents.countP (·.res)
    let fails : List (Bool × Status) := [
      (bits h 63 48 != w16 c.w || bits h 31 0 != c.token || bits h 47 40 != c.pipe, .spoof),
      (badCount || rsv || twice ents, .badParam),
      (decide (0 < need) && decide (s.freeScalers.length < s.reservedScalers + need), .noResource)]
    (s, byR19 (fails ++ es.flatMap (·.fails)), ents)

/-! ### Taking and latching (R171 to R178) -/

/-- The states of a commit for the layers of one path are taken, in entry order (R173, R175). -/
def State.takeEnts (s : State) (w : Nat) (direct : Bool) : List CommitEnt → State
  | [] => s
  | e :: r => (if (s.layer e.slot).direct = direct then s.layerTake w e else s).takeEnts w direct r

/-- A commit replaced in the list of accepted commits, by window, pipe, token and whether its VI was reset since; `none` removes it. -/
def State.putCommit (s : State) (c : Commit) (new : Option Commit) : State :=
  s.mDisplay fun d =>
    { d with commits := d.commits.flatMap fun x =>
        if x.w = c.w ∧ x.pipe = c.pipe ∧ x.token = c.token ∧ x.dead = c.dead then new.toList else [x] }

/-- A commit latches with its final frame (R176). For one whose VI was reset since it was taken there is no port and no event (R178, R492). -/
def State.latchCommit (s : State) (c : Commit) (frame : Nat) : State :=
  let s := s.putCommit c none
  let s := ((s.headerWrite c 2 0 frame).portFrame c frame).portState c 3 0
  if c.dead then s else (s.portPending c.w c.pipe).emit c.w 0x35 .ok 0 (c.pipe * 2 ^ 24 + c.token % 2 ^ 24)

/-- A checked commit taken at once while its pipe is not scanning out (R177). A composition that is running reads the states it
began with, so their fences wait for its end. -/
def State.takeNow (s : State) (c : Commit) : State :=
  let s := (s.takeEnts c.w false c.ents).takeEnts c.w true c.ents
  let busy := (s.pipe c.pipe).comp.isSome
  let s := c.ents.foldl (fun s e =>
    let s := s.layerSettle e.slot
    if busy && !(s.layer e.slot).direct then s else s.flushRel e.slot) s
  let s := s.latchCommit c (s.nextFrame c.pipe)
  if c.composed then s.pipeDirty c.pipe else s

/-- A composition's commits are taken (R172, R190), and it begins with what its compose-start sampled. -/
def State.takeComposition (s : State) (p : Nat) (comp : Composition) : State :=
  let take := s.display.commits.filter fun c =>
    c.pipe == p && ((c.phase == .waiting && c.composed && decide (c.target ≤ comp.frame)) || c.phase == .again)
  let s := take.foldl (fun s c =>
    let s := if c.phase = .waiting then s.takeEnts c.w false c.ents else s
    (s.putCommit c (some { c with phase := .composing })).pipeDirty p) s
  s.beginComposition p comp

/-- A composition starts, and its metadata words are read (R172, R251). -/
def State.startComposition (s : State) (hosts : List HostRun) (p : Nat) (comp : Composition) : State :=
  (s.takeComposition p comp).compMetas hosts p

/-- What the latch point of frame k does with one commit (R172, R173, R176, R190); `done` says whether the composition has finished. -/
def State.latchOne (s : State) (p k : Nat) (done : Bool) (c : Commit) : State :=
  if c.pipe ≠ p then s
  else if c.phase = .composing then
    if done then (s.takeEnts c.w true c.ents).latchCommit c c.target
    else
      let c' := { c with phase := .again, target := c.target + 1 }
      let s := s.putCommit c (some c')
      (s.headerFrame c' c'.target).portFrame c' c'.target
  else if c.phase = .waiting ∧ ¬ c.composed ∧ c.target ≤ k + 1 then (s.takeEnts c.w true c.ents).latchCommit c c.target
  else s

/-- Direct layers of a pipe, by slot, settled and captured for a frame (R160, R182, R251); the pipe's other direct layers stay as they were captured
(R162). -/
def State.captureSlots (s : State) (hosts : List HostRun) (p frame : Nat) (ids : List Nat) : State :=
  let s := s.settleAll frame ids
  let (s, ds) := s.drawAll (s.pipe p).hls frame ids
  let (s, ds, ms) := s.readMetas hosts frame ds
  let s := ds.foldl (fun s d =>
    if (s.layer d.slot).fresh then
      (s.wr (layerReg d.slot 8) frame).mLayer d.slot fun l => { l with fresh := false }
    else s) s
  s.mPipe p fun ps =>
    { ps with directs := ds.foldl (fun l d => insertDrawn d l) (ps.directs.filter fun d => !ids.contains d.slot),
              directMetas := ps.directMetas.filter (fun m => !ids.contains m.1) ++ ms }

/-- The direct layers of a pipe captured at a latch point, with their reflex flags sampled (R150, R160): those the pipe draws from its line 0 on. -/
def State.captureDirects (s : State) (hosts : List HostRun) (p frame : Nat) : State :=
  let ids := s.layersOf p true
  (s.mPipe p fun ps => { ps with hls := ids.filter s.hlFlag, directs := [], directMetas := [] }).captureSlots hosts p frame ids

/-- The slots of a checked list's direct layers. -/
def State.directSlots (s : State) (ents : List CommitEnt) : List Nat := (ents.filter fun e => (s.layer e.slot).direct).map (·.slot)

/-- A commit that passed waits, or is taken where its decision point has passed or its pipe is not scanning out (R174, R177). A direct commit whose
latch point has passed is shown from the next line on; only its own layers are evaluated and captured (R174, R182). Its TAPS_REDUCED events come
now, whatever becomes of the states (DESIGN CHOICE, log entry 71). -/
def State.commitPass (s : State) (c : Commit) (hosts : List HostRun) (ents : List CommitEnt) : State :=
  let composed := ents.any fun e => !(s.layer e.slot).direct
  let c' := { c with phase := .waiting, composed := composed, target := if composed then c.ifComposed else c.ifDirect, ents := ents }
  let s := s.putCommit c (some c')
  let s := ((s.headerWrite c 1 0 c'.target).portFrame c c'.target).portState c 2 0
  let s := ents.foldl (fun s e =>
    let t := lsrTaps e.lsr
    if lsrEnable e.lsr ∧ (t = 2 ∨ t = 4) then s.emit c.w 0x30 .ok (s.handleWord kLayer e.slot) t else s) s
  if !s.scanning c.pipe then s.takeNow c'
  else if !composed && decide (c'.target ≤ s.frame c.pipe + b2n (s.pipe c.pipe).latchDone) then
    let s := if c'.target ≤ s.frame c.pipe then s.scanTo hosts c.pipe (s.rf (pipeReg c.pipe 0x48) 15 0 + 1) else s
    ((s.takeEnts c.w true ents).latchCommit c' c'.target).captureSlots hosts c.pipe c'.target (s.directSlots ents)
  else s

/-- The field of a list header that differs, as SPOOF_DETECTED names it: VI, token or PIPE (R169, R489, R509). -/
def State.spoofField (s : State) (c : Commit) (hosts : List HostRun) : Nat :=
  match s.peek c.w 4 hosts c.list 64 with
  | .ok b => if bits (leNat b) 63 48 ≠ w16 c.w then 0x01 else if bits (leNat b) 31 0 ≠ c.token then 0x04 else 0x05
  | .error _ => 0

/-- A commit that failed: the whole of it fails (R113, R169); one refused with SPOOF counts as such, with the field that differs (R490). -/
def State.commitFail (s : State) (c : Commit) (st : Status) (field : Nat) : State :=
  let s := if st = .spoof then s.spoofDrop c.w field else s
  let s := s.putCommit c none
  let s := ((s.headerWrite c 3 st.code (2 ^ 64 - 1)).portFrame c (2 ^ 64 - 1)).portState c 4 st.code
  (s.portPending c.w c.pipe).emit c.w 0x34 st 0 (c.pipe * 2 ^ 24 + c.token % 2 ^ 24)

/-- A list in check names a composed layer, as its entries in the VI's memory stand (R170, R172). -/
def State.listComposed (s : State) (hosts : List HostRun) (c : Commit) : Bool :=
  match s.peek c.w 4 hosts c.list 64 with
  | .error _ => false
  | .ok b =>
    (List.range (min 64 (bits (leNat b) 39 32))).any fun i =>
      match s.peek c.w 4 hosts (c.list + 64 + i * 192) 4 with
      | .error _ => false
      | .ok e => match s.handleCheck c.w kLayer (leNat e) with | .ok k => !(s.layer k).direct | .error _ => false

/-- A composed commit accepted before the compose-start of a frame's composition is still in check (R174). -/
def State.checkHolds (s : State) (hosts : List HostRun) (p frame : Nat) : Bool :=
  s.display.commits.any fun c => c.pipe == p && c.phase == .checking && decide (c.ifComposed ≤ frame) && s.listComposed hosts c

/-- A composition that waits for checks starts once none is left that its compose-start precedes (R174). -/
def State.releaseWaiting (s : State) (hosts : List HostRun) (p : Nat) : State :=
  match (s.pipe p).comp with
  | some k => if k.waiting && !s.checkHolds hosts p k.frame then s.startComposition hosts p k else s
  | none => s

/-- Compositions that only checks now discarded held start (R174, R178). Their metadata words are read when a command next brings what memory outside
the device holds. -/
def State.releaseAll (s : State) : State :=
  (List.range 16).foldl (fun s p =>
    match (s.pipe p).comp with
    | some k => if k.waiting && !s.checkHolds [] p k.frame then s.takeComposition p k else s
    | none => s) s

/-- What the latch point does where a composition still waits for a check: it is abandoned, and the commits it was to take reach the next frame
(R174, R190). -/
def State.latchHeld (s : State) (p frame : Nat) : State :=
  s.display.commits.foldl (fun s c =>
    if c.pipe ≠ p ∨ c.dead then s
    else if c.phase = .checking ∧ c.ifComposed ≤ frame then s.putCommit c (some { c with ifComposed := c.ifComposed + 1 })
    else if c.phase = .waiting ∧ c.composed ∧ c.target ≤ frame then
      let c' := { c with target := c.target + 1 }
      ((s.putCommit c (some c')).headerFrame c' c'.target).portFrame c' c'.target
    else s) s

/-- The check of the port's oldest commit in check ends (R169). -/
def execCommitCheckDone (dt w p : Nat) (hosts : List HostRun) (s : State) : Host.Outcome State Fault Refusal :=
  let s := s.tickMem dt hosts
  match s.display.commits.find? fun c => c.w == w && c.pipe == p && c.phase == .checking with
  | none => .next s
  | some c =>
    let field := s.spoofField c hosts
    let (s, st, ents) := s.checkCommit c hosts
    let s := if st = .ok then s.commitPass c hosts ents else s.commitFail c st field
    .next (s.releaseWaiting hosts p)

end Sys2Proof.Machine
end

