-- ==== Sys2Proof/Machine/Haptics.lean ====
section
/-!
DEFINITION. Haptics: haptic channels, effect slots, calibration, protection and reflex bindings (Haptic drive and reflex paths).
-/
namespace Sys2Proof.Machine

/-- The registers of haptic channel c (R469). -/
def hapReg (c off : Nat) : Nat := 0x03A01000 + c * 0x40 + off

/-- The registers of slot set `k` of a window (R451). -/
def hslotReg (w k off : Nat) : Nat := win w + 0x21000 + k * 0x10 + off

/-- A haptic channel's state code of HAP_STATUS.STATE (R470). -/
def State.hapState (s : State) (c : Nat) : Nat := s.rf (hapReg c 0x20) 31 29

/-- A haptic channel beyond its registers. -/
def State.hap (s : State) (c : Nat) : HapSt := tget {} s.panel.haps c

/-- A haptic channel changed. -/
def State.mHap (s : State) (c : Nat) (f : HapSt → HapSt) : State := s.mPanel fun p => { p with haps := tmod {} p.haps c f }

/-- HAPTIC_STATUS.RESULT written (R469). -/
def State.hapResult (s : State) (st : Status) : State := s.wf 0x03A00008 6 0 st.code

/-- HAP_STATUS.RESULT written (R470). -/
def State.hapOwn (s : State) (c : Nat) (st : Status) : State := s.wf (hapReg c 0x20) 22 16 st.code

/-! ### Library entries and slots (R443 to R451) -/

/-- Fields of a library entry (R444). -/
def leGap (e : Nat) : Nat := bits e 239 224
def leRepeat (e : Nat) : Nat := bits e 223 216
def leBrake (e : Nat) : Nat := bits e 207 192
def leAttack (e : Nat) : Nat := bits e 191 176
def leWave (e : Nat) : Nat := bits e 3 0
/-- HOLD_US, which counts as 0 for a pulse. -/
def leHold (e : Nat) : Nat := if leWave e = 2 then 0 else bits e 175 144
def leAmp (e : Nat) : Nat := bits e 143 128
def leFreq (e : Nat) : Nat := bits e 127 112
def leNoBrake (e : Nat) : Bool := bit e 7
def leNoBoost (e : Nat) : Bool := bit e 6

/-- An entry that starts nothing: empty, a reserved value or one out of its range, or a carrier a voice coil cannot play (R437, R444). -/
def hapEntryBad (e : Nat) (coil : Bool) : Bool :=
  leWave e == 0 || 2 < leWave e || bits e 255 240 != 0 || bits e 215 208 != 0 || bits e 111 8 != 0 || bits e 5 4 != 0
    || leBrake e < 100 || 10000000 < bits e 175 144 || (coil && (leFreq e < 160 || 32000 < leFreq e))

/-- The nominal duration of an entry in ms (R456). -/
def hapNominal (e : Nat) : Nat :=
  cdiv ((leAttack e + leHold e + leBrake e) * (leRepeat e + 1) + leGap e * 1000 * leRepeat e) 1000

/-- Fields of a slot's parameter block (R449). -/
def hsChannel (p : Nat) : Nat := bits p 7 0
def hsEntry (p : Nat) : Nat := bits p 15 8
def hsSet (p : Nat) : Nat := bits p 20 16
def hsGain (p : Nat) : Nat := bits p 63 48

/-- The parameter block of a slot, its owner and its handle. -/
def State.hslot (s : State) (i : Nat) : Nat := tget 0 s.panel.slots i
def State.hslotOwner (s : State) (i : Nat) : Nat := (s.chan kHslot i).owner
def State.hslotAt (s : State) (i off : Nat) : Nat := hslotReg (s.hslotOwner i) (hsSet (s.hslot i)) off

/-- The slot of a register set of a window, while its channel lives. -/
def State.hslotBy (s : State) (w k : Nat) : Option Nat :=
  (s.panel.slots.find? fun c => (s.chan kHslot c.1).phase == .live && s.hslotOwner c.1 == w && hsSet c.2 == k).map (·.1)

/-- Whether a slot names a channel (R470). -/
def State.hapNamed (s : State) (c : Nat) : Bool :=
  s.panel.slots.any fun p => (s.chan kHslot p.1).phase != .free && hsChannel p.2 == c

/-- An event of a slot to the ring of its VI and to the PF; one to the PF's own slots (R471). -/
def State.hapEvents (s : State) (i kind : Nat) (st : Status) (detail : Nat) : State :=
  let w := s.hslotOwner i
  let h := s.handleWord kHslot i
  let s := s.emit w kind st h detail
  if w = pfWin then s else s.emit pfWin kind st h detail

/-! ### Drive time (R455) -/

/-- VMAX of a channel in mV. -/
def State.hapVmax (s : State) (c : Nat) : Nat := s.rf (hapReg c 4) 31 16

/-- Whether the output is neither shorted nor off: in ATTACK, HOLD, BRAKE without NO_BRAKE, and during a calibration (R439, R446, R452,
R455). -/
def State.hapDriven (s : State) (c : Nat) : Bool :=
  let st := s.hapState c
  st == 2 || st == 3 || st == 4 || (st == 5 && !leNoBrake (s.hap c).run.entry)

/-- Drive time counted up to now. -/
def State.hapCount (s : State) (c : Nat) : State :=
  let h := s.hap c
  let dt := s.now - h.counted
  let s :=
    if !s.hapDriven c then
      s.mHap c fun h => { h with counted := s.now, runFrom := if s.now - h.runTo < 20000000 then h.runFrom else none }
    else
      let start := match h.runFrom with
        | some a => if h.counted - h.runTo < 20000000 then a else h.counted
        | none => h.counted
      s.mHap c fun h =>
        { h with counted := s.now, bin := h.bin + dt, runFrom := some start, runTo := s.now, played := h.played.map (· + dt) }
  let h := s.hap c
  let run := match h.runFrom with | some a => (h.runTo - a) / 1000000 | none => 0
  s.wr (hapReg c 0x30) (min 65535 (h.bins.foldl (· + ·) 0 / 1000000) * 2 ^ 16 + min 65535 run)

/-- Drive time in the window, in ms (R455). -/
def State.hapWindow (s : State) (c : Nat) : Nat := (s.hap c).bins.foldl (· + ·) 0 / 1000000

/-- Continuous drive, in ns (R455). -/
def State.hapRun (s : State) (c : Nat) : Nat := match (s.hap c).runFrom with | some a => (s.hap c).runTo - a | none => 0

/-- A play is over: its drive time goes to the recorder (R664). -/
def State.hapPlayed (s : State) (c : Nat) : State :=
  match (s.hap c).played with
  | some n => (s.recValue 8 c (n / 1000000 : Nat)).mHap c fun h => { h with played := none }
  | none => s

/-! ### Phases (R446) -/

/-- The target amplitude of the running play (R445). -/
def State.hapTarget (s : State) (c : Nat) : Nat := leAmp (s.hap c).run.entry * (s.hap c).run.gain / 32768

/-- The phase with a state code begins now, with its drive. The drive of a closed-loop HOLD, and of a
calibration, is a free value within VMAX (R446, R447, R452). -/
def State.hapEnter (s : State) (c code : Nat) : State :=
  let s := s.hapCount c
  let s := if 3 ≤ code ∧ code ≤ 5 then s else s.hapPlayed c
  let vmax := s.hapVmax c
  let openLoop := s.rf (hapReg c 0) 27 26 == 2
  let (w, s) := if code = 2 ∨ code = 4 ∧ ¬ openLoop then s.freeWord else (0, s)
  let drive : Int :=
    match code with
    | 2 => (w.toNat % (vmax + 1) : Nat)
    | 3 => vmax
    | 4 => if openLoop then (vmax * s.hapTarget c / 65535 : Nat) else (w.toNat % (vmax + 1) : Nat)
    | 5 => if leNoBrake (s.hap c).run.entry then 0 else - (vmax : Int)
    | _ => 0
  (s.mHap c fun h => { h with phaseAt := s.now, drive := drive, resting := false }).wf (hapReg c 0x20) 31 29 code

/-- A play begins, in ATTACK, or in HOLD with NO_BOOST (R446, R448). -/
def State.hapPlay (s : State) (c : Nat) : State :=
  let s := (s.hapCount c).hapPlayed c
  (s.mHap c fun h => { h with played := some 0 }).hapEnter c (if leNoBoost (s.hap c).run.entry then 4 else 3)

/-- Whether an effect runs. -/
def State.hapRunning (s : State) (c : Nat) : Bool :=
  let st := s.hapState c
  st == 3 || st == 4 || st == 5 || (st == 6 && !(s.hap c).resting)

/-- The running effect goes to BRAKE, its last phase (R446, R451, R458, R459). -/
def State.hapBrake (s : State) (c : Nat) : State :=
  if !s.hapRunning c then s
  else
    let s := s.mHap c fun h => { h with left := 0 }
    if s.hapState c = 5 then s else s.hapEnter c 5

/-- The channel stands still with a state code; what runs or is about to start is gone. -/
def State.hapIdle (s : State) (c code : Nat) : State :=
  let s := s.hapEnter c code
  (s.mHap c fun h => { h with next := none, left := 0, restNext := false }).wf (hapReg c 0x20) 7 0 0

/-- The next change of phase due, if one is: `amp` is the measured amplitude (R446, R458). -/
def State.hapStep (s : State) (c amp : Nat) : Option State :=
  let h := s.hap c
  let e := h.run.entry
  let openLoop := s.rf (hapReg c 0) 27 26 == 2
  let past := s.now - h.phaseAt
  match s.hapState c with
  | 3 => if (!openLoop && s.hapTarget c * 15 ≤ amp * 16) || leAttack e * 1000 ≤ past then some (s.hapEnter c 4) else none
  | 4 => if leHold e * 1000 ≤ past then some (s.hapEnter c 5) else none
  | 5 =>
    if (!openLoop && amp < 2048) || leBrake e * 1000 ≤ past then
      if h.restNext then
        some ((s.hapIdle c 6).mHap c fun h => { h with resting := true })
      else if h.left = 0 then some (s.hapIdle c 1)
      else some (s.hapEnter c 6)
    else none
  | 6 =>
    if !h.resting && leGap e * 1000000 ≤ past then some ((s.mHap c fun h => { h with left := h.left - 1 }).hapPlay c) else none
  | _ => none

/-- The changes of phase due, at most `n` of them in one control period. -/
def State.hapSteps (s : State) (c amp : Nat) : Nat → State
  | 0 => s
  | n + 1 => match s.hapStep c amp with | some t => t.hapSteps c amp n | none => s

/-- A 48 kHz control period (R446 to R448, R458): `amp` and `freq` are what the channel measures. -/
def execHapControlPeriod (dt c amp freq : Nat) (s : State) : Host.Outcome State Fault Refusal :=
  let s := s.tick dt
  if s.row.haptics ≤ c then .next s
  else
    let s := s.hapCount c
    let s :=
      match (s.hap c).next with
      | some e =>
        if s.hapRunning c || s.hapState c == 1 then
          let s := s.hapCount c
          let e := { e with entry := tget 0 s.panel.lib (hsEntry (s.hslot e.slot)) }
          let s := s.mHap c fun h => { h with run := e, next := none, left := leRepeat e.entry, restNext := false }
          (s.hapPlay c).wf (hapReg c 0x20) 7 0 (hsEntry (s.hslot e.slot))
        else s.mHap c fun h => { h with next := none }
      | none => s
    let s := s.hapSteps c amp 4
    let s :=
      if s.hapRunning c && s.rf (hapReg c 8) 15 0 * 1000000 ≤ s.hapRun c && !(s.hap c).restNext then
        (s.hapBrake c).mHap c fun h => { h with restNext := true }
      else s
    let openLoop := s.rf (hapReg c 0) 27 26 == 2
    .next (s.wr (hapReg c 0x28)
      (if s.hapRunning c then (if openLoop then 0 else amp % 65536) * 2 ^ 16
        + (if leFreq (s.hap c).run.entry = 0 then freq % 65536 else leFreq (s.hap c).run.entry) else 0))

/-! ### Triggers (R448, R451, R456, R457) -/

/-- Why a trigger of an entry is not admitted, as HAP_STATUS.THROTTLE; 0 when it is (R456). -/
def State.hapRefusal (s : State) (c e : Nat) : Nat :=
  let h := s.hap c
  let tmax : Int := s.rf (hapReg c 0xC) 15 8
  let t := sext 16 (s.rd (hapReg c 0x2C))
  let limit := if h.hot then tmax - 10 else tmax
  if (s.hapState c == 6 && h.resting) || h.restNext then 2
  else if s.rf (hapReg c 0x10) 31 16 ≠ 0 ∧ limit * 256 ≤ t then 3
  else if s.rf (hapReg c 8) 31 24 * 100 < s.hapWindow c + hapNominal e then 1
  else 0

/-- The pending trigger of a channel is no more. -/
def State.hapUnpend (s : State) (c : Nat) : State :=
  match (s.hap c).pend with
  | none => s
  | some (i, _) =>
    let s := s.mHap c fun h => { h with pend := none }
    (s.wb (hapReg c 0x20) 28 false).wb (s.hslotAt i 4) 31 false

/-- The pending trigger is discarded with HAPTIC_DROPPED (R457). -/
def State.hapDrop (s : State) (c : Nat) : State :=
  match (s.hap c).pend with
  | none => s
  | some (i, _) => (s.hapUnpend c).hapEvents i 0x91 .timeout (c % 256)

/-- A trigger admitted: it starts at the next control period, in place of one taken before it (R448). -/
def State.hapTake (s : State) (c i : Nat) : State :=
  let p := s.hslot i
  (s.mHap c fun h => { h with next := some ⟨i, tget 0 s.panel.lib (hsEntry p), hsGain p⟩ }).sat (hapReg c 0x34) 1

/-- A trigger of a slot (R444, R448, R451, R456, R457): its status and the state after it. -/
def State.hapTrigger (s : State) (i : Nat) : Status × State :=
  let p := s.hslot i
  let c := hsChannel p
  let e := tget 0 s.panel.lib (hsEntry p)
  match s.hapState c with
  | 0 => (.badState, s)
  | 2 => (.busy, s)
  | 7 => (.fault, s)
  | _ =>
    if hapEntryBad e (s.rb (hapReg c 0) 28) then (.badParam, s)
    else
      let why := s.hapRefusal c e
      if why = 0 then (.ok, s.hapTake c i)
      else
        let s := s.hapUnpend c
        let s := s.mHap c fun h => { h with pend := some (i, s.now) }
        let s := ((s.wb (hapReg c 0x20) 28 true).wf (hapReg c 0x20) 27 26 why).wb (s.hslotAt i 4) 31 true
        let s := ((s.cntEvent 0x61 c 3 1).sat (hapReg c 0x38) 1).hapEvents i 0x90 .throttled (why * 2 ^ 30 + c % 256)
        (.throttled, if s.rf (hapReg c 8) 23 16 = 0 then s.hapDrop c else s)

/-- HSLOT_STATUS.RESULT of a slot written (R451). -/
def State.hslotResult (s : State) (i : Nat) (st : Status) : State := s.wf (s.hslotAt i 4) 22 16 st.code

/-- HSLOT_PLAY.PLAY (R451). -/
def execHslotPlay (dt w k : Nat) (s : State) : Host.Outcome State Fault Refusal :=
  let s := s.tick dt
  if s.winDead w ∨ s.viHeld w then .next s
  else
    match s.hslotBy w k with
    | none => .next s
    | some i =>
      let (st, s) := s.hapTrigger i
      .next (s.hslotResult i st)

/-- The effect a slot started goes to BRAKE; one of it that is about to start does not start. -/
def State.hslotHalt (s : State) (i : Nat) : State :=
  let c := hsChannel (s.hslot i)
  let h := s.hap c
  let s := match h.next with
    | some e => if e.slot = i then s.mHap c fun h => { h with next := none } else s
    | none => s
  if h.run.slot = i then s.hapBrake c else s

/-- HSLOT_PLAY.STOP (R451). -/
def execHslotStop (dt w k : Nat) (s : State) : Host.Outcome State Fault Refusal :=
  let s := s.tick dt
  if s.winDead w ∨ s.viHeld w then .next s
  else
    match s.hslotBy w k with
    | none => .next s
    | some i => .next (s.hslotHalt i)

/-- A DESTROY of a slot is accepted (R451). -/
def State.hslotDestroy (s : State) (i : Nat) : State :=
  let c := hsChannel (s.hslot i)
  let s := s.hslotHalt i
  match (s.hap c).pend with
  | some (j, _) => if j = i then s.hapUnpend c else s
  | none => s

/-- A destroyed slot has left. -/
def State.hslotGone (s : State) (i : Nat) : State :=
  let s := (s.wr (s.hslotAt i 0) 0).wr (s.hslotAt i 4) 0
  s.mPanel fun p => { p with slots := tdel p.slots i }

/-- CREATE of a haptic effect slot (R449, R450). -/
def execCreateHapticEffectSlot (dt w : Nat) (ext : Option Bytes) (s : State) : Host.Outcome State Fault Refusal :=
  let s := s.tick dt
  match s.ctlWaits w 1 kHslot with
  | none => .next s
  | some e =>
    if e.paramLen ≠ 8 then .next (s.ctlDone w e .badParam 0)
    else
      match s.params w e ext with
      | (none, t) => .next (s.createFault t w e (s.pickIndex w kHslot).isNone)
      | (some b, s) =>
        let p := leNat b
        let c := hsChannel p
        let st := byR19 [
          (c < s.row.haptics && s.rf (hapReg c 0) 15 0 != w, .denied),
          (s.panel.slots.any fun q => (s.chan kHslot q.1).phase != .free && s.hslotOwner q.1 == w && hsSet q.2 == hsSet p, .badState),
          (s.row.haptics ≤ c || 32768 < hsGain p || bits p 47 21 != 0, .badParam),
          ((s.pickIndex w kHslot).isNone, .noResource)]
        match st with
        | .ok =>
          let i := (s.pickIndex w kHslot).getD 0
          let s := s.mPanel fun q => { q with slots := tset 0 q.slots i p }
          let s := s.createDone w e kHslot i
          .next ((s.wr (s.hslotAt i 0) 0).wr (s.hslotAt i 4) 0)
        | st => .next (s.ctlDone w e st 0)

/-- A write of word 7 of a library entry puts the whole entry into force (R443). -/
def execHapLibCommit (dt : Nat) (r : Req) (k : Nat) (v : Word) (s : State) : Host.Outcome State Fault Refusal :=
  let s := s.tick dt
  match r.path with
  | .vi _ => .next s
  | _ =>
    let a := 0x03A10000 + k * 0x20
    let s := s.wr (a + 0x1C) v.toNat
    .next (s.mPanel fun p =>
      { p with lib := tset 0 p.lib k ((List.range 8).foldl (fun n j => n + s.rd (a + j * 4) * 2 ^ (32 * j)) 0) })

/-! ### Enable, disable and commands (R438, R439, R454, R469) -/

/-- HAP_LIMIT held to the limits of a mode (R436). -/
def hapLimit (mode v : Nat) : Nat :=
  if mode = 0 then min (bits v 31 16) (min 5500 Config.hapVdrv) * 2 ^ 16 + min (bits v 15 0) 600
  else min (bits v 31 16) 48000 * 2 ^ 16 + min (bits v 15 0) 10000

/-- A word written to a register of a channel, as it is stored (R458, R469, R470). -/
def State.hapStored (s : State) (c off v : Nat) : Nat :=
  match off with
  | 4 => hapLimit (s.rf (hapReg c 0) 30 29) v
  | 8 => setBits (setBits v 31 24 (max 1 (min 100 (bits v 31 24)))) 15 0 (max 100 (min 60000 (bits v 15 0)))
  | 0xC => setBits v 15 0 (max 40 (bits v 15 8) * 256)
  | 0x10 => setBits v 15 0 (max 1 (bits v 15 0))
  | _ => v

/-- The sum of the ODRs of the enabled channels with FB = ACCEL, in units of 125 Hz (R439, R441). -/
def State.hapOdrs (s : State) : Nat :=
  (List.range s.row.haptics).foldl (fun n c =>
    if s.rb (hapReg c 0) 31 && s.rf (hapReg c 0) 27 26 == 1 then n + s.rf (hapReg c 0x14) 30 24 else n) 0

/-- The fields of HAP_CTRL other than ENABLE put in force by a write `v` (R439, R470). -/
def State.hapFields (s : State) (c v : Nat) : State :=
  let k := hapReg c 0
  let s := if bits v 15 0 = s.rf k 15 0 then s else if s.hapNamed c then s.hapResult .badState else s.wf k 15 0 (bits v 15 0)
  let s := s.wf k 25 25 (bits v 25 25)
  if bits v 30 26 = s.rf k 30 26 then s
  else if s.rb k 31 then s.hapResult .badState
  else
    let s := s.wf k 30 26 (bits v 30 26)
    s.wr (hapReg c 4) (hapLimit (s.rf k 30 29) (s.rd (hapReg c 4)))

/-- A write of HAP_CTRL with ENABLE = 1 (R439). An ODR outside 1 to 64 counts as BAD_PARAM (R18, R441; DEDUCED, log entry 39). -/
def execHapEnable (dt : Nat) (r : Req) (c : Nat) (v : Word) (s : State) : Host.Outcome State Fault Refusal :=
  let s := s.tick dt
  if s.row.haptics ≤ c then .next s
  else if s.claimedFor 0x61 c r then .next (s.hapResult .claimed)
  else
    let was := s.rb (hapReg c 0) 31
    let s := s.hapFields c v.toNat
    if was then .next s
    else
      let k := s.rd (hapReg c 0)
      let on := s.wb (hapReg c 0) 31 true
      let st := byR19 [
        (1 < bits k 30 29 || bits k 27 26 == 3 || (bits k 27 26 == 1 && (s.rf (hapReg c 0x14) 22 16 == 0 || s.rf (hapReg c 0x14) 30 24 == 0 || decide (64 < s.rf (hapReg c 0x14) 30 24))),
          .badParam),
        (bits k 27 26 == 1 && decide (512 < on.hapOdrs), .noResource)]
      match st with
      | .ok =>
        let s := (on.mHap c fun h => { h with heat := 0, hot := false, fails := 0, next := none }).hapIdle c 1
        .next ((s.wb (hapReg c 0x20) 25 false).hapOwn c .ok)
      | st => .next ((s.hapResult st).hapOwn c st)

/-- A write of HAP_CTRL with ENABLE = 0 (R438, R441). -/
def execHapDisable (dt : Nat) (r : Req) (c : Nat) (v : Word) (s : State) : Host.Outcome State Fault Refusal :=
  let s := s.tick dt
  if s.row.haptics ≤ c then .next s
  else if s.claimedFor 0x61 c r then .next (s.hapResult .claimed)
  else
    let was := s.rb (hapReg c 0) 31
    let s := s.hapFields c v.toNat
    if !was then .next s
    else
      let s := (s.wb (hapReg c 0) 31 false).hapIdle c 0
      .next (s.wb (hapReg c 0x20) 25 false)

/-- HAP_CMD.STOP (R469). -/
def execHapStop (dt : Nat) (r : Req) (c : Nat) (s : State) : Host.Outcome State Fault Refusal :=
  let s := s.tick dt
  if s.row.haptics ≤ c then .next s
  else if s.claimedFor 0x61 c r then .next (s.hapResult .claimed)
  else .next ((s.hapBrake c).hapOwn c .ok)

/-- A calibration starts, with the quick check or without (R452). -/
def State.hapCalStart (s : State) (c : Nat) (quick : Bool) : State := (s.hapIdle c 2).mHap c fun h => { h with quick := quick }

/-- HAP_CMD.CAL (R454). -/
def execHapCal (dt : Nat) (r : Req) (c : Nat) (s : State) : Host.Outcome State Fault Refusal :=
  let s := s.tick dt
  if s.row.haptics ≤ c then .next s
  else if s.claimedFor 0x61 c r then .next (s.hapResult .claimed)
  else if s.hapState c = 1 then .next ((s.hapCalStart c false).hapOwn c .ok)
  else .next ((s.hapResult .busy).hapOwn c .busy)

/-- At the start of the TOUCH_HAP domain the channels that ask for it calibrate, all at once (R452). -/
def State.hapDomainStart (s : State) : State :=
  (List.range s.row.haptics).foldl (fun s c =>
    let k := s.rd (hapReg c 0)
    if bit k 31 && bit k 25 && bits k 27 26 != 2 && s.hapState c == 1 then
      s.hapCalStart c ((tget (0, 0, 0, 0) s.start.pset.hap c).1 != 0)
    else s) s

/-- The CAL_DONE event (R471). -/
def State.calEvent (s : State) (c : Nat) (st : Status) (why : Nat) : State :=
  s.emitPf 0x93 st (s.rf (hapReg c 0x24) 31 16 * 2 ^ 16 + why * 2 ^ 12 + b2n (s.rb (hapReg c 0x20) 24) * 2 ^ 8 + c % 256)

/-- A calibration ends (R452, R453): `near` is the resonance of the quick check, `low` and `peak` say whether the current stayed below
5 % of VMAX ÷ R_nominal and whether a response peak lay 6 dB above the mean, and the rest is what the sweep measured. -/
def execCalDone (dt c near : Nat) (low peak : Bool) (f0 rc l k : Nat) (s : State) : Host.Outcome State Fault Refusal :=
  let s := s.tick dt
  if s.row.haptics ≤ c ∨ s.hapState c ≠ 2 then .next s
  else
    let old := tget (0, 0, 0, 0) s.start.pset.hap c
    let agrees := near * 50 ≤ old.1 * 51 && old.1 * 49 ≤ near * 50
    if (s.hap c).quick && agrees then
      let s := (s.mHap c fun h => { h with l := old.2.2.1, k := old.2.2.2 }).wr (hapReg c 0x24) (old.1 * 2 ^ 16 + old.2.1 % 65536)
      .next ((((s.hapIdle c 1).wb (hapReg c 0x20) 24 true).hapOwn c .ok).calEvent c .ok 0)
    else
      let s := s.wb (hapReg c 0x20) 24 false
      if low || !peak then .next (((s.hapIdle c 7).hapOwn c .fault).calEvent c .fault (if low then 1 else 2))
      else
        let s := (s.mHap c fun h => { h with l := l, k := k }).wr (hapReg c 0x24) (f0 % 65536 * 2 ^ 16 + rc % 65536)
        .next (((s.hapIdle c 1).hapOwn c .ok).psetChanged.calEvent c .ok 0)

/-- The HAPTIC_FAULT event (R471). -/
def State.hapFaultEvent (s : State) (c why : Nat) : State := s.emitPf 0x92 .fault (why * 2 ^ 28 + c % 256)

/-- A short (R438). -/
def execHapShort (dt c : Nat) (s : State) : Host.Outcome State Fault Refusal :=
  let s := s.tick dt
  if s.row.haptics ≤ c ∨ s.hapState c = 0 ∨ s.hapState c = 7 then .next s
  else .next ((s.hapIdle c 7).hapFaultEvent c 1)

/-- A read of the accelerometer: its sample, or none when it fails (R441). -/
def execAccelRead (dt c : Nat) (v : Option Word) (s : State) : Host.Outcome State Fault Refusal :=
  let s := s.tick dt
  if s.row.haptics ≤ c ∨ ¬ s.rb (hapReg c 0) 31 ∨ s.rf (hapReg c 0) 27 26 ≠ 1 ∨ s.rb (hapReg c 0x20) 25 then .next s
  else
    match v with
    | some w => .next (s.mHap c fun h => { h with fails := 0, sample := w })
    | none =>
      let s := (s.satf 0x03A00010 15 0 1).mHap c fun h => { h with fails := h.fails + 1 }
      if (s.hap c).fails = 3 then .next ((s.wb (hapReg c 0x20) 25 true).hapFaultEvent c 2) else .next s

/-! ### Protection (R455 to R459) -/

/-- A 10 ms bin ends: its drive time is kept and the pending trigger checked again (R455, R457). -/
def execHapBinBoundary (dt c : Nat) (s : State) : Host.Outcome State Fault Refusal :=
  let s := s.tick dt
  if s.row.haptics ≤ c then .next s
  else
    let s := (s.hapCount c).mHap c fun h => { h with bins := (h.bin :: h.bins).take 1000, bin := 0 }
    let s := s.hapCount c
    match (s.hap c).pend with
    | none => .next s
    | some (i, _) =>
      let e := tget 0 s.panel.lib (hsEntry (s.hslot i))
      if s.hapState c = 0 ∨ s.hapState c = 2 ∨ s.hapState c = 7 then .next s
      else if hapEntryBad e (s.rb (hapReg c 0) 28) then .next ((s.hapUnpend c).hslotResult i .badParam)
      else if s.hapRefusal c e = 0 then .next ((s.hapUnpend c).hapTake c i)
      else .next s

/-- A pending trigger has waited WAIT_MS (R457). -/
def execHapticDropped (dt c : Nat) (s : State) : Host.Outcome State Fault Refusal :=
  let s := s.tick dt
  match (s.hap c).pend with
  | none => .next s
  | some (_, t) => if t + s.rf (hapReg c 8) 23 16 * 1000000 ≤ s.now then .next (s.hapDrop c) else .next s

/-- The rest of a channel ends (R458). -/
def execHapRestEnd (dt c : Nat) (s : State) : Host.Outcome State Fault Refusal :=
  let s := s.tick dt
  let h := s.hap c
  if s.row.haptics ≤ c ∨ ¬ h.resting ∨ s.hapState c ≠ 6 then .next s
  else if s.now < h.phaseAt + s.rf (hapReg c 0xC) 31 16 * 1000000 then .next s
  else .next (s.hapIdle c 1)

/-- The coil model, every 1 ms (R459): `irms` is the current of the last ms in mA, `amb` the reading of the nearest die sensor in
Q8.8 °C. dT is kept in units of 2^-16 °C, rounded toward minus infinity (log entry 39). -/
def execCoilModelUpdate (dt c irms : Nat) (amb : Word) (s : State) : Host.Outcome State Fault Refusal :=
  let s := s.tick dt
  let rth := s.rf (hapReg c 0x10) 31 16
  if s.row.haptics ≤ c ∨ rth = 0 ∨ ¬ s.rb (hapReg c 0) 31 then .next s
  else
    let goal : Int := (irms * irms * s.rf (hapReg c 0x24) 15 0 * rth * 65536 / 10000000000 : Nat)
    let heat := (s.hap c).heat + (goal - (s.hap c).heat) / ((max 1 (s.rf (hapReg c 0x10) 15 0) : Nat) : Int)
    let t := sext 16 amb.toNat + heat / 256
    let tmax : Int := s.rf (hapReg c 0xC) 15 8
    let s := (s.mHap c fun h => { h with heat := heat }).wr (hapReg c 0x2C) (tobits 16 (clampI (-32768) 32767 t))
    if !(s.hap c).hot && tmax * 256 ≤ t then
      let s := (s.hapBrake c).mHap c fun h => { h with hot := true }
      .next (s.emitPf 0x94 .throttled (s.rf (hapReg c 0x2C) 15 0 * 2 ^ 16 + c % 256))
    else if t < (tmax - 10) * 256 then .next (s.mHap c fun h => { h with hot := false })
    else .next s

/-! ### Reflex bindings (R460 to R466) -/

/-- Fields of a binding's parameter block (R461). -/
def rxZone (p : Nat) : Nat := bits p 31 0
def rxTrigger (p : Nat) : Nat := bits p 35 32
def rxNotify (p : Nat) : Bool := bit p 38
def rxSkipUnconfirmed (p : Nat) : Bool := bit p 39
def rxHslot (p : Nat) : Nat := bits p 95 64
def rxLayer (p : Nat) : Nat := bits p 127 96
def rxPlayer (p : Nat) : Nat := bits p 135 128
def rxPlayerEn (p : Nat) : Bool := bit p 136
def rxHlMode (p : Nat) : Nat := bits p 139 138
def rxHlMs (p : Nat) : Nat := bits p 159 144

/-- TYPE of a zone's parameter block (R426): 0 button, 1 slider, 2 wheel. -/
def zoneType (p : Nat) : Nat := bits p 7 6

/-- Whether a zone of a type can raise a trigger (R461, R462). -/
def canRaise (ty trig : Nat) : Bool :=
  match trig with
  | 0 => true
  | 1 => true
  | 2 => ty == 1
  | 3 => ty == 2
  | 4 => ty == 2
  | 5 => ty == 2
  | _ => false

/-- The bindings of a zone, in ascending index: those whose zone handle is current (R463, R465). -/
def State.bindsOf (s : State) (z : Nat) : List (Nat × Nat) :=
  s.panel.binds.filter fun b => (s.chan kReflex b.1).phase == .live && rxZone b.2 == s.handleWord kZone z

/-- CREATE of a reflex binding (R461, R462). -/
def execCreateReflexBinding (dt w : Nat) (ext : Option Bytes) (s : State) : Host.Outcome State Fault Refusal :=
  let s := s.tick dt
  match s.ctlWaits w 1 kReflex with
  | none => .next s
  | some e =>
    if e.paramLen ≠ 24 then .next (s.ctlDone w e .badParam 0)
    else
      match s.params w e ext with
      | (none, t) => .next (s.createFault t w e (s.pickIndex w kReflex).isNone)
      | (some b, s) =>
        let p := leNat b
        let named := [(kZone, rxZone p)] ++ (if rxHslot p = 0 then [] else [(kHslot, rxHslot p)]) ++
          (if rxLayer p = 0 then [] else [(kLayer, rxLayer p)])
        let fails (st : Status) : Bool := named.any fun n => match s.handleCheck w n.1 n.2 with | .error x => x == st | .ok _ => false
        let zone := match s.handleCheck w kZone (rxZone p) with | .ok z => some z | .error _ => none
        let raises := match zone with | some z => canRaise (zoneType (tget ({} : ZoneSt) s.panel.zones z).params) (rxTrigger p) | none => true
        let st := byR19 [
          (w != pfWin && rxPlayerEn p && (63 < rxPlayer p || !bit (s.rd64 (0x03A81000 + w * 8)) (rxPlayer p)), .denied),
          (fails .badHandle, .badHandle), (fails .staleHandle, .staleHandle),
          (bits p 191 160 != 0 || bits p 143 140 != 0 || bit p 137 || bits p 63 40 != 0 || bits p 37 36 != 0 || 5 < rxTrigger p
            || 63 < rxPlayer p || !raises || (rxHslot p == 0 && !rxPlayerEn p && rxHlMode p == 0)
            || ((rxHlMode p != 0) != (rxLayer p != 0)) || ((rxHlMode p == 3) != (rxHlMs p != 0)), .badParam),
          ((s.pickIndex w kReflex).isNone || (match zone with | some z => 8 ≤ (s.bindsOf z).length | none => false), .noResource)]
        match st with
        | .ok =>
          let i := (s.pickIndex w kReflex).getD 0
          let s := s.mPanel fun q => { q with binds := tset 0 q.binds i p, fires := tset (0, 0) q.fires i (0, 0) }
          .next (s.createDone w e kReflex i)
        | st => .next (s.ctlDone w e st 0)

/-- The reflex highlight flag of a layer written; the next composition of its pipe has something to do (R149, R150). -/
def State.setHighlight (s : State) (i : Nat) (on : Bool) : State := s.wb (layerReg i 4) 24 on

/-- The haptic action of a binding: whether it was issued (R464, R465). An entry that starts nothing loads no RESULT (R444). -/
def State.rxHaptic (s : State) (w p : Nat) : Bool × State :=
  match s.handleCheck w kHslot (rxHslot p) with
  | .error _ => (false, s)
  | .ok i =>
    let (st, s) := s.hapTrigger i
    (st == .ok || st == .throttled, if st = .badParam then s else s.hslotResult i st)

/-- The chime action (R464, R465). -/
def State.rxChime (s : State) (p : Nat) : Bool × State :=
  if (s.player (rxPlayer p)).bad || !(s.dom 0).running then (false, s) else (true, s.playerTrigger (rxPlayer p))

/-- The highlight action (R464, R465). -/
def State.rxHighlight (s : State) (w p : Nat) : Bool × State :=
  match s.handleCheck w kLayer (rxLayer p) with
  | .error _ => (false, s)
  | .ok i =>
    let t := if rxHlMode p = 3 then some (s.now + rxHlMs p * 1000000) else none
    (true, (s.mPanel fun q => { q with pulses := tset none q.pulses i t }).setHighlight i (rxHlMode p != 2))

/-- One action of a binding, if it has it: its bits in REFLEX_FIRED, issued and skipped, are added to `acc` (R465, R471). -/
def State.rxAction (s : State) (has : Bool) (place : Nat) (acc : Nat) (run : State → Bool × State) : Nat × State :=
  if !has then (acc, s)
  else
    match run s with
    | (true, s) => (acc + 2 ^ (29 + place), s)
    | (false, s) => (acc + 2 ^ (26 + place), s.rcCount 0x03A80010 1)

/-- A binding fires (R463 to R465). -/
def State.rxFire (s : State) (b p : Nat) : State :=
  let w := (s.chan kReflex b).owner
  let s := s.incr64 0x03A80008 1
  let s := s.mPanel fun q => { q with fires := tmod (0, 0) q.fires b fun c => (satAdd 32 c.1 1, c.2) }
  let (acc, s) := s.rxAction (rxHslot p != 0) 2 0 fun s => s.rxHaptic w p
  let (acc, s) := s.rxAction (rxPlayerEn p) 1 acc fun s => s.rxChime p
  let (acc, s) := s.rxAction (rxHlMode p != 0) 0 acc fun s => s.rxHighlight w p
  let lost := bits acc 26 26 + bits acc 27 27 + bits acc 28 28
  let s := s.mPanel fun q => { q with fires := tmod (0, 0) q.fires b fun c => (c.1, satAdd 32 c.2 lost) }
  if rxNotify p then s.emit w 0x95 .ok (s.handleWord kReflex b) acc else s

/-- A zone event reaches the reflex engine: code 0 press, 1 release, 2 move, 4 a clockwise and 5 an anticlockwise detent (R460, R463,
R466). -/
def State.reflexEvent (s : State) (z code : Nat) (unconfirmed : Bool) : State :=
  if !s.unitUp 0x62 0 then s
  else
    (s.bindsOf z).foldl (fun s b =>
      if (rxTrigger b.2 == code || (rxTrigger b.2 == 3 && 4 ≤ code)) && !(rxSkipUnconfirmed b.2 && unconfirmed) then s.rxFire b.1 b.2
      else s) s

/-- The reflex engine faults or is reset: flags clear and pulses are cancelled (R466). -/
def State.reflexDown (s : State) : State :=
  let s := (List.range 512).foldl (fun s i => if s.rb (layerReg i 4) 24 then s.setHighlight i false else s) s
  s.mPanel fun p => { p with pulses := [] }

/-- A highlight pulse ends (R464). -/
def execHlPulseEnd (dt i : Nat) (s : State) : Host.Outcome State Fault Refusal :=
  let s := s.tick dt
  match tget none s.panel.pulses i with
  | none => .next s
  | some t =>
    if s.now < t then .next s
    else .next ((s.mPanel fun p => { p with pulses := tset none p.pulses i none }).setHighlight i false)

end Sys2Proof.Machine
end

