-- ==== Sys2Proof/Machine/Touch.lean ====
section
/-!
DEFINITION. Touch: sense blocks, electrodes, baselines, hops and zones (Touch surfaces). The wake scanner's effects on power are in Power.
-/
namespace Sys2Proof.Machine

/-- The registers of sense block b and of electrode e (R433). -/
def blkReg (b off : Nat) : Nat := 0x03801000 + b * 0x40 + off
def elReg (e off : Nat) : Nat := 0x03810000 + e * 0x20 + off

/-- A sense block and an electrode beyond their registers, and a zone. -/
def State.blk (s : State) (b : Nat) : BlkSt := tget {} s.panel.blks b
def State.mBlk (s : State) (b : Nat) (f : BlkSt → BlkSt) : State := s.mPanel fun p => { p with blks := tmod {} p.blks b f }
def State.elec (s : State) (e : Nat) : ElSt := tget {} s.panel.els e
def State.mElec (s : State) (e : Nat) (f : ElSt → ElSt) : State := s.mPanel fun p => { p with els := tmod {} p.els e f }
def State.zone (s : State) (z : Nat) : ZoneSt := tget {} s.panel.zones z
def State.mZone (s : State) (z : Nat) (f : ZoneSt → ZoneSt) : State := s.mPanel fun p => { p with zones := tmod {} p.zones z f }

/-- The sense blocks of the part (R407). -/
def State.blocks (s : State) : Nat := s.row.electrodes / 32

/-- TOUCH_STATUS.RESULT and TBLK_STATUS.RESULT written (R433, R434). -/
def State.touchResult (s : State) (st : Status) : State := s.wf 0x03800008 6 0 st.code
def State.blkResult (s : State) (b : Nat) (st : Status) : State := s.wf (blkReg b 0x10) 22 16 st.code

/-- Fields of TBLK_CTRL and TBLK_TIMING (R434). -/
def tbCharge (c : Nat) : Bool := bit c 30
def tbTol (c : Nat) : Nat := bits c 27 24 * 16
def tbTrack (c : Nat) : Nat := bits c 23 20
def tbDebounce (c : Nat) : Nat := bits c 17 16 + 1
def tbCycles (c : Nat) : Nat := bits c 10 0
def tbPeriod (t : Nat) : Nat := bits t 31 15
def tbGate (t : Nat) : Nat := bits t 9 0

/-- The check of a block's settings (R411). -/
def blkCheck (ctrl timing phase : Nat) : Status :=
  byR19 [
    (tbCycles ctrl < 8 || 1024 < tbCycles ctrl || tbPeriod timing < 1000 || 100000 < tbPeriod timing || tbGate timing < 10
      || 1000 < tbGate timing, .badParam),
    (tbPeriod timing < 2 * tbGate timing + 20 || tbPeriod timing ≤ bits phase 16 0, .badGeometry)]

/-! ### Electrode states (R413 to R420) -/

/-- TEL_STATUS.STATE: 0 IDLE, 1 TOUCH, 2 WITHDRAWN, 3 FAULT, 4 OFF (R434). -/
def State.elState (s : State) (e : Nat) : Nat := s.rf (elReg e 0x18) 31 29

/-- An electrode enters a state; its consecutive counts restart (R414). -/
def State.elEnter (s : State) (e st : Nat) : State :=
  (s.wf (elReg e 0x18) 31 29 st).mElec e fun x => { x with up := 0, down := 0, oor := 0, inr := 0, exc := 0 }

/-- The electrode's baseline is set afresh and it enters IDLE (R420, R423): B in 24.8, confirmed or not, and FROM_NVM. Spans of time count from
scan start to scan start (log entry 40). The counts of readings in and out of range go on where the state stays IDLE (R414). -/
def State.elBase (s : State) (e base : Nat) (confirmed nvm : Bool) : State :=
  let s := s.wr (elReg e 0x10) base
  let s := if s.elState e = 0 then s.mElec e fun x => { x with up := 0, down := 0, exc := 0 } else s.elEnter e 0
  let s := (s.wb (elReg e 0x18) 28 (!confirmed)).wb (elReg e 0x18) 27 nvm
  s.mElec e fun x => { x with fresh := 0, idleAt := (s.blk (e / 32)).startAt }

/-- The stored baseline a first scan may take: b_s, where it was recorded with the mode and setting in use and lies near `r` (R420). -/
def State.elStored (s : State) (b e r : Nat) : Option Nat :=
  let w := tget 0 s.start.pset.base e
  let bs := bits w 23 0
  let tol := tbTol (s.blk b).ctrl
  if bs = 0 ∨ tol = 0 ∨ bit w 28 ≠ tbCharge (s.blk b).ctrl ∨ bits w 31 29 ≠ s.rf (blkReg b 0x10) 29 27 then none
  else if (r - bs + (bs - r)) * 256 ≤ bs * tol then some bs
  else none

/-- An electrode baselined afresh by R420 with reading `r`. -/
def State.elFresh (s : State) (b e r : Nat) : State :=
  match (if (s.elec e).fresh = 1 then s.elStored b e r else none) with
  | some bs => s.elBase e (bs * 256) true true
  | none => s.elBase e (r * 256) false false

/-- The signal of a reading against a baseline (R413). -/
def elSignal (charge : Bool) (base r : Nat) : Int := if charge then (r : Int) - (base / 256 : Nat) else (base / 256 : Nat) - (r : Int)

/-- The ELECTRODE_FAULT event (R435). -/
def State.elFaultEvent (s : State) (e : Nat) (entered : Bool) : State := s.emitPf 0x86 .fault (b2n entered * 2 ^ 31 + e)

/-- TEL_SIGNAL shows the signal of reading `r` against the baseline as it stands (R413). -/
def State.elShow (s : State) (b e r : Nat) : State :=
  s.wr (elReg e 0x14) (tobits 32 (elSignal (tbCharge (s.blk b).ctrl) (s.rd (elReg e 0x10)) r))

/-- The baseline follows the reading (R416). -/
def trackBase (base r track : Nat) : Nat := (((base : Int) + (((r : Int) * 256 - base) / ((2 ^ track : Nat) : Int))).toNat) % 2 ^ 32

/-- An electrode at rest or withdrawn: excursion, tracking, touch, and confirmation (R414, R416, R417, R419). A scan that has just taken the
baseline does not track (R420, R421; log entry 40). -/
def State.elRest (s : State) (b e r : Nat) (based : Bool) : State :=
  let x := s.elec e
  let ctrl := (s.blk b).ctrl
  let base := s.rd (elReg e 0x10)
  let sg := elSignal (tbCharge ctrl) base r
  let touchTh : Int := bits x.thresh 15 0
  let relTh : Int := bits x.thresh 31 16
  let idle := s.elState e == 0
  let up := if idle && touchTh ≤ sg then x.up + 1 else 0
  let down := if !idle && sg < relTh then x.down + 1 else 0
  let exc := if sg ≤ -touchTh then x.exc + 1 else 0
  let at_ := (s.blk b).startAt
  let s := s.mElec e fun x => { x with up := up, down := down, exc := exc }
  if 2 ≤ exc then ((s.elBase e (r * 256) false false).elShow b e r).emitPf 0x87 .ok e
  else if tbDebounce ctrl ≤ up then (s.elEnter e 1).mElec e fun x => { x with touchAt := at_ }
  else
    let s := if tbDebounce ctrl ≤ down then (s.elEnter e 0).mElec e fun x => { x with idleAt := at_ } else s
    let s := if based then s else s.wr (elReg e 0x10) (trackBase base r (tbTrack ctrl))
    if s.elState e = 0 ∧ s.rb (elReg e 0x18) 28 ∧ (s.elec e).idleAt + 2000000000 ≤ at_ then
      (s.wb (elReg e 0x18) 28 false).psetChanged
    else s

/-- A touched electrode: released, withdrawn or held (R414, R418). -/
def State.elTouched (s : State) (b e r : Nat) : State :=
  let x := s.elec e
  let sg := elSignal (tbCharge (s.blk b).ctrl) (s.rd (elReg e 0x10)) r
  let down := if sg < (bits x.thresh 31 16 : Int) then x.down + 1 else 0
  let s := s.mElec e fun x => { x with down := down }
  let limit := min 3600 (bits x.long 11 0)
  let at_ := (s.blk b).startAt
  if tbDebounce (s.blk b).ctrl ≤ down then (s.elEnter e 0).mElec e fun x => { x with idleAt := at_ }
  else if limit ≠ 0 ∧ x.touchAt + limit * 1000000000 < at_ then s.elEnter e 2
  else s

/-- One electrode at a scan that is not a hop scan (R414). An electrode in FAULT is baselined when it leaves FAULT. -/
def State.elScan (s : State) (b e r noise : Nat) : State :=
  let x := s.elec e
  if !bit x.ctrl 31 then s
  else
    let oor := r == 0 || r == 0xFFFFFF
    let s := ((s.wr (elReg e 0xC) r).wr (elReg e 0x1C) (noise % 65536)).mElec e fun x =>
      { x with raw := r, oor := if oor then x.oor + 1 else 0, inr := if oor then 0 else x.inr + 1 }
    let s := s.elShow b e r
    match s.elState e with
    | 3 => if 3 ≤ (s.elec e).inr then ((s.elBase e (r * 256) false false).elShow b e r).elFaultEvent e false else s
    | st =>
      if st = 4 ∨ (x.fresh ≠ 0 ∧ (s.elec e).oor < 3) then
        (if x.fresh = 0 then s else ((s.elFresh b e r).elShow b e r).elRest b e r true)
      else if 3 ≤ (s.elec e).oor then (s.elEnter e 3).elFaultEvent e true
      else if st = 1 then s.elTouched b e r
      else s.elRest b e r false

/-- The electrodes of a block. -/
def blkEls (b : Nat) : List Nat := (List.range 32).map (b * 32 + ·)

/-- The electrodes of a block that its scan measures. -/
def State.sensed (s : State) (b : Nat) : List Nat := (blkEls b).filter fun e => bit (s.elec e).ctrl 31

/-! ### Zones (R426 to R430) -/

/-- Fields of a zone's parameter block (R426). -/
def zCount (p : Nat) : Nat := bits p 4 0
def zEvents (p : Nat) : Nat := bits p 10 8
def zDetents (p : Nat) : Nat := bits p 47 40
def zStep (p : Nat) : Nat := bits p 63 48
def zEl (p i : Nat) : Nat := bits p (79 + 16 * i) (64 + 16 * i)
def zEls (p : Nat) : List Nat := (List.range (min 16 (zCount p))).map (zEl p)

/-- The live zones of a block, in ascending index. -/
def State.zonesOf (s : State) (b : Nat) : List Nat :=
  (s.panel.zones.filter fun z => (s.chan kZone z.1).phase == .live && zEl z.2.params 0 / 32 == b).map (·.1)

/-- The interpolation values of a zone's electrodes (R428). -/
def State.zoneSignals (s : State) (p : Nat) : List Nat :=
  (zEls p).map fun e => if s.elState e ≤ 1 then (sext 32 (s.rd (elReg e 0x14))).toNat else 0

/-- The electrode with the largest value, the lowest on a tie (R428). -/
def largest (xs : List Nat) : Nat :=
  ((List.range xs.length).foldl (fun m i => if xs.getD m 0 < xs.getD i 0 then i else m) 0)

/-- A slider position; `none` where the sum is 0 (R428). -/
def sliderPos (xs : List Nat) : Option Nat :=
  let n := xs.length
  let m := largest xs
  let w := (List.range n).filter fun i => i + 1 = m ∨ i = m ∨ i = m + 1
  let sum := w.foldl (fun t i => t + xs.getD i 0) 0
  let q := w.foldl (fun t i => t + i * xs.getD i 0) 0
  if sum = 0 then none else some ((2 * 65535 * q + sum * (n - 1)) / (2 * sum * (n - 1)))

/-- A wheel angle; `none` where the sum is 0 (R428). -/
def wheelAngle (xs : List Nat) : Option Nat :=
  let n := xs.length
  let m := largest xs
  let before := xs.getD ((m + n - 1) % n) 0
  let after := xs.getD ((m + 1) % n) 0
  let sum := before + xs.getD m 0 + after
  let num : Int := ((m * sum + after : Nat) : Int) - (before : Int)
  if sum = 0 then none else some (((2 * 65536 * num + ((n * sum : Nat) : Int)) / ((2 * n * sum : Nat) : Int)) % 65536).toNat

/-- The position of a pressed zone, which keeps its last one where no electrode of the sum has a signal (R428). -/
def State.zonePos (s : State) (z : Nat) : Option Nat :=
  let p := (s.zone z).params
  match zoneType p with
  | 1 => sliderPos (s.zoneSignals p)
  | 2 => wheelAngle (s.zoneSignals p)
  | _ => some 0

/-- A zone event: its kind, and the code the reflex engine takes (R429, R435). -/
structure ZoneEvent where
  zone : Nat
  kind : Nat
  detail : Nat
  code : Nat
  toVi : Bool
  deriving DecidableEq, Repr, Inhabited

/-- Whether an electrode of a zone is UNCONFIRMED. -/
def State.zoneUnconfirmed (s : State) (z : Nat) : Bool := (zEls (s.zone z).params).any fun e => s.rb (elReg e 0x18) 28

/-- ZONE_RELEASE of a pressed zone, with its last position. -/
def State.zoneReleaseEvent (s : State) (z : Nat) : ZoneEvent :=
  ⟨z, 0x81, b2n (s.zoneUnconfirmed z) * 2 ^ 31 + (s.zone z).pos, 1, bit (zEvents (s.zone z).params) 1⟩

/-- The detent events of a wheel that moved from index `i0` by `d` steps (R429). -/
def detents (z : Nat) (toVi : Bool) (unc angle n i0 : Nat) (d : Int) : List ZoneEvent :=
  (List.range d.natAbs).map fun (k : Nat) =>
    let i := (((i0 : Int) + (if 0 < d then (k : Int) + 1 else -((k : Int) + 1))) % (n : Int)).toNat
    ⟨z, 0x83, unc * 2 ^ 31 + b2n (decide (0 < d)) * 2 ^ 30 + i * 2 ^ 16 + angle, if 0 < d then 4 else 5, toVi⟩

/-- A zone at a scan: its events and the state after it (R428, R429). -/
def State.zoneScan (s : State) (z : Nat) : List ZoneEvent × State :=
  let t := s.zone z
  let p := t.params
  let unc := b2n (s.zoneUnconfirmed z)
  let pressed := (zEls p).any fun e => s.elState e == 1
  if !pressed then
    if t.pressed then ([s.zoneReleaseEvent z], s.mZone z fun t => { t with pressed := false }) else ([], s)
  else
    let d := zDetents p
    match s.zonePos z with
    | none =>
      if t.pressed then ([], s)
      else ([⟨z, 0x80, unc * 2 ^ 31 + t.pos, 0, bit (zEvents p) 0⟩], s.mZone z fun t => { t with pressed := true, last := t.pos, index := t.pos * d / 65536 })
    | some pos =>
      let i := pos * d / 65536
      if !t.pressed then
        ([⟨z, 0x80, unc * 2 ^ 31 + pos, 0, bit (zEvents p) 0⟩], s.mZone z fun t => { t with pressed := true, pos := pos, last := pos, index := i })
      else
        let s := s.mZone z fun t => { t with pos := pos }
        if zoneType p = 1 ∧ zStep p ≠ 0 ∧ zStep p ≤ pos - t.last + (t.last - pos) then
          ([⟨z, 0x82, unc * 2 ^ 31 + pos, 2, bit (zEvents p) 2⟩], s.mZone z fun t => { t with last := pos })
        else if zoneType p = 2 ∧ d ≠ 0 then
          let m := (i + d - t.index) % d
          let step : Int := if d / 2 < m then (m : Int) - d else m
          (detents z (bit (zEvents p) 2) unc pos d t.index step, s.mZone z fun t => { t with index := i })
        else ([], s)

/-- Zone events written to the owning VIs, and then fired by the reflex engine, in order (R429, R463). -/
def State.zoneEvents (s : State) (evs : List ZoneEvent) : State :=
  let s := evs.foldl (fun s v => if v.toVi then s.emit (s.chan kZone v.zone).owner v.kind (if v.kind = 0x84 then .timeout else .ok)
    (s.handleWord kZone v.zone) v.detail else s) s
  evs.foldl (fun s v => if v.kind = 0x84 then s else s.reflexEvent v.zone v.code (bit v.detail 31)) s

/-- The zones of a block that are pressed release (R412, R432). -/
def State.zonesRelease (s : State) (b : Nat) : State :=
  let zs := (s.zonesOf b).filter fun z => (s.zone z).pressed
  let evs := zs.map s.zoneReleaseEvent
  (zs.foldl (fun s z => s.mZone z fun t => { t with pressed := false }) s).zoneEvents evs

/-- The zones of a block at a scan: stuck electrodes first, then press or release, then movement (R418, R429). -/
def State.zonesScan (s : State) (stuck : List Nat) : List Nat → List ZoneEvent × State
  | [] => ([], s)
  | z :: r =>
    let st := ((zEls (s.zone z).params).filter stuck.contains).map fun e => (⟨z, 0x84, e, 6, true⟩ : ZoneEvent)
    let (a, s) := s.zoneScan z
    let (more, s) := s.zonesScan stuck r
    (st ++ a ++ more, s)

/-- The VI an electrode is assigned to, or the PF: the OWNER its block scans under, or the one written while none is (R415, R425). -/
def State.elOwner (s : State) (e : Nat) : Nat :=
  let k := s.blk (e / 32)
  if s.rb (blkReg (e / 32) 0x10) 31 && !(k.first && k.scan == 0) then bits (s.elec e).ctrl 15 0 else s.rf (elReg e 0) 15 0

/-- CREATE of a touch zone (R426, R427). -/
def execCreateTouchZone (dt w : Nat) (ext : Option Bytes) (s : State) : Host.Outcome State Fault Refusal :=
  let s := s.tick dt
  match s.ctlWaits w 1 kZone with
  | none => .next s
  | some e =>
    if e.paramLen ≠ 40 then .next (s.ctlDone w e .badParam 0)
    else
      match s.params w e ext with
      | (none, t) => .next (s.createFault t w e (s.pickIndex w kZone).isNone)
      | (some b, s) =>
        let p := leNat b
        let n := zCount p
        let els := zEls p
        let here := els.filter fun e => e < s.row.electrodes
        let lowest := match zoneType p with | 0 => 1 | 1 => 2 | _ => 3
        let st := byR19 [
          (here.any fun e => s.elOwner e != w, .denied),
          (here.any fun e => s.rb (elReg e 0x18) 26, .badState),
          (zoneType p == 3 || n < lowest || 16 < n || bits p 39 11 != 0 || bit p 5 || (zoneType p != 1 && zStep p != 0)
            || (zoneType p != 2 && zDetents p != 0) || (List.range 16).any (fun i => n ≤ i && zEl p i != 0)
            || here.length != els.length || els.any (fun e => decide (1 < els.count e)), .badParam),
          (els.any fun e => e / 32 != zEl p 0 / 32, .badGeometry),
          ((s.pickIndex w kZone).isNone, .noResource)]
        match st with
        | .ok =>
          let i := (s.pickIndex w kZone).getD 0
          let s := s.mPanel fun q => { q with zones := tset {} q.zones i { params := p } }
          let s := els.foldl (fun s e => (s.wb (elReg e 0x18) 26 true).wf (elReg e 0x18) 17 0 i) s
          .next (s.createDone w e kZone i)
        | st => .next (s.ctlDone w e st 0)

/-- The electrodes of a zone that is held show it (R434). -/
def State.zoneHold (s : State) (z : Nat) (t : ZoneSt) : State :=
  if (s.chan kZone z).phase = .live then (zEls t.params).foldl (fun s e => (s.wb (elReg e 0x18) 26 true).wf (elReg e 0x18) 17 0 z) s else s

/-- A DESTROY of a zone releases its electrodes at once (R427). -/
def State.zoneDestroy (s : State) (z : Nat) : State :=
  (zEls (s.zone z).params).foldl (fun s e => (s.wb (elReg e 0x18) 26 false).wf (elReg e 0x18) 17 0 0) s

/-- A destroyed zone has left. -/
def State.zoneGone (s : State) (z : Nat) : State := s.mPanel fun q => { q with zones := tdel q.zones z }

/-- The block QUERY of a zone writes (R430). -/
def State.zoneQuery (s : State) (z : Nat) : Bytes :=
  let t := s.zone z
  leBytes (b2n ((zEls t.params).any fun e => s.elState e == 3) * 2 ^ 18 + b2n (s.zoneUnconfirmed z) * 2 ^ 17 + b2n t.pressed * 2 ^ 16 + t.pos) 8

/-! ### Blocks (R408 to R412, R421 to R424) -/

/-- Another world's claim on a sense block keeps a requester out of its registers and its electrodes' (R433). -/
def State.blkClaimed (s : State) (b : Nat) (r : Req) : Bool := s.claimedFor 0x60 b r

/-- A word written to one of a block's four settings registers: held while the block runs, and refused when the check fails (R411). -/
def State.blkWrite (s : State) (b off v : Nat) : State :=
  let t := s.wr (blkReg b off) v
  if off = 0 ∧ bit v 31 ∧ ¬ s.rb (blkReg b 0x10) 31 then
    match blkCheck v (s.rd (blkReg b 4)) (s.rd (blkReg b 8)) with
    | .ok =>
      let t := t.mBlk b fun k =>
        { k with ctrl := v, timing := s.rd (blkReg b 4), phase := s.rd (blkReg b 8), noiseTh := s.rd (blkReg b 0xC), first := true,
                 ovr := 0, scan := 0 }
      let start := tget 0 s.start.pset.setting b % 8
      (((t.wb (blkReg b 0x10) 31 true).wb (blkReg b 0x10) 30 false).wf (blkReg b 0x10) 29 27 start).blkResult b .ok
    | st => (t.wb (blkReg b 0) 31 false).blkResult b st
  else if s.rb (blkReg b 0x10) 31 then
    if off = 0 ∧ ¬ bit v 31 then t
    else
      match blkCheck (t.rd (blkReg b 0)) (t.rd (blkReg b 4)) (t.rd (blkReg b 8)) with
      | .ok => t.blkResult b .ok
      | st => s.blkResult b st
  else t

/-- A write of TBLK_CTRL.ENABLE = 1 (R411). -/
def execTblkEnable (dt : Nat) (r : Req) (b : Nat) (v : Word) (s : State) : Host.Outcome State Fault Refusal :=
  let s := s.tick dt
  if s.blocks ≤ b then .next s
  else if s.blkClaimed b r then .next (s.touchResult .claimed)
  else .next (s.blkWrite b 0 ((v.toNat ||| 0x80000000) &&& 0xCFF307FF))

/-- The block stops: its zones release (R432, R598). -/
def State.blkStop (s : State) (b : Nat) : State :=
  let s := s.zonesRelease b
  ((s.wb (blkReg b 0x10) 31 false).wb (blkReg b 0x10) 30 false).mBlk b fun k => { k with scan := 0, ovr := 0, first := false }

/-- A block faults or is reset: its zones release, and on return every electrode is baselined as after enable (R432). -/
def State.blkDown (s : State) (b : Nat) : State :=
  let on := s.rb (blkReg b 0x10) 31
  let s := (s.zonesRelease b).mBlk b fun k => { k with scan := 0, ovr := 0, first := on }
  s.wb (blkReg b 0x10) 30 false

/-- Held words take effect at a scan start, and the electrodes' words are taken (R411, R412, R415). -/
def State.scanTake (s : State) (b : Nat) : State :=
  let k := s.blk b
  let ctrl := s.rd (blkReg b 0)
  let timing := s.rd (blkReg b 4)
  let changed := tbCharge ctrl != tbCharge k.ctrl || tbCycles ctrl != tbCycles k.ctrl || tbGate timing != tbGate k.timing
  let s := if changed && !k.first then s.zonesRelease b else s
  let fresh := if k.first then 1 else if changed then 2 else 0
  let s := s.mBlk b fun k => { k with ctrl := ctrl, timing := timing, phase := s.rd (blkReg b 8), noiseTh := s.rd (blkReg b 0xC) }
  (blkEls b).foldl (fun s e =>
    let c := s.rd (elReg e 0)
    let off := s.elState e == 4
    let s := s.mElec e fun x =>
      { x with ctrl := c, thresh := s.rd (elReg e 4), long := s.rd (elReg e 8),
               fresh := if fresh ≠ 0 then fresh else if off then 2 else x.fresh }
    if bit c 31 then s else s.elEnter e 4) s

/-- A scan starts, or is skipped while a scan with eight noise windows runs (R408, R421, R424). -/
def execScanStart (dt b : Nat) (s : State) : Host.Outcome State Fault Refusal :=
  let s := s.tick dt
  if s.blocks ≤ b ∨ ¬ s.rb (blkReg b 0x10) 31 ∨ ¬ s.unitUp 0x60 b then .next s
  else if (s.blk b).scan = 2 ∨ (s.blk b).scan = 1 ∧ (s.blk b).first then .next (s.sat (blkReg b 0x24) 1)
  else if !s.rb (blkReg b 0) 31 then .next (s.blkStop b)
  else
    let s := s.scanTake b
    let hop := s.rb (blkReg b 0x10) 30
    .next (s.mBlk b fun k => { k with scan := if hop then 2 else 1, startAt := s.now })

/-- TBLK_SURVEY shows the noise of the eight settings (R423). -/
def State.showSurvey (s : State) (b : Nat) (survey : List Nat) : State :=
  (List.range 4).foldl (fun s k => s.wr (blkReg b (0x28 + k * 4)) (survey.getD (2 * k + 1) 0 % 65536 * 2 ^ 16 + survey.getD (2 * k) 0 % 65536)) s

/-- The quietest setting: the one in use on a tie, then the lowest (R423). -/
def quietest (survey : List Nat) (old : Nat) : Nat :=
  (List.range 8).foldl (fun m h => if survey.getD h 0 < survey.getD m 0 ∨ (survey.getD h 0 = survey.getD m 0 ∧ h < m ∧ m ≠ old) then h else m) old

/-- The nominal frequency of a setting in kHz (R410). -/
def settingKHz (h : Nat) : Nat := [250, 350, 500, 700, 1000, 1400, 2000, 2800].getD h 250

/-- A hop scan ends (R423). NOISE shows N at the setting in use after it (R422). Where Σ r_old is 0 with electrodes in IDLE, the spec gives the
ratio no value: the baselines take free values (log entry 40). -/
def State.hopScan (s : State) (b : Nat) (readings noise survey : List Nat) : State :=
  let old := s.rf (blkReg b 0x10) 29 27
  let new := quietest survey old
  let s := (((s.showSurvey b survey).wb (blkReg b 0x10) 30 false).wf (blkReg b 0x10) 15 0 (min (survey.getD new 0) 65535)).mBlk b fun k => { k with ovr := 0 }
  if new = old then s
  else
    let on := (s.sensed b).filter fun e => (s.elec e).fresh == 0
    let rd (e : Nat) : Nat := readings.getD (e % 32) 0
    let idle := on.filter fun e => s.elState e == 0
    let sumNew := idle.foldl (fun t e => t + rd e) 0
    let sumOld := idle.foldl (fun t e => t + (s.elec e).raw) 0
    let charge := tbCharge (s.blk b).ctrl
    let num := if idle.isEmpty then settingKHz (if charge then old else new) else sumNew
    let den := if idle.isEmpty then settingKHz (if charge then new else old) else sumOld
    let s := on.foldl (fun s e =>
      let st := s.elState e
      let s := if st = 0 then s.wr (elReg e 0x10) (rd e * 256)
        else if ¬ (st = 1 ∨ st = 2) then s
        else if den = 0 then (let (w, t) := s.freeWord; t.wr (elReg e 0x10) w.toNat)
        else s.wr (elReg e 0x10) (s.rd (elReg e 0x10) * num / den)
      let s := ((s.wr (elReg e 0xC) (rd e)).wr (elReg e 0x1C) (noise.getD (e % 32) 0 % 65536)).mElec e fun x => { x with raw := rd e, up := 0, down := 0, oor := 0, inr := 0, exc := 0 }
      s.elShow b e (rd e)) s
    let s := (s.wf (blkReg b 0x10) 29 27 new).sat (blkReg b 0x20) 1
    (s.psetChanged).emitPf 0x85 .ok (b * 2 ^ 24 + old * 2 ^ 20 + new * 2 ^ 16 + survey.getD old 0 % 65536)

/-- A scan that is not a hop scan ends (R414 to R422, R429). -/
def State.plainScan (s : State) (b : Nat) (readings noise survey : List Nat) : State :=
  let k := s.blk b
  let s := if k.first then s.showSurvey b survey else s
  let on := s.sensed b
  let n := on.foldl (fun m e => if s.elState e = 3 then m else max m (noise.getD (e % 32) 0)) 0
  let ovr := if k.noiseTh < n then k.ovr + 1 else 0
  let hop := decide (3 ≤ ovr) || (k.first && decide (k.noiseTh < n))
  let s := (s.wf (blkReg b 0x10) 15 0 (min n 65535)).wb (blkReg b 0x10) 30 hop
  let s := s.mBlk b fun k => { k with ovr := ovr, first := false }
  let was := on.filter fun e => s.elState e == 1
  let s := on.foldl (fun s e => s.elScan b e (readings.getD (e % 32) 0) (noise.getD (e % 32) 0)) s
  let stuck := was.filter fun e => s.elState e == 2
  let (evs, s) := s.zonesScan stuck (s.zonesOf b)
  s.zoneEvents evs

/-- The measure phase of a scan ends (R408, R463, R469): readings and noise counts by electrode of the block, the survey of the eight
settings where the scan makes one, and the ns the dispatch took. -/
def execScanMeasureEnd (dt b : Nat) (readings noise survey : List Nat) (ns : Nat) (s : State) : Host.Outcome State Fault Refusal :=
  let s := s.tick dt
  let k := s.blk b
  if s.blocks ≤ b ∨ k.scan = 0 then .next s
  else
    let s := (s.incr64 (blkReg b 0x18) 1).mBlk b fun k => { k with scan := 0 }
    let s := s.cntEvent 0x60 b 2 1
    let s := if k.scan = 2 then s.cntEvent 0x60 b 3 1 else s
    let fired := s.rd64 0x03A80008
    let s := if k.scan = 2 then s.hopScan b readings noise survey else s.plainScan b readings noise survey
    let s := s.recValue 5 b (s.rf (blkReg b 0x10) 15 0 : Nat)
    if s.rd64 0x03A80008 = fired then .next s
    else .next ((s.rcUpdate 0x03A80014 fun v => max v (min ns 65535)).recValue 0x0B 0 ns)

/-- A write of TEL_THRESH: RELEASE_TH is stored no higher than TOUCH_TH (R415). -/
def execTelThreshWrite (dt : Nat) (r : Req) (e : Nat) (v : Word) (s : State) : Host.Outcome State Fault Refusal :=
  let s := s.tick dt
  if s.row.electrodes ≤ e then .next s
  else if s.blkClaimed (e / 32) r then .next (s.touchResult .claimed)
  else .next (s.wr (elReg e 4) (min (bits v.toNat 31 16) (bits v.toNat 15 0) * 2 ^ 16 + bits v.toNat 15 0))

/-- A write of TEL_CTRL: OWNER stays while the electrode stands in a zone (R425). -/
def execTelCtrlWrite (dt : Nat) (r : Req) (e : Nat) (v : Word) (s : State) : Host.Outcome State Fault Refusal :=
  let s := s.tick dt
  let k := elReg e 0
  if s.row.electrodes ≤ e then .next s
  else if s.blkClaimed (e / 32) r then .next (s.touchResult .claimed)
  else
    let s := s.wb k 31 (bit v.toNat 31)
    if bits v.toNat 15 0 = s.rf k 15 0 then .next s
    else if s.rb (elReg e 0x18) 26 then .next (s.touchResult .badState)
    else .next (s.wf k 15 0 (bits v.toNat 15 0))

end Sys2Proof.Machine
end

