-- ==== Sys2Proof/Machine/Attach.lean ====
section
/-!
DEFINITION. Attach: render surfaces and what the back-ends, CLEAR and RESOLVE write to them: pixels, flags and compressed blocks
(R294 to R300, R310 to R312).
-/
namespace Sys2Proof.Machine

/-! ### Formats and surfaces -/

/-- Bytes of a pixel of a render surface; 0 for a code that is none (R294). -/
def surfBytes (f : Nat) : Nat :=
  match f with
  | 0x30 => 1 | 0x31 => 2 | 0x32 => 2 | 0x33 => 4 | 0x34 => 4 | 0x35 => 8 | 0x36 => 16 | 0x37 => 4
  | 0x40 => 2 | 0x41 => 4 | 0x42 => 1 | 0x10 => 0 | 0x11 => 0 | 0x12 => 0 | 0x13 => 0 | _ => fmtBytes f

/-- Formats a colour attachment may have (R294). -/
def fmtColourAtt (f : Nat) : Bool := (1 ≤ f && f ≤ 9) || f == 0x20 || f == 0x21 || (0x30 ≤ f && f ≤ 0x35) || f == 0x37

/-- A surface as an attachment entry, or a clear, names it. -/
structure Surf where
  fmt : Nat
  addr : Nat
  stride : Nat
  width : Nat
  height : Nat
  samples : Nat
  flags : Nat
  clear : Nat
  /-- Linear whatever the format: the BACKING of a memoryless attachment (R311). -/
  linear : Bool := false
  deriving DecidableEq, Repr, Inhabited

/-- A surface has the blocked layout (R295). -/
def Surf.blocked (u : Surf) : Bool := fmtZcmp u.fmt && !u.linear

/-- Bytes of one sample of a surface. -/
def Surf.bpp (u : Surf) : Nat := surfBytes u.fmt

/-- The address of a sample of a pixel (R295). -/
def Surf.at (u : Surf) (x y smp : Nat) : Nat :=
  if u.blocked then pixelAddr u.fmt u.addr u.stride x y else u.addr + y * u.stride + (x * u.samples + smp) * u.bpp

/-! ### Attachment entries (R311) -/

def attMemless (n : Nat) : Bool := bit n 332
def attStore (n : Nat) : Nat := bits n 331 330
def attLoad (n : Nat) : Nat := bits n 329 328
def attFormat (n : Nat) : Nat := bits n 327 320
def attHeight (n : Nat) : Nat := bits n 319 304
def attWidth (n : Nat) : Nat := bits n 303 288
def attStride (n : Nat) : Nat := bits n 287 256
def attClear (n : Nat) : Nat := bits n 255 192
def attBacking (n : Nat) : Nat := bits n 191 128
def attFlags (n : Nat) : Nat := bits n 127 64
def attAddr (n : Nat) : Nat := bits n 63 0

/-- The surface of an entry; a memoryless one is a linear surface of minimal stride at BACKING (R311). -/
def attSurf (n samples : Nat) : Surf :=
  if attMemless n then
    ⟨attFormat n, attBacking n, cdiv (attWidth n * surfBytes (attFormat n) * samples) 64 * 64, attWidth n, attHeight n, samples, 0, attClear n, true⟩
  else ⟨attFormat n, attAddr n, attStride n, attWidth n, attHeight n, samples, attFlags n, attClear n, false⟩

/-- Whether an entry's format fits its place: colour 0 to 7, depth 8, stencil 9 (R294, R312). -/
def attFormatOk (i f : Nat) : Bool := if i < 8 then fmtColourAtt f else if i = 8 then f == 0x40 || f == 0x41 else f == 0x42

/-- A reserved bit or encoding, an alignment or a format that R295, R311 and R312 do not allow at place `i`. -/
def attBadParam (i n : Nat) : Bool :=
  bits n 511 333 != 0 || 1 < attStore n || 2 < attLoad n || !attFormatOk i (attFormat n)
  || (if attMemless n then attAddr n != 0 || attStore n != 1 || attLoad n == 0 || attBacking n % 256 != 0
      else attBacking n != 0 || attAddr n % 256 != 0)
  || attFlags n % 64 != 0

/-- A stride below R295's, or a blocked format with 4 samples (R295, R312). -/
def attBadGeometry (n samples : Nat) : Bool :=
  (fmtZcmp (attFormat n) && samples == 4)
  || (!attMemless n &&
      (if fmtZcmp (attFormat n) then attStride n % 256 != 0 || attStride n < cdiv (attWidth n) 8 * 64 * surfBytes (attFormat n)
       else attStride n % 64 != 0 || attStride n < attWidth n * surfBytes (attFormat n) * samples))

/-! ### Writing memory for a queue -/

/-- A run of stores for a window in a traffic class: whether all were made, and the state after them (R76, R326). -/
def State.gfxStores (s : State) (w c : Nat) : List (Nat × Bytes) → Bool × State
  | [] => (true, s)
  | (a, b) :: r =>
    let (ok, s) := s.store w c a b
    let (rest, s) := s.gfxStores w c r
    (ok && rest, s)

/-- The reader of a window's memory for the clusters. -/
def State.gfxRead (s : State) (w c : Nat) (hosts : List HostRun) : Reader := fun a n => (s.peek w c hosts a n).map leNat

/-! ### Blocks (R296 to R298) -/

/-- The bit length of a number. -/
def bitLen (n : Nat) : Nat := if n = 0 then 0 else Nat.log2 n + 1

/-- The stream of a block's 64 pixel words by R297: header, then residuals; the number its bits hold, and how many there are. -/
def encodeBlock (chs : List Nat) (px : List Nat) : Nat × Nat :=
  let put (a : Nat × Nat) (v w : Nat) : Nat × Nat := (a.1 + v % 2 ^ w * 2 ^ a.2, a.2 + w)
  let cols := (chs.foldl (fun (acc : Nat × List (Nat × List Nat)) b =>
    (acc.1 + b, acc.2 ++ [(b, px.map fun v => v / 2 ^ acc.1 % 2 ^ b)])) (0, [])).2
  let lows := cols.map fun c => let m := c.2.foldl min (2 ^ c.1 - 1); (c.1, m, bitLen (c.2.foldl max 0 - m), c.2)
  let head := lows.foldl (fun a c => put (put a c.2.1 c.1) c.2.2.1 5) (0, 0)
  lows.foldl (fun a c => c.2.2.2.foldl (fun a v => put a (v - c.2.1) c.2.2.1) a) head

/-- What is done to attachment content. -/
inductive AttOp where
  /-- A rectangle filled with the clear word. -/
  | clear (x y w h : Nat)
  /-- One sample's bytes. -/
  | px (x y smp v : Nat)
  deriving DecidableEq, Repr, Inhabited

/-- Bytes of a flag row (R296). -/
def flagStride (width : Nat) : Nat := cdiv (cdiv width 32) 64 * 64

/-- The pixels of block (bx, by) that lie in the surface, as pixel numbers 0 to 63. -/
def Surf.inside (u : Surf) (bx by_ : Nat) : List Nat :=
  (List.range 64).filter fun p => bx * 8 + p % 8 < u.width && by_ * 8 + p / 8 < u.height

/-- A block's content as readers see it: whether its flag is clear, whether it is written, and its words by pixel × samples + sample. -/
structure BlockSt where
  isClear : Bool
  written : Bool
  px : Tbl Nat
  deriving DecidableEq, Repr, Inhabited

/-- A sample as a reader that honours flags sees it, its block's flag known (R139, R299): clear gives the clear word, a reserved flag 0. -/
def Surf.sample (rd : Reader) (u : Surf) (flag x y smp : Nat) : Except Nat Nat :=
  match flag with
  | 0 => pure (u.clear % 2 ^ (8 * u.bpp))
  | 1 => blockWord rd u.fmt u.bpp (fun x y => u.at x y 0) x y
  | 2 => rd (u.at x y smp) u.bpp
  | _ => pure 0

/-- The flag of the block of (x, y); a surface without flags is raw (R296). -/
def Surf.flag (rd : Reader) (u : Surf) (x y : Nat) : Except Nat Nat := if u.flags = 0 then pure 2 else blockFlag rd u.flags u.width x y

/-- A sample of a surface as a reader that honours flags sees it (R299). -/
def Surf.read (rd : Reader) (u : Surf) (x y smp : Nat) : Except Nat Nat := do u.sample rd (← u.flag rd x y) x y smp

/-- A block as it lies in memory (R299). -/
def readBlock (rd : Reader) (u : Surf) (bx by_ : Nat) : Except Nat (Nat × BlockSt) := do
  let flag ← u.flag rd (bx * 8) (by_ * 8)
  let cover := if u.blocked then List.range 64 else u.inside bx by_
  let words ← cover.mapM fun p => do
    let vs ← (List.range u.samples).mapM fun m => do
      let v ← u.sample rd flag (bx * 8 + p % 8) (by_ * 8 + p / 8) m
      pure (p * u.samples + m, v)
    pure vs
  pure (flag, ⟨flag == 0, false, words.flatten.foldl (fun t c => tset 0 t c.1 c.2) []⟩)

/-- One operation on a block (R298). A clear of part of a block that is clear already leaves it clear. -/
def blockOp (u : Surf) (bx by_ : Nat) (b : BlockSt) : AttOp → BlockSt
  | .clear x y w h =>
    let inRect (p : Nat) : Bool :=
      x ≤ bx * 8 + p % 8 && bx * 8 + p % 8 < x + w && y ≤ by_ * 8 + p / 8 && by_ * 8 + p / 8 < y + h
    let ps := u.inside bx by_
    let fill (b : BlockSt) (qs : List Nat) : BlockSt :=
      { b with px := qs.foldl (fun t p => (List.range u.samples).foldl (fun t m =>
          tset 0 t (p * u.samples + m) (u.clear % 2 ^ (8 * u.bpp))) t) b.px }
    if ps.all inRect then { fill b (List.range 64) with isClear := true, written := true }
    else if ps.any inRect && !b.isClear then { fill b (ps.filter inRect) with isClear := false, written := true }
    else b
  | .px x y smp v =>
    if x / 8 = bx ∧ y / 8 = by_ ∧ x < u.width ∧ y < u.height ∧ smp < u.samples then
      { b with px := tset 0 b.px ((y % 8 * 8 + x % 8) * u.samples + smp) (v % 2 ^ (8 * u.bpp)), isClear := false, written := true }
    else b

/-- The stores that put a block into memory, and its flag (R298). -/
def blockStores (u : Surf) (bx by_ : Nat) (b : BlockSt) : List (Nat × Bytes) × Nat :=
  let raw : List (Nat × Bytes) :=
    (if u.blocked then List.range 64 else u.inside bx by_).flatMap fun p => (List.range u.samples).map fun m =>
      (u.at (bx * 8 + p % 8) (by_ * 8 + p / 8) m, leBytes (tget 0 b.px (p * u.samples + m)) u.bpp)
  if b.isClear then ([], 0)
  else if u.blocked ∧ u.samples = 1 then
    let (v, n) := encodeBlock (fmtChannels u.fmt) ((List.range 64).map fun p => tget 0 b.px p)
    if cdiv n 8 ≤ 32 * u.bpp then ([(u.at (bx * 8) (by_ * 8) 0, leBytes v (cdiv n 8))], 1) else (raw, 2)
  else (raw, 2)

/-- A block's flag set (R296). -/
def State.setFlag (s : State) (w c : Nat) (hosts : List HostRun) (u : Surf) (bx by_ flag : Nat) : Bool × State :=
  let a := u.flags + by_ * flagStride u.width + bx / 4
  match s.load w c hosts a 1 with
  | (none, s) => (false, s)
  | (some b, s) =>
    let lo := 2 * (bx % 4)
    s.store w c a (leBytes (setBits (leNat b) (lo + 1) lo flag) 1)

/-- Operations on one flagged block: whether every access was made, and the state after. -/
def State.doBlock (s : State) (w c : Nat) (hosts : List HostRun) (u : Surf) (ops : List AttOp) (bx by_ : Nat) : Bool × State :=
  match readBlock (s.gfxRead w c hosts) u bx by_ with
  | .error a => (false, s.reportFault w c a)
  | .ok (_, b) =>
    let b := ops.foldl (blockOp u bx by_) b
    if b.written then
      let (st, flag) := blockStores u bx by_ b
      let (ok, s) := s.gfxStores w c st
      let (ok', s) := s.setFlag w c hosts u bx by_ flag
      (ok && ok', s)
    else (true, s)

/-- The blocks an operation touches, clipped to the surface. -/
def opBlocks (u : Surf) : AttOp → List (Nat × Nat)
  | .clear x y w h =>
    if w = 0 ∨ h = 0 ∨ u.width ≤ x ∨ u.height ≤ y then []
    else
      let x1 := (min (x + w) u.width - 1) / 8
      let y1 := (min (y + h) u.height - 1) / 8
      (List.range (y1 + 1 - y / 8)).flatMap fun j => (List.range (x1 + 1 - x / 8)).map fun i => (x / 8 + i, y / 8 + j)
  | .px x y _ _ => if x < u.width ∧ y < u.height then [(x / 8, y / 8)] else []

/-- The stores of an operation on a surface without flags. -/
def opStores (u : Surf) : AttOp → List (Nat × Bytes)
  | .clear x y w h =>
    (List.range (min (y + h) u.height - y)).flatMap fun j => (List.range (min (x + w) u.width - x)).flatMap fun i =>
      (List.range u.samples).map fun m => (u.at (x + i) (y + j) m, leBytes u.clear u.bpp)
  | .px x y smp v => if x < u.width ∧ y < u.height ∧ smp < u.samples then [(u.at x y smp, leBytes v u.bpp)] else []

/-- Operations on a surface in order (R298): whether every access was made, and the state after. -/
def State.surfOps (s : State) (w c : Nat) (hosts : List HostRun) (u : Surf) (ops : List AttOp) : Bool × State :=
  if u.flags = 0 then s.gfxStores w c (ops.flatMap (opStores u))
  else
    ((ops.flatMap (opBlocks u)).eraseDups).foldl (fun (acc : Bool × State) b =>
      let (ok, s) := acc.2.doBlock w c hosts u ops b.1 b.2
      (acc.1 && ok, s)) (true, s)

/-- RESOLVE: every clear or compressed block rewritten raw, its flag raw (R299). A surface without flags is raw already. -/
def State.resolve (s : State) (w c : Nat) (hosts : List HostRun) (u : Surf) : Bool × State :=
  if u.flags = 0 then (true, s)
  else
    (opBlocks u (.clear 0 0 u.width u.height)).foldl (fun (acc : Bool × State) b =>
      let s := acc.2
      match readBlock (s.gfxRead w c hosts) u b.1 b.2 with
      | .error a => (false, s.reportFault w c a)
      | .ok (flag, blk) =>
        if flag = 0 ∨ flag = 1 then
          let ps := if u.blocked then List.range 64 else u.inside b.1 b.2
          let st : List (Nat × Bytes) := ps.flatMap fun p => (List.range u.samples).map fun m =>
            (u.at (b.1 * 8 + p % 8) (b.2 * 8 + p / 8) m, leBytes (tget 0 blk.px (p * u.samples + m)) u.bpp)
          let (ok, s) := s.gfxStores w c st
          let (ok', s) := s.setFlag w c hosts u b.1 b.2 2
          (acc.1 && ok && ok', s)
        else acc) (true, s)

/-- The samples of a rectangle of a surface with free values: content the spec leaves unspecified. -/
def State.freeOps (s : State) (u : Surf) (x y w h : Nat) : List AttOp × State :=
  let cells := (List.range (min (y + h) u.height - y)).flatMap fun j => (List.range (min (x + w) u.width - x)).flatMap fun i =>
    (List.range u.samples).map fun m => (x + i, y + j, m)
  cells.foldl (fun (acc : List AttOp × State) c =>
    let (b, s) := acc.2.freeBytes u.bpp
    (acc.1 ++ [.px c.1 c.2.1 c.2.2 (leNat b)], s)) ([], s)

end Sys2Proof.Machine
end

