-- ==== Sys2Proof/Machine/Pipes.lean ====
section
/-!
DEFINITION. Pipes: starting, reconfiguring and stopping pipes, their raster events, links, AUX and LP commands, and frame lock
(Display pipes and outputs).
-/
namespace Sys2Proof.Machine

/-! ### Configurations -/

/-- A register of PLL j and of DSC encoder e (R245). -/
def pllReg (j off : Nat) : Nat := 0x01B00000 + j * 0x10 + off
def dscReg (e off : Nat) : Nat := 0x01B01000 + e * 0x10 + off

/-- The PLL settings in force: those written, unless an output is in use (R203). -/
def State.pllNow (s : State) (j : Nat) : Nat × Nat × Nat :=
  if s.rf (pllReg j 0xC) 29 28 = 0 then (s.rd (pllReg j 0), s.rd (pllReg j 4), s.rd (pllReg j 8)) else tget (0, 0, 0) s.display.plls j

/-- DSC_CFG in force: as written, unless the encoder is in use (R225). -/
def State.dscNow (s : State) (e : Nat) : Nat := if s.rb (dscReg e 4) 31 then tget 0 s.display.dscs e else s.rd (dscReg e 0)

/-- The configuration the held registers of a pipe give (R204). -/
def State.heldCfg (s : State) (p : Nat) : PipeCfg :=
  let hs := s.rd (pipeReg p 8)
  let hy := s.rd (pipeReg p 0xC)
  let vs := s.rd (pipeReg p 0x10)
  let vy := s.rd (pipeReg p 0x14)
  let clock := s.rd (pipeReg p 0x18)
  let pll := s.pllNow (bits clock 3 1)
  { hActive := bits hs 15 0, hTotal := bits hs 31 16, hStart := bits hy 31 16, hWidth := bits hy 15 0, vActive := bits vs 15 0,
    vTotal := bits vs 31 16, vStart := bits vy 31 16, vWidth := bits vy 15 0, ctrl := s.rd (pipeReg p 0), clock := clock,
    output := s.rd (pipeReg p 0x1C), factor := bits pll.1 7 0 * 2 ^ 24 + bits pll.2.1 23 0,
    divider := if bit clock 0 then bits pll.2.2 26 16 else bits pll.2.2 10 0 }

def PipeCfg.kind (c : PipeCfg) : Nat := bits c.output 31 28
def PipeCfg.port (c : PipeCfg) : Nat := bits c.output 27 24
def PipeCfg.stream (c : PipeCfg) : Nat := bits c.output 23 22
def PipeCfg.dscEn (c : PipeCfg) : Bool := bit c.output 19
def PipeCfg.dsc (c : PipeCfg) : Nat := bits c.output 18 16
def PipeCfg.pll (c : PipeCfg) : Nat := bits c.clock 3 1
def PipeCfg.pllOut (c : PipeCfg) : Nat := bits c.clock 0 0
def PipeCfg.buffers (c : PipeCfg) : Nat := if bit c.ctrl 1 then 3 else 2

/-- The pixel clock in Hz with a trim of the PLL's fraction in ppm, rounded to the nearest Hz, ties upward (R202, R235, R242). -/
def PipeCfg.pixelHz (c : PipeCfg) (ppm : Int) : Nat :=
  let den := c.divider * 2 ^ 24 * 1000000
  let f := c.factor / 2 ^ 24 * 2 ^ 24 * 1000000 + c.factor % 2 ^ 24 * (1000000 + ppm).toNat
  if den = 0 then 0 else (2 * (4 * 38400000 * f) + den) / (2 * den)

/-- The levels of a pipe's sync outputs at a pixel clock of a line, horizontal and vertical, with its front porch `slew` lines longer: pulses
are active low unless HSYNC_HIGH or VSYNC_HIGH is 1 (R200). -/
def PipeCfg.syncAt (c : PipeCfg) (slew line x : Nat) : Bool × Bool :=
  let h := c.hActive + c.hStart ≤ x && x < c.hActive + c.hStart + c.hWidth
  let v := c.vActive + c.vStart + slew ≤ line && line < c.vActive + c.vStart + slew + c.vWidth
  (h == bit c.ctrl 4, v == bit c.ctrl 5)

/-- DP_CTRL.MODE and DSI_CTRL in force of a port (R244). -/
def State.dpMode (s : State) (port : Nat) : Nat := tget 0 s.display.dpModes port
def State.dsiCtrl (s : State) (port : Nat) : Nat := tget 0 s.display.dsiCtrls port

/-- Whether a pipe that is not OFF uses a port of a kind (R244). -/
def State.portUsed (s : State) (kind port : Nat) : Bool :=
  (List.range 16).any fun p => s.pipeState p != 0 && (s.pipe p).cfg.kind == kind && (s.pipe p).cfg.port == port

/-- The port settings written take effect where no pipe uses the port (R244). -/
def State.portSettle (s : State) (port : Nat) : State :=
  let s := if s.portUsed 1 port then s
    else s.mDisplay fun d => { d with dpModes := tset 0 d.dpModes port (s.rf (pipeReg port 0x8000) 31 30) }
  if s.portUsed 2 port then s
  else s.mDisplay fun d => { d with dsiCtrls := tset 0 d.dsiCtrls port (s.rd (pipeReg port 0xA000)) }

/-- The DSI formats that match a depth code (R205). -/
def dsiMatches (format depth : Nat) : Bool :=
  match depth with
  | 0 => format == 1 || format == 2
  | 1 => format == 0
  | 2 => format == 3
  | _ => false

/-- A timing value outside R199, or a clock outside R199 and R202. -/
def PipeCfg.badTiming (c : PipeCfg) : Bool :=
  c.hActive < 64 || 8192 < c.hActive || c.hActive % 2 != 0 || c.hTotal < c.hActive + 32 || 16384 < c.hTotal || c.hTotal % 4 != 0
  || c.hStart < 2 || c.hWidth < 2 || c.hTotal - c.hActive < c.hStart + c.hWidth
  || c.vActive < 64 || 8192 < c.vActive || c.vTotal < c.vActive + 8 || 16383 < c.vTotal
  || c.vStart < 1 || c.vWidth < 1 || c.vTotal - c.vActive < c.vStart + c.vWidth
  -- pipe clock 2.5 MHz to 600 MHz: 38.4 MHz × factor ÷ (2^24 × D)
  || 384 * c.factor < 25 * 2 ^ 24 * c.divider || 6000 * 2 ^ 24 * c.divider < 384 * c.factor

/-- The PLL named lies outside R202: N 78 to 156, D 4 to 2,047, VCO 3.0 to 6.0 GHz. -/
def PipeCfg.badPll (c : PipeCfg) : Bool :=
  let n := c.factor / 2 ^ 24
  n < 78 || 156 < n || c.divider < 4 || 2047 < c.divider || 384 * c.factor < 30000 * 2 ^ 24 || 60000 * 2 ^ 24 < 384 * c.factor

/-- DSC slice counts and heights outside the table of R225. -/
def PipeCfg.badDsc (c : PipeCfg) (cfg : Nat) : Bool :=
  let slices := 2 ^ bits cfg 31 30
  let h := bits cfg 13 0
  c.hActive % slices != 0 || 2560 < c.hActive / slices || h < 8 || c.vActive % h != 0

/-- A DSI_CTRL value with a reserved mode, lane count or rate (R232, R244). -/
def badDsi (v : Nat) : Bool :=
  bits v 29 28 == 3 || bits v 18 16 == 0 || 4 < bits v 18 16 || bits v 11 0 < 80 || 2500 < bits v 11 0

/-- The checks of an ENABLE or RECONFIG (R205), each with its status. Those of the frame store and of its bandwidth are not made for a start
Pip-first, which has neither (R584). The clock of a pipe that waits for a RECONFIG counts as the higher of its two. -/
def State.pipeFails (s : State) (p : Nat) (c : PipeCfg) (reconfig store : Bool) : List (Bool × Status) :=
  let depth := bits c.output 21 20
  let others := (List.range 16).filter fun q => q != p && s.pipeState q != 0
  let cfg := s.dscNow c.dsc
  let bpp := bits cfg 25 16
  let uses (f : PipeCfg → Bool) : Bool := others.any fun q => f (s.pipe q).cfg || (match (s.pipe q).next with | some n => f n | none => false)
  let hz (q : Nat) : Nat := max ((s.pipe q).cfg.pixelHz 0) (match (s.pipe q).next with | some n => n.pixelHz 0 | none => 0)
  let sum := others.foldl (fun n q => n + hz q) 0 + c.pixelHz 0
  let need := scanoutNeed (c.pixelHz 0) c.bpp
  let chunks := storeChunks c.hActive c.vActive c.bpp
  [(s.noWork, .badState),
   (2 < c.kind || c.badPll || (depth == 0 && c.dscEn)
      || (c.kind == 2 && (!dsiMatches (bits (s.dsiCtrl c.port) 27 26) depth || badDsi (s.dsiCtrl c.port)))
      || (c.stream != 0 && !(c.kind == 1 && s.dpMode c.port == 2))
      || (c.dscEn && (bpp < 128 || 48 * (6 + 2 * depth) - 1 < bpp)), .badParam),
   (c.badTiming || (c.dscEn && c.badDsc cfg), .badGeometry),
   ((c.kind == 1 && s.row.dpPorts ≤ c.port) || (c.kind == 2 && s.row.dsiPorts ≤ c.port), .unsupported),
   (uses (fun d => d.pll == c.pll && d.pllOut == c.pllOut) || (c.dscEn && uses (fun d => d.dscEn && d.dsc == c.dsc))
      || (c.kind != 0 && uses (fun d => d.kind == c.kind && d.port == c.port && d.stream == c.stream))
      || decide (24000000000 < sum)
      || (store && (s.placeStore p chunks c.buffers).isNone)
      || (store && !s.bwFits 0 (s.rf (bwKey 0 0) 15 0 + s.rf (bwKey 0 1) 15 0 + need - (if reconfig then 0 else tget 0 s.seed.needs p))),
    .noResource)]

/-- PIPE_STATE, written with the result of the checks or at a change of STATE (R205, R240). -/
def State.pipeEvent (s : State) (p : Nat) (st : Status) : State :=
  s.emitPf 0x47 st (p * 2 ^ 24 + s.pipeState p * 2 ^ 16)

/-- PIPE_STATUS.RESULT and PIPE_STATUS.STATE written. -/
def State.pipeResult (s : State) (p : Nat) (st : Status) : State := s.wf (pipeReg p 4) 22 16 st.code
def State.pipeGo (s : State) (p v : Nat) : State := s.wf (pipeReg p 4) 2 0 v

/-- Another world holds a claim on the pipe (R205, R210). -/
def State.pipeClaimed (s : State) (p : Nat) (r : Req) : Bool :=
  match s.unitIndex 0x20 p with
  | some u => s.claimBlocks u (s.reqSecure r)
  | none => false

/-- The bits of PIPE_CTRL that are kept, ENABLE among them (R243). -/
def pipeCtrlKept (v : Nat) : Nat := v &&& 0x80000033

/-- A request that reaches PF BAR0 and a pipe the variant has. -/
def State.pipeReach (s : State) (r : Req) (p : Nat) : Bool :=
  (match r.path with | .vi _ => false | _ => true) && p < s.row.pipes

/-! ### Requests to start, reconfigure and stop (R205, R208 to R210) -/

/-- Whether a start or reconfiguration must wait: BUSY of R205. -/
def State.pipeBusy (s : State) (p : Nat) : Bool :=
  s.pipeState p == 1 || s.pipeState p == 3 || (s.pipe p).checks != 0 || (s.pipe p).next.isSome

/-- The checks of a request start (R205). -/
def State.pipeCheckStart (s : State) (p kind : Nat) : State :=
  let held := s.heldCfg p
  s.mPipe p fun ps => { ps with checks := kind, held := held, abandon := false }

/-- A request that comes while another is under way (R205): the configuration it gives is checked as well, BUSY being the last of the codes (R19). A
STOPPING pipe, and one that waits for the first line 0 of a RECONFIG, answer BUSY whatever it is (R208, R209). -/
def State.pipeRefuse (s : State) (p v : Nat) (reconfig : Bool) : State :=
  let c := (s.wr (pipeReg p 0) (pipeCtrlKept v)).heldCfg p
  let st := if s.pipeState p = 3 ∨ (s.pipe p).next.isSome then .busy else byR19 (s.pipeFails p c reconfig true ++ [(true, .busy)])
  (s.pipeResult p st).pipeEvent p st

/-- A write of PIPE_CTRL with ENABLE = 1 (R205, R209, R210). While the pipe is RUNNING the write only holds its other fields. -/
def execPipeEnable (dt : Nat) (r : Req) (p : Nat) (v : Word) (s : State) : Host.Outcome State Fault Refusal :=
  let s := s.tick dt
  if !s.pipeReach r p then .next s
  else if s.pipeClaimed p r then
    let s := s.pipeResult p .claimed
    .next (if s.pipeState p = 0 then s.pipeEvent p .claimed else s)
  else if s.pipeState p = 2 then .next (s.wr (pipeReg p 0) (pipeCtrlKept v.toNat ||| 2 ^ 31))
  else if s.pipeBusy p then .next (s.pipeRefuse p v.toNat false)
  else .next ((s.wr (pipeReg p 0) (pipeCtrlKept v.toNat ||| 2 ^ 31)).pipeCheckStart p 1)

/-- ENABLE written 0 (R209): checks that run are abandoned as they end, a RUNNING pipe stops at the end of its frame, a STARTING one at the end of
its step. -/
def State.pipeHalt (s : State) (p : Nat) (v : Word) : State :=
  let s := s.wr (pipeReg p 0) (pipeCtrlKept v.toNat % 2 ^ 31)
  let s := if (s.pipe p).checks ≠ 0 then s.mPipe p fun ps => { ps with abandon := true } else s
  match s.pipeState p with
  | 2 => s.pipeGo p 3
  | 1 => s.mPipe p fun ps => { ps with stop := true }
  | _ => s

/-- A write of PIPE_CTRL with ENABLE = 0 (R209, R210). -/
def execPipeDisable (dt : Nat) (r : Req) (p : Nat) (v : Word) (s : State) : Host.Outcome State Fault Refusal :=
  let s := s.tick dt
  if !s.pipeReach r p then .next s
  else if s.pipeClaimed p r then .next (s.pipeResult p .claimed)
  else .next (s.pipeHalt p v)

/-- A write of PIPE_CTRL with RECONFIG = 1 (R205, R208, R210). An OFF pipe takes the write by its ENABLE; a write that also clears ENABLE then halts
the pipe by R209. -/
def execPipeReconfig (dt : Nat) (r : Req) (p : Nat) (v : Word) (s : State) : Host.Outcome State Fault Refusal :=
  let s := s.tick dt
  if !s.pipeReach r p then .next s
  else if s.pipeClaimed p r then
    let s := s.pipeResult p .claimed
    .next (if s.pipeState p = 2 ∨ (s.pipeState p = 0 ∧ bit v.toNat 31) then s.pipeEvent p .claimed else s)
  else if s.pipeState p = 0 ∧ ¬ bit v.toNat 31 then .next (s.pipeHalt p v)
  else if s.pipeBusy p then
    let s := s.pipeRefuse p v.toNat true
    .next (if bit v.toNat 31 then s else s.pipeHalt p v)
  else
    let s := (s.wr (pipeReg p 0) (pipeCtrlKept v.toNat)).pipeCheckStart p (if s.pipeState p = 0 then 1 else 2)
    .next (if bit v.toNat 31 then s else s.pipeHalt p v)

/-! ### Reservations -/

/-- A PLL output taken: the first starts the PLL with the settings written (R203). -/
def State.pllTake (s : State) (c : PipeCfg) : State :=
  let k := pllReg c.pll 0xC
  let s := if s.rf k 29 28 = 0 then s.mDisplay fun d => { d with plls := tset (0, 0, 0) d.plls c.pll (s.pllNow c.pll) } else s
  (s.wb k (28 + c.pllOut) true).wb k 30 true

/-- A PLL output given back: with no output in use the PLL stops, and the settings held are those in force (R203). -/
def State.pllGive (s : State) (c : PipeCfg) : State :=
  let k := pllReg c.pll 0xC
  let s := s.wb k (28 + c.pllOut) false
  if s.rf k 29 28 = 0 then s.wr k 0 else s

/-- A DSC encoder taken and given back (R225). -/
def State.dscTake (s : State) (c : PipeCfg) (p : Nat) : State :=
  if c.dscEn then
    let v := s.dscNow c.dsc
    (s.mDisplay fun d => { d with dscs := tset 0 d.dscs c.dsc v }).wr (dscReg c.dsc 4) (2 ^ 31 + p)
  else s
def State.dscGive (s : State) (c : PipeCfg) : State := if c.dscEn then s.wr (dscReg c.dsc 4) 0 else s

/-- A stream's payload, in order of pipe start, taken and given back (R230). -/
def State.payloadTake (s : State) (c : PipeCfg) (p : Nat) : State :=
  if c.kind = 1 then s.mDisplay fun d => { d with payloads := d.payloads ++ [(c.port, c.stream, p)] } else s
def State.payloadGive (s : State) (c : PipeCfg) (p : Nat) : State :=
  s.mDisplay fun d => { d with payloads := d.payloads.filter fun q => q != (c.port, c.stream, p) }

/-- The stream rate of a configuration: pixel clock × 3 × DEPTH, or × the DSC target (R228). -/
def State.streamRate (s : State) (c : PipeCfg) : Nat :=
  if c.dscEn then c.pixelHz 0 * bits (tget 0 s.display.dscs c.dsc) 25 16 / 16 else c.pixelHz 0 * 3 * c.depth

/-- The pipes whose streams a port carries, highest STREAM first, with their rates. -/
def State.portStreams (s : State) (port : Nat) : List (Nat × Nat) :=
  (List.range 4).reverse.flatMap fun st =>
    (List.range 16).filterMap fun p =>
      let c := (s.pipe p).cfg
      if s.pipeState p != 0 && c.kind == 1 && c.port == port && c.stream == st then some (p, s.streamRate c) else none

/-- The streams that must be short for the rest to fit a capacity: from the highest STREAM number down (R228, R230). -/
def shortStreams (cap : Nat) : List (Nat × Nat) → List Nat
  | [] => []
  | (p, r) :: rest => if r + rest.foldl (fun n q => n + q.2) 0 ≤ cap then [] else p :: shortStreams cap rest

/-- The streams that find no room when they are allocated one after another (R230). -/
def unplaced (cap : Nat) : List (Nat × Nat) → List Nat
  | [] => []
  | (p, r) :: rest => if r ≤ cap then unplaced (cap - r) rest else p :: unplaced cap rest

/-- The pipes whose streams a port carries in the order of allocation: those that have a payload, by start, then those that had no room. -/
def State.startOrder (s : State) (port : Nat) : List (Nat × Nat) :=
  let mine := s.display.payloads.filterMap fun q => if q.1 = port then some (q.2.2, s.streamRate (s.pipe q.2.2).cfg) else none
  mine.filter (fun q => !s.display.short.contains q.1) ++ mine.filter fun q => s.display.short.contains q.1

/-- LINK_SHORT worked out for the streams of a port, after training or at a start or stop (R228, R230). Video of a stream that can be carried starts
at the next line 0 (R229). -/
def State.linkEval (s : State) (port : Nat) (trained : Bool) : State :=
  let st := pipeReg port 0x8004
  let streams := s.portStreams port
  let cap := tget 0 s.display.capacity port
  let short := if s.rb st 30 then (if trained then shortStreams cap streams else unplaced cap (s.startOrder port)) else []
  let all := streams.map (·.1)
  let s := s.mDisplay fun d =>
    { d with short := d.short.filter (fun p => !all.contains p) ++ short,
             video := d.video.filter fun p => !all.contains p || (s.rb st 30 && !short.contains p) }
  let s := s.wb st 29 (!short.isEmpty)
  let s := s.wf st 19 16 (all.foldl (fun n p => if s.display.video.contains p then n ||| 2 ^ (s.pipe p).cfg.stream else n) 0)
  short.foldl (fun s p => s.raise (pipeReg p 0x4C) 3) s

/-- A pipe's transmitter sends idle: its stream carries no video (R208). -/
def State.videoStop (s : State) (p : Nat) : State :=
  let c := (s.pipe p).cfg
  let s := s.mDisplay fun d => { d with video := d.video.filter (· != p) }
  if c.kind = 1 then s.wb (pipeReg c.port 0x8004) (16 + c.stream) false else s

/-- At a line 0 the pipe's stream starts to carry video if its link can carry it (R229); for the frame after a move without lock it does not
(R599). -/
def State.videoStart (s : State) (p : Nat) : State :=
  let c := (s.pipe p).cfg
  if (s.pipe p).idle then s.mPipe p fun ps => { ps with idle := false }
  else if c.kind = 1 ∧ s.rb (pipeReg c.port 0x8004) 30 ∧ ¬ s.display.short.contains p ∧ ¬ s.display.video.contains p then
    (s.mDisplay fun d => { d with video := d.video ++ [p] }).wb (pipeReg c.port 0x8004) (16 + c.stream) true
  else s

/-- PIPE_PIXEL_HZ of the configuration in force, with the trim of its PLL (R242). -/
def State.pixelHzSet (s : State) (p : Nat) : State :=
  let c := (s.pipe p).cfg
  s.wr (pipeReg p 0x58) (c.pixelHz (sext 16 (s.rf (pllReg c.pll 0xC) 15 0)))

/-- Everything a configuration reserves, but its frame store (R206). -/
def State.reserve (s : State) (p : Nat) (c : PipeCfg) : State := ((s.pllTake c).dscTake c p).payloadTake c p

/-- The commits of a pipe that has stopped scanning are taken (R177, R209): what a composition had taken is not taken twice. -/
def State.takeLeft (s : State) (p : Nat) : State :=
  s.display.commits.foldl (fun s c =>
    if c.pipe = p ∧ c.phase ≠ .checking then
      if c.phase = .waiting then s.takeNow c
      else
        let s := s.takeEnts c.w true c.ents
        let s := c.ents.foldl (fun s e => (s.layerSettle e.slot).flushRel e.slot) s
        s.latchCommit c (s.nextFrame p)
    else s) s

/-- The commits of a pipe that wait are taken, since it does not scan out (R177). -/
def State.takeWaiting (s : State) (p : Nat) : State :=
  s.display.commits.foldl (fun s c => if c.pipe = p ∧ c.phase = .waiting then s.takeNow c else s) s

/-- A pipe's resources released, and OFF read (R209). Checks that run still end, abandoned. -/
def State.pipeRelease (s : State) (p : Nat) : State :=
  let ps := s.pipe p
  let s := (s.releaseStore (ps.store.map (·.chunks))).releaseStore (ps.nextStore.map (·.chunks))
  let s := s.setNeed p 0
  let s := ((s.pllGive ps.cfg).dscGive ps.cfg).payloadGive ps.cfg p
  let s := match ps.next with
    | some c => ((s.pllGive c).dscGive c).payloadGive c p
    | none => s
  let s := s.mPipe p fun q =>
    { q with cfg := {}, next := none, store := [], nextStore := [], abandon := q.checks != 0, stop := false, front := 0, ready := none,
             comp := none, dirty := true, csDone := false, latchDone := false, directs := [], offAt := [], underran := [],
             directMetas := [], scanned := 0, out := [], pipFirst := false, idle := false, moveTo := none, spareOf := none }
  let s := s.pipeGo p 0
  let s := s.mDisplay fun d => { d with short := d.short.filter (· != p), video := d.video.filter (· != p) }
  let s := (((s.wf (pipeReg p 0x48) 15 0 0).wr (pipeReg p 0x54) 0).wr (pipeReg p 0x58) 0).replaceNow p
  let s := s.mDisplay fun d => { d with locks := tmod {} d.locks p fun l => { l with good := 0, bad := 0, slew := 0 } }
  let s := (s.linkEval ps.cfg.port false).portSettle ps.cfg.port
  let s := (s.layersOf p true).foldl (fun s i => s.flushRel i) ((s.layersOf p false).foldl (fun s i => s.flushRel i) s)
  s.takeLeft p

/-- The pipe's power domain is ON (R206, R538). -/
def State.pipePowered (s : State) (p : Nat) : Bool := s.domainState (unitDomain 0x20 p) == 3

/-- The first composition of a start begins once the pipe's domain is ON and the PLL is locked; a Pip-first start and a spare that takes a pipe over have none (R206, R584,
R599). -/
def State.startFirst (s : State) (hosts : List HostRun) (p : Nat) : State :=
  if s.pipeState p = 1 ∧ ¬ (s.pipe p).pipFirst ∧ (s.pipe p).spareOf.isNone ∧ (s.pipe p).next.isNone ∧ (s.pipe p).comp.isNone ∧ ¬ (s.pipe p).stop ∧ s.pipePowered p ∧ s.rb (pllReg (s.pipe p).cfg.pll 0xC) 31 then
    s.startComposition hosts p (s.sampled p (s.nextFrame p) false)
  else s

/-- The checks of an ENABLE end well: everything is reserved, the pipe reads STARTING, and its power domain is raised where it is below ON
(R206). -/
def State.pipeStart (s : State) (hosts : List HostRun) (p : Nat) : State :=
  let c := (s.pipe p).held
  match s.placeStore p (storeChunks c.hActive c.vActive c.bpp) c.buffers with
  | none => s
  | some (bufs, s) =>
    let s := (s.setNeed p (scanoutNeed (c.pixelHz 0) c.bpp)).reserve p c
    let s := s.mPipe p fun ps => { ps with cfg := c, store := bufs.map fun b => { chunks := b }, front := 0, dirty := true, stop := false }
    let s := s.mDisplay fun d => { d with wbMisfit := d.wbMisfit.filter (· != p) }
    let s := (s.wr (pipeReg p 0x20) (c.vActive / 2)).pixelHzSet p
    let s := (((s.pipeGo p 1).pipeResult p .ok).pipeEvent p .ok).domainNeed (unitDomain 0x20 p)
    (s.linkEval c.port false).startFirst hosts p

/-- The checks of a RECONFIG end well (R208): the new frame store is reserved beside the old one, no composition in the old
configuration goes on, and the first frame of the new one is composed while the current frame is scanned. -/
def State.pipeReconf (s : State) (hosts : List HostRun) (p : Nat) : State :=
  let c := (s.pipe p).held
  match s.placeStore p (storeChunks c.hActive c.vActive c.bpp) c.buffers with
  | none => s
  | some (bufs, s) =>
    let s := s.setNeed p (tget 0 s.seed.needs p + scanoutNeed (c.pixelHz 0) c.bpp)
    let old := (s.pipe p).cfg
    let s := if c.pll = old.pll ∧ c.pllOut = old.pllOut then s else s.pllTake c
    let s := if c.dscEn ∧ ¬ (old.dscEn ∧ old.dsc = c.dsc) then s.dscTake c p else s
    let s := s.mPipe p fun ps => { ps with next := some c, nextStore := bufs.map fun b => { chunks := b }, comp := none, ready := none }
    let s := s.wr (pipeReg p 0x20) (c.vActive / 2)
    let s := (s.pipeResult p .ok).pipeEvent p .ok
    s.startComposition hosts p (s.sampled p (s.frame p + 1) true)

/-- The checks of an ENABLE or RECONFIG end (R205, R206, R208, R209). -/
def execPipeChecksDone (dt p : Nat) (hosts : List HostRun) (s : State) : Host.Outcome State Fault Refusal :=
  let s := s.tickMem dt hosts
  let ps := s.pipe p
  if ps.checks = 0 then .next s
  else
    let st := byR19 (s.pipeFails p ps.held (ps.checks = 2) true)
    let s := s.mPipe p fun ps => { ps with checks := 0, abandon := false }
    if st ≠ .ok then .next ((s.pipeResult p st).pipeEvent p st)
    else if ps.abandon then .next ((s.pipeResult p .ok).pipeEvent p .ok)
    else if ps.checks = 1 then .next (s.pipeStart hosts p)
    else .next (s.pipeReconf hosts p)

/-- A PLL locks: the pipes that wait for it compose their first frame (R203, R206). -/
def execPllLocked (dt j : Nat) (hosts : List HostRun) (s : State) : Host.Outcome State Fault Refusal :=
  let s := s.tickMem dt hosts
  if s.rb (pllReg j 0xC) 30 ∧ ¬ s.rb (pllReg j 0xC) 31 then
    let s := s.wb (pllReg j 0xC) 31 true
    .next ((List.range 16).foldl (fun s p => if (s.pipe p).cfg.pll = j then s.startFirst hosts p else s) s)
  else .next s

/-- A STOPPING pipe reaches the end of its frame, or an abandoned start the end of its step (R209). -/
def execPipeStopped (dt p : Nat) (s : State) : Host.Outcome State Fault Refusal :=
  let s := s.tick dt
  if s.pipeState p = 3 ∨ (s.pipeState p = 1 ∧ (s.pipe p).stop) then .next ((s.pipeRelease p).pipeEvent p .ok) else .next s

/-! ### Raster events -/

/-- A pipe's lock. -/
def State.lockOf (s : State) (p : Nat) : LockSt := tget {} s.display.locks p

/-- The windows that request an event of a pipe by a bit of PIPE_VIEW_EVENTS (R239): the PF's, and those of VIs granted the pipe. -/
def State.viewers (s : State) (p b : Nat) : List Nat :=
  s.windows.filter fun w => s.rb (win w + 0x1340C + p * 0x10) b && s.pipeGranted w p

/-- An event written to each window that requests it (R240). -/
def State.viewEvent (s : State) (p b kind : Nat) : State :=
  (s.viewers p b).foldl (fun s w => s.emit w kind .ok 0 (p * 2 ^ 24 + s.frame p % 2 ^ 24)) s

/-- LINE_MATCH for the windows whose LINE is this line (R239, R240). -/
def State.lineMatch (s : State) (p line : Nat) : State :=
  (s.viewers p 1).foldl (fun s w =>
    if s.rf (win w + 0x1340C + p * 0x10) 31 16 = line then s.emit w 0x41 .ok 0 (p * 2 ^ 24 + s.frame p % 2 ^ 24) else s) s

/-- The raster reaches the first pixel clock of a line (R200, R240). The LINE_MATCH of line V_ACTIVE belongs to the latch point (R241). -/
def execLineStart (dt p line : Nat) (hosts : List HostRun) (s : State) : Host.Outcome State Fault Refusal :=
  let s := s.tickMem dt hosts
  let c := (s.pipe p).cfg
  if !s.scanning p ∨ c.vTotal + (s.lockOf p).slew ≤ line then .next s
  else
    let s := s.toLine hosts p line
    .next (if line = c.vActive then s else s.lineMatch p line)

/-- The last active pixel of a frame enters stage 8 (R240, R241). -/
def execLastActivePixel (dt p : Nat) (hosts : List HostRun) (s : State) : Host.Outcome State Fault Refusal :=
  let s := s.tickMem dt hosts
  if s.scanning p then .next ((s.scanTo hosts p (s.pipe p).cfg.vActive).viewEvent p 2 0x42) else .next s

/-- From the first compose-start after a spare has locked, compositions write the spare's frame store, which stands before the old one until the
move is made (R599). -/
def State.joinStores (s : State) (p : Nat) : State :=
  let locked := (List.range 16).find? fun q => (s.pipe q).spareOf == some p && s.rb (pipeReg q 0x2C) 31
  let s := if (s.pipe p).moveTo.isNone ∧ locked.isSome then s.mPipe p fun ps => { ps with moveTo := locked } else s
  let ps := s.pipe p
  match ps.moveTo with
  | some q =>
    let new := (s.pipe q).store
    if new = [] then s
    else
      let n := new.length
      (s.mPipe q fun qs => { qs with store := [] }).mPipe p fun ps =>
        { ps with store := new ++ ps.store, front := ps.front + n, ready := ps.ready.map (· + n), dirty := true }
  | none => s

/-- At line CS the composed-layer states are taken and the next frame is composed (R127, R161, R174). -/
def execComposeStart (dt p : Nat) (hosts : List HostRun) (s : State) : Host.Outcome State Fault Refusal :=
  let s := s.tickMem dt hosts
  if !s.scanning p then .next s
  else
    let s := s.mPipe p fun ps => { ps with csDone := true }
    let s := s.toLine hosts p (s.pipe p).cs
    let ps := s.pipe p
    if ps.next.isSome ∨ ps.spareOf.isSome ∨ (ps.pipFirst ∧ (ps.store = [] ∨ ps.comp.isSome)) then .next s
    else
      let s := s.joinStores p
      let n := s.frame p + 1
      let c := s.sampled p n false
      if s.checkHolds hosts p n then .next (s.mPipe p fun ps => { ps with comp := some c }) else .next (s.startComposition hosts p c)

/-- The FIFO depth for the next frame (R212). -/
def State.fifoDepth (s : State) (p : Nat) : Nat :=
  let ps := s.pipe p
  let row := ps.directs.foldl (fun n d =>
    let x0 := max 0 (lsrDstX d.lsr)
    let x1 := min (ps.cfg.hActive : Int) (lsrDstX d.lsr + lsrDstW d.lsr)
    n + cdiv ((x1 - x0).toNat * fmtBits (lsrFormat d.lsr)) 8) 0
  if row = 0 then 32 else min 32 (2097152 / row)

/-- A list entry as a sprite, when EN is 1 (R618). -/
def spriteOf (e : Nat) : Option Sprite := if bit e 63 then some ⟨bits e 53 48, bits e 31 16, bits e 47 32, bits e 127 96⟩ else none

/-- Sprite lists are not taken: the Pip lane is handed over and has paused (R598). -/
def State.pipPaused (s : State) : Bool := match s.start.upd with | some o => o.begun.isSome | none => false

/-- The sprite list of a pipe taken for a frame (R219, R617 to R619). A list committed in this same cycle waits for the next latch point, and so does
every list while the Pip lane pauses. -/
def State.takeSprites (s : State) (p frame : Nat) : State :=
  let k := 0x00308204 + p * 0x400
  let s :=
    match (if bit (tget 0 s.cycle.raised k) 29 || s.pipPaused then none else tget none s.pip.captured p) with
    | some l =>
      let s := s.mPip fun q => { q with captured := tset none q.captured p none, taken := tset [] q.taken p l }
      let s := (s.wb k 29 false).wf k 15 0 frame
      if l.any (fun sp => !s.iconLoaded sp.icon) then s.raise k 30 else s
    | none => s
  s.mPipe p fun ps => { ps with sprites := (tget none s.pip.overrides p).getD (tget [] s.pip.taken p) }

/-- The values a pipe takes at a latch point, or at the first line 0 of a start (R217, R219, R254, R712). -/
def State.takeLatched (s : State) (p frame : Nat) : State :=
  let s := s.takeRegions p
  let s := s.mPipe p fun ps => { ps with colour := s.rd (pipeReg p 0x24) }
  s.takeSprites p frame

/-- Composed layers shown for the first time in a frame that is ready: LAYER_STATE_FRAME (R155). -/
def State.firstShown (s : State) (frame : Nat) : List Drawn → State
  | [] => s
  | d :: r =>
    let s := if (s.layer d.slot).fresh then (s.wr (layerReg d.slot 8) frame).mLayer d.slot fun l => { l with fresh := false } else s
    s.firstShown frame r

/-- COMPOSE_LATE: to the PF and to each VI with an enabled composed layer on the pipe (R190, R195). -/
def State.composeLate (s : State) (p frame : Nat) : State :=
  let d := p * 2 ^ 24 + frame % 2 ^ 24
  let s := s.cntEvent 0x20 p 5 1
  let vis := (List.range s.row.vis).filter fun v => (s.layersOf p false).any fun i => s.layerOwner i == v && lsrEnable (s.layer i).shown
  vis.foldl (fun s v => s.emit v 0x38 .late 0 d) (s.emitPf 0x38 .late d)

/-- HL_SHOWN and FLAG_RESERVED of the direct layers of a pipe, for the frame just sent (R156). -/
def State.directMarks (s : State) (p : Nat) : State :=
  let ps := s.pipe p
  (s.layersOf p true).foldl (fun s i =>
    let drawn := ps.directs.any fun d => d.slot == i && d.hl && lsrHlWidth d.lsr != 0 && decide (lsrDstX d.lsr < ps.cfg.hActive)
      && decide (0 < lsrDstX d.lsr + lsrDstW d.lsr) && decide (lsrDstY d.lsr < ps.cfg.vActive) && decide (0 < lsrDstY d.lsr + lsrDstH d.lsr)
    (s.wb (layerReg i 4) 23 drawn).wb (layerReg i 4) 22 (ps.rsvMet.contains i)) s

/-- At line V_ACTIVE of frame k: the buffer switches or the composition is abandoned, commits latch, direct states are taken, and
check results are published (R160, R163, R173, R176, R189, R190, R241, R253, R255). A Pip-first pipe goes to its frame store once its composition is
complete (R584). -/
def State.latchPoint (s : State) (p : Nat) (hosts : List HostRun) : State :=
  if !s.scanning p then s
  else
    let k := s.frame p
    let s := s.toLine hosts p (s.pipe p).cfg.vActive
    let s := s.wf (pipeReg p 0xC000) 5 0 ((s.pipe p).sprites.countP fun sp => s.iconLoaded sp.icon)
    let s := s.viewEvent p 0 0x40
    let reconf := (s.pipe p).next.isSome
    let held := (s.pipe p).pipFirst && (match (s.pipe p).comp with | some c => !c.done | none => true)
    let comp := if reconf || held then none else (s.pipe p).comp
    let late := match comp with | some c => !c.done | none => false
    let s := match comp with | some c => s.recValue 2 p (if c.done then (s.now : Int) - c.doneAt else -1) | none => s
    let results := s
    let s := if late then (s.composeLate p (k + 1)).pipeDirty p else s
    let s := match comp with | some c => if c.waiting then s.latchHeld p c.frame else s | none => s
    let s := s.display.commits.foldl (fun s c =>
      if (reconf || held) && c.phase == .composing then s else s.latchOne p k (!late) c) s
    let s := (s.directMarks p).captureDirects hosts p (k + 1)
    let s := match comp with
      | some c =>
        if c.done then (s.mPipe p fun ps => { ps with ready := some c.buffer, comp := none, pipFirst := false }).firstShown c.frame c.layers
        else s.mPipe p fun ps => { ps with comp := none }
      | none => s
    let s := s.lineMatch p (s.pipe p).cfg.vActive
    -- the results are those of the frame just sent: the buffer, regions and source words it used
    let now := s.pipe p
    let shown := results.pipe p
    let s := s.mPipe p fun ps => { ps with directs := shown.directs, directMetas := shown.directMetas }
    let s := s.publish p k
    let s := s.mPipe p fun ps => { ps with directs := now.directs, directMetas := now.directMetas, front := ps.ready.getD ps.front, ready := none }
    let s := (if s.pipeState p = 2 then s.takeLatched p (k + 1) else s).mPipe p fun ps => { ps with latchDone := true, offAt := [], underran := [], rsvMet := [] }
    s.wr (pipeReg p 0x54) (s.fifoDepth p)

/-! ### Frame lock (R234 to R237) -/

/-- Following PIPE sources from a pipe returns to it within 16 steps (R237). -/
def State.lockCycle (s : State) (p : Nat) : Nat → Nat → Bool
  | 0, _ => false
  | n + 1, q =>
    let l := (s.lockOf q).lock
    if bits l 31 30 = 2 then (bits l 29 26 == p || s.lockCycle p n (bits l 29 26)) else false

/-- The nearest of the instants base + floor(k × period ÷ 65,536) to a time, less the time (R234). -/
def nearestRef (base : Int) (period now : Nat) : Option Int :=
  if period = 0 then none
  else
    let d := (now : Int) - base
    let k := (d * 65536) / (period : Int)
    let at_ (j : Int) : Int := base + (j * (period : Int)) / 65536 - now
    let best := [k + 1, k + 2].foldl (fun b j => if (at_ j).natAbs < b.natAbs then at_ j else b) (at_ k)
    some best

/-- The trim of a PLL in force, in ppm (R245). -/
def State.pllTrim (s : State) (j : Nat) : Int := sext 16 (s.rf (pllReg j 0xC) 15 0)

/-- The time of a frame whose front porch is `slew` lines longer, with a trim, in units of 2^-16 ns (R200, R235). -/
def PipeCfg.framePeriod (c : PipeCfg) (slew : Nat) (trim : Int) : Nat :=
  if c.pixelHz trim = 0 then 0 else c.hTotal * (c.vTotal + slew) * 1000000000 * 65536 / c.pixelHz trim

/-- The error of a pipe's line 0 now: the instant less the nearest reference instant; `none` where the reference stops (R234, R235). The
line-0 instants of another pipe beside its last one are placed by its frame time (log entry 73). -/
def State.lockError (s : State) (p : Nat) : Option Int :=
  let l := (s.lockOf p).lock
  let off := sext 64 (s.rd64 (pipeReg p 0x30))
  match bits l 31 30 with
  | 1 => (nearestRef (s.rd64 (pipeReg p 0x30) : Nat) (bits (s.rd64 (pipeReg p 0x38)) 47 0) s.now).map fun e => -e
  | 2 =>
    let q := bits l 29 26
    let c := (s.pipe q).cfg
    if s.lockCycle p 16 p || !s.scanning q || !(s.lockOf q).seen then none
    else (nearestRef ((s.lockOf q).zeroAt + off) (c.framePeriod (s.lockOf q).slew (s.pllTrim c.pll)) s.now).map fun e => -e
  | 3 =>
    let r := tget (0, 0) s.display.podRefs (bits l 29 26 % 8)
    (nearestRef (r.1 + off) r.2 s.now).map fun e => -e
  | _ => some 0

/-- A free number from −lim to lim, and one from 0 to lim: how far the device corrects is bounded and not stated (R235). -/
def State.freeWithin (s : State) (lim : Nat) : Int × State :=
  let (w, s) := s.freeWord
  ((w.toNat % (2 * lim + 1) : Nat) - (lim : Int), s)
def State.freeUpTo (s : State) (lim : Nat) : Nat × State :=
  let (w, s) := s.freeWord
  (w.toNat % (lim + 1), s)

/-- A PLL feeds another pipe that is locked to a reference (R237). -/
def State.pllShared (s : State) (p : Nat) : Bool :=
  (List.range 16).any fun q =>
    q != p && s.pipeState q != 0 && (s.pipe q).cfg.pll == (s.pipe p).cfg.pll && bits (s.lockOf q).lock 31 30 != 0

/-- A PLL is trimmed: its status and the pixel clocks of the pipes it feeds (R235, R242, R245). -/
def State.pllTrimTo (s : State) (j : Nat) (t : Int) : State :=
  let s := s.wf (pllReg j 0xC) 15 0 (tobits 16 t)
  (List.range 16).foldl (fun s q => if s.pipeState q ≠ 0 ∧ (s.pipe q).cfg.pll = j then s.pixelHzSet q else s) s

/-- The lock of a pipe at its line 0 (R235 to R237). Counts of consecutive instants start anew where no error is measured. The porch is
V_SYNC_START lines by R200 and never falls below that, so that it is only ever lengthened, for a line 0 that came early (DEDUCED, log entry 73). -/
def State.lockZero (s : State) (p : Nat) : State :=
  let l := s.lockOf p
  let c := (s.pipe p).cfg
  let k := pipeReg p 0x2C
  let setL (s : State) (l : LockSt) : State := s.mDisplay fun d => { d with locks := tset {} d.locks p l }
  if bits l.lock 31 30 = 0 then setL (s.wb k 30 false) { l with good := 0, bad := 0, slew := 0 }
  else
    match s.lockError p with
    | none => setL ((s.wb k 30 true).raise (pipeReg p 0x4C) 2) { l with good := 0, bad := 0, slew := 0 }
    | some e =>
      let s := s.wb k 30 false
      let lines : Int := if c.linePs = 0 then 0 else Int.tdiv (e * 1000) (c.linePs : Int)
      let inside : Bool := e.natAbs * 1000 < c.linePs
      let err := tobits 16 (clampI (-32768) 32767 lines)
      let s := s.wf k 15 0 err
      let good := if inside then l.good + 1 else 0
      let bad := if inside then 0 else l.bad + 1
      let was := s.rb k 31
      let is := if 8 ≤ good then true else if 2 ≤ bad then false else was
      let s := s.wb k 31 is
      let s := if is = was then s else s.emitPf 0x46 .ok (p * 2 ^ 24 + b2n is * 2 ^ 16 + err)
      let trims := !s.pllShared p || bits (s.pllNow c.pll).1 8 8 == c.pllOut
      let (t, s) := if trims then s.freeWithin (bits l.lock 15 8 * 50) else (l.trim, s)
      let (w, s) := if inside ∨ 0 ≤ e then (0, s) else s.freeUpTo (bits l.lock 25 22)
      let s := if trims then s.pllTrimTo c.pll t else s
      setL s { l with good := min good 8, bad := min bad 2, trim := t, slew := w }

/-- What every line 0 does: counts, CS, the lock's setting, and the frame's own marks (R159, R161, R213, R229, R234). -/
def State.lineZeroCommon (s : State) (p frame : Nat) : State :=
  let s := ((s.wr64 (pipeReg p 0x40) frame).wr (pipeReg p 0x48) (frame % 2 ^ 16 * 2 ^ 16)).replaceNow p
  let s := s.mPipe p fun ps =>
    { ps with begun := true, frameNo := frame, csDone := false, latchDone := false, cs := min (s.rf (pipeReg p 0x20) 15 0) (ps.cfg.vActive - 1),
              scanned := 0, out := [] }
  let s := s.cntEvent 0x20 p 2 1
  let s := s.mDisplay fun d =>
    { d with locks := tmod {} d.locks p fun l => { l with lock := s.rd (pipeReg p 0x28), zeroAt := s.now, seen := true } }
  (s.lockZero p).videoStart p

/-- START_T_PIP is loaded when every degraded output scans out (R583 step 8, R601). -/
def State.tPip (s : State) : State :=
  let outs := (List.range s.row.pipes).filter fun p => s.rb (pipeReg p 0xC000) 30
  if s.start.step ≠ 0 ∧ s.rd 0x00200008 = 0 ∧ outs ≠ [] ∧ outs.all (fun p => s.scanning p) then
    s.wr 0x00200008 ((s.now - s.start.since) / 1000)
  else s

/-- The first line 0 of a start or of a new configuration (R206, R208, R712). -/
def State.firstZero (s : State) (hosts : List HostRun) (p : Nat) : State :=
  let ps := s.pipe p
  let frame := s.nextFrame p
  let layers := match ps.comp with | some c => c.layers | none => []
  let buffer := match ps.comp with | some c => c.buffer | none => 0
  let s := s.mPipe p fun q => { q with front := buffer, ready := none, comp := none, offAt := [], underran := [], rsvMet := [] }
  let s := ((s.pipeGo p 2).pixelHzSet p).linkEval ps.cfg.port false
  let s := s.firstShown frame layers
  let s := s.display.commits.foldl (fun s c =>
    if c.pipe = p ∧ c.phase = .composing then (s.takeEnts c.w true c.ents).latchCommit c c.target else s) s
  let s := (s.captureDirects hosts p frame).takeLatched p frame
  let s := (s.wr (pipeReg p 0x54) (s.fifoDepth p)).lineZeroCommon p frame
  let s := s.mChecks fun c => { c with published := tset 0 c.published p (s.now + 1) }
  (s.pipeEvent p .ok).tPip

/-- The old configuration's reservations are released and the new one is in force (R208). -/
def State.swapCfg (s : State) (p : Nat) (c : PipeCfg) : State :=
  let ps := s.pipe p
  let old := ps.cfg
  let s := s.releaseStore (ps.store.map (·.chunks))
  let s := s.setNeed p (scanoutNeed (c.pixelHz 0) c.bpp)
  let s := if c.pll = old.pll ∧ c.pllOut = old.pllOut then s else s.pllGive old
  let s := if old.dscEn ∧ ¬ (c.dscEn ∧ c.dsc = old.dsc) then s.dscGive old else s
  let s := (s.payloadGive old p).payloadTake c p
  let s := s.mPipe p fun q => { q with cfg := c, next := none, store := ps.nextStore, nextStore := [] }
  let s := s.mDisplay fun d =>
    { d with wbMisfit := d.wbMisfit.filter (fun q => q != p && q != 16 + p) ++ (if d.wbMisfit.contains (16 + p) then [p] else []) }
  if old.port = c.port ∧ old.kind = c.kind then s else (s.linkEval old.port false).portSettle old.port

/-- A pipe reaches line 0 (R159, R206 to R208). The first frame of a start needs its PLL locked and its composition done. -/
def execLineZero (dt p : Nat) (hosts : List HostRun) (s : State) : Host.Outcome State Fault Refusal :=
  let s := s.tickMem dt hosts
  let ps := s.pipe p
  let done : Bool := ps.pipFirst || ps.spareOf.isSome || (match ps.comp with | some c => c.done | none => false)
  match ps.next with
  | some c =>
    if s.pipeState p ≠ 2 ∧ s.pipeState p ≠ 1 then .next s
    else
      let s := if s.pipeState p = 2 then ((((s.videoStop p).wf (pipeReg p 0x48) 15 0 0).pipeGo p 1).pipeEvent p .ok).takeWaiting p else s
      if done ∧ ¬ ps.stop ∧ s.rb (pllReg c.pll 0xC) 31 then .next ((s.swapCfg p c).firstZero hosts p) else .next s
  | none =>
    if s.pipeState p = 2 then .next ((s.recValue 1 p ((s.now : Int) - (s.lockOf p).zeroAt)).lineZeroCommon p ((s.frame p + 1) % 2 ^ 64))
    else if s.pipeState p = 1 ∧ done ∧ ¬ ps.stop ∧ s.pipePowered p ∧ s.rb (pllReg ps.cfg.pll 0xC) 31 then .next (s.firstZero hosts p)
    else .next s

/-! ### Pip-first outputs (R584) -/

/-- A pipe starts Pip-first, with the configuration its registers hold: it starts by R206 without a frame store and without compositions (R584). What
R205 finds wrong beside the frame store and its bandwidth stops the start. -/
def State.pipFirstStart (s : State) (p : Nat) : State :=
  let c := s.heldCfg p
  let st := byR19 (s.pipeFails p c false false)
  if s.pipeState p ≠ 0 then s
  else if st ≠ .ok then (s.pipeResult p st).pipeEvent p st
  else
    let s := s.reserve p c
    let s := s.mPipe p fun ps =>
      { ps with cfg := c, store := [], front := 0, dirty := true, stop := false, checks := 0, abandon := false, pipFirst := true, comp := none }
    let s := ((s.wr (pipeReg p 0x20) (c.vActive / 2)).pixelHzSet p).wb (pipeReg p 0xC000) 29 true
    (((s.pipeGo p 1).pipeResult p .ok).pipeEvent p .ok).linkEval c.port false

/-- PIP_FIRST_HANDOVER: with the Seedbank in service, the frame store and the SCANOUT need are reserved and a first frame is composed; the pipe
switches to it at the first latch point after it is complete (R584). -/
def execPipFirstHandover (dt p : Nat) (hosts : List HostRun) (s : State) : Host.Outcome State Fault Refusal :=
  let s := s.tickMem dt hosts
  let ps := s.pipe p
  if !ps.pipFirst || ps.store ≠ [] || !(s.stackUp 0 || s.stackUp 1) || s.husk.degraded then .next s
  else
    let c := ps.cfg
    let need := scanoutNeed (c.pixelHz 0) c.bpp
    let fits := s.bwFits 0 (s.rf (bwKey 0 0) 15 0 + s.rf (bwKey 0 1) 15 0 + need - tget 0 s.seed.needs p)
    match (if fits then s.placeStore p (storeChunks c.hActive c.vActive c.bpp) c.buffers else none) with
    | none => .next (s.emitPf 0x1A .noResource 0x0D)
    | some (bufs, s) =>
      let s := (s.setNeed p need).mPipe p fun ps => { ps with store := bufs.map fun b => { chunks := b }, front := 0, ready := none, dirty := true }
      .next (if s.scanning p then s.startComposition hosts p (s.sampled p (s.frame p + 1) false) else s)

/-! ### Layer faults and underruns (R194, R213) -/

/-- A fetch of a layer at an address faults (R76, R194): a composed layer leaves the composition that runs, whose finished tiles
keep it; a direct layer is off from a position of the frame being scanned. Where the read does not fault, nothing is lost. -/
def execLayerFault (dt slot faddr line x : Nat) (tiles : List Nat) (hosts : List HostRun) (s : State) : Host.Outcome State Fault Refusal :=
  let s := s.tickMem dt hosts
  let p := (s.layer slot).pipe
  let w := s.layerOwner slot
  let seen := match (s.layer slot).direct, (s.pipe p).comp with | false, some c => s.heldMaps c | _, _ => s
  match seen.peek w 4 hosts faddr 1 with
  | .ok _ => .next s
  | .error _ =>
    if (s.layer slot).direct then
      if s.scanning p ∧ (s.pipe p).directs.any (fun d => d.slot == slot) ∧ ¬ (s.pipe p).offAt.any (fun o => o.1 == slot) then
        let s := s.scanTo hosts p line
        .next ((s.reportFault w clsDirect faddr).directOff p slot x line)
      else .next s
    else
      match (s.pipe p).comp with
      | some c =>
        if !c.waiting && !c.done && c.layers.any (·.slot == slot) then
          let s := (s.compMetas hosts p).composeTiles hosts p tiles
          let s := (s.reportFault w 4 faddr).layerOff slot c.frame
          .next (s.mPipe p fun ps =>
            { ps with comp := ps.comp.map fun c => { c with layers := c.layers.filter fun d => d.slot != slot } })
        else .next s
      | none => .next s

/-- Stage 2 reaches direct-layer data that is not in the FIFO (R213): off for the rest of the frame, reported once a frame. A layer
whose fetch faulted is not reported (R214). -/
def execUnderrun (dt slot line x : Nat) (hosts : List HostRun) (s : State) : Host.Outcome State Fault Refusal :=
  let s := s.tickMem dt hosts
  let p := (s.layer slot).pipe
  let ps := s.pipe p
  if (s.layer slot).direct ∧ s.scanning p ∧ ps.directs.any (fun d => d.slot == slot) ∧ ¬ ps.offAt.any (fun o => o.1 == slot) then
    let s := s.scanTo hosts p line
    let s := s.mPipe p fun ps => { ps with offAt := ps.offAt ++ [(slot, line, x)] }
    if ps.underran.contains slot then .next s
    else
      let s := s.mPipe p fun ps => { ps with underran := ps.underran ++ [slot] }
      let s := ((s.cntEvent 0x20 p 4 1).sat (pipeReg p 0x50) 1).raise (pipeReg p 0x4C) 1
      let d := s.frame p % 2 ^ 16 * 2 ^ 16 + line % 2 ^ 16
      let w := s.layerOwner slot
      let s := s.emit w 0x43 .late (s.handleWord kLayer slot) d
      .next (if w = pfWin then s else s.emit pfWin 0x43 .late (s.handleWord kLayer slot) d)
  else .next s

/-! ### LUTs, PLLs and encoders -/

/-- Where a word of a LUT lies: the pipe, whether it is of the 3D LUT, and the bank (R242). -/
def lutAt (addr : Nat) : Option (Nat × Bool × Nat) :=
  if 0x01800000 ≤ addr ∧ addr < 0x01900000 then
    let o := addr % 0x10000
    if 0x2000 ≤ o ∧ o < 0x6000 then some ((addr - 0x01800000) / 0x10000, false, (o - 0x2000) / 0x2000) else none
  else if 0x01900000 ≤ addr ∧ addr < 0x01B00000 then
    let o := addr % 0x20000
    if o % 0x10000 < 4913 * 8 then some ((addr - 0x01900000) / 0x20000, true, o / 0x10000) else none
  else none

/-- A bank is in use in a value of PIPE_COLOUR: selected, with its LUT enabled (R217). -/
def bankUsed (colour : Nat) (cube : Bool) (bank : Nat) : Bool :=
  if cube then bit colour 4 && bits colour 5 5 == bank else bit colour 2 && bits colour 3 3 == bank

/-- A 64-bit write to a LUT entry (R210, R217): ignored while its bank is in use, in the value in force or the one written. -/
def execPipeLutWrite (dt : Nat) (r : Req) (addr v : Nat) (s : State) : Host.Outcome State Fault Refusal :=
  let s := s.tick dt
  match lutAt addr with
  | none => .next s
  | some (p, cube, bank) =>
    if !s.pipeReach r p then .next s
    else if s.pipeClaimed p r then .next (s.pipeResult p .claimed)
    else if bankUsed (s.pipe p).colour cube bank || bankUsed (s.rd (pipeReg p 0x24)) cube bank then .next (s.raise (pipeReg p 0x4C) 0)
    else .next (s.wr64 addr (bits v 47 0))

/-- A write of PLL_INT, PLL_FRAC or PLL_DIV, registers 0 to 2: held while an output is in use (R203, R245). -/
def execPllWrite (dt : Nat) (r : Req) (j reg : Nat) (v : Word) (s : State) : Host.Outcome State Fault Refusal :=
  let s := s.tick dt
  match r.path with
  | .vi _ => .next s
  | _ =>
    if s.row.plls ≤ j then .next s
    else
      let m := match reg with | 0 => 0x1FF | 1 => 0xFFFFFF | _ => 0x07FF07FF
      .next (s.wr (pllReg j (reg * 4)) (v.toNat &&& m))

/-- A write of DSC_CFG, held while the encoder is in use (R225, R245). -/
def execDscCfgWrite (dt : Nat) (r : Req) (e : Nat) (v : Word) (s : State) : Host.Outcome State Fault Refusal :=
  let s := s.tick dt
  match r.path with
  | .vi _ => .next s
  | _ => if s.row.dscs ≤ e then .next s else .next (s.wr (dscReg e 0) (v.toNat &&& 0xE3FF3FFF))

/-! ### Links -/

/-- Training of a port's link begins (R228): until it ends the link carries nothing. -/
def State.trainStart (s : State) (port : Nat) : State :=
  let s := s.wb (pipeReg port 0x8004) 30 false
  let s := s.mDisplay fun d => { d with training := d.training.filter (· != port) ++ [port] }
  s.linkEval port true

/-- HPD high for 2 ms: a plug (R227, R228). -/
def execHpdPlug (dt port : Nat) (s : State) : Host.Outcome State Fault Refusal :=
  let s := s.tick dt
  if s.row.dpPorts ≤ port ∨ s.rb (pipeReg port 0x8004) 31 then .next s
  else .next (((s.wb (pipeReg port 0x8004) 31 true).emitPf 0x44 .ok (port * 2 ^ 24 + 2 ^ 16)).trainStart port)

/-- HPD low for more than 2 ms: an unplug (R227, R229). -/
def execHpdUnplug (dt port : Nat) (s : State) : Host.Outcome State Fault Refusal :=
  let s := s.tick dt
  if s.row.dpPorts ≤ port ∨ ¬ s.rb (pipeReg port 0x8004) 31 then .next s
  else
    let s := s.wr (pipeReg port 0x8004) 0
    let s := s.mDisplay fun d => { d with training := d.training.filter (· != port) }
    .next ((s.linkEval port true).emitPf 0x44 .ok (port * 2 ^ 24))

/-- A low HPD pulse of 0.5 to 1 ms; `lost` says that the sink's link status, read by the device, shows the link lost (R227, R228). -/
def execIrqHpd (dt port : Nat) (lost : Bool) (s : State) : Host.Outcome State Fault Refusal :=
  let s := s.tick dt
  if s.row.dpPorts ≤ port ∨ ¬ s.rb (pipeReg port 0x8004) 31 then .next s
  else
    let s := s.emitPf 0x44 .ok (port * 2 ^ 24 + 2 * 2 ^ 16)
    .next (if lost then s.trainStart port else s)

/-- Another world claims the pipe that drives a port (R210). -/
def State.portClaimed (s : State) (kind port : Nat) (r : Req) : Option Nat :=
  (List.range s.row.pipes).find? fun p =>
    s.pipeState p != 0 && (s.pipe p).cfg.kind == kind && (s.pipe p).cfg.port == port && s.pipeClaimed p r

/-- A write to DP_RETRAIN with bit 0 set (R210, R228): the link is trained, and with nothing plugged in the training fails. -/
def execDpRetrain (dt : Nat) (r : Req) (port : Nat) (v : Word) (s : State) : Host.Outcome State Fault Refusal :=
  let s := s.tick dt
  match r.path with
  | .vi _ => .next s
  | _ =>
    if s.row.dpPorts ≤ port then .next s
    else
      match s.portClaimed 1 port r with
      | some p => .next (s.pipeResult p .claimed)
      | none => if bit v.toNat 0 then .next (s.trainStart port) else .next s

/-- The lanes a link trains with: 1, 2 or 4, no more than offered (R226). -/
def laneCount (n : Nat) : Nat := if 4 ≤ n then 4 else min n 2

/-- Link training ends (R228): what the sink and the fallback rules gave, at most the port's limits, no 128b/132b rate in eDP mode (R226), and the payload capacity of the
trained link in bit/s, which the rules do not compute (log entry 20). -/
def execLinkTrained (dt port : Nat) (ok : Bool) (rate lanes capacity : Nat) (s : State) : Host.Outcome State Fault Refusal :=
  let s := s.tick dt
  if !s.display.training.contains port then .next s
  else
    let s := s.mDisplay fun d => { d with training := d.training.filter (· != port), capacity := tset 0 d.capacity port capacity }
    let st := pipeReg port 0x8004
    let rate := min (min rate (s.rf (pipeReg port 0x8000) 11 8)) (if s.dpMode port = 3 then 3 else 6)
    let lanes := laneCount (min lanes (s.rf (pipeReg port 0x8000) 2 0))
    let ok := ok && lanes != 0
    let s := s.wb st 30 ok
    let s := if ok then (s.wf st 11 8 rate).wf st 2 0 lanes else (s.wf st 11 8 0).wf st 2 0 0
    let s := s.linkEval port true
    let short := s.rb st 29
    .next (s.emitPf 0x45 (if ok then .ok else .fault)
      (port * 2 ^ 24 + s.rf st 11 8 * 2 ^ 16 + s.rf st 2 0 * 2 ^ 8 + b2n short))

/-- The command codes of DP_AUX_CMD (R244). -/
def auxKnown (cmd : Nat) : Bool := [0x8, 0x9, 0x0, 0x1, 0x4, 0x5].contains cmd

/-- A write of DP_AUX_CMD (R210, R231): ignored while BUSY; a command that is not listed gives BAD_PARAM. -/
def execDpAuxCmd (dt : Nat) (r : Req) (port : Nat) (v : Word) (s : State) : Host.Outcome State Fault Refusal :=
  let s := s.tick dt
  let k := pipeReg port 0x8020
  match r.path with
  | .vi _ => .next s
  | _ =>
    if s.row.dpPorts ≤ port then .next s
    else
      match s.portClaimed 1 port r with
      | some p => .next (s.pipeResult p .claimed)
      | none =>
        if s.rb k 31 then .next s
        else if !auxKnown (bits v.toNat 31 28) then .next (s.wf k 22 16 Status.badParam.code)
        else .next ((s.wb k 31 true).mDisplay fun d => { d with aux := tset none d.aux port (some v.toNat) })

/-- Words of bytes written to consecutive registers. -/
def State.putBytes (s : State) (k : Nat) (bs : Bytes) : Nat → State
  | 0 => s
  | n + 1 => (s.putBytes k bs n).wr (k + 4 * n) (leNat ((bs.drop (4 * n)).take 4))

/-- An AUX transaction ends: 0 OK with the bytes received, 1 NACK, 2 seven DEFER replies, 3 no reply to seven attempts (R231). -/
def execAuxTransactionDone (dt port outcome : Nat) (rx : Bytes) (s : State) : Host.Outcome State Fault Refusal :=
  let s := s.tick dt
  match tget none s.display.aux port with
  | none => .next s
  | some cmd =>
    let k := pipeReg port 0x8020
    let s := s.mDisplay fun d => { d with aux := tset none d.aux port none }
    let st : Status := match outcome with | 0 => .ok | 1 => .fault | 2 => .busy | _ => .timeout
    let s := (s.wb k 31 false).wf k 22 16 st.code
    let got := if outcome = 0 ∧ bit cmd 28 then min 16 (min rx.length (bits cmd 3 0 + 1)) else 0
    let s := s.wf k 4 0 got
    .next (if got = 0 then s else s.putBytes (pipeReg port 0x8010) (rx.take got) (cdiv got 4))

/-- A write of DSI_CMD (R210, R233): ignored while CMD_BUSY; a payload above 64 bytes gives BAD_PARAM. -/
def execDsiCmd (dt : Nat) (r : Req) (port : Nat) (v : Word) (s : State) : Host.Outcome State Fault Refusal :=
  let s := s.tick dt
  let k := pipeReg port 0xA004
  match r.path with
  | .vi _ => .next s
  | _ =>
    if s.row.dsiPorts ≤ port then .next s
    else
      match s.portClaimed 2 port r with
      | some p => .next (s.pipeResult p .claimed)
      | none =>
        if s.rb k 0 then .next s
        else if 64 < bits v.toNat 15 0 then .next (s.wf k 22 16 Status.badParam.code)
        else .next ((s.wb k 0 true).mDisplay fun d => { d with lp := tset none d.lp port (some v.toNat) })

/-- A pipe that uses a DSI port scans its active lines (R233). -/
def State.dsiBusy (s : State) (port : Nat) : Bool :=
  (List.range 16).any fun p =>
    s.scanning p && (s.pipe p).cfg.kind == 2 && (s.pipe p).cfg.port == port && s.rf (pipeReg p 0x48) 15 0 < (s.pipe p).cfg.vActive

/-- An LP command is sent, in the vertical blanking of a running pipe or at once, with any read reply (R233). -/
def execDsiCmdDone (dt port : Nat) (ok : Bool) (reply : Bytes) (s : State) : Host.Outcome State Fault Refusal :=
  let s := s.tick dt
  match tget none s.display.lp port with
  | none => .next s
  | some cmd =>
    if s.dsiBusy port then .next s
    else
    let k := pipeReg port 0xA004
    let s := s.mDisplay fun d => { d with lp := tset none d.lp port none }
    let s := (s.wb k 0 false).wf k 22 16 (if ok then Status.ok else .fault).code
    let b := reply.take 64
    .next (if ok ∧ bit cmd 21 then s.putBytes (pipeReg port 0xA010) b (cdiv b.length 4) else s)

/-! ### Pip REPLACE (R221, R617) -/

/-- Writes that reach no list area: those of a VI out of service, and in degraded mode all but the Pip lane's own (R494, R614). -/
def State.pipShut (s : State) (r : Req) : Bool := s.winDead (pathWin r.path) || (s.husk.degraded && r.path != .pip)

/-- The refusal of a write to a list area, if there is one: the safety owner writes it, for a designated pipe (R617). The Pip lane firmware reaches
it for a list of its own and for REPLACE (R614, R619; log entry 78). -/
def State.pipRefusal (s : State) (r : Req) (p : Nat) : Option Status :=
  if pathWin r.path ≠ s.safetyWin ∧ r.path ≠ .pip then some .denied
  else if ¬ s.rb (pipeReg p 0xC000) 31 then some .badState
  else none

/-- A write of PIP_LIST_CTRL.REPLACE (R221, R617): in force from the start of the line after the write; at once where no line is sent. -/
def execPipReplaceWrite (dt : Nat) (r : Req) (p : Nat) (on : Bool) (hosts : List HostRun) (s : State) : Host.Outcome State Fault Refusal :=
  let s := s.tickMem dt hosts
  if s.pipShut r then .next s
  else
    match s.pipRefusal r p with
    | some st => .next (s.wf (0x00308204 + p * 0x400) 22 16 st.code)
    | none =>
      let s := if r.path = .pip then s else s.wb (0x00308200 + p * 0x400) 30 on
      if s.scanning p then
        .next ((s.scanLines hosts p (s.rf (pipeReg p 0x48) 15 0 + 1)).mPipe p fun ps => { ps with replace := some on })
      else .next (s.wb (pipeReg p 0xC000) 29 on)

end Sys2Proof.Machine
end

