-- ==== Sys2Proof/Machine/Queues.lean ====
section
/-!
DEFINITION. Queues: render and compute queues and their contexts: creation, what stops them, tile-list pools, deadlines and rank,
faults, and the retiring of descriptors in ring order (R275 to R279, R303 to R305, R307 to R309, R323 to R327, R332 to R339).
-/
namespace Sys2Proof.Machine

/-! ### Access -/

/-- The channel kind and index of a queue's key. -/
def qKind (q : Nat) : Nat := q / 2 ^ 18
def qIdx (q : Nat) : Nat := q % 2 ^ 18

/-- A queue by its key, and a queue changed. -/
def State.queue (s : State) (q : Nat) : QueueSt := tget {} s.render.queues q
def State.mQueue (s : State) (q : Nat) (f : QueueSt → QueueSt) : State :=
  s.mRender fun r => { r with queues := tmod {} r.queues q f }

/-- The channel of a queue, its owner and its handle word. -/
def State.qChan (s : State) (q : Nat) : Chan := s.chan (qKind q) (qIdx q)
def State.qOwner (s : State) (q : Nat) : Nat := (s.qChan q).owner
def State.qHandle (s : State) (q : Nat) : Nat := s.handleWord (qKind q) (qIdx q)

/-- The registers of context c (R328). -/
def ctxReg (c off : Nat) : Nat := 0x02010000 + c * 0x10 + off

/-- The registers of a queue's context. -/
def State.qReg (s : State) (q off : Nat) : Nat := ctxReg (s.queue q).ctx off

/-- The traffic class of a queue's accesses: that of fill queues apart from foreground work (R99, R331). -/
def State.qCls (s : State) (q : Nat) : Nat := if (s.queue q).fill then clsFill else 3

/-- The state code of a queue's context (R329). -/
def State.qState (s : State) (q : Nat) : Nat := s.rf (s.qReg q 4) 31 28

/-- FAULTED or ORPHANED. -/
def State.qDead (s : State) (q : Nat) : Bool := s.qState q == 5 || s.qState q == 6

/-- Descriptors read and not started. -/
def State.qWaiting (s : State) (q : Nat) : List Bytes := tget [] s.pods.fetched q

/-! ### Descriptors (R303) -/

def descOp (n : Nat) : Nat := bits n 175 168
def descCnt (n : Nat) : Nat := bits n 255 224

/-- The bits of [167:0] that R306 gives an opcode; every other must be 0. -/
def descMask (op : Nat) : Nat :=
  let f (hi lo : Nat) : Nat := 2 ^ (hi + 1) - 2 ^ lo
  match op with
  | 0x01 => f 162 160 + f 159 96 + f 63 0
  | 0x03 => f 63 0
  | 0x04 => f 160 160 + f 81 80 + f 72 0
  | 0x05 => f 160 160 + f 95 0
  | 0x06 => f 99 0
  | 0x07 => f 160 160 + f 130 0
  | 0x08 => f 159 0
  | 0x09 => f 63 0
  | 0x0A => f 127 0
  | 0x0B => f 159 0
  | 0x0C => f 160 160 + f 127 0
  | 0x0D => f 95 0
  | 0x0E => f 63 0
  | 0x0F => f 160 160 + f 73 0
  | 0x10 => f 159 0
  | 0x11 => f 15 0
  | 0x12 => f 95 0
  | 0x13 => f 95 0
  | 0x14 => f 162 160 + f 63 0
  | 0x15 => f 63 0
  | 0x16 => f 160 160 + f 127 64 + f 7 0
  | _ => 0

/-- A bit of a descriptor that must be 0 is set. -/
def descRsv (n : Nat) : Bool := (n % 2 ^ 168) &&& ((2 ^ 168 - 1) ^^^ descMask (descOp n)) != 0

/-- An opcode, or a QUERY kind, that R305 and R306 list. -/
def descKnown (n : Nat) : Bool :=
  let op := descOp n
  1 ≤ op && op ≤ 0x16 && (op != 0x14 || (1 ≤ bits n 162 160 && bits n 162 160 ≤ 4))

/-- Work the clusters, the back-ends or the copy path do; it completes by DESCRIPTOR_COMPLETE. -/
def descWork (op : Nat) : Bool := [0x02, 0x0A, 0x0B, 0x0C, 0x0D, 0x0E, 0x0F, 0x10, 0x15].contains op

/-- The stages an opcode's work takes part in, as the masks of BARRIER (R306). -/
def descStages (op : Nat) : Nat :=
  match op with
  | 0x02 => 0x10
  | 0x0A => 0x1E
  | 0x0B => 0x1E
  | 0x0C => 0x1F
  | 0x0D => 0x20
  | 0x0E => 0x21
  | 0x0F => 0x50
  | 0x10 => 0x40
  | 0x15 => 0x40
  | _ => 0

/-- Whether a stage mask covers work. Bit 7 is all (R306). -/
def covers (mask stages : Nat) : Bool := bit mask 7 || mask &&& stages != 0

/-- A BARRIER among running descriptors holds back later work of some stages: it names them and lies behind unfinished work that it covers (R307). -/
def barrierHolds (stages : Nat) : List Desc → List Desc → Bool
  | _, [] => false
  | earlier, b :: r =>
    (descOp b.word == 0x11 && covers (bits b.word 15 8) stages
      && earlier.any fun e => descWork (descOp e.word) && !e.done && covers (bits b.word 7 0) (descStages (descOp e.word)))
    || barrierHolds stages (earlier ++ [b]) r

/-- The second word of R305: whether an opcode may stand where a queue is. Graphics and compute pipelines of BIND_PIPELINE are
checked where the record is read. -/
def descPlaced (compute inPass : Bool) (n : Nat) : Bool :=
  match descOp n with
  | 0x01 => !compute && !inPass
  | 0x02 => !compute && inPass
  | 0x05 => !compute
  | 0x06 => !compute
  | 0x08 => !compute
  | 0x09 => !compute
  | 0x0A => !compute && inPass
  | 0x0B => !compute && inPass
  | 0x0C => !compute && inPass
  | 0x0D => compute || !inPass
  | 0x0E => compute || !inPass
  | 0x0F => if bit n 160 then !compute && inPass else compute || !inPass
  | 0x10 => compute || !inPass
  | 0x11 => compute || !inPass || (bits n 15 0 &&& 0xE7E7 == 0)
  | 0x12 => compute || !inPass
  | 0x13 => compute || !inPass
  | 0x14 =>
    (match bits n 162 160 with
     | 1 => compute || !inPass
     | 4 => !compute && !inPass
     | _ => !compute && inPass)
  | 0x15 => compute || !inPass
  | 0x16 => compute || !inPass
  | _ => true

/-! ### Deadlines and rank -/

/-- The deadline instant D (R338), from the pipe's last line 0; `none` while the pipe is not RUNNING. -/
def State.deadlineAt (s : State) (p frame : Nat) : Option Int :=
  if s.pipeState p ≠ 2 ∨ ¬ (s.lockOf p).seen then none
  else
    let c := (s.pipe p).cfg
    let lines : Int := ((frame : Int) - 1 - s.frame p) * c.vTotal + (s.pipe p).cs
    some ((s.lockOf p).zeroAt + lines * c.linePs / 1000)

/-- The instant of a queue's active deadline. -/
def State.qDeadline (s : State) (q : Nat) : Option Int := (s.queue q).deadline.bind fun d => s.deadlineAt d.pipe d.frame

/-- The keys of R332 in order; a lower one ranks higher. -/
def State.rankKey (s : State) (q : Nat) : List Int :=
  let u := s.queue q
  let head : List Int := [b2n u.fill, -(u.prio : Int)]
  match u.deadline, s.qDeadline q with
  | some d, some at_ => head ++ [(0 : Int), at_, (d.order : Int), (u.ctx : Int)]
  | _, _ => head ++ [(1 : Int), ((if s.render.clusters.any (fun c => c.2 == q) then s.now else u.lastRan : Nat) : Int), (u.ctx : Int), 0]

/-- Lexicographic order of keys. -/
def keyLt : List Int → List Int → Bool
  | a :: as, b :: bs => if a < b then true else if b < a then false else keyLt as bs
  | _, _ => false

/-- A VI's queues are held by its share (R341): never those of priority 7 or of the PF. -/
def State.qHeld (s : State) (q : Nat) : Bool :=
  let w := s.qOwner q
  w != pfWin && (s.queue q).prio != 7 && s.rb (0x00180200 + w * 0x10) 15

/-- Work that runs and has not ended. -/
def State.qBusy (s : State) (q : Nat) : Bool := (s.queue q).running.any fun d => descWork (descOp d.word) && !d.done

/-- A queue is ready (R333); work already started makes it ready whatever its share (R341). No work of a VI being frozen starts (R495). -/
def State.qReady (s : State) (q : Nat) : Bool :=
  (s.qChan q).phase == .live && !s.qDead q && !(s.queue q).abandoned && !s.viHeld (s.qOwner q)
  && (s.qBusy q || ((s.queue q).wait.isNone && !s.qHeld q && s.qWaiting q != []))

/-- The queues that hold a context, highest rank first. -/
def State.qRanked (s : State) : List Nat :=
  let put (l : List Nat) (q : Nat) : List Nat :=
    l.takeWhile (fun r => keyLt (s.rankKey r) (s.rankKey q)) ++ [q] ++ l.dropWhile (fun r => keyLt (s.rankKey r) (s.rankKey q))
  ((s.render.queues.map (·.1)).filter fun q => (s.qChan q).phase == .live).foldl put []

/-- The clusters a queue holds. -/
def State.qClusters (s : State) (q : Nat) : Nat := s.render.clusters.countP fun c => c.2 == q

/-- The time a cluster has been held since it was last counted is counted for its queue (R341, R363). -/
def State.clusterCount (s : State) (c : Nat) : State :=
  let q := tget 0 s.render.clusters c
  let at_ := tget 0 s.budget.since c
  let s := if q = 0 ∨ at_ = 0 then s else s.mBudget fun b => { b with held := tmod 0 b.held (c * 2 ^ 24 + q) (· + (s.now + 1 - at_)) }
  s.mBudget fun b => { b with since := tset 0 b.since c (if q = 0 then 0 else s.now + 1) }

/-- The times a queue has held clusters, as they stand now (R347, R348). -/
def State.heldNow (s : State) (q : Nat) : Nat × Nat :=
  let u := s.queue q
  let n := s.qClusters q
  (u.held + (if n = 0 then 0 else s.now - u.holdAt), u.clusterTime + n * (s.now - u.holdAt))

/-- The times a queue has held clusters brought up to now; 0 names no queue. -/
def State.holdCount (s : State) (q : Nat) : State :=
  if q = 0 then s else s.mQueue q fun u => { u with held := (s.heldNow q).1, clusterTime := (s.heldNow q).2, holdAt := s.now }

/-- A cluster given to a queue, or to none. -/
def State.setCluster (s : State) (c q : Nat) : State :=
  let s := ((s.clusterCount c).holdCount (tget 0 s.render.clusters c)).holdCount q
  let s := s.mRender fun r => { r with clusters := tset 0 r.clusters c q }
  s.mBudget fun b => { b with since := tset 0 b.since c (if q = 0 then 0 else s.now + 1) }

/-- The clusters of the queues that `p` holds of become free. -/
def State.clustersDrop (s : State) (p : Nat → Bool) : State :=
  s.render.clusters.foldl (fun s c => if p c.2 then s.setCluster c.1 0 else s) s

/-- Clusters in service. -/
def State.clustersUp (s : State) : List Nat := (List.range s.row.clusters).filter fun c => s.unitUp 0x30 c

/-- The context's state as RENDER_CTX_STATE shows it (R329); FAULTED and ORPHANED stay. -/
def State.ctxShow (s : State) (q : Nat) : State :=
  if s.qDead q then s
  else
    let u := s.queue q
    let st := if u.saved then 4 else if u.wait.isSome ∧ ¬ s.qBusy q then 3 else if u.running ≠ [] ∨ s.qClusters q ≠ 0 then 2 else 1
    s.wf (s.qReg q 4) 31 28 st

/-! ### Tile-list pools (R323) -/

/-- Whether the pool of a queue may grow by a chunk: below MAX and within the grant. -/
def State.poolMay (s : State) (q : Nat) : Bool :=
  s.rf (s.qReg q 8) 15 0 < s.rf (s.qReg q 8) 31 16 && s.grantRoom (s.qOwner q) 0x12 1

/-- A growth is asked for when fewer than 8 tile chunks are free. -/
def State.poolAsk (s : State) (q : Nat) : State :=
  let u := s.queue q
  if qKind q = kRender ∧ u.freeTiles < 8 ∧ ¬ u.growing ∧ s.poolMay q ∧ 0 < s.freeChunks 1 then
    s.mQueue q fun u => { u with growing := true }
  else s

/-- Chunks above a lowered MAX are released as they become wholly free. -/
def State.poolTrim (s : State) (q : Nat) : State :=
  let u := s.queue q
  let held := s.rf (s.qReg q 8) 15 0
  let k := min (held - s.rf (s.qReg q 8) 31 16) (u.freeTiles / 32)
  if k = 0 then s
  else
    let gone := u.pool.drop (u.pool.length - k)
    let s := s.mQueue q fun u => { u with pool := u.pool.take (u.pool.length - k), freeTiles := u.freeTiles - 32 * k }
    let s := (s.setChunks 1 5 0 gone).uncountChunks (s.qOwner q) 1 k
    s.wf (s.qReg q 8) 15 0 (held - k)

/-- Tile chunks of the open pass go back to the pool. -/
def State.tilesBack (s : State) (q : Nat) : State :=
  let n := match (s.queue q).pass with | some p => p.chunks | none => 0
  (s.mQueue q fun u => { u with freeTiles := u.freeTiles + n, pass := u.pass.map fun p => { p with chunks := 0 } }).poolTrim q

/-- An asynchronous growth ends (R323): one chunk more, 32 tile chunks. -/
def execTilePoolGrowth (dt q : Nat) (s : State) : Host.Outcome State Fault Refusal :=
  let s := s.tick dt
  if (s.queue q).growing then
    let s := s.mQueue q fun u => { u with growing := false }
    if s.poolMay q then
      match pickChunks s 1 s.lpChunks 0 1 with
      | [] => .next s
      | c =>
        let w := s.qOwner q
        let s := ((s.zeroChunks 1 c).setChunks 1 (if w = pfWin then 3 else 2) (if w = pfWin then 0 else w) c).countChunks w 1 1
        let s := s.mQueue q fun u => { u with pool := u.pool ++ c, freeTiles := u.freeTiles + 32 }
        .next ((s.wf (s.qReg q 8) 15 0 (s.rf (s.qReg q 8) 15 0 + 1)).poolAsk q)
    else .next s
  else .next s

/-! ### Passes: what rendering writes (R313, R314, R324) -/

def passArea (p : Pass) : Nat × Nat × Nat × Nat := (bits p.header 15 0, bits p.header 31 16, bits p.header 47 32, bits p.header 63 48)
def passSamples (p : Pass) : Nat := bits p.header 71 64

/-- The places of the attachments a pass uses: colour 0 to 7, depth 8, stencil 9 (R310). -/
def headerAtts (h : Nat) : List Nat :=
  List.range (bits h 79 72) ++ (if bit h 80 then [8] else []) ++ (if bit h 81 then [9] else [])

def Pass.att (p : Pass) (i : Nat) : Nat := p.atts.getD i 0
def Pass.surf (p : Pass) (i : Nat) : Surf := attSurf (p.att i) (passSamples p)

/-- The tiles of a pass's area: 32 by 32, aligned to (0, 0) (R313). -/
def passTiles (p : Pass) : List (Nat × Nat) :=
  let (x, y, w, h) := passArea p
  (List.range ((y + h - 1) / 32 + 1 - y / 32)).flatMap fun j => (List.range ((x + w - 1) / 32 + 1 - x / 32)).map fun i => (x / 32 + i, y / 32 + j)

/-- A tile's part of the area. -/
def tileRect (p : Pass) (t : Nat × Nat) : Nat × Nat × Nat × Nat :=
  let (x, y, w, h) := passArea p
  let x0 := max x (t.1 * 32)
  let y0 := max y (t.2 * 32)
  (x0, y0, min (x + w) (t.1 * 32 + 32) - x0, min (y + h) (t.2 * 32 + 32) - y0)

/-- What LOAD does over tiles of an attachment: CLEAR fills, DONT_CARE leaves content unspecified, LOAD keeps it (R313, R314). -/
def State.loadOps (s : State) (p : Pass) (i : Nat) (tiles : List (Nat × Nat)) : List AttOp × State :=
  let a := p.att i
  match attLoad a with
  | 1 => (tiles.map fun t => let r := tileRect p t; .clear r.1 r.2.1 r.2.2.1 r.2.2.2, s)
  | 2 => tiles.foldl (fun (acc : List AttOp × State) t =>
      let r := tileRect p t
      let (o, s) := acc.2.freeOps (p.surf i) r.1 r.2.1 r.2.2.1 r.2.2.2
      (acc.1 ++ o, s)) ([], s)
  | _ => ([], s)

/-- The operations of a pass on attachment `i`. -/
def attOps (i : Nat) (ops : List PassOp) : List AttOp :=
  ops.flatMap fun
    | .clear m x y w h => if bit m i then [.clear x y w h] else []
    | .draw px => px.filterMap fun c => if c.att = i then some (.px c.x c.y c.smp c.v) else none

/-- Tiles of a pass rendered and stored (R313). `tiles` are those to render; `force` stores a DISCARD attachment too, and a
memoryless one to BACKING when `back` (R324). -/
def State.renderTiles (s : State) (w : Nat) (hosts : List HostRun) (p : Pass) (force back : Bool) : Bool × State :=
  (headerAtts p.header).foldl (fun (acc : Bool × State) i =>
    let (ok, s) := acc
    let a := p.att i
    let keep := if attMemless a then back else force || attStore a == 0
    if !keep then (ok, s)
    else
      let load := if attLoad a = 1 ∧ ¬ force then passTiles p else p.tiles
      let (l, s) := s.loadOps p i (load.filter fun t => !p.flushed.contains t)
      let (ok', s) := s.surfOps w 3 hosts (p.surf i) (l ++ attOps i p.ops)
      (ok && ok', s)) (true, s)

/-- Content inside the render area becomes unspecified in every attachment with an address (R278, R327, R347). -/
def State.passLost (s : State) (w : Nat) (hosts : List HostRun) (p : Pass) (only : Nat → Bool) : State :=
  let (x, y, aw, h) := passArea p
  (headerAtts p.header).foldl (fun s i =>
    if (p.surf i).addr = 0 ∨ ¬ only (p.att i) then s
    else
      let (o, s) := s.freeOps (p.surf i) x y aw h
      (s.surfOps w 3 hosts (p.surf i) o).2) s

/-- The open pass of a queue is abandoned: its content is unspecified and its tile chunks are freed (R278, R327). -/
def State.passDrop (s : State) (q : Nat) (hosts : List HostRun) : State :=
  match (s.queue q).pass with
  | none => s
  | some p => ((s.passLost (s.qOwner q) hosts p fun a => !attMemless a || p.immediate).tilesBack q).mQueue q fun u => { u with pass := none, occlOpen := false }

/-! ### Faults and retiring -/

/-- A queue faults (R326, R327): descriptors before the faulting one go on. -/
def State.qFault (s : State) (q : Nat) (hosts : List HostRun) (st : Status) (cnt : Nat) : State :=
  if s.qDead q then s
  else
    let s := s.passDrop q hosts
    let s := s.mQueue q fun u => { u with wait := none, running := u.running.takeWhile (·.cnt != cnt) }
    let s := (s.wf (s.qReg q 4) 31 28 5).wr (s.qReg q 12) (st.code * 2 ^ 16 + cnt % 2 ^ 16)
    let s := s.sat 0x02000010 1
    s.emit (s.qOwner q) 0x51 st (s.qHandle q) cnt

/-- What a descriptor that takes no work does once every earlier one has completed (R308, R309). The answer is whether its store
was made. -/
def State.qPerform (s : State) (q : Nat) (d : Desc) : Bool × State :=
  let w := s.qOwner q
  let n := d.word
  match descOp n with
  | 0x13 => (true, s.fenceSignal w (bits n 95 64) (bits n 63 0))
  | 0x14 =>
    match bits n 162 160 with
    | 1 => s.store w (s.qCls q) (bits n 63 0) (leBytes s.now 8)
    | 2 => (true, s.mQueue q fun u => { u with occl := 0 })
    | 3 => s.store w (s.qCls q) (bits n 63 0) (leBytes (s.queue q).occl 8)
    | _ =>
      match (s.queue q).info with
      | some v => s.store w (s.qCls q) (bits n 63 0) (leBytes v 16)
      | none => let (b, s) := s.freeBytes 16; s.store w (s.qCls q) (bits n 63 0) b
  | _ => (true, s.mQueue q fun u => { u with occl := u.occl + d.passed })

/-- Descriptors that have completed leave the queue in ring order. -/
def State.qRetire (s : State) (q : Nat) (hosts : List HostRun) : Nat → State
  | 0 => s
  | fuel + 1 =>
    match (s.queue q).running with
    | [] => s
    | d :: r =>
      if descWork (descOp d.word) && !d.done then s
      else
        let s := s.mQueue q fun u => { u with running := r }
        let (ok, s) := s.qPerform q d
        if ok then s.qRetire q hosts fuel else (s.qFault q hosts .fault d.cnt).mQueue q fun u => { u with running := [] }

/-- Whether a queue can start a descriptor now. -/
def State.qCan (s : State) (q : Nat) : Bool :=
  (qKind q == kRender || qKind q == kCompute) && (s.qChan q).phase == .live && !s.qDead q && !(s.queue q).abandoned
  && (s.queue q).wait.isNone && !s.qHeld q && !s.viHeld (s.qOwner q) && !s.winDead (s.qOwner q)

/-- Whether a queue has an uncompleted descriptor, one still in its ring included. -/
def State.qUndone (s : State) (q : Nat) : Bool :=
  (s.queue q).running != [] || (s.queue q).wait.isSome || s.qWaiting q != [] ||
    (List.range 256).any fun n =>
      s.rd (ringBind (s.qOwner q) n) == s.qHandle q && s.rd (ringHead (s.qOwner q) n) != s.rd (ringTail (s.qOwner q) n)

/-- A queue meets its deadline when it has no uncompleted descriptor before D (R339). -/
def State.qMeet (s : State) (q : Nat) : State :=
  match (s.queue q).deadline, s.qDeadline q with
  | some d, some at_ =>
    if !d.settled && (s.now : Int) < at_ && !s.qUndone q then
      s.mQueue q fun u => { u with deadline := some { d with settled := true } }
    else s
  | _, _ => s

/-- A queue brought up to date after a change: completed descriptors leave, a reserved opcode at the front faults the queue when it
starts (R326), the deadline and the context's state follow, and the pool asks for growth. -/
def State.qSettle (s : State) (q : Nat) (hosts : List HostRun) : State :=
  let s := s.qRetire q hosts (s.queue q).running.length
  let s :=
    match s.qWaiting q with
    | e :: r =>
      if s.qCan q && !descKnown (leNat e) then
        (s.mPods fun p => { p with fetched := tset [] p.fetched q r }).qFault q hosts .badParam (descCnt (leNat e))
      else s
    | [] => s
  ((s.qMeet q).ctxShow q).poolAsk q

/-- The next descriptor of a queue starts, if it has the opcode asked for. Work starts only with an allotment (R359). -/
def State.qStart (s : State) (q op : Nat) : Option (Nat × State) :=
  match s.qWaiting q with
  | [] => none
  | e :: r =>
    let n := leNat e
    if s.qCan q && descOp n == op && descKnown n && (!descWork op || tget 0 s.render.allot q != 0) then
      some (n, s.mPods fun p => { p with fetched := tset [] p.fetched q r })
    else none

/-- The pass a starting descriptor stands in: open, its PASS_END not started (R305). -/
def QueueSt.openPass (u : QueueSt) : Option Pass := u.pass.filter fun p => !p.ended

/-- The rows of R326 that need no memory: place, reserved bits, and the extra checks of the opcode. -/
def State.qCheck (s : State) (q n : Nat) (more : List (Bool × Status)) : Status :=
  byR19 ([(!descPlaced (qKind q == kCompute) (s.queue q).openPass.isSome n, .badState), (descRsv n, .badParam)] ++ more)

/-- The limit a descriptor starts under (R349): SCHED_FILL_LIMIT for a dispatch of a fill queue, SCHED_WATCHDOG for other work of the clusters. -/
def State.startLimit (s : State) (q n : Nat) : Nat :=
  if (s.queue q).fill ∧ (descOp n = 0x0D ∨ descOp n = 0x0E) then s.rf 0x00180024 15 0 else s.rf 0x00180020 16 0

/-- A descriptor as it starts: with the records of its draws, the limit in force (R349) and what is bound (R305). -/
def State.started (s : State) (q n : Nat) (recs : List Nat) : Desc :=
  let u := s.queue q
  { cnt := descCnt n, word := n, recs := recs, limit := s.startLimit q n, fixed := (u.gPipe.map (·.fixed)).getD 0, tables := u.tables,
    index := u.index, vertex := u.vertex, scissor := u.scissor, held0 := (s.heldNow q).1, clusterTime0 := (s.heldNow q).2 }

/-- A started descriptor joins the running ones. -/
def State.qRunWith (s : State) (q n : Nat) (recs : List Nat) : State :=
  s.mQueue q fun u => { u with running := u.running ++ [s.started q n recs] }

/-- A started descriptor joins the running ones. -/
def State.qRun (s : State) (q n : Nat) : State := s.qRunWith q n []

/-- A descriptor of a queue starts: `more` are the checks of its opcode, `act` its effect when none fails. -/
def State.qDo (s : State) (q op : Nat) (hosts : List HostRun) (more : Nat → State → List (Bool × Status)) (act : Nat → State → State) :
    Host.Outcome State Fault Refusal :=
  match s.qStart q op with
  | none => .next s
  | some (n, s) =>
    match s.qCheck q n (more n s) with
    | .ok => .next ((act n s).qSettle q hosts)
    | st => .next ((s.qFault q hosts st (descCnt n)).qSettle q hosts)

/-! ### Making and stopping queues -/

/-- The lowest-numbered context that no queue holds (R275; which of several is the model's, log entry 29). -/
def State.freeCtx (s : State) : Option Nat := findFrom (fun c => !s.rb (ctxReg c 0) 31) s.row.contexts 0

/-- CREATE of a queue of kind `kind` (R275, R276). -/
def State.createQueue (s : State) (w kind : Nat) (e : CtlEntry) (ext : Option Bytes) : State :=
  if e.paramLen ≠ 16 then s.ctlDone w e .badParam 0
  else
    match s.params w e ext with
    | (none, t) => s.createFault t w e (s.freeCtx.isNone || (s.pickIndex w kind).isNone)
    | (some b, s) =>
      let n := leNat b
      let max_ := bits n 79 64
      let init := bits n 47 32
      let prio := bits n 2 0
      let fill := bit n 8
      let st := byR19 [
        (prio == 7 && w != s.safetyWin, .denied),
        (bits n 127 80 != 0 || bits n 63 48 != 0 || bits n 31 9 != 0 || bits n 7 3 != 0
          || (if kind = kRender then fill || init == 0 || max_ < init || 1024 < max_ else init != 0 || max_ != 0), .badParam),
        (s.freeCtx.isNone || !s.grantRoom w 0x10 1 || !s.grantRoom w 0x12 init || s.freeChunks 1 < init || (s.pickIndex w kind).isNone,
          .noResource)]
      match st with
      | .ok =>
        let c := s.freeCtx.getD 0
        let i := (s.pickIndex w kind).getD 0
        let q := chanKey kind i
        let chunks := pickChunks s 1 s.lpChunks 0 init
        let s := (s.zeroChunks 1 chunks).setChunks 1 (if w = pfWin then 3 else 2) (if w = pfWin then 0 else w) chunks
        let s := (s.countChunks w 1 init).grantTake w 0x10 1
        let u : QueueSt := { ctx := c, fill := fill, prio := prio, pool := chunks, freeTiles := 32 * init, lastRan := s.now }
        let s := s.mRender fun r => { r with queues := tset {} r.queues q u }
        let s := s.wrs [
          (ctxReg c 0, 2 ^ 31 + b2n (kind == kCompute) * 2 ^ 30 + b2n fill * 2 ^ 29 + prio * 2 ^ 16 + w % 2 ^ 16),
          (ctxReg c 4, 2 ^ 28 + i), (ctxReg c 8, max_ * 2 ^ 16 + init), (ctxReg c 12, 0)]
        s.createDone w e kind i
      | st => s.ctlDone w e st 0

/-- CREATE of a render queue (R276). -/
def execCreateRenderQueue (dt w : Nat) (ext : Option Bytes) (s : State) : Host.Outcome State Fault Refusal :=
  let s := s.tick dt
  match s.ctlWaits w 1 kRender with
  | none => .next s
  | some e => .next (s.createQueue w kRender e ext)

/-- CREATE of a compute queue, foreground or fill (R276, R331). -/
def execCreateComputeQueue (dt w : Nat) (ext : Option Bytes) (s : State) : Host.Outcome State Fault Refusal :=
  let s := s.tick dt
  match s.ctlWaits w 1 kCompute with
  | none => .next s
  | some e => .next (s.createQueue w kCompute e ext)

/-- A queue stops taking work (R278): descriptors not started and signals not executed are abandoned, bindings and the open pass
cleared. Work on the clusters goes on to its next boundary. -/
def State.queueStop (s : State) (q : Nat) (hosts : List HostRun) : State :=
  let s := (s.passDrop q hosts).mPods fun p => { p with fetched := tset [] p.fetched q [] }
  (s.mQueue q fun u =>
    { u with abandoned := true, wait := none, gPipe := none, cPipe := none, tables := [], index := none, vertex := [],
             viewport := none, scissor := none, occlOpen := false,
             running := u.running.filter fun d => descWork (descOp d.word) && !d.done }).ctxShow q

/-- A queue's ring is enabled again: the queue is IDLE and any fault is cleared (R278). -/
def State.queueRestart (s : State) (q : Nat) : State :=
  let s := s.mQueue q fun u => { u with abandoned := false, running := [], saved := false, saving := false, restoring := false }
  let s := s.clustersDrop (· == q)
  (s.wf (s.qReg q 4) 31 28 1).wr (s.qReg q 12) 0

/-- The work of a destroyed queue has left the device (R279): its tile-list chunks enter ZEROING, its context is free. -/
def State.queueGone (s : State) (q : Nat) : State :=
  let u := s.queue q
  let w := s.qOwner q
  let s := ((s.setChunks 1 5 0 u.pool).uncountChunks w 1 u.pool.length).grantGive w 0x10 1
  let s := s.clr (ctxReg u.ctx 0) 4
  (s.clustersDrop (· == q)).mRender fun r => { r with queues := tdel r.queues q, allot := tset 0 r.allot q 0 }

/-- The block QUERY of a queue writes (R65). -/
def State.queueQuery (s : State) (q : Nat) : Bytes :=
  leBytes (s.rd (s.qReg q 4)) 4 ++ leBytes (s.rd (s.qReg q 12)) 4 ++ leBytes (s.rd (s.qReg q 8)) 4 ++ leBytes 0 4

end Sys2Proof.Machine
end

