-- ==== Sys2Proof/Machine/Backend.lean ====
section
/-!
DEFINITION. Backend: what the back-ends do to the samples of a draw (R282, R318), and the fetches and shader accesses that bindings place
(R283, R299, R301, R302, R306). Where R282 refers to the numeric rules of the Vulkan specification, which stands outside spec/, those of log
entry 76 are taken.
-/
namespace Sys2Proof.Machine

/-! ### Numbers -/

/-- A component's value. -/
inductive Num where
  | fin (q : Rat)
  | inf (neg : Bool)
  | nan
  deriving DecidableEq, Repr, Inhabited

/-- Two to an integer power. -/
def pow2 (k : Int) : Rat := if 0 ≤ k then 2 ^ k.toNat else 1 / 2 ^ (-k).toNat

/-- The value of a float of `e` exponent and `m` fraction bits. Denormals of binary32 count as zero; those of binary16 are kept (R293). -/
def Num.ofFloat (e m raw : Nat) : Num :=
  let ex := bits raw (e + m - 1) m
  let fr := raw % 2 ^ m
  let neg := bit raw (e + m)
  if ex = 2 ^ e - 1 then (if fr = 0 then .inf neg else .nan)
  else
    let sig : Nat := if ex = 0 then (if e = 8 then 0 else fr) else 2 ^ m + fr
    let q : Rat := sig * pow2 (((max ex 1 : Nat) : Int) + 1 - 2 ^ (e - 1) - m)
    .fin (if neg then -q else q)

/-- Rounding to nearest, ties to even (R282). -/
def rneRat (q : Rat) : Int :=
  let f := q.floor
  let r := q - f
  if r < 1 / 2 then f else if 1 / 2 < r then f + 1 else if f % 2 = 0 then f else f + 1

/-- The exponent of a value above 0: the largest k with 2 ^ k not above it. -/
def ratLog (q : Rat) : Int :=
  let k : Int := (Nat.log2 q.num.toNat : Int) - Nat.log2 q.den
  if q < pow2 k then k - 1 else k

/-- A value rounded to a float of `e` exponent and `m` fraction bits: ties to even, overflow to infinity, denormals of binary32 flushed
(R282, R293). -/
def floatRaw (e m : Nat) (q : Rat) : Nat :=
  if q = 0 then 0
  else
    let a := if q < 0 then -q else q
    let least : Int := 2 - 2 ^ (e - 1)
    let k := max (ratLog a) least
    let raw := ((k - least).toNat) * 2 ^ m + (rneRat (a * pow2 (m - k))).toNat
    let raw := if (2 ^ e - 1) * 2 ^ m ≤ raw then (2 ^ e - 1) * 2 ^ m else if e = 8 ∧ raw < 2 ^ m then 0 else raw
    raw + b2n (decide (q < 0)) * 2 ^ (e + m)

/-- What the fields of a colour format hold: 0 unorm, 1 float, 2 unsigned integer (R116, R294). -/
def fmtKind (f : Nat) : Nat := if f = 0x37 then 2 else if f = 0x09 ∨ f = 0x21 ∨ (0x32 ≤ f ∧ f ≤ 0x36) then 1 else 0

/-- The component each field of a pixel word holds, from bit 0 upward: 0 R, 1 G, 2 B, 3 A, 4 ignored (R116, R294). -/
def fmtOrder (f : Nat) : List Nat :=
  match f with
  | 0x01 => [2, 1, 0, 3] | 0x02 => [2, 1, 0, 4] | 0x04 => [0, 1, 2, 4] | 0x05 => [2, 1, 0, 3] | 0x06 => [2, 1, 0, 4]
  | 0x30 => [0] | 0x31 => [0, 1] | 0x32 => [0] | 0x33 => [0, 1] | 0x34 => [0] | 0x35 => [0, 1] | 0x37 => [0] | _ => [0, 1, 2, 3]

/-- The fields of a format: component, width and lowest bit of each. -/
def fmtFields (f : Nat) : List (Nat × Nat × Nat) :=
  ((fmtOrder f).zip (fmtChannels f)).foldl (fun l c => l ++ [(c.1, c.2, l.foldl (fun n d => n + d.2.1) 0)]) []

/-- A field as a value. -/
def fieldNum (f width raw : Nat) : Num :=
  if fmtKind f = 1 then (if width = 16 then Num.ofFloat 5 10 raw else Num.ofFloat 8 23 raw) else .fin ((raw : Rat) / ((2 ^ width - 1 : Nat) : Rat))

/-- A component of a pixel word; a format without it has 0, and 1 for alpha (log entry 76). -/
def wordNum (f word c : Nat) : Num :=
  match (fmtFields f).find? fun d => d.1 == c with
  | some d => fieldNum f d.2.1 (word / 2 ^ d.2.2 % 2 ^ d.2.1)
  | none => .fin (if c = 3 then 1 else 0)

/-- A value written to a field: unorm clamps and rounds, a float rounds. `free` stands where the spec gives no value: the bits of a NaN. -/
def numField (f width free : Nat) (v : Num) : Nat :=
  let (e, m) := if width = 16 then (5, 10) else (8, 23)
  match v with
  | .fin q => if fmtKind f = 1 then floatRaw e m q else (rneRat ((if q < 0 then 0 else if 1 < q then 1 else q) * ((2 ^ width - 1 : Nat) : Rat))).toNat
  | .inf neg => if fmtKind f = 1 then (2 ^ e - 1) * 2 ^ m + b2n neg * 2 ^ (e + m) else if neg then 0 else 2 ^ width - 1
  | .nan => if fmtKind f = 1 then (2 ^ e - 1) * 2 ^ m + max 1 (free % 2 ^ m) + b2n (bit free m) * 2 ^ (e + m) else free % 2 ^ width

/-- A shader's 32-bit word written to a field without blending; a float keeps the sign of a zero, and binary32 its bits (R293). -/
def outField (f width free raw : Nat) : Nat :=
  if fmtKind f = 2 then raw % 2 ^ width
  else if fmtKind f = 1 ∧ raw % 2 ^ 31 < 2 ^ 23 then b2n (bit raw 31) * 2 ^ (width - 1)
  else if fmtKind f = 1 ∧ width = 32 then raw % 2 ^ 32
  else numField f width free (Num.ofFloat 8 23 raw)

def Num.neg : Num → Num
  | .fin q => .fin (-q)
  | .inf n => .inf !n
  | .nan => .nan

def Num.add : Num → Num → Num
  | .fin a, .fin b => .fin (a + b)
  | .nan, _ => .nan
  | _, .nan => .nan
  | .inf a, .inf b => if a = b then .inf a else .nan
  | .inf a, .fin _ => .inf a
  | .fin _, .inf b => .inf b

def Num.isNeg : Num → Bool
  | .fin q => decide (q < 0)
  | .inf n => n
  | .nan => false

def Num.mul (x y : Num) : Num :=
  match x, y with
  | .fin a, .fin b => .fin (a * b)
  | .nan, _ => .nan
  | _, .nan => .nan
  | .fin a, .inf b => if a = 0 then .nan else .inf (xor (decide (a < 0)) b)
  | .inf a, .fin b => if b = 0 then .nan else .inf (xor a (decide (b < 0)))
  | .inf a, .inf b => .inf (xor a b)

/-- The order of values; a NaN has none. -/
def Num.lt : Num → Num → Bool
  | .fin a, .fin b => decide (a < b)
  | .inf a, .inf b => a && !b
  | .inf a, .fin _ => a
  | .fin _, .inf b => !b
  | _, _ => false

/-! ### Blending (R282) -/

/-- A blend factor for component `c` of a source and a destination, with the constants. -/
def blendFactor (code c : Nat) (s d k : Nat → Num) : Num :=
  let one : Num := .fin 1
  let minus (v : Num) : Num := one.add v.neg
  match code with
  | 0 => .fin 0
  | 1 => one
  | 2 => s c
  | 3 => minus (s c)
  | 4 => d c
  | 5 => minus (d c)
  | 6 => s 3
  | 7 => minus (s 3)
  | 8 => d 3
  | 9 => minus (d 3)
  | 10 => k c
  | 11 => minus (k c)
  | 12 => k 3
  | 13 => minus (k 3)
  | _ => if c = 3 then one else if (s 3).lt (minus (d 3)) then s 3 else minus (d 3)

/-- A component blended by an op and its factors. MIN and MAX take no factors. -/
def blendNum (op sf df c : Nat) (s d k : Nat → Num) : Num :=
  let a := (s c).mul (blendFactor sf c s d k)
  let b := (d c).mul (blendFactor df c s d k)
  match op with
  | 0 => a.add b
  | 1 => a.add b.neg
  | 2 => b.add a.neg
  | 3 => if (d c).lt (s c) then d c else s c
  | _ => if (s c).lt (d c) then d c else s c

/-- A value clamped to [0, 1], as the inputs of blending are for a unorm format. -/
def Num.clamp01 (v : Num) : Num :=
  match v with
  | .fin q => .fin (if q < 0 then 0 else if 1 < q then 1 else q)
  | .inf n => .fin (if n then 0 else 1)
  | .nan => .nan

/-- The word a fragment leaves at a sample of colour attachment `i` that holds `cur`, and none where its write mask writes nothing. `fixed` is the
pipeline's fixed state and `out` the shader's words for R, G, B and A; ignored fields take `free` (R282). -/
def colourWord (fixed i f cur free : Nat) (out : List Nat) : Option Nat :=
  let b := bits fixed (95 + 32 * i) (64 + 32 * i)
  let fix (v : Num) : Num := if fmtKind f = 0 then v.clamp01 else v
  let s (c : Nat) : Num := fix (Num.ofFloat 8 23 (out.getD c 0))
  let d (c : Nat) : Num := wordNum f cur c
  let k (c : Nat) : Num := fix (Num.ofFloat 5 10 (bits fixed (335 + 16 * c) (320 + 16 * c)))
  let fields := fmtFields f
  if fields.all fun c => c.1 == 4 || !bit b (27 + c.1) then none
  else
    some (fields.foldl (fun w c =>
      let new :=
        if c.1 = 4 then free / 2 ^ c.2.2
        else if ¬ bit b (27 + c.1) then cur / 2 ^ c.2.2
        else if bit b 31 ∧ fmtKind f ≠ 2 then
          numField f c.2.1 (free / 2 ^ c.2.2)
            (if c.1 = 3 then blendNum (bits b 13 11) (bits b 10 6) (bits b 5 1) 3 s d k else blendNum (bits b 26 24) (bits b 23 19) (bits b 18 14) c.1 s d k)
        else outField f c.2.1 (free / 2 ^ c.2.2) (out.getD c.1 0)
      w + new % 2 ^ c.2.1 * 2 ^ c.2.2) 0)

/-! ### Depth and stencil (R282) -/

/-- A comparison code on the order of two values. -/
def compareCode (code : Nat) (lt gt eq : Bool) : Bool :=
  match code with
  | 0 => false
  | 1 => lt
  | 2 => eq
  | 3 => lt || eq
  | 4 => gt
  | 5 => !eq
  | 6 => gt || eq
  | _ => true

/-- The depth test of a fragment's depth against the sample's, in the attachment's format. -/
def depthPass (code f z cur : Nat) : Bool :=
  if f = 0x40 then compareCode code (decide (z < cur)) (decide (cur < z)) (z == cur)
  else
    let a := Num.ofFloat 8 23 z
    let b := Num.ofFloat 8 23 cur
    compareCode code (a.lt b) (b.lt a) (a == b && a != .nan)

/-- A stencil op on 8 bits. -/
def stencilOp (op ref cur : Nat) : Nat :=
  match op with
  | 0 => cur
  | 1 => 0
  | 2 => ref
  | 3 => min 255 (cur + 1)
  | 4 => cur - 1
  | 5 => 255 - cur
  | 6 => (cur + 1) % 256
  | _ => (cur + 255) % 256

/-- A stencil value after an op, through the write mask of a face's state. -/
def stencilNew (st op cur : Nat) : Nat :=
  let m := bits st 27 20
  (stencilOp op (bits st 35 28) cur &&& m) ||| (cur &&& (255 - m))

/-- The stencil test of a face's state. -/
def stencilPass (st cur : Nat) : Bool :=
  let a := bits st 35 28 &&& bits st 19 12
  let b := cur &&& bits st 19 12
  compareCode (bits st 11 9) (decide (a < b)) (decide (b < a)) (a == b)

/-! ### Samples of an open pass -/

/-- What a sample of attachment `i` holds where the work of the open pass stands; `out` is what the draw wrote so far, newest first. In a TILED
pass that is the latest write binned, or what LOAD gives its tile; content DONT_CARE leaves unspecified is a free value (R313, R314). The
answer is the value and whether it is such a free one, or the address that faulted. -/
def State.sampleNow (s : State) (w : Nat) (hosts : List HostRun) (p : Pass) (out : List Sample) (i x y m : Nat) : Except Nat (Nat × Bool) × State :=
  let u := p.surf i
  let memory (_ : Unit) : Except Nat (Nat × Bool) := (u.read (s.gfxRead w 3 hosts) x y m).map fun v => (v, false)
  match out.find? fun c => c.att == i && c.x == x && c.y == y && c.smp == m with
  | some c => (.ok (c.v, false), s)
  | none =>
    if p.immediate then (memory (), s)
    else
      let hit (o : PassOp) : Option Nat :=
        match o with
        | .clear mask cx cy cw ch => if bit mask i ∧ cx ≤ x ∧ x < cx + cw ∧ cy ≤ y ∧ y < cy + ch then some (u.clear % 2 ^ (8 * u.bpp)) else none
        | .draw px => (px.reverse.find? fun c => c.att == i && c.x == x && c.y == y && c.smp == m).map (·.v)
      match p.ops.reverse.findSome? hit with
      | some v => (.ok (v, false), s)
      | none =>
        if p.flushed.contains (x / 32, y / 32) then (memory (), s)
        else
          match attLoad (p.att i) with
          | 1 => (.ok (u.clear % 2 ^ (8 * u.bpp), false), s)
          | 2 => let (b, s) := s.freeBytes u.bpp; (.ok (leNat b, true), s)
          | _ => (memory (), s)

/-- The samples of a draw so far: whether every access was made, the state, what was written, newest first, and how many passed. -/
structure FragAcc where
  ok : Bool
  s : State
  out : List Sample
  passed : Nat

/-- A sample read for a fragment: 0 on a fault, which is reported (R326). A free value read stays what the sample holds. -/
def FragAcc.get (a : FragAcc) (w : Nat) (hosts : List HostRun) (p : Pass) (i x y m : Nat) : Nat × FragAcc :=
  match a.s.sampleNow w hosts p a.out i x y m with
  | (.ok (v, free), s) => (v, { a with s := s, out := if free then ⟨i, x, y, m, v⟩ :: a.out else a.out })
  | (.error e, s) => (0, { a with ok := false, s := s.reportFault w 3 e })

def FragAcc.put (a : FragAcc) (i x y m v : Nat) : FragAcc := { a with out := ⟨i, x, y, m, v⟩ :: a.out }

/-- A sample of the render area, and of the scissor where one is set (R306, R310). -/
def inArea (p : Pass) (scissor : Option Nat) (x y : Nat) : Bool :=
  let (ax, ay, aw, ah) := passArea p
  let inRect (x0 y0 w h : Nat) : Bool := x0 ≤ x && x < x0 + w && y0 ≤ y && y < y0 + h
  inRect ax ay aw ah && (match scissor with | some v => inRect (bits v 15 0) (bits v 31 16) (bits v 47 32) (bits v 63 48) | none => true)

/-- One fragment: stencil test, depth test, then blending and the writes of its colours (R282, R318). -/
def FragAcc.frag (a : FragAcc) (w : Nat) (hosts : List HostRun) (p : Pass) (scissor : Option Nat) (fixed : Nat) (c : Frag) : FragAcc :=
  if ¬ inArea p scissor c.x c.y ∨ passSamples p ≤ c.smp then a
  else
    let stOn := bit fixed 421 && bit p.header 81
    let zOn := bit fixed 416 && bit p.header 80
    let st := if c.front then bits fixed 463 424 else bits fixed 503 464
    let (sv, a) := if stOn then a.get w hosts p 9 c.x c.y c.smp else (0, a)
    let stencil (a : FragAcc) (op : Nat) : FragAcc := if stOn ∧ bits st 27 20 ≠ 0 ∧ op ≠ 0 then a.put 9 c.x c.y c.smp (stencilNew st op sv) else a
    if stOn ∧ ¬ stencilPass st sv then stencil a (bits st 2 0)
    else
      let (zv, a) := if zOn then a.get w hosts p 8 c.x c.y c.smp else (0, a)
      if zOn ∧ ¬ depthPass (bits fixed 420 418) (attFormat (p.att 8)) c.z zv then stencil a (bits st 8 6)
      else
        let a := stencil a (bits st 5 3)
        let a := if zOn ∧ bit fixed 417 then a.put 8 c.x c.y c.smp (c.z % 2 ^ (8 * (p.surf 8).bpp)) else a
        let a := (List.range (bits p.header 79 72)).foldl (fun (a : FragAcc) i =>
          match c.out.find? fun o => o.1 == i with
          | none => a
          | some o =>
            if (List.range 4).all fun k => !bit (bits fixed (95 + 32 * i) (64 + 32 * i)) (27 + k) then a
            else
              let (cur, a) := a.get w hosts p i c.x c.y c.smp
              let (free, s) := a.s.freeBytes 16
              let a := { a with s := s }
              match colourWord fixed i (attFormat (p.att i)) cur (leNat free) o.2 with
              | some v => a.put i c.x c.y c.smp v
              | none => a) a
        { a with passed := a.passed + 1 }

/-- The fragments of a draw in order (R318). -/
def State.fragments (s : State) (w : Nat) (hosts : List HostRun) (p : Pass) (scissor : Option Nat) (fixed : Nat) (frags : List Frag) : FragAcc :=
  frags.foldl (fun a c => a.frag w hosts p scissor fixed c) ⟨true, s, [], 0⟩

/-! ### Vertex and index fetch (R283, R302, R306) -/

/-- Bytes of a vertex format (R283). -/
def vertexBytes (f : Nat) : Nat := if f ≤ 0x0C then ((f - 1) % 4 + 1) * 4 else if f = 0x10 then 8 else 4

/-- The address of a range of a bound buffer, and none where it passes the buffer's SIZE, which reads 0 (R302). -/
def inBuffer (buf : Nat × Nat) (off len : Nat) : Option Nat := if off + len ≤ buf.2 then some (buf.1 + off) else none

/-- The index an indexed draw takes at a place of its index buffer; beyond SIZE it is 0 (R302). -/
def indexAt (rd : Reader) (index : Option (Nat × Nat × Bool)) (i : Nat) : Except Nat Nat :=
  match index with
  | none => .ok 0
  | some (a, size, wide) =>
    let n := if wide then 4 else 2
    match inBuffer (a, size) (i * n) n with
    | some a => rd a n
    | none => .ok 0

/-- The first address that faults among the attributes of a vertex and an instance (R283, R302). -/
def attributeFault (rd : Reader) (fixed : Nat) (vertex : Tbl (Nat × Nat)) (v j : Nat) : Option Nat :=
  (List.range (bits fixed 585 581)).findSome? fun i =>
    let a := bits fixed (1536 + 64 * i + 63) (1536 + 64 * i)
    let b := bits a 15 8
    let e := bits fixed (1024 + 32 * b + 31) (1024 + 32 * b)
    let buf := tget (0, 0) vertex b
    if bits fixed 580 576 ≤ b then none
    else
      match inBuffer buf (bits a 47 32 + bits e 15 0 * (if bit e 31 then j else v)) (vertexBytes (bits a 23 16)) with
      | none => none
      | some at_ => match rd at_ (vertexBytes (bits a 23 16)) with | .ok _ => none | .error e => some e

/-- The record of a draw is empty: no vertices or indices, or no instances. -/
def recEmpty (r : Nat) : Bool := bits r 31 0 == 0 || bits r 63 32 == 0

/-- The first address that faults in the fetches of a draw's record: indices, then attributes, by instance and vertex (R302, R306). A restart index
fetches no vertex (R282). -/
def drawFault (rd : Reader) (fixed : Nat) (index : Option (Nat × Nat × Bool)) (vertex : Tbl (Nat × Nat)) (indexed : Bool) (r : Nat) : Option Nat :=
  let n := bits r 31 0
  let first := bits r 95 64
  let inst := if indexed then bits r 159 128 else bits r 127 96
  let wide := match index with | some (_, _, b) => b | none => false
  (List.range (bits r 63 32)).findSome? fun j =>
    (List.range n).findSome? fun i =>
      if indexed then
        match indexAt rd index (first + i) with
        | .error e => some e
        | .ok v =>
          if bit fixed 414 ∧ v = (if wide then 2 ^ 32 - 1 else 2 ^ 16 - 1) then none
          else attributeFault rd fixed vertex ((v + bits r 127 96) % 2 ^ 32) (inst + j)
      else attributeFault rd fixed vertex ((first + i) % 2 ^ 32) (inst + j)

/-! ### Resources (R301, R302) -/

/-- Width and height of a level of an image. -/
def levelSize (d l : Nat) : Nat × Nat := (max 1 (bits d 271 256 / 2 ^ l), max 1 (bits d 287 272 / 2 ^ l))

/-- The row stride of a level, and the bytes it takes (R301). -/
def levelStride (d l : Nat) : Nat := if l = 0 then bits d 319 288 else cdiv ((levelSize d l).1 * surfBytes (bits d 327 320)) 256 * 256
def levelBytes (d l : Nat) : Nat :=
  let rows := (levelSize d l).2
  cdiv (levelStride d l * (if fmtZcmp (bits d 327 320) then cdiv rows 8 else rows)) 4096 * 4096

/-- The surface of a layer and a level of an image descriptor (R301). -/
def imageSurf (d layer l : Nat) : Surf :=
  let levels := (List.range (bits d 331 328)).map (levelBytes d)
  let base := bits d 127 64 + layer * (cdiv (levels.foldl (· + ·) 0) 65536 * 65536) + (levels.take l).foldl (· + ·) 0
  ⟨bits d 327 320, base, levelStride d l, (levelSize d l).1, (levelSize d l).2, 1, bits d 191 128, bits d 255 192, false⟩

/-- A texel a descriptor holds: its surface, where the level, the layer and the place lie in the image. -/
def imageTexel (d layer l x y : Nat) : Option Surf :=
  let u := imageSurf d layer l
  if l < bits d 331 328 ∧ layer < bits d 343 332 ∧ x < u.width ∧ y < u.height then some u else none

/-- Entry `b` of the table bound to a set; a place with no entry is empty (R301, R302). `none` when its read faults. -/
def State.resource (s : State) (w c : Nat) (tables : Tbl (Nat × Nat)) (hosts : List HostRun) (compute : Bool) (set b : Nat) : Option Nat × State :=
  let t := tget (0, 0) tables (b2n compute * 4 + set)
  if t.2 ≤ b then (some 0, s)
  else
    match s.load w c hosts (t.1 + 64 * b) 64 with
    | (none, s) => (none, s)
    | (some e, s) => (some (leNat e), s)

/-- A read for shaders: whether it was made (R76). -/
def State.gfxFetch (s : State) (w c : Nat) (hosts : List HostRun) (a n : Nat) : Bool × State :=
  match s.peek w c hosts a n with
  | .ok _ => (true, s)
  | .error e => (false, s.reportFault w c e)

/-- An access of shaders (R302): beyond a bound range, or through an empty entry, a read gives 0 and a write is dropped; within it, unmapped memory
faults. Texture and input-attachment reads honour flags; storage accesses take bytes (R299). -/
def State.access (s : State) (w c : Nat) (tables : Tbl (Nat × Nat)) (hosts : List HostRun) (compute : Bool) (k : Access) : Bool × State :=
  let through (set b : Nat) (f : State → Nat → Bool × State) : Bool × State :=
    match s.resource w c tables hosts compute set b with
    | (none, s) => (false, s)
    | (some d, s) => f s d
  match k with
  | .read a n => s.gfxFetch w c hosts a n
  | .write a v => s.store w c a v
  | .bufRead set b off n => through set b fun s d =>
      if bits d 7 0 = 1 ∨ bits d 7 0 = 2 then
        match inBuffer (bits d 127 64, bits d 191 128) off n with
        | some a => s.gfxFetch w c hosts a n
        | none => (true, s)
      else (true, s)
  | .bufWrite set b off v => through set b fun s d =>
      if bits d 7 0 = 2 then
        match inBuffer (bits d 127 64, bits d 191 128) off v.length with
        | some a => s.store w c a v
        | none => (true, s)
      else (true, s)
  | .imgRead set b layer l x y => through set b fun s d =>
      let ty := bits d 7 0
      match (if ty = 3 ∨ ty = 4 ∨ ty = 6 ∨ ty = 7 then imageTexel d layer l x y else none) with
      | none => (true, s)
      | some u =>
        match (if ty = 4 then (s.gfxRead w c hosts) (u.at x y 0) u.bpp else u.read (s.gfxRead w c hosts) x y 0) with
        | .ok _ => (true, s)
        | .error e => (false, s.reportFault w c e)
  | .imgWrite set b layer l x y v => through set b fun s d =>
      match (if bits d 7 0 = 4 then imageTexel d layer l x y else none) with
      | none => (true, s)
      | some u => s.store w c (u.at x y 0) (leBytes v u.bpp)

/-- The accesses of shaders in order: whether every one was made. -/
def State.accesses (s : State) (w c : Nat) (tables : Tbl (Nat × Nat)) (hosts : List HostRun) (compute : Bool) : List Access → Bool × State
  | [] => (true, s)
  | k :: r =>
    let (ok, s) := s.access w c tables hosts compute k
    let (ok', s) := s.accesses w c tables hosts compute r
    (ok && ok', s)

end Sys2Proof.Machine
end

