-- ==== Sys2Proof/Machine/Render.lean ====
section
/-!
DEFINITION. Render: the meanings of the command descriptors of render and compute queues, of their completion, and of what the
scheduler does at boundaries (R301 to R321, R326, R334, R336 to R349).
-/
namespace Sys2Proof.Machine

/-- A descriptor that reads `len n` bytes at `addr n` when it starts (R326): checks without memory first, then the read, then the
checks of what was read. -/
def State.qDoRead (s : State) (q op : Nat) (hosts : List HostRun) (addr len : Nat → Nat) (pre : Nat → State → List (Bool × Status))
    (post : Nat → Nat → State → List (Bool × Status)) (act : Nat → Nat → State → State) : Host.Outcome State Fault Refusal :=
  match s.qStart q op with
  | none => .next s
  | some (n, s) =>
    match s.qCheck q n (pre n s) with
    | .ok =>
      match s.load (s.qOwner q) (s.qCls q) hosts (addr n) (len n) with
      | (none, s) => .next ((s.qFault q hosts .fault (descCnt n)).qSettle q hosts)
      | (some b, s) =>
        match byR19 (post n (leNat b) s) with
        | .ok => .next ((act n (leNat b) s).qSettle q hosts)
        | st => .next ((s.qFault q hosts st (descCnt n)).qSettle q hosts)
    | st => .next ((s.qFault q hosts st (descCnt n)).qSettle q hosts)

/-! ### Passes -/

/-- An attachment entry of a pass record as the signature takes it: ADDR, BACKING and CLEAR 0, FLAGS_ADDR 1 when set (R316). The
words of BACKING and CLEAR lie beside FLAGS_ADDR, and every other field stays. -/
def sigAtt (a : Nat) : Nat :=
  bits a 511 256 * 2 ^ 256 + (if attFlags a = 0 then 0 else 2 ^ 64)

/-- The bucket of a draw hint (R316). -/
def hintBucket (h : Nat) : Nat := if h = 0 then 0 else Nat.log2 h + 1

/-- The pass signature (R316). -/
def passSig (header : Nat) (atts : List Nat) (pipeset hint : Nat) : Nat :=
  leNat ((sha384 (leBytes header 64 ++ atts.flatMap (fun a => leBytes (sigAtt a) 64) ++ leBytes pipeset 4 ++
    leBytes (hintBucket hint) 4)).take 8)

/-- The choice of AUTO from the executions of a signature, true for IMMEDIATE (R317). -/
def autoImmediate (h : List (Nat × Nat)) : Bool :=
  let t := h.filter (·.1 == 0)
  let i := h.filter (·.1 == 1)
  let nT := t.length
  let nI := i.length
  let sT := t.foldl (fun n r => n + r.2) 0
  let sI := i.foldl (fun n r => n + r.2) 0
  if nT + nI = 0 then false
  else if nI = 0 ∧ 2 ≤ nT then true
  else if nT = 0 ∧ 2 ≤ nI then false
  else if nI = 0 then false
  else if nT = 0 then true
  else decide (sI * nT < sT * nI)

/-- An execution recorded in a queue's history: 32 signatures, the least recently used leaving, 8 executions each (R316). -/
def histPut (h : List (Nat × List (Nat × Nat))) (sig mode cost : Nat) : List (Nat × List (Nat × Nat)) :=
  let old := ((h.find? fun e => e.1 == sig).map (·.2)).getD []
  let runs := old ++ [(mode, cost)]
  ((sig, runs.drop (runs.length - 8)) :: h.filter fun e => e.1 != sig).take 32

/-- Attachment entry `i` of a pass record. -/
def recordAtt (r i : Nat) : Nat := bits r (512 * (i + 1) + 511) (512 * (i + 1))

/-- The checks of a pass record (R310 to R312). -/
def passChecks (r : Nat) : List (Bool × Status) :=
  let h := bits r 511 0
  let atts := headerAtts h
  let w := bits h 47 32
  let hh := bits h 63 48
  let n := bits h 71 64
  [(bits h 511 82 != 0 || 8 < bits h 79 72 || (n != 1 && n != 4) || w == 0 || 16384 < w || hh == 0 || 16384 < hh
      || atts.any fun i => attBadParam i (recordAtt r i), .badParam),
   (atts.any fun i =>
      let a := recordAtt r i
      attBadGeometry a n || attWidth a < bits h 15 0 + w || attHeight a < bits h 31 16 + hh, .badGeometry)]

/-- LOAD over the whole area at the start of an IMMEDIATE pass (R314), or over the tiles not yet rendered at a fallback (R324). -/
def State.immediateLoad (s : State) (w : Nat) (hosts : List HostRun) (p : Pass) : Bool × State :=
  (headerAtts p.header).foldl (fun (acc : Bool × State) i =>
    let (l, s) := acc.2.loadOps p i ((passTiles p).filter fun t => !p.flushed.contains t)
    let (ok, s) := s.surfOps w 3 hosts (p.surf i) l
    (acc.1 && ok, s)) (true, s)

/-- PASS_BEGIN opens a pass (R310 to R317), once the pass before it has been rendered. -/
def execPassBegin (dt q : Nat) (hosts : List HostRun) (s : State) : Host.Outcome State Fault Refusal :=
  let s := s.tickMem dt hosts
  if (s.queue q).pass.any (·.ended) then .next s
  else s.qDoRead q 0x01 hosts (fun n => bits n 63 0) (fun _ => 704)
    (fun n _ => [(bits n 161 160 == 3 || bits n 5 0 != 0, .badParam)])
    (fun _ r _ => passChecks r)
    (fun n r s =>
      let atts := (List.range 10).map (recordAtt r)
      let sig := passSig (bits r 511 0) atts (bits n 159 128) (bits n 127 96)
      let u := s.queue q
      let h := ((u.hist.find? fun e => e.1 == sig).map (·.2)).getD []
      let imm := match bits n 161 160 with | 0 => autoImmediate h | 1 => false | _ => true
      let p : Pass :=
        { cnt := descCnt n, header := bits r 511 0, atts := atts, started := b2n imm, immediate := imm, unordered := bit n 162, sig := sig,
          energy := u.energy }
      let s := s.mQueue q fun u => { u with pass := some p }
      if imm then
        let (ok, s) := s.immediateLoad (s.qOwner q) hosts p
        if ok then s else s.qFault q hosts .fault (descCnt n)
      else s)

/-- PASS_END starts the rendering that is left (R313, R314). -/
def execPassEnd (dt q : Nat) (hosts : List HostRun) (s : State) : Host.Outcome State Fault Refusal :=
  (s.tickMem dt hosts).qDo q 0x02 hosts (fun _ s => [((s.queue q).occlOpen, .badState)])
    (fun n s => (s.qRun q n).mQueue q fun u => { u with pass := u.pass.map fun p => { p with ended := true } })

/-! ### Binds and state -/

/-- The entry of a key as a window's lookup finds it: its own cache, then the shared one while that is on (R290). -/
def State.xlateFind (s : State) (w key : Nat) : Option XlateEnt :=
  match (tget [] s.render.cache w).find? fun e => e.key == key with
  | some e => some e
  | none => if s.rb 0x0200000C 31 then s.render.shared.find? fun e => e.key == key else none

/-- A graphics pipeline's formats and samples are those of the open pass (R326). -/
def pipeFits (e : XlateEnt) (p : Pass) : Bool :=
  e.samples == passSamples p
  && (List.range 8).all (fun i => bits e.colour (8 * i + 7) (8 * i) == if i < bits p.header 79 72 then attFormat (p.att i) else 0)
  && e.depth == (if bit p.header 80 then attFormat (p.att 8) else 0)
  && e.stencil == (if bit p.header 81 then attFormat (p.att 9) else 0)

/-- BIND_PIPELINE reads KEY and STATE of the record and binds the translation (R290, R305, R326). -/
def execBindPipeline (dt q : Nat) (hosts : List HostRun) (s : State) : Host.Outcome State Fault Refusal :=
  (s.tickMem dt hosts).qDoRead q 0x03 hosts (fun n => bits n 63 0) (fun _ => 64)
    (fun n _ => [(bits n 5 0 != 0, .badParam)])
    (fun _ r s =>
      [(bits r 135 128 != 1 ||
        (match s.xlateFind (s.qOwner q) (bits r 511 256) with
         | none => true
         | some e =>
           match (s.queue q).openPass with
           | some p => e.compute || !pipeFits e p
           | none => !e.compute), .badState)])
    (fun _ r s =>
      match s.xlateFind (s.qOwner q) (bits r 511 256) with
      | none => s
      | some e => s.mQueue q fun u => if e.compute then { u with cPipe := some e } else { u with gPipe := some e })

/-- An image of a type may have a format: sampled images any, storage images those with that use, input attachments those that are attachments
(R294). -/
def resourceFmt (ty f : Nat) : Bool :=
  surfBytes f != 0 && (if ty = 4 then f ≤ 0x37 else if ty = 7 then fmtColourAtt f || f ≥ 0x40 else true)

/-- A resource descriptor breaks R301: a reserved bit or encoding, a field outside its range, a misaligned address, or mips or layers on a flagged or
blocked image. Ranges and biases keep within R293. -/
def resourceBad (d : Nat) : Bool :=
  let ty := bits d 7 0
  let image := ty == 3 || ty == 4 || ty == 6 || ty == 7
  let sampler := ty == 5 || ty == 6
  let smp := bits d 511 384
  let f := bits d 327 320
  7 < ty || bits d 63 8 != 0 || bits d 383 352 != 0 || bits d 349 344 != 0
  || (!sampler && smp != 0)
  || (sampler && (bits smp 53 0 != 0 || bits smp 79 77 != 0 || bits smp 76 75 == 3 || 16 < bits smp 70 66
      || 3 < bits smp 59 57 || 3 < bits smp 62 60 || 3 < bits smp 65 63 || (4096 ≤ bits smp 95 80 && bits smp 95 80 < 0xF000)))
  || (ty == 1 && 65536 < bits d 191 128) || (ty == 2 && 2 ^ 32 - 1 < bits d 191 128)
  || (image && (!resourceFmt ty f || bits d 331 328 == 0 || bits d 343 332 == 0 || 2048 < bits d 343 332
      || (2 ≤ bits d 351 350 && bits d 343 332 % 6 != 0)
      || bits d 287 272 == 0 || 16384 < bits d 287 272 || bits d 271 256 == 0 || 16384 < bits d 271 256
      || bits d 127 64 % 256 != 0
      || ((bits d 191 128 != 0 || fmtZcmp f) && (bits d 331 328 != 1 || bits d 343 332 != 1))))

/-- The stride of an image breaks R295. -/
def resourceStride (d : Nat) : Bool :=
  let ty := bits d 7 0
  let f := bits d 327 320
  (ty == 3 || ty == 4 || ty == 6 || ty == 7) &&
    (if fmtZcmp f then bits d 319 288 % 256 != 0 || bits d 319 288 < cdiv (bits d 271 256) 8 * 64 * surfBytes f
     else bits d 319 288 % 64 != 0 || bits d 319 288 < bits d 271 256 * surfBytes f)

/-- BIND_RESOURCES binds a table of descriptors to a set (R301). -/
def execBindResources (dt q : Nat) (hosts : List HostRun) (s : State) : Host.Outcome State Fault Refusal :=
  (s.tickMem dt hosts).qDoRead q 0x04 hosts (fun n => bits n 63 0) (fun n => 64 * bits n 72 64)
    (fun n _ => [(bits n 5 0 != 0 || bits n 72 64 == 0 || 256 < bits n 72 64, .badParam)])
    (fun n r _ =>
      let any (f : Nat → Bool) : Bool := (List.range (bits n 72 64)).any fun i => f (bits r (512 * i + 511) (512 * i))
      [(any resourceBad, .badParam), (any resourceStride, .badGeometry)])
    (fun n _ s => s.mQueue q fun u =>
      { u with tables := tset (0, 0) u.tables (b2n (bit n 160) * 4 + bits n 81 80) (bits n 63 0, bits n 72 64) })

/-- BIND_INDEX binds the index buffer (R306). -/
def execBindIndex (dt q : Nat) (hosts : List HostRun) (s : State) : Host.Outcome State Fault Refusal :=
  (s.tickMem dt hosts).qDo q 0x05 hosts (fun n _ => [(bits n 63 0 % (if bit n 160 then 4 else 2) != 0, .badParam)])
    (fun n s => s.mQueue q fun u => { u with index := some (bits n 63 0, bits n 95 64, bit n 160) })

/-- BIND_VERTEX binds a vertex buffer (R306). -/
def execBindVertex (dt q : Nat) (hosts : List HostRun) (s : State) : Host.Outcome State Fault Refusal :=
  (s.tickMem dt hosts).qDo q 0x06 hosts (fun n _ => [(bits n 1 0 != 0, .badParam)])
    (fun n s => s.mQueue q fun u => { u with vertex := tset (0, 0) u.vertex (bits n 99 96) (bits n 63 0, bits n 95 64) })

/-- PUSH sets 16 bytes of push constants (R306). -/
def execPush (dt q : Nat) (hosts : List HostRun) (s : State) : Host.Outcome State Fault Refusal :=
  (s.tickMem dt hosts).qDo q 0x07 hosts (fun _ _ => [])
    (fun n s =>
      let o := 128 * bits n 130 128
      let put (v : Nat) : Nat := setBits v (o + 127) o (bits n 127 0)
      s.mQueue q fun u => if bit n 160 then { u with pushC := put u.pushC } else { u with pushG := put u.pushG })

/-- SET_VIEWPORT (R306). -/
def execSetViewport (dt q : Nat) (hosts : List HostRun) (s : State) : Host.Outcome State Fault Refusal :=
  (s.tickMem dt hosts).qDo q 0x08 hosts (fun _ _ => []) (fun n s => s.mQueue q fun u => { u with viewport := some (bits n 159 0) })

/-- A scissor reaches outside a surface of the open pass (R326). -/
def scissorOut (sc : Option Nat) (p : Option Pass) : Bool :=
  match sc, p with
  | some v, some p => (headerAtts p.header).any fun i =>
      (p.surf i).width < bits v 15 0 + bits v 47 32 || (p.surf i).height < bits v 31 16 + bits v 63 48
  | _, _ => false

/-- SET_SCISSOR (R306, R326). -/
def execSetScissor (dt q : Nat) (hosts : List HostRun) (s : State) : Host.Outcome State Fault Refusal :=
  (s.tickMem dt hosts).qDo q 0x09 hosts
    (fun n s => [(16384 < bits n 47 32 || 16384 < bits n 63 48, .badParam), (scissorOut (some (bits n 63 0)) (s.queue q).openPass, .badGeometry)])
    (fun n s => s.mQueue q fun u => { u with scissor := some (bits n 63 0) })

/-! ### Draws and dispatches -/

/-- The checks of a draw: a graphics pipeline that fits the pass, and a scissor inside its surfaces (R326). -/
def State.drawChecks (s : State) (q : Nat) : List (Bool × Status) :=
  let u := s.queue q
  [((match u.gPipe, u.openPass with | some e, some p => !pipeFits e p || (s.xlateFind (s.qOwner q) e.key).isNone | _, _ => true), .badState), (scissorOut u.scissor u.openPass, .badGeometry)]

/-- The pass of a queue changed. -/
def State.mPass (s : State) (q : Nat) (f : Pass → Pass) : State := s.mQueue q fun u => { u with pass := u.pass.map f }

/-- The events of R325 on the first flush or fallback of a pass; `lack` is how many tile chunks the primitive still needs. -/
def State.poolEvents (s : State) (q lack : Nat) (p : Pass) (fell : Bool) : State :=
  if p.reported then s
  else
    let w := s.qOwner q
    let s := (s.mPass q fun p => { p with reported := true }).emit w 0x52 .throttled (s.qHandle q) (b2n fell * 2 ^ 31 + p.cnt % 2 ^ 31)
    if s.poolMay q then s
    else s.emit pfWin 0x53 .noResource (s.qHandle q) (w % 2 ^ 16 * 2 ^ 16 + min 0xFFFF (cdiv lack 32))

/-- The binner takes tile chunks for a draw (R324): from the pool while it has any; then a partial flush, or a fallback to IMMEDIATE
when an attachment is memoryless or nothing is binned. The answer is whether every access was made. -/
def State.binTake (s : State) (q : Nat) (hosts : List HostRun) : Nat → Nat → Bool × State
  | 0, _ => (true, s)
  | fuel + 1, need =>
    let u := s.queue q
    match u.pass with
    | none => (true, s)
    | some p =>
      if p.immediate then (true, s)
      else if need ≤ u.freeTiles then
        (true, s.mQueue q fun u =>
          { u with freeTiles := u.freeTiles - need, pass := some { p with chunks := p.chunks + need, binned := true } })
      else
        let w := s.qOwner q
        let lack := need - u.freeTiles
        let binned := p.binned || u.freeTiles != 0
        let p := { p with chunks := p.chunks + u.freeTiles, binned := binned }
        let s := s.mQueue q fun u => { u with freeTiles := 0, pass := some p }
        let memless := (headerAtts p.header).any fun i => attMemless (p.att i)
        if memless ∨ ¬ binned then
          let (ok, s) := s.renderTiles w hosts p true true
          let p' := { p with flushed := p.flushed ++ p.tiles, ops := [], tiles := [], immediate := true, fallback := true, binned := false }
          let (ok', s) := s.immediateLoad w hosts p'
          let s := ((s.mQueue q fun u => { u with pass := some p' }).sat 0x02000018 1).tilesBack q
          (ok && ok', s.poolEvents q lack p true)
        else
          let (ok, s) := s.renderTiles w hosts p true false
          let p' := { p with flushed := p.flushed ++ p.tiles, ops := [], tiles := [], flushes := p.flushes + 1, binned := false }
          let s := ((s.mQueue q fun u => { u with pass := some p' }).sat 0x02000014 1).tilesBack q
          let (ok', s) := (s.poolEvents q lack p false).binTake q hosts fuel lack
          (ok && ok', s)

/-- A draw of some records starts: it is binned in a TILED pass, then runs. `need` is the tile chunks its bins take and `tiles` the tiles its
primitives touch; both follow from its vertices (log entry 27), and a draw with no primitives takes none. -/
def State.drawStart (s : State) (q need : Nat) (tiles : List (Nat × Nat)) (hosts : List HostRun) (n : Nat) (recs : List Nat) : State :=
  if recs.all recEmpty then s.qRunWith q n recs
  else
    let (ok, s) := s.binTake q hosts (need + 2) need
    let s := s.mPass q fun p => if p.immediate then p else { p with tiles := (p.tiles ++ tiles).eraseDups }
    if ok then s.qRunWith q n recs else s.qFault q hosts .fault (descCnt n)

/-- DRAW (R306, R318). -/
def execDraw (dt q need : Nat) (tiles : List (Nat × Nat)) (hosts : List HostRun) (s : State) : Host.Outcome State Fault Refusal :=
  (s.tickMem dt hosts).qDo q 0x0A hosts (fun _ s => s.drawChecks q) (fun n s => s.drawStart q need tiles hosts n [bits n 127 0])

/-- DRAW_INDEXED (R306, R318). -/
def execDrawIndexed (dt q need : Nat) (tiles : List (Nat × Nat)) (hosts : List HostRun) (s : State) : Host.Outcome State Fault Refusal :=
  (s.tickMem dt hosts).qDo q 0x0B hosts (fun _ s => s.drawChecks q) (fun n s => s.drawStart q need tiles hosts n [bits n 159 0])

/-- The bytes of an indirect draw record (R306). -/
def indirectRec (n : Nat) : Nat := if bit n 160 then 20 else 16

/-- The bytes the records of a DRAW_INDIRECT span (R306). -/
def indirectLen (n : Nat) : Nat :=
  let count := bits n 95 64
  if count = 0 then 0 else (count - 1) * bits n 127 96 + indirectRec n

/-- Indirect records wait: a BARRIER whose later stages take in the indirect read lies behind work it covers that has not completed (R307). -/
def State.indirectHeld (s : State) (q : Nat) : Bool := barrierHolds 0x01 [] (s.queue q).running

/-- DRAW_INDIRECT reads its records and draws (R306, R326). -/
def execDrawIndirect (dt q need : Nat) (tiles : List (Nat × Nat)) (hosts : List HostRun) (s : State) : Host.Outcome State Fault Refusal :=
  let s := s.tickMem dt hosts
  if s.indirectHeld q then .next s
  else
    s.qDoRead q 0x0C hosts (fun n => bits n 63 0) indirectLen
      (fun n s => s.drawChecks q ++
        [(bits n 1 0 != 0 || bits n 97 96 != 0 || bits n 127 96 < indirectRec n || 65535 < bits n 95 64, .badParam)])
      (fun _ _ _ => [])
      (fun n r s => s.drawStart q need tiles hosts n
        ((List.range (bits n 95 64)).map fun i => r / 2 ^ (8 * i * bits n 127 96) % 2 ^ (8 * indirectRec n)))

/-- A dispatch with no compute pipeline bound faults as a draw with none does (R326; log entry 30). -/
def State.dispatchChecks (s : State) (q : Nat) : List (Bool × Status) := 
  [((match (s.queue q).cPipe with | some e => (s.xlateFind (s.qOwner q) e.key).isNone | none => true), .badState)]

/-- A dispatch of X by Y by Z workgroups runs; one with a 0 is empty and completes at once (R306). -/
def State.dispatchStart (s : State) (q n v : Nat) : State :=
  let s := s.qRun q n
  if bits v 31 0 = 0 ∨ bits v 63 32 = 0 ∨ bits v 95 64 = 0 then
    s.mQueue q fun u => { u with running := u.running.map fun d => if d.cnt = descCnt n then { d with done := true } else d }
  else s

/-- DISPATCH (R306). -/
def execDispatch (dt q : Nat) (hosts : List HostRun) (s : State) : Host.Outcome State Fault Refusal :=
  (s.tickMem dt hosts).qDo q 0x0D hosts
    (fun n s => s.dispatchChecks q ++ [(65535 < bits n 31 0 || 65535 < bits n 63 32 || 65535 < bits n 95 64, .badParam)])
    (fun n s => s.dispatchStart q n (bits n 95 0))

/-- DISPATCH_INDIRECT reads its record; one above 65,535 faults (R306, R326). -/
def execDispatchIndirect (dt q : Nat) (hosts : List HostRun) (s : State) : Host.Outcome State Fault Refusal :=
  let s := s.tickMem dt hosts
  if s.indirectHeld q then .next s
  else
    s.qDoRead q 0x0E hosts (fun n => bits n 63 0) (fun _ => 12)
      (fun n s => s.dispatchChecks q ++ [(bits n 1 0 != 0, .badParam)])
      (fun _ r _ => [(65535 < bits r 31 0 || 65535 < bits r 63 32 || 65535 < bits r 95 64, .badParam)])
      (fun n r s => s.dispatchStart q n r)

/-! ### Clears, copies and resolves -/

/-- The place an entry's format gives a whole surface named by CLEAR or RESOLVE. -/
def entryPlace (a : Nat) : Nat := if attFormat a = 0x42 then 9 else if attFormat a = 0x40 ∨ attFormat a = 0x41 then 8 else 0

/-- The samples of a surface that CLEAR or RESOLVE names outside a pass: the entry has no samples of its own, and 1 is taken (log
entry 31). -/
def entrySurf (a : Nat) : Surf := attSurf a 1

/-- The checks of an attachment entry named by CLEAR or RESOLVE. -/
def entryChecks (a : Nat) : List (Bool × Status) := [(attBadParam (entryPlace a) a, .badParam), (attBadGeometry a 1, .badGeometry)]

/-- CLEAR of a surface, or of attachments of the open pass (R298, R306). -/
def execClear (dt q : Nat) (hosts : List HostRun) (s : State) : Host.Outcome State Fault Refusal :=
  (s.tickMem dt hosts).qDoRead q 0x0F hosts (fun n => bits n 63 0) (fun n => if bit n 160 then 0 else 64)
    (fun n _ => [(!bit n 160 && (bits n 5 0 != 0 || bits n 73 64 != 0), .badParam)])
    (fun n r _ => if bit n 160 then [] else entryChecks r)
    (fun n _ s => s.qRun q n)

/-- Whether a range of local bytes runs past the function's local space, or a host range past the host's (R75). -/
def rangeOut (a len : Nat) : Bool := if isHost a then 2 ^ 64 < a + len else 2 ^ 40 < a + len

/-- COPY of bytes; flags are ignored (R299, R306). -/
def execCopy (dt q : Nat) (hosts : List HostRun) (s : State) : Host.Outcome State Fault Refusal :=
  (s.tickMem dt hosts).qDo q 0x10 hosts
    (fun n _ => [(bits n 1 0 != 0 || bits n 65 64 != 0 || bits n 129 128 != 0, .badParam),
      (rangeOut (bits n 63 0) (bits n 159 128) || rangeOut (bits n 127 64) (bits n 159 128), .badGeometry)])
    (fun n s => s.qRun q n)

/-- RESOLVE rewrites clear and compressed blocks as raw (R299). -/
def execResolve (dt q : Nat) (hosts : List HostRun) (s : State) : Host.Outcome State Fault Refusal :=
  (s.tickMem dt hosts).qDoRead q 0x15 hosts (fun n => bits n 63 0) (fun _ => 64)
    (fun n _ => [(bits n 5 0 != 0, .badParam)])
    (fun _ r _ => entryChecks r)
    (fun n _ s => s.qRun q n)

/-! ### Barriers, fences and queries -/

/-- BARRIER stands in the queue until every earlier descriptor has completed (R307). -/
def execBarrier (dt q : Nat) (hosts : List HostRun) (s : State) : Host.Outcome State Fault Refusal :=
  (s.tickMem dt hosts).qDo q 0x11 hosts (fun _ _ => []) (fun n s => s.qRun q n)

/-- The check of a fence handle a descriptor names (R326). -/
def State.fenceCheck (s : State) (q hw : Nat) : List (Bool × Status) :=
  match s.handleCheck (s.qOwner q) kFence hw with
  | .ok _ => []
  | .error st => [(true, st)]

/-- FENCE_WAIT holds the queue until the fence counts as signalled (R308). -/
def execFenceWait (dt q : Nat) (hosts : List HostRun) (s : State) : Host.Outcome State Fault Refusal :=
  (s.tickMem dt hosts).qDo q 0x12 hosts (fun n s => s.fenceCheck q (bits n 95 64))
    (fun n s =>
      if s.fenceReady (s.qOwner q) (bits n 95 64) (bits n 63 0) then s
      else s.mQueue q fun u => { u with wait := some (descCnt n, bits n 95 64, bits n 63 0) })

/-- A waited fence reaches its value; a fence destroyed during the wait faults the queue (R308). -/
def execFenceWaitRelease (dt q : Nat) (hosts : List HostRun) (s : State) : Host.Outcome State Fault Refusal :=
  let s := s.tickMem dt hosts
  match (s.queue q).wait with
  | none => .next s
  | some (cnt, h, v) =>
    match s.handleCheck (s.qOwner q) kFence h with
    | .error _ => .next ((s.qFault q hosts .staleHandle cnt).qSettle q hosts)
    | .ok _ =>
      if s.fenceReady (s.qOwner q) h v then .next ((s.mQueue q fun u => { u with wait := none }).qSettle q hosts) else .next s

/-- FENCE_SIGNAL signals once every earlier descriptor of the queue has completed (R308). -/
def execFenceSignal (dt q : Nat) (hosts : List HostRun) (s : State) : Host.Outcome State Fault Refusal :=
  (s.tickMem dt hosts).qDo q 0x13 hosts (fun n s => s.fenceCheck q (bits n 95 64)) (fun n s => s.qRun q n)

/-- A QUERY of a kind starts, if the next descriptor is one. -/
def State.qQuery (s : State) (q kind align : Nat) (hosts : List HostRun) (more : State → List (Bool × Status)) (act : State → State) :
    Host.Outcome State Fault Refusal :=
  match s.qWaiting q with
  | e :: _ =>
    if bits (leNat e) 162 160 = kind then
      s.qDo q 0x14 hosts (fun n s => (bits n 63 0 % align != 0, .badParam) :: more s) (fun n s => (act s).qRun q n)
    else .next s
  | [] => .next s

/-- TIMESTAMP (R309). -/
def execTimestamp (dt q : Nat) (hosts : List HostRun) (s : State) : Host.Outcome State Fault Refusal :=
  (s.tickMem dt hosts).qQuery q 1 8 hosts (fun _ => []) id

/-- OCCLUSION_BEGIN; queries must not nest (R309, R326). -/
def execOcclusionBegin (dt q : Nat) (hosts : List HostRun) (s : State) : Host.Outcome State Fault Refusal :=
  (s.tickMem dt hosts).qQuery q 2 8 hosts (fun s => [((s.queue q).occlOpen, .badState)]) (fun s => s.mQueue q fun u => { u with occlOpen := true })

/-- OCCLUSION_END writes the count of samples since BEGIN (R309). -/
def execOcclusionEnd (dt q : Nat) (hosts : List HostRun) (s : State) : Host.Outcome State Fault Refusal :=
  (s.tickMem dt hosts).qQuery q 3 8 hosts (fun s => [(!(s.queue q).occlOpen, .badState)]) (fun s => s.mQueue q fun u => { u with occlOpen := false })

/-- PASS_INFO writes 16 bytes on the most recent pass (R309). -/
def execPassInfo (dt q : Nat) (hosts : List HostRun) (s : State) : Host.Outcome State Fault Refusal :=
  (s.tickMem dt hosts).qQuery q 4 16 hosts (fun _ => []) id

/-! ### Deadlines -/

/-- DEADLINE_MISSED at the owning VI, and the count (R339, R370). -/
def State.missDeadline (s : State) (q : Nat) (d : DeadlineSt) : State :=
  let s := s.mQueue q fun u => { u with deadline := some { d with settled := true, missed := true } }
  (s.sat 0x0018002C 1).emit (s.qOwner q) 0x60 .late (s.qHandle q) (d.pipe * 2 ^ 24 + d.frame % 2 ^ 24)

/-- DEADLINE sets or removes the queue's active deadline and completes at once (R336, R337, R339). -/
def execDeadline (dt q : Nat) (hosts : List HostRun) (s : State) : Host.Outcome State Fault Refusal :=
  (s.tickMem dt hosts).qDo q 0x16 hosts
    (fun n s =>
      let p := bits n 7 0
      if bit n 160 then [(bits n 127 64 != 0 || p != 0, .badParam)]
      else [(s.row.pipes ≤ p, .badParam), (p < s.row.pipes && !s.pipeGranted (s.qOwner q) p, .denied)])
    (fun n s =>
      if bit n 160 then s.mQueue q fun u => { u with deadline := none }
      else
        let d : DeadlineSt := { pipe := bits n 7 0, frame := bits n 127 64, order := s.render.deadlines }
        let s := (s.mRender fun r => { r with deadlines := r.deadlines + 1 }).mQueue q fun u => { u with deadline := some d }
        match s.deadlineAt d.pipe d.frame with
        | some at_ => if at_ < s.now ∧ ¬ (s.queue q).fill ∧ s.qUndone q then s.missDeadline q d else s
        | none => s)

/-- A deadline instant passes before the queue meets it (R339); a fill queue's is never reported (R340). -/
def execDeadlineMissed (dt q : Nat) (s : State) : Host.Outcome State Fault Refusal :=
  let s := s.tick dt
  match (s.queue q).deadline, s.qDeadline q with
  | some d, some at_ =>
    if !d.settled && !(s.queue q).fill && at_ ≤ (s.now : Int) && s.qUndone q then .next (s.missDeadline q d) else .next s
  | _, _ => .next s

/-! ### Completion -/

/-- Whether a running descriptor must wait for an earlier one: a BARRIER that covers both lies between them, or both work on the open
pass, whose work takes effect in order (R307, R318). -/
def descBlocked (unordered : Bool) (before : List Desc) (d : Desc) : Bool :=
  let inPass (e : Desc) : Bool := let op := descOp e.word; op == 0x02 || op == 0x0A || op == 0x0B || op == 0x0C || (op == 0x0F && bit e.word 160)
  let undone (e : Desc) : Bool := descWork (descOp e.word) && !e.done
  barrierHolds (descStages (descOp d.word)) [] before
  || (inPass d && (!unordered || descOp d.word == 0x02) && before.any fun e => undone e && inPass e)

/-- The samples of a draw, or a clear, put into the open pass: kept for its tiles, or written at once (R313, R314). -/
def State.passPut (s : State) (q : Nat) (hosts : List HostRun) (o : PassOp) : Bool × State :=
  match (s.queue q).pass with
  | none => (true, s)
  | some p =>
    if p.immediate then
      (headerAtts p.header).foldl (fun (acc : Bool × State) i =>
        let (ok, s) := acc.2.surfOps (s.qOwner q) 3 hosts (p.surf i) (attOps i [o])
        (acc.1 && ok, s)) (true, s)
    else
      let touched : List (Nat × Nat) := match o with
        | .clear _ x y w h => (passTiles p).filter fun t =>
            let r := tileRect p t
            w != 0 && h != 0 && r.1 < x + w && x < r.1 + r.2.2.1 && r.2.1 < y + h && y < r.2.1 + r.2.2.2
        | .draw px => px.map fun c => (c.x / 32, c.y / 32)
      (true, s.mPass q fun p => { p with ops := p.ops ++ [o], tiles := (p.tiles ++ touched).eraseDups })

/-- A pass completes: what is left is rendered, its cost is recorded, its chunks are freed (R313, R314, R316, R363). -/
def State.passFinish (s : State) (q : Nat) (hosts : List HostRun) : Bool × State :=
  match (s.queue q).pass with
  | none => (true, s)
  | some p =>
    let w := s.qOwner q
    let (ok, s) :=
      if p.immediate then (true, s.passLost w hosts p fun a => attStore a == 1) else s.renderTiles w hosts p false false
    let cost := min 0xFFFFFFFF ((s.queue q).energy - p.energy)
    let info := p.sig * 2 ^ 64 + cost * 2 ^ 32 + min 0xFFFF p.flushes * 2 ^ 16 + b2n p.fallback * 2 ^ 8 + p.started
    let s := (s.tilesBack q).mQueue q fun u => { u with pass := none, info := some info, hist := histPut u.hist p.sig p.started cost }
    (ok, s)

/-- The clip of a rectangle to the area of a pass. -/
def clipArea (p : Pass) (x y w h : Nat) : Nat × Nat × Nat × Nat :=
  let (ax, ay, aw, ah) := passArea p
  (max x ax, max y ay, min (x + w) (ax + aw) - max x ax, min (y + h) (ay + ah) - max y ay)

/-- A draw completes: its fetches, its shaders' accesses, and its samples through the back-ends (R282, R302, R306, R318). A draw without
primitives does nothing. Whether every access was made. -/
def State.drawEffect (s : State) (q : Nat) (hosts : List HostRun) (d : Desc) (k : Work) : Bool × State :=
  let u := s.queue q
  let w := s.qOwner q
  match u.pass with
  | some p =>
    if d.recs.all recEmpty then (true, s)
    else
      let indexed := descOp d.word == 0x0B || (descOp d.word == 0x0C && bit d.word 160)
      let (ok, s) :=
        match d.recs.findSome? (drawFault (s.gfxRead w 3 hosts) d.fixed d.index d.vertex indexed) with
        | some a => (false, s.reportFault w 3 a)
        | none => (true, s)
      let (ok', s) := s.accesses w 3 d.tables hosts false k.access
      let a := s.fragments w hosts p d.scissor d.fixed k.frags
      let s := a.s.mQueue q fun u =>
        { u with running := u.running.map fun x => if x.cnt = d.cnt then { x with passed := a.passed } else x }
      let (ok'', s) := s.passPut q hosts (.draw a.out.reverse)
      (ok && ok' && a.ok && ok'', s)
  | none => (true, s)

/-- What a descriptor's work does to memory when it completes; whether every access was made. -/
def State.descEffect (s : State) (q : Nat) (hosts : List HostRun) (d : Desc) (k : Work) : Bool × State :=
  let w := s.qOwner q
  let c := s.qCls q
  let n := d.word
  match descOp n with
  | 0x02 => s.passFinish q hosts
  | 0x0D => s.accesses w c d.tables hosts true k.access
  | 0x0E => s.accesses w c d.tables hosts true k.access
  | 0x0F =>
    if bit n 160 then
      match (s.queue q).pass with
      | none => (true, s)
      | some p =>
        let r := clipArea p (bits n 15 0) (bits n 31 16) (bits n 47 32) (bits n 63 48)
        s.passPut q hosts (.clear (bits n 73 64) r.1 r.2.1 r.2.2.1 r.2.2.2)
    else
      match s.load w c hosts (bits n 63 0) 64 with
      | (none, s) => (false, s)
      | (some b, s) =>
        let u := entrySurf (leNat b)
        s.surfOps w c hosts u [.clear 0 0 u.width u.height]
  | 0x10 =>
    match s.load w c hosts (bits n 63 0) (bits n 159 128) with
    | (none, s) => let (_, s) := s.store w c (bits n 127 64) (List.replicate (bits n 159 128) 0); (false, s)
    | (some b, s) => s.store w c (bits n 127 64) b
  | 0x15 =>
    match s.load w c hosts (bits n 63 0) 64 with
    | (none, s) => (false, s)
    | (some b, s) => s.resolve w c hosts (entrySurf (leNat b))
  | _ => s.drawEffect q hosts d k

/-- Running work of a descriptor completes (R307, R308, R313, R326). `k` is what its shaders leave (log entry 27). Work that an
earlier descriptor still holds back has not completed. -/
def execDescriptorComplete (dt q cnt : Nat) (k : Work) (hosts : List HostRun) (s : State) : Host.Outcome State Fault Refusal :=
  let s := s.tickMem dt hosts
  let u := s.queue q
  match u.running.find? fun d => d.cnt == cnt && descWork (descOp d.word) && !d.done with
  | none => .next s
  | some d =>
    let before := u.running.takeWhile fun e => e.cnt != cnt
    if descBlocked (match u.pass with | some p => p.unordered | none => false) before d then .next s
    else
      let (ok, s) := s.descEffect q hosts d k
      let s := s.mQueue q fun u =>
        { u with running := u.running.map fun e => if e.cnt = cnt then { e with done := true } else e }
      let s := if ok then s else s.qFault q hosts .fault cnt
      .next (s.qSettle q hosts)

/-! ### Clusters -/

/-- An idle or waiting queue of a queue's class with tokens it does not use: those go to a queue that became ready within the tick (R361). -/
def State.tokenDonor (s : State) (q : Nat) : Option Nat :=
  if s.budget.ready.contains q then none
  else (s.render.allot.map (·.1)).find? fun d => (s.queue d).fill == (s.queue q).fill && !s.qReady d && s.qClusters d < tget 0 s.render.allot d

/-- The highest-ranked ready queue that is allotted more clusters than it holds (R334, R359), or may take returned tokens (R361). -/
def State.nextQueue (s : State) : Option Nat :=
  s.qRanked.find? fun q => s.qReady q && (s.qClusters q < tget 0 s.render.allot q || (s.tokenDonor q).isSome)

/-- A cluster given to the queue that ranks first; a saved context is restored on it (R334, R345). -/
def State.giveCluster (s : State) (c : Nat) : State :=
  match s.nextQueue with
  | none => s
  | some q =>
    let s :=
      if s.qClusters q < tget 0 s.render.allot q then s
      else
        match s.tokenDonor q with
        | none => s
        | some d => s.mRender fun r => { r with allot := tmod 0 (tmod 0 r.allot d (· - 1)) q (· + 1) }
    let s := (s.setCluster c q).mQueue q fun u => { u with lastRan := s.now, restoring := u.saved }
    s.ctxShow q

/-- A queue leaves a cluster; its state is saved when its work goes on later (R345). Work of an abandoned queue ends there (R278), that of a faulted
one that started before the fault completes (R327). -/
def State.leaveCluster (s : State) (c q : Nat) : State :=
  let s := (s.setCluster c 0).mQueue q fun u => { u with lastRan := s.now }
  if (s.queue q).abandoned || s.qState q == 6 then
    (s.mQueue q fun u => { u with running := u.running.filter fun d => !descWork (descOp d.word) || d.done }).ctxShow q
  else if s.qBusy q && !s.qDead q then (s.mQueue q fun u => { u with saving := true }).ctxShow q
  else s.ctxShow q

/-- Work on a cluster reaches a boundary, or the cluster is free, and the scheduler picks (R334, R344, R346, R360). -/
def execPreemptionBoundary (dt c : Nat) (s : State) : Host.Outcome State Fault Refusal :=
  let s := s.tick dt
  if ¬ s.clustersUp.contains c then .next s
  else
    let r := tget 0 s.render.clusters c
    if r = 0 then .next (s.giveCluster c)
    else
      let free := s.clustersUp.any fun d => tget 0 s.render.clusters d == 0
      let ovr := match s.nextQueue with
        | some q => !free && keyLt (s.rankKey q) (s.rankKey r) && (s.queue r).prio != 7
        | none => false
      if !s.qReady r || tget 0 s.render.allot r < s.qClusters r || ovr then .next ((s.leaveCluster c r).giveCluster c) else .next s

/-- The state of a pre-empted context is saved and it reads PREEMPTED (R345). -/
def execContextSaved (dt q : Nat) (s : State) : Host.Outcome State Fault Refusal :=
  let s := s.tick dt
  if (s.queue q).saving then .next ((s.mQueue q fun u => { u with saving := false, saved := s.qClusters q == 0 }).ctxShow q) else .next s

/-- A saved context is restored on its cluster (R345). -/
def execContextRestored (dt q : Nat) (s : State) : Host.Outcome State Fault Refusal :=
  let s := s.tick dt
  if (s.queue q).restoring then .next ((s.mQueue q fun u => { u with restoring := false, saved := false }).ctxShow q) else .next s

/-! ### Watchdog -/

/-- Ranges of memory left unspecified: free bytes (R347). -/
def State.rangesLost (s : State) (w : Nat) : List (Nat × Nat) → State
  | [] => s
  | (a, n) :: r => let (b, s) := s.freeBytes n; ((s.store w 3 a b).2).rangesLost w r

/-- A queue is stopped by a limit: TIMEOUT, the count and the event (R347, R348, R370). -/
def State.wdStop (s : State) (q : Nat) (hosts : List HostRun) (cnt : Nat) (ranges : List (Nat × Nat)) : State :=
  let w := s.qOwner q
  let s := ((s.rangesLost w ranges).qFault q hosts .timeout cnt).sat 0x00180028 1
  (s.emit pfWin 0x65 .timeout (s.qHandle q) (w % 2 ^ 16 * 2 ^ 16 + (s.queue q).ctx)).qSettle q hosts

/-- A draw, tile or foreground workgroup exceeds the watchdog limit in force at its start, in time its queue held a cluster (R347, R349).
`ranges` are what a stopped dispatch writes. -/
def execWatchdogFired (dt q cnt : Nat) (ranges : List (Nat × Nat)) (hosts : List HostRun) (s : State) : Host.Outcome State Fault Refusal :=
  let s := s.tickMem dt hosts
  let u := s.queue q
  match u.running.find? fun d => d.cnt == cnt && !d.done with
  | none => .next s
  | some d =>
    let op := descOp d.word
    let timed := op == 0x02 || op == 0x0A || op == 0x0B || op == 0x0C || ((op == 0x0D || op == 0x0E) && !u.fill)
    if timed && u.prio != 7 && !s.qDead q && decide (d.held0 + d.limit * 1000 ≤ (s.heldNow q).1) then
      .next (s.wdStop q hosts cnt (if op == 0x0D || op == 0x0E then ranges else []))
    else .next s

/-- A fill dispatch exceeds its cluster-time limit, the one in force at its start (R348, R349). -/
def execFillLimitExpiry (dt q cnt : Nat) (ranges : List (Nat × Nat)) (hosts : List HostRun) (s : State) : Host.Outcome State Fault Refusal :=
  let s := s.tickMem dt hosts
  let u := s.queue q
  match u.running.find? fun d => d.cnt == cnt && !d.done with
  | none => .next s
  | some d =>
    let op := descOp d.word
    if (op == 0x0D || op == 0x0E) && u.fill && u.prio != 7 && !s.qDead q && decide (d.clusterTime0 + d.limit * 1000000 < (s.heldNow q).2) then
      .next (s.wdStop q hosts cnt ranges) else .next s

end Sys2Proof.Machine
end

