-- ==== Sys2Proof/Machine/Spirv.lean ====
section
/-!
DEFINITION. Spirv: what the translator finds in the bytes of a SPIR-V module: its instructions, its entry points, the items R292 lists as
supported, and the limits of R293 that a module states. The numbers of instructions, capabilities, models, modes, decorations and
dimensions are those of the SPIR-V specification, which stands outside spec/ (PRESUMED, log entry 75). What needs the rest of that
specification (validation of the module's types and code) comes as the verdict of XLATE_DONE (log entry 28).
-/
namespace Sys2Proof.Machine

/-- The 32-bit words of a module, low byte first, of which `n` are left. -/
def spvWords : Nat → Bytes → List Nat
  | 0, _ => []
  | n + 1, b => leNat (b.take 4) :: spvWords n (b.drop 4)

/-- An instruction of a module: the word offset it stands at, its opcode and its operand words. -/
structure SpvInst where
  pos : Nat
  op : Nat
  args : List Nat
  deriving DecidableEq, Repr, Inhabited

/-- The instructions from a word offset on, or the offset of one that has no length or runs past the end. `n` bounds their number. -/
def spvParse : Nat → Nat → List Nat → Except Nat (List SpvInst)
  | _, _, [] => .ok []
  | 0, pos, _ => .error pos
  | n + 1, pos, w :: r =>
    let len := w / 2 ^ 16
    if len = 0 ∨ r.length + 1 < len then .error pos
    else (spvParse n (pos + len) (r.drop (len - 1))).map fun l => ⟨pos, w % 2 ^ 16, r.take (len - 1)⟩ :: l

/-- A string literal held in operand words. -/
def spvString (args : List Nat) : Bytes := (args.flatMap fun w => leBytes w 4).takeWhile (· != 0)

/-- The execution models of R292: Vertex, Fragment, GLCompute. -/
def spvModels : List Nat := [0, 4, 5]

/-- The model of a stage (R281). -/
def spvModel (stage : Nat) : Nat := match stage with | 1 => 0 | 2 => 4 | _ => 5

/-- The capabilities of R292, with the two that name the cube arrays its image dimensions list (log entry 75). -/
def spvCaps : List Nat :=
  [0, 1, 9, 11, 12, 22, 25, 29, 30, 32, 33, 34, 35, 39, 40, 42, 45, 49, 50, 51, 55, 56, 61, 62, 63, 64, 65, 66, 67, 68] ++
  [4427, 4433, 4434, 4435, 4448, 4449, 5301, 5302, 5345, 5346, 5347, 5379]

/-- The image dimensions of R292: 2D, Cube, SubpassData. -/
def spvDims : List Nat := [1, 3, 6]

/-- "SPV_KHR_non_semantic_info", "GLSL.std.450" and the first bytes of a NonSemantic set (R292). -/
def spvExtension : Bytes :=
  [0x53, 0x50, 0x56, 0x5F, 0x4B, 0x48, 0x52, 0x5F, 0x6E, 0x6F, 0x6E, 0x5F, 0x73, 0x65, 0x6D, 0x61, 0x6E, 0x74, 0x69, 0x63, 0x5F, 0x69, 0x6E, 0x66, 0x6F]
def spvGlsl : Bytes := [0x47, 0x4C, 0x53, 0x4C, 0x2E, 0x73, 0x74, 0x64, 0x2E, 0x34, 0x35, 0x30]
def spvNonSemantic : Bytes := [0x4E, 0x6F, 0x6E, 0x53, 0x65, 0x6D, 0x61, 0x6E, 0x74, 0x69, 0x63, 0x2E]

/-- An instruction uses an item that R292 does not list as supported: an execution model, a capability, an extension, an extended instruction
set or an image dimension. -/
def spvUnsupported (i : SpvInst) : Bool :=
  match i.op with
  | 15 => !spvModels.contains (i.args.getD 0 0)
  | 17 => !spvCaps.contains (i.args.getD 0 0)
  | 10 => spvString i.args != spvExtension
  | 11 => let s := spvString (i.args.drop 1); s != spvGlsl && s.take 12 != spvNonSemantic
  | 25 => !spvDims.contains (i.args.getD 2 0)
  | _ => false

/-- The operand of a decoration of an id, if the id carries it. -/
def spvDeco (l : List SpvInst) (id deco : Nat) : Option Nat :=
  (l.find? fun i => i.op == 71 && i.args.getD 0 0 == id && i.args.getD 1 0 == deco).map fun i => i.args.getD 2 0

/-- The value of a specialisation constant in specialisation data (R281). -/
def specValue (spec : Bytes) (id : Nat) : Option Nat :=
  ((List.range (spec.length / 16)).map fun i => leNat ((spec.drop (16 * i)).take 16)).findSome? fun n =>
    if n % 2 ^ 32 = id then some (bits n 127 64) else none

/-- The value of a scalar constant, specialised; 1 for an id that is none. -/
def spvConst (l : List SpvInst) (spec : Bytes) (id : Nat) : Nat :=
  match l.find? fun i => (i.op == 43 || i.op == 50) && i.args.getD 1 0 == id with
  | none => 1
  | some i =>
    match (if i.op = 50 then spvDeco l id 1 else none).bind (specValue spec) with
    | some v => v
    | none => i.args.getD 2 0

/-- The workgroup size of an entry point: the constant decorated WorkgroupSize, or its LocalSizeId or LocalSize mode; 1 by 1 by 1 without. -/
def spvLocalSize (l : List SpvInst) (spec : Bytes) (entry : Nat) : Nat × List Nat :=
  match l.find? fun i => i.op == 71 && i.args.getD 1 0 == 11 && i.args.getD 2 0 == 25 with
  | some d =>
    (d.pos, match l.find? fun i => (i.op == 44 || i.op == 51) && i.args.getD 1 0 == d.args.getD 0 0 with
      | some c => (c.args.drop 2).map (spvConst l spec)
      | none => [])
  | none =>
    match l.find? fun i => i.op == 331 && i.args.getD 0 0 == entry && i.args.getD 1 0 == 38 with
    | some m => (m.pos, (m.args.drop 2).map (spvConst l spec))
    | none =>
      match l.find? fun i => i.op == 16 && i.args.getD 0 0 == entry && i.args.getD 1 0 == 17 with
      | some m => (m.pos, m.args.drop 2)
      | none => (0, [])

/-- A workgroup size beyond the limits of R293. -/
def localSizeBad (v : List Nat) : Bool :=
  let x := v.getD 0 1
  let y := v.getD 1 1
  let z := v.getD 2 1
  1024 < x || 1024 < y || 64 < z || 1024 < x * y * z

/-- The location of a variable of the interface is beyond the limits of R293: vertex attributes, vertex outputs and fragment inputs, colour
attachments. -/
def spvLocationBad (l : List SpvInst) (stage : Nat) (i : SpvInst) : Bool :=
  i.op == 59 &&
    match spvDeco l (i.args.getD 1 0) 30, i.args.getD 2 0 with
    | some loc, 1 => if stage = 1 then 16 ≤ loc else 32 ≤ loc
    | some loc, 3 => if stage = 1 then 32 ≤ loc else 8 ≤ loc
    | _, _ => false

/-- What is wrong with a module as the code of a stage with an ENTRY index: statuses with the word offset of what shows them (R281, R288, R292,
R293). -/
def spvErrors (stage entry : Nat) (m spec : Bytes) : List (Status × Nat) :=
  let ws := spvWords (m.length / 4) m
  let word (i : Nat) : Nat := ws.getD i 0
  if word 0 ≠ 0x07230203 then [(.badParam, 0)]
  else if word 1 % 256 ≠ 0 ∨ word 1 / 2 ^ 16 ≠ 1 ∨ 6 < word 1 / 256 % 256 then [(.badParam, 1)]
  else
    match spvParse ws.length 5 (ws.drop 5) with
    | .error at_ => [(.badParam, at_)]
    | .ok l =>
      let mine := l.filter fun i => i.op == 15 && i.args.getD 0 0 == spvModel stage
      let id := ((mine.drop entry).head?.map fun i => i.args.getD 1 0).getD 0
      let size := spvLocalSize l spec id
      (if word 4 = 0 then [] else [(.badParam, 4)])
      ++ (if word 3 = 0 then [(.badParam, 3)] else if 1048576 < word 3 then [(.badGeometry, 3)] else [])
      ++ (if mine.length ≤ entry then [(.badParam, ws.length)] else [])
      ++ (l.filter spvUnsupported).map (fun i => (.unsupported, i.pos))
      ++ (l.filter fun i => i.op == 71 && ((i.args.getD 1 0 == 34 && 4 ≤ i.args.getD 2 0) || (i.args.getD 1 0 == 33 && 256 ≤ i.args.getD 2 0))).map
          (fun i => (.badGeometry, i.pos))
      ++ (l.filter (spvLocationBad l stage)).map (fun i => (.badGeometry, i.pos))
      ++ (((l.filter fun i => i.op == 71 && i.args.getD 1 0 == 1).drop 64).map fun i => (.badGeometry, i.pos))
      ++ (if stage = 3 ∧ localSizeBad size.2 then [(.badGeometry, size.1)] else [])

/-- A status that R288 gives among errors, and the first word that shows it. -/
def spvFirst (st : Status) (l : List (Status × Nat)) : Option Nat :=
  l.foldl (fun m e => if e.1 = st then some (match m with | some v => min v e.2 | none => e.2) else m) none

end Sys2Proof.Machine
end

