-- ==== Sys2Proof/Machine/Xlate.lean ====
section
/-!
DEFINITION. Xlate: pipeline records, the translation port, the translation caches (R280 to R291).
-/
namespace Sys2Proof.Machine

/-- The registers of the translation port of a window (R284). -/
def xlateReg (w off : Nat) : Nat := win w + 0x1C000 + off

/-- Bytes of a pipeline record by its KIND (R280). -/
def recordLen (kind : Nat) : Nat := if kind = 1 then 448 else 96

/-- Stage entry `i` of a record (R280, R281). -/
def stageEntry (r i : Nat) : Nat := bits r (512 + 256 * i + 255) (512 + 256 * i)

/-- A stage entry breaks R281; `stage` is the stage its place asks for. -/
def stageBad (e stage : Nat) : Bool :=
  let specLen := bits e 255 224
  let specAddr := bits e 223 160
  let len := bits e 159 128
  bits e 7 0 != stage || bits e 31 8 != 0 || bits e 63 48 != 0 || specLen % 16 != 0 || 1024 < specLen
  || (if specLen = 0 then specAddr != 0 else specAddr % 16 != 0) || len % 4 != 0 || len < 20 || 4194304 < len || bits e 65 64 != 0

/-- A blend word of one colour attachment breaks R282. -/
def blendBad (b : Nat) : Bool :=
  bit b 0 || 4 < bits b 26 24 || 4 < bits b 13 11 || 14 < bits b 23 19 || 14 < bits b 18 14 || 14 < bits b 10 6 || 14 < bits b 5 1

/-- The graphics fixed state, the vertex bindings and the attributes of a record break R282 or R283. -/
def fixedBad (r : Nat) : Bool :=
  let f := bits r 2047 1024
  let nb := bits f 580 576
  let na := bits f 585 581
  bits f 1023 586 != 0 || bits f 511 504 != 0 || bits f 423 422 != 0 || bits f 407 403 != 0 || bits f 503 500 != 0 || bits f 463 460 != 0
  || 16 < na || 16 < nb || 6 ≤ bits f 410 408 || (bits f 402 400 != 1 && bits f 402 400 != 4)
  || (bits f 399 392 != 0 && bits f 399 392 != 0x42) || (bits f 391 384 != 0 && bits f 391 384 != 0x40 && bits f 391 384 != 0x41)
  || (List.range 8).any (fun i => blendBad (bits f (95 + 32 * i) (64 + 32 * i)))
  || (List.range 8).any (fun i => let c := bits f (8 * i + 7) (8 * i); c != 0 && !fmtColourAtt c)
  || (List.range nb).any (fun i => let b := bits r (2048 + 32 * i + 31) (2048 + 32 * i); bits b 30 16 != 0 || 2048 < bits b 15 0)
  || (List.range na).any (fun i =>
      let a := bits r (2560 + 64 * i + 63) (2560 + 64 * i)
      bits a 63 48 != 0 || bits a 31 24 != 0 || 2047 < bits a 47 32 || bits a 23 16 == 0 || 0x11 < bits a 23 16 || 15 < bits a 15 8
      || 15 < bits a 7 0)

/-- The header of a record breaks R280. -/
def headerBad (r : Nat) : Bool :=
  let kind := bits r 7 0
  let n := bits r 15 8
  bits r 127 16 != 0 || (kind != 1 && kind != 2) || (if kind = 1 then n != 1 && n != 2 else n != 1)

/-- A field of a record outside R280 to R283. -/
def recordBad (r : Nat) : Bool :=
  headerBad r ||
    if bits r 7 0 = 1 then
      stageBad (stageEntry r 0) 1 || (bits r 15 8 == 2 && stageBad (stageEntry r 1) 2) || fixedBad r
    else stageBad (stageEntry r 0) 3

/-- Specialisation data breaks R281: the size of a constant is 1, 2, 4 or 8, and its value is zero-extended. -/
def specBad (b : Bytes) : Bool :=
  (List.range (b.length / 16)).any fun i =>
    let n := leNat ((b.drop (16 * i)).take 16)
    let size := bits n 63 32
    (size != 1 && size != 2 && size != 4 && size != 8) || 2 ^ (8 * size) ≤ bits n 127 64

/-- A stage as the translator reads it: its entry, its module and its specialisation data, `none` where a read faulted (R281, R287). -/
structure StageIn where
  entry : Nat
  code : Option Bytes
  spec : Option Bytes
  deriving DecidableEq, Repr, Inhabited

/-- The first `n` stages of a record read, in order. A fault at one does not keep the others from being read (R19). -/
def State.stageData (s : State) (w : Nat) (hosts : List HostRun) (r : Nat) : Nat → List StageIn × State
  | 0 => ([], s)
  | k + 1 =>
    let (l, s) := s.stageData w hosts r k
    let e := stageEntry r k
    let (m, s) := s.load w 1 hosts (bits e 127 64) (bits e 159 128)
    let (c, s) := if bits e 255 224 = 0 then (some [], s) else s.load w 1 hosts (bits e 223 160) (bits e 255 224)
    (l ++ [⟨e, m, c⟩], s)

/-- What the bytes of a stage show to be wrong with it. -/
def StageIn.errors (d : StageIn) : List (Status × Nat) :=
  (match d.spec with | some c => if specBad c then [(.badParam, 0xFFFFFFFF)] else [] | none => [])
  ++ (match d.code with | some m => spvErrors (bits d.entry 7 0) (bits d.entry 47 32) m (d.spec.getD []) | none => [])

/-- The byte string of the stages for the key (R287); `none` when a read faulted. -/
def stageBytes : List StageIn → Option Bytes
  | [] => some []
  | d :: r =>
    match d.code, d.spec, stageBytes r with
    | some m, some c, some bs => some (m ++ c ++ bs)
    | _, _, _ => none

/-- The key of a record for a version of the translator (R287): the first 32 bytes of a SHA-384 digest, as a number. -/
def recordKey (ver : Nat) (rec_ data : Bytes) : Nat :=
  leNat ((sha384 (leBytes ver 4 ++ rec_.take 8 ++ rec_.drop 64 ++ data)).take 32)

/-- The cache entry of a translated record, with its fixed state, vertex bindings and attributes (R282, R283). -/
def recordEnt (r key units : Nat) : XlateEnt :=
  let f := bits r 2047 1024
  if bits r 7 0 = 1 then
    { key := key, units := units, compute := false, colour := bits f 63 0, depth := bits f 391 384, stencil := bits f 399 392,
      samples := bits f 402 400, fixed := bits r 3583 1024 }
  else { key := key, units := units, compute := true }

/-! ### Caches -/

/-- Cache units in use by a list of entries. -/
def unitsOf (l : List XlateEnt) : Nat := l.foldl (fun n e => n + e.units) 0

/-- XLATE_CACHE of a window brought up to date: units granted by kind 0x13, none for the PF, which holds no quota, and units in use
(R284, R483, R485). -/
def State.cacheShow (s : State) (w : Nat) : State :=
  let granted := if w = pfWin then 0 else s.rd (grantReg w 0x13 4) * 32
  s.wr (xlateReg w 0x24) (min 0xFFFF granted * 2 ^ 16 + min 0xFFFF (unitsOf (tget [] s.render.cache w)))

/-- Chunks a window's own cache must still take to hold `units` more. -/
def State.cacheNeed (s : State) (w units : Nat) : Nat :=
  cdiv (unitsOf (tget [] s.render.cache w) + units) 32 - (tget [] s.render.cacheChunks w).length

/-- Whether a window's own cache has room for `units` more (R288, R289, R485). -/
def State.cacheRoom (s : State) (w units : Nat) : Bool :=
  let n := s.cacheNeed w units
  (w == pfWin || unitsOf (tget [] s.render.cache w) + units ≤ s.rd (grantReg w 0x13 4) * 32)
  && (n == 0 || (s.grantRoom w 0x13 n && s.grantRoom w 0x11 n && n ≤ s.freeChunks 0))

/-- Seedbank chunks taken for a cache: for a VI they count against kinds 0x13 and 0x11 (R485). -/
def State.takeCache (s : State) (w n : Nat) : List Nat × State :=
  let c := pickChunks s 0 8192 0 n
  let s := (s.zeroChunks 0 c).setChunks 0 (if w = pfWin then 3 else 2) (if w = pfWin then 0 else w) c
  (c, (s.countChunks w 0 n).grantTake w 0x13 n)

/-- A translated pipeline put into a window's own cache. -/
def State.cachePut (s : State) (w : Nat) (e : XlateEnt) : State :=
  let (c, s) := s.takeCache w (s.cacheNeed w e.units)
  (s.mRender fun r =>
    { r with cache := tset [] r.cache w (tget [] r.cache w ++ [e]), cacheChunks := tset [] r.cacheChunks w (tget [] r.cacheChunks w ++ c) }).cacheShow w

/-- Wholly free cache chunks above the grant leave it (R486). -/
def State.cacheTrim (s : State) (w : Nat) : State :=
  let held := tget [] s.render.cacheChunks w
  let ovr := if w = pfWin then 0
    else max (held.length - s.rd (grantReg w 0x13 4)) (s.rd (grantReg w 0x11 8) - s.rd (grantReg w 0x11 4))
  let n := min ovr (held.length - cdiv (unitsOf (tget [] s.render.cache w)) 32)
  if n = 0 then s.cacheShow w
  else
    let gone := held.drop (held.length - n)
    let s := s.mRender fun r => { r with cacheChunks := tset [] r.cacheChunks w (held.take (held.length - n)) }
    (((s.setChunks 0 5 0 gone).uncountChunks w 0 n).grantGive w 0x13 n).cacheShow w

/-- A translated pipeline put into the shared cache, in chunks of the manager (R290). -/
def State.sharedPut (s : State) (e : XlateEnt) : State :=
  let n := cdiv (unitsOf s.render.shared + e.units) 32 - s.render.sharedChunks.length
  let (c, s) := s.takeCache pfWin n
  let s := s.mRender fun r => { r with shared := r.shared ++ [e], sharedChunks := r.sharedChunks ++ c }
  s.wf 0x0200000C 15 0 (unitsOf s.render.shared)

/-- The caches of a window are dropped, as at a VI reset: their chunks enter ZEROING. -/
def State.cacheDrop (s : State) (w : Nat) : State :=
  let held := tget [] s.render.cacheChunks w
  let s := s.mRender fun r => { r with cache := tset [] r.cache w [], cacheChunks := tset [] r.cacheChunks w [], reqs := tset [] r.reqs w [] }
  (((s.setChunks 0 5 0 held).uncountChunks w 0 held.length).grantGive w 0x13 held.length).cacheShow w

/-! ### The port -/

/-- XLATE_STATUS.PENDING counts the requests accepted and not complete. -/
def State.xlatePending (s : State) (w : Nat) : State := s.wf (xlateReg w 0x20) 31 28 (tget [] s.render.reqs w).length

/-- A write of XLATE_TOKEN (R285, R494): refused in the order of R19, or accepted with the request registers captured. -/
def State.xlateToken (s : State) (w token : Nat) : State :=
  let addr := s.rd64 (xlateReg w 0)
  let ctrl := s.rd (xlateReg w 0x14)
  let st := byR19 [
    (token != nextToken (s.rd (xlateReg w 0x0C)), .spoof),
    (bits ctrl 1 0 == 2 && w != pfWin, .denied),
    (bits addr 5 0 != 0 || bits ctrl 31 2 != 0 || bits ctrl 1 0 == 3, .badParam),
    (8 ≤ (tget [] s.render.reqs w).length || s.viHeld w, .busy)]
  if st ≠ .ok then
    let s := s.wf (xlateReg w 0x20) 22 16 st.code
    if st = .spoof then s.spoofDrop w 0x04 else s
  else
    let q : XlateReq := ⟨bits ctrl 1 0, addr, token, s.rd (xlateReg w 0x10), s.rd64 (xlateReg w 0x18), s.xlateVer⟩
    let s := s.wr (xlateReg w 0x0C) token
    (s.mRender fun r => { r with reqs := tset [] r.reqs w (tget [] r.reqs w ++ [q]) }).xlatePending w

/-- A token write whose OP, in XLATE_CTRL, is among `ops`; windows of VIs not in service ignore it. -/
def State.xlateOp (s : State) (w : Nat) (token : Word) (ops : List Nat) : Host.Outcome State Fault Refusal :=
  if s.winDead w ∨ ¬ ops.contains (s.rf (xlateReg w 0x14) 1 0) then .next s else .next (s.xlateToken w token.toNat)

/-- TRANSLATE, and a token write with the reserved OP, which is refused (R285, R288). -/
def execTranslate (dt w : Nat) (token : Word) (s : State) : Host.Outcome State Fault Refusal := (s.tick dt).xlateOp w token [0, 3]

/-- EVICT (R285, R289). -/
def execEvict (dt w : Nat) (token : Word) (s : State) : Host.Outcome State Fault Refusal := (s.tick dt).xlateOp w token [1]

/-- PUBLISH (R285, R290). -/
def execPublish (dt w : Nat) (token : Word) (s : State) : Host.Outcome State Fault Refusal := (s.tick dt).xlateOp w token [2]

/-! ### Completion -/

/-- What a request gives: its status, the record's new STATE if it changes, key, units, and the word of the first error. -/
structure XlateOut where
  st : Status
  state : Option Nat
  key : Option Nat
  units : Nat
  errorWord : Nat
  deriving DecidableEq, Repr, Inhabited

/-- A failed translation (R288). -/
def xlateFail (st : Status) (key : Option Nat) (err : Nat) : XlateOut := ⟨st, some 2, key, 0, err⟩

/-- The units a record's code takes, as the translator finds: 1 to 4 (R289). -/
def verdictUnits (v : Verdict) : Nat := max 1 (min 4 v.units)

/-- TRANSLATE or PUBLISH of a record whose header is sound (R286 to R290): the first status of R288 by R19. `v` is what the translator finds
beyond what the bytes of the modules show (log entry 28). -/
def State.xlateBody (s : State) (w addr ver : Nat) (share : Bool) (v : Verdict) (b : Bytes) (stages : List StageIn) : XlateOut × State :=
  let r := leNat b
  let errs := stages.map StageIn.errors
  let key := (stageBytes stages).map (recordKey ver b)
  let hit := match key with
    | some k => if share then s.render.shared.any (fun e => e.key == k) else (s.xlateFind w k).isSome
    | none => false
  let room := hit || (if share then decide (cdiv (unitsOf s.render.shared + (verdictUnits v)) 32 - s.render.sharedChunks.length ≤ s.freeChunks 0)
    else s.cacheRoom w (verdictUnits v))
  let shown (st : Status) : Bool := errs.any fun l => l.any fun e => e.1 == st
  let st := byR19 [(shown .badParam || (!hit && !v.valid), .badParam), (shown .badGeometry || (!hit && !v.inLimits), .badGeometry),
    (shown .unsupported || (!hit && !v.supported), .unsupported), (!room, .noResource), (key.isNone, .fault)]
  match st, key with
  | .ok, some k =>
    if hit then (⟨.ok, some 1, some k, 0, 0xFFFFFFFF⟩, s)
    else
      let e := { recordEnt r k (verdictUnits v) with addr := addr }
      (⟨.ok, some 1, some k, (verdictUnits v), 0xFFFFFFFF⟩, if share then s.sharedPut e else s.cachePut w e)
  | st, key =>
    let word := if st = .noResource ∨ st = .fault then 0xFFFFFFFF else (errs.findSome? (spvFirst st)).getD v.errorWord
    (xlateFail st key word, s)

/-- TRANSLATE or PUBLISH of a record at an address. -/
def State.xlateRun (s : State) (w addr ver : Nat) (share : Bool) (v : Verdict) (hosts : List HostRun) : XlateOut × State :=
  match s.load w 1 hosts addr 64 with
  | (none, s) => (xlateFail .fault none 0xFFFFFFFF, s)
  | (some h, s) =>
    match s.load w 1 hosts addr (recordLen (bits (leNat h) 7 0)) with
    | (none, s) => (xlateFail .fault none 0xFFFFFFFF, s)
    | (some b, s) =>
      let r := leNat b
      if recordBad r then (xlateFail .badParam none 0xFFFFFFFF, s)
      else
        let (stages, s) := s.stageData w hosts r (bits r 15 8)
        s.xlateBody w addr ver share v b stages

/-- Whether a queue has bound a key and has descriptors not yet complete (R289). -/
def State.keyBusy (s : State) (key : Nat) (whose : Nat → Bool) : Bool :=
  s.render.queues.any fun c =>
    whose (s.qOwner c.1) && ((c.2.gPipe.map (·.key)) == some key || (c.2.cPipe.map (·.key)) == some key) && s.qUndone c.1

/-- EVICT of a record's key (R289, R290). -/
def State.xlateEvict (s : State) (w addr : Nat) (hosts : List HostRun) : XlateOut × State :=
  match s.load w 1 hosts addr 64 with
  | (none, s) => (⟨.fault, none, none, 0, 0xFFFFFFFF⟩, s)
  | (some h, s) =>
    let key := bits (leNat h) 511 256
    let own := (tget [] s.render.cache w).any fun e => e.key == key
    let share := w == pfWin && s.render.shared.any fun e => e.key == key
    let fail (st : Status) : XlateOut × State := (⟨st, none, none, 0, 0xFFFFFFFF⟩, s)
    if bits (leNat h) 135 128 ≠ 1 ∨ (¬ own ∧ ¬ share) then fail .badState
    else if s.keyBusy key (fun o => if own then o == w else true) then fail .busy
    else if own then
      let s := s.mRender fun r => { r with cache := tset [] r.cache w ((tget [] r.cache w).filter fun e => e.key != key) }
      (⟨.ok, some 0, none, 0, 0xFFFFFFFF⟩, s.cacheTrim w)
    else
      let s := s.mRender fun r => { r with shared := r.shared.filter fun e => e.key != key }
      (⟨.ok, some 0, none, 0, 0xFFFFFFFF⟩, s.wf 0x0200000C 15 0 (unitsOf s.render.shared))

/-- The header fields a request writes (R280, R286). STATE and KEY are written only when the request sets them. -/
def State.xlateHeader (s : State) (w addr : Nat) (o : XlateOut) : State :=
  let s := match o.state with | some v => (s.store w 1 (addr + 16) (leBytes v 1)).2 | none => s
  let s := (s.store w 1 (addr + 17) (leBytes (o.st.code + o.units * 2 ^ 8 + o.errorWord * 2 ^ 24) 15)).2
  match o.key with
  | some k => (s.store w 1 (addr + 32) (leBytes k 32)).2
  | none => s

/-- The oldest request of a window ends as given: it leaves the port, its header, fence and event follow (R286). -/
def State.xlateEnd (s : State) (w : Nat) (q : XlateReq) (rest : List XlateReq) (o : XlateOut) : State :=
  let s := (s.mRender fun r => { r with reqs := tset [] r.reqs w rest, turn := w + 1 }).xlatePending w
  let s := (s.xlateHeader w q.addr o).fenceSignal w q.fence q.value
  s.emit w 0x50 o.st q.fence (q.token % 2 ^ 16 * 2 ^ 16 + o.units)

/-- The window whose oldest request is served next: the windows that have requests are served in turn, by rising number from the one after the
last served (R286). -/
def State.xlateNext (s : State) : Option Nat :=
  let ws := (s.render.reqs.filter fun c => c.2 != []).map (·.1)
  match ws.find? fun w => s.render.turn ≤ w with
  | some w => some w
  | none => ws.head?

/-- The oldest request of a window completes when the window's turn is due (R286): header fields, fence, event. -/
def execXlateDone (dt w : Nat) (v : Verdict) (hosts : List HostRun) (s : State) : Host.Outcome State Fault Refusal :=
  let s := s.tickMem dt hosts
  match (if s.xlateNext = some w then tget [] s.render.reqs w else []) with
  | [] => .next s
  | q :: rest =>
    let (o, s) := if q.op = 1 then s.xlateEvict w q.addr hosts else s.xlateRun w q.addr q.ver (q.op == 2) v hosts
    .next (s.xlateEnd w q rest o)

end Sys2Proof.Machine
end

