-- ==== Sys2Proof/Machine/Channels.lean ====
section
/-!
DEFINITION. Channels: rings, doorbells, the control ring, and what destroying or querying a channel of each kind does (Pods, units and
handles).
-/
namespace Sys2Proof.Machine

/-! ### What each kind does -/

/-- The kinds with a submission format: render and compute queues and check contexts (R63). -/
def ringKind (kind : Nat) : Bool := kind == kRender || kind == kCompute || kind == kCheck

/-- What is done at once when a DESTROY of a channel is accepted, or its VI is reset (R62, R80, R178, R271, R279, R398, R427, R451). -/
def State.chanStop (s : State) (kind i : Nat) (hosts : List HostRun) : State :=
  match kind with
  | 0x01 => s.layerDestroy i
  | 0x02 => s.queueStop (chanKey kind i) hosts
  | 0x03 => s.queueStop (chanKey kind i) hosts
  | 0x04 => s.streamStop (chanKey kind i)
  | 0x05 => s.streamStop (chanKey kind i)
  | 0x06 => s.zoneDestroy i
  | 0x07 => s.hslotDestroy i
  | 0x08 => s.ctxAbandon i
  | 0x0A => s.memUnmap (s.chan kind i).owner i
  | _ => s

/-- Whether the last work of a channel that was stopped has left the device (R62). Frames composed before the DESTROY of a writeback target was
accepted are still written (DESIGN CHOICE, log entry 71). -/
def State.chanDrained (s : State) (kind i : Nat) : Bool :=
  match kind with
  | 0x01 => !s.layerRead i
  | 0x02 => s.qClusters (chanKey kind i) == 0
  | 0x03 => s.qClusters (chanKey kind i) == 0
  | 0x08 => (s.ctx i).running == none
  | 0x0C => (tget [] s.display.wbFrame (bits (tget 0 s.display.wbParams i) 7 0)).all fun f => f.target != i
  | _ => true

/-- The pipe bit of VI_SHRINK: it reads 1 while the VI has layers on pipes it no longer holds (R487). -/
def State.pipeShrink (s : State) (v : Nat) : State :=
  if v = pfWin then s
  else
    let left := (List.range 512).any fun i => s.owns v kLayer i && !s.pipeGranted v (s.layer i).pipe
    if s.rb (viReg v 0x10) 0x16 && !left then (s.wb (viReg v 0x10) 0x16 false).emitPf 0x08 .ok (0x17 * 2 ^ 24 + v)
    else if left then s.wb (viReg v 0x10) 0x16 true
    else s

/-- The memory chunks of a channel enter ZEROING (R74, R492). -/
def State.memGone (s : State) (i : Nat) : State :=
  let c := tget {} s.seed.chans i
  let w := (s.chan kMem i).owner
  let s := (s.setChunks c.mem 5 0 c.chunks).uncountChunks w c.mem c.count
  s.mSeed fun m => { m with chans := tset {} m.chans i {} }

/-- A channel is gone: what it held is given up, and its index is free (R49, R62). LAYER_WB_STATUS of a writeback target's pipe reads 0 again, FAULT
with it (DESIGN CHOICE, log entry 71). -/
def State.chanGone (s : State) (kind i : Nat) : State :=
  let w := (s.chan kind i).owner
  let s :=
    match kind with
    | 0x01 => (s.flushRel i).layerGone i
    | 0x02 => s.queueGone (chanKey kind i)
    | 0x03 => s.queueGone (chanKey kind i)
    | 0x04 => s.streamGone (chanKey kind i)
    | 0x05 => s.streamGone (chanKey kind i)
    | 0x06 => s.zoneGone i
    | 0x07 => s.hslotGone i
    | 0x08 => s.mChecks fun c => { c with ctxs := tset {} c.ctxs i {} }
    | 0x09 => s.mDisplay fun d => { d with fences := tset {} d.fences i {} }
    | 0x0A => s.memGone i
    | 0x0B => s.mPanel fun p => { p with binds := tset 0 p.binds i 0, fires := tset (0, 0) p.fires i (0, 0) }
    | 0x0C =>
      (s.wr (0x01000200 + bits (tget 0 s.display.wbParams i) 7 0 * 8) 0).mDisplay fun d =>
        { d with wbParams := tset 0 d.wbParams i 0, wbCount := tset 0 d.wbCount i 0 }
    | _ => s
  let s := s.freeIndex kind i
  if kind = kLayer then s.pipeShrink w else s

/-- The block QUERY writes (R65, R115, R180, R271, R430). -/
def State.chanQuery (s : State) (kind i : Nat) : Bytes :=
  match kind with
  | 0x01 => s.layerQuery i
  | 0x02 => s.queueQuery (chanKey kind i)
  | 0x03 => s.queueQuery (chanKey kind i)
  | 0x04 => s.streamQuery (chanKey kind i)
  | 0x05 => s.streamQuery (chanKey kind i)
  | 0x06 => s.zoneQuery i
  | 0x07 =>
    let p := s.hslot i
    leBytes (s.rd (s.hslotAt i 4)) 4 ++ leBytes (s.hapState (hsChannel p) * 2 ^ 29 + hsChannel p) 4 ++ leBytes (hsEntry p) 4 ++
      leBytes (hsGain p) 4
  | 0x08 => s.ctxQuery i
  | 0x09 => leBytes (s.fence i).value 8
  | 0x0A =>
    let c := tget {} s.seed.chans i
    leBytes c.daddr 8 ++ leBytes c.count 4 ++ leBytes c.mem 4
  | 0x0B =>
    let p := tget 0 s.panel.binds i
    let c := tget (0, 0) s.panel.fires i
    leBytes c.1 4 ++ leBytes c.2 4 ++ leBytes (handleOf (rxZone p)).index 4 ++ leBytes (rxTrigger p) 4
  | _ =>
    let p := bits (tget 0 s.display.wbParams i) 7 0
    leBytes (s.rd (0x01000204 + p * 8)) 4 ++ leBytes (s.rd (0x01000200 + p * 8)) 4 ++ leBytes p 4 ++ leBytes 0 4

/-! ### Rings (R51 to R57, R64) -/

/-- A window whose VI is not in service, or is held, ignores the write (R477, R494). -/
def State.winIgnores (s : State) (w : Nat) : Bool := s.winDead w || s.viHeld w

/-- The SUBMIT_FAULT event of a ring (R71). -/
def State.submitFault (s : State) (w n : Nat) : State :=
  s.emit w 0x03 .fault 0 (n * 2 ^ 16 + s.rf (ringStatus w n) 3 0)

/-- The kind and index of the channel a ring is bound to; ring 0 and an unbound ring have none. -/
def State.ringChan (s : State) (w n : Nat) : Option (Nat × Nat) :=
  let h := handleOf (s.rd (ringBind w n))
  if s.rd (ringBind w n) = 0 then none else some (h.kind, h.index)

/-- The valid LOG2 and the alignment of RING_BASE (R53). -/
def State.ringValid (s : State) (w n : Nat) : Bool :=
  let l := s.rf (ringCtrl w n) 3 0
  4 ≤ l && s.rd64 (ringBase w n) % max 4096 (2 ^ l * 32) == 0 && (n == 0 || s.rd (ringBind w n) != 0)

/-- A write of RING_CTRL with ENABLE = 1 (R53, R64, R278). -/
def execRingEnable (dt w n : Nat) (v : Word) (s : State) : Host.Outcome State Fault Refusal :=
  let s := s.tick dt
  if s.winIgnores w || s.rb (ringCtrl w n) 31 then .next s
  else
    let s := s.wr (ringCtrl w n) (bits v.toNat 3 0)
    if s.ringValid w n then
      let s := ((s.wb (ringCtrl w n) 31 true).wr (ringHead w n) 0).wr (ringTail w n) 0
      match s.ringChan w n with
      | some (kind, i) => .next (if kind = kCheck then s else s.queueRestart (chanKey kind i))
      | none => .next s
    else .next ((s.raise (ringStatus w n) 3).submitFault w n)

/-- What a disabled ring's channel does: consumed entries not started are abandoned (R271, R278). -/
def State.ringStop (s : State) (w n : Nat) (hosts : List HostRun) : State :=
  let s := s.wb (ringCtrl w n) 31 false
  match s.ringChan w n with
  | some (kind, i) => if kind = kCheck then s.ringAbandon (entRing w n) else s.queueStop (chanKey kind i) hosts
  | none => s

/-- A write of RING_CTRL with ENABLE = 0. LOG2 is taken only while the ring is disabled (R53, R271, R278). -/
def execRingDisable (dt w n : Nat) (v : Word) (hosts : List HostRun) (s : State) : Host.Outcome State Fault Refusal :=
  let s := s.tickMem dt hosts
  if s.winIgnores w then .next s
  else if s.rb (ringCtrl w n) 31 then .next (s.ringStop w n hosts)
  else .next (s.wr (ringCtrl w n) (bits v.toNat 3 0))

/-- A doorbell write (R54, R494). -/
def execRingDoorbell (dt w n : Nat) (v : Word) (s : State) : Host.Outcome State Fault Refusal :=
  let s := s.tick dt
  if s.winDead w || !s.rb (ringCtrl w n) 31 then .next s
  else
    let d := (v.toNat + 2 ^ 32 - s.rd (ringHead w n)) % 2 ^ 32
    if d ≤ 2 ^ s.rf (ringCtrl w n) 3 0 then .next (s.wr (ringTail w n) v.toNat)
    else .next ((s.raise (ringStatus w n) (if d < 2 ^ 31 then 0 else 1)).submitFault w n)

/-- The number VI_INFO.VI reads in a window (R52). -/
def viField (w : Nat) : Nat := w % 2 ^ 16

/-- A control-ring entry that completes with BAD_PARAM before it is processed (R58). A CREATE of a kind that is never valid is one. -/
def ctlBad (f : CtlFields) : Bool :=
  f.rsvSet || f.opcode == 0 || 5 < f.opcode || ((f.opcode == 3 || f.opcode == 4) && (f.ring == 0 || 255 < f.ring)) || f.paramAddr % 8 != 0
    || (f.opcode == 1 && (f.kind == 0 || 0x0C < f.kind))

/-- An entry of the control ring taken: dropped, refused, or put into process (R58 to R60). -/
def State.takeControl (s : State) (w seq : Nat) (b : Bytes) : State :=
  let f := ctlFields b
  if f.vi ≠ viField w then s.spoofDrop w 0x01
  else if f.seq ≠ seq then s.spoofDrop w 0x02
  else if ctlBad f then s.channelDone w .badParam f.handle f.tag f.opcode
  else
    s.mPods fun p =>
      { p with ctl := tset none p.ctl w (some ⟨false, f.opcode, f.kind, f.tag, f.handle, f.paramAddr, f.paramLen, f.ring⟩) }

/-- An entry of a bound ring taken: dropped, or put behind the channel's entries (R267, R268, R303, R304). -/
def State.takeEntry (s : State) (w n seq : Nat) (b : Bytes) : State :=
  match s.ringChan w n with
  | none => s
  | some (kind, i) =>
    let e := leNat b
    if bits e 223 208 ≠ viField w then s.spoofDrop w 0x01
    else if kind ≠ kCheck ∧ bits e 207 176 ≠ s.rd (ringBind w n) then s.spoofDrop w 0x03
    else if bits e 255 224 ≠ seq then s.spoofDrop w 0x02
    else
      let k := if kind = kCheck then entRing w n else chanKey kind i
      let s := s.mPods fun p => { p with fetched := tset [] p.fetched k (tget [] p.fetched k ++ [b]) }
      if kind = kCheck then s.ctxReady k else s.qSettle k []

/-- The host address of entry k of a ring (R54). -/
def State.ringEntry (s : State) (w n k : Nat) : Nat := s.rd64 (ringBase w n) + k % 2 ^ s.rf (ringCtrl w n) 3 0 * 32

/-- The next entry of a ring is read from its place in host memory; a faulting read disables the ring (R54, R56, R57). The control ring waits
while an entry of it is in process (R60), or the manager cores are being reset (R608). While new work is refused, or
the manager cores are handed over, no entry of any ring is taken (R563, R595, R598). -/
def execRingEntryFetch (dt w n : Nat) (hosts : List HostRun) (s : State) : Host.Outcome State Fault Refusal :=
  let s := s.tickMem dt hosts
  let seq := s.rd (ringHead w n)
  if s.winIgnores w || s.noWork || s.mgrHand || !s.rb (ringCtrl w n) 31 || seq == s.rd (ringTail w n) || (n == 0 && ((tget none s.pods.ctl w).isSome || s.mgrDown)) then .next s
  else
    match (if s.hostOk w then runAt hosts w (2 ^ 63 + s.ringEntry w n seq % 2 ^ 63) 32 else none) with
    | none => .next (((s.wb (ringCtrl w n) 31 false).raise (ringStatus w n) 2).submitFault w n)
    | some b =>
      let s := s.incr (ringHead w n)
      .next (if n = 0 then s.takeControl w seq b else s.takeEntry w n seq b)

/-! ### Control-ring commands (R62 to R65) -/

/-- The check of the handle a control entry names: its kind and index, or the status of the refusal (R47, R48). -/
def State.ctlHandle (s : State) (w : Nat) (e : CtlEntry) : Except Status (Nat × Nat) :=
  let kind := (handleOf e.handle).kind
  if kind = 0 ∨ 0x0C < kind then .error .badHandle
  else match s.handleCheck w kind e.handle with
    | .ok i => .ok (kind, i)
    | .error st => .error st

/-- Rings bound to a handle are unbound, and disabled with their entries not yet consumed abandoned (R62, R64). -/
def State.unbindAll (s : State) (w handle : Nat) : State :=
  (List.range 256).foldl (fun s n => if n ≠ 0 ∧ s.rd (ringBind w n) = handle then (s.wb (ringCtrl w n) 31 false).wr (ringBind w n) 0 else s) s

/-- A DESTROY is accepted: the first of its two steps (R62). -/
def State.chanDestroy (s : State) (w kind i tag : Nat) (hosts : List HostRun) : State :=
  let s := s.chanStop kind i hosts
  let s := (s.unbindAll w (s.handleWord kind i)).bumpGen kind i
  s.mPods fun p => { p with chans := tset {} p.chans (chanKey kind i) ⟨.draining tag, w⟩ }

/-- DESTROY (R62). -/
def execDestroy (dt w : Nat) (hosts : List HostRun) (s : State) : Host.Outcome State Fault Refusal :=
  let s := s.tickMem dt hosts
  match s.ctlWaits w 2 0 with
  | none => .next s
  | some e =>
    match s.ctlHandle w e with
    | .error st => .next (s.ctlDone w e st e.handle)
    | .ok (kind, i) => .next ((s.chanDestroy w kind i e.tag hosts).ctlClear w)

/-- The last work of a destroyed channel has left the device (R62). A memory chunk channel has its own command. -/
def execDestroyDrainDone (dt kind i : Nat) (s : State) : Host.Outcome State Fault Refusal :=
  let s := s.tick dt
  match (s.chan kind i).phase with
  | .draining tag =>
    if kind = kMem ∨ ¬ s.chanDrained kind i then .next s
    else
      let w := (s.chan kind i).owner
      let h := (Handle.mk kind ((s.gen kind i + 511) % 512) i).word
      .next ((s.chanGone kind i).channelDone w .ok h tag 2)
  | _ => .next s

/-- A ring of a window is bound to a handle. -/
def State.boundTo (s : State) (w handle : Nat) : Bool := (List.range 256).any fun n => s.rd (ringBind w n) == handle

/-- BIND_RING (R63). A queue takes descriptors through one ring only (R277). -/
def execBindRing (dt w : Nat) (s : State) : Host.Outcome State Fault Refusal :=
  let s := s.tick dt
  match s.ctlWaits w 3 0 with
  | none => .next s
  | some e =>
    match s.ctlHandle w e with
    | .error st => .next (s.ctlDone w e st e.handle)
    | .ok (kind, _) =>
      if !ringKind kind then .next (s.ctlDone w e .badHandle e.handle)
      else if s.rb (ringCtrl w e.ring) 31 || s.rd (ringBind w e.ring) != 0 || (kind != kCheck && s.boundTo w e.handle) then .next (s.ctlDone w e .badState e.handle)
      else .next ((s.wr (ringBind w e.ring) e.handle).ctlDone w e .ok e.handle)

/-- UNBIND_RING (R64). -/
def execUnbindRing (dt w : Nat) (s : State) : Host.Outcome State Fault Refusal :=
  let s := s.tick dt
  match s.ctlWaits w 4 0 with
  | none => .next s
  | some e =>
    if s.rb (ringCtrl w e.ring) 31 || s.rd (ringBind w e.ring) == 0 then .next (s.ctlDone w e .badState e.handle)
    else .next ((s.wr (ringBind w e.ring) 0).ctlDone w e .ok e.handle)

/-- QUERY (R65). A write of the block that faults completes with FAULT. -/
def execQuery (dt w : Nat) (s : State) : Host.Outcome State Fault Refusal :=
  let s := s.tick dt
  match s.ctlWaits w 5 0 with
  | none => .next s
  | some e =>
    match s.ctlHandle w e with
    | .error st => .next (s.ctlDone w e st e.handle)
    | .ok (kind, i) =>
      let b := s.chanQuery kind i
      if e.paramLen < b.length then .next (s.ctlDone w e .badParam e.handle)
      else
        match s.store w 6 (2 ^ 63 + e.paramAddr % 2 ^ 63) b with
        | (true, s) => .next (s.ctlDone w e .ok e.handle)
        | (false, s) => .next (s.ctlDone w e .fault e.handle)

/-! ### Event rings (R66 to R69, R587) -/

/-- The PF events queued while the ring was disabled are written (R587). -/
def State.pfFlush (s : State) : State :=
  let q := s.pods.pfQueue
  let s := s.mPods fun p => { p with pfQueue := [] }
  q.foldl (fun s e => s.putRecord pfWin e.kind e.status e.handle e.detail e.time) s

/-- A write of EVR_CTRL.ENABLE = 1 (R68, R69, R587), or of WORLD_SEVR_CTRL. Queued PF events come before the EVENTS_LOST record.
Records not yet signalled before are not signalled after it (log entry 68). -/
def execEvrEnable (dt w : Nat) (v : Word) (s : State) : Host.Outcome State Fault Refusal :=
  let s := s.tick dt
  if s.winIgnores w || s.rb (evr w).ctrl 31 then .next s
  else
    let l := bits v.toNat 3 0
    let s := s.wr (evr w).ctrl l
    let base := if w = secWin then s.rd64 (evr w).base % 2 ^ 62 else s.rd64 (evr w).base
    if l < 6 ∨ base % max 4096 (2 ^ l * 16) ≠ 0 then .next s
    else
      let s := ((s.wb (evr w).ctrl 31 true).wr (evr w).head 0).wr (evr w).tail 0
      let s := s.mPods fun p => { p with unsignalled := tset 0 p.unsignalled w 0, firstUnsignalled := tset none p.firstUnsignalled w none }
      let s := if w = pfWin then s.pfFlush else s
      .next (s.flushLost w)

/-- Software moves EVR_HEAD on: when space returns after a loss an EVENTS_LOST record is written (R69). -/
def execEvrHeadWrite (dt w : Nat) (v : Word) (s : State) : Host.Outcome State Fault Refusal :=
  let s := s.tick dt
  if s.winIgnores w then .next s else .next ((s.wr (evr w).head v.toNat).flushLost w)

/-- The moderation timer of an event ring runs out (R67): TIMER_US after the first record not yet signalled. -/
def execEvrIrqTimer (dt w : Nat) (s : State) : Host.Outcome State Fault Refusal :=
  let s := s.tick dt
  match tget none s.pods.firstUnsignalled w with
  | none => .next s
  | some t =>
    let us := s.rf (evrIrq w) 31 16
    if us = 0 ∨ s.now < t + us * 1000 then .next s else .next (s.raiseMsix w)

end Sys2Proof.Machine
end

