-- ==== Sys2Proof/Machine/Image.lean ====
section
/-!
DEFINITION. Image: what a VI state image holds (The VI state image). The layout of its sealed sections is not documented and AES-256-GCM
lies outside the spec, so sealing and opening are constants with no body (R501; log entry 42).
-/
namespace Sys2Proof

namespace Machine

/-- What the sections of an image hold (R501). Lists go by channel index; register words by window offset or by place. -/
structure ViImage where
  window : List (Nat × Word) := []
  chans : List (Nat × Nat × Nat) := []
  layers : List (Nat × LayerSt × List Nat) := []
  commits : List Commit := []
  queues : List (Nat × QueueSt × List Nat) := []
  cache : List XlateEnt := []
  streams : List (Nat × StreamSt) := []
  zones : List (Nat × ZoneSt) := []
  slots : List (Nat × Nat) := []
  binds : List (Nat × Nat) := []
  ctxs : List (Nat × CheckCtx) := []
  fences : List (Nat × FenceSt) := []
  mems : List (Nat × MemChan) := []
  deriving DecidableEq, Repr, Inhabited

end Machine

/-- A sealed section of an image: its kind of R501, and what the image holds. -/
opaque Config.sealSection : Nat → Machine.ViImage → Bytes

/-- The authentication tag over a header, a directory and the sections (R500). -/
opaque Config.imageTag : Bytes → Vector Byte 16

/-- The content of an image under the VI image key; none when its authentication fails (R498, R501). -/
opaque Config.openImage : Bytes → Option Machine.ViImage

end Sys2Proof
end

