-- ==== Sys2Proof/Machine/Vimgr.lean ====
section
/-!
DEFINITION. Vimgr: virtual instances: commands, grants, reset, freeze, images, copies and dirty logging (Virtual instances).
-/
namespace Sys2Proof.Machine

/-! ### The command port (R477 to R480) -/

/-- VI_STATE.STATE of a VI, and the state with it changed (R508). -/
def State.viState (s : State) (v : Nat) : Nat := s.rf (viReg v 0) 31 28
def State.setVi (s : State) (v st : Nat) : State := s.wf (viReg v 0) 31 28 st

/-- Fields of a parameter block (R478). -/
def vpFlags (p : Nat) : Nat := bits p 7 0
def vpSub (p : Nat) : Nat := bits p 15 8
def vpLen (p : Nat) : Nat := bits p 63 32
def vpArg (p : Nat) : Nat := bits p 127 64
def vpAddr (p : Nat) : Nat := bits p 191 128
def vpAddr2 (p : Nat) : Nat := bits p 255 192

/-- The channels of a VI: kind and index, ones being created or drained among them. -/
def State.viChans (s : State) (v : Nat) : List (Nat × Nat) :=
  (s.pods.chans.filter fun c => c.2.phase != .free && c.2.owner == v).map fun c => (c.1 / 2 ^ 18, c.1 % 2 ^ 18)

/-- The states a command is allowed in (R479). A VI number the part does not have is refused by the row of R480 that names it (DEDUCED, log entry
43). -/
def State.vimAllowed (s : State) (op v : Nat) : Bool :=
  let st := s.viState v
  s.row.vis ≤ v || match op % 256 with
  | 0x01 => st == 0
  | 0x02 => st != 0
  | 0x03 => st == 1 || st == 4
  | 0x04 => st == 1 || st == 4
  | 0x05 => st == 1
  | 0x06 => st == 4
  | 0x07 => st == 4
  | 0x08 => st == 4 && s.viChans v == []
  | 0x09 => st == 1 || st == 3 || st == 4
  | 0x0A => st == 4
  | 0x0B => st != 0
  | 0x0C => st != 0 && (tget none s.vims.dirty v).isSome
  | _ => true

/-- The grant kinds (R483). -/
def isGrant (k : Nat) : Bool := (1 ≤ k && k ≤ 0x0B) || (0x10 ≤ k && k ≤ 0x1A)

/-- A parameter block with a field an opcode does not name set, a field outside its range, or a misaligned address (R478 to R480). -/
def vimBad (op p : Nat) : Bool :=
  let only (flags sub len arg addr addr2 : Bool) : Bool :=
    bits p 31 16 != 0 || (!flags && vpFlags p != 0) || (!sub && vpSub p != 0) || (!len && vpLen p != 0) || (!arg && vpArg p != 0)
      || (!addr && vpAddr p != 0) || (!addr2 && vpAddr2 p != 0)
  match op with
  | 0x01 => only true true false true false false || 1 < vpFlags p || 4 < vpSub p || 2 ^ 16 ≤ vpArg p
  | 0x03 =>
    only false true true true false false || !isGrant (vpSub p) || (0x10 ≤ vpSub p && vpLen p != 0)
      || (vpSub p = 0x18 && 2 ^ 48 ≤ vpArg p) || (vpSub p = 0x1A && 1 < vpArg p)
      || (vpSub p ≠ 0x18 && vpSub p ≠ 0x19 && 2 ^ 32 ≤ vpArg p)
  | 0x07 => only false false true false true false || vpAddr p % 4096 != 0
  | 0x08 => only false false true false true false
  | 0x09 => only false false true true true false || vpLen p % 4096 != 0 || vpArg p % 4096 != 0
  | 0x0A => only false false true true true false || vpLen p % 4096 != 0 || vpArg p % 4096 != 0
  | 0x0B =>
    only true false true true true true || 1 < vpFlags p
      || (vpFlags p = 1 && (vpAddr p % 2 ^ 21 != 0 || vpArg p % 2 ^ 30 != 0 || 2 ^ 40 < vpArg p || vpAddr2 p % 4096 != 0))
  | 0x0C => only false false true true true false || vpArg p % 64 != 0 || vpLen p % 64 != 0
  | 0x02 => only false false false false false false
  | 0x04 => only false false false false false false
  | 0x05 => only false false false false false false
  | 0x06 => only false false false false false false
  | _ => true

/-- The VI bound to a VF of a link. -/
def State.boundVi (s : State) (l vf : Nat) : Option Nat :=
  (List.range s.row.vis).find? fun v => s.viState v != 0 && s.rf (viReg v 0) 26 24 == l && s.rf (viReg v 0) 15 8 == vf

/-- The VIMGR command of a VI is pending, or 16 of them are (R480); a manager core is being handed over or reset (R598,
R608). -/
def State.vimBusy (s : State) (v : Nat) : Bool :=
  (tget none s.vims.ops v).isSome || decide (16 ≤ s.vims.ops.length)
    || s.mgrHand || s.mgrDown

/-- VIMGR_CMD_STATUS.RESULT, and with it the VI's LAST for a command that completes (R480, R508). -/
def State.vimResult (s : State) (st : Status) : State := s.wf 0x0040001C 22 16 st.code
def State.vimLast (s : State) (v : Nat) (st : Status) : State := s.wf (viReg v 0) 6 0 st.code
def State.vimCount (s : State) : State := s.wf 0x0040001C 4 0 s.vims.ops.length

/-- The checks of a write of VIMGR_CMD in the order of R480: the parameter block, or the status of the refusal. `op` is bits [31:16] of the word
with OPCODE in its low byte, so that a reserved bit makes it no opcode. A block whose read faults leaves no trace where the command is refused
(R20). -/
def State.vimCheck (s : State) (r : Req) (op v : Nat) (ext : Option Bytes) : Except Status Nat × State :=
  if s.claimedFor 0x16 0 r then (.error .claimed, s)
  else if s.noWork || !s.vimAllowed op v then (.error .badState, s)
  else if op = 0 ∨ 0x0C < op ∨ s.row.vis ≤ v then (.error .badParam, s)
  else
    match s.fetch pfWin 1 (s.rd64 0x00400010 / 32 * 32) 32 ext with
    | (none, t) => if s.vimBusy v then (.error .busy, s) else (.error .fault, t)
    | (some b, s) =>
      let p := leNat b
      let st := firstFail [
        (vimBad op p, .badParam),
        (op == 1 && !s.rb (linkReg (vpSub p)) 31, .unsupported),
        (op == 1 && (s.rf (linkReg (vpSub p)) 15 0 ≤ vpArg p || (s.boundVi (vpSub p) (vpArg p)).isSome), .noResource),
        (s.vimBusy v, .busy)]
      match st with
      | .ok => (.ok p, s)
      | st => (.error st, s)

/-- A write of VIMGR_CMD: `act` is what an accepted command does. No VF window exposes the port (R507). -/
def State.vimCmd (s : State) (r : Req) (op v : Nat) (ext : Option Bytes) (act : Nat → State → State) : State :=
  if pathWin r.path ≠ pfWin then s
  else
    match s.vimCheck r op v ext with
    | (.error st, s) => s.vimResult st
    | (.ok p, s) => act p s

/-- A command that completes before RESULT is loaded (R480). -/
def State.vimNow (s : State) (v : Nat) (st : Status) : State := (s.vimResult st).vimLast v st

/-- A command that completes later (R480). -/
def State.vimLater (s : State) (op v p : Nat) : State :=
  ((s.mVims fun m => { m with ops := tset none m.ops v (some ⟨op, p, s.now⟩) }).vimResult .pending).vimCount

/-- A pending command completes (R480, R509). -/
def State.vimDone (s : State) (v : Nat) (st : Status) : State :=
  match tget none s.vims.ops v with
  | none => s
  | some o =>
    let s := ((s.mVims fun m => { m with ops := tset none m.ops v none }).vimCount).vimLast v st
    s.emitPf 0x05 st (o.op * 2 ^ 24 + s.viState v * 2 ^ 16 + v)

/-- The pending command of a VI, if it has one of the opcodes. -/
def State.vimPending (s : State) (v : Nat) (ops : List Nat) : Option VimOp :=
  match tget none s.vims.ops v with
  | some o => if ops.contains o.op then some o else none
  | none => none

/-! ### CREATE_VI and GRANT (R481 to R488) -/

/-- A VI's registers and its window as CREATE_VI makes them (R481). -/
def State.viBlank (s : State) (v : Nat) : State :=
  let s := { s with regs := tcut (tcut (tcut s.regs (win v) (win v + 2 ^ 32)) (viReg v 0) (viReg v 0x40)) (grantReg v 0 0) (grantReg v 0x20 0) }
  let s := { s with latch := tset none s.latch (256 + v) none, staged := tset none s.staged (256 + v) none }
  let s := s.mPods fun p =>
    { p with lostSince := tset 0 p.lostSince v 0, unsignalled := tset 0 p.unsignalled v 0,
             firstUnsignalled := tset none p.firstUnsignalled v none, ctl := tset none p.ctl v none }
  s.clr (0x00180200 + v * 0x10) 4

/-- CREATE_VI (R479, R481). -/
def execCreateVi (dt : Nat) (r : Req) (v : Nat) (ext : Option Bytes) (s : State) : Host.Outcome State Fault Refusal :=
  .next ((s.tick dt).vimCmd r 0x01 v ext fun p s =>
    let s := s.viBlank v
    let s := s.wr (viReg v 0) (vpSub p * 2 ^ 24 + bits p 71 64 * 2 ^ 8)
    let s := ((s.wr (viReg v 0x34) 0x04000400).wr (grantReg v 0x15 4) 1024).wr (grantReg v 0x16 4) 1024
    (s.setVi v (if vpFlags p = 1 then 4 else 1)).vimNow v .ok)

/-- Whether a function holds a priority-7 queue, or a layer state with PROTECTED_SAFETY: in effect, pending, or in a commit not yet
taken (R488). -/
def State.holdsSafety (s : State) (w : Nat) : Bool :=
  (s.render.queues.any fun q => s.qOwner q.1 == w && q.2.prio == 7)
  || (s.display.layers.any fun l => s.layerOwner l.1 == w && ((lsrEnable l.2.shown && lsrSafety l.2.shown) ||
      (match l.2.pend with | some p => lsrEnable p && lsrSafety p | none => false)))
  || (s.display.commits.any fun c => c.w == w && c.ents.any fun e => lsrEnable e.lsr && lsrSafety e.lsr)

/-- The status of a GRANT of kind `k` with value or count `n` and range base `b` (R484, R488). -/
def State.grantStatus (s : State) (v k n b : Nat) : Status :=
  let others := (List.range s.row.vis).filter (· != v)
  if k ≤ 0x0B then
    let held (i : Nat) : Bool := (s.chan k i).phase != .free && (s.chan k i).owner != v
    if s.poolSize k < b + n then .badParam
    else if others.any (fun o => let ob := s.rd (grantReg o k 0); let on := s.rd (grantReg o k 4); n != 0 && on != 0 && b < ob + on && ob < b + n)
      || (List.range n).any (fun i => held (b + i)) then .noResource
    else .ok
  else
    match k with
    | 0x13 => if s.rd (grantReg v 0x11 4) < n then .badParam else .ok
    | 0x14 => if 64 < n then .badParam else .ok
    | 0x15 => if 1024 < n then .badParam else .ok
    | 0x16 => if 1024 < n then .badParam else .ok
    | 0x17 => if 2 ^ s.row.pipes ≤ n then .badParam else .ok
    | 0x18 => if n ≠ 0 ∧ others.any (fun o => s.rd64 (viReg o 0x20) == n) then .noResource else .ok
    | 0x19 => if others.any (fun o => s.rd64 (viReg o 0x28) &&& n != 0) then .noResource else .ok
    | 0x1A =>
      let owner := s.safetyWin
      if n = 1 then
        if owner = v then .ok
        else if owner ≠ pfWin ∨ s.holdsSafety pfWin then .badState
        else .ok
      else if owner = v ∧ s.holdsSafety v then .badState
      else .ok
    | _ => .ok

/-- A grant put into force (R486, R487). -/
def State.grantApply (s : State) (v k n b : Nat) : State :=
  let s := (s.wr (grantReg v k 0) b).wr (grantReg v k 4) n
  match k with
  | 0x11 => s.cacheTrim v
  | 0x13 => s.cacheTrim v
  | 0x14 => s.wr (viReg v 0x1C) n
  | 0x15 => (s.wf (viReg v 0x34) 10 0 n).wf (0x00180200 + v * 0x10) 10 0 n
  | 0x16 => (s.wf (viReg v 0x34) 26 16 n).wf (0x00180204 + v * 0x10) 10 0 n
  | 0x17 =>
    let old := s.rd (viReg v 0x30)
    ((List.range s.row.pipes).foldl (fun s p => if bit old p != bit n p then s.pipeDirty p else s) (s.wr (viReg v 0x30) n)).pipeShrink v
  | 0x18 => s.wr64 (viReg v 0x20) n
  | 0x19 => s.wr64 (viReg v 0x28) n
  | 0x1A =>
    if n = 1 then (s.wf 0x00400008 15 0 v).wb (viReg v 0) 27 true
    else if s.safetyWin = v then (s.wf 0x00400008 15 0 pfWin).wb (viReg v 0) 27 false
    else s
  | _ => s

/-- GRANT (R483 to R488). -/
def execGrant (dt : Nat) (r : Req) (v : Nat) (ext : Option Bytes) (s : State) : Host.Outcome State Fault Refusal :=
  .next ((s.tick dt).vimCmd r 0x03 v ext fun p s =>
    let k := vpSub p
    match s.grantStatus v k (vpArg p) (vpLen p) with
    | .ok =>
      let s := s.grantApply v k (vpArg p) (vpLen p)
      (if k ≤ 0x0B ∨ (0x10 ≤ k ∧ k ≤ 0x13) then s.shrinkCheck v k else s).vimNow v .ok
    | st => s.vimNow v st)

/-! ### Reset (R482, R492, R493) -/

/-- Commits of a VI that are not taken are discarded, with no header written; those taken go on to latch (R178). Its ports read as after reset (R165), and
a composition that only a discarded check held starts (R174). -/
def State.dropCommits (s : State) (v : Nat) : State :=
  let s := s.mDisplay fun d =>
    { d with commits := d.commits.filterMap fun c =>
        if c.w != v then some c else match c.phase with
          | .checking => none
          | .waiting => none
          | _ => some { c with dead := true } }
  ((List.range 16).foldl (fun s p => s.clr (portReg v p 0x0C) 5) s).releaseAll

/-- What happens to one channel of a VI as its reset is accepted: it stops, its handle goes stale, a context reads ORPHANED (R492). -/
def State.resetChan (s : State) (v : Nat) (c : Nat × Nat) : State :=
  let fresh := match (s.chan c.1 c.2).phase with | .draining _ => false | _ => true
  let s := if fresh then s.chanStop c.1 c.2 [] else s
  let s := if fresh then s.bumpGen c.1 c.2 else s
  let s := if c.1 = kCheck then s.mCtx c.2 fun x => { x with running := none } else s
  if c.1 = kRender ∨ c.1 = kCompute then s.wf (s.qReg (chanKey c.1 c.2) 4) 31 28 6 else s

/-- A VI reset is accepted: steps 1 and 2 of R492, and what of the later steps is done at once. A reset of a VI that is being reset
joins the one in progress; a destroy turns it into a destroy. Commands in progress end with BAD_STATE (log entry 43). -/
def State.viReset (s : State) (v cause : Nat) : State :=
  let st := s.viState v
  if st = 0 then s
  else
    match tget none s.vims.resets v with
    | some x =>
      if cause = 2 then
        (s.setVi v 7).mVims fun m => { m with resets := tset none m.resets v (some { x with cause := 2, destroy := true }) }
      else s
    | none =>
      let from_ := if st = 1 ∨ st = 3 then 1 else 4
      let s := if (s.vimPending v [0x05, 0x06, 0x07, 0x08, 0x09, 0x0A]).isSome then (s.setVi v from_).vimDone v .badState else s
      let s := (s.viChans v).foldl (fun s c => s.resetChan v c) s
      let s := s.mVims fun m =>
        { m with resets := tset none m.resets v (some ⟨cause, from_, cause == 2, s.now⟩),
                 restored := m.restored.filter (· != v), retrans := tset [] m.retrans v [] }
      let s := (s.dropCommits v).mRender fun r => { r with reqs := tset [] r.reqs v [] }
      let s := s.xlatePending v
      let s := (List.range 256).foldl (fun s n => s.wb (ringCtrl v n) 31 false) s
      let s := (s.wb (evr v).ctrl 31 false).mPods fun p => { p with ctl := tset none p.ctl v none }
      (s.wf (viReg v 4) 15 0 (s.rf (viReg v 4) 15 0 + 1)).setVi v (if cause = 2 then 7 else 2)

/-- RESET_VI (R479, R492). -/
def execResetVi (dt : Nat) (r : Req) (v : Nat) (ext : Option Bytes) (s : State) : Host.Outcome State Fault Refusal :=
  .next ((s.tick dt).vimCmd r 0x04 v ext fun p s => (s.viReset v 1).vimLater 0x04 v p)

/-- DESTROY_VI (R482). -/
def execDestroyVi (dt : Nat) (r : Req) (v : Nat) (ext : Option Bytes) (s : State) : Host.Outcome State Fault Refusal :=
  .next ((s.tick dt).vimCmd r 0x02 v ext fun p s => (s.viReset v 2).vimLater 0x02 v p)

/-- The queues of a VI. -/
def State.viQueues (s : State) (v : Nat) : List Nat := (s.render.queues.map (·.1)).filter fun q => s.qOwner q == v

/-- 1,500 µs after the acceptance, work of the VI that reached no boundary is stopped where it stands (R492 step 4). -/
def execResetWorkStop (dt v : Nat) (s : State) : Host.Outcome State Fault Refusal :=
  let s := s.tick dt
  match tget none s.vims.resets v with
  | none => .next s
  | some x =>
    if s.now < x.at_ + 1500000 then .next s
    else
      let qs := s.viQueues v
      let s := qs.foldl (fun s q => s.mQueue q fun u => { u with running := [], saved := false, saving := false, restoring := false }) s
      .next (s.clustersDrop fun q => qs.contains q)

/-- A DESTROY_VI ends: every grant returns to the pools, the VF is unbound, the VI is FREE (R482). -/
def State.viFree (s : State) (v : Nat) : State :=
  let s := if s.safetyWin = v then s.wf 0x00400008 15 0 pfWin else s
  (s.viBlank v).mVims fun m => { m with dirty := tset none m.dirty v none }

/-- A VI reset ends (R492 step 5): its clusters are free; every channel is destroyed and its chunks enter ZEROING. -/
def execViResetDone (dt v : Nat) (s : State) : Host.Outcome State Fault Refusal :=
  let s := s.tick dt
  match tget none s.vims.resets v with
  | none => .next s
  | some x =>
    if (s.viQueues v).any (fun q => s.qClusters q != 0) then .next s
    else
      let s := (s.viChans v).foldl (fun s c => s.chanGone c.1 c.2) s
      let s := (s.cacheDrop v).clr (0x00180200 + v * 0x10) 4
      let s := s.mVims fun m => { m with resets := tset none m.resets v none }
      let s := if x.destroy then s.viFree v else s.setVi v x.from_
      .next ((s.emitPf 0x07 .ok (x.cause * 2 ^ 24 + v)).vimDone v .ok)

/-! ### PCIe events (R476) -/

/-- A function-level reset of a VF (R476). -/
def execFunctionLevelReset (dt l vf : Nat) (s : State) : Host.Outcome State Fault Refusal :=
  let s := s.tick dt
  match s.boundVi l vf with
  | some v => .next (s.viReset v 3)
  | none => .next s

/-- The VIs bound to a link. -/
def State.linkVis (s : State) (l : Nat) : List Nat :=
  (List.range s.row.vis).filter fun v => s.viState v != 0 && s.rf (viReg v 0) 26 24 == l

/-- VF Enable is cleared on a link (R476). -/
def execVfEnableCleared (dt l : Nat) (s : State) : Host.Outcome State Fault Refusal :=
  let s := s.tick dt
  .next ((s.linkVis l).foldl (fun s v => s.viReset v 4) s)

/-- Bus Master Enable of a VF changes (R476). -/
def execBusMasterEnableChange (dt l vf : Nat) (on : Bool) (s : State) : Host.Outcome State Fault Refusal :=
  let s := s.tick dt
  let k := l * 256 + vf
  .next (s.mVims fun m =>
    { m with noMaster := if on then m.noMaster.filter (· != k) else if m.noMaster.contains k then m.noMaster else k :: m.noMaster })

/-- A link goes down: every VI bound to it is reset (R476, R509). -/
def State.linkDown (s : State) (l : Nat) : State :=
  if !s.rb (linkReg l) 30 then s
  else
    let vs := (s.linkVis l).filter fun v => (tget none s.vims.resets v).isNone
    let s := vs.foldl (fun s v => s.viReset v 5) (s.wb (linkReg l) 30 false)
    s.emitPf 0x0A .fault (l * 2 ^ 24 + vs.length)

/-- PCIE_LINK_DOWN: a link goes down (R476, R509). -/
def execPcieLinkDown (dt l : Nat) (s : State) : Host.Outcome State Fault Refusal := .next ((s.tick dt).linkDown l)

/-- A link comes up (R508, R509). -/
def execPcieLinkUp (dt l : Nat) (s : State) : Host.Outcome State Fault Refusal :=
  let s := s.tick dt
  if !s.rb (linkReg l) 31 || s.rb (linkReg l) 30 then .next s
  else .next ((s.wb (linkReg l) 30 true).emitPf 0x0A .ok (l * 2 ^ 24 + 0x01 * 2 ^ 16))

/-! ### Freeze and thaw (R494 to R496) -/

/-- FREEZE (R495). -/
def execFreeze (dt : Nat) (r : Req) (v : Nat) (ext : Option Bytes) (s : State) : Host.Outcome State Fault Refusal :=
  .next ((s.tick dt).vimCmd r 0x05 v ext fun p s => (s.setVi v 3).vimLater 0x05 v p)

/-- Whether no context of a VI holds a cluster, no save is on its way, and no check-context entry of it is in progress (R495). -/
def State.viQuiet (s : State) (v : Nat) : Bool :=
  (s.viQueues v).all (fun q => s.qClusters q == 0 && !(s.queue q).saving)
  && (s.checks.ctxs.all fun c => (s.chan kCheck c.1).owner != v || c.2.running == none)

/-- A FREEZE completes (R495). -/
def execFreezeComplete (dt v : Nat) (s : State) : Host.Outcome State Fault Refusal :=
  let s := s.tick dt
  if (s.vimPending v [0x05]).isSome ∧ s.viQuiet v then .next ((s.setVi v 4).vimDone v .ok) else .next s

/-- A FREEZE has not completed within FREEZE_US (R495, R509). -/
def execViFreezeTimeout (dt v : Nat) (s : State) : Host.Outcome State Fault Refusal :=
  let s := s.tick dt
  match s.vimPending v [0x05] with
  | none => .next s
  | some o =>
    if s.now < o.at_ + s.rf 0x00400004 17 0 * 1000 then .next s
    else
      let h := match (s.viQueues v).find? fun q => s.qClusters q != 0 with | some q => s.qHandle q | none => 0
      .next (((s.setVi v 1).emit pfWin 0x0B .timeout h v).vimDone v .timeout)

/-- A VI is ACTIVE again: restored commits count as accepted now, and VI_RESUMED is written (R172, R496). -/
def State.viThaw (s : State) (v : Nat) : State :=
  let back := s.vims.restored.contains v
  let s := s.setVi v 1
  let s := if back then s.mDisplay fun d =>
      { d with commits := d.commits.map fun c =>
          if c.w = v then { c with ifComposed := (s.targets c.pipe).1, ifDirect := (s.targets c.pipe).2 } else c }
    else s
  let s := s.mVims fun m => { m with restored := m.restored.filter (· != v) }
  s.emit v 0x09 .ok 0 (b2n back)

/-- THAW (R480, R496): it completes later when pipelines must be translated again. -/
def execThaw (dt : Nat) (r : Req) (v : Nat) (ext : Option Bytes) (s : State) : Host.Outcome State Fault Refusal :=
  .next ((s.tick dt).vimCmd r 0x06 v ext fun p s =>
    if tget [] s.vims.retrans v = [] then (s.viThaw v).vimNow v .ok else s.vimLater 0x06 v p)

/-- One pipeline translated again: its header rewritten, and the queues that bound it rebound, or left without one (R496). -/
def State.retranslate (s : State) (v addr old : Nat) (vd : Verdict) (hosts : List HostRun) : State :=
  let (o, s) := s.xlateRun v addr s.xlateVer false vd hosts
  let s := s.xlateHeader v addr o
  let new := match o.key with | some k => if o.st = .ok then s.xlateFind v k else none | none => none
  let swap (e : Option XlateEnt) : Option XlateEnt := match e with | some x => if x.key = old then new else some x | none => none
  (s.viQueues v).foldl (fun s q => s.mQueue q fun u => { u with gPipe := swap u.gPipe, cPipe := swap u.cPipe }) s

/-- Every retranslation of a restored VI ends (R496): `vs` says what the translator finds, record by record. -/
def State.retranslateAll (s : State) (v : Nat) (hosts : List HostRun) : List (Nat × Nat) → List Verdict → State
  | (a, k) :: rs, vd :: vs => (s.retranslate v a k vd hosts).retranslateAll v hosts rs vs
  | (a, k) :: rs, [] => (s.retranslate v a k default hosts).retranslateAll v hosts rs []
  | [], _ => s

/-- The THAW of a restored VI completes (R496). -/
def execThawRetranslationDone (dt v : Nat) (vs : List Verdict) (hosts : List HostRun) (s : State) : Host.Outcome State Fault Refusal :=
  let s := s.tickMem dt hosts
  match s.vimPending v [0x06] with
  | none => .next s
  | some _ =>
    let todo := tget [] s.vims.retrans v
    let s := (s.mVims fun m => { m with retrans := tset [] m.retrans v [] }).retranslateAll v hosts todo vs
    .next ((s.viThaw v).vimDone v .ok)

/-! ### Save and restore (R497 to R502) -/

/-- The words of a VI's window that the WINDOW section holds. -/
def State.viWindow (s : State) (v : Nat) : List (Nat × Word) :=
  (s.regs.filter fun c => win v ≤ c.1 && c.1 < win v + 2 ^ 32).map fun c => (c.1 - win v, c.2)

/-- What an image of a VI holds (R501). -/
def State.viImage (s : State) (v : Nat) : ViImage :=
  let cs := s.viChans v
  let of (k : Nat) : List Nat := (cs.filter fun c => c.1 == k).map (·.2)
  { window := s.viWindow v,
    chans := cs.map fun c => (c.1, c.2, s.gen c.1 c.2),
    layers := (of kLayer).map fun i => (i, s.layer i, [s.rd (layerReg i 0), s.rd (layerReg i 4), s.rd (layerReg i 8)]),
    commits := s.display.commits.filter fun c => c.w == v && (c.phase == .checking || c.phase == .waiting),
    queues := ((of kRender).map (chanKey kRender) ++ (of kCompute).map (chanKey kCompute)).map fun q =>
      (q, s.queue q, [s.rd (s.qReg q 0), s.rd (s.qReg q 4), s.rd (s.qReg q 8), s.rd (s.qReg q 12)]),
    cache := tget [] s.render.cache v,
    streams := ((of kStreamIn).map (chanKey kStreamIn) ++ (of kStreamOut).map (chanKey kStreamOut)).map fun k => (k, s.stream k),
    zones := (of kZone).map fun i => (i, s.zone i),
    slots := (of kHslot).map fun i => (i, s.hslot i),
    binds := (of kReflex).map fun i => (i, tget 0 s.panel.binds i),
    ctxs := (of kCheck).map fun i => (i, s.ctx i),
    fences := (of kFence).map fun i => (i, s.fence i),
    mems := (of kMem).map fun i => (i, tget {} s.seed.chans i) }

/-- The value of a grant a VI holds, as its GRANT parameter block names it: kind, value, base (R483, R501). -/
def State.grantOf (s : State) (v k : Nat) : Nat × Nat × Nat :=
  let n :=
    match k with
    | 0x18 => s.rd64 (viReg v 0x20)
    | 0x19 => s.rd64 (viReg v 0x28)
    | _ => s.rd (grantReg v k 4)
  (k, n, if k ≤ 0x0B then s.rd (grantReg v k 0) else 0)

/-- The grants a VI holds, in kind order. -/
def State.grantsOf (s : State) (v : Nat) : List (Nat × Nat × Nat) :=
  (((List.range 0x1B).filter isGrant).map (s.grantOf v)).filter fun g => g.2.1 != 0

/-- The GRANTS section (R501). -/
def grantBytes (gs : List (Nat × Nat × Nat)) : Bytes :=
  gs.flatMap fun g => leBytes (g.1 * 2 ^ 8 + g.2.2 * 2 ^ 32 + g.2.1 * 2 ^ 64) 32

/-- Bytes filled up with zeros to a multiple of 64. -/
def pad64 (b : Bytes) : Bytes := b ++ List.replicate (cdiv b.length 64 * 64 - b.length) 0

/-- Directory entries and bodies of the sections from a kind on, the first body at `off` (R500). -/
def sections (k off : Nat) : List Bytes → Bytes × Bytes
  | [] => ([], [])
  | b :: r =>
    let (d, body) := sections (k + 1) (off + (pad64 b).length) r
    (leBytes (k + b.length * 2 ^ 32 + off * 2 ^ 64) 16 ++ d, pad64 b ++ body)

/-- The image of a VI (R500, R501). -/
def State.imageBytes (s : State) (v : Nat) : Bytes :=
  let img := s.viImage v
  let (dir, body) := sections 1 256 (grantBytes (s.grantsOf v) :: (List.range 11).map fun i => Config.sealSection (i + 2) img)
  let len := 256 + body.length
  let head := 0x4956545A + 2 ^ 32 * 1 + s.rf 4 31 16 * 2 ^ 48 + len % 2 ^ 32 * 2 ^ 64 + v * 2 ^ 96 + s.rf (viReg v 4) 15 0 * 2 ^ 128
    + 12 * 2 ^ 144 + bits s.xlateVer 31 16 * 2 ^ 160 + s.now * 2 ^ 192
  let plain := leBytes head 32 ++ dir ++ body
  leBytes head 32 ++ (Config.imageTag plain).toList ++ leBytes 0 16 ++ dir ++ body

/-- SAVE (R497). -/
def execSave (dt : Nat) (r : Req) (v : Nat) (ext : Option Bytes) (s : State) : Host.Outcome State Fault Refusal :=
  .next ((s.tick dt).vimCmd r 0x07 v ext fun p s => (s.setVi v 5).vimLater 0x07 v p)

/-- A SAVE ends (R497). -/
def execSaveComplete (dt v : Nat) (s : State) : Host.Outcome State Fault Refusal :=
  let s := s.tick dt
  match s.vimPending v [0x07] with
  | none => .next s
  | some o =>
    let b := s.imageBytes v
    let s := (s.wr (viReg v 0x38) b.length).setVi v 4
    if vpLen o.par * 4096 < b.length then .next (s.vimDone v .badGeometry)
    else
      match s.store pfWin 6 (vpAddr o.par) b with
      | (true, s) => .next (s.vimDone v .ok)
      | (false, s) => .next (s.vimDone v .fault)

/-- RESTORE (R498). -/
def execRestore (dt : Nat) (r : Req) (v : Nat) (ext : Option Bytes) (s : State) : Host.Outcome State Fault Refusal :=
  .next ((s.tick dt).vimCmd r 0x08 v ext fun p s => (s.setVi v 6).vimLater 0x08 v p)

/-- Chunks a restored VI takes of a memory: its channels' and, in LPDDR, its tile pools' (R498). -/
def imageChunks (img : ViImage) (mem : Nat) : Nat :=
  (img.mems.foldl (fun n m => if m.2.mem = mem then n + m.2.count else n) 0)
    + (if mem = 1 then img.queues.foldl (fun n q => n + q.2.1.pool.length) 0 else 0)

/-- The grants of a VI fall short of a record of the GRANTS section (R498). -/
def State.grantShort (s : State) (v : Nat) (g : Nat) : Bool :=
  let k := bits g 15 8
  let n := bits g 127 64
  let (_, have_, base) := s.grantOf v k
  match k with
  | 0x17 => n &&& have_ != n
  | 0x18 => n != have_
  | 0x19 => n &&& have_ != n
  | 0x1A => have_ < n
  | _ => if k ≤ 0x0B then n != 0 && (bits g 63 32 < base || base + have_ < bits g 63 32 + n) else have_ < n

/-- A stream recreated on its run, or on another free run; none where the matrix has none left (R498). -/
def State.restoreStream (s : State) (k : Nat) (t : StreamSt) : Option State :=
  let isIn := k / 2 ^ 18 == kStreamIn
  let rs := if isIn then s.inRuns else s.outRuns
  let n := stChannels t.params
  let run := if (List.range n).all fun c => (runOf rs (t.base + c)).isNone then some t.base
    else freeRun rs n (if isIn then s.row.audioIn else s.row.audioOut)
  run.map fun base => (s.mAudio fun a => { a with streams := tset {} a.streams k { t with base := base } }).capacityShow

/-- The streams of an image recreated (R498). -/
def State.restoreStreams (s : State) : List (Nat × StreamSt) → Option State
  | [] => some s
  | c :: r => (s.restoreStream c.1 c.2).bind fun s => s.restoreStreams r

/-- The checks of an image that was read, in the order of R498. A stream no run of the matrix is left for counts as a grant that falls short
(log entry 43). -/
def State.restoreStatus (s : State) (v : Nat) (b : Bytes) (img : Option ViImage) : Status :=
  let h := leNat (b.take 64)
  let dir := leNat ((b.drop 64).take 16)
  let grants := (List.range (bits dir 63 32 / 32)).map fun i => leNat ((b.drop (bits dir 95 64 + 32 * i)).take 32)
  match img with
  | none => .badSignature
  | some m =>
    firstFail [
      (bits h 47 32 != 1 || s.rf 4 31 16 < bits h 63 48, .unsupported),
      (bits h 111 96 != v, .badState),
      (grants.any (s.grantShort v) || m.chans.any (fun c => !s.inViRange v c.1 c.2.1 || (s.chan c.1 c.2.1).phase != .free)
        || s.freeChunks 0 < imageChunks m 0 || s.freeChunks 1 < imageChunks m 1
        || s.row.contexts < s.render.queues.length + m.queues.length || !s.grantRoom v 0x11 (imageChunks m 0) || !s.grantRoom v 0x12 (imageChunks m 1)
        || (s.restoreStreams m.streams).isNone, .noResource)]

/-- A memory chunk channel recreated: zeroed chunks mapped at its local addresses (R498). -/
def State.restoreMem (s : State) (v i : Nat) (m : MemChan) : State :=
  let c := pickChunks s m.mem (2 ^ 19) 0 m.count
  let s := ((s.zeroChunks m.mem c).setChunks m.mem 2 v c).countChunks v m.mem m.count
  let s := s.mSeed fun d => { d with chans := tset {} d.chans i { m with chunks := c } }
  s.mapChunks v m.mem m.readOnly (m.daddr / 2 ^ 21) c

/-- A queue recreated on a free context, with its saved state and as many tile-list chunks as it had (R498). -/
def State.restoreQueue (s : State) (v q : Nat) (u : QueueSt) (regs : List Nat) : State :=
  let ctx := s.freeCtx.getD 0
  let c := pickChunks s 1 (2 ^ 19) 0 u.pool.length
  let s := ((s.setChunks 1 2 v c).countChunks v 1 c.length).grantTake v 0x10 1
  let s := s.mRender fun r => { r with queues := tset {} r.queues q { u with ctx := ctx, pool := c } }
  s.wrs ((List.range 4).map fun j => (ctxReg ctx (4 * j), regs.getD j 0))

/-- A layer recreated with its states; it takes a scaler when it is next shown (R498). -/
def State.restoreLayer (s : State) (i : Nat) (l : LayerSt) (regs : List Nat) : State :=
  let use := 0x01000104 + l.pipe * 0x10
  let s := s.wf use 7 0 (s.rf use 7 0 + 1)
  let s := if l.direct then s.wf use 15 8 (s.rf use 15 8 + 1) else s
  let s := s.mDisplay fun d => { d with layers := tset {} d.layers i { l with scaler := none } }
  (s.wrs ((List.range 3).map fun j => (layerReg i (4 * j), regs.getD j 0))).pipeDirty l.pipe

/-- Every channel of an image recreated with its saved INDEX and GEN (R498, R502). -/
def State.restoreApply (s : State) (v : Nat) (h : Nat) (m : ViImage) : State :=
  let s := m.window.foldl (fun s c => s.wr (win v + c.1) c.2.toNat) s
  let s := m.chans.foldl (fun s c =>
    (s.takeIndex v c.1 c.2.1 .live).mPods fun p => { p with gens := tset 0 p.gens (chanKey c.1 c.2.1) c.2.2 }) s
  let s := m.mems.foldl (fun s c => s.restoreMem v c.1 c.2) s
  let s := m.fences.foldl (fun s c => s.mDisplay fun d => { d with fences := tset {} d.fences c.1 c.2 }) s
  let s := m.layers.foldl (fun s c => s.restoreLayer c.1 c.2.1 c.2.2) s
  let s := s.mDisplay fun d => { d with commits := d.commits ++ m.commits }
  let s := m.queues.foldl (fun s c => s.restoreQueue v c.1 c.2.1 c.2.2) s
  let s := (s.restoreStreams m.streams).getD s
  let s := m.zones.foldl (fun s c => (s.mPanel fun p => { p with zones := tset {} p.zones c.1 c.2 }).zoneHold c.1 c.2) s
  let s := m.slots.foldl (fun s c => s.mPanel fun p => { p with slots := tset 0 p.slots c.1 c.2 }) s
  let s := m.binds.foldl (fun s c => s.mPanel fun p => { p with binds := tset 0 p.binds c.1 c.2 }) s
  let s := m.ctxs.foldl (fun s c => (s.mChecks fun k => { k with ctxs := tset {} k.ctxs c.1 c.2 })) s
  let s := if bits h 175 160 = bits s.xlateVer 31 16 then m.cache.foldl (fun s e => s.cachePut v e) s
    else s.mVims fun x => { x with retrans := tset [] x.retrans v (m.cache.map fun e => (e.addr, e.key)) }
  let s := s.mVims fun x => { x with restored := v :: x.restored.filter (· != v) }
  s.wf (viReg v 4) 15 0 (bits h 143 128)

/-- A RESTORE ends (R498). `ext` is the image where it lies in memory outside the device. -/
def execRestoreComplete (dt v : Nat) (ext : Option Bytes) (s : State) : Host.Outcome State Fault Refusal :=
  let s := s.tick dt
  match s.vimPending v [0x08] with
  | none => .next s
  | some o =>
    match s.fetch pfWin 6 (vpAddr o.par) (vpLen o.par * 4096) ext with
    | (none, s) => .next ((s.setVi v 4).vimDone v .fault)
    | (some b, s) =>
      let s := s.setVi v 4
      let img := Config.openImage b
      match s.restoreStatus v b img, img with
      | .ok, some m => .next ((s.restoreApply v (leNat (b.take 64)) m).vimDone v .ok)
      | st, _ => .next (s.vimDone v st)

/-! ### Copies (R479) -/

/-- COPY_OUT (R479). -/
def execCopyOut (dt : Nat) (r : Req) (v : Nat) (ext : Option Bytes) (s : State) : Host.Outcome State Fault Refusal :=
  .next ((s.tick dt).vimCmd r 0x09 v ext fun p s => s.vimLater 0x09 v p)

/-- COPY_IN (R479). -/
def execCopyIn (dt : Nat) (r : Req) (v : Nat) (ext : Option Bytes) (s : State) : Host.Outcome State Fault Refusal :=
  .next ((s.tick dt).vimCmd r 0x0A v ext fun p s => s.vimLater 0x0A v p)

/-- Bytes put at a local address of a VI, page by page, with no dirty logging (R479); whether every page is mapped. -/
def State.copyIn (s : State) (v a : Nat) : List Bytes → Bool × State
  | [] => (true, s)
  | b :: r =>
    match s.phys v a with
    | none => (false, s)
    | some pa => (s.pwrite pa b 7 v).copyIn v (a + b.length) r

/-- The 4 KiB pages of a byte string. -/
def pages (b : Bytes) : List Bytes := (List.range (cdiv b.length 4096)).map fun i => (b.drop (4096 * i)).take 4096

/-- A COPY_OUT or COPY_IN ends its DMA (R479). -/
def execViCopyComplete (dt v : Nat) (hosts : List HostRun) (s : State) : Host.Outcome State Fault Refusal :=
  let s := s.tickMem dt hosts
  match s.vimPending v [0x09, 0x0A] with
  | none => .next s
  | some o =>
    let a := vpArg o.par
    let n := vpLen o.par
    if isHost a then .next (s.vimDone v .fault)
    else if o.op = 0x09 then
      match s.peek v 6 hosts a n with
      | .error _ => .next (s.vimDone v .fault)
      | .ok b =>
        match s.store pfWin 6 (vpAddr o.par) b with
        | (true, s) => .next (s.vimDone v .ok)
        | (false, s) => .next (s.vimDone v .fault)
    else
      match s.load pfWin 6 hosts (vpAddr o.par) n with
      | (none, s) => .next (s.vimDone v .fault)
      | (some b, s) =>
        match s.copyIn v a (pages b) with
        | (true, s) => .next (s.vimDone v .ok)
        | (false, s) => .next (s.vimDone v .fault)

/-! ### Dirty logging (R503 to R506) -/

/-- Bytes of the bitmap area (R503). -/
def dirtyLen (limit hostPages : Nat) : Nat := cdiv (limit / 32768) 64 * 64 + cdiv (cdiv hostPages 8) 64 * 64

/-- Whether an area of the PF's local space lies in mapped chunks of the Seedbank or LPDDR (R503). -/
def State.areaMapped (s : State) (a n : Nat) : Bool :=
  a + n ≤ 2 ^ 40 && (List.range (cdiv n (2 ^ 21))).all fun i =>
    let e : MapEnt := tget {} s.seed.maps (pfWin * 2 ^ 19 + a / 2 ^ 21 + i)
    e.mapped && e.mem < 2

/-- The area zeroed, chunk by chunk. -/
def State.areaZero (s : State) (a n : Nat) : State :=
  (List.range (cdiv n (2 ^ 21))).foldl (fun s i =>
    let e : MapEnt := tget {} s.seed.maps (pfWin * 2 ^ 19 + a / 2 ^ 21 + i)
    let k := e.mem * 2 ^ 60 + e.chunk * 2 ^ 21
    { s with mem := tcut s.mem k (k + min (2 ^ 21) (n - i * 2 ^ 21)) }) s

/-- A command that completes with its own VI_CMD_DONE at once: RESULT read PENDING (R480). -/
def State.vimAtOnce (s : State) (op v p : Nat) (st : Status) : State := (s.vimLater op v p).vimDone v st

/-- DIRTY_CTRL (R503). -/
def execDirtyCtrl (dt : Nat) (r : Req) (v : Nat) (ext : Option Bytes) (s : State) : Host.Outcome State Fault Refusal :=
  .next ((s.tick dt).vimCmd r 0x0B v ext fun p s =>
    if vpFlags p = 0 then
      ((s.mVims fun m => { m with dirty := tset none m.dirty v none }).wb (viReg v 0x14) 31 false).vimAtOnce 0x0B v p .ok
    else
      let n := dirtyLen (vpArg p) (vpLen p)
      if isHost (vpAddr p) || !s.areaMapped (vpAddr p) n then s.vimAtOnce 0x0B v p .badGeometry
      else
        let s := s.areaZero (vpAddr p) n
        let s := s.mVims fun m => { m with dirty := tset none m.dirty v (some ⟨vpAddr p, vpArg p, vpAddr2 p, vpLen p⟩) }
        (s.wr (viReg v 0x14) (2 ^ 31)).vimAtOnce 0x0B v p .ok)

/-- DIRTY_HARVEST (R506). -/
def execDirtyHarvest (dt : Nat) (r : Req) (v : Nat) (ext : Option Bytes) (s : State) : Host.Outcome State Fault Refusal :=
  .next ((s.tick dt).vimCmd r 0x0C v ext fun p s =>
    match tget none s.vims.dirty v with
    | none => s.vimAtOnce 0x0C v p .badState
    | some d =>
      let n := vpLen p
      if dirtyLen d.limit d.hostPages < vpArg p + n then s.vimAtOnce 0x0C v p .badGeometry
      else
        match s.physAll pfWin (d.area + vpArg p) n with
        | none => s.vimAtOnce 0x0C v p .fault
        | some pas =>
          match s.store pfWin 6 (vpAddr p) (pas.map fun a => tget 0 s.mem a) with
          | (true, s) => ({ s with mem := pas.foldl tdel s.mem }).vimAtOnce 0x0C v p .ok
          | (false, s) => s.vimAtOnce 0x0C v p .fault)

end Sys2Proof.Machine
end

