-- ==== Sys2Proof/Machine/Worlds.lean ====
section
/-!
DEFINITION. Worlds: worlds of harts, region entries, hulls, debug tokens and claims (Worlds and hulls).
-/
namespace Sys2Proof.Machine

/-- A hart, and the state with a hart changed. -/
def State.hart (s : State) (h : Nat) : HartSt := tget {} s.worlds.harts h
def State.mHart (s : State) (h : Nat) (f : HartSt → HartSt) : State := s.mWorlds fun w => { w with harts := tmod {} w.harts h f }

/-- A hull, and the state with a hull changed. -/
def State.hull (s : State) (k : Nat) : Hull := tget {} s.worlds.hulls k
def State.mHull (s : State) (k : Nat) (f : Hull → Hull) : State := s.mWorlds fun w => { w with hulls := tmod {} w.hulls k f }

/-- An entry in force, and the state with one put into force. -/
def State.rcEntry (s : State) (c e : Nat) : RcEntry := tget {} s.worlds.entries (c * 64 + e)
def State.setRc (s : State) (c e : Nat) (x : RcEntry) : State :=
  s.mWorlds fun w => { w with entries := tset {} w.entries (c * 64 + e) x }

/-- A write of the WORLD block by a normal requester: it is ignored, and WORLD_LOCK.RESULT reads DENIED (R513). -/
def State.worldDenied (s : State) : State := s.wf 0x00500004 22 16 Status.denied.code

/-! ### Region entries (R514, R515) -/

/-- The word of an entry as software writes it (R535). -/
def rcWord (c e k : Nat) : Nat := 0x00501000 + c * 0x800 + e * 0x20 + k * 4

/-- The fields of an entry's 256 bits; HULL_HELD is the device's (R514). -/
def rcFields (n : Nat) : RcEntry :=
  { en := bit n 255, hullHeld := false, sRwx := bits n 247 245, nRwx := bits n 244 242, classes := bits n 223 216, hullSel := bits n 215 214,
    hull := bits n 213 208, viSel := bits n 207 206, vi := bits n 191 176, limit := bits n 127 64, base := bits n 63 0 }

/-- The 256 bits of an entry (R514). -/
def RcEntry.bits256 (e : RcEntry) : Nat :=
  e.base + e.limit * 2 ^ 64 + e.vi * 2 ^ 176 + e.viSel * 2 ^ 206 + e.hull * 2 ^ 208 + e.hullSel * 2 ^ 214 + e.classes * 2 ^ 216
    + e.nRwx * 2 ^ 242 + e.sRwx * 2 ^ 245 + b2n e.hullHeld * 2 ^ 254 + b2n e.en * 2 ^ 255

/-- The bytes of the memory behind a controller (R515). -/
def State.rcSize (s : State) (c : Nat) : Nat :=
  match c with
  | 0 => s.row.seedbankMiB * 2 ^ 20
  | 1 => s.lpChunks * 2 ^ 21
  | 2 => 96 * 2 ^ 20
  | _ => s.rf 0x0020004C 31 16 * 2 ^ 20

/-- The refusal of a word-7 write, in the order of R515. -/
def State.rcStatus (s : State) (c e : Nat) (x : RcEntry) : Status :=
  firstFail [
    ((s.rcEntry c e).hullHeld, .denied),
    (2 ≤ x.hullSel || x.viSel == 3, .badParam),
    (x.en && (x.base % 4096 != 0 || x.limit % 4096 != 4095 || x.limit < x.base || s.rcSize c ≤ x.limit), .badParam)]

/-- RC_ENTRY_COMMIT: a write of word 7 checks the entry and puts all eight words into force together (R515). -/
def execRcEntryCommit (dt : Nat) (r : Req) (c e : Nat) (v : Word) (s : State) : Host.Outcome State Fault Refusal :=
  let s := s.tick dt
  if !s.reqSecure r then .next s.worldDenied
  else if s.rb 0x00500004 0 then .next (s.wf (rcReg c 0) 22 16 Status.denied.code)
  else
    let n := (List.range 7).foldl (fun n k => n + s.rd (rcWord c e k) * 2 ^ (32 * k)) 0 + v.toNat * 2 ^ 224
    let x := rcFields n
    match s.rcStatus c e x with
    | .ok => .next (s.setRc c e x)
    | st => .next (s.wf (rcReg c 0) 22 16 st.code)

/-! ### Worlds of harts (R511) -/

/-- WORLD_HART_WRITE: a hart in the secure world and in machine mode takes the world it writes; one in the normal world takes an access
fault; one in the secure world but another mode keeps its world (R511; log entry 45). -/
def execWorldHartWrite (dt h : Nat) (machine secure : Bool) (s : State) : Host.Outcome State Fault Refusal :=
  let s := s.tick dt
  if s.row.appCores ≤ h then .next s
  else if (s.hart h).normal then .next (s.mHart h fun t => { t with trap := 1 })
  else if machine then .next (s.mHart h fun t => { t with normal := !secure })
  else .next s

/-! ### Hulls (R520 to R526) -/

/-- The application-core hart a request comes from; the hull registers are no other requester's (R513, R520). -/
def State.hartOf (s : State) (r : Req) : Option Nat :=
  match r.path with
  | .hart h => if h < s.row.appCores then some h else none
  | _ => none

/-- The result of a hart's command (R521, R536). -/
def State.hullResult (s : State) (h : Nat) (st : Status) : State := s.mHart h fun t => { t with status := setBits t.status 22 16 st.code }

/-- The hull of a hart's last CREATE, which ADD and SEAL act on (R536; log entry 44). -/
def State.lastHull (s : State) (h : Nat) : Nat := bits (s.hart h).status 5 0

/-- The harts in a hull (R536). -/
def State.hartsIn (s : State) (k : Nat) : List Nat := (List.range s.row.appCores).filter fun h => (s.hart h).hull == some k

/-- The windows a hull holds, and those open (R524). -/
def State.windowsOf (s : State) (k : Nat) : List Nat :=
  (List.range 64).filter fun e => (let x := s.rcEntry (s.hull k).mem e; x.hullHeld && x.hullSel == 1 && x.hull == k)
def State.windowsOpen (s : State) (k : Nat) : List Nat := (s.windowsOf k).filter fun e => (s.rcEntry (s.hull k).mem e).en

/-- The free entry of a controller taken next: the highest-numbered that is neither enabled nor held (R521). -/
def State.freeEntry (s : State) (c : Nat) : Option Nat :=
  (List.range 64).reverse.find? fun e => !(s.rcEntry c e).en && !(s.rcEntry c e).hullHeld

/-- The attributes of a hart's requests (R510). -/
def State.hartAttr (s : State) (h : Nat) : Attr := ⟨!(s.hart h).normal, (s.hart h).hull, none, 0⟩

/-- Whether the software entries of R516 give a right over a whole range: the decision changes only where an entry begins or ends.
The Pip store is open to nobody (R517), and a controller out of service denies (R519). -/
def State.softGives (s : State) (c : Nat) (a : Attr) (right base size : Nat) : Bool :=
  let es := (s.rcEntries c).filter fun e => e.en && !e.hullHeld
  let at_ (o : Nat) : Bool :=
    match es.find? (fun e => e.holds o && e.admits a) with
    | some e => e.allows a.secure right
    | none => false
  let points := base :: (es.flatMap fun e => [e.base, e.limit + 1]).filter fun o => base < o && o < base + size
  !s.worlds.rcFaulted.contains c && !(c == 2 && base < 24 * 2 ^ 20) && points.all at_

/-- Whether a range overlaps a hull's range in the same memory (R521). -/
def State.overHull (s : State) (c base size : Nat) : Bool :=
  (List.range 64).any fun k => (let x := s.hull k; x.state != 0 && x.mem == c && x.base < base + size && base < x.base + x.size)

/-- A range of a memory filled with zeros; poison marks of whole words clear (R87). -/
def State.zeroRange (s : State) (c base size : Nat) : State :=
  let a := c * 2 ^ 60 + base
  let s := { s with mem := tcut s.mem a (a + size) }
  s.mSeed fun m => { m with poison := tcut m.poison (a / 8) ((a + size) / 8) }

/-- The refusal of a CREATE (R520, R521). -/
def State.createHullStatus (s : State) (h base size arg2 : Nat) : Status :=
  let c := bits arg2 1 0
  firstFail [
    ((s.hart h).hull.isSome || !(s.softGives c (s.hartAttr h) 4 base size && s.softGives c (s.hartAttr h) 2 base size), .denied),
    (s.overHull c base size, .badState),
    (c == 3 || base % 4096 != 0 || size % 4096 != 0 || size < 8192 || s.rcSize c < base + size, .badParam),
    ((List.range 64).all (fun k => (s.hull k).state != 0) || (s.freeEntry c).isNone, .noResource)]

/-- HULL_CREATE: a hull takes the lowest free number and an entry, its range reads zero, and it is BUILDING (R520, R522). -/
def execHullCreate (dt : Nat) (r : Req) (s : State) : Host.Outcome State Fault Refusal :=
  let s := s.tick dt
  match s.hartOf r with
  | none => .next s
  | some h =>
    let t := s.hart h
    let c := bits t.arg2 1 0
    match s.createHullStatus h t.arg0 t.arg1 t.arg2, (List.range 64).find? (fun k => (s.hull k).state == 0), s.freeEntry c with
    | .ok, some k, some e =>
      let s := s.zeroRange c t.arg0 t.arg1
      let s := s.setRc c e
        { en := true, hullHeld := true, sRwx := if t.normal then 0 else 7, nRwx := if t.normal then 7 else 0, classes := 0xFF, hullSel := 2,
          hull := k, limit := t.arg0 + t.arg1 - 1, base := t.arg0 }
      let s := s.mHull k fun _ =>
        { state := 1, secure := !t.normal, debugOk := bit t.arg2 8, mem := c, base := t.arg0, size := t.arg1, entry := e, m := List.replicate 48 0 }
      .next ((s.mHart h fun t => { t with status := setBits t.status 5 0 k }).hullResult h .ok)
    | st, _, _ => .next (s.hullResult h st)

/-- The refusal of an ADD (R520 to R522). No software entry gives anything in the memory of a hull (R516). -/
def State.addStatus (s : State) (h k off src c : Nat) : Status :=
  let x := s.hull k
  firstFail [
    ((x.state != 0 && x.secure == (s.hart h).normal) || !s.softGives c (s.hartAttr h) 4 src 4096 || s.overHull c src 4096, .denied),
    (x.state != 1, .badState),
    (c == 3 || off % 4096 != 0 || off == 0 || x.size < off + 4096 || s.rcSize c < src + 4096, .badParam)]

/-- HULL_ADD: 4 KiB are copied into the hull, and the measurement takes the offset and the page (R522). -/
def execHullAdd (dt : Nat) (r : Req) (s : State) : Host.Outcome State Fault Refusal :=
  let s := s.tick dt
  match s.hartOf r with
  | none => .next s
  | some h =>
    let t := s.hart h
    let k := s.lastHull h
    let c := bits t.arg2 1 0
    match s.addStatus h k t.arg0 t.arg1 c with
    | .ok =>
      let x := s.hull k
      let page := readBytes s.mem (c * 2 ^ 60 + t.arg1) 4096
      let s := s.pwrite (x.mem * 2 ^ 60 + x.base + t.arg0) page 7 pfWin
      let s := s.mHull k fun x => { x with m := sha384 (x.m ++ leBytes t.arg0 8 ++ page) }
      .next (s.hullResult h .ok)
    | st => .next (s.hullResult h st)

/-- HULL_SEAL: the measurement takes the entry offset and the flags, and is final (R522). -/
def execHullSeal (dt : Nat) (r : Req) (s : State) : Host.Outcome State Fault Refusal :=
  let s := s.tick dt
  match s.hartOf r with
  | none => .next s
  | some h =>
    let k := s.lastHull h
    let x := s.hull k
    let off := (s.hart h).arg0
    match firstFail [(x.state != 0 && x.secure == (s.hart h).normal, .denied), (x.state != 1, .badState), (x.size ≤ off, .badParam)] with
    | .ok =>
      let s := s.mHull k fun x =>
        { x with state := 2, start := off, m := sha384 (x.m ++ leBytes off 8 ++ leBytes (b2n x.debugOk) 8) }
      .next (s.hullResult h .ok)
    | st => .next (s.hullResult h st)

/-- A hart's slot in the save page of its hull: where it executes, then x1 to x31, 8 bytes each (R523; the layout is log entry 44). -/
def State.saveSlot (s : State) (k h : Nat) : Nat := (s.hull k).mem * 2 ^ 60 + (s.hull k).base + h * 512
def saveBytes (pc : Nat) (x : Tbl Nat) : Bytes := leBytes pc 8 ++ (List.range 31).flatMap fun i => leBytes (tget 0 x (i + 1)) 8
def State.savedPc (s : State) (k h : Nat) : Nat := leNat (readBytes s.mem (s.saveSlot k h) 8)
def State.savedX (s : State) (k h : Nat) : Tbl Nat :=
  (List.range 31).foldl (fun x i => tset 0 x (i + 1) (leNat (readBytes s.mem (s.saveSlot k h + 8 * (i + 1)) 8))) []

/-- The registers of a hart of which only x10 and x11 carry anything (R523). -/
def onlyArgs (x10 x11 : Nat) : Tbl Nat := tset 0 (tset 0 [] 10 x10) 11 x11

/-- HULL_ENTER: a hart starts at the entry offset with ARG1 and ARG2 in x10 and x11, or resumes from its slot (R523). `ret` is the
instruction after the ENTER. -/
def execHullEnter (dt : Nat) (r : Req) (ret : Nat) (s : State) : Host.Outcome State Fault Refusal :=
  let s := s.tick dt
  match s.hartOf r with
  | none => .next s
  | some h =>
    let t := s.hart h
    let k := t.arg0
    let x := s.hull k
    match firstFail [
        (t.hull.isSome || (k < 64 && x.state != 0 && x.secure == t.normal), .denied),
        (k < 64 && x.state != 2, .badState),
        (64 ≤ k, .badParam)] with
    | .ok =>
      let resume := bit t.arg1 0
      let pc := if resume then s.savedPc k h else x.start
      let regs := if resume then s.savedX k h else onlyArgs t.arg1 t.arg2
      .next ((s.mHart h fun t => { t with hull := some k, pc := pc, x := regs, ret := ret }).hullResult h .ok)
    | st => .next (s.hullResult h st)

/-- HULL_EXIT: the hart goes on after its ENTER, with every general register cleared but x10 and x11, whose values it leaves with
(R523). -/
def execHullExit (dt : Nat) (r : Req) (x10 x11 : Nat) (s : State) : Host.Outcome State Fault Refusal :=
  let s := s.tick dt
  match s.hartOf r with
  | none => .next s
  | some h =>
    match (s.hart h).hull with
    | some _ => .next ((s.mHart h fun t => { t with hull := none, pc := t.ret, x := onlyArgs x10 x11 }).hullResult h .ok)
    | none => .next (s.hullResult h .denied)

/-- HULL_ASYNC_EXIT: the hart's state, as it stands at the interrupt or trap, goes to its slot; its registers are cleared, and the trap
is delivered with cause HULL_EXIT; HULL_STATUS.CAUSE names the original cause (R523). -/
def execHullAsyncExit (dt h cause pc : Nat) (xs : List Nat) (s : State) : Host.Outcome State Fault Refusal :=
  let s := s.tick dt
  match (s.hart h).hull with
  | none => .next s
  | some k =>
    let regs := (List.range 31).foldl (fun x i => tset 0 x (i + 1) (xs.getD i 0)) []
    let s := s.pwrite (s.saveSlot k h) (saveBytes pc regs) 7 pfWin
    .next (s.mHart h fun t => { t with hull := none, x := [], trap := 2, status := setBits t.status 15 12 cause })

/-- The refusal of a WINDOW_OPEN (R520, R521). -/
def State.windowStatus (s : State) (h : Nat) : Status :=
  let t := s.hart h
  let k := t.hull.getD 0
  let x := s.hull k
  firstFail [
    (t.hull.isNone, .denied),
    (t.arg0 % 4096 != 0 || t.arg1 % 4096 != 0 || t.arg1 == 0 || x.size < t.arg0 + t.arg1 || bits t.arg2 17 16 == 3, .badParam),
    (8 ≤ (s.windowsOpen k).length || (s.freeEntry x.mem).isNone, .noResource)]

/-- HULL_WINDOW_OPEN: an entry admits requesters outside hulls to a part of the hull's range (R524). -/
def execHullWindowOpen (dt : Nat) (r : Req) (s : State) : Host.Outcome State Fault Refusal :=
  let s := s.tick dt
  match s.hartOf r with
  | none => .next s
  | some h =>
    let t := s.hart h
    let k := t.hull.getD 0
    let x := s.hull k
    match s.windowStatus h, s.freeEntry x.mem with
    | .ok, some e =>
      let rwx := bits t.arg2 1 0 * 2
      let s := s.setRc x.mem e
        { en := true, hullHeld := true, sRwx := if bit t.arg2 2 then rwx else 0, nRwx := if bit t.arg2 3 then rwx else 0,
          classes := bits t.arg2 15 8, hullSel := 1, hull := k, viSel := bits t.arg2 17 16, vi := bits t.arg2 47 32,
          limit := x.base + t.arg0 + t.arg1 - 1, base := x.base + t.arg0 }
      .next ((s.mHart h fun t => { t with status := setBits t.status 11 6 e }).hullResult h .ok)
    | st, _ => .next (s.hullResult h st)

/-- A window disabled for every request checked from now on; it stays held until the requests before it have completed (R524). -/
def State.closeWindow (s : State) (c e by_ : Nat) : State :=
  (s.setRc c e { s.rcEntry c e with en := false }).mWorlds fun w => { w with closing := tset 0 w.closing (c * 64 + e) by_ }

/-- HULL_WINDOW_CLOSE: the window is disabled at once, and the command is pending (R524). An entry that is no open window of the
caller's hull is refused with DENIED (log entry 44). -/
def execHullWindowClose (dt : Nat) (r : Req) (s : State) : Host.Outcome State Fault Refusal :=
  let s := s.tick dt
  match s.hartOf r with
  | none => .next s
  | some h =>
    match (s.hart h).hull with
    | none => .next (s.hullResult h .denied)
    | some k =>
      let e := (s.hart h).arg0
      let c := (s.hull k).mem
      match firstFail [(e < 64 && !(s.windowsOpen k).contains e, .denied), (64 ≤ e, .badParam)] with
      | .ok => .next ((s.closeWindow c e (h + 1)).hullResult h .pending)
      | st => .next (s.hullResult h st)

/-- WINDOW_CLOSE_DRAINED: the requests checked before a close have completed; the entry is free and the command completes (R524). -/
def execWindowCloseDrained (dt c e : Nat) (s : State) : Host.Outcome State Fault Refusal :=
  let s := s.tick dt
  match tget 0 s.worlds.closing (c * 64 + e) with
  | 0 => .next s
  | h + 1 =>
    let s := (s.setRc c e {}).mWorlds fun w => { w with closing := tset 0 w.closing (c * 64 + e) 0 }
    .next (s.hullResult h .ok)

/-- The 144 bytes of a report that its signature covers (R526). -/
def State.reportHead (s : State) (k : Nat) (user : Bytes) : Bytes :=
  let x := s.hull k
  x.m ++ (List.range 4).flatMap (fun i => leBytes (Config.devId i).toNat 4) ++ user ++ leBytes k 1 ++ leBytes (b2n x.debugOk) 1 ++ leBytes 0 2
    ++ leBytes (s.rd 0x00000004) 4 ++ leBytes 0 8

/-- HULL_REPORT: 240 bytes are written at the output offset (R526). -/
def execHullReport (dt : Nat) (r : Req) (s : State) : Host.Outcome State Fault Refusal :=
  let s := s.tick dt
  match s.hartOf r with
  | none => .next s
  | some h =>
    match (s.hart h).hull with
    | none => .next (s.hullResult h .denied)
    | some k =>
      let t := s.hart h
      let x := s.hull k
      if x.size < t.arg0 + 240 || x.size < t.arg1 + 64 then .next (s.hullResult h .badParam)
      else
        let a := x.mem * 2 ^ 60 + x.base
        let head := s.reportHead k (readBytes s.mem (a + t.arg1) 64)
        .next ((s.pwrite (a + t.arg0) (head ++ (Config.attestSign (sha384 head)).toList) 7 pfWin).hullResult h .ok)

/-- HULL_DESTROY: every window closes, and the range is being zeroed (R525). -/
def execHullDestroy (dt : Nat) (r : Req) (s : State) : Host.Outcome State Fault Refusal :=
  let s := s.tick dt
  match s.hartOf r with
  | none => .next s
  | some h =>
    let t := s.hart h
    let k := t.arg0
    let x := s.hull k
    match firstFail [
        (t.hull.isSome || (k < 64 && x.state != 0 && x.secure == t.normal), .denied),
        (k < 64 && (x.state == 0 || x.state == 3), .badState),
        (64 ≤ k, .badParam),
        (s.hartsIn k != [], .busy)] with
    | .ok =>
      let s := (s.windowsOpen k).foldl (fun s e => s.setRc x.mem e { s.rcEntry x.mem e with en := false }) s
      .next ((s.mHull k fun x => { x with state := 3, by_ := h }).hullResult h .pending)
    | st => .next (s.hullResult h st)

/-- HULL_DESTROY_DONE: the range reads zero, its entries are free, and the number is EMPTY (R525). -/
def execHullDestroyDone (dt k : Nat) (s : State) : Host.Outcome State Fault Refusal :=
  let s := s.tick dt
  let x := s.hull k
  if x.state ≠ 3 then .next s
  else
    let s := s.zeroRange x.mem x.base x.size
    let s := (s.windowsOf k).foldl (fun s e =>
      (s.setRc x.mem e {}).mWorlds fun w => { w with closing := tset 0 w.closing (x.mem * 64 + e) 0 }) s
    let s := s.setRc x.mem x.entry {}
    .next ((s.mHull k fun _ => {}).hullResult x.by_ .ok)

/-! ### Debug enables (R527 to R530) -/

/-- Fuse enables and token enables of worlds; PERM holds a world's off (R528). Bit 0 secure NI, 1 secure I, 2 normal NI, 3 normal I. -/
def State.dbgWorlds (s : State) : Nat :=
  let en := s.rf 0x00500020 3 0 ||| s.worlds.tokWorlds
  let of (perm i ni : Bool) : Nat := if perm then 0 else if i then 3 else b2n ni
  of (s.rb 0x00500020 7) (bit en 1) (bit en 0) + 4 * of (s.rb 0x00500020 6) (bit en 3) (bit en 2)

/-- The debug enables in force of a hull, non-invasive and invasive (R528). -/
def State.dbgHull (s : State) (k : Nat) : Bool × Bool :=
  let x := s.hull k
  if x.state = 0 || s.rb 0x00500020 (if x.secure then 7 else 6) || !x.debugOk then (false, false)
  else (bit s.worlds.tokI k || bit s.worlds.tokNi k, bit s.worlds.tokI k)

/-- The paths that reach the debug registers from outside the secure world: PF BAR0 and the IEEE 1149.7 port (R513, R530). -/
def dbgPath (r : Req) : Bool := match r.path with | .pf => true | .debug => true | _ => false

/-- The fields of a debug token (R529): its number and its bytes come from WORLD_DBG_TOKEN. -/
def State.token (s : State) : Nat := (List.range 48).foldl (fun n k => n + s.rd (0x00500100 + 4 * k) * 2 ^ (32 * k)) 0

/-- The refusal of a token (R529, R530). -/
def State.tokenStatus (s : State) : Status :=
  let n := s.token
  let b := leBytes n 192
  let key := bits n 63 48
  let pub := s.start.dbgKeys.getD key []
  let dev := (List.range 4).foldl (fun v i => v + (Config.devId i).toNat * 2 ^ (32 * i)) 0
  let nonce := (List.range 4).foldl (fun v i => v + s.rd (0x00500040 + 4 * i) * 2 ^ (32 * i)) 0
  let fused : Option (Vector Byte 48) := if key < 4 ∧ !s.rb 0x00500020 (8 + key) then Config.fusedKey key else none
  match fused with
  | none => firstFail [(bits n 31 0 != 0x4742445A || bits n 47 32 != 1 || bits n 767 512 != 0 || bits n 383 352 != 0 || bits n 351 324 != 0, .badParam), (true, .denied)]
  | some d =>
    firstFail [
      (bits n 31 0 != 0x4742445A || bits n 47 32 != 1 || bits n 767 512 != 0 || bits n 383 352 != 0 || bits n 351 324 != 0, .badParam),
      (bits n 191 64 != dev || bits n 319 192 != nonce, .denied),
      (sha384 pub != d.toList || !Config.ecdsaVerify pub (sha384 (b.take 96)) (b.drop 96), .badSignature)]

/-- `n` words from a key on take free values. -/
def State.freeWords (s : State) (k : Nat) : Nat → State
  | 0 => s
  | n + 1 =>
    let (v, t) := s.freeWord
    (t.wr k v.toNat).freeWords (k + 4) n

/-- DEBUG_TOKEN_SUBMIT: any requester of PF BAR0, or of the debug port, may submit. An accepted token adds its enables, the nonce is a
new random value, and the result is reported (R513, R530). -/
def execDebugTokenSubmit (dt : Nat) (r : Req) (s : State) : Host.Outcome State Fault Refusal :=
  let s := s.tick dt
  if pathWin r.path ≠ pfWin then .next s
  else if !s.reqSecure r && !dbgPath r then .next s.worldDenied
  else
    let st := s.tokenStatus
    let n := s.token
    let ok := st == .ok
    let s := s.wf 0x0050003C 22 16 st.code
    let s := if ok then
        (s.mWorlds fun w => { w with tokWorlds := w.tokWorlds ||| bits n 323 320, tokNi := w.tokNi ||| bits n 447 384, tokI := w.tokI ||| bits n 511 448 }).freeWords 0x00500040 4
      else s
    let d := (if ok then bits n 323 320 * 2 ^ 28 else 0) + bits n 63 48
    .next ((s.emit secWin 0x23 st 0 d).emitPf 0x23 st d)

/-- DEBUG_REVOKE: the secure world withdraws the token enables; a normal requester's write is ignored (R513, R530). -/
def execDebugRevoke (dt : Nat) (r : Req) (s : State) : Host.Outcome State Fault Refusal :=
  let s := s.tick dt
  match r.path with
  | .vi _ => .next s
  | _ => if s.reqSecure r then .next (s.mWorlds fun w => { w with tokWorlds := 0, tokNi := 0, tokI := 0 }) else .next s.worldDenied

/-! ### Claims (R531 to R534) -/

/-- A claim command: through PF BAR0, or through the window of a VF that is secure; in another window there is no register. A normal
requester's is ignored with DENIED (R513, R531). -/
def State.claimCmd (s : State) (r : Req) (u : Nat) (bad : Bool) (next : Nat) : State :=
  if s.reqSecure r then
    let st : Status := if s.row.unitCount ≤ u then .badParam else if bad then .badState else .ok
    let s := s.wf 0x00500204 22 16 st.code
    if st = .ok then s.mWorlds fun w => { w with claims := tset {} w.claims u ⟨next⟩ } else s
  else match r.path with
    | .vi _ => s
    | _ => s.worldDenied

/-- CLAIM_TAKE: NONE becomes HELD, unless the unit is already covered (R531). -/
def execClaimTake (dt : Nat) (r : Req) (u : Nat) (s : State) : Host.Outcome State Fault Refusal :=
  let s := s.tick dt
  .next (s.claimCmd r u (s.covered u) 1)

/-- CLAIM_RELEASE: HELD or LOST becomes NONE (R531). -/
def execClaimRelease (dt : Nat) (r : Req) (u : Nat) (s : State) : Host.Outcome State Fault Refusal :=
  let s := s.tick dt
  .next (s.claimCmd r u ((tget {} s.worlds.claims u).state == 0) 0)

/-- CLAIM_REARM: LOST becomes HELD (R531). -/
def execClaimRearm (dt : Nat) (r : Req) (u : Nat) (s : State) : Host.Outcome State Fault Refusal :=
  let s := s.tick dt
  .next (s.claimCmd r u ((tget {} s.worlds.claims u).state != 2) 1)

end Sys2Proof.Machine
end

