-- ==== Sys2Proof/Machine/Icvik.lean ====
section
/-!
DEFINITION. Icvik: ports and flits, nodes and their root, time, pod frame references, and imports (Icvik link and multi-device pods).
-/
namespace Sys2Proof.Machine

/-! ### The root and time (R631, R637 to R639) -/

/-- The device's root priority. -/
def State.myPrio (s : State) : Nat := s.rf 0x05000004 19 16

/-- The root of the system: the lowest (ROOT_PRIO, node) below priority 15; a device alone is its own (R631). -/
def State.rootNode (s : State) : Option Nat :=
  match s.joined with
  | [] => some s.myNode
  | js =>
    let all := ((s.myPrio, s.myNode) :: js.map fun n => ((s.node n).info.prio, n)).filter fun c => c.1 < 15
    match all with
    | [] => none
    | c :: r => some (r.foldl (fun b d => if d.1 < b.1 || (d.1 == b.1 && d.2 < b.2) then d else b) c).2

/-- A change of root is reported (R631). No root reads 0. -/
def State.rootSettle (s : State) (old : Option Nat) : State :=
  if s.rootNode = old then s else s.emitPf 0xC5 .ok (s.rootNode.getD 0)

/-- A TIME_STATE event with its reason and OFFSET (R639, R648). -/
def State.timeEvent (s : State) (why : Nat) : State := s.emitPf 0xC3 .ok (why * 2 ^ 24 + s.rf 0x05000024 15 0)

/-- The time parent: the port and hops of the route to the time root; none on the root, without a root, and without a route (R637). -/
def State.timeParent (s : State) : Option (Nat × Nat) :=
  match s.rootNode with
  | some r => if r = s.myNode then none else s.routeTo r
  | none => none

/-- ICVIK_TIME_STATUS after a change of root or routes: the time root is locked to nothing; a device without a parent, or more than 63 hops
away, is in holdover (R631, R637, R639). -/
def State.timeSettle (s : State) : State :=
  let k := 0x05000024
  if s.rootNode = some s.myNode then s.wr k (2 ^ 28 + s.rf k 15 0)
  else
    let was := s.rb k 30
    match s.timeParent with
    | some (p, h) =>
      if h ≤ 63 then s.wr k (s.rd k / 2 ^ 31 * 2 ^ 31 + b2n was * 2 ^ 30 + p * 2 ^ 22 + h * 2 ^ 16 + s.rf k 15 0)
      else
        let ovr := s.rb k 29
        let s := s.wr k (3 * 2 ^ 29 + p * 2 ^ 22 + 63 * 2 ^ 16 + s.rf k 15 0)
        if ovr then s else s.timeEvent 4
    | none =>
      let s := s.wr k (2 ^ 30 + s.rf k 15 0)
      if was then s else s.timeEvent 2

/-! ### Imports that are lost (R642 to R644) -/

/-- IMP_STATUS.STATE of an import, its VI and its source node. -/
def State.impState (s : State) (i : Nat) : Nat := s.rf (impReg i 0x14) 31 29
def State.impWin (s : State) (i : Nat) : Nat := s.rf (impReg i 0x10) 15 0
def State.impNode (s : State) (i : Nat) : Nat := bits (s.rd64 (impReg i 0)) 43 32

/-- An import, and the state with it changed. -/
def State.imp (s : State) (i : Nat) : ImportSt := tget {} s.net.imports i
def State.mImp (s : State) (i : Nat) (f : ImportSt → ImportSt) : State := s.mNet fun n => { n with imports := tmod {} n.imports i f }

/-- The range of an import is unmapped by the rule of R80, and what its reads returned is gone. -/
def State.impUnmap (s : State) (i : Nat) : State :=
  let a := 3 * 2 ^ 60 + i * 2 ^ 40
  (s.unmapChunks (s.impWin i) (s.rd64 (impReg i 8) / 2 ^ 21) (s.imp i).chunks).mNet fun n =>
    { n with arrived := tcut n.arrived a (a + 2 ^ 40), imports := tset {} n.imports i {} }

/-- An import becomes LOST (R644). -/
def State.impLost (s : State) (i : Nat) : State :=
  if s.impState i = 2 then
    let w := s.impWin i
    let s := (s.impUnmap i).wf (impReg i 0x14) 31 29 3
    s.emitPf 0xC4 .lost (w * 2 ^ 16 + i)
  else s

/-- The imports in the order in which they were opened (R644). -/
def State.impOrder (s : State) : List Nat :=
  let open_ := (List.range 64).filter fun i => s.impState i == 2
  (List.range s.net.opened).filterMap fun k => open_.find? fun i => (s.imp i).order == k + 1

/-- Imports of a node that has rejoined, or is lost (R644). -/
def State.impCheck (s : State) : State :=
  s.impOrder.foldl (fun s i =>
    let n := (s.node (s.impNode i)).info
    if n.state ≠ 1 ∨ n.joins ≠ (s.imp i).joins then s.impLost i else s) s

/-- Since when the source of each import has had no route (R643). -/
def State.impRoutes (s : State) : State :=
  s.impOrder.foldl (fun s i =>
    let gone := (s.routeTo (s.impNode i)).isNone
    s.mImp i fun t => { t with noRoute := if gone then some (t.noRoute.getD s.now) else none }) s

/-! ### Ports (R626 to R629) -/

/-- The state of a port: 0 DOWN, 1 TRAINING, 2 UP, 3 JOINED, 4 REFUSED (R646). -/
def State.icvState (s : State) (p : Nat) : Nat := s.rf (icvPort p 4) 31 29
def State.icvUp (s : State) (p : Nat) : Bool := 2 ≤ s.icvState p && s.icvState p ≤ 4

/-- A port that is up goes down: PORT_STATE is written, its link leaves the graph, and it trains again while it is enabled (R629). -/
def State.portDown (s : State) (p : Nat) : State :=
  if s.icvUp p then
    let me := s.myNode
    let old := s.rootNode
    let s := s.wr (icvPort p 4) (if s.rb (icvPort p 0) 31 then 2 ^ 29 else 0)
    let s := (s.sat (icvPort p 0x18) 1).wr (icvPort p 8) 0
    let s := s.mIcv p fun _ => {}
    let s := s.mNet fun n => { n with edges := n.edges.filter fun e => !((e.a == me && e.ap == p) || (e.b == me && e.bp == p)) }
    let s := s.emitPf 0xC0 .fault (p * 2 ^ 24)
    ((s.rootSettle old).timeSettle).impRoutes
  else s.wr (icvPort p 4) (if s.rb (icvPort p 0) 31 then 2 ^ 29 else 0)

/-- A write of an ICVIK register that a claim refuses, or that is not reachable (R646). -/
def State.icvResult (s : State) (st : Status) : State := s.wf 0x0500000C 22 16 st.code

/-- ICVIK_PORT_ENABLE: a write of ICVIK_PORT_CTRL; ENABLE starts training, and taking it away takes the port down (R629, R646). -/
def execIcvikPortEnable (dt : Nat) (r : Req) (p : Nat) (v : Word) (s : State) : Host.Outcome State Fault Refusal :=
  let s := s.tick dt
  match r.path with
  | .vi _ => .next s
  | _ =>
    if s.row.icvikPorts ≤ p ∨ s.rb 0x0500000C 0 then .next s
    else if s.claimedFor 0x82 p r then .next (s.icvResult .claimed)
    else
      let was := s.rb (icvPort p 0) 31
      let s := s.wr (icvPort p 0) (v.toNat &&& 0xF0000000)
      if bit v.toNat 31 then .next (if was then s else s.wr (icvPort p 4) (2 ^ 29)) else .next (if was then s.portDown p else s)

/-- Payload in 0.1 GB/s of a number of lanes (R626). -/
def lanePayload (n : Nat) : Nat := if n = 4 then 147 else if n = 2 then 73 else 36

/-- ICVIK_TRAINING_DONE: the port runs at the highest of 4, 2 and 1 lanes that works and MAX_LANES allows; with none it trains again
(R629). -/
def execIcvikTrainingDone (dt p lanes : Nat) (s : State) : Host.Outcome State Fault Refusal :=
  let s := s.tick dt
  let most := 2 ^ min 2 (s.rf (icvPort p 0) 29 28)
  let n := if 4 ≤ min lanes most then 4 else if 2 ≤ min lanes most then 2 else min 1 (min lanes most)
  if s.icvState p ≠ 1 ∨ n = 0 then .next s
  else
    let s := s.wr (icvPort p 4) (2 * 2 ^ 29 + n * 2 ^ 26 + lanePayload n)
    let s := s.mIcv p fun _ => { heardAt := s.now }
    .next (s.emitPf 0xC0 .ok (p * 2 ^ 24 + 2 ^ 16 + n * 2 ^ 8))

/-- ICVIK_PORT_TIMEOUT: no valid flit for 4 µs (R629). -/
def execIcvikPortTimeout (dt p : Nat) (s : State) : Host.Outcome State Fault Refusal :=
  let s := s.tick dt
  if s.icvUp p ∧ (s.icv p).heardAt + 4000 ≤ s.now then .next (s.portDown p) else .next s

/-- Flits up to an acknowledged SEQ leave the list of those to be replayed (R627). -/
def ackDrop (a : Nat) (l : List (Nat × Nat)) : List (Nat × Nat) :=
  if l.any fun c => c.1 == a then (l.dropWhile fun c => c.1 != a).drop 1 else l

/-- FLIT_RECEIVE: a flit whose CRC fails is discarded, and every flit after it until the replay; a good one is acknowledged and, if it is
for another node, forwarded. `nak` says that the other side asks for a replay (R627, R628, R632; log entry 47). -/
def execFlitReceive (dt p : Nat) (flit : Bytes) (nak : Bool) (s : State) : Host.Outcome State Fault Refusal :=
  let s := s.tick dt
  if !s.icvUp p then .next s
  else
    let f := leNat flit
    let good := crcResult 32 0xFFFFFFFF true (crcFeed 32 0x1EDC6F41 true 0xFFFFFFFF (flit.take 252)) == bits f 2047 2016
    let s :=
      if !good then s.mIcv p fun t => { t with discard := true }
      else
        let s := s.mIcv p fun t =>
          let left := ackDrop (bits f 2015 2000) t.unacked
          { t with heardAt := s.now, unacked := left, replays := t.replays.filter fun r => left.any fun c => c.1 == r.2 }
        if bits f 1999 1984 = (s.icv p).rxSeq then
          let s := s.mIcv p fun t => { t with rxSeq := (t.rxSeq + 1) % 2 ^ 16, discard := false }
          let dest := bits f 35 24
          if dest = s.myNode ∨ s.icvState p ≠ 3 then s else s.flitTo dest (bits f 55 52)
        else s.mIcv p fun t => { t with discard := true }
    if nak then
      let recent := (s.icv p).replays.filter fun t => s.now < t.1 + 1000000
      let s := s.sat (icvPort p 0x14) 1
      match (s.icv p).unacked.getLast? with
      | none => .next s
      | some c =>
        let s := s.mIcv p fun t => { t with replays := (s.now, c.1) :: recent }
        .next (if 8 ≤ recent.length + 1 then s.portDown p else s)
    else .next s

/-! ### Joining and leaving (R630 to R634) -/

/-- An entry of the pod directory changed; ICVIK_POD_GEN moves on (R634). -/
def State.dirSet (s : State) (n : Nat) (i : NodeInfo) : State := (s.mNode n fun t => { t with info := i }).incr 0x05000018

/-- A node joins: its join count moves on when it was not joined (R634). -/
def State.nodeJoin (s : State) (n : Nat) (i : NodeInfo) : State :=
  let was := (s.node n).info
  let s := s.dirSet n { i with state := 1, joins := if was.state = 1 then was.joins else (was.joins + 1) % 64 }
  s.mNode n fun t => { t with beatAt := s.now }

/-- A port reads REFUSED; NODE_JOIN is written with BAD_STATE once (R630). -/
def State.portRefuse (s : State) (p n : Nat) : State :=
  if s.icvState p = 4 then s else (s.wf (icvPort p 4) 31 29 4).emitPf 0xC1 .badState n

/-- The lowest node number free (R630). -/
def State.freeNode (s : State) : Option Nat := findFrom (fun n => n != s.myNode && (s.node n).info.state != 1) 4096 0

/-- Whether an identity matches a device already present: its number or its path (R630). -/
def State.nodeClash (s : State) (n path : Nat) : Bool :=
  path != 0 && path == s.rd64 0x05000010 || n == s.myNode
    || s.joined.any fun m => m == n || (path != 0 && (s.node m).info.path == path)

/-- No device of the system that a new one would join may be its root: all have ROOT_PRIO 15 (R631). -/
def State.rootless (s : State) (prio : Nat) : Bool := s.myPrio == 15 && prio == 15 && s.joined.all fun n => (s.node n).info.prio == 15

/-- A device with AUTO = 1 and no number yet waits for the root's, unless it would be the root itself (R630, R631). -/
def State.autoWaits (s : State) (h : Hello) : Bool :=
  s.rb 0x05000004 31 && s.net.given.isNone
    && !(s.myPrio < 15 && (s.myPrio < h.info.prio || (s.myPrio == h.info.prio && h.node != some 0)))

/-- A join is told: the entries of the nodes present and, from the root, the references go to the new node, and its entry to them (R634, R640). -/
def State.joinTell (s : State) (n : Nat) : State :=
  let s := (s.joined.filter (· != n)).foldl (fun s o =>
    (s.ctlSend o (.directory n (s.node n).info)).ctlSend n (.directory o (s.node o).info)) s
  if s.rootNode ≠ some s.myNode then s
  else
    (List.range 8).foldl (fun s k =>
      let v := tget (0, 0) s.display.podRefs k
      let s := if s.rb (podRef k 0x18) 30 then s.ctlSend n (.refs k v.1 v.2 s.now) else s
      match tget none s.net.refs k with
      | some (e, pd, at_) => s.ctlSend n (.refs k e pd at_)
      | none => s) s

/-- With no other device joined any more, a number the root gave is no longer held (R42, R630). -/
def State.leaveSettle (s : State) : State :=
  if s.joined.isEmpty && s.net.given.isSome then s.mNet fun n => { n with given := none, edges := [] } else s

/-- A device that is not refused at a port joins under node number `n`, or is met again (R630, R634). -/
def State.helloJoin (s : State) (p n : Nat) (h : Hello) (old : Option Nat) : State :=
  let fresh := s.icvState p != 3 || (s.node n).info.state != 1
  let s := (s.wr (icvPort p 8) (h.port * 2 ^ 30 + n)).wf (icvPort p 4) 31 29 3
  let e : PortEdge := ⟨s.myNode, p, n, h.port⟩
  let s := s.mNet fun t => { t with edges := if t.edges.contains e then t.edges else t.edges ++ [e] }
  let s := if fresh then ((s.nodeJoin n h.info).emitPf 0xC1 .ok n).joinTell n else s
  (((s.rootSettle old).timeSettle).impCheck).impRoutes

/-- HELLO: the device at a port joins, is refused, or is met again (R630, R631, R634). The number the root gives is taken with the join. -/
def execHello (dt p : Nat) (h : Hello) (s : State) : Host.Outcome State Fault Refusal :=
  let s := s.tick dt
  if !s.icvUp p then .next s
  else
    let old := s.rootNode
    let t := match h.give with
      | some g => if s.rb 0x05000004 31 then s.mNet fun n => { n with given := some g } else s
      | none => s
    let n? := match h.node with
      | some n => some n
      | none => if old = some s.myNode then s.freeNode else none
    if s.rootless h.info.prio && (h.node.isNone || (s.rb 0x05000004 31 && s.net.given.isNone)) then .next (s.portRefuse p 0)
    else if t.autoWaits h then .next s
    else
      match n? with
      | none => .next s
      | some n =>
        if !h.known && t.nodeClash n h.info.path then
          .next (if (s.node n).info.state = 1 ∨ n = s.myNode then s.portRefuse p n
                 else (s.dirSet n { h.info with state := 3, joins := (s.node n).info.joins }).portRefuse p n)
        else .next (t.helloJoin p n h old)

/-- BEAT: a beat of a node has arrived (R633). -/
def execBeat (dt n : Nat) (s : State) : Host.Outcome State Fault Refusal :=
  let s := s.tick dt
  .next (if (s.node n).info.state = 1 then s.mNode n fun t => { t with beatAt := s.now } else s)

/-- BEAT_SEND: a Husk sends a BEAT flit to every joined device (R633). A change of CHIP_DIR_GEN is told with it, within the 10 ms of R634. -/
def execBeatSend (dt : Nat) (s : State) : Host.Outcome State Fault Refusal :=
  let s := s.tick dt
  let s := s.joined.foldl (fun s n => s.flitTo n 2) s
  let gen := s.rd 0x104
  if s.joined.isEmpty || gen == s.net.toldGen then .next s
  else
    let me : NodeInfo := ⟨1, s.myPrio, 0, s.row.code, Config.chipRev.toNat / 2 ^ 16, gen, s.rd64 0x05000010⟩
    .next (s.joined.foldl (fun s n => s.ctlSend n (.directory s.myNode me)) (s.mNet fun n => { n with toldGen := gen }))

/-- NODE_LOST: no beat of a node for 10 ms; imports that name it are lost. The reason is partition where no route leads to it (R633,
R648). -/
def execNodeLost (dt n : Nat) (s : State) : Host.Outcome State Fault Refusal :=
  let s := s.tick dt
  let t := s.node n
  if t.info.state = 1 ∧ t.beatAt + 10000000 ≤ s.now then
    let old := s.rootNode
    let why := if (s.routeTo n).isSome then 1 else 2
    let s := (s.dirSet n { t.info with state := 2 }).emitPf 0xC2 .lost (why * 2 ^ 24 + n)
    .next (((s.leaveSettle.rootSettle old).timeSettle).impCheck)
  else .next s

/-- ROUTE_UPDATE: the port graph as it now stands. New routes are in force; imports whose reservation no longer fits, in the order in which
they were opened, become LOST (R632, R644). Reservations of other devices' ports are theirs, so `misfit` names the imports (log entry 47). -/
def execRouteUpdate (dt : Nat) (edges : List PortEdge) (misfit : List Nat) (s : State) : Host.Outcome State Fault Refusal :=
  let s := s.tick dt
  let s := s.mNet fun n => { n with edges := edges }
  let s := s.impOrder.foldl (fun s i => if misfit.contains i then s.impLost i else s) s
  .next (s.timeSettle.impRoutes)

/-! ### Time (R637 to R639) -/

/-- TIME_FLIT_SEND: each side of a port sends a TIME flit (R637). -/
def execTimeFlitSend (dt p : Nat) (s : State) : Host.Outcome State Fault Refusal :=
  let s := s.tick dt
  .next (if s.icvUp p then (s.flitOut p 1).mIcv p fun t => { t with timeSent := s.now } else s)

/-- A signed 16-bit reading that stops at its limits. -/
def sat16 (i : Int) : Nat := tobits 16 (clampI (-32768) 32767 i)

/-- TIME_FLIT: the peer received this device's last TIME flit at `got` and sent its own at `sent`, in its time: the link delay and the
offset follow. On the time parent's port an offset above 1 ms is corrected in one step; a smaller one is slewed, which the device times of
later commands show (R637, R639; log entry 47). -/
def execTimeFlit (dt p got sent : Nat) (s : State) : Host.Outcome State Fault Refusal :=
  let s := s.tick dt
  if !s.icvUp p then .next s
  else
    let a : Int := (s.icv p).timeSent
    let d : Int := s.now
    let delay := ((d - a) - ((sent : Int) - got)) / 2
    let off := (((got : Int) - a) + (sent - d)) / 2
    let s := s.wr (icvPort p 0x10) delay.toNat
    match s.timeParent with
    | some (q, h) =>
      if q ≠ p ∨ 63 < h then .next s
      else
        let k := 0x05000024
        let s := (s.wf k 15 0 (sat16 off)).wb k 30 false
        if 1000000 < off.natAbs then
          .next (({ s with now := tobits 64 ((s.now : Int) + off) } : State).wb k 31 false |>.timeEvent 3)
        else
          let locked := off.natAbs ≤ 20
          let was := s.rb k 31
          let s := s.wb k 31 locked
          .next (if locked && !was then s.timeEvent 1 else s)
    | none => .next s

/-! ### Pod frame references (R640) -/

/-- Whether a write of a reference is taken: only the root sets one (R640). -/
def State.refOpen (s : State) : Bool := s.rootNode == some s.myNode

/-- POD_REF_APPLY: the root sends the new values to every joined device (R640). -/
def execPodRefApply (dt : Nat) (r : Req) (k : Nat) (s : State) : Host.Outcome State Fault Refusal :=
  let s := s.tick dt
  match r.path with
  | .vi _ => .next s
  | _ =>
    let res (s : State) (st : Status) : State := s.wf (podRef k 0x18) 22 16 st.code
    let at_ := s.rd64 (podRef k 0x10)
    if !s.refOpen then .next (res s .badState)
    else if at_ < s.now + 10000000 then .next (res s .badParam)
    else
      let e := s.rd64 (podRef k 0)
      let pd := bits (s.rd64 (podRef k 8)) 47 0
      let s := s.mNet fun n => { n with refs := tset none n.refs k (some (e, pd, at_)) }
      .next (res (s.joined.foldl (fun s n => s.ctlSend n (.refs k e pd at_)) s) .ok)

/-- POD_REF_ACTIVATE: device time reaches POD_REF_AT, and the new values are in force (R640). -/
def execPodRefActivate (dt k : Nat) (s : State) : Host.Outcome State Fault Refusal :=
  let s := s.tick dt
  match tget none s.net.refs k with
  | some (e, pd, at_) =>
    if s.now < at_ then .next s
    else
      let s := s.mNet fun n => { n with refs := tset none n.refs k none }
      .next ((s.mDisplay fun d => { d with podRefs := tset (0, 0) d.podRefs k (e, pd) }).wb (podRef k 0x18) 30 true)
  | none => .next s

/-! ### Imports (R642, R643) -/

/-- The result of an import (R646). -/
def State.impResult (s : State) (i : Nat) (st : Status) : State := s.wf (impReg i 0x14) 22 16 st.code

/-- IMPORT_OPEN: IMP_CTRL is written with EN = 1: the import reads OPENING and IMP_SRC goes to the source node (R642). While EN is 1 the other
fields are not written, and RESULT reads BAD_STATE (R646). -/
def execImportOpen (dt : Nat) (r : Req) (i : Nat) (v : Word) (s : State) : Host.Outcome State Fault Refusal :=
  let s := s.tick dt
  match r.path with
  | .vi _ => .next s
  | _ =>
    let k := impReg i 0x10
    if s.rb k 31 then .next (if v.toNat &&& 0x0FFFFFFF = s.rd k &&& 0x0FFFFFFF then s else s.impResult i .badState)
    else
      let s := s.wr k (v.toNat &&& 0x8FFFFFFF)
      let s := s.wr (impReg i 0x14) (2 ^ 29)
      .next (s.ctlSend (s.impNode i) (.importReq i (s.rd64 (impReg i 0) % 2 ^ 32) (s.rf k 27 16)))

/-- IMPORT_OPEN_DONE: the request completes: the source's answer, the exported chunks, and whether BW fits every port of the route. The
first failure decides; on success the range is mapped as read-only remote chunks (R642). -/
def execImportOpenDone (dt i : Nat) (answer : Option Nat) (chunks : Nat) (room : Bool) (s : State) : Host.Outcome State Fault Refusal :=
  let s := s.tick dt
  if s.impState i ≠ 1 then .next s
  else
    let w := s.impWin i
    let d := s.rd64 (impReg i 8)
    let st : Status := match answer with
      | none => .timeout
      | some a =>
        firstFail [
          (bits (s.rd64 (impReg i 0)) 63 44 != 0 || (s.node (s.impNode i)).info.state != 1 || a == Status.badHandle.code, .badHandle),
          (a == Status.staleHandle.code, .staleHandle),
          (d % 2 ^ 21 != 0 || s.rangeMapped w (d / 2 ^ 21) chunks, .badGeometry),
          (!room, .noResource)]
    let s := s.mNet fun n => { n with outs := n.outs.filter fun o => match o.msg with | .importReq j _ _ => j != i | _ => true }
    match st with
    | .ok =>
      let s := s.mapChunks w 3 true (d / 2 ^ 21) ((List.range chunks).map (i * 2 ^ 19 + ·))
      let s := s.mNet fun n =>
        { n with opened := n.opened + 1, imports := tset {} n.imports i ⟨(s.node (s.impNode i)).info.joins, chunks, n.opened + 1, none⟩ }
      .next ((s.wr (impReg i 0x14) (2 * 2 ^ 29 + chunks)).impResult i .ok)
    | st => .next ((s.wr (impReg i 0x14) 0).impResult i st)

/-- IMPORT_CLOSE: EN is written 0: the range is unmapped, the reservations are released, and the import is OFF (R642). -/
def execImportClose (dt : Nat) (r : Req) (i : Nat) (v : Word) (s : State) : Host.Outcome State Fault Refusal :=
  let s := s.tick dt
  match r.path with
  | .vi _ => .next s
  | _ =>
    let k := impReg i 0x10
    if s.rb k 31 then
      let s := if s.impState i = 2 then (s.impUnmap i).ctlSend (s.impNode i) (.importEnd (s.rd64 (impReg i 0) % 2 ^ 32)) else s
      let same := v.toNat &&& 0x0FFFFFFF = s.rd k &&& 0x0FFFFFFF
      let s := (s.wr (impReg i 0x14) 0).wb k 31 false
      .next (if same then s else s.impResult i .badState)
    else .next (s.wr k (v.toNat &&& 0x0FFFFFFF))

/-- READ: a remote read of an exported channel is served at the source memory as class IO for the channel's owner, checked by the region
controller (R643). -/
def execIcvRead (dt src tag e off len : Nat) (s : State) : Host.Outcome State Fault Refusal :=
  let s := s.tick dt
  let h := handleOf (s.rd (expReg e 0))
  let c := s.chan h.kind h.index
  let m := tget {} s.seed.chans h.index
  if !s.rb (expReg e 4) 31 || s.rf (expReg e 4) 11 0 != src || h.kind != kMem || h.gen != s.gen h.kind h.index || c.phase != .live
      || m.count * 2 ^ 21 < off + len then
    .next (s.mNet fun n => { n with served := some (tag, none) })
  else
    let (b, s) := s.fetch c.owner 6 (m.daddr + off) len none
    .next ((s.flitTo src 4).mNet fun n => { n with served := some (tag, b) })

/-- PIXEL: a flit returns bytes of an import's range to the engine that reads there (R643). -/
def execIcvPixel (dt i off : Nat) (bs : Bytes) (s : State) : Host.Outcome State Fault Refusal :=
  let s := s.tick dt
  if s.impState i = 2 ∧ off + bs.length ≤ (s.imp i).chunks * 2 ^ 21 then
    let a := 3 * 2 ^ 60 + i * 2 ^ 40 + off
    .next (s.mNet fun n =>
      { n with arrived := (List.range bs.length).foldl (fun t k => tset none t (a + k) (some (bs.getD k 0))) n.arrived })
  else .next s

/-- NO_ROUTE_TIMEOUT: a reissued read of an import has found no route for 5 ms and faults (R76, R643). -/
def execNoRouteTimeout (dt i addr : Nat) (s : State) : Host.Outcome State Fault Refusal :=
  let s := s.tick dt
  match (s.imp i).noRoute with
  | some t => if s.impState i = 2 ∧ t + 5000000 ≤ s.now then .next (s.memFault (s.impWin i) addr) else .next s
  | none => .next s

/-! ### Remote access and messages sent again (R628, R635) -/

/-- The result of a remote access (R646). -/
def State.raccResult (s : State) (st : Status) (busy : Bool) : State := s.wr 0x0500003C (st.code * 2 ^ 16 + b2n busy)

/-- A remote access is asked for: a normal requester gets no secure one (R635). -/
def State.raccGo (s : State) (r : Req) (v : Nat) (write : Bool) : State :=
  match r.path with
  | .vi _ => s
  | _ =>
    if s.rb 0x0500003C 0 then s
    else if bit v 30 && !s.reqSecure r then s.raccResult .denied false
    else
      let s := (s.raccResult .pending true).mNet fun n => { n with racc := some (s.now, write) }
      s.ctlSend (bits v 11 0) (.raccReq (bit v 30) write (s.rd 0x05000030) (BitVec.ofNat 32 (s.rd 0x05000034)))

/-- RACC_READ (R635). -/
def execRaccRead (dt : Nat) (r : Req) (v : Word) (s : State) : Host.Outcome State Fault Refusal :=
  let s := s.tick dt
  .next (s.raccGo r v.toNat false)

/-- RACC_WRITE (R635). -/
def execRaccWrite (dt : Nat) (r : Req) (v : Word) (s : State) : Host.Outcome State Fault Refusal :=
  let s := s.tick dt
  .next (s.raccGo r v.toNat true)

/-- RACC_DONE: the target answers, or refuses with DENIED; without an answer 5 ms after the request the access reads TIMEOUT (R635). -/
def execRaccDone (dt : Nat) (answer : Option (Bool × Word)) (s : State) : Host.Outcome State Fault Refusal :=
  let s := s.tick dt
  match s.net.racc with
  | none => .next s
  | some (t, write) =>
    let clear (s : State) : State :=
      s.mNet fun n => { n with racc := none, outs := n.outs.filter fun o => match o.msg with | .raccReq .. => false | _ => true }
    match answer with
    | some (true, v) => .next (clear ((if write then s else s.wr 0x05000034 v.toNat).raccResult .ok false))
    | some (false, _) => .next (clear (s.raccResult .denied false))
    | none => if t + 5000000 ≤ s.now then .next (clear (s.raccResult .timeout false)) else .next s

/-- CONTROL_RETRY: a message not acknowledged within 1 ms is sent again, at most 3 times; then the request that caused it completes with
TIMEOUT (R628). -/
def execControlRetry (dt tag : Nat) (s : State) : Host.Outcome State Fault Refusal :=
  let s := s.tick dt
  match s.net.outs.find? fun o => o.tag == tag with
  | none => .next s
  | some o =>
    if s.now < o.at_ + 1000000 then .next s
    else if o.tries < 3 then
      .next ((s.flitTo o.dest 3).mNet fun n =>
        { n with outs := n.outs.map fun q => if q.tag = tag then { q with tries := q.tries + 1, at_ := s.now } else q })
    else
      let s := s.mNet fun n => { n with outs := n.outs.filter fun q => q.tag != tag }
      match o.msg with
      | .importReq i _ _ => .next (if s.impState i = 1 then (s.wr (impReg i 0x14) 0).impResult i .timeout else s)
      | .raccReq .. => .next (if s.net.racc.isSome then (s.raccResult .timeout false).mNet fun n => { n with racc := none } else s)
      | _ => .next s

/-- The answer of this device as the source of an import (R641, R642): a status code and the exported chunks. -/
def State.exportAnswer (s : State) (src handle : Nat) : Nat × Nat :=
  let h := handleOf handle
  let found := (List.range 64).any fun e =>
    let x := handleOf (s.rd (expReg e 0))
    s.rb (expReg e 4) 31 && s.rf (expReg e 4) 11 0 == src && x.kind == h.kind && x.index == h.index
  if !found || h.kind != kMem then (Status.badHandle.code, 0)
  else if h.gen ≠ s.gen kMem h.index then (Status.staleHandle.code, 0)
  else if (s.chan kMem h.index).phase = .live then (0, (tget {} s.seed.chans h.index).count)
  else (Status.badHandle.code, 0)

end Sys2Proof.Machine
end

