-- ==== Sys2Proof/Machine/Tsn.lean ====
section
/-!
DEFINITION. Tsn: the TSN Ethernet MACs: transmission, shaping and gates, reception, gPTP, the frame rings of the PF, and MDIO (Icvik link
and multi-device pods).
-/
namespace Sys2Proof.Machine

/-- The result of a refused write to a MAC (R661). -/
def State.tsnResult (s : State) (m : Nat) (st : Status) : State := s.wf (tsnReg m 8) 22 16 st.code

/-- A write of a MAC's registers: not from a VI's window, and refused while another world claims the MAC (R660). -/
def State.tsnReach (s : State) (r : Req) (m : Nat) : Bool × State :=
  match r.path with
  | .vi _ => (false, s)
  | _ => if s.claimedFor 0x81 m r then (false, s.tsnResult m .claimed) else (true, s)

/-! ### Rings (R655, R656) -/

/-- Registers of a ring of a MAC: its base, control and head, and its bits in TSN_RING_STATUS (R660). -/
def ringOff (rx : Bool) : Nat := if rx then 0x68 else 0x50
def tsnBase (m : Nat) (rx : Bool) : Nat := tsnReg m (ringOff rx)
def tsnCtrl (m : Nat) (rx : Bool) : Nat := tsnReg m (ringOff rx + 8)
def tsnHead (m : Nat) (rx : Bool) : Nat := tsnReg m (ringOff rx + 0xC)

/-- A TSN_RING event of a ring (R662). -/
def State.tsnRing (s : State) (m : Nat) (rx : Bool) (st : Status) : State :=
  let b := if rx then s.rf (tsnReg m 0x7C) 7 4 else s.rf (tsnReg m 0x7C) 3 0
  s.emitPf 0xCB st (m * 2 ^ 24 + b2n rx * 2 ^ 23 + b * 2 ^ 16 + s.rd (tsnHead m rx) % 2 ^ 16)

/-- A fault of a ring: bit `b` of RING_STATUS is set and reported (R655). -/
def State.tsnRingFault (s : State) (m : Nat) (rx : Bool) (b : Nat) : State :=
  (s.raise (tsnReg m 0x7C) (b + if rx then 4 else 0)).tsnRing m rx .fault

/-- The event of a head that has advanced, at most once per 10 µs per ring (R655): one that comes sooner waits. -/
def State.tsnAdvance (s : State) (m : Nat) (rx : Bool) : State :=
  let last := if rx then (s.mac m).rxEvt else (s.mac m).txEvt
  if last ≠ 0 ∧ s.now < last - 1 + 10000 then s.mMac m fun t => if rx then { t with rxOwed := true } else { t with txOwed := true }
  else
    (s.mMac m fun t => if rx then { t with rxEvt := s.now + 1, rxOwed := false } else { t with txEvt := s.now + 1, txOwed := false }).tsnRing m rx .ok

/-- The events that waited are written at the first command of the MAC after their 10 µs (R655; log entry 48). -/
def State.tsnOwed (s : State) (m : Nat) : State :=
  let s := if (s.mac m).txOwed then s.tsnAdvance m false else s
  if (s.mac m).rxOwed then s.tsnAdvance m true else s

/-- The address of descriptor k of a ring (R655). -/
def State.descAt (s : State) (m : Nat) (rx : Bool) (k : Nat) : Nat :=
  s.rd64 (tsnBase m rx) + k % 2 ^ s.rf (tsnCtrl m rx) 3 0 * 16

/-- A ring is disabled; its descriptors not yet done are abandoned. -/
def State.tsnRingOff (s : State) (m : Nat) (rx : Bool) : State :=
  let s := s.wb (tsnCtrl m rx) 31 false
  if rx then s else s.mMac m fun t => { t with txq := [], done := [] }

/-- TSN_RING_ENABLE: a write of TSN_TXR_CTRL or TSN_RXR_CTRL, by the rules of ring enabling with LOG2 4 to 12 (R53, R655). -/
def execTsnRingEnable (dt : Nat) (r : Req) (m : Nat) (rx : Bool) (v : Word) (s : State) : Host.Outcome State Fault Refusal :=
  let s := s.tick dt
  let (go, s) := s.tsnReach r m
  if !go then .next s
  else
    let k := tsnCtrl m rx
    let on := s.rb k 31
    if bit v.toNat 31 then
      if on then .next s
      else
        let s := s.wr k (bits v.toNat 3 0)
        let l := bits v.toNat 3 0
        if 4 ≤ l ∧ l ≤ 12 ∧ s.rd64 (tsnBase m rx) % max 4096 (2 ^ l * 16) = 0 then
          let s := (s.wb k 31 true).wr (tsnHead m rx) 0
          .next (s.mMac m fun t => if rx then { t with rxTail := 0 } else { t with txTail := 0, txNext := 0, txq := [], done := [] })
        else .next (s.tsnRingFault m rx 3)
    else .next (if on then s.tsnRingOff m rx else s.wr k (bits v.toNat 3 0))

/-- A doorbell of a ring: the free-running count of descriptors (R54, R655). -/
def State.tsnDoorbell (s : State) (m : Nat) (rx : Bool) (v : Nat) : State :=
  if !s.rb (tsnCtrl m rx) 31 then s
  else
    let d := (v + 2 ^ 32 - s.rd (tsnHead m rx)) % 2 ^ 32
    if d ≤ 2 ^ s.rf (tsnCtrl m rx) 3 0 then s.mMac m fun t => if rx then { t with rxTail := v } else { t with txTail := v }
    else s.tsnRingFault m rx (if d < 2 ^ 31 then 0 else 1)

/-- TSN_TXR_DOORBELL (R655). -/
def execTsnTxrDoorbell (dt : Nat) (r : Req) (m : Nat) (v : Word) (s : State) : Host.Outcome State Fault Refusal :=
  let s := (s.tick dt).tsnOwed m
  let (go, s) := s.tsnReach r m
  .next (if go then s.tsnDoorbell m false v.toNat else s)

/-- TSN_RXR_DOORBELL (R655). -/
def execTsnRxrDoorbell (dt : Nat) (r : Req) (m : Nat) (v : Word) (s : State) : Host.Outcome State Fault Refusal :=
  let s := (s.tick dt).tsnOwed m
  let (go, s) := s.tsnReach r m
  .next (if go then s.tsnDoorbell m true v.toNat else s)

/-- A descriptor finished: written back with its time stamp when it asks for one, its status and DONE; the head passes it once every
descriptor before it is done (R655, R656). -/
def State.txFinish (s : State) (m k d : Nat) (st : Status) (t : Nat) : State :=
  let d := if bit d 27 then setBits d 127 64 t else d
  let s := (s.store pfWin 6 (s.descAt m false k) (leBytes (setBits (setBits d 7 1 st.code) 0 0 1) 16)).2
  let s := s.mMac m fun q => { q with txq := q.txq.filter fun c => c.1 != k, done := q.done ++ [k] }
  let run := (List.range 4096).foldl (fun n _ => if (s.mac m).done.contains (n % 2 ^ 32) then n + 1 else n) (s.rd (tsnHead m false))
  if run = s.rd (tsnHead m false) then s
  else
    let from_ := s.rd (tsnHead m false)
    let s := s.mMac m fun q => { q with done := q.done.filter fun j => !((List.range (run - from_)).any fun i => (from_ + i) % 2 ^ 32 == j) }
    (s.wr (tsnHead m false) (run % 2 ^ 32)).tsnAdvance m false

/-- Descriptors up to the tail read from the ring. A read that faults disables the ring; a LEN out of range or a reserved bit finishes the
descriptor with BAD_PARAM (R57, R655, R656). -/
def State.txLoad (s : State) (m : Nat) (hosts : List HostRun) : Nat → State
  | 0 => s
  | n + 1 =>
    let t := s.mac m
    if !s.rb (tsnCtrl m false) 31 || t.txNext = t.txTail then s
    else
      let (b, s) := s.load pfWin 6 hosts (s.descAt m false t.txNext) 16
      match b with
      | none => (s.wb (tsnCtrl m false) 31 false).tsnRingFault m false 2
      | some b =>
        let d := leNat b
        let k := t.txNext
        let s := s.mMac m fun q => { q with txNext := (q.txNext + 1) % 2 ^ 32 }
        let len := bits d 63 48
        let s :=
          if len < 14 || 1518 < len || bits d 47 44 != 0 || bits d 26 8 != 0 then s.txFinish m k d .badParam (s.gptp m)
          else s.mMac m fun q => { q with txq := q.txq ++ [(k, d)] }
        s.txLoad m hosts n

/-! ### Gates (R652) -/

/-- The runs of one cycle: where each ends, and its gates. The entry in progress at the end of the cycle is cut short; when the intervals add
up to less, the last entry goes on. -/
def gateRuns (cycle : Nat) : Nat → List Nat → List (Nat × Nat)
  | _, [] => []
  | at_, [e] => if at_ < cycle then [(cycle, bits e 31 24)] else []
  | at_, e :: r => if at_ < cycle then (min cycle (at_ + bits e 23 0), bits e 31 24) :: gateRuns cycle (at_ + bits e 23 0) r else []

/-- How long from a place in the cycle a class's gate stays open; `none` when it never closes. -/
def gateLeft (g : GateList) (pos c : Nat) : Option Nat :=
  let runs := gateRuns g.cycle 0 g.entries
  let starts := (0 :: runs.map (·.1)).zip runs
  let closing := starts.filterMap fun x =>
    if bit x.2.2 c then none else some (if pos < x.1 then x.1 - pos else x.1 + g.cycle - pos)
  closing.foldl (fun b t => match b with | none => some t | some u => some (min t u)) none

/-- Whether a transmission of `ns` of a class ends before its gate closes (R652). -/
def State.gateFits (s : State) (m c ns : Nat) : Bool :=
  match (s.mac m).oper with
  | none => true
  | some g => match gateLeft g ((s.gptp m - (s.mac m).cycleAt) % max 1 g.cycle) c with | none => true | some left => ns ≤ left

/-- The words of the administrative gate list (R660). -/
def gclWord (o : Nat) : Bool := (0x28 ≤ o && o < 0x34) || (0x400 ≤ o && o < 0x500)

/-- While PENDING reads 1 a write of the administrative list is ignored, and RESULT reads BUSY (R652). -/
def State.gclBusy (s : State) (m : Nat) : State := s.wf (tsnReg m 0x20) 22 16 Status.busy.code

/-- A write of TSN_PTP_CTRL: without ENABLE no gPTP runs, and gPTP time is device time (R653, R654). -/
def State.ptpCtrl (s : State) (m : Nat) : State :=
  if s.rb (tsnReg m 0x34) 31 then s
  else ((s.wr (tsnReg m 0x38) 0).wr64 (tsnReg m 0x40) 0).mMac m fun t => { t with found := false, gptp := [] }

/-- GCL_APPLY: the administrative list is checked and copied; it runs from the first BASE + n × CYCLE at least 1 ms ahead (R652). -/
def execGclApply (dt : Nat) (r : Req) (m : Nat) (s : State) : Host.Outcome State Fault Refusal :=
  let s := s.tick dt
  let (go, s) := s.tsnReach r m
  if !go then .next s
  else
    let k := tsnReg m 0x20
    let len := s.rf k 6 0
    let cycle := s.rd (tsnReg m 0x30)
    let es := (List.range len).map fun e => s.rd (tsnReg m (0x400 + e * 4))
    match firstFail [
        (s.rb k 30, .busy),
        (len < 1 || 64 < len || cycle < 1000 || 1000000000 < cycle || es.any fun e => bits e 23 0 < 100, .badParam)] with
    | .ok =>
      let base := s.rd64 (tsnReg m 0x28)
      let soon := s.gptp m + 1000000
      let at_ := if soon ≤ base then base else base + cdiv (soon - base) cycle * cycle
      .next (((s.mMac m fun t => { t with next := some ⟨es, cycle, at_⟩ }).wb k 30 true).wf k 22 16 0)
    | st => .next (s.wf k 22 16 st.code)

/-- TSN_GCL_SWITCH: at its cycle start the pending list becomes operational (R652). -/
def execTsnGclSwitch (dt m : Nat) (s : State) : Host.Outcome State Fault Refusal :=
  let s := s.tick dt
  match (s.mac m).next with
  | none => .next s
  | some g =>
    if s.gptp m < g.at_ then .next s
    else
      let s := s.creditTick m
      let s := s.mMac m fun t => { t with next := none, oper := some g, entry := 0, cycleAt := g.at_, gates := bits (g.entries.headD 0) 31 24 }
      let s := (s.wb (tsnReg m 0x20) 30 false).wb (tsnReg m 0x20) 29 true
      .next (s.emitPf 0xCA .ok (m * 2 ^ 24 + g.entries.length))

/-- GATE_CONTROL_ENTRY: the operational list moves to its next entry, or to its next cycle when the cycle has ended (R652). -/
def execGateControlEntry (dt m : Nat) (s : State) : Host.Outcome State Fault Refusal :=
  let s := (s.tick dt).tsnOwed m
  match (s.mac m).oper with
  | none => .next s
  | some g =>
    let s := s.creditTick m
    let t := s.mac m
    let wrap := t.cycleAt + g.cycle ≤ s.gptp m
    let e := if wrap then 0 else min (t.entry + 1) (g.entries.length - 1)
    .next (s.mMac m fun t =>
      { t with entry := e, gates := bits (g.entries.getD e 0) 31 24, cycleAt := if wrap then t.cycleAt + g.cycle else t.cycleAt })

/-! ### Transmission (R650, R651, R656, R658) -/

/-- A frame that is ready: of the gPTP engine, of a talker, or of the transmit ring. -/
inductive TxFrame where
  | gptp (b : Bytes)
  | talker (i : Nat)
  | ring (k d : Nat)
  deriving DecidableEq, Repr, Inhabited

/-- The frame of a class that leaves next (R650). -/
def State.txNextOf (s : State) (m c : Nat) : Option TxFrame :=
  let t := s.mac m
  match (if c = 7 then t.gptp.head? else none), (if c = 3 || c = 2 then (s.talkersReady m c).head? else none),
      t.txq.find? (fun d => descTc d.2 == c) with
  | some b, _, _ => some (.gptp b)
  | none, some i, _ => some (.talker i)
  | none, none, some d => some (.ring d.1 d.2)
  | none, none, none => none

/-- The bytes a frame takes on the port, FCS included: at least 64; an AAF packet has 18 bytes of Ethernet header with its tag and 24 of
stream header (R650, R656; log entry 48). -/
def State.txLen (s : State) : TxFrame → Nat
  | .gptp b => max 60 b.length + 4
  | .talker i =>
    let p := (tget [] s.audio.packets i).headD {}
    max 60 (42 + p.frames.foldl (fun n f => n + f.length) 0 * (wordBits (bits (s.talkerCtrl i) 29 28) / 8)) + 4
  | .ring _ d => max 60 (bits d 63 48 + if bit d 31 then 4 else 0) + 4

/-- The time a number of bytes takes at the rate in force, in ns (log entry 48). -/
def State.txTime (s : State) (m n : Nat) : Nat := cdiv (n * 8000) (s.macRate m)

/-- Whether the class's credit allows it to send (R651). -/
def State.creditOk (s : State) (m c : Nat) : Bool :=
  if (c = 3 || c = 2) && s.idleSlope m c != 0 then decide (0 ≤ if c = 3 then (s.mac m).creditA else (s.mac m).creditB) else true

/-- The classes looked at from the highest down: the frame to send, and the classes whose frame the guard band holds (R650, R652). -/
def State.txPick (s : State) (m : Nat) : List Nat → List Nat → Option (Nat × TxFrame) × List Nat
  | [], held => (none, held)
  | c :: r, held =>
    match s.txNextOf m c with
    | none => s.txPick m r held
    | some f =>
      if !bit (s.mac m).gates c || !s.creditOk m c then s.txPick m r held
      else if s.gateFits m c (s.txTime m (s.txLen f)) then (some (c, f), held)
      else s.txPick m r (held ++ [c])

/-- A frame padded to 60 bytes, with its FCS (R656). -/
def withFcs (b : Bytes) : Bytes :=
  let b := b ++ List.replicate (60 - b.length) 0
  b ++ leBytes (crc32 b) 4

/-- The 802.1Q tag put in after the addresses (R656). -/
def withTag (b : Bytes) (pcp vid : Nat) : Bytes :=
  let t := pcp * 2 ^ 13 + vid
  b.take 12 ++ [0x81, 0x00, BitVec.ofNat 8 (t / 256), BitVec.ofNat 8 t] ++ b.drop 12

/-- The check of a talker frame before it leaves: the field a spoof drop names, if it fails one (R490, R658). -/
def State.talkerSpoof (s : State) (i : Nat) (p : AvtpPkt) : Option (Nat × Nat) :=
  match p.vi with
  | none => none
  | some v =>
    if !bit (s.rd64 (viReg v 0x28)) i then some (v, 8)
    else if p.src ≠ bits (s.rd64 (viReg v 0x20)) 47 0 then some (v, 7)
    else if p.id ≠ s.rd64 (0x03004800 + i * 0x20) then some (v, 9)
    else none

/-- A frame leaves, or its descriptor or packet ends without one. -/
def State.txSend (s : State) (m : Nat) (hosts : List HostRun) (c : Nat) (f : TxFrame) : State :=
  let at_ := s.gptp m
  let gone (s : State) (b : Bytes) : State :=
    let cost : Int := s.macRate m * 1000 * s.txTime m (s.txLen f)
    let s := (s.incr64 (tsnReg m 0x90) 1).mMac m fun t => { t with sent := b, held := t.held.filter (· != c) }
    s.mMac m fun t => if c = 3 then { t with creditA := t.creditA - cost } else if c = 2 then { t with creditB := t.creditB - cost } else t
  match f with
  | .gptp b => gone (s.mMac m fun t => { t with gptp := t.gptp.drop 1 }) (withFcs b)
  | .talker i =>
    let p := (tget [] s.audio.packets i).headD {}
    let drop (s : State) : State := s.mAudio fun a => { a with packets := tset [] a.packets i ((tget [] a.packets i).drop 1) }
    match s.talkerSpoof i p with
    | some (v, field) => ((drop s).sat (tsnReg m 0xA4) 1).spoofDrop v field
    | none => drop (gone s [])
  | .ring k d =>
    let (b, s) := s.load pfWin 6 hosts (bits d 127 64) (bits d 63 48)
    match b with
    | none => s.txFinish m k d .fault at_
    | some b => (gone s (withFcs (if bit d 31 then withTag b (descTc d) (bits d 43 32) else b))).txFinish m k d .ok at_

/-- TSN_FRAME_TX: at a frame boundary the MAC sends from the highest eligible class; each frame the guard band holds counts once (R650 to
R652). While the link is down nothing leaves (R659). -/
def execTsnFrameTx (dt m : Nat) (hosts : List HostRun) (s : State) : Host.Outcome State Fault Refusal :=
  let s := (s.tickMem dt hosts).tsnOwed m
  if !s.rb (tsnReg m 8) 31 then .next s
  else
    let s := (s.creditTick m).txLoad m hosts 4096
    let (f, held) := s.txPick m [7, 6, 5, 4, 3, 2, 1, 0] []
    let new := held.filter fun c => !(s.mac m).held.contains c
    let s := (s.sat (tsnReg m 0xA8) new.length).mMac m fun t => { t with held := t.held ++ new }
    match f with
    | some (c, f) => .next (s.txSend m hosts c f)
    | none => .next s

/-! ### gPTP (R653, R654) -/

/-- The three fields whose change is reported: AS_CAPABLE, ROLE, HOLDOVER. -/
def State.ptpEvent (s : State) (m old : Nat) : State :=
  let v := s.rf (tsnReg m 0x38) 31 28
  if v = old then s else s.emitPf 0xC9 .ok (m * 2 ^ 24 + v * 2 ^ 20)

/-- What the engine finds is shown; on the time root whose SRC names the MAC, device time follows the grandmaster (R638, R653, R654). -/
def State.ptpTake (s : State) (m : Nat) (q : PtpIn) : State :=
  if !s.rb (tsnReg m 0x34) 31 then s
  else
    let old := s.rf (tsnReg m 0x38) 31 28
    let role := if q.role % 4 = 3 && !s.rb (tsnReg m 0x34) 30 then 1 else q.role % 4
    let s := s.wr (tsnReg m 0x38) (b2n q.asCapable * 2 ^ 31 + role * 2 ^ 29 + b2n (s.rb (tsnReg m 0x38) 28 && !q.sync) * 2 ^ 28)
    let s := s.wr (tsnReg m 0x48) q.delay
    let s :=
      if !q.sync then s
      else
        let s := s.mMac m fun t => { t with found := true }
        let off := sext 64 q.offset
        if s.rootNode = some s.myNode ∧ s.rf 0x05000020 31 30 = m + 1 ∧ 1000000 < off.natAbs then
          (({ s with now := tobits 64 ((s.now : Int) + off) } : State).wr64 (tsnReg m 0x40) 0).timeEvent 3
        else s.wr64 (tsnReg m 0x40) q.offset
    let s := if role = 3 then s.wr64 (tsnReg m 0x40) 0 else s
    s.ptpEvent m old

/-- PTP_SYNC_LOSS: no sync for 3 sync intervals; the port keeps its last rate (R653). -/
def execPtpSyncLoss (dt m : Nat) (s : State) : Host.Outcome State Fault Refusal :=
  let s := (s.tick dt).tsnOwed m
  if s.rb (tsnReg m 0x34) 31 then
    let old := s.rf (tsnReg m 0x38) 31 28
    .next ((s.wb (tsnReg m 0x38) 28 true).ptpEvent m old)
  else .next s

/-- PTP_INTERVAL: an interval of the engine elapses; it queues its message in traffic class 7, and may change its state (R650, R653). -/
def execPtpInterval (dt m : Nat) (msg : Bytes) (ptp : Option PtpIn) (s : State) : Host.Outcome State Fault Refusal :=
  let s := (s.tick dt).tsnOwed m
  if s.rb (tsnReg m 0x34) 31 && s.rb (tsnReg m 8) 31 then
    let s := s.mMac m fun t => { t with gptp := t.gptp ++ [msg] }
    .next (match ptp with | some q => s.ptpTake m q | none => s)
  else .next s

/-- PPS_PULSE: ETHm_PPS rises for 10 ms while the MAC is enabled (R649). -/
def execPpsPulse (dt m : Nat) (s : State) : Host.Outcome State Fault Refusal :=
  let s := (s.tick dt).tsnOwed m
  .next (if s.rb (tsnReg m 4) 31 then s.mMac m fun t => { t with pps := some (s.now + 10000000) } else s)

/-! ### Reception (R657) -/

/-- The EtherType of a frame, behind its tag where it has one. -/
def etherType (b : Bytes) : Nat :=
  let at_ (i : Nat) : Nat := (b.getD i 0).toNat * 256 + (b.getD (i + 1) 0).toNat
  if at_ 12 = 0x8100 then at_ 16 else at_ 12

/-- The destination address of a frame, its first byte highest. -/
def etherDest (b : Bytes) : Nat := (b.take 6).foldl (fun n x => n * 256 + x.toNat) 0

/-- Whether the PF receives frames to an address (R657). -/
def State.pfTakes (s : State) (m a : Nat) : Bool :=
  a == bits (s.rd64 (tsnReg m 0x10)) 47 0 || a == 2 ^ 48 - 1
    || (List.range 32).any fun k => (let e := s.rd64 (tsnReg m (0x100 + k * 8)); bit e 63 && bits e 47 0 == a)

/-- A frame for the PF is stored in the buffer of the next descriptor (R656, R657). -/
def State.rxStore (s : State) (m : Nat) (hosts : List HostRun) (b : Bytes) : State :=
  let t := s.mac m
  let k := s.rd (tsnHead m true)
  if !s.rb (tsnCtrl m true) 31 || t.rxTail = k then s.rcCount (tsnReg m 0xA0) 1
  else
    let (d, s) := s.load pfWin 6 hosts (s.descAt m true k) 16
    match d with
    | none => (s.wb (tsnCtrl m true) 31 false).tsnRingFault m true 2
    | some d =>
      let at_ := s.gptp m
      let (ok, s) := s.store pfWin 6 (bits (leNat d) 127 64) b
      let w := at_ * 2 ^ 64 + b.length * 2 ^ 48 + (if ok then 0 else Status.fault.code) * 2 + 1
      let s := (s.store pfWin 6 (s.descAt m true k) (leBytes w 16)).2
      (s.wr (tsnHead m true) (k + 1)).tsnAdvance m true

/-- The listener a stream goes to: enabled, on this MAC, with its stream ID (R396, R657). -/
def State.listenerOf (s : State) (m id : Nat) : Option Nat :=
  (List.range 64).find? fun i => s.rb (avtpRx i 8) 31 && s.rf (avtpRx i 8) 23 22 == m && s.rd64 (avtpRx i 0) == id

/-- TSN_FRAME_RX: a received frame is routed by the first row of R657 that matches. -/
def execTsnFrameRx (dt m : Nat) (frame : Bytes) (ptp : Option PtpIn) (avtp : Option AvtpIn) (hosts : List HostRun) (s : State) :
    Host.Outcome State Fault Refusal :=
  let s := (s.tickMem dt hosts).tsnOwed m
  if !s.rb (tsnReg m 8) 31 then .next s
  else
    let b := frame.take (frame.length - 4)
    let good := leNat (frame.drop (frame.length - 4)) == crc32 b
    let s := if good then s.incr64 (tsnReg m 0x98) 1 else s
    if !good || 1522 < frame.length then .next (s.rcCount (tsnReg m 0xA0) 1)
    else if etherType b = 0x88F7 then .next (match ptp with | some q => s.ptpTake m q | none => s)
    else
      let l := match avtp with | some a => if etherType b = 0x22F0 then s.listenerOf m a.id else none | none => none
      match l, avtp with
      | some i, some a =>
        let off := s.rd64 (tsnReg m 0x40)
        .next (s.avtpReceive i { time := (a.time + 2 ^ 64 - off) % 2 ^ 64, frames := a.frames } a.period)
      | _, _ => if s.pfTakes m (etherDest b) then .next (s.rxStore m hosts b) else .next (s.rcCount (tsnReg m 0xA0) 1)

/-! ### Link, enable and MDIO (R659, R661) -/

/-- A link up or down is shown and reported; with the link down gPTP enters holdover (R653, R659). -/
def State.tsnLink (s : State) (m : Nat) (up : Bool) (rate : Nat) : State :=
  let k := tsnReg m 8
  if s.rb k 31 = up then (if up then s.wf k 30 28 rate else s)
  else
    let s := (s.wb k 31 up).wf k 30 28 (if up then rate else 0)
    let s := s.emitPf 0xC8 (if up then .ok else .fault) (m * 2 ^ 24 + b2n up * 2 ^ 16 + (if up then rate else 0) * 2 ^ 8)
    let s := if up then s else s.mAudio fun a => { a with packets := a.packets.filter fun c => s.talkerMac c.1 != m }
    if up || !s.rb (tsnReg m 0x34) 31 then s
    else
      let old := s.rf (tsnReg m 0x38) 31 28
      (s.wb (tsnReg m 0x38) 28 true).ptpEvent m old

/-- The MAC faults, is reset, or is disabled: its rings are disabled, every gate is open, and gPTP starts again (R659). -/
def State.tsnDown (s : State) (m : Nat) : State :=
  let old := s.rf (tsnReg m 0x38) 31 28
  let s := (s.tsnRingOff m true).tsnRingOff m false
  let s := s.mMac m fun t => { t with oper := none, entry := 0, gates := 0xFF, gptp := [], held := [], found := false, pps := none }
  let s := s.mAudio fun a => { a with packets := a.packets.filter fun c => s.talkerMac c.1 != m }
  let s := ((s.wb (tsnReg m 0x20) 29 false).wr (tsnReg m 0x38) 0).wr64 (tsnReg m 0x40) 0
  s.ptpEvent m old

/-- TSN_ENABLE: a write of TSN_CTRL. ENABLE = 0 also takes the port down (R659, R661). -/
def execTsnEnable (dt : Nat) (r : Req) (m : Nat) (v : Word) (s : State) : Host.Outcome State Fault Refusal :=
  let s := s.tick dt
  let (go, s) := s.tsnReach r m
  if !go then .next s
  else if 4 < bits v.toNat 30 28 then .next (s.tsnResult m .badParam)
  else
    let was := s.rb (tsnReg m 4) 31
    let s := s.wr (tsnReg m 4) (v.toNat &&& 0xF0000000)
    .next (if was && !bit v.toNat 31 then (s.tsnDown m).tsnLink m false 0 else s)

/-- TSN_LINK: auto-negotiation reports the link, at a rate up to MAX_RATE (R649, R659). -/
def execTsnLink (dt m : Nat) (up : Bool) (rate : Nat) (s : State) : Host.Outcome State Fault Refusal :=
  let s := s.tick dt
  .next (if s.rb (tsnReg m 4) 31 then s.tsnLink m up (min rate (s.rf (tsnReg m 4) 30 28)) else s)

/-- TSN_MDIO_CMD: an MDIO request; while one runs writes are ignored (R661). -/
def execTsnMdioCmd (dt : Nat) (r : Req) (m : Nat) (v : Word) (s : State) : Host.Outcome State Fault Refusal :=
  let s := s.tick dt
  let (go, s) := s.tsnReach r m
  let k := tsnReg m 0x84
  if !go || s.rb k 31 then .next s
  else if 4 < bits v.toNat 31 29 then .next (s.wf k 22 16 Status.badParam.code)
  else .next ((s.mMac m fun t => { t with mdio := v.toNat }).wr k (2 ^ 31 + Status.pending.code * 2 ^ 16 + s.rf k 15 0))

/-- MDIO_DONE: the request completes; a read loads DATA (R661). -/
def execMdioDone (dt m data : Nat) (s : State) : Host.Outcome State Fault Refusal :=
  let s := (s.tick dt).tsnOwed m
  let k := tsnReg m 0x84
  if s.rb k 31 then
    let op := bits (s.mac m).mdio 31 29
    .next (s.wr k (if op = 1 ∨ op = 4 then data % 2 ^ 16 else s.rf k 15 0))
  else .next s

end Sys2Proof.Machine
end

