-- ==== Sys2Proof/Machine/Recorder.lean ====
section
/-!
DEFINITION. Recorder: recorder slots, performance counters and instruction samplers (Event recorder and performance counters).
-/
namespace Sys2Proof.Machine

/-! ### Slots (R663 to R675) -/

/-- A recorder slot. -/
def State.recSlot (s : State) (n : Nat) : RecSlot := tget {} s.recs.slots n

/-- A slot changed. -/
def State.mSlot (s : State) (n : Nat) (f : RecSlot → RecSlot) : State := s.mRecs fun r => { r with slots := tmod {} r.slots n f }

/-- REC_SLOT_CFG of a slot (R686). -/
def recCfg (n : Nat) : Nat := 0x03E01000 + n * 8

/-- The bin a value falls into (R665). -/
def recBin (cfg : Nat) (v : Int) : Nat :=
  let d := (v - sext 32 (bits cfg 63 32)) / ((2 ^ bits cfg 14 10 : Nat) : Int)
  if bit cfg 15 then (if d ≤ 0 then 0 else min 63 (Nat.log2 d.toNat + 1)) else (clampI 0 63 d).toNat

/-- A value updates the slot (R666). -/
def recTake (cfg : Nat) (t : RecSlot) (v : Int) (at_ : Nat) : RecSlot :=
  let i := recBin cfg v
  let b := satAdd 32 (tget 0 t.bins i) 1
  let c := satAdd 64 t.count 1
  let u := t.sum + v
  { t with
    bins := tset 0 t.bins i b,
    satBins := if b = 2 ^ 32 - 1 then t.satBins ||| 2 ^ i else t.satBins,
    count := c, countSat := t.countSat || c == 2 ^ 64 - 1,
    sum := if t.sumSat then t.sum else clampI (-(2 ^ 63 : Nat)) ((2 ^ 63 - 1 : Nat)) u,
    sumSat := t.sumSat || decide (u < -((2 ^ 63 : Nat) : Int)) || decide (((2 ^ 63 - 1 : Nat) : Int) < u),
    min := if t.count = 0 ∨ v < t.min then v else t.min,
    minTime := if t.count = 0 ∨ v < t.min then at_ else t.minTime,
    max := if t.count = 0 ∨ t.max < v then v else t.max,
    maxTime := if t.count = 0 ∨ t.max < v then at_ else t.maxTime }

/-- REC_APPLY: the staged values are applied, at most once in each whole millisecond (R667, R668). -/
def execRecApply (dt n : Nat) (s : State) : Host.Outcome State Fault Refusal :=
  let s := s.tick dt
  let t := s.recSlot n
  if t.staged.isEmpty ∨ t.applied = s.now / 1000000 + 1 then .next s
  else
    let cfg := s.rd64 (recCfg n)
    let u := t.staged.foldl (fun u v => recTake cfg u v.1 v.2) t
    let tell := !t.told && (u.satBins != 0 || u.countSat || u.sumSat)
    let s := s.mSlot n fun _ =>
      { u with staged := [], applied := s.now / 1000000 + 1, seq := (u.seq + 2) % 2 ^ 32, told := t.told || tell }
    .next (if tell then s.emitPf 0xB0 .throttled n else s)

/-- LAST_CLEARER of a requester (R673): a VI, the PF, the debug port, or a secure requester on no function. -/
def State.recClearer (s : State) (r : Req) : Nat :=
  match r.path with
  | .vi v => v
  | .pf => 0xFFFF
  | .debug => 0xFFFD
  | _ => if s.reqSecure r then 0xFFFE else 0xFFFF

/-- A slot is cleared (R670, R671). -/
def State.recClear (s : State) (n clearer : Nat) : State :=
  let t := s.recSlot n
  let tell := t.clearTold = 0 || t.clearTold - 1 + 1000000 ≤ s.now
  let s := s.mSlot n fun t =>
    { seq := (t.seq + 2) % 2 ^ 32, clears := satAdd 32 t.clears 1, clearAt := s.now, clearer := clearer, applied := t.applied,
      clearTold := if tell then s.now + 1 else t.clearTold }
  if tell then s.emitPf 0xB1 .ok (clearer * 2 ^ 16 + n) else s

/-- REC_CLEAR: a write of REC_CMD in PF BAR0, or of REC_VIEW_CMD in a window (R670, R674, R686). -/
def execRecClear (dt : Nat) (r : Req) (view : Bool) (v : Word) (s : State) : Host.Outcome State Fault Refusal :=
  let s := s.tick dt
  let w := pathWin r.path
  if !bit v.toNat 0 then .next s
  else if view then .next (if s.winDead w then s else s.recClear (s.rf (win w + 0x80000) 7 0) (s.recClearer r))
  else if w = pfWin then .next (s.recClear (s.rf 0x03E0000C 7 0) (s.recClearer r))
  else .next s

/-- REC_SLOT_CFG_WRITE: a change of a slot's configuration by a secure requester empties the slot; LOCK ends changes (R672). -/
def execRecSlotCfgWrite (dt : Nat) (r : Req) (n v : Nat) (s : State) : Host.Outcome State Fault Refusal :=
  let s := s.tick dt
  let v := v / 1024 * 1024
  if pathWin r.path ≠ pfWin then .next s
  else if !s.reqSecure r then .next (s.wf 0x03E00004 22 16 Status.denied.code)
  else if s.rb 0x03E00004 0 ∨ s.rd64 (recCfg n) = v then .next s
  else .next ((s.wr64 (recCfg n) v).recClear n (s.recClearer r))

/-- The image of a slot, 384 bytes, with its COPY_TIME (R673, R675). -/
def State.recImage (s : State) (n copy : Nat) : Bytes :=
  let t := s.recSlot n
  let cfg := s.rd (recCfg n)
  let flags := b2n t.countSat * 2 ^ 31 + b2n t.sumSat * 2 ^ 30 + b2n (t.satBins != 0) * 2 ^ 29 + bits cfg 31 24 * 2 ^ 16 + bits cfg 23 16 * 2 ^ 8
  ((List.range 64).flatMap fun i => leBytes (tget 0 t.bins i) 4)
    ++ leBytes t.satBins 8 ++ leBytes t.count 8 ++ leBytes (tobits 64 t.sum) 8 ++ leBytes (tobits 64 t.min) 8 ++ leBytes t.minTime 8
    ++ leBytes (tobits 64 t.max) 8 ++ leBytes t.maxTime 8 ++ leBytes t.seq 4 ++ leBytes t.clears 4 ++ leBytes t.clearAt 8
    ++ leBytes t.clearer 4 ++ leBytes flags 4 ++ leBytes copy 8 ++ leBytes 0 40

/-! ### Counters (R676 to R681) -/

/-- Another world's claim on the unit of a counter (R681); a counter of no unit has no claim. -/
def State.cntClaimed (s : State) (i : Nat) (r : Req) : Bool :=
  match s.counter i with
  | some (_, u, _) => s.claimBlocks u (s.reqSecure r)
  | none => false

/-- CNT_VALUE_WRITE: the value takes effect with the high word, and the increment of that cycle is added to it (R680, R681). -/
def execCntValueWrite (dt : Nat) (r : Req) (i v inc : Nat) (s : State) : Host.Outcome State Fault Refusal :=
  let s := s.tick dt
  if pathWin r.path ≠ pfWin then .next s
  else if s.cntClaimed i r then .next (s.wf 0x04000004 6 0 Status.claimed.code)
  else .next ((s.wr64 (cntReg i 0) v).cntAdd i inc)

/-- COUNTER_WRAP: hardware events bring a counter past 2^64 − 1; `n` is what it has counted since the model last brought it up to date
(R680; log entry 49). -/
def execCounterWrap (dt i n : Nat) (s : State) : Host.Outcome State Fault Refusal :=
  let s := s.tick dt
  .next (if 2 ^ 64 ≤ s.rd64 (cntReg i 0) + n then s.cntAdd i n else s)

/-! ### Samplers (R682 to R687) -/

/-- SMP_CTRL of sampler m, and the registers after it (R686). -/
def smpReg (m off : Nat) : Nat := 0x04020000 + m * 0x40 + off

/-- The LFSR of every selector of a sampler is loaded from the seed plus its number (R682). -/
def State.smpLoad (s : State) (m : Nat) : State :=
  let seed := if s.rd (smpReg m 4) = 0 then 1 else s.rd (smpReg m 4)
  let all := List.range (if m = 0 then s.row.appCores else s.row.clusters)
  s.mRecs fun r => { r with sels := all.foldl (fun t c => tset 0 t (m * 64 + c) ((seed + c) % 2 ^ 32 + 1)) r.sels }

/-- One window of a selector (R682). -/
def smpNext (x : Nat) : Nat := if x % 2 = 1 then x / 2 ^^^ 0x80200003 else x / 2

/-- `n` windows of a selector. -/
def smpWindows : Nat → Nat → Nat
  | 0, x => x
  | n + 1, x => smpWindows n (smpNext x)

/-- SMP_ENABLE: a write of SMP_CTRL. ENABLE = 1 restarts the windows and empties the ring; LOG2SIZE stays while it was enabled (R687). -/
def execSmpEnable (dt : Nat) (r : Req) (m : Nat) (v : Word) (s : State) : Host.Outcome State Fault Refusal :=
  let s := s.tick dt
  if pathWin r.path ≠ pfWin then .next s
  else
    let n := max 4 (min 24 (bits v.toNat 28 24))
    let size := if s.rb (smpReg m 0) 31 then s.rf (smpReg m 0) 20 16 else max 6 (min 20 (bits v.toNat 20 16))
    let s := s.wr (smpReg m 0) (b2n (bit v.toNat 31) * 2 ^ 31 + n * 2 ^ 24 + size * 2 ^ 16)
    .next (if bit v.toNat 31 then ((s.smpLoad m).wr (smpReg m 0x10) 0).wr (smpReg m 0x14) 0 else s)

/-- SMP_SEED_WRITE: the seed is stored and the selectors are loaded again (R682). -/
def execSmpSeedWrite (dt : Nat) (r : Req) (m : Nat) (v : Word) (s : State) : Host.Outcome State Fault Refusal :=
  let s := s.tick dt
  if pathWin r.path ≠ pfWin then .next s else .next ((s.wr (smpReg m 4) v.toNat).smpLoad m)

/-- Whether the world or hull of a tagged instruction has a non-invasive enable: of a hart its own, of a cluster that of the context's
function (R528, R683). -/
def State.smpAllowed (s : State) (m : Nat) (g : Tagged) : Bool :=
  let world (secure : Bool) : Bool := bit s.dbgWorlds (if secure then 0 else 2)
  if m = 0 then
    match (s.hart g.sel).hull with
    | some k => (s.dbgHull k).1
    | none => world (!(s.hart g.sel).normal)
  else world (s.fnSecure (s.chan (g.queue / 2 ^ 18) (g.queue % 2 ^ 18)).owner)

/-- The record of a tagged instruction (R685). -/
def State.smpRecord (s : State) (m : Nat) (g : Tagged) : Nat :=
  let common := b2n g.retired * 2 ^ 7 + g.sel + (m + 1) * 2 ^ 8 + s.now % 2 ^ 48 * 2 ^ 16 + g.addr * 2 ^ 64 + g.data * 2 ^ 192
    + g.latency * 2 ^ 256 + g.events * 2 ^ 320
  if m = 0 then
    let h := s.hart g.sel
    let secure := match h.hull with | some k => (s.hull k).secure | none => !h.normal
    common + b2n secure * 2 ^ 6 + g.priv * 2 ^ 164 + b2n h.hull.isSome * 2 ^ 167 + h.hull.getD 0 * 2 ^ 168
  else
    let w := (s.chan (g.queue / 2 ^ 18) (g.queue % 2 ^ 18)).owner
    common + b2n (s.fnSecure w) * 2 ^ 6 + g.word * 2 ^ 128 + g.stage * 2 ^ 160 + w * 2 ^ 176 + (s.queue g.queue).ctx * 2 ^ 352

/-- SAMPLE_RECORD: a tagged instruction retires, completes or is squashed (R683, R684). `missed` tags fell due while it was followed. -/
def execSampleRecord (dt m : Nat) (g : Tagged) (s : State) : Host.Outcome State Fault Refusal :=
  let s := s.tick dt
  if !s.rb (smpReg m 0) 31 || tget 0 s.recs.sels (m * 64 + g.sel) = 0 then .next s
  else
    let s := s.mRecs fun r => { r with sels := tmod 0 r.sels (m * 64 + g.sel) fun x => smpWindows (1 + g.missed) (x - 1) + 1 }
    let s := s.rcCount (smpReg m 0x1C) g.missed
    if !s.smpAllowed m g then .next (s.rcCount (smpReg m 0x20) 1)
    else
      let tail := s.rd (smpReg m 0x14)
      let size := 2 ^ s.rf (smpReg m 0) 20 16
      let held := (tail + 2 ^ 32 - s.rd (smpReg m 0x10)) % 2 ^ 32
      if held = size then .next (s.rcCount (smpReg m 0x1C) 1)
      else
        match s.store pfWin 6 (s.rd64 (smpReg m 8) + tail % size * 64) (leBytes (s.smpRecord m g) 64) with
        | (false, s) => .next ((s.wb (smpReg m 0) 31 false).emitPf 0xB4 .fault m)
        | (true, s) =>
          let s := s.wr (smpReg m 0x14) (tail + 1)
          .next (if held + 1 = s.rd (smpReg m 0x18) then s.emitPf 0xB3 .ok m else s)

end Sys2Proof.Machine
end

