-- ==== Sys2Proof/Machine/Stop.lean ====
section
/-!
DEFINITION. Stop: the health of units, what a unit reset abandons, and what a domain loses when it goes OFF (R29, R35, R539, R556).
-/
namespace Sys2Proof.Machine

/-! ### Health (R29, R71) -/

/-- A unit's health changes: UIF_HEALTH.STATE, and one UNIT_HEALTH event; a pod's derived health raises none (log
entry 68). A region controller is in service while OK or DEGRADED (R519). -/
def State.setHealth (s : State) (u st : Nat) : State :=
  if (s.unit u).health = st then s
  else
    let s := s.mUnit u fun x => { x with health := st }
    let s := match s.unitAt u with
      | some (0x42, i) =>
        s.mWorlds fun w => { w with rcFaulted := if 2 ≤ st ∧ st ≤ 4 then i :: w.rcFaulted.filter (· != i) else w.rcFaulted.filter (· != i) }
      | _ => s
    s.emitAt pfWin 0x04 (s.unit u).lastStatus 0 (st * 2 ^ 16 + u) s.now

/-! ### What a unit reset abandons (R35) -/

/-- The queue that holds a cluster loses its work on it: the queue faults, and gives its clusters up. -/
def State.clusterDrop (s : State) (c : Nat) : State :=
  let q := tget 0 s.render.clusters c
  if q = 0 then s
  else
    let cnt := match (s.queue q).running with | d :: _ => d.cnt | [] => 0
    (s.qFault q [] .fault cnt).clustersDrop (· == q)

/-- Every queue with running work loses it: the front end and the back-ends serve them all. -/
def State.renderDrop (s : State) : State :=
  s.render.queues.foldl (fun s c =>
    match c.2.running with
    | d :: _ => (s.qFault c.1 [] .fault d.cnt).clustersDrop (· == c.1)
    | [] => s) s

/-- The running entries of check contexts, one per data check unit from DCU_DIRECT on (log entry 51). -/
def State.dcuDrop (s : State) (u : Nat) : State :=
  if u < s.dcuDirect then s
  else
    match (s.checks.ctxs.filter fun c => c.2.running.isSome).drop (u - s.dcuDirect) with
    | c :: _ => s.ctxEnd c.1
    | [] => s

/-- The links of a PCIe controller: link 0 of controller 0, links 1 to 4 of controller 1 (R472). -/
def linksOf (c : Nat) : List Nat := if c = 0 then [0] else [1, 2, 3, 4]

/-- A DisplayPort transmitter abandons its training and the PF's AUX transaction, which ends with FAULT; the link carries nothing (log entry 73). -/
def State.dpDrop (s : State) (port : Nat) : State :=
  let k := pipeReg port 0x8020
  let s := if s.rb k 31 then (s.wb k 31 false).wf k 22 16 Status.fault.code else s
  let s := s.mDisplay fun d => { d with training := d.training.filter (· != port), aux := tset none d.aux port none }
  (((s.wb (pipeReg port 0x8004) 30 false).wf (pipeReg port 0x8004) 11 8 0).wf (pipeReg port 0x8004) 2 0 0).linkEval port true

/-- A DSI-2 transmitter abandons the LP command it serves, which ends with FAULT (log entry 73). -/
def State.dsiDrop (s : State) (port : Nat) : State :=
  let k := pipeReg port 0xA004
  let s := if s.rb k 0 then (s.wb k 0 false).wf k 22 16 Status.fault.code else s
  s.mDisplay fun d => { d with lp := tset none d.lp port none }

/-- The translator abandons the request it serves, which ends with FAULT; those that wait are served after the reset (log entry 73). -/
def State.xlateDrop (s : State) : State :=
  match s.xlateNext with
  | none => s
  | some w =>
    match tget [] s.render.reqs w with
    | [] => s
    | q :: rest => s.xlateEnd w q rest (if q.op = 1 then ⟨.fault, none, none, 0, 0xFFFFFFFF⟩ else xlateFail .fault none 0xFFFFFFFF)

/-- A SoundWire manager abandons the register access it serves, which ends with FAULT (log entry 73). -/
def State.swrDrop (s : State) (m : Nat) : State :=
  if (tget none s.audio.swrBusy m).isNone then s
  else (s.mAudio fun a => { a with swrBusy := tset none a.swrBusy m none }).wf (swrReg m 8) 20 16 Status.fault.code

/-- What is in flight on a unit is abandoned, and its channels report what their chapters state (R35). -/
def State.unitAbandon (s : State) (u : Nat) : State :=
  match s.unitAt u with
  | some (0x11, i) => s.mHart i fun h => { h with hull := none, x := [], pc := 0, ret := 0, trap := 0 }
  | some (0x20, p) => if s.pipeState p = 0 then s else (s.pipeRelease p).pipeEvent p .ok
  | some (0x24, p) => s.dpDrop p
  | some (0x25, p) => s.dsiDrop p
  | some (0x30, c) => s.clusterDrop c
  | some (0x31, _) => s.renderDrop
  | some (0x32, _) => s.renderDrop
  | some (0x33, _) => s.xlateDrop
  | some (0x50, _) => s.audioRestart
  | some (0x53, m) => s.swrDrop m
  | some (0x60, b) => s.blkDown b
  | some (0x61, c) => s.hapIdle c (b2n (s.rb (hapReg c 0) 31))
  | some (0x62, _) => s.reflexDown
  | some (0x71, k) => s.dcuDrop k
  | some (0x80, c) => (linksOf c).foldl (fun s l => s.linkDown l) s
  | some (0x81, m) => s.tsnDown m
  | some (0x82, p) => s.portDown p
  | _ => s

/-! ### Domains -/

/-- The units of a domain, in directory order. -/
def State.domainUnits (s : State) (d : Nat) : List Nat :=
  (List.range s.row.unitCount).filter fun u =>
    match s.unitAt u with
    | some (k, i) => unitDomain k i == d && k != 1
    | none => false

/-- Registers of an address range at their values after reset. -/
def State.regsCut (s : State) (lo hi : Nat) : State := { s with regs := tcut s.regs lo hi }

/-- The pipes, PLLs and encoders of one half of the display units lose their registers; what the Pip lane shows of a pipe is not theirs. -/
def State.pipesCut (s : State) (first : Nat) : State :=
  let s := (List.range 8).foldl (fun s i => s.regsCut (pipeReg (first + i) 0) (pipeReg (first + i) 0x8000)) s
  let s := s.regsCut (0x01900000 + first * 0x20000) (0x01900000 + (first + 8) * 0x20000)
  (s.regsCut (0x01B00000 + first / 2 * 16) (0x01B00000 + (first / 2 + 4) * 16)).regsCut (0x01B01000 + first / 2 * 16) (0x01B01000 + (first / 2 + 4) * 16)

/-- The transmitters of eight ports lose their registers (R538). -/
def State.portsCut (s : State) (first : Nat) : State :=
  (List.range 8).foldl (fun s i => (s.regsCut (pipeReg (first + i) 0x8000) (pipeReg (first + i) 0xC000)).portSettle (first + i)) s

/-- What a domain holds is lost when it goes OFF (R539): registers read their reset values, memories read 0, and the counters of CHIP_CTRL
restart at 0 (R676). Channels keep their records (log entry 52). -/
def State.domainLost (s : State) (d : Nat) : State :=
  match d with
  | 3 => { (s.mPip fun _ => {}) with mem := tcut s.mem (2 ^ 61) (2 ^ 61 + 24 * 2 ^ 20) }
  | 4 =>
    let s := ((s.regsCut 0x04000000 0x05000000).regsCut 0x00000104 0x00000108).regsCut 0x00500000 0x00600000
    let s := (0xFFFF :: List.range s.row.vis).foldl (fun s w => s.regsCut (win w + 0x90000) (win w + 0x90020)) s
    let s := s.mRecs fun r => { r with heldCnt := [], ranDom := r.ranDom.filter fun d => s.domainState d != 0 }
    s.mWorlds fun w => { w with entries := [], claims := [], tokWorlds := 0, tokNi := 0, tokI := 0 }
  | 13 => (s.regsCut 0x01020000 0x01040000)
  | 14 => s.pipesCut 0
  | 15 => s.pipesCut 8
  | 16 => s.portsCut 0
  | 17 => s.portsCut 8
  | 18 => { s with mem := tcut s.mem 0 (2 ^ 60) }
  | 19 => { s with mem := tcut s.mem (2 ^ 60) (2 ^ 61) }
  | 20 =>
    (s.regsCut 0x03000000 0x03800000).mAudio fun a => { streams := a.streams }
  | 21 =>
    let s := ((s.regsCut 0x03800000 0x03800010).regsCut 0x0380001C 0x03A00000).regsCut 0x03A00000 0x03C00000
    let s := s.panel.zones.foldl (fun s z => s.zoneHold z.1 z.2) s
    s.mPanel fun q => { zones := q.zones, slots := q.slots, binds := q.binds, fires := q.fires }
  | 23 => (s.regsCut 0x05000000 0x07000000).mNet fun _ => {}
  | _ => s

/-- A domain's state shown (R568). Once it leaves OFF its counters run again (R676). -/
def State.setDomain (s : State) (d v : Nat) : State :=
  let s := if v = 0 then s else s.mRecs fun r => { r with heldCnt := r.heldCnt.filter (fun c => c.2 != d), ranDom := d :: r.ranDom.filter (· != d) }
  s.wf (domainReg d 4) 31 29 v

/-- A domain goes OFF: it leaves the raises, its units read OFF, and what it holds is lost (R539, R542). -/
def State.domainOff (s : State) (d : Nat) : State :=
  let s := s.mPower fun p => { p with waiting := p.waiting.filter (· != d), raising := p.raising.filter (·.d != d) }
  let s := (s.domainUnits d).foldl (fun s u => (s.unitAbandon u).mUnit u fun x => { x with state := 0 }) s
  let s := if d = 21 then s.mPanel fun q => { q with wake := {} } else s
  (s.domainLost d).setDomain d 0

/-- A unit stops for a trip, or because its rail or domain fails: it reads OFF and a health state (R544, R549, R556). -/
def State.unitStop (s : State) (u st : Nat) (why : Option Status) : State :=
  ((s.unitAbandon u).mUnit u fun x =>
    { x with state := 0, req := if why = some .fault then x.req else 0, lastStatus := (match why with | some w => w.code | none => x.lastStatus) }).setHealth u st

end Sys2Proof.Machine
end

