-- ==== Sys2Proof/Machine/Power.lean ====
section
/-!
DEFINITION. Power: power and reset requests of units, power domains, the regulator controller, temperature, clocks, and sleep and wake (Power,
heat and clocks; R28 to R41).
-/
namespace Sys2Proof.Machine

/-! ### Requests to domains (R538 to R545) -/

/-- POWER_OPP_FV of a domain's point, and POWER_OPP_PJ 4 above it (R567). -/
def oppReg (d p off : Nat) : Nat := 0x00102000 + d * 0x80 + p * 0x10 + off

/-- The operating point in force of a domain and its voltage in mV. -/
def State.point (s : State) (d : Nat) : Nat := s.rf (domainReg d 0xC) 26 24
def State.pointMv (s : State) (d : Nat) : Nat := s.rf (oppReg d (s.point d) 0) 31 16

/-- Ramp time of a domain in µs (R543). -/
def State.rampUs (s : State) (d : Nat) : Nat :=
  max 5 (cdiv ((Config.domainNf d).toNat * s.pointMv d) (max 10 (min 10000 (s.rf (domainReg d 8) 15 0)) * 1000))

/-- The rank of a domain in the staggered start (R542). -/
def rampRank (d : Nat) : Nat :=
  match d with
  | 1 => 1
  | 2 => 1
  | 3 => 1
  | 4 => 2
  | 18 => 3
  | 19 => 3
  | 14 => 4
  | 15 => 4
  | 16 => 4
  | 17 => 4
  | 20 => 5
  | 21 => 5
  | 5 => 6
  | 22 => 6
  | 23 => 6
  | 13 => 7
  | 6 => 8
  | 7 => 8
  | 12 => 9
  | _ => 2 + d

/-- The pipes of PIPES_A or PIPES_B that are not OFF. -/
def State.pipesOn (s : State) (first n : Nat) : Bool := (List.range n).any fun i => s.pipeState (first + i) != 0

/-- The lowest state a domain's admitted work needs, by the conditions of R538 and R541. Waiting harts are the sender's knowledge (log entry
53). -/
def State.domainWork (s : State) (d : Nat) : Nat :=
  let on (b : Bool) : Nat := if b then 3 else 0
  match d with
  | 5 => 2
  | 12 => on (s.render.queues.any fun q => !q.2.running.isEmpty)
  | 13 =>
    if (List.range 16).any fun p => (match (s.pipe p).comp with | some c => !c.done | none => false) then 3
    else if (List.range 16).any fun p => s.pipeState p == 1 || s.pipeState p == 2 then 2 else 0
  | 14 => on (s.pipesOn 0 8)
  | 15 => on (s.pipesOn 8 8)
  | 16 => on ((List.range 16).any fun p => s.pipeState p != 0 && (s.pipe p).cfg.port % 16 < 8)
  | 17 => on ((List.range 16).any fun p => s.pipeState p != 0 && 8 ≤ (s.pipe p).cfg.port % 16)
  | 18 => on (s.pipesOn 0 16)
  | 20 => on ((s.dom 0).running || (s.dom 1).running)
  | 21 => on ((List.range 16).any (fun b => s.rb (blkReg b 0x10) 31) || (List.range 16).any fun c => s.rb (hapReg c 0) 31)
  | 22 => on ((List.range 5).any fun l => s.rb (linkReg l) 30)
  | 23 => on ((List.range 4).any (fun p => s.rb (icvPort p 0) 31) || (List.range 2).any fun m => s.rb (tsnReg m 4) 31)
  | 6 => 0
  | 7 => 0
  | 19 => 0
  | _ => if 8 ≤ d ∧ d ≤ 11 then on (s.render.clusters.any fun c => c.1 / 8 == d - 8 && c.2 != 0) else 3

/-- POWER_DOM_CTRL.FLOOR of a domain; AON reads ON (R568). -/
def State.floor (s : State) (d : Nat) : Nat := if d = 0 then 3 else s.rf (domainReg d 0) 31 30

/-- The state requested for a domain (R540). Work raises a domain by DOMAIN_RAMP_START; here it only keeps it up. -/
def State.domainWant (s : State) (d : Nat) : Nat :=
  (s.domainUnits d).foldl (fun m u => max m ((s.unit u).req % 4)) (max (s.floor d) (min (s.domainWork d) (s.domainState d % 4)))

/-- POWER_DOM_STATUS.RESULT. -/
def State.domainResult (s : State) (d : Nat) (st : Status) : State := s.wf (domainReg d 4) 22 16 st.code

/-- The rail of a domain that the regulator controller feeds: 0 VDD_CORE, 1 VDD_GFX, 2 another (R538). -/
def domainRail (d : Nat) : Nat :=
  if 8 ≤ d ∧ d ≤ 12 then 1
  else if d ≤ 3 ∨ d = 16 ∨ d = 17 then 2
  else 0

/-- A domain moves to its requested state: a raise waits for its ramp, a lowering is at once; during a raise the latest request is acted on
at its end (R540, R542, R545). -/
def State.domainSettle (s : State) (d : Nat) : State :=
  let want := s.domainWant d
  let cur := s.domainState d
  if cur = 7 then s
  else if cur < want then
    match s.raiseBar d with
    | .ok =>
      let s := s.domainResult d .ok
      if cur = 2 then s.setDomain d 3 else if tget 0 s.power.offRails (domainRail d) != 0 then s else s.domainQueue d
    | st => s.domainResult d st
  else
    let s := s.mPower fun p => { p with waiting := if cur = want then p.waiting.filter (· != d) else p.waiting }
    if cur = want then s.domainResult d .ok
    else if want = 0 then (s.domainOff d).domainResult d .ok
    else (s.setDomain d want).domainResult d .ok

/-! ### The unit interface (R28 to R36) -/

/-- The children of a pod: every unit of the device, for the device. -/
def State.children (s : State) (u : Nat) : List Nat := if u = 0 then (List.range s.row.unitCount).drop 1 else []

/-- The domain of a unit. -/
def State.unitDom (s : State) (u : Nat) : Nat := match s.unitAt u with | some (k, i) => unitDomain k i | none => 4

/-- UIF_POWER.STATE of a unit; a pod reads TRANSITION until every child has reached the state, and then the lowest state (R36). -/
def State.powerState (s : State) (u : Nat) : Nat :=
  if u = 0 then
    let cs := (s.children 0).map fun c => (s.unit c).state
    if cs.contains 7 then 7 else cs.foldl min 3
  else (s.unit u).state

/-- A request accepted for one unit (R34, R540, R545). -/
def State.powerAsk (s : State) (u q : Nat) : State :=
  let d := s.unitDom u
  let bar := if s.domainAbsent d then .unsupported else if s.domainState d % 7 < q then s.raiseBar d else .ok
  match bar with
  | .ok => (s.mUnit u fun x => { x with req := q, target := q, state := 7, powerResult := Status.ok.code }).domainSettle d
  | st => s.mUnit u fun x => { x with powerResult := st.code }

/-- A reset of a unit is in progress: UIF_RESET.BUSY. A pod's reset is the resets of its children (R32, R36). -/
def State.resetting (s : State) (u : Nat) : Bool := if u = 0 then (s.children 0).any fun c => (s.unit c).resetBusy else (s.unit u).resetBusy

/-- A claim refuses a request to a unit, or to a pod whose children it would act on (R33, R36, R532). -/
def State.uifClaimed (s : State) (u : Nat) (r : Req) : Bool := (u :: s.children u).any fun c => s.claimBlocks c (s.reqSecure r)

/-- UIF_POWER_REQ: a write of UIF_POWER.REQ (R30 to R36, R540). -/
def execUifPowerReq (dt : Nat) (r : Req) (u q : Nat) (s : State) : Host.Outcome State Fault Refusal :=
  let s := s.tick dt
  let res (st : Status) : State := s.mUnit u fun x => { x with powerResult := st.code }
  if pathWin r.path ≠ pfWin ∨ (s.unitAt u).isNone then .next s
  else
    match byR19 [(s.uifClaimed u r, .claimed), (decide (3 < q), .badParam), (s.powerState u == 7 || s.resetting u, .busy)] with
    | .ok =>
      if u = 0 then
        .next (((s.children 0).foldl (fun s c => s.powerAsk c q) s).mUnit 0 fun x => { x with req := q, target := q, powerResult := Status.ok.code })
      else .next (s.powerAsk u q)
    | st => .next (res st)

/-- UIF_POWER_DONE: a unit reaches the requested state once its domain has; its domain may then be lowered (R34). -/
def execUifPowerDone (dt u : Nat) (s : State) : Host.Outcome State Fault Refusal :=
  let s := s.tick dt
  let x := s.unit u
  let d := s.unitDom u
  if x.state = 7 ∧ s.domainState d ≠ 7 ∧ x.target ≤ s.domainState d then
    .next ((s.mUnit u fun x => { x with state := x.target }).domainSettle d)
  else .next s

/-- One unit is reset (R35). -/
def State.unitReset (s : State) (u : Nat) : State :=
  ((s.unitAbandon u).mUnit u fun x =>
    { x with resetBusy := true, resetResult := Status.ok.code, restarts := satAdd 8 x.restarts 1 }).setHealth u 3

/-- UIF_RESET_GO: UIF_RESET.GO written 1 (R32, R33, R35, R36). -/
def execUifResetGo (dt : Nat) (r : Req) (u : Nat) (s : State) : Host.Outcome State Fault Refusal :=
  let s := s.tick dt
  let res (st : Status) : State := s.mUnit u fun x => { x with resetResult := st.code }
  if pathWin r.path ≠ pfWin ∨ (s.unitAt u).isNone then .next s
  else
    match byR19 [(s.uifClaimed u r, .claimed), (s.powerState u == 7 || s.resetting u, .busy)] with
    | .ok =>
      if u = 0 then
        .next (((s.children 0).foldl (fun s c => s.unitReset c) s).mUnit 0 fun x =>
          { x with resetResult := Status.ok.code, restarts := satAdd 8 x.restarts 1 })
      else .next (s.unitReset u)
    | st => .next (res st)

/-- A unit reset completes: BUSY clears, the unit is OK again unless it was given up, and the fault of its domain is cleared (R35, R544). -/
def State.resetDone (s : State) (u : Nat) : State :=
  let s := (s.mUnit u fun x => { x with resetBusy := false }).setHealth u (if (s.unit u).gaveUp then 4 else 0)
  let s := s.wb (domainReg (s.unitDom u) 4) 26 false
  match s.unitAt u with
  | some (0x12, b) => if (s.unit u).gaveUp then s else s.wf 0x00300000 (31 - 3 * b) (29 - 3 * b) 0
  | some (0x13, _) => s.wb 0x00300020 31 true
  | _ => s

/-- UIF_RESET_DONE: a pod's reset is done with its last child's (R35, R36). -/
def execUifResetDone (dt u : Nat) (s : State) : Host.Outcome State Fault Refusal :=
  let s := s.tick dt
  if u = 0 ∨ !(s.unit u).resetBusy then .next s else .next (s.resetDone u)

/-- DIRECTORY_CHANGE: a unit leaves service, and a spare, where there is one, takes its place: the entries change and CHIP_DIR_GEN counts
(R40, R41). -/
def State.directoryChange (s : State) (u : Nat) (spare : Option Nat) : State :=
  let s := match spare with
    | some p =>
      let base := (s.unit p).uifMoved
      let s := s.mUnit p fun x => { x with spare := false, uifMoved := u + 1 }
      s.mUnit u fun x => { x with uifMoved := if base = 0 then p + 1 else base }
    | none => s
  s.incr 0x00000104

/-- DIRECTORY_CHANGE: a unit that has left service gives way to a spare, or its entry alone changes (R40, R41). The unit keeps its path and is
OK on the spare's hardware; the entry that held the spare shows the hardware that was replaced. -/
def execDirectoryChange (dt u : Nat) (spare : Option Nat) (s : State) : Host.Outcome State Fault Refusal :=
  let s := s.tick dt
  match spare with
  | some p =>
    let x := s.unit u
    if (s.unit p).spare then
      let s := (s.setHealth u 0).directoryChange u (some p)
      let s := s.mUnit p fun y => { y with spare := x.health ≤ 1, lastStatus := x.lastStatus, gaveUp := x.gaveUp }
      let s := s.mUnit u fun y => { y with gaveUp := false }
      .next (s.setHealth p (if x.health ≤ 1 then 5 else x.health))
    else .next s
  | none => .next ((s.setHealth u 4).directoryChange u none)

/-! ### Commands on domains -/

/-- A write of the POWER block by a normal requester that the block refuses: POWER_LOCK.RESULT reads DENIED (R567). -/
def State.powerDenied (s : State) : State := s.wf 0x00100008 22 16 Status.denied.code

/-- Whether a domain holds a unit whose claim refuses a requester (R532, R567). -/
def State.domainClaimed (s : State) (d : Nat) (r : Req) : Bool := (s.domainUnits d).any fun u => s.claimBlocks u (s.reqSecure r)

/-- POWER_DOM_CTRL_WRITE (R532, R540, R567, R568). -/
def execPowerDomCtrlWrite (dt : Nat) (r : Req) (d : Nat) (v : Word) (s : State) : Host.Outcome State Fault Refusal :=
  let s := s.tick dt
  let n := v.toNat
  let floor := if d = 0 then 3 else bits n 31 30
  let auto := if bits n 29 28 = 3 then 0 else bits n 29 28
  let idle := max 10 (min 1000000 (bits n 19 0))
  if pathWin r.path ≠ pfWin then .next s
  else if floor < s.floor d ∧ s.domainClaimed d r then .next (s.domainResult d .claimed)
  else .next ((s.wr (domainReg d 0) (floor * 2 ^ 30 + auto * 2 ^ 28 + idle)).domainSettle d)

/-- DOMAIN_AUTO_DROP: a domain without admitted work for `idle` µs drops to its AUTO state, never below FLOOR or what R538 and R541 forbid
(R541). `waits` says that every hart of the domain waits for an interrupt with none pending. -/
def execDomainAutoDrop (dt d idle : Nat) (waits : Bool) (s : State) : Host.Outcome State Fault Refusal :=
  let s := s.tick dt
  let auto := s.rf (domainReg d 0) 29 28
  let tgt := if auto = 1 then 2 else 1
  let least := max (s.floor d) (max (s.domainWork d) tgt)
  if auto = 0 ∨ auto = 3 ∨ d ≤ 4 ∨ idle < max 10 (s.rf (domainReg d 0) 19 0) ∨ ((d = 6 ∨ d = 7) ∧ ¬ waits)
      ∨ s.domainState d = 7 ∨ s.domainState d ≤ least then .next s
  else .next (s.setDomain d least)

/-- The domain that ramps next: the lowest rank, in order of request (R542). -/
def nextRamp : List Nat → Option Nat
  | [] => none
  | d :: r => match nextRamp r with
    | none => some d
    | some e => if rampRank e < rampRank d then some e else some d

/-- The next ramp starts, when one may (R542, R544). -/
def State.rampStart (s : State) : State :=
  let p := s.power
  let free := p.raising.all fun r => r.good
  let spaced := match p.lastRamp with | none => true | some t => decide (t + max 20 (s.rf 0x0010000C 7 0) * 1000 ≤ s.now)
  match nextRamp p.waiting with
  | none => s
  | some d =>
    if free && spaced then
      let off := s.domainState d == 0
      let us := s.rampUs d
      (s.mPower fun p =>
        { p with waiting := p.waiting.filter (· != d), raising := p.raising ++ [⟨d, s.now, us, false, off⟩], lastRamp := some s.now }).setDomain d 7
    else s

/-- DOMAIN_RAMP_START: domains needed for newly admitted work join those that wait, and the next of them begins its ramp (R540 to R542). -/
def execDomainRampStart (dt : Nat) (work : List Nat) (s : State) : Host.Outcome State Fault Refusal :=
  let s := s.tick dt
  let s := work.foldl (fun s d => s.domainNeed d) s
  .next s.rampStart

/-- DOMAIN_POWER_GOOD: the rail inside a ramping domain reaches power-good at t_ramp (R544 step 2). -/
def execDomainPowerGood (dt d : Nat) (s : State) : Host.Outcome State Fault Refusal :=
  let s := s.tick dt
  .next (s.mPower fun p =>
    { p with raising := p.raising.map fun r => if r.d = d ∧ r.at_ + r.us * 1000 ≤ s.now then { r with good := true } else r })

/-- A raised domain reads ON: its units are in service again, with REQ set by the start sequence while it runs, and a lower request that waited
is acted on (R28, R544 step 4, R545; log entry 53). -/
def State.domainUp (s : State) (d : Nat) : State :=
  match s.power.raising.find? fun r => r.d == d && r.good with
  | none => s
  | some r =>
    let s := s.mPower fun p => { p with raising := p.raising.filter (·.d != d) }
    let s := ((s.setDomain d 3).wf (domainReg d 4) 15 0 (min 65535 ((s.now - r.at_) / 1000))).sat (domainReg d 0x18) 1
    let s := (s.domainUnits d).foldl (fun s u =>
      let x := s.unit u
      let s := if x.state = 7 then s else s.mUnit u fun x => { x with state := 3, req := if s.start.step = 0 then x.req else 3, target := 3 }
      if x.health = 4 ∧ ¬ x.gaveUp then s.setHealth u 0 else s) s
    let s := if d = 21 then s.mPanel fun q => { q with wake := {} } else s
    s.domainSettle d

/-- A raise that misses power-good: the domain stays OFF in FAULT, with every unit in FAULT (R544). -/
def execDomainFault (dt d : Nat) (s : State) : Host.Outcome State Fault Refusal :=
  let s := s.tick dt
  match s.power.raising.find? fun r => r.d == d && !r.good with
  | none => .next s
  | some r =>
    if s.now ≤ r.at_ + (2 * r.us + 10) * 1000 then .next s
    else
      let s := (s.domainUnits d).foldl (fun s u => s.unitStop u 2 (some .fault)) (s.domainOff d)
      let s := (s.wb (domainReg d 4) 26 true).mPower fun p => { p with domFaults := tmod [] p.domFaults d fun l => s.now :: l }
      .next ((s.domainResult d .fault).emitPf 0x17 .fault (d * 2 ^ 24))

/-! ### The regulator controller (R546 to R549) -/

/-- VR_RAIL_STATUS of a rail, and the registers after it; the registers of a phase (R567). -/
def railReg (r off : Nat) : Nat := 0x00108010 + r * 0x10 + off
def phaseReg (p off : Nat) : Nat := 0x00108100 + p * 0x10 + off

/-- VR_PHASE_STATUS.STATE of a phase, and it set: a phase that is active has its enable high and its PWM pin driven; one that is shed, HOT,
SENSE_LOST or disabled holds VR_PWMp at high impedance and VR_ENp low (R568, R703). -/
def State.phase (s : State) (p : Nat) : Nat := s.rf (phaseReg p 4) 31 29
def State.setPhase (s : State) (p v : Nat) : State :=
  (s.wf (phaseReg p 4) 31 29 v).mPower fun q => { q with vr := tset {} q.vr p ⟨v == 2, v == 2⟩ }

/-- The phases assigned to a rail; the small package bonds 8 (R546, R691). -/
def State.railPhases (s : State) (r : Nat) : List Nat :=
  (List.range (if s.row.large then 16 else 8)).filter fun p => s.rb (phaseReg p 0) 31 && s.rf (phaseReg p 0) 30 30 == r

/-- The domains of a rail. -/
def railDomains (r : Nat) : List Nat := (List.range 24).filter fun d => domainRail d == r

/-- The target voltage of a rail in mV (R547). -/
def State.railTarget (s : State) (r : Nat) : Nat :=
  (railDomains r).foldl (fun m d => if s.domainState d = 2 ∨ s.domainState d = 3 then max m (s.pointMv d) else m) 0

/-- The lowest voltage of a rail in each ms goes to the recorder (R664). -/
def State.railNote (s : State) (r mv : Nat) : State :=
  let ms := s.now / 1000000 + 1
  let last := tget 0 s.power.railMs r
  let low := tget 0 s.power.lowest r
  if last = ms then s.mPower fun p => { p with lowest := tset 0 p.lowest r (min low mv) }
  else
    let s := if last = 0 then s else s.recValue 4 r (low : Nat)
    s.mPower fun p => { p with lowest := tset 0 p.lowest r mv, railMs := tset 0 p.railMs r ms }

/-- VR_PHASE_UPDATE: every 10 µs a rail's current (0.1 A) and voltage (mV) and its phases' current, temperature and limited cycles are read,
and its number of active phases is set (R548, R549). -/
def execVrPhaseUpdate (dt rail amps mv : Nat) (phases : List PhaseIn) (s : State) : Host.Outcome State Fault Refusal :=
  let s := s.tick dt
  let s := (s.wr (railReg rail 0) (min 65535 amps * 2 ^ 16 + min 65535 mv)).railNote rail mv
  let mine := s.railPhases rail
  let s := phases.foldl (fun s x =>
    if mine.contains x.phase then
      ((s.wf (phaseReg x.phase 4) 23 16 (min 255 x.temp)).wf (phaseReg x.phase 4) 15 0 (min 65535 x.amps)).sat (phaseReg x.phase 8) x.limited
    else s) s
  let usable := mine.filter fun p => s.phase p != 3 && s.phase p != 4 && s.phase p != 5
  let ilim := match usable with | p :: _ => s.rf (phaseReg p 0) 7 0 | [] => 0
  let least := max 1 (min 16 (s.rf (railReg rail 4) 15 8))
  let n := min usable.length (max least (if ilim = 0 then 0 else cdiv amps (7 * ilim)))
  let active := usable.countP fun p => s.phase p == 2
  let since := tget 0 s.power.fewer rail
  let set (s : State) (n : Nat) : State := usable.zipIdx.foldl (fun s x => s.setPhase x.1 (if x.2 < n then 2 else 1)) s
  if active ≤ n then .next ((set s n).mPower fun p => { p with fewer := tset 0 p.fewer rail 0 })
  else if since = 0 then .next (s.mPower fun p => { p with fewer := tset 0 p.fewer rail (s.now + 1) })
  else if since - 1 + 1000000 ≤ s.now then .next ((set s n).mPower fun p => { p with fewer := tset 0 p.fewer rail 0 })
  else .next s

/-- VR_FAULT to the PF and the secure event ring (R569). -/
def State.vrFault (s : State) (why phase rail : Nat) : State :=
  let d := why * 2 ^ 28 + phase * 2 ^ 8 + rail
  (s.emitPf 0x13 .fault d).emit secWin 0x13 .fault 0 d

/-- STAGE_OVERTEMP: a stage above STAGE_TMAX is shed HOT (R549). -/
def execStageOvertemp (dt p temp : Nat) (s : State) : Host.Outcome State Fault Refusal :=
  let s := s.tick dt
  if s.rb (phaseReg p 0) 31 ∧ (s.phase p = 1 ∨ s.phase p = 2) ∧ s.rf (phaseReg p 0) 15 8 < temp then
    .next (((s.setPhase p 3).wf (phaseReg p 4) 23 16 (min 255 temp)).vrFault 1 p (s.rf (phaseReg p 0) 30 30))
  else .next s

/-- STAGE_COOLED: a HOT stage 10 °C below STAGE_TMAX is usable again (R549). -/
def execStageCooled (dt p temp : Nat) (s : State) : Host.Outcome State Fault Refusal :=
  let s := s.tick dt
  if s.phase p = 3 ∧ temp + 10 ≤ s.rf (phaseReg p 0) 15 8 then .next ((s.setPhase p 1).wf (phaseReg p 4) 23 16 temp) else .next s

/-- VR_SENSE_LOST: a sense out of range for 3 cycles disables the phase until device reset (R549, R702). -/
def execVrSenseLost (dt p : Nat) (s : State) : Host.Outcome State Fault Refusal :=
  let s := s.tick dt
  if s.rb (phaseReg p 0) 31 ∧ s.phase p ≠ 4 then .next ((s.setPhase p 4).vrFault 2 p (s.rf (phaseReg p 0) 30 30)) else .next s

/-- SUPPLY_DROOP: a rail below its target − 6 % stretches the clocks of its domains (R549). -/
def execSupplyDroop (dt rail mv : Nat) (s : State) : Host.Outcome State Fault Refusal :=
  let s := s.tick dt
  if s.railTarget rail * 94 ≤ mv * 100 ∨ s.power.stretched.contains rail then .next s
  else
    let s := ((s.mPower fun p => { p with stretched := p.stretched ++ [rail] }).satf (railReg rail 8) 15 0 1).railNote rail mv
    let last := tget 0 s.power.droopAt rail
    if last ≠ 0 ∧ s.now < last - 1 + 1000000 then .next s
    else .next ((s.mPower fun p => { p with droopAt := tset 0 p.droopAt rail (s.now + 1) }).emitPf 0x14 .throttled (rail * 2 ^ 24 + mv % 2 ^ 16))

/-- DROOP_END: the rail is above its target − 3 % again (R549). -/
def execDroopEnd (dt rail mv : Nat) (s : State) : Host.Outcome State Fault Refusal :=
  let s := s.tick dt
  if s.railTarget rail * 97 < mv * 100 then .next (s.mPower fun p => { p with stretched := p.stretched.filter (· != rail) }) else .next s

/-- RAIL_OVER_VOLTAGE: a rail above its target + 12 % is shut: its phases are disabled, its domains OFF, their units in FAULT (R549). -/
def execRailOverVoltage (dt rail mv : Nat) (s : State) : Host.Outcome State Fault Refusal :=
  let s := s.tick dt
  if mv * 100 ≤ s.railTarget rail * 112 ∨ s.rb (railReg rail 8) 31 then .next s
  else
    let s := (s.railPhases rail).foldl (fun s p => s.setPhase p 5) (s.wb (railReg rail 8) 31 true)
    let s := s.vrFault 3 0xFF rail
    let s := s.mPower fun p =>
      { p with offRails := tset 0 p.offRails rail (s.now + 1), railFaults := tmod [] p.railFaults rail fun l => s.now :: l }
    .next ((railDomains rail).foldl (fun s d =>
      if s.domainAbsent d then s else (s.domainUnits d).foldl (fun s u => s.unitStop u 2 (some .fault)) (s.domainOff d)) s)

/-- A rail shut by over-voltage may start again (R549). -/
def State.railClear (s : State) (rail : Nat) : State :=
  if s.rb (railReg rail 8) 31 then
    let s := (s.wb (railReg rail 8) 31 false).mPower fun p => { p with offRails := tset 0 p.offRails rail 0 }
    (s.railPhases rail).foldl (fun s p => if s.phase p = 5 then s.setPhase p 1 else s) s
  else s

/-- VR_CTRL_CLEAR: a write of VR_CTRL by a secure requester (R549, R567). -/
def execVrCtrlClear (dt : Nat) (r : Req) (v : Word) (s : State) : Host.Outcome State Fault Refusal :=
  let s := s.tick dt
  if pathWin r.path ≠ pfWin then .next s
  else if !s.reqSecure r then .next s.powerDenied
  else
    let s := if bit v.toNat 0 then s.railClear 0 else s
    .next (if bit v.toNat 1 then s.railClear 1 else s)

/-! ### Temperature (R553 to R557) -/

/-- T_LIMIT of the grade in °C (R3, R554). -/
def State.tLimit (s : State) : Int := if s.row.automotive then 125 else 105

/-- A reading as a 16-bit Q8.8 field; beyond the field's range it stops at the nearer end (log entry 54). -/
def q88 (t : Int) : Nat := tobits 16 (clampI (-32768) 32767 t)

/-- The valid readings of the sensors of a domain, and of all. -/
def State.domainTemps (s : State) (d : Nat) : List Int :=
  (List.range 64).filterMap fun k => if (Config.sensorDomain k).val = d then tget none s.power.temps k else none
def State.allTemps (s : State) : List (Nat × Int) := (List.range 64).filterMap fun k => (tget none s.power.temps k).map fun t => (k, t)

/-- The highest of a list of readings. -/
def hottest : List Int → Option Int
  | [] => none
  | t :: r => some (r.foldl max t)

/-- The secure VF's ring takes an event too, where a VF is secure (R512, R534). -/
def State.emitSecure (s : State) (kind : Nat) (st : Status) (detail : Nat) : State :=
  let s := s.emit secWin kind st 0 detail
  if s.rb 0x00500008 1 ∧ s.safetyWin < 256 then s.emit s.safetyWin kind st 0 detail else s

/-- The units that stop with a domain at its trip: its own, and the check unit sets of its pipes (R534, R556; log entry 55). -/
def State.tripUnits (s : State) (d : Nat) : List Nat :=
  s.domainUnits d ++ (if d = 14 ∨ d = 15 then (List.range 8).filterMap fun i => s.unitIndex 0x70 ((d - 14) * 8 + i) else [])

/-- A tripped domain goes OFF (R556). -/
def State.tripOff (s : State) (d : Nat) : State :=
  ((((s.domainOff d).wb (domainReg d 4) 28 true).sat (domainReg d 0x10) 1)).mPower fun p =>
    { p with cool := tset 0 p.cool d 0, trips := tset 0 p.trips d 0 }

/-- A domain reaches its trip level: unclaimed units stop at once, covered ones 1 ms later (R534, R556). -/
def State.trip (s : State) (d : Nat) (t : Int) : State :=
  let us := s.tripUnits d
  let held := us.filter fun u => s.covered u
  let s := (us.filter fun u => !s.covered u).foldl (fun s u => s.unitStop u 4 none) s
  let det := d * 2 ^ 24 + q88 t
  let s := (s.emitPf 0x11 .fault det).emit secWin 0x11 .fault 0 det
  match held with
  | [] => s.tripOff d
  | _ =>
    let s := held.foldl (fun s u => s.emitSecure 0x21 .throttled (d * 2 ^ 24 + u % 4096)) s
    s.mPower fun p => { p with trips := tset 0 p.trips d (s.now + 1), secIrq := p.secIrq + 1 }

/-- The cap of a domain: it begins at T_LIMIT and ends below T_LIMIT − 3 °C; without a valid sensor the point is 0 and units read DEGRADED
(R555). -/
def State.capDomain (s : State) (d : Nat) : State :=
  let k := domainReg d 4
  let own := (List.range 64).any fun i => (Config.sensorDomain i).val == d
  let limit := s.tLimit * 256
  match hottest (s.domainTemps d) with
  | none =>
    if own then
      let s := (s.wf (domainReg d 0xC) 18 16 0).wf (domainReg d 0xC) 26 24 0
      (s.domainUnits d).foldl (fun s u => if (s.unit u).health = 0 then s.setHealth u 1 else s) s
    else s
  | some t =>
    let s := s.wr (domainReg d 0x14) (q88 t)
    let cap := s.rf 0x0010002C 2 0
    let capped := s.rb k 27
    let ends := capped && decide (t < limit - 768)
    let starts := !capped && decide (limit ≤ t)
    let s := if starts then (s.wb k 27 true).emitPf 0x10 .throttled (d * 2 ^ 24 + 2 ^ 16 + q88 t)
      else if ends then (s.wb k 27 false).emitPf 0x10 .throttled (d * 2 ^ 24 + q88 t) else s
    let top := if s.rb k 27 then cap else 7
    let blind := s.rf (domainReg d 0xC) 18 16 == 0 && cap != 0
    let s := (s.wf (domainReg d 0xC) 18 16 top).wf (domainReg d 0xC) 26 24 (min top (s.point d))
    if blind then (s.domainUnits d).foldl (fun s u => if (s.unit u).health = 1 then s.setHealth u 0 else s) s else s

/-- The trip level of a domain, and the time since which a tripped one is cool (R554, R556). -/
def State.tripDomain (s : State) (d : Nat) : State :=
  match hottest (s.domainTemps d) with
  | none => s
  | some t =>
    let s :=
      if s.rb (domainReg d 4) 28 then
        s.mPower fun p =>
          { p with cool := tset 0 p.cool d (if t < (s.tLimit - 5) * 256 then (if tget 0 p.cool d = 0 then s.now + 1 else tget 0 p.cool d) else 0) }
      else s
    if 4 ≤ d ∧ (s.tLimit + s.rf 0x0010002C 15 12) * 256 ≤ t ∧ ¬ s.domainAbsent d ∧ s.domainState d ≠ 0 ∧ tget 0 s.power.trips d = 0 then s.trip d t
    else s

/-- Whether a reading is valid: its elements differ by at most 4 °C and it lies from −64 to 191 °C (R553). -/
def sensorOk (t : Int) (diff : Nat) : Bool := diff ≤ 1024 && -16384 ≤ t && t ≤ 48896

/-- SENSOR_READ: the 64 sensors are read, each with its reading and the difference of its elements in 1/256 °C; domains are capped and tripped
(R553 to R556). -/
def execSensorRead (dt : Nat) (readings : List (Int × Nat)) (s : State) : Host.Outcome State Fault Refusal :=
  let s := s.tick dt
  if s.power.critical then .next s
  else
    let s := (readings.take 64).zipIdx.foldl (fun s x =>
      let ok := sensorOk x.1.1 x.1.2
      let s := s.mPower fun p => { p with temps := tset none p.temps x.2 (if ok then some x.1.1 else none) }
      s.wr (0x00109000 + x.2 * 4) (b2n ok * 2 ^ 31 + (Config.sensorDomain x.2).val * 2 ^ 24 + q88 x.1.1)) s
    let s := match s.allTemps with
      | [] => s
      | x :: r =>
        let hot := r.foldl (fun b y => if b.2 < y.2 then y else b) x
        let s := s.wr 0x00100030 (hot.1 * 2 ^ 16 + q88 hot.2)
        if s.power.hotMs = s.now / 1000000 + 1 then s
        else (s.recValue 3 0 hot.2).mPower fun p => { p with hotMs := s.now / 1000000 + 1 }
    .next ((List.range 24).foldl (fun s d => (s.capDomain d).tripDomain d) s)

/-- THERMAL_CLEAR: a tripped domain has stayed below T_LIMIT − 5 °C for 100 ms (R556). -/
def execThermalClear (dt d : Nat) (s : State) : Host.Outcome State Fault Refusal :=
  let s := s.tick dt
  let c := tget 0 s.power.cool d
  if s.rb (domainReg d 4) 28 ∧ c ≠ 0 ∧ c - 1 + 100000000 ≤ s.now then .next ((s.wb (domainReg d 4) 28 false).emitPf 0x12 .ok (d * 2 ^ 24))
  else .next s

/-- CLAIM_LOST: 1 ms after a trip the covered units stop, their claims read LOST, and the domain goes OFF (R534, R556). -/
def execClaimLost (dt d : Nat) (s : State) : Host.Outcome State Fault Refusal :=
  let s := s.tick dt
  let t := tget 0 s.power.trips d
  if t = 0 ∨ s.now < t - 1 + 1000000 then .next s
  else
    let held := (s.tripUnits d).filter fun u => s.covered u
    let s := held.foldl (fun s u =>
      let s := s.unitStop u 4 (some .lost)
      let s := s.mWorlds fun w =>
        let w := if (tget {} w.claims u).state = 1 then { w with claims := tset {} w.claims u ⟨2⟩ } else w
        if (tget {} w.claims 0).state = 1 then { w with claims := tset {} w.claims 0 ⟨2⟩ } else w
      s.emitSecure 0x22 .lost (d * 2 ^ 24 + u % 4096)) s
    .next (s.tripOff d)

/-! ### Clocks (R561) -/

/-- A CLOCK_FAULT event with the reference error (R569). -/
def State.clockEvent (s : State) (st : Status) (cause : Nat) : State := s.emitPf 0x15 st (cause * 2 ^ 24 + s.rf 0x00100028 15 0)

/-- REFERENCE_LOST: the reference stops (cause 1) or drifts (cause 2); the PLLs run from the internal oscillator (R561). -/
def execReferenceLost (dt cause ppm : Nat) (s : State) : Host.Outcome State Fault Refusal :=
  let s := s.tick dt
  let s := (s.wf 0x00100028 15 0 ppm).wb 0x00100028 31 false
  if s.rb 0x00100028 30 then .next s else .next ((s.wb 0x00100028 30 true).clockEvent .fault cause)

/-- REFERENCE_OK: the reference is good again; the device stays on the internal oscillator (R561). -/
def execReferenceOk (dt ppm : Nat) (s : State) : Host.Outcome State Fault Refusal :=
  .next (((s.tick dt).wf 0x00100028 15 0 ppm).wb 0x00100028 31 true)

/-- CLOCK_RETURN: POWER_CLK_CTRL.RETURN by a secure requester, once the reference is good (R561, R567). -/
def execClockReturn (dt : Nat) (r : Req) (v : Word) (s : State) : Host.Outcome State Fault Refusal :=
  let s := s.tick dt
  if pathWin r.path ≠ pfWin then .next s
  else if !s.reqSecure r then .next s.powerDenied
  else if bit v.toNat 0 ∧ s.rb 0x00100028 31 ∧ s.rb 0x00100028 30 then .next ((s.wb 0x00100028 30 false).clockEvent .ok 4)
  else .next s

/-- SLOW_CLOCK_LOST: no edge of the 32.768 kHz crystal for 100 µs; not reported in the first 1 s after PWRGOOD (R561). -/
def execSlowClockLost (dt : Nat) (s : State) : Host.Outcome State Fault Refusal :=
  let s := s.tick dt
  let s := s.wb 0x00100028 29 false
  if s.power.slowTold ∨ s.now < s.power.goodAt + 1000000000 then .next s
  else .next ((s.mPower fun p => { p with slowTold := true }).clockEvent .fault 3)

/-- SLOW_CLOCK_RETURN: the crystal has run within tolerance for 100 ms (R561). -/
def execSlowClockReturn (dt : Nat) (s : State) : Host.Outcome State Fault Refusal :=
  let s := s.tick dt
  let s := s.wb 0x00100028 29 true
  if s.power.slowTold then .next ((s.mPower fun p => { p with slowTold := false }).clockEvent .ok 5) else .next s

/-! ### Sleep and wake (R562 to R564, R697) -/

/-- SLEEP_REQUEST: POWER_SLEEP.GO = 1 (R562). -/
def execSleepRequest (dt : Nat) (r : Req) (v : Word) (s : State) : Host.Outcome State Fault Refusal :=
  let s := s.tick dt
  if pathWin r.path ≠ pfWin ∨ !bit v.toNat 31 then .next s
  else
    let st := firstFail [
      (!s.reqSecure r && s.worlds.claims.any fun c => c.2.state != 0, .claimed),
      (s.pipesOn 0 16 || (List.range s.row.vis).any fun w => s.viState w == 1, .badState),
      (s.rf 0x00100014 2 0 == 0, .badParam),
      (!s.rb 0x00100028 29, .fault)]
    let s := s.wf 0x00100010 22 16 st.code
    if st = .ok ∧ s.power.sleep = 0 then .next (s.mPower fun p => { p with sleep := 1, latched := 0 }) else .next s

/-- A device in sleep wakes: POWER_WAKE_SRC names the source and RAIL_EN rises; the warm start waits for RAILS_OK (R564, R697). -/
def State.wakeBegin (s : State) (src : Nat) : State :=
  (s.wr 0x00100020 src).mPower fun p => { p with sleep := 3, railEn := true, latched := 0, wakeOwed := true }

/-- A wake source that POWER_WAKE_CTRL arms: latched during sleep entry (R564). -/
def State.wakeFrom (s : State) (src : Nat) : State :=
  if !s.rb 0x00100014 (src - 1) then s
  else if s.power.sleep = 2 then s.wakeBegin src
  else if s.power.sleep = 1 ∧ s.power.latched = 0 then s.mPower fun p => { p with latched := src }
  else s

/-- WAKE_PIN: WAKE_IN_N held low for 10 µs (R564). -/
def execWakePin (dt : Nat) (s : State) : Host.Outcome State Fault Refusal := .next ((s.tick dt).wakeFrom 2)

/-- WAKE_TIME: device time has reached POWER_WAKE_TIME (R564). -/
def execWakeTime (dt : Nat) (s : State) : Host.Outcome State Fault Refusal :=
  let s := s.tick dt
  .next (if s.rd64 0x00100018 ≤ s.now then s.wakeFrom 3 else s)

/-- An electrode that the wake scanner finds touched: named, reported when the ring is back, and the device wakes (R431). -/
def State.wakeTouch (s : State) (e : Nat) : State :=
  let s := s.wr 0x03800018 (2 ^ 31 + e)
  let s := if s.power.sleep = 0 then s.emitPf 0x88 .ok e else s.mPower fun p => { p with touchOwed := some e }
  s.wakeFrom 1

/-- WAKE_SCAN: the wake scanner scans its armed electrodes, while TOUCH_HAP is OFF (R431). `readings` are by electrode. -/
def execWakeScan (dt : Nat) (readings : List Nat) (s : State) : Host.Outcome State Fault Refusal :=
  let s := s.tick dt
  if s.row.electrodes = 0 ∨ ¬ s.rb 0x03800010 31 ∨ s.domainState 21 ≠ 0 then .next s
  else
    let n := s.panel.wake.scans
    let th : Int := s.rf 0x03800014 15 0
    let armed := (List.range 16).filter fun e => s.rb 0x03800010 e
    let s := armed.foldl (fun s e =>
      let r := readings.getD e 0
      let b := tget 0 s.panel.wake.base e
      let touched := 4 ≤ n && decide (th ≤ elSignal true b r)
      let base := if n < 3 then b + r else if n = 3 then (b + r) * 64 else trackBase b r 6
      let c := if touched then tget 0 s.panel.wake.count e + 1 else 0
      let s := s.mPanel fun q => { q with wake := { q.wake with base := tset 0 q.wake.base e base, count := tset 0 q.wake.count e c } }
      if c = 2 then s.wakeTouch e else s) s
    .next (s.mPanel fun q => { q with wake := { q.wake with scans := n + 1 } })

end Sys2Proof.Machine
end

