-- ==== Sys2Proof/Machine/Budget.lean ====
section
/-!
DEFINITION. Budget: the budgeter's tick, its limits, grants, allotments, operating points and accounts (R341 to R343, R350 to R367).
-/
namespace Sys2Proof.Machine

/-! ### Limits (R350, R351, R365, R366) -/

/-- The lowest settable cap of a part in 0.1 W (R566). -/
def Variant.capMin : Variant → Nat
  | .zt1680 => 200
  | .zt1664 => 180
  | .zt1648 => 160
  | .zt1632n => 140
  | .zt1232 => 140
  | .zt0832a => 120
  | .zt0824a => 100
  | .zt0816a => 80
  | .zt0612a => 70
  | .zt0408a => 50
  | .zt0404a => 40
  | .zt0202a => 30

/-- A cap as BUDGET_CAP stores it (R365). -/
def State.capClamp (s : State) (v : Nat) : Nat := max s.variant.capMin (min (s.row.capMaxW * 10) v)

/-- Whether a requester may write the budgeter's registers: no other world's claim, else RESULT reads CLAIMED (R365). -/
def State.budgetClaimed (s : State) (r : Req) : Bool := s.claimedFor 0x15 0 r

/-- BUDGET_CAP_WRITE (R365). -/
def execBudgetCapWrite (dt : Nat) (r : Req) (v : Word) (s : State) : Host.Outcome State Fault Refusal :=
  let s := s.tick dt
  if pathWin r.path ≠ pfWin then .next s
  else if s.budgetClaimed r then .next (s.wf 0x0018000C 22 16 Status.claimed.code)
  else .next (s.wr 0x00180000 (s.capClamp (v.toNat % 65536)))

/-- θ in 0.001 °C per W; without a valid thermal model 0.5 °C per W (R351). -/
def State.theta (s : State) : Nat := if s.start.pset.theta = 0 then 500 else s.start.pset.theta

/-- P_thermal in mW from P_avg (R350, R351, R366). -/
def State.thermalMw (s : State) (pavg : Nat) : Int :=
  let t := s.allTemps
  let p : Int :=
    if t.length < 56 then (s.rf 0x00180000 15 0 * 50 : Nat)
    else
      let target : Int := s.tLimit - (s.rf 0x00180008 23 16 : Nat)
      match hottest (t.map (·.2)) with
      | none => 0
      | some h => pavg + (target * 256 - h) * 1000000 / ((256 * s.theta : Nat) : Int)
  if s.budget.derated then p * 85 / 100 else p

/-- P_supply in mW: what the multiphase rails may carry, which is their measured power plus their headroom (R550), and the measured power of the
other rails; BUDGET_SUPPLY limits it, and stands for it when the telemetry fails (R350, R366). -/
def State.supplyMw (s : State) (m : BudgetIn) : Nat :=
  let set := s.rf 0x00180004 15 0 * 100
  if m.supplyOk then
    let rail (r : Nat) : Nat :=
      ((s.railPhases r).filter fun p => s.phase p != 3 && s.phase p != 4 && s.phase p != 5).foldl
        (fun n p => n + s.rf (phaseReg p 0) 7 0 * s.railTarget r) 0
    let p := rail 0 + rail 1 + ((m.rails.take 16).drop 2).foldl (· + ·) 0
    if set = 0 then p else min p set
  else if set = 0 then s.rf 0x00180000 15 0 * 100 else set

/-! ### Operating points (R358, R362) -/

/-- The frequency in MHz and the energy per clock in pJ of a domain's point (R567). -/
def State.pointMhz (s : State) (d p : Nat) : Nat := s.rf (oppReg d p 0) 15 0
def State.pointPj (s : State) (d p : Nat) : Nat := s.rd (oppReg d p 4)

/-- A domain's table of points in which frequency or voltage falls from one point to the next is rejected at the tick, and the defaults are used
(R551). -/
def State.oppSettle (s : State) (d : Nat) : State :=
  let falls := (List.range 7).any fun p =>
    s.pointMhz d (p + 1) < s.pointMhz d p || s.rf (oppReg d (p + 1) 0) 31 16 < s.rf (oppReg d p 0) 31 16
  if falls then s.clr (oppReg d 0 0) 32 else s

/-- The highest point a domain may go to: CEILING (R362, R568). -/
def State.ceiling (s : State) (d : Nat) : Nat := s.rf (domainReg d 0xC) 18 16

/-- A point raised by at most two a tick, within the ceiling (R362). -/
def State.pointTo (s : State) (d want : Nat) : Nat := min (s.ceiling d) (min want (s.point d + 2))

/-- The point of a domain by its utilisation in percent, `urgent` where a deadline there is missed or due within 1 ms (R362). -/
def State.pointBusy (s : State) (d busy : Nat) (urgent : Bool) : Nat :=
  let p := s.point d
  s.pointTo d (if urgent then p + 2 else if 90 < busy then p + 1 else if busy < 50 then p - 1 else p)

/-- A queue with clusters in GFX domain `g` has its deadline missed or due within 1 ms (R362). -/
def State.gfxUrgent (s : State) (g : Nat) : Bool :=
  s.render.clusters.any fun c => c.1 / 8 == g && c.2 != 0 &&
    (match s.qDeadline c.2 with
     | some t => decide (t ≤ ((s.now + 1000000 : Nat) : Int)) || (match (s.queue c.2).deadline with | some d => d.missed | none => false)
     | none => false)

/-- The energy of a cluster for one tick with the GFX domains at given points: the highest of the domains that have clusters (R359, R552). -/
def State.clusterUj (s : State) (pts : List Nat) : Nat :=
  (pts.zipIdx.filter fun x => x.2 * 8 < s.row.clusters).foldl
    (fun m x => max m (cdiv (s.pointPj (8 + x.2) x.1 * s.pointMhz (8 + x.2) x.1 * 100) 1000000)) 0

/-- Clusters a queue can use (log entry 37). -/
def useOf (m : BudgetIn) (q : Nat) : Nat := match m.uses.find? (·.1 == q) with | some x => x.2 | none => 0

/-- Allotments of R359: queues in rank, the energy left of the class, the clusters left, and the energy of one. -/
def allotWalk (m : BudgetIn) (e : Nat) : List Nat → Nat → Nat → List (Nat × Nat)
  | [], _, _ => []
  | q :: r, rem, left =>
    let n := min (min (useOf m q) left) (if e = 0 then left else rem / e)
    (q, n) :: allotWalk m e r (rem - n * e) (left - n)

/-- Demand, grant and allotments of RENDER and FILL with the energy left, at an energy per cluster (R354, R359, R361). -/
structure Allots where
  rDemand : Nat
  rGrant : Nat
  fDemand : Nat
  fGrant : Nat
  list : List (Nat × Nat)
  deriving DecidableEq, Repr, Inhabited

def State.allots (s : State) (m : BudgetIn) (rem e : Nat) : Allots :=
  let qs := s.qRanked.filter fun q => s.qReady q
  let fg := qs.filter fun q => !(s.queue q).fill
  let bg := qs.filter fun q => (s.queue q).fill
  let need (l : List Nat) : Nat := l.foldl (fun n q => n + useOf m q * e) 0
  let rg := min (need fg) rem
  let up := s.clustersUp.length
  let a := allotWalk m e fg rg up
  let fgr := min (need bg) (rem - rg)
  let b := allotWalk m e bg fgr (up - a.foldl (fun n x => n + x.2) 0)
  ⟨need fg, rg, need bg, fgr, a ++ b⟩

/-- GFX points are lowered while the allotments would lose a cluster at the higher ones; the four domains step together (R362; log entry 56). -/
def State.gfxLower (s : State) (m : BudgetIn) (rem : Nat) (pts : List Nat) : Nat → List Nat
  | 0 => pts
  | fuel + 1 =>
    let low := pts.map (· - 1)
    let count (p : List Nat) : Nat := (s.allots m rem (s.clusterUj p)).list.foldl (fun n x => n + x.2) 0
    if count pts < count low then s.gfxLower m rem low fuel else pts

/-- Composition engines in service. -/
def State.enginesUp (s : State) : Nat := (List.range s.row.engines).countP fun i => s.unitUp 0x21 i

/-- The time to the latch point of a pipe's frame that runs, in ns: the first pixel of line V_ACTIVE (R160). -/
def State.toLatch (s : State) (p : Nat) : Nat :=
  let c := (s.pipe p).cfg
  (s.lockOf p).zeroAt + c.vActive * c.linePs / 1000 - s.now

/-- Compositions of a tick, earliest latch point first (R356). -/
def State.latchOrder (s : State) (l : List (Nat × Nat)) : List (Nat × Nat) :=
  l.foldl (fun o x => o.takeWhile (fun y => s.toLatch y.1 ≤ s.toLatch x.1) ++ [x] ++ o.dropWhile (fun y => s.toLatch y.1 ≤ s.toLatch x.1)) []

/-- Whether compositions, in the order of their latch points, finish in time at `mhz` on `n` engines. -/
def State.composeFits (s : State) (n mhz : Nat) : List (Nat × Nat) → Nat → Bool
  | [], _ => true
  | x :: r, before => (before + x.2) * 1000 ≤ s.toLatch x.1 * n * mhz && s.composeFits n mhz r (before + x.2)

/-- The COMPOSE point: the lowest at which every composition finishes, 7 when none does (R362). -/
def State.composePoint (s : State) (m : BudgetIn) : Nat :=
  let l := s.latchOrder m.compose
  s.pointTo 13 (((List.range 8).find? fun p => s.composeFits s.enginesUp (s.pointMhz 13 p) l 0).getD 7)

/-- A point put in force. -/
def State.setPoint (s : State) (d p : Nat) : State := s.wf (domainReg d 0xC) 26 24 p

/-! ### Accounts (R341 to R343, R363) -/

/-- The energy of the clusters is charged to the contexts that held them, in proportion to the time each held, and to their VIs (R363). -/
def State.chargeEnergy (s : State) (m : BudgetIn) : State :=
  s.budget.held.foldl (fun s x =>
    let c := x.1 / 2 ^ 24
    let q := x.1 % 2 ^ 24
    let total := s.budget.held.foldl (fun n y => if y.1 / 2 ^ 24 = c then n + y.2 else n) 0
    let uj := m.clusters.getD c 0 * x.2 / max 1 total
    if (s.qChan q).phase = .free then s
    else
      let w := s.qOwner q
      let s := s.mQueue q fun u => { u with energy := u.energy + uj }
      if w = pfWin then s else s.incr64 (0x00180208 + w * 0x10) uj) s

/-- The time clusters were held for each VI in the tick that ended joins the last 100 ticks (R341). -/
def State.noteHeld (s : State) : State :=
  let add (l : List (Nat × Nat)) (v n : Nat) : List (Nat × Nat) :=
    if l.any (·.1 == v) then l.map fun y => if y.1 = v then (v, y.2 + n) else y else l ++ [(v, n)]
  let row := s.budget.held.foldl (fun l x =>
    let q := x.1 % 2 ^ 24
    if (s.qChan q).phase = .free || s.qOwner q == pfWin then l else add l (s.qOwner q) x.2) []
  s.mBudget fun b => { b with hist := (row :: b.hist).take 100, held := [] }

/-- The render use of a VI in 1/1,024 (R341). -/
def State.renderUse (s : State) (v : Nat) : Nat :=
  let ns := s.budget.hist.foldl (fun n r => r.foldl (fun n y => if y.1 = v then n + y.2 else n) n) 0
  min 1024 (ns * 1024 / (10000000 * max 1 s.clustersUp.length))

/-- A VI is held at or above its render share, and released below it (R341, R342, R370). -/
def State.shareVi (s : State) (v : Nat) : State :=
  let k := 0x00180200 + v * 0x10
  let use := s.renderUse v
  let share := s.rf k 10 0
  let held := decide (share ≤ use) && decide (share < 1024)
  let was := s.rb k 15
  let s := (s.wf k 31 16 use).wb k 15 held
  if held && !was then s.emit v 0x61 .throttled 0 (share * 2 ^ 16 + use) else s

/-- The composition use of a VI in 1/1,024, and the COMPOSE_SHARE event when it rises to its share (R343, R370). -/
def State.composeVi (s : State) (v : Nat) : State :=
  let k := 0x00180204 + v * 0x10
  let clocks := s.display.use.foldl (fun n x => if x.2.1 = v then n + x.2.2 else n) 0
  let use := min 1024 (clocks * 1024 / max 1 (s.enginesUp * s.pointMhz 13 (s.point 13) * 10000))
  let share := s.rf k 10 0
  let ovr := decide (share ≤ use) && decide (share < 1024)
  let was := s.rb k 15
  let s := (s.wf k 31 16 use).wb k 15 ovr
  if ovr && !was then s.emitPf 0x64 .throttled (v * 2 ^ 16 + use) else s

/-! ### The tick -/

/-- The registers of a class, and its shortfall (R355). -/
def State.classNote (s : State) (c demand grant used : Nat) : State :=
  let k := 0x00180100 + c * 0x10
  let sat (n : Nat) : Nat := min 0xFFFFFFFF n
  let s := ((s.wr k (sat demand)).wr (k + 4) (sat grant)).wr (k + 8) (sat used)
  if grant < demand then
    let s := s.sat (k + 12) 1
    if s.budget.short.contains c then s
    else (s.emitPf 0x63 .throttled (c * 2 ^ 28 + min 0xFFFFFFF grant)).mBudget fun b => { b with short := b.short ++ [c] }
  else s.mBudget fun b => { b with short := b.short.filter (· != c) }

/-- The bank after the tick that ended (R352). -/
def State.bankNext (s : State) (used : Nat) : Int :=
  match s.budget.e with
  | none => 0
  | some e =>
    let b := clampI (-(10 * e : Nat)) ((s.rf 0x00180008 11 8 * e : Nat) : Int) (sext 32 (s.rd 0x00180018) + e - used)
    if s.rf 0x0018000C 31 30 = 1 then min b 0 else b

/-- BUDGET_TICK: the tick that ended is measured and banked, limits and budget are fixed, classes are granted, clusters allotted and points
chosen (R341, R343, R350 to R364, R366). -/
def execBudgetTick (dt : Nat) (m : BudgetIn) (s : State) : Host.Outcome State Fault Refusal :=
  let s := s.tick dt
  -- The tick that ended.
  let s := s.render.clusters.foldl (fun s c => s.clusterCount c.1) s
  let s := (s.chargeEnergy m).noteHeld
  let s := (List.range 16).foldl (fun s k => s.wr (0x0010A000 + k * 4) (m.rails.getD k 0)) s
  let used (c : Nat) : Nat := m.used.getD c 0
  let total := (List.range 9).foldl (fun n c => n + used c) 0
  let bank := s.bankNext total
  -- The first tick of a start; a warm start is not derated (R351, R586).
  let cold := s.budget.first.isNone
  let s := s.mBudget fun b =>
    { b with missed := 0, powers := (total :: b.powers).take 10, ticks := b.ticks + 1, derated := (cold && !s.rb 0x00200000 25) || b.derated,
             first := if cold then some s.now else b.first }
  let s := (List.range 24).foldl (fun s d => s.oppSettle d) s
  -- Limits and budget.
  let pavg := (s.budget.powers.foldl (· + ·) 0) * 10 / max 1 s.budget.powers.length
  let cap : Int := ((s.rf 0x00180000 15 0 * 100 : Nat) : Int)
  let th := s.thermalMw pavg
  let su : Int := (s.supplyMw m : Nat)
  let limit := if cap ≤ th ∧ cap ≤ su then 0 else if th ≤ su then 1 else 2
  let plim := (min cap (min th su)).toNat
  let e := plim / 10
  let dw := min 65535 (plim / 100)
  let temps := s.allTemps
  let hot : Nat := match hottest (temps.map (·.2)) with | some t => (clampI 0 255 (t / 256 + 64)).toNat | none => 0
  let changed := s.rf 0x0018000C 31 30 != limit
  let s := ((s.wf 0x0018000C 31 28 (limit * 4 + b2n s.budget.derated * 2)).wf 0x0018000C 15 0 dw).incr64 0x00180010 1
  let s := s.wr 0x00180018 (tobits 32 bank)
  let s := s.wr 0x0018001C (temps.length * 2 ^ 24 + hot * 2 ^ 16 + min 65535 (th.toNat / 100))
  let s := s.recValue 0x0A 0 (dw : Nat)
  let s := if changed then s.emitPf 0x62 .throttled (limit * 2 ^ 30 + dw) else s
  let s :=
    match s.unitIndex 0x15 0 with
    | some u =>
      let bad := !m.supplyOk || decide (temps.length < 56)
      if bad && (s.unit u).health == 0 then s.setHealth u 1 else if !bad && (s.unit u).health == 1 then s.setHealth u 0 else s
    | none => s
  -- Classes in their order.
  let rem : Int := (e : Int) + bank - (List.range 5).foldl (fun n c => n + used c) 0
  let rem := rem.toNat
  let cp := s.composePoint m
  let clocks := min (m.compose.foldl (fun n x => n + x.2) 0) (s.enginesUp * s.pointMhz 13 cp * 100)
  let cd := cdiv (clocks * s.pointPj 13 cp) 1000000
  let cg := min cd rem
  let rem := rem - cg
  let ap (d : Nat) : Nat := s.pointBusy d (m.busy.getD (d - 2) 0) false
  let rate (d p : Nat) : Nat := s.pointPj d p * s.pointMhz d p
  let old := rate 6 (s.point 6) + rate 7 (s.point 7)
  let ad := if old = 0 then used 6 else used 6 * (rate 6 (ap 6) + rate 7 (ap 7)) / old
  let ag := min ad rem
  let rem := rem - ag
  let ap (d : Nat) : Nat := if ag < ad then min (ap d) (s.point d - 1) else ap d
  let gp := s.gfxLower m rem ((List.range 4).map fun g => s.pointBusy (8 + g) (m.busy.getD g 0) (s.gfxUrgent g)) 8
  let a := s.allots m rem (s.clusterUj gp)
  let s := (List.range 5).foldl (fun s c => s.classNote c (used c) (used c) (used c)) s
  let s := (((s.classNote 5 cd cg (used 5)).classNote 6 ad ag (used 6)).classNote 7 a.rDemand a.rGrant (used 7)).classNote 8 a.fDemand a.fGrant (used 8)
  let s := s.mRender fun r => { r with allot := a.list.foldl (fun t x => tset 0 t x.1 x.2) [] }
  let s := s.mBudget fun b => { b with e := some e, ready := a.list.map (·.1) }
  let s := gp.zipIdx.foldl (fun s x => s.setPoint (8 + x.2) x.1) (((s.setPoint 13 cp).setPoint 6 (ap 6)).setPoint 7 (ap 7))
  -- Shares.
  let s := s.mDisplay fun d => { d with use := d.use.filter fun x => s.now < x.1 + 10000000 }
  .next ((List.range s.row.vis).foldl (fun s v => (s.shareVi v).composeVi v) s)

/-- The budgeter has missed 10 consecutive ticks: it reads FAULT, from which a Husk resets it (R608). -/
def State.budgeterLost (s : State) : State :=
  match s.unitIndex 0x15 0 with
  | some u =>
    if s.budget.missed = 10 ∧ (s.unit u).health ≤ 1 then (s.mUnit u fun x => { x with lastStatus := Status.timeout.code }).setHealth u 2 else s
  | none => s

/-- SAFE_BUDGETING: a tick is missed: nothing is allotted, and the GFX and APP domains go to point 0, until a tick completes (R367). -/
def execSafeBudgeting (dt : Nat) (s : State) : Host.Outcome State Fault Refusal :=
  let s := s.tick dt
  let s := (s.wb 0x0018000C 28 true).mRender fun r => { r with allot := [] }
  let s := (s.mBudget fun b => { b with ready := s.qRanked, missed := min 11 (b.missed + 1) }).budgeterLost
  .next ([6, 7, 8, 9, 10, 11].foldl (fun s d => s.setPoint d 0) s)

/-- DERATING_END: 10 s after the first tick of the cold start, or, without a thermal model, after 10 s of measurements (R351). -/
def execDeratingEnd (dt : Nat) (s : State) : Host.Outcome State Fault Refusal :=
  let s := s.tick dt
  let due := match s.budget.first with
    | some t => if s.start.pset.theta = 0 then decide (100000 ≤ s.budget.ticks) else decide (t + 10000000000 ≤ s.now)
    | none => false
  if s.budget.derated && due then .next ((s.mBudget fun b => { b with derated := false }).wb 0x0018000C 29 false) else .next s

end Sys2Proof.Machine
end

