-- ==== Sys2Proof/Machine/Bus.lean ====
section
/-!
DEFINITION. Bus: a write of a register word by its address: by the access code of each field (R9, R11, R12), with the limits the register tables
give, and by the meaning of the command where the register has one of its own. Writes of the write lists of a Canyx image (R578), of remote
accesses (R635) and of REGISTER_WRITE come here.
-/
namespace Sys2Proof.Machine

/-- The state an outcome goes on from. -/
def goOn (s : State) : Host.Outcome State Fault Refusal → State
  | .next t => t
  | _ => s

/-- A number held between two limits. -/
def near (lo hi v : Nat) : Nat := max lo (min hi v)

/-- The LOCK bit of the block of a key; a block without one never locks (R12). -/
def State.locked (s : State) (k : Nat) : Bool :=
  if k < 0x00200000 then s.rb 0x00100008 0
  else if 0x00500000 ≤ k ∧ k < 0x00600000 then s.rb 0x00500004 0
  else if 0x03000000 ≤ k ∧ k < 0x03800000 then s.rb audioLock 0
  else if 0x03E00000 ≤ k ∧ k < 0x04000000 then s.rb 0x03E00004 0
  else if 0x05000000 ≤ k ∧ k < 0x06000000 then s.rb 0x0500000C 0
  else false

/-- A word written by its access codes alone. A W1C bit that hardware set at this instant stays set (R13). -/
def State.plain (s : State) (k v : Nat) : State :=
  match keyRow k with
  | some (row, high) => s.wr k (accessWrite row high (s.locked k) (s.rd k) v ||| (s.rd k &&& tget 0 s.cycle.raised k))
  | none => s

/-- A 64-bit register written by its access codes alone; `k` is the key of its low word. -/
def State.plain64 (s : State) (k v : Nat) : State := (s.plain k v).plain (k + 4) (v / 2 ^ 32)

/-! ### The Pip list areas (R617, R618) -/

/-- The sprites of the first `n` entries of a list area whose words `rd` reads (R618). -/
def listFrom (rd : Nat → Nat) : Nat → List Sprite
  | 0 => []
  | n + 1 =>
    let k := n * 0x10
    let l := listFrom rd n
    if bit (rd (k + 4)) 31 then l ++ [⟨bits (rd (k + 4)) 21 16, bits (rd k) 31 16, bits (rd (k + 4)) 15 0, rd (k + 12)⟩] else l

/-- The sprites of the first `n` entries of the safety owner's list area of a pipe (R618). -/
def State.listOf (s : State) (p n : Nat) : List Sprite := listFrom (fun o => s.rd (0x00308000 + p * 0x400 + o)) n

/-- The Pip lane firmware overrides the list of a pipe with the first COUNT entries of its own, or with COUNT 0 and no COMMIT ends the override
(R619; log entry 78). -/
def State.listOverride (s : State) (p v : Nat) : State :=
  let k := 0x00308204 + p * 0x400
  let n := min 32 (bits v 5 0)
  if bit v 31 then
    (s.mPip fun q => { q with overrides := tset none q.overrides p (some (listFrom (fun o => tget 0 q.own (p * 0x400 + o)) n)) }).wb k 31 true
  else if n = 0 then (s.mPip fun q => { q with overrides := tset none q.overrides p none }).wb k 31 false
  else s

/-- A write of PIP_LIST_CTRL: COUNT and REPLACE are stored, and COMMIT captures the list (R221, R617). -/
def State.listCtrl (s : State) (r : Req) (p v : Nat) (hosts : List HostRun) : State :=
  if s.pipShut r then s
  else
    match s.pipRefusal r p with
    | some st => s.wf (0x00308204 + p * 0x400) 22 16 st.code
    | none =>
      let s := goOn s (execPipReplaceWrite 0 r p (bit v 30) hosts s)
      if r.path = .pip then s.listOverride p v
      else
        let k := 0x00308200 + p * 0x400
        let s := s.wf k 5 0 (min 32 (bits v 5 0))
        if bit v 31 then
          (s.mPip fun q => { q with captured := tset none q.captured p (some (s.listOf p (s.rf k 5 0))) }).raise (k + 4) 29
        else s

/-- PIP_LIST_COMMIT: a write of PIP_LIST_CTRL with COMMIT = 1 (R617). -/
def execPipListCommit (dt : Nat) (r : Req) (p : Nat) (v : Word) (hosts : List HostRun) (s : State) : Host.Outcome State Fault Refusal :=
  .next ((s.tickMem dt hosts).listCtrl r p (v.toNat ||| 2 ^ 31) hosts)

/-- A write at offset `o` of a list area (R617, R623). -/
def State.listWord (s : State) (r : Req) (p o v : Nat) : State :=
  if s.row.pipes ≤ p ∨ s.pipShut r then s
  else if o = 0x200 then s.listCtrl r p v []
  else
    match s.pipRefusal r p with
    | some st => if o < 0x208 then s.wf (0x00308204 + p * 0x400) 22 16 st.code else s
    | none =>
      if r.path = .pip then s.mPip fun q => { q with own := if o < 0x200 then tset 0 q.own (p * 0x400 + o) (v % 2 ^ 32) else q.own }
      else s.plain (0x00308000 + p * 0x400 + o) v

/-! ### A channel window (R44) -/

/-- A write of EVR_CTRL, or of WORLD_SEVR_CTRL, with ENABLE = 0: an enabled ring is disabled and keeps its LOG2 (R68, R69). -/
def State.evrStop (s : State) (w : Nat) (v : Word) : State :=
  if s.rb (evr w).ctrl 31 then s.wb (evr w).ctrl 31 false else s.wr (evr w).ctrl (bits v.toNat 3 0)


/-- A word of a window written. Ring entries, commits, translations, streams and haptic slots act as their own commands do. -/
def State.winWord (s : State) (r : Req) (w o : Nat) (v : Word) : State :=
  let k := win w + o
  let open_ := !s.winIgnores w
  let keep : State := if open_ then s.plain k v.toNat else s
  if o < 0x10000 then (if o % 0x100 = 0 then goOn s (execRingDoorbell 0 w (o / 0x100) v s) else s)
  else if o < 0x12000 then
    let n := (o - 0x10000) / 0x20
    if o % 0x20 = 8 then
      goOn s (if bit v.toNat 31 then execRingEnable 0 w n v s else execRingDisable 0 w n v [] s)
    else if o % 0x20 = 0x18 then keep else s
  else if 0x13000 ≤ o ∧ o < 0x13200 then
    (if o % 0x20 = 8 then goOn s (execCommitToken 0 w ((o - 0x13000) / 0x20) v s) else s)
  else if 0x13400 ≤ o ∧ o < 0x13500 then (if o % 0x10 = 0xC ∧ (o - 0x13400) / 0x10 < s.row.pipes ∧ s.pipeGranted w ((o - 0x13400) / 0x10) then keep else s)
  else if 0x14000 ≤ o ∧ o < 0x1C000 then
    (if o % 0x800 < 0x400 ∧ (regionMask (o % 0x40)).isSome then goOn s (execChkWrite 0 r o v s)
     else match s.checkAddr r o with
       | some k => (s.setClaimed r ((k - 0x03C10000) / 0x1000)).getD (s.plain k v.toNat)
       | none => s)
  else if o = 0x1D000 then
    (if w = pfWin ∨ !s.fnSecure w then s
     else
      match bits v.toNat 31 30 with
      | 1 => goOn s (execClaimTake 0 r (bits v.toNat 11 0) s)
      | 2 => goOn s (execClaimRelease 0 r (bits v.toNat 11 0) s)
      | 3 => goOn s (execClaimRearm 0 r (bits v.toNat 11 0) s)
      | _ => s)
  else if o = 0x1C008 then goOn s (s.xlateOp w v [0, 1, 2, 3])
  else if 0x20000 ≤ o ∧ o < 0x21000 then
    (if o % 0x10 = 0 then goOn s (execStreamRun 0 w ((o - 0x20000) / 0x10) v s) else keep)
  else if 0x21000 ≤ o ∧ o < 0x22000 then
    (if o % 0x10 = 0 then
      let s := if bit v.toNat 0 then goOn s (execHslotPlay 0 w ((o - 0x21000) / 0x10) s) else s
      if bit v.toNat 1 then goOn s (execHslotStop 0 w ((o - 0x21000) / 0x10) s) else s
     else s)
  else if 0x30000 ≤ o ∧ o < 0x34000 then s.listWord r ((o - 0x30000) / 0x400) (o % 0x400) v.toNat
  else if o = 0x80004 then goOn s (execRecClear 0 r true v s)
  else if o = 0x90008 then
    (if bit v.toNat 31 then goOn s (execEvrEnable 0 w v s) else if open_ then s.evrStop w v else s)
  else if o = 0x9000C then goOn s (execEvrHeadWrite 0 w v s)
  else keep

/-- A 64-bit register of a window written: a ring's base stays while the ring is enabled (R53, R68). -/
def State.winWide (s : State) (w o v : Nat) : State :=
  let k := win w + o
  if s.winIgnores w then s
  else if 0x10000 ≤ o ∧ o < 0x12000 then (if s.rb (k + 8) 31 then s else s.plain64 k v)
  else if 0x13000 ≤ o ∧ o < 0x13200 ∧ s.row.pipes ≤ (o - 0x13000) / 0x20 then s
  else if o = 0x90000 then (if s.rb (evr w).ctrl 31 then s else s.plain64 k v)
  else s.plain64 k v

/-! ### POWER and the budgeter -/

/-- A word of the POWER block written (R350, R365, R369, R567, R568). Changes of RWL fields, POWER_CLK_CTRL and VR_CTRL by a normal requester
are refused with DENIED. -/
def State.powerWord (s : State) (r : Req) (k : Nat) (v : Word) : State :=
  let n := v.toNat
  let rwl (x : Nat) : State := if s.reqSecure r then s.plain k x else s.powerDenied
  if 0x00180000 ≤ k then
    match k with
    | 0x00180000 => goOn s (execBudgetCapWrite 0 r v s)
    | 0x00180004 => if s.budgetClaimed r then s.wf 0x0018000C 22 16 Status.claimed.code else s.plain k n
    | 0x00180008 =>
      if s.budgetClaimed r then s.wf 0x0018000C 22 16 Status.claimed.code
      else s.plain k (min 40 (bits n 23 16) * 2 ^ 16 + min 10 (bits n 11 8) * 2 ^ 8)
    | 0x00180020 => s.plain k (near 100 100000 (bits n 16 0))
    | 0x00180024 => s.plain k (near 1 60000 (bits n 15 0))
    | _ => s
  else if k = 0x00100010 then goOn s (execSleepRequest 0 r v s)
  else if k = 0x00100024 then goOn s (execClockReturn 0 r v s)
  else if k = 0x00108000 then goOn s (execVrCtrlClear 0 r v s)
  else if k = 0x0010000C then rwl (max 20 (bits n 7 0))
  else if k = 0x0010002C then rwl (setBits n 11 7 (near (bits n 15 12 + 2) 20 (bits n 11 7)))
  else if 0x00101000 ≤ k ∧ k < 0x00101300 then
    match k % 0x20 with
    | 0 => goOn s (execPowerDomCtrlWrite 0 r ((k - 0x00101000) / 0x20) v s)
    | 8 => rwl (near 10 10000 (bits n 15 0))
    | _ => s
  else if 0x00102000 ≤ k ∧ k < 0x00103000 then rwl n
  else if 0x00108010 ≤ k ∧ k < 0x00108030 ∧ k % 0x10 = 4 then rwl (near 1 16 (bits n 15 8) * 2 ^ 8 + near 1 50 (bits n 7 0))
  else if 0x00108100 ≤ k ∧ k < 0x00108200 ∧ k % 0x10 = 0 then rwl n
  else s.plain k n

/-! ### HUSK, VIMGR, WORLD and MEM -/

/-- A word of the HUSK block written (R623, R624). -/
def State.huskWord (s : State) (r : Req) (k n : Nat) : State :=
  if 0x00308000 ≤ k ∧ k < 0x0030C000 then s.listWord r ((k - 0x00308000) / 0x400) (k % 0x400) n
  else if k = 0x00300004 ∧ s.reqSecure r then s.plain k (near 1 15 (bits n 23 16) * 2 ^ 16 + near 1 3600 (bits n 15 0))
  else s

/-- A word of the VIMGR block written (R480, R507). A command whose parameter block lies in memory is its own command. -/
def State.vimgrWord (s : State) (r : Req) (k n : Nat) : State :=
  if k = 0x00400004 then s.plain k (near 100 200000 (bits n 17 0))
  else if k = 0x00400018 then
    (if bits n 31 24 = 0 ∨ 0x0C < bits n 31 24 ∨ bits n 23 16 ≠ 0 then
      s.vimCmd r (bits n 31 24 + 256 * bits n 23 16) (bits n 15 0) none (fun _ s => s) else s)
  else s.plain k n

/-- HULL_CMD written by a hart through its address: what a command needs to know of the hart itself, where it goes on and what it leaves in x10 and
x11, comes with ENTER and EXIT only as commands of their own; an opcode R520 does not list is out of range (R520, R521). -/
def State.hullWord (s : State) (r : Req) (n : Nat) : State :=
  match bits n 7 0 with
  | 1 => goOn s (execHullCreate 0 r s)
  | 2 => goOn s (execHullAdd 0 r s)
  | 3 => goOn s (execHullSeal 0 r s)
  | 4 => s
  | 5 => s
  | 6 => goOn s (execHullWindowOpen 0 r s)
  | 7 => goOn s (execHullWindowClose 0 r s)
  | 8 => goOn s (execHullReport 0 r s)
  | 9 => goOn s (execHullDestroy 0 r s)
  | _ => match s.hartOf r with | some h => s.hullResult h .badParam | none => s

/-- A word of the WORLD block written (R513, R515, R530, R531, R535). -/
def State.worldWord (s : State) (r : Req) (k : Nat) (v : Word) : State :=
  let n := v.toNat
  let sec := s.reqSecure r
  if k = 0x00504020 ∧ (s.hartOf r).isSome then s.hullWord r n
  else if (k = 0x00500038 ∨ (0x00500100 ≤ k ∧ k < 0x005001C0)) ∧ !sec && !dbgPath r then s.worldDenied
  else if k = 0x00500038 then
    let s := if bit n 0 then goOn s (execDebugTokenSubmit 0 r s) else s
    if bit n 1 then goOn s (execDebugRevoke 0 r s) else s
  else if 0x00500100 ≤ k ∧ k < 0x005001C0 then s.plain k n
  else if !sec then s.worldDenied
  else if k = 0x00500200 then
    match bits n 31 30 with
    | 1 => goOn s (execClaimTake 0 r (bits n 11 0) s)
    | 2 => goOn s (execClaimRelease 0 r (bits n 11 0) s)
    | 3 => goOn s (execClaimRearm 0 r (bits n 11 0) s)
    | _ => s
  else if k = 0x00500218 then
    (if bit n 31 then goOn s (execEvrEnable 0 secWin v s) else s.evrStop secWin v)
  else if k = 0x0050021C then goOn s (execEvrHeadWrite 0 secWin v s)
  else if 0x00501000 ≤ k ∧ k < 0x00503000 then
    let c := (k - 0x00501000) / 0x800
    let e := (k - 0x00501000) % 0x800 / 0x20
    if k % 0x20 = 0x1C then goOn s (execRcEntryCommit 0 r c e v s)
    else if s.rb 0x00500004 0 then s.wf (rcReg c 0) 22 16 Status.denied.code
    else s.wr k n
  else s.plain k n

/-- A word of the MEM block written (R103, R105). -/
def State.memWord (s : State) (k : Nat) (v : Word) : State :=
  let n := v.toNat
  if k = 0x00600010 then s.plain k (max 1 (bits n 23 16) * 2 ^ 16 + bits n 7 0)
  else if k = 0x00600014 then s.plain k (max 1 (bits n 7 0))
  else if 0x00600040 ≤ k ∧ k < 0x00600080 then goOn s (execMemBwClassWrite 0 ((k - 0x00600040) / 0x20) (k % 0x20 / 4) v s)
  else s.plain k n

/-! ### LAYER, PIPE, RENDER and CHECK -/

/-- A word of the LAYER block written (R125, R127, R138, R155). -/
def State.layerWord (s : State) (r : Req) (k : Nat) (v : Word) : State :=
  if 0x01000100 ≤ k ∧ k < 0x01000200 ∧ k % 0x10 = 0 then
    (let p := (k - 0x01000100) / 0x10
     if s.row.pipes ≤ p then s else s.plain k v.toNat)
  else if 0x01020000 ≤ k ∧ k < 0x01040000 then goOn s (execLayerTableWrite 0 r k v s)
  else s.plain k v.toNat

/-- A word of the PIPE block written (R199 to R245). -/
def State.pipeWord (s : State) (r : Req) (k : Nat) (v : Word) : State :=
  let n := v.toNat
  if k < 0x01900000 then
    let p := (k - 0x01800000) / 0x10000
    let o := k % 0x10000
    let own (x : Nat) : State := if s.pipeClaimed p r then s.pipeResult p .claimed else s.plain k x
    if 0x8000 ≤ o ∧ o < 0xC000 then
      match s.portClaimed (if o < 0xA000 then 1 else 2) p r with
      | some q => s.pipeResult q .claimed
      | none =>
        match o with
        | 0x8000 => (s.plain k n).portSettle p
        | 0x8008 => goOn s (execDpRetrain 0 r p v s)
        | 0x800C => goOn s (execDpAuxCmd 0 r p v s)
        | 0xA000 => (s.plain k n).portSettle p
        | 0xA008 => goOn s (execDsiCmd 0 r p v s)
        | _ => s.plain k n
    else if s.row.pipes ≤ p then s
    else
      match o with
      | 0x0 =>
        if bit n 30 then goOn s (execPipeReconfig 0 r p v s)
        else if bit n 31 then goOn s (execPipeEnable 0 r p v s)
        else goOn s (execPipeDisable 0 r p v s)
      | 0x24 => own n
      | 0x28 => own (setBits n 15 8 (min 100 (bits n 15 8)))
      | _ => s.plain k n
  else if 0x01B00000 ≤ k ∧ k < 0x01B00080 then
    (if k % 0x10 < 0xC then goOn s (execPllWrite 0 r ((k - 0x01B00000) / 0x10) (k % 0x10 / 4) v s) else s)
  else if 0x01B01000 ≤ k ∧ k < 0x01B01080 then
    (if k % 0x10 = 0 then goOn s (execDscCfgWrite 0 r ((k - 0x01B01000) / 0x10) v s) else s)
  else s.plain k n

/-- A word of the RENDER block written (R323, R329). -/
def State.renderWord (s : State) (k n : Nat) : State :=
  if 0x02010000 ≤ k ∧ k % 0x10 = 8 then
    let s := s.plain k (min 1024 (bits n 31 16) * 2 ^ 16)
    let c := (k - 0x02010000) / 0x10
    match s.render.queues.find? fun q => q.2.ctx == c && (s.qChan q.1).phase != .free with
    | some q => s.poolTrim q.1
    | none => s
  else s.plain k n

/-- A word of the CHECK block written (R254, R262, R265, R273). -/
def State.checkWord (s : State) (r : Req) (k : Nat) (v : Word) : State :=
  if 0x03C20000 ≤ k ∧ k < 0x03C21000 then
    let u := (k - 0x03C20000) / 0x40
    if s.dcuDirect ≤ u then s.dcuClosed r u else
    match k % 0x40 with
    | 0x00 => goOn s (execDcuCfgWrite 0 r u v s)
    | 0x30 => goOn s (execDcuData 0 r u v s)
    | 0x34 => goOn s (execDcuData8 0 r u v s)
    | 0x38 => if bit v.toNat 0 then goOn s (execDcuRestart 0 r u s) else s
    | _ => s
  else if 0x03C10000 ≤ k ∧ k < 0x03C20000 then
    let p := (k - 0x03C10000) / 0x1000
    if k % 0x1000 < 0x400 ∧ (regionMask (k % 0x40)).isSome then goOn s (execChkWrite 0 r k v s)
    else if s.row.pipes ≤ p then s
    else (s.setClaimed r p).getD (s.plain k v.toNat)
  else s

/-! ### AUDIO, TOUCH, HAPTIC and REFLEX -/

/-- A word of the AUDIO block written (R377, R378, R386, R388, R391, R393 to R396, R403). -/
def State.audioWord (s : State) (r : Req) (k : Nat) (v : Word) : State :=
  let n := v.toNat
  if 0x03100000 ≤ k ∧ k < 0x03200000 then (if s.audioClaimed r then s.audioResult .claimed else s.bankWrite (k - 0x03100000) n)
  else if k = 0x03000010 then goOn s (execAudioSwapGo 0 r v s)
  else if k = 0x0300001C then goOn s (execAudioPathSelWrite 0 r v s)
  else if 0x03000040 ≤ k ∧ k < 0x03000080 then
    let d := (k - 0x03000040) / 0x20
    if k % 0x20 ≠ 0 then s
    else if bit n 31 = s.rb k 31 then goOn s (execAudioDomCtrlWrite 0 r d v s)
    else if bit n 31 then goOn s (execAudioDomainEnable 0 r d v s)
    else goOn s (execAudioDomainDisable 0 r d v s)
  else if 0x03000200 ≤ k ∧ k < 0x03000280 then
    match k % 0x20 with
    | 0x0C => goOn s (execSwrCmd 0 r ((k - 0x03000200) / 0x20) v s)
    | 0x10 => if s.audioClaimed r then s.audioResult .claimed else s.plain k n
    | _ => goOn s (execAudioMapWrite 0 r k v s)
  else if 0x03000100 ≤ k ∧ k < 0x03000200 then goOn s (execAudioMapWrite 0 r k v s)
  else if 0x03002000 ≤ k ∧ k < 0x03002400 then
    let p := (k - 0x03002000) / 0x10
    match k % 0x10 with
    | 0 =>
      let s := if bit n 0 then goOn s (execPlayerTrigger 0 r p s) else s
      if bit n 1 then goOn s (execPlayerStop 0 r p s) else s
    | 8 => goOn s (execAudioMapWrite 0 r k v s)
    | _ => s
  else if 0x03004000 ≤ k ∧ k < 0x03005000 then goOn s (execAudioMapWrite 0 r k v s)
  else if s.audioClaimed r then s.audioResult .claimed
  else s.plain k n

/-- A word of the TOUCH block written (R411, R414, R415, R425, R431, R433, R434). -/
def State.touchWord (s : State) (r : Req) (k : Nat) (v : Word) : State :=
  let n := v.toNat
  if k = 0x03800010 then
    (if s.row.electrodes = 0 then s
     else (s.plain k (setBits n 23 16 (near 20 200 (bits n 23 16)))).mPanel fun p => { p with wake := {} })
  else if k = 0x03800014 then s.plain k n
  else if 0x03801000 ≤ k ∧ k < 0x03801400 then
    let b := (k - 0x03801000) / 0x40
    if s.blocks ≤ b then s
    else if s.blkClaimed b r then s.touchResult .claimed
    else
      match keyRow k with
      | some (row, _) => if k % 0x40 < 0x10 then s.blkWrite b (k % 0x40) (n &&& row.rw) else s
      | none => s
  else if 0x03810000 ≤ k ∧ k < 0x03814000 then
    let e := (k - 0x03810000) / 0x20
    match k % 0x20 with
    | 0 => goOn s (execTelCtrlWrite 0 r e v s)
    | 4 => goOn s (execTelThreshWrite 0 r e v s)
    | 8 =>
      if s.row.electrodes ≤ e then s
      else if s.blkClaimed (e / 32) r then s.touchResult .claimed
      else s.plain k (min 3600 (bits n 11 0))
    | _ => s
  else s

/-- A word of the HAPTIC and REFLEX block written (R439, R443, R458, R469, R470). -/
def State.hapticWord (s : State) (r : Req) (k : Nat) (v : Word) : State :=
  let n := v.toNat
  if k = 0x03A0000C then s.plain k (setBits n 15 0 (near 1000 12500 (bits n 15 0)))
  else if 0x03A01000 ≤ k ∧ k < 0x03A01400 then
    let c := (k - 0x03A01000) / 0x40
    let o := k % 0x40
    if s.row.haptics ≤ c then s
    else if o = 0 then goOn s (if bit n 31 then execHapEnable 0 r c v s else execHapDisable 0 r c v s)
    else if o = 0x1C then
      let s := if bit n 0 then goOn s (execHapStop 0 r c s) else s
      if bit n 1 then goOn s (execHapCal 0 r c s) else s
    else if s.claimedFor 0x61 c r then s.hapResult .claimed
    else if o = 0x14 ∧ s.rb (hapReg c 0) 31 then s.hapResult .badState
    else s.plain k (s.hapStored c o n)
  else if 0x03A10000 ≤ k ∧ k < 0x03A12000 then
    (if k % 0x20 = 0x1C then goOn s (execHapLibCommit 0 r ((k - 0x03A10000) / 0x20) v s) else s.wr k n)
  else if 0x03A80000 ≤ k ∧ k < 0x03AA0000 ∧ s.claimedFor 0x62 0 r then s.hapResult .claimed
  else s.plain k n

/-! ### RECORDER, COUNTERS, ICVIK and TSN -/

/-- A word of the RECORDER or COUNTERS block written (R670, R672, R680 to R687). -/
def State.recWord (s : State) (r : Req) (k : Nat) (v : Word) : State :=
  let n := v.toNat
  if k = 0x03E00008 then goOn s (execRecClear 0 r false v s)
  else if 0x04010000 ≤ k ∧ k < 0x04020000 then
    (if k % 0x10 = 8 then
      (if s.cntClaimed ((k - 0x04010000) / 0x10) r then s.wf 0x04000004 6 0 Status.claimed.code else s.plain k n)
     else s)
  else if 0x04020000 ≤ k ∧ k < 0x04020080 then
    let m := (k - 0x04020000) / 0x40
    match k % 0x40 with
    | 0 => goOn s (execSmpEnable 0 r m v s)
    | 4 => goOn s (execSmpSeedWrite 0 r m v s)
    | _ => s.plain k n
  else s.plain k n

/-- A word of the ICVIK block written (R629, R630, R635, R640, R642, R646). -/
def State.icvWord (s : State) (r : Req) (k : Nat) (v : Word) : State :=
  let n := v.toNat
  if k = 0x05000004 then
    let old := s.rootNode
    (s.plain k n).rootSettle old
  else if k = 0x05000020 then (s.plain k n).timeSettle
  else if k = 0x05000038 then goOn s (if bit n 31 then execRaccWrite 0 r v s else execRaccRead 0 r v s)
  else if 0x05001000 ≤ k ∧ k < 0x05001100 then (if k % 0x40 = 0 then goOn s (execIcvikPortEnable 0 r ((k - 0x05001000) / 0x40) v s) else s)
  else if 0x05002000 ≤ k ∧ k < 0x05002100 then
    (if k % 0x20 = 0x18 ∧ bit n 31 then goOn s (execPodRefApply 0 r ((k - 0x05002000) / 0x20) s) else s)
  else if 0x05004000 ≤ k ∧ k < 0x05004400 then
    let e := (k - 0x05004000) / 0x10
    let en := s.rb (expReg e 4) 31
    let bad (s : State) : State := s.icvResult .badState
    match k % 0x10 with
    | 0 => if en then bad s else s.plain k n
    | 4 =>
      if en ∧ bits n 11 0 ≠ s.rf k 11 0 then bad s
      else
        let t := s.plain k n
        if en ∧ ¬ bit n 31 then t.ctlSend (s.rf k 11 0) (.exportEnd (s.rd (expReg e 0))) else t
    | _ => s
  else if 0x05006000 ≤ k ∧ k < 0x05006800 then
    (if k % 0x20 = 0x10 then
      goOn s (if bit n 31 then execImportOpen 0 r ((k - 0x05006000) / 0x20) v s else execImportClose 0 r ((k - 0x05006000) / 0x20) v s)
     else s)
  else s.plain k n

/-- A word of the TSN block written (R649 to R661). -/
def State.tsnWord (s : State) (r : Req) (k : Nat) (v : Word) : State :=
  let m := (k - 0x06000000) / 0x10000
  let n := v.toNat
  match k % 0x10000 with
  | 0x04 => goOn s (execTsnEnable 0 r m v s)
  | 0x58 => goOn s (execTsnRingEnable 0 r m false v s)
  | 0x60 => goOn s (execTsnTxrDoorbell 0 r m v s)
  | 0x70 => goOn s (execTsnRingEnable 0 r m true v s)
  | 0x78 => goOn s (execTsnRxrDoorbell 0 r m v s)
  | 0x80 => goOn s (execTsnMdioCmd 0 r m v s)
  | o =>
    let (go, s) := s.tsnReach r m
    if !go then s
    else if s.rb (tsnReg m 0x20) 30 && (gclWord o || (o == 0x20 && !bit n 31)) then s.gclBusy m
    else if o = 0x18 ∨ o = 0x1C then (s.creditTick m).plain k n
    else if o = 0x20 then
      let s := if s.rb k 30 then s else s.plain k n
      if bit n 31 then goOn s (execGclApply 0 r m s) else s
    else if o = 0x34 then
      let old := s.rf (tsnReg m 0x38) 31 28
      ((s.plain k n).ptpCtrl m).ptpEvent m old
    else s.plain k n

/-! ### The whole map (R43, R44) -/

/-- A 32-bit register of PF BAR0 written. The START block has its own place. -/
def State.pfWord (s : State) (r : Req) (k : Nat) (v : Word) : State :=
  let n := v.toNat
  if 0x07000000 ≤ k then (if k < 0x07100000 then s.winWord r pfWin (k - 0x07000000) v else s)
  else if k < 0x00100000 then s
  else if k < 0x00200000 then s.powerWord r k v
  else if k < 0x00300000 then s
  else if k < 0x00400000 then s.huskWord r k n
  else if k < 0x00500000 then s.vimgrWord r k n
  else if k < 0x00600000 then s.worldWord r k v
  else if k < 0x01000000 then s.memWord k v
  else if k < 0x01800000 then s.layerWord r k v
  else if k < 0x02000000 then s.pipeWord r k v
  else if k < 0x03000000 then s.renderWord k n
  else if k < 0x03800000 then s.audioWord r k v
  else if k < 0x03A00000 then s.touchWord r k v
  else if k < 0x03C00000 then s.hapticWord r k v
  else if k < 0x03E00000 then s.checkWord r k v
  else if k < 0x05000000 then s.recWord r k v
  else if k < 0x06000000 then s.icvWord r k v
  else s.tsnWord r k v

/-- A 64-bit register of PF BAR0 written whole. -/
def State.pfWide (s : State) (r : Req) (k v : Nat) : State :=
  if 0x07000000 ≤ k then s.winWide pfWin (k - 0x07000000) v
  else if 0x00500000 ≤ k ∧ k < 0x00600000 then
    (match s.hartOf r, (0x00504000 ≤ k && k < 0x00504018 : Bool) with
     | some h, true =>
       s.mHart h fun t => match k with
         | 0x00504000 => { t with arg0 := v }
         | 0x00504008 => { t with arg1 := v }
         | _ => { t with arg2 := v }
     | _, _ =>
       if !s.reqSecure r then s.worldDenied
       else if 0x00504000 ≤ k ∧ k < 0x00504018 then s
       else if k = 0x00500210 then (if s.rb 0x00500218 31 then s else s.plain64 k v)
       else s.plain64 k v)
  else if 0x01000100 ≤ k ∧ k < 0x01000200 then goOn s (execLayerPipeBgWrite 0 r ((k - 0x01000100) / 0x10) v s)
  else if (lutAt k).isSome then goOn s (execPipeLutWrite 0 r k v s)
  else if 0x01800000 ≤ k ∧ k < 0x01900000 then (if s.row.pipes ≤ (k - 0x01800000) / 0x10000 then s else s.plain64 k v)
  else if 0x03C20000 ≤ k ∧ k < 0x03C21000 then
    (if 8 ≤ k % 0x40 ∧ k % 0x40 < 0x28 then goOn s (execDcuValueWrite 0 r ((k - 0x03C20000) / 0x40) ((k % 0x40 - 8) / 8) v s)
     else if s.dcuDirect ≤ (k - 0x03C20000) / 0x40 then s.dcuClosed r ((k - 0x03C20000) / 0x40) else s)
  else if 0x03004000 ≤ k ∧ k < 0x03005000 then
    goOn s (execAudioMapWrite 0 r (k + 4) (BitVec.ofNat 32 (v / 2 ^ 32)) (goOn s (execAudioMapWrite 0 r k (BitVec.ofNat 32 v) s)))
  else if 0x03E01000 ≤ k ∧ k < 0x03E01800 then goOn s (execRecSlotCfgWrite 0 r ((k - 0x03E01000) / 8) v s)
  else if 0x04010000 ≤ k ∧ k < 0x04020000 then goOn s (execCntValueWrite 0 r ((k - 0x04010000) / 0x10) v 0 s)
  else if 0x04020000 ≤ k ∧ k < 0x04020080 then (if s.rb (k / 0x40 * 0x40) 31 then s else s.plain64 k v)
  else if 0x05002000 ≤ k ∧ k < 0x05002100 then
    (if s.refOpen then s.plain64 k v else s.wf (k / 0x20 * 0x20 + 0x18) 22 16 Status.badState.code)
  else if 0x05006000 ≤ k ∧ k < 0x05006800 then
    (if s.rb (impReg ((k - 0x05006000) / 0x20) 0x10) 31 then s.impResult ((k - 0x05006000) / 0x20) .badState else s.plain64 k v)
  else if 0x06000000 ≤ k then
    let m := (k - 0x06000000) / 0x10000
    let (go, s) := s.tsnReach r m
    if !go then s
    else if s.rb (tsnReg m 0x20) 30 ∧ gclWord (k % 0x10000) then s.gclBusy m
    else if k % 0x10000 = 0x50 ∨ k % 0x10000 = 0x68 then (if s.rb (k + 8) 31 then s else s.plain64 k v)
    else s.plain64 k v
  else s.plain64 k v

/-- The place of a staged or latched word: the path and the key of the register's low word (R10, R11). -/
def wordKey (r : Req) (k : Nat) : Nat := pathCode r.path * 2 ^ 44 + k

/-- The low word of a 64-bit register is staged (R11). -/
def State.stage (s : State) (r : Req) (k : Nat) (v : Word) : State :=
  { s with staged := tset none s.staged (wordKey r k) (some v) }

/-- The high word of a 64-bit register puts the value into effect; `k` is the key of the low word. A low word that was never staged is a free
value (R11; log entry 57). -/
def State.putWide (s : State) (r : Req) (k : Nat) (v : Word) : State :=
  let (low, s) := match tget none s.staged (wordKey r k) with
    | some x => (x, { s with staged := tset none s.staged (wordKey r k) none })
    | none => s.freeWord
  let n := low.toNat + 2 ^ 32 * v.toNat
  match r.path with
  | .vi w => s.winWide w (k - win w) n
  | _ => s.pfWide r k n

/-- Whether an offset lies in what a path reaches: of the BAR0 of another link's physical function, the word at 0 (R43, R44, R473). -/
def inReach (r : Req) (addr : Nat) : Bool :=
  addr % 4 == 0 && (match r.path with | .vi _ => decide (addr < 0x100000) | .link l => addr == 0 && decide (l < 5) | _ => decide (addr < 0x10000000))

/-- Whether a path reaches an offset, and the part has the unit it belongs to: the registers of a unit the part lacks read 0 and ignore
writes (R6, R43, R44). -/
def State.inUse (s : State) (r : Req) (addr : Nat) : Bool :=
  inReach r addr && (match r.path with | .vi _ => true | .link _ => true | _ => !s.row.lacks addr)

/-- A word written by its address: 64-bit registers are staged and put; others act. The BAR0 of another link's physical function is read-only
(R473). -/
def State.busWrite (s : State) (r : Req) (addr : Nat) (v : Word) : State :=
  if !s.inUse r addr || pathCode r.path / 8 == 16 then s
  else
    let k := reqKey r addr
    match keyRow k with
    | some (row, high) =>
      if row.wide then (if high then s.putWide r (k - 4) v else s.stage r k v)
      else match r.path with
        | .vi w => s.winWord r w addr v
        | _ => s.pfWord r k v
    | none =>
      match r.path with
      | .vi w => s.winWord r w addr v
      | _ => s.pfWord r k v

end Sys2Proof.Machine
end

