-- ==== Sys2Proof/Machine/Views.lean ====
section
/-!
DEFINITION. Views: what a read of a register word returns. Registers that only show other state are computed here; all others come from the
register file. Reads of the write lists (R578), of remote accesses (R635) and of REGISTER_READ_CLEAR and READ_LOW_WORD come here.
-/
namespace Sys2Proof.Machine

/-! ### Identity and the unit directory (R7, R8, R28, R29, R37, R39) -/

/-- The CHIP identity and parameter registers (R7, R8). -/
def State.chipParam (s : State) (k : Nat) : Option Nat :=
  let v := s.row
  match k with
  | 0x00 => some 0x5A541000
  | 0x04 => some Config.chipRev.toNat
  | 0x08 => some (b2n v.automotive * 2 ^ 8 + v.code)
  | 0x10 => some (v.icvikPorts * 2 ^ 24 + v.dsiPorts * 2 ^ 16 + v.dpPorts * 2 ^ 8 + v.pipes)
  | 0x14 => some (2 * 2 ^ 28 + 2 * 2 ^ 24 + 2 * 2 ^ 20 + 4 * 2 ^ 16 + v.appCores * 2 ^ 8 + v.clusters)
  | 0x18 => some (v.vis * 2 ^ 16 + v.contexts)
  | 0x1C => some (v.lpChannels * 2 ^ 16 + v.seedbankMiB)
  | 0x20 => some (v.electrodes * 2 ^ 20 + v.audioOut * 2 ^ 10 + v.audioIn)
  | 0x24 => some (v.capDefaultW * 2 ^ 24 + v.capMaxW * 2 ^ 16 + v.haptics)
  | 0x100 => some v.unitCount
  | _ => none

/-- The registers of a unit of a kind: their PF BAR0 offset and size; 0 and 0 where it has none of its own (R28; log entry 14). -/
def unitRegs (kind i : Nat) : Nat × Nat :=
  match kind with
  | 0x12 => (0x00300000, 0x8000)
  | 0x13 => (0x00308000, 0x4000)
  | 0x14 => (0x00100000, 0x80000)
  | 0x15 => (0x00180000, 0x80000)
  | 0x16 => (0x00400000, 0x100000)
  | 0x20 => (pipeReg i 0, 0x8000)
  | 0x23 => (dscReg i 0, 0x10)
  | 0x24 => (pipeReg i 0x8000, 0x2000)
  | 0x25 => (pipeReg i 0xA000, 0x2000)
  | 0x26 => (pllReg i 0, 0x10)
  | 0x32 => (0x02000000, 0x1000000)
  | 0x42 => (rcReg i 0, 0x20)
  | 0x50 => (0x03000000, 0x800000)
  | 0x52 => (0x03000100 + i * 0x10, 0x10)
  | 0x53 => (0x03000200 + i * 0x20, 0x20)
  | 0x60 => (blkReg i 0, 0x40)
  | 0x61 => (hapReg i 0, 0x40)
  | 0x62 => (0x03A80000, 0x80000)
  | 0x70 => (regionReg i 0 0, 0x1000)
  | 0x71 => (dcuReg i 0, 0x40)
  | 0x81 => (tsnReg i 0, 0x10000)
  | 0x82 => (icvPort i 0, 0x40)
  | 0x90 => (0x03E00000, 0x200000)
  | 0x91 => (0x04000000, 0x1000000)
  | _ => (0, 0)

/-- Kinds that run firmware and have update slots (R597, R599). -/
def hasSlots (kind : Nat) : Bool := kind == 0x10 || kind == 0x12 || kind == 0x13 || kind == 0x33

/-- The place of a unit's UIF among all: its own index, or the one a move gave it (R41, R599). -/
def State.uifPlace (s : State) (u : Nat) : Nat := if (s.unit u).uifMoved = 0 then u else (s.unit u).uifMoved - 1

/-- The PF BAR0 offset of a UIF: the device's at 0x200 (R39), the others in a row from 0x0004_0000 (log entry 14). -/
def uifBase (place : Nat) : Nat := if place = 0 then 0x200 else 0x00040000 + place * 0x40

/-- The unit whose UIF holds a key, and the offset in it. -/
def State.uifOf (s : State) (k : Nat) : Option (Nat × Nat) :=
  if 0x200 ≤ k ∧ k < 0x240 then some (0, k - 0x200)
  else if 0x00040000 ≤ k ∧ k < 0x00080000 then
    let place := (k - 0x00040000) / 0x40
    if place = 0 ∨ s.row.unitCount ≤ place then none
    else if s.uifPlace place = place then some (place, k % 0x40)
    else
      match (List.range s.row.unitCount).find? fun u => s.uifPlace u == place with
      | some u => some (u, k % 0x40)
      | none => none
  else none

/-- The health a UIF shows: a pod shows the highest of its children, spares not counted (R29, R36). -/
def State.healthOf (s : State) (u : Nat) : Nat :=
  if u = 0 then
    (s.children 0).foldl (fun n c => let h := (s.unit c).health; if h = 5 ∨ h ≤ n then n else h) 0
  else (s.unit u).health

/-- A word of a UIF (R28, R29). -/
def State.uifWord (s : State) (u o : Nat) : Nat :=
  let x := s.unit u
  let (kind, i) := (s.unitAt u).getD (0, 0)
  match o with
  | 0x00 => kind * 2 ^ 16 + u
  | 0x04 => (Config.hwVersion kind).toNat * 2 ^ 16 + x.fw
  | 0x08 => x.powerResult * 2 ^ 16 + s.powerState u * 2 ^ 8 + x.req
  | 0x0C => x.resetResult * 2 ^ 16 + b2n (s.resetting u) * 2 ^ 8
  | 0x10 => x.restarts * 2 ^ 16 + x.lastStatus * 2 ^ 8 + s.healthOf u
  | 0x14 => x.slotPending * 2 ^ 4 + x.slotActive
  | 0x18 => x.verB * 2 ^ 16 + x.verA
  | 0x1C => if u = 0 then (s.row.unitCount - 1) * 2 ^ 16 + 1 else 0
  | 0x20 => (unitRegs kind i).1
  | 0x28 => (unitRegs kind i).2
  | 0x2C => if u = 0 then 0 else kindEvents kind * 2 ^ 16 + firstCounter s.row.kinds 1 u
  | _ => 0

/-- A directory entry (R37). Every unit is a child of the device (log entry 14). -/
def State.dirEntry (s : State) (u : Nat) : Nat :=
  if s.row.unitCount ≤ u then 0
  else
    let (kind, _) := (s.unitAt u).getD (0, 0)
    uifBase (s.uifPlace u) * 2 ^ 192 + kind * 2 ^ 16
      + (if u = 0 then 2 ^ 8 else (u - 1) * 2 ^ 64 + b2n (hasSlots kind) * 2 ^ 10 + b2n (s.unit u).spare * 2 ^ 9 + 1)

/-- A word of the CHIP block. -/
def State.chipView (s : State) (k : Nat) : Nat :=
  match s.chipParam k with
  | some v => v
  | none =>
    if k = 0x104 then s.rd k
    else if 0x00010000 ≤ k ∧ k < 0x00030000 then s.dirEntry ((k - 0x00010000) / 0x20) / 2 ^ (k % 0x20 * 8) % 2 ^ 32
    else match s.uifOf k with
      | some (u, o) => s.uifWord u o
      | none => 0

/-! ### Counts of free channels -/

/-- Indices of a kind that hold a channel. -/
def State.taken (s : State) (kind : Nat) : Nat := s.pods.chans.countP fun c => c.1 / 2 ^ 18 == kind

/-- Indices of a kind that hold none. -/
def State.freeOf (s : State) (kind : Nat) : Nat := s.poolSize kind - s.taken kind

/-! ### Blocks of PF BAR0 -/

/-- POWER (R567, R568). -/
def State.powerView (s : State) (k : Nat) : Nat :=
  let v := s.rd k
  if k = 0x00100000 then 24 * 2 ^ 24 + (if s.row.large then 16 else 8) * 2 ^ 16 + 64 * 2 ^ 8 + s.row.plls
  else if k = 0x00100004 then s.variant.capMin
  else if k = 0x0010002C then setBits v 23 16 s.tLimit.toNat
  else if 0x00101000 ≤ k ∧ k < 0x00101300 then
    let d := (k - 0x00101000) / 0x20
    match k % 0x20 with
    | 4 => setBits v 25 25 (b2n (s.domainAbsent d))
    | 8 => setBits v 31 16 (Config.domainNf d).toNat
    | _ => v
  else v

/-- VIMGR (R507, R508). -/
def State.vimgrView (s : State) (k : Nat) : Nat :=
  if k = 0x00400000 then s.row.vis * 2 ^ 16 + (List.range 5).countP (fun l => s.rb (linkReg l) 31) * 2 ^ 8
  else if 0x00400104 ≤ k ∧ k < 0x00400134 then s.poolSize ((k - 0x00400100) / 4)
  else s.rd k

/-- Registers of the WORLD block that a normal requester may read: WORLD_CLAIM_STATE by any path to PF BAR0, the others through PF BAR0 itself and
the debug port (R513, R530). -/
def worldOpen (r : Req) (k : Nat) : Bool :=
  (0x00510000 ≤ k && k < 0x00510400) || dbgPath r && ((0x00500010 ≤ k && k < 0x00500020) || k == 0x0050003C || (0x00500040 ≤ k && k < 0x00500050))

/-- WORLD (R513, R535, R536). -/
def State.worldView (s : State) (r : Req) (k : Nat) : Nat :=
  if !s.reqSecure r && !worldOpen r k && !(0x00504000 ≤ k && k < 0x00504028) then 0
  else if k = 0x00500000 then 64 * 2 ^ 24 + 64 * 2 ^ 16 + 4 * 2 ^ 8
  else if 0x00500010 ≤ k ∧ k < 0x00500020 then (Config.devId ((k - 0x00500010) / 4)).toNat
  else if k = 0x00500024 then s.dbgWorlds
  else if 0x00500028 ≤ k ∧ k < 0x00500038 then
    let ni := k < 0x00500030
    let half := if k % 8 = 0 then 0 else 32
    (List.range 32).foldl (fun n i => n + b2n (if ni then (s.dbgHull (half + i)).1 else (s.dbgHull (half + i)).2) * 2 ^ i) 0
  else if 0x00500400 ≤ k ∧ k < 0x00500460 then (Config.attestPub ((k - 0x00500400) / 4)).toNat
  else if 0x00501000 ≤ k ∧ k < 0x00503000 then
    (s.rcEntry ((k - 0x00501000) / 0x800) ((k - 0x00501000) % 0x800 / 0x20)).bits256 / 2 ^ (k % 0x20 * 8) % 2 ^ 32
  else if 0x00504000 ≤ k ∧ k < 0x00504028 then
    match s.hartOf r with
    | none => 0
    | some h =>
      let x := s.hart h
      match k with
      | 0x00504000 => x.arg0 % 2 ^ 32
      | 0x00504004 => x.arg0 / 2 ^ 32
      | 0x00504008 => x.arg1 % 2 ^ 32
      | 0x0050400C => x.arg1 / 2 ^ 32
      | 0x00504010 => x.arg2 % 2 ^ 32
      | 0x00504014 => x.arg2 / 2 ^ 32
      | 0x00504024 => x.status
      | _ => 0
  else if 0x00505000 ≤ k ∧ k < 0x00505400 then
    (if k % 0x10 ≠ 0 then 0
     else
      let h := (k - 0x00505000) / 0x10
      let x := s.hull h
      x.state * 2 ^ 29 + b2n x.secure * 2 ^ 28 + b2n x.debugOk * 2 ^ 27 + x.mem * 2 ^ 25 + (s.windowsOpen h).length * 2 ^ 8
        + (s.hartsIn h).foldl (fun n t => n + 2 ^ t) 0)
  else if 0x00510000 ≤ k ∧ k < 0x00510400 then
    (List.range 16).foldl (fun n i => n + (tget {} s.worlds.claims ((k - 0x00510000) / 4 * 16 + i)).state * 2 ^ (2 * i)) 0
  else s.rd k

/-- A word of a chunk table (R105). -/
def State.chunkWord (s : State) (mem i : Nat) : Nat :=
  let c := tget {} s.seed.chunks (mem * 2 ^ 20 + i)
  s.chunkState mem i * 2 ^ 29 + min 31 c.retired * 2 ^ 24 + c.owner

/-- MEM (R104, R105). -/
def State.memView (s : State) (k : Nat) : Nat :=
  if k = 0x00600000 then s.seed.stack1 * 4 + s.seed.stack0
  else if k = 0x00600004 then s.usable 0 * 2 ^ 16 + s.freeChunks 0
  else if k = 0x0060000C then s.usable 1 * 2 ^ 16 + s.freeChunks 1
  else if 0x00610000 ≤ k ∧ k < 0x00618000 then
    s.chunkWord 0 ((k - 0x00610000) / 4)
  else if 0x00620000 ≤ k ∧ k < 0x00640000 then
    s.chunkWord 1 ((k - 0x00620000) / 4)
  else s.rd k

/-- LAYER (R155). -/
def State.layerView (s : State) (k : Nat) : Nat :=
  match k with
  | 0x01000000 => s.enginesUp * 2 ^ 24 + s.scalersUp.length * 2 ^ 16 + s.poolSize kLayer
  | 0x01000004 => s.freeScalers.length * 2 ^ 16 + s.freeOf kLayer
  | 0x01000008 => s.tableRef
  | _ => s.rd k

/-- DSI_STATUS (R232, R244): the lanes of an enabled port are up while a pipe uses it, and in ULPS while none does; a port whose lanes or rate are
outside their ranges has neither (DESIGN CHOICE, log entry 73). -/
def State.dsiStatus (s : State) (port : Nat) : Nat :=
  let up := bit (s.dsiCtrl port) 31 && !badDsi (s.dsiCtrl port)
  setBits (setBits (s.rd (pipeReg port 0xA004)) 31 31 (b2n (up && s.portUsed 2 port))) 30 30 (b2n (up && !s.portUsed 2 port))

/-- PIPE (R242): the registers of an absent pipe read 0. -/
def State.pipeView (s : State) (k : Nat) : Nat :=
  if k < 0x01900000 ∧ k % 0x10000 = 0xA004 then s.dsiStatus ((k - 0x01800000) / 0x10000) else
  if k < 0x01900000 ∧ (k % 0x10000 < 0x8000 ∨ 0xC000 ≤ k % 0x10000) ∧ s.row.pipes ≤ (k - 0x01800000) / 0x10000 then 0 else s.rd k

/-- RENDER (R328). -/
def State.renderView (s : State) (k : Nat) : Nat :=
  match k with
  | 0x02000000 =>
    ((List.range s.row.backends).countP fun i => s.unitUp 0x31 i) * 2 ^ 24 + s.clustersUp.length * 2 ^ 16 + s.row.contexts
  | 0x02000004 => (List.range s.row.contexts).countP fun c => !s.rb (ctxReg c 0) 31
  | 0x02000008 => s.xlateVer
  | _ => s.rd k

/-- AUDIO (R402, R403): parameters, the maps in force and the bank in use and its shadow. -/
def State.audioView (s : State) (k : Nat) : Nat :=
  if k = 0x03000000 then 1024 * 2 ^ 16 + 64 * 2 ^ 8 + 64
  else if k = 0x03000004 then 256 * 2 ^ 16 + (if s.row.large then 4 else 2) * 2 ^ 12 + (if s.row.large then 8 else 4) * 2 ^ 8 + 64
  else if k = 0x03000008 then setBits (s.rd k) 15 0 s.row.audioOut
  else if 0x03001000 ≤ k ∧ k < 0x03001800 then mapWord s.inRuns ((k - 0x03001000) / 4)
  else if 0x03001800 ≤ k ∧ k < 0x03002000 then mapWord s.outRuns ((k - 0x03001800) / 4)
  else if 0x03100000 ≤ k ∧ k < 0x03200000 then bankGet s.audio.shadow (k - 0x03100000)
  else if 0x03200000 ≤ k ∧ k < 0x03300000 then bankGet s.audio.active (k - 0x03200000)
  else s.rd k

/-- TOUCH (R433). -/
def State.touchView (s : State) (k : Nat) : Nat :=
  if k = 0x03800000 then s.blocks * 2 ^ 16 + s.poolSize kZone
  else if k = 0x03800004 then s.freeOf kZone
  else if 0x03800010 ≤ k ∧ k < 0x0380001C ∧ s.row.electrodes = 0 then 0
  else if 0x03801000 ≤ k ∧ k < 0x03801400 ∧ s.blocks ≤ (k - 0x03801000) / 0x40 then 0
  else if 0x03810000 ≤ k ∧ k < 0x03814000 ∧ s.row.electrodes ≤ (k - 0x03810000) / 0x20 then 0
  else s.rd k

/-- HAPTIC and REFLEX (R469). -/
def State.hapticView (s : State) (k : Nat) : Nat :=
  if k = 0x03A00000 then s.poolSize kHslot * 2 ^ 16 + s.row.haptics * 2 ^ 8
  else if k = 0x03A00004 then s.freeOf kHslot * 2 ^ 16
  else if 0x03A01000 ≤ k ∧ k < 0x03A01400 ∧ s.row.haptics ≤ (k - 0x03A01000) / 0x40 then 0
  else if k = 0x03A80000 then s.poolSize kReflex
  else if k = 0x03A80004 then s.freeOf kReflex
  else if 0x03A90000 ≤ k ∧ k < 0x03A90400 then
    (let b := (k - 0x03A90000) / 8
     if (s.chan kReflex b).phase = .free then 0
     else if k % 8 = 0 then 2 ^ 31 + (s.chan kReflex b).owner
     else
      let p := tget 0 s.panel.binds b
      rxTrigger p * 2 ^ 24 + rxZone p % 2 ^ 18)
  else s.rd k

/-- DCU_RESULT: the finished form of reg (R264, R265). -/
def State.dcuResult (s : State) (u : Nat) : Nat :=
  crcResult (s.dcuWidth u) (s.rd64 (dcuReg u 0x18)) (s.rb (dcuReg u 0) 0) (s.rd64 (dcuReg u 0x20))

/-- CHECK (R273). -/
def State.checkView (s : State) (k : Nat) : Nat :=
  if k = 0x03C00000 then 16 * 2 ^ 16 + 64 * 2 ^ 8 + s.dcuDirect
  else if k = 0x03C00004 then s.poolSize kCheck
  else if 0x03C10000 ≤ k ∧ k < 0x03C20000 ∧ s.row.pipes ≤ (k - 0x03C10000) / 0x1000 then 0
  else if 0x03C20000 ≤ k ∧ k < 0x03C21000 then
    (let u := (k - 0x03C20000) / 0x40
     match k % 0x40 with
     | 0x00 => setBits (s.rd k) 31 31 (b2n (s.dcuDirect ≤ u))
     | 0x30 => 0
     | 0x34 => 0
     | 0x38 => 0
     | 0x28 => s.dcuResult u % 2 ^ 32
     | 0x2C => s.dcuResult u / 2 ^ 32
     | _ => s.rd k)
  else s.rd k

/-- A word of a slot image (R673). -/
def State.slotWord (s : State) (n o : Nat) : Nat := if o < 0x180 then leNat (((s.recImage n 0).drop o).take 4) else 0

/-- RECORDER and COUNTERS (R686, R687). -/
def State.recView (s : State) (k : Nat) : Nat :=
  if k = 0x03E00000 then 256
  else if 0x03E10000 ≤ k ∧ k < 0x03E30000 then s.slotWord ((k - 0x03E10000) / 0x200) (k % 0x200)
  else if k = 0x04000000 then 4096
  else if 0x04000100 ≤ k ∧ k < 0x04000300 then
    (List.range 32).foldl (fun n b => n + b2n (s.rb (cntReg ((k - 0x04000100) / 4 * 32 + b) 8) 29) * 2 ^ b) 0
  else if 0x04010000 ≤ k ∧ k < 0x04020000 then
    (let i := (k - 0x04010000) / 0x10
     match s.counter i with
     | none => 0
     | some (kind, u, ev) =>
       match k % 0x10 with
       | 0x8 => setBits (setBits (s.rd k) 28 28 (b2n (multiEvent kind ev))) 15 0 ev
       | 0xC => kind * 2 ^ 16 + u
       | _ => s.rd k)
  else s.rd k

/-- The entry of a node in the pod directory: a device is in its own copy, at no hops (R634). -/
def State.podDir (s : State) (n o : Nat) : Nat :=
  let me := n == s.myNode
  let i := (s.node n).info
  let path := if me then s.rd64 0x05000010 else i.path
  match o with
  | 0x0 =>
    (if me then 1 else i.state) * 2 ^ 29 + b2n (s.rootNode == some n) * 2 ^ 28
      + (if me then 0 else match s.routeTo n with | some (_, h) => h | none => 0) % 64 * 2 ^ 22
      + i.joins * 2 ^ 16 + (if me then s.row.code else i.code) % 256 * 2 ^ 8
      + (if me then Config.chipRev.toNat / 2 ^ 16 else i.major) % 256
  | 0x4 => if me then s.rd 0x104 else i.gen
  | 0x8 => path % 2 ^ 32
  | _ => path / 2 ^ 32

/-- ICVIK (R646). ROOT shows in a system of one too, once the domain of the links is ON (R631; log entry 57). -/
def State.icvView (s : State) (k : Nat) : Nat :=
  if k = 0x05000000 then s.row.icvikPorts * 2 ^ 24 + 64 * 2 ^ 16 + 64 * 2 ^ 8 + 8
  else if k = 0x05000008 then
    b2n (!s.joined.isEmpty) * 2 ^ 31 + b2n (s.domainState 23 == 3 && s.rootNode == some s.myNode) * 2 ^ 30
      + s.rootNode.getD 0 * 2 ^ 16 + s.myNode
  else if 0x05100000 ≤ k ∧ k < 0x05110000 then
    (let n := (k - 0x05100000) / 0x10
     if n ≠ s.myNode ∧ (s.node n).info.state = 0 then 0 else s.podDir n (k % 0x10))
  else s.rd k

/-- TSN (R660). -/
def State.tsnView (s : State) (k : Nat) : Nat :=
  if 0x06020000 ≤ k then 0
  else if k % 0x10000 = 0 then 64 * 2 ^ 24 + 32 * 2 ^ 16 + 8 * 2 ^ 8
  else s.rd k

/-! ### A channel window -/

/-- The view of a pipe (R238): 0 while it is OFF or not granted. -/
def State.pipeWindow (s : State) (w p o : Nat) : Nat :=
  if s.row.pipes ≤ p ∨ !s.pipeGranted w p then 0
  else if o = 0xC then s.rd (win w + 0x1340C + p * 0x10)
  else if s.pipeState p = 0 then 0
  else
    let c := (s.pipe p).cfg
    match o with
    | 0 => c.vActive * 2 ^ 16 + c.hActive
    | 4 => c.vTotal * 2 ^ 16 + (s.pipe p).cs
    | _ => c.linePs

/-- A word of a window (R44). A window whose VI is FREE reads 0 (R474). -/
def State.winView (s : State) (r : Req) (w o : Nat) : Nat :=
  let k := win w + o
  if w < 256 ∧ (s.row.vis ≤ w ∨ s.viState w = 0) then 0
  else if o < 0x10000 then 0
  else if o = 0x12000 then (if w = pfWin then 0xFFFF else s.rf (viReg w 4) 15 0 * 2 ^ 16 + w)
  else if o = 0x12008 then s.now % 2 ^ 32
  else if o = 0x1200C then s.now / 2 ^ 32
  else if 0x13000 ≤ o ∧ o < 0x13200 then
    (let p := (o - 0x13000) / 0x20
     if s.row.pipes ≤ p then 0
     else
      match o % 0x20 with
      | 0x00 => s.rd k &&& 0xFFFFFFC0
      | 0x04 => s.rd k &&& 0xFF
      | 0x08 => 0
      | 0x14 => if s.scanning p then s.frame p % 2 ^ 16 * 2 ^ 16 + s.rf (pipeReg p 0x48) 15 0 else s.frame p % 2 ^ 16 * 2 ^ 16
      | _ => s.rd k)
  else if 0x13400 ≤ o ∧ o < 0x13500 then s.pipeWindow w ((o - 0x13400) / 0x10) (o % 0x10)
  else if 0x14000 ≤ o ∧ o < 0x1C000 then
    match s.checkAddr r o with
    | some a => s.checkView a
    | none => 0
  else if o = 0x1C000 then s.rd k &&& 0xFFFFFFC0
  else if o = 0x1C008 then 0
  else if o = 0x1C014 then s.rd k % 4
  else if 0x30000 ≤ o ∧ o < 0x34000 then
    (let p := (o - 0x30000) / 0x400
     if w = pfWin ∨ s.row.pipes ≤ p ∨ s.safetyWin ≠ w ∨ !s.pipeGranted w p then 0 else s.rd (0x00308000 + p * 0x400 + o % 0x400))
  else if o = 0x80008 then 256
  else if 0x80200 ≤ o ∧ o < 0x80380 then s.slotWord (s.rf (win w + 0x80000) 7 0) (o - 0x80200)
  else s.rd k

/-- A word of the START block. -/
def State.startView (s : State) (k : Nat) : Nat := s.rd k

/-- A word of PF BAR0 (R43). In RECOVERY the PF reaches only the CHIP and START blocks (R582). -/
def State.pfView (s : State) (r : Req) (k : Nat) : Nat :=
  if 0x07000000 ≤ k then (if k < 0x07100000 then s.winView r pfWin (k - 0x07000000) else 0)
  else if k < 0x00100000 then s.chipView k
  else if k < 0x00200000 then s.powerView k
  else if k < 0x00300000 then s.startView k
  else if k < 0x00400000 then s.rd k
  else if k < 0x00500000 then s.vimgrView k
  else if k < 0x00600000 then s.worldView r k
  else if k < 0x01000000 then s.memView k
  else if k < 0x01800000 then s.layerView k
  else if k < 0x02000000 then s.pipeView k
  else if k < 0x03000000 then s.renderView k
  else if k < 0x03800000 then s.audioView k
  else if k < 0x03A00000 then s.touchView k
  else if k < 0x03C00000 then s.hapticView k
  else if k < 0x03E00000 then s.checkView k
  else if k < 0x05000000 then s.recView k
  else if k < 0x06000000 then s.icvView k
  else s.tsnView k

/-- The PF is shut out of a block by RECOVERY (R582). -/
def State.shutOut (s : State) (r : Req) (addr : Nat) : Bool :=
  s.rf 0x00200000 31 28 == 5 && (match r.path with | .pf => !(addr < 0x00100000 || (0x00200000 ≤ addr && addr < 0x00300000)) | .vi _ => true | _ => false)

/-- The word a requester reads at an address. -/
def State.view (s : State) (r : Req) (addr : Nat) : Nat :=
  if !s.inUse r addr || s.shutOut r addr then 0
  else
    match r.path with
    | .vi w => s.winView r w addr
    | .link l => s.rd (linkReg l)
    | _ => s.pfView r addr

/-- The bits of a word that are RC fields (R12). -/
def rcMask (k : Nat) : Nat := match keyRow k with | some (row, high) => halfOf high row.rc | none => 0

/-- What a read finds in the RC fields of a word: before any update of this instant (R14). -/
def State.rcValue (s : State) (k v : Nat) : Nat :=
  match tget none s.cycle.updates k with
  | some (old, _) => (v &&& (0xFFFFFFFF ^^^ rcMask k)) ||| (old &&& rcMask k)
  | none => v

/-- The fields a read clears (R12): those of RC access, except through the debug port (R15). An update of this instant is kept (R14). -/
def State.readClear (s : State) (r : Req) (addr : Nat) : State :=
  let k := reqKey r addr
  if !s.inUse r addr || s.shutOut r addr || r.path == .debug || rcMask k == 0 then s
  else
    let kept := match tget none s.cycle.updates k with | some (_, n) => n | none => 0
    let t := s.wr k ((s.rd k &&& (0xFFFFFFFF ^^^ rcMask k)) ||| (kept &&& rcMask k))
    { t with cycle := { t.cycle with updates := if kept = 0 then tset none t.cycle.updates k none else tset none t.cycle.updates k (some (0, kept)) } }

/-- A counter is brought up to date before its value is read (R676; log entry 49). -/
def State.fresh (s : State) (r : Req) (addr : Nat) : State :=
  match r.path with
  | .vi _ => s
  | _ => if 0x04010000 ≤ addr ∧ addr < 0x04020000 ∧ addr % 0x10 = 0 then s.cntFresh ((addr - 0x04010000) / 0x10) else s

/-- Whether a word is the low word of a 64-bit register, and its high word (R9). A UIF holds one at 0x20. -/
def State.lowOf (s : State) (r : Req) (addr : Nat) : Bool :=
  match keyRow (reqKey r addr) with
  | some (row, high) => row.wide && !high
  | none => (match r.path with | .vi _ => false | _ => (match s.uifOf addr with | some (_, o) => o == 0x20 | none => false))

def State.highOf (s : State) (r : Req) (addr : Nat) : Bool :=
  match keyRow (reqKey r addr) with
  | some (row, high) => row.wide && high
  | none => (match r.path with | .vi _ => false | _ => (match s.uifOf addr with | some (_, o) => o == 0x24 | none => false))

/-- A read of a word: the high word of a 64-bit register returns the value latched with its low word, or the current one where none was
latched (R10; log entry 57); RC fields are cleared (R12). -/
def State.busRead (s : State) (r : Req) (addr : Nat) : Word × State :=
  let s := s.fresh r addr
  if s.highOf r addr then
    let key := wordKey r (reqKey r addr - 4)
    match tget none s.latch key with
    | some v => (v, { s with latch := tset none s.latch key none })
    | none => (BitVec.ofNat 32 (s.view r addr), s)
  else
    let v := BitVec.ofNat 32 (if r.path = .debug then s.view r addr else s.rcValue (reqKey r addr) (s.view r addr))
    let s := if s.lowOf r addr then
        { s with latch := tset none s.latch (wordKey r (reqKey r addr)) (some (BitVec.ofNat 32 (s.view r (addr + 4)))) }
      else s
    (v, s.readClear r addr)

end Sys2Proof.Machine
end

