-- ==== Sys2Proof/Machine/Canyx.lean ====
section
/-!
DEFINITION. Canyx: the flash as it is read, the header, keys block and directory of an image, its records, and what makes a slot valid (Start,
configuration and live update; R570 to R577, R596).
-/
namespace Sys2Proof.Machine

/-! ### The flash (R570, R571) -/

/-- The size of the flash in bytes, and of one slot. -/
def State.flashSize (s : State) : Nat := s.rf 0x0020004C 31 16 * 2 ^ 20
def State.slotSize (s : State) : Nat := s.flashSize / 2

/-- Two ranges of addresses have an address in common. -/
def overlap (a n b m : Nat) : Bool := a < b + m && b < a + n

/-- Bytes of the flash; none where the read fails for good (R570), or lies beyond the flash. -/
def State.flashRead (s : State) (a n : Nat) : Option Bytes :=
  if s.flashSize < a + n ∨ s.start.flashBad.any (fun b => overlap a n b.1 b.2) then none
  else some ((List.range n).map fun i => tget 0xFF s.start.flash (a + i))

/-- Bytes of the flash changed: erased to 0xFF, or programmed. -/
def State.flashErase (s : State) (a n : Nat) : State := s.mStart fun t => { t with flash := tcut t.flash a (a + n) }
def State.flashPut (s : State) (a : Nat) (bs : Bytes) : State :=
  s.mStart fun t => { t with flash := (List.range bs.length).foldl (fun m i => tset 0xFF m (a + i) (bs.getD i 0)) t.flash }

/-- How an image is read: `n` bytes from an offset in it. -/
abbrev ImgRead := Nat → Nat → Option Bytes

/-- A slot: 0 is A, 1 is B. -/
def State.slotRead (s : State) (k : Nat) : ImgRead := fun o n => if s.slotSize < o + n then none else s.flashRead (k * s.slotSize + o) n

/-! ### The header and the directory (R572, R575) -/

def chRecLen (h : Nat) : Nat := bits h 895 864
def chRecOffset (h : Nat) : Nat := bits h 863 832
def chPsetLen (h : Nat) : Nat := bits h 831 800
def chPsetOffset (h : Nat) : Nat := bits h 799 768
def chImageLen (h : Nat) : Nat := bits h 767 736
def chDirOffset (h : Nat) : Nat := bits h 735 704
def chDirEntries (h : Nat) : Nat := bits h 703 688
def chKeyIndex (h : Nat) : Nat := bits h 687 672
def chVariants (h : Nat) : Nat := bits h 671 656
def chRollback (h : Nat) : Nat := bits h 655 648
def chSeq (h : Nat) : Nat := bits h 639 576
def chMinMajor (h : Nat) : Nat := bits h 79 64

/-- The fields of a directory entry. -/
def deKind (e : Nat) : Nat := bits e 15 0
def deVersion (e : Nat) : Nat := bits e 31 16
def deOffset (e : Nat) : Nat := bits e 63 32
def deLen (e : Nat) : Nat := bits e 95 64
def deCrc (e : Nat) : Nat := bits e 127 96

/-- The header of an image, where it can be read. -/
def imgHeader (read : ImgRead) : Option Nat := (read 0 256).map leNat

/-- The directory entries of an image, as numbers. -/
def imgDir (read : ImgRead) (h : Nat) : Option (List Nat) :=
  if chDirEntries h = 0 ∨ 256 < chDirEntries h then some []
  else (read (chDirOffset h) (64 * chDirEntries h)).map fun b => (List.range (chDirEntries h)).map fun i => leNat ((b.drop (64 * i)).take 64)

/-- The areas of a slot lie where R571 places them; an update package has none (R596). -/
def areasOk (h size : Nat) (pkg : Bool) : Bool :=
  if pkg then chPsetLen h == 0 && chRecLen h == 0
  else
    chPsetOffset h % 65536 == 0 && chRecOffset h % 65536 == 0 && chImageLen h ≤ chPsetOffset h && chImageLen h ≤ chRecOffset h
      && 65536 ≤ chPsetLen h && chPsetLen h ≤ 4 * 2 ^ 20 && 131072 ≤ chRecLen h && chRecLen h ≤ 2 ^ 20
      && chPsetOffset h + chPsetLen h ≤ size && chRecOffset h + chRecLen h ≤ size

/-- The checks of R574 on a header, its keys block and its directory, in the order of the rule, a failing one first. -/
def imgChecks (rollback code size : Nat) (pkg : Bool) (hb kb : Bytes) (dir : List Nat) (db : Bytes) : List Bool :=
  let h := leNat hb
  let key := (kb.drop (96 * chKeyIndex h)).take 96
  [bits h 31 0 != 0x58594E43 || bits h 47 32 != 1 || bits h 63 48 != 256 || bits h 575 80 != 0 || bits h 647 640 != 0 || bits h 1279 896 != 0
      || bits h 671 668 != 0,
   3 < chKeyIndex h || (match Config.ownerKey (chKeyIndex h) with | some d => sha384 key != d.toList | none => true),
   !Config.ecdsaVerify key (sha384 (hb.take 160 ++ db)) (hb.drop 160),
   chRollback h < rollback || 63 < chRollback h,
   !bit (chVariants h) (code - 1),
   Config.chipRev.toNat / 2 ^ 16 < chMinMajor h,
   chDirEntries h == 0 || 256 < chDirEntries h || chDirOffset h % 64 != 0 || chImageLen h < 640 || size < chImageLen h
      || chImageLen h < chDirOffset h + 64 * chDirEntries h || !areasOk h size pkg
      || dir.any fun e => deOffset e % 64 != 0 || chImageLen h < deOffset e + deLen e]

/-- Why an image is not valid (R574): a status code, free but for failed reads; none when it is valid (log entry 59). -/
def imgFault (rollback code size : Nat) (pkg : Bool) (read : ImgRead) : Option Nat :=
  match imgHeader read, read 0 256, read 256 384 with
  | some h, some hb, some kb =>
    match imgDir read h with
    | none => some Status.fault.code
    | some dir =>
      let db := (read (chDirOffset h) (64 * dir.length)).getD []
      let bad := imgChecks rollback code size pkg hb kb dir db
      if bad.any id then some (1 + (Config.slotFault (bad.findIdx id)).val) else none
  | _, _, _ => some Status.fault.code

/-! ### Records (R576, R577) -/

/-- A record is read and checked: its bytes, or the status of its failure (R570, R576). -/
def readRecord (read : ImgRead) (e : Nat) : Except Status Bytes :=
  match read (deOffset e) (deLen e) with
  | none => .error .fault
  | some b =>
    if crc32 b ≠ deCrc e then .error .badCrc
    else if sha384 b ≠ leBytes (e / 2 ^ 128) 48 then .error .badSignature
    else .ok b

/-- The entry of a kind in an image's directory. -/
def imgEntry (read : ImgRead) (kind : Nat) : Option Nat :=
  match imgHeader read with
  | none => none
  | some h => ((imgDir read h).getD []).find? fun e => deKind e == kind

/-- Record kinds without which no slot starts (R577). -/
def essential (kind : Nat) : Bool := (1 ≤ kind && kind ≤ 6) || kind == 8

end Sys2Proof.Machine
end

