-- ==== Sys2Proof/Machine/Start.lean ====
section
/-!
DEFINITION. Start: device reset, the cold, warm and returning start, the choice of a slot, and the records of a slot put to use (Start,
configuration and live update; R578 to R591; pins, R694 to R697, R704).
-/
namespace Sys2Proof.Machine

/-! ### Areas of a slot, and writes that are cut short (R571, R592, R593) -/

/-- The slot in use: 0 A, 1 B, none (R602). -/
def State.activeSlot (s : State) : Option Nat := match s.rf 0x00200000 27 26 with | 1 => some 0 | 2 => some 1 | _ => none

/-- The place and length of an area of a slot by its header: 1 persistent settings, 2 recorder. -/
def State.areaOf (s : State) (k area : Nat) : Option (Nat × Nat) :=
  match imgHeader (s.slotRead k) with
  | none => none
  | some h =>
    if bits h 31 0 ≠ 0x58594E43 ∨ !areasOk h s.slotSize false then none
    else if area = 1 then some (k * s.slotSize + chPsetOffset h, chPsetLen h) else some (k * s.slotSize + chRecOffset h, chRecLen h)

/-- Where a write-back of an area goes: the slot that is not active, and the place by its header, or by the active slot's where it has none
(R592; log entry 62). -/
def State.writePlace (s : State) (area : Nat) : Option (Nat × Nat × Nat) :=
  match s.activeSlot with
  | none => none
  | some k =>
    let j := 1 - k
    match s.areaOf j area, s.areaOf k area with
    | some (a, n), _ => some (j, a, n)
    | none, some (a, n) => some (j, a - k * s.slotSize + j * s.slotSize, n)
    | none, none => none

/-- `n` bytes of the flash hold free values: an erase or a program there did not end well (log entry 62). -/
def State.flashFree (s : State) (a n : Nat) : State :=
  let (bs, s) := s.freeBytes n
  s.flashPut a bs

/-- The flash bytes that a manager command covers: ERASE takes the erase blocks from the one that holds its offset on (R594, R602). -/
def State.nvmRange (s : State) (o : NvmOp) : Nat × Nat :=
  if o.op = 1 then
    let blk := max 1 (s.rf 0x0020004C 15 0) * 1024
    (o.addr / blk * blk, o.len * blk)
  else (o.addr, if o.len = 0 then 2 ^ 24 else o.len)

/-- What a write-back, an ERASE or a PROGRAM in progress was changing is left with free values (R593): of an area its header. -/
def State.flashCut (s : State) : State :=
  let s := match s.start.writing with
    | some area => (match s.writePlace area with | some (_, a, _) => s.flashFree a 64 | none => s)
    | none => s
  match s.start.nvm with
  | some o => if o.op = 3 then s else s.flashFree (s.nvmRange o).1 (s.nvmRange o).2
  | none => s

/-! ### Device reset (R17, R539, R663, R695) -/

/-- Registers AON holds through a device reset: POWER_CLK_STATUS, the marks of START_SLOTS, START_NVM_INFO, HUSK_DEGRADED and HUSK_RETRY, and
the recorder's. In sleep also the wake and sleep registers, START_STATUS, the wake scanner's, and what BOOT wrote (log entry 60). -/
def aonHeld (sleep : Bool) (k : Nat) : Bool :=
  k == 0x00100028 || k == 0x00200004 || k == 0x0020004C || k == 0x00300014 || k == 0x00300018 || (0x03E00000 ≤ k && k < 0x04000000)
    || (sleep && ((0x00100014 ≤ k && k < 0x00100028) || k == 0x00200000 || (0x03800010 ≤ k && k < 0x0380001C)
        || (0x00108000 ≤ k && k < 0x00108200) || k == 0x0010000C || (0x00101000 ≤ k && k < 0x00101300 && k % 0x20 == 8)))

/-- HUSK_FAIL_N driven low or released, as FAIL_PIN shows it (R610, R624, R704). -/
def State.failPin (s : State) (low : Bool) : State := (s.wb 0x00300000 24 low).mPower fun p => { p with huskFail := low }

/-- Everything outside AON at its values after reset. -/
def State.deviceReset (s : State) (sleep : Bool) : State :=
  let s := s.flashCut
  let t : State :=
    { State.reset with
      pending := s.pending, now := s.now, variant := s.variant, freeCount := s.freeCount, lastRead := s.lastRead,
      regs := s.regs.filter fun c => aonHeld sleep c.1, hostMem := s.hostMem, recs := { s.recs with heldCnt := [], ranDom := [] },
      seed := { stack1 := if s.row.seedbankMiB = 16384 then 1 else 0 },
      start := { flash := s.start.flash, flashBad := s.start.flashBad, spares := s.start.spares, rollback := s.start.rollback },
      power := { pwrgood := s.power.pwrgood, goodAt := s.power.goodAt, safeLow := s.power.safeLow, aonLow := s.power.aonLow,
                 slowTold := s.power.slowTold, thermtrip := s.power.thermtrip, critical := s.power.critical,
                 critCool := s.power.critCool, touchOwed := s.power.touchOwed,
                 wakeOwed := s.power.wakeOwed, critOwed := s.power.critOwed } }
  let t := t.wr 0x00180000 (t.row.capDefaultW * 10)
  t.wr 0x00200004 (s.rf 0x00200004 29 28 * 2 ^ 28)

/-! ### The start as a sequence of points -/

/-- The start sequence and the Husks act as this secure requester (R578, R607). -/
def startReq : Req := ⟨.husk 0, true⟩

/-- START_STATUS.PHASE set (R583, R602). -/
def State.phaseTo (s : State) (v : Nat) : State := s.wf 0x00200000 31 28 v

/-- The point the start has reached. -/
def State.startTo (s : State) (n : Nat) : State := s.mStart fun t => { t with step := n }

/-- Domains raised by the start: their FLOOR is set to ON (R568; log entry 61). -/
def State.raiseAll (s : State) : List Nat → State
  | [] => s
  | d :: ds => (if s.domainAbsent d then s else (s.wf (domainReg d 0) 31 30 3).domainSettle d).raiseAll ds

/-- Every domain of a list that is present reads ON. -/
def State.allUp (s : State) (ds : List Nat) : Bool := ds.all fun d => s.domainAbsent d || s.domainState d == 3

/-- How the active slot is read. -/
def State.activeRead (s : State) : ImgRead := match s.activeSlot with | some k => s.slotRead k | none => fun _ _ => none

/-! ### Choosing a slot (R574, R579 to R582, R586) -/

/-- Why a slot is not valid. -/
def State.slotFault (s : State) (k : Nat) : Option Nat := imgFault s.start.rollback s.row.code s.slotSize false (s.slotRead k)

/-- A slot is checked: START_SLOTS shows its validity and the status of the check. -/
def State.checkSlot (s : State) (k : Nat) : State :=
  let f := s.slotFault k
  let s := s.wb 0x00200004 (31 - k) f.isNone
  if k = 0 then s.wf 0x00200004 22 16 (f.getD 0) else s.wf 0x00200004 6 0 (f.getD 0)

/-- The slot a start takes among those valid and not yet tried: one marked TRIED_BAD is passed over while another is left, then the higher
SEQ, then A (R579, R581). -/
def State.pickSlot (s : State) : Option Nat :=
  let seq (k : Nat) : Nat := chSeq ((imgHeader (s.slotRead k)).getD 0)
  let ok := (List.range 2).filter fun k => s.rb 0x00200004 (31 - k) && !s.start.tried.contains k
  let fresh := ok.filter fun k => !s.rb 0x00200004 (29 - k)
  match (if fresh.isEmpty then ok else fresh) with
  | [0, 1] => if seq 0 < seq 1 then some 1 else some 0
  | k :: _ => some k
  | [] => none

/-- A slot is taken: START_STATUS, START_SEQ and START_ROLLBACK show it, and its records are read from point 3 on. -/
def State.takeSlot (s : State) (k : Nat) : State :=
  let h := (imgHeader (s.slotRead k)).getD 0
  let s := ((s.wf 0x00200000 27 26 (k + 1)).wr64 0x00200010 (chSeq h)).wr 0x00200018 (s.start.rollback * 256 + chRollback h)
  (s.mStart fun t => { t with tried := t.tried ++ [k], list := [], waitFrom := none }).startTo 3

/-- No slot can start: RECOVERY (R582). The fused settings of VDD_CORE show in no register. -/
def State.recovery (s : State) : State :=
  let s := ((s.wf 0x00200000 27 26 0).phaseTo 5).failPin true
  ((s.mStart fun t => { t with list := [], waitFrom := none }).startTo 40).raiseAll [4, 22]

/-- A slot is left: the other one is tried from the beginning, with SLOT_FALLBACK, or the device enters RECOVERY (R581, R582). -/
def State.leaveSlot (s : State) (kind st : Nat) : State :=
  match s.activeSlot with
  | none => s.recovery
  | some k =>
    let s := if k = 0 then s.wf 0x00200004 22 16 st else s.wf 0x00200004 6 0 st
    match s.pickSlot with
    | some j => (s.emitAt pfWin 0x19 st 0 ((k + 1) * 2 ^ 28 + kind) s.now).takeSlot j
    | none => s.recovery

/-- A record fails, or an essential one is absent (R581). -/
def State.recordFail (s : State) (kind st : Nat) : State :=
  let s := s.mStart fun t => { t with list := [], waitFrom := none }
  if essential kind then s.leaveSlot kind st
  else (s.wb 0x00200000 22 true).emitAt pfWin 0x1A st 0 kind s.now

/-! ### Write lists (R578) -/

/-- Fields of an entry; the model adds the pipe and the PLL of a PIP_CONFIG list above bit 127. -/
def wlOffset (e : Nat) : Nat := bits e 31 0
def wlValue (e : Nat) : Nat := bits e 63 32
def wlMask (e : Nat) : Nat := bits e 95 64
def wlWait (e : Nat) : Bool := bit e 96
def wlTimeout (e : Nat) : Nat := bits e 127 112
def wlPipe (e : Nat) : Nat := bits e 131 128
def wlPll (e : Nat) : Nat := bits e 135 132

/-- The entries of a write list. -/
def wlEntries (b : Bytes) : List Nat := (List.range (b.length / 16)).map fun i => leNat ((b.drop (16 * i)).take 16)

/-- The registers a list of a kind may name (R577, R620). -/
def wlAllowed (kind e : Nat) : Bool :=
  let o := wlOffset e
  match kind with
  | 0x01 =>
    (0x00108100 ≤ o && o < 0x00108200 && o % 0x10 == 0) || o == 0x00108014 || o == 0x00108024 || o == 0x0010000C
      || (0x00101000 ≤ o && o < 0x00101300 && o % 0x20 == 8)
  | 0x04 =>
    (pipeReg (wlPipe e) 0 ≤ o && o < pipeReg (wlPipe e) 0x10000) || (pllReg (wlPll e) 0 ≤ o && o < pllReg (wlPll e) 0x10)
  | 0x08 => 0x00500000 ≤ o && o < 0x00600000
  | 0x0B => 0x00100000 ≤ o && o < 0x00200000
  | 0x0C => 0x00600000 ≤ o && o < 0x01000000
  | 0x0D => 0x01000000 ≤ o && o < 0x02000000
  | 0x0E => 0x03000000 ≤ o && o < 0x03800000
  | 0x0F => 0x03800000 ≤ o && o < 0x03A00000
  | 0x10 => 0x03A00000 ≤ o && o < 0x03C00000
  | 0x11 => 0x00400000 ≤ o && o < 0x00500000
  | 0x12 => 0x03C00000 ≤ o && o < 0x03E00000
  | 0x13 => 0x05000000 ≤ o && o < 0x07000000
  | _ => false

/-- A word put by a write list: fields marked as set by the configuration image are written too, and audio defaults go into both banks
(R401, R578). -/
def State.listPut (s : State) (kind o v : Nat) : State :=
  if 0x00101000 ≤ o ∧ o < 0x00101300 ∧ o % 0x20 = 0xC then (s.wf o 2 0 v).wf o 26 24 v
  else if o = 0x03C00000 then s.wf o 7 0 (min 64 (bits v 7 0))
  else
    let s := s.busWrite startReq o (BitVec.ofNat 32 v)
    if kind = 0x0E ∧ 0x03100000 ≤ o ∧ o < 0x03200000 then s.mAudio fun a => { a with active := a.shadow } else s

/-- A write list is applied from its first entry on, up to a WAIT that does not hold yet; an entry that fails, fails the record (R578). -/
def State.runList (s : State) : List Nat → State
  | [] => s.mStart fun t => { t with list := [], waitFrom := none }
  | e :: es =>
    let kind := s.start.listKind
    let o := wlOffset e
    if !wlAllowed kind e || o % 4 != 0 || bits e 111 97 != 0 || (wlWait e && wlTimeout e == 0) then s.recordFail kind Status.badParam.code
    else
      let (v, t) := s.busRead startReq o
      let v := v.toNat
      if wlWait e then
        if v &&& wlMask e = wlValue e then (t.mStart fun x => { x with waitFrom := none }).runList es
        else
          let since := s.start.waitFrom.getD s.now
          if since + wlTimeout e * 1000000 ≤ s.now then t.recordFail kind Status.timeout.code
          else t.mStart fun x => { x with list := e :: es, waitFrom := some since }
      else (t.listPut kind o ((v &&& (0xFFFFFFFF ^^^ wlMask e)) ||| (wlValue e &&& wlMask e))).runList es

/-- A list of a record begins. -/
def State.beginList (s : State) (kind : Nat) (es : List Nat) : State :=
  (s.mStart fun t => { t with list := es, listKind := kind, waitFrom := none }).runList es

/-! ### Records put to use (R577, R583) -/

/-- Firmware that runs on every unit of a kind, in on-die slot A (R599, R600; log entry 61). -/
def State.loadFw (s : State) (kind ver : Nat) : State :=
  (List.range s.row.unitCount).foldl (fun s u =>
    match s.unitAt u with
    | some (k, _) =>
      if k = kind then
        (s.mUnit u fun x => { x with slotActive := 1, slotPending := 0, verA := ver, verB := 0, fw := ver }).mStart fun t =>
          { t with ran := tset 0 t.ran u 0, live := tset 0 (tset 0 t.live (u * 4 + 1) 0) (u * 4 + 2) 0 }
      else s
    | none => s) s

/-- A degraded output of PIP_CONFIG: pipe, port, kind (1 DP, 2 DSI), offset and entries of its write list (R620). -/
structure PipOut where
  pipe : Nat
  port : Nat
  kind : Nat
  at_ : Nat
  count : Nat
  deriving DecidableEq, Repr, Inhabited

/-- The degraded outputs a PIP_CONFIG block names. -/
def pipOuts (cfg : Nat) : List PipOut :=
  (List.range 4).filterMap fun i =>
    let n := bits cfg (127 + 64 * i) (64 + 64 * i)
    if bits n 13 12 = 0 then none else some ⟨bits n 7 0, bits n 11 8, bits n 13 12, bits n 31 16, bits n 47 32⟩

/-- Whether a PIP_CONFIG record is refused (R620): a reserved field, a degraded output out of place, a reserved encoding of the chime port. -/
def pipBad (s : State) (b : Bytes) : Bool :=
  let n := leNat (b.take 128)
  decide (b.length < 128) || bits n 1023 464 != 0 || bits n 353 352 != 0 || bits n 335 320 != 0 || bits n 39 16 != 0
    || bits n 455 440 > 3600 || bits n 359 358 == 3 || bits n 357 356 == 3 || bits n 355 354 == 3 || bits n 357 356 < bits n 355 354
    || bits n 343 340 > 3 || bits n 339 336 > 7
    || (List.range 8).any (fun i => bits n (366 + 8 * i) (364 + 8 * i) != 0)
    || (List.range 4).any (fun i => bits n (127 + 64 * i) (112 + 64 * i) != 0 || bits n (79 + 64 * i) (78 + 64 * i) != 0)
    || (pipOuts n).any fun o =>
      o.kind == 3 || 16 ≤ o.pipe || !bit n o.pipe || s.row.pipes ≤ o.pipe || 4 ≤ o.port || b.length < 16 * (o.at_ + o.count)

/-- A degraded output, OFF as yet, whose pipe's PIPE_OUTPUT does not drive the kind and port that PIP_CONFIG names, or one on a port the part does not
have (R222, R620; log entry 61). -/
def State.pipMisled (s : State) : Bool :=
  (pipOuts s.pip.config).any fun o =>
    s.pipeState o.pipe == 0 && ((s.heldCfg o.pipe).kind != o.kind || (s.heldCfg o.pipe).port != o.port
      || (if o.kind = 1 then s.row.dpPorts else s.row.dsiPorts) ≤ o.port)

/-- Whether a PIP_SPRITES record is refused (R621): its counts are out of range, or a bit of its header is set that must be 0 (log entry 61). -/
def spritesBad (b : Bytes) : Bool :=
  let n := leNat (b.take 64)
  decide (b.length < 64 + 72 * 16) || 64 < bits n 15 0 || 8 < bits n 23 16 || n / 2 ^ 24 != 0

/-- The PLL a list leaves selected for a pipe (R245, R620). -/
def State.listPll (s : State) (p : Nat) (es : List Nat) : Nat :=
  bits (es.foldl (fun v e =>
    if wlOffset e = pipeReg p 0x18 ∧ ¬ wlWait e then (v &&& (0xFFFFFFFF ^^^ wlMask e)) ||| (wlValue e &&& wlMask e) else v) (s.rd (pipeReg p 0x18))) 3 1

/-- The write lists of the degraded outputs, each bound to its pipe and that pipe's PLL. Outputs that run already keep their configuration
(R616). -/
def State.pipLists (s : State) (b : Bytes) : List Nat :=
  (pipOuts s.pip.config).flatMap fun o =>
    if s.pipeState o.pipe ≠ 0 then []
    else
      let es := wlEntries ((b.drop (16 * o.at_)).take (16 * o.count))
      let pll := s.listPll o.pipe es
      es.map fun e => e + o.pipe * 2 ^ 128 + pll * 2 ^ 132

/-- The domains of the degraded outputs: their pipes and PLLs, and their transmitters (R538). -/
def State.pipDomains (s : State) : List Nat :=
  let os := pipOuts s.pip.config
  (if os.any fun o => decide (o.pipe < 8) then [14] else []) ++ (if os.any fun o => decide (8 ≤ o.pipe) then [15] else [])
    ++ (if os.isEmpty then [] else [16])

/-- The Pip lane runs, with the icons of PIP_SPRITES (R619, R624). -/
def State.pipRuns (s : State) : State := (s.wb 0x00300020 31 true).wf 0x00300020 15 8 (min 64 s.iconCount)

/-- Pipes are designated, and the degraded outputs start Pip-first; one that runs already stays as it is, and
none starts again after a second loss of the Pip lane (R222, R584, R615, R616). -/
def State.pipOutputs (s : State) : State :=
  let n := s.pip.config
  let s := (List.range s.row.pipes).foldl (fun s p => s.wb (pipeReg p 0xC000) 31 (bit n p)) s
  if s.husk.stopped then s
  else (pipOuts n).foldl (fun s o => (s.wb (pipeReg o.pipe 0xC000) 30 true).pipFirstStart o.pipe) s

/-- The assigned phases of the regulators are enabled, shed until they are needed (R548, R583 step 5). -/
def State.phasesOn (s : State) : State :=
  (List.range (if s.row.large then 16 else 8)).foldl (fun s p => if s.rb (phaseReg p 0) 31 && s.phase p != 2 then s.setPhase p 1 else s) s

/-- MEMORY: bytes 0 to 6 (R96, R577); what they hold is refused when no memory has it. -/
def memBad (s : State) (b : Bytes) : Bool :=
  let x (i : Nat) : Nat := (b.getD i 0).toNat
  decide (b.length < 7) || 3 < x 0 || 2 < x 1 || 1 < x 2 || (x 3 != s.row.lpChannels && x 3 * 2 != s.row.lpChannels) || 1 < x 4 || 64 < x 5
    || 64 < x 6

def State.applyMemory (s : State) (b : Bytes) : State :=
  let x (i : Nat) : Nat := (b.getD i 0).toNat
  let s := s.wr 0x00600008 (x 4 * 2 ^ 30 + x 3 * 2 ^ 16 + x 0 * 2 ^ 12 + x 1 * 2 ^ 10 + x 2 * 2 ^ 9)
  s.mSeed fun m => { m with sbSpares := x 5, lpSpares := x 6 }

/-- HOSTIO: byte 0 the manager link, byte 1 the bifurcation, bytes 2 to 11 TotalVFs per link (R472 to R474, R577, R691; log entry 61). -/
def hostioBad (s : State) (b : Bytes) : Bool :=
  let x (i : Nat) : Nat := (b.getD i 0).toNat
  decide (b.length < 12) || 4 < x 0 || 1 < x 1 || (x 1 == 0 && 1 < x 0) || (!s.row.large && 1 < x 0)
    || (List.range 5).any fun l => 256 < x (2 + 2 * l) + 256 * x (3 + 2 * l)

def State.applyHostio (s : State) (b : Bytes) : State :=
  let x (i : Nat) : Nat := (b.getD i 0).toNat
  (List.range 5).foldl (fun s l =>
    let present := l = 0 ∨ l = 1 ∨ (s.row.large ∧ x 1 = 1)
    let wide := l = 0 ∨ (l = 1 ∧ s.row.large ∧ x 1 = 0)
    if present then
      s.wr (linkReg l) (2 ^ 31 + s.rf (linkReg l) 30 30 * 2 ^ 30 + b2n (x 0 == l) * 2 ^ 29 + (if wide then 2 else 1) * 2 ^ 24
        + (x (2 + 2 * l) + 256 * x (3 + 2 * l)))
    else s.wr (linkReg l) 0) s

/-- A record of a kind is put to use by `act`, and the start goes on to point `next`; one that is absent leaves its units as they are, unless
it is essential (R577, R581). -/
def State.useRecord (s : State) (kind next : Nat) (bad : Bytes → Bool) (act : Bytes → Nat → State → State) : State :=
  let s := s.startTo next
  match imgEntry s.activeRead kind with
  | none => if essential kind then s.recordFail kind (1 + (Config.absentRecord kind).val) else s
  | some e =>
    match readRecord s.activeRead e with
    | .error st => s.recordFail kind st.code
    | .ok b => if bad b then s.recordFail kind Status.badParam.code else act b (deVersion e) s

/-- A record that is a write list. -/
def State.useList (s : State) (kind next : Nat) : State :=
  s.useRecord kind next (fun _ => false) fun b _ s => s.beginList kind (wlEntries b)

/-! ### Persistent settings at start (R589 to R591, R95) -/

def magicPset : Nat := 0x54455350
def magicRec : Nat := 0x44434552

/-- An area's header and records, when it is valid (R591): WRITE_SEQ and the bytes of the records. -/
def State.areaRead (s : State) (k area : Nat) : Option (Nat × Bytes) :=
  match s.areaOf k area with
  | none => none
  | some (a, n) =>
    match s.flashRead a 64 with
    | none => none
    | some hb =>
      let h := leNat hb
      let len := bits h 127 96
      let dev := (List.range 4).foldl (fun d i => d + (Config.devId i).toNat * 2 ^ (32 * i)) 0
      if bits h 31 0 ≠ (if area = 1 then magicPset else magicRec) ∨ bits h 47 32 ≠ 1 ∨ bits h 383 256 ≠ dev ∨ n < 64 + len then none
      else
        match s.flashRead (a + 64) len with
        | none => none
        | some b => if (Config.areaTag (hb.take 48 ++ b)).toList = hb.drop 48 then some (bits h 191 128, b) else none

/-- The valid area of the two slots with the higher WRITE_SEQ. -/
def State.areaBest (s : State) (area : Nat) : Option (Nat × Bytes) :=
  match s.areaRead 0 area, s.areaRead 1 area with
  | some a, some b => if a.1 < b.1 then some b else some a
  | some a, none => some a
  | none, b => b

/-- The records of an area: kind and body; one that fails its CRC is left out (R589, R591). `fuel` is the count of bytes. -/
def areaRecords : Nat → Bytes → List (Nat × Bytes)
  | 0, _ => []
  | fuel + 1, b =>
    if b.length < 16 then []
    else
      let h := leNat (b.take 16)
      let len := bits h 95 64
      let body := (b.drop 16).take len
      if body.length < len then []
      else
        let rest := areaRecords fuel (b.drop (16 + len))
        if crc32 body = bits h 127 96 then (bits h 15 0, body) :: rest else rest

/-- The body of a record kind; empty where there is none. -/
def recordBody (rs : List (Nat × Bytes)) (kind : Nat) : Bytes := match rs.find? (·.1 == kind) with | some r => r.2 | none => []

/-- A body as numbers of `n` bytes each. -/
def numbers (n : Nat) (b : Bytes) : List Nat := (List.range (b.length / n)).map fun i => leNat ((b.drop (n * i)).take n)

/-- Numbers as a table from 0. -/
def toTable (l : List Nat) : Tbl Nat := l.zipIdx.foldl (fun t x => tset 0 t x.2 x.1) []

/-- The settings that the records of an area hold (R590). -/
def psetOf (b : Bytes) : PsetRec :=
  let rs := areaRecords b.length b
  let cal := numbers 4 (recordBody rs 0x0106)
  { pages := (numbers 8 (recordBody rs 0x0101)).map fun n => (n / 2 ^ 60, n % 2 ^ 60),
    theta := leNat ((recordBody rs 0x0103).take 4),
    base := toTable (numbers 4 (recordBody rs 0x0104)),
    setting := toTable (numbers 1 (recordBody rs 0x0105)),
    hap := (List.range (cal.length / 4)).foldl (fun t c =>
      tset (0, 0, 0, 0) t c (cal.getD (4 * c) 0, cal.getD (4 * c + 1) 0, cal.getD (4 * c + 2) 0, cal.getD (4 * c + 3) 0)) [] }

/-- A page of the list is retired before any chunk is handed out (R94, R95). -/
def State.retireStored (s : State) (mem page : Nat) : State :=
  let used := s.seed.retired.countP fun r => r.mem == mem
  let sp := s.spareChunks mem
  if 2 ≤ mem ∨ sp.length * 512 ≤ used then s
  else
    let s := s.mSeed fun m =>
      { m with retired := m.retired ++ [⟨mem, page, sp.getD (used / 512) 0 * 512 + used % 512⟩],
               chunks := tmod {} m.chunks (mem * 2 ^ 20 + page / 512) fun c => { c with retired := min 31 (c.retired + 1) } }
    if mem = 0 then s.satf 0x0060001C 15 0 1 else s.satf 0x0060001C 31 16 1

/-- The persistent settings are read (R591), and the retired pages applied (R95). -/
def State.loadPset (s : State) : State :=
  match s.areaBest 1 with
  | none => (s.mStart fun t => { t with pset := {} }).wb 0x00200000 23 false
  | some (seq, b) =>
    let p := psetOf b
    let s := ((s.mStart fun t => { t with pset := p }).wr64 0x00200058 seq).wb 0x00200000 23 true
    p.pages.foldl (fun s x => s.retireStored x.1 x.2) s

/-- A unit that failed at the start reads FAULT (R98). -/
def State.startFault (s : State) (kind i : Nat) : State :=
  match s.unitIndex kind i with
  | some u => (s.mUnit u fun x => { x with lastStatus := Status.fault.code }).setHealth u 2
  | none => s

/-- The Seedbank stacks are tested: one that fails is marked FAILED (R98). -/
def State.stackTest (s : State) : State :=
  (List.range 2).foldl (fun s k =>
    if s.seed.defects.contains k ∧ 0 < s.stackChunks k then
      (s.mSeed fun m => if k = 0 then { m with stack0 := 2 } else { m with stack1 := 2 }).startFault 0x40 k
    else s) s

/-- LPDDR is trained, from the LPDDR_TRAIN record or, when no valid one is there, in full (R97, R589 to R591). Channels that fail read FAULT; a
failure confined to the upper half of all channels leaves the lower half in service, any other takes LPDDR out of service (R98). -/
def State.lpTrain (s : State) : State :=
  let n := s.lpChannels
  let bad := (List.range n).filter fun c => s.seed.defects.contains (2 + c)
  let valid := match s.areaBest 1 with | some (_, b) => (areaRecords b.length b).any fun r => r.1 == 0x0102 | none => false
  let s := s.mSeed fun m => { m with trainedFull := decide (0 < n) && !valid }
  let s := bad.foldl (fun s c => s.startFault 0x41 c) s
  if bad = [] then s
  else if n = s.row.lpChannels ∧ ∀ c ∈ bad, n / 2 ≤ c then s.wf 0x00600008 23 16 (n / 2)
  else s.wb 0x00600008 31 true

/-- Pipes that PIPES marks SPARE; no UNIT_HEALTH event reports it (R599; log entries 58, 68). -/
def State.markSpares (s : State) : State :=
  s.start.spares.foldl (fun s p =>
    match s.unitIndex 0x20 p with
    | some u => s.mUnit u fun x => { x with spare := true, health := 5 }
    | none => s) s

/-! ### The points of the start (R582 to R584, R586) -/

/-- Units of a kind run and beat. -/
def State.huskRun (s : State) : State := (s.wf 0x00300000 31 29 0).wf 0x00300000 28 26 0

/-- One point of the start; none while it waits. -/
def State.startOne (s : State) : Option State :=
  if s.start.list ≠ [] then
    let t := s.runList s.start.list
    if t.start.list ≠ [] then none else some t
  else
    match s.start.step with
    | 1 => if s.allUp [1, 2, 3] then some (s.startTo 2) else none
    | 2 =>
      let s := (s.checkSlot 0).checkSlot 1
      let s := if s.rf 0x00200004 29 28 = 3 then s.wf 0x00200004 29 28 0 else s
      match (if s.rb 0x00200000 25 then s.activeSlot else none) with
      | some k => if s.rb 0x00200004 (31 - k) then some (s.takeSlot k) else some (s.leaveSlot 0 (s.rf 0x00200004 (if k = 0 then 22 else 6) (if k = 0 then 16 else 0)))
      | none => match s.pickSlot with
        | some k => some (s.takeSlot k)
        | none => some s.recovery
    | 3 => some (if s.rb 0x00200000 25 then s.startTo 4 else s.useList 0x01 4)
    | 4 => some (s.phasesOn.useRecord 0x02 5 (fun _ => false) fun _ v s =>
        let s := (s.loadFw 0x12 v).huskRun
        if s.start.returning then s else s.failPin false)
    | 5 => some (s.useRecord 0x03 6 (fun _ => false) fun _ v s => s.loadFw 0x13 v)
    | 6 => some (s.useRecord 0x04 7 (pipBad s) fun b _ s => s.mPip fun q => { q with config := leNat (b.take 128) })
    | 7 => some (s.useRecord 0x05 8 spritesBad fun b _ s =>
        ((s.mPip fun q => { q with sprites := b }).pipRuns).raiseAll (4 :: s.pipDomains))
    | 8 => if s.allUp (4 :: s.pipDomains) then some (s.startTo 9) else none
    | 9 => some (s.useRecord 0x04 10 (fun _ => false) fun b _ s => s.beginList 0x04 (s.pipLists b))
    | 10 => some (if s.pipMisled then s.recordFail 0x04 Status.badParam.code else (s.pipOutputs.phaseTo 2).startTo 11)
    | 11 => some (s.useRecord 0x06 12 (fun _ => false) fun _ v s => (s.loadFw 0x10 v).raiseAll [5])
    | 12 => some (s.useList 0x08 13)
    | 13 => if s.allUp [5] then some (((s.phaseTo 3).startTo 14).raiseAll [18, 19]) else none
    | 14 => if s.allUp [18, 19] then some (s.startTo 15) else none
    | 15 => some (s.useList 0x0B 16)
    | 16 => some (s.useRecord 0x0C 17 (memBad s) fun b _ s => (s.applyMemory b).beginList 0x0C (wlEntries (b.drop 7)))
    | 17 => some (s.stackTest.lpTrain.loadPset.startTo 18)
    | 18 => some (s.markSpares.useList 0x0D 19)
    | 19 => some (s.useList 0x12 20)
    | 20 => some (s.useList 0x13 21)
    | 21 => some (s.useRecord 0x07 22 (fun _ => false) fun _ v s => s.loadFw 0x33 v)
    | 22 => some (s.useRecord 0x09 23 (fun b => decide (b.length < 384)) fun b _ s =>
        s.mStart fun t => { t with dbgKeys := (List.range 4).map fun i => (b.drop (96 * i)).take 96 })
    | 23 => some (s.useRecord 0x0A 24 (fun _ => false) fun b _ s => s.mStart fun t => { t with secrets := b })
    | 24 => some ((s.startTo 25).raiseAll [20, 21])
    | 25 => if s.allUp [20, 21] then some (s.startTo 26) else none
    | 26 => some (s.useList 0x0E 27)
    | 27 => some (s.useList 0x0F 28)
    | 28 => some (s.useList 0x10 29)
    | 29 => some ((s.hapDomainStart.startTo 30).raiseAll [22])
    | 30 => if s.allUp [22] then some (s.startTo 31) else none
    | 31 => some (s.useRecord 0x11 33 (hostioBad s) fun b _ s => (s.applyHostio b).beginList 0x11 (wlEntries (b.drop 12)))
    | 40 => if s.allUp [4, 22] then some ((s.wr (linkReg 0) (2 ^ 31 + 2 ^ 29 + 2 * 2 ^ 24)).startTo 41) else none
    | _ => none

/-- The start goes on as far as it can. -/
def State.startRun : Nat → State → State
  | 0, s => s
  | n + 1, s => match s.startOne with
    | some t => t.startRun n
    | none => s

/-- The start is looked at again: each point is passed at most once per slot. -/
def State.startGo (s : State) : State := s.startRun 128

/-! ### Starts -/

/-- What a start from AON sets: the phase, the Husks in their start, and the three safe domains on their way up (R583 steps 1 and 2). -/
def State.startBegin (s : State) : State :=
  let s := (s.domainUnits 0).foldl (fun s u => s.mUnit u fun x => { x with state := 3, req := 3, target := 3 }) (s.setDomain 0 3)
  let s := ((s.phaseTo 1).wf 0x00300000 31 29 1).wf 0x00300000 28 26 1
  let s := s.mStart fun t => { t with step := 1, since := s.now, tried := [], list := [], waitFrom := none }
  (s.raiseAll [1, 2, 3]).startGo

/-- A cold start begins at step 1: recorder slots are emptied without counting a clear (R583, R663). -/
def State.coldStart (s : State) : State :=
  let s := s.mRecs fun r =>
    { slots := r.slots.map fun c => (c.1, { seq := c.2.seq, clears := c.2.clears, clearAt := c.2.clearAt, clearer := c.2.clearer, clearTold := c.2.clearTold }) }
  let s := ((s.wr 0x00100020 0).wb 0x00100028 31 true).wb 0x00100028 30 false
  let s := ((s.wr 0x00200000 0).failPin true).mPower fun p => { p with railEn := true }
  let s := match s.power.critOwed with
    | some v => (s.mPower fun p => { p with critOwed := none }).emitPf 0x11 .fault (0xFF * 2 ^ 24 + v)
    | none => s
  s.startBegin

/-- A warm start begins: the Husks resume, the slot is kept, and WAKE, and the touch that woke the device, go to the PF (R431, R564, R586,
R697). -/
def State.warmStart (s : State) : State :=
  let s := (((s.wf 0x00200000 25 22 8).wb 0x00100028 31 true).failPin false).emitPf 0x16 .ok (s.rf 0x00100020 2 0)
  let s := match s.power.touchOwed with
    | some e => s.emitPf 0x88 .ok e
    | none => s
  (s.mPower fun p => { p with sleep := 0, wakeOwed := false, touchOwed := none }).startBegin

/-- PWRGOOD counts as risen: with the rails of AON and VDD_SAFE in range a cold start begins. `flash` is what has been fitted meanwhile (R583,
R695, R696; log entry 58). -/
def execPwrgoodRise (dt : Nat) (flash : Option FlashIn) (s : State) : Host.Outcome State Fault Refusal :=
  let s := s.tick dt
  if s.power.pwrgood then .next s
  else
    let s := match flash with
      | none => s
      | some f =>
        let s := s.mStart fun t => { t with flash := [], flashBad := f.bad, spares := f.spares }
        f.runs.foldl (fun (s : State) (r : Nat × Bytes) => s.flashPut r.1 r.2) (s.wr 0x0020004C (f.sizeMiB * 2 ^ 16 + f.eraseKiB))
    let s := s.mPower fun p => { p with pwrgood := true, goodAt := s.now }
    if s.power.aonLow || s.power.safeLow || s.power.critical then .next s else .next s.coldStart

/-- PWRGOOD counts as fallen: every VR_ENp goes low and everything but AON is held in reset; the retry time of degraded mode is reset (R616,
R695). -/
def execPwrgoodFall (dt : Nat) (s : State) : Host.Outcome State Fault Refusal :=
  let s := s.tick dt
  if !s.power.pwrgood then .next s
  else .next (((s.deviceReset false).wr 0x00300018 0).mPower fun p => { p with pwrgood := false, huskFail := true })

/-- VDD_SAFE falls below its threshold: every domain but AON is held in reset, HUSK_FAIL_N low (R611). -/
def execVddSafeLoss (dt : Nat) (s : State) : Host.Outcome State Fault Refusal :=
  let s := s.tick dt
  .next (((s.deviceReset false).failPin true).mPower fun p => { p with safeLow := true })

/-- VDD_SAFE returns: a cold start (R611). -/
def execVddSafeReturn (dt : Nat) (s : State) : Host.Outcome State Fault Refusal :=
  let s := s.tick dt
  if !s.power.safeLow then .next s
  else
    let s := s.mPower fun p => { p with safeLow := false }
    if s.power.pwrgood ∧ ¬ s.power.aonLow then .next s.coldStart else .next s

/-- VDD_AON or VDDIO18 falls below its range: AON loses everything it holds, device time, marks and recorder slots among it, and the device
stays in reset (R539, R560, R580, R663, R696). -/
def execVddAonLoss (dt : Nat) (s : State) : Host.Outcome State Fault Refusal :=
  let s := s.tick dt
  let t := s.deviceReset false
  let t : State :=
    { t with now := 0, recs := {}, regs := [], power := { pwrgood := s.power.pwrgood, safeLow := s.power.safeLow, aonLow := true } }
  .next ((t.wr 0x00180000 (s.row.capDefaultW * 10)).wr 0x0020004C (s.rd 0x0020004C))

/-- Both rails are back in range: AON powers up with empty slots and SLOW_OK 0, and with PWRGOOD high the device starts (R561, R663, R696). -/
def execVddAonReturn (dt : Nat) (s : State) : Host.Outcome State Fault Refusal :=
  let s := s.tick dt
  if !s.power.aonLow then .next s
  else
    let s := s.mPower fun p => { p with aonLow := false, goodAt := s.now }
    if s.power.pwrgood ∧ ¬ s.power.safeLow then .next s.coldStart else .next s

/-- What will fail its test or its training of the memory behind a domain that comes ON: the Seedbank's stacks behind domain 18, the LPDDR channels
behind domain 19 (R98, R538; log entry 70). -/
def State.foundBad (s : State) (d : Nat) (defects : List Nat) : State :=
  if d = 18 then s.mSeed fun m => { m with defects := m.defects.filter (2 ≤ ·) ++ defects.filter (· < 2) }
  else if d = 19 then s.mSeed fun m => { m with defects := m.defects.filter (· < 2) ++ defects.filter (2 ≤ ·) }
  else s

/-- DOMAIN_ON: a raised domain's PLLs lock and it reads ON; the start goes on (R544, R583). -/
def execDomainOn (dt : Nat) (x : DomainUp) (s : State) : Host.Outcome State Fault Refusal :=
  let s := (((s.tickMem dt x.hosts).foundBad x.d x.defects).domainUp x.d).startGo
  .next ((List.range 16).foldl (fun s p => if unitDomain 0x20 p = x.d then s.startFirst x.hosts p else s) s)

/-- START_FULL: every point of the start is behind it (R583 step 17, R587, R616, R675). -/
def execStartFull (dt : Nat) (s : State) : Host.Outcome State Fault Refusal :=
  let s := (s.tick dt).startGo
  if s.start.step ≠ 33 ∨ s.start.list ≠ [] then .next s
  else
    let us := (s.now - s.start.since) / 1000
    let s := ((s.phaseTo 4).wr 0x0020000C (min (2 ^ 32 - 1) us)).failPin false
    let s := s.emitPf 0x18 .ok (4 * 2 ^ 28 + s.rf 0x00200000 27 26 * 2 ^ 26 + s.rf 0x00200000 25 25 * 2 ^ 25 + s.rf 0x00200000 22 22 * 2 ^ 24
      + min (2 ^ 24 - 1) (us / 1000))
    let s := if s.start.returning then
        s.emitPf 0xD2 .ok (min 65535 ((s.now - s.husk.degradedAt) / 1000000000) * 2 ^ 16 + min 65535 s.husk.failed)
      else s
    let s := s.mHusk fun h => { h with failed := 0, retryAt := none }
    .next (s.mStart fun t => { t with step := 0, returning := false, recDue := some (s.now + 900000000000) })

/-- RAILS_OK rises during a wake: the reference restarts and the warm start begins (R697). RAILS_OK is read only then. -/
def execRailsOkRise (dt : Nat) (s : State) : Host.Outcome State Fault Refusal :=
  let s := s.tick dt
  if s.power.sleep = 3 then .next s.warmStart else .next s

end Sys2Proof.Machine
end

