-- ==== Sys2Proof/Machine/Flash.lean ====
section
/-!
DEFINITION. Flash: START_CMD, the write-back of persistent settings and recorder slots, and the manager's access to the flash (Start,
configuration and live update; R580, R592 to R595, R600 to R603, R675).
-/
namespace Sys2Proof.Machine

/-! ### What a write-back holds (R589, R590, R675) -/

/-- Numbers as bytes, `n` bytes each. -/
def fields (n : Nat) (l : List Nat) : Bytes := l.flatMap fun v => leBytes v n

/-- A record of an area: its 16-byte header and its body (R589). -/
def areaRecord (kind : Nat) (body : Bytes) : Bytes := leBytes (kind + body.length * 2 ^ 64 + crc32 body * 2 ^ 96) 16 ++ body

/-- The settings to be kept (R590): retired pages; θ, free while none was stored; confirmed baselines, settings and sweep results, those stored
before where there is no newer one (log entry 62). -/
def State.psetNow (s : State) : PsetRec × State :=
  let old := s.start.pset
  let (w, s) := if old.theta = 0 then s.freeWord else (BitVec.ofNat 32 old.theta, s)
  let base (e : Nat) : Nat :=
    let b := e / 32
    let st := s.rd (elReg e 0x18)
    if s.rb (blkReg b 0x10) 31 && !bit st 28 && bits st 31 29 != 4 && s.rd (elReg e 0x10) != 0 then
      s.rf (blkReg b 0x10) 29 27 * 2 ^ 29 + b2n (tbCharge (s.blk b).ctrl) * 2 ^ 28 + s.rd (elReg e 0x10) / 256 % 2 ^ 24
    else tget 0 old.base e
  let setting (b : Nat) : Nat := if s.rb (blkReg b 0x10) 31 then s.rf (blkReg b 0x10) 29 27 else tget 0 old.setting b
  let cal (c : Nat) : Nat × Nat × Nat × Nat :=
    if s.rf (hapReg c 0x24) 31 16 = 0 then tget (0, 0, 0, 0) old.hap c
    else (s.rf (hapReg c 0x24) 31 16, s.rf (hapReg c 0x24) 15 0, (s.hap c).l, (s.hap c).k)
  ({ pages := s.seed.retired.map fun r => (r.mem, r.page), theta := w.toNat,
     base := toTable ((List.range s.row.electrodes).map base), setting := toTable ((List.range s.blocks).map setting),
     hap := (List.range s.row.haptics).foldl (fun t c => tset (0, 0, 0, 0) t c (cal c)) [] }, s)

/-- The records of the persistent settings. -/
def psetBytes (row : VariantRow) (p : PsetRec) : Bytes :=
  areaRecord 0x0101 (fields 8 (p.pages.map fun x => x.1 * 2 ^ 60 + x.2))
    ++ areaRecord 0x0102 Config.trainBody
    ++ areaRecord 0x0103 (leBytes p.theta 4 ++ Config.modelTerms)
    ++ areaRecord 0x0104 (fields 4 ((List.range row.electrodes).map fun e => tget 0 p.base e))
    ++ areaRecord 0x0105 (fields 1 ((List.range (row.electrodes / 32)).map fun b => tget 0 p.setting b))
    ++ areaRecord 0x0106 ((List.range row.haptics).flatMap fun c =>
        let x := tget (0, 0, 0, 0) p.hap c
        fields 4 [x.1, x.2.1, x.2.2.1, x.2.2.2])

/-- The images of every recorder slot, in slot order. -/
def State.recBytes (s : State) : Bytes := (List.range 256).flatMap fun n => s.recImage n s.now

/-- An area: its header, with the tag over it and the records, and the records (R589). -/
def areaBytes (area seq count : Nat) (records : Bytes) : Bytes :=
  let dev := (List.range 4).foldl (fun d i => d + (Config.devId i).toNat * 2 ^ (32 * i)) 0
  let head := leBytes ((if area = 1 then magicPset else magicRec) + 2 ^ 32 + count * 2 ^ 64 + records.length * 2 ^ 96 + seq % 2 ^ 64 * 2 ^ 128
    + dev * 2 ^ 256) 48
  head ++ (Config.areaTag (head ++ records)).toList ++ records

/-! ### Write-backs (R592, R593) -/

/-- A write-back is asked for; nothing is written without an active slot, nor in degraded mode (R592, R675). -/
def State.askWrite (s : State) (area : Nat) : State :=
  if s.activeSlot.isNone || s.husk.degraded || s.start.writes.contains area then s
  else s.mStart fun t => { t with writes := t.writes ++ [area] }

/-- The next write-back begins, when the flash is free and the manager does not hold it (R594). -/
def State.nextWrite (s : State) : State :=
  match s.start.writes with
  | [] => s
  | a :: r =>
    if s.start.writing.isSome || s.start.nvm.isSome || s.rb 0x00200030 31 then s
    else s.mStart fun t => { t with writing := some a, writes := r, psetDue := if a = 1 then none else t.psetDue }

/-- PSET_WRITE_DUE: MIN_S after the first change since the last write (R592). -/
def execPsetWriteDue (dt : Nat) (s : State) : Host.Outcome State Fault Refusal :=
  let s := s.tick dt
  match s.start.psetDue with
  | some d => if d + max 10 (min 3600 (s.rf 0x00200050 11 0)) * 1000000000 ≤ s.now then .next (s.askWrite 1).nextWrite else .next s
  | none => .next s

/-- RECORDER_FLUSH: every 15 min (R592, R675). -/
def execRecorderFlush (dt : Nat) (s : State) : Host.Outcome State Fault Refusal :=
  let s := s.tick dt
  match s.start.recDue with
  | some d =>
    if d ≤ s.now then .next ((s.mStart fun t => { t with recDue := some (d + 900000000000) }).askWrite 2).nextWrite else .next s
  | none => .next s

/-- A write-back that failed is retried once, at its next occasion (R593): for the settings MIN_S later (log entry 62). -/
def State.writeFailed (s : State) (area : Nat) : State :=
  s.mStart fun t =>
    if t.failed.contains area then { t with failed := t.failed.filter (· != area) }
    else { t with failed := t.failed ++ [area], psetDue := if area = 1 then some (t.psetDue.getD s.now) else t.psetDue }

/-- NVM_WRITE: the area write in progress ends (R592, R593, R603). What it writes is what the device holds at its end. -/
def execNvmWrite (dt : Nat) (ok : Bool) (s : State) : Host.Outcome State Fault Refusal :=
  let s := s.tick dt
  match s.start.writing with
  | none => .next s
  | some area =>
    match s.writePlace area with
    | none => .next (s.mStart fun t => { t with writing := none }).nextWrite
    | some (k, a, n) =>
      let seq := ((match s.areaBest area with | some b => b.1 | none => 0) + 1) % 2 ^ 64
      let (p, s) := s.psetNow
      let records := if area = 1 then psetBytes s.row p else s.recBytes
      let b := areaBytes area seq (if area = 1 then 6 else 256) records
      let det := area * 2 ^ 28 + (k + 1) * 2 ^ 26 + seq % 2 ^ 26
      let s := (s.flashErase a n).mStart fun t => { t with writing := none }
      if ok && decide (b.length ≤ n) then
        let s := (s.flashPut a b).mStart fun t => { t with failed := t.failed.filter (· != area), pset := if area = 1 then p else t.pset }
        let s := if area = 1 then (s.wr64 0x00200058 seq).satf 0x00200054 15 0 1 else s
        .next (s.emitPf 0x1B .ok det).nextWrite
      else
        let s := (s.flashFree a 64).writeFailed area
        let s := if area = 1 then s.satf 0x00200054 31 16 1 else s
        .next (s.emitPf 0x1C .fault det).nextWrite

/-! ### START_CMD (R580, R582, R592, R595, R600 to R602) -/

/-- START_CMD_STATUS.RESULT. -/
def State.startResult (s : State) (st : Status) : State := s.wf 0x00200024 22 16 st.code

/-- A write of START_CMD: ignored, with DENIED, from a normal requester outside RECOVERY; refused by the command's own check, and with BUSY
while a SHUTDOWN runs (R19, R601, R602). -/
def State.startCmd (s : State) (r : Req) (check : State → Status) (act : State → State) : State :=
  if pathWin r.path ≠ pfWin then s
  else
    match byR19 [(!s.reqSecure r && s.rf 0x00200000 31 28 != 5, .denied), (check s != .ok, check s), (s.rb 0x00200024 0, .busy)] with
    | .ok => act s
    | st => s.startResult st

/-- The check of a command that needs an active slot. -/
def State.needsSlot (s : State) : Status := if s.activeSlot.isNone then .badState else .ok

/-- CONFIRM: the fused rollback level rises to the active slot's (R600). -/
def execConfirm (dt : Nat) (r : Req) (s : State) : Host.Outcome State Fault Refusal :=
  .next ((s.tick dt).startCmd r (·.needsSlot) fun s =>
    let level := max s.start.rollback (s.rf 0x00200018 7 0)
    ((s.mStart fun t => { t with rollback := level }).wf 0x00200018 15 8 level).startResult .ok)

/-- SHUTDOWN: both areas are written (R595). -/
def execShutdown (dt : Nat) (r : Req) (s : State) : Host.Outcome State Fault Refusal :=
  .next ((s.tick dt).startCmd r (fun s => if s.rb 0x00200030 31 then .badState else .ok) fun s =>
    (((s.wb 0x00200024 0 true).mStart fun t => { t with shutdown := some s.now }).askWrite 1).askWrite 2 |>.nextWrite)

/-- SHUTDOWN_DONE: the writes of a SHUTDOWN have ended (R595). -/
def execShutdownDone (dt : Nat) (s : State) : Host.Outcome State Fault Refusal :=
  let s := s.tick dt
  if s.start.shutdown.isNone || s.start.writing.isSome || !s.start.writes.isEmpty then .next s
  else .next ((((s.phaseTo 6).wb 0x00200024 0 false).startResult .ok).mStart fun t => { t with shutdown := none })

/-- PSET_FLUSH: the persistent settings are written now (R592). -/
def execPsetFlush (dt : Nat) (r : Req) (s : State) : Host.Outcome State Fault Refusal :=
  .next ((s.tick dt).startCmd r (·.needsSlot) fun s => ((s.startResult .ok).askWrite 1).nextWrite)

/-- START_CMD.RESTART: the device starts again (R582, R602). -/
def execStartCmdRestart (dt : Nat) (r : Req) (s : State) : Host.Outcome State Fault Refusal :=
  .next ((s.tick dt).startCmd r (fun _ => .ok) fun s => (s.deviceReset false).coldStart)

/-- CLEAR_MARKS: the TRIED_BAD marks are cleared (R580). -/
def execClearMarks (dt : Nat) (r : Req) (s : State) : Host.Outcome State Fault Refusal :=
  .next ((s.tick dt).startCmd r (fun _ => .ok) fun s => (s.wf 0x00200004 29 28 0).startResult .ok)

/-! ### The manager's access to the flash (R594) -/

/-- HOST_OWN_WRITE: a write of START_NVM_CTRL. On release both areas are written (R594). -/
def execHostOwnWrite (dt : Nat) (r : Req) (v : Word) (s : State) : Host.Outcome State Fault Refusal :=
  let s := s.tick dt
  if pathWin r.path ≠ pfWin then .next s
  else
    let was := s.rb 0x00200030 31
    let s := s.wb 0x00200030 31 (bit v.toNat 31)
    if was && !bit v.toNat 31 then .next ((s.askWrite 1).askWrite 2).nextWrite else .next s

/-- The attributes of a requester's own access to a memory (R510). -/
def State.reqAttr (s : State) (r : Req) : Attr :=
  match r.path with
  | .hart h => ⟨!(s.hart h).normal, (s.hart h).hull, none, 0⟩
  | .mgr _ => ⟨true, none, none, 1⟩
  | .husk _ => ⟨true, none, none, 2⟩
  | .pip => ⟨true, none, none, 2⟩
  | .debug => ⟨r.secure, none, none, 7⟩
  | .vi v => ⟨s.fnSecure v, none, some v, 6⟩
  | .pf => ⟨s.fnSecure pfWin, none, none, 6⟩
  | .icvik _ => ⟨r.secure, none, none, 6⟩
  | .link _ => ⟨false, none, none, 6⟩

/-- The signed part of the active slot, and the areas of both slots: address and length (R594). -/
def State.nvmKept (s : State) : List (Nat × Nat) :=
  let signed := match s.activeSlot with
    | some k => [(k * s.slotSize, chImageLen ((imgHeader (s.slotRead k)).getD 0))]
    | none => []
  signed ++ (List.range 2).flatMap fun k => [s.areaOf k 1, s.areaOf k 2].filterMap id

/-- START_NVM_STATUS.RESULT. -/
def State.nvmResult (s : State) (st : Status) : State := s.wf 0x00200048 22 16 st.code

/-- A command on the flash: refused, or begun (R594, R601, R602). An op the field does not have is BAD_PARAM. The region controller is asked about its whole range at once; in RECOVERY
nothing is protected (R582). -/
def State.nvmCmd (s : State) (r : Req) (op len : Nat) : State :=
  if pathWin r.path ≠ pfWin then s
  else
    let o : NvmOp := ⟨op, s.rd 0x00200038, s.rd64 0x00200040, len⟩
    let (a, n) := s.nvmRange o
    let recovery := s.rf 0x00200000 31 28 == 5
    let kept := (op == 1 || op == 2) && !recovery && s.nvmKept.any fun k => overlap a n k.1 k.2
    let bad := if op = 1 then o.addr % 4096 != 0 || len == 0 else !(op == 2 || op == 3) || o.addr % 256 != 0 || len % 256 != 0 || o.buf % 256 != 0
    let out := decide (s.flashSize < a + n)
    let region := if recovery || bad || out then none else s.rcDenied 3 (s.reqAttr r) (if op = 3 then 4 else 2) a n
    match byR19 [(kept || region.isSome, .denied), (!s.rb 0x00200030 31, .badState), (bad || out, .badParam),
        (s.start.writing.isSome || s.start.nvm.isSome, .busy)] with
    | .ok => (s.wb 0x00200048 0 true).mStart fun t => { t with nvm := some o }
    | st =>
      let s := match region with | some x => s.deny 3 (s.reqAttr r) (op != 3) x | none => s
      s.nvmResult st

/-- NVM_ERASE (R594). -/
def execNvmErase (dt : Nat) (r : Req) (len : Nat) (s : State) : Host.Outcome State Fault Refusal := .next ((s.tick dt).nvmCmd r 1 len)

/-- NVM_PROGRAM (R594). -/
def execNvmProgram (dt : Nat) (r : Req) (len : Nat) (s : State) : Host.Outcome State Fault Refusal := .next ((s.tick dt).nvmCmd r 2 len)

/-- NVM_READ (R594). -/
def execNvmRead (dt : Nat) (r : Req) (len : Nat) (s : State) : Host.Outcome State Fault Refusal := .next ((s.tick dt).nvmCmd r 3 len)

/-- NVM_CMD_DONE: the flash command in progress ends; `ok` is what the flash reports of an erase or a program, `hosts` what a buffer outside the
device holds (R594). A read that fails, or a buffer that faults, completes with FAULT. -/
def execNvmCmdDone (dt : Nat) (ok : Bool) (hosts : List HostRun) (s : State) : Host.Outcome State Fault Refusal :=
  let s := s.tickMem dt hosts
  match s.start.nvm with
  | none => .next s
  | some o =>
    let (a, n) := s.nvmRange o
    let s := (s.wb 0x00200048 0 false).mStart fun t => { t with nvm := none }
    let (good, s) : Bool × State :=
      match o.op with
      | 1 => if ok then (true, s.flashErase a n) else (false, s.flashFree a n)
      | 2 =>
        match s.fetch pfWin 6 o.buf n (runAt hosts pfWin o.buf n) with
        | (some b, s) => if ok then (true, s.flashPut a b) else (false, s.flashFree a n)
        | (none, s) => (false, s)
      | _ =>
        match s.flashRead a n with
        | some b => s.store pfWin 6 o.buf b
        | none => (false, s)
    .next (s.nvmResult (if good then .ok else .fault)).nextWrite

end Sys2Proof.Machine
end

