-- ==== Sys2Proof/Machine/Update.lean ====
section
/-!
DEFINITION. Update: START_UPD_CMD: LOAD, ACTIVATE, REVERT and MOVE, the ends of a load and of a hand-over, and the latch point at which a spare pipe takes over
(Start, configuration and live update; R596 to R603).
-/
namespace Sys2Proof.Machine

/-! ### Units and slots (R29, R596, R597) -/

/-- The kind of unit a firmware record serves (R577, R596). -/
def fwKind (kind : Nat) : Option Nat :=
  match kind with
  | 0x02 => some 0x12
  | 0x03 => some 0x13
  | 0x06 => some 0x10
  | 0x07 => some 0x33
  | _ => none

/-- The units of the device that are of a kind. -/
def State.unitsOf (s : State) (kind : Nat) : List Nat :=
  (List.range s.row.unitCount).filter fun u => match s.unitAt u with | some (k, _) => k == kind | none => false

/-- The units a command names by a directory index: any manager core names all four, any Husk only itself (R597). -/
def State.updUnits (s : State) (u : Nat) : List Nat :=
  match s.unitAt u with
  | some (0x10, _) => s.unitsOf 0x10
  | some (k, _) => if k = 0x12 ∨ k = 0x13 ∨ k = 0x33 then [u] else []
  | none => []

/-- A Husk or the Pip lane, which only a secure requester may update (R597). -/
def State.safeUnit (s : State) (u : Nat) : Bool := match s.unitAt u with | some (k, _) => k == 0x12 || k == 0x13 | none => false

/-- The on-die slot a unit does not run: 1 A, 2 B. -/
def UnitSt.otherSlot (x : UnitSt) : Nat := if x.slotActive = 1 then 2 else 1

/-- The version a slot holds; 0 when it is empty (R29). -/
def UnitSt.slotVer (x : UnitSt) (k : Nat) : Nat := if k = 1 then x.verA else x.verB

/-- START_STATUS.DIVERGED: a unit runs firmware that a live update brought (R600). -/
def State.divergedSet (s : State) : State :=
  s.wb 0x00200000 24 ((List.range s.row.unitCount).any fun u => tget 0 s.start.live (u * 4 + (s.unit u).slotActive) != 0)

/-- START_UPD_STATUS.RESULT. -/
def State.updResult (s : State) (st : Status) : State := s.wf 0x00200114 22 16 st.code

/-- An update command begins: BUSY reads 1. -/
def State.updBegin (s : State) (o : UpdOp) : State := (s.wb 0x00200114 0 true).mStart fun t => { t with upd := some o }

/-- An update command ends. -/
def State.updEnd (s : State) (st : Status) : State := ((s.wb 0x00200114 0 false).updResult st).mStart fun t => { t with upd := none }

/-- An update command fails: UPDATE_FAILED (R597, R603). -/
def State.updFail (s : State) (o : UpdOp) (st : Status) : State := (s.updEnd st).emitPf 0x1F st (o.op * 2 ^ 28 + o.index)

/-! ### LOAD (R596, R597) -/

/-- LOAD (R597). A unit without on-die slots is no index that LOAD takes (log entry 63). -/
def execLoad (dt : Nat) (r : Req) (u : Nat) (s : State) : Host.Outcome State Fault Refusal :=
  let s := s.tick dt
  if pathWin r.path ≠ pfWin then .next s
  else
    let us := s.updUnits u
    let addr := s.rd64 0x00200100
    let secure := s.reqSecure r
    match byR19 [(!secure && us.any s.safeUnit, .denied), (s.noWork, .badState), ((u :: us).any fun x => s.claimBlocks x secure, .claimed),
        ((u != 0 && us.isEmpty) || addr % 64 != 0, .badParam), (s.start.upd.isSome, .busy)] with
    | .ok => .next (s.updBegin { op := 1, index := u, at_ := s.now, addr := addr, len := s.rd 0x00200108, secure := secure })
    | st => .next (s.updResult st)

/-- The records of a package that a LOAD puts into slots: kind of unit, version; or why it fails (R576, R596). -/
def packageRecords (read : ImgRead) : Except Status (List (Nat × Nat)) :=
  match imgHeader read with
  | none => .error .fault
  | some h => ((imgDir read h).getD []).mapM fun e =>
    match fwKind (deKind e) with
    | none => .error .badParam
    | some k => (readRecord read e).map fun _ => (k, deVersion e)

/-- A status by its code. -/
def statusOf (code : Nat) : Status :=
  match code with
  | 0x00 => .ok | 0x01 => .pending | 0x02 => .busy | 0x03 => .staleHandle | 0x04 => .badHandle | 0x05 => .badParam
  | 0x06 => .badGeometry | 0x07 => .badState | 0x08 => .unsupported | 0x09 => .noResource | 0x0A => .claimed | 0x0B => .lost
  | 0x0C => .denied | 0x0D => .spoof | 0x0E => .fault | 0x0F => .late | 0x10 => .throttled | 0x11 => .timeout
  | 0x12 => .badSignature | 0x13 => .badCrc | 0x14 => .orphaned | _ => .shrinkPending

/-- A version goes into the inactive slot of a unit. -/
def State.slotPut (s : State) (u ver : Nat) : State :=
  let k := (s.unit u).otherSlot
  (s.mUnit u fun x => if k = 1 then { x with verA := ver } else { x with verB := ver }).mStart fun t => { t with live := tset 0 t.live (u * 4 + k) 1 }

/-- UPDATE_LOADED: the package has been read and checked (R576, R596, R597). Nothing is loaded unless all of it passes; `hosts` is what a package outside
the device holds. -/
def execUpdateLoaded (dt : Nat) (hosts : List HostRun) (s : State) : Host.Outcome State Fault Refusal :=
  let s := s.tickMem dt hosts
  match s.start.upd with
  | none => .next s
  | some o =>
    if o.op ≠ 1 then .next s
    else
      match s.fetch pfWin 6 o.addr o.len (runAt hosts pfWin o.addr o.len) with
      | (none, s) => .next (s.updFail o .fault)
      | (some b, s) =>
        let read : ImgRead := fun a n => if o.len < a + n then none else some ((b.drop a).take n)
        match imgFault s.start.rollback s.row.code o.len true read with
        | some code => .next (s.updFail o (statusOf code))
        | none =>
          match packageRecords read with
          | .error st => .next (s.updFail o st)
          | .ok recs =>
            let named := s.updUnits o.index
            let todo := recs.flatMap fun x => ((s.unitsOf x.1).filter fun u => o.index == 0 || named.contains u).map fun u => (u, x.2)
            match byR19 [(!o.secure && todo.any fun x => s.safeUnit x.1, .denied), (todo.any fun x => s.claimBlocks x.1 o.secure, .claimed),
                (todo.isEmpty, .badParam)] with
            | .ok =>
              let s := todo.foldl (fun s x => s.slotPut x.1 x.2) s
              .next ((s.updEnd .ok).emitPf 0x1D .ok ((todo.headD (0, 0)).2 * 2 ^ 16 + o.index))
            | st => .next (s.updFail o st)

/-! ### ACTIVATE and REVERT (R597, R598) -/

/-- The partner of a Husk is in service (R597). -/
def State.partnerOk (s : State) (u : Nat) : Bool :=
  match s.unitAt u with
  | some (0x12, i) => (match s.unitIndex 0x12 (1 - i) with | some p => (s.unit p).health == 0 | none => false)
  | _ => true

/-- HUSK_STATUS of a Husk. -/
def State.huskState (s : State) (b : Nat) : Nat := if b = 0 then s.rf 0x00300000 31 29 else s.rf 0x00300000 28 26
def State.setHusk (s : State) (b v : Nat) : State := if b = 0 then s.wf 0x00300000 31 29 v else s.wf 0x00300000 28 26 v

/-- When the hand-over of a Husk began, plus 1 (R606). -/
def State.setHand (s : State) (b v : Nat) : State := s.mHusk fun h => if b = 0 then { h with handA := v } else { h with handB := v }

/-- A hand-over to a slot begins: UIF_SLOT.PENDING reads it, and of a Husk HUSK_STATUS reads UPDATING (R597, R606). -/
def State.handOver (s : State) (r : Req) (op u slot : Nat) : State :=
  if pathWin r.path ≠ pfWin then s
  else
    let us := s.updUnits u
    let secure := s.reqSecure r
    match byR19 [(!secure && us.any s.safeUnit, .denied), ((u :: us).any fun x => s.claimBlocks x secure, .claimed),
        (s.noWork || us.isEmpty || slot == 0 || (s.unit u).slotVer slot == 0 || !s.partnerOk u, .badState), (s.start.upd.isSome, .busy)] with
    | .ok =>
      let s := us.foldl (fun s x => s.mUnit x fun y => { y with slotPending := slot }) s
      let s := match s.unitAt u with
        | some (0x12, b) => (s.setHusk b 4).setHand b (s.now + 1)
        | _ => s
      s.updBegin { op := op, index := u, slot := slot, at_ := s.now, secure := secure }
    | st => s.updResult st

/-- ACTIVATE: a hand-over to the unit's other slot (R597, R598). -/
def execActivate (dt : Nat) (r : Req) (u : Nat) (s : State) : Host.Outcome State Fault Refusal :=
  let s := s.tick dt
  .next (s.handOver r 2 u (s.unit u).otherSlot)

/-- REVERT: a hand-over to the slot run before (R597). -/
def execRevert (dt : Nat) (r : Req) (u : Nat) (s : State) : Host.Outcome State Fault Refusal :=
  let s := s.tick dt
  .next (s.handOver r 3 u (tget 0 s.start.ran u))

/-- The longest pause of a hand-over in µs (R598). -/
def State.pauseMax (s : State) (u : Nat) : Nat :=
  match s.unitAt u with
  | some (0x10, _) => 2000
  | some (0x12, _) => 5000
  | some (0x13, _) => 1000
  | _ => 0

/-- The designated pipe with the shortest frame of those that scan out; the lowest of equals (R598). -/
def State.pipShortest (s : State) : Option Nat :=
  ((List.range s.row.pipes).filter fun p => s.rb (pipeReg p 0xC000) 31 && s.scanning p).foldl (fun b p =>
    match b with
    | none => some p
    | some q => if (s.pipe p).cfg.framePeriod 0 0 < (s.pipe q).cfg.framePeriod 0 0 then some p else some q) none

/-- At its latch point a hand-over of the Pip lane begins its pause (R598). -/
def State.pipHand (s : State) (p : Nat) : State :=
  match s.start.upd with
  | some o =>
    let pip := match s.unitAt o.index with | some (0x13, _) => true | _ => false
    if (o.op = 2 ∨ o.op = 3) ∧ pip = true ∧ o.begun = none ∧ s.pipShortest = some p then
      s.mStart fun t => { t with upd := some { o with begun := some s.now } }
    else s
  | none => s

/-- The hand-over point of a unit may lie behind it: of the manager cores, no VIMGR command and no CREATE is in progress; of the Pip lane, the latch
point of the designated pipe with the shortest frame has passed, where one scans out (R598). -/
def State.handPoint (s : State) (u : Nat) : Bool :=
  match s.unitAt u with
  | some (0x10, _) => s.vims.ops.isEmpty && s.render.reqs.all (fun c => c.2.isEmpty) && s.pods.ctl.all fun c => match c.2 with | some e => e.opcode != 1 | none => true
  | some (0x13, _) => s.pipPaused || s.pipShortest.isNone
  | _ => true

/-- A hand-over is over, whether or not it came about (R597, R606). -/
def State.handClear (s : State) (u : Nat) : State :=
  let s := (s.updUnits u).foldl (fun s x => s.mUnit x fun y => { y with slotPending := 0 }) s
  match s.unitAt u with
  | some (0x12, b) => (if s.huskState b = 4 then s.setHusk b 0 else s).setHand b 0
  | _ => s

/-- HANDOVER_DONE: the new firmware reports ready after a pause of `pause` µs, within the longest of R598 (R597, R600). -/
def execHandoverDone (dt pause : Nat) (s : State) : Host.Outcome State Fault Refusal :=
  let s := s.tick dt
  match s.start.upd with
  | none => .next s
  | some o =>
    if (o.op ≠ 2 ∧ o.op ≠ 3) ∨ s.pauseMax o.index < pause ∨ ¬ s.handPoint o.index then .next s
    else
      let s := (s.updUnits o.index).foldl (fun s x =>
        (s.mStart fun t => { t with ran := tset 0 t.ran x (s.unit x).slotActive }).mUnit x fun y =>
          { y with slotActive := o.slot, fw := y.slotVer o.slot }) s
      .next ((((s.handClear o.index).divergedSet).updEnd .ok).emitPf 0x1E .ok (min 65535 pause * 2 ^ 16 + o.index))

/-- UPDATE_FAILED: the new firmware is not ready within the pause; the unit goes back to its slot (R597, R606). -/
def execUpdateFailed (dt : Nat) (s : State) : Host.Outcome State Fault Refusal :=
  let s := s.tick dt
  match s.start.upd with
  | none => .next s
  | some o =>
    if (o.op ≠ 2 ∧ o.op ≠ 3) ∨ ¬ s.handPoint o.index ∨ s.now < o.begun.getD o.at_ + s.pauseMax o.index * 1000 then .next s
    else .next ((s.handClear o.index).updFail o .timeout)

/-! ### MOVE (R599) -/

/-- The configuration with which a spare runs beside a pipe: that pipe's, with the spare's own PLL output and no port (R599). -/
def State.spareCfg (s : State) (q : Nat) (c : PipeCfg) : PipeCfg :=
  let own := s.heldCfg q
  { c with clock := own.clock, factor := own.factor, divider := own.divider, output := c.output % 2 ^ 28 &&& 0xFFF7FFFF }

/-- MOVE: a spare pipe starts, locked to the running pipe that ARG names (R599; log entry 64). -/
def execMove (dt : Nat) (r : Req) (u : Nat) (s : State) : Host.Outcome State Fault Refusal :=
  let s := s.tick dt
  if pathWin r.path ≠ pfWin then .next s
  else
    let v := s.rf 0x00200110 11 0
    let secure := s.reqSecure r
    match s.unitAt u, s.unitAt v with
    | some (0x20, q), some (0x20, p) =>
      let c := s.spareCfg q (s.pipe p).cfg
      let need := scanoutNeed (c.pixelHz 0) c.bpp
      let short := (List.range 16).any fun i =>
        i != q && s.pipeState i != 0 && (s.pipe i).cfg.pll == c.pll && (s.pipe i).cfg.pllOut == c.pllOut
      let fits := s.bwFits 0 (s.rf (bwKey 0 0) 15 0 + s.rf (bwKey 0 1) 15 0 + need)
      match byR19 [(s.claimBlocks u secure || s.claimBlocks v secure, .claimed),
          (s.noWork || !(s.unit u).spare || p == q || s.pipeState q != 0 || (s.pipe q).checks != 0 || s.pipeState p != 2 || (s.pipe p).next.isSome, .badState),
          (s.start.upd.isSome, .busy), (short || !fits, .noResource)] with
      | .ok =>
        match s.placeStore p (storeChunks c.hActive c.vActive c.bpp) c.buffers with
        | none => .next (s.updResult .noResource)
        | some (bufs, s) =>
          let s := (s.setNeed q need).pllTake c
          let s := s.mPipe q fun x => { x with cfg := c, store := bufs.map fun b => { chunks := b }, front := 0, stop := false, spareOf := some p }
          let s := [8, 0xC, 0x10, 0x14].foldl (fun s o => s.wr (pipeReg q o) (s.rd (pipeReg p o))) s
          let s := ((s.wr (pipeReg q 0x28) (2 * 2 ^ 30 + p * 2 ^ 26 + 0x00400A00)).wr (pipeReg q 0x2C) 0).wr (pipeReg q 0x20) (c.vActive / 2)
          let s := s.mDisplay fun d => { d with locks := tset {} d.locks q {} }
          let s := (((s.pipeGo q 1).pipeResult q .ok).pipeEvent q .ok).domainNeed (unitDomain 0x20 q)
          .next (s.updBegin { op := 4, index := u, at_ := s.now, secure := secure })
      | st => .next (s.updResult st)
    | _, _ => .next (s.updResult (if s.claimBlocks u secure || s.claimBlocks v secure then .claimed else .badParam))

/-- The pipe that a MOVE's spare takes over, and the spare. -/
def State.moving (s : State) : Option (Nat × Nat × UpdOp) :=
  match s.start.upd with
  | none => none
  | some o =>
    match s.unitAt o.index with
    | some (0x20, q) => if o.op = 4 then (s.pipe q).spareOf.map fun p => (p, q, o) else none
    | _ => none

/-- SPARE_LOCK_TIMEOUT: 1 s after a MOVE the spare is not locked; the port is switched at the next latch point all the same (R599). A running pipe that
has stopped meanwhile ends the move. -/
def execSpareLockTimeout (dt : Nat) (s : State) : Host.Outcome State Fault Refusal :=
  let s := s.tick dt
  match s.moving with
  | none => .next s
  | some (p, q, o) =>
    if s.now < o.at_ + 1000000000 ∨ (s.pipe p).moveTo.isSome then .next s
    else if s.pipeState p ≠ 2 then .next ((s.pipeRelease q).updFail o .badState)
    else .next (s.mPipe p fun ps => { ps with moveTo := some q })

/-- The spare takes the pipe's port, path and number: pipe p goes on with the spare's PLL output and frame store, and what drove it before is
pipe q, OFF (R41, R599). With no frame composed for it the link sends idle for one frame. -/
def State.moveSwap (s : State) (p q : Nat) (o : UpdOp) : State :=
  let ps := s.pipe p
  let qs := s.pipe q
  let n := qs.cfg.buffers
  let joined := qs.store.isEmpty
  let done := joined && decide (ps.front < n)
  let store := if joined then ps.store.take n else qs.store
  let old := if joined then ps.store.drop n else ps.store
  let s := (s.releaseStore (old.map (·.chunks))).pllGive ps.cfg
  let c := { ps.cfg with clock := qs.cfg.clock, factor := qs.cfg.factor, divider := qs.cfg.divider }
  let s := (s.setNeed q 0).setNeed p (scanoutNeed (c.pixelHz 0) c.bpp)
  let pc := s.rd (pipeReg p 0x18)
  let s := (s.wr (pipeReg p 0x18) (s.rd (pipeReg q 0x18))).wr (pipeReg q 0x18) pc
  let s := s.mPipe p fun x =>
    { x with cfg := c, store := store, front := if done then x.front else 0, ready := none, moveTo := none, idle := !done, dirty := true }
  let s := s.mPipe q fun _ => { begun := qs.begun, frameNo := qs.frameNo }
  let s := s.mDisplay fun d =>
    { d with locks := tset {} d.locks q {}, video := if done then d.video else d.video.filter (· != p) }
  let s := if done then s else s.wb (pipeReg c.port 0x8004) (16 + c.stream) false
  let s := (s.wr (pipeReg q 0x28) 0x00400A00).wr (pipeReg q 0x2C) 0
  let s := ((s.wr (pipeReg q 0x48) 0).wr (pipeReg q 0x54) 0).wr (pipeReg q 0x58) 0
  let s := (s.pipeGo q 0).pipeEvent q .ok
  let s := match s.unitIndex 0x20 p with
    | some v =>
      let well := (s.unit v).health == 0
      let t := (s.setHealth v 0).directoryChange v (some o.index)
      (t.mUnit o.index fun x => { x with spare := well }).setHealth o.index (if well then 5 else 2)
    | none => s
  s.updEnd .ok

/-- At a latch point of the running pipe the move is made, once a frame stands in the spare's frame store or without lock (R599). -/
def State.moveDone (s : State) (p : Nat) : State :=
  match s.moving with
  | none => s
  | some (p', q, o) =>
    let ps := s.pipe p
    let locked := s.rb (pipeReg q 0x2C) 31
    if p ≠ p' ∨ ps.moveTo.isNone then s
    else if (s.pipe q).store.isEmpty ∧ ps.front < (s.pipe q).cfg.buffers then s.moveSwap p q o
    else if locked then s
    else s.moveSwap p q o

/-- LATCH_POINT: line V_ACTIVE of a pipe; what it does is `State.latchPoint`, and a move that waits for it is made (R160, R241, R599). -/
def execLatchPoint (dt p : Nat) (hosts : List HostRun) (s : State) : Host.Outcome State Fault Refusal :=
  .next ((((s.tickMem dt hosts).latchPoint p hosts).moveDone p).pipHand p)

end Sys2Proof.Machine
end

