-- ==== Sys2Proof/Machine/Recovery.lean ====
section
/-!
DEFINITION. Recovery: supervision by the Husks, restarts, degraded mode and the return from it, the critical level, sleep entry, and restarts of the Pip lane
(Recovery and degraded operation; R557, R563, R580, R604 to R625).
-/
namespace Sys2Proof.Machine

/-! ### Restarts and their limit (R607) -/

/-- HUSK_CTRL.RESTART_MAX and WIN_S, the latter in ns (R624). -/
def State.restartMax (s : State) : Nat := max 1 (min 15 (s.rf 0x00300004 23 16))
def State.restartWin (s : State) : Nat := max 1 (min 3600 (s.rf 0x00300004 15 0)) * 1000000000

/-- A Husk runs, out of degraded mode. -/
def State.huskUp (s : State) : Bool := (s.huskState 0 == 0 || s.huskState 1 == 0) && !s.husk.degraded

/-- The directory index of a Husk, and of the Pip lane. -/
def State.huskUnit (s : State) (b : Nat) : Nat := (s.unitIndex 0x12 b).getD 0
def State.pipUnit (s : State) : Nat := (s.unitIndex 0x13 0).getD 0

/-- Times in the last WIN_S of a list. -/
def State.inWin (s : State) (l : List Nat) : List Nat := l.filter fun t => s.now < t + s.restartWin

/-- A HUSK event to the PF and to the secure event ring (R625). -/
def State.huskEvent (s : State) (kind st detail : Nat) : State := (s.emitAt pfWin kind st 0 detail s.now).emitAt secWin kind st 0 detail s.now

/-- A restart of a unit is counted, and HUSK_RESTART written (R607, R625). -/
def State.restartNote (s : State) (cls u : Nat) : State :=
  (s.mHusk fun h => { h with restarts := tmod [] h.restarts u fun l => s.now :: l }).huskEvent 0xD0 (s.unit u).lastStatus (cls * 2 ^ 28 + u)

/-- A unit is given up: OFF is requested, and it reads OFFLINE until device reset (R607). -/
def State.giveUp (s : State) (u : Nat) : State :=
  let n := (s.inWin (tget [] s.husk.restarts u)).length
  let s := ((s.powerAsk u 0).mUnit u fun x => { x with gaveUp := true }).setHealth u 4
  s.huskEvent 0xD1 Status.fault.code (min 65535 n * 2 ^ 16 + u)

/-- A unit is restarted, or given up once RESTART_MAX restarts lie within WIN_S (R607). `act` is its reset. -/
def State.restartOr (s : State) (cls u : Nat) (act stop : State → State) : State :=
  if s.restartMax ≤ (s.inWin (tget [] s.husk.restarts u)).length then stop (s.giveUp u) else (act s).restartNote cls u

/-- A Husk is restarted by its partner: a unit reset; when it is given up HUSK_STATUS reads OFFLINE (R606, R607). -/
def State.huskRestart (s : State) (b : Nat) : State :=
  s.restartOr 2 (s.huskUnit b) (fun s => (s.unitReset (s.huskUnit b)).setHusk b 1) (fun s => s.setHusk b 3)

/-- All four manager cores are reset into their active slot (R608). -/
def State.mgrReset (s : State) : State := (s.unitsOf 0x10).foldl (fun s u => s.unitReset u) s

/-! ### Degraded mode (R610, R612 to R616) -/

/-- The degraded outputs (R222, R620). -/
def State.degradedOuts (s : State) : List Nat := (List.range s.row.pipes).filter fun p => s.rb (pipeReg p 0xC000) 30

/-- Registers that stay in degraded mode, the regulator controller's for VDD_CORE (R704), with the domains that hold the degraded outputs and PIP (R613); the results of every check unit set
keep their last values (R263). -/
def degradedKeep (outs ports plls dscs : List Nat) (k : Nat) : Bool :=
  k == 0x00300020 || (0x00108000 ≤ k && k < 0x00108200) || (0x00308000 ≤ k && k < 0x0030C000)
    || outs.any (fun p =>
        (pipeReg p 0 ≤ k && k < pipeReg p 0x8000) || (pipeReg p 0xC000 ≤ k && k < pipeReg p 0x10000)
          || (0x01900000 + p * 0x20000 ≤ k && k < 0x01920000 + p * 0x20000) || (0x03C10000 + p * 0x1000 ≤ k && k < 0x03C11000 + p * 0x1000))
    || (0x03C10000 ≤ k && k < 0x03C20000 && (0x400 ≤ k % 0x1000 || 0x20 ≤ k % 0x40))
    || ports.any (fun t => pipeReg t 0x8000 ≤ k && k < pipeReg t 0xC000)
    || plls.any (fun j => pllReg j 0 ≤ k && k < pllReg j 0x10)
    || dscs.any (fun e => dscReg e 0 ≤ k && k < dscReg e 0x10)

/-- Step 2 of R612 on one degraded output: from its next line on it is Pip-first. -/
def State.outDegrade (s : State) (hosts : List HostRun) (p : Nat) : State :=
  let s := s.scanTo hosts p (min (s.pipe p).cfg.vActive (s.rf (pipeReg p 0x48) 15 0 + 1))
  let s := if s.scanning p then s else s.wb (pipeReg p 0xC000) 29 true
  s.mPipe p fun ps =>
    { ps with replace := if s.scanning p then some true else none, pipFirst := true, store := [], next := none, nextStore := [], checks := 0, comp := none, ready := none, directs := [],
              directMetas := [], front := 0, dirty := true, moveTo := none, spareOf := none }

/-- Entries of a table whose key passes. -/
def keepKeys {α : Type} (t : Tbl α) (f : Nat → Bool) : Tbl α := t.filter fun c => f c.1

/-- The chime port restarts as clock master with the settings of PIP_CONFIG, and the wake scanner starts on its electrodes (R612 step 4, R614,
R620). -/
def State.chimeWake (s : State) : State :=
  let n := s.pip.config
  let s := s.wr (tdmReg (bits n 339 336) 0)
    (2 ^ 31 + 2 ^ 30 + bits n 359 358 * 2 ^ 28 + bits n 348 344 * 2 ^ 22 + bits n 357 356 * 2 ^ 20 + bits n 355 354 * 2 ^ 18 + 2 ^ 16)
  let s := s.wr 0x03000040 (bits n 343 340 * 2 ^ 26)
  let mask := (List.range 8).foldl (fun m i =>
    let e := bits n (367 + 8 * i) (360 + 8 * i)
    if bit e 7 then m ||| 2 ^ bits e 3 0 else m) 0
  let s := (s.wr 0x03800010 (2 ^ 31 + 0x32 * 2 ^ 16 + mask)).wr 0x03800014 (bits n 439 424)
  s.mPanel fun q => { q with wake := {} }

/-- Degraded mode is entered (R610, R612, R613, R616): every step of R612 at the decision (log entry 65). -/
def State.degradedEnter (s : State) (hosts : List HostRun) : State :=
  let outs := s.degradedOuts
  let s := outs.foldl (fun s p => s.outDegrade hosts p) s
  let cfgs := outs.map fun p => (s.pipe p).cfg
  let plls := cfgs.map (·.pll)
  let keep := degradedKeep outs (cfgs.map (·.port)) plls ((cfgs.filter (·.dscEn)).map (·.dsc))
  let failed := if s.start.returning then s.husk.failed + 1 else 0
  let retry := bits s.pip.config 455 440
  let wait := min 3600 (retry * 2 ^ min failed 12)
  let d := s.display
  let held := s.regs.filter fun c => keep c.1
  let t := s.deviceReset false
  let t : State :=
    { t with
      regs := held.foldl (fun r c => tset (BitVec.ofNat 32 (regReset c.1)) r c.1 c.2) t.regs,
      mem := s.mem.filter fun c => 2 ^ 61 ≤ c.1 && c.1 < 2 ^ 61 + 24 * 2 ^ 20,
      pip := s.pip,
      checks := { regions := keepKeys s.checks.regions fun k => outs.contains (k / 16), published := keepKeys s.checks.published outs.contains,
                  lastFrames := keepKeys s.checks.lastFrames outs.contains },
      display :=
        { pipes := keepKeys d.pipes outs.contains, locks := keepKeys d.locks outs.contains, plls := d.plls, dscs := d.dscs, dpModes := d.dpModes,
          dsiCtrls := d.dsiCtrls, payloads := d.payloads.filter fun x => outs.contains x.2.2, short := d.short.filter outs.contains,
          video := d.video.filter outs.contains, training := d.training.filter (cfgs.map (·.port)).contains, capacity := d.capacity },
      husk := { degraded := true, degradedAt := if s.start.returning then s.husk.degradedAt else s.now,
                retryAt := if retry = 0 then none else some (s.now + wait * 1000000000), failed := failed, pipLost := s.husk.pipLost,
                stopped := s.husk.stopped } }
  let t := plls.foldl (fun t j => t.wf (pllReg j 0xC) 29 28 0) t
  let t := cfgs.foldl (fun t c => t.wb (pllReg c.pll 0xC) (28 + c.pllOut) true) t
  let on := 0 :: 3 :: 20 :: t.pipDomains
  let t := on.foldl (fun t d =>
    (t.domainUnits d).foldl (fun t u =>
      t.mUnit u fun _ => { if d = 3 then s.unit u else ({} : UnitSt) with state := 3, req := 3, target := 3 }) (t.setDomain d 3)) t
  let t := (List.range 16).foldl (fun t p =>
    let q := s.phase p
    if !t.rb (phaseReg p 0) 31 then t
    else if t.rf (phaseReg p 0) 30 30 = 0 then t.setPhase p q
    else if q = 2 then t.setPhase p 1
    else t.setPhase p q) t
  let t := (t.failPin true).satf 0x00300014 31 16 1
  let t := if s.start.returning then t.satf 0x00300014 15 0 1 else t
  (t.wr 0x00300018 wait).chimeWake

/-- Degraded mode is left for a return: the Husks are released, and the start goes on (R616). -/
def State.degradedReturn (s : State) : State :=
  let s := (s.mHusk fun h => { h with degraded := false, retryAt := none, missA := 0, missB := 0 }).mStart fun t => { t with returning := true }
  let s := s.mPods fun p => { p with pfQueue := [] }
  (s.wb 0x00300000 25 true).startBegin

/-- DEGRADED_RETRY: the retry time has elapsed (R616). -/
def execDegradedRetry (dt : Nat) (s : State) : Host.Outcome State Fault Refusal :=
  let s := s.tick dt
  match s.husk.retryAt with
  | some t => if s.husk.degraded && decide (t ≤ s.now) then .next s.degradedReturn else .next s
  | none => .next s

/-- START_TIMEOUT: a cold start has not reached FULL within 2 s: its slot is marked TRIED_BAD and the device is reset; a return goes back to degraded
mode (R580, R616). -/
def execStartTimeout (dt : Nat) (hosts : List HostRun) (s : State) : Host.Outcome State Fault Refusal :=
  let s := s.tickMem dt hosts
  if s.start.step = 0 ∨ 33 < s.start.step ∨ s.rb 0x00200000 25 ∨ s.now < s.start.since + 2000000000 then .next s
  else if s.start.returning then .next (s.degradedEnter hosts)
  else
    let s := match s.activeSlot with | some k => s.wb 0x00200004 (29 - k) true | none => s
    .next (s.deviceReset false).coldStart

/-! ### Beats of the Husks (R604 to R606, R609, R610) -/

/-- Consecutive missed beats of a Husk. -/
def State.missed (s : State) (b : Nat) : Nat := if b = 0 then s.husk.missA else s.husk.missB
def State.setMissed (s : State) (b n : Nat) : State := s.mHusk fun h => if b = 0 then { h with missA := n } else { h with missB := n }

/-- HUSK_HEARTBEAT: a running Husk beats (R605). -/
def execHuskHeartbeat (dt b : Nat) (s : State) : Host.Outcome State Fault Refusal :=
  let s := s.tick dt
  if s.huskState b = 0 ∧ ¬ s.husk.degraded then .next ((s.incr (0x00300008 + 4 * b)).setMissed b 0) else .next s

/-- Missed beats count once the Husks have begun to beat, and not in sleep, degraded mode or RECOVERY (R563, R583, R609). -/
def State.watched (s : State) : Bool :=
  s.rf 0x00200000 31 28 != 0 && s.power.sleep < 2 && !s.husk.degraded && !s.power.critical && !(1 ≤ s.start.step && s.start.step ≤ 4) && s.start.step < 34

/-- A hand-over excuses a Husk's missed beats for 5 ms (R606). -/
def State.excused (s : State) (b : Nat) : Bool :=
  let h := if b = 0 then s.husk.handA else s.husk.handB
  h != 0 && s.huskState b == 4 && decide (s.now ≤ h - 1 + 5000000)

/-- A Husk has missed 5 consecutive beats; one held OFFLINE misses every beat (R609, R610). -/
def State.huskLost (s : State) (b : Nat) : Bool := 5 ≤ s.missed b || s.huskState b == 3

/-- HUSK_BEAT_MISSED: a beat window closes without a beat: the partner restarts the Husk after 3 misses of B or 4 of A, and not again within 5 ms;
with both lost, degraded mode is entered (R605, R606, R609, R610). -/
def execHuskBeatMissed (dt b : Nat) (hosts : List HostRun) (s : State) : Host.Outcome State Fault Refusal :=
  let s := s.tickMem dt hosts
  if !s.watched || s.excused b then .next s
  else
    let s := (if b = 0 then s.satf 0x00300010 15 0 1 else s.satf 0x00300010 31 16 1).setMissed b (satAdd 32 (s.missed b) 1)
    if s.huskLost 0 && s.huskLost 1 then .next (s.degradedEnter hosts)
    else
      let last := (tget [] s.husk.restarts (s.huskUnit b)).headD 0
      let due := (if b = 0 then 4 else 3) ≤ s.missed b && (last == 0 || decide (last + 5000000 ≤ s.now))
      if due && s.huskState (1 - b) == 0 && s.huskState b != 3 && !(s.unit (s.huskUnit b)).resetBusy then .next (s.huskRestart b) else .next s

/-- HUSK_LOCKSTEP_MISMATCH: the two cores of a Husk disagree, and it halts (R604). -/
def execHuskLockstepMismatch (dt b : Nat) (s : State) : Host.Outcome State Fault Refusal :=
  let s := s.tick dt
  if s.husk.degraded ∨ (s.huskState b ≠ 0 ∧ s.huskState b ≠ 4) then .next s
  else .next (((s.setHusk b 2).setHand b 0).mUnit (s.huskUnit b) fun x => { x with lastStatus := Status.fault.code })

/-! ### Faults of units, domains and rails (R607, R608) -/

/-- UNIT_FAULT: a unit's UIF_HEALTH.STATE reads FAULT with the status of its fault (R29, R608). -/
def execUnitFault (dt u why : Nat) (s : State) : Host.Outcome State Fault Refusal :=
  let s := s.tick dt
  let x := s.unit u
  if u = 0 ∨ s.row.unitCount ≤ u ∨ 1 < x.health ∨ x.resetBusy then .next s
  else .next ((s.mUnit u fun x => { x with lastStatus := why }).setHealth u 2)

/-- HUSK_UNIT_RECOVERY: a running Husk resets a unit that reads FAULT, or gives it up (R607, R608). Faults of a domain or a rail have their own
handling; a Husk is restarted by its partner alone. -/
def execHuskUnitRecovery (dt u : Nat) (s : State) : Host.Outcome State Fault Refusal :=
  let s := s.tick dt
  let x := s.unit u
  let d := s.unitDom u
  if u = 0 ∨ !s.huskUp ∨ x.health ≠ 2 ∨ x.resetBusy ∨ s.rb (domainReg d 4) 26 ∨ tget 0 s.power.offRails (domainRail d) ≠ 0 then .next s
  else
    match s.unitAt u with
    | some (0x12, b) => if s.huskState (1 - b) = 0 then .next (s.huskRestart b) else .next s
    | some (0x10, _) => .next (s.restartOr 3 u (·.mgrReset) id)
    | some _ => .next (s.restartOr 1 u (fun s => s.unitReset u) id)
    | none => .next s

/-- MANAGER_BEAT_MISSED: ten consecutive beats of the manager firmware are missed: all four cores are reset (R608). -/
def execManagerBeatMissed (dt : Nat) (s : State) : Host.Outcome State Fault Refusal :=
  let s := s.tick dt
  let u := (s.unitIndex 0x10 0).getD 0
  if !s.huskUp ∨ s.mgrDown ∨ (s.unit u).slotActive = 0 ∨ (s.unit u).gaveUp then .next s
  else .next (s.restartOr 3 u (·.mgrReset) id)

/-- The units of a domain are left OFFLINE until device reset (R608). -/
def State.domainGone (s : State) (d : Nat) : State :=
  (s.domainUnits d).foldl (fun s u => (s.mUnit u fun x => { x with gaveUp := true }).setHealth u 4) s

/-- The faulted units of a domain are restarted with it (R608). -/
def State.domainRestart (s : State) (d : Nat) : State :=
  (s.domainUnits d).foldl (fun s u => if (s.unit u).health = 2 then s.unitReset u else s) s

/-- The unit a HUSK_RESTART event of a domain names: the first of its units (log entry 65). -/
def State.domainFirst (s : State) (d : Nat) : Nat := (s.domainUnits d).headD 0

/-- DOMAIN_FAULT_RETRY: 10 ms after a domain fault the domain is raised again, once; a second fault within WIN_S leaves its units OFFLINE
(R608). -/
def execDomainFaultRetry (dt d : Nat) (s : State) : Host.Outcome State Fault Refusal :=
  let s := s.tick dt
  match tget [] s.power.domFaults d with
  | t :: older =>
    if !s.huskUp ∨ !s.rb (domainReg d 4) 26 ∨ s.now < t + 10000000 then .next s
    else if older.any fun o => decide (t < o + s.restartWin) then .next (s.domainGone d)
    else .next ((((s.wb (domainReg d 4) 26 false).domainQueue d).domainRestart d).restartNote 4 (s.domainFirst d))
  | [] => .next s

/-- RAIL_RECOVERY: 100 ms after an over-voltage the rail is cleared, once, its domains go to their requested states and their units restart; a
second one within WIN_S leaves them OFFLINE (R608). -/
def execRailRecovery (dt rail : Nat) (s : State) : Host.Outcome State Fault Refusal :=
  let s := s.tick dt
  let ds := (railDomains rail).filter fun d => !s.domainAbsent d
  match tget [] s.power.railFaults rail with
  | t :: older =>
    if !s.huskUp ∨ !s.rb (railReg rail 8) 31 ∨ s.now < t + 100000000 then .next s
    else if older.any fun o => decide (t < o + s.restartWin) then .next (ds.foldl (fun s d => s.domainGone d) s)
    else
      let s := ds.foldl (fun s d => (s.domainSettle d).domainRestart d) (s.railClear rail)
      .next (s.restartNote 5 (s.domainFirst (ds.headD 0)))
  | [] => .next s

/-! ### The critical level and sleep (R557, R563, R697) -/

/-- CRITICAL_TEMPERATURE: a valid sensor at T_LIMIT + CRIT_OFS, or the analog comparator at T_LIMIT + 20 °C: power is removed from every domain but AON, and
THERMTRIP_N goes low (R554, R557). `analog` is the reading of the analog sensor in 1/256 °C. -/
def execCriticalTemperature (dt : Nat) (analog : Option Int) (s : State) : Host.Outcome State Fault Refusal :=
  let s := s.tick dt
  let ovr := s.allTemps.find? fun x => (s.tLimit + s.rf 0x0010002C 11 7) * 256 ≤ x.2
  let by_ : Option Int := match ovr, analog with
    | some x, _ => some x.2
    | none, some a => if (s.tLimit + 20) * 256 ≤ a then some a else none
    | none, none => none
  match by_ with
  | none => .next s
  | some t =>
    if s.power.critical then .next s
    else .next ((s.deviceReset false).mPower fun p =>
      { p with critical := true, thermtrip := true, critOwed := some (q88 t), critCool := some s.now })

/-- THERMTRIP_RELEASE: the analog sensor has read below T_LIMIT − 5 °C for 1 s; `highest` is the highest of its readings in that time, in 1/256 °C
(R557). -/
def execThermtripRelease (dt : Nat) (highest : Int) (s : State) : Host.Outcome State Fault Refusal :=
  let s := s.tick dt
  if !s.power.critical ∨ (s.tLimit - 5) * 256 ≤ highest ∨ s.now < s.power.critCool.getD s.now + 1000000000 then .next s
  else
    let s := s.mPower fun p => { p with critical := false, thermtrip := false, critCool := none }
    if s.power.pwrgood ∧ ¬ s.power.aonLow ∧ ¬ s.power.safeLow then .next s.coldStart else .next s

/-- SLEEP_ENTERED: every domain but AON and the Husks is OFF, the Husks are in RETAIN, the reference has stopped and RAIL_EN goes low; a source latched during
the entry wakes the device at once (R563, R564, R697). -/
def execSleepEntered (dt : Nat) (s : State) : Host.Outcome State Fault Refusal :=
  let s := s.tick dt
  if s.power.sleep ≠ 1 then .next s
  else
    let src := s.power.latched
    let s := (List.range 16).foldl (fun s p => if s.phase p = 2 then s.setPhase p 1 else s) s
    let t := (((s.deviceReset true).setDomain 0 3).setDomain 1 1).setDomain 2 1
    let t := ((t.wb 0x00100028 31 false).failPin false).mPower fun p => { p with sleep := 2, railEn := false }
    .next (if src = 0 then t else t.wakeBegin src)

/-! ### The Pip lane (R615, R619) -/

/-- The Pip lane is reset and boots from the Pip store: PIP_STATUS.RESTARTS counts, RUNNING reads 0 until it is up (R615, R619, R624). -/
def State.pipReset (s : State) : State := ((s.satf 0x00300020 7 0 1).wb 0x00300020 31 false).unitReset s.pipUnit

/-- PIP_BEAT_MISSED: in degraded mode 5 consecutive beats of the Pip lane are missed: it is reset; a second loss within 60 s stops the degraded outputs
until PWRGOOD falls (R615). -/
def execPipBeatMissed (dt : Nat) (s : State) : Host.Outcome State Fault Refusal :=
  let s := s.tick dt
  if !s.husk.degraded then .next s
  else
    let again := s.husk.pipLost.any fun t => decide (s.now < t + 60000000000)
    let s := (s.mHusk fun h => { h with pipLost := s.now :: h.pipLost, stopped := h.stopped || again }).pipReset
    .next (if again then s.degradedOuts.foldl (fun s p => if s.pipeState p = 0 then s else s.pipeRelease p) s else s)

/-- The Pip store, the first 24 MiB of the on-die SRAM, holds a word with an uncorrectable error (R88). -/
def State.pipStoreBad (s : State) : Bool := s.seed.poison.any fun c => 2 ^ 58 ≤ c.1 && c.1 < 2 ^ 58 + 3 * 2 ^ 20

/-- PIP_LOCKSTEP_MISMATCH: a running Husk restarts the Pip lane; with an uncorrectable error in the Pip store, met now (`store`) or
marked before, it reloads the store first, and no sprites are drawn meanwhile (R88, R619, R625). -/
def execPipLockstepMismatch (dt : Nat) (store : Bool) (s : State) : Host.Outcome State Fault Refusal :=
  let s := s.tick dt
  if !s.huskUp then .next s
  else
    let store := store || s.pipStoreBad
    let s := s.huskEvent 0xD3 Status.fault.code ((if store then 2 else 1) * 2 ^ 28)
    let s := s.pipReset
    .next (if store then (s.wb 0x00300020 30 true).mHusk fun h => { h with reload := true } else s)

/-- PIP_RELOAD_DONE: PIP_FW and PIP_SPRITES have been reloaded from the active slot, and sprites show again (R619). A record that fails leaves the store as it
was and BLANK at 1. -/
def execPipReloadDone (dt : Nat) (s : State) : Host.Outcome State Fault Refusal :=
  let s := s.tick dt
  if !s.husk.reload then .next s
  else
    let record (kind : Nat) : Option (Nat × Bytes) :=
      match imgEntry s.activeRead kind with
      | some e => (match readRecord s.activeRead e with | .ok b => some (deVersion e, b) | .error _ => none)
      | none => none
    match record 0x03, record 0x05 with
    | some (ver, _), some (_, b) =>
      let s := ((s.loadFw 0x13 ver).divergedSet).mPip fun q => { q with sprites := b }
      let s := (s.mHusk fun h => { h with reload := false }).wb 0x00300020 30 false
      let s := s.mSeed fun m => { m with poison := tcut m.poison (2 ^ 58) (2 ^ 58 + 3 * 2 ^ 20) }
      .next (s.wf 0x00300020 15 8 (min 64 s.iconCount))
    | _, _ => .next s

end Sys2Proof.Machine
end

