-- ==== Sys2Proof/Machine/Access.lean ====
section
/-!
DEFINITION. Access: register accesses by their address, with the blocks that lie above the others in the model: CHIP, the unit interfaces and START
(Conventions; Pods, units and handles; R9 to R12, R28, R582, R601).
-/
namespace Sys2Proof.Machine

/-- A word of the START block written (R594, R597, R601, R602). -/
def State.startWord (s : State) (r : Req) (k : Nat) (v : Word) : State :=
  let n := v.toNat
  let op := bits n 31 28
  match k with
  | 0x00200020 =>
    match op with
    | 1 => goOn s (execConfirm 0 r s)
    | 2 => goOn s (execShutdown 0 r s)
    | 3 => goOn s (execPsetFlush 0 r s)
    | 4 => goOn s (execStartCmdRestart 0 r s)
    | 5 => goOn s (execClearMarks 0 r s)
    | _ => s.startCmd r (fun _ => .badParam) id
  | 0x00200030 => goOn s (execHostOwnWrite 0 r v s)
  | 0x00200034 =>
    match op with
    | 1 => goOn s (execNvmErase 0 r (bits n 23 0) s)
    | 2 => goOn s (execNvmProgram 0 r (bits n 23 0) s)
    | 3 => goOn s (execNvmRead 0 r (bits n 23 0) s)
    | _ => s.nvmCmd r op (bits n 23 0)
  | 0x00200050 => s.plain k (near 10 3600 (bits n 11 0))
  | 0x0020010C =>
    let u := bits n 11 0
    if s.row.unitCount ≤ u then s.updResult .badParam
    else
      match op with
      | 1 => goOn s (execLoad 0 r u s)
      | 2 => goOn s (execActivate 0 r u s)
      | 3 => goOn s (execRevert 0 r u s)
      | 4 => goOn s (execMove 0 r u s)
      | _ => s.updResult .badParam
  | _ => s.plain k n

/-- A word of a unit interface written (R28 to R35). -/
def State.uifPut (s : State) (r : Req) (u o : Nat) (v : Word) : State :=
  if o = 8 then goOn s (execUifPowerReq 0 r u (bits v.toNat 2 0) s)
  else if o = 0xC ∧ bit v.toNat 0 then goOn s (execUifResetGo 0 r u s)
  else s

/-- Whether a key is a word of a 64-bit register (R9). -/
def wideKey (k : Nat) : Bool := match keyRow k with | some (row, _) => row.wide | none => false

/-- A word written at an address by a requester (R9, R11, R12, R43, R44). -/
def State.regWrite (s : State) (r : Req) (addr : Nat) (v : Word) : State :=
  if !s.inUse r addr || s.shutOut r addr then s
  else
    match r.path with
    | .vi _ => s.busWrite r addr v
    | _ =>
      if addr < 0x00100000 then (match s.uifOf addr with | some (u, o) => s.uifPut r u o v | none => s)
      else if 0x00200000 ≤ addr ∧ addr < 0x00300000 ∧ !wideKey addr then s.startWord r addr v
      else s.busWrite r addr v

/-- REGISTER_WRITE: a write acts by the access code of each field, or as the command its register has (R12; log entry 57). -/
def execRegisterWrite (dt : Nat) (r : Req) (addr : Nat) (v : Word) (s : State) : Host.Outcome State Fault Refusal :=
  .next ((s.tick dt).regWrite r addr v)

/-- A word read at an address; the model holds what the last read returned. -/
def State.regRead (s : State) (r : Req) (addr : Nat) : State :=
  let (v, s) := s.busRead r addr
  { s with lastRead := v }

/-- REGISTER_READ_CLEAR: a read returns a word, and clears its RC fields but for the debug port (R12). -/
def execRegisterReadClear (dt : Nat) (r : Req) (addr : Nat) (s : State) : Host.Outcome State Fault Refusal :=
  .next ((s.tick dt).regRead r addr)

/-- READ_LOW_WORD: a read of the low word of a 64-bit register latches its high word for the path (R10). -/
def execReadLowWord (dt : Nat) (r : Req) (addr : Nat) (s : State) : Host.Outcome State Fault Refusal :=
  .next ((s.tick dt).regRead r addr)

/-- WRITE_HIGH_WORD: a write of the high word puts the staged value into effect (R11). A word that is no high word is written as any other. -/
def execWriteHighWord (dt : Nat) (r : Req) (addr : Nat) (v : Word) (s : State) : Host.Outcome State Fault Refusal :=
  .next ((s.tick dt).regWrite r addr v)

end Sys2Proof.Machine
end

