-- ==== Sys2Proof/Machine/Remote.lean ====
section
/-!
DEFINITION. Remote: CONTROL messages from other nodes (R628, R630 to R644).
-/
namespace Sys2Proof.Machine

/-- The pod directory learns an entry (R634); what hangs on it is looked at again. -/
def State.podLearn (s : State) (n : Nat) (i : NodeInfo) : State :=
  if n = s.myNode then s
  else
    let old := s.rootNode
    let fresh := i.state = 1 ∧ (s.node n).info.state ≠ 1
    let s := if i.state = 1 then s.nodeJoin n i else s.dirSet n i
    let s := if fresh then s.emitPf 0xC1 .ok n else s
    (((s.leaveSettle.rootSettle old).timeSettle).impCheck).impRoutes

/-- An export at node `src` has gone: imports of that handle become LOST (R644). -/
def State.exportLost (s : State) (src handle : Nat) : State :=
  s.impOrder.foldl (fun s i => if s.impNode i = src ∧ s.rd64 (impReg i 0) % 2 ^ 32 = handle then s.impLost i else s) s

/-- A remote access arrives at a port: refused when it asks for the secure world and the port's peer is not trusted, otherwise made as class IO in its
world (R635). -/
def State.raccServe (s : State) (p src : Nat) (secure write : Bool) (addr : Nat) (v : Word) : State :=
  if secure && !s.rb (icvPort p 0) 30 then s.ctlSend src (.raccAnswer false 0)
  else if write then (s.regWrite ⟨.icvik p, secure⟩ addr v).ctlSend src (.raccAnswer true v)
  else
    let (w, s) := s.busRead ⟨.icvik p, secure⟩ addr
    s.ctlSend src (.raccAnswer true w)

/-- What a message does at its destination. Answers to this device's own requests come in full with IMPORT_OPEN_DONE and RACC_DONE. -/
def State.ctlAct (s : State) (p src : Nat) : CtlMsg → State
  | .importReq i handle _ =>
    let a := s.exportAnswer src handle
    s.ctlSend src (.importAnswer i a.1 a.2)
  | .importAnswer _ _ _ => s
  | .importEnd _ => s
  | .exportEnd handle => s.exportLost src handle
  | .reserve port bw add =>
    let old := s.rf (icvPort port 0xC) 15 0
    if 4 ≤ port then s else s.wf (icvPort port 0xC) 15 0 (if add then min 65535 (old + bw) else old - bw)
  | .directory n i => s.podLearn n i
  | .refs k e pd at_ => if 8 ≤ k ∨ s.rootNode ≠ some src then s else s.mNet fun n => { n with refs := tset none n.refs k (some (e, pd, at_)) }
  | .raccReq secure write addr v => s.raccServe p src secure write addr v
  | .raccAnswer _ _ => s
  | .ack _ => s

/-- CONTROL: a message from node `src` arrives at port `p` with a tag; one whose end-to-end CRC fails is neither acknowledged nor acted on. An acknowledged
message of this device is not sent again (R628). -/
def execIcvControl (dt p src tag : Nat) (msg : CtlMsg) (crcOk : Bool) (s : State) : Host.Outcome State Fault Refusal :=
  let s := s.tick dt
  if !crcOk || !s.icvUp p then .next s
  else
    match msg with
    | .ack t => .next (s.mNet fun n => { n with outs := n.outs.filter fun o => !(o.tag == t && o.dest == src) })
    | m => .next ((s.flitTo src 3).ctlAct p src m)

end Sys2Proof.Machine
end

