-- ==== Sys2Proof/Machine/Dispatch.lean ====
section
/-!
DEFINITION. Dispatch: one arm for each command, each a direct call of its meaning.
-/
namespace Sys2Proof.Machine

/-- The command's effect on everything but the queue. -/
def exec (i : Instr) (s : State) : Host.Outcome State Fault Refusal :=
  match i with
  | .registerWrite dt r addr v => Sys2Proof.Machine.execRegisterWrite dt r addr v s
  | .registerReadClear dt r addr => Sys2Proof.Machine.execRegisterReadClear dt r addr s
  | .readLowWord dt r addr => Sys2Proof.Machine.execReadLowWord dt r addr s
  | .writeHighWord dt r addr v => Sys2Proof.Machine.execWriteHighWord dt r addr v s
  | .uifPowerReq dt r u req => Sys2Proof.Machine.execUifPowerReq dt r u req s
  | .uifPowerDone dt u => Sys2Proof.Machine.execUifPowerDone dt u s
  | .uifResetGo dt r u => Sys2Proof.Machine.execUifResetGo dt r u s
  | .uifResetDone dt u => Sys2Proof.Machine.execUifResetDone dt u s
  | .directoryChange dt u spare => Sys2Proof.Machine.execDirectoryChange dt u spare s
  | .ringEnable dt w n v => Sys2Proof.Machine.execRingEnable dt w n v s
  | .ringDisable dt w n v hosts => Sys2Proof.Machine.execRingDisable dt w n v hosts s
  | .ringDoorbell dt w n v => Sys2Proof.Machine.execRingDoorbell dt w n v s
  | .ringEntryFetch dt w n hosts => Sys2Proof.Machine.execRingEntryFetch dt w n hosts s
  | .createLayer dt w ext => Sys2Proof.Machine.execCreateLayer dt w ext s
  | .createRenderQueue dt w ext => Sys2Proof.Machine.execCreateRenderQueue dt w ext s
  | .createComputeQueue dt w ext => Sys2Proof.Machine.execCreateComputeQueue dt w ext s
  | .createAudioStreamIn dt w ext => Sys2Proof.Machine.execCreateAudioStreamIn dt w ext s
  | .createAudioStreamOut dt w ext => Sys2Proof.Machine.execCreateAudioStreamOut dt w ext s
  | .streamCreateSwapIdle dt k => Sys2Proof.Machine.execStreamCreateSwapIdle dt k s
  | .createTouchZone dt w ext => Sys2Proof.Machine.execCreateTouchZone dt w ext s
  | .createHapticEffectSlot dt w ext => Sys2Proof.Machine.execCreateHapticEffectSlot dt w ext s
  | .createCheckContext dt w ext => Sys2Proof.Machine.execCreateCheckContext dt w ext s
  | .createFence dt w ext => Sys2Proof.Machine.execCreateFence dt w ext s
  | .createMemoryChunk dt w ext => Sys2Proof.Machine.execCreateMemoryChunk dt w ext s
  | .chunkZeroDone dt idx => Sys2Proof.Machine.execChunkZeroDone dt idx s
  | .createReflexBinding dt w ext => Sys2Proof.Machine.execCreateReflexBinding dt w ext s
  | .createWritebackTarget dt w ext => Sys2Proof.Machine.execCreateWritebackTarget dt w ext s
  | .destroy dt w hosts => Sys2Proof.Machine.execDestroy dt w hosts s
  | .destroyDrainDone dt kind ix => Sys2Proof.Machine.execDestroyDrainDone dt kind ix s
  | .chunkUnmapDrainDone dt idx => Sys2Proof.Machine.execChunkUnmapDrainDone dt idx s
  | .bindRing dt w => Sys2Proof.Machine.execBindRing dt w s
  | .unbindRing dt w => Sys2Proof.Machine.execUnbindRing dt w s
  | .query dt w => Sys2Proof.Machine.execQuery dt w s
  | .evrEnable dt w v => Sys2Proof.Machine.execEvrEnable dt w v s
  | .evrHeadWrite dt w v => Sys2Proof.Machine.execEvrHeadWrite dt w v s
  | .evrIrqTimer dt w => Sys2Proof.Machine.execEvrIrqTimer dt w s
  | .scrubChunk dt mem errs => Sys2Proof.Machine.execScrubChunk dt mem errs s
  | .pageRetired dt mem page => Sys2Proof.Machine.execPageRetired dt mem page s
  | .lpddrDriftTrack dt ch => Sys2Proof.Machine.execLpddrDriftTrack dt ch s
  | .bwWindow dt mem want => Sys2Proof.Machine.execBwWindow dt mem want s
  | .memBwClassWrite dt mem c v => Sys2Proof.Machine.execMemBwClassWrite dt mem c v s
  | .layerTableWrite dt r addr v => Sys2Proof.Machine.execLayerTableWrite dt r addr v s
  | .layerPipeBgWrite dt r p v => Sys2Proof.Machine.execLayerPipeBgWrite dt r p v s
  | .commitToken dt w p token => Sys2Proof.Machine.execCommitToken dt w p token s
  | .commitCheckDone dt w p hosts => Sys2Proof.Machine.execCommitCheckDone dt w p hosts s
  | .lineStart dt p line hosts => Sys2Proof.Machine.execLineStart dt p line hosts s
  | .lineZero dt p hosts => Sys2Proof.Machine.execLineZero dt p hosts s
  | .composeStart dt p hosts => Sys2Proof.Machine.execComposeStart dt p hosts s
  | .compositionDone dt p hosts => Sys2Proof.Machine.execCompositionDone dt p hosts s
  | .wbFrameWritten dt p => Sys2Proof.Machine.execWbFrameWritten dt p s
  | .lastActivePixel dt p hosts => Sys2Proof.Machine.execLastActivePixel dt p hosts s
  | .latchPoint dt p hosts => Sys2Proof.Machine.execLatchPoint dt p hosts s
  | .layerFault dt slot faddr line x tiles hosts => Sys2Proof.Machine.execLayerFault dt slot faddr line x tiles hosts s
  | .underrun dt slot line x hosts => Sys2Proof.Machine.execUnderrun dt slot line x hosts s
  | .pipeEnable dt r p v => Sys2Proof.Machine.execPipeEnable dt r p v s
  | .pipeReconfig dt r p v => Sys2Proof.Machine.execPipeReconfig dt r p v s
  | .pipeDisable dt r p v => Sys2Proof.Machine.execPipeDisable dt r p v s
  | .pipeChecksDone dt p hosts => Sys2Proof.Machine.execPipeChecksDone dt p hosts s
  | .pllLocked dt j hosts => Sys2Proof.Machine.execPllLocked dt j hosts s
  | .pipeStopped dt p => Sys2Proof.Machine.execPipeStopped dt p s
  | .pipeLutWrite dt r addr v => Sys2Proof.Machine.execPipeLutWrite dt r addr v s
  | .pllWrite dt r j reg v => Sys2Proof.Machine.execPllWrite dt r j reg v s
  | .dscCfgWrite dt r e v => Sys2Proof.Machine.execDscCfgWrite dt r e v s
  | .hpdPlug dt port => Sys2Proof.Machine.execHpdPlug dt port s
  | .hpdUnplug dt port => Sys2Proof.Machine.execHpdUnplug dt port s
  | .irqHpd dt port lost => Sys2Proof.Machine.execIrqHpd dt port lost s
  | .dpRetrain dt r port v => Sys2Proof.Machine.execDpRetrain dt r port v s
  | .linkTrained dt port ok rate lanes capacity => Sys2Proof.Machine.execLinkTrained dt port ok rate lanes capacity s
  | .dpAuxCmd dt r port v => Sys2Proof.Machine.execDpAuxCmd dt r port v s
  | .auxTransactionDone dt port outcome rx => Sys2Proof.Machine.execAuxTransactionDone dt port outcome rx s
  | .dsiCmd dt r port v => Sys2Proof.Machine.execDsiCmd dt r port v s
  | .dsiCmdDone dt port ok reply => Sys2Proof.Machine.execDsiCmdDone dt port ok reply s
  | .chkWrite dt r addr v => Sys2Proof.Machine.execChkWrite dt r addr v s
  | .frameMissing dt p => Sys2Proof.Machine.execFrameMissing dt p s
  | .dcuData dt r u v => Sys2Proof.Machine.execDcuData dt r u v s
  | .dcuData8 dt r u v => Sys2Proof.Machine.execDcuData8 dt r u v s
  | .dcuRestart dt r u => Sys2Proof.Machine.execDcuRestart dt r u s
  | .dcuValueWrite dt r u which v => Sys2Proof.Machine.execDcuValueWrite dt r u which v s
  | .dcuCfgWrite dt r u v => Sys2Proof.Machine.execDcuCfgWrite dt r u v s
  | .checkEntryDispatch dt => Sys2Proof.Machine.execCheckEntryDispatch dt s
  | .chkFeed dt ix hosts => Sys2Proof.Machine.execChkFeed dt ix hosts s
  | .chkFinish dt ix => Sys2Proof.Machine.execChkFinish dt ix s
  | .chkSet dt ix => Sys2Proof.Machine.execChkSet dt ix s
  | .chkRestart dt ix => Sys2Proof.Machine.execChkRestart dt ix s
  | .translate dt w token => Sys2Proof.Machine.execTranslate dt w token s
  | .evict dt w token => Sys2Proof.Machine.execEvict dt w token s
  | .publish dt w token => Sys2Proof.Machine.execPublish dt w token s
  | .xlateDone dt w v hosts => Sys2Proof.Machine.execXlateDone dt w v hosts s
  | .passBegin dt q hosts => Sys2Proof.Machine.execPassBegin dt q hosts s
  | .passEnd dt q hosts => Sys2Proof.Machine.execPassEnd dt q hosts s
  | .bindPipeline dt q hosts => Sys2Proof.Machine.execBindPipeline dt q hosts s
  | .bindResources dt q hosts => Sys2Proof.Machine.execBindResources dt q hosts s
  | .bindIndex dt q hosts => Sys2Proof.Machine.execBindIndex dt q hosts s
  | .bindVertex dt q hosts => Sys2Proof.Machine.execBindVertex dt q hosts s
  | .push dt q hosts => Sys2Proof.Machine.execPush dt q hosts s
  | .setViewport dt q hosts => Sys2Proof.Machine.execSetViewport dt q hosts s
  | .setScissor dt q hosts => Sys2Proof.Machine.execSetScissor dt q hosts s
  | .draw dt q need tiles hosts => Sys2Proof.Machine.execDraw dt q need tiles hosts s
  | .drawIndexed dt q need tiles hosts => Sys2Proof.Machine.execDrawIndexed dt q need tiles hosts s
  | .drawIndirect dt q need tiles hosts => Sys2Proof.Machine.execDrawIndirect dt q need tiles hosts s
  | .tilePoolGrowth dt q => Sys2Proof.Machine.execTilePoolGrowth dt q s
  | .dispatch dt q hosts => Sys2Proof.Machine.execDispatch dt q hosts s
  | .dispatchIndirect dt q hosts => Sys2Proof.Machine.execDispatchIndirect dt q hosts s
  | .clear dt q hosts => Sys2Proof.Machine.execClear dt q hosts s
  | .copy dt q hosts => Sys2Proof.Machine.execCopy dt q hosts s
  | .barrier dt q hosts => Sys2Proof.Machine.execBarrier dt q hosts s
  | .fenceWait dt q hosts => Sys2Proof.Machine.execFenceWait dt q hosts s
  | .fenceWaitRelease dt q hosts => Sys2Proof.Machine.execFenceWaitRelease dt q hosts s
  | .fenceSignal dt q hosts => Sys2Proof.Machine.execFenceSignal dt q hosts s
  | .timestamp dt q hosts => Sys2Proof.Machine.execTimestamp dt q hosts s
  | .occlusionBegin dt q hosts => Sys2Proof.Machine.execOcclusionBegin dt q hosts s
  | .occlusionEnd dt q hosts => Sys2Proof.Machine.execOcclusionEnd dt q hosts s
  | .passInfo dt q hosts => Sys2Proof.Machine.execPassInfo dt q hosts s
  | .resolve dt q hosts => Sys2Proof.Machine.execResolve dt q hosts s
  | .deadline dt q hosts => Sys2Proof.Machine.execDeadline dt q hosts s
  | .descriptorComplete dt q cnt k hosts => Sys2Proof.Machine.execDescriptorComplete dt q cnt k hosts s
  | .preemptionBoundary dt c => Sys2Proof.Machine.execPreemptionBoundary dt c s
  | .contextSaved dt q => Sys2Proof.Machine.execContextSaved dt q s
  | .contextRestored dt q => Sys2Proof.Machine.execContextRestored dt q s
  | .deadlineMissed dt q => Sys2Proof.Machine.execDeadlineMissed dt q s
  | .watchdogFired dt q cnt ranges hosts => Sys2Proof.Machine.execWatchdogFired dt q cnt ranges hosts s
  | .fillLimitExpiry dt q cnt ranges hosts => Sys2Proof.Machine.execFillLimitExpiry dt q cnt ranges hosts s
  | .budgetTick dt m => Sys2Proof.Machine.execBudgetTick dt m s
  | .safeBudgeting dt => Sys2Proof.Machine.execSafeBudgeting dt s
  | .deratingEnd dt => Sys2Proof.Machine.execDeratingEnd dt s
  | .budgetCapWrite dt r v => Sys2Proof.Machine.execBudgetCapWrite dt r v s
  | .audioDomainEnable dt r d v => Sys2Proof.Machine.execAudioDomainEnable dt r d v s
  | .audioDomainDisable dt r d v => Sys2Proof.Machine.execAudioDomainDisable dt r d v s
  | .audioDomCtrlWrite dt r d v => Sys2Proof.Machine.execAudioDomCtrlWrite dt r d v s
  | .sampleBoundary dt d pins hosts => Sys2Proof.Machine.execSampleBoundary dt d pins hosts s
  | .audioSourceLost dt d => Sys2Proof.Machine.execAudioSourceLost dt d s
  | .domainLock dt d ppm => Sys2Proof.Machine.execDomainLock dt d ppm s
  | .audioMapWrite dt r k v => Sys2Proof.Machine.execAudioMapWrite dt r k v s
  | .audioSwapGo dt r v => Sys2Proof.Machine.execAudioSwapGo dt r v s
  | .swapCheckDone dt hosts => Sys2Proof.Machine.execSwapCheckDone dt hosts s
  | .swapDone dt => Sys2Proof.Machine.execSwapDone dt s
  | .audioPathSelWrite dt r v => Sys2Proof.Machine.execAudioPathSelWrite dt r v s
  | .playerTrigger dt r n => Sys2Proof.Machine.execPlayerTrigger dt r n s
  | .playerStop dt r n => Sys2Proof.Machine.execPlayerStop dt r n s
  | .streamRun dt w sl v => Sys2Proof.Machine.execStreamRun dt w sl v s
  | .tdmClkLost dt p => Sys2Proof.Machine.execTdmClkLost dt p s
  | .swrCmd dt r m v => Sys2Proof.Machine.execSwrCmd dt r m v s
  | .avtpTalkerInterval dt ix => Sys2Proof.Machine.execAvtpTalkerInterval dt ix s
  | .avtpStream dt ix => Sys2Proof.Machine.execAvtpStream dt ix s
  | .tblkEnable dt r b v => Sys2Proof.Machine.execTblkEnable dt r b v s
  | .scanStart dt b => Sys2Proof.Machine.execScanStart dt b s
  | .scanMeasureEnd dt b readings noise survey ns => Sys2Proof.Machine.execScanMeasureEnd dt b readings noise survey ns s
  | .telThreshWrite dt r e v => Sys2Proof.Machine.execTelThreshWrite dt r e v s
  | .telCtrlWrite dt r e v => Sys2Proof.Machine.execTelCtrlWrite dt r e v s
  | .wakeScan dt readings => Sys2Proof.Machine.execWakeScan dt readings s
  | .hlPulseEnd dt ix => Sys2Proof.Machine.execHlPulseEnd dt ix s
  | .hapEnable dt r c v => Sys2Proof.Machine.execHapEnable dt r c v s
  | .hapDisable dt r c v => Sys2Proof.Machine.execHapDisable dt r c v s
  | .hslotPlay dt w k => Sys2Proof.Machine.execHslotPlay dt w k s
  | .hslotStop dt w k => Sys2Proof.Machine.execHslotStop dt w k s
  | .hapCal dt r c => Sys2Proof.Machine.execHapCal dt r c s
  | .hapStop dt r c => Sys2Proof.Machine.execHapStop dt r c s
  | .hapLibCommit dt r k v => Sys2Proof.Machine.execHapLibCommit dt r k v s
  | .hapControlPeriod dt c amp freq => Sys2Proof.Machine.execHapControlPeriod dt c amp freq s
  | .hapShort dt c => Sys2Proof.Machine.execHapShort dt c s
  | .accelRead dt c v => Sys2Proof.Machine.execAccelRead dt c v s
  | .calDone dt c near low peak f0 rc l k => Sys2Proof.Machine.execCalDone dt c near low peak f0 rc l k s
  | .hapBinBoundary dt c => Sys2Proof.Machine.execHapBinBoundary dt c s
  | .hapticDropped dt c => Sys2Proof.Machine.execHapticDropped dt c s
  | .hapRestEnd dt c => Sys2Proof.Machine.execHapRestEnd dt c s
  | .coilModelUpdate dt c irms amb => Sys2Proof.Machine.execCoilModelUpdate dt c irms amb s
  | .createVi dt r v ext => Sys2Proof.Machine.execCreateVi dt r v ext s
  | .destroyVi dt r v ext => Sys2Proof.Machine.execDestroyVi dt r v ext s
  | .grant dt r v ext => Sys2Proof.Machine.execGrant dt r v ext s
  | .resetVi dt r v ext => Sys2Proof.Machine.execResetVi dt r v ext s
  | .viResetDone dt v => Sys2Proof.Machine.execViResetDone dt v s
  | .freeze dt r v ext => Sys2Proof.Machine.execFreeze dt r v ext s
  | .freezeComplete dt v => Sys2Proof.Machine.execFreezeComplete dt v s
  | .viFreezeTimeout dt v => Sys2Proof.Machine.execViFreezeTimeout dt v s
  | .thaw dt r v ext => Sys2Proof.Machine.execThaw dt r v ext s
  | .thawRetranslationDone dt v vs hosts => Sys2Proof.Machine.execThawRetranslationDone dt v vs hosts s
  | .save dt r v ext => Sys2Proof.Machine.execSave dt r v ext s
  | .saveComplete dt v => Sys2Proof.Machine.execSaveComplete dt v s
  | .restore dt r v ext => Sys2Proof.Machine.execRestore dt r v ext s
  | .restoreComplete dt v ext => Sys2Proof.Machine.execRestoreComplete dt v ext s
  | .copyOut dt r v ext => Sys2Proof.Machine.execCopyOut dt r v ext s
  | .copyIn dt r v ext => Sys2Proof.Machine.execCopyIn dt r v ext s
  | .viCopyComplete dt v hosts => Sys2Proof.Machine.execViCopyComplete dt v hosts s
  | .dirtyCtrl dt r v ext => Sys2Proof.Machine.execDirtyCtrl dt r v ext s
  | .dirtyHarvest dt r v ext => Sys2Proof.Machine.execDirtyHarvest dt r v ext s
  | .functionLevelReset dt l vf => Sys2Proof.Machine.execFunctionLevelReset dt l vf s
  | .vfEnableCleared dt l => Sys2Proof.Machine.execVfEnableCleared dt l s
  | .busMasterEnableChange dt l vf on => Sys2Proof.Machine.execBusMasterEnableChange dt l vf on s
  | .pcieLinkDown dt l => Sys2Proof.Machine.execPcieLinkDown dt l s
  | .pcieLinkUp dt l => Sys2Proof.Machine.execPcieLinkUp dt l s
  | .worldHartWrite dt h machine secure => Sys2Proof.Machine.execWorldHartWrite dt h machine secure s
  | .rcEntryCommit dt r c e v => Sys2Proof.Machine.execRcEntryCommit dt r c e v s
  | .hullCreate dt r => Sys2Proof.Machine.execHullCreate dt r s
  | .hullAdd dt r => Sys2Proof.Machine.execHullAdd dt r s
  | .hullSeal dt r => Sys2Proof.Machine.execHullSeal dt r s
  | .hullEnter dt r ret => Sys2Proof.Machine.execHullEnter dt r ret s
  | .hullExit dt r x10 x11 => Sys2Proof.Machine.execHullExit dt r x10 x11 s
  | .hullAsyncExit dt h cause pc xs => Sys2Proof.Machine.execHullAsyncExit dt h cause pc xs s
  | .hullWindowOpen dt r => Sys2Proof.Machine.execHullWindowOpen dt r s
  | .hullWindowClose dt r => Sys2Proof.Machine.execHullWindowClose dt r s
  | .windowCloseDrained dt c e => Sys2Proof.Machine.execWindowCloseDrained dt c e s
  | .hullReport dt r => Sys2Proof.Machine.execHullReport dt r s
  | .hullDestroy dt r => Sys2Proof.Machine.execHullDestroy dt r s
  | .hullDestroyDone dt k => Sys2Proof.Machine.execHullDestroyDone dt k s
  | .debugTokenSubmit dt r => Sys2Proof.Machine.execDebugTokenSubmit dt r s
  | .debugRevoke dt r => Sys2Proof.Machine.execDebugRevoke dt r s
  | .claimTake dt r u => Sys2Proof.Machine.execClaimTake dt r u s
  | .claimRelease dt r u => Sys2Proof.Machine.execClaimRelease dt r u s
  | .claimRearm dt r u => Sys2Proof.Machine.execClaimRearm dt r u s
  | .claimLost dt d => Sys2Proof.Machine.execClaimLost dt d s
  | .powerDomCtrlWrite dt r d v => Sys2Proof.Machine.execPowerDomCtrlWrite dt r d v s
  | .domainAutoDrop dt d idle waits => Sys2Proof.Machine.execDomainAutoDrop dt d idle waits s
  | .domainRampStart dt work => Sys2Proof.Machine.execDomainRampStart dt work s
  | .domainPowerGood dt d => Sys2Proof.Machine.execDomainPowerGood dt d s
  | .domainOn dt x => Sys2Proof.Machine.execDomainOn dt x s
  | .domainFault dt d => Sys2Proof.Machine.execDomainFault dt d s
  | .domainFaultRetry dt d => Sys2Proof.Machine.execDomainFaultRetry dt d s
  | .vrPhaseUpdate dt rail amps mv phases => Sys2Proof.Machine.execVrPhaseUpdate dt rail amps mv phases s
  | .stageOvertemp dt p temp => Sys2Proof.Machine.execStageOvertemp dt p temp s
  | .vrSenseLost dt p => Sys2Proof.Machine.execVrSenseLost dt p s
  | .supplyDroop dt rail mv => Sys2Proof.Machine.execSupplyDroop dt rail mv s
  | .railOverVoltage dt rail mv => Sys2Proof.Machine.execRailOverVoltage dt rail mv s
  | .vrCtrlClear dt r v => Sys2Proof.Machine.execVrCtrlClear dt r v s
  | .railRecovery dt rail => Sys2Proof.Machine.execRailRecovery dt rail s
  | .sensorRead dt readings => Sys2Proof.Machine.execSensorRead dt readings s
  | .thermalClear dt d => Sys2Proof.Machine.execThermalClear dt d s
  | .criticalTemperature dt analog => Sys2Proof.Machine.execCriticalTemperature dt analog s
  | .thermtripRelease dt highest => Sys2Proof.Machine.execThermtripRelease dt highest s
  | .referenceLost dt cause ppm => Sys2Proof.Machine.execReferenceLost dt cause ppm s
  | .referenceOk dt ppm => Sys2Proof.Machine.execReferenceOk dt ppm s
  | .clockReturn dt r v => Sys2Proof.Machine.execClockReturn dt r v s
  | .slowClockLost dt => Sys2Proof.Machine.execSlowClockLost dt s
  | .slowClockReturn dt => Sys2Proof.Machine.execSlowClockReturn dt s
  | .sleepRequest dt r v => Sys2Proof.Machine.execSleepRequest dt r v s
  | .sleepEntered dt => Sys2Proof.Machine.execSleepEntered dt s
  | .wakePin dt => Sys2Proof.Machine.execWakePin dt s
  | .wakeTime dt => Sys2Proof.Machine.execWakeTime dt s
  | .railsOkRise dt => Sys2Proof.Machine.execRailsOkRise dt s
  | .pwrgoodRise dt flash => Sys2Proof.Machine.execPwrgoodRise dt flash s
  | .pwrgoodFall dt => Sys2Proof.Machine.execPwrgoodFall dt s
  | .vddSafeLoss dt => Sys2Proof.Machine.execVddSafeLoss dt s
  | .vddSafeReturn dt => Sys2Proof.Machine.execVddSafeReturn dt s
  | .startTimeout dt hosts => Sys2Proof.Machine.execStartTimeout dt hosts s
  | .pipFirstHandover dt p hosts => Sys2Proof.Machine.execPipFirstHandover dt p hosts s
  | .startFull dt => Sys2Proof.Machine.execStartFull dt s
  | .psetWriteDue dt => Sys2Proof.Machine.execPsetWriteDue dt s
  | .recorderFlush dt => Sys2Proof.Machine.execRecorderFlush dt s
  | .nvmWrite dt ok => Sys2Proof.Machine.execNvmWrite dt ok s
  | .confirm dt r => Sys2Proof.Machine.execConfirm dt r s
  | .shutdown dt r => Sys2Proof.Machine.execShutdown dt r s
  | .shutdownDone dt => Sys2Proof.Machine.execShutdownDone dt s
  | .psetFlush dt r => Sys2Proof.Machine.execPsetFlush dt r s
  | .startCmdRestart dt r => Sys2Proof.Machine.execStartCmdRestart dt r s
  | .clearMarks dt r => Sys2Proof.Machine.execClearMarks dt r s
  | .hostOwnWrite dt r v => Sys2Proof.Machine.execHostOwnWrite dt r v s
  | .nvmErase dt r len => Sys2Proof.Machine.execNvmErase dt r len s
  | .nvmProgram dt r len => Sys2Proof.Machine.execNvmProgram dt r len s
  | .nvmRead dt r len => Sys2Proof.Machine.execNvmRead dt r len s
  | .nvmCmdDone dt ok hosts => Sys2Proof.Machine.execNvmCmdDone dt ok hosts s
  | .load dt r u => Sys2Proof.Machine.execLoad dt r u s
  | .updateLoaded dt hosts => Sys2Proof.Machine.execUpdateLoaded dt hosts s
  | .activate dt r u => Sys2Proof.Machine.execActivate dt r u s
  | .revert dt r u => Sys2Proof.Machine.execRevert dt r u s
  | .handoverDone dt pause => Sys2Proof.Machine.execHandoverDone dt pause s
  | .updateFailed dt => Sys2Proof.Machine.execUpdateFailed dt s
  | .move dt r u => Sys2Proof.Machine.execMove dt r u s
  | .spareLockTimeout dt => Sys2Proof.Machine.execSpareLockTimeout dt s
  | .huskHeartbeat dt b => Sys2Proof.Machine.execHuskHeartbeat dt b s
  | .huskBeatMissed dt b hosts => Sys2Proof.Machine.execHuskBeatMissed dt b hosts s
  | .huskLockstepMismatch dt b => Sys2Proof.Machine.execHuskLockstepMismatch dt b s
  | .unitFault dt u why => Sys2Proof.Machine.execUnitFault dt u why s
  | .huskUnitRecovery dt u => Sys2Proof.Machine.execHuskUnitRecovery dt u s
  | .managerBeatMissed dt => Sys2Proof.Machine.execManagerBeatMissed dt s
  | .degradedRetry dt => Sys2Proof.Machine.execDegradedRetry dt s
  | .pipBeatMissed dt => Sys2Proof.Machine.execPipBeatMissed dt s
  | .pipLockstepMismatch dt store => Sys2Proof.Machine.execPipLockstepMismatch dt store s
  | .pipReloadDone dt => Sys2Proof.Machine.execPipReloadDone dt s
  | .pipListCommit dt r p v hosts => Sys2Proof.Machine.execPipListCommit dt r p v hosts s
  | .pipReplaceWrite dt r p on hosts => Sys2Proof.Machine.execPipReplaceWrite dt r p on hosts s
  | .icvikPortEnable dt r p v => Sys2Proof.Machine.execIcvikPortEnable dt r p v s
  | .icvikTrainingDone dt p lanes => Sys2Proof.Machine.execIcvikTrainingDone dt p lanes s
  | .icvikPortTimeout dt p => Sys2Proof.Machine.execIcvikPortTimeout dt p s
  | .flitReceive dt p flit nak => Sys2Proof.Machine.execFlitReceive dt p flit nak s
  | .hello dt p h => Sys2Proof.Machine.execHello dt p h s
  | .timeFlit dt p got sent => Sys2Proof.Machine.execTimeFlit dt p got sent s
  | .timeFlitSend dt p => Sys2Proof.Machine.execTimeFlitSend dt p s
  | .beat dt n => Sys2Proof.Machine.execBeat dt n s
  | .beatSend dt => Sys2Proof.Machine.execBeatSend dt s
  | .nodeLost dt n => Sys2Proof.Machine.execNodeLost dt n s
  | .routeUpdate dt edges misfit => Sys2Proof.Machine.execRouteUpdate dt edges misfit s
  | .icvControl dt p src tag msg crcOk => Sys2Proof.Machine.execIcvControl dt p src tag msg crcOk s
  | .controlRetry dt tag => Sys2Proof.Machine.execControlRetry dt tag s
  | .icvRead dt src tag e off len => Sys2Proof.Machine.execIcvRead dt src tag e off len s
  | .icvPixel dt ix off bs => Sys2Proof.Machine.execIcvPixel dt ix off bs s
  | .raccRead dt r v => Sys2Proof.Machine.execRaccRead dt r v s
  | .raccWrite dt r v => Sys2Proof.Machine.execRaccWrite dt r v s
  | .raccDone dt answer => Sys2Proof.Machine.execRaccDone dt answer s
  | .podRefApply dt r k => Sys2Proof.Machine.execPodRefApply dt r k s
  | .podRefActivate dt k => Sys2Proof.Machine.execPodRefActivate dt k s
  | .importOpen dt r ix v => Sys2Proof.Machine.execImportOpen dt r ix v s
  | .importOpenDone dt ix answer chunks room => Sys2Proof.Machine.execImportOpenDone dt ix answer chunks room s
  | .importClose dt r ix v => Sys2Proof.Machine.execImportClose dt r ix v s
  | .tsnEnable dt r m v => Sys2Proof.Machine.execTsnEnable dt r m v s
  | .tsnLink dt m up rate => Sys2Proof.Machine.execTsnLink dt m up rate s
  | .tsnFrameTx dt m hosts => Sys2Proof.Machine.execTsnFrameTx dt m hosts s
  | .tsnFrameRx dt m frame ptp avtp hosts => Sys2Proof.Machine.execTsnFrameRx dt m frame ptp avtp hosts s
  | .gclApply dt r m => Sys2Proof.Machine.execGclApply dt r m s
  | .tsnGclSwitch dt m => Sys2Proof.Machine.execTsnGclSwitch dt m s
  | .ptpSyncLoss dt m => Sys2Proof.Machine.execPtpSyncLoss dt m s
  | .tsnTxrDoorbell dt r m v => Sys2Proof.Machine.execTsnTxrDoorbell dt r m v s
  | .tsnRxrDoorbell dt r m v => Sys2Proof.Machine.execTsnRxrDoorbell dt r m v s
  | .tsnRingEnable dt r m rx v => Sys2Proof.Machine.execTsnRingEnable dt r m rx v s
  | .tsnMdioCmd dt r m v => Sys2Proof.Machine.execTsnMdioCmd dt r m v s
  | .mdioDone dt m data => Sys2Proof.Machine.execMdioDone dt m data s
  | .recApply dt n => Sys2Proof.Machine.execRecApply dt n s
  | .recClear dt r view v => Sys2Proof.Machine.execRecClear dt r view v s
  | .recSlotCfgWrite dt r n v => Sys2Proof.Machine.execRecSlotCfgWrite dt r n v s
  | .cntValueWrite dt r ix v inc => Sys2Proof.Machine.execCntValueWrite dt r ix v inc s
  | .counterWrap dt ix n => Sys2Proof.Machine.execCounterWrap dt ix n s
  | .smpEnable dt r m v => Sys2Proof.Machine.execSmpEnable dt r m v s
  | .smpSeedWrite dt r m v => Sys2Proof.Machine.execSmpSeedWrite dt r m v s
  | .sampleRecord dt m g => Sys2Proof.Machine.execSampleRecord dt m g s
  | .stageCooled dt p temp => Sys2Proof.Machine.execStageCooled dt p temp s
  | .droopEnd dt rail mv => Sys2Proof.Machine.execDroopEnd dt rail mv s
  | .zeroingDone dt mem chunk => Sys2Proof.Machine.execZeroingDone dt mem chunk s
  | .resetWorkStop dt v => Sys2Proof.Machine.execResetWorkStop dt v s
  | .tdmClkReturn dt p => Sys2Proof.Machine.execTdmClkReturn dt p s
  | .swrCmdDone dt m ok byte => Sys2Proof.Machine.execSwrCmdDone dt m ok byte s
  | .swrPeripheralAttach dt m k on chIn chOut => Sys2Proof.Machine.execSwrPeripheralAttach dt m k on chIn chOut s
  | .ptpInterval dt m msg ptp => Sys2Proof.Machine.execPtpInterval dt m msg ptp s
  | .ppsPulse dt m => Sys2Proof.Machine.execPpsPulse dt m s
  | .gateControlEntry dt m => Sys2Proof.Machine.execGateControlEntry dt m s
  | .noRouteTimeout dt ix addr => Sys2Proof.Machine.execNoRouteTimeout dt ix addr s
  | .vddAonLoss dt => Sys2Proof.Machine.execVddAonLoss dt s
  | .vddAonReturn dt => Sys2Proof.Machine.execVddAonReturn dt s

end Sys2Proof.Machine
end

