-- ==== Sys2Proof/Machine/Pins.lean ====
section
/-!
DEFINITION. Pins: what the device's pins do in reset, in sleep, in degraded mode and in service, as far as the spec gives it beyond their units' own
signalling (Pins, packages and electrical characteristics; R546, R697, R703, R704).
-/
namespace Sys2Proof.Machine

/-- The three states of VR_PWMp (R703). -/
inductive VrPwm where
  | high
  | low
  | highZ
  deriving DecidableEq, Repr, Inhabited

/-- VR_PWMp of a phase (R703): while it is driven its level is the controller's. -/
def State.vrPwm (s : State) (p : Nat) : VrPwm :=
  if (tget {} s.power.vr p).driven then (if Config.pwmLevel p s.now then .high else .low) else .highZ

/-- VR_ENp of a phase (R703). -/
def State.vrEn (s : State) (p : Nat) : Bool := (tget {} s.power.vr p).enable

/-- The pins of R704, by its rows: those of a port, a line, an electrode or a phase carry its number. -/
inductive Pin where
  | lanes (dsi : Bool) (port : Nat)
  | hpd (port : Nat)
  | netLanes
  | perst (k : Nat)
  | lpControl
  | lpData
  | ethLow (mac : Nat)
  | ethMdio (mac : Nat)
  | tdmClock (port : Nat)
  | tdmOut (port : Nat)
  | mclk (n : Nat)
  | swrClk (m : Nat)
  | audioIn
  | electrode (e : Nat)
  | shield (b : Nat)
  | hapOut (c : Nat)
  | hapGate (c : Nat)
  | hapBus
  | vrPwm (p : Nat)
  | vrEn (p : Nat)
  | xspiCs
  | xspiSck
  | xspiData
  | xspiReset
  | jtagDown
  | jtagUp
  | jtagOut
  | railEn
  | huskFail
  | thermtrip
  | input
  | wakeIn
  | xtal38
  | xtal32
  deriving DecidableEq, Repr, Inhabited

/-- What a pin does: a level, high impedance with or without a pull, an input, an oscillation, released (open drain), or what its unit drives. -/
inductive PinState where
  | low
  | high
  | highZ
  | highZUp
  | highZDown
  | highUp
  | lowDown
  | input
  | inputUp
  | inputDown
  | released
  | oscillating
  | stopped
  | unit
  deriving DecidableEq, Repr, Inhabited

/-- A pin in reset: R704, second column. -/
def pinReset : Pin → PinState
  | .lanes .. => .highZ
  | .hpd _ => .inputDown
  | .netLanes => .highZ
  | .perst _ => .inputDown
  | .lpControl => .low
  | .lpData => .highZ
  | .ethLow _ => .low
  | .ethMdio _ => .highZUp
  | .tdmClock _ => .highZDown
  | .tdmOut _ => .low
  | .mclk _ => .low
  | .swrClk _ => .low
  | .audioIn => .highZDown
  | .electrode _ => .low
  | .shield _ => .low
  | .hapOut _ => .highZDown
  | .hapGate _ => .low
  | .hapBus => .highZ
  | .vrPwm _ => .highZ
  | .vrEn _ => .lowDown
  | .xspiCs => .highUp
  | .xspiSck => .low
  | .xspiData => .highZ
  | .xspiReset => .low
  | .jtagDown => .inputDown
  | .jtagUp => .inputUp
  | .jtagOut => .highZ
  | .railEn => .high
  | .huskFail => .low
  | .thermtrip => .released
  | .input => .input
  | .wakeIn => .inputUp
  | .xtal38 => .oscillating
  | .xtal32 => .oscillating

/-- The electrodes the wake scanner senses: those of TOUCH_WAKE_CTRL.MASK while it is enabled (R431). -/
def State.wakeSenses (s : State) (e : Nat) : Bool := s.rb 0x03800010 31 && e < 16 && s.rb 0x03800010 e

/-- A pin in sleep: R704, third column. -/
def State.pinSleep (s : State) : Pin → PinState
  | .electrode e => if s.wakeSenses e then .unit else .low
  | .shield 0 => .unit
  | .jtagDown => .unit
  | .jtagUp => .unit
  | .jtagOut => .unit
  | .railEn => .low
  | .huskFail => .released
  | .xtal38 => .stopped
  | p => pinReset p

/-- The port that plays chimes, and MCLK of its rate family: MCLK0 for the family of 48 kHz, MCLK1 for that of 44.1 kHz (R394, R620). -/
def State.chimePort (s : State) : Nat := bits s.pip.config 339 336
def State.chimeMclk (s : State) : Nat := if bits s.pip.config 343 340 % 2 = 0 then 1 else 0

/-- A pin in degraded mode: R704, fourth column. -/
def State.pinDegraded (s : State) : Pin → PinState
  | .lanes dsi port =>
    if s.degradedOuts.any fun p => (s.pipe p).cfg.port == port && (s.pipe p).cfg.kind == (if dsi then 2 else 1) then .unit else .highZ
  | .tdmClock t => if t = s.chimePort then .unit else .highZDown
  | .tdmOut t => if t = s.chimePort then .unit else .low
  | .mclk n => if n = s.chimeMclk then .unit else .low
  | .electrode e => if s.wakeSenses e then .unit else .low
  | .shield 0 => .unit
  | .vrPwm p => match s.vrPwm p with | .highZ => .highZ | .high => .high | .low => .low
  | .vrEn p => if s.vrEn p then .high else .lowDown
  | .xspiReset => .high
  | .jtagDown => .unit
  | .jtagUp => .unit
  | .jtagOut => .unit
  | p => pinReset p

/-- The domain whose unit owns a pin, for pins that are as in reset until that unit is up (R538, R704). -/
def pinDomain : Pin → Nat
  | .lanes dsi port => if dsi ∨ port < 8 then 16 else 17
  | .lpControl => 19
  | .lpData => 19
  | .ethLow _ => 23
  | .ethMdio _ => 23
  | .tdmClock _ => 20
  | .tdmOut _ => 20
  | .mclk _ => 20
  | .swrClk _ => 20
  | .audioIn => 20
  | .electrode _ => 21
  | .shield _ => 21
  | .hapOut _ => 21
  | .hapGate _ => 21
  | .hapBus => 21
  | _ => 0

/-- A pin in service: those whose level a rule states, else as in reset while the domain of its unit is OFF, else what its unit drives (R704). -/
def State.pinUp (s : State) : Pin → PinState
  | .railEn => if s.power.railEn then .high else .low
  | .huskFail => if s.power.huskFail then .low else .released
  | .thermtrip => if s.power.thermtrip then .low else .released
  | .vrPwm p => match s.vrPwm p with | .highZ => .highZ | .high => .high | .low => .low
  | .vrEn p => if s.vrEn p then .high else .lowDown
  | .hpd _ => .inputDown
  | .perst _ => .inputDown
  | .input => .input
  | .wakeIn => .inputUp
  | .xtal38 => .oscillating
  | .xtal32 => .oscillating
  | p => if s.domainState (pinDomain p) = 0 then pinReset p else .unit

/-- What a pin does (R704): in reset PWRGOOD is low, or a rail of AON or VDD_SAFE is out of range, or power is removed at the critical level. -/
def State.pin (s : State) (p : Pin) : PinState :=
  if !s.power.pwrgood || s.power.aonLow || s.power.safeLow || s.power.critical then
    (match p with | .thermtrip => if s.power.thermtrip then .low else .released | _ => pinReset p)
  else if s.power.sleep = 2 then s.pinSleep p
  else if s.husk.degraded then s.pinDegraded p
  else s.pinUp p

end Sys2Proof.Machine
end

