-- ==== Sys2Proof/Safety.lean ====
section
/-!
DEFINITION. Safety: what counts as a safe run, and the words the statements are said in: the parts of the state, and what a command leaves alone.
-/
namespace Sys2Proof

/-- A run of `n` steps from a state neither faults nor is refused. -/
def SafeRun (n : Nat) (s : Machine.State) : Prop := ∃ t, core.run n s = .next t

namespace Machine

/-- The parts of the state beside the registers, the memories, device time, the queue and the kind of part. -/
inductive Part where
  | free | access | cycle | pods | seed | display | pip | checks | render | audio | panel | start | worlds | vims | net | recs | power | budget | husk
  deriving DecidableEq, Repr

/-- A part is the same in two states. -/
def Part.same (p : Part) (s t : State) : Prop :=
  match p with
  | .free => t.freeCount = s.freeCount
  | .access => t.latch = s.latch ∧ t.staged = s.staged ∧ t.lastRead = s.lastRead
  | .cycle => t.cycle = s.cycle
  | .pods => t.pods = s.pods
  | .seed => t.seed = s.seed
  | .display => t.display = s.display
  | .pip => t.pip = s.pip
  | .checks => t.checks = s.checks
  | .render => t.render = s.render
  | .audio => t.audio = s.audio
  | .panel => t.panel = s.panel
  | .start => t.start = s.start
  | .worlds => t.worlds = s.worlds
  | .vims => t.vims = s.vims
  | .net => t.net = s.net
  | .recs => t.recs = s.recs
  | .power => t.power = s.power
  | .budget => t.budget = s.budget
  | .husk => t.husk = s.husk

/-- Between `s` and `t` only parts of `ps` and register words of `ks` differ: every other register word, every byte of device memory and of host
memory, device time, the queue and the kind of part are as before. -/
structure Frame (ps : List Part) (ks : List Nat) (s t : State) : Prop where
  parts : ∀ p, p ∉ ps → p.same s t
  regs : ∀ k, k ∉ ks → t.rd k = s.rd k
  mem : ∀ a, tget 0 t.mem a = tget 0 s.mem a
  hostMem : ∀ a, tget 0 t.hostMem a = tget 0 s.hostMem a
  now : t.now = s.now
  queue : t.pending = s.pending
  variant : t.variant = s.variant

/-- The same for a command that stores: bytes of device memory at addresses of `ms`, and of host memory at addresses of `hs`, may differ as well. -/
structure FrameM (ps : List Part) (ks : List Nat) (ms hs : Nat → Prop) (s t : State) : Prop where
  parts : ∀ p, p ∉ ps → p.same s t
  regs : ∀ k, k ∉ ks → t.rd k = s.rd k
  mem : ∀ a, ¬ ms a → tget 0 t.mem a = tget 0 s.mem a
  hostMem : ∀ a, ¬ hs a → tget 0 t.hostMem a = tget 0 s.hostMem a
  now : t.now = s.now
  queue : t.pending = s.pending
  variant : t.variant = s.variant

/-- The bytes of chunk `c` of a memory. -/
def inChunk (mem c a : Nat) : Prop := mem * 2 ^ 60 + c * 2 ^ 21 ≤ a ∧ a < mem * 2 ^ 60 + (c + 1) * 2 ^ 21

/-- Descriptor `n`, of opcode `op`, starts at queue `q`: it is the next one, the queue may start it, it stands where R305 lets it, and no bit that must
be 0 is set; `v` is the state with it taken from the queue (R277, R305, R306, R326). -/
def State.starts (u v : State) (q op n : Nat) : Prop :=
  u.qStart q op = some (n, v) ∧ descPlaced (qKind q == kCompute) (v.queue q).openPass.isSome n = true ∧ descRsv n = false

/-- The queue's descriptors that take no work of their own leave it at once when nothing else runs: the state with `n` joined and gone. -/
def State.passedBy (s : State) (q n : Nat) : State := (s.qRun q n).mQueue q fun r => { r with running := [] }

/-- A VIMGR command is accepted from a path that reaches the port: its parameter block is `p`, and `x` is the state after the block was read (R480, R507). -/
def State.vimTakes (u x : State) (r : Req) (op v : Nat) (ext : Option Bytes) (p : Nat) : Prop :=
  pathWin r.path = pfWin ∧ u.vimCheck r op v ext = (.ok p, x)

/-- What a device reset, entered from sleep or not, leaves of `s` (R17, R539, R663, R695): the registers AON holds, the TRIED_BAD marks among them; every
other register at its reset value, but for the cap of the part; device memory at 0; host memory, device time, the recorder but for
the counts of domains, the queue and the kind of part. -/
structure ResetFrom (sleep : Bool) (s t : State) : Prop where
  kept : ∀ k, aonHeld sleep k = true → k ≠ 0x00200004 → t.rd k = s.rd k
  marks : t.rd 0x00200004 = s.rf 0x00200004 29 28 * 2 ^ 28
  cleared : ∀ k, aonHeld sleep k = false → k ≠ 0x00180000 → t.rd k = regReset k % 2 ^ 32
  mem : ∀ a, tget 0 t.mem a = 0
  pips : t.pip = State.reset.pip
  vims : t.vims = State.reset.vims
  hostMem : t.hostMem = s.hostMem
  recs : t.recs = { s.recs with heldCnt := [], ranDom := [] }
  now : t.now = s.now
  queue : t.pending = s.pending
  variant : t.variant = s.variant

/-- The memories of a state are in their canonical form. -/
def State.canonical (s : State) : Bool := twf 0 s.mem && twf 0 s.hostMem

end Machine

end Sys2Proof
end

