-- ==== Sys2Proof/WellFormed.lean ====
section
/-!
DEFINITION. WellFormed: the ranges the spec gives the operands of the commands.
-/
namespace Sys2Proof

/-- A word of BAR0 is aligned to 4 and lies in the 256 MiB of PF BAR0 (R9, R43). -/
def okAddr (a : Nat) : Bool := a % 4 == 0 && a < 0x10000000

/-- A window is a VI's, 0 to 255, or the PF channel window, written 0xFFFF as VI_INFO.VI reads there (R1, R52). -/
def okWin (w : Nat) : Bool := w < 256 || w == 0xFFFF

/-- A ring number is 0 to 255 (R51). -/
def okRing (n : Nat) : Bool := n < 256

/-- A display pipe is 0 to 15 (R1). -/
def okPipe (p : Nat) : Bool := p < 16

/-- A directory index is below 4,096 (R39). -/
def okUnit (u : Nat) : Bool := u < 4096

/-- A power request is a three-bit field (R29). -/
def okPower (q : Nat) : Bool := q < 8

/-- A memory is 0 Seedbank, 1 LPDDR or 2 on-die SRAM (R105). -/
def okMem (m : Nat) : Bool := m < 3

/-- The memories with chunks are 0 Seedbank and 1 LPDDR (R72). -/
def okChunkMem (m : Nat) : Bool := m < 2

/-- A bandwidth class is 0 to 7 (R99). -/
def okClass (c : Nat) : Bool := c < 8

/-- The pool of memory chunk channels has 16,384 indices (R483). -/
def okMemIdx (i : Nat) : Bool := i < 16384

/-- A 64-bit operand. -/
def ok64 (v : Nat) : Bool := v < 2 ^ 64

/-- A layer slot is 0 to 511 (R107). -/
def okSlot (i : Nat) : Bool := i < 512

/-- A word of the degamma tables or the coefficient sets (R155). -/
def okTable (a : Nat) : Bool := a % 4 == 0 && ((0x01020000 ≤ a && a < 0x01028000) || (0x01030000 ≤ a && a < 0x01040000 && a % 0x1000 ≤ 2048))

/-- A data check unit is 0 to 63 (R265). -/
def okDcu (u : Nat) : Bool := u < 64

/-- DCU_POLY, DCU_INIT, DCU_XOROUT and DCU_VALUE are named 0 to 3 (R273). -/
def okDcuReg (n : Nat) : Bool := n < 4

/-- A check context is 0 to 4,095 (R266). -/
def okCtx (i : Nat) : Bool := i < 4096

/-- A pixel PLL or a DSC encoder is 0 to 7 (R245). -/
def okPll (j : Nat) : Bool := j < 8

/-- PLL_INT, PLL_FRAC and PLL_DIV are named 0 to 2 (R245). -/
def okPllReg (n : Nat) : Bool := n < 3

/-- A 64-bit register of PF BAR0 begins at a multiple of 8 (R9, R43). -/
def okAddr8 (a : Nat) : Bool := a % 8 == 0 && a < 0x10000000

/-- A link rate code is 0 to 6 (R244). -/
def okRate (n : Nat) : Bool := n < 7

/-- A lane count is 1, 2 or 4; 0 for a link that did not train (R244). -/
def okLanes (n : Nat) : Bool := n == 0 || n == 1 || n == 2 || n == 4

/-- The four ends of an AUX transaction (R231). -/
def okOutcome (n : Nat) : Bool := n < 4

/-- A DSI port is 0 to 3 (R1, R244). -/
def okDsi (n : Nat) : Bool := n < 4


/-- A queue is named by its kind × 2^18 + index: kind 2 render or 3 compute, index below 1,024 (R45, R483). -/
def okQueue (q : Nat) : Bool := (q / 2 ^ 18 == 2 || q / 2 ^ 18 == 3) && q % 2 ^ 18 < 1024

/-- A 32-bit operand. -/
def ok32 (v : Nat) : Bool := v < 2 ^ 32

/-- A shader cluster is 0 to 31 (R1). -/
def okCluster (c : Nat) : Bool := c < 32

/-- Samples of a draw lie in a surface of at most 16,384 by 16,384 with at most 4 samples, and name colour attachments 0 to 7 (R293, R310). -/
def okWork (k : Work) : Bool := k.frags.all fun c => c.x < 16384 && c.y < 16384 && c.smp < 4 && c.out.all fun o => o.1 < 8

/-- A translated pipeline takes 1 to 4 units (R289); an error word is 32 bits (R280). -/
def okVerdict (v : Verdict) : Bool := 1 ≤ v.units && v.units ≤ 4 && v.errorWord < 2 ^ 32

/-- An audio stream is named by its kind × 2^18 + index: kind 4 in, below 256, or 5 out, below 128 (R45, R483). -/
def okStream (k : Nat) : Bool := (k / 2 ^ 18 == 4 && k % 2 ^ 18 < 256) || (k / 2 ^ 18 == 5 && k % 2 ^ 18 < 128)

/-- An audio clock domain is 0 or 1 (R374), as is a TSN MAC (R649). -/
def okDomain (d : Nat) : Bool := d < 2

/-- The port, player and AVTP map registers (R403). -/
def okAudioMap (k : Nat) : Bool :=
  k % 4 == 0 && ((0x03000100 ≤ k && k < 0x03000280) || (0x03002000 ≤ k && k < 0x03002400 && k % 16 == 8) || (0x03004000 ≤ k && k < 0x03005000))

/-- Sample players, AVTP streams in a direction, stream slots of a window, region entries and hulls are 0 to 63 (R399, R404, R514, R521). -/
def okPlayer (n : Nat) : Bool := n < 64

/-- A TDM port is 0 to 7 (R394). -/
def okTdm (p : Nat) : Bool := p < 8

/-- A SoundWire peripheral is 0 to 10; data ports 1 to 14 bound its channels (R395). -/
def okPeripheral (k : Nat) : Bool := k < 11
def okSwrCh (n : Nat) : Bool := n ≤ 14 * 8

/-- A haptic channel is 0 to 15, a slot register set of a window 0 to 31, a library entry 0 to 255 (R436, R443, R451). -/
def okHap (c : Nat) : Bool := c < 16
def okHslot (k : Nat) : Bool := k < 32
def okLib (k : Nat) : Bool := k < 256

/-- A 16-bit operand. -/
def ok16 (v : Nat) : Bool := v < 2 ^ 16

/-- A block has 32 electrodes; a reading has 24 bits (R407, R409). -/
def okReadings (rs : List Nat) : Bool := rs.length == 32 && rs.all fun r => r < 2 ^ 24

/-- The channel kinds are 0x01 to 0x0C, and an index has 18 bits (R45). -/
def okKind (k : Nat) : Bool := 1 ≤ k && k ≤ 0x0C
def okIndex (i : Nat) : Bool := i < 2 ^ 18

/-- An event ring is a window's, or the secure event ring, written 0x10000 (R66, R69). -/
def okEvr (w : Nat) : Bool := okWin w || w == 0x10000

/-- A VI is 0 to 255, as is a VF of a link (R1, R474); a host link is 0 to 4 (R472). -/
def okVi (v : Nat) : Bool := v < 256
def okLink (l : Nat) : Bool := l < 5

/-- A hart is 0 to 7 (R1, R536); a region controller 0 to 3 (R535); a cause of an asynchronous exit 1 to 4 (R536); x1 to x31. -/
def okHart (h : Nat) : Bool := h < 8
def okRc (c : Nat) : Bool := c < 4
def okCause (c : Nat) : Bool := 1 ≤ c && c ≤ 4
def okRegs (xs : List Nat) : Bool := xs.length == 31 && xs.all fun x => x < 2 ^ 64

/-- An Icvik port is 0 to 3 (R1, R646); a flit has 256 bytes (R627); node numbers are below 4,096 (R42). -/
def okLane (p : Nat) : Bool := p < 4
def okFlit (b : Bytes) : Bool := b.length == 256
def okHello (h : Hello) : Bool := h.port < 4 && (match h.node with | some n => n < 4096 | none => true) && h.info.prio < 16
def okGraph (es : List PortEdge) : Bool := es.all fun e => e.a < 4096 && e.ap < 4 && e.b < 4096 && e.bp < 4

/-- A received frame has its FCS and at least 64 bytes (R649); a frame too long is one the MAC drops (R657). -/
def okFrame (b : Bytes) : Bool := 64 ≤ b.length

/-- A slot of the recorder, or what a counter adds in one cycle, is below 256 (R663, R677). -/
def okByte (n : Nat) : Bool := n < 256

/-- The fields of a sample record fit their widths (R685). -/
def okTagged (g : Tagged) : Bool :=
  g.sel < 64 && g.addr < 2 ^ 64 && g.data < 2 ^ 64 && g.latency < 2 ^ 64 && g.events < 2 ^ 32 && g.priv < 8 && g.stage < 4 && g.word < 2 ^ 32

/-- A power domain is 0 to 23 (R538); a multiphase rail 0 or 1 and a phase 0 to 15 (R546). -/
def okPowerDom (d : Nat) : Bool := d < 24
def okRail (r : Nat) : Bool := r < 2
def okPhase (p : Nat) : Bool := p < 16

/-- There are 64 temperature sensors (R553); a cause of a lost reference is 1 or 2 (R569); the wake scanner has 16 electrodes with 24-bit
readings (R409, R431). -/
def okSensors (rs : List (Int × Nat)) : Bool := rs.length == 64
def okClockCause (c : Nat) : Bool := c == 1 || c == 2
def okWakeScan (rs : List Nat) : Bool := rs.length == 16 && rs.all fun r => r < 2 ^ 24

/-- A flash of 64 MiB to 512 MiB, with runs inside it (R570). -/
def okFlash (f : Option FlashIn) : Bool :=
  match f with
  | none => true
  | some x => 64 ≤ x.sizeMiB && x.sizeMiB ≤ 512 && 0 < x.eraseKiB && x.eraseKiB < 65536
      && x.runs.all fun r => r.1 + r.2.length ≤ x.sizeMiB * 2 ^ 20

/-- A Husk is A, written 0, or B, written 1 (R604). -/
def okHusk (b : Nat) : Bool := b < 2


/-- The LEN field of START_NVM_CMD has 24 bits (R602); a status code seven (R18). -/
def okNvmLen (n : Nat) : Bool := n < 2 ^ 24
def okStatus (n : Nat) : Bool := n < 128

/-- DOMAIN_ON names a power domain. -/
def DomainUp.ok (x : DomainUp) : Bool := okPowerDom x.d


/-- A command is well formed when each operand lies in the range the spec gives the field it stands for. -/
def Instr.wf : Instr → Bool
  | .registerWrite _ _ addr _ => okAddr addr
  | .registerReadClear _ _ addr => okAddr addr
  | .readLowWord _ _ addr => okAddr addr
  | .writeHighWord _ _ addr _ => okAddr addr
  | .uifPowerReq _ _ u req => okUnit u && okPower req
  | .uifPowerDone _ u => okUnit u
  | .uifResetGo _ _ u => okUnit u
  | .uifResetDone _ u => okUnit u
  | .directoryChange _ u _ => okUnit u
  | .ringEnable _ w n _ => okWin w && okRing n
  | .ringDisable _ w n _ _ => okWin w && okRing n
  | .ringDoorbell _ w n _ => okWin w && okRing n
  | .ringEntryFetch _ w n _ => okWin w && okRing n
  | .createLayer _ w _ => okWin w
  | .createRenderQueue _ w _ => okWin w
  | .createComputeQueue _ w _ => okWin w
  | .createAudioStreamIn _ w _ => okWin w
  | .createAudioStreamOut _ w _ => okWin w
  | .streamCreateSwapIdle _ k => okStream k
  | .createTouchZone _ w _ => okWin w
  | .createHapticEffectSlot _ w _ => okWin w
  | .createCheckContext _ w _ => okWin w
  | .createFence _ w _ => okWin w
  | .createMemoryChunk _ w _ => okWin w
  | .chunkZeroDone _ idx => okMemIdx idx
  | .createReflexBinding _ w _ => okWin w
  | .createWritebackTarget _ w _ => okWin w
  | .destroy _ w _ => okWin w
  | .destroyDrainDone _ kind i => okKind kind && okIndex i
  | .chunkUnmapDrainDone _ idx => okMemIdx idx
  | .bindRing _ w => okWin w
  | .unbindRing _ w => okWin w
  | .query _ w => okWin w
  | .evrEnable _ w _ => okEvr w
  | .evrHeadWrite _ w _ => okEvr w
  | .evrIrqTimer _ w => okWin w
  | .scrubChunk _ mem _ => okMem mem
  | .pageRetired _ mem _ => okChunkMem mem
  | .lpddrDriftTrack _ _ => true
  | .bwWindow _ mem _ => okChunkMem mem
  | .memBwClassWrite _ mem c _ => okChunkMem mem && okClass c
  | .layerTableWrite _ _ addr _ => okTable addr
  | .layerPipeBgWrite _ _ p v => okPipe p && ok64 v
  | .commitToken _ w p _ => okWin w && okPipe p
  | .commitCheckDone _ w p _ => okWin w && okPipe p
  | .lineStart _ p _ _ => okPipe p
  | .lineZero _ p _ => okPipe p
  | .composeStart _ p _ => okPipe p
  | .compositionDone _ p _ => okPipe p
  | .wbFrameWritten _ p => okPipe p
  | .lastActivePixel _ p _ => okPipe p
  | .latchPoint _ p _ => okPipe p
  | .layerFault _ slot faddr _ _ _ _ => okSlot slot && ok64 faddr
  | .underrun _ slot _ _ _ => okSlot slot
  | .pipeEnable _ _ p _ => okPipe p
  | .pipeReconfig _ _ p _ => okPipe p
  | .pipeDisable _ _ p _ => okPipe p
  | .pipeChecksDone _ p _ => okPipe p
  | .pllLocked _ j _ => okPll j
  | .pipeStopped _ p => okPipe p
  | .pipeLutWrite _ _ addr v => okAddr8 addr && ok64 v
  | .pllWrite _ _ j reg _ => okPll j && okPllReg reg
  | .dscCfgWrite _ _ e _ => okPll e
  | .hpdPlug _ port => okPipe port
  | .hpdUnplug _ port => okPipe port
  | .irqHpd _ port _ => okPipe port
  | .dpRetrain _ _ port _ => okPipe port
  | .linkTrained _ port _ rate lanes _ => okPipe port && okRate rate && okLanes lanes
  | .dpAuxCmd _ _ port _ => okPipe port
  | .auxTransactionDone _ port outcome _ => okPipe port && okOutcome outcome
  | .dsiCmd _ _ port _ => okDsi port
  | .dsiCmdDone _ port _ _ => okDsi port
  | .chkWrite _ _ addr _ => okAddr addr
  | .frameMissing _ p => okPipe p
  | .dcuData _ _ u _ => okDcu u
  | .dcuData8 _ _ u _ => okDcu u
  | .dcuRestart _ _ u => okDcu u
  | .dcuValueWrite _ _ u which v => okDcu u && okDcuReg which && ok64 v
  | .dcuCfgWrite _ _ u _ => okDcu u
  | .checkEntryDispatch _ => true
  | .chkFeed _ i _ => okCtx i
  | .chkFinish _ i => okCtx i
  | .chkSet _ i => okCtx i
  | .chkRestart _ i => okCtx i
  | .translate _ w _ => okWin w
  | .evict _ w _ => okWin w
  | .publish _ w _ => okWin w
  | .xlateDone _ w v _ => okWin w && okVerdict v
  | .passBegin _ q _ => okQueue q
  | .passEnd _ q _ => okQueue q
  | .bindPipeline _ q _ => okQueue q
  | .bindResources _ q _ => okQueue q
  | .bindIndex _ q _ => okQueue q
  | .bindVertex _ q _ => okQueue q
  | .push _ q _ => okQueue q
  | .setViewport _ q _ => okQueue q
  | .setScissor _ q _ => okQueue q
  | .draw _ q _ _ _ => okQueue q
  | .drawIndexed _ q _ _ _ => okQueue q
  | .drawIndirect _ q _ _ _ => okQueue q
  | .tilePoolGrowth _ q => okQueue q
  | .dispatch _ q _ => okQueue q
  | .dispatchIndirect _ q _ => okQueue q
  | .clear _ q _ => okQueue q
  | .copy _ q _ => okQueue q
  | .barrier _ q _ => okQueue q
  | .fenceWait _ q _ => okQueue q
  | .fenceWaitRelease _ q _ => okQueue q
  | .fenceSignal _ q _ => okQueue q
  | .timestamp _ q _ => okQueue q
  | .occlusionBegin _ q _ => okQueue q
  | .occlusionEnd _ q _ => okQueue q
  | .passInfo _ q _ => okQueue q
  | .resolve _ q _ => okQueue q
  | .deadline _ q _ => okQueue q
  | .descriptorComplete _ q cnt k _ => okQueue q && ok32 cnt && okWork k
  | .preemptionBoundary _ c => okCluster c
  | .contextSaved _ q => okQueue q
  | .contextRestored _ q => okQueue q
  | .deadlineMissed _ q => okQueue q
  | .watchdogFired _ q cnt _ _ => okQueue q && ok32 cnt
  | .fillLimitExpiry _ q cnt _ _ => okQueue q && ok32 cnt
  | .budgetTick _ _ => true
  | .safeBudgeting _ => true
  | .deratingEnd _ => true
  | .budgetCapWrite _ _ _ => true
  | .audioDomainEnable _ _ d _ => okDomain d
  | .audioDomainDisable _ _ d _ => okDomain d
  | .audioDomCtrlWrite _ _ d _ => okDomain d
  | .sampleBoundary _ d _ _ => okDomain d
  | .audioSourceLost _ d => okDomain d
  | .domainLock _ d _ => okDomain d
  | .audioMapWrite _ _ k _ => okAudioMap k
  | .audioSwapGo _ _ _ => true
  | .swapCheckDone _ _ => true
  | .swapDone _ => true
  | .audioPathSelWrite _ _ _ => true
  | .playerTrigger _ _ n => okPlayer n
  | .playerStop _ _ n => okPlayer n
  | .streamRun _ w sl _ => okWin w && okPlayer sl
  | .tdmClkLost _ p => okTdm p
  | .swrCmd _ _ m _ => okDsi m
  | .avtpTalkerInterval _ i => okPlayer i
  | .avtpStream _ i => okPlayer i
  | .tblkEnable _ _ b _ => okHap b
  | .scanStart _ b => okHap b
  | .scanMeasureEnd _ b readings _ _ _ => okHap b && okReadings readings
  | .telThreshWrite _ _ e _ => okSlot e
  | .telCtrlWrite _ _ e _ => okSlot e
  | .wakeScan _ readings => okWakeScan readings
  | .hlPulseEnd _ i => okSlot i
  | .hapEnable _ _ c _ => okHap c
  | .hapDisable _ _ c _ => okHap c
  | .hslotPlay _ w k => okWin w && okHslot k
  | .hslotStop _ w k => okWin w && okHslot k
  | .hapCal _ _ c => okHap c
  | .hapStop _ _ c => okHap c
  | .hapLibCommit _ _ k _ => okLib k
  | .hapControlPeriod _ c amp freq => okHap c && ok16 amp && ok16 freq
  | .hapShort _ c => okHap c
  | .accelRead _ c _ => okHap c
  | .calDone _ c near _ _ f0 rc l k => okHap c && ok16 near && ok16 f0 && ok16 rc && ok32 l && ok32 k
  | .hapBinBoundary _ c => okHap c
  | .hapticDropped _ c => okHap c
  | .hapRestEnd _ c => okHap c
  | .coilModelUpdate _ c irms _ => okHap c && ok16 irms
  | .createVi _ _ v _ => ok16 v
  | .destroyVi _ _ v _ => ok16 v
  | .grant _ _ v _ => ok16 v
  | .resetVi _ _ v _ => ok16 v
  | .viResetDone _ v => okVi v
  | .freeze _ _ v _ => ok16 v
  | .freezeComplete _ v => okVi v
  | .viFreezeTimeout _ v => okVi v
  | .thaw _ _ v _ => ok16 v
  | .thawRetranslationDone _ v _ _ => okVi v
  | .save _ _ v _ => ok16 v
  | .saveComplete _ v => okVi v
  | .restore _ _ v _ => ok16 v
  | .restoreComplete _ v _ => okVi v
  | .copyOut _ _ v _ => ok16 v
  | .copyIn _ _ v _ => ok16 v
  | .viCopyComplete _ v _ => okVi v
  | .dirtyCtrl _ _ v _ => ok16 v
  | .dirtyHarvest _ _ v _ => ok16 v
  | .functionLevelReset _ l vf => okLink l && okVi vf
  | .vfEnableCleared _ l => okLink l
  | .busMasterEnableChange _ l vf _ => okLink l && okVi vf
  | .pcieLinkDown _ l => okLink l
  | .pcieLinkUp _ l => okLink l
  | .worldHartWrite _ h _ _ => okHart h
  | .rcEntryCommit _ _ c e _ => okRc c && okPlayer e
  | .hullCreate _ _ => true
  | .hullAdd _ _ => true
  | .hullSeal _ _ => true
  | .hullEnter _ _ ret => ok64 ret
  | .hullExit _ _ x10 x11 => ok64 x10 && ok64 x11
  | .hullAsyncExit _ h cause pc xs => okHart h && okCause cause && ok64 pc && okRegs xs
  | .hullWindowOpen _ _ => true
  | .hullWindowClose _ _ => true
  | .windowCloseDrained _ c e => okRc c && okPlayer e
  | .hullReport _ _ => true
  | .hullDestroy _ _ => true
  | .hullDestroyDone _ k => okPlayer k
  | .debugTokenSubmit _ _ => true
  | .debugRevoke _ _ => true
  | .claimTake _ _ u => okUnit u
  | .claimRelease _ _ u => okUnit u
  | .claimRearm _ _ u => okUnit u
  | .claimLost _ d => okPowerDom d
  | .powerDomCtrlWrite _ _ d _ => okPowerDom d
  | .domainAutoDrop _ d _ _ => okPowerDom d
  | .domainRampStart _ _ => true
  | .domainPowerGood _ d => okPowerDom d
  | .domainOn _ x => DomainUp.ok x
  | .domainFault _ d => okPowerDom d
  | .domainFaultRetry _ d => okPowerDom d
  | .vrPhaseUpdate _ rail _ _ _ => okRail rail
  | .stageOvertemp _ p _ => okPhase p
  | .vrSenseLost _ p => okPhase p
  | .supplyDroop _ rail _ => okRail rail
  | .railOverVoltage _ rail _ => okRail rail
  | .vrCtrlClear _ _ _ => true
  | .railRecovery _ rail => okRail rail
  | .sensorRead _ readings => okSensors readings
  | .thermalClear _ d => okPowerDom d
  | .criticalTemperature _ _ => true
  | .thermtripRelease _ _ => true
  | .referenceLost _ cause ppm => okClockCause cause && ok16 ppm
  | .referenceOk _ ppm => ok16 ppm
  | .clockReturn _ _ _ => true
  | .slowClockLost _ => true
  | .slowClockReturn _ => true
  | .sleepRequest _ _ _ => true
  | .sleepEntered _ => true
  | .wakePin _ => true
  | .wakeTime _ => true
  | .railsOkRise _ => true
  | .pwrgoodRise _ flash => okFlash flash
  | .pwrgoodFall _ => true
  | .vddSafeLoss _ => true
  | .vddSafeReturn _ => true
  | .startTimeout _ _ => true
  | .pipFirstHandover _ p _ => okPipe p
  | .startFull _ => true
  | .psetWriteDue _ => true
  | .recorderFlush _ => true
  | .nvmWrite _ _ => true
  | .confirm _ _ => true
  | .shutdown _ _ => true
  | .shutdownDone _ => true
  | .psetFlush _ _ => true
  | .startCmdRestart _ _ => true
  | .clearMarks _ _ => true
  | .hostOwnWrite _ _ _ => true
  | .nvmErase _ _ len => okNvmLen len
  | .nvmProgram _ _ len => okNvmLen len
  | .nvmRead _ _ len => okNvmLen len
  | .nvmCmdDone _ _ _ => true
  | .load _ _ u => okUnit u
  | .updateLoaded _ _ => true
  | .activate _ _ u => okUnit u
  | .revert _ _ u => okUnit u
  | .handoverDone _ _ => true
  | .updateFailed _ => true
  | .move _ _ u => okUnit u
  | .spareLockTimeout _ => true
  | .huskHeartbeat _ b => okHusk b
  | .huskBeatMissed _ b _ => okHusk b
  | .huskLockstepMismatch _ b => okHusk b
  | .unitFault _ u why => okUnit u && okStatus why
  | .huskUnitRecovery _ u => okUnit u
  | .managerBeatMissed _ => true
  | .degradedRetry _ => true
  | .pipBeatMissed _ => true
  | .pipLockstepMismatch _ _ => true
  | .pipReloadDone _ => true
  | .pipListCommit _ _ p _ _ => okPipe p
  | .pipReplaceWrite _ _ p _ _ => okPipe p
  | .icvikPortEnable _ _ p _ => okLane p
  | .icvikTrainingDone _ p lanes => okLane p && okRate lanes
  | .icvikPortTimeout _ p => okLane p
  | .flitReceive _ p flit _ => okLane p && okFlit flit
  | .hello _ p h => okLane p && okHello h
  | .timeFlit _ p got sent => okLane p && ok64 got && ok64 sent
  | .timeFlitSend _ p => okLane p
  | .beat _ n => okUnit n
  | .beatSend _ => true
  | .nodeLost _ n => okUnit n
  | .routeUpdate _ edges _ => okGraph edges
  | .icvControl _ p src _ _ _ => okLane p && okUnit src
  | .controlRetry _ _ => true
  | .icvRead _ src _ e _ _ => okUnit src && okPlayer e
  | .icvPixel _ i _ _ => okPlayer i
  | .raccRead _ _ _ => true
  | .raccWrite _ _ _ => true
  | .raccDone _ _ => true
  | .podRefApply _ _ k => okPll k
  | .podRefActivate _ k => okPll k
  | .importOpen _ _ i _ => okPlayer i
  | .importOpenDone _ i _ chunks _ => okPlayer i && ok16 chunks
  | .importClose _ _ i _ => okPlayer i
  | .tsnEnable _ _ m _ => okDomain m
  | .tsnLink _ m _ rate => okDomain m && okRate rate
  | .tsnFrameTx _ m _ => okDomain m
  | .tsnFrameRx _ m frame _ _ _ => okDomain m && okFrame frame
  | .gclApply _ _ m => okDomain m
  | .tsnGclSwitch _ m => okDomain m
  | .ptpSyncLoss _ m => okDomain m
  | .tsnTxrDoorbell _ _ m _ => okDomain m
  | .tsnRxrDoorbell _ _ m _ => okDomain m
  | .tsnRingEnable _ _ m _ _ => okDomain m
  | .tsnMdioCmd _ _ m _ => okDomain m
  | .mdioDone _ m data => okDomain m && ok16 data
  | .recApply _ n => okByte n
  | .recClear _ _ _ _ => true
  | .recSlotCfgWrite _ _ n v => okByte n && ok64 v
  | .cntValueWrite _ _ i v inc => okCtx i && ok64 v && okByte inc
  | .counterWrap _ i n => okCtx i && ok64 n
  | .smpEnable _ _ m _ => okDomain m
  | .smpSeedWrite _ _ m _ => okDomain m
  | .sampleRecord _ m g => okDomain m && okTagged g
  | .stageCooled _ p _ => okPhase p
  | .droopEnd _ rail _ => okRail rail
  | .zeroingDone _ mem _ => okChunkMem mem
  | .resetWorkStop _ v => okVi v
  | .tdmClkReturn _ p => okTdm p
  | .swrCmdDone _ m _ _ => okDsi m
  | .swrPeripheralAttach _ m k _ chIn chOut => okDsi m && okPeripheral k && okSwrCh chIn && okSwrCh chOut
  | .ptpInterval _ m _ _ => okDomain m
  | .ppsPulse _ m => okDomain m
  | .gateControlEntry _ m => okDomain m
  | .noRouteTimeout _ i addr => okPlayer i && ok64 addr
  | .vddAonLoss _ => true
  | .vddAonReturn _ => true

end Sys2Proof
end

