-- ==== Sys2Proof/Certificates/Slice0/Obligations.lean ====
section
/-!
DEFINITION. Obligations: the statements for the provers.
-/
open Sys2Proof Sys2Proof.Machine

/-- When a command c is at the front of the queue, a step is exec of c on the state with the rest of the queue. -/
def Obligations.StepRunsFront : Prop :=
  ∀ (c : Instr) (q : List Instr) (s : State), s.pending = c :: q → step s = exec c (s.withPending q)

/-- With no command waiting, a step answers the state as it is. This is the model's choice (log entry 12): time passes with the commands.
-/
def Obligations.StepIdles : Prop :=
  ∀ s : State, s.pending = [] → step s = .next s

/-- From every state, whatever commands wait, runs of every length answer a next state: each condition the spec names ends in a status, an
event or a state of the device, and none in a fault or a refusal of the model. -/
def Obligations.EveryRunIsSafe : Prop :=
  (∀ (c : Instr) (s : State), ∃ t : State, exec c s = .next t) ∧ ∀ (n : Nat) (s : State), SafeRun n s

/-- In the state after reset no byte of device memory or host memory is listed, both memories are in canonical form, no command waits, no
ring is enabled in the PF window, and no control entry is in process. -/
def Obligations.ResetLeavesCanonicalMemory : Prop :=
  State.reset.canonical = true ∧ State.reset.mem = [] ∧ State.reset.hostMem = [] ∧ State.reset.pending = []
    ∧ (∀ n, n < 256 → State.reset.rb (ringCtrl pfWin n) 31 = false) ∧ ∀ w, tget none State.reset.pods.ctl w = none

/-- Whatever command is at the front: if device memory and host memory list strictly rising addresses and no byte equal to what an
unlisted address reads as, then so they do after the step. Equal memories are therefore equal data in every state a step reaches from such
a state. -/
def Obligations.StepKeepsCanonicalMemory : Prop :=
  ∀ s t : State, s.canonical = true → step s = .next t → t.canonical = true

/-- After reset CHIP_ID, SCHED_WATCHDOG, SCHED_FILL_LIMIT, BUDGET_CTRL, POWER_STAGGER, POWER_TRIP, HUSK_CTRL, EVR_CTRL, COMMIT_FRAME of
the PF's first pipe, and MEM_BW_CLASS of the real-time class at each memory hold the values of their tables. -/
def Obligations.ResetRegisters : Prop :=
  State.reset.view ⟨.pf, false⟩ 0 = 0x5A541000 ∧ State.reset.rd 0x00180020 = 2000 ∧ State.reset.rd 0x00180024 = 1000
    ∧ State.reset.rd 0x00180008 = 0x00050400 ∧ State.reset.rd 0x0010000C = 20 ∧ State.reset.rf 0x0010002C 15 7 = 0x14F
    ∧ State.reset.rd 0x00300004 = 0x0003000A ∧ State.reset.rd (evr pfWin).ctrl = 0
    ∧ State.reset.rd64 (win pfWin + 0x13018) = 2 ^ 64 - 1
    ∧ ∀ mem, mem < 2 → State.reset.rb (0x00600040 + mem * 0x20) 31 = true

/-- A word written by its access codes alone (R12): an RW bit, and an RWL bit while the block is not locked, takes the bit written; a W1C
bit that is written 1 reads 0; a W1S bit that is written 1 reads 1; every other bit keeps its value; a bit that hardware set in this cycle
stays set (R13); and every other register word, every part of the state and all memory stay as they were. The masks of a row are taken
disjoint, as a bit has one access code. -/
def Obligations.AccessCodes : Prop :=
  ∀ (s : State) (k v : Nat) (row : RegRow) (high : Bool), keyRow k = some (row, high) → v < 2 ^ 32 →
    (∀ i, b2n (bit (halfOf high row.rw) i) + b2n (bit (halfOf high row.rwl) i) + b2n (bit (halfOf high row.w1c) i)
        + b2n (bit (halfOf high row.w1s) i) ≤ 1) →
    (∀ i, i < 32 → bit ((s.plain k v).rd k) i =
      (((if bit (halfOf high row.rw) i then bit v i
       else if bit (halfOf high row.rwl) i then (if s.locked k then bit (s.rd k) i else bit v i)
       else if bit (halfOf high row.w1c) i then bit (s.rd k) i && !bit v i
       else if bit (halfOf high row.w1s) i then bit (s.rd k) i || bit v i
       else bit (s.rd k) i)) || (bit (s.rd k) i && bit (tget 0 s.cycle.raised k) i)))
    ∧ Frame [] [k] s (s.plain k v)

/-- REGISTER_WRITE to RING_STATUS of the PF window clears exactly the flags written 1 (W1C) but for those hardware set in the same cycle
(R13), and to EVR_IRQ stores its RW bits. REGISTER_READ_CLEAR of EVR_LOST returns the count and leaves 0 (RC); where hardware counted in
the same cycle it returns the count before, and the update is kept (R14); through the debug port it returns the count and leaves it.
READ_LOW_WORD of START_NVM_BUF returns its low word and latches its high word for the path, and a read of the high word then returns the
latched value. WRITE_HIGH_WORD of START_NVM_BUF puts the staged low word and the high word into effect together, and what was staged is
used up. In each case nothing else changes. -/
def Obligations.RegisterAccesses : Prop :=
  (∀ (dt n : Nat) (v : Word) (s u : State), u = s.tick dt → n < 256 → u.shutOut ⟨.pf, false⟩ (ringStatus pfWin n) = false → 
    ∃ t : State, exec (.registerWrite dt ⟨.pf, false⟩ (ringStatus pfWin n) v) s = .next t
      ∧ (∀ i, i < 32 → bit (t.rd (ringStatus pfWin n)) i = (bit (u.rd (ringStatus pfWin n)) i
          && (!(decide (i < 4) && bit v.toNat i) || bit (tget 0 u.cycle.raised (ringStatus pfWin n)) i)))
      ∧ Frame [] [ringStatus pfWin n] u t)
  ∧ (∀ (dt : Nat) (v : Word) (s u : State), u = s.tick dt → u.shutOut ⟨.pf, false⟩ (evrIrq pfWin) = false →
    tget 0 u.cycle.raised (evrIrq pfWin) = 0 →
    ∃ t : State, exec (.registerWrite dt ⟨.pf, false⟩ (evrIrq pfWin) v) s = .next t
      ∧ t.rf (evrIrq pfWin) 5 0 = bits v.toNat 5 0 ∧ t.rf (evrIrq pfWin) 31 8 = bits v.toNat 31 8
      ∧ t.rf (evrIrq pfWin) 7 6 = u.rf (evrIrq pfWin) 7 6 ∧ Frame [] [evrIrq pfWin] u t)
  ∧ (∀ (dt : Nat) (path : Path) (s u : State), u = s.tick dt → path = .pf ∨ path = .debug →
    u.shutOut ⟨path, false⟩ (evr pfWin).lost = false → tget none u.cycle.updates (evr pfWin).lost = none →
    ∃ t : State, exec (.registerReadClear dt ⟨path, false⟩ (evr pfWin).lost) s = .next t
      ∧ t.lastRead.toNat = u.rd (evr pfWin).lost ∧ t.rd (evr pfWin).lost = (if path = .debug then u.rd (evr pfWin).lost else 0)
      ∧ Frame [.access, .cycle] [(evr pfWin).lost] u t)
  ∧ (∀ (dt x n : Nat) (s u : State), u = s.tick dt → u.shutOut ⟨.pf, false⟩ (evr pfWin).lost = false → x < 2 ^ 32 → n < 2 ^ 32 →
    tget none u.cycle.updates (evr pfWin).lost = some (x, n) →
    ∃ t : State, exec (.registerReadClear dt ⟨.pf, false⟩ (evr pfWin).lost) s = .next t
      ∧ t.lastRead.toNat = x ∧ t.rd (evr pfWin).lost = n ∧ Frame [.access, .cycle] [(evr pfWin).lost] u t)
  ∧ (∀ (dt : Nat) (s u : State), u = s.tick dt →
    ∃ t : State, exec (.readLowWord dt ⟨.pf, false⟩ 0x00200040) s = .next t
      ∧ t.lastRead.toNat = u.rd 0x00200040 ∧ tget none t.latch (wordKey ⟨.pf, false⟩ 0x00200040) = some (BitVec.ofNat 32 (u.rd 0x00200044))
      ∧ Frame [.access] [] u t)
  ∧ (∀ (dt : Nat) (x : Word) (s u : State), u = s.tick dt → tget none u.latch (wordKey ⟨.pf, false⟩ 0x00200040) = some x →
    ∃ t : State, exec (.registerReadClear dt ⟨.pf, false⟩ 0x00200044) s = .next t
      ∧ t.lastRead = x ∧ tget none t.latch (wordKey ⟨.pf, false⟩ 0x00200040) = none ∧ Frame [.access] [] u t)
  ∧ (∀ (dt : Nat) (x v : Word) (s u : State), u = s.tick dt → tget none u.staged (wordKey ⟨.pf, false⟩ 0x00200040) = some x →
    ∃ t : State, exec (.writeHighWord dt ⟨.pf, false⟩ 0x00200044 v) s = .next t
      ∧ t.rd64 0x00200040 = x.toNat + 2 ^ 32 * v.toNat ∧ tget none t.staged (wordKey ⟨.pf, false⟩ 0x00200040) = none
      ∧ Frame [.access] [0x00200040, 0x00200044] u t)

/-- UIF_POWER_REQ of an unclaimed, idle unit whose domain is held ON is accepted: REQ holds the request, STATE reads TRANSITION and RESULT
reads OK; a reserved encoding, a unit in TRANSITION or in reset, and a unit another world claims read BAD_PARAM, BUSY and CLAIMED with
nothing else changed. UIF_POWER_DONE of a unit in TRANSITION whose domain is ON brings it to the requested state. UIF_RESET_GO sets BUSY,
health RESTARTING and RESULT OK. UIF_RESET_DONE clears BUSY, and the health reads OK. DIRECTORY_CHANGE puts a spare in a unit's place: the
unit that is in service shows where it showed and reads OK, what failed shows at the spare's old path with the health it had (a unit that
had not failed is the spare there), and CHIP_DIR_GEN counts. -/
def Obligations.UnitRequests : Prop :=
  (∀ (dt k q : Nat) (r : Req) (s u : State), u = s.tick dt → pathWin r.path = pfWin → k ≠ 0 → (u.unitAt k).isSome = true → q ≤ 3 →
    u.uifClaimed k r = false →
    (u.unit k).state ≠ 7 → (u.unit k).resetBusy = false → u.domainAbsent (u.unitDom k) = false → u.domainState (u.unitDom k) = 3 →
    u.floor (u.unitDom k) = 3 →
    ∃ t : State, exec (.uifPowerReq dt r k q) s = .next t
      ∧ t.unit k = { u.unit k with req := q, target := q, state := 7, powerResult := Status.ok.code }
      ∧ (∀ j, j ≠ k → t.unit j = u.unit j) ∧ Frame [.pods, .power] [domainReg (u.unitDom k) 4] u t)
  ∧ (∀ (dt k q : Nat) (r : Req) (s u : State), u = s.tick dt → pathWin r.path = pfWin → k ≠ 0 → (u.unitAt k).isSome = true →
    (u.uifClaimed k r = true ∨ 3 < q ∨ (u.unit k).state = 7 ∨ (u.unit k).resetBusy = true) →
    ∃ t : State, exec (.uifPowerReq dt r k q) s = .next t
      ∧ t.unit k = { u.unit k with powerResult := (if u.uifClaimed k r then Status.claimed else if 3 < q then .badParam else .busy).code }
      ∧ (∀ j, j ≠ k → t.unit j = u.unit j) ∧ Frame [.pods] [] u t)
  ∧ (∀ (dt k : Nat) (s u : State), u = s.tick dt → (u.unit k).state = 7 → u.domainState (u.unitDom k) = 3 → u.floor (u.unitDom k) = 3 →
    (u.unit k).target ≤ 3 →
    ∃ t : State, exec (.uifPowerDone dt k) s = .next t ∧ t.unit k = { u.unit k with state := (u.unit k).target }
      ∧ (∀ j, j ≠ k → t.unit j = u.unit j) ∧ Frame [.pods, .power] [domainReg (u.unitDom k) 4] u t)
  ∧ (∀ (dt k : Nat) (r : Req) (s u : State), u = s.tick dt → pathWin r.path = pfWin → k ≠ 0 → (u.unitAt k).isSome = true →
    u.uifClaimed k r = false →
    (u.unit k).state ≠ 7 → (u.unit k).resetBusy = false →
    ∃ t : State, exec (.uifResetGo dt r k) s = .next t ∧ (t.unit k).resetBusy = true ∧ (t.unit k).resetResult = Status.ok.code
      ∧ (t.unit k).health = 3)
  ∧ (∀ (dt k : Nat) (s u : State), u = s.tick dt → k ≠ 0 → (u.unit k).resetBusy = true → (u.unit k).gaveUp = false →
    ∃ t : State, exec (.uifResetDone dt k) s = .next t ∧ t.unit k = { u.unit k with resetBusy := false, health := 0 }
      ∧ ∀ j, j ≠ k → t.unit j = u.unit j)
  ∧ (∀ (dt k p : Nat) (s u : State), u = s.tick dt → k ≠ p → (u.unit p).spare = true → (u.unit p).uifMoved = 0 →
    ∃ t : State, exec (.directoryChange dt k (some p)) s = .next t
      ∧ t.unit p = { u.unit p with spare := decide ((u.unit k).health ≤ 1), uifMoved := k + 1, lastStatus := (u.unit k).lastStatus,
                                   gaveUp := (u.unit k).gaveUp, health := (if (u.unit k).health ≤ 1 then 5 else (u.unit k).health) }
      ∧ t.unit k = { u.unit k with uifMoved := p + 1, health := 0, gaveUp := false } ∧ t.rd 0x104 = (u.rd 0x104 + 1) % 2 ^ 32
      ∧ (∀ j, j ≠ k → j ≠ p → t.unit j = u.unit j))

/-- In a window in service: RING_ENABLE of a valid, disabled control ring or ring of a check context sets ENABLE and clears HEAD and TAIL,
and a queue's ring does the same and starts its queue again; an invalid one stays disabled, sets RING_STATUS bit 3 and writes
SUBMIT_FAULT. RING_DISABLE clears ENABLE and stops what the ring is bound to; of a disabled ring it stores LOG2. A doorbell within the
ring's size moves TAIL to it; one beyond sets bit 0 or 1 of RING_STATUS, leaves TAIL and writes SUBMIT_FAULT. An entry's address is
RING_BASE plus its number, modulo the ring's size, times 32 bytes (R54). RING_ENTRY_FETCH of the control ring with an entry that is right
in VI and SEQ and in its fields puts the entry into process and counts HEAD; an entry with another VI is dropped as SPOOF; a faulting read
disables the ring, sets bit 2 and writes SUBMIT_FAULT; while new work is refused or the manager cores are handed over (R563, R595, R598)
no entry is taken. -/
def Obligations.Rings : Prop :=
  (∀ (dt w n : Nat) (v : Word) (s u : State), u = s.tick dt → u.winIgnores w = false → u.rb (ringCtrl w n) 31 = false → 4 ≤ bits v.toNat 3 0 →
    u.rd64 (ringBase w n) % max 4096 (2 ^ bits v.toNat 3 0 * 32) = 0 → (n = 0 ∨ u.rd (ringBind w n) ≠ 0) →
    ∃ t : State, t.rd (ringCtrl w n) = 2 ^ 31 + bits v.toNat 3 0 ∧ t.rd (ringHead w n) = 0
      ∧ t.rd (ringTail w n) = 0 ∧ Frame [] [ringCtrl w n, ringHead w n, ringTail w n] u t
      ∧ (u.ringChan w n = none → exec (.ringEnable dt w n v) s = .next t)
      ∧ (∀ i, u.ringChan w n = some (kCheck, i) → exec (.ringEnable dt w n v) s = .next t)
      ∧ (∀ k i, u.ringChan w n = some (k, i) → k ≠ kCheck → exec (.ringEnable dt w n v) s = .next (t.queueRestart (chanKey k i))))
  ∧ (∀ (dt w n : Nat) (v : Word) (s u : State), u = s.tick dt → u.winIgnores w = false → u.rb (ringCtrl w n) 31 = false → bits v.toNat 3 0 < 4 →
    exec (.ringEnable dt w n v) s
      = .next (((u.wr (ringCtrl w n) (bits v.toNat 3 0)).raise (ringStatus w n) 3).submitFault w n))
  ∧ (∀ (dt w n : Nat) (v : Word) (hosts : List HostRun) (s u : State), u = s.tickMem dt hosts → u.winIgnores w = false → u.rb (ringCtrl w n) 31 = true →
    ∃ t : State, t.rb (ringCtrl w n) 31 = false ∧ t.rf (ringCtrl w n) 30 0 = u.rf (ringCtrl w n) 30 0 ∧ Frame [] [ringCtrl w n] u t
      ∧ (u.ringChan w n = none → exec (.ringDisable dt w n v hosts) s = .next t)
      ∧ (∀ i, u.ringChan w n = some (kCheck, i) → exec (.ringDisable dt w n v hosts) s = .next (t.ringAbandon (entRing w n)))
      ∧ (∀ k i, u.ringChan w n = some (k, i) → k ≠ kCheck → exec (.ringDisable dt w n v hosts) s = .next (t.queueStop (chanKey k i) hosts)))
  ∧ (∀ (dt w n : Nat) (v : Word) (hosts : List HostRun) (s u : State), u = s.tickMem dt hosts → u.winIgnores w = false → u.rb (ringCtrl w n) 31 = false →
    exec (.ringDisable dt w n v hosts) s = .next (u.wr (ringCtrl w n) (bits v.toNat 3 0)))
  ∧ (∀ (dt w n : Nat) (v : Word) (s u : State), u = s.tick dt → u.winDead w = false → u.rb (ringCtrl w n) 31 = true →
    (v.toNat + 2 ^ 32 - u.rd (ringHead w n)) % 2 ^ 32 ≤ 2 ^ u.rf (ringCtrl w n) 3 0 →
    ∃ t : State, exec (.ringDoorbell dt w n v) s = .next t ∧ t.rd (ringTail w n) = v.toNat ∧ Frame [] [ringTail w n] u t)
  ∧ (∀ (dt w n d : Nat) (v : Word) (s u : State), u = s.tick dt → u.winDead w = false → u.rb (ringCtrl w n) 31 = true →
    d = (v.toNat + 2 ^ 32 - u.rd (ringHead w n)) % 2 ^ 32 → 2 ^ u.rf (ringCtrl w n) 3 0 < d →
    exec (.ringDoorbell dt w n v) s
      = .next ((u.raise (ringStatus w n) (if d < 2 ^ 31 then 0 else 1)).submitFault w n))
  ∧ (∀ (dt w : Nat) (b : Bytes) (f : CtlFields) (hosts : List HostRun) (s u : State), u = s.tickMem dt hosts → u.winIgnores w = false → u.hostOk w = true →
    u.noWork = false → u.mgrHand = false → runAt hosts w (2 ^ 63 + u.ringEntry w 0 (u.rd (ringHead w 0)) % 2 ^ 63) 32 = some b →
    u.rb (ringCtrl w 0) 31 = true → u.rd (ringHead w 0) ≠ u.rd (ringTail w 0) → tget none u.pods.ctl w = none → u.mgrDown = false →
    f = ctlFields b → (f.vi = viField w → f.seq = u.rd (ringHead w 0) ∧ ctlBad f = false) →
    ∃ t : State, t.rd (ringHead w 0) = (u.rd (ringHead w 0) + 1) % 2 ^ 32 ∧ Frame [.pods] [ringHead w 0] u t
      ∧ (f.vi = viField w → exec (.ringEntryFetch dt w 0 hosts) s = .next t
          ∧ tget none t.pods.ctl w = some ⟨false, f.opcode, f.kind, f.tag, f.handle, f.paramAddr, f.paramLen, f.ring⟩)
      ∧ (f.vi ≠ viField w → exec (.ringEntryFetch dt w 0 hosts) s = .next (t.spoofDrop w 0x01)))
  ∧ (∀ (dt w n : Nat) (hosts : List HostRun) (s u : State), u = s.tickMem dt hosts → u.winIgnores w = false → n ≠ 0 → u.rb (ringCtrl w n) 31 = true →
    u.rd (ringHead w n) ≠ u.rd (ringTail w n) → u.noWork = false → u.mgrHand = false →
    (u.hostOk w = true → runAt hosts w (2 ^ 63 + u.ringEntry w n (u.rd (ringHead w n)) % 2 ^ 63) 32 = none) →
    exec (.ringEntryFetch dt w n hosts) s
      = .next (((u.wb (ringCtrl w n) 31 false).raise (ringStatus w n) 2).submitFault w n))
  ∧ (∀ (dt w n k : Nat) (hosts : List HostRun) (s u : State), u = s.tickMem dt hosts → (u.noWork = true ∨ u.mgrHand = true) →
    exec (.ringEntryFetch dt w n hosts) s = .next u ∧ u.ringEntry w n k = u.rd64 (ringBase w n) + k % 2 ^ u.rf (ringCtrl w n) 3 0 * 32)

/-- CREATE of a fence with a free index takes the index live, sets the fence's value, and completes with OK and the handle. BIND_RING of a
render queue to a disabled unbound ring names the handle in RING_BIND, unless another ring is bound to the queue (R277): then it completes
with BAD_STATE; UNBIND_RING clears it; BIND_RING of a fence completes with BAD_HANDLE. QUERY of a fence writes its 8-byte value and
completes with OK. DESTROY of a live fence moves the generation on, and the channel drains; DESTROY_DRAIN_DONE frees its index and
completes the DESTROY with OK under the old handle. -/
def Obligations.ControlRing : Prop :=
  (∀ (dt w i : Nat) (e : CtlEntry) (b : Bytes) (s u : State), u = s.tick dt → u.ctlWaits w 1 kFence = some e → e.paramLen = 16 →
    b.length = 16 → leNat b < 2 ^ 64 → u.hostOk w = true → u.pickIndex w kFence = some i →
    ∃ t : State, exec (.createFence dt w (some b)) s = .next (t.ctlDone w e .ok (u.handleWord kFence i))
      ∧ t.chan kFence i = ⟨.live, w⟩ ∧ t.fence i = ⟨leNat b, 0⟩ ∧ Frame [.pods, .display] (if w = pfWin then [] else [grantReg w kFence 8]) u t)
  ∧ (∀ (dt w i : Nat) (e : CtlEntry) (s u : State), u = s.tick dt → u.ctlWaits w 3 0 = some e → u.ctlHandle w e = .ok (kRender, i) →
    u.rb (ringCtrl w e.ring) 31 = false → u.rd (ringBind w e.ring) = 0 → u.boundTo w e.handle = false →
    exec (.bindRing dt w) s = .next ((u.wr (ringBind w e.ring) e.handle).ctlDone w e .ok e.handle))
  ∧ (∀ (dt w i : Nat) (e : CtlEntry) (s u : State), u = s.tick dt → u.ctlWaits w 3 0 = some e → u.ctlHandle w e = .ok (kRender, i) →
    u.boundTo w e.handle = true → exec (.bindRing dt w) s = .next (u.ctlDone w e .badState e.handle))
  ∧ (∀ (dt w i : Nat) (e : CtlEntry) (s u : State), u = s.tick dt → u.ctlWaits w 3 0 = some e → u.ctlHandle w e = .ok (kFence, i) →
    exec (.bindRing dt w) s = .next (u.ctlDone w e .badHandle e.handle))
  ∧ (∀ (dt w : Nat) (e : CtlEntry) (s u : State), u = s.tick dt → u.ctlWaits w 4 0 = some e →
    u.rb (ringCtrl w e.ring) 31 = false → u.rd (ringBind w e.ring) ≠ 0 →
    exec (.unbindRing dt w) s = .next ((u.wr (ringBind w e.ring) 0).ctlDone w e .ok e.handle))
  ∧ (∀ (dt w i : Nat) (e : CtlEntry) (s u : State), u = s.tick dt → u.ctlWaits w 5 0 = some e → u.ctlHandle w e = .ok (kFence, i) →
    8 ≤ e.paramLen → u.winDead w = false → u.hostOk w = true → tget none u.vims.dirty w = none →
    exec (.query dt w) s
      = .next ((u.hostWrite w (2 ^ 63 + e.paramAddr % 2 ^ 63) (leBytes (u.fence i).value 8)).ctlDone w e .ok e.handle))
  ∧ (∀ (dt w i : Nat) (e : CtlEntry) (hosts : List HostRun) (s u : State), u = s.tickMem dt hosts → u.ctlWaits w 2 0 = some e → u.ctlHandle w e = .ok (kFence, i) →
    (∀ n, n < 256 → u.rd (ringBind w n) ≠ u.handleWord kFence i) →
    ∃ t : State, exec (.destroy dt w hosts) s = .next t ∧ t.chan kFence i = ⟨.draining e.tag, w⟩ ∧ t.gen kFence i = (u.gen kFence i + 1) % 512
      ∧ tget none t.pods.ctl w = none ∧ Frame [.pods] [] u t)
  ∧ (∀ (dt w i tag : Nat) (s u : State), u = s.tick dt → u.chan kFence i = ⟨.draining tag, w⟩ →
    exec (.destroyDrainDone dt kFence i) s
        = .next ((u.chanGone kFence i).channelDone w .ok (Handle.mk kFence ((u.gen kFence i + 511) % 512) i).word tag 2)
      ∧ (u.chanGone kFence i).chan kFence i = {} ∧ (u.chanGone kFence i).fence i = {}
      ∧ ∀ j, j ≠ i → (u.chanGone kFence i).chan kFence j = u.chan kFence j)

/-- An event at the ring of a window that is enabled, not full, and owes no EVENTS_LOST record: the 16 bytes of the record of R22 stand at
the place of TAIL in host memory, the PHASE bit being 1 on the ring's first pass and inverting on each pass; TAIL counts; every other byte
of host memory and of device memory, and every register but TAIL, is as before. At a full ring EVR_LOST counts, saturating, and memory and
TAIL stay. EVR_IRQ_TIMER after TIMER_US raises the vector once and no record is left to be signalled. -/
def Obligations.EventRecords : Prop :=
  (∀ (s t : State) (w kind handle detail : Nat) (st : Status), w ≠ secWin → s.hostOk w = true → s.evrOpen w = true → s.evrFull w = false → tget 0 s.pods.lostSince w = 0 →
    tget none s.vims.dirty w = none → s.rd64 (evr w).base + s.evrSize w * 16 ≤ 2 ^ 63 → t = s.emit w kind st handle detail →
    (∀ i, i < 16 → tget 0 t.hostMem (hostKey w (s.rd64 (evr w).base + s.rd (evr w).tail % s.evrSize w * 16 + i))
        = BitVec.ofNat 8 (recordNat kind st.code handle detail s.now (1 - s.rd (evr w).tail / s.evrSize w % 2) / 256 ^ i))
    ∧ (∀ a, ¬ (hostKey w (s.rd64 (evr w).base + s.rd (evr w).tail % s.evrSize w * 16) ≤ a
          ∧ a < hostKey w (s.rd64 (evr w).base + s.rd (evr w).tail % s.evrSize w * 16) + 16) →
        tget 0 t.hostMem a = tget 0 s.hostMem a)
    ∧ t.rd (evr w).tail = (s.rd (evr w).tail + 1) % 2 ^ 32 ∧ (∀ k, k ≠ (evr w).tail → t.rd k = s.rd k) ∧ t.mem = s.mem)
  ∧ (∀ (s t : State) (w kind handle detail : Nat) (st : Status), s.rb (evr w).ctrl 31 = true → s.viHeld w = false → s.evrFull w = true →
    t = s.emit w kind st handle detail →
    t.rd (evr w).lost = min (s.rd (evr w).lost + 1) (2 ^ 32 - 1) ∧ Frame [.pods, .cycle] [(evr w).lost] s t
      ∧ t.pods = { s.pods with lostSince := tset 0 s.pods.lostSince w (min (tget 0 s.pods.lostSince w + 1) (2 ^ 32 - 1)) })
  ∧ (∀ (dt w since : Nat) (s u : State), u = s.tick dt → tget none u.pods.firstUnsignalled w = some since → u.rf (evrIrq w) 31 16 ≠ 0 →
    since + u.rf (evrIrq w) 31 16 * 1000 ≤ u.now →
    (w < 256 → u.rf (evrIrq w) 5 0 < u.rf (viReg w 0x1C) 6 0) →
    ∃ t : State, exec (.evrIrqTimer dt w) s = .next t ∧ tget none t.pods.firstUnsignalled w = none ∧ tget 0 t.pods.unsignalled w = 0
      ∧ tget 0 t.pods.msix (w * 64 + u.rf (evrIrq w) 5 0) = tget 0 u.pods.msix (w * 64 + u.rf (evrIrq w) 5 0) + 1
      ∧ Frame [.pods] [] u t)
  ∧ (∀ (dt w : Nat) (v : Word) (s u : State), u = s.tick dt → w ≠ secWin → u.winIgnores w = false → u.rb (evr w).ctrl 31 = false → 6 ≤ bits v.toNat 3 0 →
    u.rd64 (evr w).base % max 4096 (2 ^ bits v.toNat 3 0 * 16) = 0 → (w = pfWin → u.pods.pfQueue = []) → tget 0 u.pods.lostSince w = 0 →
    ∃ t : State, exec (.evrEnable dt w v) s = .next t ∧ t.rd (evr w).ctrl = 2 ^ 31 + bits v.toNat 3 0 ∧ t.rd (evr w).head = 0
      ∧ t.rd (evr w).tail = 0 ∧ Frame [.pods] [(evr w).ctrl, (evr w).head, (evr w).tail] u t)
  ∧ (∀ (dt w : Nat) (v : Word) (s u : State), u = s.tick dt → u.winIgnores w = false → tget 0 u.pods.lostSince w = 0 →
    ∃ t : State, exec (.evrHeadWrite dt w v) s = .next t ∧ t.rd (evr w).head = v.toNat ∧ Frame [] [(evr w).head] u t)

/-- A CREATE of a memory chunk channel whose checks all pass takes COUNT chunks, which enter ZEROING, and the channel waits as creating,
as do the entries after it in the control ring (R60); no byte of memory changes. When its zeroing ends every byte of its chunks reads 0,
local chunk DADDR/2 MiB + i of the function maps to the i-th chunk, the channel is live, CHANNEL_DONE reports OK and the handle, and no
other byte of memory changes. A draining channel of which no page is being retired, and that no running composition still reads (R93,
R193), completes, and otherwise waits: its chunks are FREE, its index is free, and the DESTROY reports OK. ZEROING_DONE of a chunk that no
channel holds and no retirement touches makes it FREE and all its bytes 0. -/
def Obligations.MemoryChannels : Prop :=
  (∀ (dt w i : Nat) (e : CtlEntry) (b : Bytes) (p : MemParams) (chunks : List Nat) (s u : State), u = s.tick dt → u.ctlWaits w 1 kMem = some e →
    e.paramLen = 16 → b.length = 16 → u.hostOk w = true → p = memParams b → u.memCreateStatus w p = .ok → u.pickIndex w kMem = some i →
    chunks = pickChunks u (u.chooseMem w p) (if u.chooseMem w p = 0 then 8192 else u.lpChunks) 0 p.count →
    ∃ t : State, exec (.createMemoryChunk dt w (some b)) s = .next t ∧ t.chan kMem i = ⟨.creating e.tag, w⟩
      ∧ tget {} t.seed.chans i = ⟨p.daddr, p.count, u.chooseMem w p, p.readOnly, chunks⟩
      ∧ (∀ c ∈ chunks, (tget {} t.seed.chunks (u.chooseMem w p * 2 ^ 20 + c)).state = 5) ∧ tget none t.pods.ctl w = some { e with begun := true }
      ∧ Frame [.pods, .seed] [grantReg w kMem 8, grantReg w (0x11 + u.chooseMem w p) 8, viReg w 0x18] u t)
  ∧ (∀ (dt w i tag : Nat) (c : MemChan) (s u : State), u = s.tick dt → u.chan kMem i = ⟨.creating tag, w⟩ → c = tget {} u.seed.chans i →
    ∃ t : State, exec (.chunkZeroDone dt i) s = .next (t.channelDone w .ok (u.handleWord kMem i) tag 1) ∧ t.chan kMem i = ⟨.live, w⟩
      ∧ (∀ k ∈ c.chunks, (∀ a, inChunk c.mem k a → tget 0 t.mem a = 0)
          ∧ (tget {} t.seed.chunks (c.mem * 2 ^ 20 + k)).state = (if w = pfWin then 3 else 2)
          ∧ (tget {} t.seed.chunks (c.mem * 2 ^ 20 + k)).owner = (if w = pfWin then 0 else w))
      ∧ (∀ n, n < c.chunks.length →
          tget {} t.seed.maps (w * 2 ^ 19 + (c.daddr / 2 ^ 21 + n)) = ⟨true, c.mem, c.chunks.getD n 0, c.readOnly⟩)
      ∧ FrameM [.pods, .seed] [] (fun a => ∃ k ∈ c.chunks, inChunk c.mem k a) (fun _ => False) u t)
  ∧ (∀ (dt w i tag : Nat) (c : MemChan) (s u : State), u = s.tick dt → u.chan kMem i = ⟨.draining tag, w⟩ → c = tget {} u.seed.chans i →
    u.retiringIn c.mem c.chunks = false → u.compReads c.mem c.chunks = false →
    ∃ t : State, exec (.chunkUnmapDrainDone dt i) s
        = .next (t.channelDone w .ok (Handle.mk kMem ((u.gen kMem i + 511) % 512) i).word tag 2)
      ∧ t.chan kMem i = {} ∧ tget {} t.seed.chans i = {}
      ∧ (∀ k ∈ c.chunks, (tget {} t.seed.chunks (c.mem * 2 ^ 20 + k)).state = 0)
      ∧ (w = pfWin → (∀ k ∈ c.chunks, ∀ a, inChunk c.mem k a → tget 0 t.mem a = 0)
          ∧ FrameM [.pods, .seed] [] (fun a => ∃ k ∈ c.chunks, inChunk c.mem k a) (fun _ => False) u t))
  ∧ (∀ (dt w i tag : Nat) (c : MemChan) (s u : State), u = s.tick dt → u.chan kMem i = ⟨.draining tag, w⟩ → c = tget {} u.seed.chans i →
    (u.retiringIn c.mem c.chunks = true ∨ u.compReads c.mem c.chunks = true) → exec (.chunkUnmapDrainDone dt i) s = .next u)
  ∧ (∀ (dt mem k : Nat) (s u : State), u = s.tick dt → u.chunkState mem k = 5 → u.retiringIn mem [k] = false →
    (∀ c ∈ u.seed.chans, ¬ (c.2.mem = mem ∧ k ∈ c.2.chunks)) →
    ∃ t : State, exec (.zeroingDone dt mem k) s = .next t ∧ (tget {} t.seed.chunks (mem * 2 ^ 20 + k)).state = 0
      ∧ (∀ a, inChunk mem k a → tget 0 t.mem a = 0) ∧ FrameM [.seed] [] (inChunk mem k) (fun _ => False) u t)

/-- The patrol scrub that meets no error moves to the next chunk, and at the end of a memory counts the pass and reports it; a correctable
error it meets is counted in MEM_CE_COUNT, an uncorrectable one is counted in MEM_UE_COUNT and its word is poisoned. PAGE_RETIRED ends a
retirement, reports it, and the persistent settings that hold the list are to be written (R95). Drift tracking of a channel in service
changes no memory and no register. In a bandwidth window the real-time class gets what it asks for within its reservation and the peak, no
class gets more than it asks for, and all together never more than the peak. A hard reservation that fits takes effect and MEM_BW_RESERVED
follows; one beyond 75 % changes nothing; class 1 is read-only; weights are held at 255. -/
def Obligations.MemoryUpkeep : Prop :=
  (∀ (dt mem n : Nat) (s u : State), u = s.tick dt → n = u.scrubLength mem → n ≠ 0 → (mem = 1 → u.rb 0x00600008 30 = true) →
    (tget 0 u.seed.scrubPos mem % n + 1 < n →
      ∃ t : State, exec (.scrubChunk dt mem []) s = .next t ∧ tget 0 t.seed.scrubPos mem = tget 0 u.seed.scrubPos mem % n + 1 ∧ Frame [.seed] [] u t)
    ∧ (tget 0 u.seed.scrubPos mem % n + 1 = n →
      ∃ t : State, exec (.scrubChunk dt mem []) s = .next (t.emitPf 0x2C .ok (mem * 2 ^ 28 + bits (t.rd 0x00600018) 27 0))
        ∧ tget 0 t.seed.scrubPos mem = 0 ∧ t.rd 0x00600018 = (u.rd 0x00600018 + 1) % 2 ^ 32 ∧ Frame [.seed] [0x00600018] u t)
    ∧ (∀ o, o < 2 ^ 21 → ∃ t : State, exec (.scrubChunk dt mem [(o, false)]) s = .next t ∧ t.rd64 0x00600020 = (u.rd64 0x00600020 + 1) % 2 ^ 64)
    ∧ (∀ o, o < 2 ^ 21 → ∃ t : State, exec (.scrubChunk dt mem [(o, true)]) s = .next t ∧ t.rd64 0x00600028 = (u.rd64 0x00600028 + 1) % 2 ^ 64
        ∧ tget false t.seed.poison ((mem * 2 ^ 60 + tget 0 u.seed.scrubPos mem % n * 2 ^ 21 + o / 8 * 8) / 8) = true))
  ∧ (∀ (dt mem page : Nat) (r : Retirement) (s u : State), u = s.tick dt →
    (u.seed.retiring.find? fun r => r.mem == mem && r.page == page) = some r →
    ∃ t : State, exec (.pageRetired dt mem page) s = .next (t.emitPf 0x2A .ok (mem * 2 ^ 28 + page))
      ∧ t.seed.retired = u.seed.retired ++ [r] ∧ (∀ q ∈ t.seed.retiring, ¬ (q.mem = mem ∧ q.page = page))
      ∧ (mem = 0 → t.rf 0x0060001C 15 0 = min (u.rf 0x0060001C 15 0 + 1) 65535 ∧ t.rf 0x0060001C 31 16 = u.rf 0x0060001C 31 16)
      ∧ (mem ≠ 0 → t.rf 0x0060001C 31 16 = min (u.rf 0x0060001C 31 16 + 1) 65535 ∧ t.rf 0x0060001C 15 0 = u.rf 0x0060001C 15 0)
      ∧ t.start = u.psetChanged.start ∧ Frame [.seed, .start] [0x0060001C] u t)
  ∧ (∀ (dt ch : Nat) (s u : State), u = s.tick dt → ch < u.lpChannels →
    ∃ t : State, exec (.lpddrDriftTrack dt ch) s = .next t ∧ tget 0 t.seed.tracked ch = u.now ∧ Frame [.seed] [] u t)
  ∧ (∀ (dt mem : Nat) (want : List Nat) (s u : State), u = s.tick dt →
    ∃ t : State, exec (.bwWindow dt mem want) s = .next t ∧ Frame [.seed] [] u t
      ∧ tget 0 t.seed.granted (mem * 8) = min (min (want.getD 0 0) (u.rf (bwKey mem 0) 15 0 * 100)) (u.peakBytes mem)
      ∧ (∀ c, c < 8 → tget 0 t.seed.granted (mem * 8 + c) ≤ want.getD c 0)
      ∧ ((List.range 8).map fun c => tget 0 t.seed.granted (mem * 8 + c)).sum ≤ u.peakBytes mem)
  ∧ (∀ (dt mem : Nat) (v : Word) (s u : State), u = s.tick dt → mem < 2 →
    (u.bwFits mem (bits v.toNat 15 0 + u.rf (bwKey mem 1) 15 0) = true →
      ∃ t : State, exec (.memBwClassWrite dt mem 0 v) s = .next t ∧ t.rf (bwKey mem 0) 15 0 = bits v.toNat 15 0
        ∧ t.rd (0x00600080 + mem * 4) = bits v.toNat 15 0 + u.rf (bwKey mem 1) 15 0 ∧ Frame [] [bwKey mem 0, 0x00600080 + mem * 4] u t)
    ∧ (u.bwFits mem (bits v.toNat 15 0 + u.rf (bwKey mem 1) 15 0) = false → exec (.memBwClassWrite dt mem 0 v) s = .next u)
    ∧ exec (.memBwClassWrite dt mem 1 v) s = .next u
    ∧ ∀ c, 2 ≤ c → c < 8 → exec (.memBwClassWrite dt mem c v) s = .next (u.wr (bwKey mem c) (min (bits v.toNat 15 0) 255)))

/-- CREATE of a layer that passes its checks makes a disabled layer bound to its pipe and path, shows owner, path and pipe in
LAYER_STATE_OWNER, counts it in the pipe's use, and completes with OK and its handle. A write of an unreferenced table word stores it
(coefficient words keep their 12-bit fields, the last word of a degamma table its low half); one that is referenced is ignored and marked;
a reserved offset stores nothing. A write of LAYER_PIPE_BG stores its 48 bits, which the next compose-start reads, and changes nothing
else. COMPOSITION_DONE of a composition that waits for nothing marks it done at this instant. CREATE of a writeback target that passes its
checks shows the target at its pipe and completes with OK; by a VI it completes with DENIED. The oldest composed frame on its way to a
target whose rows are all written signals the target's fence, counts the frame and writes WB_DONE; one that meets a fault sets the fault
bit and writes WB_FAULT; in both the frame is gone, and the next is the oldest. -/
def Obligations.LayersAndWriteback : Prop :=
  (∀ (dt w i p : Nat) (direct : Bool) (e : CtlEntry) (b : Bytes) (s u : State), u = s.tick dt → okWin w = true → u.ctlWaits w 1 kLayer = some e →
    e.paramLen = 8 → b.length = 8 → u.hostOk w = true → leNat b = p + b2n direct * 2 ^ 8 → p < u.row.pipes → u.row.pipes ≤ 16 →
    u.pipeGranted w p = true → u.pickIndex w kLayer = some i → i < 512 → ((List.range 512).countP fun j => u.layerOn p j) < 64 →
    (direct = true → (u.layersOf p true).length < 4) →
    ∃ t : State, exec (.createLayer dt w (some b)) s = .next (t.ctlDone w e .ok (u.handleWord kLayer i)) ∧ t.chan kLayer i = ⟨.live, w⟩
      ∧ t.layer i = { pipe := p, direct := direct } ∧ t.rd (layerReg i 0) = 2 ^ 31 + b2n direct * 2 ^ 30 + p * 2 ^ 16 + w
      ∧ t.rf (0x01000104 + p * 0x10) 7 0 = (u.rf (0x01000104 + p * 0x10) 7 0 + 1) % 256
      ∧ Frame [.pods, .display] [layerReg i 0, layerReg i 4, layerReg i 8, 0x01000104 + p * 0x10, grantReg w kLayer 8] u t)
  ∧ (∀ (dt addr : Nat) (r : Req) (v : Word) (s u : State), u = s.tick dt → pathWin r.path = pfWin → (∀ x, r.path ≠ .vi x) →
    (tableBit addr = none → exec (.layerTableWrite dt r addr v) s = .next u)
    ∧ ∀ i, tableBit addr = some i →
      (bit u.tableRef i = true → exec (.layerTableWrite dt r addr v) s = .next (u.raise 0x0100000C i))
      ∧ (bit u.tableRef i = false → addr < 0x01030000 → exec (.layerTableWrite dt r addr v) s = .next (u.wr addr (v.toNat &&& 0x0FFF0FFF)))
      ∧ (bit u.tableRef i = false → 0x01030000 ≤ addr →
          exec (.layerTableWrite dt r addr v) s = .next (u.wr addr (if addr % 0x1000 = 2048 then v.toNat % 2 ^ 16 else v.toNat))))
  ∧ (∀ (dt p v : Nat) (r : Req) (s u : State), u = s.tick dt → (∀ x, r.path ≠ .vi x) → p < u.row.pipes →
    ∃ t : State, exec (.layerPipeBgWrite dt r p v) s = .next t ∧ t.rd64 (0x01000108 + p * 0x10) = v % 2 ^ 48
      ∧ Frame [] [0x01000108 + p * 0x10, 0x01000108 + p * 0x10 + 4] u t)
  ∧ (∀ (dt p : Nat) (c : Composition) (hosts : List HostRun) (s u : State), u = s.tickMem dt hosts → (u.pipe p).comp = some c → c.waiting = false → c.done = false →
    ∃ (t : State) (c' : Composition), exec (.compositionDone dt p hosts) s = .next t ∧ (t.pipe p).comp = some c' ∧ c'.done = true ∧ c'.doneAt = u.now)
  ∧ (∀ (dt i p : Nat) (e : CtlEntry) (b : Bytes) (s u : State), u = s.tick dt → u.ctlWaits pfWin 1 kWb = some e → e.paramLen = 48 → b.length = 48 →
    u.wbStatus pfWin (leNat b) = .ok → u.pickIndex pfWin kWb = some i → i < 2 ^ 18 → p = bits (leNat b) 7 0 →
    ∃ t : State, exec (.createWritebackTarget dt pfWin (some b)) s = .next (t.ctlDone pfWin e .ok (u.handleWord kWb i)) ∧ t.chan kWb i = ⟨.live, pfWin⟩
      ∧ t.wbTarget p = some i ∧ tget 0 t.display.wbParams i = leNat b
      ∧ Frame [.pods, .display] [0x01000200 + p * 8, 0x01000204 + p * 8] u t)
  ∧ (∀ (dt w : Nat) (e : CtlEntry) (ext : Option Bytes) (s u : State), u = s.tick dt → w ≠ pfWin → u.ctlWaits w 1 kWb = some e →
    exec (.createWritebackTarget dt w ext) s = .next (u.ctlDone w e .denied 0))
  ∧ (∀ (dt p i par k : Nat) (f : WbFrame) (fs : List WbFrame) (s u x : State) (ok : Bool), u = s.tick dt → tget [] u.display.wbFrame p = f :: fs → i = f.target →
    par = tget 0 u.display.wbParams i → k = (f.n - 1) % max 1 (bits par 18 16) →
    (u.mDisplay fun d => { d with wbFrame := tset [] d.wbFrame p fs }).wbWrite (bits par (191 + 64 * k) (128 + 64 * k)) (bits par 63 32) f.rows
      = (ok, x) →
    (ok = true → ∃ t : State, exec (.wbFrameWritten dt p) s = .next (t.emit pfWin 0x32 .ok (t.handleWord kWb i) f.frame)
      ∧ t = (x.fenceSignal pfWin (bits par 95 64) f.n).incr (0x01000204 + p * 8))
    ∧ (ok = false → exec (.wbFrameWritten dt p) s
        = .next ((x.raise (0x01000200 + p * 8) 30).emit pfWin 0x33 .fault (x.handleWord kWb i) f.frame)))

/-- The next token written by a window that holds the pipe, with a valid list address and room for another commit, is accepted: it stands
in COMMIT_SEQ, STATE reads CHECKING and RESULT PENDING, and one commit, checking, stands behind those accepted before. Any other token is
refused with SPOOF, a port whose pipe is not granted with DENIED, one while the device refuses new work (R563, R595) with BAD_STATE, each
with STATE REFUSED, the event COMMIT_FAILED, and nothing accepted. A header that does not repeat VI, token and pipe fails the check with
SPOOF. A commit whose check fails leaves the port's list with the status reported; one whose check passes goes on to be taken. -/
def Obligations.CommitPort : Prop :=
  (∀ (dt w p : Nat) (token : Word) (s u : State), u = s.tick dt → okWin w = true → p < u.row.pipes → u.row.pipes ≤ 16 → u.winIgnores w = false →
    token.toNat = nextToken (u.rd (portReg w p 0x0C)) → u.pipeGranted w p = true → bits (u.rd64 (portReg w p 0)) 63 40 = 0 →
    u.rd64 (portReg w p 0) % 64 = 0 → u.rf (portReg w p 0x10) 2 0 ≠ 4 → u.noWork = false →
    ∃ t : State, exec (.commitToken dt w p token) s = .next t ∧ t.rd (portReg w p 0x0C) = token.toNat ∧ t.rf (portReg w p 0x10) 31 28 = 1
      ∧ t.rf (portReg w p 0x10) 22 16 = Status.pending.code
      ∧ t.display.commits = u.display.commits ++
          [⟨w, p, token.toNat, u.rd64 (portReg w p 0), (u.targets p).1, (u.targets p).2, .checking, false, 0, [], false⟩]
      ∧ Frame [.display] [portReg w p 0x0C, portReg w p 0x10] u t)
  ∧ (∀ (dt w p : Nat) (token : Word) (s u : State), u = s.tick dt → p < u.row.pipes → u.winDead w = false →
    token.toNat ≠ nextToken (u.rd (portReg w p 0x0C)) →
    exec (.commitToken dt w p token) s = .next ((u.refuseToken w p token.toNat .spoof).spoofDrop w 0x04))
  ∧ (∀ (dt w p : Nat) (token : Word) (s u : State), u = s.tick dt → p < u.row.pipes → u.winDead w = false →
    token.toNat = nextToken (u.rd (portReg w p 0x0C)) → u.pipeGranted w p = false →
    exec (.commitToken dt w p token) s = .next (u.refuseToken w p token.toNat .denied))
  ∧ (∀ (dt w p : Nat) (token : Word) (s u : State), u = s.tick dt → p < u.row.pipes → u.winDead w = false → u.noWork = true →
    token.toNat = nextToken (u.rd (portReg w p 0x0C)) → u.pipeGranted w p = true →
    exec (.commitToken dt w p token) s = .next (u.refuseToken w p token.toNat .badState))
  ∧ (∀ (u x : State) (c : Commit) (b : Bytes) (hosts : List HostRun), u.load c.w 4 hosts c.list 64 = (some b, x) →
    (bits (leNat b) 63 48 ≠ w16 c.w ∨ bits (leNat b) 31 0 ≠ c.token ∨ bits (leNat b) 47 40 ≠ c.pipe) → (u.checkCommit c hosts).2.1 = .spoof)
  ∧ (∀ (dt w p : Nat) (hosts : List HostRun) (c : Commit) (ents : List CommitEnt) (st : Status) (s u x : State), u = s.tickMem dt hosts →
    (u.display.commits.find? fun c => c.w == w && c.pipe == p && c.phase == .checking) = some c → u.checkCommit c hosts = (x, st, ents) →
    (st ≠ .ok → exec (.commitCheckDone dt w p hosts) s = .next ((x.commitFail c st (u.spoofField c hosts)).releaseWaiting hosts p)
      ∧ ∀ d ∈ (x.commitFail c st (u.spoofField c hosts)).display.commits, ¬ (d.w = c.w ∧ d.pipe = c.pipe ∧ d.token = c.token))
    ∧ (st = .ok → exec (.commitCheckDone dt w p hosts) s = .next ((x.commitPass c hosts ents).releaseWaiting hosts p)))

/-- For a pipe of the variant reached from PF BAR0 that no other world claims: a write of ENABLE to an OFF pipe that is not busy holds the
kept bits and starts the checks of an ENABLE on the held configuration; RECONFIG of a RUNNING one, with ENABLE left 1, starts those of a
RECONFIG; a write of ENABLE to a busy pipe is refused with the first code of R19, BUSY being the last (to a STOPPING one always BUSY), and
its event; to a RUNNING one it stores the kept bits; a claimed one gives CLAIMED and its event. A write of ENABLE = 0 makes a RUNNING pipe
STOPPING, and a STARTING one stop at the end of its step. When checks that fail end, RESULT and PIPE_STATE show the first status of R19
and the pipe is as before; when they pass the pipe starts or takes its new configuration. PLL_LOCKED sets the lock bit of a PLL that is
starting. A STOPPING pipe with no layers and no commits reads OFF at the end of its frame. A LUT word of a bank not in use is stored, of
one in use is ignored and marked; PLL and DSC settings are stored in their fields. -/
def Obligations.PipeRequests : Prop :=
  (∀ (dt p : Nat) (r : Req) (v : Word) (s u : State), u = s.tick dt → u.pipeReach r p = true → u.pipeClaimed p r = false →
    (u.pipeState p = 0 → u.pipeBusy p = false → ∃ t : State, exec (.pipeEnable dt r p v) s = .next t ∧ t.rd (pipeReg p 0) = (v.toNat &&& 0x33) ||| 2 ^ 31
      ∧ (t.pipe p).checks = 1 ∧ (t.pipe p).held = t.heldCfg p ∧ (t.pipe p).abandon = false ∧ Frame [.display] [pipeReg p 0] u t)
    ∧ (u.pipeState p = 2 → exec (.pipeEnable dt r p v) s = .next (u.wr (pipeReg p 0) ((v.toNat &&& 0x33) ||| 2 ^ 31)))
    ∧ (u.pipeState p ≠ 2 → u.pipeBusy p = true → exec (.pipeEnable dt r p v) s = .next (u.pipeRefuse p v.toNat false)
      ∧ (u.pipeState p = 3 → u.pipeRefuse p v.toNat false = (u.pipeResult p .busy).pipeEvent p .busy))
    ∧ (u.pipeState p = 2 → u.pipeBusy p = false → bit v.toNat 31 = true → ∃ t : State, exec (.pipeReconfig dt r p v) s = .next t ∧ t.rd (pipeReg p 0) = v.toNat &&& 0x80000033
      ∧ (t.pipe p).checks = 2 ∧ (t.pipe p).held = t.heldCfg p ∧ Frame [.display] [pipeReg p 0] u t)
    ∧ (u.pipeState p = 2 → (u.pipe p).checks = 0 → ∃ t : State, exec (.pipeDisable dt r p v) s = .next t ∧ t.pipeState p = 3
      ∧ t.rd (pipeReg p 0) = v.toNat &&& 0x33 ∧ Frame [] [pipeReg p 0, pipeReg p 4] u t)
    ∧ (u.pipeState p = 1 → (u.pipe p).checks = 0 → ∃ t : State, exec (.pipeDisable dt r p v) s = .next t ∧ t.pipeState p = 1
      ∧ (t.pipe p).stop = true ∧ Frame [.display] [pipeReg p 0] u t))
  ∧ (∀ (dt p : Nat) (r : Req) (v : Word) (s u : State), u = s.tick dt → u.pipeReach r p = true → u.pipeClaimed p r = true → u.pipeState p = 0 →
    exec (.pipeEnable dt r p v) s = .next ((u.pipeResult p .claimed).pipeEvent p .claimed))
  ∧ (∀ (dt p : Nat) (st : Status) (hosts : List HostRun) (s u x : State), u = s.tickMem dt hosts → (u.pipe p).checks ≠ 0 →
    st = byR19 (u.pipeFails p (u.pipe p).held ((u.pipe p).checks = 2) true) → x = u.mPipe p (fun ps => { ps with checks := 0, abandon := false }) →
    (st ≠ .ok → exec (.pipeChecksDone dt p hosts) s = .next ((x.pipeResult p st).pipeEvent p st) ∧ (x.pipeResult p st).pipeState p = u.pipeState p)
    ∧ (st = .ok → (u.pipe p).abandon = true → exec (.pipeChecksDone dt p hosts) s = .next ((x.pipeResult p .ok).pipeEvent p .ok))
    ∧ (st = .ok → (u.pipe p).abandon = false → (u.pipe p).checks = 1 → exec (.pipeChecksDone dt p hosts) s = .next (x.pipeStart hosts p))
    ∧ (st = .ok → (u.pipe p).abandon = false → (u.pipe p).checks = 2 → exec (.pipeChecksDone dt p hosts) s = .next (x.pipeReconf hosts p)))
  ∧ (∀ (dt j : Nat) (hosts : List HostRun) (s u : State), u = s.tickMem dt hosts → u.rb (pllReg j 0xC) 30 = true → u.rb (pllReg j 0xC) 31 = false →
    (∀ p, p < 16 → (u.pipe p).cfg.pll = j → u.pipeState p ≠ 1) → j < 8 →
    exec (.pllLocked dt j hosts) s = .next (u.wb (pllReg j 0xC) 31 true))
  ∧ (∀ (dt p : Nat) (s u : State), u = s.tick dt → okPipe p = true → u.pipeState p = 3 →
    u.display.commits = [] → u.layersOf p true = [] → u.layersOf p false = [] →
    ∃ t : State, exec (.pipeStopped dt p) s = .next (t.pipeEvent p .ok) ∧ t.pipeState p = 0)
  ∧ (∀ (dt addr p bank v : Nat) (cube : Bool) (r : Req) (s u : State), u = s.tick dt → lutAt addr = some (p, cube, bank) → u.pipeReach r p = true →
    u.pipeClaimed p r = false →
    exec (.pipeLutWrite dt r addr v) s = .next (if bankUsed (u.pipe p).colour cube bank || bankUsed (u.rd (pipeReg p 0x24)) cube bank
      then u.raise (pipeReg p 0x4C) 0 else u.wr64 addr (v % 2 ^ 48)))
  ∧ (∀ (dt j : Nat) (r : Req) (v : Word) (s u : State), u = s.tick dt → (∀ x, r.path ≠ .vi x) →
    (j < u.row.plls → exec (.pllWrite dt r j 0 v) s = .next (u.wr (pllReg j 0) (v.toNat &&& 0x1FF))
      ∧ exec (.pllWrite dt r j 1 v) s = .next (u.wr (pllReg j 4) (v.toNat &&& 0xFFFFFF))
      ∧ exec (.pllWrite dt r j 2 v) s = .next (u.wr (pllReg j 8) (v.toNat &&& 0x07FF07FF)))
    ∧ (j < u.row.dscs → exec (.dscCfgWrite dt r j v) s = .next (u.wr (dscReg j 0) (v.toNat &&& 0xE3FF3FFF))))

/-- A plug of a port shows HPD, is reported and starts training; an unplug clears the port's status, ends its training and is reported; a
short low pulse is reported and, with the link lost, starts training; DP_RETRAIN starts training, with or without a sink. LINK_TRAINED
shows the rate and lanes reached, at most the port's limits, 1, 2 or 4 lanes, in eDP mode no 128b/132b rate (R226), or none where it
failed, and is reported. An AUX or LP command of a free port is taken and BUSY set; an unknown AUX command and a payload above 64 bytes
give BAD_PARAM; while one is served another is ignored; an LP command waits while its pipe scans active lines. When it is done BUSY clears
and RESULT shows how it ended. -/
def Obligations.Outputs : Prop :=
  (∀ (dt port : Nat) (s u : State), u = s.tick dt → port < u.row.dpPorts → u.rb (pipeReg port 0x8004) 31 = false →
    exec (.hpdPlug dt port) s = .next (((u.wb (pipeReg port 0x8004) 31 true).emitPf 0x44 .ok (port * 2 ^ 24 + 2 ^ 16)).trainStart port))
  ∧ (∀ (port : Nat) (u : State), port < 16 → port ∈ (u.trainStart port).display.training ∧ (u.trainStart port).rb (pipeReg port 0x8004) 30 = false
      ∧ (u.trainStart port).rb (pipeReg port 0x8004) 31 = u.rb (pipeReg port 0x8004) 31)
  ∧ (∀ (dt port : Nat) (s u : State), u = s.tick dt → port < u.row.dpPorts → u.row.dpPorts ≤ 16 → u.rb (pipeReg port 0x8004) 31 = true →
    (∃ t : State, exec (.hpdUnplug dt port) s = .next (t.emitPf 0x44 .ok (port * 2 ^ 24)) ∧ t.rb (pipeReg port 0x8004) 31 = false
      ∧ t.rb (pipeReg port 0x8004) 30 = false ∧ port ∉ t.display.training)
    ∧ exec (.irqHpd dt port false) s = .next (u.emitPf 0x44 .ok (port * 2 ^ 24 + 2 * 2 ^ 16))
    ∧ exec (.irqHpd dt port true) s = .next ((u.emitPf 0x44 .ok (port * 2 ^ 24 + 2 * 2 ^ 16)).trainStart port))
  ∧ (∀ (dt port : Nat) (r : Req) (v : Word) (s u : State), u = s.tick dt → (∀ x, r.path ≠ .vi x) → port < u.row.dpPorts →
    u.portClaimed 1 port r = none → exec (.dpRetrain dt r port v) s = .next (if bit v.toNat 0 then u.trainStart port else u))
  ∧ (∀ (dt port rate lanes capacity n : Nat) (ok up : Bool) (s u : State), u = s.tick dt → port < 16 → port ∈ u.display.training →
    n = laneCount (min lanes (u.rf (pipeReg port 0x8000) 2 0)) → up = (ok && n != 0) →
    ∃ (t : State) (d : Nat), exec (.linkTrained dt port ok rate lanes capacity) s = .next (t.emitPf 0x45 (if up then .ok else .fault) d)
      ∧ t.rb (pipeReg port 0x8004) 30 = up
      ∧ t.rf (pipeReg port 0x8004) 11 8 = (if up then min (min rate (u.rf (pipeReg port 0x8000) 11 8)) (if u.dpMode port = 3 then 3 else 6) else 0)
      ∧ t.rf (pipeReg port 0x8004) 2 0 = (if up then n else 0) ∧ port ∉ t.display.training)
  ∧ (∀ (dt port : Nat) (r : Req) (v : Word) (s u : State), u = s.tick dt → (∀ x, r.path ≠ .vi x) → port < u.row.dpPorts → u.portClaimed 1 port r = none →
    (u.rb (pipeReg port 0x8020) 31 = true → exec (.dpAuxCmd dt r port v) s = .next u)
    ∧ (u.rb (pipeReg port 0x8020) 31 = false → auxKnown (bits v.toNat 31 28) = false →
        exec (.dpAuxCmd dt r port v) s = .next (u.wf (pipeReg port 0x8020) 22 16 Status.badParam.code))
    ∧ (u.rb (pipeReg port 0x8020) 31 = false → auxKnown (bits v.toNat 31 28) = true →
        ∃ t : State, exec (.dpAuxCmd dt r port v) s = .next t ∧ t.rb (pipeReg port 0x8020) 31 = true ∧ tget none t.display.aux port = some v.toNat
          ∧ Frame [.display] [pipeReg port 0x8020] u t))
  ∧ (∀ (dt port cmd outcome : Nat) (rx : Bytes) (s u : State), u = s.tick dt → tget none u.display.aux port = some cmd → 1 ≤ outcome →
    ∃ t : State, exec (.auxTransactionDone dt port outcome rx) s = .next t ∧ t.rb (pipeReg port 0x8020) 31 = false ∧ t.rf (pipeReg port 0x8020) 4 0 = 0
      ∧ t.rf (pipeReg port 0x8020) 22 16 = (match outcome with | 1 => Status.fault | 2 => .busy | _ => .timeout).code
      ∧ tget none t.display.aux port = none ∧ Frame [.display] [pipeReg port 0x8020] u t)
  ∧ (∀ (dt port cmd : Nat) (b : Byte) (s u : State), u = s.tick dt → tget none u.display.aux port = some cmd → bit cmd 28 = true →
    ∃ t : State, exec (.auxTransactionDone dt port 0 [b]) s = .next t ∧ t.rb (pipeReg port 0x8020) 31 = false ∧ t.rf (pipeReg port 0x8020) 4 0 = 1
      ∧ t.rf (pipeReg port 0x8020) 22 16 = Status.ok.code ∧ t.rd (pipeReg port 0x8010) = b.toNat
      ∧ Frame [.display] [pipeReg port 0x8020, pipeReg port 0x8010] u t)
  ∧ (∀ (dt port : Nat) (r : Req) (v : Word) (s u : State), u = s.tick dt → (∀ x, r.path ≠ .vi x) → port < u.row.dsiPorts → u.portClaimed 2 port r = none →
    u.rb (pipeReg port 0xA004) 0 = false →
    (64 < bits v.toNat 15 0 → exec (.dsiCmd dt r port v) s = .next (u.wf (pipeReg port 0xA004) 22 16 Status.badParam.code))
    ∧ (bits v.toNat 15 0 ≤ 64 → ∃ t : State, exec (.dsiCmd dt r port v) s = .next t ∧ t.rb (pipeReg port 0xA004) 0 = true
        ∧ tget none t.display.lp port = some v.toNat ∧ Frame [.display] [pipeReg port 0xA004] u t))
  ∧ (∀ (dt port cmd : Nat) (ok : Bool) (reply : Bytes) (s u : State), u = s.tick dt → tget none u.display.lp port = some cmd →
    (u.dsiBusy port = true → exec (.dsiCmdDone dt port ok reply) s = .next u)
    ∧ (u.dsiBusy port = false → bit cmd 21 = false → ∃ t : State, exec (.dsiCmdDone dt port ok reply) s = .next t ∧ t.rb (pipeReg port 0xA004) 0 = false ∧ tget none t.display.lp port = none
      ∧ t.rf (pipeReg port 0xA004) 22 16 = (if ok then Status.ok else .fault).code ∧ Frame [.display] [pipeReg port 0xA004] u t))

/-- LINE_START of a pipe that scans out brings the scan to the line, which PIPE_POS.LINE shows, and writes LINE_MATCH (for line V_ACTIVE
the latch point does). LAST_ACTIVE_PIXEL sends the active lines and writes its event to the windows that ask for it. At COMPOSE_START of a
pipe that scans out what the start samples is held, and the next frame's composition begins, or waits for a commit still being checked
that belongs to it. At LINE_ZERO of a RUNNING pipe the frame number counts and position, compose-start and latch marks start again; a
STARTING one whose first frame is composed and whose clock is there runs. The LATCH_POINT of a pipe that scans out sets the frame's mark
and forgets what failed in it; of any other it only makes a move or a hand-over that waits. A direct layer that underruns is off from that
pixel, and the pipe's status shows it once; a composed layer whose fetch faults leaves the running composition, a direct one is off; a
fetch that does not fault changes nothing. PIP_FIRST_HANDOVER reserves the frame store, or reports that there is no room. REPLACE written
by the safety owner of a designated pipe is in force with the next line, and a list written with COMMIT is captured; without the right to
it nothing is captured and RESULT shows why. -/
def Obligations.Raster : Prop :=
  (∀ (dt p line : Nat) (hosts : List HostRun) (s u x : State), u = s.tickMem dt hosts → x = u.toLine hosts p line → okPipe p = true →
    u.scanning p = true → line < (u.pipe p).cfg.vTotal + (u.lockOf p).slew → line < 2 ^ 16 →
    exec (.lineStart dt p line hosts) s = .next (if line = (u.pipe p).cfg.vActive then x else x.lineMatch p line)
      ∧ x.rf (pipeReg p 0x48) 15 0 = line)
  ∧ (∀ (dt p : Nat) (hosts : List HostRun) (s u : State), u = s.tickMem dt hosts → u.scanning p = true →
    exec (.lastActivePixel dt p hosts) s = .next ((u.scanTo hosts p (u.pipe p).cfg.vActive).viewEvent p 2 0x42))
  ∧ (∀ (dt p : Nat) (hosts : List HostRun) (c : Composition) (s u v x : State), u = s.tickMem dt hosts → okPipe p = true → u.scanning p = true →
    v = (u.mPipe p fun ps => { ps with csDone := true }).toLine hosts p (u.pipe p).cs →
    (v.pipe p).next = none → (v.pipe p).spareOf = none → (v.pipe p).pipFirst = false →
    x = v.joinStores p → c = x.sampled p (x.frame p + 1) false →
    exec (.composeStart dt p hosts) s
        = .next (if x.checkHolds hosts p (x.frame p + 1) then x.mPipe p (fun ps => { ps with comp := some c }) else x.startComposition hosts p c)
      ∧ c.frame = x.frame p + 1 ∧ c.waiting = true ∧ c.bg = x.rd64 (0x01000108 + p * 0x10) ∧ c.linear = x.rb (0x01000100 + p * 0x10) 31
      ∧ (x.pipe p).csDone = true)
  ∧ (∀ (dt p : Nat) (hosts : List HostRun) (s u : State), u = s.tickMem dt hosts → okPipe p = true → u.pipeState p = 2 → (u.pipe p).next = none →
    ∃ t : State, exec (.lineZero dt p hosts) s = .next t ∧ t.frame p = (u.frame p + 1) % 2 ^ 64 ∧ t.rf (pipeReg p 0x48) 15 0 = 0
      ∧ (t.pipe p).csDone = false ∧ (t.pipe p).latchDone = false ∧ (t.pipe p).scanned = 0)
  ∧ (∀ (dt p : Nat) (hosts : List HostRun) (c : Composition) (s u : State), u = s.tickMem dt hosts → okPipe p = true → u.pipeState p = 1 →
    (u.pipe p).next = none → (u.pipe p).comp = some c → c.done = true → (u.pipe p).stop = false → u.pipePowered p = true →
    u.rb (pllReg (u.pipe p).cfg.pll 0xC) 31 = true →
    exec (.lineZero dt p hosts) s = .next (u.firstZero hosts p) ∧ (u.firstZero hosts p).pipeState p = 2
      ∧ (u.firstZero hosts p).frame p = u.nextFrame p)
  ∧ (∀ (dt p : Nat) (hosts : List HostRun) (s u t : State), u = s.tickMem dt hosts → t = u.latchPoint p hosts →
    exec (.latchPoint dt p hosts) s = .next ((t.moveDone p).pipHand p)
      ∧ (u.scanning p = true → (t.pipe p).latchDone = true ∧ (t.pipe p).offAt = [] ∧ (t.pipe p).underran = [])
      ∧ (u.scanning p = false → t = u))
  ∧ (∀ (dt slot line x p : Nat) (hosts : List HostRun) (s u v : State), u = s.tickMem dt hosts → p = (u.layer slot).pipe → okPipe p = true →
    (u.layer slot).direct = true → u.scanning p = true → (u.pipe p).directs.any (fun d => d.slot == slot) = true →
    (u.pipe p).offAt.any (fun o => o.1 == slot) = false → v = u.scanTo hosts p line →
    ∃ t : State, exec (.underrun dt slot line x hosts) s = .next t ∧ (slot, line, x) ∈ (t.pipe p).offAt ∧ slot ∈ (t.pipe p).underran
      ∧ ((v.pipe p).underran.contains slot = false → t.rb (pipeReg p 0x4C) 1 = true)
      ∧ ((v.pipe p).underran.contains slot = true → t.rb (pipeReg p 0x4C) 1 = v.rb (pipeReg p 0x4C) 1))
  ∧ (∀ (dt slot faddr line x p e : Nat) (tiles : List Nat) (hosts : List HostRun) (c : Composition) (s u : State), u = s.tickMem dt hosts →
    p = (u.layer slot).pipe → (u.layer slot).direct = false → (u.pipe p).comp = some c →
    (u.heldMaps c).peek (u.layerOwner slot) 4 hosts faddr 1 = .error e → c.waiting = false → c.done = false →
    c.layers.any (·.slot == slot) = true →
    ∃ t : State, exec (.layerFault dt slot faddr line x tiles hosts) s = .next t ∧ ∀ c', (t.pipe p).comp = some c' → ∀ d ∈ c'.layers, d.slot ≠ slot)
  ∧ (∀ (dt slot faddr line x p e : Nat) (tiles : List Nat) (hosts : List HostRun) (s u : State), u = s.tickMem dt hosts →
    p = (u.layer slot).pipe → (u.layer slot).direct = true → u.peek (u.layerOwner slot) 4 hosts faddr 1 = .error e → u.scanning p = true →
    (u.pipe p).directs.any (fun d => d.slot == slot) = true → (u.pipe p).offAt.any (fun o => o.1 == slot) = false →
    exec (.layerFault dt slot faddr line x tiles hosts) s
      = .next (((u.scanTo hosts p line).reportFault (u.layerOwner slot) clsDirect faddr).directOff p slot x line))
  ∧ (∀ (dt slot faddr line x : Nat) (b : Bytes) (tiles : List Nat) (hosts : List HostRun) (s u : State), u = s.tickMem dt hosts →
    (u.layer slot).direct = true → u.peek (u.layerOwner slot) 4 hosts faddr 1 = .ok b →
    exec (.layerFault dt slot faddr line x tiles hosts) s = .next u)
  ∧ (∀ (dt p need : Nat) (fits : Bool) (hosts : List HostRun) (s u : State), u = s.tickMem dt hosts → (u.pipe p).pipFirst = true → (u.pipe p).store = [] →
    u.husk.degraded = false → (u.stackUp 0 = true ∨ u.stackUp 1 = true) → need = scanoutNeed ((u.pipe p).cfg.pixelHz 0) (u.pipe p).cfg.bpp →
    fits = u.bwFits 0 (u.rf (bwKey 0 0) 15 0 + u.rf (bwKey 0 1) 15 0 + need - tget 0 u.seed.needs p) →
    (fits = false ∨ u.placeStore p (storeChunks (u.pipe p).cfg.hActive (u.pipe p).cfg.vActive (u.pipe p).cfg.bpp) (u.pipe p).cfg.buffers = none →
      exec (.pipFirstHandover dt p hosts) s = .next (u.emitPf 0x1A .noResource 0x0D))
    ∧ ∀ (bufs : List (List Nat)) (x z : State), fits = true →
      u.placeStore p (storeChunks (u.pipe p).cfg.hActive (u.pipe p).cfg.vActive (u.pipe p).cfg.bpp) (u.pipe p).cfg.buffers = some (bufs, x) →
      z = (x.setNeed p need).mPipe p (fun ps => { ps with store := bufs.map (fun b => { chunks := b }), front := 0, ready := none, dirty := true }) →
      exec (.pipFirstHandover dt p hosts) s
        = .next (if z.scanning p then z.startComposition hosts p (z.sampled p (z.frame p + 1) false) else z))
  ∧ (∀ (dt p : Nat) (r : Req) (on : Bool) (hosts : List HostRun) (s u : State), u = s.tickMem dt hosts →
    (u.pipShut r = true → exec (.pipReplaceWrite dt r p on hosts) s = .next u)
    ∧ (u.pipShut r = false → ∀ st, u.pipRefusal r p = some st →
        exec (.pipReplaceWrite dt r p on hosts) s = .next (u.wf (0x00308204 + p * 0x400) 22 16 st.code))
    ∧ (u.pipShut r = false → u.pipRefusal r p = none → ∃ t : State, exec (.pipReplaceWrite dt r p on hosts) s = .next t
        ∧ (u.scanning p = true → (t.pipe p).replace = some on) ∧ (u.scanning p = false → t.rb (pipeReg p 0xC000) 29 = on)))
  ∧ (∀ (dt p : Nat) (r : Req) (v : Word) (hosts : List HostRun) (s u : State), u = s.tickMem dt hosts →
    (u.pipShut r = true → exec (.pipListCommit dt r p v hosts) s = .next u)
    ∧ (u.pipShut r = false → ∀ st, u.pipRefusal r p = some st →
        exec (.pipListCommit dt r p v hosts) s = .next (u.wf (0x00308204 + p * 0x400) 22 16 st.code))
    ∧ (u.pipShut r = false → u.pipRefusal r p = none → r.path ≠ .pip → ∃ t : State, exec (.pipListCommit dt r p v hosts) s = .next t
        ∧ t.rb (0x00308204 + p * 0x400) 29 = true ∧ (tget none t.pip.captured p).isSome = true)
    ∧ (u.pipShut r = false → u.pipRefusal r p = none → r.path = .pip → ∃ t : State, exec (.pipListCommit dt r p v hosts) s = .next t
        ∧ t.rb (0x00308204 + p * 0x400) 31 = true ∧ (tget none t.pip.overrides p).isSome = true))

/-- Over the nine ASCII bytes "123456789" the settings of the spec's table give CRC-8 0x4B, CRC-16 0x29B1, CRC-32 0xCBF43926, CRC-32C
0xE3069283 and CRC-64 0x995DC9BBDF1939FA. -/
def Obligations.CheckValues : Prop :=
  (let m : Bytes := [0x31, 0x32, 0x33, 0x34, 0x35, 0x36, 0x37, 0x38, 0x39]
   crcResult 8 0xFF false (crcFeed 8 0x1D false 0xFF m) = 0x4B
    ∧ crcResult 16 0 false (crcFeed 16 0x1021 false 0xFFFF m) = 0x29B1
    ∧ crcResult 32 0xFFFFFFFF true (crcFeed 32 0x04C11DB7 true 0xFFFFFFFF m) = 0xCBF43926
    ∧ crcResult 32 0xFFFFFFFF true (crcFeed 32 0x1EDC6F41 true 0xFFFFFFFF m) = 0xE3069283
    ∧ crcResult 64 (2 ^ 64 - 1) true (crcFeed 64 0x42F0E1EBA9EA3693 true (2 ^ 64 - 1) m) = 0x995DC9BBDF1939FA)

/-- A write to a held register of a region, by a path that reaches it and whose unit is not claimed, stores its kept bits (width and
height at least 1); with the unit claimed by another world the set's RESULT shows CLAIMED. A RUNNING pipe whose set has published nothing
for two frame times, and has not said so, marks it and reports FRAME_MISSING to the PF and the safety owner. Of a data unit served through
registers, DCU_DATA feeds four bytes from bits 7 to 0 upward and DCU_DATA8 one, RESTART loads INIT, and a value below 2^W is stored; one
with a bit at W or above is refused with BAD_PARAM. DCU_CFG that widens the unit stores the setting and loads INIT. A unit that serves
contexts refuses with DENIED, its value as it was. -/
def Obligations.CheckUnits : Prop :=
  (∀ (dt addr k x m : Nat) (r : Req) (v : Word) (s u : State), u = s.tick dt → u.checkAddr r addr = some k → k % 0x1000 < 0x400 →
    regionMask (k % 0x40) = some m → u.unitIndex 0x70 ((k - 0x03C10000) / 0x1000) = some x →
    exec (.chkWrite dt r addr v) s = .next (if u.claimBlocks x (u.reqSecure r) then u.wf (setStatus ((k - 0x03C10000) / 0x1000)) 22 16 Status.claimed.code
      else u.wr k (if k % 0x40 = 8 then max 1 (bits (v.toNat &&& m) 31 16) * 2 ^ 16 + max 1 (bits (v.toNat &&& m) 15 0) else v.toNat &&& m)))
  ∧ (∀ (dt p : Nat) (s u : State), u = s.tick dt → u.pipeState p = 2 → tget 0 u.checks.published p ≠ 0 → u.rb (setStatus p) 31 = false →
    2 * (u.pipe p).cfg.vTotal * (u.pipe p).cfg.linePs ≤ (u.now + 1 - tget 0 u.checks.published p) * 1000 →
    ∃ d, d / 2 ^ 24 = p ∧ exec (.frameMissing dt p) s = .next ((u.raise (setStatus p) 31).checkEvent 0xA3 .late d))
  ∧ (∀ (dt k : Nat) (r : Req) (v : Word) (s u : State), u = s.tick dt → u.dcuOpen r k = true →
    exec (.dcuData dt r k v) s = .next (u.wr64 (dcuReg k 0x20) (crcFeed (u.dcuWidth k) (u.rd64 (dcuReg k 8)) (u.rb (dcuReg k 0) 1) (u.rd64 (dcuReg k 0x20))
      [v.extractLsb' 0 8, v.extractLsb' 8 8, v.extractLsb' 16 8, v.extractLsb' 24 8]))
    ∧ exec (.dcuData8 dt r k v) s = .next (u.wr64 (dcuReg k 0x20) (crcFeed (u.dcuWidth k) (u.rd64 (dcuReg k 8)) (u.rb (dcuReg k 0) 1) (u.rd64 (dcuReg k 0x20))
      [v.extractLsb' 0 8]))
    ∧ exec (.dcuRestart dt r k) s = .next (u.wr64 (dcuReg k 0x20) (u.rd64 (dcuReg k 0x10)))
    ∧ (∀ n x, n < 4 → exec (.dcuValueWrite dt r k n x) s
        = .next (if x < 2 ^ u.dcuWidth k then u.wr64 (dcuReg k (8 + n * 8)) x else u.wr (dcuReg k 0x3C) Status.badParam.code))
    ∧ (u.dcuWidth k < widthBits (bits v.toNat 3 2) → u.rd64 (dcuReg k 8) < 2 ^ u.dcuWidth k → u.rd64 (dcuReg k 0x10) < 2 ^ u.dcuWidth k →
        u.rd64 (dcuReg k 0x18) < 2 ^ u.dcuWidth k →
        ∃ t : State, exec (.dcuCfgWrite dt r k v) s = .next t ∧ t.rd (dcuReg k 0) = bits v.toNat 3 0 ∧ t.rd64 (dcuReg k 0x20) = u.rd64 (dcuReg k 0x10)
          ∧ Frame [] [dcuReg k 0, dcuReg k 0x20, dcuReg k 0x24] u t))
  ∧ (∀ (dt k : Nat) (r : Req) (v : Word) (s u : State), u = s.tick dt → (∀ x, r.path ≠ .vi x) → u.dcuDirect ≤ k →
    exec (.dcuData dt r k v) s = .next (u.wr (dcuReg k 0x3C) Status.denied.code)
    ∧ exec (.dcuRestart dt r k) s = .next (u.wr (dcuReg k 0x3C) Status.denied.code)
    ∧ exec (.dcuCfgWrite dt r k v) s = .next (u.wr (dcuReg k 0x3C) Status.denied.code))

/-- CREATE of a check context with a valid block makes one with reg = INIT and completes with OK. The ring ready longest, but for one
whose context still serves an entry of another ring, gets a free unit and its next entry runs in the context it is bound to; an entry out
of range completes with BAD_PARAM. FEED puts the bytes of memory through the check. FINISH without an address forms the result by R264,
resets reg to INIT and reports OK, or BAD_CRC when COMPARE is set and the result differs from ARG. SET loads ARG when it fits W and
otherwise reports BAD_PARAM; RESTART loads INIT. After FEED, SET and RESTART no entry of the context runs, and nothing but the check
units' state has changed. -/
def Obligations.CheckContexts : Prop :=
  (∀ (dt w i : Nat) (e : CtlEntry) (b : Bytes) (s u : State), u = s.tick dt → okWin w = true → u.ctlWaits w 1 kCheck = some e → e.paramLen = 32 → b.length = 32 →
    u.hostOk w = true → ctxBad (leNat b) = false → u.dcuDirect ≠ 64 → u.pickIndex w kCheck = some i →
    ∃ t : State, exec (.createCheckContext dt w (some b)) s = .next (t.ctlDone w e .ok (u.handleWord kCheck i)) ∧ t.chan kCheck i = ⟨.live, w⟩
      ∧ t.ctx i = { params := leNat b, reg := ctxInit (leNat b) } ∧ Frame [.pods, .checks] [grantReg w kCheck 8] u t)
  ∧ (∀ (dt i k : Nat) (b : Bytes) (q : List Bytes) (s u : State), u = s.tick dt →
    (u.checks.ready.find? fun k => (u.ctx (u.ringCtx k)).running.isNone) = some k → i = u.ringCtx k →
    (u.checks.ctxs.countP fun c => c.2.running.isSome) < 64 - u.dcuDirect → u.ringQueue k = b :: q →
    (entBad (leNat b) = false → ∃ t : State, exec (.checkEntryDispatch dt) s = .next t ∧ t.ctx i = { u.ctx i with running := some b, ring := k }
      ∧ t.checks.ready = u.checks.ready.filter (· != k) ∧ t.ringQueue k = q ∧ Frame [.pods, .checks] [] u t)
    ∧ (entBad (leNat b) = true → ∃ t : State, exec (.checkEntryDispatch dt) s = .next ((t.checkDone i .badParam (entTag (leNat b)) 0).ctxReady k)
      ∧ t.ringQueue k = q ∧ t.ctx i = u.ctx i ∧ Frame [.pods, .checks] [] u t))
  ∧ (∀ (dt i n : Nat) (data : Bytes) (hosts : List HostRun) (s u : State), u = s.tickMem dt hosts → u.ctxRuns i 1 = some n → bit n 8 = false →
    u.peek (u.chan kCheck i).owner 4 hosts (bits n 191 128) (bits n 63 32) = .ok data →
    ∃ t : State, exec (.chkFeed dt i hosts) s = .next t ∧ (t.ctx i).running = none
      ∧ (t.ctx i).reg = crcFeed (ctxWidth (u.ctx i).params) (ctxPoly (u.ctx i).params) (bit (u.ctx i).params 11) (u.ctx i).reg data
      ∧ Frame [.checks] [] u t)
  ∧ (∀ (dt i n res : Nat) (s u : State), u = s.tick dt → u.ctxRuns i 2 = some n → bits n 191 128 = 0 →
    res = crcResult (ctxWidth (u.ctx i).params) (ctxXor (u.ctx i).params) (bit (u.ctx i).params 10) (u.ctx i).reg →
    ∃ t : State, exec (.chkFinish dt i) s
        = .next ((t.checkDone i (if bit n 9 && res != bits n 127 64 then Status.badCrc else .ok) (entTag n) res).ctxEnd i)
      ∧ (t.ctx i).reg = ctxInit (u.ctx i).params ∧ Frame [.checks] [] u t)
  ∧ (∀ (dt i n : Nat) (s u : State), u = s.tick dt → u.ctxRuns i 3 = some n →
    (bits n 127 64 < 2 ^ ctxWidth (u.ctx i).params →
      ∃ t : State, exec (.chkSet dt i) s = .next t ∧ (t.ctx i).running = none ∧ (t.ctx i).reg = bits n 127 64 ∧ Frame [.checks] [] u t)
    ∧ (2 ^ ctxWidth (u.ctx i).params ≤ bits n 127 64 → exec (.chkSet dt i) s = .next ((u.checkDone i .badParam (entTag n) 0).ctxEnd i)))
  ∧ (∀ (dt i n : Nat) (s u : State), u = s.tick dt → u.ctxRuns i 4 = some n →
    ∃ t : State, exec (.chkRestart dt i) s = .next t ∧ (t.ctx i).running = none ∧ (t.ctx i).reg = ctxInit (u.ctx i).params
      ∧ (t.ctx i).stored = (u.ctx i).stored ∧ Frame [.checks] [] u t)

/-- CREATE of a render or compute queue that passes its checks takes a free context and TILE_INIT LPDDR chunks, shows kind, fill class,
priority and window in RENDER_CTX_OWNER and the pool in its registers, and completes with OK and the handle. A growth that is due adds one
chunk and 32 tile chunks. A token write with the next token, an aligned record address, no reserved bit and room among eight requests is
accepted, for TRANSLATE, EVICT and PUBLISH alike: the request joins the window's requests and PENDING counts them; with a wrong token it
is refused with SPOOF and no request is taken. XLATE_DONE of a TRANSLATE whose key a cache holds reports OK, writes TRANSLATED and the KEY
and signals the fence; of a record whose header cannot be read it reports FAULT; either takes the request away. The windows that have
requests are served in turn (R286): XLATE_DONE of another one changes nothing. -/
def Obligations.QueueCreation : Prop :=
  (∀ (dt w i c : Nat) (e : CtlEntry) (b : Bytes) (s u : State), u = s.tick dt → okWin w = true → e.paramLen = 16 → b.length = 16 → u.hostOk w = true →
    u.freeCtx = some c → c < 1024 → bits (leNat b) 2 0 ≠ 7 → u.grantRoom w 0x10 1 = true →
    (u.ctlWaits w 1 kCompute = some e → leNat b = bits (leNat b) 2 0 + b2n (bit (leNat b) 8) * 2 ^ 8 → u.pickIndex w kCompute = some i →
      u.grantRoom w 0x12 0 = true →
      ∃ t : State, exec (.createComputeQueue dt w (some b)) s = .next (t.ctlDone w e .ok (u.handleWord kCompute i)) ∧ t.chan kCompute i = ⟨.live, w⟩
        ∧ t.queue (chanKey kCompute i) = { ctx := c, fill := bit (leNat b) 8, prio := bits (leNat b) 2 0, lastRan := u.now }
        ∧ t.rd (ctxReg c 0) = 2 ^ 31 + 2 ^ 30 + b2n (bit (leNat b) 8) * 2 ^ 29 + bits (leNat b) 2 0 * 2 ^ 16 + w % 2 ^ 16)
    ∧ (u.ctlWaits w 1 kRender = some e → leNat b = bits (leNat b) 2 0 + bits (leNat b) 47 32 * 2 ^ 32 + bits (leNat b) 79 64 * 2 ^ 64 →
      0 < bits (leNat b) 47 32 → bits (leNat b) 47 32 ≤ bits (leNat b) 79 64 → bits (leNat b) 79 64 ≤ 1024 → u.pickIndex w kRender = some i →
      u.grantRoom w 0x12 (bits (leNat b) 47 32) = true → bits (leNat b) 47 32 ≤ u.freeChunks 1 →
      ∃ t : State, exec (.createRenderQueue dt w (some b)) s = .next (t.ctlDone w e .ok (u.handleWord kRender i)) ∧ t.chan kRender i = ⟨.live, w⟩
        ∧ (t.queue (chanKey kRender i)).ctx = c ∧ (t.queue (chanKey kRender i)).freeTiles = 32 * bits (leNat b) 47 32
        ∧ (t.queue (chanKey kRender i)).pool = pickChunks u 1 u.lpChunks 0 (bits (leNat b) 47 32)
        ∧ t.rd (ctxReg c 8) = bits (leNat b) 79 64 * 2 ^ 16 + bits (leNat b) 47 32))
  ∧ (∀ (dt q k : Nat) (s u : State), u = s.tick dt → (u.queue q).growing = true → u.poolMay q = true → pickChunks u 1 u.lpChunks 0 1 = [k] →
    ∃ t : State, exec (.tilePoolGrowth dt q) s = .next (t.poolAsk q) ∧ (t.queue q).pool = (u.queue q).pool ++ [k]
      ∧ (t.queue q).freeTiles = (u.queue q).freeTiles + 32)
  ∧ (∀ (dt w : Nat) (token : Word) (q : XlateReq) (s u : State), u = s.tick dt → u.winDead w = false → u.viHeld w = false →
    q = ⟨u.rf (xlateReg w 0x14) 1 0, u.rd64 (xlateReg w 0), token.toNat, u.rd (xlateReg w 0x10), u.rd64 (xlateReg w 0x18), u.xlateVer⟩ →
    (token.toNat = nextToken (u.rd (xlateReg w 0x0C)) → (tget [] u.render.reqs w).length < 8 → q.addr % 64 = 0 →
      u.rd (xlateReg w 0x14) < 4 →
      (q.op = 0 → ∃ t : State, exec (.translate dt w token) s = .next t ∧ tget [] t.render.reqs w = tget [] u.render.reqs w ++ [q]
        ∧ t.rd (xlateReg w 0x0C) = token.toNat ∧ t.rf (xlateReg w 0x20) 31 28 = (tget [] u.render.reqs w).length + 1
        ∧ Frame [.render] [xlateReg w 0x0C, xlateReg w 0x20] u t)
      ∧ (q.op = 1 → ∃ t : State, exec (.evict dt w token) s = .next t ∧ tget [] t.render.reqs w = tget [] u.render.reqs w ++ [q]
        ∧ t.rd (xlateReg w 0x0C) = token.toNat ∧ Frame [.render] [xlateReg w 0x0C, xlateReg w 0x20] u t)
      ∧ (q.op = 2 → w = pfWin → ∃ t : State, exec (.publish dt w token) s = .next t ∧ tget [] t.render.reqs w = tget [] u.render.reqs w ++ [q]
        ∧ t.rd (xlateReg w 0x0C) = token.toNat ∧ Frame [.render] [xlateReg w 0x0C, xlateReg w 0x20] u t))
    ∧ (token.toNat ≠ nextToken (u.rd (xlateReg w 0x0C)) → q.op = 0 →
        exec (.translate dt w token) s = .next ((u.wf (xlateReg w 0x20) 22 16 Status.spoof.code).spoofDrop w 0x04)))
  ∧ (∀ (dt w : Nat) (v : Verdict) (hosts : List HostRun) (q : XlateReq) (rest : List XlateReq) (s u : State), u = s.tickMem dt hosts →
    tget [] u.render.reqs w = q :: rest →
    u.xlateNext = some w →
    (∀ x, q.op ≠ 1 → u.load w 1 hosts q.addr 64 = (none, x) →
      exec (.xlateDone dt w v hosts) s = .next (x.xlateEnd w q rest ⟨.fault, some 2, none, 0, 0xFFFFFFFF⟩))
    ∧ (∀ h b d x y z stages, q.op = 0 → u.load w 1 hosts q.addr 64 = (some h, x) →
      x.load w 1 hosts q.addr (recordLen (bits (leNat h) 7 0)) = (some b, y) → recordBad (leNat b) = false →
      y.stageData w hosts (leNat b) (bits (leNat b) 15 8) = (stages, z) → stageBytes stages = some d → (∀ e ∈ stages, e.errors = []) →
      (z.xlateFind w (recordKey q.ver b d)).isSome = true →
      exec (.xlateDone dt w v hosts) s = .next (z.xlateEnd w q rest ⟨.ok, some 1, some (recordKey q.ver b d), 0, 0xFFFFFFFF⟩)))
  ∧ (∀ (dt w : Nat) (v : Verdict) (hosts : List HostRun) (s u : State), u = s.tickMem dt hosts → u.xlateNext ≠ some w →
    exec (.xlateDone dt w v hosts) s = .next u)
  ∧ (∀ (w : Nat) (q : XlateReq) (rest : List XlateReq) (o : XlateOut) (u x : State),
    x = ((u.mRender fun r => { r with reqs := tset [] r.reqs w rest, turn := w + 1 }).xlatePending w).xlateHeader w q.addr o →
    u.xlateEnd w q rest o = (x.fenceSignal w q.fence q.value).emit w 0x50 o.st q.fence (q.token % 2 ^ 16 * 2 ^ 16 + o.units)
      ∧ tget [] x.render.reqs w = rest ∧ x.render.turn = w + 1)

/-- A descriptor that starts at a queue and passes its checks takes effect: BIND_PIPELINE binds the translation that the record's KEY
finds, a compute one outside a pass and a graphics one that fits the open pass; BIND_RESOURCES the table to its set; BIND_INDEX,
BIND_VERTEX, PUSH, SET_VIEWPORT and SET_SCISSOR their values; a misaligned BIND_INDEX faults the queue with BAD_PARAM. When nothing else
runs or waits in the queue, BIND_INDEX, BIND_VERTEX, PUSH, SET_VIEWPORT and SET_SCISSOR change that one binding of the queue; no register
but the context's state, and no memory, changes. -/
def Obligations.RenderBindings : Prop :=
  (∀ (dt q n : Nat) (hosts : List HostRun) (b : Bytes) (e : XlateEnt) (s u v x : State), u = s.tickMem dt hosts → u.starts v q 3 n → bits n 5 0 = 0 →
    v.load (v.qOwner q) (v.qCls q) hosts (bits n 63 0) 64 = (some b, x) → bits (leNat b) 135 128 = 1 →
    x.xlateFind (x.qOwner q) (bits (leNat b) 511 256) = some e →
    ((x.queue q).openPass = none → e.compute = true →
      exec (.bindPipeline dt q hosts) s = .next ((x.mQueue q fun r => { r with cPipe := some e }).qSettle q hosts))
    ∧ (∀ p, (x.queue q).openPass = some p → e.compute = false → pipeFits e p = true →
      exec (.bindPipeline dt q hosts) s = .next ((x.mQueue q fun r => { r with gPipe := some e }).qSettle q hosts)))
  ∧ (∀ (dt q n : Nat) (hosts : List HostRun) (b : Bytes) (s u v x : State), u = s.tickMem dt hosts → u.starts v q 4 n → bits n 5 0 = 0 →
    0 < bits n 72 64 → bits n 72 64 ≤ 256 → v.load (v.qOwner q) (v.qCls q) hosts (bits n 63 0) (64 * bits n 72 64) = (some b, x) →
    (∀ i, i < bits n 72 64 → resourceBad (bits (leNat b) (512 * i + 511) (512 * i)) = false
      ∧ resourceStride (bits (leNat b) (512 * i + 511) (512 * i)) = false) →
    exec (.bindResources dt q hosts) s = .next ((x.mQueue q fun r =>
      { r with tables := tset (0, 0) r.tables (b2n (bit n 160) * 4 + bits n 81 80) (bits n 63 0, bits n 72 64) }).qSettle q hosts))
  ∧ (∀ (dt q n : Nat) (hosts : List HostRun) (s u v : State), u = s.tickMem dt hosts → (v.queue q).running = [] → v.qWaiting q = [] →
    (u.starts v q 5 n → bits n 63 0 % (if bit n 160 then 4 else 2) = 0 →
      ∃ t : State, exec (.bindIndex dt q hosts) s = .next t ∧ (t.queue q).index = some (bits n 63 0, bits n 95 64, bit n 160)
        ∧ Frame [.pods, .render] [u.qReg q 4] u t)
    ∧ (u.starts v q 5 n → bits n 63 0 % (if bit n 160 then 4 else 2) ≠ 0 →
      exec (.bindIndex dt q hosts) s = .next ((v.qFault q hosts .badParam (descCnt n)).qSettle q hosts))
    ∧ (u.starts v q 6 n → bits n 1 0 = 0 →
      ∃ t : State, exec (.bindVertex dt q hosts) s = .next t ∧ tget (0, 0) (t.queue q).vertex (bits n 99 96) = (bits n 63 0, bits n 95 64)
        ∧ Frame [.pods, .render] [u.qReg q 4] u t)
    ∧ (u.starts v q 7 n → ∃ t : State, exec (.push dt q hosts) s = .next t
        ∧ (bit n 160 = false → bits (t.queue q).pushG (128 * bits n 130 128 + 127) (128 * bits n 130 128) = bits n 127 0 ∧ (t.queue q).pushC = (u.queue q).pushC)
        ∧ (bit n 160 = true → bits (t.queue q).pushC (128 * bits n 130 128 + 127) (128 * bits n 130 128) = bits n 127 0 ∧ (t.queue q).pushG = (u.queue q).pushG)
        ∧ Frame [.pods, .render] [u.qReg q 4] u t)
    ∧ (u.starts v q 8 n → ∃ t : State, exec (.setViewport dt q hosts) s = .next t ∧ (t.queue q).viewport = some (bits n 159 0)
        ∧ Frame [.pods, .render] [u.qReg q 4] u t)
    ∧ (u.starts v q 9 n → bits n 47 32 ≤ 16384 → bits n 63 48 ≤ 16384 → scissorOut (some (bits n 63 0)) (v.queue q).openPass = false →
      ∃ t : State, exec (.setScissor dt q hosts) s = .next t ∧ (t.queue q).scissor = some (bits n 63 0) ∧ Frame [.pods, .render] [u.qReg q 4] u t))

/-- PASS_BEGIN with a record that passes its checks opens the pass: with MODE TILED, or AUTO where the history of the signature chooses
it, the pass is open and nothing is written; with MODE IMMEDIATE, LOAD takes place over the area. PASS_END with no occlusion query open
starts the rendering that is left. A DRAW, DRAW_INDEXED or DRAW_INDIRECT whose checks pass in a TILED pass with tile chunks enough takes
its chunks from the pool into the pass, adds its tiles, and runs with the limit and the bindings in force at its start; one of no vertices
or no instances runs and takes nothing; in an IMMEDIATE pass it runs. Indirect records behind a BARRIER that holds them are not read yet
(R307). A draw with no graphics pipeline bound faults with BAD_STATE. -/
def Obligations.RenderPasses : Prop :=
  (∀ (dt q n : Nat) (hosts : List HostRun) (b : Bytes) (sig : Nat) (s u v x : State), u = s.tickMem dt hosts → u.starts v q 1 n → bits n 161 160 ≠ 3 → bits n 5 0 = 0 →
    (u.queue q).pass.any (·.ended) = false → v.load (v.qOwner q) (v.qCls q) hosts (bits n 63 0) 704 = (some b, x) → byR19 (passChecks (leNat b)) = .ok →
    sig = passSig (bits (leNat b) 511 0) ((List.range 10).map (recordAtt (leNat b))) (bits n 159 128) (bits n 127 96) →
    (∀ p : Pass, bits n 161 160 = 1 ∨ (bits n 161 160 = 0 ∧
        autoImmediate ((((x.queue q).hist.find? fun e => e.1 == sig).map (·.2)).getD []) = false) →
      p = { cnt := descCnt n, header := bits (leNat b) 511 0, atts := (List.range 10).map (recordAtt (leNat b)), started := 0, immediate := false, unordered := bit n 162, sig := sig, energy := (x.queue q).energy } →
      exec (.passBegin dt q hosts) s = .next ((x.mQueue q fun r => { r with pass := some p }).qSettle q hosts))
    ∧ (∀ (p : Pass) (y : State), bits n 161 160 = 2 →
      p = { cnt := descCnt n, header := bits (leNat b) 511 0, atts := (List.range 10).map (recordAtt (leNat b)), started := 1, immediate := true, unordered := bit n 162, sig := sig, energy := (x.queue q).energy } →
      (x.mQueue q fun r => { r with pass := some p }).immediateLoad (x.qOwner q) hosts p = (true, y) →
      exec (.passBegin dt q hosts) s = .next (y.qSettle q hosts)))
  ∧ (∀ (dt q n : Nat) (hosts : List HostRun) (s u v : State), u = s.tickMem dt hosts → u.starts v q 2 n → (v.queue q).occlOpen = false →
    (v.queue q).running = [] → v.qWaiting q = [] →
    ∃ t : State, exec (.passEnd dt q hosts) s = .next t ∧ (t.queue q).running = [v.started q n []]
      ∧ (t.queue q).pass = (u.queue q).pass.map (fun p => { p with ended := true })
      ∧ Frame [.pods, .render] [u.qReg q 4] u t)
  ∧ (∀ (dt q n need : Nat) (tiles : List (Nat × Nat)) (hosts : List HostRun) (p : Pass) (s u v : State), u = s.tickMem dt hosts →
    byR19 (v.drawChecks q) = .ok → (v.queue q).pass = some p → p.ended = false → (v.queue q).running = [] → v.qWaiting q = [] →
    (p.immediate = false → need ≤ (v.queue q).freeTiles →
      (u.starts v q 0x0A n → recEmpty (bits n 127 0) = false → ∃ t : State, exec (.draw dt q need tiles hosts) s = .next t
          ∧ (t.queue q).running = [v.started q n [bits n 127 0]]
          ∧ (t.queue q).freeTiles = (u.queue q).freeTiles - need
          ∧ (t.queue q).pass = some { p with chunks := p.chunks + need, binned := true, tiles := (p.tiles ++ tiles).eraseDups }
          ∧ Frame [.pods, .render] [u.qReg q 4] u t)
      ∧ (u.starts v q 0x0B n → recEmpty (bits n 159 0) = false → ∃ t : State, exec (.drawIndexed dt q need tiles hosts) s = .next t
          ∧ (t.queue q).running = [v.started q n [bits n 159 0]]
          ∧ (t.queue q).freeTiles = (u.queue q).freeTiles - need
          ∧ (t.queue q).pass = some { p with chunks := p.chunks + need, binned := true, tiles := (p.tiles ++ tiles).eraseDups }
          ∧ Frame [.pods, .render] [u.qReg q 4] u t))
    ∧ (p.immediate = true →
      (u.starts v q 0x0A n → recEmpty (bits n 127 0) = false → ∃ t : State, exec (.draw dt q need tiles hosts) s = .next t
          ∧ (t.queue q).running = [v.started q n [bits n 127 0]]
          ∧ (t.queue q).pass = some p ∧ Frame [.pods, .render] [u.qReg q 4] u t)
      ∧ (u.starts v q 0x0B n → recEmpty (bits n 159 0) = false → ∃ t : State, exec (.drawIndexed dt q need tiles hosts) s = .next t
          ∧ (t.queue q).running = [v.started q n [bits n 159 0]]
          ∧ (t.queue q).pass = some p ∧ Frame [.pods, .render] [u.qReg q 4] u t)))
  ∧ (∀ (dt q n need : Nat) (tiles : List (Nat × Nat)) (hosts : List HostRun) (p : Pass) (s u v : State), u = s.tickMem dt hosts →
    byR19 (v.drawChecks q) = .ok → (v.queue q).pass = some p → p.ended = false → (v.queue q).running = [] → v.qWaiting q = [] →
    u.starts v q 0x0A n → recEmpty (bits n 127 0) = true →
    ∃ t : State, exec (.draw dt q need tiles hosts) s = .next t ∧ (t.queue q).running = [v.started q n [bits n 127 0]] ∧ (t.queue q).pass = some p
      ∧ (t.queue q).freeTiles = (u.queue q).freeTiles ∧ Frame [.pods, .render] [u.qReg q 4] u t)
  ∧ (∀ (dt q n need : Nat) (tiles : List (Nat × Nat)) (hosts : List HostRun) (b : Bytes) (s u v x : State), u = s.tickMem dt hosts → u.starts v q 0x0C n →
    u.indirectHeld q = false → byR19 (v.drawChecks q) = .ok → bits n 1 0 = 0 → bits n 97 96 = 0 → (if bit n 160 then 20 else 16) ≤ bits n 127 96 → bits n 95 64 ≤ 65535 →
    v.load (v.qOwner q) (v.qCls q) hosts (bits n 63 0) (indirectLen n) = (some b, x) →
    exec (.drawIndirect dt q need tiles hosts) s = .next ((x.drawStart q need tiles hosts n
      ((List.range (bits n 95 64)).map fun i => leNat b / 2 ^ (8 * i * bits n 127 96) % 2 ^ (8 * indirectRec n))).qSettle q hosts))
  ∧ (∀ (dt q need : Nat) (tiles : List (Nat × Nat)) (hosts : List HostRun) (s u : State), u = s.tickMem dt hosts → u.indirectHeld q = true →
    exec (.drawIndirect dt q need tiles hosts) s = .next u ∧ exec (.dispatchIndirect dt q hosts) s = .next u)
  ∧ (∀ (dt q n need : Nat) (tiles : List (Nat × Nat)) (hosts : List HostRun) (s u v : State), u = s.tickMem dt hosts → u.starts v q 0x0A n →
    (v.queue q).gPipe = none → scissorOut (v.queue q).scissor (v.queue q).openPass = false →
    exec (.draw dt q need tiles hosts) s = .next ((v.qFault q hosts .badState (descCnt n)).qSettle q hosts))

/-- At a queue where nothing else runs or waits: a DISPATCH with a compute pipeline bound and sizes up to 65,535, a DISPATCH_INDIRECT
whose record holds such sizes, CLEAR, COPY and RESOLVE that pass their checks join the running work; an empty dispatch is done at once. A
BARRIER leaves the queue, since every earlier descriptor has completed. FENCE_WAIT on a value not yet signalled holds the queue, and on a
signalled one passes; when the fence reaches the value the queue goes on. FENCE_SIGNAL signals. TIMESTAMP writes device time,
OCCLUSION_BEGIN opens a query with its count 0, OCCLUSION_END closes it and writes the count, PASS_INFO writes the 16 bytes of the most
recent pass. DEADLINE sets the queue's deadline or removes it; a deadline that passes while work is left is reported and counted. -/
def Obligations.RenderWork : Prop :=
  (∀ (dt q n : Nat) (hosts : List HostRun) (s u v : State), u = s.tickMem dt hosts → (v.queue q).running = [] → v.qWaiting q = [] →
    (u.starts v q 0x0D n → byR19 (v.dispatchChecks q) = .ok → bits n 31 0 ≤ 65535 → bits n 63 32 ≤ 65535 → bits n 95 64 ≤ 65535 →
      (0 < bits n 31 0 ∧ 0 < bits n 63 32 ∧ 0 < bits n 95 64 →
        ∃ t : State, exec (.dispatch dt q hosts) s = .next t ∧ (t.queue q).running = [v.started q n []] ∧ Frame [.pods, .render] [u.qReg q 4] u t)
      ∧ (bits n 31 0 = 0 → ∃ t : State, exec (.dispatch dt q hosts) s = .next t ∧ (t.queue q).running = [] ∧ Frame [.pods, .render] [u.qReg q 4] u t))
    ∧ (u.starts v q 0x10 n → bits n 1 0 = 0 → bits n 65 64 = 0 → bits n 129 128 = 0 → rangeOut (bits n 63 0) (bits n 159 128) = false →
      rangeOut (bits n 127 64) (bits n 159 128) = false →
      ∃ t : State, exec (.copy dt q hosts) s = .next t ∧ (t.queue q).running = [v.started q n []] ∧ Frame [.pods, .render] [u.qReg q 4] u t)
    ∧ (u.starts v q 0x11 n → ∃ t : State, exec (.barrier dt q hosts) s = .next t ∧ (t.queue q).running = [] ∧ Frame [.pods, .render] [u.qReg q 4] u t)
    ∧ (u.starts v q 0x12 n → v.fenceCheck q (bits n 95 64) = [] →
      ∃ t : State, exec (.fenceWait dt q hosts) s = .next t
        ∧ (t.queue q).wait = (if v.fenceReady (v.qOwner q) (bits n 95 64) (bits n 63 0) then none else some (descCnt n, bits n 95 64, bits n 63 0))
        ∧ Frame [.pods, .render] [u.qReg q 4] u t)
    ∧ (u.starts v q 0x13 n → v.fenceCheck q (bits n 95 64) = [] →
      exec (.fenceSignal dt q hosts) s = .next (((v.passedBy q n).fenceSignal (v.qOwner q) (bits n 95 64) (bits n 63 0)).qSettle q hosts))
    ∧ (∀ y, u.starts v q 0x14 n → bits n 162 160 = 1 → bits n 63 0 % 8 = 0 →
      (v.passedBy q n).store (v.qOwner q) (v.qCls q) (bits n 63 0) (leBytes u.now 8) = (true, y) → exec (.timestamp dt q hosts) s = .next (y.qSettle q hosts))
    ∧ (u.starts v q 0x14 n → bits n 162 160 = 2 → bits n 63 0 % 8 = 0 → (v.queue q).occlOpen = false →
      ∃ t : State, exec (.occlusionBegin dt q hosts) s = .next t ∧ (t.queue q).occlOpen = true ∧ (t.queue q).occl = 0 ∧ (t.queue q).running = []
        ∧ Frame [.pods, .render] [u.qReg q 4] u t)
    ∧ (∀ y, u.starts v q 0x14 n → bits n 162 160 = 3 → bits n 63 0 % 8 = 0 → (v.queue q).occlOpen = true →
      ((v.mQueue q fun r => { r with occlOpen := false }).passedBy q n).store (v.qOwner q) (v.qCls q) (bits n 63 0) (leBytes (v.queue q).occl 8) = (true, y) →
      exec (.occlusionEnd dt q hosts) s = .next (y.qSettle q hosts))
    ∧ (∀ i y, u.starts v q 0x14 n → bits n 162 160 = 4 → bits n 63 0 % 16 = 0 → (v.queue q).info = some i →
      (v.passedBy q n).store (v.qOwner q) (v.qCls q) (bits n 63 0) (leBytes i 16) = (true, y) → exec (.passInfo dt q hosts) s = .next (y.qSettle q hosts))
    ∧ (u.starts v q 0x16 n → bit n 160 = true → bits n 127 64 = 0 → bits n 7 0 = 0 →
      ∃ t : State, exec (.deadline dt q hosts) s = .next t ∧ (t.queue q).deadline = none ∧ Frame [.pods, .render] [u.qReg q 4] u t)
    ∧ (u.starts v q 0x16 n → bit n 160 = false → bits n 7 0 < u.row.pipes → u.pipeGranted (v.qOwner q) (bits n 7 0) = true → u.pipeState (bits n 7 0) ≠ 2 →
      ∃ t : State, exec (.deadline dt q hosts) s = .next t ∧ (t.queue q).deadline = some { pipe := bits n 7 0, frame := bits n 127 64, order := u.render.deadlines }
        ∧ Frame [.pods, .render] [u.qReg q 4] u t))
  ∧ (∀ (dt q n : Nat) (hosts : List HostRun) (b : Bytes) (s u v x : State), u = s.tickMem dt hosts →
    (u.starts v q 0x0E n → u.indirectHeld q = false → byR19 (v.dispatchChecks q) = .ok → bits n 1 0 = 0 → v.load (v.qOwner q) (v.qCls q) hosts (bits n 63 0) 12 = (some b, x) →
      bits (leNat b) 31 0 ≤ 65535 → bits (leNat b) 63 32 ≤ 65535 → bits (leNat b) 95 64 ≤ 65535 →
      exec (.dispatchIndirect dt q hosts) s = .next ((x.dispatchStart q n (leNat b)).qSettle q hosts))
    ∧ (u.starts v q 0x0F n → bit n 160 = false → bits n 5 0 = 0 → bits n 73 64 = 0 → v.load (v.qOwner q) (v.qCls q) hosts (bits n 63 0) 64 = (some b, x) →
      byR19 (entryChecks (leNat b)) = .ok → exec (.clear dt q hosts) s = .next ((x.qRun q n).qSettle q hosts))
    ∧ (u.starts v q 0x15 n → bits n 5 0 = 0 → v.load (v.qOwner q) (v.qCls q) hosts (bits n 63 0) 64 = (some b, x) →
      byR19 (entryChecks (leNat b)) = .ok → exec (.resolve dt q hosts) s = .next ((x.qRun q n).qSettle q hosts)))
  ∧ (∀ (dt q c h x i : Nat) (hosts : List HostRun) (s u : State), u = s.tickMem dt hosts → (u.queue q).wait = some (c, h, x) →
    u.handleCheck (u.qOwner q) kFence h = .ok i →
    exec (.fenceWaitRelease dt q hosts) s
      = .next (if x ≤ (u.fence i).value ∨ h = 0 then (u.mQueue q fun r => { r with wait := none }).qSettle q hosts else u))
  ∧ (∀ (dt q : Nat) (d : DeadlineSt) (a : Int) (s u : State), u = s.tick dt → (u.queue q).deadline = some d → u.qDeadline q = some a → d.settled = false →
    (u.queue q).fill = false → a ≤ u.now → u.qUndone q = true →
    ∃ t : State, exec (.deadlineMissed dt q) s = .next (t.emit (u.qOwner q) 0x60 .late (u.qHandle q) (d.pipe * 2 ^ 24 + d.frame % 2 ^ 24))
      ∧ (t.queue q).deadline = some { d with settled := true, missed := true } ∧ t.rd 0x0018002C = min (u.rd 0x0018002C + 1) (2 ^ 32 - 1)
      ∧ Frame [.render] [0x0018002C] u t)

/-- When the one running descriptor of a queue completes, its effect takes place and it leaves; a COPY stores the bytes it read at its
destination. A cluster in service that no queue holds goes to the queue that ranks first and is allotted more clusters than it holds,
whose saved context is then restored; a cluster whose queue is no longer ready is left, and given on. A save that ends shows the context
as saved when it holds no cluster; a restore that ends leaves it running. A draw, or a foreground dispatch, that exceeds the watchdog
limit in force at its start (R349), in a queue below priority 7, faults the queue with TIMEOUT, is counted and reported to the PF; so does
a fill dispatch that exceeds its limit, after the ranges a dispatch writes have become unspecified; at priority 7, and before the limit,
neither happens. -/
def Obligations.RenderScheduling : Prop :=
  (∀ (dt q : Nat) (k : Work) (hosts : List HostRun) (d : Desc) (s u x : State), u = s.tickMem dt hosts → (u.queue q).running = [d] → d.done = false →
    descWork (descOp d.word) = true → u.descEffect q hosts d k = (true, x) →
    exec (.descriptorComplete dt q d.cnt k hosts) s
      = .next ((x.mQueue q fun r => { r with running := r.running.map fun e => if e.cnt = d.cnt then { e with done := true } else e }).qSettle q hosts))
  ∧ (∀ (dt q : Nat) (k : Work) (hosts : List HostRun) (b : Bytes) (d : Desc) (s u x y : State), u = s.tickMem dt hosts → (u.queue q).running = [d] → d.done = false →
    descOp d.word = 0x10 → u.load (u.qOwner q) (u.qCls q) hosts (bits d.word 63 0) (bits d.word 159 128) = (some b, x) →
    x.store (u.qOwner q) (u.qCls q) (bits d.word 127 64) b = (true, y) →
    exec (.descriptorComplete dt q d.cnt k hosts) s
      = .next ((y.mQueue q fun r => { r with running := r.running.map fun e => if e.cnt = d.cnt then { e with done := true } else e }).qSettle q hosts))
  ∧ (∀ (dt c q : Nat) (s u : State), u = s.tick dt → c ∈ u.clustersUp → tget 0 u.render.clusters c = 0 → u.nextQueue = some q →
    u.qClusters q < tget 0 u.render.allot q →
    ∃ t : State, exec (.preemptionBoundary dt c) s = .next t ∧ tget 0 t.render.clusters c = q ∧ (t.queue q).restoring = (u.queue q).saved
      ∧ (t.queue q).lastRan = u.now ∧ Frame [.render, .budget] [u.qReg q 4] u t)
  ∧ (∀ (dt c r : Nat) (s u : State), u = s.tick dt → c ∈ u.clustersUp → tget 0 u.render.clusters c = r → r ≠ 0 → u.qReady r = false →
    exec (.preemptionBoundary dt c) s = .next ((u.leaveCluster c r).giveCluster c)
    ∧ tget 0 (u.leaveCluster c r).render.clusters c = 0 ∧ ((u.leaveCluster c r).queue r).lastRan = u.now
    ∧ Frame [.render, .budget] [u.qReg r 4] u (u.leaveCluster c r))
  ∧ (∀ (dt q : Nat) (s u : State), u = s.tick dt →
    ((u.queue q).saving = true → ∃ t : State, exec (.contextSaved dt q) s = .next t ∧ (t.queue q).saving = false
      ∧ (t.queue q).saved = (u.qClusters q == 0) ∧ Frame [.render] [u.qReg q 4] u t)
    ∧ ((u.queue q).restoring = true → ∃ t : State, exec (.contextRestored dt q) s = .next t ∧ (t.queue q).restoring = false
      ∧ (t.queue q).saved = false ∧ Frame [.render] [u.qReg q 4] u t))
  ∧ (∀ (dt q cnt : Nat) (ranges : List (Nat × Nat)) (hosts : List HostRun) (d : Desc) (s u : State), u = s.tickMem dt hosts →
    ((u.queue q).running.find? fun d => d.cnt == cnt && !d.done) = some d → u.qDead q = false →
    ((u.queue q).prio ≠ 7 → descOp d.word = 0x0A ∨ descOp d.word = 0x0B ∨ descOp d.word = 0x0C ∨ descOp d.word = 0x02 →
      d.held0 + d.limit * 1000 ≤ (u.heldNow q).1 →
      ∃ t x, exec (.watchdogFired dt q cnt ranges hosts) s = .next (t.qSettle q hosts)
        ∧ t = x.emit pfWin 0x65 .timeout (x.qHandle q) (u.qOwner q % 2 ^ 16 * 2 ^ 16 + (x.queue q).ctx)
        ∧ x = (u.qFault q hosts .timeout cnt).sat 0x00180028 1)
    ∧ ((u.queue q).prio ≠ 7 → (u.queue q).fill = true → descOp d.word = 0x0D ∨ descOp d.word = 0x0E →
      d.clusterTime0 + d.limit * 1000000 < (u.heldNow q).2 →
      ∃ t x, exec (.fillLimitExpiry dt q cnt ranges hosts) s = .next (t.qSettle q hosts)
        ∧ t = x.emit pfWin 0x65 .timeout (x.qHandle q) (u.qOwner q % 2 ^ 16 * 2 ^ 16 + (x.queue q).ctx)
        ∧ x = ((u.rangesLost (u.qOwner q) ranges).qFault q hosts .timeout cnt).sat 0x00180028 1)
    ∧ ((u.queue q).prio ≠ 7 → (u.queue q).fill = false → descOp d.word = 0x0D ∨ descOp d.word = 0x0E →
      d.held0 + d.limit * 1000 ≤ (u.heldNow q).1 →
      ∃ t x, exec (.watchdogFired dt q cnt ranges hosts) s = .next (t.qSettle q hosts)
        ∧ t = x.emit pfWin 0x65 .timeout (x.qHandle q) (u.qOwner q % 2 ^ 16 * 2 ^ 16 + (x.queue q).ctx)
        ∧ x = ((u.rangesLost (u.qOwner q) ranges).qFault q hosts .timeout cnt).sat 0x00180028 1)
    ∧ ((u.heldNow q).1 < d.held0 + d.limit * 1000 → exec (.watchdogFired dt q cnt ranges hosts) s = .next u)
    ∧ ((u.heldNow q).2 ≤ d.clusterTime0 + d.limit * 1000000 → exec (.fillLimitExpiry dt q cnt ranges hosts) s = .next u)
    ∧ ((u.queue q).prio = 7 → exec (.watchdogFired dt q cnt ranges hosts) s = .next u ∧ exec (.fillLimitExpiry dt q cnt ranges hosts) s = .next u))

/-- A tick always completes. It counts one in BUDGET_TICK, remembers the power measured over the tick among the last ten, shows the use of
each of the nine classes, capped at 32 bits, in its BUDGET_CLASS register and the power of each of the 16 rails in its register, and holds
no cluster time uncounted. A missed tick enters safe budgeting: no queue is allotted a cluster, the GFX and APP domains are at point 0 and
BUDGET_STATUS.SAFE reads 1; nothing else changes, but that with the tenth in succession the budgeter reads FAULT with TIMEOUT (R608). -/
def Obligations.BudgetTick : Prop :=
  (∀ (dt : Nat) (m : BudgetIn) (s u : State), u = s.tick dt →
    ∃ t : State, exec (.budgetTick dt m) s = .next t ∧ t.rd64 0x00180010 = (u.rd64 0x00180010 + 1) % 2 ^ 64 ∧ t.budget.ticks = u.budget.ticks + 1
      ∧ t.budget.powers = ((List.range 9).foldl (fun n c => n + m.used.getD c 0) 0 :: u.budget.powers).take 10 ∧ t.budget.held = []
      ∧ (∀ c, c < 9 → t.rd (0x00180108 + c * 0x10) = min (2 ^ 32 - 1) (m.used.getD c 0))
      ∧ (∀ r, r < 16 → t.rd (0x0010A000 + r * 4) = m.rails.getD r 0 % 2 ^ 32))
  ∧ (∀ (dt : Nat) (s u : State), u = s.tick dt →
    ∃ t : State, exec (.safeBudgeting dt) s = .next t ∧ t.rb 0x0018000C 28 = true ∧ t.render.allot = [] ∧ (∀ d, 6 ≤ d → d ≤ 11 → t.point d = 0)
      ∧ (u.budget.missed < 9 → Frame [.render, .budget] [0x0018000C, domainReg 6 0xC, domainReg 7 0xC, domainReg 8 0xC, domainReg 9 0xC, domainReg 10 0xC, domainReg 11 0xC] u t)
      ∧ ∀ x, u.budget.missed = 9 → u.unitIndex 0x15 0 = some x → (u.unit x).health ≤ 1 →
          (t.unit x).health = 2 ∧ (t.unit x).lastStatus = Status.timeout.code)

/-- A write to BUDGET_CAP through the PF stores the value, no lower than the variant's lowest cap and no higher than CAP_MAX_W; with the
budgeter claimed by another world it is ignored and RESULT reads CLAIMED. Ten seconds after the first tick the derating ends and DERATED
reads 0; before that it goes on. -/
def Obligations.BudgetRegisters : Prop :=
  (∀ (dt : Nat) (r : Req) (v : Word) (s u : State), u = s.tick dt → pathWin r.path = pfWin →
    (u.budgetClaimed r = true → exec (.budgetCapWrite dt r v) s = .next (u.wf 0x0018000C 22 16 Status.claimed.code))
    ∧ (u.budgetClaimed r = false → ∃ t : State, exec (.budgetCapWrite dt r v) s = .next t ∧ Frame [] [0x00180000] u t
        ∧ u.variant.capMin ≤ t.rd 0x00180000 ∧ t.rd 0x00180000 ≤ u.row.capMaxW * 10
        ∧ (u.variant.capMin ≤ v.toNat % 65536 → v.toNat % 65536 ≤ u.row.capMaxW * 10 → t.rd 0x00180000 = v.toNat % 65536)))
  ∧ (∀ (dt f : Nat) (s u : State), u = s.tick dt → u.budget.first = some f → u.start.pset.theta ≠ 0 →
    (u.budget.derated = true → f + 10000000000 ≤ u.now →
      ∃ t : State, exec (.deratingEnd dt) s = .next t ∧ t.budget.derated = false ∧ t.rb 0x0018000C 29 = false ∧ Frame [.budget] [0x0018000C] u t)
    ∧ (u.now < f + 10000000000 → exec (.deratingEnd dt) s = .next u))

/-- With no effect in any chain, the matrix gives each output the sum over the domain's inputs of input times node gain, each rounded to
nearest with ties upward, clamped to the sample range; the outputs whose sum was clamped are those it names, and the effect states stay.
At a sample boundary of a running domain, with the matrix unit in service and no swap in progress, whose only source is one TDM port with
its clock and whose only sink is another, both in service, each channel of the sink is given the code of that value. With BYPASS a biquad
passes its input and its state is 0; a gain of 1.0 passes a sample as it is; the crossfade ends at the new value. -/
def Obligations.AudioMatrix : Prop :=
  (∀ (s : State) (hz : Nat) (b : Bank) (fx : FxSt) (xs : List (Nat × Int)) (outs : List Nat), (∀ c k, c < 768 → k < 16 → bankGet b (slotOff c k) = 0) →
    (∀ x ∈ xs, x.1 < 512) → (∀ j ∈ outs, j < 256) →
    s.matrixStep hz b fx xs outs = (outs.map fun j => (j, satS (matrixSum b xs j)), outs.filter fun j => satS (matrixSum b xs j) != matrixSum b xs j, fx, s))
  ∧ (∀ (dt d p q f n j m : Nat) (pins : List (Nat × Word)) (hosts : List HostRun) (xs : List (Nat × Int)) (s u : State), u = s.tickMem dt hosts → d < 2 → p < 8 → q < 8 →
    (u.dom d).running = true → (u.dom d).stopping = false → (u.dom d).changed = false → u.audioUp = true → u.swapState = 0 → u.audio.streams = [] →
    (u.inRuns.filter fun r => r.dom == d) = [⟨1, p, d, f, n, 0xFFFF⟩] → (u.outRuns.filter fun r => r.dom == d) = [⟨1, q, d, j, m, 0xFFFF⟩] →
    (∀ c k, c < 768 → k < 16 → bankGet u.audio.active (slotOff c k) = 0) → f + n ≤ 512 → j + m ≤ 256 → u.rb (tdmReg p 0) 30 = true ∨ u.rb (tdmReg p 8) 31 = false →
    u.unitUp 0x52 p = true → u.unitUp 0x52 q = true →
    xs = (List.range n).map (fun c =>
      (f + c, match pins.find? fun x => x.1 == f + c with | some x => codeIn (wordBits (u.rf (tdmReg p 0) 19 18)) x.2.toNat | none => 0)) →
    ∃ t : State, exec (.sampleBoundary dt d pins hosts) s = .next t
      ∧ (∀ c, c < m → tget 0 t.audio.out (j + c) = codeOut (wordBits (u.rf (tdmReg q 0) 19 18)) (satS (matrixSum u.audio.active xs (j + c))))
      ∧ t.rd64 (domReg d 8) = (if (u.dom d).fresh then 0 else (u.rd64 (domReg d 8) + 1) % 2 ^ 64) ∧ t.audio.active = u.audio.active
      ∧ (t.dom d).fresh = false)
  ∧ (∀ (r : Nat) (h : Nat × Nat × Nat × Nat) (x : Int), bit r 160 = true → biquadStep r h x = (x, (0, 0, 0, 0), false))
  ∧ (∀ x : Int, gainMul 0x10000000 x = x) ∧ (∀ (a b : Int) (l : Nat), 0 < l → fade a b l l = b)

/-- A map write that fits takes effect by the access codes of the register, and capacity is shown again; one whose run is reserved, or
past the matrix, is ignored with BAD_PARAM. Enabling a domain that passes its checks starts it, holding over until a source is locked, or
locked at once on its own clock; one that fails changes nothing but its status. Disabling stops it at its next sample boundary, where its
STATE reads 0. RATE and SRC are stored while ENABLE is 0 and refused with BAD_STATE while it is 1. A lost source of a running domain goes
to holdover and a locked one leaves it, each with DOMAIN_LOCK. A write by a requester that another world's claim shuts out reads CLAIMED.
Nothing else changes. -/
def Obligations.AudioDomains : Prop :=
  (∀ (dt k : Nat) (r : Req) (v : Word) (row : RegRow) (high : Bool) (s u x : State), u = s.tick dt → u.audioClaimed r = false → keyRow k = some (row, high) →
    x = u.wr k (accessWrite row high (u.rb audioLock 0) (u.rd k) v.toNat) →
    ((u.mapBad k (x.rd k) || runsPast x.inRuns u.row.audioIn || runsPast x.outRuns u.row.audioOut) = false →
      (runsOverlap x.inRuns || runsOverlap x.outRuns || decide (u.row.audioOut < x.unitsUsed fun d => (x.dom d).running)) = false →
      exec (.audioMapWrite dt r k v) s = .next x.capacityShow)
    ∧ ((u.mapBad k (x.rd k) || runsPast x.inRuns u.row.audioIn || runsPast x.outRuns u.row.audioOut) = true →
      exec (.audioMapWrite dt r k v) s = .next (u.audioResult .badParam)))
  ∧ (∀ (dt d n : Nat) (r : Req) (v : Word) (s u : State), u = s.tick dt → u.audioClaimed r = false → u.rb (domReg d 0) 31 = false → n = v.toNat &&& 0xBF00003F →
    bit v.toNat 31 = true →
    (u.domCheck d n = .ok → ∃ t : State, exec (.audioDomainEnable dt r d v) s = .next t ∧ t.rd (domReg d 0) = n ∧ (t.dom d).running = true
      ∧ t.rf (domReg d 4) 31 29 = (if bits n 25 24 = 0 then 6 else 4) ∧ t.rf (domReg d 4) 22 16 = Status.ok.code
      ∧ Frame [.audio] [domReg d 0, domReg d 4, 0x03000008] u t)
    ∧ (∀ st, u.domCheck d n = st → st ≠ .ok → exec (.audioDomainEnable dt r d v) s = .next (u.domResult d st)))
  ∧ (∀ (dt d : Nat) (r : Req) (v : Word) (s u : State), u = s.tick dt → u.audioClaimed r = false →
    (u.rb (domReg d 0) 31 = true → bit v.toNat 31 = false →
      ∃ t : State, exec (.audioDomainDisable dt r d v) s = .next t ∧ t.rb (domReg d 0) 31 = false ∧ (t.dom d).stopping = true ∧ Frame [.audio] [domReg d 0, domReg d 4] u t)
    ∧ (u.rb (domReg d 0) 31 = false → bit v.toNat 31 = false →
      ∃ t : State, exec (.audioDomCtrlWrite dt r d v) s = .next t ∧ t.rd (domReg d 0) = v.toNat &&& 0x3F00003F ∧ Frame [] [domReg d 0] u t)
    ∧ (u.rb (domReg d 0) 31 = true → bit v.toNat 31 = true → v.toNat &&& 0x3F00003F ≠ u.rd (domReg d 0) &&& 0x3F00003F →
      exec (.audioDomCtrlWrite dt r d v) s = .next (u.domResult d .badState)))
  ∧ (∀ (dt k d : Nat) (r : Req) (v : Word) (s u : State), u = s.tick dt → u.audioClaimed r = true →
    exec (.audioMapWrite dt r k v) s = .next (u.audioResult .claimed) ∧ exec (.audioDomainEnable dt r d v) s = .next (u.audioResult .claimed)
    ∧ exec (.audioDomainDisable dt r d v) s = .next (u.audioResult .claimed) ∧ exec (.audioDomCtrlWrite dt r d v) s = .next (u.audioResult .claimed))
  ∧ (∀ (dt d : Nat) (pins : List (Nat × Word)) (hosts : List HostRun) (s u : State), u = s.tickMem dt hosts → (u.dom d).running = true → (u.dom d).stopping = true →
    ∃ t : State, exec (.sampleBoundary dt d pins hosts) s = .next t ∧ (t.dom d).running = false ∧ t.rf (domReg d 4) 31 29 = 0
      ∧ Frame [.audio] [domReg d 4, 0x03000008, bankStatus] u t)
  ∧ (∀ (dt d : Nat) (ppm : Word) (s u : State), u = s.tick dt → (u.dom d).running = true → u.rf (domReg d 0) 25 24 ≠ 0 →
    (u.rb (domReg d 4) 29 = false → ∃ t : State, exec (.audioSourceLost dt d) s = .next (t.domLockEvent d false) ∧ t.rb (domReg d 4) 30 = false
      ∧ t.rb (domReg d 4) 29 = true ∧ t.rf (domReg d 4) 15 0 = u.rf (domReg d 4) 15 0 ∧ Frame [] [domReg d 4] u t)
    ∧ (u.rb (domReg d 4) 30 = false → ∃ t : State, exec (.domainLock dt d ppm) s = .next (t.domLockEvent d true) ∧ t.rb (domReg d 4) 30 = true
      ∧ t.rb (domReg d 4) 29 = false ∧ t.rf (domReg d 4) 15 0 = bits ppm.toNat 15 0 ∧ Frame [] [domReg d 4] u t))

/-- GO with STATE IDLE starts the check: STATE reads CHECK with RESULT PENDING and the crossfade length is held at 256; with STATE not
IDLE it is refused with BUSY. A check that fails leaves STATE IDLE with BAD_PARAM and names the first failing item in SWAP_FAILED; one
that passes, with no new player record, arms the changeover, and goes straight to the copy when no domain runs. The end of the copy puts
the shadow bank in force, toggles ACTIVE, counts the swap and reports SWAP_DONE. A path whose node is not 0 shows the latency of its
source, its chains, the matrix and its sink; any other shows none. A trigger is taken at the next boundary, unless the player is BAD; a
stopped player plays nothing. -/
def Obligations.AudioSwaps : Prop :=
  (∀ (dt : Nat) (r : Req) (v : Word) (s u : State), u = s.tick dt → u.audioClaimed r = false → bit v.toNat 31 = true →
    (u.swapState = 0 → ∃ t : State, exec (.audioSwapGo dt r v) s = .next t ∧ t.swapState = 1 ∧ t.rf bankStatus 22 16 = Status.pending.code
      ∧ t.rb bankStatus 31 = u.rb bankStatus 31 ∧ t.audio.soft = min 256 (bits v.toNat 8 0) ∧ t.audio.active = u.audio.active
      ∧ t.audio.shadow = u.audio.shadow ∧ Frame [.audio] [bankStatus] u t)
    ∧ (u.swapState ≠ 0 → exec (.audioSwapGo dt r v) s = .next (u.wf bankStatus 22 16 Status.busy.code)))
  ∧ (∀ (dt : Nat) (hosts : List HostRun) (s u : State), u = s.tickMem dt hosts → u.swapState = 1 →
    (∀ item, u.bankCheck = some item → ∃ t : State, exec (.swapCheckDone dt hosts) s = .next (t.emitPf 0x71 .badParam item) ∧ t.swapState = 0
      ∧ t.rf bankStatus 22 16 = Status.badParam.code ∧ Frame [] [bankStatus] u t)
    ∧ (u.bankCheck = none → (∀ n, n < 64 → bankRec u.audio.active (playerOff n) 8 = bankRec u.audio.shadow (playerOff n) 8) →
      (u.runningDoms = [] → ∃ t : State, exec (.swapCheckDone dt hosts) s = .next t ∧ t.swapState = 4 ∧ t.rf bankStatus 22 16 = Status.ok.code ∧ Frame [] [bankStatus] u t)
      ∧ (∀ d, d ∈ u.runningDoms → (u.dom d).changed = false → ∃ t : State, exec (.swapCheckDone dt hosts) s = .next t ∧ t.swapState = 2
        ∧ t.rf bankStatus 22 16 = Status.ok.code ∧ Frame [] [bankStatus] u t)))
  ∧ (∀ (dt : Nat) (s u : State), u = s.tick dt → u.swapState = 4 →
    ∃ t : State, exec (.swapDone dt) s = .next (t.emitPf 0x70 .ok (t.rd 0x03000018 % 2 ^ 16)) ∧ t.audio.active = u.audio.shadow ∧ t.audio.shadow = u.audio.shadow
      ∧ t.swapState = 0 ∧ t.rb bankStatus 31 = !u.rb bankStatus 31 ∧ t.rd 0x03000018 = (u.rd 0x03000018 + 1) % 2 ^ 32
      ∧ Frame [.audio] [bankStatus, 0x03000018] u t)
  ∧ (∀ (dt i j : Nat) (r : Req) (v : Word) (a c : MapRun) (s u : State), u = s.tick dt → u.audioClaimed r = false → i = bits v.toNat 9 0 → j = bits v.toNat 24 16 →
    runOf u.inRuns i = some a → runOf u.outRuns j = some c → i < 512 → j < 256 →
    (bankGet u.audio.active (nodeOff i j) ≠ 0 →
      ∃ t : State, exec (.audioPathSelWrite dt r v) s = .next t
        ∧ t.rf 0x03000020 19 0 = (edgeLatency a.kind + u.chainLatency u.audio.active i + 1 + u.chainLatency u.audio.active (512 + j) + edgeLatency c.kind) % 2 ^ 20
        ∧ t.rb 0x03000020 31 = true ∧ Frame [] [0x0300001C, 0x03000020] u t)
    ∧ (bankGet u.audio.active (nodeOff i j) = 0 →
      ∃ t : State, exec (.audioPathSelWrite dt r v) s = .next t ∧ t.rd 0x03000020 = 0 ∧ Frame [] [0x0300001C, 0x03000020] u t))
  ∧ (∀ (dt n : Nat) (r : Req) (s u : State), u = s.tick dt → u.audioClaimed r = false → (u.player n).bad = false →
    (∃ t : State, exec (.playerTrigger dt r n) s = .next t ∧ (t.player n).trig = true ∧ (t.player n).playing = (u.player n).playing ∧ Frame [.audio] [] u t)
    ∧ (∃ t : State, exec (.playerStop dt r n) s = .next t ∧ (t.player n).playing = false ∧ (t.player n).trig = false ∧ t.rd (playerReg n 4) = 0
        ∧ Frame [.audio] [playerReg n 4] u t))
  ∧ (∀ (dt n : Nat) (r : Req) (s u : State), u = s.tick dt → u.audioClaimed r = false → (u.player n).bad = true →
    exec (.playerTrigger dt r n) s = .next u)

/-- A CREATE of a stream that passes its checks takes its index and the lowest run of free numbers, with its slot registers 0, its ring's
next entry waiting behind it; it goes on at once when no swap is in progress and otherwise waits. When STATE becomes IDLE the channel is
live, CHANNEL_DONE reports OK and STREAM_MAP names the run. RUN = 1 starts a stream, whose first frame comes PERIOD samples later. A slave
port's lost frame clock sets its flag and the returned one clears it. SWR_CMD is taken with RESULT PENDING; its end reads OK with the
byte, or TIMEOUT for a peripheral that is not attached; a peripheral that attaches is shown. A talker's interval forms one packet from the
captured frames, with the presentation time; a listener without packets is reported and outputs 0. -/
def Obligations.AudioStreams : Prop :=
  (∀ (dt w i a p : Nat) (e : CtlEntry) (b : Bytes) (s u : State), u = s.tick dt → okWin w = true → e.paramLen = 32 → b.length = 32 → u.hostOk w = true →
    p = leNat b → (∀ c ∈ u.audio.streams, ¬ (u.streamOwner c.1 = w ∧ stSlot c.2.params = stSlot p)) →
    bits p 143 136 = 0 → bits p 127 16 = 0 → bits p 7 1 = 0 → stRing p % 256 = 0 → 64 ≤ stFrames p → stFrames p ≤ 1048576 → 16 ≤ stPeriod p →
    stPeriod p ≤ 4096 → 2 * stPeriod p ≤ stFrames p → stSlot p ≤ 63 → stFormat p ≤ 2 → 0 < stChannels p → stChannels p ≤ 8 →
    (u.ctlWaits w 1 kStreamIn = some e → u.pickIndex w kStreamIn = some i → freeRun u.inRuns (stChannels p) u.row.audioIn = some a →
      ∃ t : State, exec (.createAudioStreamIn dt w (some b)) s = .next (if u.swapState = 0 then t.streamReady (chanKey kStreamIn i) e.tag else t)
        ∧ t.chan kStreamIn i = ⟨.creating e.tag, w⟩ ∧ t.stream (chanKey kStreamIn i) = { params := p, base := a, waiting := true }
        ∧ tget none t.pods.ctl w = some { e with begun := true }
        ∧ Frame [.audio, .pods] [0x03000008, grantReg w kStreamIn 8, streamReg w (stSlot p) 0, streamReg w (stSlot p) 4, streamReg w (stSlot p) 8, streamReg w (stSlot p) 12] u t)
    ∧ (u.ctlWaits w 1 kStreamOut = some e → u.pickIndex w kStreamOut = some i → freeRun u.outRuns (stChannels p) u.row.audioOut = some a →
      ((u.dom (stDomain p)).running = true →
        u.unitsUsed (fun d => (u.dom d).running) + stChannels p * u.outUnits (stDomain p) ≤ u.row.audioOut) →
      ∃ t : State, exec (.createAudioStreamOut dt w (some b)) s = .next (if u.swapState = 0 then t.streamReady (chanKey kStreamOut i) e.tag else t)
        ∧ t.chan kStreamOut i = ⟨.creating e.tag, w⟩ ∧ t.stream (chanKey kStreamOut i) = { params := p, base := a, waiting := true }))
  ∧ (∀ (dt kind i w tag p : Nat) (x : StreamSt) (s u : State), u = s.tick dt → i < 2 ^ 18 → x = u.stream (chanKey kind i) → p = x.params → u.swapState = 0 →
    x.waiting = true → u.chan kind i = ⟨.creating tag, w⟩ →
    ∃ t : State, exec (.streamCreateSwapIdle dt (chanKey kind i)) s = .next ((t.channelDone w .ok (u.handleWord kind i) tag 1).emit pfWin 0x75 .ok (u.handleWord kind i)
          (w % 2 ^ 16 * 2 ^ 16 + b2n (kind != kStreamIn) * 2 ^ 15 + (stChannels p - 1) * 2 ^ 12 + stDomain p * 2 ^ 10 + x.base))
      ∧ t.chan kind i = ⟨.live, w⟩ ∧ (t.stream (chanKey kind i)).waiting = false ∧ t.audio.active = u.audio.active ∧ Frame [.audio, .pods] [] u t)
  ∧ (∀ (dt w sl k : Nat) (v : Word) (s u : State), u = s.tick dt → okWin w = true → sl < 64 → u.winDead w = false → u.viHeld w = false →
    u.streamBySlot w sl = some k → bit v.toNat 31 = true → u.rb (streamReg w sl 0) 31 = false →
    ∃ t : State, exec (.streamRun dt w sl v) s = .next t ∧ t.rd (streamReg w sl 0) = v.toNat &&& 0xC0000000 ∧ t.rb (streamReg w sl 12) 31 = true
      ∧ (t.stream k).wait = stPeriod (u.stream k).params ∧ (t.stream k).xrun = false
      ∧ Frame [.audio] [streamReg w sl 0, streamReg w sl 12] u t)
  ∧ (∀ (dt p : Nat) (s u : State), u = s.tick dt →
    (u.rb (tdmReg p 0) 31 = true → u.rb (tdmReg p 0) 30 = false →
      ∃ t : State, exec (.tdmClkLost dt p) s = .next t ∧ t.rb (tdmReg p 8) 31 = true ∧ Frame [] [tdmReg p 8] u t)
    ∧ ∃ t : State, exec (.tdmClkReturn dt p) s = .next t ∧ t.rb (tdmReg p 8) 31 = false ∧ Frame [] [tdmReg p 8] u t)
  ∧ (∀ (dt m : Nat) (r : Req) (v : Word) (s u : State), u = s.tick dt → u.audioClaimed r = false → tget none u.audio.swrBusy m = none →
    ∃ t : State, exec (.swrCmd dt r m v) s = .next t ∧ tget none t.audio.swrBusy m = some (v.toNat &&& 0x8F00FFFF)
      ∧ t.rf (swrReg m 8) 20 16 = Status.pending.code % 32 ∧ Frame [.audio] [swrReg m 8] u t)
  ∧ (∀ (dt m c : Nat) (byte : Byte) (s u : State), u = s.tick dt → tget none u.audio.swrBusy m = some c → bit c 31 = true →
    (bits c 27 24 < 11 → u.rb (swrReg m 8) (bits c 27 24) = true →
      ∃ t : State, exec (.swrCmdDone dt m true byte) s = .next t ∧ t.rf (swrReg m 8) 20 16 = 0 ∧ t.rd (swrReg m 16) = byte.toNat
        ∧ tget none t.audio.swrBusy m = none ∧ Frame [.audio] [swrReg m 8, swrReg m 16] u t)
    ∧ (11 ≤ bits c 27 24 ∨ u.rb (swrReg m 8) (bits c 27 24) = false →
      ∃ t : State, exec (.swrCmdDone dt m true byte) s = .next t ∧ t.rf (swrReg m 8) 20 16 = Status.timeout.code % 32
        ∧ tget none t.audio.swrBusy m = none ∧ Frame [.audio] [swrReg m 8] u t))
  ∧ (∀ (dt m k a b : Nat) (s u : State), u = s.tick dt → k < 11 → u.rb (swrReg m 0) 31 = true →
    ∃ t : State, exec (.swrPeripheralAttach dt m k true a b) s = .next t ∧ t.rb (swrReg m 8) k = true ∧ tget (0, 0) t.audio.swr (m * 16 + k) = (a, b)
      ∧ Frame [.audio] [swrReg m 8, 0x03000008] u t)
  ∧ (∀ (dt i m x : Nat) (f : List (List Nat)) (s u : State), u = s.tick dt → u.rb (avtpTx i 8) 31 = true → tget (0, []) u.audio.cap i = (x, f) → f ≠ [] →
    m = u.talkerMac i → u.rb (tsnReg m 8) 31 = true → u.talkerVi i = none →
    ∃ t : State, exec (.avtpTalkerInterval dt i) s = .next t ∧ tget (0, []) t.audio.cap i = (0, [])
      ∧ tget [] t.audio.packets i = tget [] u.audio.packets i
        ++ [⟨(x + u.rd64 (tsnReg m 0x40) + u.rd (avtpTx i 12)) % 2 ^ 64, f, none, bits (u.rd64 (tsnReg m 0x10)) 47 0, u.rd64 (avtpTx i 0)⟩])
  ∧ (∀ (dt i : Nat) (s u : State), u = s.tick dt → u.rb (avtpRx i 8) 31 = true → u.rb (avtpRx i 12) 31 = true →
    ∃ t : State, exec (.avtpStream dt i) s = .next (t.emitPf 0x79 .ok i) ∧ t.rb (avtpRx i 12) 31 = false ∧ tget [] t.audio.rx i = []
      ∧ Frame [.audio] [avtpRx i 12] u t)

/-- Enabling a stopped block whose settings pass starts it: ACTIVE reads 1, RESULT OK, and its first scan will baseline every electrode;
settings that fail leave ENABLE 0 with the status. A scan starts as a normal one, or as a hop scan when one is due, with the words in
force; one that comes while a hop scan runs is counted as skipped. At the end of a normal scan of a block with one live electrode and no
zone the scan is counted; a signal that has reached the threshold for the debounce count makes the electrode TOUCH and its baseline stays;
a smaller one leaves it IDLE and the baseline follows the reading. RELEASE_TH is stored no higher than TOUCH_TH; OWNER is stored while the
electrode is in no zone, and otherwise refused with BAD_STATE. -/
def Obligations.TouchScans : Prop :=
  (∀ (dt b n : Nat) (r : Req) (v : Word) (s u : State), u = s.tick dt → b < u.blocks → u.blkClaimed b r = false → u.rb (blkReg b 0x10) 31 = false →
    n = (v.toNat ||| 0x80000000) &&& 0xCFF307FF →
    (blkCheck n (u.rd (blkReg b 4)) (u.rd (blkReg b 8)) = .ok →
      ∃ t : State, exec (.tblkEnable dt r b v) s = .next t ∧ t.rd (blkReg b 0) = n ∧ t.rb (blkReg b 0x10) 31 = true ∧ t.rb (blkReg b 0x10) 30 = false
        ∧ t.rf (blkReg b 0x10) 22 16 = Status.ok.code ∧ (t.blk b).first = true ∧ (t.blk b).ctrl = n ∧ Frame [.panel] [blkReg b 0, blkReg b 0x10] u t)
    ∧ (∀ st, blkCheck n (u.rd (blkReg b 4)) (u.rd (blkReg b 8)) = st → st ≠ .ok →
      ∃ t : State, exec (.tblkEnable dt r b v) s = .next t ∧ t.rb (blkReg b 0) 31 = false ∧ t.rf (blkReg b 0x10) 22 16 = st.code
        ∧ t.rb (blkReg b 0x10) 31 = false ∧ Frame [] [blkReg b 0, blkReg b 0x10] u t))
  ∧ (∀ (dt b : Nat) (s u : State), u = s.tick dt → b < u.blocks → u.rb (blkReg b 0x10) 31 = true → u.unitUp 0x60 b = true →
    ((u.blk b).scan = 0 → (u.blk b).first = true → u.rb (blkReg b 0) 31 = true →
      ∃ t : State, exec (.scanStart dt b) s = .next t ∧ (t.blk b).scan = (if u.rb (blkReg b 0x10) 30 then 2 else 1) ∧ (t.blk b).ctrl = u.rd (blkReg b 0)
        ∧ (t.blk b).timing = u.rd (blkReg b 4) ∧ (∀ j, j < 32 → (t.elec (b * 32 + j)).thresh = u.rd (elReg (b * 32 + j) 4) ∧ (t.elec (b * 32 + j)).fresh = 1)
        ∧ Frame [.panel] ((blkEls b).map fun e => elReg e 0x18) u t)
    ∧ ((u.blk b).scan = 2 →
      ∃ t : State, exec (.scanStart dt b) s = .next t ∧ t.rd (blkReg b 0x24) = min (u.rd (blkReg b 0x24) + 1) (2 ^ 32 - 1) ∧ Frame [] [blkReg b 0x24] u t))
  ∧ (∀ (dt b e r ns base : Nat) (readings noise survey : List Nat) (sg : Int) (s u : State), u = s.tick dt → b < u.blocks → u.blocks ≤ 16 → (u.blk b).scan = 1 →
    (u.blk b).first = false → u.zonesOf b = [] → u.sensed b = [e] → (u.elec e).fresh = 0 → u.elState e = 0 → (u.elec e).oor = 0 → (u.elec e).exc = 0 →
    r = readings.getD (e % 32) 0 → 0 < r → r < 0xFFFFFF → base = u.rd (elReg e 0x10) → sg = elSignal (tbCharge (u.blk b).ctrl) base r →
    0 < bits (u.elec e).thresh 15 0 → u.rb (elReg e 0x18) 28 = false →
    ((bits (u.elec e).thresh 15 0 : Int) ≤ sg → tbDebounce (u.blk b).ctrl ≤ (u.elec e).up + 1 →
      ∃ t : State, exec (.scanMeasureEnd dt b readings noise survey ns) s = .next t ∧ t.elState e = 1 ∧ t.rd (elReg e 0x10) = base ∧ t.rd (elReg e 0xC) = r
        ∧ (t.elec e).touchAt = (u.blk b).startAt ∧ (t.blk b).scan = 0 ∧ t.rd64 (blkReg b 0x18) = (u.rd64 (blkReg b 0x18) + 1) % 2 ^ 64)
    ∧ (sg < bits (u.elec e).thresh 15 0 → -(bits (u.elec e).thresh 15 0 : Int) < sg →
      ∃ t : State, exec (.scanMeasureEnd dt b readings noise survey ns) s = .next t ∧ t.elState e = 0
        ∧ t.rd (elReg e 0x10) = trackBase base r (tbTrack (u.blk b).ctrl) ∧ t.rd (elReg e 0xC) = r ∧ (t.blk b).scan = 0))
  ∧ (∀ (dt e : Nat) (r : Req) (v : Word) (s u : State), u = s.tick dt → e < u.row.electrodes → u.blkClaimed (e / 32) r = false →
    (∃ t : State, exec (.telThreshWrite dt r e v) s = .next t ∧ t.rf (elReg e 4) 15 0 = bits v.toNat 15 0
      ∧ t.rf (elReg e 4) 31 16 = min (bits v.toNat 31 16) (bits v.toNat 15 0) ∧ Frame [] [elReg e 4] u t)
    ∧ (u.rb (elReg e 0x18) 26 = false →
      ∃ t : State, exec (.telCtrlWrite dt r e v) s = .next t ∧ t.rf (elReg e 0) 15 0 = bits v.toNat 15 0 ∧ t.rb (elReg e 0) 31 = bit v.toNat 31
        ∧ Frame [] [elReg e 0] u t)
    ∧ (u.rb (elReg e 0x18) 26 = true → bits v.toNat 15 0 ≠ u.rf (elReg e 0) 15 0 →
      ∃ t : State, exec (.telCtrlWrite dt r e v) s = .next t ∧ t.rf (elReg e 0) 15 0 = u.rf (elReg e 0) 15 0 ∧ t.rb (elReg e 0) 31 = bit v.toNat 31
        ∧ t.rf 0x03800008 6 0 = Status.badState.code ∧ Frame [] [elReg e 0, 0x03800008] u t))

/-- CREATE of a zone that passes its checks makes it, marks each of its electrodes IN_ZONE with its index, and completes with OK and the
handle; CREATE of a reflex binding does likewise for the binding, with no fire counted. A wake scan counts one and changes only the wake
scanner while no electrode has been touched twice. A highlight pulse that is due ends: the layer's highlight flag reads 0. A slider
between two equal signals stands midway, and one without signal has no position. -/
def Obligations.TouchZonesAndReflexes : Prop :=
  (∀ (dt w i p : Nat) (e : CtlEntry) (b : Bytes) (s u : State), u = s.tick dt → okWin w = true → e.paramLen = 40 → b.length = 40 → u.hostOk w = true → p = leNat b →
    u.ctlWaits w 1 kZone = some e → (∀ x ∈ zEls p, x < u.row.electrodes ∧ u.elOwner x = w ∧ u.rb (elReg x 0x18) 26 = false ∧ x / 32 = zEl p 0 / 32) →
    (zEls p).Nodup → zoneType p ≤ 2 → (match zoneType p with | 0 => 1 | 1 => 2 | _ => 3) ≤ zCount p → zCount p ≤ 16 → bits p 39 11 = 0 → bit p 5 = false →
    (zoneType p ≠ 1 → zStep p = 0) → (zoneType p ≠ 2 → zDetents p = 0) → (∀ k, k < 16 → zCount p ≤ k → zEl p k = 0) → u.pickIndex w kZone = some i → i < 2 ^ 18 →
    ∃ t : State, exec (.createTouchZone dt w (some b)) s = .next (t.ctlDone w e .ok (u.handleWord kZone i)) ∧ t.chan kZone i = ⟨.live, w⟩
      ∧ t.zone i = { params := p } ∧ (∀ x ∈ zEls p, t.rb (elReg x 0x18) 26 = true ∧ t.rf (elReg x 0x18) 17 0 = i)
      ∧ Frame [.panel, .pods] (grantReg w kZone 8 :: (zEls p).map fun x => elReg x 0x18) u t)
  ∧ (∀ (dt w i p z : Nat) (e : CtlEntry) (b : Bytes) (s u : State), u = s.tick dt → okWin w = true → e.paramLen = 24 → b.length = 24 → u.hostOk w = true → p = leNat b →
    u.ctlWaits w 1 kReflex = some e → u.handleCheck w kZone (rxZone p) = .ok z → canRaise (zoneType (u.zone z).params) (rxTrigger p) = true → rxTrigger p ≤ 5 →
    bits p 191 160 = 0 → bits p 143 140 = 0 → bit p 137 = false → bits p 63 40 = 0 → bits p 37 36 = 0 → rxHslot p = 0 → rxLayer p = 0 → rxHlMode p = 0 →
    rxHlMs p = 0 → rxPlayerEn p = true → rxPlayer p ≤ 63 → w = pfWin ∨ bit (u.rd64 (0x03A81000 + w * 8)) (rxPlayer p) = true → (u.bindsOf z).length < 8 →
    u.pickIndex w kReflex = some i →
    ∃ t : State, exec (.createReflexBinding dt w (some b)) s = .next (t.ctlDone w e .ok (u.handleWord kReflex i)) ∧ t.chan kReflex i = ⟨.live, w⟩
      ∧ tget 0 t.panel.binds i = p ∧ tget (0, 0) t.panel.fires i = (0, 0) ∧ Frame [.panel, .pods] [grantReg w kReflex 8] u t)
  ∧ (∀ (dt : Nat) (readings : List Nat) (s u : State), u = s.tick dt → u.row.electrodes ≠ 0 → u.rb 0x03800010 31 = true → u.domainState 21 = 0 →
    (∀ e, tget 0 u.panel.wake.count e ≠ 1) →
    ∃ t : State, exec (.wakeScan dt readings) s = .next t ∧ t.panel.wake.scans = u.panel.wake.scans + 1 ∧ Frame [.panel] [] u t
      ∧ (∀ e, e < 16 → u.rb 0x03800010 e = true → u.panel.wake.scans < 3 →
          tget 0 t.panel.wake.base e = tget 0 u.panel.wake.base e + readings.getD e 0))
  ∧ (∀ (dt i x : Nat) (s u : State), u = s.tick dt → tget none u.panel.pulses i = some x → x ≤ u.now →
    ∃ t : State, exec (.hlPulseEnd dt i) s = .next t ∧ t.rb (layerReg i 4) 24 = false ∧ tget none t.panel.pulses i = none
      ∧ Frame [.panel] [layerReg i 4] u t)
  ∧ (∀ k : Nat, 0 < k → sliderPos [k, k] = some 32768) ∧ sliderPos [0, 0] = none ∧ (∀ k : Nat, 0 < k → wheelAngle [0, k, 0] = some 21845)

/-- A write of word 7 puts the eight words of an entry into force. CREATE of a slot that passes its checks makes it, completes with OK and
its handle, and clears its registers. PLAY of a slot whose channel is idle and whose trigger is admitted is taken with RESULT OK and
counted, and starts at the next control period; on a disabled channel it reads BAD_STATE, and one that a limit refuses waits as the
channel's pending trigger, with the reason shown. The control period starts the effect that was taken, in ATTACK at full drive. STOP sends
a running effect of the slot to BRAKE, its last phase. -/
def Obligations.HapticSlots : Prop :=
  (∀ (dt k : Nat) (r : Req) (v : Word) (s u : State), u = s.tick dt → (∀ x, r.path ≠ .vi x) →
    ∃ t : State, exec (.hapLibCommit dt r k v) s = .next t
      ∧ (∀ j, j < 7 → bits (tget 0 t.panel.lib k) (32 * j + 31) (32 * j) = u.rd (0x03A10000 + k * 0x20 + j * 4))
      ∧ bits (tget 0 t.panel.lib k) 255 224 = v.toNat ∧ Frame [.panel] [0x03A10000 + k * 0x20 + 0x1C] u t)
  ∧ (∀ (dt w i p : Nat) (e : CtlEntry) (b : Bytes) (s u : State), u = s.tick dt → okWin w = true → e.paramLen = 8 → b.length = 8 → u.hostOk w = true → p = leNat b →
    u.ctlWaits w 1 kHslot = some e → hsChannel p < u.row.haptics → u.rf (hapReg (hsChannel p) 0) 15 0 = w → hsGain p ≤ 32768 → bits p 47 21 = 0 →
    (∀ q ∈ u.panel.slots, u.hslotOwner q.1 = w → hsSet q.2 ≠ hsSet p) → u.pickIndex w kHslot = some i →
    ∃ t : State, exec (.createHapticEffectSlot dt w (some b)) s
        = .next (((t.ctlDone w e .ok (u.handleWord kHslot i)).wr (hslotReg w (hsSet p) 0) 0).wr (hslotReg w (hsSet p) 4) 0)
      ∧ t.chan kHslot i = ⟨.live, w⟩ ∧ t.hslot i = p ∧ Frame [.panel, .pods] [grantReg w kHslot 8] u t)
  ∧ (∀ (dt w k i c e : Nat) (s u : State), u = s.tick dt → okWin w = true → k < 32 → u.winDead w = false → u.viHeld w = false → u.hslotBy w k = some i →
    c = hsChannel (u.hslot i) → e = tget 0 u.panel.lib (hsEntry (u.hslot i)) →
    (u.hapState c = 0 → exec (.hslotPlay dt w k) s = .next (u.hslotResult i .badState))
    ∧ (u.hapState c = 1 → hapEntryBad e (u.rb (hapReg c 0) 28) = false → u.hapRefusal c e = 0 →
      ∃ t : State, exec (.hslotPlay dt w k) s = .next t ∧ (t.hap c).next = some ⟨i, e, hsGain (u.hslot i)⟩ ∧ t.rf (hslotReg w k 4) 22 16 = Status.ok.code
        ∧ t.rd (hapReg c 0x34) = min (u.rd (hapReg c 0x34) + 1) (2 ^ 32 - 1) ∧ Frame [.panel] [hapReg c 0x34, hslotReg w k 4] u t)
    ∧ (u.hapState c = 1 → hapEntryBad e (u.rb (hapReg c 0) 28) = false → u.hapRefusal c e ≠ 0 → u.rf (hapReg c 8) 23 16 ≠ 0 →
      ∃ t : State, exec (.hslotPlay dt w k) s = .next t ∧ (t.hap c).pend = some (i, u.now) ∧ t.rf (hslotReg w k 4) 22 16 = Status.throttled.code)
    ∧ (u.hapState c = 4 → (u.hap c).run.slot = i → (u.hap c).next = none →
      ∃ t : State, exec (.hslotStop dt w k) s = .next t ∧ t.hapState c = 5 ∧ (t.hap c).left = 0 ∧ (t.hap c).phaseAt = u.now
        ∧ Frame [.panel] [hapReg c 0x20, hapReg c 0x30] u t))
  ∧ (∀ (dt c amp freq : Nat) (e : HapEffect) (s u : State), u = s.tick dt → c < u.row.haptics → u.hapState c = 1 → (u.hap c).next = some e → e.entry = tget 0 u.panel.lib (hsEntry (u.hslot e.slot)) →
    (u.hap c).runFrom = none → 0 < u.rf (hapReg c 8) 15 0 → leNoBoost e.entry = false → 0 < leAttack e.entry → amp * 16 < leAmp e.entry * e.gain / 32768 * 15 →
    ∃ t : State, exec (.hapControlPeriod dt c amp freq) s = .next t ∧ t.hapState c = 3 ∧ (t.hap c).run = e ∧ (t.hap c).next = none ∧ (t.hap c).drive = u.hapVmax c
      ∧ (t.hap c).left = leRepeat e.entry ∧ (t.hap c).phaseAt = u.now ∧ Frame [.panel, .recs] [hapReg c 0x20, hapReg c 0x28, hapReg c 0x30] u t)

/-- Enabling a channel whose fields pass makes it IDLE, cool, with RESULT OK; disabling makes it OFF. HAP_CMD.STOP brakes what runs with
OK; CAL of an idle channel starts a calibration, else BUSY. A calibration that measures stores its result and reports CAL_DONE with OK;
one that fails leaves the channel in FAULT. A short puts a channel in FAULT and is reported; a good accelerometer read is kept, the third
failure in a row is reported. A bin that ends joins the window. A pending trigger that waited out is dropped with HAPTIC_DROPPED; a rest
that ends leaves the channel IDLE; the coil model moves dT toward its goal and shows T_coil. -/
def Obligations.HapticChannels : Prop :=
  (∀ (dt c : Nat) (r : Req) (v : Word) (s u x : State), u = s.tick dt → c < u.row.haptics → u.claimedFor 0x61 c r = false → x = u.hapFields c v.toNat →
    (u.rb (hapReg c 0) 31 = false → x.rf (hapReg c 0) 30 29 ≤ 1 → x.rf (hapReg c 0) 27 26 = 0 ∨ x.rf (hapReg c 0) 27 26 = 2 →
      ∃ t : State, exec (.hapEnable dt r c v) s = .next t ∧ t.rb (hapReg c 0) 31 = true ∧ t.hapState c = 1 ∧ (t.hap c).heat = 0 ∧ (t.hap c).hot = false
        ∧ (t.hap c).next = none ∧ t.rf (hapReg c 0x20) 22 16 = Status.ok.code ∧ Frame [.panel, .recs] [hapReg c 0, hapReg c 0x20, hapReg c 0x30] x t)
    ∧ (u.rb (hapReg c 0) 31 = true →
      ∃ t : State, exec (.hapDisable dt r c v) s = .next t ∧ t.rb (hapReg c 0) 31 = false ∧ t.hapState c = 0 ∧ (t.hap c).drive = 0 ∧ (t.hap c).next = none
        ∧ Frame [.panel, .recs] [hapReg c 0, hapReg c 0x20, hapReg c 0x30] x t)
    ∧ (u.rb (hapReg c 0) 31 = false → u.hapNamed c = false → x.rf (hapReg c 0) 15 0 = bits v.toNat 15 0 ∧ x.rf (hapReg c 0) 30 26 = bits v.toNat 30 26)
    ∧ exec (.hapStop dt r c) s = .next ((u.hapBrake c).hapOwn c .ok)
    ∧ (u.hapState c = 1 → ∃ t : State, exec (.hapCal dt r c) s = .next t ∧ t.hapState c = 2 ∧ (t.hap c).quick = false ∧ (t.hap c).next = none
        ∧ t.rf (hapReg c 0x20) 22 16 = Status.ok.code ∧ Frame [.free, .panel, .recs] [hapReg c 0x20, hapReg c 0x30] u t)
    ∧ (u.hapState c ≠ 1 → exec (.hapCal dt r c) s = .next ((u.hapResult .busy).hapOwn c .busy)))
  ∧ (∀ (dt c near f0 rc l k : Nat) (low peak : Bool) (s u : State), u = s.tick dt → c < u.row.haptics → u.hapState c = 2 → (u.hap c).quick = false →
    (low = false → peak = true → ∃ t : State, exec (.calDone dt c near low peak f0 rc l k) s = .next (t.psetChanged.calEvent c .ok 0) ∧ t.hapState c = 1
      ∧ t.rd (hapReg c 0x24) = f0 % 65536 * 2 ^ 16 + rc % 65536 ∧ (t.hap c).l = l ∧ (t.hap c).k = k
      ∧ Frame [.panel, .recs] [hapReg c 0x20, hapReg c 0x24, hapReg c 0x30] u t)
    ∧ (low = true → ∃ t : State, exec (.calDone dt c near low peak f0 rc l k) s = .next (t.calEvent c .fault 1) ∧ t.hapState c = 7
      ∧ Frame [.panel, .recs] [hapReg c 0x20, hapReg c 0x30] u t))
  ∧ (∀ (dt c : Nat) (s u : State), u = s.tick dt → c < u.row.haptics →
    (u.hapState c ≠ 0 → u.hapState c ≠ 7 → ∃ t : State, exec (.hapShort dt c) s = .next (t.hapFaultEvent c 1) ∧ t.hapState c = 7 ∧ (t.hap c).drive = 0
      ∧ Frame [.panel, .recs] [hapReg c 0x20, hapReg c 0x30] u t)
    ∧ (u.rb (hapReg c 0) 31 = true → u.rf (hapReg c 0) 27 26 = 1 → u.rb (hapReg c 0x20) 25 = false →
      (∀ w, ∃ t : State, exec (.accelRead dt c (some w)) s = .next t ∧ (t.hap c).sample = w ∧ (t.hap c).fails = 0 ∧ Frame [.panel] [] u t)
      ∧ ((u.hap c).fails = 2 → ∃ t : State, exec (.accelRead dt c none) s = .next (t.hapFaultEvent c 2) ∧ t.rb (hapReg c 0x20) 25 = true
        ∧ (t.hap c).fails = 3 ∧ Frame [.panel] [hapReg c 0x20, 0x03A00010] u t))
    ∧ ((u.hap c).pend = none → u.hapDriven c = false → ∃ t : State, exec (.hapBinBoundary dt c) s = .next t
      ∧ (t.hap c).bins = ((u.hap c).bin :: (u.hap c).bins).take 1000 ∧ (t.hap c).bin = 0 ∧ Frame [.panel] [hapReg c 0x30] u t)
    ∧ (∀ i a, (u.hap c).pend = some (i, a) → a + u.rf (hapReg c 8) 23 16 * 1000000 ≤ u.now →
      exec (.hapticDropped dt c) s = .next ((u.hapUnpend c).hapEvents i 0x91 .timeout (c % 256)))
    ∧ ((u.hap c).resting = true → u.hapState c = 6 → (u.hap c).phaseAt + u.rf (hapReg c 0xC) 31 16 * 1000000 ≤ u.now →
      ∃ t : State, exec (.hapRestEnd dt c) s = .next t ∧ t.hapState c = 1 ∧ (t.hap c).drive = 0 ∧ Frame [.panel, .recs] [hapReg c 0x20, hapReg c 0x30] u t))
  ∧ (∀ (dt c irms : Nat) (amb : Word) (heat tc : Int) (s u : State), u = s.tick dt → c < u.row.haptics → u.rf (hapReg c 0x10) 31 16 ≠ 0 → u.rb (hapReg c 0) 31 = true →
    heat = (u.hap c).heat + (((irms * irms * u.rf (hapReg c 0x24) 15 0 * u.rf (hapReg c 0x10) 31 16 * 65536 / 10000000000 : Nat) : Int) - (u.hap c).heat)
      / ((max 1 (u.rf (hapReg c 0x10) 15 0) : Nat) : Int) →
    tc = sext 16 amb.toNat + heat / 256 → tc < (u.rf (hapReg c 0xC) 15 8 : Int) * 256 →
    ∃ t : State, exec (.coilModelUpdate dt c irms amb) s = .next t ∧ (t.hap c).heat = heat ∧ t.rd (hapReg c 0x2C) = tobits 16 (clampI (-32768) 32767 tc)
      ∧ (tc < ((u.rf (hapReg c 0xC) 15 8 : Int) - 10) * 256 → (t.hap c).hot = false) ∧ Frame [.panel] [hapReg c 0x2C] u t)

/-- An accepted CREATE_VI makes the VI ACTIVE, or FROZEN with its flag, bound to the link and VF it names, with shares of 1,024, and
completes with OK; an accepted GRANT whose status is OK puts its base and count into force and completes with OK, and any other status is
reported with nothing granted. RESET_VI and DESTROY_VI put the VI in RESETTING or DESTROYING and stay pending; 1,500 µs later work of the
VI that still runs is stopped; the reset ends once it holds no cluster, and the VI is ACTIVE or FROZEN as before, or FREE after a destroy.
A refused command only shows its status. -/
def Obligations.InstanceCommands : Prop :=
  (∀ (dt v p : Nat) (r : Req) (ext : Option Bytes) (s u x : State), u = s.tick dt → v < 128 →
    (u.vimTakes x r 1 v ext p → ∃ t : State, exec (.createVi dt r v ext) s = .next t ∧ t.viState v = (if vpFlags p = 1 then 4 else 1)
      ∧ t.rf (viReg v 0) 26 24 = vpSub p % 8 ∧ t.rf (viReg v 0) 15 8 = bits p 71 64 ∧ t.rd (grantReg v 0x15 4) = 1024 ∧ t.rd (grantReg v 0x16 4) = 1024
      ∧ t.rd (viReg v 0x34) = 0x04000400 ∧ t.rf 0x0040001C 22 16 = Status.ok.code ∧ t.mem = x.mem ∧ t.hostMem = x.hostMem)
    ∧ (u.vimTakes x r 3 v ext p → x.grantStatus v (vpSub p) (vpArg p) (vpLen p) = .ok →
      ∃ t : State, exec (.grant dt r v ext) s = .next t ∧ t.rd (grantReg v (vpSub p) 4) = vpArg p % 2 ^ 32 ∧ t.rd (grantReg v (vpSub p) 0) = vpLen p % 2 ^ 32
        ∧ t.rf 0x0040001C 22 16 = Status.ok.code)
    ∧ (∀ st, u.vimTakes x r 3 v ext p → x.grantStatus v (vpSub p) (vpArg p) (vpLen p) = st → st ≠ .ok →
      ∃ t : State, exec (.grant dt r v ext) s = .next t ∧ t.rf 0x0040001C 22 16 = st.code ∧ t.rf (viReg v 0) 6 0 = st.code
        ∧ Frame [] [0x0040001C, viReg v 0] x t)
    ∧ (u.vimTakes x r 4 v ext p → x.viState v ≠ 0 → tget none x.vims.resets v = none →
      ∃ t : State, exec (.resetVi dt r v ext) s = .next t ∧ t.viState v = 2 ∧ t.rf 0x0040001C 22 16 = Status.pending.code
        ∧ tget none t.vims.ops v = some ⟨4, p, u.now⟩
        ∧ tget none t.vims.resets v = some ⟨1, if x.viState v = 1 ∨ x.viState v = 3 then 1 else 4, false, u.now⟩)
    ∧ (u.vimTakes x r 2 v ext p → x.viState v ≠ 0 → tget none x.vims.resets v = none →
      ∃ t : State, exec (.destroyVi dt r v ext) s = .next t ∧ t.viState v = 7 ∧ tget none t.vims.ops v = some ⟨2, p, u.now⟩
        ∧ tget none t.vims.resets v = some ⟨2, if x.viState v = 1 ∨ x.viState v = 3 then 1 else 4, true, u.now⟩))
  ∧ (∀ (dt v : Nat) (y : VimReset) (s u : State), u = s.tick dt → v < 128 → tget none u.vims.resets v = some y →
    (y.at_ + 1500000 ≤ u.now → ∃ t : State, exec (.resetWorkStop dt v) s = .next t ∧ Frame [.render, .budget] [] u t
      ∧ ∀ q ∈ u.viQueues v, (t.queue q).running = [] ∧ (t.queue q).saved = false)
    ∧ ((∀ q ∈ u.viQueues v, u.qClusters q = 0) →
      ∃ t : State, exec (.viResetDone dt v) s = .next t ∧ tget none t.vims.resets v = none ∧ t.viState v = (if y.destroy then 0 else y.from_ % 16)
        ∧ tget none t.vims.ops v = none))
  ∧ (∀ (dt v : Nat) (st : Status) (r : Req) (ext : Option Bytes) (s u x : State), u = s.tick dt → (∀ y, r.path ≠ .vi y) →
    (u.vimCheck r 1 v ext = (.error st, x) → exec (.createVi dt r v ext) s = .next (x.vimResult st))
    ∧ (u.vimCheck r 4 v ext = (.error st, x) → exec (.resetVi dt r v ext) s = .next (x.vimResult st)))

/-- FREEZE, SAVE and RESTORE put the VI in FREEZING, SAVING and RESTORING and stay pending. A freeze completes once the VI holds no
cluster and no entry runs: the VI is FROZEN, LAST reads OK, and VI_CMD_DONE is written; one that takes FREEZE_US leaves the VI ACTIVE and
is reported with TIMEOUT. THAW makes the VI ACTIVE, at once or after its pipelines are translated again, and writes VI_RESUMED. A save
writes the image at its address when it fits, and otherwise BAD_GEOMETRY; a restore reads the image and recreates the VI when it passes
every check, and otherwise reports the first that fails; both leave the VI FROZEN. -/
def Obligations.InstanceFreeze : Prop :=
  (∀ (dt v p : Nat) (r : Req) (ext : Option Bytes) (s u x : State), u = s.tick dt → v < 128 →
    (u.vimTakes x r 5 v ext p → ∃ t : State, exec (.freeze dt r v ext) s = .next t ∧ t.viState v = 3 ∧ tget none t.vims.ops v = some ⟨5, p, u.now⟩
      ∧ t.rf 0x0040001C 22 16 = Status.pending.code ∧ Frame [.vims] [viReg v 0, 0x0040001C] x t)
    ∧ (u.vimTakes x r 7 v ext p → ∃ t : State, exec (.save dt r v ext) s = .next t ∧ t.viState v = 5 ∧ tget none t.vims.ops v = some ⟨7, p, u.now⟩
      ∧ Frame [.vims] [viReg v 0, 0x0040001C] x t)
    ∧ (u.vimTakes x r 8 v ext p → ∃ t : State, exec (.restore dt r v ext) s = .next t ∧ t.viState v = 6 ∧ tget none t.vims.ops v = some ⟨8, p, u.now⟩
      ∧ Frame [.vims] [viReg v 0, 0x0040001C] x t)
    ∧ (u.vimTakes x r 6 v ext p → tget [] x.vims.retrans v = [] →
      ∃ t : State, exec (.thaw dt r v ext) s = .next t ∧ t = (x.viThaw v).vimNow v .ok ∧ t.viState v = 1 ∧ t.rf 0x0040001C 22 16 = Status.ok.code)
    ∧ (u.vimTakes x r 6 v ext p → tget [] x.vims.retrans v ≠ [] →
      ∃ t : State, exec (.thaw dt r v ext) s = .next t ∧ t.viState v = x.viState v ∧ tget none t.vims.ops v = some ⟨6, p, u.now⟩ ∧ Frame [.vims] [0x0040001C] x t))
  ∧ (∀ (dt v : Nat) (o : VimOp) (s u : State), u = s.tick dt → v < 128 → tget none u.vims.ops v = some o →
    (o.op = 5 → u.viQuiet v = true → ∃ t : State, exec (.freezeComplete dt v) s = .next (t.emitPf 0x05 .ok (5 * 2 ^ 24 + 4 * 2 ^ 16 + v)) ∧ t.viState v = 4
      ∧ tget none t.vims.ops v = none ∧ t.rf (viReg v 0) 6 0 = Status.ok.code ∧ Frame [.vims] [viReg v 0, 0x0040001C] u t)
    ∧ (o.op = 5 → o.at_ + u.rf 0x00400004 17 0 * 1000 ≤ u.now → (∀ q ∈ u.viQueues v, u.qClusters q = 0) →
      ∃ t : State, exec (.viFreezeTimeout dt v) s = .next ((t.emit pfWin 0x0B .timeout 0 v).vimDone v .timeout) ∧ t.viState v = 1 ∧ Frame [] [viReg v 0] u t)
    ∧ (∀ b y, o.op = 7 → b = u.imageBytes v → y = (u.wr (viReg v 0x38) b.length).setVi v 4 →
      exec (.saveComplete dt v) s = .next (if vpLen o.par * 4096 < b.length then y.vimDone v .badGeometry
        else (y.store pfWin 6 (vpAddr o.par) b).2.vimDone v (if (y.store pfWin 6 (vpAddr o.par) b).1 then .ok else .fault)))
    ∧ (∀ ext x, o.op = 8 → u.fetch pfWin 6 (vpAddr o.par) (vpLen o.par * 4096) ext = (none, x) →
      exec (.restoreComplete dt v ext) s = .next ((x.setVi v 4).vimDone v .fault))
    ∧ (∀ ext b x, o.op = 8 → u.fetch pfWin 6 (vpAddr o.par) (vpLen o.par * 4096) ext = (some b, x) →
      exec (.restoreComplete dt v ext) s = .next (match (x.setVi v 4).restoreStatus v b (Config.openImage b), Config.openImage b with
        | .ok, some m => ((x.setVi v 4).restoreApply v (leNat (b.take 64)) m).vimDone v .ok
        | st, _ => (x.setVi v 4).vimDone v st)))
  ∧ (∀ (dt v : Nat) (o : VimOp) (vs : List Verdict) (hosts : List HostRun) (s u : State), u = s.tickMem dt hosts → v < 128 → tget none u.vims.ops v = some o →
    o.op = 6 → tget [] u.vims.retrans v = [] →
    ∃ t : State, exec (.thawRetranslationDone dt v vs hosts) s = .next ((t.viThaw v).vimDone v .ok) ∧ tget [] t.vims.retrans v = [] ∧ Frame [.vims] [] u t)
  ∧ (∀ (v : Nat) (s : State), v < 128 → (s.viThaw v).viState v = 1)

/-- COPY_OUT and COPY_IN stay pending; a COPY_OUT that ends stores what it reads of the VI at the address it names, and a COPY_IN stores
what it reads at the VI's own address; either completes with OK, or FAULT for a host address of the VI. DIRTY_CTRL turns logging off, or
zeroes an area that is mapped and turns it on; DIRTY_HARVEST stores a part of the bitmap and clears it. A function-level reset, and a link
that goes down, reset the VIs bound to them with their causes; VF Enable cleared resets each VI of the link; Bus Master Enable follows the
VF's bit; a link that comes up is shown and reported. -/
def Obligations.InstanceCopiesAndLinks : Prop :=
  (∀ (dt v p : Nat) (r : Req) (ext : Option Bytes) (s u x : State), u = s.tick dt → v < 128 →
    (u.vimTakes x r 9 v ext p → ∃ t : State, exec (.copyOut dt r v ext) s = .next t ∧ tget none t.vims.ops v = some ⟨9, p, u.now⟩
      ∧ t.rf 0x0040001C 22 16 = Status.pending.code ∧ Frame [.vims] [0x0040001C] x t)
    ∧ (u.vimTakes x r 10 v ext p → ∃ t : State, exec (.copyIn dt r v ext) s = .next t ∧ tget none t.vims.ops v = some ⟨10, p, u.now⟩
      ∧ t.rf 0x0040001C 22 16 = Status.pending.code ∧ Frame [.vims] [0x0040001C] x t)
    ∧ (u.vimTakes x r 11 v ext p → vpFlags p = 0 → ∃ t : State, exec (.dirtyCtrl dt r v ext) s = .next (t.vimAtOnce 11 v p .ok)
      ∧ tget none t.vims.dirty v = none ∧ t.rb (viReg v 0x14) 31 = false ∧ Frame [.vims] [viReg v 0x14] x t)
    ∧ (u.vimTakes x r 11 v ext p → vpFlags p = 1 → isHost (vpAddr p) = false → x.areaMapped (vpAddr p) (dirtyLen (vpArg p) (vpLen p)) = true →
      ∃ t : State, exec (.dirtyCtrl dt r v ext) s = .next (t.vimAtOnce 11 v p .ok) ∧ tget none t.vims.dirty v = some ⟨vpAddr p, vpArg p, vpAddr2 p, vpLen p⟩
        ∧ t.rd (viReg v 0x14) = 2 ^ 31 ∧ t.mem = (x.areaZero (vpAddr p) (dirtyLen (vpArg p) (vpLen p))).mem ∧ t.hostMem = x.hostMem)
    ∧ (∀ d pas y, u.vimTakes x r 12 v ext p → tget none x.vims.dirty v = some d → vpArg p + vpLen p ≤ dirtyLen d.limit d.hostPages →
      x.physAll pfWin (d.area + vpArg p) (vpLen p) = some pas → x.store pfWin 6 (vpAddr p) (pas.map fun a => tget 0 x.mem a) = (true, y) →
      exec (.dirtyHarvest dt r v ext) s = .next (({ y with mem := pas.foldl tdel y.mem } : State).vimAtOnce 12 v p .ok)))
  ∧ (∀ (dt v : Nat) (hosts : List HostRun) (o : VimOp) (b : Bytes) (s u x y : State), u = s.tickMem dt hosts → tget none u.vims.ops v = some o →
    (o.op = 9 → isHost (vpArg o.par) = false → u.peek v 6 hosts (vpArg o.par) (vpLen o.par) = .ok b → u.store pfWin 6 (vpAddr o.par) b = (true, x) →
      exec (.viCopyComplete dt v hosts) s = .next (x.vimDone v .ok))
    ∧ (o.op = 10 → isHost (vpArg o.par) = false → u.load pfWin 6 hosts (vpAddr o.par) (vpLen o.par) = (some b, x) →
      x.copyIn v (vpArg o.par) (pages b) = (true, y) → exec (.viCopyComplete dt v hosts) s = .next (y.vimDone v .ok))
    ∧ (o.op = 9 ∨ o.op = 10 → isHost (vpArg o.par) = true → exec (.viCopyComplete dt v hosts) s = .next (u.vimDone v .fault)))
  ∧ (∀ (dt l vf v : Nat) (s u : State), u = s.tick dt → u.boundVi l vf = some v → v < 128 → tget none u.vims.resets v = none → tget none u.vims.ops v = none →
    ∃ t : State, exec (.functionLevelReset dt l vf) s = .next t ∧ t.viState v = 2
      ∧ tget none t.vims.resets v = some ⟨3, if u.viState v = 1 ∨ u.viState v = 3 then 1 else 4, false, u.now⟩)
  ∧ (∀ (dt l v : Nat) (s u : State), u = s.tick dt → l < 8 → u.linkVis l = [v] →
    exec (.vfEnableCleared dt l) s = .next (u.viReset v 4)
    ∧ (u.rb (linkReg l) 30 = true → tget none u.vims.resets v = none →
        exec (.pcieLinkDown dt l) s = .next (((u.wb (linkReg l) 30 false).viReset v 5).emitPf 0x0A .fault (l * 2 ^ 24 + 1))))
  ∧ (∀ (dt l : Nat) (s u : State), u = s.tick dt →
    (u.linkVis l = [] → exec (.vfEnableCleared dt l) s = .next u)
    ∧ (u.linkVis l = [] → l < 8 → u.rb (linkReg l) 30 = true → exec (.pcieLinkDown dt l) s = .next ((u.wb (linkReg l) 30 false).emitPf 0x0A .fault (l * 2 ^ 24)))
    ∧ (u.rb (linkReg l) 31 = true → u.rb (linkReg l) 30 = false →
        exec (.pcieLinkUp dt l) s = .next ((u.wb (linkReg l) 30 true).emitPf 0x0A .ok (l * 2 ^ 24 + 0x01 * 2 ^ 16))))
  ∧ (∀ (dt l vf : Nat) (on : Bool) (s u : State), u = s.tick dt →
    ∃ t : State, exec (.busMasterEnableChange dt l vf on) s = .next t ∧ (t.vims.noMaster.contains (l * 256 + vf)) = !on ∧ Frame [.vims] [] u t
      ∧ ∀ k, k ≠ l * 256 + vf → t.vims.noMaster.contains k = u.vims.noMaster.contains k)

/-- CREATE that passes its checks makes the lowest free number BUILDING with an entry that admits only the hull, and its whole range reads
0. ADD copies 4 KiB into the hull and extends the measurement by the offset and the page; SEAL extends it by the entry offset and the
flags and makes the hull READY. ENTER starts a hart at the entry offset with its arguments, or resumes it from its slot; EXIT returns it
after the ENTER with every register but x10 and x11 cleared; an asynchronous exit saves its registers in its slot and clears them. A
window is opened in a free entry and closed at once, its command completing when the requests before it have. A report is written at its
offset. DESTROY closes the windows; when it is done the range reads 0, its entries are free and the number is EMPTY. -/
def Obligations.Hulls : Prop :=
  (∀ (dt h k e c : Nat) (r : Req) (x : HartSt) (s u : State), u = s.tick dt → u.hartOf r = some h → x = u.hart h → c = bits x.arg2 1 0 →
    u.createHullStatus h x.arg0 x.arg1 x.arg2 = .ok → ((List.range 64).find? fun k => (u.hull k).state == 0) = some k → u.freeEntry c = some e →
    ∃ t : State, exec (.hullCreate dt r) s = .next t
      ∧ t.hull k = { state := 1, secure := !x.normal, debugOk := bit x.arg2 8, mem := c, base := x.arg0, size := x.arg1, entry := e, m := List.replicate 48 0 }
      ∧ t.rcEntry c e = { en := true, hullHeld := true, sRwx := if x.normal then 0 else 7, nRwx := if x.normal then 7 else 0, classes := 0xFF, hullSel := 2, hull := k, limit := x.arg0 + x.arg1 - 1, base := x.arg0 }
      ∧ bits (t.hart h).status 5 0 = k ∧ bits (t.hart h).status 22 16 = Status.ok.code
      ∧ (∀ a, c * 2 ^ 60 + x.arg0 ≤ a → a < c * 2 ^ 60 + x.arg0 + x.arg1 → tget 0 t.mem a = 0)
      ∧ FrameM [.worlds, .seed] [] (fun a => c * 2 ^ 60 + x.arg0 ≤ a ∧ a < c * 2 ^ 60 + x.arg0 + x.arg1) (fun _ => False) u t)
  ∧ (∀ (dt h k c d : Nat) (r : Req) (page : Bytes) (x : HartSt) (s u : State), u = s.tick dt → u.hartOf r = some h → x = u.hart h → k = u.lastHull h → c = bits x.arg2 1 0 →
    u.addStatus h k x.arg0 x.arg1 c = .ok → (u.hull k).base % 4096 = 0 → page = readBytes u.mem (c * 2 ^ 60 + x.arg1) 4096 →
    d = (u.hull k).mem * 2 ^ 60 + (u.hull k).base + x.arg0 →
    ∃ t : State, exec (.hullAdd dt r) s = .next t ∧ (t.hull k).m = sha384 ((u.hull k).m ++ leBytes x.arg0 8 ++ page)
      ∧ (∀ j, j < 4096 → tget 0 t.mem (d + j) = tget 0 u.mem (c * 2 ^ 60 + x.arg1 + j)) ∧ bits (t.hart h).status 22 16 = Status.ok.code
      ∧ FrameM [.worlds, .seed] [] (fun a => d ≤ a ∧ a < d + 4096) (fun _ => False) u t)
  ∧ (∀ (dt h k : Nat) (r : Req) (s u : State), u = s.tick dt → u.hartOf r = some h → k = u.lastHull h → (u.hull k).state = 1 →
    (u.hull k).secure = !(u.hart h).normal → (u.hart h).arg0 < (u.hull k).size →
    ∃ t : State, exec (.hullSeal dt r) s = .next t ∧ (t.hull k).state = 2 ∧ (t.hull k).start = (u.hart h).arg0 ∧ bits (t.hart h).status 22 16 = Status.ok.code
      ∧ (t.hull k).m = sha384 ((u.hull k).m ++ leBytes (u.hart h).arg0 8 ++ leBytes (b2n (u.hull k).debugOk) 8) ∧ Frame [.worlds] [] u t)
  ∧ (∀ (dt h k ret : Nat) (r : Req) (s u : State), u = s.tick dt → u.hartOf r = some h → k = (u.hart h).arg0 → k < 64 → (u.hart h).hull = none → (u.hull k).state = 2 →
    (u.hull k).secure = !(u.hart h).normal →
    ∃ t : State, exec (.hullEnter dt r ret) s = .next t ∧ (t.hart h).hull = some k ∧ (t.hart h).ret = ret ∧ bits (t.hart h).status 22 16 = Status.ok.code
      ∧ (bit (u.hart h).arg1 0 = false → (t.hart h).pc = (u.hull k).start ∧ (t.hart h).x = onlyArgs (u.hart h).arg1 (u.hart h).arg2)
      ∧ (bit (u.hart h).arg1 0 = true → (t.hart h).pc = u.savedPc k h ∧ (t.hart h).x = u.savedX k h) ∧ Frame [.worlds] [] u t)
  ∧ (∀ (dt h k x10 x11 : Nat) (r : Req) (s u : State), u = s.tick dt → u.hartOf r = some h → (u.hart h).hull = some k →
    ∃ t : State, exec (.hullExit dt r x10 x11) s = .next t ∧ (t.hart h).hull = none ∧ (t.hart h).pc = (u.hart h).ret ∧ tget 0 (t.hart h).x 10 = x10
      ∧ tget 0 (t.hart h).x 11 = x11 ∧ (∀ i, i ≠ 10 → i ≠ 11 → tget 0 (t.hart h).x i = 0) ∧ Frame [.worlds] [] u t)
  ∧ (∀ (dt h k cause pc : Nat) (xs : List Nat) (s u : State), u = s.tick dt → (u.hart h).hull = some k → (u.hull k).base % 4096 = 0 →
    ∃ t : State, exec (.hullAsyncExit dt h cause pc xs) s = .next t ∧ (t.hart h).hull = none ∧ (t.hart h).x = [] ∧ (t.hart h).trap = 2
      ∧ bits (t.hart h).status 15 12 = cause % 16 ∧ t.savedPc k h = pc % 2 ^ 64 ∧ (∀ i, i < 31 → tget 0 (t.savedX k h) (i + 1) = xs.getD i 0 % 2 ^ 64)
      ∧ FrameM [.worlds, .seed] [] (fun a => u.saveSlot k h ≤ a ∧ a < u.saveSlot k h + 256) (fun _ => False) u t)
  ∧ (∀ (dt h k e : Nat) (r : Req) (s u : State), u = s.tick dt → u.hartOf r = some h → (u.hart h).hull = some k → u.windowStatus h = .ok →
    u.freeEntry (u.hull k).mem = some e →
    ∃ t : State, exec (.hullWindowOpen dt r) s = .next t ∧ (t.rcEntry (u.hull k).mem e).en = true ∧ (t.rcEntry (u.hull k).mem e).hullHeld = true
      ∧ (t.rcEntry (u.hull k).mem e).hull = k ∧ (t.rcEntry (u.hull k).mem e).base = (u.hull k).base + (u.hart h).arg0
      ∧ (t.rcEntry (u.hull k).mem e).limit = (u.hull k).base + (u.hart h).arg0 + (u.hart h).arg1 - 1 ∧ bits (t.hart h).status 11 6 = e
      ∧ bits (t.hart h).status 22 16 = Status.ok.code ∧ Frame [.worlds] [] u t)
  ∧ (∀ (dt h k e c : Nat) (r : Req) (s u : State), u = s.tick dt → u.hartOf r = some h → (u.hart h).hull = some k → e = (u.hart h).arg0 → c = (u.hull k).mem →
    e ∈ u.windowsOpen k →
    ∃ t : State, exec (.hullWindowClose dt r) s = .next t ∧ (t.rcEntry c e).en = false ∧ tget 0 t.worlds.closing (c * 64 + e) = h + 1
      ∧ bits (t.hart h).status 22 16 = Status.pending.code ∧ Frame [.worlds] [] u t)
  ∧ (∀ (dt c e h : Nat) (s u : State), u = s.tick dt → tget 0 u.worlds.closing (c * 64 + e) = h + 1 →
    ∃ t : State, exec (.windowCloseDrained dt c e) s = .next t ∧ t.rcEntry c e = {} ∧ tget 0 t.worlds.closing (c * 64 + e) = 0
      ∧ bits (t.hart h).status 22 16 = Status.ok.code ∧ Frame [.worlds] [] u t)
  ∧ (∀ (dt h k : Nat) (r : Req) (s u : State), u = s.tick dt → u.hartOf r = some h → (u.hart h).hull = some k → (u.hart h).arg0 + 240 ≤ (u.hull k).size →
    (u.hart h).arg1 + 64 ≤ (u.hull k).size →
    ∃ head, exec (.hullReport dt r) s = .next ((u.pwrite ((u.hull k).mem * 2 ^ 60 + (u.hull k).base + (u.hart h).arg0)
        (head ++ (Config.attestSign (sha384 head)).toList) 7 pfWin).hullResult h .ok)
      ∧ head = u.reportHead k (readBytes u.mem ((u.hull k).mem * 2 ^ 60 + (u.hull k).base + (u.hart h).arg1) 64))
  ∧ (∀ (dt h k : Nat) (r : Req) (s u : State), u = s.tick dt → u.hartOf r = some h → k = (u.hart h).arg0 → k < 64 → (u.hart h).hull = none → (u.hull k).state = 2 →
    (u.hull k).secure = !(u.hart h).normal →
    (u.hartsIn k = [] → ∃ t : State, exec (.hullDestroy dt r) s = .next t ∧ (t.hull k).state = 3 ∧ (t.hull k).by_ = h
      ∧ (∀ e ∈ u.windowsOpen k, (t.rcEntry (u.hull k).mem e).en = false) ∧ bits (t.hart h).status 22 16 = Status.pending.code ∧ Frame [.worlds] [] u t)
    ∧ (u.hartsIn k ≠ [] → exec (.hullDestroy dt r) s = .next (u.hullResult h .busy)))
  ∧ (∀ (dt k : Nat) (x : Hull) (s u : State), u = s.tick dt → x = u.hull k → x.state = 3 →
    ∃ t : State, exec (.hullDestroyDone dt k) s = .next t ∧ t.hull k = {} ∧ t.rcEntry x.mem x.entry = {} ∧ (∀ e ∈ u.windowsOf k, t.rcEntry x.mem e = {})
      ∧ bits (t.hart x.by_).status 22 16 = Status.ok.code ∧ (∀ a, x.mem * 2 ^ 60 + x.base ≤ a → a < x.mem * 2 ^ 60 + x.base + x.size → tget 0 t.mem a = 0)
      ∧ FrameM [.worlds, .seed] [] (fun a => x.mem * 2 ^ 60 + x.base ≤ a ∧ a < x.mem * 2 ^ 60 + x.base + x.size) (fun _ => False) u t)

/-- A secure write of word 7 of a region entry that passes its checks puts all eight words into force together, with HULL_HELD 0; one that
fails shows the status, and a normal requester's is ignored with DENIED. A hart in the secure world and machine mode takes the world it
writes; one in the normal world takes an access fault. A token submitted from PF BAR0, the debug port or the secure world shows its status
at once and reports it to both rings, and a normal hart's is denied; an accepted one adds its enables, and a secure revoke withdraws them
all. A claim is taken on a unit that none covers, released, and re-armed when lost; a unit in the wrong state reads BAD_STATE, and a
normal requester is denied. -/
def Obligations.WorldsAndClaims : Prop :=
  (∀ (dt c e n : Nat) (r : Req) (v : Word) (s u : State), u = s.tick dt →
    n = (List.range 7).foldl (fun n k => n + u.rd (rcWord c e k) * 2 ^ (32 * k)) 0 + v.toNat * 2 ^ 224 →
    (u.reqSecure r = true → u.rb 0x00500004 0 = false → u.rcStatus c e (rcFields n) = .ok →
      ∃ t : State, exec (.rcEntryCommit dt r c e v) s = .next t ∧ t.rcEntry c e = rcFields n ∧ (t.rcEntry c e).hullHeld = false ∧ (t.rcEntry c e).base = bits n 63 0
        ∧ (t.rcEntry c e).en = bit v.toNat 31 ∧ (∀ d f, c * 64 + e ≠ d * 64 + f → t.rcEntry d f = u.rcEntry d f) ∧ Frame [.worlds] [] u t)
    ∧ (∀ st, u.reqSecure r = true → u.rb 0x00500004 0 = false → u.rcStatus c e (rcFields n) = st → st ≠ .ok →
      exec (.rcEntryCommit dt r c e v) s = .next (u.wf (rcReg c 0) 22 16 st.code))
    ∧ (u.reqSecure r = true → u.rb 0x00500004 0 = true → exec (.rcEntryCommit dt r c e v) s = .next (u.wf (rcReg c 0) 22 16 Status.denied.code))
    ∧ (u.reqSecure r = false → exec (.rcEntryCommit dt r c e v) s = .next u.worldDenied))
  ∧ (∀ (dt h : Nat) (machine secure : Bool) (s u : State), u = s.tick dt → h < u.row.appCores →
    ((u.hart h).normal = true → ∃ t : State, exec (.worldHartWrite dt h machine secure) s = .next t ∧ (t.hart h).trap = 1 ∧ (t.hart h).normal = true ∧ Frame [.worlds] [] u t)
    ∧ ((u.hart h).normal = false → machine = true →
      ∃ t : State, exec (.worldHartWrite dt h machine secure) s = .next t ∧ (t.hart h).normal = !secure ∧ (t.hart h).trap = (u.hart h).trap ∧ Frame [.worlds] [] u t)
    ∧ ((u.hart h).normal = false → machine = false → exec (.worldHartWrite dt h machine secure) s = .next u))
  ∧ (∀ (dt d : Nat) (st : Status) (r : Req) (s u : State), u = s.tick dt → pathWin r.path = pfWin → u.reqSecure r = true ∨ dbgPath r = true → st = u.tokenStatus →
    d = (if st = .ok then bits u.token 323 320 * 2 ^ 28 else 0) + bits u.token 63 48 →
    ∃ t : State, exec (.debugTokenSubmit dt r) s = .next ((t.emit secWin 0x23 st 0 d).emitPf 0x23 st d) ∧ t.rf 0x0050003C 22 16 = st.code
      ∧ (st = .ok → t.worlds.tokWorlds = u.worlds.tokWorlds ||| bits u.token 323 320 ∧ t.worlds.tokNi = u.worlds.tokNi ||| bits u.token 447 384
          ∧ t.worlds.tokI = u.worlds.tokI ||| bits u.token 511 448 ∧ t.freeCount = u.freeCount + 4)
      ∧ (st ≠ .ok → Frame [] [0x0050003C] u t))
  ∧ (∀ (dt : Nat) (r : Req) (s u : State), u = s.tick dt → pathWin r.path = pfWin → u.reqSecure r = false → dbgPath r = false →
    exec (.debugTokenSubmit dt r) s = .next u.worldDenied)
  ∧ (∀ (dt : Nat) (r : Req) (s u : State), u = s.tick dt → (∀ x, r.path ≠ .vi x) →
    (u.reqSecure r = true → ∃ t : State, exec (.debugRevoke dt r) s = .next t ∧ t.worlds.tokWorlds = 0 ∧ t.worlds.tokNi = 0 ∧ t.worlds.tokI = 0 ∧ Frame [.worlds] [] u t)
    ∧ (u.reqSecure r = false → exec (.debugRevoke dt r) s = .next u.worldDenied))
  ∧ (∀ (dt i : Nat) (r : Req) (s u : State), u = s.tick dt → u.reqSecure r = true → i < u.row.unitCount →
    (u.covered i = false → ∃ t : State, exec (.claimTake dt r i) s = .next t ∧ (tget {} t.worlds.claims i).state = 1 ∧ t.rf 0x00500204 22 16 = Status.ok.code
      ∧ (∀ j, j ≠ i → tget {} t.worlds.claims j = tget {} u.worlds.claims j) ∧ Frame [.worlds] [0x00500204] u t)
    ∧ (u.covered i = true → exec (.claimTake dt r i) s = .next (u.wf 0x00500204 22 16 Status.badState.code))
    ∧ ((tget {} u.worlds.claims i).state ≠ 0 → ∃ t : State, exec (.claimRelease dt r i) s = .next t ∧ (tget {} t.worlds.claims i).state = 0
      ∧ t.rf 0x00500204 22 16 = Status.ok.code ∧ Frame [.worlds] [0x00500204] u t)
    ∧ ((tget {} u.worlds.claims i).state = 2 → ∃ t : State, exec (.claimRearm dt r i) s = .next t ∧ (tget {} t.worlds.claims i).state = 1
      ∧ t.rf 0x00500204 22 16 = Status.ok.code ∧ Frame [.worlds] [0x00500204] u t))
  ∧ (∀ (dt i : Nat) (r : Req) (s u : State), u = s.tick dt → u.reqSecure r = false → (∀ x, r.path ≠ .vi x) →
    exec (.claimTake dt r i) s = .next u.worldDenied ∧ exec (.claimRelease dt r i) s = .next u.worldDenied ∧ exec (.claimRearm dt r i) s = .next u.worldDenied)

/-- A write of POWER_DOM_CTRL stores FLOOR, AUTO and the idle time, bounded, and the domain goes to the state requested: from GATED to ON
at once, down at once, and from OFF or RETAIN into the queue of ramps; one that lowers the floor of a claimed unit's domain reads CLAIMED.
A domain without work drops to the state that AUTO, FLOOR and its work allow. When the spacing has passed and no ramp runs, the waiting
domain of the lowest rank ramps and reads TRANSITION. Power-good marks its raise; the domain then reads ON with its measured time and its
units ON. A raise that misses power-good leaves the domain in FAULT, and DOMAIN_FAULT is written. -/
def Obligations.PowerDomains : Prop :=
  (∀ (dt d : Nat) (r : Req) (v : Word) (s u w : State), u = s.tick dt → pathWin r.path = pfWin → d ≠ 0 →
    w = u.wr (domainReg d 0) (bits v.toNat 31 30 * 2 ^ 30 + (if bits v.toNat 29 28 = 3 then 0 else bits v.toNat 29 28) * 2 ^ 28 + max 10 (min 1000000 (bits v.toNat 19 0))) →
    (u.floor d ≤ bits v.toNat 31 30 ∨ u.domainClaimed d r = false) →
    (w.domainState d = 2 → w.domainWant d = 3 → w.raiseBar d = .ok →
      ∃ t : State, exec (.powerDomCtrlWrite dt r d v) s = .next t ∧ t.domainState d = 3 ∧ t.rf (domainReg d 4) 22 16 = Status.ok.code
        ∧ t.rd (domainReg d 0) = w.rd (domainReg d 0) ∧ Frame [.recs] [domainReg d 0, domainReg d 4] u t)
    ∧ (w.domainState d < 2 → w.domainState d < w.domainWant d → w.raiseBar d = .ok → tget 0 u.power.offRails (domainRail d) = 0 → d ∉ u.power.waiting →
      (∀ x ∈ u.power.raising, x.d ≠ d) →
      ∃ t : State, exec (.powerDomCtrlWrite dt r d v) s = .next t ∧ t.power = { u.power with waiting := u.power.waiting ++ [d] } ∧ t.domainState d = u.domainState d
        ∧ t.rf (domainReg d 4) 22 16 = Status.ok.code ∧ t.rd (domainReg d 0) = w.rd (domainReg d 0) ∧ Frame [.power] [domainReg d 0, domainReg d 4] u t)
    ∧ (w.domainState d < w.domainWant d → w.domainState d ≠ 7 → w.raiseBar d ≠ .ok →
      ∃ t : State, exec (.powerDomCtrlWrite dt r d v) s = .next t ∧ t.domainState d = u.domainState d ∧ t.rf (domainReg d 4) 22 16 = (w.raiseBar d).code
        ∧ t.rd (domainReg d 0) = w.rd (domainReg d 0) ∧ Frame [] [domainReg d 0, domainReg d 4] u t)
    ∧ (0 < w.domainWant d → w.domainWant d < w.domainState d → w.domainState d ≠ 7 →
      ∃ t : State, exec (.powerDomCtrlWrite dt r d v) s = .next t ∧ t.domainState d = w.domainWant d ∧ t.rf (domainReg d 4) 22 16 = Status.ok.code
        ∧ t.rd (domainReg d 0) = w.rd (domainReg d 0) ∧ Frame [.recs] [domainReg d 0, domainReg d 4] u t)
    ∧ (w.domainWant d = 0 → 0 < w.domainState d → w.domainState d ≠ 7 →
      ∃ t : State, exec (.powerDomCtrlWrite dt r d v) s = .next t ∧ t.domainState d = 0 ∧ t.rf (domainReg d 4) 22 16 = Status.ok.code ∧ d ∉ t.power.waiting
        ∧ (∀ x ∈ t.power.raising, x.d ≠ d)))
  ∧ (∀ (dt d : Nat) (r : Req) (v : Word) (s u : State), u = s.tick dt → pathWin r.path = pfWin → d ≠ 0 → bits v.toNat 31 30 < u.floor d → u.domainClaimed d r = true →
    exec (.powerDomCtrlWrite dt r d v) s = .next (u.wf (domainReg d 4) 22 16 Status.claimed.code))
  ∧ (∀ (dt d idle least auto : Nat) (waits : Bool) (s u : State), u = s.tick dt → 4 < d → auto = u.rf (domainReg d 0) 29 28 → (auto = 1 ∨ auto = 2) →
    max 10 (u.rf (domainReg d 0) 19 0) ≤ idle → ((d = 6 ∨ d = 7) → waits = true) → least = max (u.floor d) (max (u.domainWork d) (if auto = 1 then 2 else 1)) →
    u.domainState d ≠ 7 →
    (least < u.domainState d → ∃ t : State, exec (.domainAutoDrop dt d idle waits) s = .next t ∧ t.domainState d = least ∧ Frame [.recs] [domainReg d 4] u t)
    ∧ (u.domainState d ≤ least → exec (.domainAutoDrop dt d idle waits) s = .next u))
  ∧ (∀ (dt d : Nat) (s u : State), u = s.tick dt → d ∈ u.power.waiting → (∀ e ∈ u.power.waiting, rampRank d ≤ rampRank e) → nextRamp u.power.waiting = some d →
    (∀ x ∈ u.power.raising, x.good = true) → (∀ t, u.power.lastRamp = some t → t + max 20 (u.rf 0x0010000C 7 0) * 1000 ≤ u.now) →
    ∃ t : State, exec (.domainRampStart dt []) s = .next t ∧ t.domainState d = 7
      ∧ t.power = { u.power with waiting := u.power.waiting.filter (· != d), raising := u.power.raising ++ [⟨d, u.now, u.rampUs d, false, u.domainState d == 0⟩], lastRamp := some u.now }
      ∧ Frame [.power, .recs] [domainReg d 4] u t)
  ∧ (∀ (l : List Nat), l ≠ [] → ∃ d, nextRamp l = some d ∧ d ∈ l ∧ ∀ e ∈ l, rampRank d ≤ rampRank e)
  ∧ (∀ (dt d : Nat) (s u : State), u = s.tick dt → u.power.waiting = [] → u.power.raising = [] → u.power.lastRamp = none → u.raiseBar d = .ok →
    (u.domainState d = 2 → ∃ t : State, exec (.domainRampStart dt [d]) s = .next t ∧ t.domainState d = 3 ∧ Frame [] [domainReg d 4] u t)
    ∧ (u.domainState d < 2 → ∃ t : State, exec (.domainRampStart dt [d]) s = .next t ∧ t.domainState d = 7 ∧ t.power.waiting = []
      ∧ t.power.raising = [⟨d, u.now, u.rampUs d, false, u.domainState d == 0⟩] ∧ Frame [.power, .recs] [domainReg d 4] u t))
  ∧ (∀ (dt d : Nat) (s u : State), u = s.tick dt →
    ∃ t : State, exec (.domainPowerGood dt d) s = .next t ∧ (∀ x ∈ u.power.raising, x.d = d → x.at_ + x.us * 1000 ≤ u.now → { x with good := true } ∈ t.power.raising)
      ∧ (∀ x ∈ u.power.raising, ¬ (x.d = d ∧ x.at_ + x.us * 1000 ≤ u.now) → x ∈ t.power.raising) ∧ t.power.raising.map (·.d) = u.power.raising.map (·.d)
      ∧ Frame [.power] [] u t)
  ∧ (∀ (dt d : Nat) (up : DomainUp) (x : Ramp) (s u : State), u = (s.tickMem dt up.hosts).foundBad up.d up.defects → d = up.d →
    (u.power.raising.find? fun r => r.d == d && r.good) = some x →
    ∃ t : State, exec (.domainOn dt up) s
        = .next ((List.range 16).foldl (fun s p => if unitDomain 0x20 p = d then s.startFirst up.hosts p else s) (t.domainSettle d).startGo) ∧ t.domainState d = 3 ∧ t.rf (domainReg d 4) 15 0 = min 65535 ((u.now - x.at_) / 1000)
      ∧ t.power = { u.power with raising := u.power.raising.filter (·.d != d) }
      ∧ (∀ k ∈ u.domainUnits d, ((u.unit k).state ≠ 7 → (t.unit k).state = 3 ∧ (t.unit k).req = if u.start.step = 0 then (u.unit k).req else 3) ∧ ((u.unit k).health = 4 → (u.unit k).gaveUp = false → (t.unit k).health = 0)))
  ∧ (∀ (dt d : Nat) (x : Ramp) (s u : State), u = s.tick dt → (u.power.raising.find? fun r => r.d == d && !r.good) = some x → x.at_ + (2 * x.us + 10) * 1000 < u.now →
    ∃ t : State, exec (.domainFault dt d) s = .next (t.emitPf 0x17 .fault (d * 2 ^ 24)) ∧ t.rb (domainReg d 4) 26 = true ∧ t.rf (domainReg d 4) 22 16 = Status.fault.code
      ∧ t.now = u.now ∧ t.pending = u.pending ∧ t.variant = u.variant)

/-- A rail's reading shows its current and voltage, and its usable phases are set to the number its current needs, fewer only after 1 ms.
A stage above STAGE_TMAX is shed HOT with VR_FAULT, and usable again 10 °C below it; a lost sense disables the phase. A rail 6 % low
stretches the clocks of its domains and reports it at most once a ms, until it is within 3 %. A rail 12 % high is shut, its phases with
it. A secure write of VR_CTRL lets shut rails start again; a normal requester's is denied. A phase that becomes shed, HOT, SENSE_LOST or
disabled holds VR_PWM at high impedance and VR_EN low; one that becomes active drives both. -/
def Obligations.Regulators : Prop :=
  (∀ (dt rail amps mv n : Nat) (phases : List PhaseIn) (usable : List Nat) (s u : State), u = s.tick dt → rail < 2 →
    usable = (u.railPhases rail).filter (fun p => u.phase p != 3 && u.phase p != 4 && u.phase p != 5) →
    n = min usable.length (max (max 1 (min 16 (u.rf (railReg rail 4) 15 8)))
      (match usable with | p :: _ => if u.rf (phaseReg p 0) 7 0 = 0 then 0 else cdiv amps (7 * u.rf (phaseReg p 0) 7 0) | [] => 0)) →
    ∃ t : State, exec (.vrPhaseUpdate dt rail amps mv phases) s = .next t ∧ t.rd (railReg rail 0) = min 65535 amps * 2 ^ 16 + min 65535 mv
      ∧ ((usable.countP fun p => u.phase p == 2) ≤ n → (∀ i p, usable[i]? = some p → t.phase p = if i < n then 2 else 1) ∧ tget 0 t.power.fewer rail = 0)
      ∧ (n < (usable.countP fun p => u.phase p == 2) → tget 0 u.power.fewer rail = 0 → (∀ p ∈ usable, t.phase p = u.phase p) ∧ tget 0 t.power.fewer rail = u.now + 1)
      ∧ (n < (usable.countP fun p => u.phase p == 2) → tget 0 u.power.fewer rail ≠ 0 → tget 0 u.power.fewer rail - 1 + 1000000 ≤ u.now →
          ∀ i p, usable[i]? = some p → t.phase p = if i < n then 2 else 1)
      ∧ (∀ p, p ∈ u.railPhases rail → p ∉ usable → t.phase p = u.phase p)
      ∧ Frame [.power, .recs] (railReg rail 0 :: (List.range 16).flatMap fun p => [phaseReg p 4, phaseReg p 8]) u t)
  ∧ (∀ (dt p temp : Nat) (s u : State), u = s.tick dt → u.rb (phaseReg p 0) 31 = true → (u.phase p = 1 ∨ u.phase p = 2) → u.rf (phaseReg p 0) 15 8 < temp →
    ∃ t : State, exec (.stageOvertemp dt p temp) s = .next (t.vrFault 1 p (u.rf (phaseReg p 0) 30 30)) ∧ t.phase p = 3 ∧ t.rf (phaseReg p 4) 23 16 = min 255 temp
      ∧ Frame [.power] [phaseReg p 4] u t)
  ∧ (∀ (dt p temp : Nat) (s u : State), u = s.tick dt → u.phase p = 3 →
    (temp + 10 ≤ u.rf (phaseReg p 0) 15 8 → ∃ t : State, exec (.stageCooled dt p temp) s = .next t ∧ t.phase p = 1 ∧ t.rf (phaseReg p 4) 23 16 = temp ∧ Frame [.power] [phaseReg p 4] u t)
    ∧ (u.rf (phaseReg p 0) 15 8 < temp + 10 → exec (.stageCooled dt p temp) s = .next u))
  ∧ (∀ (dt p : Nat) (s u : State), u = s.tick dt → u.rb (phaseReg p 0) 31 = true → u.phase p ≠ 4 →
    ∃ t : State, exec (.vrSenseLost dt p) s = .next (t.vrFault 2 p (u.rf (phaseReg p 0) 30 30)) ∧ t.phase p = 4 ∧ Frame [.power] [phaseReg p 4] u t)
  ∧ (∀ (dt rail mv last : Nat) (s u : State), u = s.tick dt → mv * 100 < u.railTarget rail * 94 → rail ∉ u.power.stretched → last = tget 0 u.power.droopAt rail →
    ∃ t : State, ((last = 0 ∨ last - 1 + 1000000 ≤ u.now) → exec (.supplyDroop dt rail mv) s = .next (t.emitPf 0x14 .throttled (rail * 2 ^ 24 + mv % 2 ^ 16)))
      ∧ (¬ (last = 0 ∨ last - 1 + 1000000 ≤ u.now) → exec (.supplyDroop dt rail mv) s = .next t)
      ∧ t.power.stretched = u.power.stretched ++ [rail] ∧ t.rf (railReg rail 8) 15 0 = min 65535 (u.rf (railReg rail 8) 15 0 + 1)
      ∧ Frame [.power, .recs] [railReg rail 8] u t)
  ∧ (∀ (dt rail mv : Nat) (s u : State), u = s.tick dt → u.railTarget rail * 94 ≤ mv * 100 ∨ rail ∈ u.power.stretched → exec (.supplyDroop dt rail mv) s = .next u)
  ∧ (∀ (dt rail mv : Nat) (s u : State), u = s.tick dt → u.railTarget rail * 97 < mv * 100 →
    ∃ t : State, exec (.droopEnd dt rail mv) s = .next t ∧ rail ∉ t.power.stretched ∧ (∀ r, r ≠ rail → (r ∈ t.power.stretched ↔ r ∈ u.power.stretched)) ∧ Frame [.power] [] u t)
  ∧ (∀ (dt rail mv : Nat) (s u : State), u = s.tick dt → u.railTarget rail * 112 < mv * 100 → u.rb (railReg rail 8) 31 = false →
    ∃ t w, exec (.railOverVoltage dt rail mv) s = .next w ∧ (∀ p ∈ u.railPhases rail, t.phase p = 5) ∧ t.rb (railReg rail 8) 31 = true
      ∧ Frame [.power] (railReg rail 8 :: (List.range 16).map fun p => phaseReg p 4) u t
      ∧ w = (railDomains rail).foldl (fun s d => if s.domainAbsent d then s else (s.domainUnits d).foldl (fun s k => s.unitStop k 2 (some .fault)) (s.domainOff d))
          ((t.vrFault 3 0xFF rail).mPower fun p => { p with offRails := tset 0 p.offRails rail (u.now + 1), railFaults := tmod [] p.railFaults rail fun l => u.now :: l }))
  ∧ (∀ (dt rail : Nat) (r : Req) (v : Word) (s u : State), u = s.tick dt → pathWin r.path = pfWin → u.reqSecure r = true → rail < 2 →
    ∃ t : State, exec (.vrCtrlClear dt r v) s = .next t ∧ (bit v.toNat rail = true → u.rb (railReg rail 8) 31 = true →
        t.rb (railReg rail 8) 31 = false ∧ tget 0 t.power.offRails rail = 0 ∧ ∀ p ∈ u.railPhases rail, t.phase p = if u.phase p = 5 then 1 else u.phase p)
      ∧ (bit v.toNat rail = false → t.rd (railReg rail 8) = u.rd (railReg rail 8) ∧ ∀ p ∈ u.railPhases rail, t.phase p = u.phase p)
      ∧ Frame [.power] (railReg 0 8 :: railReg 1 8 :: (List.range 16).map fun p => phaseReg p 4) u t)
  ∧ (∀ (dt : Nat) (r : Req) (v : Word) (s u : State), u = s.tick dt → pathWin r.path = pfWin → u.reqSecure r = false →
    exec (.vrCtrlClear dt r v) s = .next (u.wf 0x00100008 22 16 Status.denied.code))
  ∧ (∀ (p v : Nat) (u : State), (v = 1 ∨ v = 3 ∨ v = 4 ∨ v = 5) → (u.setPhase p v).vrPwm p = .highZ ∧ (u.setPhase p v).vrEn p = false)
  ∧ (∀ (p : Nat) (u : State), (u.setPhase p 2).vrPwm p ≠ .highZ ∧ (u.setPhase p 2).vrEn p = true)

/-- A reading is stored, and counts only where it is valid; every domain is then capped and tripped by its hottest sensor. A cap begins at
T_LIMIT at the cap point and ends below T_LIMIT − 3 °C. A tripped domain that has been cool for 100 ms is clear, with THERMAL_CLEAR. 1 ms
after a trip the covered units stop, and the domain goes OFF and TRIPPED. At the critical level the device is reset with THERMTRIP_N low,
until the analog sensor has been cool for 1 s. -/
def Obligations.Temperature : Prop :=
  (∀ (dt : Nat) (readings : List (Int × Nat)) (s u : State), u = s.tick dt → readings.length ≤ 64 → u.power.critical = false →
    ∃ w, exec (.sensorRead dt readings) s = .next ((List.range 24).foldl (fun s d => (s.capDomain d).tripDomain d) w)
      ∧ (∀ (i : Nat) (x : Int × Nat), readings[i]? = some x → tget none w.power.temps i = (if sensorOk x.1 x.2 then some x.1 else none)
          ∧ w.rd (0x00109000 + i * 4) = b2n (sensorOk x.1 x.2) * 2 ^ 31 + (Config.sensorDomain i).val * 2 ^ 24 + q88 x.1)
      ∧ Frame [.power, .recs] (0x00100030 :: (List.range 64).map fun i => 0x00109000 + i * 4) u w)
  ∧ (∀ (dt : Nat) (readings : List (Int × Nat)) (s u : State), u = s.tick dt → u.power.critical = true → exec (.sensorRead dt readings) s = .next u)
  ∧ (∀ (d : Nat) (u t : State), d < 24 → t = u.capDomain d →
    match hottest (u.domainTemps d) with
    | none => ((List.range 64).any fun i => (Config.sensorDomain i).val == d) = true →
        t.rf (domainReg d 0xC) 18 16 = 0 ∧ t.point d = 0 ∧ ∀ k ∈ u.domainUnits d, (u.unit k).health = 0 → (t.unit k).health = 1
    | some x =>
      (u.rb (domainReg d 4) 27 = false → u.tLimit * 256 ≤ x →
        t.rb (domainReg d 4) 27 = true ∧ t.rf (domainReg d 0xC) 18 16 = u.rf 0x0010002C 2 0 ∧ t.point d = min (u.rf 0x0010002C 2 0) (u.point d))
      ∧ (u.rb (domainReg d 4) 27 = true → x < u.tLimit * 256 - 768 → t.rb (domainReg d 4) 27 = false ∧ t.rf (domainReg d 0xC) 18 16 = 7 ∧ t.point d = u.point d)
      ∧ (u.rb (domainReg d 4) 27 = true → u.tLimit * 256 - 768 ≤ x → t.rb (domainReg d 4) 27 = true ∧ t.point d = min (u.rf 0x0010002C 2 0) (u.point d)))
  ∧ (∀ (dt d c : Nat) (s u : State), u = s.tick dt → u.rb (domainReg d 4) 28 = true → c = tget 0 u.power.cool d → c ≠ 0 →
    (c - 1 + 100000000 ≤ u.now → exec (.thermalClear dt d) s = .next ((u.wb (domainReg d 4) 28 false).emitPf 0x12 .ok (d * 2 ^ 24)))
    ∧ (u.now < c - 1 + 100000000 → exec (.thermalClear dt d) s = .next u))
  ∧ (∀ (dt d c : Nat) (s u : State), u = s.tick dt → c = tget 0 u.power.trips d → c ≠ 0 → c - 1 + 1000000 ≤ u.now →
    ∃ w t, exec (.claimLost dt d) s = .next t ∧ t = w.tripOff d ∧ t.domainState d = 0 ∧ t.rb (domainReg d 4) 28 = true ∧ tget 0 t.power.trips d = 0
      ∧ tget 0 t.power.cool d = 0 ∧ (((u.tripUnits d).filter fun k => u.covered k) = [] → w = u)
      ∧ (∀ k, ((u.tripUnits d).filter fun k => u.covered k) = [k] → w = (((u.unitStop k 4 (some .lost)).mWorlds fun x =>
          (let y := if (tget {} x.claims k).state = 1 then { x with claims := tset {} x.claims k ⟨2⟩ } else x
           if (tget {} y.claims 0).state = 1 then { y with claims := tset {} y.claims 0 ⟨2⟩ } else y)).emitSecure 0x22 .lost (d * 2 ^ 24 + k % 4096))))
  ∧ (∀ (dt k : Nat) (x : Int) (analog : Option Int) (s u : State), u = s.tick dt → u.power.critical = false →
    (u.allTemps.find? fun y => (u.tLimit + u.rf 0x0010002C 11 7) * 256 ≤ y.2) = some (k, x) →
    ∃ t : State, ResetFrom false u t ∧ exec (.criticalTemperature dt analog) s = .next (t.mPower fun p =>
      { p with critical := true, thermtrip := true, critOwed := some (q88 x), critCool := some t.now }))
  ∧ (∀ (dt : Nat) (a : Int) (s u : State), u = s.tick dt → u.power.critical = false →
    (u.allTemps.find? fun y => (u.tLimit + u.rf 0x0010002C 11 7) * 256 ≤ y.2) = none →
    ((u.tLimit + 20) * 256 ≤ a → ∃ t : State, ResetFrom false u t ∧ exec (.criticalTemperature dt (some a)) s = .next (t.mPower fun p =>
      { p with critical := true, thermtrip := true, critOwed := some (q88 a), critCool := some t.now }))
    ∧ (a < (u.tLimit + 20) * 256 → exec (.criticalTemperature dt (some a)) s = .next u))
  ∧ (∀ (dt c : Nat) (highest : Int) (s u : State), u = s.tick dt → u.power.critical = true → u.power.critCool = some c →
    (highest < (u.tLimit - 5) * 256 → c + 1000000000 ≤ u.now →
      ∃ t : State, t.power = { u.power with critical := false, thermtrip := false, critCool := none } ∧ Frame [.power] [] u t
        ∧ exec (.thermtripRelease dt highest) s = .next (if u.power.pwrgood && !u.power.aonLow && !u.power.safeLow then t.coldStart else t))
    ∧ ((u.tLimit - 5) * 256 ≤ highest → exec (.thermtripRelease dt highest) s = .next u))

/-- A lost reference puts the device on the internal oscillator with one CLOCK_FAULT; a good one shows, and a secure write of RETURN goes
back to it. The slow clock's loss is reported once, not in the first second, and its return as well. A sleep request is checked in order
and accepted; once entered, its active phases shed, the device holds AON in ON and the Husks in RETAIN, with RAIL_EN low, or wakes at
once. An armed source wakes a sleeping device, is latched while it enters sleep, and does nothing else; RAILS_OK then begins the warm
start. -/
def Obligations.ClocksAndSleep : Prop :=
  (∀ (dt cause ppm : Nat) (s u : State), u = s.tick dt →
    ∃ t : State, t.rb 0x00100028 31 = false ∧ t.rb 0x00100028 30 = true ∧ t.rf 0x00100028 15 0 = ppm % 2 ^ 16 ∧ Frame [] [0x00100028] u t
      ∧ (u.rb 0x00100028 30 = true → exec (.referenceLost dt cause ppm) s = .next t)
      ∧ (u.rb 0x00100028 30 = false → exec (.referenceLost dt cause ppm) s = .next (t.emitPf 0x15 .fault (cause * 2 ^ 24 + ppm % 2 ^ 16))))
  ∧ (∀ (dt ppm : Nat) (s u : State), u = s.tick dt → ∃ t : State, exec (.referenceOk dt ppm) s = .next t ∧ t.rb 0x00100028 31 = true
      ∧ t.rf 0x00100028 15 0 = ppm % 2 ^ 16 ∧ t.rb 0x00100028 30 = u.rb 0x00100028 30 ∧ t.rb 0x00100028 29 = u.rb 0x00100028 29 ∧ Frame [] [0x00100028] u t)
  ∧ (∀ (dt : Nat) (r : Req) (v : Word) (s u : State), u = s.tick dt → pathWin r.path = pfWin →
    (u.reqSecure r = false → exec (.clockReturn dt r v) s = .next (u.wf 0x00100008 22 16 Status.denied.code))
    ∧ (u.reqSecure r = true → bit v.toNat 0 = true → u.rb 0x00100028 31 = true → u.rb 0x00100028 30 = true →
      exec (.clockReturn dt r v) s = .next ((u.wb 0x00100028 30 false).emitPf 0x15 .ok (4 * 2 ^ 24 + u.rf 0x00100028 15 0)))
    ∧ (u.reqSecure r = true → (bit v.toNat 0 = false ∨ u.rb 0x00100028 31 = false ∨ u.rb 0x00100028 30 = false) → exec (.clockReturn dt r v) s = .next u))
  ∧ (∀ (dt : Nat) (s u : State), u = s.tick dt →
    ∃ t : State, t.rb 0x00100028 29 = false ∧ Frame [.power] [0x00100028] u t ∧ t.power = { u.power with slowTold := t.power.slowTold }
      ∧ (u.power.slowTold = false → u.power.goodAt + 1000000000 ≤ u.now → t.power.slowTold = true
          ∧ exec (.slowClockLost dt) s = .next (t.emitPf 0x15 .fault (3 * 2 ^ 24 + u.rf 0x00100028 15 0)))
      ∧ ((u.power.slowTold = true ∨ u.now < u.power.goodAt + 1000000000) → t.power.slowTold = u.power.slowTold ∧ exec (.slowClockLost dt) s = .next t))
  ∧ (∀ (dt : Nat) (s u : State), u = s.tick dt →
    ∃ t : State, t.rb 0x00100028 29 = true ∧ t.power.slowTold = false ∧ Frame [.power] [0x00100028] u t
      ∧ (u.power.slowTold = true → exec (.slowClockReturn dt) s = .next (t.emitPf 0x15 .ok (5 * 2 ^ 24 + u.rf 0x00100028 15 0)))
      ∧ (u.power.slowTold = false → exec (.slowClockReturn dt) s = .next t))
  ∧ (∀ (dt : Nat) (r : Req) (v : Word) (claims busy : Bool) (s u : State), u = s.tick dt → pathWin r.path = pfWin →
    claims = (!u.reqSecure r && u.worlds.claims.any fun c => c.2.state != 0) → busy = (u.pipesOn 0 16 || (List.range u.row.vis).any fun w => u.viState w == 1) →
    (bit v.toNat 31 = false → exec (.sleepRequest dt r v) s = .next u)
    ∧ (bit v.toNat 31 = true → claims = true → exec (.sleepRequest dt r v) s = .next (u.wf 0x00100010 22 16 Status.claimed.code))
    ∧ (bit v.toNat 31 = true → claims = false → busy = true → exec (.sleepRequest dt r v) s = .next (u.wf 0x00100010 22 16 Status.badState.code))
    ∧ (bit v.toNat 31 = true → claims = false → busy = false → u.rf 0x00100014 2 0 = 0 →
      exec (.sleepRequest dt r v) s = .next (u.wf 0x00100010 22 16 Status.badParam.code))
    ∧ (bit v.toNat 31 = true → claims = false → busy = false → u.rf 0x00100014 2 0 ≠ 0 → u.rb 0x00100028 29 = false →
      exec (.sleepRequest dt r v) s = .next (u.wf 0x00100010 22 16 Status.fault.code))
    ∧ (bit v.toNat 31 = true → claims = false → busy = false → u.rf 0x00100014 2 0 ≠ 0 → u.rb 0x00100028 29 = true → u.power.sleep = 0 →
      ∃ t : State, exec (.sleepRequest dt r v) s = .next t ∧ t.rf 0x00100010 22 16 = Status.ok.code ∧ t.power = { u.power with sleep := 1, latched := 0 }
        ∧ Frame [.power] [0x00100010] u t))
  ∧ (∀ (dt : Nat) (s u : State), u = s.tick dt → u.power.sleep = 1 →
    ∃ t : State, ResetFrom true ((List.range 16).foldl (fun s p => if s.phase p = 2 then s.setPhase p 1 else s) u) t ∧ ∃ w, exec (.sleepEntered dt) s = .next w ∧ w.domainState 0 = 3 ∧ w.domainState 1 = 1 ∧ w.domainState 2 = 1
      ∧ w.power.huskFail = false ∧ w.power.sleep = (if u.power.latched = 0 then 2 else 3) ∧ w.power.railEn = (u.power.latched != 0)
      ∧ (u.power.latched ≠ 0 → w.rd 0x00100020 = u.power.latched % 2 ^ 32)
      ∧ Frame [.power, .recs] [domainReg 0 4, domainReg 1 4, domainReg 2 4, 0x00100028, 0x00300000, 0x00100020] t w)
  ∧ (∀ (dt n : Nat) (i : Instr) (s u : State), u = s.tick dt → ((n = 2 ∧ i = .wakePin dt) ∨ (n = 3 ∧ i = .wakeTime dt ∧ u.rd64 0x00100018 ≤ u.now)) →
    (u.rb 0x00100014 (n - 1) = false → exec i s = .next u)
    ∧ (u.rb 0x00100014 (n - 1) = true → u.power.sleep = 2 →
      ∃ t : State, exec i s = .next t ∧ t.rd 0x00100020 = n ∧ t.power = { u.power with sleep := 3, railEn := true, latched := 0, wakeOwed := true } ∧ Frame [.power] [0x00100020] u t)
    ∧ (u.rb 0x00100014 (n - 1) = true → u.power.sleep = 1 → u.power.latched = 0 →
      ∃ t : State, exec i s = .next t ∧ t.power = { u.power with latched := n } ∧ Frame [.power] [] u t)
    ∧ (u.power.sleep = 0 → exec i s = .next u))
  ∧ (∀ (dt : Nat) (s u : State), u = s.tick dt → u.now < u.rd64 0x00100018 → exec (.wakeTime dt) s = .next u)
  ∧ (∀ (dt : Nat) (s u : State), u = s.tick dt →
    (u.power.sleep = 3 → exec (.railsOkRise dt) s = .next u.warmStart) ∧ (u.power.sleep ≠ 3 → exec (.railsOkRise dt) s = .next u))

/-- A cold start shows PHASE 1 at its first point, with AON ON, HUSK_FAIL_N low, RAIL_EN high and every recorder slot empty. PWRGOOD
starts the device when the other supplies are in range, with the flash that was fitted meanwhile; its fall resets everything outside AON.
VDD_SAFE and VDD_AON do the same for theirs, and VDD_AON's loss takes device time, marks and recorder slots. START_FULL shows the phase
and the time and ends the start. A start that has not ended within 2 s marks its slot TRIED_BAD and starts again; a return goes back to
degraded mode. -/
def Obligations.StartAndSupplies : Prop :=
  (∀ (u t : State), u.domainState 1 < 2 → t = u.coldStart →
    t.start.step = 1 ∧ t.rf 0x00200000 31 28 = 1 ∧ t.domainState 0 = 3 ∧ t.power.huskFail = true ∧ t.power.railEn = true ∧ t.start.since = u.now
      ∧ (∀ n, (t.recSlot n).count = 0 ∧ (t.recSlot n).bins = [] ∧ (t.recSlot n).seq = (u.recSlot n).seq ∧ (t.recSlot n).clears = (u.recSlot n).clears))
  ∧ (∀ (dt : Nat) (f : FlashIn) (s u : State), u = s.tick dt → u.power.pwrgood = false →
    (∃ t : State, t.power = { u.power with pwrgood := true, goodAt := u.now } ∧ Frame [.power] [] u t
      ∧ exec (.pwrgoodRise dt none) s = .next (if u.power.aonLow || u.power.safeLow || u.power.critical then t else t.coldStart))
    ∧ (∃ t : State, t.power = { u.power with pwrgood := true, goodAt := u.now } ∧ t.start.flashBad = f.bad ∧ t.start.spares = f.spares
      ∧ t.rd 0x0020004C = (f.sizeMiB * 2 ^ 16 + f.eraseKiB) % 2 ^ 32 ∧ Frame [.power, .start] [0x0020004C] u t
      ∧ exec (.pwrgoodRise dt (some f)) s = .next (if u.power.aonLow || u.power.safeLow || u.power.critical then t else t.coldStart)))
  ∧ (∀ (dt : Nat) (s u : State), u = s.tick dt → u.power.pwrgood = true →
    ∃ t : State, ResetFrom false u t ∧ exec (.pwrgoodFall dt) s = .next ((t.wr 0x00300018 0).mPower fun p => { p with pwrgood := false, huskFail := true }))
  ∧ (∀ (dt : Nat) (flash : Option FlashIn) (s u : State), u = s.tick dt →
    (u.power.pwrgood = true → exec (.pwrgoodRise dt flash) s = .next u) ∧ (u.power.pwrgood = false → exec (.pwrgoodFall dt) s = .next u))
  ∧ (∀ (dt : Nat) (s u : State), u = s.tick dt → ∃ t : State, exec (.vddSafeLoss dt) s = .next t ∧ t.power.safeLow = true ∧ t.power.huskFail = true ∧ t.rb 0x00300000 24 = true
      ∧ t.power.pwrgood = u.power.pwrgood ∧ t.now = u.now ∧ t.recs = { u.recs with heldCnt := [], ranDom := [] } ∧ t.pending = u.pending ∧ t.hostMem = u.hostMem ∧ (∀ a, tget 0 t.mem a = 0)
      ∧ (∀ k, aonHeld false k = false → k ≠ 0x00180000 → k ≠ 0x00300000 → t.rd k = regReset k % 2 ^ 32)
      ∧ (∀ k, aonHeld false k = true → k ≠ 0x00200004 → t.rd k = u.rd k))
  ∧ (∀ (dt : Nat) (s u : State), u = s.tick dt → u.power.safeLow = true →
    ∃ t : State, t.power = { u.power with safeLow := false } ∧ Frame [.power] [] u t
      ∧ exec (.vddSafeReturn dt) s = .next (if u.power.pwrgood && !u.power.aonLow then t.coldStart else t))
  ∧ (∀ (dt : Nat) (s u : State), u = s.tick dt → ∃ t : State, exec (.vddAonLoss dt) s = .next t ∧ t.now = 0 ∧ t.recs = {} ∧ t.power.aonLow = true
      ∧ t.power.pwrgood = u.power.pwrgood ∧ t.power.safeLow = u.power.safeLow ∧ t.rd 0x0020004C = u.rd 0x0020004C
      ∧ (∀ k, k ≠ 0x00180000 → k ≠ 0x0020004C → t.rd k = regReset k % 2 ^ 32) ∧ (∀ a, tget 0 t.mem a = 0) ∧ t.hostMem = u.hostMem ∧ t.pending = u.pending)
  ∧ (∀ (dt : Nat) (s u : State), u = s.tick dt → u.power.aonLow = true →
    ∃ t : State, t.power = { u.power with aonLow := false, goodAt := u.now } ∧ Frame [.power] [] u t
      ∧ exec (.vddAonReturn dt) s = .next (if u.power.pwrgood && !u.power.safeLow then t.coldStart else t))
  ∧ (∀ (dt : Nat) (s u : State), u = s.tick dt →
    (u.power.safeLow = false → exec (.vddSafeReturn dt) s = .next u) ∧ (u.power.aonLow = false → exec (.vddAonReturn dt) s = .next u))
  ∧ (∀ (dt : Nat) (s u : State), u = (s.tick dt).startGo → u.start.list = [] → u.start.step = 33 →
    ∃ t : State, exec (.startFull dt) s = .next t ∧ t.rf 0x00200000 31 28 = 4 ∧ t.rf 0x00200000 27 22 = u.rf 0x00200000 27 22
      ∧ t.rd 0x0020000C = min (2 ^ 32 - 1) ((u.now - u.start.since) / 1000) ∧ t.power.huskFail = false ∧ t.start.step = 0 ∧ t.start.returning = false
      ∧ t.start.recDue = some (u.now + 900000000000) ∧ t.husk.failed = 0 ∧ t.husk.retryAt = none ∧ t.now = u.now ∧ t.pending = u.pending)
  ∧ (∀ (dt : Nat) (s u : State), u = (s.tick dt).startGo → (u.start.list ≠ [] ∨ u.start.step ≠ 33) → exec (.startFull dt) s = .next u)
  ∧ (∀ (dt : Nat) (hosts : List HostRun) (s u : State), u = s.tickMem dt hosts → 1 ≤ u.start.step → u.start.step ≤ 33 → u.rb 0x00200000 25 = false →
    u.start.since + 2000000000 ≤ u.now →
    (u.start.returning = true → exec (.startTimeout dt hosts) s = .next (u.degradedEnter hosts))
    ∧ (u.start.returning = false → ∃ w t, (∀ k, u.activeSlot = some k → w = u.wb 0x00200004 (29 - k) true) ∧ (u.activeSlot = none → w = u)
      ∧ ResetFrom false w t ∧ exec (.startTimeout dt hosts) s = .next t.coldStart))

/-- A beat counts and clears the misses of its Husk. A missed beat counts; with both Husks lost degraded mode is entered, and otherwise
the running partner restarts the lost one when its misses are due. A lockstep mismatch halts a Husk. A faulted unit is reset by a running
Husk and the restart is reported, or it is given up and reads OFFLINE; the manager cores are reset together. Degraded mode holds
HUSK_FAIL_N low with AON, PIP and AUDIO ON, and its retry time begins a start. -/
def Obligations.Supervision : Prop :=
  (∀ (dt b : Nat) (s u : State), u = s.tick dt →
    (u.huskState b = 0 → u.husk.degraded = false →
      ∃ t : State, exec (.huskHeartbeat dt b) s = .next t ∧ t.rd (0x00300008 + 4 * b) = (u.rd (0x00300008 + 4 * b) + 1) % 2 ^ 32 ∧ t.missed b = 0
        ∧ Frame [.husk] [0x00300008 + 4 * b] u t)
    ∧ ((u.huskState b ≠ 0 ∨ u.husk.degraded = true) → exec (.huskHeartbeat dt b) s = .next u))
  ∧ (∀ (dt b : Nat) (hosts : List HostRun) (s u : State), u = s.tickMem dt hosts → u.watched = true → u.excused b = false →
    ∃ w, w.missed b = satAdd 32 (u.missed b) 1 ∧ Frame [.husk] [0x00300010] u w
      ∧ w.rf 0x00300010 (if b = 0 then 15 else 31) (if b = 0 then 0 else 16) = min 65535 (u.rf 0x00300010 (if b = 0 then 15 else 31) (if b = 0 then 0 else 16) + 1)
      ∧ (w.huskLost 0 = true → w.huskLost 1 = true → exec (.huskBeatMissed dt b hosts) s = .next (w.degradedEnter hosts))
      ∧ ((w.huskLost 0 && w.huskLost 1) = false → (if b = 0 then 4 else 3) ≤ w.missed b → tget [] u.husk.restarts (u.huskUnit b) = [] → u.huskState (1 - b) = 0 →
          u.huskState b ≠ 3 → (u.unit (u.huskUnit b)).resetBusy = false → exec (.huskBeatMissed dt b hosts) s = .next (w.huskRestart b))
      ∧ ((w.huskLost 0 && w.huskLost 1) = false → (w.missed b < (if b = 0 then 4 else 3) ∨ u.huskState (1 - b) ≠ 0 ∨ u.huskState b = 3) →
          exec (.huskBeatMissed dt b hosts) s = .next w))
  ∧ (∀ (dt b : Nat) (hosts : List HostRun) (s u : State), u = s.tickMem dt hosts → (u.watched = false ∨ u.excused b = true) → exec (.huskBeatMissed dt b hosts) s = .next u)
  ∧ (∀ (b : Nat) (u : State), b < 2 →
    ((u.inWin (tget [] u.husk.restarts (u.huskUnit b))).length < u.restartMax →
      u.huskRestart b = ((u.unitReset (u.huskUnit b)).setHusk b 1).restartNote 2 (u.huskUnit b))
    ∧ (u.restartMax ≤ (u.inWin (tget [] u.husk.restarts (u.huskUnit b))).length → (u.huskRestart b).huskState b = 3))
  ∧ (∀ (dt b : Nat) (s u : State), u = s.tick dt → u.husk.degraded = false → (u.huskState b = 0 ∨ u.huskState b = 4) →
    ∃ t : State, exec (.huskLockstepMismatch dt b) s = .next t ∧ t.huskState b = 2 ∧ (t.unit (u.huskUnit b)).lastStatus = Status.fault.code ∧ Frame [.husk, .pods] [0x00300000] u t)
  ∧ (∀ (dt k why : Nat) (s u : State), u = s.tick dt → k ≠ 0 → k < u.row.unitCount → (u.unit k).health ≤ 1 → (u.unit k).resetBusy = false →
    ∃ t : State, exec (.unitFault dt k why) s = .next t ∧ (t.unit k).health = 2 ∧ (t.unit k).lastStatus = why ∧ (∀ j, j ≠ k → t.unit j = u.unit j)
      ∧ t.seed = u.seed ∧ t.power = u.power ∧ t.husk = u.husk ∧ t.now = u.now)
  ∧ (∀ (dt k kind i : Nat) (s u : State), u = s.tick dt → k ≠ 0 → u.huskUp = true → (u.unit k).health = 2 → (u.unit k).resetBusy = false →
    u.rb (domainReg (u.unitDom k) 4) 26 = false → tget 0 u.power.offRails (domainRail (u.unitDom k)) = 0 → u.unitAt k = some (kind, i) →
    (kind ≠ 0x12 → u.restartMax ≤ (u.inWin (tget [] u.husk.restarts k)).length → exec (.huskUnitRecovery dt k) s = .next (u.giveUp k))
    ∧ (kind ≠ 0x12 → kind ≠ 0x10 → (u.inWin (tget [] u.husk.restarts k)).length < u.restartMax →
      exec (.huskUnitRecovery dt k) s = .next ((u.unitReset k).restartNote 1 k))
    ∧ (kind = 0x10 → (u.inWin (tget [] u.husk.restarts k)).length < u.restartMax → exec (.huskUnitRecovery dt k) s = .next (u.mgrReset.restartNote 3 k))
    ∧ (kind = 0x12 → exec (.huskUnitRecovery dt k) s = .next (if u.huskState (1 - i) = 0 then u.huskRestart i else u)))
  ∧ (∀ (k : Nat) (u : State), ((u.giveUp k).unit k).gaveUp = true ∧ ((u.giveUp k).unit k).health = 4)
  ∧ (∀ (dt k : Nat) (s u : State), u = s.tick dt → u.huskUp = true → u.mgrDown = false → u.unitIndex 0x10 0 = some k → (u.unit k).slotActive ≠ 0 → (u.unit k).gaveUp = false →
    exec (.managerBeatMissed dt) s = .next (if u.restartMax ≤ (u.inWin (tget [] u.husk.restarts k)).length then u.giveUp k else u.mgrReset.restartNote 3 k))
  ∧ (∀ (hosts : List HostRun) (u t : State), t = u.degradedEnter hosts →
    t.husk.degraded = true ∧ t.power.huskFail = true ∧ t.rb 0x00300000 24 = true ∧ t.domainState 0 = 3 ∧ t.domainState 3 = 3 ∧ t.domainState 20 = 3
      ∧ t.husk.retryAt = (if bits u.pip.config 455 440 = 0 then none
          else some (u.now + min 3600 (bits u.pip.config 455 440 * 2 ^ min (if u.start.returning then u.husk.failed + 1 else 0) 12) * 1000000000)))
  ∧ (∀ (dt x : Nat) (s u : State), u = s.tick dt → u.husk.retryAt = some x →
    (u.husk.degraded = true → x ≤ u.now → ∃ t : State, exec (.degradedRetry dt) s = .next t.startBegin ∧ t.husk.degraded = false ∧ t.husk.retryAt = none
      ∧ t.start.returning = true ∧ t.rb 0x00300000 25 = true ∧ t.pods.pfQueue = [] ∧ Frame [.husk, .start, .pods] [0x00300000] u t)
    ∧ ((u.husk.degraded = false ∨ u.now < x) → exec (.degradedRetry dt) s = .next u))

/-- 10 ms after its fault a domain is raised again once with its faulted units, and the restart is reported; a second fault within WIN_S
leaves its units OFFLINE. A shut rail is cleared 100 ms after its over-voltage in the same way. In degraded mode a lost Pip lane is reset,
and its second loss within 60 s stops the degraded outputs. Out of it a lockstep mismatch is reported and the lane restarts, with no
sprites while the store is reloaded; the reload ends with the sprites of the active slot. -/
def Obligations.DomainAndPipRecovery : Prop :=
  (∀ (dt d x : Nat) (older : List Nat) (s u : State), u = s.tick dt → tget [] u.power.domFaults d = x :: older → u.huskUp = true → u.rb (domainReg d 4) 26 = true →
    (u.now < x + 10000000 → exec (.domainFaultRetry dt d) s = .next u)
    ∧ (x + 10000000 ≤ u.now → (older.any fun o => decide (x < o + u.restartWin)) = true →
      ∃ t : State, exec (.domainFaultRetry dt d) s = .next t ∧ ∀ k ∈ u.domainUnits d, (t.unit k).gaveUp = true ∧ (t.unit k).health = 4)
    ∧ (x + 10000000 ≤ u.now → (older.any fun o => decide (x < o + u.restartWin)) = false →
      ∃ w, w.rb (domainReg d 4) 26 = false ∧ (d ∈ w.power.waiting ∨ ∃ r ∈ w.power.raising, r.d = d) ∧ Frame [.power] [domainReg d 4] u w
        ∧ exec (.domainFaultRetry dt d) s = .next ((w.domainRestart d).restartNote 4 (u.domainFirst d))))
  ∧ (∀ (dt rail x : Nat) (older ds : List Nat) (s u : State), u = s.tick dt → tget [] u.power.railFaults rail = x :: older → u.huskUp = true → u.rb (railReg rail 8) 31 = true →
    ds = (railDomains rail).filter (fun d => !u.domainAbsent d) →
    (u.now < x + 100000000 → exec (.railRecovery dt rail) s = .next u)
    ∧ (x + 100000000 ≤ u.now → (older.any fun o => decide (x < o + u.restartWin)) = true →
      ∃ t : State, exec (.railRecovery dt rail) s = .next t ∧ ∀ d ∈ ds, ∀ k ∈ u.domainUnits d, (t.unit k).gaveUp = true ∧ (t.unit k).health = 4)
    ∧ (x + 100000000 ≤ u.now → (older.any fun o => decide (x < o + u.restartWin)) = false →
      ∃ w v, w = u.railClear rail ∧ w.rb (railReg rail 8) 31 = false ∧ tget 0 w.power.offRails rail = 0
        ∧ v = ds.foldl (fun s d => (s.domainSettle d).domainRestart d) w ∧ exec (.railRecovery dt rail) s = .next (v.restartNote 5 (v.domainFirst (ds.headD 0)))))
  ∧ (∀ (dt : Nat) (s u : State), u = s.tick dt → u.husk.degraded = true →
    ∃ w, w.husk.pipLost = u.now :: u.husk.pipLost ∧ w.rb 0x00300020 31 = false ∧ w.rf 0x00300020 7 0 = min 255 (u.rf 0x00300020 7 0 + 1)
      ∧ Frame [.husk] [0x00300020] u w
      ∧ ((u.husk.pipLost.any fun t => decide (u.now < t + 60000000000)) = false → w.husk.stopped = u.husk.stopped
          ∧ exec (.pipBeatMissed dt) s = .next (w.unitReset u.pipUnit))
      ∧ ((u.husk.pipLost.any fun t => decide (u.now < t + 60000000000)) = true → w.husk.stopped = true
          ∧ exec (.pipBeatMissed dt) s = .next ((w.unitReset u.pipUnit).degradedOuts.foldl (fun s p => if s.pipeState p = 0 then s else s.pipeRelease p) (w.unitReset u.pipUnit))))
  ∧ (∀ (dt : Nat) (s u : State), u = s.tick dt → u.husk.degraded = false → exec (.pipBeatMissed dt) s = .next u)
  ∧ (∀ (dt : Nat) (store : Bool) (s u : State), u = s.tick dt →
    (u.huskUp = true → ∃ t : State, exec (.pipLockstepMismatch dt store) s = .next t ∧ t.rb 0x00300020 31 = false ∧ t.rf 0x00300020 7 0 = min 255 (u.rf 0x00300020 7 0 + 1)
      ∧ t.rb 0x00300020 30 = (store || u.pipStoreBad || u.rb 0x00300020 30) ∧ t.husk.reload = (store || u.pipStoreBad || u.husk.reload) ∧ (t.unit u.pipUnit).resetBusy = true)
    ∧ (u.huskUp = false → exec (.pipLockstepMismatch dt store) s = .next u))
  ∧ (∀ (dt : Nat) (s u : State), u = s.tick dt →
    (u.husk.reload = false → exec (.pipReloadDone dt) s = .next u)
    ∧ (u.husk.reload = true →
      match imgEntry u.activeRead 0x03, imgEntry u.activeRead 0x05 with
      | some e, some f =>
        (match readRecord u.activeRead e, readRecord u.activeRead f with
        | .ok _, .ok b => ∃ t : State, exec (.pipReloadDone dt) s = .next t ∧ t.pip.sprites = b ∧ t.husk.reload = false ∧ t.rb 0x00300020 30 = false
            ∧ t.rf 0x00300020 15 8 = min 64 t.iconCount ∧ (∀ k, u.unitAt k = some (0x13, 0) → (t.unit k).slotActive = 1 ∧ (t.unit k).fw = deVersion e)
        | _, _ => exec (.pipReloadDone dt) s = .next u)
      | _, _ => exec (.pipReloadDone dt) s = .next u))

/-- A START_CMD of a normal requester outside RECOVERY reads DENIED, and one that nothing else refuses reads BUSY while a SHUTDOWN runs.
CONFIRM raises the rollback level to the active slot's, CLEAR_MARKS clears the TRIED_BAD marks, PSET_FLUSH writes the settings, SHUTDOWN
both areas, and shows its phase when they are written; RESTART resets and starts the device. The settings are written MIN_S after a change
and the recorder every 15 minutes. An area that is written shows its sequence number and PSET_WRITTEN; one that fails is counted, reported
and tried again. -/
def Obligations.StartCommandsAndWriteBack : Prop :=
  (∀ (dt : Nat) (r : Req) (i : Instr) (s u : State), u = s.tick dt → pathWin r.path = pfWin →
    (i = .confirm dt r ∨ i = .shutdown dt r ∨ i = .psetFlush dt r ∨ i = .startCmdRestart dt r ∨ i = .clearMarks dt r) →
    (u.reqSecure r = false → u.rf 0x00200000 31 28 ≠ 5 → exec i s = .next (u.wf 0x00200024 22 16 Status.denied.code))
    ∧ ((u.reqSecure r = true ∨ u.rf 0x00200000 31 28 = 5) → u.rb 0x00200024 0 = true →
      ((i = .confirm dt r ∨ i = .psetFlush dt r) → u.activeSlot ≠ none) → (i = .shutdown dt r → u.rb 0x00200030 31 = false) →
      exec i s = .next (u.wf 0x00200024 22 16 Status.busy.code)))
  ∧ (∀ (dt : Nat) (r : Req) (s u : State), u = s.tick dt → pathWin r.path = pfWin → (u.reqSecure r = true ∨ u.rf 0x00200000 31 28 = 5) → u.rb 0x00200024 0 = false →
    (u.activeSlot ≠ none → ∃ t : State, exec (.confirm dt r) s = .next t ∧ t.start.rollback = max u.start.rollback (u.rf 0x00200018 7 0)
      ∧ t.rf 0x00200018 15 8 = max u.start.rollback (u.rf 0x00200018 7 0) % 256 ∧ t.rf 0x00200024 22 16 = Status.ok.code ∧ Frame [.start] [0x00200018, 0x00200024] u t)
    ∧ (u.activeSlot = none → exec (.confirm dt r) s = .next (u.wf 0x00200024 22 16 Status.badState.code)
      ∧ exec (.psetFlush dt r) s = .next (u.wf 0x00200024 22 16 Status.badState.code))
    ∧ (∃ t : State, exec (.clearMarks dt r) s = .next t ∧ t.rf 0x00200004 29 28 = 0 ∧ t.rf 0x00200024 22 16 = Status.ok.code ∧ Frame [] [0x00200004, 0x00200024] u t)
    ∧ (∃ t : State, ResetFrom false u t ∧ exec (.startCmdRestart dt r) s = .next t.coldStart)
    ∧ (u.rb 0x00200030 31 = true → exec (.shutdown dt r) s = .next (u.wf 0x00200024 22 16 Status.badState.code))
    ∧ (u.activeSlot ≠ none → u.husk.degraded = false → u.start.writes = [] → u.start.writing = none → u.start.nvm = none → u.rb 0x00200030 31 = false →
      (∃ t : State, exec (.psetFlush dt r) s = .next t ∧ t.start = { u.start with writing := some 1, psetDue := none } ∧ t.rf 0x00200024 22 16 = Status.ok.code
        ∧ Frame [.start] [0x00200024] u t)
      ∧ (∃ t : State, exec (.shutdown dt r) s = .next t ∧ t.start = { u.start with writing := some 1, writes := [2], psetDue := none, shutdown := some u.now }
        ∧ t.rb 0x00200024 0 = true ∧ Frame [.start] [0x00200024] u t)))
  ∧ (∀ (dt : Nat) (s u : State), u = s.tick dt → u.start.shutdown ≠ none →
    (u.start.writing = none → u.start.writes = [] → ∃ t : State, exec (.shutdownDone dt) s = .next t ∧ t.rf 0x00200000 31 28 = 6 ∧ t.rb 0x00200024 0 = false
      ∧ t.rf 0x00200024 22 16 = Status.ok.code ∧ t.start = { u.start with shutdown := none } ∧ Frame [.start] [0x00200000, 0x00200024] u t)
    ∧ ((u.start.writing ≠ none ∨ u.start.writes ≠ []) → exec (.shutdownDone dt) s = .next u))
  ∧ (∀ (dt d : Nat) (s u : State), u = s.tick dt → u.activeSlot ≠ none → u.husk.degraded = false → u.start.writes = [] → u.start.writing = none → u.start.nvm = none →
    u.rb 0x00200030 31 = false →
    (u.start.psetDue = some d → d + max 10 (min 3600 (u.rf 0x00200050 11 0)) * 1000000000 ≤ u.now →
      ∃ t : State, exec (.psetWriteDue dt) s = .next t ∧ t.start = { u.start with writing := some 1, psetDue := none } ∧ Frame [.start] [] u t)
    ∧ (u.start.psetDue = some d → u.now < d + max 10 (min 3600 (u.rf 0x00200050 11 0)) * 1000000000 → exec (.psetWriteDue dt) s = .next u)
    ∧ (u.start.recDue = some d → d ≤ u.now →
      ∃ t : State, exec (.recorderFlush dt) s = .next t ∧ t.start = { u.start with writing := some 2, recDue := some (d + 900000000000) } ∧ Frame [.start] [] u t)
    ∧ (u.start.recDue = some d → u.now < d → exec (.recorderFlush dt) s = .next u))
  ∧ (∀ (dt : Nat) (ok : Bool) (s u : State), u = s.tick dt → u.start.writing = none → exec (.nvmWrite dt ok) s = .next u)
  ∧ (∀ (dt area seq : Nat) (ok : Bool) (p : PsetRec) (recs b : Bytes) (s u v : State), u = s.tick dt → u.start.writing = some area → u.psetNow = (p, v) →
    recs = (if area = 1 then psetBytes v.row p else v.recBytes) → seq = ((match u.areaBest area with | some x => x.1 | none => 0) + 1) % 2 ^ 64 →
    b = areaBytes area seq (if area = 1 then 6 else 256) recs →
    match u.writePlace area with
    | none => exec (.nvmWrite dt ok) s = .next (u.mStart fun t => { t with writing := none }).nextWrite
    | some (k, a, n) =>
      if ok = true ∧ b.length ≤ n then
        ∃ t : State, exec (.nvmWrite dt ok) s = .next (t.emitPf 0x1B .ok (area * 2 ^ 28 + (k + 1) * 2 ^ 26 + seq % 2 ^ 26)).nextWrite ∧ t.start.writing = none ∧ area ∉ t.start.failed
          ∧ t.start.flash = (((v.flashErase a n).mStart fun t => { t with writing := none }).flashPut a b).start.flash
          ∧ (area = 1 → t.start.pset = p ∧ t.rd64 0x00200058 = seq ∧ t.rf 0x00200054 15 0 = min 65535 (u.rf 0x00200054 15 0 + 1))
          ∧ Frame [.free, .start] [0x00200054, 0x00200058, 0x0020005C] u t
      else
        ∃ t : State, exec (.nvmWrite dt ok) s = .next (t.emitPf 0x1C .fault (area * 2 ^ 28 + (k + 1) * 2 ^ 26 + seq % 2 ^ 26)).nextWrite ∧ t.start.writing = none
          ∧ (area ∉ u.start.failed → area ∈ t.start.failed) ∧ (area = 1 → t.rf 0x00200054 31 16 = min 65535 (u.rf 0x00200054 31 16 + 1))
          ∧ Frame [.free, .start] [0x00200054] u t)

/-- Releasing HOST_OWN asks for both areas to be written. An ERASE, PROGRAM or READ whose checks pass is BUSY with its operands; without
HOST_OWN it reads BAD_STATE, misaligned or out of the flash BAD_PARAM, and over a kept range DENIED. At its end ERASE leaves its range
erased, PROGRAM stores the bytes of the buffer, and READ stores those of the flash; a failed one reads FAULT. -/
def Obligations.FlashCommands : Prop :=
  (∀ (dt : Nat) (r : Req) (v : Word) (s u : State), u = s.tick dt → pathWin r.path = pfWin →
    (¬ (u.rb 0x00200030 31 = true ∧ bit v.toNat 31 = false) → exec (.hostOwnWrite dt r v) s = .next (u.wb 0x00200030 31 (bit v.toNat 31)))
    ∧ (u.rb 0x00200030 31 = true → bit v.toNat 31 = false → u.activeSlot ≠ none → u.husk.degraded = false → u.start.writes = [] → u.start.writing = none → u.start.nvm = none →
      ∃ t : State, exec (.hostOwnWrite dt r v) s = .next t ∧ t.start = { u.start with writing := some 1, writes := [2], psetDue := none } ∧ t.rb 0x00200030 31 = false
        ∧ Frame [.start] [0x00200030] u t))
  ∧ (∀ (dt op len a n : Nat) (r : Req) (o : NvmOp) (i : Instr) (bad recovery : Bool) (s u : State), u = s.tick dt → pathWin r.path = pfWin →
    ((op = 1 ∧ i = .nvmErase dt r len) ∨ (op = 2 ∧ i = .nvmProgram dt r len) ∨ (op = 3 ∧ i = .nvmRead dt r len)) →
    o = ⟨op, u.rd 0x00200038, u.rd64 0x00200040, len⟩ → (a, n) = u.nvmRange o → recovery = (u.rf 0x00200000 31 28 == 5) →
    bad = (if op = 1 then o.addr % 4096 != 0 || len == 0 else o.addr % 256 != 0 || len % 256 != 0 || o.buf % 256 != 0) →
    (u.rb 0x00200030 31 = true → bad = false → a + n ≤ u.flashSize → u.start.writing = none → u.start.nvm = none →
      (recovery = true ∨ ((op = 3 ∨ ∀ k ∈ u.nvmKept, overlap a n k.1 k.2 = false) ∧ u.rcDenied 3 (u.reqAttr r) (if op = 3 then 4 else 2) a n = none)) →
      ∃ t : State, exec i s = .next t ∧ t.rb 0x00200048 0 = true ∧ t.start = { u.start with nvm := some o } ∧ Frame [.start] [0x00200048] u t)
    ∧ (recovery = true → u.rb 0x00200030 31 = false → exec i s = .next (u.wf 0x00200048 22 16 Status.badState.code))
    ∧ (recovery = true → u.rb 0x00200030 31 = true → (bad = true ∨ u.flashSize < a + n) → exec i s = .next (u.wf 0x00200048 22 16 Status.badParam.code))
    ∧ (recovery = true → u.rb 0x00200030 31 = true → bad = false → a + n ≤ u.flashSize → u.start.nvm ≠ none → exec i s = .next (u.wf 0x00200048 22 16 Status.busy.code))
    ∧ (recovery = false → op ≠ 3 → (∃ k ∈ u.nvmKept, overlap a n k.1 k.2 = true) → (bad = true ∨ u.flashSize < a + n) →
      exec i s = .next (u.wf 0x00200048 22 16 Status.denied.code)))
  ∧ (∀ (dt a n : Nat) (ok : Bool) (hosts : List HostRun) (o : NvmOp) (s u v : State), u = s.tickMem dt hosts → u.start.nvm = some o → (a, n) = u.nvmRange o →
    v = (u.wb 0x00200048 0 false).mStart (fun t => { t with nvm := none }) →
    (o.op = 1 → exec (.nvmCmdDone dt ok hosts) s = .next (((if ok then v.flashErase a n else v.flashFree a n).nvmResult (if ok then .ok else .fault)).nextWrite))
    ∧ (o.op = 3 → ∀ b g x, v.flashRead a n = some b → v.store pfWin 6 o.buf b = (g, x) →
      exec (.nvmCmdDone dt ok hosts) s = .next (x.nvmResult (if g then .ok else .fault)).nextWrite)
    ∧ (o.op = 3 → v.flashRead a n = none → exec (.nvmCmdDone dt ok hosts) s = .next (v.nvmResult .fault).nextWrite)
    ∧ (o.op = 2 → ∀ b x, v.fetch pfWin 6 o.buf n (runAt hosts pfWin o.buf n) = (some b, x) →
      exec (.nvmCmdDone dt ok hosts) s = .next (((if ok then x.flashPut a b else x.flashFree a n).nvmResult (if ok then .ok else .fault)).nextWrite))
    ∧ (o.op = 2 → ∀ x, v.fetch pfWin 6 o.buf n (runAt hosts pfWin o.buf n) = (none, x) → exec (.nvmCmdDone dt ok hosts) s = .next (x.nvmResult .fault).nextWrite))
  ∧ (∀ (dt : Nat) (ok : Bool) (hosts : List HostRun) (s u : State), u = s.tickMem dt hosts → u.start.nvm = none → exec (.nvmCmdDone dt ok hosts) s = .next u)
  ∧ (∀ (a n k : Nat) (u : State), tget 0xFF (u.flashErase a n).start.flash k = if a ≤ k ∧ k < a + n then 0xFF else tget 0xFF u.start.flash k)

/-- A LOAD whose checks pass is BUSY with its package; a package that cannot be read ends it with FAULT and UPDATE_FAILED, and one that
passes fills the inactive slots of the units it serves. ACTIVATE and REVERT name the slot as PENDING, and a Husk reads UPDATING; the
hand-over makes the slot the active one and remembers the one before, and a hand-over that times out leaves the units in their slots. A
normal requester may not update a safe unit, one command runs at a time, and none is taken while the device goes to sleep or shuts down.
MOVE starts a spare pipe beside a running one, which takes its place 1 s later at the latest. -/
def Obligations.Updates : Prop :=
  (∀ (dt k : Nat) (r : Req) (s u : State), u = s.tick dt → pathWin r.path = pfWin → (u.reqSecure r = true ∨ (u.updUnits k).any u.safeUnit = false) →
    (∀ x ∈ k :: u.updUnits k, u.claimBlocks x (u.reqSecure r) = false) → (k = 0 ∨ u.updUnits k ≠ []) → u.rd64 0x00200100 % 64 = 0 → u.noWork = false →
    (u.start.upd = none → ∃ t : State, exec (.load dt r k) s = .next t ∧ t.rb 0x00200114 0 = true
      ∧ t.start = { u.start with upd := some { op := 1, index := k, at_ := u.now, addr := u.rd64 0x00200100, len := u.rd 0x00200108, secure := u.reqSecure r } }
      ∧ Frame [.start] [0x00200114] u t)
    ∧ (u.start.upd ≠ none → exec (.load dt r k) s = .next (u.wf 0x00200114 22 16 Status.busy.code)))
  ∧ (∀ (dt k : Nat) (r : Req) (i : Instr) (s u : State), u = s.tick dt → pathWin r.path = pfWin → u.reqSecure r = false → (u.updUnits k).any u.safeUnit = true →
    (i = .load dt r k ∨ i = .activate dt r k ∨ i = .revert dt r k) → exec i s = .next (u.wf 0x00200114 22 16 Status.denied.code))
  ∧ (∀ (dt : Nat) (hosts : List HostRun) (o : UpdOp) (x : State) (b : Option Bytes) (s u : State), u = s.tickMem dt hosts → u.start.upd = some o → o.op = 1 →
    u.fetch pfWin 6 o.addr o.len (runAt hosts pfWin o.addr o.len) = (b, x) →
    match b with
    | none => exec (.updateLoaded dt hosts) s = .next (x.updFail o .fault)
    | some c =>
      match imgFault x.start.rollback x.row.code o.len true (fun a n => if o.len < a + n then none else some ((c.drop a).take n)) with
      | some code => exec (.updateLoaded dt hosts) s = .next (x.updFail o (statusOf code))
      | none =>
        match packageRecords (fun a n => if o.len < a + n then none else some ((c.drop a).take n)) with
        | .error st => exec (.updateLoaded dt hosts) s = .next (x.updFail o st)
        | .ok recs => ∀ todo, todo = (recs.flatMap fun y => ((x.unitsOf y.1).filter fun k => o.index == 0 || (x.updUnits o.index).contains k).map fun k => (k, y.2)) →
          (o.secure = true ∨ ∀ y ∈ todo, x.safeUnit y.1 = false) → (∀ y ∈ todo, x.claimBlocks y.1 o.secure = false) → todo ≠ [] →
          ∃ t : State, exec (.updateLoaded dt hosts) s = .next (t.emitPf 0x1D .ok ((todo.headD (0, 0)).2 * 2 ^ 16 + o.index)) ∧ t.rb 0x00200114 0 = false
            ∧ t.rf 0x00200114 22 16 = Status.ok.code ∧ t.start.upd = none ∧ (∀ k, (∀ y ∈ todo, y.1 ≠ k) → t.unit k = x.unit k)
            ∧ (∀ y, todo = [y] → (t.unit y.1).slotVer (x.unit y.1).otherSlot = y.2 ∧ (t.unit y.1).slotActive = (x.unit y.1).slotActive))
  ∧ (∀ (dt k op slot : Nat) (r : Req) (i : Instr) (s u : State), u = s.tick dt → pathWin r.path = pfWin →
    ((op = 2 ∧ i = .activate dt r k ∧ slot = (u.unit k).otherSlot) ∨ (op = 3 ∧ i = .revert dt r k ∧ slot = tget 0 u.start.ran k)) →
    (u.reqSecure r = true ∨ (u.updUnits k).any u.safeUnit = false) →
    ((u.noWork = true ∨ u.updUnits k = [] ∨ slot = 0 ∨ (u.unit k).slotVer slot = 0 ∨ u.partnerOk k = false) → exec i s = .next (u.wf 0x00200114 22 16 Status.badState.code))
    ∧ ((∀ x ∈ k :: u.updUnits k, u.claimBlocks x (u.reqSecure r) = false) → u.updUnits k ≠ [] → slot ≠ 0 → (u.unit k).slotVer slot ≠ 0 → u.partnerOk k = true → u.start.upd = none → u.noWork = false →
      ∃ t : State, exec i s = .next t ∧ (∀ x ∈ u.updUnits k, (t.unit x).slotPending = slot ∧ (t.unit x).slotActive = (u.unit x).slotActive)
        ∧ (∀ x, x ∉ u.updUnits k → t.unit x = u.unit x) ∧ t.rb 0x00200114 0 = true
        ∧ t.start.upd = some { op := op, index := k, slot := slot, at_ := u.now, secure := u.reqSecure r }
        ∧ (∀ b, u.unitAt k = some (0x12, b) → t.huskState b = 4) ∧ Frame [.start, .pods, .husk] [0x00200114, 0x00300000] u t))
  ∧ (∀ (dt pause : Nat) (o : UpdOp) (s u : State), u = s.tick dt → u.start.upd = some o → (o.op = 2 ∨ o.op = 3) →
    (pause ≤ u.pauseMax o.index → u.handPoint o.index = true →
      ∃ t : State, exec (.handoverDone dt pause) s = .next (t.emitPf 0x1E .ok (min 65535 pause * 2 ^ 16 + o.index))
        ∧ (∀ x ∈ u.updUnits o.index, (t.unit x).slotActive = o.slot ∧ (t.unit x).fw = (u.unit x).slotVer o.slot ∧ (t.unit x).slotPending = 0
            ∧ tget 0 t.start.ran x = (u.unit x).slotActive)
        ∧ (∀ x, x ∉ u.updUnits o.index → t.unit x = u.unit x) ∧ t.start.upd = none ∧ t.rb 0x00200114 0 = false ∧ t.rf 0x00200114 22 16 = Status.ok.code
        ∧ (∀ b, u.unitAt o.index = some (0x12, b) → t.huskState b = if u.huskState b = 4 then 0 else u.huskState b)
        ∧ Frame [.start, .pods, .husk] [0x00200114, 0x00300000, 0x00200000] u t)
    ∧ ((u.pauseMax o.index < pause ∨ u.handPoint o.index = false) → exec (.handoverDone dt pause) s = .next u)
    ∧ (o.begun.getD o.at_ + u.pauseMax o.index * 1000 ≤ u.now → u.handPoint o.index = true →
      ∃ t : State, exec (.updateFailed dt) s = .next (t.emitPf 0x1F .timeout (o.op * 2 ^ 28 + o.index))
        ∧ (∀ x ∈ u.updUnits o.index, (t.unit x).slotActive = (u.unit x).slotActive ∧ (t.unit x).fw = (u.unit x).fw ∧ (t.unit x).slotPending = 0)
        ∧ t.start.upd = none ∧ t.rb 0x00200114 0 = false ∧ t.rf 0x00200114 22 16 = Status.timeout.code ∧ Frame [.start, .pods, .husk] [0x00200114, 0x00300000] u t)
    ∧ ((u.now < o.begun.getD o.at_ + u.pauseMax o.index * 1000 ∨ u.handPoint o.index = false) → exec (.updateFailed dt) s = .next u))
  ∧ (∀ (dt k v p q need : Nat) (r : Req) (c : PipeCfg) (bufs : List (List Nat)) (s u x : State), u = s.tick dt → pathWin r.path = pfWin → v = u.rf 0x00200110 11 0 →
    u.unitAt k = some (0x20, q) → u.unitAt v = some (0x20, p) → c = u.spareCfg q (u.pipe p).cfg → need = scanoutNeed (c.pixelHz 0) c.bpp →
    u.claimBlocks k (u.reqSecure r) = false → u.claimBlocks v (u.reqSecure r) = false → (u.unit k).spare = true → p ≠ q → u.pipeState q = 0 → (u.pipe q).checks = 0 →
    u.pipeState p = 2 → (u.pipe p).next = none → u.start.upd = none → u.noWork = false →
    ((List.range 16).all fun i => !(i != q && u.pipeState i != 0 && (u.pipe i).cfg.pll == c.pll && (u.pipe i).cfg.pllOut == c.pllOut)) = true →
    u.bwFits 0 (u.rf (bwKey 0 0) 15 0 + u.rf (bwKey 0 1) 15 0 + need) = true → u.placeStore p (storeChunks c.hActive c.vActive c.bpp) c.buffers = some (bufs, x) →
    ∃ t : State, exec (.move dt r k) s = .next t ∧ t.start.upd = some { op := 4, index := k, at_ := x.now, secure := u.reqSecure r } ∧ t.rb 0x00200114 0 = true
      ∧ (t.pipe q).spareOf = some p ∧ (t.pipe q).cfg = c ∧ t.pipeState q = 1 ∧ t.pipeState p = x.pipeState p)
  ∧ (∀ (dt p q : Nat) (o : UpdOp) (s u : State), u = s.tick dt → u.moving = some (p, q, o) → o.at_ + 1000000000 ≤ u.now → (u.pipe p).moveTo = none →
    (u.pipeState p = 2 → ∃ t : State, exec (.spareLockTimeout dt) s = .next t ∧ (t.pipe p).moveTo = some q ∧ (∀ i, i ≠ p → t.pipe i = u.pipe i) ∧ Frame [.display] [] u t)
    ∧ (u.pipeState p ≠ 2 → exec (.spareLockTimeout dt) s = .next ((u.pipeRelease q).updFail o .badState)))

/-- Enabling a port trains it; training ends at the lanes that work, with PORT_STATE, and taking ENABLE away or 4 µs without a valid flit
takes the port down, with its link. A good flit in sequence moves the sequence on and acknowledges; any other discards until the replay,
and the eighth replay of flits that are still not acknowledged within a ms takes the port down. A device that greets joins at its port
unless its identity is taken, and then the port is refused; it is refused too where no device may be the root, and waits while a number
from the root is due. Beats are noted, and a change of the directory goes with those sent, a node without one for 10 ms is lost, and new
routes take effect as the graph changes. -/
def Obligations.IcvikPortsAndNodes : Prop :=
  (∀ (dt p : Nat) (r : Req) (v : Word) (s u : State), u = s.tick dt → (∀ x, r.path ≠ .vi x) → p < u.row.icvikPorts → u.rb 0x0500000C 0 = false →
    (u.claimedFor 0x82 p r = true → exec (.icvikPortEnable dt r p v) s = .next (u.wf 0x0500000C 22 16 Status.claimed.code))
    ∧ (u.claimedFor 0x82 p r = false →
      (bit v.toNat 31 = true → u.rb (icvPort p 0) 31 = false →
        ∃ t : State, exec (.icvikPortEnable dt r p v) s = .next t ∧ t.icvState p = 1 ∧ t.rd (icvPort p 0) = v.toNat &&& 0xF0000000 ∧ Frame [] [icvPort p 0, icvPort p 4] u t)
      ∧ (bit v.toNat 31 = u.rb (icvPort p 0) 31 →
        ∃ t : State, exec (.icvikPortEnable dt r p v) s = .next t ∧ t.rd (icvPort p 0) = v.toNat &&& 0xF0000000 ∧ Frame [] [icvPort p 0] u t)
      ∧ (bit v.toNat 31 = false → u.rb (icvPort p 0) 31 = true →
        ∃ t : State, t.rd (icvPort p 0) = v.toNat &&& 0xF0000000 ∧ Frame [] [icvPort p 0] u t ∧ exec (.icvikPortEnable dt r p v) s = .next (t.portDown p))))
  ∧ (∀ (p : Nat) (u t : State), p < 4 → u.icvUp p = true → t = u.portDown p →
    t.icvState p = (if u.rb (icvPort p 0) 31 then 1 else 0) ∧ t.rd (icvPort p 0x18) = satAdd 32 (u.rd (icvPort p 0x18)) 1 ∧ t.rd (icvPort p 8) = 0 ∧ t.icv p = {}
      ∧ t.net.edges = u.net.edges.filter fun e => !((e.a == u.myNode && e.ap == p) || (e.b == u.myNode && e.bp == p)))
  ∧ (∀ (dt p lanes most n : Nat) (s u : State), u = s.tick dt → most = 2 ^ min 2 (u.rf (icvPort p 0) 29 28) →
    n = (if 4 ≤ min lanes most then 4 else if 2 ≤ min lanes most then 2 else min 1 (min lanes most)) → u.icvState p = 1 →
    (0 < n → ∃ t : State, exec (.icvikTrainingDone dt p lanes) s = .next (t.emitPf 0xC0 .ok (p * 2 ^ 24 + 2 ^ 16 + n * 2 ^ 8)) ∧ t.icvState p = 2 ∧ t.rf (icvPort p 4) 28 26 = n
      ∧ t.rf (icvPort p 4) 15 0 = lanePayload n ∧ (t.icv p).heardAt = u.now ∧ (t.icv p).rxSeq = 0 ∧ Frame [.net] [icvPort p 4] u t)
    ∧ (n = 0 → exec (.icvikTrainingDone dt p lanes) s = .next u))
  ∧ (∀ (dt p : Nat) (s u : State), u = s.tick dt →
    (u.icvUp p = true → (u.icv p).heardAt + 4000 ≤ u.now → exec (.icvikPortTimeout dt p) s = .next (u.portDown p))
    ∧ ((u.icvUp p = false ∨ u.now < (u.icv p).heardAt + 4000) → exec (.icvikPortTimeout dt p) s = .next u))
  ∧ (∀ (dt p f : Nat) (flit : Bytes) (nak good : Bool) (x : PortSt) (left : List (Nat × Nat)) (s u : State), u = s.tick dt → u.icvUp p = true → f = leNat flit → x = u.icv p →
    good = (crcResult 32 0xFFFFFFFF true (crcFeed 32 0x1EDC6F41 true 0xFFFFFFFF (flit.take 252)) == bits f 2047 2016) →
    left = (if good then ackDrop (bits f 2015 2000) x.unacked else x.unacked) →
    ∃ t y, y = (if good && bits f 1999 1984 == x.rxSeq && bits f 35 24 != u.myNode && u.icvState p == 3 then t.flitTo (bits f 35 24) (bits f 55 52) else t) ∧ Frame [.net] [] u t ∧ (t.icv p).heardAt = (if good then u.now else x.heardAt) ∧ (t.icv p).discard = !(good && bits f 1999 1984 == x.rxSeq)
      ∧ (t.icv p).rxSeq = (if good && bits f 1999 1984 == x.rxSeq then (x.rxSeq + 1) % 2 ^ 16 else x.rxSeq)
      ∧ (t.icv p).unacked = left ∧ (t.icv p).txSeq = x.txSeq
      ∧ (t.icv p).replays = (if good then x.replays.filter fun r => left.any fun c => c.1 == r.2 else x.replays)
      ∧ (nak = false → exec (.flitReceive dt p flit nak) s = .next y)
      ∧ (nak = true → ∃ w, w.rd (icvPort p 0x14) = satAdd 32 (u.rd (icvPort p 0x14)) 1 ∧ Frame [] [icvPort p 0x14] y w
          ∧ ((y.icv p).unacked = [] → exec (.flitReceive dt p flit nak) s = .next w)
          ∧ (∀ c recent z, (y.icv p).unacked.getLast? = some c → recent = ((y.icv p).replays.filter fun t => u.now < t.1 + 1000000) →
              z = w.mIcv p (fun t => { t with replays := (u.now, c.1) :: recent }) →
              exec (.flitReceive dt p flit nak) s = .next (if 8 ≤ recent.length + 1 then z.portDown p else z))))
  ∧ (∀ (dt p : Nat) (flit : Bytes) (nak : Bool) (s u : State), u = s.tick dt → u.icvUp p = false → exec (.flitReceive dt p flit nak) s = .next u)
  ∧ (∀ (dt p : Nat) (h : Hello) (alone : Bool) (s u v : State), u = s.tick dt → u.icvUp p = true →
    v = (match h.give with | some g => if u.rb 0x05000004 31 then u.mNet fun x => { x with given := some g } else u | none => u) →
    alone = (u.rootless h.info.prio && (h.node.isNone || (u.rb 0x05000004 31 && u.net.given.isNone))) →
    (alone = true → exec (.hello dt p h) s = .next (u.portRefuse p 0))
    ∧ (alone = false → v.autoWaits h = true → exec (.hello dt p h) s = .next u)
    ∧ (∀ n, alone = false → v.autoWaits h = false → (h.node = some n ∨ (h.node = none ∧ u.rootNode = some u.myNode ∧ u.freeNode = some n)) →
      ((h.known = true ∨ v.nodeClash n h.info.path = false) → (u.icvState p ≠ 3 ∨ (v.node n).info.state ≠ 1) →
        ∃ t : State, exec (.hello dt p h) s = .next ((((((t.emitPf 0xC1 .ok n).joinTell n).rootSettle u.rootNode).timeSettle).impCheck).impRoutes)
          ∧ t.rd (icvPort p 8) = (h.port * 2 ^ 30 + n) % 2 ^ 32 ∧ t.icvState p = 3 ∧ (⟨v.myNode, p, n, h.port⟩ : PortEdge) ∈ t.net.edges
          ∧ (t.node n).info = { h.info with state := 1, joins := if (v.node n).info.state = 1 then (v.node n).info.joins else ((v.node n).info.joins + 1) % 64 }
          ∧ (t.node n).beatAt = u.now ∧ t.rd 0x05000018 = (u.rd 0x05000018 + 1) % 2 ^ 32 ∧ Frame [.net] [icvPort p 8, icvPort p 4, 0x05000018] u t)
      ∧ ((h.known = true ∨ v.nodeClash n h.info.path = false) → u.icvState p = 3 → (v.node n).info.state = 1 →
        ∃ t : State, exec (.hello dt p h) s = .next ((((t.rootSettle u.rootNode).timeSettle).impCheck).impRoutes)
          ∧ t.rd (icvPort p 8) = (h.port * 2 ^ 30 + n) % 2 ^ 32 ∧ (⟨v.myNode, p, n, h.port⟩ : PortEdge) ∈ t.net.edges ∧ t.net.nodes = u.net.nodes
          ∧ Frame [.net] [icvPort p 8, icvPort p 4] u t)
      ∧ (h.known = false → v.nodeClash n h.info.path = true → ((u.node n).info.state = 1 ∨ n = u.myNode) → exec (.hello dt p h) s = .next (u.portRefuse p n))
      ∧ (h.known = false → v.nodeClash n h.info.path = true → (u.node n).info.state ≠ 1 → n ≠ u.myNode →
        ∃ t : State, exec (.hello dt p h) s = .next (t.portRefuse p n) ∧ (t.node n).info = { h.info with state := 3, joins := (u.node n).info.joins } ∧ Frame [.net] [0x05000018] u t)))
  ∧ (∀ (dt n : Nat) (s u : State), u = s.tick dt →
    ((u.node n).info.state = 1 → ∃ t : State, exec (.beat dt n) s = .next t ∧ (t.node n).beatAt = u.now ∧ (t.node n).info = (u.node n).info ∧ Frame [.net] [] u t)
    ∧ ((u.node n).info.state ≠ 1 → exec (.beat dt n) s = .next u))
  ∧ (∀ (dt : Nat) (s u : State), u = s.tick dt → ∃ t : State, Frame [.net] [] u t ∧ t.net.nodes = u.net.nodes ∧ t.net.edges = u.net.edges ∧ t.net.toldGen = u.net.toldGen
      ∧ (∀ n p h, u.joined = [n] → u.routeTo n = some (p, h) → (t.icv p).txSeq = ((u.icv p).txSeq + 1) % 2 ^ 16 ∧ (t.icv p).unacked = (u.icv p).unacked ++ [((u.icv p).txSeq, 2)])
      ∧ ((u.joined = [] ∨ u.rd 0x104 = u.net.toldGen) → exec (.beatSend dt) s = .next t)
      ∧ (u.joined ≠ [] → u.rd 0x104 ≠ u.net.toldGen → exec (.beatSend dt) s = .next (u.joined.foldl (fun s n => s.ctlSend n
          (.directory u.myNode ⟨1, u.myPrio, 0, u.row.code, Config.chipRev.toNat / 2 ^ 16, u.rd 0x104, u.rd64 0x05000010⟩)) (t.mNet fun n => { n with toldGen := u.rd 0x104 }))))
  ∧ (∀ (dt n : Nat) (s u : State), u = s.tick dt →
    ((u.node n).info.state = 1 → (u.node n).beatAt + 10000000 ≤ u.now →
      ∃ t : State, exec (.nodeLost dt n) s = .next (((((t.emitPf 0xC2 .lost ((if (u.routeTo n).isSome then 1 else 2) * 2 ^ 24 + n)).leaveSettle).rootSettle u.rootNode).timeSettle).impCheck)
        ∧ (t.node n).info = { (u.node n).info with state := 2 } ∧ t.rd 0x05000018 = (u.rd 0x05000018 + 1) % 2 ^ 32 ∧ Frame [.net] [0x05000018] u t)
    ∧ (((u.node n).info.state ≠ 1 ∨ u.now < (u.node n).beatAt + 10000000) → exec (.nodeLost dt n) s = .next u))
  ∧ (∀ (dt : Nat) (edges : List PortEdge) (misfit : List Nat) (s u : State), u = s.tick dt →
    ∃ t : State, exec (.routeUpdate dt edges misfit) s = .next ((t.impOrder.foldl (fun s i => if misfit.contains i then s.impLost i else s) t).timeSettle).impRoutes
      ∧ t.net = { u.net with edges := edges } ∧ Frame [.net] [] u t)

/-- Each side of a port sends TIME flits; their times give the link delay and, on the time parent's port, the offset: it is locked within
20 ns, and one above 1 ms is corrected in one step. The root alone sets a pod frame reference, for a time at least 10 ms ahead, and sends
it to every joined device; when device time reaches it the new values are in force. -/
def Obligations.IcvikTimeAndReferences : Prop :=
  (∀ (dt p : Nat) (s u : State), u = s.tick dt →
    (u.icvUp p = true → ∃ t : State, exec (.timeFlitSend dt p) s = .next t ∧ (t.icv p).timeSent = u.now ∧ (t.icv p).txSeq = ((u.icv p).txSeq + 1) % 2 ^ 16
      ∧ (t.icv p).unacked = (u.icv p).unacked ++ [((u.icv p).txSeq, 1)] ∧ (∀ q, q ≠ p → t.icv q = u.icv q) ∧ Frame [.net] [] u t)
    ∧ (u.icvUp p = false → exec (.timeFlitSend dt p) s = .next u))
  ∧ (∀ (dt p got sent : Nat) (a off delay : Int) (s u : State), u = s.tick dt → p < 4 → u.icvUp p = true → a = (u.icv p).timeSent →
    delay = (((u.now : Int) - a) - ((sent : Int) - got)) / 2 → off = (((got : Int) - a) + (sent - u.now)) / 2 →
    ∃ t : State, t.rd (icvPort p 0x10) = delay.toNat % 2 ^ 32 ∧ Frame [] [icvPort p 0x10] u t
      ∧ ((∀ h, u.timeParent ≠ some (p, h)) → exec (.timeFlit dt p got sent) s = .next t)
      ∧ (∀ h, u.timeParent = some (p, h) → h ≤ 63 → off.natAbs ≤ 1000000 →
        ∃ w : State, w.rf 0x05000024 15 0 = sat16 off ∧ w.rb 0x05000024 30 = false ∧ w.rb 0x05000024 31 = decide (off.natAbs ≤ 20) ∧ Frame [] [0x05000024] t w
          ∧ exec (.timeFlit dt p got sent) s = .next (if off.natAbs ≤ 20 ∧ u.rb 0x05000024 31 = false then w.timeEvent 1 else w))
      ∧ (∀ h, u.timeParent = some (p, h) → h ≤ 63 → 1000000 < off.natAbs →
        ∃ w : State, w.rf 0x05000024 15 0 = sat16 off ∧ w.rb 0x05000024 31 = false ∧ w.now = tobits 64 ((u.now : Int) + off) ∧ w.net = u.net ∧ w.pending = u.pending
          ∧ (∀ k, k ≠ 0x05000024 → w.rd k = t.rd k) ∧ exec (.timeFlit dt p got sent) s = .next (w.timeEvent 3)))
  ∧ (∀ (dt k : Nat) (r : Req) (s u : State), u = s.tick dt → (∀ x, r.path ≠ .vi x) →
    (u.rootNode ≠ some u.myNode → exec (.podRefApply dt r k) s = .next (u.wf (podRef k 0x18) 22 16 Status.badState.code))
    ∧ (u.rootNode = some u.myNode → u.rd64 (podRef k 0x10) < u.now + 10000000 → exec (.podRefApply dt r k) s = .next (u.wf (podRef k 0x18) 22 16 Status.badParam.code))
    ∧ (u.rootNode = some u.myNode → u.now + 10000000 ≤ u.rd64 (podRef k 0x10) →
      ∃ t : State, exec (.podRefApply dt r k) s = .next t ∧ tget none t.net.refs k = some (u.rd64 (podRef k 0), bits (u.rd64 (podRef k 8)) 47 0, u.rd64 (podRef k 0x10))
        ∧ t.rf (podRef k 0x18) 22 16 = Status.ok.code ∧ t.net.outs.map (·.dest) = u.net.outs.map (·.dest) ++ u.joined ∧ Frame [.net] [podRef k 0x18] u t))
  ∧ (∀ (dt k e pd at_ : Nat) (s u : State), u = s.tick dt → tget none u.net.refs k = some (e, pd, at_) →
    (at_ ≤ u.now → ∃ t : State, exec (.podRefActivate dt k) s = .next t ∧ tget (0, 0) t.display.podRefs k = (e, pd) ∧ tget none t.net.refs k = none ∧ t.rb (podRef k 0x18) 30 = true
      ∧ (∀ j, j ≠ k → tget (0, 0) t.display.podRefs j = tget (0, 0) u.display.podRefs j) ∧ Frame [.net, .display] [podRef k 0x18] u t)
    ∧ (u.now < at_ → exec (.podRefActivate dt k) s = .next u))

/-- Opening an import asks its source node, and its answer decides: OFF with a status, or OPEN with its range mapped and its place in the
order; closing it ends it. A remote read of an export is served for the channel's owner, and one that no export allows is not. Returned
pixels stand in the import's range, and a read without a route faults after 5 ms. A remote access is asked for one at a time, ends with
its answer or TIMEOUT, and is served here in its world, refused to an untrusted port. A message is sent again 3 times and then its request
ends with TIMEOUT; an acknowledged one is not sent again. -/
def Obligations.ImportsAndMessages : Prop :=
  (∀ (dt i : Nat) (r : Req) (v : Word) (s u : State), u = s.tick dt → (∀ x, r.path ≠ .vi x) → i < 64 →
    (u.rb (impReg i 0x10) 31 = true → v.toNat &&& 0x0FFFFFFF ≠ u.rd (impReg i 0x10) &&& 0x0FFFFFFF →
      exec (.importOpen dt r i v) s = .next (u.wf (impReg i 0x14) 22 16 Status.badState.code))
    ∧ (u.rb (impReg i 0x10) 31 = false →
      ∃ t : State, exec (.importOpen dt r i v) s = .next (t.ctlSend (u.impNode i) (.importReq i (u.rd64 (impReg i 0) % 2 ^ 32) (bits v.toNat 27 16)))
        ∧ t.impState i = 1 ∧ t.rd (impReg i 0x10) = v.toNat &&& 0x8FFFFFFF ∧ Frame [] [impReg i 0x10, impReg i 0x14] u t)
    ∧ (u.rb (impReg i 0x10) 31 = true → u.impState i ≠ 2 →
      ∃ t : State, exec (.importClose dt r i v) s = .next t ∧ t.impState i = 0 ∧ t.rb (impReg i 0x10) 31 = false ∧ Frame [] [impReg i 0x10, impReg i 0x14] u t)
    ∧ (u.rb (impReg i 0x10) 31 = true → u.impState i = 2 →
      ∃ t w, w = (u.impUnmap i).ctlSend (u.impNode i) (.importEnd (u.rd64 (impReg i 0) % 2 ^ 32)) ∧ exec (.importClose dt r i v) s = .next t
        ∧ t.impState i = 0 ∧ t.rb (impReg i 0x10) 31 = false ∧ Frame [] [impReg i 0x10, impReg i 0x14] w t)
    ∧ (u.rb (impReg i 0x10) 31 = false → ∃ t : State, exec (.importClose dt r i v) s = .next t ∧ t.rd (impReg i 0x10) = v.toNat &&& 0x0FFFFFFF ∧ Frame [] [impReg i 0x10] u t))
  ∧ (∀ (dt i a chunks d : Nat) (room : Bool) (s u : State), u = s.tick dt → u.impState i = 1 → d = u.rd64 (impReg i 8) → chunks < 2 ^ 29 →
    (∃ t : State, exec (.importOpenDone dt i none chunks room) s = .next t ∧ t.impState i = 0 ∧ t.rf (impReg i 0x14) 22 16 = Status.timeout.code ∧ Frame [.net] [impReg i 0x14] u t)
    ∧ (a = Status.badHandle.code → ∃ t : State, exec (.importOpenDone dt i (some a) chunks room) s = .next t ∧ t.impState i = 0 ∧ t.rf (impReg i 0x14) 22 16 = Status.badHandle.code
      ∧ Frame [.net] [impReg i 0x14] u t)
    ∧ (a = 0 → bits (u.rd64 (impReg i 0)) 63 44 = 0 → (u.node (u.impNode i)).info.state = 1 → (d % 2 ^ 21 ≠ 0 ∨ u.rangeMapped (u.impWin i) (d / 2 ^ 21) chunks = true) →
      ∃ t : State, exec (.importOpenDone dt i (some a) chunks room) s = .next t ∧ t.impState i = 0 ∧ t.rf (impReg i 0x14) 22 16 = Status.badGeometry.code ∧ Frame [.net] [impReg i 0x14] u t)
    ∧ (a = 0 → bits (u.rd64 (impReg i 0)) 63 44 = 0 → (u.node (u.impNode i)).info.state = 1 → d % 2 ^ 21 = 0 → u.rangeMapped (u.impWin i) (d / 2 ^ 21) chunks = false →
      (room = false → ∃ t : State, exec (.importOpenDone dt i (some a) chunks room) s = .next t ∧ t.impState i = 0 ∧ t.rf (impReg i 0x14) 22 16 = Status.noResource.code
        ∧ Frame [.net] [impReg i 0x14] u t)
      ∧ (room = true → ∃ t : State, exec (.importOpenDone dt i (some a) chunks room) s = .next t ∧ t.impState i = 2 ∧ t.rf (impReg i 0x14) 22 16 = Status.ok.code
        ∧ t.imp i = ⟨(u.node (u.impNode i)).info.joins, chunks, u.net.opened + 1, none⟩ ∧ t.net.opened = u.net.opened + 1)))
  ∧ (∀ (dt src tag e off len : Nat) (h : Handle) (b : Option Bytes) (s u x : State), u = s.tick dt → h = handleOf (u.rd (expReg e 0)) →
    (u.rb (expReg e 4) 31 = true → u.rf (expReg e 4) 11 0 = src → h.kind = kMem → h.gen = u.gen h.kind h.index → (u.chan h.kind h.index).phase = .live →
      off + len ≤ (tget {} u.seed.chans h.index).count * 2 ^ 21 → u.fetch (u.chan h.kind h.index).owner 6 ((tget {} u.seed.chans h.index).daddr + off) len none = (b, x) →
      exec (.icvRead dt src tag e off len) s = .next ((x.flitTo src 4).mNet fun n => { n with served := some (tag, b) }))
    ∧ ((u.rb (expReg e 4) 31 = false ∨ u.rf (expReg e 4) 11 0 ≠ src ∨ h.kind ≠ kMem ∨ h.gen ≠ u.gen h.kind h.index) →
      ∃ t : State, exec (.icvRead dt src tag e off len) s = .next t ∧ t.net = { u.net with served := some (tag, none) } ∧ Frame [.net] [] u t))
  ∧ (∀ (dt i off : Nat) (bs : Bytes) (s u : State), u = s.tick dt → u.impState i = 2 →
    (off + bs.length ≤ (u.imp i).chunks * 2 ^ 21 →
      ∃ t : State, exec (.icvPixel dt i off bs) s = .next t ∧ (∀ k, k < bs.length → tget none t.net.arrived (3 * 2 ^ 60 + i * 2 ^ 40 + off + k) = some (bs.getD k 0)) ∧ Frame [.net] [] u t)
    ∧ ((u.imp i).chunks * 2 ^ 21 < off + bs.length → exec (.icvPixel dt i off bs) s = .next u))
  ∧ (∀ (dt i addr t : Nat) (s u : State), u = s.tick dt → u.impState i = 2 → (u.imp i).noRoute = some t →
    (t + 5000000 ≤ u.now → exec (.noRouteTimeout dt i addr) s = .next (u.memFault (u.impWin i) addr))
    ∧ (u.now < t + 5000000 → exec (.noRouteTimeout dt i addr) s = .next u))
  ∧ (∀ (dt : Nat) (r : Req) (v : Word) (write : Bool) (i : Instr) (s u : State), u = s.tick dt → (∀ x, r.path ≠ .vi x) →
    ((write = false ∧ i = .raccRead dt r v) ∨ (write = true ∧ i = .raccWrite dt r v)) →
    (u.rb 0x0500003C 0 = true → exec i s = .next u)
    ∧ (u.rb 0x0500003C 0 = false → bit v.toNat 30 = true → u.reqSecure r = false → exec i s = .next (u.wr 0x0500003C (Status.denied.code * 2 ^ 16)))
    ∧ (u.rb 0x0500003C 0 = false → (bit v.toNat 30 = false ∨ u.reqSecure r = true) →
      ∃ t : State, t.rf 0x0500003C 22 16 = Status.pending.code ∧ t.rb 0x0500003C 0 = true ∧ t.net = { u.net with racc := some (u.now, write) } ∧ Frame [.net] [0x0500003C] u t
        ∧ exec i s = .next (t.ctlSend (bits v.toNat 11 0) (.raccReq (bit v.toNat 30) write (u.rd 0x05000030) (BitVec.ofNat 32 (u.rd 0x05000034))))))
  ∧ (∀ (dt at_ : Nat) (write : Bool) (v : Word) (s u : State), u = s.tick dt → u.net.racc = some (at_, write) →
    (∃ t : State, exec (.raccDone dt (some (true, v))) s = .next t ∧ t.rd 0x0500003C = 0 ∧ t.rd 0x05000034 = (if write then u.rd 0x05000034 else v.toNat) ∧ t.net.racc = none
      ∧ Frame [.net] [0x0500003C, 0x05000034] u t)
    ∧ (∃ t : State, exec (.raccDone dt (some (false, v))) s = .next t ∧ t.rf 0x0500003C 22 16 = Status.denied.code ∧ t.rb 0x0500003C 0 = false ∧ t.net.racc = none
      ∧ Frame [.net] [0x0500003C] u t)
    ∧ (at_ + 5000000 ≤ u.now → ∃ t : State, exec (.raccDone dt none) s = .next t ∧ t.rf 0x0500003C 22 16 = Status.timeout.code ∧ t.rb 0x0500003C 0 = false ∧ t.net.racc = none
      ∧ Frame [.net] [0x0500003C] u t)
    ∧ (u.now < at_ + 5000000 → exec (.raccDone dt none) s = .next u))
  ∧ (∀ (dt tag : Nat) (o : CtlOut) (s u : State), u = s.tick dt → (u.net.outs.find? fun o => o.tag == tag) = some o → o.at_ + 1000000 ≤ u.now →
    (o.tries < 3 → ∃ t : State, exec (.controlRetry dt tag) s = .next t ∧ { o with tries := o.tries + 1, at_ := u.now } ∈ t.net.outs ∧ t.net.outs.length = u.net.outs.length
      ∧ Frame [.net] [] u t)
    ∧ (3 ≤ o.tries → ∃ t : State, exec (.controlRetry dt tag) s = .next t ∧ (∀ q ∈ t.net.outs, q.tag ≠ tag)
      ∧ (∀ i handle bw, o.msg = .importReq i handle bw → u.impState i = 1 → t.impState i = 0 ∧ t.rf (impReg i 0x14) 22 16 = Status.timeout.code)
      ∧ (∀ a b c d, o.msg = .raccReq a b c d → u.net.racc ≠ none → t.net.racc = none ∧ t.rf 0x0500003C 22 16 = Status.timeout.code)))
  ∧ (∀ (dt tag : Nat) (o : CtlOut) (s u : State), u = s.tick dt → (u.net.outs.find? fun o => o.tag == tag) = some o → u.now < o.at_ + 1000000 →
    exec (.controlRetry dt tag) s = .next u)
  ∧ (∀ (dt p src tag : Nat) (msg : CtlMsg) (s u x : State), u = s.tick dt → u.icvUp p = true → x = u.flitTo src 3 →
    exec (.icvControl dt p src tag msg false) s = .next u
    ∧ (∀ n, msg = .ack n → ∃ t : State, exec (.icvControl dt p src tag msg true) s = .next t ∧ t.net.outs = u.net.outs.filter (fun o => !(o.tag == n && o.dest == src)) ∧ Frame [.net] [] u t)
    ∧ (∀ i handle bw, msg = .importReq i handle bw →
      exec (.icvControl dt p src tag msg true) s = .next (x.ctlSend src (.importAnswer i (x.exportAnswer src handle).1 (x.exportAnswer src handle).2)))
    ∧ (∀ handle, msg = .exportEnd handle → exec (.icvControl dt p src tag msg true) s = .next (x.exportLost src handle))
    ∧ (∀ q bw add, msg = .reserve q bw add → q < 4 → ∃ t : State, exec (.icvControl dt p src tag msg true) s = .next t ∧ Frame [.net] [icvPort q 0xC] u t
      ∧ t.rf (icvPort q 0xC) 15 0 = (if add then min 65535 (u.rf (icvPort q 0xC) 15 0 + bw) else u.rf (icvPort q 0xC) 15 0 - bw))
    ∧ (∀ n i, msg = .directory n i → exec (.icvControl dt p src tag msg true) s = .next (x.podLearn n i))
    ∧ (∀ k e pd at_, msg = .refs k e pd at_ → k < 8 → u.rootNode = some src →
      ∃ t : State, exec (.icvControl dt p src tag msg true) s = .next t ∧ tget none t.net.refs k = some (e, pd, at_) ∧ Frame [.net] [] u t)
    ∧ (∀ write addr v, msg = .raccReq true write addr v → u.rb (icvPort p 0) 30 = false → exec (.icvControl dt p src tag msg true) s = .next (x.ctlSend src (.raccAnswer false 0)))
    ∧ (∀ secure addr v, msg = .raccReq secure true addr v → (secure = false ∨ u.rb (icvPort p 0) 30 = true) →
      exec (.icvControl dt p src tag msg true) s = .next ((x.regWrite ⟨.icvik p, secure⟩ addr v).ctlSend src (.raccAnswer true v)))
    ∧ (∀ secure addr v w y, msg = .raccReq secure false addr v → (secure = false ∨ u.rb (icvPort p 0) 30 = true) → x.busRead ⟨.icvik p, secure⟩ addr = (w, y) →
      exec (.icvControl dt p src tag msg true) s = .next (y.ctlSend src (.raccAnswer true w)))
    ∧ (∀ i st n b w, (msg = .importAnswer i st n ∨ msg = .importEnd n ∨ msg = .raccAnswer b w) → exec (.icvControl dt p src tag msg true) s = .next x))

/-- A MAC is enabled at a legal rate, and disabling it closes its rings, opens its gates and takes the link down; a link that changes is
shown and reported. Of the classes with a frame the highest one whose gate is open, whose credit allows it and whose frame fits before the
gate closes is sent. A received frame is counted, and dropped, taken by gPTP, a listener or the PF as its row of R657 says. A gate list
that passes its checks waits for its cycle, becomes operational there and moves on entry by entry. Rings are enabled empty and take
doorbells within their size; MDIO requests run one at a time. -/
def Obligations.TsnMacs : Prop :=
  (∀ (dt m : Nat) (r : Req) (v : Word) (s u : State), u = s.tick dt → (∀ x, r.path ≠ .vi x) → m < 2 →
    (u.claimedFor 0x81 m r = true → exec (.tsnEnable dt r m v) s = .next (u.wf (tsnReg m 8) 22 16 Status.claimed.code))
    ∧ (u.claimedFor 0x81 m r = false → 4 < bits v.toNat 30 28 → exec (.tsnEnable dt r m v) s = .next (u.wf (tsnReg m 8) 22 16 Status.badParam.code))
    ∧ (u.claimedFor 0x81 m r = false → bits v.toNat 30 28 ≤ 4 →
      ∃ t : State, t.rd (tsnReg m 4) = v.toNat &&& 0xF0000000 ∧ Frame [] [tsnReg m 4] u t
        ∧ exec (.tsnEnable dt r m v) s = .next (if u.rb (tsnReg m 4) 31 = true ∧ bit v.toNat 31 = false then (t.tsnDown m).tsnLink m false 0 else t)))
  ∧ (∀ (m : Nat) (u t : State), m < 2 → t = u.tsnDown m → t.rb (tsnCtrl m true) 31 = false ∧ t.rb (tsnCtrl m false) 31 = false ∧ (t.mac m).oper = none
      ∧ (t.mac m).gates = 0xFF ∧ (t.mac m).txq = [] ∧ (t.mac m).gptp = [] ∧ t.rd (tsnReg m 0x38) = 0 ∧ t.rd64 (tsnReg m 0x40) = 0)
  ∧ (∀ (dt m rate x : Nat) (s u : State), u = s.tick dt → m < 2 → u.rb (tsnReg m 4) 31 = true → x = min rate (u.rf (tsnReg m 4) 30 28) →
    (u.rb (tsnReg m 8) 31 = false → ∃ t : State, exec (.tsnLink dt m true rate) s = .next (t.emitPf 0xC8 .ok (m * 2 ^ 24 + 2 ^ 16 + x * 2 ^ 8)) ∧ t.rb (tsnReg m 8) 31 = true
      ∧ t.rf (tsnReg m 8) 30 28 = x ∧ Frame [] [tsnReg m 8] u t)
    ∧ (u.rb (tsnReg m 8) 31 = true → ∃ t : State, exec (.tsnLink dt m true rate) s = .next t ∧ t.rf (tsnReg m 8) 30 28 = x ∧ Frame [] [tsnReg m 8] u t)
    ∧ (u.rb (tsnReg m 8) 31 = true → ∃ t : State, exec (.tsnLink dt m false rate) s = .next t ∧ t.rb (tsnReg m 8) 31 = false ∧ t.rf (tsnReg m 8) 30 28 = 0
      ∧ (u.rb (tsnReg m 0x34) 31 = true → t.rb (tsnReg m 0x38) 28 = true)))
  ∧ (∀ (dt m : Nat) (hosts : List HostRun) (s u w : State), u = (s.tickMem dt hosts).tsnOwed m → u.rb (tsnReg m 8) 31 = true → w = (u.creditTick m).txLoad m hosts 4096 →
    ∃ t : State, (t.mac m).held = (w.mac m).held ++ ((w.txPick m [7, 6, 5, 4, 3, 2, 1, 0] []).2.filter fun c => !(w.mac m).held.contains c) ∧ Frame [.net] [tsnReg m 0xA8] w t
      ∧ (∀ c f held, w.txPick m [7, 6, 5, 4, 3, 2, 1, 0] [] = (some (c, f), held) → exec (.tsnFrameTx dt m hosts) s = .next (t.txSend m hosts c f))
      ∧ (∀ held, w.txPick m [7, 6, 5, 4, 3, 2, 1, 0] [] = (none, held) → exec (.tsnFrameTx dt m hosts) s = .next t))
  ∧ (∀ (dt m : Nat) (hosts : List HostRun) (s u : State), u = (s.tickMem dt hosts).tsnOwed m → u.rb (tsnReg m 8) 31 = false → exec (.tsnFrameTx dt m hosts) s = .next u)
  ∧ (∀ (m c : Nat) (f : TxFrame) (held : List Nat) (u : State), u.txPick m [7, 6, 5, 4, 3, 2, 1, 0] [] = (some (c, f), held) →
    u.txNextOf m c = some f ∧ bit (u.mac m).gates c = true ∧ u.creditOk m c = true ∧ u.gateFits m c (u.txTime m (u.txLen f)) = true
      ∧ ∀ d g, c < d → d < 8 → u.txNextOf m d = some g → bit (u.mac m).gates d = false ∨ u.creditOk m d = false ∨ (u.gateFits m d (u.txTime m (u.txLen g)) = false ∧ d ∈ held))
  ∧ (∀ (dt m : Nat) (b : Bytes) (good : Bool) (frame : Bytes) (ptp : Option PtpIn) (avtp : Option AvtpIn) (hosts : List HostRun) (s u w : State), u = (s.tickMem dt hosts).tsnOwed m → m < 2 →
    b = frame.take (frame.length - 4) → good = (leNat (frame.drop (frame.length - 4)) == crc32 b) → w = (if good then u.incr64 (tsnReg m 0x98) 1 else u) →
    (u.rb (tsnReg m 8) 31 = false → exec (.tsnFrameRx dt m frame ptp avtp hosts) s = .next u)
    ∧ (u.rb (tsnReg m 8) 31 = true → (good = false ∨ 1522 < frame.length) → exec (.tsnFrameRx dt m frame ptp avtp hosts) s = .next (w.rcCount (tsnReg m 0xA0) 1))
    ∧ (u.rb (tsnReg m 8) 31 = true → good = true → frame.length ≤ 1522 →
      (etherType b = 0x88F7 → exec (.tsnFrameRx dt m frame ptp avtp hosts) s = .next (match ptp with | some q => w.ptpTake m q | none => w))
      ∧ (etherType b ≠ 0x88F7 → (∀ a, avtp = some a → etherType b = 0x22F0 → w.listenerOf m a.id = none) →
        exec (.tsnFrameRx dt m frame ptp avtp hosts) s = .next (if w.pfTakes m (etherDest b) then w.rxStore m hosts b else w.rcCount (tsnReg m 0xA0) 1))
      ∧ (∀ a i, avtp = some a → etherType b = 0x22F0 → w.listenerOf m a.id = some i → exec (.tsnFrameRx dt m frame ptp avtp hosts) s =
        .next (w.avtpReceive i { time := (a.time + 2 ^ 64 - w.rd64 (tsnReg m 0x40)) % 2 ^ 64, frames := a.frames } a.period))))
  ∧ (∀ (dt m len cycle base : Nat) (es : List Nat) (r : Req) (s u : State), u = s.tick dt → (∀ x, r.path ≠ .vi x) → u.claimedFor 0x81 m r = false →
    len = u.rf (tsnReg m 0x20) 6 0 → cycle = u.rd (tsnReg m 0x30) → base = u.rd64 (tsnReg m 0x28) → es = (List.range len).map (fun e => u.rd (tsnReg m (0x400 + e * 4))) →
    (u.rb (tsnReg m 0x20) 30 = true → exec (.gclApply dt r m) s = .next (u.wf (tsnReg m 0x20) 22 16 Status.busy.code))
    ∧ (u.rb (tsnReg m 0x20) 30 = false → 1 ≤ len → len ≤ 64 → 1000 ≤ cycle → cycle ≤ 1000000000 → (∀ e ∈ es, 100 ≤ bits e 23 0) →
      ∃ t g, exec (.gclApply dt r m) s = .next t ∧ (t.mac m).next = some g ∧ g.entries = es ∧ g.cycle = cycle ∧ u.gptp m + 1000000 ≤ g.at_ ∧ base ≤ g.at_
        ∧ (g.at_ - base) % cycle = 0 ∧ (base < g.at_ → g.at_ < u.gptp m + 1000000 + cycle) ∧ t.rb (tsnReg m 0x20) 30 = true ∧ t.rf (tsnReg m 0x20) 22 16 = Status.ok.code
        ∧ Frame [.net] [tsnReg m 0x20] u t)
    ∧ (u.rb (tsnReg m 0x20) 30 = false → (len < 1 ∨ 64 < len ∨ cycle < 1000 ∨ 1000000000 < cycle ∨ ∃ e ∈ es, bits e 23 0 < 100) →
      exec (.gclApply dt r m) s = .next (u.wf (tsnReg m 0x20) 22 16 Status.badParam.code)))
  ∧ (∀ (dt m : Nat) (g : GateList) (s u : State), u = s.tick dt → (u.mac m).next = some g →
    (g.at_ ≤ u.gptp m → ∃ t : State, exec (.tsnGclSwitch dt m) s = .next (t.emitPf 0xCA .ok (m * 2 ^ 24 + g.entries.length)) ∧ (t.mac m).next = none ∧ (t.mac m).oper = some g
      ∧ (t.mac m).entry = 0 ∧ (t.mac m).cycleAt = g.at_ ∧ (t.mac m).gates = bits (g.entries.headD 0) 31 24 ∧ t.rb (tsnReg m 0x20) 30 = false ∧ t.rb (tsnReg m 0x20) 29 = true
      ∧ Frame [.net] [tsnReg m 0x20] u t)
    ∧ (u.gptp m < g.at_ → exec (.tsnGclSwitch dt m) s = .next u))
  ∧ (∀ (dt m : Nat) (g : GateList) (s u : State), u = (s.tick dt).tsnOwed m → (u.mac m).oper = some g →
    ∃ t : State, exec (.gateControlEntry dt m) s = .next t ∧ Frame [.net] [] u t ∧ (t.mac m).gates = bits (g.entries.getD (t.mac m).entry 0) 31 24
      ∧ ((u.mac m).cycleAt + g.cycle ≤ u.gptp m → (t.mac m).entry = 0 ∧ (t.mac m).cycleAt = (u.mac m).cycleAt + g.cycle)
      ∧ (u.gptp m < (u.mac m).cycleAt + g.cycle → (t.mac m).entry = min ((u.mac m).entry + 1) (g.entries.length - 1) ∧ (t.mac m).cycleAt = (u.mac m).cycleAt))
  ∧ (∀ (dt m : Nat) (msg : Bytes) (ptp : Option PtpIn) (s u : State), u = (s.tick dt).tsnOwed m →
    (u.rb (tsnReg m 0x34) 31 = true → ∃ t : State, t.rb (tsnReg m 0x38) 28 = true ∧ Frame [] [tsnReg m 0x38] u t
      ∧ exec (.ptpSyncLoss dt m) s = .next (if u.rb (tsnReg m 0x38) 28 then t else t.emitPf 0xC9 .ok (m * 2 ^ 24 + t.rf (tsnReg m 0x38) 31 28 * 2 ^ 20)))
    ∧ (u.rb (tsnReg m 0x34) 31 = false → exec (.ptpSyncLoss dt m) s = .next u ∧ exec (.ptpInterval dt m msg ptp) s = .next u)
    ∧ (u.rb (tsnReg m 0x34) 31 = true → u.rb (tsnReg m 8) 31 = true → ∃ t : State, (t.mac m).gptp = (u.mac m).gptp ++ [msg] ∧ Frame [.net] [] u t
      ∧ exec (.ptpInterval dt m msg ptp) s = .next (match ptp with | some q => t.ptpTake m q | none => t))
    ∧ (u.rb (tsnReg m 4) 31 = true → ∃ t : State, exec (.ppsPulse dt m) s = .next t ∧ (t.mac m).pps = some (u.now + 10000000) ∧ Frame [.net] [] u t)
    ∧ (u.rb (tsnReg m 4) 31 = false → exec (.ppsPulse dt m) s = .next u))
  ∧ (∀ (dt m : Nat) (rx : Bool) (r : Req) (v : Word) (i : Instr) (s u : State), u = (s.tick dt).tsnOwed m → m < 2 → (∀ x, r.path ≠ .vi x) → u.claimedFor 0x81 m r = false →
    (i = if rx then .tsnRxrDoorbell dt r m v else .tsnTxrDoorbell dt r m v) →
    (u.rb (tsnCtrl m rx) 31 = false → exec i s = .next u)
    ∧ (u.rb (tsnCtrl m rx) 31 = true → (v.toNat + 2 ^ 32 - u.rd (tsnHead m rx)) % 2 ^ 32 ≤ 2 ^ u.rf (tsnCtrl m rx) 3 0 →
      ∃ t : State, exec i s = .next t ∧ (if rx then (t.mac m).rxTail else (t.mac m).txTail) = v.toNat ∧ Frame [.net] [] u t)
    ∧ (u.rb (tsnCtrl m rx) 31 = true → 2 ^ u.rf (tsnCtrl m rx) 3 0 < (v.toNat + 2 ^ 32 - u.rd (tsnHead m rx)) % 2 ^ 32 →
      exec i s = .next (u.tsnRingFault m rx (if (v.toNat + 2 ^ 32 - u.rd (tsnHead m rx)) % 2 ^ 32 < 2 ^ 31 then 0 else 1))))
  ∧ (∀ (dt m : Nat) (rx : Bool) (r : Req) (v : Word) (s u : State), u = s.tick dt → m < 2 → (∀ x, r.path ≠ .vi x) → u.claimedFor 0x81 m r = false →
    (bit v.toNat 31 = true → u.rb (tsnCtrl m rx) 31 = false →
      (4 ≤ bits v.toNat 3 0 → bits v.toNat 3 0 ≤ 12 → u.rd64 (tsnBase m rx) % max 4096 (2 ^ bits v.toNat 3 0 * 16) = 0 →
        ∃ t : State, exec (.tsnRingEnable dt r m rx v) s = .next t ∧ t.rb (tsnCtrl m rx) 31 = true ∧ t.rf (tsnCtrl m rx) 3 0 = bits v.toNat 3 0 ∧ t.rd (tsnHead m rx) = 0
          ∧ (if rx then (t.mac m).rxTail else (t.mac m).txTail) = 0 ∧ Frame [.net] [tsnCtrl m rx, tsnHead m rx] u t)
      ∧ ((bits v.toNat 3 0 < 4 ∨ 12 < bits v.toNat 3 0) → exec (.tsnRingEnable dt r m rx v) s = .next ((u.wr (tsnCtrl m rx) (bits v.toNat 3 0)).tsnRingFault m rx 3)))
    ∧ (bit v.toNat 31 = false → u.rb (tsnCtrl m rx) 31 = true → ∃ t : State, exec (.tsnRingEnable dt r m rx v) s = .next t ∧ t.rb (tsnCtrl m rx) 31 = false
      ∧ Frame [.net] [tsnCtrl m rx] u t))
  ∧ (∀ (m last : Nat) (rx : Bool) (u t : State), t = u.tsnOwed m → last = (if rx then (u.mac m).rxEvt else (u.mac m).txEvt) →
    ((u.mac m).txOwed = false → (u.mac m).rxOwed = false → t = u)
    ∧ ((u.mac m).txOwed = (!rx) → (u.mac m).rxOwed = rx → last - 1 + 10000 ≤ u.now →
      ∃ w, t = w.tsnRing m rx .ok ∧ (if rx then (w.mac m).rxOwed else (w.mac m).txOwed) = false ∧ (if rx then (w.mac m).rxEvt else (w.mac m).txEvt) = u.now + 1
        ∧ Frame [.net] [] u w)
    ∧ ((u.mac m).txOwed = (!rx) → (u.mac m).rxOwed = rx → last ≠ 0 → u.now < last - 1 + 10000 → t.mac m = u.mac m ∧ Frame [.net] [] u t))
  ∧ (∀ (dt m data : Nat) (s u : State), u = (s.tick dt).tsnOwed m → m < 2 →
    (u.rb (tsnReg m 0x84) 31 = false → exec (.mdioDone dt m data) s = .next u)
    ∧ (u.rb (tsnReg m 0x84) 31 = true →
      ∃ t : State, exec (.mdioDone dt m data) s = .next t ∧ t.rb (tsnReg m 0x84) 31 = false ∧ t.rf (tsnReg m 0x84) 22 16 = Status.ok.code
        ∧ t.rf (tsnReg m 0x84) 15 0 = (if bits (u.mac m).mdio 31 29 = 1 ∨ bits (u.mac m).mdio 31 29 = 4 then data % 2 ^ 16 else u.rf (tsnReg m 0x84) 15 0)
        ∧ Frame [] [tsnReg m 0x84] u t))
  ∧ (∀ (dt m : Nat) (r : Req) (v : Word) (s u : State), u = s.tick dt → m < 2 → (∀ x, r.path ≠ .vi x) → u.claimedFor 0x81 m r = false →
    (u.rb (tsnReg m 0x84) 31 = true → exec (.tsnMdioCmd dt r m v) s = .next u)
    ∧ (u.rb (tsnReg m 0x84) 31 = false → 4 < bits v.toNat 31 29 → exec (.tsnMdioCmd dt r m v) s = .next (u.wf (tsnReg m 0x84) 22 16 Status.badParam.code))
    ∧ (u.rb (tsnReg m 0x84) 31 = false → bits v.toNat 31 29 ≤ 4 →
      ∃ t : State, exec (.tsnMdioCmd dt r m v) s = .next t ∧ (t.mac m).mdio = v.toNat ∧ t.rb (tsnReg m 0x84) 31 = true ∧ t.rf (tsnReg m 0x84) 22 16 = Status.pending.code
        ∧ t.rf (tsnReg m 0x84) 15 0 = u.rf (tsnReg m 0x84) 15 0 ∧ Frame [.net] [tsnReg m 0x84] u t))

/-- The staged values of a slot are applied together, at most once a millisecond, and the slot's sequence moves on by 2; the first
saturation is reported. A clear empties a slot, counts it and names the clearer, from either view. A secure requester's change of a slot's
configuration empties it, until LOCK; a normal one is denied. A counter takes the value written to it, unless its unit is claimed, and
past its end wraps, marked and reported. A sampler restarts with its seed and an empty ring; a tagged instruction is counted as missed,
filtered, or recorded in the ring. -/
def Obligations.RecorderAndCounters : Prop :=
  (∀ (dt n : Nat) (x : RecSlot) (s u : State), u = s.tick dt → x = u.recSlot n →
    ((x.staged = [] ∨ x.applied = u.now / 1000000 + 1) → exec (.recApply dt n) s = .next u)
    ∧ (x.staged ≠ [] → x.applied ≠ u.now / 1000000 + 1 →
      ∃ t y, y = x.staged.foldl (fun a v => recTake (u.rd64 (recCfg n)) a v.1 v.2) x ∧ (t.recSlot n).seq = (x.seq + 2) % 2 ^ 32 ∧ (t.recSlot n).staged = []
        ∧ (t.recSlot n).applied = u.now / 1000000 + 1 ∧ (t.recSlot n).count = y.count ∧ (t.recSlot n).bins = y.bins ∧ (t.recSlot n).sum = y.sum
        ∧ (t.recSlot n).min = y.min ∧ (t.recSlot n).max = y.max ∧ (∀ k, k ≠ n → t.recSlot k = u.recSlot k) ∧ Frame [.recs] [] u t
        ∧ exec (.recApply dt n) s = .next (if !x.told && (y.satBins != 0 || y.countSat || y.sumSat) then t.emitPf 0xB0 .throttled n else t)))
  ∧ (∀ (cfg at_ i : Nat) (v : Int) (x t : RecSlot), t = recTake cfg x v at_ → i = recBin cfg v → i < 64 ∧ tget 0 t.bins i = min (tget 0 x.bins i + 1) (2 ^ 32 - 1)
      ∧ (∀ j, j ≠ i → tget 0 t.bins j = tget 0 x.bins j) ∧ t.count = min (x.count + 1) (2 ^ 64 - 1)
      ∧ (x.count = 0 → t.min = v ∧ t.max = v ∧ t.minTime = at_ ∧ t.maxTime = at_) ∧ (x.count ≠ 0 → t.min = min x.min v ∧ t.max = max x.max v))
  ∧ (∀ (dt n w : Nat) (r : Req) (view : Bool) (v : Word) (s u : State), u = s.tick dt → w = pathWin r.path → (view = true → u.winDead w = false) → (view = false → w = pfWin) →
    n = (if view then u.rf (win w + 0x80000) 7 0 else u.rf 0x03E0000C 7 0) →
    (bit v.toNat 0 = true → ∃ t : State, (t.recSlot n).bins = [] ∧ (t.recSlot n).count = 0 ∧ (t.recSlot n).seq = ((u.recSlot n).seq + 2) % 2 ^ 32
      ∧ (t.recSlot n).clears = satAdd 32 (u.recSlot n).clears 1 ∧ (t.recSlot n).clearAt = u.now ∧ (t.recSlot n).clearer = u.recClearer r
      ∧ (∀ k, k ≠ n → t.recSlot k = u.recSlot k) ∧ Frame [.recs] [] u t
      ∧ exec (.recClear dt r view v) s = .next (if (u.recSlot n).clearTold = 0 ∨ (u.recSlot n).clearTold - 1 + 1000000 ≤ u.now
          then t.emitPf 0xB1 .ok (u.recClearer r * 2 ^ 16 + n) else t))
    ∧ (bit v.toNat 0 = false → exec (.recClear dt r view v) s = .next u))
  ∧ (∀ (dt n v c : Nat) (r : Req) (s u : State), u = s.tick dt → pathWin r.path = pfWin → n < 256 → v < 2 ^ 64 → c = v / 1024 * 1024 →
    (u.reqSecure r = false → exec (.recSlotCfgWrite dt r n v) s = .next (u.wf 0x03E00004 22 16 Status.denied.code))
    ∧ (u.reqSecure r = true → (u.rb 0x03E00004 0 = true ∨ u.rd64 (recCfg n) = c) → exec (.recSlotCfgWrite dt r n v) s = .next u)
    ∧ (u.reqSecure r = true → u.rb 0x03E00004 0 = false → u.rd64 (recCfg n) ≠ c →
      ∃ t : State, exec (.recSlotCfgWrite dt r n v) s = .next t ∧ t.rd64 (recCfg n) = c ∧ (t.recSlot n).count = 0 ∧ (t.recSlot n).bins = [] ∧ (t.recSlot n).clearer = u.recClearer r))
  ∧ (∀ (dt i v inc : Nat) (r : Req) (s u : State), u = s.tick dt → pathWin r.path = pfWin → i < 4096 → v < 2 ^ 64 →
    (u.cntClaimed i r = true → exec (.cntValueWrite dt r i v inc) s = .next (u.wf 0x04000004 6 0 Status.claimed.code))
    ∧ (u.cntClaimed i r = false → v + inc < 2 ^ 64 → ∃ t : State, exec (.cntValueWrite dt r i v inc) s = .next t ∧ t.rd64 (cntReg i 0) = v + inc
      ∧ Frame [] [cntReg i 0, cntReg i 4] u t)
    ∧ (u.cntClaimed i r = false → 2 ^ 64 ≤ v + inc → ∃ t : State, exec (.cntValueWrite dt r i v inc) s = .next t ∧ t.rd64 (cntReg i 0) = (v + inc) % 2 ^ 64 ∧ t.rb (cntReg i 8) 29 = true))
  ∧ (∀ (dt i n : Nat) (s u : State), u = s.tick dt → i < 4096 →
    (u.rd64 (cntReg i 0) + n < 2 ^ 64 → exec (.counterWrap dt i n) s = .next u)
    ∧ (2 ^ 64 ≤ u.rd64 (cntReg i 0) + n → u.rb (cntReg i 8) 29 = false →
      ∃ t : State, t.rd64 (cntReg i 0) = (u.rd64 (cntReg i 0) + n) % 2 ^ 64 ∧ t.rb (cntReg i 8) 29 = true ∧ Frame [.cycle] [cntReg i 0, cntReg i 4, cntReg i 8] u t
        ∧ exec (.counterWrap dt i n) s = .next (if u.rb (cntReg i 8) 31 then t.emitPf 0xB2 .ok i else t)))
  ∧ (∀ (dt m : Nat) (r : Req) (v : Word) (s u : State), u = s.tick dt → pathWin r.path = pfWin →
    (∃ t : State, exec (.smpEnable dt r m v) s = .next t ∧ t.rb (smpReg m 0) 31 = bit v.toNat 31 ∧ t.rf (smpReg m 0) 28 24 = max 4 (min 24 (bits v.toNat 28 24))
      ∧ t.rf (smpReg m 0) 20 16 = (if u.rb (smpReg m 0) 31 then u.rf (smpReg m 0) 20 16 else max 6 (min 20 (bits v.toNat 20 16)))
      ∧ (bit v.toNat 31 = true → t.rd (smpReg m 0x10) = 0 ∧ t.rd (smpReg m 0x14) = 0) ∧ Frame [.recs] [smpReg m 0, smpReg m 0x10, smpReg m 0x14] u t)
    ∧ (∃ t : State, exec (.smpSeedWrite dt r m v) s = .next t ∧ t.rd (smpReg m 4) = v.toNat
      ∧ (m = 0 → ∀ c, c < u.row.appCores → tget 0 t.recs.sels c = ((if v.toNat = 0 then 1 else v.toNat) + c) % 2 ^ 32 + 1) ∧ Frame [.recs] [smpReg m 4] u t))
  ∧ (∀ (dt m : Nat) (g : Tagged) (s u : State), u = s.tick dt →
    ((u.rb (smpReg m 0) 31 = false ∨ tget 0 u.recs.sels (m * 64 + g.sel) = 0) → exec (.sampleRecord dt m g) s = .next u)
    ∧ (u.rb (smpReg m 0) 31 = true → tget 0 u.recs.sels (m * 64 + g.sel) ≠ 0 →
      ∃ t x, tget 0 t.recs.sels (m * 64 + g.sel) = smpWindows (1 + g.missed) (tget 0 u.recs.sels (m * 64 + g.sel) - 1) + 1
        ∧ t.rd (smpReg m 0x1C) = satAdd 32 (u.rd (smpReg m 0x1C)) g.missed ∧ Frame [.recs, .cycle] [smpReg m 0x1C] u t ∧ x = (t.rd (smpReg m 0x14) + 2 ^ 32 - t.rd (smpReg m 0x10)) % 2 ^ 32
        ∧ (t.smpAllowed m g = false → exec (.sampleRecord dt m g) s = .next (t.rcCount (smpReg m 0x20) 1))
        ∧ (t.smpAllowed m g = true → x = 2 ^ t.rf (smpReg m 0) 20 16 → exec (.sampleRecord dt m g) s = .next (t.rcCount (smpReg m 0x1C) 1))
        ∧ (t.smpAllowed m g = true → x ≠ 2 ^ t.rf (smpReg m 0) 20 16 → ∀ ok y,
            t.store pfWin 6 (t.rd64 (smpReg m 8) + t.rd (smpReg m 0x14) % 2 ^ t.rf (smpReg m 0) 20 16 * 64) (leBytes (t.smpRecord m g) 64) = (ok, y) →
            (ok = false → exec (.sampleRecord dt m g) s = .next ((y.wb (smpReg m 0) 31 false).emitPf 0xB4 .fault m))
            ∧ (ok = true → exec (.sampleRecord dt m g) s = .next (if x + 1 = (y.wr (smpReg m 0x14) (t.rd (smpReg m 0x14) + 1)).rd (smpReg m 0x18)
                then (y.wr (smpReg m 0x14) (t.rd (smpReg m 0x14) + 1)).emitPf 0xB3 .ok m else y.wr (smpReg m 0x14) (t.rd (smpReg m 0x14) + 1))))))

/-- A read through the debug port completes, and every RC field of the word it reads is as before; but for the value of a performance
counter, which is brought up to date before it is read, every register word is as before. -/
def Obligations.DebugReadsClearNothing : Prop :=
  ∀ (dt addr : Nat) (secure : Bool) (i : Instr) (s u : State), u = s.tick dt →
    (i = .registerReadClear dt ⟨.debug, secure⟩ addr ∨ i = .readLowWord dt ⟨.debug, secure⟩ addr) →
    ∃ t : State, exec i s = .next t
      ∧ (∀ row high, keyRow addr = some (row, high) → t.rd addr &&& halfOf high row.rc = u.rd addr &&& halfOf high row.rc)
      ∧ (¬ (0x04010000 ≤ addr ∧ addr < 0x04020000 ∧ addr % 0x10 = 0) → ∀ k, t.rd k = u.rd k)

/-- Where every free index of a kind in a window's range has been freed before, the index that is allocated is free and in the range, and
none of the others was freed before it. The index that is freed last is the one freed latest of all. -/
def Obligations.OldestFreeIndexIsAllocated : Prop :=
  (∀ (w kind i : Nat) (u : State), u.pickIndex w kind = some i →
    (∀ j, u.inRange w kind j = true → (u.chan kind j).phase = .free → 0 < tget 0 u.pods.freed (chanKey kind j)) →
    u.inRange w kind i = true ∧ (u.chan kind i).phase = .free
      ∧ ∀ j, u.inRange w kind j = true → (u.chan kind j).phase = .free → tget 0 u.pods.freed (chanKey kind i) ≤ tget 0 u.pods.freed (chanKey kind j))
  ∧ (∀ (kind i : Nat) (u t : State), (∀ k, tget 0 u.pods.freed k ≤ u.pods.freeSeq) → t = u.freeIndex kind i →
    (t.chan kind i).phase = .free ∧ tget 0 t.pods.freed (chanKey kind i) = t.pods.freeSeq
      ∧ ∀ k, k ≠ chanKey kind i → tget 0 t.pods.freed k = tget 0 u.pods.freed k ∧ tget 0 t.pods.freed k < tget 0 t.pods.freed (chanKey kind i))

/-- When the one value staged for a slot is applied, with d the value less OFFSET shifted right by SHIFT with its sign, the bin that
counts it is d held from 0 to 63 where LOG is 0; where LOG is 1 it is bin 0 for d up to 0, and above the lower of 63 and the floor of log2
of d plus 1. Every other bin is as before. -/
def Obligations.ValuesFallIntoBins : Prop :=
  ∀ (dt n i k at_ cfg : Nat) (v d : Int) (s u : State), u = s.tick dt → (u.recSlot n).staged = [(v, at_)] → (u.recSlot n).applied ≠ u.now / 1000000 + 1 →
    cfg = u.rd64 (recCfg n) → -(2 ^ 63 : Int) ≤ v → v < (2 ^ 63 : Int) →
    d * (2 ^ bits cfg 14 10 : Int) ≤ v - sext 32 (bits cfg 63 32) → v - sext 32 (bits cfg 63 32) < (d + 1) * (2 ^ bits cfg 14 10 : Int) →
    (bit cfg 15 = false → (i : Int) = max 0 (min 63 d)) → (bit cfg 15 = true → d ≤ 0 → i = 0) →
    (bit cfg 15 = true → 0 < d → (2 ^ k : Int) ≤ d ∧ d < (2 ^ (k + 1) : Int) ∧ i = min 63 (k + 1)) →
    ∃ t : State, exec (.recApply dt n) s = .next t ∧ tget 0 (t.recSlot n).bins i = min (tget 0 (u.recSlot n).bins i + 1) (2 ^ 32 - 1)
      ∧ ∀ j, j ≠ i → tget 0 (t.recSlot n).bins j = tget 0 (u.recSlot n).bins j
end

