-- ==== Sys2Proof/Laws/Tbl.lean ====
section
/-!
SUPPORT. Laws of tables: what is read after a write, and that every operation keeps the canonical form.
-/
namespace Sys2Proof.Machine

variable {α : Type} {d : α}

theorem tget_tdel (m : Tbl α) (k j : Nat) : tget d (tdel m k) j = if j = k then d else tget d m j := by
  induction m with
  | nil => simp [tget, tdel]
  | cons c m ih =>
    obtain ⟨k', v⟩ := c
    by_cases h : k = k'
    · subst h; simp only [tdel, if_true, ih, tget]; split <;> simp_all
    · simp only [tdel, if_neg h, tget, ih]; split <;> split <;> simp_all

theorem tget_tins (m : Tbl α) (k j : Nat) (v : α) (h : tget d m k = d) (hk : ∀ c ∈ m, c.1 ≠ k) :
    tget d (tins k v m) j = if j = k then v else tget d m j := by
  induction m with
  | nil => simp [tget, tins]
  | cons c m ih =>
    obtain ⟨k', v'⟩ := c
    have hne : k' ≠ k := hk (k', v') (by simp)
    have hm : ∀ c ∈ m, c.1 ≠ k := fun c hc => hk c (by simp [hc])
    simp only [tins]
    split
    · simp [tget]
    · have h' : tget d m k = d := by simpa [tget, Ne.symm hne] using h
      simp only [tget, ih h' hm]; split <;> split <;> simp_all

theorem tdel_ne (m : Tbl α) (k : Nat) : ∀ c ∈ tdel m k, c.1 ≠ k := by
  induction m with
  | nil => simp [tdel]
  | cons c m ih =>
    obtain ⟨k', v⟩ := c
    by_cases h : k = k'
    · simp only [tdel, if_pos h]; exact ih
    · simp only [tdel, if_neg h, List.mem_cons]; rintro c (rfl | hc)
      · exact fun e => h e.symm
      · exact ih c hc

/-- Reading after a write: the value written at its key, every other key as before. -/
theorem tget_tset [DecidableEq α] (m : Tbl α) (k j : Nat) (v : α) : tget d (tset d m k v) j = if j = k then v else tget d m j := by
  unfold tset
  split
  · next h => rw [tget_tdel]; split <;> simp_all
  · rw [tget_tins _ _ _ _ (by simp [tget_tdel]) (tdel_ne m k), tget_tdel]; split <;> simp_all

@[simp] theorem tget_tset_same [DecidableEq α] (m : Tbl α) (k : Nat) (v : α) : tget d (tset d m k v) k = v := by simp [tget_tset]

theorem tget_tins_ne (m : Tbl α) {k j : Nat} (v : α) (h : j ≠ k) : tget d (tins k v m) j = tget d m j := by
  induction m with
  | nil => simp [tget, tins, h]
  | cons c m ih =>
    obtain ⟨k', v'⟩ := c
    simp only [tins]; split
    · simp [tget, h]
    · simp [tget, ih]

/-- Other keys keep their values, whatever an unlisted key reads as. -/
theorem tget_tset_ne [DecidableEq α] {d' : α} (m : Tbl α) {k j : Nat} (v : α) (h : j ≠ k) :
    tget d (tset d' m k v) j = tget d m j := by
  unfold tset
  split
  · rw [tget_tdel, if_neg h]
  · rw [tget_tins_ne _ _ h, tget_tdel, if_neg h]

@[simp] theorem tget_tmod [DecidableEq α] (m : Tbl α) (k j : Nat) (f : α → α) :
    tget d (tmod d m k f) j = if j = k then f (tget d m k) else tget d m j := by
  simp [tmod, tget_tset]

/-! ### The canonical form -/

theorem tsorted_cons {b : Option Nat} {k : Nat} {v : α} {m : Tbl α} :
    tsorted b ((k, v) :: m) = true ↔ (∀ x, b = some x → x < k) ∧ tsorted (some k) m = true := by
  cases b <;> simp [tsorted]

theorem tsorted_weak {b c : Nat} (h : b ≤ c) : ∀ {m : Tbl α}, tsorted (some c) m = true → tsorted (some b) m = true
  | [], _ => rfl
  | (k, v) :: m, hm => by
    rw [tsorted_cons] at hm ⊢
    exact ⟨fun x hx => by have := hm.1 c rfl; cases hx; omega, hm.2⟩

theorem tsorted_none {c : Nat} : ∀ {m : Tbl α}, tsorted (some c) m = true → tsorted none m = true
  | [], _ => rfl
  | (k, v) :: m, hm => by rw [tsorted_cons] at hm ⊢; exact ⟨fun _ h => by simp at h, hm.2⟩

/-- A subsequence of a sorted table is sorted. -/
theorem tsorted_sublist {m n : Tbl α} (h : List.Sublist n m) : ∀ {b : Option Nat}, tsorted b m = true → tsorted b n = true := by
  induction h with
  | slnil => intro b h; exact h
  | cons c _ ih =>
    obtain ⟨k, v⟩ := c
    intro b hb
    rw [tsorted_cons] at hb
    cases b with
    | none => exact tsorted_none (ih hb.2)
    | some x => exact tsorted_weak (le_of_lt (hb.1 x rfl)) (ih hb.2)
  | cons_cons c _ ih =>
    obtain ⟨k, v⟩ := c
    intro b hb
    rw [tsorted_cons] at hb ⊢
    exact ⟨hb.1, ih hb.2⟩

theorem tdel_sublist (k : Nat) : ∀ m : Tbl α, List.Sublist (tdel m k) m
  | [] => List.Sublist.refl _
  | (k', v) :: m => by
    unfold tdel; split
    · exact (tdel_sublist k m).cons _
    · exact (tdel_sublist k m).cons_cons _

theorem tcut_sublist (lo hi : Nat) : ∀ m : Tbl α, List.Sublist (tcut m lo hi) m
  | [] => List.Sublist.refl _
  | (k', v) :: m => by
    unfold tcut; split
    · exact (tcut_sublist lo hi m).cons _
    · exact (tcut_sublist lo hi m).cons_cons _

theorem tins_sorted (k : Nat) (v : α) : ∀ (m : Tbl α) {b : Option Nat}, (∀ x, b = some x → x < k) → (∀ c ∈ m, c.1 ≠ k) →
    tsorted b m = true → tsorted b (tins k v m) = true
  | [], b, hb, _, _ => by unfold tins; rw [tsorted_cons]; exact ⟨hb, rfl⟩
  | (k', v') :: m, b, hb, hk, hm => by
    rw [tsorted_cons] at hm
    unfold tins
    have hne : k' ≠ k := hk (k', v') (by simp)
    split
    · next h => rw [tsorted_cons, tsorted_cons]; exact ⟨hb, fun x hx => by cases hx; exact h, hm.2⟩
    · next h =>
      rw [tsorted_cons]
      exact ⟨hm.1, tins_sorted k v m (fun x hx => by cases hx; omega) (fun c hc => hk c (by simp [hc])) hm.2⟩

theorem tins_mem (k : Nat) (v : α) : ∀ (m : Tbl α) (c : Nat × α), c ∈ tins k v m → c = (k, v) ∨ c ∈ m
  | [], c, h => by simpa [tins] using h
  | (k', v') :: m, c, h => by
    unfold tins at h
    split at h
    · simpa using h
    · rcases List.mem_cons.mp h with h | h
      · exact .inr (by simp [h])
      · rcases tins_mem k v m c h with h | h <;> simp [h]

variable [DecidableEq α]

theorem twf_sublist {m n : Tbl α} (h : List.Sublist n m) (hm : twf d m = true) : twf d n = true := by
  simp only [twf, Bool.and_eq_true, List.all_eq_true] at hm ⊢
  exact ⟨tsorted_sublist h hm.1, fun c hc => hm.2 c (h.subset hc)⟩

/-- The empty table is canonical. -/
theorem twf_nil : twf d ([] : Tbl α) = true := rfl

/-- A write keeps the canonical form. -/
theorem twf_tset {m : Tbl α} (hm : twf d m = true) (k : Nat) (v : α) : twf d (tset d m k v) = true := by
  have hdel := twf_sublist (tdel_sublist k m) hm
  unfold tset
  split
  · exact hdel
  · next hv =>
    simp only [twf, Bool.and_eq_true, List.all_eq_true, decide_eq_true_eq] at hdel ⊢
    refine ⟨tins_sorted k v _ (by simp) (tdel_ne m k) hdel.1, fun c hc => ?_⟩
    rcases tins_mem k v _ c hc with rfl | hc
    · exact hv
    · exact hdel.2 c hc

theorem twf_tmod {m : Tbl α} (hm : twf d m = true) (k : Nat) (f : α → α) : twf d (tmod d m k f) = true := twf_tset hm _ _

theorem twf_tdel {m : Tbl α} (hm : twf d m = true) (k : Nat) : twf d (tdel m k) = true := twf_sublist (tdel_sublist k m) hm

theorem twf_tcut {m : Tbl α} (hm : twf d m = true) (lo hi : Nat) : twf d (tcut m lo hi) = true := twf_sublist (tcut_sublist lo hi m) hm

theorem twf_filter {m : Tbl α} (hm : twf d m = true) (p : Nat × α → Bool) : twf d (m.filter p) = true :=
  twf_sublist List.filter_sublist hm

/-- A fold of steps that keep the canonical form keeps it. -/
theorem twf_foldl {β : Type} (f : Tbl α → β → Tbl α) (hf : ∀ m x, twf d m = true → twf d (f m x) = true) :
    ∀ (l : List β) (m : Tbl α), twf d m = true → twf d (l.foldl f m) = true
  | [], _, h => h
  | x :: l, m, h => twf_foldl f hf l (f m x) (hf m x h)

omit [DecidableEq α] in
/-- Bytes written keep the canonical form. -/
theorem twf_writeBytes : ∀ (bs : Bytes) (m : Tbl Byte) (a : Nat), twf 0 m = true → twf 0 (writeBytes m a bs) = true
  | [], _, _, h => h
  | _ :: bs, m, a, h => twf_writeBytes bs _ (a + 1) (twf_tset h a _)

/-- A byte read after bytes were written. -/
theorem tget_writeBytes : ∀ (bs : Bytes) (m : Tbl Byte) (a j : Nat),
    tget 0 (writeBytes m a bs) j = if a ≤ j ∧ j < a + bs.length then bs.getD (j - a) 0 else tget 0 m j
  | [], m, a, j => by
    have : ¬ (a ≤ j ∧ j < a + 0) := by omega
    simp [writeBytes, this]
  | b :: bs, m, a, j => by
    rw [writeBytes, tget_writeBytes bs, List.length_cons]
    by_cases h1 : a + 1 ≤ j ∧ j < a + 1 + bs.length
    · have h2 : a ≤ j ∧ j < a + (bs.length + 1) := by omega
      rw [if_pos h1, if_pos h2, show j - a = (j - (a + 1)) + 1 by omega, List.getD_cons_succ]
    · rw [if_neg h1, tget_tset]
      by_cases h3 : j = a
      · subst h3
        have h2 : j ≤ j ∧ j < j + (bs.length + 1) := by omega
        simp [h2]
      · have h2 : ¬ (a ≤ j ∧ j < a + (bs.length + 1)) := by omega
        rw [if_neg h3, if_neg h2]

end Sys2Proof.Machine
end

