-- ==== Sys2Proof/Laws/State.lean ====
section
/-!
SUPPORT. Laws of the state: what each update of a part leaves as it was, and reads of registers after writes.
-/
namespace Sys2Proof.Machine

variable (s : State)

@[simp] theorem State.mPods_pods (f : Pods → Pods) : (s.mPods f).pods = f s.pods := rfl

@[simp] theorem State.mPods_frame (f : Pods → Pods) :
    (s.mPods f).pending = s.pending ∧ (s.mPods f).now = s.now ∧ (s.mPods f).variant = s.variant ∧ (s.mPods f).freeCount = s.freeCount ∧
    (s.mPods f).regs = s.regs ∧ (s.mPods f).latch = s.latch ∧ (s.mPods f).staged = s.staged ∧ (s.mPods f).cycle = s.cycle ∧
    (s.mPods f).lastRead = s.lastRead ∧ (s.mPods f).mem = s.mem ∧ (s.mPods f).hostMem = s.hostMem ∧ (s.mPods f).seed = s.seed ∧
    (s.mPods f).display = s.display ∧ (s.mPods f).pip = s.pip ∧ (s.mPods f).checks = s.checks ∧ (s.mPods f).render = s.render ∧
    (s.mPods f).audio = s.audio ∧ (s.mPods f).panel = s.panel ∧ (s.mPods f).start = s.start ∧ (s.mPods f).worlds = s.worlds ∧
    (s.mPods f).vims = s.vims ∧ (s.mPods f).net = s.net ∧ (s.mPods f).recs = s.recs ∧ (s.mPods f).power = s.power ∧
    (s.mPods f).budget = s.budget ∧ (s.mPods f).husk = s.husk := by
  simp only [State.mPods, and_self]

@[simp] theorem State.mSeed_seed (f : Seed → Seed) : (s.mSeed f).seed = f s.seed := rfl

@[simp] theorem State.mSeed_frame (f : Seed → Seed) :
    (s.mSeed f).pending = s.pending ∧ (s.mSeed f).now = s.now ∧ (s.mSeed f).variant = s.variant ∧ (s.mSeed f).freeCount = s.freeCount ∧
    (s.mSeed f).regs = s.regs ∧ (s.mSeed f).latch = s.latch ∧ (s.mSeed f).staged = s.staged ∧ (s.mSeed f).cycle = s.cycle ∧
    (s.mSeed f).lastRead = s.lastRead ∧ (s.mSeed f).mem = s.mem ∧ (s.mSeed f).hostMem = s.hostMem ∧ (s.mSeed f).pods = s.pods ∧
    (s.mSeed f).display = s.display ∧ (s.mSeed f).pip = s.pip ∧ (s.mSeed f).checks = s.checks ∧ (s.mSeed f).render = s.render ∧
    (s.mSeed f).audio = s.audio ∧ (s.mSeed f).panel = s.panel ∧ (s.mSeed f).start = s.start ∧ (s.mSeed f).worlds = s.worlds ∧
    (s.mSeed f).vims = s.vims ∧ (s.mSeed f).net = s.net ∧ (s.mSeed f).recs = s.recs ∧ (s.mSeed f).power = s.power ∧
    (s.mSeed f).budget = s.budget ∧ (s.mSeed f).husk = s.husk := by
  simp only [State.mSeed, and_self]

@[simp] theorem State.mDisplay_display (f : Display → Display) : (s.mDisplay f).display = f s.display := rfl

@[simp] theorem State.mDisplay_frame (f : Display → Display) :
    (s.mDisplay f).pending = s.pending ∧ (s.mDisplay f).now = s.now ∧ (s.mDisplay f).variant = s.variant ∧
    (s.mDisplay f).freeCount = s.freeCount ∧ (s.mDisplay f).regs = s.regs ∧ (s.mDisplay f).latch = s.latch ∧
    (s.mDisplay f).staged = s.staged ∧ (s.mDisplay f).cycle = s.cycle ∧ (s.mDisplay f).lastRead = s.lastRead ∧
    (s.mDisplay f).mem = s.mem ∧ (s.mDisplay f).hostMem = s.hostMem ∧ (s.mDisplay f).pods = s.pods ∧ (s.mDisplay f).seed = s.seed ∧
    (s.mDisplay f).pip = s.pip ∧ (s.mDisplay f).checks = s.checks ∧ (s.mDisplay f).render = s.render ∧ (s.mDisplay f).audio = s.audio ∧
    (s.mDisplay f).panel = s.panel ∧ (s.mDisplay f).start = s.start ∧ (s.mDisplay f).worlds = s.worlds ∧ (s.mDisplay f).vims = s.vims ∧
    (s.mDisplay f).net = s.net ∧ (s.mDisplay f).recs = s.recs ∧ (s.mDisplay f).power = s.power ∧ (s.mDisplay f).budget = s.budget ∧
    (s.mDisplay f).husk = s.husk := by
  simp only [State.mDisplay, and_self]

@[simp] theorem State.mPip_pip (f : PipSt → PipSt) : (s.mPip f).pip = f s.pip := rfl

@[simp] theorem State.mPip_frame (f : PipSt → PipSt) :
    (s.mPip f).pending = s.pending ∧ (s.mPip f).now = s.now ∧ (s.mPip f).variant = s.variant ∧ (s.mPip f).freeCount = s.freeCount ∧
    (s.mPip f).regs = s.regs ∧ (s.mPip f).latch = s.latch ∧ (s.mPip f).staged = s.staged ∧ (s.mPip f).cycle = s.cycle ∧
    (s.mPip f).lastRead = s.lastRead ∧ (s.mPip f).mem = s.mem ∧ (s.mPip f).hostMem = s.hostMem ∧ (s.mPip f).pods = s.pods ∧
    (s.mPip f).seed = s.seed ∧ (s.mPip f).display = s.display ∧ (s.mPip f).checks = s.checks ∧ (s.mPip f).render = s.render ∧
    (s.mPip f).audio = s.audio ∧ (s.mPip f).panel = s.panel ∧ (s.mPip f).start = s.start ∧ (s.mPip f).worlds = s.worlds ∧
    (s.mPip f).vims = s.vims ∧ (s.mPip f).net = s.net ∧ (s.mPip f).recs = s.recs ∧ (s.mPip f).power = s.power ∧
    (s.mPip f).budget = s.budget ∧ (s.mPip f).husk = s.husk := by
  simp only [State.mPip, and_self]

@[simp] theorem State.mChecks_checks (f : Checks → Checks) : (s.mChecks f).checks = f s.checks := rfl

@[simp] theorem State.mChecks_frame (f : Checks → Checks) :
    (s.mChecks f).pending = s.pending ∧ (s.mChecks f).now = s.now ∧ (s.mChecks f).variant = s.variant ∧
    (s.mChecks f).freeCount = s.freeCount ∧ (s.mChecks f).regs = s.regs ∧ (s.mChecks f).latch = s.latch ∧
    (s.mChecks f).staged = s.staged ∧ (s.mChecks f).cycle = s.cycle ∧ (s.mChecks f).lastRead = s.lastRead ∧ (s.mChecks f).mem = s.mem ∧
    (s.mChecks f).hostMem = s.hostMem ∧ (s.mChecks f).pods = s.pods ∧ (s.mChecks f).seed = s.seed ∧ (s.mChecks f).display = s.display ∧
    (s.mChecks f).pip = s.pip ∧ (s.mChecks f).render = s.render ∧ (s.mChecks f).audio = s.audio ∧ (s.mChecks f).panel = s.panel ∧
    (s.mChecks f).start = s.start ∧ (s.mChecks f).worlds = s.worlds ∧ (s.mChecks f).vims = s.vims ∧ (s.mChecks f).net = s.net ∧
    (s.mChecks f).recs = s.recs ∧ (s.mChecks f).power = s.power ∧ (s.mChecks f).budget = s.budget ∧ (s.mChecks f).husk = s.husk := by
  simp only [State.mChecks, and_self]

@[simp] theorem State.mRender_render (f : Render → Render) : (s.mRender f).render = f s.render := rfl

@[simp] theorem State.mRender_frame (f : Render → Render) :
    (s.mRender f).pending = s.pending ∧ (s.mRender f).now = s.now ∧ (s.mRender f).variant = s.variant ∧
    (s.mRender f).freeCount = s.freeCount ∧ (s.mRender f).regs = s.regs ∧ (s.mRender f).latch = s.latch ∧
    (s.mRender f).staged = s.staged ∧ (s.mRender f).cycle = s.cycle ∧ (s.mRender f).lastRead = s.lastRead ∧ (s.mRender f).mem = s.mem ∧
    (s.mRender f).hostMem = s.hostMem ∧ (s.mRender f).pods = s.pods ∧ (s.mRender f).seed = s.seed ∧ (s.mRender f).display = s.display ∧
    (s.mRender f).pip = s.pip ∧ (s.mRender f).checks = s.checks ∧ (s.mRender f).audio = s.audio ∧ (s.mRender f).panel = s.panel ∧
    (s.mRender f).start = s.start ∧ (s.mRender f).worlds = s.worlds ∧ (s.mRender f).vims = s.vims ∧ (s.mRender f).net = s.net ∧
    (s.mRender f).recs = s.recs ∧ (s.mRender f).power = s.power ∧ (s.mRender f).budget = s.budget ∧ (s.mRender f).husk = s.husk := by
  simp only [State.mRender, and_self]

@[simp] theorem State.mAudio_audio (f : Audio → Audio) : (s.mAudio f).audio = f s.audio := rfl

@[simp] theorem State.mAudio_frame (f : Audio → Audio) :
    (s.mAudio f).pending = s.pending ∧ (s.mAudio f).now = s.now ∧ (s.mAudio f).variant = s.variant ∧
    (s.mAudio f).freeCount = s.freeCount ∧ (s.mAudio f).regs = s.regs ∧ (s.mAudio f).latch = s.latch ∧ (s.mAudio f).staged = s.staged ∧
    (s.mAudio f).cycle = s.cycle ∧ (s.mAudio f).lastRead = s.lastRead ∧ (s.mAudio f).mem = s.mem ∧ (s.mAudio f).hostMem = s.hostMem ∧
    (s.mAudio f).pods = s.pods ∧ (s.mAudio f).seed = s.seed ∧ (s.mAudio f).display = s.display ∧ (s.mAudio f).pip = s.pip ∧
    (s.mAudio f).checks = s.checks ∧ (s.mAudio f).render = s.render ∧ (s.mAudio f).panel = s.panel ∧ (s.mAudio f).start = s.start ∧
    (s.mAudio f).worlds = s.worlds ∧ (s.mAudio f).vims = s.vims ∧ (s.mAudio f).net = s.net ∧ (s.mAudio f).recs = s.recs ∧
    (s.mAudio f).power = s.power ∧ (s.mAudio f).budget = s.budget ∧ (s.mAudio f).husk = s.husk := by
  simp only [State.mAudio, and_self]

@[simp] theorem State.mPanel_panel (f : Panel → Panel) : (s.mPanel f).panel = f s.panel := rfl

@[simp] theorem State.mPanel_frame (f : Panel → Panel) :
    (s.mPanel f).pending = s.pending ∧ (s.mPanel f).now = s.now ∧ (s.mPanel f).variant = s.variant ∧
    (s.mPanel f).freeCount = s.freeCount ∧ (s.mPanel f).regs = s.regs ∧ (s.mPanel f).latch = s.latch ∧ (s.mPanel f).staged = s.staged ∧
    (s.mPanel f).cycle = s.cycle ∧ (s.mPanel f).lastRead = s.lastRead ∧ (s.mPanel f).mem = s.mem ∧ (s.mPanel f).hostMem = s.hostMem ∧
    (s.mPanel f).pods = s.pods ∧ (s.mPanel f).seed = s.seed ∧ (s.mPanel f).display = s.display ∧ (s.mPanel f).pip = s.pip ∧
    (s.mPanel f).checks = s.checks ∧ (s.mPanel f).render = s.render ∧ (s.mPanel f).audio = s.audio ∧ (s.mPanel f).start = s.start ∧
    (s.mPanel f).worlds = s.worlds ∧ (s.mPanel f).vims = s.vims ∧ (s.mPanel f).net = s.net ∧ (s.mPanel f).recs = s.recs ∧
    (s.mPanel f).power = s.power ∧ (s.mPanel f).budget = s.budget ∧ (s.mPanel f).husk = s.husk := by
  simp only [State.mPanel, and_self]

@[simp] theorem State.mStart_start (f : StartSt → StartSt) : (s.mStart f).start = f s.start := rfl

@[simp] theorem State.mStart_frame (f : StartSt → StartSt) :
    (s.mStart f).pending = s.pending ∧ (s.mStart f).now = s.now ∧ (s.mStart f).variant = s.variant ∧
    (s.mStart f).freeCount = s.freeCount ∧ (s.mStart f).regs = s.regs ∧ (s.mStart f).latch = s.latch ∧ (s.mStart f).staged = s.staged ∧
    (s.mStart f).cycle = s.cycle ∧ (s.mStart f).lastRead = s.lastRead ∧ (s.mStart f).mem = s.mem ∧ (s.mStart f).hostMem = s.hostMem ∧
    (s.mStart f).pods = s.pods ∧ (s.mStart f).seed = s.seed ∧ (s.mStart f).display = s.display ∧ (s.mStart f).pip = s.pip ∧
    (s.mStart f).checks = s.checks ∧ (s.mStart f).render = s.render ∧ (s.mStart f).audio = s.audio ∧ (s.mStart f).panel = s.panel ∧
    (s.mStart f).worlds = s.worlds ∧ (s.mStart f).vims = s.vims ∧ (s.mStart f).net = s.net ∧ (s.mStart f).recs = s.recs ∧
    (s.mStart f).power = s.power ∧ (s.mStart f).budget = s.budget ∧ (s.mStart f).husk = s.husk := by
  simp only [State.mStart, and_self]

@[simp] theorem State.mWorlds_worlds (f : Worlds → Worlds) : (s.mWorlds f).worlds = f s.worlds := rfl

@[simp] theorem State.mWorlds_frame (f : Worlds → Worlds) :
    (s.mWorlds f).pending = s.pending ∧ (s.mWorlds f).now = s.now ∧ (s.mWorlds f).variant = s.variant ∧
    (s.mWorlds f).freeCount = s.freeCount ∧ (s.mWorlds f).regs = s.regs ∧ (s.mWorlds f).latch = s.latch ∧
    (s.mWorlds f).staged = s.staged ∧ (s.mWorlds f).cycle = s.cycle ∧ (s.mWorlds f).lastRead = s.lastRead ∧ (s.mWorlds f).mem = s.mem ∧
    (s.mWorlds f).hostMem = s.hostMem ∧ (s.mWorlds f).pods = s.pods ∧ (s.mWorlds f).seed = s.seed ∧ (s.mWorlds f).display = s.display ∧
    (s.mWorlds f).pip = s.pip ∧ (s.mWorlds f).checks = s.checks ∧ (s.mWorlds f).render = s.render ∧ (s.mWorlds f).audio = s.audio ∧
    (s.mWorlds f).panel = s.panel ∧ (s.mWorlds f).start = s.start ∧ (s.mWorlds f).vims = s.vims ∧ (s.mWorlds f).net = s.net ∧
    (s.mWorlds f).recs = s.recs ∧ (s.mWorlds f).power = s.power ∧ (s.mWorlds f).budget = s.budget ∧ (s.mWorlds f).husk = s.husk := by
  simp only [State.mWorlds, and_self]

@[simp] theorem State.mVims_vims (f : Vims → Vims) : (s.mVims f).vims = f s.vims := rfl

@[simp] theorem State.mVims_frame (f : Vims → Vims) :
    (s.mVims f).pending = s.pending ∧ (s.mVims f).now = s.now ∧ (s.mVims f).variant = s.variant ∧ (s.mVims f).freeCount = s.freeCount ∧
    (s.mVims f).regs = s.regs ∧ (s.mVims f).latch = s.latch ∧ (s.mVims f).staged = s.staged ∧ (s.mVims f).cycle = s.cycle ∧
    (s.mVims f).lastRead = s.lastRead ∧ (s.mVims f).mem = s.mem ∧ (s.mVims f).hostMem = s.hostMem ∧ (s.mVims f).pods = s.pods ∧
    (s.mVims f).seed = s.seed ∧ (s.mVims f).display = s.display ∧ (s.mVims f).pip = s.pip ∧ (s.mVims f).checks = s.checks ∧
    (s.mVims f).render = s.render ∧ (s.mVims f).audio = s.audio ∧ (s.mVims f).panel = s.panel ∧ (s.mVims f).start = s.start ∧
    (s.mVims f).worlds = s.worlds ∧ (s.mVims f).net = s.net ∧ (s.mVims f).recs = s.recs ∧ (s.mVims f).power = s.power ∧
    (s.mVims f).budget = s.budget ∧ (s.mVims f).husk = s.husk := by
  simp only [State.mVims, and_self]

@[simp] theorem State.mNet_net (f : Net → Net) : (s.mNet f).net = f s.net := rfl

@[simp] theorem State.mNet_frame (f : Net → Net) :
    (s.mNet f).pending = s.pending ∧ (s.mNet f).now = s.now ∧ (s.mNet f).variant = s.variant ∧ (s.mNet f).freeCount = s.freeCount ∧
    (s.mNet f).regs = s.regs ∧ (s.mNet f).latch = s.latch ∧ (s.mNet f).staged = s.staged ∧ (s.mNet f).cycle = s.cycle ∧
    (s.mNet f).lastRead = s.lastRead ∧ (s.mNet f).mem = s.mem ∧ (s.mNet f).hostMem = s.hostMem ∧ (s.mNet f).pods = s.pods ∧
    (s.mNet f).seed = s.seed ∧ (s.mNet f).display = s.display ∧ (s.mNet f).pip = s.pip ∧ (s.mNet f).checks = s.checks ∧
    (s.mNet f).render = s.render ∧ (s.mNet f).audio = s.audio ∧ (s.mNet f).panel = s.panel ∧ (s.mNet f).start = s.start ∧
    (s.mNet f).worlds = s.worlds ∧ (s.mNet f).vims = s.vims ∧ (s.mNet f).recs = s.recs ∧ (s.mNet f).power = s.power ∧
    (s.mNet f).budget = s.budget ∧ (s.mNet f).husk = s.husk := by
  simp only [State.mNet, and_self]

@[simp] theorem State.mPower_power (f : PowerSt → PowerSt) : (s.mPower f).power = f s.power := rfl

@[simp] theorem State.mPower_frame (f : PowerSt → PowerSt) :
    (s.mPower f).pending = s.pending ∧ (s.mPower f).now = s.now ∧ (s.mPower f).variant = s.variant ∧
    (s.mPower f).freeCount = s.freeCount ∧ (s.mPower f).regs = s.regs ∧ (s.mPower f).latch = s.latch ∧ (s.mPower f).staged = s.staged ∧
    (s.mPower f).cycle = s.cycle ∧ (s.mPower f).lastRead = s.lastRead ∧ (s.mPower f).mem = s.mem ∧ (s.mPower f).hostMem = s.hostMem ∧
    (s.mPower f).pods = s.pods ∧ (s.mPower f).seed = s.seed ∧ (s.mPower f).display = s.display ∧ (s.mPower f).pip = s.pip ∧
    (s.mPower f).checks = s.checks ∧ (s.mPower f).render = s.render ∧ (s.mPower f).audio = s.audio ∧ (s.mPower f).panel = s.panel ∧
    (s.mPower f).start = s.start ∧ (s.mPower f).worlds = s.worlds ∧ (s.mPower f).vims = s.vims ∧ (s.mPower f).net = s.net ∧
    (s.mPower f).recs = s.recs ∧ (s.mPower f).budget = s.budget ∧ (s.mPower f).husk = s.husk := by
  simp only [State.mPower, and_self]

@[simp] theorem State.mHusk_husk (f : HuskSt → HuskSt) : (s.mHusk f).husk = f s.husk := rfl

@[simp] theorem State.mHusk_frame (f : HuskSt → HuskSt) :
    (s.mHusk f).pending = s.pending ∧ (s.mHusk f).now = s.now ∧ (s.mHusk f).variant = s.variant ∧ (s.mHusk f).freeCount = s.freeCount ∧
    (s.mHusk f).regs = s.regs ∧ (s.mHusk f).latch = s.latch ∧ (s.mHusk f).staged = s.staged ∧ (s.mHusk f).cycle = s.cycle ∧
    (s.mHusk f).lastRead = s.lastRead ∧ (s.mHusk f).mem = s.mem ∧ (s.mHusk f).hostMem = s.hostMem ∧ (s.mHusk f).pods = s.pods ∧
    (s.mHusk f).seed = s.seed ∧ (s.mHusk f).display = s.display ∧ (s.mHusk f).pip = s.pip ∧ (s.mHusk f).checks = s.checks ∧
    (s.mHusk f).render = s.render ∧ (s.mHusk f).audio = s.audio ∧ (s.mHusk f).panel = s.panel ∧ (s.mHusk f).start = s.start ∧
    (s.mHusk f).worlds = s.worlds ∧ (s.mHusk f).vims = s.vims ∧ (s.mHusk f).net = s.net ∧ (s.mHusk f).recs = s.recs ∧
    (s.mHusk f).power = s.power ∧ (s.mHusk f).budget = s.budget := by
  simp only [State.mHusk, and_self]

@[simp] theorem State.mBudget_budget (f : BudgetSt → BudgetSt) : (s.mBudget f).budget = f s.budget := rfl

@[simp] theorem State.mBudget_frame (f : BudgetSt → BudgetSt) :
    (s.mBudget f).pending = s.pending ∧ (s.mBudget f).now = s.now ∧ (s.mBudget f).variant = s.variant ∧
    (s.mBudget f).freeCount = s.freeCount ∧ (s.mBudget f).regs = s.regs ∧ (s.mBudget f).latch = s.latch ∧
    (s.mBudget f).staged = s.staged ∧ (s.mBudget f).cycle = s.cycle ∧ (s.mBudget f).lastRead = s.lastRead ∧ (s.mBudget f).mem = s.mem ∧
    (s.mBudget f).hostMem = s.hostMem ∧ (s.mBudget f).pods = s.pods ∧ (s.mBudget f).seed = s.seed ∧ (s.mBudget f).display = s.display ∧
    (s.mBudget f).pip = s.pip ∧ (s.mBudget f).checks = s.checks ∧ (s.mBudget f).render = s.render ∧ (s.mBudget f).audio = s.audio ∧
    (s.mBudget f).panel = s.panel ∧ (s.mBudget f).start = s.start ∧ (s.mBudget f).worlds = s.worlds ∧ (s.mBudget f).vims = s.vims ∧
    (s.mBudget f).net = s.net ∧ (s.mBudget f).recs = s.recs ∧ (s.mBudget f).power = s.power ∧ (s.mBudget f).husk = s.husk := by
  simp only [State.mBudget, and_self]

@[simp] theorem State.mRecs_recs (f : Recs → Recs) : (s.mRecs f).recs = f s.recs := rfl

@[simp] theorem State.mRecs_frame (f : Recs → Recs) :
    (s.mRecs f).pending = s.pending ∧ (s.mRecs f).now = s.now ∧ (s.mRecs f).variant = s.variant ∧ (s.mRecs f).freeCount = s.freeCount ∧
    (s.mRecs f).regs = s.regs ∧ (s.mRecs f).latch = s.latch ∧ (s.mRecs f).staged = s.staged ∧ (s.mRecs f).cycle = s.cycle ∧
    (s.mRecs f).lastRead = s.lastRead ∧ (s.mRecs f).mem = s.mem ∧ (s.mRecs f).hostMem = s.hostMem ∧ (s.mRecs f).pods = s.pods ∧
    (s.mRecs f).seed = s.seed ∧ (s.mRecs f).display = s.display ∧ (s.mRecs f).pip = s.pip ∧ (s.mRecs f).checks = s.checks ∧
    (s.mRecs f).render = s.render ∧ (s.mRecs f).audio = s.audio ∧ (s.mRecs f).panel = s.panel ∧ (s.mRecs f).start = s.start ∧
    (s.mRecs f).worlds = s.worlds ∧ (s.mRecs f).vims = s.vims ∧ (s.mRecs f).net = s.net ∧ (s.mRecs f).power = s.power ∧
    (s.mRecs f).budget = s.budget ∧ (s.mRecs f).husk = s.husk := by
  simp only [State.mRecs, and_self]

@[simp] theorem State.tick_now (dt : Nat) : (s.tick dt).now = (s.now + dt) % 2 ^ 64 := rfl

@[simp] theorem State.tick_frame (dt : Nat) :
    (s.tick dt).pending = s.pending ∧ (s.tick dt).variant = s.variant ∧ (s.tick dt).freeCount = s.freeCount ∧ (s.tick dt).regs = s.regs ∧
    (s.tick dt).latch = s.latch ∧ (s.tick dt).staged = s.staged ∧ (s.tick dt).lastRead = s.lastRead ∧ (s.tick dt).mem = s.mem ∧
    (s.tick dt).hostMem = s.hostMem ∧ (s.tick dt).pods = s.pods ∧ (s.tick dt).seed = s.seed ∧ (s.tick dt).display = s.display ∧
    (s.tick dt).pip = s.pip ∧ (s.tick dt).checks = s.checks ∧ (s.tick dt).render = s.render ∧ (s.tick dt).audio = s.audio ∧
    (s.tick dt).panel = s.panel ∧ (s.tick dt).start = s.start ∧ (s.tick dt).worlds = s.worlds ∧ (s.tick dt).vims = s.vims ∧
    (s.tick dt).net = s.net ∧ (s.tick dt).recs = s.recs ∧ (s.tick dt).power = s.power ∧ (s.tick dt).budget = s.budget ∧
    (s.tick dt).husk = s.husk := by
  simp only [State.tick, and_self]

@[simp] theorem State.withPending_pending (q : List Instr) : (s.withPending q).pending = q := rfl

@[simp] theorem State.withPending_frame (q : List Instr) :
    (s.withPending q).now = s.now ∧ (s.withPending q).variant = s.variant ∧ (s.withPending q).freeCount = s.freeCount ∧
    (s.withPending q).regs = s.regs ∧ (s.withPending q).latch = s.latch ∧ (s.withPending q).staged = s.staged ∧
    (s.withPending q).cycle = s.cycle ∧ (s.withPending q).lastRead = s.lastRead ∧ (s.withPending q).mem = s.mem ∧
    (s.withPending q).hostMem = s.hostMem ∧ (s.withPending q).pods = s.pods ∧ (s.withPending q).seed = s.seed ∧
    (s.withPending q).display = s.display ∧ (s.withPending q).pip = s.pip ∧ (s.withPending q).checks = s.checks ∧
    (s.withPending q).render = s.render ∧ (s.withPending q).audio = s.audio ∧ (s.withPending q).panel = s.panel ∧
    (s.withPending q).start = s.start ∧ (s.withPending q).worlds = s.worlds ∧ (s.withPending q).vims = s.vims ∧
    (s.withPending q).net = s.net ∧ (s.withPending q).recs = s.recs ∧ (s.withPending q).power = s.power ∧
    (s.withPending q).budget = s.budget ∧ (s.withPending q).husk = s.husk := by
  simp only [State.withPending, and_self]

@[simp] theorem State.wr_frame (k v : Nat) :
    (s.wr k v).pending = s.pending ∧ (s.wr k v).now = s.now ∧ (s.wr k v).variant = s.variant ∧ (s.wr k v).freeCount = s.freeCount ∧
    (s.wr k v).latch = s.latch ∧ (s.wr k v).staged = s.staged ∧ (s.wr k v).cycle = s.cycle ∧ (s.wr k v).lastRead = s.lastRead ∧
    (s.wr k v).mem = s.mem ∧ (s.wr k v).hostMem = s.hostMem ∧ (s.wr k v).pods = s.pods ∧ (s.wr k v).seed = s.seed ∧
    (s.wr k v).display = s.display ∧ (s.wr k v).pip = s.pip ∧ (s.wr k v).checks = s.checks ∧ (s.wr k v).render = s.render ∧
    (s.wr k v).audio = s.audio ∧ (s.wr k v).panel = s.panel ∧ (s.wr k v).start = s.start ∧ (s.wr k v).worlds = s.worlds ∧
    (s.wr k v).vims = s.vims ∧ (s.wr k v).net = s.net ∧ (s.wr k v).recs = s.recs ∧ (s.wr k v).power = s.power ∧
    (s.wr k v).budget = s.budget ∧ (s.wr k v).husk = s.husk := by
  simp only [State.wr, and_self]

@[simp] theorem State.wr64_frame (k v : Nat) :
    (s.wr64 k v).pending = s.pending ∧ (s.wr64 k v).now = s.now ∧ (s.wr64 k v).variant = s.variant ∧
    (s.wr64 k v).freeCount = s.freeCount ∧ (s.wr64 k v).latch = s.latch ∧ (s.wr64 k v).staged = s.staged ∧ (s.wr64 k v).cycle = s.cycle ∧
    (s.wr64 k v).lastRead = s.lastRead ∧ (s.wr64 k v).mem = s.mem ∧ (s.wr64 k v).hostMem = s.hostMem ∧ (s.wr64 k v).pods = s.pods ∧
    (s.wr64 k v).seed = s.seed ∧ (s.wr64 k v).display = s.display ∧ (s.wr64 k v).pip = s.pip ∧ (s.wr64 k v).checks = s.checks ∧
    (s.wr64 k v).render = s.render ∧ (s.wr64 k v).audio = s.audio ∧ (s.wr64 k v).panel = s.panel ∧ (s.wr64 k v).start = s.start ∧
    (s.wr64 k v).worlds = s.worlds ∧ (s.wr64 k v).vims = s.vims ∧ (s.wr64 k v).net = s.net ∧ (s.wr64 k v).recs = s.recs ∧
    (s.wr64 k v).power = s.power ∧ (s.wr64 k v).budget = s.budget ∧ (s.wr64 k v).husk = s.husk := by
  simp only [State.wr64, State.wr_frame, and_self]

@[simp] theorem State.wf_frame (k hi lo v : Nat) :
    (s.wf k hi lo v).pending = s.pending ∧ (s.wf k hi lo v).now = s.now ∧ (s.wf k hi lo v).variant = s.variant ∧
    (s.wf k hi lo v).freeCount = s.freeCount ∧ (s.wf k hi lo v).latch = s.latch ∧ (s.wf k hi lo v).staged = s.staged ∧
    (s.wf k hi lo v).cycle = s.cycle ∧ (s.wf k hi lo v).lastRead = s.lastRead ∧ (s.wf k hi lo v).mem = s.mem ∧
    (s.wf k hi lo v).hostMem = s.hostMem ∧ (s.wf k hi lo v).pods = s.pods ∧ (s.wf k hi lo v).seed = s.seed ∧
    (s.wf k hi lo v).display = s.display ∧ (s.wf k hi lo v).pip = s.pip ∧ (s.wf k hi lo v).checks = s.checks ∧
    (s.wf k hi lo v).render = s.render ∧ (s.wf k hi lo v).audio = s.audio ∧ (s.wf k hi lo v).panel = s.panel ∧
    (s.wf k hi lo v).start = s.start ∧ (s.wf k hi lo v).worlds = s.worlds ∧ (s.wf k hi lo v).vims = s.vims ∧
    (s.wf k hi lo v).net = s.net ∧ (s.wf k hi lo v).recs = s.recs ∧ (s.wf k hi lo v).power = s.power ∧
    (s.wf k hi lo v).budget = s.budget ∧ (s.wf k hi lo v).husk = s.husk := by
  simp only [State.wf, State.wr_frame, and_self]

@[simp] theorem State.incr_frame (k : Nat) :
    (s.incr k).pending = s.pending ∧ (s.incr k).now = s.now ∧ (s.incr k).variant = s.variant ∧ (s.incr k).freeCount = s.freeCount ∧
    (s.incr k).latch = s.latch ∧ (s.incr k).staged = s.staged ∧ (s.incr k).cycle = s.cycle ∧ (s.incr k).lastRead = s.lastRead ∧
    (s.incr k).mem = s.mem ∧ (s.incr k).hostMem = s.hostMem ∧ (s.incr k).pods = s.pods ∧ (s.incr k).seed = s.seed ∧
    (s.incr k).display = s.display ∧ (s.incr k).pip = s.pip ∧ (s.incr k).checks = s.checks ∧ (s.incr k).render = s.render ∧
    (s.incr k).audio = s.audio ∧ (s.incr k).panel = s.panel ∧ (s.incr k).start = s.start ∧ (s.incr k).worlds = s.worlds ∧
    (s.incr k).vims = s.vims ∧ (s.incr k).net = s.net ∧ (s.incr k).recs = s.recs ∧ (s.incr k).power = s.power ∧
    (s.incr k).budget = s.budget ∧ (s.incr k).husk = s.husk := by
  simp only [State.incr, State.wr_frame, and_self]

@[simp] theorem State.sat_frame (k n : Nat) :
    (s.sat k n).pending = s.pending ∧ (s.sat k n).now = s.now ∧ (s.sat k n).variant = s.variant ∧ (s.sat k n).freeCount = s.freeCount ∧
    (s.sat k n).latch = s.latch ∧ (s.sat k n).staged = s.staged ∧ (s.sat k n).cycle = s.cycle ∧ (s.sat k n).lastRead = s.lastRead ∧
    (s.sat k n).mem = s.mem ∧ (s.sat k n).hostMem = s.hostMem ∧ (s.sat k n).pods = s.pods ∧ (s.sat k n).seed = s.seed ∧
    (s.sat k n).display = s.display ∧ (s.sat k n).pip = s.pip ∧ (s.sat k n).checks = s.checks ∧ (s.sat k n).render = s.render ∧
    (s.sat k n).audio = s.audio ∧ (s.sat k n).panel = s.panel ∧ (s.sat k n).start = s.start ∧ (s.sat k n).worlds = s.worlds ∧
    (s.sat k n).vims = s.vims ∧ (s.sat k n).net = s.net ∧ (s.sat k n).recs = s.recs ∧ (s.sat k n).power = s.power ∧
    (s.sat k n).budget = s.budget ∧ (s.sat k n).husk = s.husk := by
  simp only [State.sat, State.wr_frame, and_self]

@[simp] theorem State.wb_frame (k i : Nat) (b : Bool) :
    (s.wb k i b).pending = s.pending ∧ (s.wb k i b).now = s.now ∧ (s.wb k i b).variant = s.variant ∧
    (s.wb k i b).freeCount = s.freeCount ∧ (s.wb k i b).latch = s.latch ∧ (s.wb k i b).staged = s.staged ∧ (s.wb k i b).cycle = s.cycle ∧
    (s.wb k i b).lastRead = s.lastRead ∧ (s.wb k i b).mem = s.mem ∧ (s.wb k i b).hostMem = s.hostMem ∧ (s.wb k i b).pods = s.pods ∧
    (s.wb k i b).seed = s.seed ∧ (s.wb k i b).display = s.display ∧ (s.wb k i b).pip = s.pip ∧ (s.wb k i b).checks = s.checks ∧
    (s.wb k i b).render = s.render ∧ (s.wb k i b).audio = s.audio ∧ (s.wb k i b).panel = s.panel ∧ (s.wb k i b).start = s.start ∧
    (s.wb k i b).worlds = s.worlds ∧ (s.wb k i b).vims = s.vims ∧ (s.wb k i b).net = s.net ∧ (s.wb k i b).recs = s.recs ∧
    (s.wb k i b).power = s.power ∧ (s.wb k i b).budget = s.budget ∧ (s.wb k i b).husk = s.husk := by
  simp only [State.wb, State.wf_frame, and_self]

@[simp] theorem State.satf_frame (k hi lo n : Nat) :
    (s.satf k hi lo n).pending = s.pending ∧ (s.satf k hi lo n).now = s.now ∧ (s.satf k hi lo n).variant = s.variant ∧
    (s.satf k hi lo n).freeCount = s.freeCount ∧ (s.satf k hi lo n).latch = s.latch ∧ (s.satf k hi lo n).staged = s.staged ∧
    (s.satf k hi lo n).cycle = s.cycle ∧ (s.satf k hi lo n).lastRead = s.lastRead ∧ (s.satf k hi lo n).mem = s.mem ∧
    (s.satf k hi lo n).hostMem = s.hostMem ∧ (s.satf k hi lo n).pods = s.pods ∧ (s.satf k hi lo n).seed = s.seed ∧
    (s.satf k hi lo n).display = s.display ∧ (s.satf k hi lo n).pip = s.pip ∧ (s.satf k hi lo n).checks = s.checks ∧
    (s.satf k hi lo n).render = s.render ∧ (s.satf k hi lo n).audio = s.audio ∧ (s.satf k hi lo n).panel = s.panel ∧
    (s.satf k hi lo n).start = s.start ∧ (s.satf k hi lo n).worlds = s.worlds ∧ (s.satf k hi lo n).vims = s.vims ∧
    (s.satf k hi lo n).net = s.net ∧ (s.satf k hi lo n).recs = s.recs ∧ (s.satf k hi lo n).power = s.power ∧
    (s.satf k hi lo n).budget = s.budget ∧ (s.satf k hi lo n).husk = s.husk := by
  simp only [State.satf, State.wf_frame, and_self]

@[simp] theorem State.incr64_frame (k n : Nat) :
    (s.incr64 k n).pending = s.pending ∧ (s.incr64 k n).now = s.now ∧ (s.incr64 k n).variant = s.variant ∧
    (s.incr64 k n).freeCount = s.freeCount ∧ (s.incr64 k n).latch = s.latch ∧ (s.incr64 k n).staged = s.staged ∧
    (s.incr64 k n).cycle = s.cycle ∧ (s.incr64 k n).lastRead = s.lastRead ∧ (s.incr64 k n).mem = s.mem ∧
    (s.incr64 k n).hostMem = s.hostMem ∧ (s.incr64 k n).pods = s.pods ∧ (s.incr64 k n).seed = s.seed ∧
    (s.incr64 k n).display = s.display ∧ (s.incr64 k n).pip = s.pip ∧ (s.incr64 k n).checks = s.checks ∧
    (s.incr64 k n).render = s.render ∧ (s.incr64 k n).audio = s.audio ∧ (s.incr64 k n).panel = s.panel ∧ (s.incr64 k n).start = s.start ∧
    (s.incr64 k n).worlds = s.worlds ∧ (s.incr64 k n).vims = s.vims ∧ (s.incr64 k n).net = s.net ∧ (s.incr64 k n).recs = s.recs ∧
    (s.incr64 k n).power = s.power ∧ (s.incr64 k n).budget = s.budget ∧ (s.incr64 k n).husk = s.husk := by
  simp only [State.incr64, State.wr64_frame, and_self]

@[simp] theorem State.raise_frame (k i : Nat) :
    (s.raise k i).pending = s.pending ∧ (s.raise k i).now = s.now ∧ (s.raise k i).variant = s.variant ∧
    (s.raise k i).freeCount = s.freeCount ∧ (s.raise k i).latch = s.latch ∧ (s.raise k i).staged = s.staged ∧
    (s.raise k i).lastRead = s.lastRead ∧ (s.raise k i).mem = s.mem ∧ (s.raise k i).hostMem = s.hostMem ∧ (s.raise k i).pods = s.pods ∧
    (s.raise k i).seed = s.seed ∧ (s.raise k i).display = s.display ∧ (s.raise k i).pip = s.pip ∧ (s.raise k i).checks = s.checks ∧
    (s.raise k i).render = s.render ∧ (s.raise k i).audio = s.audio ∧ (s.raise k i).panel = s.panel ∧ (s.raise k i).start = s.start ∧
    (s.raise k i).worlds = s.worlds ∧ (s.raise k i).vims = s.vims ∧ (s.raise k i).net = s.net ∧ (s.raise k i).recs = s.recs ∧
    (s.raise k i).power = s.power ∧ (s.raise k i).budget = s.budget ∧ (s.raise k i).husk = s.husk := by
  simp only [State.raise, State.wb_frame, and_self]

@[simp] theorem State.rcUpdate_frame (k : Nat) (f : Nat → Nat) :
    (s.rcUpdate k f).pending = s.pending ∧ (s.rcUpdate k f).now = s.now ∧ (s.rcUpdate k f).variant = s.variant ∧
    (s.rcUpdate k f).freeCount = s.freeCount ∧ (s.rcUpdate k f).latch = s.latch ∧ (s.rcUpdate k f).staged = s.staged ∧
    (s.rcUpdate k f).lastRead = s.lastRead ∧ (s.rcUpdate k f).mem = s.mem ∧ (s.rcUpdate k f).hostMem = s.hostMem ∧
    (s.rcUpdate k f).pods = s.pods ∧ (s.rcUpdate k f).seed = s.seed ∧ (s.rcUpdate k f).display = s.display ∧
    (s.rcUpdate k f).pip = s.pip ∧ (s.rcUpdate k f).checks = s.checks ∧ (s.rcUpdate k f).render = s.render ∧
    (s.rcUpdate k f).audio = s.audio ∧ (s.rcUpdate k f).panel = s.panel ∧ (s.rcUpdate k f).start = s.start ∧
    (s.rcUpdate k f).worlds = s.worlds ∧ (s.rcUpdate k f).vims = s.vims ∧ (s.rcUpdate k f).net = s.net ∧ (s.rcUpdate k f).recs = s.recs ∧
    (s.rcUpdate k f).power = s.power ∧ (s.rcUpdate k f).budget = s.budget ∧ (s.rcUpdate k f).husk = s.husk := by
  simp only [State.rcUpdate, State.wr_frame, and_self]

@[simp] theorem State.rcCount_frame (k n : Nat) :
    (s.rcCount k n).pending = s.pending ∧ (s.rcCount k n).now = s.now ∧ (s.rcCount k n).variant = s.variant ∧
    (s.rcCount k n).freeCount = s.freeCount ∧ (s.rcCount k n).latch = s.latch ∧ (s.rcCount k n).staged = s.staged ∧
    (s.rcCount k n).lastRead = s.lastRead ∧ (s.rcCount k n).mem = s.mem ∧ (s.rcCount k n).hostMem = s.hostMem ∧
    (s.rcCount k n).pods = s.pods ∧ (s.rcCount k n).seed = s.seed ∧ (s.rcCount k n).display = s.display ∧ (s.rcCount k n).pip = s.pip ∧
    (s.rcCount k n).checks = s.checks ∧ (s.rcCount k n).render = s.render ∧ (s.rcCount k n).audio = s.audio ∧
    (s.rcCount k n).panel = s.panel ∧ (s.rcCount k n).start = s.start ∧ (s.rcCount k n).worlds = s.worlds ∧
    (s.rcCount k n).vims = s.vims ∧ (s.rcCount k n).net = s.net ∧ (s.rcCount k n).recs = s.recs ∧ (s.rcCount k n).power = s.power ∧
    (s.rcCount k n).budget = s.budget ∧ (s.rcCount k n).husk = s.husk := by
  simp only [State.rcCount, State.rcUpdate_frame, and_self]

/-- Reading a register word after a word was written (R12). -/
theorem State.rd_wr (k v j : Nat) : (s.wr k v).rd j = if j = k then v % 2 ^ 32 else s.rd j := by
  unfold State.rd State.wr
  by_cases h : j = k
  · subst h; simp [tget_tset]
  · simp [tget_tset_ne, h]

@[simp] theorem State.rd_wr_same (k v : Nat) : (s.wr k v).rd k = v % 2 ^ 32 := by simp [State.rd_wr]

theorem State.rd_wr_ne {k v j : Nat} (h : j ≠ k) : (s.wr k v).rd j = s.rd j := by simp [State.rd_wr, h]

/-- A register word reads as a 32-bit number. -/
theorem State.rd_lt (k : Nat) : s.rd k < 2 ^ 32 := (tget _ s.regs k).isLt

@[simp] theorem State.mPods_rd (f : Pods → Pods) (k : Nat) : (s.mPods f).rd k = s.rd k := rfl
@[simp] theorem State.mSeed_rd (f : Seed → Seed) (k : Nat) : (s.mSeed f).rd k = s.rd k := rfl
@[simp] theorem State.mDisplay_rd (f : Display → Display) (k : Nat) : (s.mDisplay f).rd k = s.rd k := rfl
@[simp] theorem State.mPip_rd (f : PipSt → PipSt) (k : Nat) : (s.mPip f).rd k = s.rd k := rfl
@[simp] theorem State.mChecks_rd (f : Checks → Checks) (k : Nat) : (s.mChecks f).rd k = s.rd k := rfl
@[simp] theorem State.mRender_rd (f : Render → Render) (k : Nat) : (s.mRender f).rd k = s.rd k := rfl
@[simp] theorem State.mAudio_rd (f : Audio → Audio) (k : Nat) : (s.mAudio f).rd k = s.rd k := rfl
@[simp] theorem State.mPanel_rd (f : Panel → Panel) (k : Nat) : (s.mPanel f).rd k = s.rd k := rfl
@[simp] theorem State.mStart_rd (f : StartSt → StartSt) (k : Nat) : (s.mStart f).rd k = s.rd k := rfl
@[simp] theorem State.mWorlds_rd (f : Worlds → Worlds) (k : Nat) : (s.mWorlds f).rd k = s.rd k := rfl
@[simp] theorem State.mVims_rd (f : Vims → Vims) (k : Nat) : (s.mVims f).rd k = s.rd k := rfl
@[simp] theorem State.mNet_rd (f : Net → Net) (k : Nat) : (s.mNet f).rd k = s.rd k := rfl
@[simp] theorem State.mPower_rd (f : PowerSt → PowerSt) (k : Nat) : (s.mPower f).rd k = s.rd k := rfl
@[simp] theorem State.mHusk_rd (f : HuskSt → HuskSt) (k : Nat) : (s.mHusk f).rd k = s.rd k := rfl
@[simp] theorem State.mBudget_rd (f : BudgetSt → BudgetSt) (k : Nat) : (s.mBudget f).rd k = s.rd k := rfl
@[simp] theorem State.mRecs_rd (f : Recs → Recs) (k : Nat) : (s.mRecs f).rd k = s.rd k := rfl
@[simp] theorem State.tick_rd (dt k : Nat) : (s.tick dt).rd k = s.rd k := rfl
@[simp] theorem State.withPending_rd (q : List Instr) (k : Nat) : (s.withPending q).rd k = s.rd k := rfl
@[simp] theorem State.raise_rd (k i j : Nat) : (s.raise k i).rd j = (s.wb k i true).rd j := rfl
@[simp] theorem State.rcUpdate_rd (k : Nat) (f : Nat → Nat) (j : Nat) : (s.rcUpdate k f).rd j = (s.wr k (f (s.rd k))).rd j := rfl

/-! ### Frames -/

@[refl] theorem Frame.refl (ps : List Part) (ks : List Nat) : Frame ps ks s s :=
  ⟨fun p _ => by cases p <;> simp [Part.same], fun _ _ => rfl, fun _ => rfl, fun _ => rfl, rfl, rfl, rfl⟩

variable {s} {t : State} {ps : List Part} {ks : List Nat}

theorem Frame.wr (h : Frame ps ks s t) {k : Nat} (hk : k ∈ ks) (v : Nat) : Frame ps ks s (t.wr k v) :=
  ⟨fun p hp => by have := h.parts p hp; cases p <;> simpa [Part.same] using this,
   fun j hj => by rw [State.rd_wr_ne _ (show j ≠ k from fun e => hj (by rw [e]; exact hk))]; exact h.regs j hj, by simpa using h.mem, by simpa using h.hostMem,
   by simpa using h.now, by simpa using h.queue, by simpa using h.variant⟩

theorem Frame.mPods (h : Frame ps ks s t) (hp : Part.pods ∈ ps) (f : Pods → Pods) : Frame ps ks s (t.mPods f) :=
  ⟨fun q hq => by have := h.parts q hq; cases q <;> first | exact absurd hp hq | simpa [Part.same] using this,
   h.regs, h.mem, h.hostMem, h.now, h.queue, h.variant⟩
theorem Frame.mSeed (h : Frame ps ks s t) (hp : Part.seed ∈ ps) (f : Seed → Seed) : Frame ps ks s (t.mSeed f) :=
  ⟨fun q hq => by have := h.parts q hq; cases q <;> first | exact absurd hp hq | simpa [Part.same] using this,
   h.regs, h.mem, h.hostMem, h.now, h.queue, h.variant⟩
theorem Frame.mDisplay (h : Frame ps ks s t) (hp : Part.display ∈ ps) (f : Display → Display) : Frame ps ks s (t.mDisplay f) :=
  ⟨fun q hq => by have := h.parts q hq; cases q <;> first | exact absurd hp hq | simpa [Part.same] using this,
   h.regs, h.mem, h.hostMem, h.now, h.queue, h.variant⟩
theorem Frame.mPip (h : Frame ps ks s t) (hp : Part.pip ∈ ps) (f : PipSt → PipSt) : Frame ps ks s (t.mPip f) :=
  ⟨fun q hq => by have := h.parts q hq; cases q <;> first | exact absurd hp hq | simpa [Part.same] using this,
   h.regs, h.mem, h.hostMem, h.now, h.queue, h.variant⟩
theorem Frame.mChecks (h : Frame ps ks s t) (hp : Part.checks ∈ ps) (f : Checks → Checks) : Frame ps ks s (t.mChecks f) :=
  ⟨fun q hq => by have := h.parts q hq; cases q <;> first | exact absurd hp hq | simpa [Part.same] using this,
   h.regs, h.mem, h.hostMem, h.now, h.queue, h.variant⟩
theorem Frame.mRender (h : Frame ps ks s t) (hp : Part.render ∈ ps) (f : Render → Render) : Frame ps ks s (t.mRender f) :=
  ⟨fun q hq => by have := h.parts q hq; cases q <;> first | exact absurd hp hq | simpa [Part.same] using this,
   h.regs, h.mem, h.hostMem, h.now, h.queue, h.variant⟩
theorem Frame.mAudio (h : Frame ps ks s t) (hp : Part.audio ∈ ps) (f : Audio → Audio) : Frame ps ks s (t.mAudio f) :=
  ⟨fun q hq => by have := h.parts q hq; cases q <;> first | exact absurd hp hq | simpa [Part.same] using this,
   h.regs, h.mem, h.hostMem, h.now, h.queue, h.variant⟩
theorem Frame.mPanel (h : Frame ps ks s t) (hp : Part.panel ∈ ps) (f : Panel → Panel) : Frame ps ks s (t.mPanel f) :=
  ⟨fun q hq => by have := h.parts q hq; cases q <;> first | exact absurd hp hq | simpa [Part.same] using this,
   h.regs, h.mem, h.hostMem, h.now, h.queue, h.variant⟩
theorem Frame.mStart (h : Frame ps ks s t) (hp : Part.start ∈ ps) (f : StartSt → StartSt) : Frame ps ks s (t.mStart f) :=
  ⟨fun q hq => by have := h.parts q hq; cases q <;> first | exact absurd hp hq | simpa [Part.same] using this,
   h.regs, h.mem, h.hostMem, h.now, h.queue, h.variant⟩
theorem Frame.mWorlds (h : Frame ps ks s t) (hp : Part.worlds ∈ ps) (f : Worlds → Worlds) : Frame ps ks s (t.mWorlds f) :=
  ⟨fun q hq => by have := h.parts q hq; cases q <;> first | exact absurd hp hq | simpa [Part.same] using this,
   h.regs, h.mem, h.hostMem, h.now, h.queue, h.variant⟩
theorem Frame.mVims (h : Frame ps ks s t) (hp : Part.vims ∈ ps) (f : Vims → Vims) : Frame ps ks s (t.mVims f) :=
  ⟨fun q hq => by have := h.parts q hq; cases q <;> first | exact absurd hp hq | simpa [Part.same] using this,
   h.regs, h.mem, h.hostMem, h.now, h.queue, h.variant⟩
theorem Frame.mNet (h : Frame ps ks s t) (hp : Part.net ∈ ps) (f : Net → Net) : Frame ps ks s (t.mNet f) :=
  ⟨fun q hq => by have := h.parts q hq; cases q <;> first | exact absurd hp hq | simpa [Part.same] using this,
   h.regs, h.mem, h.hostMem, h.now, h.queue, h.variant⟩
theorem Frame.mPower (h : Frame ps ks s t) (hp : Part.power ∈ ps) (f : PowerSt → PowerSt) : Frame ps ks s (t.mPower f) :=
  ⟨fun q hq => by have := h.parts q hq; cases q <;> first | exact absurd hp hq | simpa [Part.same] using this,
   h.regs, h.mem, h.hostMem, h.now, h.queue, h.variant⟩
theorem Frame.mHusk (h : Frame ps ks s t) (hp : Part.husk ∈ ps) (f : HuskSt → HuskSt) : Frame ps ks s (t.mHusk f) :=
  ⟨fun q hq => by have := h.parts q hq; cases q <;> first | exact absurd hp hq | simpa [Part.same] using this,
   h.regs, h.mem, h.hostMem, h.now, h.queue, h.variant⟩
theorem Frame.mBudget (h : Frame ps ks s t) (hp : Part.budget ∈ ps) (f : BudgetSt → BudgetSt) : Frame ps ks s (t.mBudget f) :=
  ⟨fun q hq => by have := h.parts q hq; cases q <;> first | exact absurd hp hq | simpa [Part.same] using this,
   h.regs, h.mem, h.hostMem, h.now, h.queue, h.variant⟩
theorem Frame.mRecs (h : Frame ps ks s t) (hp : Part.recs ∈ ps) (f : Recs → Recs) : Frame ps ks s (t.mRecs f) :=
  ⟨fun q hq => by have := h.parts q hq; cases q <;> first | exact absurd hp hq | simpa [Part.same] using this,
   h.regs, h.mem, h.hostMem, h.now, h.queue, h.variant⟩

theorem Frame.wf (h : Frame ps ks s t) {k : Nat} (hk : k ∈ ks) (hi lo v : Nat) : Frame ps ks s (t.wf k hi lo v) := h.wr hk _
theorem Frame.wb (h : Frame ps ks s t) {k : Nat} (hk : k ∈ ks) (i : Nat) (b : Bool) : Frame ps ks s (t.wb k i b) := h.wr hk _
theorem Frame.raise (h : Frame ps ks s t) {k : Nat} (hk : k ∈ ks) (hp : Part.cycle ∈ ps) (i : Nat) : Frame ps ks s (t.raise k i) :=
  have g := h.wb hk i true
  ⟨fun q hq => by have := g.parts q hq; cases q <;> first | exact absurd hp hq | simpa [Part.same] using this,
   g.regs, g.mem, g.hostMem, g.now, g.queue, g.variant⟩
theorem Frame.rcUpdate (h : Frame ps ks s t) {k : Nat} (hk : k ∈ ks) (hp : Part.cycle ∈ ps) (f : Nat → Nat) : Frame ps ks s (t.rcUpdate k f) :=
  have g := h.wr hk (f (t.rd k))
  ⟨fun q hq => by have := g.parts q hq; cases q <;> first | exact absurd hp hq | simpa [Part.same] using this,
   g.regs, g.mem, g.hostMem, g.now, g.queue, g.variant⟩
theorem Frame.incr (h : Frame ps ks s t) {k : Nat} (hk : k ∈ ks) : Frame ps ks s (t.incr k) := h.wr hk _
theorem Frame.sat (h : Frame ps ks s t) {k : Nat} (hk : k ∈ ks) (n : Nat) : Frame ps ks s (t.sat k n) := h.wr hk _
theorem Frame.wr64 (h : Frame ps ks s t) {k : Nat} (hk : k ∈ ks) (hk' : k + 4 ∈ ks) (v : Nat) : Frame ps ks s (t.wr64 k v) :=
  (h.wr hk v).wr hk' _

end Sys2Proof.Machine
end

