-- ==== Sys2Proof/Laws/Ops.lean ====
section
/-!
SUPPORT. Laws of the shared operations: what raising an event can change, and that every memory operation keeps the canonical form.
-/
namespace Sys2Proof.Machine

/-- What the operations on event rings change: event-ring registers of the window, its dirty-log overflow bits, the registers that report an
uncorrectable error (R87), the marks of poisoned words, the memories, what hardware did in this cycle, and of the channel state only the queue
of early PF events, the counts of records lost and not signalled, and the interrupts. -/
structure EventOnly (w : Nat) (s t : State) : Prop where
  regs : ∀ k, k ≠ (evr w).tail → k ≠ (evr w).lost → k ≠ viReg w 0x14 → ¬ (0x00600028 ≤ k ∧ k ≤ 0x00600038) → t.rd k = s.rd k
  pods : ∃ q n u f m, t.pods = { s.pods with pfQueue := q, lostSince := n, unsignalled := u, firstUnsignalled := f, msix := m }
  seed : ∃ p, t.seed = { s.seed with poison := p }
  rest : t = { s with regs := t.regs, cycle := t.cycle, pods := t.pods, seed := t.seed, mem := t.mem, hostMem := t.hostMem }
  canon : s.canonical = true → t.canonical = true
  pf : w = pfWin → t.seed = s.seed ∧ t.mem = s.mem ∧ ∀ k, 0x00600028 ≤ k → k ≤ 0x00600038 → t.rd k = s.rd k

theorem EventOnly.refl (w : Nat) (s : State) : EventOnly w s s := ⟨fun _ _ _ _ _ => rfl, ⟨_, _, _, _, _, rfl⟩, ⟨_, rfl⟩, rfl, id, fun _ => ⟨rfl, rfl, fun _ _ _ => rfl⟩⟩

theorem EventOnly.trans {w : Nat} {s t u : State} (h : EventOnly w s t) (g : EventOnly w t u) : EventOnly w s u := by
  obtain ⟨q, n, a, f, m, hp⟩ := h.pods
  obtain ⟨q', n', a', f', m', gp⟩ := g.pods
  obtain ⟨p, hs⟩ := h.seed
  obtain ⟨p', gs⟩ := g.seed
  refine ⟨fun k h1 h2 h3 h4 => (g.regs k h1 h2 h3 h4).trans (h.regs k h1 h2 h3 h4), ⟨q', n', a', f', m', by rw [gp, hp]⟩,
    ⟨p', by rw [gs, hs]⟩, ?_, fun c => g.canon (h.canon c), fun e => ?_⟩
  · rw [g.rest, h.rest]
  · obtain ⟨a1, a2, a3⟩ := h.pf e
    obtain ⟨b1, b2, b3⟩ := g.pf e
    exact ⟨b1.trans a1, b2.trans a2, fun k l l' => (b3 k l l').trans (a3 k l l')⟩

/-- The registers an event may change. -/
def EventReg (w k : Nat) : Prop :=
  k = (evr w).tail ∨ k = (evr w).lost ∨ k = viReg w 0x14 ∨ (w ≠ pfWin ∧ 0x00600028 ≤ k ∧ k ≤ 0x00600038)

theorem EventOnly.wr {w : Nat} {s : State} {k : Nat} (v : Nat) (h : EventReg w k) : EventOnly w s (s.wr k v) :=
  ⟨fun j h1 h2 h3 h4 => State.rd_wr_ne _ (by rcases h with rfl | rfl | rfl | h <;> first | assumption | (rintro rfl; exact h4 h.2)),
   ⟨_, _, _, _, _, rfl⟩, ⟨_, rfl⟩, rfl, id, fun e => ⟨rfl, rfl, fun j l l' => State.rd_wr_ne _ (by
    have e1 : (evr pfWin).tail = 0x07090010 := by decide
    have e2 : (evr pfWin).lost = 0x07090018 := by decide
    have e3 : viReg pfWin 0x14 = 0x0080FFD4 := by decide
    subst e
    rcases h with rfl | rfl | rfl | h
    · omega
    · omega
    · omega
    · exact absurd rfl h.1)⟩⟩

theorem EventOnly.raise {w : Nat} {s : State} {k : Nat} (i : Nat) (h : EventReg w k) : EventOnly w s (s.raise k i) :=
  (EventOnly.wr _ h).trans ⟨fun _ _ _ _ _ => rfl, ⟨_, _, _, _, _, rfl⟩, ⟨_, rfl⟩, rfl, id, fun _ => ⟨rfl, rfl, fun _ _ _ => rfl⟩⟩

theorem EventOnly.host {w : Nat} {s : State} {h : Tbl Byte} (hh : twf 0 s.hostMem = true → twf 0 h = true) :
    EventOnly w s { s with hostMem := h } :=
  ⟨fun _ _ _ _ _ => rfl, ⟨_, _, _, _, _, rfl⟩, ⟨_, rfl⟩, rfl, fun c => by
    simp only [State.canonical, Bool.and_eq_true] at c ⊢; exact ⟨c.1, hh c.2⟩, fun _ => ⟨rfl, rfl, fun _ _ _ => rfl⟩⟩

theorem EventOnly.ite {w : Nat} {s t u : State} {c : Prop} [Decidable c] (h : c → EventOnly w s t) (g : ¬ c → EventOnly w s u) :
    EventOnly w s (if c then t else u) := by split <;> [exact h ‹_›; exact g ‹_›]

theorem EventOnly.foldl {w : Nat} {β : Type} (f : State → β → State) (hf : ∀ s x, EventOnly w s (f s x)) :
    ∀ (l : List β) (s : State), EventOnly w s (l.foldl f s)
  | [], s => .refl w s
  | x :: l, s => (hf s x).trans (foldl f hf l (f s x))

/-- A physical write keeps the canonical form. -/
theorem pwrite_mem_canonical (s : State) (pa : Nat) (bs : Bytes) (h : twf 0 s.mem = true) (p : Nat → Bool) :
    twf 0 ((List.range bs.length).foldl (fun m i => if p i then m else tset 0 m (pa + i) (bs.getD i 0)) s.mem) = true := by
  refine twf_foldl _ (fun m i hm => ?_) _ _ h
  split <;> [exact hm; exact twf_tset hm _ _]

theorem ueCount_only (s : State) {w : Nat} (hw : w ≠ pfWin) (pa cls u : Nat) : EventOnly w s (s.ueCount pa cls u) := by
  have g : ∀ j, 0x00600028 ≤ j → j ≤ 0x00600038 → EventReg w j := fun j h h' => .inr (.inr (.inr ⟨hw, h, h'⟩))
  unfold State.ueCount State.incr64
  exact (((EventOnly.wr _ (g _ (by decide) (by decide))).trans (.wr _ (g _ (by decide) (by decide)))).trans
    ((EventOnly.wr _ (g _ (by decide) (by decide))).trans (.wr _ (g _ (by decide) (by decide))))).trans (.wr _ (g _ (by decide) (by decide)))

/-- Everything a physical write can change: the bytes, the marks of poisoned words and the registers that report an error. -/
theorem pwrite_only (s : State) {w : Nat} (hw : w ≠ pfWin) (pa : Nat) (bs : Bytes) (cls u : Nat) : EventOnly w s (s.pwrite pa bs cls u) := by
  unfold State.pwrite
  refine .trans ?_ (.foldl _ (fun s k => ueCount_only s hw _ cls u) _ _)
  refine ⟨fun _ _ _ _ _ => rfl, ⟨_, _, _, _, _, rfl⟩, ⟨_, rfl⟩, rfl, fun c => ?_, fun e => absurd e hw⟩
  simp only [State.canonical, Bool.and_eq_true] at c ⊢
  exact ⟨pwrite_mem_canonical _ _ _ c.1 _, c.2⟩

theorem raiseMsix_only (s : State) (w : Nat) : EventOnly w s (s.raiseMsix w) := by
  unfold State.raiseMsix
  refine .ite (fun _ => ?_) (fun _ => ?_) <;> exact ⟨fun _ _ _ _ _ => rfl, ⟨_, _, _, _, _, rfl⟩, ⟨_, rfl⟩, rfl, id, fun _ => ⟨rfl, rfl, fun _ _ _ => rfl⟩⟩

theorem signal_only (s : State) (w : Nat) : EventOnly w s (s.signal w) := by
  unfold State.signal
  refine .ite (fun _ => .refl _ _) (fun _ => ?_)
  have h : EventOnly w s (s.mPods fun p =>
      { p with unsignalled := tset 0 p.unsignalled w (tget 0 s.pods.unsignalled w + 1),
               firstUnsignalled := if tget 0 s.pods.unsignalled w + 1 = 1 then tset none p.firstUnsignalled w (some s.now) else p.firstUnsignalled }) :=
    ⟨fun _ _ _ _ _ => rfl, ⟨_, _, _, _, _, rfl⟩, ⟨_, rfl⟩, rfl, id, fun _ => ⟨rfl, rfl, fun _ _ _ => rfl⟩⟩
  exact .ite (fun _ => h.trans (raiseMsix_only _ _)) (fun _ => h)

theorem hostWrite_only (s : State) (w addr : Nat) (bs : Bytes) : EventOnly w s (s.hostWrite w addr bs) := by
  unfold State.hostWrite
  exact .ite (fun _ => .host (twf_writeBytes _ _ _)) (fun _ => .refl _ _)

theorem markDirty_only (s : State) (w addr len : Nat) : EventOnly w s (s.markDirty w addr len) := by
  unfold State.markDirty
  split
  · exact .refl _ _
  · next d hd =>
    have hw : w ≠ pfWin := by rintro rfl; simp [pfWin] at hd
    have hp : ∀ (base limit lo : Nat) (s : State) (outside : Nat), EventOnly w s
        ((List.range ((lo + len - 1) / 4096 + 1 - lo / 4096)).foldl (fun (s : State) i =>
          let p := lo / 4096 + i
          if p < limit then
            let a := d.area + base + p / 8
            let e := tget {} s.seed.maps (pfWin * 2 ^ 19 + a / 2 ^ 21)
            let k := e.mem * 2 ^ 60 + e.chunk * 2 ^ 21 + a % 2 ^ 21
            if e.mapped then
              s.pwrite k [BitVec.ofNat 8 ((tget 0 s.mem k).toNat ||| 2 ^ (p % 8))] 7 pfWin
            else s
          else s.raise (viReg w 0x14) outside) s) := by
      intro base limit lo s outside
      refine .foldl _ (fun s i => ?_) _ _
      refine .ite (fun _ => .ite (fun _ => pwrite_only _ hw _ _ _ _) (fun _ => .refl _ _)) (fun _ => ?_)
      exact .raise _ (.inr (.inr (.inl rfl)))
    refine .ite (fun _ => .refl _ _) (fun _ => .ite (fun _ => .ite (fun _ => ?_) (fun _ => hp ..)) (fun _ => hp ..))
    exact .raise _ (.inr (.inr (.inl rfl)))

theorem putRecord_only (s : State) (w kind status handle detail time : Nat) :
    EventOnly w s (s.putRecord w kind status handle detail time) := by
  unfold State.putRecord
  refine .trans ?_ ((EventOnly.wr _ (.inl rfl)).trans (signal_only _ _))
  refine .ite (fun e => (pwrite_only _ (by rw [e]; decide) _ _ _ _).trans (pwrite_only _ (by rw [e]; decide) _ _ _ _)) (fun _ => .trans ?_ (markDirty_only _ _ _ _))
  exact .ite (fun _ => (hostWrite_only _ _ _ _).trans (hostWrite_only _ _ _ _)) (fun _ => .refl _ _)

theorem loseEvent_only (s : State) (w : Nat) : EventOnly w s (s.loseEvent w) :=
  .trans (.trans (.wr _ (.inr (.inl rfl))) ⟨fun _ _ _ _ _ => rfl, ⟨_, _, _, _, _, rfl⟩, ⟨_, rfl⟩, rfl, id, fun _ => ⟨rfl, rfl, fun _ _ _ => rfl⟩⟩) ⟨fun _ _ _ _ _ => rfl, ⟨_, _, _, _, _, rfl⟩, ⟨_, rfl⟩, rfl, id, fun _ => ⟨rfl, rfl, fun _ _ _ => rfl⟩⟩

theorem flushLost_only (s : State) (w : Nat) : EventOnly w s (s.flushLost w) := by
  unfold State.flushLost
  exact .ite (fun _ => (putRecord_only _ _ _ _ _ _ _).trans ⟨fun _ _ _ _ _ => rfl, ⟨_, _, _, _, _, rfl⟩, ⟨_, rfl⟩, rfl, id, fun _ => ⟨rfl, rfl, fun _ _ _ => rfl⟩⟩) (fun _ => .refl _ _)

/-- Everything raising an event can change. -/
theorem emitAt_only (s : State) (w kind status handle detail time : Nat) : EventOnly w s (s.emitAt w kind status handle detail time) := by
  unfold State.emitAt
  refine .ite (fun _ => ⟨fun _ _ _ _ _ => rfl, ⟨_, _, _, _, _, rfl⟩, ⟨_, rfl⟩, rfl, id, fun _ => ⟨rfl, rfl, fun _ _ _ => rfl⟩⟩) (fun _ => ?_)
  exact (flushLost_only _ _).trans (.ite (fun _ => putRecord_only _ _ _ _ _ _ _) (fun _ => loseEvent_only _ _))

theorem emit_only (s : State) (w kind : Nat) (st : Status) (handle detail : Nat) : EventOnly w s (s.emit w kind st handle detail) :=
  emitAt_only _ _ _ _ _ _ _

theorem emitPf_only (s : State) (kind : Nat) (st : Status) (detail : Nat) : EventOnly pfWin s (s.emitPf kind st detail) := emit_only _ _ _ _ _ _

section
variable {w : Nat} {s t : State} (h : EventOnly w s t)
include h

theorem EventOnly.frame : t.pending = s.pending ∧ t.now = s.now ∧ t.variant = s.variant ∧ t.freeCount = s.freeCount ∧ t.latch = s.latch
    ∧ t.staged = s.staged ∧ t.lastRead = s.lastRead ∧ t.display = s.display ∧ t.pip = s.pip ∧ t.checks = s.checks
    ∧ t.render = s.render ∧ t.audio = s.audio ∧ t.panel = s.panel ∧ t.start = s.start ∧ t.worlds = s.worlds ∧ t.vims = s.vims
    ∧ t.net = s.net ∧ t.recs = s.recs ∧ t.power = s.power ∧ t.budget = s.budget ∧ t.husk = s.husk := by
  rw [h.rest]; simp

theorem EventOnly.podsFrame : t.pods.units = s.pods.units ∧ t.pods.chans = s.pods.chans ∧ t.pods.gens = s.pods.gens
    ∧ t.pods.freed = s.pods.freed ∧ t.pods.freeSeq = s.pods.freeSeq ∧ t.pods.ctl = s.pods.ctl ∧ t.pods.fetched = s.pods.fetched := by
  obtain ⟨_, _, _, _, _, e⟩ := h.pods
  rw [e]; simp

end

/-- Of the memory's state an event changes the marks of poisoned words alone. -/
theorem EventOnly.seedFrame {w : Nat} {s t : State} (h : EventOnly w s t) : ∃ p, t.seed = { s.seed with poison := p } := h.seed

@[simp] theorem emit_frame (s : State) (w kind : Nat) (st : Status) (handle detail : Nat) :
    (s.emit w kind st handle detail).pending = s.pending ∧ (s.emit w kind st handle detail).now = s.now ∧
    (s.emit w kind st handle detail).variant = s.variant ∧ (s.emit w kind st handle detail).freeCount = s.freeCount ∧
    (s.emit w kind st handle detail).latch = s.latch ∧ (s.emit w kind st handle detail).staged = s.staged ∧
    (s.emit w kind st handle detail).lastRead = s.lastRead ∧
    (s.emit w kind st handle detail).display = s.display ∧ (s.emit w kind st handle detail).pip = s.pip ∧
    (s.emit w kind st handle detail).checks = s.checks ∧ (s.emit w kind st handle detail).render = s.render ∧
    (s.emit w kind st handle detail).audio = s.audio ∧ (s.emit w kind st handle detail).panel = s.panel ∧
    (s.emit w kind st handle detail).start = s.start ∧ (s.emit w kind st handle detail).worlds = s.worlds ∧
    (s.emit w kind st handle detail).vims = s.vims ∧ (s.emit w kind st handle detail).net = s.net ∧
    (s.emit w kind st handle detail).recs = s.recs ∧ (s.emit w kind st handle detail).power = s.power ∧
    (s.emit w kind st handle detail).budget = s.budget ∧ (s.emit w kind st handle detail).husk = s.husk :=
  (emit_only s w kind st handle detail).frame

@[simp] theorem emit_pods (s : State) (w kind : Nat) (st : Status) (handle detail : Nat) :
    (s.emit w kind st handle detail).pods.units = s.pods.units ∧ (s.emit w kind st handle detail).pods.chans = s.pods.chans ∧
    (s.emit w kind st handle detail).pods.gens = s.pods.gens ∧ (s.emit w kind st handle detail).pods.freed = s.pods.freed ∧
    (s.emit w kind st handle detail).pods.freeSeq = s.pods.freeSeq ∧ (s.emit w kind st handle detail).pods.ctl = s.pods.ctl ∧
    (s.emit w kind st handle detail).pods.fetched = s.pods.fetched :=
  (emit_only s w kind st handle detail).podsFrame

@[simp] theorem emitPf_frame (s : State) (kind : Nat) (st : Status) (detail : Nat) :
    (s.emitPf kind st detail).pending = s.pending ∧ (s.emitPf kind st detail).now = s.now ∧
    (s.emitPf kind st detail).variant = s.variant ∧ (s.emitPf kind st detail).freeCount = s.freeCount ∧
    (s.emitPf kind st detail).latch = s.latch ∧ (s.emitPf kind st detail).staged = s.staged ∧
    (s.emitPf kind st detail).lastRead = s.lastRead ∧
    (s.emitPf kind st detail).display = s.display ∧ (s.emitPf kind st detail).pip = s.pip ∧
    (s.emitPf kind st detail).checks = s.checks ∧ (s.emitPf kind st detail).render = s.render ∧
    (s.emitPf kind st detail).audio = s.audio ∧ (s.emitPf kind st detail).panel = s.panel ∧ (s.emitPf kind st detail).start = s.start ∧
    (s.emitPf kind st detail).worlds = s.worlds ∧ (s.emitPf kind st detail).vims = s.vims ∧ (s.emitPf kind st detail).net = s.net ∧
    (s.emitPf kind st detail).recs = s.recs ∧ (s.emitPf kind st detail).power = s.power ∧ (s.emitPf kind st detail).budget = s.budget ∧
    (s.emitPf kind st detail).husk = s.husk :=
  (emitPf_only s kind st detail).frame

@[simp] theorem emitPf_pods (s : State) (kind : Nat) (st : Status) (detail : Nat) :
    (s.emitPf kind st detail).pods.units = s.pods.units ∧ (s.emitPf kind st detail).pods.chans = s.pods.chans ∧
    (s.emitPf kind st detail).pods.gens = s.pods.gens ∧ (s.emitPf kind st detail).pods.freed = s.pods.freed ∧
    (s.emitPf kind st detail).pods.freeSeq = s.pods.freeSeq ∧ (s.emitPf kind st detail).pods.ctl = s.pods.ctl ∧
    (s.emitPf kind st detail).pods.fetched = s.pods.fetched :=
  (emitPf_only s kind st detail).podsFrame

/-- A register outside the event ring, the dirty log and MEM_UE reads as before after an event. -/
theorem emit_rd (s : State) (w kind : Nat) (st : Status) (handle detail k : Nat) (h1 : k ≠ (evr w).tail) (h2 : k ≠ (evr w).lost)
    (h3 : k ≠ viReg w 0x14) (h4 : ¬ (0x00600028 ≤ k ∧ k ≤ 0x00600038)) : (s.emit w kind st handle detail).rd k = s.rd k :=
  (emit_only s w kind st handle detail).regs k h1 h2 h3 h4

/-- A register of PF BAR0 below the channel window reads as before after an event at the PF ring. -/
theorem emitPf_rd (s : State) (kind : Nat) (st : Status) (detail k : Nat) (h : k < 0x07000000) (h' : k ≠ viReg pfWin 0x14) :
    (s.emitPf kind st detail).rd k = s.rd k := by
  have e1 : (evr pfWin).tail = 0x07090010 := by decide
  have e2 : (evr pfWin).lost = 0x07090018 := by decide
  by_cases h4 : 0x00600028 ≤ k ∧ k ≤ 0x00600038
  · exact ((emitPf_only s kind st detail).pf rfl).2.2 k h4.1 h4.2
  · exact emit_rd s pfWin kind st 0 detail k (by omega) (by omega) h' h4

/-- An event at the PF ring leaves device memory and the memory's state as they are. -/
@[simp] theorem emitPf_seed (s : State) (kind : Nat) (st : Status) (detail : Nat) : (s.emitPf kind st detail).seed = s.seed :=
  ((emitPf_only s kind st detail).pf rfl).1

@[simp] theorem emitPf_mem (s : State) (kind : Nat) (st : Status) (detail : Nat) : (s.emitPf kind st detail).mem = s.mem :=
  ((emitPf_only s kind st detail).pf rfl).2.1

/-- A unit's own state is not touched by events. -/
@[simp] theorem emitPf_unit (s : State) (kind : Nat) (st : Status) (detail u : Nat) : (s.emitPf kind st detail).unit u = s.unit u := by
  simp [State.unit]

@[simp] theorem emit_unit (s : State) (w kind : Nat) (st : Status) (handle detail u : Nat) :
    (s.emit w kind st handle detail).unit u = s.unit u := by
  simp [State.unit]

/-- A unit after a unit was changed. -/
@[simp] theorem mUnit_unit (s : State) (u v : Nat) (f : UnitSt → UnitSt) : (s.mUnit u f).unit v = if v = u then f (s.unit u) else s.unit v := by
  simp [State.mUnit, State.unit]

end Sys2Proof.Machine
end

