-- ==== Sys2Proof/Tests/Slice0.lean ====
section
/-!
SUPPORT. Tests: the model's own tests, and a state and operands that meet the hypotheses of each statement.
-/
set_option maxRecDepth 8192

namespace Sys2Proof.Tests
open Sys2Proof Sys2Proof.Machine

/-! ### WellFormed refuses an operand out of range, for each of its checks -/

/-- A requester with nothing special about it. -/
def anyone : Req := ⟨.pf, false⟩

theorem test_wf_registers :
    (Instr.readLowWord 0 anyone 2).wf = false ∧ (Instr.readLowWord 0 anyone 0x10000000).wf = false ∧ (Instr.pipeLutWrite 0 anyone 4 0).wf = false
    ∧ (Instr.layerTableWrite 0 anyone 0x01028000 0).wf = false ∧ (Instr.audioMapWrite 0 anyone 0x03000280 0).wf = false ∧ (Instr.layerPipeBgWrite 0 anyone 0 (2 ^ 64)).wf = false
    ∧ (Instr.uifPowerReq 0 anyone 4096 0).wf = false ∧ (Instr.uifPowerReq 0 anyone 0 8).wf = false := by decide

theorem test_wf_channels :
    (Instr.bindRing 0 256).wf = false ∧ (Instr.ringDoorbell 0 0 256 0).wf = false ∧ (Instr.ringEntryFetch 0 0 256 []).wf = false ∧ (Instr.evrHeadWrite 0 0x10001 0).wf = false
    ∧ (Instr.destroyDrainDone 0 13 0).wf = false ∧ (Instr.destroyDrainDone 0 0 0).wf = false ∧ (Instr.destroyDrainDone 0 1 (2 ^ 18)).wf = false
    ∧ (Instr.chunkZeroDone 0 16384).wf = false ∧ (Instr.scrubChunk 0 3 []).wf = false ∧ (Instr.pageRetired 0 2 0).wf = false ∧ (Instr.memBwClassWrite 0 0 8 0).wf = false := by decide

theorem test_wf_display :
    (Instr.composeStart 0 16 []).wf = false ∧ (Instr.pllLocked 0 8 []).wf = false ∧ (Instr.pllWrite 0 anyone 0 3 0).wf = false ∧ (Instr.linkTrained 0 0 true 7 4 0).wf = false
    ∧ (Instr.linkTrained 0 0 true 0 3 0).wf = false ∧ (Instr.auxTransactionDone 0 0 4 []).wf = false ∧ (Instr.dsiCmd 0 anyone 4 0).wf = false
    ∧ (Instr.dcuData 0 anyone 64 0).wf = false ∧ (Instr.dcuValueWrite 0 anyone 0 4 0).wf = false ∧ (Instr.chkFinish 0 4096).wf = false
    ∧ (Instr.telCtrlWrite 0 anyone 512 0).wf = false := by decide

theorem test_wf_queues :
    (Instr.contextSaved 0 5).wf = false ∧ (Instr.contextSaved 0 (2 * 2 ^ 18 + 1024)).wf = false ∧ (Instr.preemptionBoundary 0 32).wf = false
    ∧ (Instr.watchdogFired 0 (2 * 2 ^ 18) (2 ^ 32) [] []).wf = false ∧ okWork { (default : Work) with frags := [{ (default : Frag) with smp := 4 }] } = false
    ∧ okVerdict { (default : Verdict) with units := 5 } = false ∧ (Instr.streamCreateSwapIdle 0 (5 * 2 ^ 18 + 128)).wf = false := by decide

theorem test_wf_surfaces :
    (Instr.audioSourceLost 0 2).wf = false ∧ (Instr.playerTrigger 0 anyone 64).wf = false ∧ (Instr.tdmClkLost 0 8).wf = false ∧ (Instr.swrPeripheralAttach 0 0 11 true 0 0).wf = false
    ∧ (Instr.swrPeripheralAttach 0 0 0 true 0 113).wf = false ∧ (Instr.hapShort 0 16).wf = false ∧ (Instr.hslotPlay 0 0 32).wf = false ∧ (Instr.hapLibCommit 0 anyone 256 0).wf = false
    ∧ (Instr.hapControlPeriod 0 0 (2 ^ 16) 0).wf = false ∧ (Instr.scanMeasureEnd 0 0 [] [] [] 0).wf = false ∧ (Instr.wakeScan 0 []).wf = false := by decide

theorem test_wf_worlds :
    (Instr.viResetDone 0 256).wf = false ∧ (Instr.pcieLinkDown 0 5).wf = false ∧ (Instr.worldHartWrite 0 8 true true).wf = false ∧ (Instr.windowCloseDrained 0 4 0).wf = false
    ∧ (Instr.hullAsyncExit 0 0 5 0 (List.replicate 31 0)).wf = false ∧ (Instr.hullAsyncExit 0 0 1 0 []).wf = false := by decide

theorem test_wf_system :
    (Instr.domainOn 0 ⟨24, [], []⟩).wf = false ∧ (Instr.droopEnd 0 2 0).wf = false ∧ (Instr.vrSenseLost 0 16).wf = false ∧ (Instr.sensorRead 0 []).wf = false
    ∧ (Instr.referenceLost 0 3 0).wf = false ∧ (Instr.pwrgoodRise 0 (some { sizeMiB := 32, eraseKiB := 4, runs := [], bad := [], spares := [] })).wf = false
    ∧ (Instr.huskHeartbeat 0 2).wf = false ∧ (Instr.nvmErase 0 anyone (2 ^ 24)).wf = false ∧ (Instr.unitFault 0 1 128).wf = false := by decide

theorem test_wf_links :
    (Instr.icvikPortTimeout 0 4).wf = false ∧ (Instr.flitReceive 0 0 [] false).wf = false ∧ (Instr.hello 0 0 ⟨some 4096, 0, false, none, ⟨0, 0, 0, 0, 0, 0, 0⟩⟩).wf = false
    ∧ (Instr.routeUpdate 0 [⟨4096, 0, 0, 0⟩] []).wf = false ∧ (Instr.tsnFrameRx 0 0 [] none none []).wf = false ∧ (Instr.recApply 0 256).wf = false
    ∧ okTagged { (default : Tagged) with sel := 64 } = false := by decide

/-- A well-formed command of several families passes. -/
theorem test_wf_passes :
    (Instr.readLowWord 0 anyone 0x0FFFFFFC).wf = true ∧ (Instr.bindRing 0 0xFFFF).wf = true ∧ (Instr.composeStart 0 15 []).wf = true ∧ (Instr.contextSaved 0 (3 * 2 ^ 18 + 1023)).wf = true
    ∧ (Instr.domainOn 0 ⟨23, [], []⟩).wf = true ∧ (Instr.hullAsyncExit 0 7 4 0 (List.replicate 31 0)).wf = true := by decide

/-! ### The queue -/

/-- The front command is taken first, and an empty queue idles; no row of the table gives bits, so no word spells a command. -/
theorem test_queue :
    (match step { pending := [.beat 5 1, .beat 7 1] } with | .next t => decide (t.now = 5 ∧ t.pending = [.beat 7 1]) | _ => false) = true
    ∧ (match step State.reset with | .next t => decide (t = State.reset) | _ => false) = true ∧ decodeTableWord 32 0 = none := by decide

/-! ### Witnesses of the statements' hypotheses -/

theorem test_front : ({ pending := [.latchPoint 0 0 []] } : State).pending = .latchPoint 0 0 [] :: [] := by rfl

theorem test_idle : State.reset.pending = [] := by rfl

theorem test_canonical : State.reset.canonical = true ∧ step State.reset = .next State.reset := ⟨by decide, rfl⟩

theorem test_access_codes : ∃ row : RegRow, keyRow 0x00180020 = some (row, false) ∧ (5 : Nat) < 2 ^ 32 ∧ row.rw = 0x1FFFF ∧ row.rwl = 0 ∧
    row.w1c = 0 ∧ row.w1s = 0 := ⟨⟨0x180020, [], false, 0x1FFFF, 0x0, 0x0, 0x0, 0x0, 0x7D0⟩, by decide⟩

theorem test_register_accesses_cycle : tget 0 State.reset.cycle.raised (evrIrq pfWin) = 0
    ∧ tget none State.reset.cycle.updates (evr pfWin).lost = none
    ∧ tget none ((State.reset.rcCount (evr pfWin).lost 1).tick 0).cycle.updates (evr pfWin).lost = some (0, 1) := by decide
theorem test_register_accesses : State.reset.shutOut ⟨.pf, false⟩ (ringStatus pfWin 255) = false
    ∧ State.reset.shutOut ⟨.pf, false⟩ (evrIrq pfWin) = false ∧ State.reset.shutOut ⟨.debug, false⟩ (evr pfWin).lost = false
    ∧ tget none ({ latch := [(0x00200040, some 7)] } : State).latch (wordKey ⟨.pf, false⟩ 0x00200040) = some 7
    ∧ tget none ({ staged := [(0x00200040, some 7)] } : State).staged (wordKey ⟨.pf, false⟩ 0x00200040) = some 7 := by decide

/-- A state with one power domain ON and its floor at ON. -/
def domainIsOn (d : Nat) : State := (State.reset.wf (domainReg d 0) 31 30 3).wf (domainReg d 4) 31 29 3

theorem test_unit_requests :
    (let u := domainIsOn 5
     (u.unitAt 1).isSome = true ∧ u.uifClaimed 1 ⟨.pf, false⟩ = false ∧ (u.unit 1).state ≠ 7 ∧ (u.unit 1).resetBusy = false
      ∧ u.domainAbsent (u.unitDom 1) = false ∧ u.domainState (u.unitDom 1) = 3 ∧ u.floor (u.unitDom 1) = 3)
    ∧ (let u := (domainIsOn 5).mUnit 1 fun x => { x with state := 7, target := 3 }
       (u.unit 1).state = 7 ∧ u.domainState (u.unitDom 1) = 3 ∧ u.floor (u.unitDom 1) = 3 ∧ (u.unit 1).target ≤ 3)
    ∧ (let u := State.reset.mUnit 1 fun x => { x with resetBusy := true }
       (u.unit 1).resetBusy = true ∧ (u.unit 1).gaveUp = false)
    ∧ (let u := State.reset.mUnit 9 fun x => { x with spare := true }
       (u.unit 9).spare = true ∧ (u.unit 9).uifMoved = 0) := by decide

theorem test_rings :
    (let u := State.reset
     u.winIgnores pfWin = false ∧ u.rb (ringCtrl pfWin 0) 31 = false ∧ 4 ≤ bits (15 : Word).toNat 3 0
      ∧ u.rd64 (ringBase pfWin 0) % max 4096 (2 ^ 15 * 32) = 0 ∧ u.ringChan pfWin 0 = none ∧ bits (3 : Word).toNat 3 0 < 4)
    ∧ (let u := (State.reset.wr (ringCtrl pfWin 0) (2 ^ 31 + 4)).wr (ringTail pfWin 0) 1
       let b := leBytes (2 + 0xFFFF * 2 ^ 160) 32
       u.winDead pfWin = false ∧ u.hostOk pfWin = true ∧ u.rb (ringCtrl pfWin 0) 31 = true
        ∧ ((16 : Word).toNat + 2 ^ 32 - u.rd (ringHead pfWin 0)) % 2 ^ 32 ≤ 2 ^ u.rf (ringCtrl pfWin 0) 3 0
        ∧ 2 ^ u.rf (ringCtrl pfWin 0) 3 0 < ((17 : Word).toNat + 2 ^ 32 - u.rd (ringHead pfWin 0)) % 2 ^ 32
        ∧ u.rd (ringHead pfWin 0) ≠ u.rd (ringTail pfWin 0) ∧ tget none u.pods.ctl pfWin = none ∧ u.mgrDown = false
        ∧ u.noWork = false ∧ u.mgrHand = false
        ∧ runAt [⟨pfWin, 2 ^ 63, b⟩] pfWin (2 ^ 63 + u.ringEntry pfWin 0 (u.rd (ringHead pfWin 0)) % 2 ^ 63) 32 = some b
        ∧ (ctlFields b).vi = viField pfWin ∧ (ctlFields b).seq = u.rd (ringHead pfWin 0) ∧ ctlBad (ctlFields b) = false)
    ∧ (let u := (State.reset.wr (ringCtrl pfWin 255) (2 ^ 31 + 4)).wr (ringTail pfWin 255) 1
       u.rb (ringCtrl pfWin 255) 31 = true ∧ u.rd (ringHead pfWin 255) ≠ u.rd (ringTail pfWin 255)
      ∧ runAt [] pfWin (2 ^ 63 + u.ringEntry pfWin 255 (u.rd (ringHead pfWin 255)) % 2 ^ 63) 32 = none)
    ∧ (State.reset.mPower fun p => { p with sleep := 1 }).noWork = true := by decide

/-- A ring bound to a check context, and one bound to a render queue. -/
theorem test_bound_rings :
    ((State.reset.wr (ringCtrl pfWin 1) (2 ^ 31 + 4)).wr (ringBind pfWin 1) (Handle.mk kCheck 0 9).word).ringChan pfWin 1 = some (kCheck, 9)
    ∧ ((State.reset.wr (ringCtrl pfWin 1) (2 ^ 31 + 4)).wr (ringBind pfWin 1) (Handle.mk kRender 0 9).word).ringChan pfWin 1 = some (kRender, 9)
    ∧ ((State.reset.wr (ringCtrl pfWin 1) (2 ^ 31 + 4)).wr (ringBind pfWin 1) (Handle.mk kRender 0 9).word).rb (ringCtrl pfWin 1) 31 = true := by
  decide

/-- A PF control entry of an opcode and a kind in process, with a live fence 5 of the PF at generation 3. -/
def ctlState (op kind handle ring len : Nat) : State :=
  { pods := { ctl := [(pfWin, some ⟨false, op, kind, 7, handle, 0x1000, len, ring⟩)], chans := [(chanKey kRender 4, ⟨.live, pfWin⟩), (chanKey kFence 5, ⟨.live, pfWin⟩)],
              gens := [(chanKey kFence 5, 3)] } }

theorem test_control_ring :
    (let u := ctlState 1 kFence 0 0 16
     (u.ctlWaits pfWin 1 kFence).map (·.paramLen) = some 16 ∧ (leBytes 9 16).length = 16 ∧ leNat (leBytes 9 16) < 2 ^ 64
      ∧ u.pickIndex pfWin kFence = some 0)
    ∧ (let u := ctlState 3 0 (Handle.mk kRender 0 4).word 2 0
       u.ctlWaits pfWin 3 0 = some ⟨false, 3, 0, 7, (Handle.mk kRender 0 4).word, 0x1000, 0, 2⟩ ∧ u.rb (ringCtrl pfWin 2) 31 = false ∧ u.rd (ringBind pfWin 2) = 0
      ∧ u.boundTo pfWin (Handle.mk kRender 0 4).word = false)
    ∧ (let u := (ctlState 4 0 0 2 0).wr (ringBind pfWin 2) 5
       (u.ctlWaits pfWin 4 0).map (·.ring) = some 2 ∧ u.rb (ringCtrl pfWin 2) 31 = false ∧ u.rd (ringBind pfWin 2) ≠ 0)
    ∧ tget none (ctlState 5 0 0 0 8).vims.dirty pfWin = none
    ∧ ({ pods := { chans := [(chanKey kFence 5, ⟨.draining 7, pfWin⟩)] } } : State).chan kFence 5 = ⟨.draining 7, pfWin⟩ := by decide

/-- The handles of the states above name a live render queue and a live fence. -/
theorem test_bound_twice : ((ctlState 3 0 (Handle.mk kRender 0 4).word 2 0).wr (ringBind pfWin 9) (Handle.mk kRender 0 4).word).boundTo pfWin
    (Handle.mk kRender 0 4).word = true := by decide

theorem test_control_handles :
    (ctlState 3 0 (Handle.mk kRender 0 4).word 2 0).ctlHandle pfWin ⟨false, 3, 0, 7, (Handle.mk kRender 0 4).word, 0x1000, 0, 2⟩ = .ok (kRender, 4)
    ∧ (ctlState 5 0 (Handle.mk kFence 3 5).word 2 8).ctlHandle pfWin ⟨false, 5, 0, 7, (Handle.mk kFence 3 5).word, 0x1000, 8, 2⟩ = .ok (kFence, 5) :=
  ⟨by rfl, by rfl⟩

theorem test_event_records :
    (let s := State.reset.wr (evr pfWin).ctrl (2 ^ 31 + 6)
     s.evrOpen pfWin = true ∧ s.evrFull pfWin = false ∧ tget 0 s.pods.lostSince pfWin = 0 ∧ tget none s.vims.dirty pfWin = none
      ∧ s.rd64 (evr pfWin).base + s.evrSize pfWin * 16 ≤ 2 ^ 63)
    ∧ (let s := (State.reset.wr (evr pfWin).ctrl (2 ^ 31 + 6)).wr (evr pfWin).tail 63
       s.rb (evr pfWin).ctrl 31 = true ∧ s.viHeld pfWin = false ∧ s.evrFull pfWin = true)
    ∧ (let u : State := ({ now := 5000, pods := { firstUnsignalled := [(pfWin, some 4000)] } } : State).wr (evrIrq pfWin) (2 ^ 16)
       tget none u.pods.firstUnsignalled pfWin = some 4000 ∧ u.rf (evrIrq pfWin) 31 16 ≠ 0 ∧ 4000 + u.rf (evrIrq pfWin) 31 16 * 1000 ≤ u.now)
    ∧ (let u : State := { pods := { pfQueue := [] } }
       u.rb (evr pfWin).ctrl 31 = false ∧ 6 ≤ bits (6 : Word).toNat 3 0 ∧ u.rd64 (evr pfWin).base % max 4096 (2 ^ bits (6 : Word).toNat 3 0 * 16) = 0
        ∧ u.pods.pfQueue = [] ∧ tget 0 u.pods.lostSince pfWin = 0) := by decide

/-- A CREATE of a memory chunk channel by the PF in process: two Seedbank chunks at local address 4 MiB. -/
def memCreate : State := { pods := { ctl := [(pfWin, some ⟨false, 1, kMem, 7, 0, 0x1000, 16, 0⟩)] } }
def memBlock : Bytes := leBytes (2 ^ 22 + 2 * 2 ^ 64) 16

theorem test_mem_create : memCreate.ctlWaits pfWin 1 kMem = some ⟨false, 1, kMem, 7, 0, 0x1000, 16, 0⟩ ∧ memBlock.length = 16 ∧ memCreate.hostOk pfWin = true
    ∧ memCreate.memCreateStatus pfWin (memParams memBlock) = .ok ∧ memCreate.pickIndex pfWin kMem = some 0
    ∧ memCreate.chooseMem pfWin (memParams memBlock) = 0 := by decide

/-- A memory chunk channel of the PF at index 0 with chunk 3, in a phase. -/
def memChan (ph : ChanPhase) : State :=
  { pods := { chans := [(chanKey kMem 0, ⟨ph, pfWin⟩)] }, seed := { chans := [(0, ⟨2 ^ 22, 1, 0, false, [3]⟩)], chunks := [(3, { state := 5 })] } }

theorem test_mem_channels : (memChan (.creating 7)).chan kMem 0 = ⟨.creating 7, pfWin⟩ ∧ (memChan (.draining 7)).chan kMem 0 = ⟨.draining 7, pfWin⟩
    ∧ (memChan (.draining 7)).retiringIn 0 [3] = false ∧ (memChan (.draining 7)).compReads 0 [3] = false
    ∧ ({ seed := { retiring := [⟨0, 3 * 512, 9⟩] } } : State).retiringIn 0 [3] = true
    ∧ (let u : State := { seed := { chunks := [(9, { state := 5 })] } }
       u.chunkState 0 9 = 5 ∧ u.retiringIn 0 [9] = false ∧ u.seed.chans = []) := by decide

theorem test_memory_upkeep :
    (let u := State.reset
     u.scrubLength 2 = 48 ∧ tget 0 u.seed.scrubPos 2 % 48 + 1 < 48 ∧ u.bwFits 0 (bits (100 : Word).toNat 15 0 + u.rf (bwKey 0 1) 15 0) = true
      ∧ u.bwFits 0 (bits (0xFFFF : Word).toNat 15 0 + u.rf (bwKey 0 1) 15 0) = false)
    ∧ (let u : State := { seed := { scrubPos := [(2, 47)], retiring := [⟨0, 5, 9⟩] } }
       tget 0 u.seed.scrubPos 2 % 48 + 1 = 48 ∧ (u.seed.retiring.find? fun r => r.mem == 0 && r.page == 5) = some ⟨0, 5, 9⟩)
    ∧ 7 < (State.reset.wr 0x00600008 (8 * 2 ^ 16)).lpChannels := by decide

/-- A state with a control entry of the PF in process. -/
def ctlEntry (kind len : Nat) : State := { pods := { ctl := [(pfWin, some ⟨false, 1, kind, 7, 0, 0x1000, len, 0⟩)] } }

theorem test_layers :
    (let u := ctlEntry kLayer 8
     okWin pfWin = true ∧ u.ctlWaits pfWin 1 kLayer = some ⟨false, 1, kLayer, 7, 0, 0x1000, 8, 0⟩ ∧ leNat (leBytes (15 + 2 ^ 8) 8) = 15 + b2n true * 2 ^ 8
      ∧ 15 < u.row.pipes ∧ u.row.pipes ≤ 16 ∧ u.pipeGranted pfWin 15 = true ∧ u.pickIndex pfWin kLayer = some 0)
    ∧ tableBit 0x01020000 = some 0 ∧ bit State.reset.tableRef 0 = false ∧ tableBit 0x01030800 = some 16 ∧ tableBit 0x01028000 = none
    ∧ (let u : State := { display := { pipes := [(0, { comp := some { frame := 1, buffer := 0 } })] } }
       (u.pipe 0).comp = some { frame := 1, buffer := 0 }) := by decide

theorem test_layer_counts : ((List.range 512).countP fun j => (ctlEntry kLayer 8).layerOn 15 j) = 0 ∧ (ctlEntry kLayer 8).layersOf 15 true = [] := by
  constructor <;> rfl

/-- A referenced table, a writeback block that passes its checks, and a frame on its way to its buffer. -/
theorem test_writeback :
    (let u := (ctlEntry kWb 48).mPods fun p => { p with chans := [(chanKey kFence 0, ⟨.live, pfWin⟩)] }
     let n := 1 * 2 ^ 8 + 1 * 2 ^ 16 + 256 * 2 ^ 32 + (Handle.mk kFence 0 0).word * 2 ^ 64 + 2 ^ 63 * 2 ^ 128
     (leBytes n 48).length = 48 ∧ leNat (leBytes n 48) = n ∧ u.wbStatus pfWin n = .ok ∧ u.pickIndex pfWin kWb = some 0)
    ∧ tget [] ({ display := { wbFrame := [(0, [⟨3, 1, 5, []⟩])] } } : State).display.wbFrame 0 = [⟨3, 1, 5, []⟩] := by decide

theorem test_commit_port :
    (let u := State.reset
     15 < u.row.pipes ∧ u.row.pipes ≤ 16 ∧ u.winIgnores pfWin = false ∧ (1 : Word).toNat = nextToken (u.rd (portReg pfWin 15 0x0C))
      ∧ u.pipeGranted pfWin 15 = true ∧ bits (u.rd64 (portReg pfWin 15 0)) 63 40 = 0 ∧ u.rd64 (portReg pfWin 15 0) % 64 = 0
      ∧ u.rf (portReg pfWin 15 0x10) 2 0 ≠ 4 ∧ u.noWork = false ∧ (State.reset.mPower fun p => { p with sleep := 1 }).noWork = true ∧ (2 : Word).toNat ≠ nextToken (u.rd (portReg pfWin 15 0x0C)))
    ∧ (let u := State.reset.wf (viReg 3 0) 31 28 1
       u.winDead 3 = false ∧ u.pipeGranted 3 0 = false ∧ (1 : Word).toNat = nextToken (u.rd (portReg 3 0 0x0C)))
    ∧ (let u : State := { display := { commits := [{ w := pfWin, pipe := 0, token := 1, list := 0, ifComposed := 1, ifDirect := 1 }] } }
       (u.display.commits.find? fun c => c.w == pfWin && c.pipe == 0 && c.phase == .checking).isSome = true) := by decide

theorem test_pipe_requests :
    (let u := State.reset
     u.pipeReach ⟨.pf, false⟩ 15 = true ∧ u.pipeClaimed 15 ⟨.pf, false⟩ = false ∧ u.pipeState 15 = 0 ∧ u.pipeBusy 15 = false)
    ∧ (let u := State.reset.wf (pipeReg 15 4) 2 0 2
       u.pipeState 15 = 2 ∧ u.pipeBusy 15 = false ∧ (u.pipe 15).checks = 0 ∧ bit (0xC0000000 : Word).toNat 31 = true)
    ∧ (let u := State.reset.wf (pipeReg 15 4) 2 0 1
       u.pipeState 15 = 1 ∧ u.pipeBusy 15 = true ∧ (u.pipe 15).checks = 0)
    ∧ (let u : State := { worlds := { claims := [(0, { state := 1 })] } }
       u.pipeReach ⟨.pf, false⟩ 0 = true ∧ u.pipeClaimed 0 ⟨.pf, false⟩ = true ∧ u.pipeState 0 = 0)
    ∧ (let u := State.reset.mPipe 3 fun ps => { ps with checks := 1 }
       (u.pipe 3).checks ≠ 0 ∧ byR19 (u.pipeFails 3 (u.pipe 3).held ((u.pipe 3).checks = 2) true) ≠ .ok ∧ (u.pipe 3).abandon = false)
    ∧ (let u := (State.reset.wb (pllReg 7 0xC) 30 true)
       u.rb (pllReg 7 0xC) 30 = true ∧ u.rb (pllReg 7 0xC) 31 = false)
    ∧ okPipe 15 = true ∧ (State.reset.wf (pipeReg 15 4) 2 0 3).pipeState 15 = 3
    ∧ lutAt 0x01802000 = some (0, false, 0) ∧ lutAt 0x01920000 = some (1, true, 0) ∧ 7 < State.reset.row.plls ∧ 7 < State.reset.row.dscs := by decide

theorem test_outputs :
    (let u := State.reset
     15 < u.row.dpPorts ∧ u.row.dpPorts ≤ 16 ∧ u.rb (pipeReg 15 0x8004) 31 = false ∧ u.portClaimed 1 15 ⟨.pf, false⟩ = none
      ∧ u.rb (pipeReg 15 0x8020) 31 = false ∧ auxKnown (bits (0x90000000 : Word).toNat 31 28) = true ∧ auxKnown (bits (0xF0000000 : Word).toNat 31 28) = false)
    ∧ (State.reset.wb (pipeReg 15 0x8004) 31 true).rb (pipeReg 15 0x8004) 31 = true
    ∧ (State.reset.wb (pipeReg 15 0x8020) 31 true).rb (pipeReg 15 0x8020) 31 = true
    ∧ (let u : State := { variant := .zt0832a, display := { training := [3], aux := [(3, some 0x90000000)], lp := [(3, some 5)] } }
       3 ∈ u.display.training ∧ tget none u.display.aux 3 = some 0x90000000 ∧ bit 0x90000000 28 = true ∧ tget none u.display.lp 3 = some 5
        ∧ bit 5 21 = false ∧ u.dsiBusy 3 = false ∧ 3 < u.row.dsiPorts ∧ u.portClaimed 2 3 ⟨.pf, false⟩ = none ∧ u.rb (pipeReg 3 0xA004) 0 = false
        ∧ 64 < bits (65 : Word).toNat 15 0 ∧ bits (64 : Word).toNat 15 0 ≤ 64) := by decide

/-- Pipe 3 RUNNING, with a raster of 100 lines, changed by `f`. -/
def running (f : PipeSt → PipeSt) : State :=
  (State.reset.wf (pipeReg 3 4) 2 0 2).mPipe 3 fun ps => f { ps with cfg := { ps.cfg with vActive := 80, vTotal := 100 } }

theorem test_line_start : okPipe 3 = true ∧ ((running id).tickMem 5 []).scanning 3 = true
    ∧ 99 < (((running id).tickMem 5 []).pipe 3).cfg.vTotal + (((running id).tickMem 5 []).lockOf 3).slew := by decide

theorem test_last_active_pixel : ((running id).tickMem 5 []).scanning 3 = true := by decide

theorem test_compose_start :
    (let v := (((running id).tickMem 5 []).mPipe 3 fun ps => { ps with csDone := true }).toLine [] 3 (((running id).tickMem 5 []).pipe 3).cs
     (v.pipe 3).next = none ∧ (v.pipe 3).spareOf = none ∧ (v.pipe 3).pipFirst = false) := by decide

theorem test_line_zero_running : ((running id).tickMem 5 []).pipeState 3 = 2 ∧ (((running id).tickMem 5 []).pipe 3).next = none := by decide

theorem test_line_zero_first :
    (let u := (((State.reset.wf (pipeReg 3 4) 2 0 1).wb (pllReg 0 0xC) 31 true).wf (domainReg (unitDomain 0x20 3) 4) 31 29 3).mPipe 3 fun ps =>
        { ps with comp := some { frame := 0, buffer := 0, done := true } }
     u.pipeState 3 = 1 ∧ (u.pipe 3).next = none ∧ (u.pipe 3).comp = some { frame := 0, buffer := 0, done := true } ∧ (u.pipe 3).stop = false
      ∧ u.pipePowered 3 = true ∧ u.rb (pllReg (u.pipe 3).cfg.pll 0xC) 31 = true) := by decide

theorem test_latch_point : ((running id).tickMem 5 []).scanning 3 = true ∧ (State.reset.tickMem 5 []).scanning 3 = false := by decide

/-- A direct layer of pipe 3 in slot 5, drawn in this frame. -/
def directDrawn : State :=
  (running fun ps => { ps with directs := [⟨5, pfWin, 0, false, false, 0⟩], scanned := 7 }).mLayer 5 fun l => { l with pipe := 3, direct := true }

theorem test_underrun : (directDrawn.layer 5).pipe = 3 ∧ (directDrawn.layer 5).direct = true ∧ directDrawn.scanning 3 = true
    ∧ (directDrawn.pipe 3).directs.any (fun d => d.slot == 5) = true ∧ (directDrawn.pipe 3).offAt.any (fun o => o.1 == 5) = false
    ∧ ((directDrawn.scanTo [] 3 7).pipe 3).underran.contains 5 = false := by decide

/-- A composed layer of pipe 3 in slot 5, in the composition that runs. -/
def composedDrawn : State :=
  (running fun ps => { ps with comp := some { frame := 1, buffer := 0, layers := [⟨5, pfWin, 0, false, false, 0⟩] } }).mLayer 5 fun l => { l with pipe := 3 }

theorem test_layer_fault : (composedDrawn.layer 5).pipe = 3 ∧ (composedDrawn.layer 5).direct = false
    ∧ (composedDrawn.pipe 3).comp = some { frame := 1, buffer := 0, layers := [⟨5, pfWin, 0, false, false, 0⟩] } := by decide

theorem test_fetch_faults : (composedDrawn.heldMaps { frame := 1, buffer := 0 }).peek 0 4 [] 0 1 = .error 0
    ∧ directDrawn.peek (directDrawn.layerOwner 5) 4 [] 0 1 = .error 0
    ∧ directDrawn.peek (directDrawn.layerOwner 5) 4 [⟨0, 2 ^ 63, [1]⟩] (2 ^ 63) 1 = .ok [1] := ⟨by rfl, by rfl, by rfl⟩

theorem test_pip_first :
    (let u := State.reset.mPipe 3 fun ps => { ps with pipFirst := true, cfg := { ps.cfg with hActive := 64, vActive := 64 } }
     (u.pipe 3).pipFirst = true ∧ (u.pipe 3).store = [] ∧ u.husk.degraded = false ∧ u.stackUp 0 = true
      ∧ u.bwFits 0 (u.rf (bwKey 0 0) 15 0 + u.rf (bwKey 0 1) 15 0 + scanoutNeed ((u.pipe 3).cfg.pixelHz 0) (u.pipe 3).cfg.bpp - tget 0 u.seed.needs 3) = true) := by
  decide

theorem test_pip_list :
    (let u := (State.reset.wf 0x00400008 15 0 pfWin).wb (pipeReg 3 0xC000) 31 true
     u.pipShut ⟨.pf, true⟩ = false ∧ u.pipRefusal ⟨.pf, true⟩ 3 = none ∧ u.scanning 3 = false
      ∧ u.pipShut ⟨.pip, true⟩ = false ∧ u.pipRefusal ⟨.pip, true⟩ 3 = none ∧ State.reset.pipRefusal ⟨.pf, true⟩ 3 = some .badState
      ∧ (State.reset.mHusk fun h => { h with degraded := true }).pipShut ⟨.pf, true⟩ = true)
    ∧ (running id).scanning 3 = true := by decide

theorem test_no_layers : State.reset.layersOf 15 true = [] ∧ State.reset.layersOf 15 false = [] := ⟨by rfl, by rfl⟩

theorem test_check_units :
    (let u := State.reset
     u.checkAddr ⟨.pf, true⟩ 0x03C1F3C8 = some 0x03C1F3C8 ∧ 0x03C1F3C8 % 0x1000 < 0x400 ∧ regionMask (0x03C1F3C8 % 0x40) = some 0xFFFFFFFF
      ∧ (u.unitIndex 0x70 ((0x03C1F3C8 - 0x03C10000) / 0x1000)).isSome = true
      ∧ u.dcuOpen ⟨.pf, true⟩ 7 = true ∧ u.dcuWidth 7 = 8 ∧ widthBits (bits (4 : Word).toNat 3 2) = 16 ∧ u.rd64 (dcuReg 7 8) < 2 ^ 8
      ∧ u.rd64 (dcuReg 7 0x10) < 2 ^ 8 ∧ u.rd64 (dcuReg 7 0x18) < 2 ^ 8 ∧ u.dcuDirect ≤ 63)
    ∧ (let u : State := ({ now := 5, checks := { published := [(15, 5)] } } : State).wf (pipeReg 15 4) 2 0 2
       u.pipeState 15 = 2 ∧ tget 0 u.checks.published 15 ≠ 0 ∧ u.rb (setStatus 15) 31 = false
        ∧ 2 * (u.pipe 15).cfg.vTotal * (u.pipe 15).cfg.linePs ≤ (u.now + 1 - tget 0 u.checks.published 15) * 1000) := by decide

/-- A context of the PF that runs an entry. -/
def ctxRun (op arg : Nat) : State :=
  { checks := { ctxs := [(4095, { params := 2 * 2 ^ 12, running := some (leBytes (op + arg * 2 ^ 64 + 2 ^ 32) 32) })] } }

theorem test_check_contexts :
    (let u := ctlEntry kCheck 32
     (leBytes 0 32).length = 32 ∧ ctxBad (leNat (leBytes 0 32)) = false ∧ u.dcuDirect ≠ 64 ∧ u.pickIndex pfWin kCheck = some 0)
    ∧ (let k := entRing pfWin 9
       let u : State := { checks := { ready := [k] }, pods := { fetched := [(k, [leBytes 4 32])] } }
       (u.checks.ready.find? fun k => (u.ctx (u.ringCtx k)).running.isNone) = some k
        ∧ (u.checks.ctxs.countP fun c => c.2.running.isSome) < 64 - u.dcuDirect ∧ u.ringQueue k = [leBytes 4 32]
        ∧ entBad (leNat (leBytes 4 32)) = false ∧ entBad (leNat (leBytes 5 32)) = true)
    ∧ ((ctxRun 1 0).ctxRuns 4095 1).isSome = true ∧ ((ctxRun 2 0).ctxRuns 4095 2).isSome = true ∧ ((ctxRun 3 0).ctxRuns 4095 3).isSome = true
    ∧ ((ctxRun 4 0).ctxRuns 4095 4).isSome = true ∧ bits (3 + 7 * 2 ^ 64) 127 64 < 2 ^ ctxWidth ((ctxRun 3 7).ctx 4095).params
    ∧ 2 ^ ctxWidth ((ctxRun 3 7).ctx 4095).params ≤ bits (3 + (2 ^ 32) * 2 ^ 64) 127 64 := by decide

theorem test_check_feed : (ctxRun 1 0).peek pfWin 4 [⟨pfWin, 2 ^ 63, [7]⟩] (2 ^ 63) 1 = .ok [7] := by rfl

theorem test_queue_creation :
    (let u := ctlEntry kCompute 16
     u.ctlWaits pfWin 1 kCompute = some ⟨false, 1, kCompute, 7, 0, 0x1000, 16, 0⟩ ∧ u.freeCtx = some 0 ∧ u.grantRoom pfWin 0x10 1 = true
      ∧ u.pickIndex pfWin kCompute = some 0 ∧ u.grantRoom pfWin 0x12 0 = true ∧ leNat (leBytes (6 + 2 ^ 8) 16) = 6 + b2n true * 2 ^ 8)
    ∧ (let u := ctlEntry kRender 16
       u.ctlWaits pfWin 1 kRender = some ⟨false, 1, kRender, 7, 0, 0x1000, 16, 0⟩ ∧ u.pickIndex pfWin kRender = some 0 ∧ u.grantRoom pfWin 0x12 1 = true)
    ∧ (let u := State.reset
       u.winDead pfWin = false ∧ u.viHeld pfWin = false ∧ nextToken (u.rd (xlateReg pfWin 0x0C)) < 2 ^ 32 ∧ tget [] u.render.reqs pfWin = []
        ∧ u.rd64 (xlateReg pfWin 0) % 64 = 0 ∧ u.rd (xlateReg pfWin 0x14) < 4) := by decide

/-- A queue whose pool grows, with LPDDR in service, and a request whose record lies at an address that is not mapped. -/
theorem test_queue_growth :
    let u : State := ({ render := { queues := [(chanKey kRender 0, { growing := true })] },
                        pods := { chans := [(chanKey kRender 0, ⟨.live, pfWin⟩)] } } : State).wrs
      [(0x00600008, 2 ^ 16), (ctxReg 0 8, 4 * 2 ^ 16 + 1)]
    (u.queue (chanKey kRender 0)).growing = true ∧ u.poolMay (chanKey kRender 0) = true ∧ pickChunks u 1 u.lpChunks 0 1 = [0] := by decide

theorem test_xlate_done :
    let u : State := { render := { reqs := [(pfWin, [⟨0, 64, 1, 0, 0, 0⟩])] } }
    tget [] u.render.reqs pfWin = ⟨0, 64, 1, 0, 0, 0⟩ :: [] ∧ recordBad (leNat (leBytes (2 + 2 ^ 8 + 3 * 2 ^ 512 + 20 * 2 ^ 640) 96)) = false ∧ (u.load pfWin 1 [] 64 64).1 = none
      ∧ u.xlateNext = some pfWin ∧ u.xlateNext ≠ some 3 := by decide

/-- A queue of the PF of a kind, with one descriptor waiting, and a pass open. -/
def queueWith (kind op payload : Nat) (pass : Option Pass) : State :=
  { pods := { chans := [(chanKey kind 0, ⟨.live, pfWin⟩)], fetched := [(chanKey kind 0, [leBytes (payload + op * 2 ^ 168 + 7 * 2 ^ 224) 32])] },
    render := { queues := [(chanKey kind 0, { pass := pass })], allot := [(chanKey kind 0, 1)] } }

/-- A pass over one pixel with no attachment. -/
def onePass : Pass :=
  { cnt := 1, header := 2 ^ 32 + 2 ^ 48 + 2 ^ 64, atts := [], started := 0, immediate := false, unordered := false, sig := 0 }

/-- The queue starts the descriptor, and then nothing waits in it and nothing runs. -/
def startsAlone (kind op payload : Nat) (pass : Option Pass) : Bool :=
  match (queueWith kind op payload pass).qStart (chanKey kind 0) op with
  | some (n, v) => descPlaced (qKind (chanKey kind 0) == kCompute) (v.queue (chanKey kind 0)).openPass.isSome n && !descRsv n
      && decide ((v.queue (chanKey kind 0)).running = []) && decide (v.qWaiting (chanKey kind 0) = []) && n == payload + op * 2 ^ 168 + 7 * 2 ^ 224
  | none => false

theorem test_render_bindings :
    startsAlone kRender 3 64 (some onePass) = true ∧ startsAlone kCompute 3 64 none = true ∧ startsAlone kRender 4 (64 + 2 ^ 64) none = true
    ∧ startsAlone kRender 5 (4 + 2 ^ 64 + 2 ^ 160) none = true ∧ startsAlone kRender 5 (2 + 2 ^ 160) none = true
    ∧ startsAlone kRender 6 (15 * 2 ^ 96 + 4) none = true ∧ startsAlone kRender 7 (7 * 2 ^ 128 + 9) none = true
    ∧ startsAlone kCompute 7 (7 * 2 ^ 128 + 9 + 2 ^ 160) none = true ∧ startsAlone kRender 8 5 none = true
    ∧ startsAlone kRender 9 (16384 * 2 ^ 32 + 16384 * 2 ^ 48) none = true
    ∧ (let e : XlateEnt := { key := 5, units := 1, compute := true }
       let u : State := { render := { cache := [(pfWin, [e])] } }
       u.xlateFind pfWin 5 = some e) ∧ resourceBad 0 = false ∧ resourceStride 0 = false := by decide

/-- The records those descriptors read, in host memory. -/
theorem test_render_reads :
    (queueWith kRender 3 0 none).load pfWin 3 [⟨pfWin, 2 ^ 63, leBytes (2 ^ 128) 64⟩] (2 ^ 63) 64 = (some (leBytes (2 ^ 128) 64), queueWith kRender 3 0 none) := by
  rfl

theorem test_render_passes :
    startsAlone kRender 1 (64 + 2 ^ 160) none = true ∧ startsAlone kRender 1 (64 + 2 ^ 161) none = true ∧ startsAlone kRender 1 64 none = true
    ∧ byR19 (passChecks (2 ^ 32 + 2 ^ 48 + 2 ^ 64)) = .ok ∧ autoImmediate [] = false
    ∧ startsAlone kRender 2 0 (some onePass) = true ∧ startsAlone kRender 0x0A 3 (some onePass) = true
    ∧ startsAlone kRender 0x0B 3 (some { onePass with immediate := true }) = true ∧ startsAlone kRender 0x0C (4 + 2 ^ 64 + 16 * 2 ^ 96) (some onePass) = true
    ∧ (let e : XlateEnt := { key := 5, units := 1, compute := false, samples := 1 }
       let u : State := { render := { cache := [(pfWin, [e])], queues := [(chanKey kRender 0, { pass := some onePass, gPipe := some e })] },
                          pods := { chans := [(chanKey kRender 0, ⟨.live, pfWin⟩)] } }
       byR19 (u.drawChecks (chanKey kRender 0)) = .ok) := by decide

theorem test_render_work :
    startsAlone kCompute 0x0D (65535 + 2 ^ 32 + 2 ^ 64) none = true ∧ startsAlone kCompute 0x0D (2 ^ 32 + 2 ^ 64) none = true
    ∧ startsAlone kCompute 0x10 (4 * 2 ^ 128) none = true ∧ startsAlone kRender 0x11 0x8080 none = true ∧ startsAlone kCompute 0x12 9 none = true
    ∧ startsAlone kCompute 0x13 9 none = true ∧ startsAlone kCompute 0x14 (2 ^ 160 + 8) none = true
    ∧ startsAlone kRender 0x14 (2 * 2 ^ 160 + 8) (some onePass) = true ∧ startsAlone kRender 0x14 (3 * 2 ^ 160 + 8) (some onePass) = true
    ∧ startsAlone kRender 0x14 (4 * 2 ^ 160 + 16) none = true ∧ startsAlone kRender 0x16 (2 ^ 160) none = true
    ∧ startsAlone kRender 0x16 (15 + 2 ^ 127) none = true := by decide

theorem test_render_work2 :
    startsAlone kCompute 0x0E 4 none = true ∧ startsAlone kCompute 0x0F 64 none = true ∧ startsAlone kRender 0x15 64 none = true
    ∧ (let e : XlateEnt := { key := 5, units := 1, compute := true }
       let u : State := { render := { cache := [(pfWin, [e])], queues := [(chanKey kCompute 0, { cPipe := some e })] },
                          pods := { chans := [(chanKey kCompute 0, ⟨.live, pfWin⟩)] } }
       byR19 (u.dispatchChecks (chanKey kCompute 0)) = .ok)
    ∧ State.reset.pipeGranted pfWin 15 = true ∧ State.reset.pipeState 15 ≠ 2 ∧ rangeOut (2 ^ 40 - 4) 4 = false ∧ rangeOut (2 ^ 64 - 4) 4 = false
    ∧ (let u : State := { render := { queues := [(chanKey kRender 0, { wait := some (1, (Handle.mk kFence 0 0).word, 4) })] }, pods := { chans := [(chanKey kRender 0, ⟨.live, pfWin⟩), (chanKey kFence 0, ⟨.live, pfWin⟩)] } }
       (u.queue (chanKey kRender 0)).wait = some (1, (Handle.mk kFence 0 0).word, 4)
        ∧ (match u.handleCheck (u.qOwner (chanKey kRender 0)) kFence (Handle.mk kFence 0 0).word with | .ok i => i == 0 | _ => false) = true
        ∧ u.fenceReady pfWin (Handle.mk kFence 0 0).word 4 = false) := by decide

/-- A queue with work that runs, whose deadline on a running pipe has passed. -/
theorem test_deadline :
    let q := chanKey kRender 0
    let u : State := ({ now := 50, display := { pipes := [(0, {})], locks := [(0, { seen := true, zeroAt := 9 })] }, render := { queues := [(q, { running := [{ cnt := 1, word := 0 }], deadline := some ⟨0, 1, 0, false, false⟩ })] } } : State).wf (pipeReg 0 4) 2 0 2
    (u.queue q).deadline = some ⟨0, 1, 0, false, false⟩ ∧ u.qDeadline q = some 9 ∧ u.qUndone q = true := by decide

/-- A queue of the PF with one descriptor running, at a priority, in the fill class or not. -/
def queueRuns (kind op prio : Nat) (fill : Bool) : State :=
  { pods := { chans := [(chanKey kind 0, ⟨.live, pfWin⟩)] },
    render := { queues := [(chanKey kind 0, { prio := prio, fill := fill, saving := true, restoring := true, running := [{ cnt := 3, word := op * 2 ^ 168, held0 := 0, limit := 0 }], held := 5, clusterTime := 5 })],
                allot := [(chanKey kind 0, 2)] } }

theorem test_render_scheduling :
    (let u := queueRuns kCompute 0x10 0 false
     (u.queue (chanKey kCompute 0)).running = [{ cnt := 3, word := 0x10 * 2 ^ 168 }] ∧ descOp (0x10 * 2 ^ 168) = 0x10
      ∧ u.load (u.qOwner (chanKey kCompute 0)) 3 [] 0 0 = (some [], u) ∧ (u.queue (chanKey kCompute 0)).saving = true)
    ∧ (let u := queueRuns kRender 0x0A 6 false
       ((u.queue (chanKey kRender 0)).running.find? fun d => d.cnt == 3 && !d.done) = some { cnt := 3, word := 0x0A * 2 ^ 168 }
        ∧ (u.heldNow (chanKey kRender 0)).1 = 5 ∧ u.qDead (chanKey kRender 0) = false ∧ (u.queue (chanKey kRender 0)).prio ≠ 7)
    ∧ (let u := queueRuns kCompute 0x0D 0 true
       ((u.queue (chanKey kCompute 0)).running.find? fun d => d.cnt == 3 && !d.done) = some { cnt := 3, word := 0x0D * 2 ^ 168 }
        ∧ (u.heldNow (chanKey kCompute 0)).2 = 5 ∧ (u.queue (chanKey kCompute 0)).fill = true) := by decide

/-- A cluster in service, a ready queue allotted two clusters, and one that is not ready. -/
theorem test_clusters :
    let q := chanKey kRender 0
    let u : State := { queueRuns kRender 0x0A 6 false with variant := .zt0202a }
    0 ∈ u.clustersUp ∧ tget 0 u.render.clusters 0 = 0 ∧ u.nextQueue = some q ∧ u.qClusters q < tget 0 u.render.allot q ∧ u.qReady (chanKey kCompute 5) = false := by decide

theorem test_budget : State.reset.budgetClaimed ⟨.pf, false⟩ = false
    ∧ (let u : State := { now := 10000000005, budget := { first := some 5, derated := true }, start := { pset := { theta := 400 } } }
       u.budget.first = some 5 ∧ u.start.pset.theta ≠ 0 ∧ 5 + 10000000000 ≤ u.now)
    ∧ (let u : State := { worlds := { claims := [(0, { state := 1 })] } }
       u.budgetClaimed ⟨.debug, false⟩ = true) := by decide

/-- The lowest cap of a part is below its highest. -/
theorem test_caps : ∀ v : Variant, v.capMin ≤ v.row.capMaxW * 10 ∧ v.row.capMaxW * 10 < 2 ^ 32 := by
  intro v; cases v <;> decide

/-- Port 0 brings samples in and port 1 takes them out, both masters in a running domain 0. -/
theorem test_audio_matrix :
    let u : State := ({ audio := { doms := [(0, { running := true })] } } : State).wrs
      [(tdmReg 0 0, 2 ^ 31 + 2 ^ 30 + 2 ^ 17), (tdmReg 1 0, 2 ^ 31 + 2 ^ 30 + 2 ^ 16), (tdmReg 0 4, 510)]
    (u.dom 0).running = true ∧ u.audioUp = true ∧ u.swapState = 0 ∧ (u.inRuns.filter fun r => r.dom == 0) = [⟨1, 0, 0, 510, 2, 0xFFFF⟩]
      ∧ (u.outRuns.filter fun r => r.dom == 0) = [⟨1, 1, 0, 0, 2, 0xFFFF⟩] ∧ u.rb (tdmReg 0 0) 30 = true
      ∧ u.unitUp 0x52 0 = true ∧ u.unitUp 0x52 1 = true := by decide

theorem test_no_effects : ∀ c k, c < 768 → k < 16 → bankGet [] (slotOff c k) = 0 := by
  intro c k h1 h2
  have e1 : ¬ (0x90000 ≤ slotOff c k ∧ slotOff c k < 0x98000 ∧ slotOff c k % 0x20 = 0) := by simp only [slotOff]; omega
  have e2 : ¬ (0xA0000 ≤ slotOff c k ∧ slotOff c k < 0xA1000) := by simp only [slotOff]; omega
  simp only [bankGet, tget, bankDefault, e1, e2, if_false]

theorem test_audio_domains :
    (let u := State.reset
     u.audioClaimed ⟨.pf, false⟩ = false ∧ u.rb (domReg 1 0) 31 = false ∧ u.domCheck 1 0x84000000 = .ok ∧ u.domCheck 1 0xBC000000 = .badParam
      ∧ (keyRow (tdmReg 7 0)).isSome = true ∧ u.mapBad (tdmReg 7 0) 0xC0030000 = false ∧ u.mapBad (tdmReg 7 0) 0xB0000000 = true)
    ∧ (let u : State := ({ audio := { doms := [(1, { running := true, stopping := true })] } } : State).wrs [(domReg 1 0, 2 ^ 31 + 2 ^ 24)]
       (u.dom 1).running = true ∧ (u.dom 1).stopping = true ∧ u.rf (domReg 1 0) 25 24 ≠ 0 ∧ u.rb (domReg 1 4) 29 = false ∧ u.rb (domReg 1 4) 30 = false)
    ∧ (let u : State := { worlds := { claims := [(0, { state := 1 })] }, variant := .zt1680 }
       u.audioClaimed ⟨.debug, false⟩ = true) := by decide

theorem test_audio_swaps :
    (State.reset.swapState = 0 ∧ (State.reset.wr bankStatus (2 ^ 28)).swapState = 1 ∧ (State.reset.wr bankStatus (2 ^ 28)).bankCheck = none
      ∧ (State.reset.wr bankStatus (2 ^ 28)).runningDoms = [] ∧ (State.reset.wr bankStatus (4 * 2 ^ 28)).swapState = 4)
    ∧ (let u : State := ({ audio := { shadow := [(nodeOff 0 1, 7)], doms := [(1, { running := true })] } } : State).wr bankStatus (2 ^ 28)
       u.bankCheck = some (1 * 512 + 0) ∧ 1 ∈ u.runningDoms ∧ (u.dom 1).changed = false)
    ∧ (let u : State := ({ audio := { active := [(nodeOff 1 1, 7)] } } : State).wrs [(tdmReg 0 0, 2 ^ 31 + 2 ^ 30 + 2 ^ 17), (tdmReg 1 0, 2 ^ 31 + 2 ^ 30 + 2 ^ 16)]
       runOf u.inRuns 1 = some ⟨1, 0, 0, 0, 2, 0xFFFF⟩ ∧ runOf u.outRuns 1 = some ⟨1, 1, 0, 0, 2, 0xFFFF⟩ ∧ bankGet u.audio.active (nodeOff 1 1) ≠ 0
        ∧ bankGet u.audio.active (nodeOff 0 1) = 0)
    ∧ (State.reset.player 63).bad = false ∧ (({ audio := { players := [(0, { bad := true })] } } : State).player 0).bad = true := by decide

/-- A block for one channel of 64 frames in slot 63 with a period of 16. -/
def streamBlock : Nat := 2 ^ 8 + 63 * 2 ^ 128 + 16 * 2 ^ 144 + 64 * 2 ^ 160 + 256 * 2 ^ 192

theorem test_audio_streams :
    (let u := ctlEntry kStreamIn 32
     u.ctlWaits pfWin 1 kStreamIn = some ⟨false, 1, kStreamIn, 7, 0, 0x1000, 32, 0⟩ ∧ u.pickIndex pfWin kStreamIn = some 0 ∧ u.swapState = 0
      ∧ freeRun u.inRuns 1 u.row.audioIn = some 0)
    ∧ leNat (leBytes streamBlock 32) = streamBlock ∧ stChannels streamBlock = 1 ∧ stSlot streamBlock = 63 ∧ stFrames streamBlock = 64
    ∧ stPeriod streamBlock = 16 ∧ stRing streamBlock = 256 ∧ stFormat streamBlock = 0 ∧ bits streamBlock 143 136 = 0 ∧ bits streamBlock 127 16 = 0 := by decide

theorem test_audio_streams2 :
    (let k := chanKey kStreamOut 2
     let u : State := { audio := { streams := [(k, { params := streamBlock, waiting := true })] }, pods := { chans := [(chanKey kStreamOut 2, ⟨.creating 9, pfWin⟩)] } }
     (u.stream k).waiting = true ∧ u.chan kStreamOut 2 = ⟨.creating 9, pfWin⟩)
    ∧ (let k := chanKey kStreamIn 2
       let u : State := { audio := { streams := [(k, { params := streamBlock })] }, pods := { chans := [(chanKey kStreamIn 2, ⟨.live, pfWin⟩)] } }
       u.streamBySlot pfWin 63 = some k ∧ u.rb (streamReg pfWin 63 0) 31 = false)
    ∧ (let u : State := ({ audio := { swrBusy := [(3, some (2 ^ 31 + 10 * 2 ^ 24))] } } : State).wrs [(swrReg 3 0, 2 ^ 31), (swrReg 3 8, 2 ^ 10)]
       tget none u.audio.swrBusy 3 = some (2 ^ 31 + 10 * 2 ^ 24) ∧ u.rb (swrReg 3 8) 10 = true ∧ tget none u.audio.swrBusy 2 = none)
    ∧ (let u : State := ({ audio := { cap := [(63, (5, [[1]]))] } } : State).wrs [(avtpTx 63 8, 2 ^ 31), (tsnReg 0 8, 2 ^ 31), (avtpRx 63 8, 2 ^ 31), (avtpRx 63 12, 2 ^ 31)]
       u.talkerMac 63 = 0 ∧ u.talkerVi 63 = none ∧ u.rb (tsnReg 0 8) 31 = true ∧ u.rb (avtpRx 63 12) 31 = true) := by decide

theorem test_touch_scans :
    (let u := State.reset
     0 < u.blocks ∧ u.blocks ≤ 16 ∧ u.unitUp 0x60 0 = true ∧ u.blkClaimed 0 ⟨.pf, false⟩ = false ∧ u.rb (blkReg 0 0x10) 31 = false
      ∧ blkCheck (0x80000000 + 1024) (1000 * 2 ^ 15 + 490) 0 = .ok ∧ blkCheck (0x80000000 + 1024) (1000 * 2 ^ 15 + 491) 0 ≠ .ok
      ∧ u.rb (elReg 3 0x18) 26 = false)
    ∧ (let u : State := ({ panel := { blks := [(0, { scan := 1, ctrl := 1024 })], els := [(3, { ctrl := 2 ^ 31, thresh := 100 + 50 * 2 ^ 16, fresh := 0 })] } } : State).wrs
         [(elReg 3 0x18, 0), (elReg 3 0x10, 5000 * 256), (blkReg 0 0x10, 2 ^ 31), (blkReg 0 0, 2 ^ 31)]
       (u.blk 0).scan = 1 ∧ (u.blk 0).first = false ∧ u.zonesOf 0 = [] ∧ (u.elec 3).fresh = 0 ∧ u.elState 3 = 0
        ∧ u.rd (elReg 3 0x10) = 5000 * 256 ∧ (bits (u.elec 3).thresh 15 0 : Int) ≤ elSignal (tbCharge (u.blk 0).ctrl) (5000 * 256) 4900
        ∧ tbDebounce (u.blk 0).ctrl ≤ (u.elec 3).up + 1 ∧ elSignal (tbCharge (u.blk 0).ctrl) (5000 * 256) 4901 < bits (u.elec 3).thresh 15 0
        ∧ u.rb (elReg 3 0x18) 28 = false) := by decide

theorem test_sensed :
    ({ panel := { els := [(3, { ctrl := 2 ^ 31 })] } } : State).sensed 0 = [3] := by rfl

theorem test_touch_zones :
    (let u := (ctlEntry kZone 40).wr (elReg 31 0) pfWin
     let p := 2 + 2 ^ 6 + 30 * 2 ^ 64 + 31 * 2 ^ 80
     u.ctlWaits pfWin 1 kZone = some ⟨false, 1, kZone, 7, 0, 0x1000, 40, 0⟩ ∧ zEls p = [30, 31] ∧ (∀ k, k < 16 → zCount p ≤ k → zEl p k = 0) ∧ zoneType p = 1
      ∧ zCount p = 2 ∧ bits p 39 11 = 0 ∧ bit p 5 = false ∧ zDetents p = 0 ∧ u.rb (elReg 31 0x18) 26 = false ∧ 31 < u.row.electrodes
      ∧ u.elOwner 31 = pfWin ∧ u.pickIndex pfWin kZone = some 0)
    ∧ (let u : State := { ctlEntry kReflex 24 with panel := { zones := [(0, { params := 1 })] } }
       u.ctlWaits pfWin 1 kReflex = some ⟨false, 1, kReflex, 7, 0, 0x1000, 24, 0⟩ ∧ canRaise (zoneType (u.zone 0).params) 1 = true ∧ (u.bindsOf 0).length < 8
        ∧ u.pickIndex pfWin kReflex = some 0)
    ∧ (let u : State := (State.reset.wr 0x03800010 (2 ^ 31 + 1))
       u.row.electrodes ≠ 0 ∧ u.rb 0x03800010 31 = true ∧ u.domainState 21 = 0 ∧ u.panel.wake.count = [] ∧ u.rb 0x03800010 0 = true)
    ∧ (let u : State := { panel := { pulses := [(5, some 0)] } }
       tget none u.panel.pulses 5 = some 0) := by decide

/-- A library entry that plays: a sine of full amplitude with 1 ms of attack, 2 ms held and 0.1 ms of brake. -/
def hapEffectEntry : Nat := 1 + 65535 * 2 ^ 128 + 2000 * 2 ^ 144 + 1000 * 2 ^ 176 + 100 * 2 ^ 192

/-- A channel with a slot of the PF in register set 31 that plays it. -/
def hapReady : State :=
  State.wrs { panel := { slots := [(0, 31 * 2 ^ 16 + 32768 * 2 ^ 48)], lib := [(0, hapEffectEntry)], haps := [(0, { next := some ⟨0, hapEffectEntry, 32768⟩ })] },
              pods := { chans := [(chanKey kHslot 0, ⟨.live, pfWin⟩)] } }
    [(hapReg 0 0x20, 2 ^ 29), (hapReg 0 8, 100 * 2 ^ 24 + 2 ^ 16 + 60000)]

theorem test_haptic_slots :
    hapReady.hslotBy pfWin 31 = some 0 ∧ hsChannel (hapReady.hslot 0) = 0 ∧ hapReady.hapState 0 = 1 ∧ 0 < hapReady.row.haptics
    ∧ hapEntryBad hapEffectEntry (hapReady.rb (hapReg 0 0) 28) = false ∧ hapReady.hapRefusal 0 hapEffectEntry = 0
    ∧ (hapReady.wr (hapReg 0 8) (2 ^ 16)).hapRefusal 0 hapEffectEntry ≠ 0 ∧ (hapReady.wr (hapReg 0 8) (2 ^ 16)).rf (hapReg 0 8) 23 16 ≠ 0
    ∧ (hapReady.wr (hapReg 0 0x20) (4 * 2 ^ 29)).hapState 0 = 4 ∧ (hapReady.hap 0).run.slot = 0
    ∧ leNoBoost hapEffectEntry = false ∧ 0 < leAttack hapEffectEntry ∧ 100 * 16 < leAmp hapEffectEntry * 32768 / 32768 * 15
    ∧ (let u := ctlEntry kHslot 8
       u.ctlWaits pfWin 1 kHslot = some ⟨false, 1, kHslot, 7, 0, 0x1000, 8, 0⟩ ∧ u.pickIndex pfWin kHslot = some 0
        ∧ (u.wr (hapReg 0 0) pfWin).rf (hapReg 0 0) 15 0 = pfWin ∧ hsGain (32768 * 2 ^ 48) = 32768) := by decide

/-- A channel in a state, on and with an accelerometer. -/
def hapIn (st : Nat) (h : HapSt) : State :=
  State.wrs { now := 10, panel := { haps := [(0, h)] } } [(hapReg 0 0x20, st * 2 ^ 29), (hapReg 0 0, 2 ^ 31 + 2 ^ 26), (hapReg 0 0xC, 80 * 2 ^ 8), (hapReg 0 0x10, 2 ^ 16), (hapReg 0 8, 1)]

theorem test_haptic_channels :
    (let u := State.reset
     0 < u.row.haptics ∧ u.claimedFor 0x61 0 ⟨.pf, false⟩ = false ∧ u.rb (hapReg 0 0) 31 = false ∧ u.hapNamed 0 = false
      ∧ (u.hapFields 0 (2 ^ 29 + 2 * 2 ^ 26)).rf (hapReg 0 0) 27 26 = 2 ∧ (u.hapFields 0 (2 ^ 29 + 2 * 2 ^ 26)).rf (hapReg 0 0) 30 29 ≤ 1)
 := by decide

theorem test_haptic_channels2 :
    (hapIn 1 {}).hapState 0 = 1 ∧ (hapIn 2 {}).hapState 0 = 2 ∧ ((hapIn 2 {}).hap 0).quick = false ∧ (hapIn 3 {}).hapState 0 ≠ 7
    ∧ (hapIn 1 {}).hapDriven 0 = false ∧ (hapIn 1 {}).rf (hapReg 0 0) 27 26 = 1 ∧ (hapIn 1 {}).rb (hapReg 0 0x20) 25 = false ∧ ((hapIn 1 { fails := 2 }).hap 0).fails = 2
    ∧ ((hapIn 1 { pend := some (0, 5) }).hap 0).pend = some (0, 5) ∧ 5 + (hapIn 1 {}).rf (hapReg 0 8) 23 16 * 1000000 ≤ (hapIn 1 {}).now
    ∧ (hapIn 6 { resting := true }).hapState 0 = 6 ∧ ((hapIn 6 {}).hap 0).phaseAt + (hapIn 6 {}).rf (hapReg 0 0xC) 31 16 * 1000000 ≤ (hapIn 6 {}).now
    ∧ (hapIn 1 {}).rf (hapReg 0 0x10) 31 16 ≠ 0 ∧ (hapIn 1 {}).rb (hapReg 0 0) 31 = true ∧ sext 16 (20 * 256) < ((hapIn 1 {}).rf (hapReg 0 0xC) 15 8 : Int) * 256 := by decide

/-- A VI 0 in a state, with the parameter block of the port in host memory. -/
def vimState (st : Nat) : State := State.wrs {} [(viReg 0 0, st * 2 ^ 28), (0x00400014, 2 ^ 31), (linkReg 0, 2 ^ 31 + 8)]

/-- The port accepts a command with a parameter block. -/
def vimGood (st op p : Nat) : Bool :=
  match (vimState st).vimCheck ⟨.pf, true⟩ op 0 (some (leBytes p 32)) with
  | (.ok q, _) => q == p
  | _ => false

theorem test_instances :
    vimGood 0 1 (1 + 7 * 2 ^ 64) = true ∧ vimGood 0 1 0 = true ∧ vimGood 1 3 (0x10 * 2 ^ 8 + 5 * 2 ^ 64) = true ∧ vimGood 4 4 0 = true ∧ vimGood 4 2 0 = true
    ∧ (vimState 1).grantStatus 0 0x10 5 0 = .ok ∧ (vimState 1).grantStatus 0 0x14 65 0 = .badParam ∧ (vimState 4).viState 0 = 4
    ∧ vimGood 1 1 0 = false := by decide

theorem test_instances2 :
    (let u : State := { now := 1500009, vims := { resets := [(127, some ⟨1, 4, false, 9⟩)] } }
     tget none u.vims.resets 127 = some ⟨1, 4, false, 9⟩ ∧ 9 + 1500000 ≤ u.now ∧ (∀ q ∈ u.viQueues 127, u.qClusters q = 0))
    ∧ (match (vimState 1).vimCheck ⟨.pf, true⟩ 1 0 none with | (.error st, _) => st == .badState | _ => false) = true := by decide

theorem test_freeze :
    vimGood 1 5 0 = true ∧ vimGood 4 6 0 = true ∧ vimGood 4 7 (2 ^ 32 + 4096 * 2 ^ 128) = true ∧ vimGood 4 8 (2 ^ 32 + 4096 * 2 ^ 128) = true
    ∧ tget [] (vimState 4).vims.retrans 0 = []
    ∧ (let u : State := State.mVims { vimState 4 with now := 10 ^ 9 } fun m => { m with retrans := [(0, [(64, 5)])], ops := [(0, some ⟨5, 0, 0⟩), (1, some ⟨7, 0, 0⟩), (3, some ⟨6, 0, 0⟩), (2, some ⟨8, 2 ^ 191, 0⟩)] }
       tget [] u.vims.retrans 0 ≠ [] ∧ tget none u.vims.ops 0 = some ⟨5, 0, 0⟩ ∧ u.viQuiet 0 = true ∧ 0 + u.rf 0x00400004 17 0 * 1000 ≤ u.now
        ∧ tget none u.vims.ops 1 = some ⟨7, 0, 0⟩ ∧ tget none u.vims.ops 3 = some ⟨6, 0, 0⟩ ∧ tget [] u.vims.retrans 3 = [] ∧ tget none u.vims.ops 2 = some ⟨8, 2 ^ 191, 0⟩ ∧ (u.fetch pfWin 6 (2 ^ 63) 0 (some [])).1 = some []
        ∧ (u.fetch pfWin 6 (2 ^ 63) 0 none).1 = none) := by decide

theorem test_copies :
    vimGood 1 9 (4096 * 2 ^ 32 + 4096 * 2 ^ 64) = true ∧ vimGood 4 10 (4096 * 2 ^ 32) = true ∧ vimGood 1 11 0 = true ∧ vimGood 1 11 1 = true
    ∧ (vimState 1).areaMapped 0 (dirtyLen 0 0) = true
    ∧ (let u := (vimState 1).mVims fun m => { m with dirty := [(0, some ⟨0, 0, 0, 0⟩)], ops := [(1, some ⟨9, 2 ^ 191, 0⟩), (2, some ⟨10, 2 ^ 191, 0⟩), (3, some ⟨10, 2 ^ 127, 0⟩)] }
       (match u.vimCheck ⟨.pf, true⟩ 12 0 (some (leBytes 0 32)) with | (.ok q, _) => q == 0 | _ => false) = true
        ∧ tget none u.vims.dirty 0 = some ⟨0, 0, 0, 0⟩ ∧ 0 + 0 ≤ dirtyLen 0 0 ∧ u.physAll pfWin 0 0 = some [] ∧ (u.store pfWin 6 0 []).1 = true
        ∧ tget none u.vims.ops 1 = some ⟨9, 2 ^ 191, 0⟩ ∧ tget none u.vims.ops 3 = some ⟨10, 2 ^ 127, 0⟩ ∧ isHost (vpArg (2 ^ 127)) = true
        ∧ (u.copyIn 2 0 (pages [])).1 = true) := by decide

theorem test_links :
    (let u := vimState 1
     u.boundVi 0 0 = some 0 ∧ u.linkVis 0 = [0] ∧ u.linkVis 4 = [] ∧ u.rb (linkReg 0) 31 = true ∧ u.rb (linkReg 0) 30 = false
      ∧ (u.wb (linkReg 4) 30 true).linkVis 4 = []) := by decide

/-- Hart 0 with its arguments, hull 5 in a state, and an entry for hull 5's window when one is asked for. -/
def hullWith (hart : HartSt) (st : Nat) (window : Bool) : State :=
  { worlds := { harts := [(0, hart)], hulls := [(5, { state := st, secure := true, base := 4096, size := 8192 })],
                entries := (if window then [(63, { en := true, hullHeld := true, hullSel := 1, hull := 5 })] else []) ++
                  [(64, { en := true, sRwx := 7, classes := 0xFF, limit := 2 ^ 30 - 1 })] } }

theorem test_hulls :
    (let u := hullWith { arg0 := 4096, arg1 := 8192, arg2 := 256, status := 5 } 1 false
     u.hartOf ⟨.hart 0, true⟩ = some 0 ∧ u.lastHull 0 = 5 ∧ (u.hull 5).state = 1 ∧ (u.hull 5).secure = !(u.hart 0).normal ∧ (u.hart 0).arg0 < (u.hull 5).size
      ∧ u.freeEntry 0 = some 63 ∧ ((List.range 64).find? fun k => (u.hull k).state == 0) = some 0)
    ∧ (let u := hullWith { arg0 := 5, arg1 := 1 } 2 false
       (u.hart 0).hull = none ∧ (u.hull 5).state = 2 ∧ u.hartsIn 5 = [])
    ∧ (let u := hullWith { arg0 := 63, arg1 := 4096, hull := some 5 } 2 true
       (u.hart 0).hull = some 5 ∧ 63 ∈ u.windowsOpen 5 ∧ u.freeEntry 0 = some 62 ∧ u.hartsIn 5 = [0])
    ∧ (let u := hullWith { arg0 := 4096, arg1 := 4096, hull := some 5 } 2 false
       u.windowStatus 0 = .ok ∧ (u.hart 0).arg0 + 240 ≤ (u.hull 5).size ∧ (u.hart 0).arg1 + 64 ≤ (u.hull 5).size)
    ∧ (hullWith {} 3 false).hull 5 = { state := 3, secure := true, base := 4096, size := 8192 } := by decide

/-- A hart may create a hull over a range that a software entry opens to it, and add a page to hull 5. -/
theorem test_hull_checks :
    (let u : State := { worlds := { harts := [(0, { arg0 := 4096, arg1 := 8192 })], entries := [(0, { en := true, sRwx := 7, classes := 0xFF, limit := 2 ^ 30 - 1 })] } }
     u.createHullStatus 0 4096 8192 0 = .ok) := by decide

theorem test_worlds :
    (let u := State.reset
     u.reqSecure ⟨.debug, true⟩ = true ∧ u.reqSecure ⟨.debug, false⟩ = false ∧ u.rb 0x00500004 0 = false ∧ u.rcStatus 3 63 (rcFields 0) = .ok
      ∧ u.rcStatus 0 63 (rcFields (4096 + 4095 * 2 ^ 64 + 2 ^ 255)) = .badParam ∧ 0 < u.row.appCores ∧ u.covered 1 = false ∧ 1 < u.row.unitCount
      ∧ (u.hart 0).normal = false)
    ∧ (let u : State := { worlds := { harts := [(0, { normal := true })], claims := [(1, { state := 2 })] } }
       (u.hart 0).normal = true ∧ u.covered 1 = true ∧ (tget {} u.worlds.claims 1).state = 2) := by decide

theorem test_power_domains :
    (let u := (State.reset.wf (domainReg 12 4) 31 29 2)
     let w := u.wr (domainReg 12 0) (3 * 2 ^ 30 + 10)
     pathWin (Req.mk .pf false).path = pfWin ∧ u.floor 12 ≤ 3 ∧ w.domainState 12 = 2 ∧ w.domainWant 12 = 3 ∧ w.raiseBar 12 = .ok)
    ∧ (let w := State.reset.wr (domainReg 12 0) (3 * 2 ^ 30 + 10)
       w.domainState 12 = 0 ∧ w.domainWant 12 = 3 ∧ w.raiseBar 12 = .ok ∧ tget 0 w.power.offRails (domainRail 12) = 0)
    ∧ (let w := (State.reset.wr (domainReg 12 0) (3 * 2 ^ 30 + 10)).wb (domainReg 12 4) 28 true
       w.domainState 12 < w.domainWant 12 ∧ w.raiseBar 12 = .throttled)
    ∧ (let w := (State.reset.wf (domainReg 12 4) 31 29 3).wr (domainReg 12 0) (2 ^ 30 + 10)
       0 < w.domainWant 12 ∧ w.domainWant 12 < w.domainState 12)
    ∧ (let w := (State.reset.wf (domainReg 12 4) 31 29 3).wr (domainReg 12 0) 10
       w.domainWant 12 = 0 ∧ 0 < w.domainState 12)
    ∧ (let u := (State.reset.wf (domainReg 19 0) 31 30 3).mWorlds fun w => { w with claims := [(0, { state := 1 })] }
       (0 : Nat) < u.floor 19 ∧ u.domainClaimed 19 ⟨.debug, false⟩ = true)
    ∧ (let u := (State.reset.wr (domainReg 12 0) (2 ^ 29 + 100)).wf (domainReg 12 4) 31 29 3
       u.rf (domainReg 12 0) 29 28 = 2 ∧ u.rf (domainReg 12 0) 19 0 = 100 ∧ max (u.floor 12) (max (u.domainWork 12) 1) < u.domainState 12)
    ∧ (let u := State.reset.mPower fun p => { p with waiting := [12, 3], raising := [⟨1, 0, 5, true, true⟩], lastRamp := none }
       nextRamp u.power.waiting = some 3 ∧ (u.power.raising.find? fun r => r.d == 1 && r.good) = some ⟨1, 0, 5, true, true⟩)
    ∧ State.reset.raiseBar 12 = .ok ∧ State.reset.domainState 12 < 2 ∧ State.reset.power.waiting = [] ∧ State.reset.power.lastRamp = none
    ∧ (let u := ({ power := { raising := [⟨12, 0, 5, false, true⟩] }, now := 20001 } : State)
       (u.power.raising.find? fun r => r.d == 12 && !r.good) = some ⟨12, 0, 5, false, true⟩ ∧ 0 + (2 * 5 + 10) * 1000 < u.now) := by decide

/-- Phase 0 belongs to VDD_CORE with a limit of 40 A and 100 °C, in a state; DISPLAY is ON at 750 mV. -/
def phaseIn (st : Nat) : State :=
  ((((State.reset.wr (phaseReg 0 0) (2 ^ 31 + 100 * 256 + 40)).wf (phaseReg 0 4) 31 29 st).wf (oppReg 14 0 0) 31 16 750).wf (domainReg 14 4) 31 29 3).wf (domainReg 14 0xC) 26 24 0

theorem test_regulators :
    (let u := phaseIn 1
     u.railPhases 0 = [0] ∧ u.phase 0 = 1 ∧ u.rb (phaseReg 0 0) 31 = true ∧ u.rf (phaseReg 0 0) 15 8 = 100 ∧ (phaseIn 3).phase 0 = 3)
    ∧ (let u := phaseIn 2
       (u.railPhases 0).countP (fun p => u.phase p == 2) = 1 ∧ 0 < u.railTarget 0 ∧ u.rb (railReg 0 8) 31 = false ∧ u.power.stretched = [])
    ∧ ((phaseIn 5).wb (railReg 0 8) 31 true).rb (railReg 0 8) 31 = true ∧ (phaseIn 5).phase 0 = 5
    ∧ State.reset.reqSecure ⟨.debug, true⟩ = true ∧ State.reset.reqSecure ⟨.debug, false⟩ = false ∧ pathWin Path.debug = pfWin := by decide

theorem test_temperature :
    State.reset.power.critical = false
    ∧ (let u := ({ power := { cool := [(12, 1)], trips := [(12, 1)], critical := true, critCool := some 0 }, now := 2000000000 } : State).wb (domainReg 12 4) 28 true
       u.rb (domainReg 12 4) 28 = true ∧ tget 0 u.power.cool 12 = 1 ∧ tget 0 u.power.trips 12 = 1 ∧ 1 - 1 + 100000000 ≤ u.now ∧ u.power.critCool = some 0
        ∧ ((u.tripUnits 12).filter fun k => u.covered k) = [])
    ∧ (let u := ({ power := { temps := [(0, some 48000)] } } : State)
       (u.allTemps.find? fun y => (u.tLimit + u.rf 0x0010002C 11 7) * 256 ≤ y.2) = some (0, 48000))
    ∧ (State.reset.allTemps.find? fun y => (State.reset.tLimit + State.reset.rf 0x0010002C 11 7) * 256 ≤ y.2) = none
    ∧ (State.reset.tLimit + 20) * 256 ≤ 48000 := by decide

/-- A covered unit, alone, of a domain that has tripped. -/
theorem test_claim_lost :
    (let u := ({ worlds := { claims := [(1, { state := 1 })] } } : State)
     ((u.tripUnits 5).filter fun k => u.covered k) = [1]) := by decide

theorem test_clocks_and_sleep :
    (let u := ((State.reset.wb 0x00100028 31 true).wb 0x00100028 30 true)
     u.reqSecure ⟨.debug, true⟩ = true ∧ u.reqSecure ⟨.debug, false⟩ = false ∧ u.rb 0x00100028 31 = true ∧ u.rb 0x00100028 30 = true ∧ pathWin Path.debug = pfWin)
    ∧ (let u := ({ now := 1000000000 } : State)
       u.power.slowTold = false ∧ u.power.goodAt + 1000000000 ≤ u.now)
    ∧ (let u := (State.reset.wf 0x00100014 2 0 7).wb 0x00100028 29 true
       u.rf 0x00100014 2 0 ≠ 0 ∧ u.rb 0x00100028 29 = true ∧ u.power.sleep = 0 ∧ u.pipesOn 0 16 = false ∧ ((List.range u.row.vis).any fun w => u.viState w == 1) = false
        ∧ u.rb 0x00100014 1 = true ∧ u.rb 0x00100014 2 = true ∧ u.rd64 0x00100018 ≤ u.now)
    ∧ (let u := State.reset.mWorlds fun w => { w with claims := [(1, { state := 1 })] }
       (!u.reqSecure ⟨.debug, false⟩ && u.worlds.claims.any fun c => c.2.state != 0) = true)
    ∧ (State.reset.wf (viReg 3 0) 31 28 1).viState 3 = 1 ∧ 3 < State.reset.row.vis
    ∧ State.reset.now < (State.reset.wr64 0x00100018 5).rd64 0x00100018 := by decide

theorem test_start_and_supplies :
    State.reset.domainState 1 < 2 ∧ State.reset.power.pwrgood = false ∧ State.reset.power.safeLow = false ∧ State.reset.power.aonLow = false
    ∧ ({ power := { pwrgood := true, safeLow := true, aonLow := true } } : State).power.pwrgood = true
    ∧ (let u := (({ start := { step := 33 } } : State).tick 0).startGo
       u.start.list = [] ∧ u.start.step = 33)
    ∧ (let u : State := { start := { step := 5 }, now := 2000000000 }
       u.rb 0x00200000 25 = false ∧ u.start.since + 2000000000 ≤ u.now ∧ u.start.returning = false ∧ u.activeSlot = none ∧ (u.wf 0x00200000 27 26 2).activeSlot = some 1) := by decide

/-- Both Husks run, and the start has reached its first phase. -/
def husksRun : State := ((State.reset.wf 0x00300000 31 29 0).wf 0x00300000 28 26 0).phaseTo 4

theorem test_supervision :
    (let u := husksRun
     u.huskState 0 = 0 ∧ u.huskState 1 = 0 ∧ u.husk.degraded = false ∧ u.watched = true ∧ u.excused 0 = false ∧ u.huskUp = true ∧ u.mgrDown = false
      ∧ u.unitIndex 0x10 0 = some 1 ∧ (u.unit 5).health = 0 ∧ 5 < u.row.unitCount ∧ tget [] u.husk.restarts (u.huskUnit 0) = [])
    ∧ (let u := husksRun.mHusk fun h => { h with missA := 4 }
       (u.huskLost 0 && u.huskLost 1) = false ∧ 4 ≤ u.missed 0)
    ∧ (let u := husksRun.mHusk fun h => { h with missA := 5, missB := 5 }
       u.huskLost 0 = true ∧ u.huskLost 1 = true)
    ∧ (let u := (husksRun.mUnit 1 fun x => { x with health := 2, slotActive := 1 }).mUnit 40 fun x => { x with health := 2 }
       (u.unit 1).health = 2 ∧ u.unitAt 1 = some (0x10, 0) ∧ (u.unitAt 40).isSome = true ∧ u.rb (domainReg (u.unitDom 1) 4) 26 = false
        ∧ tget 0 u.power.offRails (domainRail (u.unitDom 1)) = 0 ∧ (u.unit 1).slotActive ≠ 0 ∧ (u.inWin (tget [] u.husk.restarts 1)).length < u.restartMax)
    ∧ (let u := husksRun.mHusk fun h => { h with restarts := [(1, [1, 1, 1, 1, 1, 1, 1, 1, 1, 1, 1, 1, 1, 1, 1])] }
       u.restartMax ≤ (u.inWin (tget [] u.husk.restarts 1)).length)
    ∧ (let u : State := { husk := { degraded := true, retryAt := some 0 } }
       u.husk.retryAt = some 0 ∧ u.husk.degraded = true ∧ 0 ≤ u.now) := by decide

theorem test_domain_and_pip_recovery :
    (let u := ({ power := { domFaults := [(12, [0])], railFaults := [(0, [0])] }, now := 100000000 } : State)
     let v := (((u.wf 0x00300000 31 29 0).wb (domainReg 12 4) 26 true).wb (railReg 0 8) 31 true)
     tget [] v.power.domFaults 12 = [0] ∧ tget [] v.power.railFaults 0 = [0] ∧ v.huskUp = true ∧ v.rb (domainReg 12 4) 26 = true ∧ v.rb (railReg 0 8) 31 = true
      ∧ 0 + 100000000 ≤ v.now)
    ∧ (let u : State := { husk := { degraded := true, reload := true, pipLost := [0] } }
       u.husk.degraded = true ∧ u.husk.reload = true ∧ (u.husk.pipLost.any fun t => decide (u.now < t + 60000000000)) = true) := by decide

/-- A slot is active, and a START_CMD may run. -/
def slotIsActive (d : StartSt) (now : Nat) : State := ({ start := d, now := now } : State).wf 0x00200000 27 26 1

theorem test_start_commands :
    (let u := slotIsActive { psetDue := some 0, recDue := some 0 } 3600000000000
     u.activeSlot ≠ none ∧ u.reqSecure ⟨.debug, true⟩ = true ∧ u.reqSecure ⟨.debug, false⟩ = false ∧ u.rf 0x00200000 31 28 ≠ 5 ∧ u.rb 0x00200024 0 = false
      ∧ u.husk.degraded = false ∧ u.start.writes = [] ∧ u.start.writing = none ∧ u.start.nvm = none ∧ u.rb 0x00200030 31 = false
      ∧ 0 + max 10 (min 3600 (u.rf 0x00200050 11 0)) * 1000000000 ≤ u.now)
    ∧ (State.reset.wb 0x00200024 0 true).rb 0x00200024 0 = true ∧ State.reset.activeSlot = none
    ∧ (slotIsActive { shutdown := some 0 } 0).start.shutdown ≠ none ∧ (slotIsActive { writing := some 2 } 0).start.writing = some 2 := by decide

theorem test_write_place : (slotIsActive { writing := some 2 } 0).writePlace 2 = none := by decide

theorem test_flash_commands :
    (let u := ((State.reset.wb 0x00200030 31 true).wf 0x00200000 27 26 1)
     pathWin Path.debug = pfWin ∧ u.rb 0x00200030 31 = true ∧ u.activeSlot ≠ none ∧ u.husk.degraded = false ∧ u.start.writes = [])
    ∧ (let u := ((State.reset.wb 0x00200030 31 true).wf 0x00200000 31 28 5)
       u.nvmRange ⟨1, 0, 0, 1⟩ = (0, 65536) ∧ 0 + 65536 ≤ u.flashSize ∧ (u.rf 0x00200000 31 28 == 5) = true ∧ u.rd 0x00200038 % 4096 = 0)
    ∧ (let u : State := { start := { nvm := some ⟨3, 0, 2 ^ 63, 16⟩ } }
       u.start.nvm = some ⟨3, 0, 2 ^ 63, 16⟩ ∧ u.nvmRange ⟨3, 0, 2 ^ 63, 16⟩ = (0, 16) ∧ u.flashRead 0 16 = some (List.replicate 16 0xFF)
        ∧ (u.store pfWin 6 (2 ^ 63) (List.replicate 16 0xFF)).1 = true)
    ∧ (State.reset.fetch pfWin 6 (2 ^ 63) 4 (some [1, 2, 3, 4])).1 = some [1, 2, 3, 4] ∧ (State.reset.fetch pfWin 6 (2 ^ 63) 4 none).1 = none
    ∧ (let u := State.reset.mStart fun t => { t with flashBad := [(0, 16)] }
       u.flashRead 0 16 = none) := by decide

/-- A kept range: the areas of a slot, or the signed part of the active one. -/
theorem test_kept_range :
    (let u := State.reset.wf 0x00200000 27 26 1
     (u.nvmKept.any fun k => overlap 0 65536 k.1 k.2) = true ∧ (u.rf 0x00200000 31 28 == 5) = false) := by decide

/-- Pipe 0 runs, pipe 15 is a spare, and MOVE names them. -/
def spareReady (at_ : Nat) (moving : Bool) : State :=
  let s := ((State.reset.wf (pipeReg 0 4) 2 0 2).wf (pipeReg 15 0x18) 3 1 1).wf 0x00200110 11 0 ((State.reset.unitIndex 0x20 0).getD 0)
  let k := (State.reset.unitIndex 0x20 15).getD 0
  let s := s.mUnit k fun x => { x with spare := true, health := 5 }
  { (if moving then (s.mStart fun t => { t with upd := some { op := 4, index := k } }).mPipe 15 fun x => { x with spareOf := some 0 } else s) with now := at_ }

theorem test_updates :
    (let u := State.reset
     pathWin Path.debug = pfWin ∧ u.reqSecure ⟨.debug, true⟩ = true ∧ u.reqSecure ⟨.debug, false⟩ = false ∧ u.updUnits 1 = [1, 2, 3, 4] ∧ (u.updUnits 1).any u.safeUnit = false
      ∧ (u.updUnits (u.huskUnit 0)).any u.safeUnit = true ∧ (∀ x ∈ 1 :: u.updUnits 1, u.claimBlocks x true = false) ∧ u.rd64 0x00200100 % 64 = 0 ∧ u.start.upd = none ∧ u.noWork = false)
    ∧ (let u : State := { start := { upd := some { op := 1, addr := 2 ^ 63, len := 64 } } }
       (u.fetch pfWin 6 (2 ^ 63) 64 none).1 = none ∧ u.start.upd ≠ none)
    ∧ (let u := (State.reset.mUnit 1 fun x => { x with slotActive := 1, verA := 1, verB := 2 }).mStart fun t => { t with ran := [(1, 2)] }
       (u.unit 1).otherSlot = 2 ∧ (u.unit 1).slotVer 2 = 2 ∧ u.partnerOk 1 = true ∧ tget 0 u.start.ran 1 = 2)
    ∧ (let u : State := { start := { upd := some { op := 2, index := 1, slot := 2 } }, now := 2000000 }
       u.pauseMax 1 = 2000 ∧ u.handPoint 1 = true ∧ 0 + u.pauseMax 1 * 1000 ≤ u.now) := by decide

theorem test_move :
    (let u := spareReady 0 false
     let k := (u.unitIndex 0x20 15).getD 0
     let v := u.rf 0x00200110 11 0
     let c := u.spareCfg 15 (u.pipe 0).cfg
     u.unitAt k = some (0x20, 15) ∧ u.unitAt v = some (0x20, 0) ∧ u.claimBlocks k true = false ∧ u.claimBlocks v true = false ∧ (u.unit k).spare = true ∧ u.pipeState 15 = 0
      ∧ u.noWork = false ∧ (u.pipe 15).checks = 0 ∧ u.pipeState 0 = 2 ∧ (u.pipe 0).next = none ∧ u.start.upd = none
      ∧ ((List.range 16).all fun i => !(i != 15 && u.pipeState i != 0 && (u.pipe i).cfg.pll == c.pll && (u.pipe i).cfg.pllOut == c.pllOut)) = true
      ∧ u.bwFits 0 (u.rf (bwKey 0 0) 15 0 + u.rf (bwKey 0 1) 15 0 + scanoutNeed (c.pixelHz 0) c.bpp) = true
      ∧ (u.placeStore 0 (storeChunks c.hActive c.vActive c.bpp) c.buffers).isSome = true)
    ∧ (let u := spareReady 1000000000 true
       (u.moving.map fun x => (x.1, x.2.1)) = some (0, 15) ∧ (u.pipe 0).moveTo = none ∧ u.pipeState 0 = 2) := by decide

/-- Port 0 in a state, enabled. -/
def portIn (st : Nat) : State := (State.reset.wf (icvPort 0 4) 31 29 st).wf (icvPort 0 0) 31 28 14

theorem test_icvik_ports :
    (let u := portIn 1
     0 < u.row.icvikPorts ∧ u.rb 0x0500000C 0 = false ∧ u.claimedFor 0x82 0 ⟨.debug, true⟩ = false ∧ u.rb (icvPort 0 0) 31 = true ∧ u.icvState 0 = 1
      ∧ State.reset.rb (icvPort 0 0) 31 = false)
    ∧ (let u := (portIn 2).mWorlds fun w => { w with claims := [(0, { state := 1 })] }
       u.claimedFor 0x82 0 ⟨.debug, false⟩ = true)
    ∧ (let u := ({ portIn 2 with now := 4000 } : State)
       u.icvUp 0 = true ∧ (u.icv 0).heardAt + 4000 ≤ u.now ∧ u.icvState 0 ≠ 3 ∧ (portIn 0).icvUp 0 = false)
    ∧ (let u := (portIn 2).mNode 7 fun x => { x with info := { x.info with state := 1 } }
       u.nodeClash 9 0 = false ∧ u.nodeClash 7 0 = true ∧ (u.node 7).info.state = 1 ∧ u.nodeClash u.myNode 0 = true ∧ u.joined = [7])
    ∧ (let u := ({ net := { nodes := [(7, { info := ⟨1, 0, 0, 0, 0, 0, 0⟩ }), (8, { info := ⟨2, 0, 0, 0, 0, 5, 6⟩ })] }, now := 10000000 } : State)
       (u.node 7).info.state = 1 ∧ (u.node 7).beatAt + 10000000 ≤ u.now ∧ (u.node 8).info.state ≠ 1) := by decide

theorem test_icvik_time :
    (let u := portIn 3
     u.icvUp 0 = true ∧ u.timeParent = none ∧ u.rootNode = some u.myNode ∧ (portIn 0).icvUp 0 = false)
    ∧ (let u := (((portIn 3).mNode 0 fun x => { x with info := { x.info with state := 1 } }).mNet fun n => { n with edges := [⟨5, 0, 0, 0⟩] }).wf 0x05000004 11 0 5
       u.myNode = 5 ∧ u.rootNode = some 0)
    ∧ (let u := State.reset.wr64 (podRef 0 0x10) 10000000
       u.now + 10000000 ≤ u.rd64 (podRef 0 0x10) ∧ State.reset.rd64 (podRef 0 0x10) < State.reset.now + 10000000)
    ∧ (let u : State := { net := { refs := [(0, some (1, 2, 0))] } }
       tget none u.net.refs 0 = some (1, 2, 0) ∧ 0 ≤ u.now) := by decide

/-- Import 3 in a state, from node 7, which has joined. -/
def importIn (st : Nat) (en : Bool) : State :=
  (((State.reset.wf (impReg 3 0x14) 31 29 st).wb (impReg 3 0x10) 31 en).wr64 (impReg 3 0) (7 * 2 ^ 32)).mNode 7 fun x => { x with info := { x.info with state := 1 } }

theorem test_imports :
    (let u := importIn 1 true
     u.impState 3 = 1 ∧ u.rb (impReg 3 0x10) 31 = true ∧ (5 : Nat) &&& 0x0FFFFFFF ≠ u.rd (impReg 3 0x10) &&& 0x0FFFFFFF ∧ (importIn 0 false).rb (impReg 3 0x10) 31 = false
      ∧ bits (u.rd64 (impReg 3 0)) 63 44 = 0 ∧ (u.node (u.impNode 3)).info.state = 1 ∧ u.rd64 (impReg 3 8) % 2 ^ 21 = 0
      ∧ u.rangeMapped (u.impWin 3) 0 1 = false)
    ∧ ((importIn 1 true).wr64 (impReg 3 8) 5).rd64 (impReg 3 8) % 2 ^ 21 ≠ 0
    ∧ (let u := ((importIn 2 true).mImp 3 fun t => { t with chunks := 1, noRoute := some 0 })
       u.impState 3 = 2 ∧ (u.imp 3).noRoute = some 0 ∧ 0 + 4 ≤ (u.imp 3).chunks * 2 ^ 21)
    ∧ (let u := (((State.reset.wb (expReg 0 4) 31 true).wf (expReg 0 4) 11 0 7).wr (expReg 0 0) (Handle.mk kMem 0 0).word)
       let u := (u.mPods fun p => { p with chans := tset {} p.chans (chanKey kMem 0) ⟨.live, pfWin⟩ }).mSeed fun m => { m with chans := tset {} m.chans 0 { count := 1 } }
       let h := handleOf (u.rd (expReg 0 0))
       u.rb (expReg 0 4) 31 = true ∧ u.rf (expReg 0 4) 11 0 = 7 ∧ h.kind = kMem ∧ h.gen = u.gen h.kind h.index ∧ (u.chan h.kind h.index).phase = .live
        ∧ 0 + 4 ≤ (tget {} u.seed.chans h.index).count * 2 ^ 21) := by decide

theorem test_messages :
    (let u := portIn 3
     u.icvUp 0 = true ∧ u.rb 0x0500003C 0 = false ∧ u.reqSecure ⟨.debug, false⟩ = false ∧ u.rb (icvPort 0 0) 30 = true ∧ ((u.wb (icvPort 0 0) 30 false).rb (icvPort 0 0) 30) = false)
    ∧ (State.reset.wb 0x0500003C 0 true).rb 0x0500003C 0 = true
    ∧ (let u : State := { net := { racc := some (0, false), outs := [⟨1, 7, .ack 0, 0, 0⟩, ⟨2, 7, .importReq 3 0 0, 3, 0⟩] }, now := 5000000 }
       u.net.racc = some (0, false) ∧ (u.net.outs.find? fun o => o.tag == 1) = some ⟨1, 7, .ack 0, 0, 0⟩ ∧ (u.net.outs.find? fun o => o.tag == 2) = some ⟨2, 7, .importReq 3 0 0, 3, 0⟩
        ∧ 0 + 1000000 ≤ u.now)
    ∧ (let u := ((portIn 3).mNode 0 fun x => { x with info := { x.info with state := 1 } }).wf 0x05000004 11 0 5
       u.rootNode = some 0 ∧ u.icvUp 0 = true) := by decide

/-- MAC 0 enabled with its link, its gPTP engine and a ring. -/
def macUp : State := (((State.reset.wf (tsnReg 0 4) 31 28 12).wf (tsnReg 0 8) 31 28 12).wb (tsnReg 0 0x34) 31 true).wr (tsnCtrl 0 true) (2 ^ 31 + 4)

theorem test_tsn :
    (let u := macUp
     u.claimedFor 0x81 0 ⟨.debug, true⟩ = false ∧ u.rb (tsnReg 0 4) 31 = true ∧ u.rb (tsnReg 0 8) 31 = true ∧ u.rb (tsnReg 0 0x34) 31 = true ∧ u.rb (tsnReg 0 0x38) 28 = false
      ∧ u.rb (tsnCtrl 0 true) 31 = true ∧ u.rf (tsnCtrl 0 true) 3 0 = 4 ∧ u.rb (tsnCtrl 0 false) 31 = false ∧ u.rd64 (tsnBase 0 false) % 4096 = 0 ∧ u.rb (tsnReg 0 0x84) 31 = false)
    ∧ (State.reset.mWorlds fun w => { w with claims := [(0, { state := 1 })] }).claimedFor 0x81 0 ⟨.debug, false⟩ = true
    ∧ (let u := macUp.mMac 0 fun t => { t with gptp := [[1, 2]], gates := 0xFF }
       u.txPick 0 [7, 6, 5, 4, 3, 2, 1, 0] [] = (some (7, .gptp [1, 2]), []))
    ∧ (macUp.txPick 0 [7, 6, 5, 4, 3, 2, 1, 0] []).1 = none
    ∧ (leNat ([0, 0, 0, 0] : Bytes) == crc32 []) = true ∧ (leNat ([1, 0, 0, 0] : Bytes) == crc32 []) = false ∧ etherType [] ≠ 0x88F7
    ∧ etherType ([0, 0, 0, 0, 0, 0, 0, 0, 0, 0, 0, 0, 0x88, 0xF7] : Bytes) = 0x88F7
    ∧ (let u := ((State.reset.wf (tsnReg 0 0x20) 6 0 1).wr (tsnReg 0 0x30) 1000).wr (tsnReg 0 0x400) 100
       u.rf (tsnReg 0 0x20) 6 0 = 1 ∧ u.rd (tsnReg 0 0x30) = 1000 ∧ bits (u.rd (tsnReg 0 (0x400 + 0 * 4))) 23 0 = 100 ∧ u.rb (tsnReg 0 0x20) 30 = false)
    ∧ (let u := macUp.mMac 0 fun t => { t with next := some ⟨[100], 1000, 0⟩, oper := some ⟨[100], 1000, 0⟩ }
       (u.mac 0).next = some ⟨[100], 1000, 0⟩ ∧ 0 ≤ u.gptp 0 ∧ (u.mac 0).oper = some ⟨[100], 1000, 0⟩)
    ∧ (let u : State := { (macUp.mMac 0 fun t => { t with txOwed := true, txEvt := 1 }) with now := 10000 }
       (u.mac 0).txOwed = true ∧ (u.mac 0).rxOwed = !true ∧ (u.mac 0).txEvt - 1 + 10000 ≤ u.now ∧ (u.mac 0).txEvt ≠ 0)
    ∧ (State.reset.wb (tsnReg 0 0x84) 31 true).rb (tsnReg 0 0x84) 31 = true := by decide

theorem test_recorder :
    (let u : State := { recs := { slots := [(3, { staged := [(5, 0)] })] }, now := 7000000 }
     (u.recSlot 3).staged ≠ [] ∧ (u.recSlot 3).applied ≠ u.now / 1000000 + 1 ∧ u.winDead pfWin = false ∧ pathWin Path.debug = pfWin)
    ∧ State.reset.reqSecure ⟨.debug, true⟩ = true ∧ State.reset.reqSecure ⟨.debug, false⟩ = false ∧ State.reset.rb 0x03E00004 0 = false
    ∧ State.reset.rd64 (recCfg 0) ≠ 2048 / 1024 * 1024 ∧ State.reset.cntClaimed 0 ⟨.debug, true⟩ = false
    ∧ (State.reset.mWorlds fun w => { w with claims := [(0, { state := 1 })] }).cntClaimed 0 ⟨.debug, false⟩ = true
    ∧ (let u := State.reset.wr64 (cntReg 0 0) (2 ^ 64 - 1)
       2 ^ 64 ≤ u.rd64 (cntReg 0 0) + 1 ∧ u.rb (cntReg 0 8) 29 = false)
    ∧ (let u := (State.reset.mRecs fun r => { r with sels := [(0, 2)] }).wr (smpReg 0 0) (2 ^ 31 + 4 * 2 ^ 24 + 6 * 2 ^ 16)
       u.rb (smpReg 0 0) 31 = true ∧ tget 0 u.recs.sels (0 * 64 + 0) ≠ 0
        ∧ (u.store pfWin 6 (2 ^ 63) (leBytes 5 64)).1 = true ∧ (u.store pfWin 6 0 (leBytes 5 64)).1 = false) := by decide

/-- A word with RC fields. -/
theorem test_debug_reads :
    ((keyRow 0x0060003C).map fun x => halfOf x.2 x.1.rc) = some 0xFFFFFFFF ∧ ¬ (0x04010000 ≤ 0x0060003C ∧ 0x0060003C < 0x04020000 ∧ 0x0060003C % 0x10 = 0) := by decide

/-- A VI with two reflex indices, both freed before: the one freed first is allocated. -/
theorem test_oldest_free_index :
    (let u := ((State.reset.wr (grantReg 3 kReflex 0) 5).wr (grantReg 3 kReflex 4) 2).mPods fun p =>
        { p with freed := [(chanKey kReflex 5, 9), (chanKey kReflex 6, 4)], freeSeq := 9 }
     u.pickIndex 3 kReflex = some 6 ∧ u.inRange 3 kReflex 5 = true ∧ u.inRange 3 kReflex 6 = true ∧ u.inRange 3 kReflex 7 = false
      ∧ (∀ c ∈ u.pods.freed, 0 < c.2 ∧ c.2 ≤ u.pods.freeSeq)) := by decide

/-- Slot 3 takes 100 with OFFSET 0 and SHIFT 1: linear bin 50, logarithmic bin 6. -/
theorem test_bins :
    (let u := (({ recs := { slots := [(3, { staged := [(100, 0)] })] }, now := 7000000 } : State).wr (recCfg 3) (2 ^ 10))
     (u.recSlot 3).staged = [(100, 0)] ∧ (u.recSlot 3).applied ≠ u.now / 1000000 + 1 ∧ bits (u.rd64 (recCfg 3)) 14 10 = 1 ∧ sext 32 (bits (u.rd64 (recCfg 3)) 63 32) = 0
      ∧ bit (u.rd64 (recCfg 3)) 15 = false ∧ (50 : Int) * 2 ^ 1 ≤ 100 - 0 ∧ (100 : Int) - 0 < (50 + 1) * 2 ^ 1 ∧ ((50 : Nat) : Int) = max 0 (min 63 50) ∧ 2 ^ 5 ≤ 50 ∧ 50 < 2 ^ (5 + 1) ∧ 6 = min 63 (5 + 1)
      ∧ recBin (u.rd64 (recCfg 3)) 100 = 50 ∧ recBin (u.rd64 (recCfg 3) + 2 ^ 15) 100 = 6 ∧ recBin (u.rd64 (recCfg 3) + 2 ^ 15) (-4) = 0) := by decide

end Sys2Proof.Tests
end

section
/-!
PROOFS. Scope, steps and runs: what a step does with the queue, and that every command answers a next state.
-/
namespace Sys2Proof.Machine

/-- The outcome is a next state: no fault and no refusal. -/
def Answers (o : Host.Outcome State Fault Refusal) : Prop := ∃ t : State, o = .next t

theorem Answers.next (t : State) : Answers (.next t) := ⟨t, rfl⟩

/-- A descriptor of a queue starts, or the queue faults; the device goes on either way (R326). -/
theorem qDo_answers (s : State) (q op : Nat) (hosts : List HostRun) (more : Nat → State → List (Bool × Status)) (act : Nat → State → State) :
    Answers (s.qDo q op hosts more act) := by
  fun_cases State.qDo <;> exact .next _

theorem qDoRead_answers (s : State) (q op : Nat) (hosts : List HostRun) (addr len : Nat → Nat) (pre : Nat → State → List (Bool × Status))
    (post : Nat → Nat → State → List (Bool × Status)) (act : Nat → Nat → State → State) :
    Answers (s.qDoRead q op hosts addr len pre post act) := by
  fun_cases State.qDoRead <;> exact .next _

theorem qQuery_answers (s : State) (q kind align : Nat) (hosts : List HostRun) (more : State → List (Bool × Status)) (act : State → State) :
    Answers (s.qQuery q kind align hosts more act) := by
  fun_cases State.qQuery <;> [exact qDo_answers ..; exact .next _; exact .next _]

theorem xlateOp_answers (s : State) (w : Nat) (token : Word) (ops : List Nat) : Answers (s.xlateOp w token ops) := by
  fun_cases State.xlateOp <;> exact .next _

theorem execStartFull_answers (dt : Nat) (s : State) : Answers (execStartFull dt s) := by
  unfold execStartFull
  extract_lets
  split <;> exact .next _

theorem execNvmCmdDone_answers (dt : Nat) (ok : Bool) (hosts : List HostRun) (s : State) : Answers (execNvmCmdDone dt ok hosts s) := by
  unfold execNvmCmdDone
  extract_lets
  split
  · exact .next _
  · split
    split
    exact .next _

/-- Every command answers a next state: every branch of its meaning ends in one. -/
theorem exec_answers (c : Instr) (s : State) : Answers (exec c s) := by
  cases c <;> dsimp only [exec]
  case registerWrite | registerReadClear | readLowWord | writeHighWord | bwWindow | latchPoint | budgetTick | safeBudgeting | createVi |
      destroyVi | grant | resetVi | freeze | thaw | save | restore | copyOut | copyIn | dirtyCtrl | dirtyHarvest | vfEnableCleared |
      busMasterEnableChange | pcieLinkDown | claimTake | claimRelease | claimRearm | domainRampStart | domainPowerGood | domainOn |
      referenceOk | wakePin | wakeTime | vddSafeLoss | confirm | shutdown | psetFlush | startCmdRestart | clearMarks | nvmErase | nvmProgram
      | nvmRead | activate | revert | pipListCommit | timeFlitSend | beat | routeUpdate | raccRead | raccWrite | tsnLink | tsnTxrDoorbell |
      tsnRxrDoorbell | counterWrap | tdmClkReturn | ppsPulse | vddAonLoss =>
    exact .next _
  case passEnd | bindIndex | bindVertex | push | setViewport | setScissor | draw | drawIndexed | dispatch | copy | barrier | fenceWait |
      fenceSignal | deadline =>
    exact qDo_answers ..
  case bindPipeline | bindResources | clear | resolve =>
    exact qDoRead_answers ..
  case timestamp | occlusionBegin | occlusionEnd | passInfo =>
    exact qQuery_answers ..
  case translate | evict | publish =>
    exact xlateOp_answers ..
  case passBegin => fun_cases execPassBegin <;> [exact .next _; exact qDoRead_answers ..]
  case drawIndirect => fun_cases execDrawIndirect <;> [exact .next _; exact qDoRead_answers ..]
  case dispatchIndirect => fun_cases execDispatchIndirect <;> [exact .next _; exact qDoRead_answers ..]
  case startFull => exact execStartFull_answers ..
  case nvmCmdDone => exact execNvmCmdDone_answers ..
  case uifPowerReq => fun_cases execUifPowerReq <;> exact .next _
  case uifPowerDone => fun_cases execUifPowerDone <;> exact .next _
  case uifResetGo => fun_cases execUifResetGo <;> exact .next _
  case uifResetDone => fun_cases execUifResetDone <;> exact .next _
  case directoryChange => fun_cases execDirectoryChange <;> exact .next _
  case ringEnable => fun_cases execRingEnable <;> exact .next _
  case ringDisable => fun_cases execRingDisable <;> exact .next _
  case ringDoorbell => fun_cases execRingDoorbell <;> exact .next _
  case ringEntryFetch => fun_cases execRingEntryFetch <;> exact .next _
  case createLayer => fun_cases execCreateLayer <;> exact .next _
  case createRenderQueue => fun_cases execCreateRenderQueue <;> exact .next _
  case createComputeQueue => fun_cases execCreateComputeQueue <;> exact .next _
  case createAudioStreamIn => fun_cases execCreateAudioStreamIn <;> exact .next _
  case createAudioStreamOut => fun_cases execCreateAudioStreamOut <;> exact .next _
  case streamCreateSwapIdle => fun_cases execStreamCreateSwapIdle <;> exact .next _
  case createTouchZone => fun_cases execCreateTouchZone <;> exact .next _
  case createHapticEffectSlot => fun_cases execCreateHapticEffectSlot <;> exact .next _
  case createCheckContext => fun_cases execCreateCheckContext <;> exact .next _
  case createFence => fun_cases execCreateFence <;> exact .next _
  case createMemoryChunk => fun_cases execCreateMemoryChunk <;> exact .next _
  case chunkZeroDone => fun_cases execChunkZeroDone <;> exact .next _
  case createReflexBinding => fun_cases execCreateReflexBinding <;> exact .next _
  case createWritebackTarget => fun_cases execCreateWritebackTarget <;> exact .next _
  case destroy => fun_cases execDestroy <;> exact .next _
  case destroyDrainDone => fun_cases execDestroyDrainDone <;> exact .next _
  case chunkUnmapDrainDone => fun_cases execChunkUnmapDrainDone <;> exact .next _
  case bindRing => fun_cases execBindRing <;> exact .next _
  case unbindRing => fun_cases execUnbindRing <;> exact .next _
  case query => fun_cases execQuery <;> exact .next _
  case evrEnable => fun_cases execEvrEnable <;> exact .next _
  case evrHeadWrite => fun_cases execEvrHeadWrite <;> exact .next _
  case evrIrqTimer => fun_cases execEvrIrqTimer <;> exact .next _
  case scrubChunk => fun_cases execScrubChunk <;> exact .next _
  case pageRetired => fun_cases execPageRetired <;> exact .next _
  case lpddrDriftTrack => fun_cases execLpddrDriftTrack <;> exact .next _
  case memBwClassWrite => fun_cases execMemBwClassWrite <;> exact .next _
  case layerTableWrite => fun_cases execLayerTableWrite <;> exact .next _
  case layerPipeBgWrite => fun_cases execLayerPipeBgWrite <;> exact .next _
  case commitToken => fun_cases execCommitToken <;> exact .next _
  case commitCheckDone => fun_cases execCommitCheckDone <;> exact .next _
  case lineStart => fun_cases execLineStart <;> exact .next _
  case lineZero => fun_cases execLineZero <;> exact .next _
  case composeStart => fun_cases execComposeStart <;> exact .next _
  case compositionDone => fun_cases execCompositionDone <;> exact .next _
  case wbFrameWritten => fun_cases execWbFrameWritten <;> exact .next _
  case lastActivePixel => fun_cases execLastActivePixel <;> exact .next _
  case layerFault => fun_cases execLayerFault <;> exact .next _
  case underrun => fun_cases execUnderrun <;> exact .next _
  case pipeEnable => fun_cases execPipeEnable <;> exact .next _
  case pipeReconfig => fun_cases execPipeReconfig <;> exact .next _
  case pipeDisable => fun_cases execPipeDisable <;> exact .next _
  case pipeChecksDone => fun_cases execPipeChecksDone <;> exact .next _
  case pllLocked => fun_cases execPllLocked <;> exact .next _
  case pipeStopped => fun_cases execPipeStopped <;> exact .next _
  case pipeLutWrite => fun_cases execPipeLutWrite <;> exact .next _
  case pllWrite => fun_cases execPllWrite <;> exact .next _
  case dscCfgWrite => fun_cases execDscCfgWrite <;> exact .next _
  case hpdPlug => fun_cases execHpdPlug <;> exact .next _
  case hpdUnplug => fun_cases execHpdUnplug <;> exact .next _
  case irqHpd => fun_cases execIrqHpd <;> exact .next _
  case dpRetrain => fun_cases execDpRetrain <;> exact .next _
  case linkTrained => fun_cases execLinkTrained <;> exact .next _
  case dpAuxCmd => fun_cases execDpAuxCmd <;> exact .next _
  case auxTransactionDone => fun_cases execAuxTransactionDone <;> exact .next _
  case dsiCmd => fun_cases execDsiCmd <;> exact .next _
  case dsiCmdDone => fun_cases execDsiCmdDone <;> exact .next _
  case chkWrite => fun_cases execChkWrite <;> exact .next _
  case frameMissing => fun_cases execFrameMissing <;> exact .next _
  case dcuData => fun_cases execDcuData <;> exact .next _
  case dcuData8 => fun_cases execDcuData8 <;> exact .next _
  case dcuRestart => fun_cases execDcuRestart <;> exact .next _
  case dcuValueWrite => fun_cases execDcuValueWrite <;> exact .next _
  case dcuCfgWrite => fun_cases execDcuCfgWrite <;> exact .next _
  case checkEntryDispatch => fun_cases execCheckEntryDispatch <;> exact .next _
  case chkFeed => fun_cases execChkFeed <;> exact .next _
  case chkFinish => fun_cases execChkFinish <;> exact .next _
  case chkSet => fun_cases execChkSet <;> exact .next _
  case chkRestart => fun_cases execChkRestart <;> exact .next _
  case xlateDone => fun_cases execXlateDone <;> exact .next _
  case tilePoolGrowth => fun_cases execTilePoolGrowth <;> exact .next _
  case fenceWaitRelease => fun_cases execFenceWaitRelease <;> exact .next _
  case descriptorComplete => fun_cases execDescriptorComplete <;> exact .next _
  case preemptionBoundary => fun_cases execPreemptionBoundary <;> exact .next _
  case contextSaved => fun_cases execContextSaved <;> exact .next _
  case contextRestored => fun_cases execContextRestored <;> exact .next _
  case deadlineMissed => fun_cases execDeadlineMissed <;> exact .next _
  case watchdogFired => fun_cases execWatchdogFired <;> exact .next _
  case fillLimitExpiry => fun_cases execFillLimitExpiry <;> exact .next _
  case deratingEnd => fun_cases execDeratingEnd <;> exact .next _
  case budgetCapWrite => fun_cases execBudgetCapWrite <;> exact .next _
  case audioDomainEnable => fun_cases execAudioDomainEnable <;> exact .next _
  case audioDomainDisable => fun_cases execAudioDomainDisable <;> exact .next _
  case audioDomCtrlWrite => fun_cases execAudioDomCtrlWrite <;> exact .next _
  case sampleBoundary => fun_cases execSampleBoundary <;> exact .next _
  case audioSourceLost => fun_cases execAudioSourceLost <;> exact .next _
  case domainLock => fun_cases execDomainLock <;> exact .next _
  case audioMapWrite => fun_cases execAudioMapWrite <;> exact .next _
  case audioSwapGo => fun_cases execAudioSwapGo <;> exact .next _
  case swapCheckDone => fun_cases execSwapCheckDone <;> exact .next _
  case swapDone => fun_cases execSwapDone <;> exact .next _
  case audioPathSelWrite => fun_cases execAudioPathSelWrite <;> exact .next _
  case playerTrigger => fun_cases execPlayerTrigger <;> exact .next _
  case playerStop => fun_cases execPlayerStop <;> exact .next _
  case streamRun => fun_cases execStreamRun <;> exact .next _
  case tdmClkLost => fun_cases execTdmClkLost <;> exact .next _
  case swrCmd => fun_cases execSwrCmd <;> exact .next _
  case avtpTalkerInterval => fun_cases execAvtpTalkerInterval <;> exact .next _
  case avtpStream => fun_cases execAvtpStream <;> exact .next _
  case tblkEnable => fun_cases execTblkEnable <;> exact .next _
  case scanStart => fun_cases execScanStart <;> exact .next _
  case scanMeasureEnd => fun_cases execScanMeasureEnd <;> exact .next _
  case telThreshWrite => fun_cases execTelThreshWrite <;> exact .next _
  case telCtrlWrite => fun_cases execTelCtrlWrite <;> exact .next _
  case wakeScan => fun_cases execWakeScan <;> exact .next _
  case hlPulseEnd => fun_cases execHlPulseEnd <;> exact .next _
  case hapEnable => fun_cases execHapEnable <;> exact .next _
  case hapDisable => fun_cases execHapDisable <;> exact .next _
  case hslotPlay => fun_cases execHslotPlay <;> exact .next _
  case hslotStop => fun_cases execHslotStop <;> exact .next _
  case hapCal => fun_cases execHapCal <;> exact .next _
  case hapStop => fun_cases execHapStop <;> exact .next _
  case hapLibCommit => fun_cases execHapLibCommit <;> exact .next _
  case hapControlPeriod => fun_cases execHapControlPeriod <;> exact .next _
  case hapShort => fun_cases execHapShort <;> exact .next _
  case accelRead => fun_cases execAccelRead <;> exact .next _
  case calDone => fun_cases execCalDone <;> exact .next _
  case hapBinBoundary => fun_cases execHapBinBoundary <;> exact .next _
  case hapticDropped => fun_cases execHapticDropped <;> exact .next _
  case hapRestEnd => fun_cases execHapRestEnd <;> exact .next _
  case coilModelUpdate => fun_cases execCoilModelUpdate <;> exact .next _
  case viResetDone => fun_cases execViResetDone <;> exact .next _
  case freezeComplete => fun_cases execFreezeComplete <;> exact .next _
  case viFreezeTimeout => fun_cases execViFreezeTimeout <;> exact .next _
  case thawRetranslationDone => fun_cases execThawRetranslationDone <;> exact .next _
  case saveComplete => fun_cases execSaveComplete <;> exact .next _
  case restoreComplete => fun_cases execRestoreComplete <;> exact .next _
  case viCopyComplete => fun_cases execViCopyComplete <;> exact .next _
  case functionLevelReset => fun_cases execFunctionLevelReset <;> exact .next _
  case pcieLinkUp => fun_cases execPcieLinkUp <;> exact .next _
  case worldHartWrite => fun_cases execWorldHartWrite <;> exact .next _
  case rcEntryCommit => fun_cases execRcEntryCommit <;> exact .next _
  case hullCreate => fun_cases execHullCreate <;> exact .next _
  case hullAdd => fun_cases execHullAdd <;> exact .next _
  case hullSeal => fun_cases execHullSeal <;> exact .next _
  case hullEnter => fun_cases execHullEnter <;> exact .next _
  case hullExit => fun_cases execHullExit <;> exact .next _
  case hullAsyncExit => fun_cases execHullAsyncExit <;> exact .next _
  case hullWindowOpen => fun_cases execHullWindowOpen <;> exact .next _
  case hullWindowClose => fun_cases execHullWindowClose <;> exact .next _
  case windowCloseDrained => fun_cases execWindowCloseDrained <;> exact .next _
  case hullReport => fun_cases execHullReport <;> exact .next _
  case hullDestroy => fun_cases execHullDestroy <;> exact .next _
  case hullDestroyDone => fun_cases execHullDestroyDone <;> exact .next _
  case debugTokenSubmit => fun_cases execDebugTokenSubmit <;> exact .next _
  case debugRevoke => fun_cases execDebugRevoke <;> exact .next _
  case claimLost => fun_cases execClaimLost <;> exact .next _
  case powerDomCtrlWrite => fun_cases execPowerDomCtrlWrite <;> exact .next _
  case domainAutoDrop => fun_cases execDomainAutoDrop <;> exact .next _
  case domainFault => fun_cases execDomainFault <;> exact .next _
  case domainFaultRetry => fun_cases execDomainFaultRetry <;> exact .next _
  case vrPhaseUpdate => fun_cases execVrPhaseUpdate <;> exact .next _
  case stageOvertemp => fun_cases execStageOvertemp <;> exact .next _
  case vrSenseLost => fun_cases execVrSenseLost <;> exact .next _
  case supplyDroop => fun_cases execSupplyDroop <;> exact .next _
  case railOverVoltage => fun_cases execRailOverVoltage <;> exact .next _
  case vrCtrlClear => fun_cases execVrCtrlClear <;> exact .next _
  case railRecovery => fun_cases execRailRecovery <;> exact .next _
  case sensorRead => fun_cases execSensorRead <;> exact .next _
  case thermalClear => fun_cases execThermalClear <;> exact .next _
  case criticalTemperature => fun_cases execCriticalTemperature <;> exact .next _
  case thermtripRelease => fun_cases execThermtripRelease <;> exact .next _
  case referenceLost => fun_cases execReferenceLost <;> exact .next _
  case clockReturn => fun_cases execClockReturn <;> exact .next _
  case slowClockLost => fun_cases execSlowClockLost <;> exact .next _
  case slowClockReturn => fun_cases execSlowClockReturn <;> exact .next _
  case sleepRequest => fun_cases execSleepRequest <;> exact .next _
  case sleepEntered => fun_cases execSleepEntered <;> exact .next _
  case railsOkRise => fun_cases execRailsOkRise <;> exact .next _
  case pwrgoodRise => fun_cases execPwrgoodRise <;> exact .next _
  case pwrgoodFall => fun_cases execPwrgoodFall <;> exact .next _
  case vddSafeReturn => fun_cases execVddSafeReturn <;> exact .next _
  case startTimeout => fun_cases execStartTimeout <;> exact .next _
  case pipFirstHandover => fun_cases execPipFirstHandover <;> exact .next _
  case psetWriteDue => fun_cases execPsetWriteDue <;> exact .next _
  case recorderFlush => fun_cases execRecorderFlush <;> exact .next _
  case nvmWrite => fun_cases execNvmWrite <;> exact .next _
  case shutdownDone => fun_cases execShutdownDone <;> exact .next _
  case hostOwnWrite => fun_cases execHostOwnWrite <;> exact .next _
  case load => fun_cases execLoad <;> exact .next _
  case updateLoaded => fun_cases execUpdateLoaded <;> exact .next _
  case handoverDone => fun_cases execHandoverDone <;> exact .next _
  case updateFailed => fun_cases execUpdateFailed <;> exact .next _
  case move => fun_cases execMove <;> exact .next _
  case spareLockTimeout => fun_cases execSpareLockTimeout <;> exact .next _
  case huskHeartbeat => fun_cases execHuskHeartbeat <;> exact .next _
  case huskBeatMissed => fun_cases execHuskBeatMissed <;> exact .next _
  case huskLockstepMismatch => fun_cases execHuskLockstepMismatch <;> exact .next _
  case unitFault => fun_cases execUnitFault <;> exact .next _
  case huskUnitRecovery => fun_cases execHuskUnitRecovery <;> exact .next _
  case managerBeatMissed => fun_cases execManagerBeatMissed <;> exact .next _
  case degradedRetry => fun_cases execDegradedRetry <;> exact .next _
  case pipBeatMissed => fun_cases execPipBeatMissed <;> exact .next _
  case pipLockstepMismatch => fun_cases execPipLockstepMismatch <;> exact .next _
  case pipReloadDone => fun_cases execPipReloadDone <;> exact .next _
  case pipReplaceWrite => fun_cases execPipReplaceWrite <;> exact .next _
  case icvikPortEnable => fun_cases execIcvikPortEnable <;> exact .next _
  case icvikTrainingDone => fun_cases execIcvikTrainingDone <;> exact .next _
  case icvikPortTimeout => fun_cases execIcvikPortTimeout <;> exact .next _
  case flitReceive => fun_cases execFlitReceive <;> exact .next _
  case hello => fun_cases execHello <;> exact .next _
  case timeFlit => fun_cases execTimeFlit <;> exact .next _
  case beatSend => fun_cases execBeatSend <;> exact .next _
  case nodeLost => fun_cases execNodeLost <;> exact .next _
  case icvControl => fun_cases execIcvControl <;> exact .next _
  case controlRetry => fun_cases execControlRetry <;> exact .next _
  case icvRead => fun_cases execIcvRead <;> exact .next _
  case icvPixel => fun_cases execIcvPixel <;> exact .next _
  case raccDone => fun_cases execRaccDone <;> exact .next _
  case podRefApply => fun_cases execPodRefApply <;> exact .next _
  case podRefActivate => fun_cases execPodRefActivate <;> exact .next _
  case importOpen => fun_cases execImportOpen <;> exact .next _
  case importOpenDone => fun_cases execImportOpenDone <;> exact .next _
  case importClose => fun_cases execImportClose <;> exact .next _
  case tsnEnable => fun_cases execTsnEnable <;> exact .next _
  case tsnFrameTx => fun_cases execTsnFrameTx <;> exact .next _
  case tsnFrameRx => fun_cases execTsnFrameRx <;> exact .next _
  case gclApply => fun_cases execGclApply <;> exact .next _
  case tsnGclSwitch => fun_cases execTsnGclSwitch <;> exact .next _
  case ptpSyncLoss => fun_cases execPtpSyncLoss <;> exact .next _
  case tsnRingEnable => fun_cases execTsnRingEnable <;> exact .next _
  case tsnMdioCmd => fun_cases execTsnMdioCmd <;> exact .next _
  case mdioDone => fun_cases execMdioDone <;> exact .next _
  case recApply => fun_cases execRecApply <;> exact .next _
  case recClear => fun_cases execRecClear <;> exact .next _
  case recSlotCfgWrite => fun_cases execRecSlotCfgWrite <;> exact .next _
  case cntValueWrite => fun_cases execCntValueWrite <;> exact .next _
  case smpEnable => fun_cases execSmpEnable <;> exact .next _
  case smpSeedWrite => fun_cases execSmpSeedWrite <;> exact .next _
  case sampleRecord => fun_cases execSampleRecord <;> exact .next _
  case stageCooled => fun_cases execStageCooled <;> exact .next _
  case droopEnd => fun_cases execDroopEnd <;> exact .next _
  case zeroingDone => fun_cases execZeroingDone <;> exact .next _
  case resetWorkStop => fun_cases execResetWorkStop <;> exact .next _
  case swrCmdDone => fun_cases execSwrCmdDone <;> exact .next _
  case swrPeripheralAttach => fun_cases execSwrPeripheralAttach <;> exact .next _
  case ptpInterval => fun_cases execPtpInterval <;> exact .next _
  case gateControlEntry => fun_cases execGateControlEntry <;> exact .next _
  case noRouteTimeout => fun_cases execNoRouteTimeout <;> exact .next _
  case vddAonReturn => fun_cases execVddAonReturn <;> exact .next _

/-- A run that can always take a next step is safe. -/
theorem safeRun_of_answers (h : ∀ s, Answers (step s)) : ∀ (n : Nat) (s : State), SafeRun n s
  | 0, s => ⟨s, rfl⟩
  | n + 1, s => by
    obtain ⟨t, ht⟩ := h s
    obtain ⟨u, hu⟩ := safeRun_of_answers h n t
    refine ⟨u, ?_⟩
    have hs : core.step s = .next t := ht
    simpa only [Host.Core.run, hs] using hu

/-- Settles O1: a step takes the command off the queue and runs it. -/
theorem stepRunsFront : Obligations.StepRunsFront := by
  intro c q s h
  simp only [step, h]

/-- Settles O2: an empty queue idles (log entry 12). -/
theorem stepIdles : Obligations.StepIdles := by
  intro s h
  simp only [step, h]

theorem step_answers (s : State) : Answers (step s) := by
  cases h : s.pending with
  | nil => exact ⟨s, stepIdles s h⟩
  | cons c q => rw [stepRunsFront c q s h]; exact exec_answers c _

/-- Settles O3: every command answers, so every step does, and a run is a chain of steps. -/
theorem everyRunIsSafe : Obligations.EveryRunIsSafe :=
  ⟨exec_answers, safeRun_of_answers step_answers⟩

end Sys2Proof.Machine
end

section
/-!
PROOFS. Reset: the memories, the rings and the registers of the state after reset (R7, R17, R75).
-/
namespace Sys2Proof.Machine

set_option maxRecDepth 2048 in
/-- No ring of the PF window is enabled after reset. -/
theorem reset_ringCtrl_disabled : ∀ n, n < 256 → State.reset.rb (ringCtrl pfWin n) 31 = false := by decide

/-- Settles O4: after reset both memories list nothing (log entries 3 and 7). -/
theorem resetLeavesCanonicalMemory : Obligations.ResetLeavesCanonicalMemory :=
  ⟨rfl, rfl, rfl, rfl, reset_ringCtrl_disabled, fun _ => rfl⟩

/-- Settles O6: each register reads the Reset column of its table. -/
theorem resetRegisters : Obligations.ResetRegisters := by
  refine ⟨?chipId, ?watchdog, ?fillLimit, ?budgetCtrl, ?stagger, ?trip, ?husk, ?evrCtrl, ?commitFrame, ?bwClass⟩ <;> decide

end Sys2Proof.Machine
end

section
/-!
PROOFS. Access codes: what a register word holds bit by bit after a write by its access codes (R12, R13).
-/
namespace Sys2Proof.Machine

theorem testBit_ones32 {i : Nat} (hi : i < 32) : Nat.testBit 0xFFFFFFFF i = true := by
  rw [show 0xFFFFFFFF = 2 ^ 32 - 1 by rfl, Nat.testBit_two_pow_sub_one]
  simpa using hi

/-- The low 32 bits of a number, bit by bit. -/
theorem bit_mod_two_pow_32 (n : Nat) {i : Nat} (hi : i < 32) : bit (n % 2 ^ 32) i = bit n i := by
  rw [bit, Nat.testBit_mod_two_pow, decide_eq_true hi, Bool.true_and, bit]

/-- Bit `i` of a word written by its access codes (R12): the bit written where it is RW, or RWL and the block is not locked, the bit held
elsewhere; then a W1C bit written 1 is cleared and a W1S bit written 1 is set. -/
theorem bit_accessWrite (row : RegRow) (high locked : Bool) (old v : Nat) {i : Nat} (hi : i < 32) :
    bit (accessWrite row high locked old v) i =
      (((bif bit (halfOf high row.rw) i || (!locked && bit (halfOf high row.rwl) i) then bit v i else bit old i)
        && !(bit v i && bit (halfOf high row.w1c) i)) || (bit v i && bit (halfOf high row.w1s) i)) := by
  have hrw : Nat.testBit (halfOf high row.rw ||| if locked then 0 else halfOf high row.rwl) i
      = (bit (halfOf high row.rw) i || (!locked && bit (halfOf high row.rwl) i)) := by
    cases locked <;> simp [bit]
  simp only [accessWrite, bit, Nat.testBit_or, Nat.testBit_and, Nat.testBit_xor, testBit_ones32 hi] at hrw ⊢
  rw [hrw]
  generalize (Nat.testBit _ i || (!locked && Nat.testBit _ i)) = writable
  cases writable <;> simp

/-- A write by access codes alone, where a row holds the word. -/
theorem plain_of_keyRow {s : State} {k : Nat} {row : RegRow} {high : Bool} (h : keyRow k = some (row, high)) (v : Nat) :
    s.plain k v = s.wr k (accessWrite row high (s.locked k) (s.rd k) v ||| (s.rd k &&& tget 0 s.cycle.raised k)) := by
  simp only [State.plain, h]

/-- Bit `i` of the word `plain` leaves: what the access codes give, and a bit that hardware set at this instant stays set (R13). -/
theorem bit_plain_rd {s : State} {k : Nat} {row : RegRow} {high : Bool} (h : keyRow k = some (row, high)) (v : Nat) {i : Nat} (hi : i < 32) :
    bit ((s.plain k v).rd k) i =
      (bit (accessWrite row high (s.locked k) (s.rd k) v) i || (bit (s.rd k) i && bit (tget 0 s.cycle.raised k) i)) := by
  rw [plain_of_keyRow h, State.rd_wr_same, bit_mod_two_pow_32 _ hi]
  simp [bit]

theorem plain_frame (s : State) (k v : Nat) : Frame [] [k] s (s.plain k v) := by
  unfold State.plain
  split
  · exact (Frame.refl s [] [k]).wr (by simp) _
  · exact Frame.refl s [] [k]

/-- Of four disjoint masks the one that has a bit is the only one that has it. -/
theorem only_one_of_disjoint {a b c d : Bool} (h : b2n a + b2n b + b2n c + b2n d ≤ 1) :
    (a = true → b = false ∧ c = false ∧ d = false) ∧ (b = true → c = false ∧ d = false) ∧ (c = true → d = false) := by
  revert a b c d; decide

/-- Settles O7: the masks being disjoint, at most one access code decides a bit. -/
theorem accessCodes : Obligations.AccessCodes := by
  intro s k v row high hrow _ hone
  refine ⟨fun i hi => ?_, plain_frame s k v⟩
  rw [bit_plain_rd hrow v hi, bit_accessWrite row high (s.locked k) (s.rd k) v hi]
  obtain ⟨ofRw, ofRwl, ofW1c⟩ := only_one_of_disjoint (hone i)
  congr 1
  by_cases hrw : bit (halfOf high row.rw) i = true
  · simp [hrw, ofRw hrw]
  · by_cases hrwl : bit (halfOf high row.rwl) i = true
    · cases hlock : s.locked k <;> simp [hrw, hrwl, ofRwl hrwl]
    · by_cases hw1c : bit (halfOf high row.w1c) i = true
      · simp [hrw, hrwl, hw1c, ofW1c hw1c]
      · cases bit (halfOf high row.w1s) i <;> simp [hrw, hrwl, hw1c]

end Sys2Proof.Machine
end

section
/-!
PROOFS. Reads of a register word by its address: what each kind of read returns and what it changes (R10, R12, R15).
-/
namespace Sys2Proof.Machine

/-- The state a read of a low word latches the high word in (R10). -/
def State.latchHigh (s : State) (r : Req) (addr : Nat) : State :=
  if s.lowOf r addr then
    { s with latch := tset none s.latch (wordKey r (reqKey r addr)) (some (BitVec.ofNat 32 (s.view r (addr + 4)))) }
  else s

/-- A high word read after its low word: the value latched, which is used up (R10). -/
theorem busRead_latched {s : State} {r : Req} {addr : Nat} {v : Word} (hh : (s.fresh r addr).highOf r addr = true)
    (hl : tget none (s.fresh r addr).latch (wordKey r (reqKey r addr - 4)) = some v) :
    s.busRead r addr = (v, { s.fresh r addr with latch := tset none (s.fresh r addr).latch (wordKey r (reqKey r addr - 4)) none }) := by
  simp only [State.busRead, hh, hl, if_true]

/-- A high word read with nothing latched: its current value, and nothing changes (log entry 57). -/
theorem busRead_unlatched {s : State} {r : Req} {addr : Nat} (hh : (s.fresh r addr).highOf r addr = true)
    (hl : tget none (s.fresh r addr).latch (wordKey r (reqKey r addr - 4)) = none) :
    s.busRead r addr = (BitVec.ofNat 32 ((s.fresh r addr).view r addr), s.fresh r addr) := by
  simp only [State.busRead, hh, hl, if_true]

/-- Any other word read: a low word latches its high word, and RC fields are cleared (R10, R12, R14). -/
theorem busRead_word {s : State} {r : Req} {addr : Nat} (hh : (s.fresh r addr).highOf r addr = false) :
    s.busRead r addr =
      (BitVec.ofNat 32 (if r.path = .debug then (s.fresh r addr).view r addr
        else (s.fresh r addr).rcValue (reqKey r addr) ((s.fresh r addr).view r addr)),
       ((s.fresh r addr).latchHigh r addr).readClear r addr) := by
  simp only [State.busRead, hh, State.latchHigh, Bool.false_eq_true, if_false]

theorem latchHigh_regs (s : State) (r : Req) (addr : Nat) : (s.latchHigh r addr).regs = s.regs := by
  unfold State.latchHigh; split <;> rfl

/-- A read through the debug port clears no RC field (R15). -/
theorem readClear_debug (s : State) (secure : Bool) (addr : Nat) : s.readClear ⟨.debug, secure⟩ addr = s := by
  simp [State.readClear]

/-- Beside the counter it brings up to date, a read through the debug port leaves every register word. -/
theorem busRead_debug_regs (s : State) (secure : Bool) (addr : Nat) :
    (s.busRead ⟨.debug, secure⟩ addr).2.regs = (s.fresh ⟨.debug, secure⟩ addr).regs := by
  cases hh : (s.fresh ⟨.debug, secure⟩ addr).highOf ⟨.debug, secure⟩ addr with
  | false => rw [busRead_word hh, readClear_debug, latchHigh_regs]
  | true =>
    cases hl : tget none (s.fresh ⟨.debug, secure⟩ addr).latch (wordKey ⟨.debug, secure⟩ (reqKey ⟨.debug, secure⟩ addr - 4)) with
    | none => rw [busRead_unlatched hh hl]
    | some v => rw [busRead_latched hh hl]

theorem regRead_rd (s : State) (r : Req) (addr k : Nat) : (s.regRead r addr).rd k = (s.busRead r addr).2.rd k := rfl

theorem regRead_debug_rd (s : State) (secure : Bool) (addr k : Nat) :
    (s.regRead ⟨.debug, secure⟩ addr).rd k = (s.fresh ⟨.debug, secure⟩ addr).rd k := by
  rw [regRead_rd, State.rd, busRead_debug_regs, State.rd]

/-- The first word of copy `i` of a row of one stride is a word of the row, and no high word. -/
theorem hit_copy {row : RegRow} {st n : Nat} (hl : row.levels = [(st, n)]) {i : Nat} (hi : i < n) (hst : 0 < st) :
    row.hit (row.off + st * i) = some false := by
  simp [RegRow.hit, hl, inCopy, Nat.mul_div_cancel_left i hst, hi]

/-- The row of CNT_VALUE (R686). -/
def rowCntValue : RegRow := ⟨0x4010000, [(0x10, 4096)], true, 0xFFFFFFFFFFFFFFFF, 0x0, 0x0, 0x0, 0x0, 0x0⟩

/-- The values of the counters are the low words of CNT_VALUE, which has no RC field (R686). -/
theorem keyRow_cntValue {i : Nat} (hi : i < 4096) : keyRow (rowCntValue.off + 0x10 * i) = some (rowCntValue, false) := by
  have hblock : keyRow (rowCntValue.off + 0x10 * i) = findRow rowsCounters (rowCntValue.off + 0x10 * i) := by
    have hoff : rowCntValue.off = 0x4010000 := rfl
    generalize ha : rowCntValue.off + 0x10 * i = a
    simp only [keyRow, pfRows]
    rw [if_neg (by omega), if_neg (by omega)]
    repeat rw [if_neg (by omega)]
    rw [if_pos (by omega)]
  have hhit : rowCntValue.hit (rowCntValue.off + 0x10 * i) = some false := hit_copy rfl hi (by decide)
  rw [hblock, show rowsCounters = rowCntValue :: rowsCounters.tail from rfl, findRow, hhit]

/-- Settles O58: beside the counter a read brings up to date, which has no RC field, no register word changes. -/
theorem debugReadsClearNothing : Obligations.DebugReadsClearNothing := by
  rintro dt addr secure i s u rfl hi
  have hexec : exec i s = .next ((s.tick dt).regRead ⟨.debug, secure⟩ addr) := by
    obtain rfl | rfl := hi <;> rfl
  refine ⟨_, hexec, fun row high hrow => ?_, fun hother k => ?_⟩
  · by_cases hval : 0x04010000 ≤ addr ∧ addr < 0x04020000 ∧ addr % 0x10 = 0
    · obtain ⟨n, hn, rfl⟩ : ∃ n, n < 4096 ∧ addr = rowCntValue.off + 0x10 * n :=
        ⟨(addr - 0x04010000) / 0x10, by omega, by simp only [rowCntValue]; omega⟩
      rw [keyRow_cntValue hn] at hrow
      obtain ⟨rfl, rfl⟩ := hrow
      simp [halfOf, rowCntValue]
    · rw [regRead_debug_rd, State.fresh, if_neg hval]
  · rw [regRead_debug_rd, State.fresh, if_neg hother]

end Sys2Proof.Machine
end

section
/-!
PROOFS. A 64-bit register put into effect over a bit that hardware set in the same cycle (R11, R13).
-/
namespace Sys2Proof.Machine

/-- A state in which hardware has set bit 0 of START_NVM_BUF in this cycle, and a low word of 0 is staged for the PF. -/
def nvmBufRaised : State :=
  { regs := [(0x00200040, 1)], cycle := { raised := [(0x00200040, 1)] }, staged := [(wordKey ⟨.pf, false⟩ 0x00200040, some 0)] }

/-- The write of a high word of 0 over it: the bit that hardware set stays set (R13), so the low word staged, 0, does not come into effect. -/
theorem nvmBufRaised_put : (nvmBufRaised.regWrite ⟨.pf, false⟩ 0x00200044 0).rd64 0x00200040 = 1 := by decide

/-- Refutes O8, in its last clause: START_NVM_BUF written with a staged 0 and a high word of 0 reads 1 where hardware set bit 0 in the same
cycle (`plain` keeps what hardware set, whatever the access code). The statement ranges over all states, and where its clause for EVR_IRQ
asks that hardware set nothing in the word in this cycle, its clause for WRITE_HIGH_WORD does not. -/
theorem not_registerAccesses : ¬ Obligations.RegisterAccesses := by
  rintro ⟨-, -, -, -, -, -, putHigh⟩
  obtain ⟨t, ht, hrd, -⟩ := putHigh 0 0 0 nvmBufRaised nvmBufRaised rfl (by decide)
  have hexec : exec (.writeHighWord 0 ⟨.pf, false⟩ 0x00200044 0) nvmBufRaised
      = .next (nvmBufRaised.regWrite ⟨.pf, false⟩ 0x00200044 0) := rfl
  have ht' : nvmBufRaised.regWrite ⟨.pf, false⟩ 0x00200044 0 = t := by
    rw [hexec] at ht
    exact Host.Outcome.next.inj ht
  rw [← ht', nvmBufRaised_put] at hrd
  exact absurd hrd (by decide)

end Sys2Proof.Machine
end

section
/-!
PROOFS. Event records: what raising an event writes, counts and leaves alone (R22, R66 to R69).
-/
namespace Sys2Proof.Machine

/-! ### Bytes -/

theorem length_leBytes (v : Nat) : ∀ n, (leBytes v n).length = n
  | 0 => rfl
  | n + 1 => by rw [leBytes, List.length_cons, length_leBytes]

/-- The i-th byte of a number held little-endian. -/
theorem getD_leBytes : ∀ (n v i : Nat), i < n → (leBytes v n).getD i 0 = BitVec.ofNat 8 (v / 256 ^ i)
  | n + 1, v, 0, _ => by simp [leBytes]
  | n + 1, v, i + 1, h => by
    rw [leBytes, List.getD_cons_succ, getD_leBytes n (v / 256) i (by omega), Nat.div_div_eq_div_mul, ← Nat.pow_succ']

/-- Bytes written with the first one last hold what bytes written in order hold (R23). -/
theorem tget_writeBytes_first_last (bs : Bytes) (m : Tbl Byte) (a j : Nat) :
    tget 0 (writeBytes (writeBytes m (a + 1) (bs.drop 1)) a (bs.take 1)) j = tget 0 (writeBytes m a bs) j := by
  cases bs with
  | nil => rfl
  | cons b bs =>
    simp only [List.drop_one, List.tail_cons, List.take_succ_cons, List.take_zero, writeBytes, tget_tset, tget_writeBytes]
    split <;> split <;> simp_all

/-! ### The interrupt -/

/-- Raising a vector changes the pods alone. -/
theorem raiseMsix_eq (s : State) (w : Nat) : s.raiseMsix w = { s with pods := (s.raiseMsix w).pods } := by
  fun_cases State.raiseMsix <;> rfl

/-- Signalling a record changes the pods alone. -/
theorem signal_eq (s : State) (w : Nat) : s.signal w = { s with pods := (s.signal w).pods } := by
  fun_cases State.signal
  · rfl
  · rw [raiseMsix_eq]; rfl
  · rfl

@[simp] theorem signal_rd (s : State) (w k : Nat) : (s.signal w).rd k = s.rd k := by rw [signal_eq]; rfl
@[simp] theorem signal_mem (s : State) (w : Nat) : (s.signal w).mem = s.mem := by rw [signal_eq]
@[simp] theorem signal_hostMem (s : State) (w : Nat) : (s.signal w).hostMem = s.hostMem := by rw [signal_eq]

/-- What raising a vector leaves of the interrupt state: nothing waits to be signalled, and a vector in the grant counts (R67, R487). -/
theorem raiseMsix_pods {s : State} {w : Nat} (h : s.rf (evrIrq w) 5 0 < if w < 256 then s.rf (viReg w 0x1C) 6 0 else 64) :
    (s.raiseMsix w).pods = { s.pods with
      unsignalled := tset 0 s.pods.unsignalled w 0, firstUnsignalled := tset none s.pods.firstUnsignalled w none,
      msix := tmod 0 s.pods.msix (w * 64 + s.rf (evrIrq w) 5 0) (· + 1) } := by
  simp only [State.raiseMsix, h, if_true, State.mPods_pods]

theorem Frame.podsOnly (s : State) (p : Pods) : Frame [.pods] [] s { s with pods := p } :=
  (Frame.refl s [.pods] []).mPods (by simp) fun _ => p

/-! ### Records -/

/-- The state with host memory replaced. -/
def State.withHost (s : State) (h : Tbl Byte) : State := { s with hostMem := h }

@[simp] theorem withHost_hostMem (s : State) (h : Tbl Byte) : (s.withHost h).hostMem = h := rfl
@[simp] theorem withHost_rd (s : State) (h : Tbl Byte) (k : Nat) : (s.withHost h).rd k = s.rd k := by
  simp only [State.withHost, State.rd]
@[simp] theorem withHost_mem (s : State) (h : Tbl Byte) : (s.withHost h).mem = s.mem := by simp only [State.withHost]
@[simp] theorem withHost_withHost (s : State) (h h' : Tbl Byte) : (s.withHost h).withHost h' = s.withHost h' := rfl

/-- A write to host memory that reaches it (R476). -/
theorem hostWrite_of_ok {s : State} {w : Nat} (ho : s.hostOk w = true) (a : Nat) (bs : Bytes) :
    s.hostWrite w a bs = s.withHost (writeBytes s.hostMem (hostKey w a) bs) := by
  rw [State.hostWrite, if_pos ho]; rfl

/-- A window whose writes are not logged marks nothing (R504). -/
theorem markDirty_of_unlogged {s : State} {w : Nat} (hd : tget none s.vims.dirty w = none) (a n : Nat) : s.markDirty w a n = s := by
  simp only [State.markDirty, hd, ite_self]

/-- Where the next record of a ring goes (R67). -/
def State.recordAt (s : State) (w : Nat) : Nat := s.rd64 (evr w).base + s.rd (evr w).tail % s.evrSize w * 16

/-- The 16 bytes of the next record of a ring: its PHASE is 1 on the first pass and inverts on each (R22, R67). -/
def State.recordBytes (s : State) (w kind status handle detail time : Nat) : Bytes :=
  leBytes (recordNat kind status handle detail time (1 - s.rd (evr w).tail / s.evrSize w % 2)) 16

/-- A record written at a ring in host memory: its bytes, TAIL and the signal (R23, R68). -/
theorem putRecord_host {s : State} {w : Nat} (hw : w ≠ secWin) (ho : s.hostOk w = true) (hd : tget none s.vims.dirty w = none)
    (kind status handle detail time : Nat) :
    s.putRecord w kind status handle detail time =
      ((s.withHost (writeBytes (writeBytes s.hostMem (hostKey w (s.recordAt w + 1)) ((s.recordBytes w kind status handle detail time).drop 1))
        (hostKey w (s.recordAt w)) ((s.recordBytes w kind status handle detail time).take 1))).incr (evr w).tail).signal w := by
  have ho' : ∀ h, (s.withHost h).hostOk w = true := fun _ => ho
  have hd' : ∀ h, tget none (s.withHost h).vims.dirty w = none := fun _ => hd
  rw [State.putRecord, if_neg hw, if_pos ho, hostWrite_of_ok ho, hostWrite_of_ok (ho' _), withHost_withHost]
  dsimp only
  rw [markDirty_of_unlogged (hd' _)]
  rfl

/-- The slot of a record lies in its ring. -/
theorem recordAt_le (s : State) (w : Nat) : s.recordAt w + 16 ≤ s.rd64 (evr w).base + s.evrSize w * 16 := by
  have hslot : s.rd (evr w).tail % s.evrSize w < s.evrSize w := Nat.mod_lt _ (Nat.two_pow_pos _)
  unfold State.recordAt
  omega

theorem hostKey_add {w a i n : Nat} (h : a + n ≤ 2 ^ 63) (hi : i < n) : hostKey w (a + i) = hostKey w a + i := by
  simp only [hostKey]
  omega

/-- Host memory after a record: its 16 bytes at its place, every other byte as before. -/
theorem tget_hostMem_putRecord {s : State} {w : Nat} (hw : w ≠ secWin) (ho : s.hostOk w = true) (hd : tget none s.vims.dirty w = none)
    (hb : s.rd64 (evr w).base + s.evrSize w * 16 ≤ 2 ^ 63) (kind status handle detail time j : Nat) :
    tget 0 (s.putRecord w kind status handle detail time).hostMem j =
      if hostKey w (s.recordAt w) ≤ j ∧ j < hostKey w (s.recordAt w) + 16 then
        (s.recordBytes w kind status handle detail time).getD (j - hostKey w (s.recordAt w)) 0
      else tget 0 s.hostMem j := by
  have hnext : hostKey w (s.recordAt w + 1) = hostKey w (s.recordAt w) + 1 :=
    hostKey_add (n := 16) ((recordAt_le s w).trans hb) (by omega)
  have hlen : (s.recordBytes w kind status handle detail time).length = 16 := length_leBytes _ _
  simp only [putRecord_host hw ho hd, hnext, signal_hostMem, State.incr_frame, withHost_hostMem, tget_writeBytes_first_last]
  rw [tget_writeBytes, hlen]

/-- Registers after a record: TAIL counts, every other word as before. -/
theorem putRecord_rd {s : State} {w : Nat} (hw : w ≠ secWin) (ho : s.hostOk w = true) (hd : tget none s.vims.dirty w = none)
    (kind status handle detail time k : Nat) :
    (s.putRecord w kind status handle detail time).rd k =
      if k = (evr w).tail then (s.rd (evr w).tail + 1) % 2 ^ 32 else s.rd k := by
  simp only [putRecord_host hw ho hd, signal_rd, State.incr, State.rd_wr, withHost_rd]

theorem putRecord_mem {s : State} {w : Nat} (hw : w ≠ secWin) (ho : s.hostOk w = true) (hd : tget none s.vims.dirty w = none)
    (kind status handle detail time : Nat) : (s.putRecord w kind status handle detail time).mem = s.mem := by
  simp only [putRecord_host hw ho hd, signal_mem, State.incr_frame, withHost_mem]

/-! ### Raising an event -/

/-- Where no EVENTS_LOST record is owed none is written (R69). -/
theorem flushLost_of_none {s : State} {w : Nat} (h : tget 0 s.pods.lostSince w = 0) : s.flushLost w = s := by
  simp only [State.flushLost, h, ne_eq, not_true_eq_false, false_and, if_false]

/-- An event at a ring that takes records, is not full and owes no EVENTS_LOST record is one record (R68). -/
theorem emit_of_room {s : State} {w : Nat} (hopen : s.evrOpen w = true) (hroom : s.evrFull w = false)
    (hlost : tget 0 s.pods.lostSince w = 0) (kind : Nat) (st : Status) (handle detail : Nat) :
    s.emit w kind st handle detail = s.putRecord w kind st.code handle detail s.now := by
  have hen : s.rb (evr w).ctrl 31 = true := by
    rw [State.evrOpen, Bool.and_eq_true] at hopen
    exact hopen.1
  simp [State.emit, State.emitAt, hen, flushLost_of_none hlost, hopen, hroom]

/-- An event at an enabled ring that is full is counted (R69). -/
theorem emit_of_full {s : State} {w : Nat} (hen : s.rb (evr w).ctrl 31 = true) (hfull : s.evrFull w = true)
    (kind : Nat) (st : Status) (handle detail : Nat) : s.emit w kind st handle detail = s.loseEvent w := by
  simp [State.emit, State.emitAt, hen, State.flushLost, hfull]

/-- A counted event: EVR_LOST and the count owed to the next EVENTS_LOST record stop at all ones (R69). -/
theorem loseEvent_pods (s : State) (w : Nat) :
    (s.loseEvent w).pods = { s.pods with lostSince := tset 0 s.pods.lostSince w (min (tget 0 s.pods.lostSince w + 1) (2 ^ 32 - 1)) } := rfl

theorem loseEvent_rd_lost (s : State) (w : Nat) : (s.loseEvent w).rd (evr w).lost = min (s.rd (evr w).lost + 1) (2 ^ 32 - 1) := by
  simp only [State.loseEvent, State.rcCount, State.mPods_rd, State.rcUpdate_rd, State.rd_wr_same, satAdd]
  omega

theorem loseEvent_frame (s : State) (w : Nat) : Frame [.pods, .cycle] [(evr w).lost] s (s.loseEvent w) :=
  ((Frame.refl s [.pods, .cycle] [(evr w).lost]).rcUpdate (by simp) (by simp) _).mPods (by simp) _

/-! ### The commands of an event ring -/

/-- EVR_IRQ_TIMER raises the vector TIMER_US after the first record not yet signalled (R67). -/
theorem execEvrIrqTimer_due {dt w since : Nat} {s : State} (hf : tget none (s.tick dt).pods.firstUnsignalled w = some since)
    (hus : (s.tick dt).rf (evrIrq w) 31 16 ≠ 0) (hdue : since + (s.tick dt).rf (evrIrq w) 31 16 * 1000 ≤ (s.tick dt).now) :
    execEvrIrqTimer dt w s = .next ((s.tick dt).raiseMsix w) := by
  simp only [execEvrIrqTimer, hf]
  rw [if_neg (by omega)]

/-- A vector of EVR_IRQ is one of 64, so a window that no VI owns has every vector (R67). -/
theorem evrIrq_vector_granted {s : State} {w : Nat} (h : w < 256 → s.rf (evrIrq w) 5 0 < s.rf (viReg w 0x1C) 6 0) :
    s.rf (evrIrq w) 5 0 < if w < 256 then s.rf (viReg w 0x1C) 6 0 else 64 := by
  split
  · exact h ‹_›
  · exact Nat.mod_lt _ (by decide)

/-- The words of an event ring in their order (R66, R535). -/
theorem evr_offsets (w : Nat) : (evr w).ctrl = (evr w).base + 8 ∧ (evr w).head = (evr w).base + 0xC ∧ (evr w).tail = (evr w).base + 0x10 := by
  unfold evr
  split <;> simp

theorem pfFlush_of_empty {s : State} (h : s.pods.pfQueue = []) : s.pfFlush = s := by
  simp only [State.pfFlush, h, List.foldl_nil, State.mPods]
  rw [← h]

/-- EVR_CTRL with ENABLE set over a LOG2 (R66). -/
theorem setBits_enable {l : Nat} (h : l < 2 ^ 31) : setBits l 31 31 1 = 2 ^ 31 + l := by
  unfold setBits
  omega

/-- The state a ring is enabled in: LOG2 and ENABLE stored, HEAD and TAIL 0, and no record left to be signalled (R68). -/
def State.evrStarted (s : State) (w l : Nat) : State :=
  ((((s.wr (evr w).ctrl l).wb (evr w).ctrl 31 true).wr (evr w).head 0).wr (evr w).tail 0).mPods fun p =>
    { p with unsignalled := tset 0 p.unsignalled w 0, firstUnsignalled := tset none p.firstUnsignalled w none }

/-- EVR_ENABLE of a ring that is disabled, with a valid LOG2, an aligned base, and no record that came before (R68, R69, R587). -/
theorem execEvrEnable_valid {dt w : Nat} {v : Word} {s : State} (hw : w ≠ secWin) (hig : (s.tick dt).winIgnores w = false)
    (hoff : (s.tick dt).rb (evr w).ctrl 31 = false) (hl : 6 ≤ bits v.toNat 3 0)
    (hal : (s.tick dt).rd64 (evr w).base % max 4096 (2 ^ bits v.toNat 3 0 * 16) = 0)
    (hq : w = pfWin → (s.tick dt).pods.pfQueue = []) (hlost : tget 0 (s.tick dt).pods.lostSince w = 0) :
    execEvrEnable dt w v s = .next ((s.tick dt).evrStarted w (bits v.toNat 3 0)) := by
  generalize hu : s.tick dt = u at *
  obtain ⟨hctrl, -, -⟩ := evr_offsets w
  have hbase : (u.wr (evr w).ctrl (bits v.toNat 3 0)).rd64 (evr w).base = u.rd64 (evr w).base := by
    rw [State.rd64, State.rd_wr_ne _ (by omega), State.rd_wr_ne _ (by omega), State.rd64]
  have hflush : (if w = pfWin then (u.evrStarted w (bits v.toNat 3 0)).pfFlush else u.evrStarted w (bits v.toNat 3 0))
      = u.evrStarted w (bits v.toNat 3 0) := by
    split
    · next h => exact pfFlush_of_empty (hq h)
    · rfl
  have hnone : tget 0 (u.evrStarted w (bits v.toNat 3 0)).pods.lostSince w = 0 := hlost
  simp only [execEvrEnable, hu, hig, hoff, Bool.or_self, Bool.false_eq_true, if_false, if_neg hw, hbase]
  rw [if_neg (by omega)]
  change Host.Outcome.next (State.flushLost (if w = pfWin then (u.evrStarted w _).pfFlush else u.evrStarted w _) w) = _
  rw [hflush, flushLost_of_none hnone]

theorem evrStarted_frame (s : State) (w l : Nat) :
    Frame [.pods] [(evr w).ctrl, (evr w).head, (evr w).tail] s (s.evrStarted w l) :=
  (((((Frame.refl s [.pods] [(evr w).ctrl, (evr w).head, (evr w).tail]).wr (by simp) l).wb (by simp) 31 true).wr (by simp) 0).wr
    (by simp) 0).mPods (by simp) _

theorem evrStarted_rd {s : State} {w l : Nat} (hl : l < 2 ^ 31) :
    (s.evrStarted w l).rd (evr w).ctrl = 2 ^ 31 + l ∧ (s.evrStarted w l).rd (evr w).head = 0 ∧ (s.evrStarted w l).rd (evr w).tail = 0 := by
  obtain ⟨hctrl, hhead, htail⟩ := evr_offsets w
  refine ⟨?_, ?_, ?_⟩ <;> rw [State.evrStarted, State.mPods_rd]
  · rw [State.rd_wr_ne _ (by omega), State.rd_wr_ne _ (by omega), State.wb, State.wf, State.rd_wr_same, State.rd_wr_same,
      Nat.mod_eq_of_lt (show l < 2 ^ 32 by omega), b2n, if_pos rfl,
      setBits_enable hl, Nat.mod_eq_of_lt (by omega)]
  · rw [State.rd_wr_ne _ (by omega), State.rd_wr_same, Nat.zero_mod]
  · rw [State.rd_wr_same, Nat.zero_mod]

/-- Settles O12: an event at an open ring is one record, at a full ring it is counted; and the timer, the enable and the head of a ring. -/
theorem eventRecords : Obligations.EventRecords := by
  refine ⟨?record, ?full, ?timer, ?enable, ?head⟩
  case record =>
    intro s t w kind handle detail st hw hok hopen hroom hlost hdirty hbase ht
    rw [emit_of_room hopen hroom hlost] at ht
    subst ht
    refine ⟨fun i hi => ?_, fun a ha => ?_, ?_, fun k hk => ?_, putRecord_mem hw hok hdirty ..⟩
    · change tget 0 _ (hostKey w (s.recordAt w + i)) = _
      rw [hostKey_add ((recordAt_le s w).trans hbase) hi, tget_hostMem_putRecord hw hok hdirty hbase, if_pos (by omega),
        Nat.add_sub_cancel_left, State.recordBytes, getD_leBytes _ _ _ hi]
    · rw [tget_hostMem_putRecord hw hok hdirty hbase]
      exact if_neg ha
    · rw [putRecord_rd hw hok hdirty, if_pos rfl]
    · rw [putRecord_rd hw hok hdirty, if_neg hk]
  case full =>
    rintro s t w kind handle detail st hen - hfull rfl
    rw [emit_of_full hen hfull]
    exact ⟨loseEvent_rd_lost s w, loseEvent_frame s w, loseEvent_pods s w⟩
  case timer =>
    rintro dt w since s u rfl hf hus hdue hgrant
    refine ⟨_, execEvrIrqTimer_due hf hus hdue, ?_⟩
    have hpods := raiseMsix_pods (evrIrq_vector_granted hgrant)
    refine ⟨?_, ?_, ?_, ?_⟩
    · rw [hpods, tget_tset_same]
    · rw [hpods, tget_tset_same]
    · rw [hpods, tget_tmod, if_pos rfl]
    · rw [raiseMsix_eq]
      exact Frame.podsOnly _ _
  case enable =>
    rintro dt w v s u rfl hw hig hoff hl hal hq hlost
    have hl4 : bits v.toNat 3 0 < 2 ^ 31 := (Nat.mod_lt _ (by decide)).trans (by decide : 2 ^ 4 < 2 ^ 31)
    obtain ⟨hctrl, hhead, htail⟩ := evrStarted_rd (s := s.tick dt) (w := w) hl4
    exact ⟨_, execEvrEnable_valid hw hig hoff hl hal hq hlost, hctrl, hhead, htail, evrStarted_frame ..⟩
  case head =>
    rintro dt w v s u rfl hig hlost
    have hnone : tget 0 ((s.tick dt).wr (evr w).head v.toNat).pods.lostSince w = 0 := hlost
    have hexec : execEvrHeadWrite dt w v s = .next ((s.tick dt).wr (evr w).head v.toNat) := by
      simp only [execEvrHeadWrite, hig, Bool.false_eq_true, if_false]
      rw [flushLost_of_none hnone]
    refine ⟨_, hexec, ?_, (Frame.refl _ [] [(evr w).head]).wr (by simp) _⟩
    rw [State.rd_wr_same, Nat.mod_eq_of_lt v.isLt]

end Sys2Proof.Machine
end

section
/-!
PROOFS. Free channel indices: which one a CREATE takes, and what giving one back leaves (R47, R49, R484 to R486).
-/
namespace Sys2Proof.Machine

/-! ### Searches -/

theorem findFrom_some {p : Nat → Bool} : ∀ {n i r : Nat}, findFrom p n i = some r → i ≤ r ∧ r < i + n ∧ p r = true
  | n + 1, i, r, h => by
    rw [findFrom] at h
    split at h
    · next hp => cases h; exact ⟨le_rfl, by omega, hp⟩
    · obtain ⟨hlo, hhi, hp⟩ := findFrom_some h
      exact ⟨by omega, by omega, hp⟩

/-- The best so far of `findLeast` after a number was looked at. -/
def bestWith (p : Nat → Bool) (key : Nat → Nat) (i : Nat) (best : Option Nat) : Option Nat :=
  if p i then (match best with | none => some i | some b => if key i < key b then some i else best) else best

theorem findLeast_succ (p : Nat → Bool) (key : Nat → Nat) (n i : Nat) (best : Option Nat) :
    findLeast p key (n + 1) i best = findLeast p key n (i + 1) (bestWith p key i best) := rfl

theorem bestWith_some {p : Nat → Bool} {key : Nat → Nat} {i r : Nat} {best : Option Nat} (h : bestWith p key i best = some r) :
    best = some r ∨ (r = i ∧ p i = true) := by
  revert h
  fun_cases bestWith with
  | case1 hp => rintro ⟨⟩; exact .inr ⟨rfl, hp⟩
  | case2 hp => rintro ⟨⟩; exact .inr ⟨rfl, hp⟩
  | case3 => exact .inl
  | case4 => exact .inl

/-- The best only improves, -/
theorem bestWith_le_best {p : Nat → Bool} {key : Nat → Nat} {i b : Nat} {best : Option Nat} (h : best = some b) :
    ∃ c, bestWith p key i best = some c ∧ key c ≤ key b := by
  fun_cases bestWith with
  | case1 => cases h
  | case2 _ _ hlt => cases h; exact ⟨i, rfl, by omega⟩
  | case3 => exact ⟨b, h, le_rfl⟩
  | case4 => exact ⟨b, h, le_rfl⟩

/-- and is no worse than the number looked at, where `p` holds of it. -/
theorem bestWith_le_self {p : Nat → Bool} {key : Nat → Nat} {i : Nat} (best : Option Nat) (h : p i = true) :
    ∃ c, bestWith p key i best = some c ∧ key c ≤ key i := by
  fun_cases bestWith with
  | case1 => exact ⟨i, rfl, le_rfl⟩
  | case2 => exact ⟨i, rfl, le_rfl⟩
  | case3 _ b hge => exact ⟨b, rfl, by omega⟩
  | case4 _ hp => exact absurd h hp

/-- What `findLeast` answers is the best so far or one of the numbers searched that `p` holds of, and no key of either is below its key. -/
theorem findLeast_some {p : Nat → Bool} {key : Nat → Nat} : ∀ {n i r : Nat} {best : Option Nat}, findLeast p key n i best = some r →
    (best = some r ∨ (i ≤ r ∧ r < i + n ∧ p r = true)) ∧ (∀ b, best = some b → key r ≤ key b)
      ∧ ∀ j, i ≤ j → j < i + n → p j = true → key r ≤ key j
  | 0, i, r, best, h => by
    have hr : best = some r := h
    subst hr
    exact ⟨.inl rfl, fun b hb => by cases hb; rfl, fun j hlo hhi => by omega⟩
  | n + 1, i, r, best, h => by
    rw [findLeast_succ] at h
    obtain ⟨hfrom, hbest, hleast⟩ := findLeast_some h
    refine ⟨?_, fun b hb => ?_, fun j hlo hhi hj => ?_⟩
    · obtain hr | ⟨hlo, hhi, hr⟩ := hfrom
      · exact (bestWith_some hr).imp_right fun ⟨hri, hp⟩ => ⟨by omega, by omega, hri ▸ hp⟩
      · exact .inr ⟨by omega, by omega, hr⟩
    · obtain ⟨c, hc, hle⟩ := bestWith_le_best (p := p) (key := key) (i := i) hb
      exact (hbest c hc).trans hle
    · obtain rfl | hne := eq_or_ne j i
      · obtain ⟨c, hc, hle⟩ := bestWith_le_self (key := key) best hj
        exact (hbest c hc).trans hle
      · exact hleast j (by omega) (by omega) hj

/-! ### The index a CREATE takes -/

/-- The first index of a window's range of a kind, and how many follow (R47, R484). -/
def State.rangeFrom (s : State) (w kind : Nat) : Nat := if w = pfWin then 0 else s.rd (grantReg w kind 0)
def State.rangeSize (s : State) (w kind : Nat) : Nat :=
  if w = pfWin then s.poolSize kind else min (s.rd (grantReg w kind 4)) (s.poolSize kind - s.rangeFrom w kind)

/-- Whether a CREATE may take an index of the range: the VI does not hold more than a lowered grant, no VI's range holds an index the PF takes,
and the index is free (R47, R486). -/
def State.mayTake (s : State) (w kind i : Nat) : Bool :=
  (w == pfWin || !s.rb (viReg w 0x10) (kind - 1)) && (w != pfWin || (s.viRanges kind).all fun r => i < r.1 || r.1 + r.2 ≤ i)
    && (s.chan kind i).phase == .free

/-- When an index was freed (R49). -/
def State.freedAt (s : State) (kind i : Nat) : Nat := tget 0 s.pods.freed (chanKey kind i)

/-- Indices never used come first, then those freed longest ago (R49; log entry 10). -/
theorem pickIndex_eq (s : State) (w kind : Nat) :
    s.pickIndex w kind = match findFrom (fun i => s.mayTake w kind i && s.freedAt kind i == 0) (s.rangeSize w kind) (s.rangeFrom w kind) with
      | some i => some i
      | none => findLeast (s.mayTake w kind) (s.freedAt kind) (s.rangeSize w kind) (s.rangeFrom w kind) none := rfl

/-- The ranges that VIs hold avoid an index just where it lies in no VI's range (R47, R484). -/
theorem viRanges_avoid (s : State) (kind i : Nat) :
    (s.viRanges kind).all (fun r => i < r.1 || r.1 + r.2 ≤ i) = (List.range s.row.vis).all fun v => !s.inViRange v kind i := by
  rw [State.viRanges, List.all_filterMap]
  congr 1
  funext v
  by_cases hn : s.rd (grantReg v kind 4) = 0
  · simp [State.inViRange, hn, lt_or_ge]
  · simp only [State.inViRange, hn, if_false, ← decide_not, not_le, not_lt, Bool.not_and]

/-- What may be taken within the span of a window's range is free and in the range. -/
theorem inRange_of_mayTake {s : State} {w kind i : Nat} (hlo : s.rangeFrom w kind ≤ i) (hhi : i < s.rangeFrom w kind + s.rangeSize w kind)
    (h : s.mayTake w kind i = true) : s.inRange w kind i = true ∧ (s.chan kind i).phase = .free := by
  simp only [State.mayTake, Bool.and_eq_true, beq_iff_eq, viRanges_avoid] at h
  obtain ⟨⟨-, havoid⟩, hfree⟩ := h
  refine ⟨?_, hfree⟩
  by_cases hw : w = pfWin
  · simp only [State.rangeFrom, State.rangeSize, hw, if_true] at hhi
    simpa [State.inRange, hw, show i < s.poolSize kind by omega] using havoid
  · simp only [State.rangeSize, if_neg hw] at hhi
    simp only [State.rangeFrom, if_neg hw] at hlo hhi
    simp [State.inRange, hw, State.inViRange]
    omega

/-- A free index of a window's range lies in its span. -/
theorem span_of_inRange {s : State} {w kind i : Nat} (h : s.inRange w kind i = true) :
    s.rangeFrom w kind ≤ i ∧ i < s.rangeFrom w kind + s.rangeSize w kind := by
  by_cases hw : w = pfWin
  · simp only [State.inRange, hw, if_true, Bool.and_eq_true, decide_eq_true_eq] at h
    simp only [State.rangeFrom, State.rangeSize, hw, if_true]
    omega
  · simp only [State.inRange, if_neg hw, State.inViRange, Bool.and_eq_true, decide_eq_true_eq] at h
    simp only [State.rangeFrom, State.rangeSize, if_neg hw]
    omega

/-- Where one index of a range may be taken, every free one may: what shuts a window out does not hang on the index. -/
theorem mayTake_of_inRange {s : State} {w kind i j : Nat} (hi : s.mayTake w kind i = true) (hj : s.inRange w kind j = true)
    (hfree : (s.chan kind j).phase = .free) : s.mayTake w kind j = true := by
  simp only [State.mayTake, Bool.and_eq_true, viRanges_avoid] at hi ⊢
  obtain ⟨⟨hshrunk, -⟩, -⟩ := hi
  refine ⟨⟨hshrunk, ?_⟩, by simp [hfree]⟩
  by_cases hw : w = pfWin
  · simp only [State.inRange, hw, if_true, Bool.and_eq_true] at hj
    simp only [hj.2, Bool.or_true]
  · simp [hw]

/-- The index a CREATE takes may be taken, lies in the span of the range, and was never freed or is among those freed longest ago (R49). -/
theorem pickIndex_some {s : State} {w kind i : Nat} (h : s.pickIndex w kind = some i) :
    s.rangeFrom w kind ≤ i ∧ i < s.rangeFrom w kind + s.rangeSize w kind ∧ s.mayTake w kind i = true
      ∧ (s.freedAt kind i = 0 ∨ ∀ j, s.rangeFrom w kind ≤ j → j < s.rangeFrom w kind + s.rangeSize w kind → s.mayTake w kind j = true →
          s.freedAt kind i ≤ s.freedAt kind j) := by
  rw [pickIndex_eq] at h
  split at h
  · next r hr =>
    cases h
    obtain ⟨hlo, hhi, hp⟩ := findFrom_some hr
    rw [Bool.and_eq_true, beq_iff_eq] at hp
    exact ⟨hlo, hhi, hp.1, .inl hp.2⟩
  · obtain ⟨hfrom, -, hleast⟩ := findLeast_some h
    obtain hnone | ⟨hlo, hhi, hp⟩ := hfrom
    · cases hnone
    · exact ⟨hlo, hhi, hp, .inr hleast⟩

/-- The index a CREATE takes is in the window's range and free (R47, R49). -/
theorem pickIndex_free {s : State} {w kind i : Nat} (h : s.pickIndex w kind = some i) :
    s.inRange w kind i = true ∧ (s.chan kind i).phase = .free := by
  obtain ⟨hlo, hhi, hmay, -⟩ := pickIndex_some h
  exact inRange_of_mayTake hlo hhi hmay

/-! ### An index given back -/

/-- What giving something back for a VI can change: the registers, and what an event at the PF ring changes (R486). -/
theorem shrinkCheck_only (s : State) (v kind : Nat) :
    ∃ x : State, (∃ r, x = { s with regs := r }) ∧ EventOnly pfWin x (s.shrinkCheck v kind) := by
  fun_cases State.shrinkCheck
  · exact ⟨s, ⟨s.regs, rfl⟩, .refl _ _⟩
  · exact ⟨_, ⟨_, rfl⟩, emitPf_only ..⟩
  · exact ⟨_, ⟨_, rfl⟩, .refl _ _⟩
  · exact ⟨s, ⟨s.regs, rfl⟩, .refl _ _⟩

@[simp] theorem shrinkCheck_pf (s : State) (kind : Nat) : s.shrinkCheck pfWin kind = s := by
  rw [State.shrinkCheck, if_pos rfl]

/-- Channels, memory and fences stay as they are when a VI's shrinking is checked. -/
@[simp] theorem shrinkCheck_keeps (s : State) (v kind : Nat) :
    (s.shrinkCheck v kind).pods.chans = s.pods.chans ∧ (s.shrinkCheck v kind).pods.gens = s.pods.gens ∧
    (s.shrinkCheck v kind).pods.freed = s.pods.freed ∧ (s.shrinkCheck v kind).pods.freeSeq = s.pods.freeSeq ∧
    (s.shrinkCheck v kind).seed = s.seed ∧ (s.shrinkCheck v kind).mem = s.mem ∧ (s.shrinkCheck v kind).display = s.display := by
  obtain ⟨x, ⟨r, rfl⟩, hx⟩ := shrinkCheck_only s v kind
  obtain ⟨-, hchans, hgens, hfreed, hseq, -⟩ := hx.podsFrame
  obtain ⟨hseed, hmem, -⟩ := hx.pf rfl
  have hdisplay := congrArg State.display hx.rest
  exact ⟨hchans, hgens, hfreed, hseq, hseed, hmem, hdisplay⟩

/-- The pods after an index was given back (R49, R62). -/
def podsFreed (p : Pods) (key : Nat) : Pods :=
  { p with chans := tset {} p.chans key {}, freeSeq := p.freeSeq + 1, freed := tset 0 p.freed key (p.freeSeq + 1) }

/-- An index of the PF given back: the pods alone change. -/
theorem freeIndex_pf {s : State} {kind i : Nat} (h : (s.chan kind i).owner = pfWin) :
    s.freeIndex kind i = s.mPods fun p => podsFreed p (chanKey kind i) := by
  simp only [State.freeIndex, h, if_true, shrinkCheck_pf, podsFreed]

/-- An index given back: what becomes of the channels, the order of frees, the memory and the fences (R49, R62). -/
theorem freeIndex_keeps (s : State) (kind i : Nat) :
    (s.freeIndex kind i).pods.chans = tset {} s.pods.chans (chanKey kind i) {} ∧ (s.freeIndex kind i).pods.gens = s.pods.gens ∧
    (s.freeIndex kind i).pods.freeSeq = s.pods.freeSeq + 1 ∧
    (s.freeIndex kind i).pods.freed = tset 0 s.pods.freed (chanKey kind i) (s.pods.freeSeq + 1) ∧
    (s.freeIndex kind i).seed = s.seed ∧ (s.freeIndex kind i).mem = s.mem ∧ (s.freeIndex kind i).display = s.display := by
  simp only [State.freeIndex, shrinkCheck_keeps]
  split <;> simp

/-- Settles O59: a search by the time of freeing finds the least one, and a free stamps the index with a number above all before it. -/
theorem oldestFreeIndexIsAllocated : Obligations.OldestFreeIndexIsAllocated := by
  refine ⟨?pick, ?free⟩
  case pick =>
    intro w kind i u hpick hfreed
    obtain ⟨hlo, hhi, hmay, hage⟩ := pickIndex_some hpick
    obtain ⟨hrange, hfree⟩ := inRange_of_mayTake hlo hhi hmay
    have hpos : 0 < u.freedAt kind i := hfreed i hrange hfree
    have hleast := hage.resolve_left (by omega)
    refine ⟨hrange, hfree, fun j hj hjfree => ?_⟩
    obtain ⟨hjlo, hjhi⟩ := span_of_inRange hj
    exact hleast j hjlo hjhi (mayTake_of_inRange hmay hj hjfree)
  case free =>
    rintro kind i u t hstamps rfl
    obtain ⟨hchans, -, hseq, hfreed, -⟩ := freeIndex_keeps u kind i
    refine ⟨by rw [State.chan, hchans, tget_tset_same], by rw [hfreed, hseq, tget_tset_same], fun k hk => ?_⟩
    have hold : tget 0 (u.freeIndex kind i).pods.freed k = tget 0 u.pods.freed k := by rw [hfreed, tget_tset_ne _ _ hk]
    refine ⟨hold, ?_⟩
    rw [hold, hfreed, tget_tset_same]
    exact Nat.lt_succ_of_le (hstamps k)

end Sys2Proof.Machine
end

section
/-!
PROOFS. Requests to a unit: power, reset, their completion, and spares (R29 to R36, R40, R41).
-/
namespace Sys2Proof.Machine

/-! ### Units and domains -/

theorem mUnit_frame (s : State) (k : Nat) (f : UnitSt → UnitSt) : Frame [.pods] [] s (s.mUnit k f) :=
  (Frame.refl s [.pods] []).mPods (by simp) _

@[simp] theorem mUnit_rd (s : State) (k : Nat) (f : UnitSt → UnitSt) (j : Nat) : (s.mUnit k f).rd j = s.rd j := rfl

/-- The registers, the worlds and the state of power are no part of a unit. -/
@[simp] theorem wr_unit (s : State) (k v u : Nat) : (s.wr k v).unit u = s.unit u := by simp only [State.unit, State.wr_frame]
@[simp] theorem wf_unit (s : State) (k hi lo v u : Nat) : (s.wf k hi lo v).unit u = s.unit u := by simp only [State.unit, State.wf_frame]
@[simp] theorem wb_unit (s : State) (k i : Nat) (b : Bool) (u : Nat) : (s.wb k i b).unit u = s.unit u := by
  simp only [State.unit, State.wb_frame]
@[simp] theorem mWorlds_unit (s : State) (f : Worlds → Worlds) (u : Nat) : (s.mWorlds f).unit u = s.unit u := by
  simp only [State.unit, State.mWorlds_frame]
@[simp] theorem mPower_unit (s : State) (f : PowerSt → PowerSt) (u : Nat) : (s.mPower f).unit u = s.unit u := by
  simp only [State.unit, State.mPower_frame]

/-- An event leaves units. -/
@[simp] theorem emitAt_unit (s : State) (w kind status handle detail time u : Nat) :
    (s.emitAt w kind status handle detail time).unit u = s.unit u := by
  obtain ⟨hunits, -⟩ := (emitAt_only s w kind status handle detail time).podsFrame
  rw [State.unit, hunits, State.unit]

/-- A unit's health as the state names it; no other unit changes (R29). -/
@[simp] theorem setHealth_unit (s : State) (k st j : Nat) :
    (s.setHealth k st).unit j = if j = k then { s.unit k with health := st } else s.unit j := by
  unfold State.setHealth
  split
  · next h =>
    split
    · next hj => rw [hj, ← h]
    · rfl
  · rw [emitAt_unit]
    split <;> simp

/-- CHIP_DIR_GEN is no register of the event a change of health raises (R41, R66). -/
theorem setHealth_rd_dirGen (s : State) (k st : Nat) : (s.setHealth k st).rd 0x104 = s.rd 0x104 := by
  unfold State.setHealth
  split
  · rfl
  · rw [(emitAt_only ..).regs 0x104 (by decide) (by decide) (by decide) (by decide)]
    split <;> rfl

theorem foldl_max_eq {α : Type} (f : α → Nat) {m : Nat} : ∀ l : List α, (∀ x ∈ l, f x ≤ m) → l.foldl (fun a x => max a (f x)) m = m
  | [], _ => rfl
  | x :: l, h => by
    rw [List.foldl_cons, max_eq_left (h x (by simp))]
    exact foldl_max_eq f l fun y hy => h y (by simp [hy])

/-- A domain whose FLOOR is ON is wanted ON (R540). -/
theorem domainWant_of_floor {s : State} {d : Nat} (h : s.floor d = 3) (hon : s.domainState d = 3) : s.domainWant d = 3 := by
  rw [State.domainWant, h, hon, max_eq_left (min_le_right _ _)]
  exact foldl_max_eq _ _ fun u _ => by omega

/-- A domain that is ON and is to be stays ON: it no longer waits, and RESULT reads OK (R540). -/
theorem domainSettle_of_on {s : State} {d : Nat} (hfloor : s.floor d = 3) (hon : s.domainState d = 3) :
    s.domainSettle d = (s.mPower fun p => { p with waiting := p.waiting.filter (· != d) }).domainResult d .ok := by
  simp [State.domainSettle, domainWant_of_floor hfloor hon, hon]

/-- A unit of a domain held ON changed, and its domain settled: the unit, the domain's wait and RESULT. -/
theorem mUnit_domainSettle {s : State} {d k : Nat} (hfloor : s.floor d = 3) (hon : s.domainState d = 3) (f : UnitSt → UnitSt) :
    (∀ j, ((s.mUnit k f).domainSettle d).unit j = if j = k then f (s.unit k) else s.unit j)
      ∧ Frame [.pods, .power] [domainReg d 4] s ((s.mUnit k f).domainSettle d) := by
  rw [domainSettle_of_on (s := s.mUnit k f) hfloor hon]
  refine ⟨fun j => by rw [State.domainResult, wf_unit, mPower_unit, mUnit_unit], ?_⟩
  rw [State.domainResult]
  exact (((Frame.refl s [.pods, .power] [domainReg d 4]).mPods (by simp) _).mPower (by simp) _).wf (by simp) _ _ _

/-! ### Power requests -/

/-- The status of a request to a unit (R33, R34). -/
theorem uif_status (claimed bad busy : Bool) :
    byR19 [(claimed, .claimed), (bad, .badParam), (busy, .busy)]
      = if claimed then .claimed else if bad then .badParam else if busy then .busy else .ok := by
  revert claimed bad busy; decide

/-- A power request to a unit other than the device, which is reached through the PF (R30 to R36). -/
theorem execUifPowerReq_unit {dt k q : Nat} {r : Req} {s u : State} (hu : u = s.tick dt) (hpath : pathWin r.path = pfWin) (hk : k ≠ 0)
    (hat : (u.unitAt k).isSome = true) :
    execUifPowerReq dt r k q s = .next
      (if u.uifClaimed k r then u.mUnit k fun x => { x with powerResult := Status.claimed.code }
       else if 3 < q then u.mUnit k fun x => { x with powerResult := Status.badParam.code }
       else if (u.unit k).state = 7 ∨ (u.unit k).resetBusy = true then u.mUnit k fun x => { x with powerResult := Status.busy.code }
       else u.powerAsk k q) := by
  have hat' : (u.unitAt k).isNone = false := by simpa using hat
  simp only [execUifPowerReq, ← hu, hpath, hat', State.powerState, State.resetting, hk, uif_status, ne_eq, not_true_eq_false,
    Bool.false_eq_true, or_self, if_false, decide_eq_true_eq, Bool.or_eq_true, beq_iff_eq]
  by_cases hc : u.uifClaimed k r = true
  · simp only [hc, if_true]
  · by_cases hq : 3 < q
    · simp only [hc, hq, if_true, if_false, Bool.false_eq_true]
    · by_cases hb : (u.unit k).state = 7 ∨ (u.unit k).resetBusy = true
      · simp only [hc, hq, hb, if_true, if_false, Bool.false_eq_true]
      · simp only [hc, hq, hb, if_false, Bool.false_eq_true]

/-- A request for a unit whose domain is ON is accepted (R34, R540). -/
theorem powerAsk_of_on {s : State} {k q : Nat} (hq : q ≤ 3) (hpresent : s.domainAbsent (s.unitDom k) = false)
    (hon : s.domainState (s.unitDom k) = 3) :
    s.powerAsk k q = (s.mUnit k fun x => { x with req := q, target := q, state := 7, powerResult := Status.ok.code }).domainSettle (s.unitDom k) := by
  simp [State.powerAsk, hpresent, hon, show ¬ 3 < q by omega]

theorem execUifPowerDone_reached {dt k : Nat} {s u : State} (hu : u = s.tick dt) (hstate : (u.unit k).state = 7)
    (hon : u.domainState (u.unitDom k) = 3) (htarget : (u.unit k).target ≤ 3) :
    execUifPowerDone dt k s = .next ((u.mUnit k fun x => { x with state := x.target }).domainSettle (u.unitDom k)) := by
  simp [execUifPowerDone, ← hu, hstate, hon, htarget]

/-! ### Resets -/

theorem execUifResetGo_unit {dt k : Nat} {r : Req} {s u : State} (hu : u = s.tick dt) (hpath : pathWin r.path = pfWin) (hk : k ≠ 0)
    (hat : (u.unitAt k).isSome = true) (hclaim : u.uifClaimed k r = false) (hstate : (u.unit k).state ≠ 7)
    (hbusy : (u.unit k).resetBusy = false) : execUifResetGo dt r k s = .next (u.unitReset k) := by
  have hat' : (u.unitAt k).isNone = false := by simpa using hat
  simp [execUifResetGo, ← hu, hpath, hat', hclaim, State.powerState, State.resetting, hk, hbusy, hstate, byR19]

/-- A unit in reset, whatever it abandoned (R35). -/
theorem unitReset_unit (s : State) (k : Nat) :
    (s.unitReset k).unit k = { (s.unitAbandon k).unit k with
      resetBusy := true, resetResult := Status.ok.code, restarts := satAdd 8 ((s.unitAbandon k).unit k).restarts 1, health := 3 } := by
  simp [State.unitReset]

/-- What a reset's completion does to the units: after BUSY and the health it writes registers alone (R35, R544). -/
theorem resetDone_unit_eq (s : State) (k j : Nat) :
    (s.resetDone k).unit j
      = ((s.mUnit k fun x => { x with resetBusy := false }).setHealth k (if (s.unit k).gaveUp then 4 else 0)).unit j := by
  unfold State.resetDone
  dsimp only
  generalize (s.mUnit k _).setHealth k _ = x
  split
  · split <;> simp only [wf_unit, wb_unit]
  · simp only [wb_unit]
  · simp only [wb_unit]

/-- A unit reset that completes, of a unit not given up: it is OK, and no other unit changes (R35). -/
theorem resetDone_unit {s : State} {k : Nat} (h : (s.unit k).gaveUp = false) (j : Nat) :
    (s.resetDone k).unit j = if j = k then { s.unit k with resetBusy := false, health := 0 } else s.unit j := by
  rw [resetDone_unit_eq, setHealth_unit]
  by_cases hj : j = k <;> simp [hj, h]

theorem execUifResetDone_unit {dt k : Nat} {s u : State} (hu : u = s.tick dt) (hk : k ≠ 0) (hbusy : (u.unit k).resetBusy = true) :
    execUifResetDone dt k s = .next (u.resetDone k) := by
  simp [execUifResetDone, ← hu, hk, hbusy]

/-! ### Spares -/

/-- DIRECTORY_CHANGE puts a spare in a unit's place (R40, R41). -/
def State.spareSwap (s : State) (k p : Nat) : State :=
  let x := s.unit k
  ((((s.setHealth k 0).directoryChange k (some p)).mUnit p fun y =>
      { y with spare := x.health ≤ 1, lastStatus := x.lastStatus, gaveUp := x.gaveUp }).mUnit k fun y => { y with gaveUp := false }).setHealth p
    (if x.health ≤ 1 then 5 else x.health)

theorem execDirectoryChange_spare {dt k p : Nat} {s u : State} (hu : u = s.tick dt) (hspare : (u.unit p).spare = true) :
    execDirectoryChange dt k (some p) s = .next (u.spareSwap k p) := by
  simp only [execDirectoryChange, ← hu, hspare, if_true, State.spareSwap]

/-- Where a unit and a spare that shows itself change places, the entries name each other's places (R40). -/
theorem directoryChange_unit {s : State} {k p : Nat} (hmoved : (s.unit p).uifMoved = 0) (hkp : k ≠ p) (j : Nat) :
    (s.directoryChange k (some p)).unit j =
      if j = k then { s.unit k with uifMoved := p + 1 } else if j = p then { s.unit p with spare := false, uifMoved := k + 1 } else s.unit j := by
  simp only [State.directoryChange, State.incr, wr_unit, mUnit_unit, hmoved, if_true, if_neg hkp]

theorem directoryChange_rd (s : State) (k : Nat) (p : Option Nat) : (s.directoryChange k p).rd 0x104 = (s.rd 0x104 + 1) % 2 ^ 32 := by
  cases p <;> simp only [State.directoryChange, State.incr, State.rd_wr_same, mUnit_rd]

/-- Every unit after a spare took a unit's place (R40, R41). -/
theorem spareSwap_unit {s : State} {k p : Nat} (hkp : k ≠ p) (hmoved : (s.unit p).uifMoved = 0) (j : Nat) :
    (s.spareSwap k p).unit j =
      if j = p then { s.unit p with spare := decide ((s.unit k).health ≤ 1), uifMoved := k + 1, lastStatus := (s.unit k).lastStatus,
                                    gaveUp := (s.unit k).gaveUp, health := if (s.unit k).health ≤ 1 then 5 else (s.unit k).health }
      else if j = k then { s.unit k with uifMoved := p + 1, health := 0, gaveUp := false }
      else s.unit j := by
  have hpk : p ≠ k := Ne.symm hkp
  have hmoved' : ((s.setHealth k 0).unit p).uifMoved = 0 := by rw [setHealth_unit, if_neg hpk, hmoved]
  simp only [State.spareSwap, setHealth_unit, mUnit_unit, directoryChange_unit hmoved' hkp, if_neg hkp, if_neg hpk, if_true]
  by_cases hj : j = p
  · simp [hj]
  · by_cases hjk : j = k <;> simp [hj, hjk]

theorem spareSwap_rd (s : State) (k p : Nat) : (s.spareSwap k p).rd 0x104 = (s.rd 0x104 + 1) % 2 ^ 32 := by
  rw [State.spareSwap, setHealth_rd_dirGen, mUnit_rd, mUnit_rd, directoryChange_rd, setHealth_rd_dirGen]

/-- Settles O9 (log entries 15 and 55): a domain whose FLOOR is ON stays ON whatever is asked of a unit in it, so a unit in TRANSITION reaches
what was asked. -/
theorem unitRequests : Obligations.UnitRequests := by
  refine ⟨?accept, ?refuse, ?reached, ?resetGo, ?resetDone, ?spare⟩
  case accept =>
    intro dt k q r s u hu hpath hk hat hq hclaim hstate hbusy hpresent hon hfloor
    obtain ⟨hunit, hframe⟩ := mUnit_domainSettle (k := k) hfloor hon
      fun x => { x with req := q, target := q, state := 7, powerResult := Status.ok.code }
    refine ⟨_, ?_, by rw [hunit, if_pos rfl], fun j hj => by rw [hunit, if_neg hj], hframe⟩
    have hbusy' : ¬ ((u.unit k).state = 7 ∨ (u.unit k).resetBusy = true) := by simp [hstate, hbusy]
    rw [← powerAsk_of_on hq hpresent hon]
    change execUifPowerReq dt r k q s = _
    rw [execUifPowerReq_unit hu hpath hk hat, if_neg (by simp [hclaim]), if_neg (by omega), if_neg hbusy']
  case refuse =>
    intro dt k q r s u hu hpath hk hat hbad
    refine ⟨u.mUnit k fun x => { x with powerResult := (if u.uifClaimed k r then Status.claimed else if 3 < q then .badParam else .busy).code },
      ?_, by rw [mUnit_unit, if_pos rfl], fun j hj => by rw [mUnit_unit, if_neg hj], mUnit_frame ..⟩
    change execUifPowerReq dt r k q s = _
    rw [execUifPowerReq_unit hu hpath hk hat]
    by_cases hc : u.uifClaimed k r = true
    · simp only [if_pos hc]
    · by_cases hq : 3 < q
      · simp only [if_neg hc, if_pos hq]
      · have hbusy : (u.unit k).state = 7 ∨ (u.unit k).resetBusy = true := (hbad.resolve_left hc).resolve_left hq
        simp only [if_neg hc, if_neg hq, if_pos hbusy]
  case reached =>
    intro dt k s u hu hstate hon hfloor htarget
    obtain ⟨hunit, hframe⟩ := mUnit_domainSettle (k := k) hfloor hon fun x => { x with state := x.target }
    exact ⟨_, execUifPowerDone_reached hu hstate hon htarget, by rw [hunit, if_pos rfl], fun j hj => by rw [hunit, if_neg hj], hframe⟩
  case resetGo =>
    intro dt k r s u hu hpath hk hat hclaim hstate hbusy
    refine ⟨_, execUifResetGo_unit hu hpath hk hat hclaim hstate hbusy, ?_⟩
    rw [unitReset_unit]
    exact ⟨rfl, rfl, rfl⟩
  case resetDone =>
    intro dt k s u hu hk hbusy hgave
    refine ⟨_, execUifResetDone_unit hu hk hbusy, ?_, fun j hj => ?_⟩
    · rw [resetDone_unit hgave, if_pos rfl]
    · rw [resetDone_unit hgave, if_neg hj]
  case spare =>
    intro dt k p s u hu hkp hspare hmoved
    refine ⟨_, execDirectoryChange_spare hu hspare, ?_, ?_, spareSwap_rd u k p, fun j hjk hjp => ?_⟩
    · rw [spareSwap_unit hkp hmoved, if_pos rfl]
    · rw [spareSwap_unit hkp hmoved, if_neg hkp, if_pos rfl]
    · rw [spareSwap_unit hkp hmoved, if_neg hjp, if_neg hjk]

end Sys2Proof.Machine
end

section
/-!
PROOFS. Rings: enabling, disabling, doorbells and the reading of entries (R51 to R60, R563, R595, R598).
-/
namespace Sys2Proof.Machine

/-! ### The registers of a ring -/

/-- A write of RING_CTRL leaves RING_BASE and RING_BIND (R51). -/
theorem rd64_ringBase_wr_ctrl (s : State) (w n v : Nat) : (s.wr (ringCtrl w n) v).rd64 (ringBase w n) = s.rd64 (ringBase w n) := by
  rw [State.rd64, State.rd_wr_ne _ (by unfold ringBase ringCtrl; omega), State.rd_wr_ne _ (by unfold ringBase ringCtrl; omega), State.rd64]

theorem rd_ringBind_wr_ctrl (s : State) (w n v : Nat) : (s.wr (ringCtrl w n) v).rd (ringBind w n) = s.rd (ringBind w n) :=
  State.rd_wr_ne _ (by unfold ringBind ringCtrl; omega)

/-- RING_BIND alone says what channel a ring has (R51, R63). -/
theorem ringChan_congr {s t : State} {w n : Nat} (h : t.rd (ringBind w n) = s.rd (ringBind w n)) : t.ringChan w n = s.ringChan w n := by
  simp only [State.ringChan, h]

/-- The state a ring is enabled in: ENABLE set over LOG2, HEAD and TAIL 0 (R53). -/
def State.ringStarted (s : State) (w n l : Nat) : State :=
  (((s.wr (ringCtrl w n) l).wb (ringCtrl w n) 31 true).wr (ringHead w n) 0).wr (ringTail w n) 0

theorem ringStarted_frame (s : State) (w n l : Nat) : Frame [] [ringCtrl w n, ringHead w n, ringTail w n] s (s.ringStarted w n l) :=
  ((((Frame.refl s [] _).wr (by simp) l).wb (by simp) 31 true).wr (by simp) 0).wr (by simp) 0

theorem ringStarted_rd {s : State} {w n l : Nat} (hl : l < 2 ^ 31) :
    (s.ringStarted w n l).rd (ringCtrl w n) = 2 ^ 31 + l ∧ (s.ringStarted w n l).rd (ringHead w n) = 0
      ∧ (s.ringStarted w n l).rd (ringTail w n) = 0 := by
  have hhead : ringHead w n = ringCtrl w n + 4 := by unfold ringHead ringCtrl; omega
  have htail : ringTail w n = ringCtrl w n + 8 := by unfold ringTail ringCtrl; omega
  refine ⟨?_, ?_, ?_⟩ <;> rw [State.ringStarted]
  · rw [State.rd_wr_ne _ (by omega), State.rd_wr_ne _ (by omega), State.wb, State.wf, State.rd_wr_same, State.rd_wr_same,
      Nat.mod_eq_of_lt (show l < 2 ^ 32 by omega), b2n, if_pos rfl, setBits_enable hl, Nat.mod_eq_of_lt (by omega)]
  · rw [State.rd_wr_ne _ (by omega), State.rd_wr_same, Nat.zero_mod]
  · rw [State.rd_wr_same, Nat.zero_mod]

theorem ringStarted_ringChan (s : State) (w n l : Nat) : (s.ringStarted w n l).ringChan w n = s.ringChan w n :=
  ringChan_congr ((ringStarted_frame s w n l).regs _ (by simp [ringBind, ringCtrl, ringHead, ringTail]))

/-! ### Enabling and disabling -/

/-- What RING_CTRL with a LOG2 stored says of the ring (R53). -/
theorem ringValid_wr_ctrl (s : State) (w n : Nat) (v : Word) :
    (s.wr (ringCtrl w n) (bits v.toNat 3 0)).ringValid w n = true ↔
      4 ≤ bits v.toNat 3 0 ∧ s.rd64 (ringBase w n) % max 4096 (2 ^ bits v.toNat 3 0 * 32) = 0 ∧ (n = 0 ∨ s.rd (ringBind w n) ≠ 0) := by
  have hl : (s.wr (ringCtrl w n) (bits v.toNat 3 0)).rf (ringCtrl w n) 3 0 = bits v.toNat 3 0 := by
    rw [State.rf, State.rd_wr_same]
    simp only [bits]
    omega
  simp [State.ringValid, hl, rd64_ringBase_wr_ctrl, rd_ringBind_wr_ctrl, and_assoc]

/-- What enabling a ring does to what it is bound to: a queue starts again (R278). -/
def State.boundStart (s : State) : Option (Nat × Nat) → State
  | some (kind, i) => if kind = kCheck then s else s.queueRestart (chanKey kind i)
  | none => s

/-- RING_ENABLE of a disabled ring that is valid (R53, R64, R278). -/
theorem execRingEnable_valid {dt w n : Nat} {v : Word} {s u : State} (hu : u = s.tick dt) (hig : u.winIgnores w = false)
    (hoff : u.rb (ringCtrl w n) 31 = false) (hvalid : (u.wr (ringCtrl w n) (bits v.toNat 3 0)).ringValid w n = true) :
    execRingEnable dt w n v s = .next ((u.ringStarted w n (bits v.toNat 3 0)).boundStart (u.ringChan w n)) := by
  rw [← ringStarted_ringChan u w n (bits v.toNat 3 0)]
  simp only [execRingEnable, ← hu, hig, hoff, Bool.or_self, Bool.false_eq_true, if_false, hvalid, if_true, State.ringStarted]
  generalize (((u.wr (ringCtrl w n) _).wb (ringCtrl w n) 31 true).wr (ringHead w n) 0).wr (ringTail w n) 0 = t
  cases t.ringChan w n <;> rfl

theorem execRingEnable_invalid {dt w n : Nat} {v : Word} {s u : State} (hu : u = s.tick dt) (hig : u.winIgnores w = false)
    (hoff : u.rb (ringCtrl w n) 31 = false) (hvalid : (u.wr (ringCtrl w n) (bits v.toNat 3 0)).ringValid w n = false) :
    execRingEnable dt w n v s = .next (((u.wr (ringCtrl w n) (bits v.toNat 3 0)).raise (ringStatus w n) 3).submitFault w n) := by
  simp only [execRingEnable, ← hu, hig, hoff, Bool.or_self, Bool.false_eq_true, if_false, hvalid]

/-- RING_CTRL with ENABLE cleared: the other bits are as before (R53). -/
theorem ringCtrl_disabled (s : State) (k : Nat) :
    (s.wb k 31 false).rb k 31 = false ∧ (s.wb k 31 false).rf k 30 0 = s.rf k 30 0 := by
  have hlt := s.rd_lt k
  have hrd : (s.wb k 31 false).rd k = s.rd k % 2 ^ 31 := by
    rw [State.wb, State.wf, State.rd_wr_same, setBits, b2n]
    simp
    omega
  refine ⟨?_, ?_⟩
  · rw [State.rb, hrd, bit, Nat.testBit_mod_two_pow]
    simp
  · rw [State.rf, State.rf, hrd]
    simp only [bits]
    omega

theorem execRingDisable_enabled {dt w n : Nat} {v : Word} {hosts : List HostRun} {s u : State} (hu : u = s.tickMem dt hosts)
    (hig : u.winIgnores w = false) (hon : u.rb (ringCtrl w n) 31 = true) :
    execRingDisable dt w n v hosts s = .next (u.ringStop w n hosts) := by
  simp only [execRingDisable, ← hu, hig, hon, Bool.false_eq_true, if_false, if_true]

/-- What disabling ring `n` of window `w` does to what it is bound to (R271, R278). -/
def State.boundStop (s : State) (w n : Nat) (hosts : List HostRun) : Option (Nat × Nat) → State
  | some (kind, i) => if kind = kCheck then s.ringAbandon (entRing w n) else s.queueStop (chanKey kind i) hosts
  | none => s

/-- An equation between functions: at an application the kernel would evaluate the word of RING_BIND that the body looks at. -/
theorem ringStop_def : State.ringStop = fun s w n hosts =>
    (s.wb (ringCtrl w n) 31 false).boundStop w n hosts ((s.wb (ringCtrl w n) 31 false).ringChan w n) := by
  delta State.ringStop
  funext s w n hosts
  generalize s.wb (ringCtrl w n) 31 false = t
  dsimp only
  cases t.ringChan w n <;> rfl

theorem ringStop_eq (s : State) (w n : Nat) (hosts : List HostRun) :
    s.ringStop w n hosts = (s.wb (ringCtrl w n) 31 false).boundStop w n hosts (s.ringChan w n) := by
  have hbind : (s.wb (ringCtrl w n) 31 false).ringChan w n = s.ringChan w n :=
    ringChan_congr (by rw [State.wb, State.wf, rd_ringBind_wr_ctrl])
  rw [ringStop_def]
  dsimp only
  rw [hbind]

/-- A ring that is not enabled takes LOG2 (R53). -/
theorem execRingDisable_disabled {dt w n : Nat} {v : Word} {hosts : List HostRun} {s u : State} (hu : u = s.tickMem dt hosts)
    (hig : u.winIgnores w = false) (hoff : u.rb (ringCtrl w n) 31 = false) :
    execRingDisable dt w n v hosts s = .next (u.wr (ringCtrl w n) (bits v.toNat 3 0)) := by
  simp only [execRingDisable, ← hu, hig, hoff, Bool.false_eq_true, if_false]

/-! ### Doorbells and entries -/

theorem execRingDoorbell_enabled {dt w n : Nat} {v : Word} {s u : State} (hu : u = s.tick dt) (hdead : u.winDead w = false)
    (hon : u.rb (ringCtrl w n) 31 = true) :
    execRingDoorbell dt w n v s =
      if (v.toNat + 2 ^ 32 - u.rd (ringHead w n)) % 2 ^ 32 ≤ 2 ^ u.rf (ringCtrl w n) 3 0 then .next (u.wr (ringTail w n) v.toNat)
      else .next ((u.raise (ringStatus w n) (if (v.toNat + 2 ^ 32 - u.rd (ringHead w n)) % 2 ^ 32 < 2 ^ 31 then 0 else 1)).submitFault w n) := by
  simp only [execRingDoorbell, ← hu, hdead, hon, Bool.not_true, Bool.or_self, Bool.false_eq_true, if_false]

/-- Whether a ring's next entry is read: its window is in service, it is enabled and not empty, new work is taken, and of the control ring no entry
is in process (R56, R60, R563, R595, R598, R608). -/
def State.ringReads (s : State) (w n : Nat) : Bool :=
  !(s.winIgnores w || s.noWork || s.mgrHand || !s.rb (ringCtrl w n) 31 || s.rd (ringHead w n) == s.rd (ringTail w n)
    || (n == 0 && ((tget none s.pods.ctl w).isSome || s.mgrDown)))

/-- The next entry's 32 bytes, where they are to be had (R54, R57). -/
def State.ringNext (s : State) (w n : Nat) (hosts : List HostRun) : Option Bytes :=
  if s.hostOk w then runAt hosts w (2 ^ 63 + s.ringEntry w n (s.rd (ringHead w n)) % 2 ^ 63) 32 else none

theorem execRingEntryFetch_idle {dt w n : Nat} {hosts : List HostRun} {s u : State} (hu : u = s.tickMem dt hosts)
    (h : u.ringReads w n = false) : execRingEntryFetch dt w n hosts s = .next u := by
  rw [State.ringReads, Bool.not_eq_false'] at h
  simp only [execRingEntryFetch, ← hu, h, if_true]

theorem execRingEntryFetch_fault {dt w n : Nat} {hosts : List HostRun} {s u : State} (hu : u = s.tickMem dt hosts)
    (h : u.ringReads w n = true) (hnone : u.ringNext w n hosts = none) :
    execRingEntryFetch dt w n hosts s = .next (((u.wb (ringCtrl w n) 31 false).raise (ringStatus w n) 2).submitFault w n) := by
  rw [State.ringReads, Bool.not_eq_true'] at h
  rw [State.ringNext] at hnone
  simp only [execRingEntryFetch, ← hu, h, hnone, Bool.false_eq_true, if_false]

theorem execRingEntryFetch_entry {dt w n : Nat} {hosts : List HostRun} {s u : State} {b : Bytes} (hu : u = s.tickMem dt hosts)
    (h : u.ringReads w n = true) (hsome : u.ringNext w n hosts = some b) :
    execRingEntryFetch dt w n hosts s = .next (if n = 0 then (u.incr (ringHead w n)).takeControl w (u.rd (ringHead w n)) b
      else (u.incr (ringHead w n)).takeEntry w n (u.rd (ringHead w n)) b) := by
  rw [State.ringReads, Bool.not_eq_true'] at h
  rw [State.ringNext] at hsome
  simp only [execRingEntryFetch, ← hu, h, hsome, Bool.false_eq_true, if_false]

/-- An entry of the control ring for another VI is dropped (R59). -/
theorem takeControl_spoof {s : State} {w seq : Nat} {b : Bytes} (h : (ctlFields b).vi ≠ viField w) :
    s.takeControl w seq b = s.spoofDrop w 0x01 := by
  simp only [State.takeControl, if_pos h]

/-- The control entry of a ring entry (R58). -/
def CtlFields.entry (f : CtlFields) : CtlEntry := ⟨false, f.opcode, f.kind, f.tag, f.handle, f.paramAddr, f.paramLen, f.ring⟩

/-- An entry of the control ring that is right goes into process (R58, R60). -/
theorem takeControl_good {s : State} {w seq : Nat} {b : Bytes} (hvi : (ctlFields b).vi = viField w) (hseq : (ctlFields b).seq = seq)
    (hgood : ctlBad (ctlFields b) = false) :
    s.takeControl w seq b = s.mPods fun p => { p with ctl := tset none p.ctl w (some (ctlFields b).entry) } := by
  simp only [State.takeControl, hvi, hseq, hgood, ne_eq, not_true_eq_false, if_false, Bool.false_eq_true, CtlFields.entry]

/-- Settles O10 (log entry 18): each command of a ring has one equation per case, and RING_CTRL, HEAD, TAIL and RING_BIND are four words. -/
theorem rings : Obligations.Rings := by
  refine ⟨?enable, ?enableBad, ?disable, ?storeLog2, ?doorbell, ?doorbellBad, ?control, ?fault, ?noWork⟩
  case enable =>
    intro dt w n v s u hu hig hoff hl hal hbind
    have hl4 : bits v.toNat 3 0 < 2 ^ 31 := (Nat.mod_lt _ (by decide)).trans (by decide : 2 ^ 4 < 2 ^ 31)
    have hexec := execRingEnable_valid hu hig hoff ((ringValid_wr_ctrl u w n v).mpr ⟨hl, hal, hbind⟩)
    obtain ⟨hctrl, hhead, htail⟩ := ringStarted_rd (s := u) (w := w) (n := n) hl4
    refine ⟨_, hctrl, hhead, htail, ringStarted_frame .., fun h => ?_, fun i h => ?_, fun k i h hk => ?_⟩ <;> rw [h, State.boundStart] at hexec
    · exact hexec
    · rwa [if_pos rfl] at hexec
    · rwa [if_neg hk] at hexec
  case enableBad =>
    intro dt w n v s u hu hig hoff hl
    have hbad : (u.wr (ringCtrl w n) (bits v.toNat 3 0)).ringValid w n = false := by
      rw [Bool.eq_false_iff, ne_eq, ringValid_wr_ctrl]
      omega
    exact execRingEnable_invalid hu hig hoff hbad
  case disable =>
    intro dt w n v hosts s u hu hig hon
    have hexec := execRingDisable_enabled (v := v) hu hig hon
    rw [ringStop_eq] at hexec
    obtain ⟨hen, hrest⟩ := ringCtrl_disabled u (ringCtrl w n)
    refine ⟨_, hen, hrest, (Frame.refl u [] [ringCtrl w n]).wb (by simp) 31 false, fun h => ?_, fun i h => ?_, fun k i h hk => ?_⟩ <;>
      rw [h, State.boundStop] at hexec
    · exact hexec
    · rwa [if_pos rfl] at hexec
    · rwa [if_neg hk] at hexec
  case storeLog2 => exact fun dt w n v hosts s u hu hig hoff => execRingDisable_disabled hu hig hoff
  case doorbell =>
    intro dt w n v s u hu hdead hon hd
    refine ⟨_, (execRingDoorbell_enabled hu hdead hon).trans (if_pos hd), ?_, (Frame.refl u [] [ringTail w n]).wr (by simp) _⟩
    rw [State.rd_wr_same, Nat.mod_eq_of_lt v.isLt]
  case doorbellBad =>
    rintro dt w n d v s u hu hdead hon rfl hd
    exact (execRingDoorbell_enabled hu hdead hon).trans (if_neg (by omega))
  case control =>
    rintro dt w b f hosts s u hu hig hok hwork hhand hrun hon hne hctl hmgr rfl hgood
    have hreads : u.ringReads w 0 = true := by simp [State.ringReads, hig, hwork, hhand, hon, hne, hctl, hmgr]
    have hnext : u.ringNext w 0 hosts = some b := by rw [State.ringNext, if_pos hok, hrun]
    have hexec := (execRingEntryFetch_entry hu hreads hnext).trans (by rw [if_pos rfl])
    have hhead : (u.incr (ringHead w 0)).rd (ringHead w 0) = (u.rd (ringHead w 0) + 1) % 2 ^ 32 := State.rd_wr_same ..
    have hframe : Frame [.pods] [ringHead w 0] u (u.incr (ringHead w 0)) := (Frame.refl ..).incr (by simp)
    by_cases hvi : (ctlFields b).vi = viField w
    · obtain ⟨hseq, hfields⟩ := hgood hvi
      rw [takeControl_good hvi hseq hfields] at hexec
      refine ⟨_, ?_, hframe.mPods (by simp) _, fun _ => ⟨hexec, ?_⟩, fun h => absurd hvi h⟩
      · rw [State.mPods_rd, hhead]
      · rw [State.mPods_pods, tget_tset_same]
        rfl
    · rw [takeControl_spoof hvi] at hexec
      exact ⟨_, hhead, hframe, fun h => absurd h hvi, fun _ => hexec⟩
  case fault =>
    intro dt w n hosts s u hu hig hn hon hne hwork hhand hrun
    have hreads : u.ringReads w n = true := by simp [State.ringReads, hig, hwork, hhand, hon, hne, hn]
    have hnext : u.ringNext w n hosts = none := by
      rw [State.ringNext]
      split
      · exact hrun ‹_›
      · rfl
    exact execRingEntryFetch_fault hu hreads hnext
  case noWork =>
    intro dt w n k hosts s u hu hstop
    have hreads : u.ringReads w n = false := by
      obtain h | h := hstop <;> simp [State.ringReads, h]
    exact ⟨execRingEntryFetch_idle hu hreads, rfl⟩

end Sys2Proof.Machine
end

section
/-!
PROOFS. The control ring: CREATE of a fence, BIND_RING, UNBIND_RING, QUERY and DESTROY (R47 to R49, R60 to R65, R277).
-/
namespace Sys2Proof.Machine

/-! ### Bytes and numbers -/

theorem bits_low {v n : Nat} (h : v < 2 ^ (n + 1)) : bits v n 0 = v := by
  rw [bits, pow_zero, Nat.div_one, Nat.sub_zero, Nat.mod_eq_of_lt h]

/-- A device address in host memory (R75). -/
theorem isHost_two_pow (a : Nat) : isHost (2 ^ 63 + a % 2 ^ 63) = true := by
  have h := Nat.testBit_two_pow_add_eq (a % 2 ^ 63) 63
  rw [Nat.testBit_mod_two_pow] at h
  rw [isHost, bit, h]
  simp

/-! ### Parameter blocks and control entries -/

/-- The parameter block of a control entry, read in full from host memory (R58, R76). -/
theorem params_host {s : State} {w : Nat} (hok : s.hostOk w = true) (e : CtlEntry) {b : Bytes} (hlen : b.length = e.paramLen) :
    s.params w e (some b) = (some b, s) := by
  rw [State.params, State.fetch, if_pos (isHost_two_pow _), if_pos hok]
  dsimp only
  rw [List.take_of_length_le hlen.le, hlen, Nat.sub_self, List.replicate_zero, List.append_nil]

/-- A control entry that waits is in process, and not a CREATE that was begun (R60). -/
theorem ctlWaits_some {s : State} {w op kind : Nat} {e : CtlEntry} (h : s.ctlWaits w op kind = some e) :
    tget none s.pods.ctl w = some e ∧ e.begun = false := by
  rw [State.ctlWaits] at h
  split at h
  · next f hf =>
    split at h
    · next hc => cases h; exact ⟨hf, by simpa using hc.1⟩
    · cases h
  · cases h

/-! ### Taking an index -/

/-- An index taken: what becomes of the channels, and what stays (R49, R485). -/
theorem takeIndex_keeps (s : State) (w kind i : Nat) (ph : ChanPhase) :
    (s.takeIndex w kind i ph).pods.chans = tset {} s.pods.chans (chanKey kind i) ⟨ph, w⟩ ∧ (s.takeIndex w kind i ph).pods.gens = s.pods.gens ∧
    (s.takeIndex w kind i ph).pods.ctl = s.pods.ctl ∧ (s.takeIndex w kind i ph).seed = s.seed ∧
    (s.takeIndex w kind i ph).display = s.display := by
  unfold State.takeIndex
  split <;> simp

/-- The channel at the index taken (R49). -/
theorem takeIndex_chan (s : State) (w kind i : Nat) (ph : ChanPhase) : (s.takeIndex w kind i ph).chan kind i = ⟨ph, w⟩ := by
  obtain ⟨hchans, -⟩ := takeIndex_keeps s w kind i ph
  rw [State.chan, hchans, tget_tset_same]

/-- Taking an index changes the channel's record, and of a VI the count of its grant (R485). -/
theorem takeIndex_frame {s t : State} {ps : List Part} {ks : List Nat} (h : Frame ps ks s t) (hp : Part.pods ∈ ps) {w kind : Nat}
    (hk : w ≠ pfWin → grantReg w kind 8 ∈ ks) (i : Nat) (ph : ChanPhase) : Frame ps ks s (t.takeIndex w kind i ph) := by
  unfold State.takeIndex
  split
  · exact h.mPods hp _
  · next hw => exact (h.mPods hp _).wr (hk hw) _

/-- Whether a channel is draining, and its index's generation, make its handle (R45, R62). -/
theorem handleWord_of_gen {s : State} {kind i : Nat} (h : ∀ tag, (s.chan kind i).phase ≠ .draining tag) :
    s.handleWord kind i = (Handle.mk kind (s.gen kind i) i).word := by
  unfold State.handleWord
  cases hph : (s.chan kind i).phase with
  | draining tag => exact absurd hph (h tag)
  | _ => simp

/-- A free index is taken live: the handle of the new channel is the one its index had (R45, R48). -/
theorem takeIndex_handleWord {s : State} {w kind i : Nat} (hfree : (s.chan kind i).phase = .free) :
    (s.takeIndex w kind i .live).handleWord kind i = s.handleWord kind i := by
  obtain ⟨-, hgens, -⟩ := takeIndex_keeps s w kind i .live
  rw [handleWord_of_gen (by simp [takeIndex_chan]), handleWord_of_gen (by simp [hfree]), State.gen, State.gen, hgens]

/-! ### CREATE of a fence -/

/-- A fence given its value and mirror address (R179). -/
def State.withFence (s : State) (i : Nat) (f : FenceSt) : State := s.mDisplay fun d => { d with fences := tset {} d.fences i f }

theorem withFence_fence (s : State) (i : Nat) (f : FenceSt) : (s.withFence i f).fence i = f := by
  rw [State.withFence, State.fence, State.mDisplay_display, tget_tset_same]

/-- CREATE of a fence with a value alone, for a window that has an index for it (R49, R179). -/
theorem execCreateFence_ok {dt w i : Nat} {e : CtlEntry} {b : Bytes} {s u : State} (hu : u = s.tick dt) (hwait : u.ctlWaits w 1 kFence = some e)
    (hlen : e.paramLen = 16) (hb : b.length = 16) (hval : leNat b < 2 ^ 64) (hok : u.hostOk w = true) (hpick : u.pickIndex w kFence = some i) :
    execCreateFence dt w (some b) s = .next ((u.withFence i ⟨leNat b, 0⟩).createDone w e kFence i) := by
  have hmirror : bits (leNat b) 127 64 = 0 := by
    rw [bits, Nat.div_eq_of_lt hval, Nat.zero_mod]
  have hvalid : ¬ (False ∨ ¬ isHost 0 = true ∧ highSet 0 = true) := by decide
  simp only [execCreateFence, ← hu, hwait, hlen, ne_eq, not_true_eq_false, if_false, params_host hok e (hb.trans hlen.symm), hmirror, hpick,
    bits_low hval]
  rw [if_neg hvalid]
  rfl

/-! ### BIND_RING, UNBIND_RING and QUERY -/

/-- BIND_RING of a handle of the window's function (R63, R277). -/
theorem execBindRing_handle {dt w kind i : Nat} {e : CtlEntry} {s u : State} (hu : u = s.tick dt) (hwait : u.ctlWaits w 3 0 = some e)
    (hhandle : u.ctlHandle w e = .ok (kind, i)) :
    execBindRing dt w s = .next
      (if !ringKind kind then u.ctlDone w e .badHandle e.handle
       else if u.rb (ringCtrl w e.ring) 31 || u.rd (ringBind w e.ring) != 0 || (kind != kCheck && u.boundTo w e.handle) then
         u.ctlDone w e .badState e.handle
       else (u.wr (ringBind w e.ring) e.handle).ctlDone w e .ok e.handle) := by
  simp only [execBindRing, ← hu, hwait, hhandle]
  split
  · rfl
  · split <;> rfl

/-- UNBIND_RING of a ring that is bound and disabled (R64). -/
theorem execUnbindRing_bound {dt w : Nat} {e : CtlEntry} {s u : State} (hu : u = s.tick dt) (hwait : u.ctlWaits w 4 0 = some e)
    (hoff : u.rb (ringCtrl w e.ring) 31 = false) (hbound : u.rd (ringBind w e.ring) ≠ 0) :
    execUnbindRing dt w s = .next ((u.wr (ringBind w e.ring) 0).ctlDone w e .ok e.handle) := by
  simp only [execUnbindRing, ← hu, hwait, hoff, beq_eq_false_iff_ne.mpr hbound, Bool.or_self, Bool.false_eq_true, if_false]

/-- A store to host memory of a window in service whose writes are not logged (R476, R504). -/
theorem store_host {s : State} {w : Nat} (hdead : s.winDead w = false) (hok : s.hostOk w = true) (hdirty : tget none s.vims.dirty w = none)
    (cls a : Nat) (bs : Bytes) :
    s.store w cls (2 ^ 63 + a % 2 ^ 63) bs = (true, s.hostWrite w (2 ^ 63 + a % 2 ^ 63) bs) := by
  have hlog : ∀ h, tget none (s.withHost h).vims.dirty w = none := fun _ => hdirty
  rw [State.store, hdead, if_neg Bool.false_ne_true, if_pos (isHost_two_pow a), if_pos hok, hostWrite_of_ok hok, markDirty_of_unlogged (hlog _)]

/-- QUERY of a fence writes its value (R65, R180). -/
theorem execQuery_fence {dt w i : Nat} {e : CtlEntry} {s u : State} (hu : u = s.tick dt) (hwait : u.ctlWaits w 5 0 = some e)
    (hhandle : u.ctlHandle w e = .ok (kFence, i)) (hlen : 8 ≤ e.paramLen) (hdead : u.winDead w = false) (hok : u.hostOk w = true)
    (hdirty : tget none u.vims.dirty w = none) :
    execQuery dt w s
      = .next ((u.hostWrite w (2 ^ 63 + e.paramAddr % 2 ^ 63) (leBytes (u.fence i).value 8)).ctlDone w e .ok e.handle) := by
  have hblock : u.chanQuery kFence i = leBytes (u.fence i).value 8 := rfl
  simp only [execQuery, ← hu, hwait, hhandle, hblock, length_leBytes, store_host hdead hok hdirty]
  rw [if_neg (by omega)]

/-! ### DESTROY -/

/-- Where no ring is bound to a handle none is unbound (R62). -/
theorem unbindAll_of_unbound {s : State} {w handle : Nat} (h : ∀ n, n < 256 → s.rd (ringBind w n) ≠ handle) : s.unbindAll w handle = s := by
  have hfold : ∀ l : List Nat, (∀ n ∈ l, n < 256) → l.foldl (fun s n =>
      if n ≠ 0 ∧ s.rd (ringBind w n) = handle then (s.wb (ringCtrl w n) 31 false).wr (ringBind w n) 0 else s) s = s := by
    intro l hl
    induction l with
    | nil => rfl
    | cons n l ih =>
      rw [List.foldl_cons, if_neg fun hn => h n (hl n (by simp)) hn.2]
      exact ih fun m hm => hl m (by simp [hm])
  exact hfold _ fun n hn => List.mem_range.mp hn

/-- The pods after a DESTROY of the channel at `key` of window `w` was accepted (R48, R62). -/
def podsDestroyed (p : Pods) (key w tag : Nat) : Pods :=
  { p with gens := tmod 0 p.gens key (fun g => (g + 1) % 512), chans := tset {} p.chans key ⟨.draining tag, w⟩, ctl := tset none p.ctl w none }

/-- DESTROY of a fence that no ring is bound to: the generation moves on and the channel drains (R48, R62). -/
theorem execDestroy_fence {dt w i : Nat} {e : CtlEntry} {hosts : List HostRun} {s u : State} (hu : u = s.tickMem dt hosts)
    (hwait : u.ctlWaits w 2 0 = some e) (hhandle : u.ctlHandle w e = .ok (kFence, i))
    (hunbound : ∀ n, n < 256 → u.rd (ringBind w n) ≠ u.handleWord kFence i) :
    execDestroy dt w hosts s = .next (u.mPods fun p => podsDestroyed p (chanKey kFence i) w e.tag) := by
  have hstop : u.chanStop kFence i hosts = u := rfl
  simp only [execDestroy, ← hu, hwait, hhandle, State.chanDestroy, hstop, unbindAll_of_unbound hunbound]
  rfl

/-- A fence whose DESTROY has drained: its value is forgotten and its index is free (R49, R62). -/
theorem chanGone_fence (s : State) (i : Nat) : s.chanGone kFence i = (s.withFence i {}).freeIndex kFence i := rfl

/-- The last work of a draining fence has left the device at once (R62). -/
theorem execDestroyDrainDone_fence {dt w i tag : Nat} {s u : State} (hu : u = s.tick dt) (hchan : u.chan kFence i = ⟨.draining tag, w⟩) :
    execDestroyDrainDone dt kFence i s
      = .next ((u.chanGone kFence i).channelDone w .ok (Handle.mk kFence ((u.gen kFence i + 511) % 512) i).word tag 2) := by
  have hdrained : ¬ (kFence = kMem ∨ ¬ u.chanDrained kFence i = true) := by simp [kFence, kMem, State.chanDrained]
  simp only [execDestroyDrainDone, ← hu, hchan]
  rw [if_neg hdrained]

theorem chanKey_ne {kind i j : Nat} (h : j ≠ i) : chanKey kind j ≠ chanKey kind i := by
  unfold chanKey
  omega

/-- Settles O11: an entry that waits names its command's case, and an index that is free keeps its generation when it is taken. -/
theorem controlRing : Obligations.ControlRing := by
  refine ⟨?create, ?bind, ?boundTwice, ?bindFence, ?unbind, ?query, ?destroy, ?drained⟩
  case create =>
    intro dt w i e b s u hu hwait hlen hb hval hok hpick
    obtain ⟨-, hfree⟩ := pickIndex_free hpick
    have hfree' : ((u.withFence i ⟨leNat b, 0⟩).chan kFence i).phase = .free := hfree
    have hexec := execCreateFence_ok hu hwait hlen hb hval hok hpick
    rw [State.createDone, takeIndex_handleWord hfree'] at hexec
    obtain ⟨-, -, -, -, hdisplay⟩ := takeIndex_keeps (u.withFence i ⟨leNat b, 0⟩) w kFence i .live
    refine ⟨_, hexec, takeIndex_chan .., ?_, ?_⟩
    · rw [State.fence, hdisplay]
      exact withFence_fence ..
    · refine takeIndex_frame ((Frame.refl u [.pods, .display] _).mDisplay (by simp) _) (by simp) (fun hw => ?_) ..
      simp [hw]
  case bind =>
    intro dt w i e s u hu hwait hhandle hoff hunbound honce
    refine (execBindRing_handle hu hwait hhandle).trans ?_
    simp [ringKind, hoff, hunbound, honce]
  case boundTwice =>
    intro dt w i e s u hu hwait hhandle htwice
    refine (execBindRing_handle hu hwait hhandle).trans ?_
    simp [ringKind, kRender, kCheck, htwice]
  case bindFence => exact fun dt w i e s u hu hwait hhandle => execBindRing_handle hu hwait hhandle
  case unbind => exact fun dt w e s u hu hwait hoff hbound => execUnbindRing_bound hu hwait hoff hbound
  case query => exact fun dt w i e s u hu hwait hhandle hlen hdead hok hdirty => execQuery_fence hu hwait hhandle hlen hdead hok hdirty
  case destroy =>
    intro dt w i e hosts s u hu hwait hhandle hunbound
    refine ⟨_, execDestroy_fence hu hwait hhandle hunbound, ?_, ?_, ?_, (Frame.refl u [.pods] []).mPods (by simp) _⟩
    · rw [State.chan, State.mPods_pods, podsDestroyed, tget_tset_same]
    · rw [State.gen, State.mPods_pods, podsDestroyed, tget_tmod, if_pos rfl, State.gen]
    · rw [State.mPods_pods, podsDestroyed, tget_tset_same]
  case drained =>
    intro dt w i tag s u hu hchan
    obtain ⟨hchans, -, -, -, -, -, hdisplay⟩ := freeIndex_keeps (u.withFence i {}) kFence i
    refine ⟨execDestroyDrainDone_fence hu hchan, ?_, ?_, fun j hj => ?_⟩ <;> rw [chanGone_fence]
    · rw [State.chan, hchans, tget_tset_same]
    · rw [State.fence, hdisplay]
      exact withFence_fence ..
    · rw [State.chan, hchans, tget_tset_ne _ _ (chanKey_ne hj)]
      rfl

end Sys2Proof.Machine
end

section
/-!
PROOFS. Memory chunk channels: their chunks taken, zeroed, mapped and given back (R62, R74, R77 to R80, R93, R485).
-/
namespace Sys2Proof.Machine

/-! ### Tables and frames -/

/-- A key read after a range of keys was cut out. -/
theorem tget_tcut {α : Type} (d : α) (lo hi k : Nat) : ∀ m : Tbl α, tget d (tcut m lo hi) k = if lo ≤ k ∧ k < hi then d else tget d m k
  | [] => by simp [tcut, tget]
  | (k', v) :: m => by
    by_cases hcut : lo ≤ k' ∧ k' < hi
    · rw [tcut, if_pos hcut, tget_tcut d lo hi k m]
      split
      · rfl
      · next hk => rw [tget, if_neg (by rintro rfl; exact hk hcut)]
    · rw [tcut, if_neg hcut, tget, tget_tcut d lo hi k m, tget]
      by_cases hk : k = k'
      · rw [if_pos hk, if_pos hk, if_neg (hk ▸ hcut)]
      · rw [if_neg hk, if_neg hk]

theorem Part.same_trans {p : Part} {s t u : State} (h : p.same s t) (g : p.same t u) : p.same s u := by
  cases p
  case access =>
    obtain ⟨hlatch, hstaged, hread⟩ := h
    obtain ⟨glatch, gstaged, gread⟩ := g
    exact ⟨glatch.trans hlatch, gstaged.trans hstaged, gread.trans hread⟩
  all_goals exact Eq.trans g h

/-- A command that stores, and then leaves the memories alone. -/
theorem FrameM.frame {ps : List Part} {ks : List Nat} {ms hs : Nat → Prop} {s t u : State} (h : FrameM ps ks ms hs s t) (g : Frame ps ks t u) :
    FrameM ps ks ms hs s u :=
  ⟨fun p hp => Part.same_trans (h.parts p hp) (g.parts p hp), fun k hk => (g.regs k hk).trans (h.regs k hk),
   fun a ha => (g.mem a).trans (h.mem a ha), fun a ha => (g.hostMem a).trans (h.hostMem a ha), g.now.trans h.now, g.queue.trans h.queue,
   g.variant.trans h.variant⟩

/-! ### Chunks -/

/-- Chunks of one memory have keys of their own. -/
theorem chunkKey_inj {mem i j : Nat} : mem * 2 ^ 20 + i = mem * 2 ^ 20 + j ↔ i = j := by omega

/-- A chunk after several were set: state and owner are those given where it is one of them. -/
theorem setChunks_chunk (mem st owner k : Nat) : ∀ (l : List Nat) (s : State),
    tget {} (s.setChunks mem st owner l).seed.chunks (mem * 2 ^ 20 + k) =
      if k ∈ l then { tget {} s.seed.chunks (mem * 2 ^ 20 + k) with state := st, owner := owner } else tget {} s.seed.chunks (mem * 2 ^ 20 + k)
  | [], s => by simp [State.setChunks]
  | i :: l, s => by
    rw [State.setChunks, setChunks_chunk mem st owner k l, State.setChunk, State.mSeed_seed]
    simp only [tget_tmod, chunkKey_inj, List.mem_cons]
    by_cases hi : k = i
    · subst hi; split <;> simp
    · simp [hi]

theorem setChunks_frame {s : State} {ps : List Part} {ks : List Nat} (hp : Part.seed ∈ ps) (mem st owner : Nat) :
    ∀ (l : List Nat) {t : State}, Frame ps ks s t → Frame ps ks s (t.setChunks mem st owner l)
  | [], _, h => h
  | _ :: l, _, h => setChunks_frame hp mem st owner l (h.mSeed hp _)

/-- Setting chunks leaves the pods, and of the memory's state the channels and the maps. -/
theorem setChunks_keeps (mem st owner : Nat) : ∀ (l : List Nat) (s : State),
    (s.setChunks mem st owner l).pods = s.pods ∧ (s.setChunks mem st owner l).seed.chans = s.seed.chans
      ∧ (s.setChunks mem st owner l).mem = s.mem
  | [], _ => ⟨rfl, rfl, rfl⟩
  | i :: l, s => by
    obtain ⟨hpods, hchans, hmem⟩ := setChunks_keeps mem st owner l (s.setChunk mem i st owner)
    rw [State.setChunks, hpods, hchans, hmem]
    exact ⟨rfl, rfl, rfl⟩

/-- A byte after a chunk was filled with zeros (R74). -/
theorem zeroChunk_mem (s : State) (mem i a : Nat) :
    tget 0 (s.zeroChunk mem i).mem a = if mem * 2 ^ 60 + i * 2 ^ 21 ≤ a ∧ a < mem * 2 ^ 60 + i * 2 ^ 21 + 2 ^ 21 then 0 else tget 0 s.mem a := by
  simp only [State.zeroChunk, State.mSeed_frame, tget_tcut]

/-- The bytes of a chunk run up to the next chunk. -/
theorem inChunk_iff {mem i a : Nat} : inChunk mem i a ↔ mem * 2 ^ 60 + i * 2 ^ 21 ≤ a ∧ a < mem * 2 ^ 60 + i * 2 ^ 21 + 2 ^ 21 := by
  rw [inChunk, Nat.succ_mul, Nat.add_assoc]

theorem zeroChunk_inside {s : State} {mem i a : Nat} (h : inChunk mem i a) : tget 0 (s.zeroChunk mem i).mem a = 0 := by
  rw [zeroChunk_mem, if_pos (inChunk_iff.mp h)]

theorem zeroChunk_outside {s : State} {mem i a : Nat} (h : ¬ inChunk mem i a) : tget 0 (s.zeroChunk mem i).mem a = tget 0 s.mem a := by
  rw [zeroChunk_mem, if_neg (mt inChunk_iff.mpr h)]

/-- Filling a chunk with zeros changes its bytes and the marks of poisoned words (R74, R87). -/
theorem zeroChunk_frame {s t : State} {ps : List Part} {ks : List Nat} {ms hs : Nat → Prop} (h : FrameM ps ks ms hs s t) (hp : Part.seed ∈ ps)
    {mem i : Nat} (hms : ∀ a, inChunk mem i a → ms a) : FrameM ps ks ms hs s (t.zeroChunk mem i) where
  parts q hq := by
    have hsame := h.parts q hq
    cases q with
    | seed => exact absurd hp hq
    | _ => exact hsame
  regs := h.regs
  mem a ha := (zeroChunk_outside fun hi => ha (hms a hi)).trans (h.mem a ha)
  hostMem := h.hostMem
  now := h.now
  queue := h.queue
  variant := h.variant

theorem FrameM.refl (s : State) (ps : List Part) (ks : List Nat) (ms hs : Nat → Prop) : FrameM ps ks ms hs s s :=
  have h := Frame.refl s ps ks
  ⟨h.parts, h.regs, fun a _ => h.mem a, fun a _ => h.hostMem a, h.now, h.queue, h.variant⟩

theorem zeroChunks_frame {s : State} {ps : List Part} {ks : List Nat} {ms hs : Nat → Prop} (hp : Part.seed ∈ ps) (mem : Nat) :
    ∀ (l : List Nat) {t : State}, FrameM ps ks ms hs s t → (∀ i ∈ l, ∀ a, inChunk mem i a → ms a) → FrameM ps ks ms hs s (t.zeroChunks mem l)
  | [], _, h, _ => h
  | i :: l, _, h, hms =>
    zeroChunks_frame hp mem l (zeroChunk_frame h hp (hms i (by simp))) fun j hj => hms j (by simp [hj])

/-- Beside the marks of poisoned words, filling chunks with zeros changes their bytes alone (R74). -/
theorem zeroedChunks_frame (s : State) (mem : Nat) (l : List Nat) :
    FrameM [.pods, .seed] [] (fun a => ∃ k ∈ l, inChunk mem k a) (fun _ => False) s (s.zeroChunks mem l) :=
  zeroChunks_frame (by simp) mem l (FrameM.refl ..) fun k hk _ ha => ⟨k, hk, ha⟩

/-- A byte that is 0 stays so when chunks are filled with zeros, -/
theorem zeroChunks_of_zero (mem a : Nat) : ∀ (l : List Nat) {s : State}, tget 0 s.mem a = 0 → tget 0 (s.zeroChunks mem l).mem a = 0
  | [], _, h => h
  | i :: l, s, h => by
    refine zeroChunks_of_zero mem a l ?_
    rw [zeroChunk_mem, h, ite_self]

/-- and every byte of the chunks is 0 then (R74). -/
theorem zeroChunks_inside {mem k a : Nat} (ha : inChunk mem k a) {l : List Nat} (hk : k ∈ l) (s : State) :
    tget 0 (s.zeroChunks mem l).mem a = 0 := by
  induction l generalizing s with
  | nil => simp at hk
  | cons i l ih =>
    rw [State.zeroChunks]
    obtain rfl | hk := List.mem_cons.mp hk
    · exact zeroChunks_of_zero mem a l (zeroChunk_inside ha)
    · exact ih hk _

/-- Filling chunks with zeros leaves the pods, the chunks' states, the channels and the maps. -/
theorem zeroChunks_keeps (mem : Nat) : ∀ (l : List Nat) (s : State),
    (s.zeroChunks mem l).pods = s.pods ∧ (s.zeroChunks mem l).seed.chans = s.seed.chans
  | [], _ => ⟨rfl, rfl⟩
  | i :: l, s => by
    obtain ⟨hpods, hchans⟩ := zeroChunks_keeps mem l (s.zeroChunk mem i)
    rw [State.zeroChunks, hpods, hchans]
    exact ⟨rfl, rfl⟩

/-! ### Maps -/

theorem mapChunks_frame {s : State} {ps : List Part} {ks : List Nat} (hp : Part.seed ∈ ps) (w mem : Nat) (ro : Bool) :
    ∀ (l : List Nat) (at_ : Nat) {t : State}, Frame ps ks s t → Frame ps ks s (t.mapChunks w mem ro at_ l)
  | [], _, _, h => h
  | _ :: l, at_, _, h => mapChunks_frame hp w mem ro l (at_ + 1) (h.mSeed hp _)

theorem mapChunks_keeps (w mem : Nat) (ro : Bool) : ∀ (l : List Nat) (at_ : Nat) (s : State),
    (s.mapChunks w mem ro at_ l).pods = s.pods ∧ (s.mapChunks w mem ro at_ l).seed.chunks = s.seed.chunks
      ∧ (s.mapChunks w mem ro at_ l).mem = s.mem
  | [], _, _ => ⟨rfl, rfl, rfl⟩
  | i :: l, at_, s => by
    rw [State.mapChunks]
    obtain ⟨hpods, hchunks, hmem⟩ := mapChunks_keeps w mem ro l (at_ + 1)
      (s.mSeed fun m => { m with maps := tset {} m.maps (w * 2 ^ 19 + at_) ⟨true, mem, i, ro⟩ })
    exact ⟨hpods, hchunks, hmem⟩

/-- Chunks are mapped from a local chunk upwards: what lies below stays, -/
theorem mapChunks_below (w mem : Nat) (ro : Bool) {j : Nat} (l : List Nat) {at_ : Nat} (s : State) (hj : j < at_) :
    tget {} (s.mapChunks w mem ro at_ l).seed.maps (w * 2 ^ 19 + j) = tget {} s.seed.maps (w * 2 ^ 19 + j) := by
  induction l generalizing at_ s with
  | nil => rfl
  | cons i l ih =>
    have hkey : w * 2 ^ 19 + j ≠ w * 2 ^ 19 + at_ := by omega
    rw [State.mapChunks, ih _ (Nat.lt_succ_of_lt hj), State.mSeed_seed]
    dsimp only
    rw [tget_tset_ne _ _ hkey]

/-- and the local chunk `n` above the first maps to the `n`-th of them (R79). -/
theorem mapChunks_map (w mem : Nat) (ro : Bool) {l : List Nat} {n : Nat} (hn : n < l.length) (at_ : Nat) (s : State) :
    tget {} (s.mapChunks w mem ro at_ l).seed.maps (w * 2 ^ 19 + (at_ + n)) = ⟨true, mem, l.getD n 0, ro⟩ := by
  induction l generalizing n at_ s with
  | nil => simp at hn
  | cons i l ih =>
    rw [State.mapChunks]
    cases n with
    | zero =>
      rw [Nat.add_zero at_, mapChunks_below w mem ro l _ (Nat.lt_succ_self at_), State.mSeed_seed]
      dsimp only
      rw [tget_tset_same, List.getD_cons_zero]
    | succ n =>
      rw [show at_ + (n + 1) = at_ + 1 + n by omega, List.getD_cons_succ]
      exact ih (by simpa using hn) _ _

/-! ### Counts of a VI -/

/-- VI_CHUNKS of a VI counts up or down; of the PF nothing is counted (R507). -/
theorem viChunks_frame {s t : State} {ps : List Part} {ks : List Nat} (h : Frame ps ks s t) {w : Nat} (hk : viReg w 0x18 ∈ ks) (mem n : Nat)
    (up : Bool) : Frame ps ks s (t.viChunks w mem n up) := by
  unfold State.viChunks
  split
  · exact h
  · exact h.wf hk _ _ _

theorem viChunks_keeps (s : State) (w mem n : Nat) (up : Bool) :
    (s.viChunks w mem n up).pods = s.pods ∧ (s.viChunks w mem n up).seed = s.seed ∧ (s.viChunks w mem n up).mem = s.mem := by
  unfold State.viChunks
  split
  · exact ⟨rfl, rfl, rfl⟩
  · simp

/-- Chunks counted against a grant (R485). -/
theorem countChunks_frame {s t : State} {ps : List Part} {ks : List Nat} (h : Frame ps ks s t) {w mem : Nat}
    (hgrant : grantReg w (0x11 + mem) 8 ∈ ks) (hvi : viReg w 0x18 ∈ ks) (n : Nat) : Frame ps ks s (t.countChunks w mem n) := by
  refine viChunks_frame ?_ hvi ..
  unfold State.grantTake
  split
  · exact h
  · exact h.wr hgrant _

theorem countChunks_keeps (s : State) (w mem n : Nat) :
    (s.countChunks w mem n).pods = s.pods ∧ (s.countChunks w mem n).seed = s.seed := by
  obtain ⟨hpods, hseed, -⟩ := viChunks_keeps (s.grantTake w (0x11 + mem) n) w mem n true
  rw [State.countChunks, hpods, hseed, State.grantTake]
  split <;> simp

/-- Chunks given back to a grant: channels, generations and memory stay (R486). -/
theorem uncountChunks_keeps (s : State) (w mem n : Nat) :
    (s.uncountChunks w mem n).pods.chans = s.pods.chans ∧ (s.uncountChunks w mem n).seed = s.seed
      ∧ (s.uncountChunks w mem n).mem = s.mem := by
  obtain ⟨hpods, hseed, hmem⟩ := viChunks_keeps s w mem n false
  rw [State.uncountChunks, State.grantGive]
  split
  · rw [hpods, hseed, hmem]
    exact ⟨rfl, rfl, rfl⟩
  · simp [hpods, hseed, hmem]

theorem uncountChunks_pf (s : State) (mem n : Nat) : s.uncountChunks pfWin mem n = s := by
  rw [State.uncountChunks, State.grantGive, if_pos rfl, State.viChunks, if_pos rfl]

/-! ### CREATE -/

/-- The state a CREATE of a memory chunk channel leaves at index `i`: its chunks are ZEROING and counted, and the entries after it wait (R60, R74,
R78, R485). -/
def State.memTaken (s : State) (w i : Nat) (e : CtlEntry) (c : MemChan) : State :=
  (((((s.takeIndex w kMem i (.creating e.tag)).setChunks c.mem 5 0 c.chunks).countChunks w c.mem c.count).mSeed fun m =>
    { m with chans := tset {} m.chans i c })).ctlBegin w

/-- The record of the channel a CREATE makes: the memory it chooses, and the lowest-numbered free chunks of it (R77; log entry 11). -/
def State.memRecord (s : State) (w : Nat) (p : MemParams) : MemChan :=
  ⟨p.daddr, p.count, s.chooseMem w p, p.readOnly,
   pickChunks s (s.chooseMem w p) (if s.chooseMem w p = 0 then 8192 else s.lpChunks) 0 p.count⟩

theorem execCreateMemoryChunk_ok {dt w i : Nat} {e : CtlEntry} {b : Bytes} {s u : State} (hu : u = s.tick dt)
    (hwait : u.ctlWaits w 1 kMem = some e) (hlen : e.paramLen = 16) (hb : b.length = 16) (hok : u.hostOk w = true)
    (hstatus : u.memCreateStatus w (memParams b) = .ok) (hpick : u.pickIndex w kMem = some i) :
    execCreateMemoryChunk dt w (some b) s = .next (u.memTaken w i e (u.memRecord w (memParams b))) := by
  simp only [execCreateMemoryChunk, ← hu, hwait, hlen, ne_eq, not_true_eq_false, if_false, params_host hok e (hb.trans hlen.symm), hstatus, hpick,
    Option.getD_some, State.memTaken, State.memRecord]

/-- What it leaves in the pods: the channel is being created, and the entry in process has begun. -/
theorem memTaken_pods {s : State} {w i : Nat} {e : CtlEntry} (hctl : tget none s.pods.ctl w = some e) (c : MemChan) :
    (s.memTaken w i e c).chan kMem i = ⟨.creating e.tag, w⟩ ∧ tget none (s.memTaken w i e c).pods.ctl w = some { e with begun := true } := by
  obtain ⟨hchans, -, hctls, -⟩ := takeIndex_keeps s w kMem i (.creating e.tag)
  obtain ⟨hset, -⟩ := setChunks_keeps c.mem 5 0 c.chunks (s.takeIndex w kMem i (.creating e.tag))
  obtain ⟨hcount, -⟩ := countChunks_keeps ((s.takeIndex w kMem i (.creating e.tag)).setChunks c.mem 5 0 c.chunks) w c.mem c.count
  refine ⟨?_, ?_⟩ <;> simp only [State.chan, State.memTaken, State.ctlBegin, State.mPods_pods, State.mSeed_frame, hcount, hset, hchans, hctls]
  · rw [tget_tset_same]
  · rw [tget_tset_same, hctl, Option.map_some]

/-- What it leaves of the memory: the channel's record, and its chunks in ZEROING (R74, R78). -/
theorem memTaken_seed (s : State) (w i : Nat) (e : CtlEntry) (c : MemChan) :
    tget {} (s.memTaken w i e c).seed.chans i = c
      ∧ ∀ k ∈ c.chunks, (tget {} (s.memTaken w i e c).seed.chunks (c.mem * 2 ^ 20 + k)).state = 5 := by
  obtain ⟨-, hcount⟩ := countChunks_keeps ((s.takeIndex w kMem i (.creating e.tag)).setChunks c.mem 5 0 c.chunks) w c.mem c.count
  refine ⟨?_, fun k hk => ?_⟩ <;> simp only [State.memTaken, State.ctlBegin, State.mPods_frame, State.mSeed_seed]
  · rw [tget_tset_same]
  · rw [hcount, setChunks_chunk, if_pos hk]

theorem memTaken_frame (s : State) (w i : Nat) (e : CtlEntry) (c : MemChan) :
    Frame [.pods, .seed] [grantReg w kMem 8, grantReg w (0x11 + c.mem) 8, viReg w 0x18] s (s.memTaken w i e c) := by
  have htake := takeIndex_frame (Frame.refl s [.pods, .seed] [grantReg w kMem 8, grantReg w (0x11 + c.mem) 8, viReg w 0x18]) (by simp)
    (w := w) (kind := kMem) (fun _ => by simp) i (.creating e.tag)
  have hset := setChunks_frame (by simp) c.mem 5 0 c.chunks htake
  rw [State.memTaken, State.ctlBegin]
  exact ((countChunks_frame (w := w) (mem := c.mem) hset (by simp) (by simp) c.count).mSeed (by simp) _).mPods (by simp) _

/-! ### The end of zeroing -/

/-- The state in which the chunks of the channel at index `i` are zeroed and mapped for window `w`, and the channel is live (R74, R79). -/
def State.memMapped (s : State) (w i : Nat) (c : MemChan) : State :=
  (((s.zeroChunks c.mem c.chunks).setChunks c.mem (if w = pfWin then 3 else 2) (if w = pfWin then 0 else w) c.chunks).mapChunks w c.mem c.readOnly
    (c.daddr / 2 ^ 21) c.chunks).mPods fun p => { p with chans := tset {} p.chans (chanKey kMem i) ⟨.live, w⟩ }

theorem execChunkZeroDone_creating {dt w i tag : Nat} {s u : State} (hu : u = s.tick dt) (hchan : u.chan kMem i = ⟨.creating tag, w⟩) :
    execChunkZeroDone dt i s = .next (((u.memMapped w i (tget {} u.seed.chans i)).ctlEnd w).channelDone w .ok
      ((u.memMapped w i (tget {} u.seed.chans i)).handleWord kMem i) tag 1) := by
  simp only [execChunkZeroDone, ← hu, hchan, State.memMapped]

/-- The pods after it: the channel is live, and no generation moved. -/
theorem memMapped_pods (s : State) (w i : Nat) (c : MemChan) :
    (s.memMapped w i c).pods = { s.pods with chans := tset {} s.pods.chans (chanKey kMem i) ⟨.live, w⟩ } := by
  obtain ⟨hmap, -⟩ := mapChunks_keeps w c.mem c.readOnly c.chunks (c.daddr / 2 ^ 21)
    ((s.zeroChunks c.mem c.chunks).setChunks c.mem (if w = pfWin then 3 else 2) (if w = pfWin then 0 else w) c.chunks)
  obtain ⟨hset, -⟩ := setChunks_keeps c.mem (if w = pfWin then 3 else 2) (if w = pfWin then 0 else w) c.chunks (s.zeroChunks c.mem c.chunks)
  obtain ⟨hzero, -⟩ := zeroChunks_keeps c.mem c.chunks s
  rw [State.memMapped, State.mPods_pods, hmap, hset, hzero]

theorem memMapped_chan (s : State) (w i : Nat) (c : MemChan) : (s.memMapped w i c).chan kMem i = ⟨.live, w⟩ := by
  rw [State.chan, memMapped_pods, tget_tset_same]

/-- The handle reported is the one the index had while its chunks were zeroed (R45, R79). -/
theorem memMapped_handleWord {s : State} {w i tag : Nat} (hchan : s.chan kMem i = ⟨.creating tag, w⟩) (c : MemChan) :
    (s.memMapped w i c).handleWord kMem i = s.handleWord kMem i := by
  rw [handleWord_of_gen (by simp [memMapped_chan]), handleWord_of_gen (by simp [hchan]), State.gen, State.gen, memMapped_pods]

theorem memMapped_mem {s : State} {w i : Nat} {c : MemChan} {k a : Nat} (hk : k ∈ c.chunks) (ha : inChunk c.mem k a) :
    tget 0 (s.memMapped w i c).mem a = 0 := by
  obtain ⟨-, -, hmap⟩ := mapChunks_keeps w c.mem c.readOnly c.chunks (c.daddr / 2 ^ 21)
    ((s.zeroChunks c.mem c.chunks).setChunks c.mem (if w = pfWin then 3 else 2) (if w = pfWin then 0 else w) c.chunks)
  obtain ⟨-, -, hset⟩ := setChunks_keeps c.mem (if w = pfWin then 3 else 2) (if w = pfWin then 0 else w) c.chunks (s.zeroChunks c.mem c.chunks)
  simp only [State.memMapped, State.mPods_frame, hmap, hset]
  exact zeroChunks_inside ha hk s

/-- The chunks belong to the PF or to the VI (R105). -/
theorem memMapped_chunk {s : State} {w i : Nat} {c : MemChan} {k : Nat} (hk : k ∈ c.chunks) :
    (tget {} (s.memMapped w i c).seed.chunks (c.mem * 2 ^ 20 + k)).state = (if w = pfWin then 3 else 2)
      ∧ (tget {} (s.memMapped w i c).seed.chunks (c.mem * 2 ^ 20 + k)).owner = if w = pfWin then 0 else w := by
  obtain ⟨-, hmap, -⟩ := mapChunks_keeps w c.mem c.readOnly c.chunks (c.daddr / 2 ^ 21)
    ((s.zeroChunks c.mem c.chunks).setChunks c.mem (if w = pfWin then 3 else 2) (if w = pfWin then 0 else w) c.chunks)
  simp only [State.memMapped, State.mPods_frame, hmap, setChunks_chunk, if_pos hk, and_self]

theorem memMapped_map {s : State} {w i : Nat} {c : MemChan} {n : Nat} (hn : n < c.chunks.length) :
    tget {} (s.memMapped w i c).seed.maps (w * 2 ^ 19 + (c.daddr / 2 ^ 21 + n)) = ⟨true, c.mem, c.chunks.getD n 0, c.readOnly⟩ := by
  rw [State.memMapped]
  exact mapChunks_map w c.mem c.readOnly hn (c.daddr / 2 ^ 21) _

theorem memMapped_frame (s : State) (w i : Nat) (c : MemChan) :
    FrameM [.pods, .seed] [] (fun a => ∃ k ∈ c.chunks, inChunk c.mem k a) (fun _ => False) s (s.memMapped w i c) := by
  refine (zeroedChunks_frame s c.mem c.chunks).frame (Frame.mPods ?_ (by simp) _)
  exact mapChunks_frame (by simp) w c.mem c.readOnly c.chunks _ (setChunks_frame (by simp) c.mem _ _ c.chunks (Frame.refl _ _ _))

/-! ### Chunks given back -/

/-- The state in which a memory chunk channel of window `w` has given its chunks and its index back (R62, R80). -/
def State.memFreed (s : State) (w i : Nat) (c : MemChan) : State :=
  ((((s.zeroChunks c.mem c.chunks).setChunks c.mem 0 0 c.chunks).uncountChunks w c.mem c.count).mSeed fun m =>
    { m with chans := tset {} m.chans i {} }).freeIndex kMem i

/-- A channel waits to be freed while a page of its chunks is retired or a composition reads them (R93, R193). -/
theorem execChunkUnmapDrainDone_draining {dt w i tag : Nat} {s u : State} (hu : u = s.tick dt) (hchan : u.chan kMem i = ⟨.draining tag, w⟩) :
    execChunkUnmapDrainDone dt i s =
      if u.retiringIn (tget {} u.seed.chans i).mem (tget {} u.seed.chans i).chunks
          || u.compReads (tget {} u.seed.chans i).mem (tget {} u.seed.chans i).chunks then .next u
      else .next ((u.memFreed w i (tget {} u.seed.chans i)).channelDone w .ok (Handle.mk kMem ((u.gen kMem i + 511) % 512) i).word tag 2) := by
  simp only [execChunkUnmapDrainDone, ← hu, hchan, State.memFreed]

theorem memFreed_chan (s : State) (w i : Nat) (c : MemChan) : (s.memFreed w i c).chan kMem i = {} := by
  rw [State.chan, State.memFreed]
  generalize State.mSeed _ _ = x
  obtain ⟨hchans, -⟩ := freeIndex_keeps x kMem i
  rw [hchans, tget_tset_same]

/-- The memory's state after it: the channel's record is gone, and its chunks are FREE (R62, R80). -/
theorem memFreed_seed (s : State) (w i : Nat) (c : MemChan) :
    tget {} (s.memFreed w i c).seed.chans i = {}
      ∧ ∀ k ∈ c.chunks, (tget {} (s.memFreed w i c).seed.chunks (c.mem * 2 ^ 20 + k)).state = 0 := by
  obtain ⟨-, hcount, -⟩ := uncountChunks_keeps ((s.zeroChunks c.mem c.chunks).setChunks c.mem 0 0 c.chunks) w c.mem c.count
  have hseed : (s.memFreed w i c).seed = { ((s.zeroChunks c.mem c.chunks).setChunks c.mem 0 0 c.chunks).seed with
      chans := tset {} ((s.zeroChunks c.mem c.chunks).setChunks c.mem 0 0 c.chunks).seed.chans i {} } := by
    rw [State.memFreed, ← hcount]
    generalize State.uncountChunks _ _ _ _ = x
    obtain ⟨-, -, -, -, hfree, -⟩ := freeIndex_keeps (x.mSeed fun m => { m with chans := tset {} m.chans i {} }) kMem i
    rw [hfree, State.mSeed_seed]
  refine ⟨?_, fun k hk => ?_⟩ <;> rw [hseed] <;> dsimp only
  · rw [tget_tset_same]
  · rw [setChunks_chunk, if_pos hk]

/-- The PF's chunks given back: nothing is counted, so beside the pods and the memory's state the chunks' bytes alone change. -/
theorem memFreed_pf {s : State} {i tag : Nat} (hchan : s.chan kMem i = ⟨.draining tag, pfWin⟩) (c : MemChan) :
    s.memFreed pfWin i c = (((s.zeroChunks c.mem c.chunks).setChunks c.mem 0 0 c.chunks).mSeed fun m =>
      { m with chans := tset {} m.chans i {} }).mPods fun p => podsFreed p (chanKey kMem i) := by
  obtain ⟨hset, -, -⟩ := setChunks_keeps c.mem 0 0 c.chunks (s.zeroChunks c.mem c.chunks)
  obtain ⟨hzero, -⟩ := zeroChunks_keeps c.mem c.chunks s
  rw [State.memFreed, uncountChunks_pf, freeIndex_pf]
  simp only [State.chan, State.mSeed_frame, hset, hzero]
  exact congrArg Chan.owner hchan

theorem memFreed_pf_mem {s : State} {i tag : Nat} (hchan : s.chan kMem i = ⟨.draining tag, pfWin⟩) {c : MemChan} {k a : Nat} (hk : k ∈ c.chunks)
    (ha : inChunk c.mem k a) : tget 0 (s.memFreed pfWin i c).mem a = 0 := by
  obtain ⟨-, -, hset⟩ := setChunks_keeps c.mem 0 0 c.chunks (s.zeroChunks c.mem c.chunks)
  simp only [memFreed_pf hchan, State.mPods_frame, State.mSeed_frame, hset]
  exact zeroChunks_inside ha hk s

theorem memFreed_pf_frame {s : State} {i tag : Nat} (hchan : s.chan kMem i = ⟨.draining tag, pfWin⟩) (c : MemChan) :
    FrameM [.pods, .seed] [] (fun a => ∃ k ∈ c.chunks, inChunk c.mem k a) (fun _ => False) s (s.memFreed pfWin i c) := by
  rw [memFreed_pf hchan]
  have hset := setChunks_frame (ps := [.pods, .seed]) (ks := []) (by simp) c.mem 0 0 c.chunks (Frame.refl (s.zeroChunks c.mem c.chunks) _ _)
  exact (zeroedChunks_frame s c.mem c.chunks).frame ((hset.mSeed (by simp) _).mPods (by simp) _)

/-- ZEROING_DONE of a chunk in ZEROING that no channel holds and no retirement touches (R74, R79, R93). -/
theorem execZeroingDone_released {dt mem k : Nat} {s u : State} (hu : u = s.tick dt) (hstate : u.chunkState mem k = 5)
    (hkept : u.retiringIn mem [k] = false) (hheld : ∀ c ∈ u.seed.chans, ¬ (c.2.mem = mem ∧ k ∈ c.2.chunks)) :
    execZeroingDone dt mem k s = .next ((u.zeroChunk mem k).setChunk mem k 0 0) := by
  have hnone : (u.seed.chans.any fun c => c.2.mem == mem && c.2.chunks.contains k) = false := by
    simpa using hheld
  simp only [execZeroingDone, ← hu, hnone, hkept]
  rw [if_pos ⟨hstate, Bool.false_ne_true, Bool.false_ne_true⟩]

/-- Settles O13 (log entries 11 and 72): the chunks a channel holds are zeroed, set and mapped one by one, and each is as the last of these
left it. -/
theorem memoryChannels : Obligations.MemoryChannels := by
  refine ⟨?create, ?zeroed, ?drained, ?waits, ?released⟩
  case create =>
    rintro dt w i e b p chunks s u hu hwait hlen hb hok rfl hstatus hpick rfl
    obtain ⟨hctl, -⟩ := ctlWaits_some hwait
    have hexec := execCreateMemoryChunk_ok hu hwait hlen hb hok hstatus hpick
    obtain ⟨hchan, hbegun⟩ := memTaken_pods (i := i) hctl (u.memRecord w (memParams b))
    obtain ⟨hrecord, hchunks⟩ := memTaken_seed u w i e (u.memRecord w (memParams b))
    exact ⟨_, hexec, hchan, hrecord, hchunks, hbegun, memTaken_frame u w i e (u.memRecord w (memParams b))⟩
  case zeroed =>
    rintro dt w i tag c s u hu hchan rfl
    have hexec := execChunkZeroDone_creating hu hchan
    rw [memMapped_handleWord hchan] at hexec
    refine ⟨_, hexec, ?_, fun k hk => ?_, fun n hn => ?_, ?_⟩ <;> rw [State.ctlEnd]
    · exact memMapped_chan u w i _
    · exact ⟨fun a ha => memMapped_mem (i := i) hk ha, memMapped_chunk (i := i) hk⟩
    · exact memMapped_map (i := i) hn
    · exact (memMapped_frame u w i _).frame ((Frame.refl _ _ _).mPods (by simp) _)
  case drained =>
    rintro dt w i tag c s u hu hchan rfl hretiring hreads
    obtain ⟨hrecord, hchunks⟩ := memFreed_seed u w i (tget {} u.seed.chans i)
    refine ⟨_, ?_, memFreed_chan .., hrecord, hchunks, ?_⟩
    · exact (execChunkUnmapDrainDone_draining hu hchan).trans (if_neg (by simp [hretiring, hreads]))
    · rintro rfl
      exact ⟨fun k hk a ha => memFreed_pf_mem hchan hk ha, memFreed_pf_frame hchan _⟩
  case waits =>
    rintro dt w i tag c s u hu hchan rfl hwait
    exact (execChunkUnmapDrainDone_draining hu hchan).trans (if_pos (by simpa using hwait))
  case released =>
    intro dt mem k s u hu hstate hkept hheld
    refine ⟨_, execZeroingDone_released hu hstate hkept hheld, ?_, fun a ha => zeroChunk_inside ha, ?_⟩
    · rw [State.setChunk, State.mSeed_seed]
      dsimp only
      rw [tget_tmod, if_pos rfl]
    · exact (zeroChunk_frame (FrameM.refl u [.seed] [] (inChunk mem k) _) (by simp) fun a ha => ha).frame ((Frame.refl _ _ _).mSeed (by simp) _)

end Sys2Proof.Machine
end

section
/-!
PROOFS. Canonical memory (R75, R76): the step-lemma invariant of O5, and what keeps it among the registers, the memories' writes and the events.

Every function of the model that answers a state has one lemma here, in the model's order: from canonical memories it leaves canonical memories.
A function that leaves both memories as they are keeps them by `id`; the few that write them keep them by the lemmas `twf_…` of the tables; every
other function is peeled apart by `simp` with the lemmas of the functions it calls.
-/
namespace Sys2Proof.Machine

/-- `canonical`, under a name that no rule rewrites. -/
def State.canonicalItself (s : State) : Bool := s.canonical

/-- From canonical memories in `s`, canonical memories in `t`. It is written as an equation that `simp` can always rewrite with: peeling a chain of
operations then needs no side condition at each of them, and `canonicalItself` says that no other rule looks at the case of a state that is not
canonical. -/
abbrev KeepsCanon (s t : State) : Prop := t.canonical = if s.canonical then true else t.canonicalItself

theorem KeepsCanon.of {s t : State} (h : s.canonical = true → t.canonical = true) : KeepsCanon s t := by
  unfold KeepsCanon
  split
  · next hs => exact h hs
  · rfl

theorem KeepsCanon.canonical {s t : State} (h : KeepsCanon s t) (hs : s.canonical = true) : t.canonical = true := by
  rw [h, if_pos hs]

@[simp] theorem ite_canon {c : Prop} [Decidable c] (s t : State) :
    (if c then s else t).canonical = if s.canonical && t.canonical then true else (if c then s else t).canonicalItself := by
  by_cases h : c <;> cases hs : s.canonical <;> cases ht : t.canonical <;> simp [h, State.canonicalItself, hs, ht]

@[simp] theorem ite_snd_canon {α : Type} {c : Prop} [Decidable c] (p q : α × State) :
    (if c then p else q).2.canonical = if p.2.canonical && q.2.canonical then true else (if c then p else q).2.canonicalItself := by
  rw [apply_ite Prod.snd]; exact ite_canon ..

/-- A fold each of whose steps keeps the memories of the state in its accumulator canonical keeps them so. -/
theorem foldl_canonical {α β : Type} (st : α → State) {f : α → β → α} (l : List β)
    (hf : ∀ a x, (st a).canonical = true → (st (f a x)).canonical = true) (a : α) (h : (st a).canonical = true) :
    (st (l.foldl f a)).canonical = true := by
  induction l generalizing a with
  | nil => exact h
  | cons x l ih => exact ih _ (hf a x h)

@[simp] theorem foldl_canon {β : Type} (f : State → β → State) (l : List β) (s : State)
    (hf : ∀ t x, t.canonical = true → (f t x).canonical = true) : KeepsCanon s (l.foldl f s) :=
  .of (foldl_canonical id l hf s)

theorem snd_eq {α : Type} {p : α × State} {a : α} {t : State} (h : p = (a, t)) : t = p.2 := by rw [h]

theorem canonical_iff {s : State} : s.canonical = true ↔ twf 0 s.mem = true ∧ twf 0 s.hostMem = true := by
  rw [State.canonical, Bool.and_eq_true]

/-- A command that answers a next state leaves canonical memories in it. -/
def EndsCanon (o : Host.Outcome State Fault Refusal) : Prop := ∀ t, o = .next t → t.canonical = true

@[simp] theorem ends_next (t : State) : EndsCanon (.next t) ↔ t.canonical = true := by
  simp [EndsCanon]
@[simp] theorem ends_ite {c : Prop} [Decidable c] (a b : Host.Outcome State Fault Refusal) (ha : EndsCanon a) (hb : EndsCanon b) :
    EndsCanon (if c then a else b) := by
  split <;> assumption

variable (s : State)

@[simp] theorem wr_canon (k v) : KeepsCanon s (s.wr k v) := .of id
@[simp] theorem wr64_canon (k v) : KeepsCanon s (s.wr64 k v) := .of id
@[simp] theorem wf_canon (k hi lo v) : KeepsCanon s (s.wf k hi lo v) := .of id
@[simp] theorem wb_canon (k i b) : KeepsCanon s (s.wb k i b) := .of id
@[simp] theorem incr_canon (k) : KeepsCanon s (s.incr k) := .of id
@[simp] theorem sat_canon (k n) : KeepsCanon s (s.sat k n) := .of id
@[simp] theorem raise_canon (k i) : KeepsCanon s (s.raise k i) := .of id
@[simp] theorem rcUpdate_canon (k f) : KeepsCanon s (s.rcUpdate k f) := .of id
@[simp] theorem rcCount_canon (k n) : KeepsCanon s (s.rcCount k n) := .of id
@[simp] theorem satf_canon (k hi lo n) : KeepsCanon s (s.satf k hi lo n) := .of id
@[simp] theorem incr64_canon (k n) : KeepsCanon s (s.incr64 k n) := .of id

@[simp] theorem wrs_canon (l) : KeepsCanon s (s.wrs l) := .of fun h => by
  induction l generalizing s with
  | nil => exact h
  | cons x l ih => exact ih _ (by simp [h])

@[simp] theorem clr_canon (k n) : KeepsCanon s (s.clr k n) := .of fun h => by
  induction n generalizing s k with
  | zero => exact h
  | succ n ih => exact ih _ _ (by simp [h])
@[simp] theorem tick_canon (dt) : KeepsCanon s (s.tick dt) := .of id
@[simp] theorem freeWord_canon : KeepsCanon s (s.freeWord).2 := .of id

@[simp] theorem freeBytes_canon (n) : KeepsCanon s (s.freeBytes n).2 := .of fun h => by
  induction n generalizing s with
  | zero => exact h
  | succ n ih => exact ih _ h
@[simp] theorem mPods_canon (f) : KeepsCanon s (s.mPods f) := .of id
@[simp] theorem mSeed_canon (f) : KeepsCanon s (s.mSeed f) := .of id
@[simp] theorem mDisplay_canon (f) : KeepsCanon s (s.mDisplay f) := .of id
@[simp] theorem mPip_canon (f) : KeepsCanon s (s.mPip f) := .of id
@[simp] theorem mChecks_canon (f) : KeepsCanon s (s.mChecks f) := .of id
@[simp] theorem mRender_canon (f) : KeepsCanon s (s.mRender f) := .of id
@[simp] theorem mAudio_canon (f) : KeepsCanon s (s.mAudio f) := .of id
@[simp] theorem mPanel_canon (f) : KeepsCanon s (s.mPanel f) := .of id
@[simp] theorem mStart_canon (f) : KeepsCanon s (s.mStart f) := .of id
@[simp] theorem mWorlds_canon (f) : KeepsCanon s (s.mWorlds f) := .of id
@[simp] theorem mVims_canon (f) : KeepsCanon s (s.mVims f) := .of id
@[simp] theorem mNet_canon (f) : KeepsCanon s (s.mNet f) := .of id
@[simp] theorem mPower_canon (f) : KeepsCanon s (s.mPower f) := .of id
@[simp] theorem mHusk_canon (f) : KeepsCanon s (s.mHusk f) := .of id
@[simp] theorem mBudget_canon (f) : KeepsCanon s (s.mBudget f) := .of id
@[simp] theorem mRecs_canon (f) : KeepsCanon s (s.mRecs f) := .of id
@[simp] theorem recValue_canon (source inst v) : KeepsCanon s (s.recValue source inst v) := .of fun h => by
  unfold State.recValue; simp +contextual [h]
@[simp] theorem hostWrite_canon (w addr bs) : KeepsCanon s (s.hostWrite w addr bs) := .of (hostWrite_only ..).canon
@[simp] theorem raiseMsix_canon (w) : KeepsCanon s (s.raiseMsix w) := .of fun h => by unfold State.raiseMsix; simp [h]
@[simp] theorem signal_canon (w) : KeepsCanon s (s.signal w) := .of fun h => by unfold State.signal; simp [h]
@[simp] theorem ueCount_canon (pa cls w) : KeepsCanon s (s.ueCount pa cls w) := .of fun h => by unfold State.ueCount; simp [h]

@[simp] theorem pwrite_canon (pa bs cls w) : KeepsCanon s (s.pwrite pa bs cls w) := .of fun h => by
  unfold State.pwrite
  dsimp only
  refine (foldl_canon _ _ _ fun t k ht => by simp [ht]).canonical ?_
  rw [canonical_iff] at h ⊢
  exact ⟨pwrite_mem_canonical _ _ _ h.1 _, h.2⟩
@[simp] theorem markDirty_canon (w addr len) : KeepsCanon s (s.markDirty w addr len) := .of (markDirty_only ..).canon
@[simp] theorem putRecord_canon (w kind status handle detail time) : KeepsCanon s (s.putRecord w kind status handle detail time) :=
  .of (putRecord_only ..).canon
@[simp] theorem loseEvent_canon (w) : KeepsCanon s (s.loseEvent w) := .of fun h => by unfold State.loseEvent; simp [h]
@[simp] theorem flushLost_canon (w) : KeepsCanon s (s.flushLost w) := .of fun h => by unfold State.flushLost; simp [h]
@[simp] theorem emitAt_canon (w kind status handle detail time) : KeepsCanon s (s.emitAt w kind status handle detail time) := .of fun h => by
  unfold State.emitAt; simp [h]
@[simp] theorem emit_canon (w kind st handle detail) : KeepsCanon s (s.emit w kind st handle detail) := .of fun h => by
  unfold State.emit; simp [h]
@[simp] theorem emitPf_canon (kind st detail) : KeepsCanon s (s.emitPf kind st detail) := .of fun h => by unfold State.emitPf; simp [h]
@[simp] theorem deny_canon (c a write off) : KeepsCanon s (s.deny c a write off) := .of fun h => by unfold State.deny; simp [h]
@[simp] theorem memFault_canon (w addr) : KeepsCanon s (s.memFault w addr) := .of fun h => by unfold State.memFault; simp [h]
@[simp] theorem retirePage_canon (mem page) : KeepsCanon s (s.retirePage mem page) := .of fun h => by unfold State.retirePage; simp [h]
@[simp] theorem ueFound_canon (pa cls w) : KeepsCanon s (s.ueFound pa cls w) := .of fun h => by unfold State.ueFound; simp [h]
@[simp] theorem ceFound_canon (pa) : KeepsCanon s (s.ceFound pa) := .of fun h => by unfold State.ceFound; simp [h]
@[simp] theorem memError_canon (r) : KeepsCanon s (s.memError r) := .of fun h => by unfold State.memError; simp [h]
@[simp] theorem tickMem_canon (dt hosts) : KeepsCanon s (s.tickMem dt hosts) := .of fun h => by unfold State.tickMem; simp +contextual [h]
@[simp] theorem fetch_canon (w cls addr n ext) : KeepsCanon s (s.fetch w cls addr n ext).2 := .of fun h => by
  dsimp only [State.fetch]; (repeat' split) <;> simp [h]
@[simp] theorem store_canon (w cls addr bs) : KeepsCanon s (s.store w cls addr bs).2 := .of fun h => by
  fun_cases State.store <;> simp +zetaDelta [h]
@[simp] theorem takeIndex_canon (w kind idx ph) : KeepsCanon s (s.takeIndex w kind idx ph) := .of fun h => by
  unfold State.takeIndex; simp [h]
@[simp] theorem shrinkCheck_canon (v kind) : KeepsCanon s (s.shrinkCheck v kind) := .of fun h => by unfold State.shrinkCheck; simp [h]
@[simp] theorem freeIndex_canon (kind idx) : KeepsCanon s (s.freeIndex kind idx) := .of fun h => by unfold State.freeIndex; simp [h]
@[simp] theorem bumpGen_canon (kind idx) : KeepsCanon s (s.bumpGen kind idx) := .of fun h => by unfold State.bumpGen; simp [h]
@[simp] theorem channelDone_canon (w st handle tag opcode) : KeepsCanon s (s.channelDone w st handle tag opcode) := .of fun h => by
  unfold State.channelDone; simp [h]
@[simp] theorem grantTake_canon (w kind n) : KeepsCanon s (s.grantTake w kind n) := .of fun h => by unfold State.grantTake; simp [h]
@[simp] theorem grantGive_canon (w kind n) : KeepsCanon s (s.grantGive w kind n) := .of fun h => by unfold State.grantGive; simp [h]
@[simp] theorem ctlClear_canon (w) : KeepsCanon s (s.ctlClear w) := .of fun h => by unfold State.ctlClear; simp [h]
@[simp] theorem ctlBegin_canon (w) : KeepsCanon s (s.ctlBegin w) := .of fun h => by unfold State.ctlBegin; simp [h]
@[simp] theorem ctlEnd_canon (w) : KeepsCanon s (s.ctlEnd w) := .of fun h => by unfold State.ctlEnd; simp [h]
@[simp] theorem ctlDone_canon (w e st handle) : KeepsCanon s (s.ctlDone w e st handle) := .of fun h => by unfold State.ctlDone; simp [h]
@[simp] theorem params_canon (w e ext) : KeepsCanon s (s.params w e ext).2 := .of fun h => by unfold State.params; simp [h]
@[simp] theorem createFault_canon (t : State) (w e short) (ht : t.canonical = true) : KeepsCanon s (s.createFault t w e short) := .of fun h => by
  unfold State.createFault; simp [h, ht]
@[simp] theorem psetChanged_canon : KeepsCanon s s.psetChanged := .of fun h => by unfold State.psetChanged; simp [h]
@[simp] theorem spoofDrop_canon (w field) : KeepsCanon s (s.spoofDrop w field) := .of fun h => by unfold State.spoofDrop; simp [h]
@[simp] theorem reportFault_canon (w cls addr) : KeepsCanon s (s.reportFault w cls addr) := .of fun h => by
  unfold State.reportFault; simp [h]
@[simp] theorem load_canon (w cls hosts addr n) : KeepsCanon s (s.load w cls hosts addr n).2 := .of fun h => by
  fun_cases State.load <;> simp [h]
@[simp] theorem fenceSignal_canon (w hw v) : KeepsCanon s (s.fenceSignal w hw v) := .of fun h => by
  unfold State.fenceSignal; (repeat' split) <;> simp [h]
@[simp] theorem fenceSignals_canon (w a) : KeepsCanon s (s.fenceSignals w a) := .of fun h => by
  fun_induction State.fenceSignals <;> simp_all
@[simp] theorem createDone_canon (w e kind idx) : KeepsCanon s (s.createDone w e kind idx) := .of fun h => by
  unfold State.createDone; simp [h]

@[simp] theorem execCreateFence_canon (dt w ext) (h : s.canonical = true) : EndsCanon (execCreateFence dt w ext s) := by
  dsimp only [execCreateFence]
  split
  · simp [h]
  split
  · simp [h]
  split
  · next hp => simp [h, snd_eq hp]
  · next hp => rw [snd_eq hp]; (repeat' split) <;> simp [h]

end Sys2Proof.Machine
end

section
/-!
PROOFS. Canonical memory: units, layers, compositions, writeback and scan-out.
-/
namespace Sys2Proof.Machine

variable (s : State)

@[simp] theorem mUnit_canon (u f) : KeepsCanon s (s.mUnit u f) := .of fun h => by unfold State.mUnit; simp [h]
@[simp] theorem domainQueue_canon (d) : KeepsCanon s (s.domainQueue d) := .of fun h => by unfold State.domainQueue; simp [h]
@[simp] theorem domainNeed_canon (d) : KeepsCanon s (s.domainNeed d) := .of fun h => by unfold State.domainNeed; simp [h]
@[simp] theorem cntAdd_canon (i n) : KeepsCanon s (s.cntAdd i n) := .of fun h => by unfold State.cntAdd; simp [h]
@[simp] theorem cntEvent_canon (kind inst ev n) : KeepsCanon s (s.cntEvent kind inst ev n) := .of fun h => by
  dsimp only [State.cntEvent]; (repeat' split) <;> simp [h]
@[simp] theorem cntFresh_canon (i) : KeepsCanon s (s.cntFresh i) := .of fun h => by unfold State.cntFresh; (repeat' split) <;> simp [h]
@[simp] theorem mPipe_canon (p f) : KeepsCanon s (s.mPipe p f) := .of fun h => by unfold State.mPipe; simp [h]
@[simp] theorem mLayer_canon (i f) : KeepsCanon s (s.mLayer i f) := .of fun h => by unfold State.mLayer; simp [h]
@[simp] theorem layerStatus_canon (i) : KeepsCanon s (s.layerStatus i) := .of fun h => by unfold State.layerStatus; simp [h]
@[simp] theorem layerShown_canon (i v) : KeepsCanon s (s.layerShown i v) := .of fun h => by unfold State.layerShown; simp [h]
@[simp] theorem flushRel_canon (i) : KeepsCanon s (s.flushRel i) := .of fun h => by unfold State.flushRel; simp [h]
@[simp] theorem layerScaler_canon (i) : KeepsCanon s (s.layerScaler i) := .of fun h => by unfold State.layerScaler; simp [h]
@[simp] theorem layerSettle_canon (i) : KeepsCanon s (s.layerSettle i) := .of fun h => by
  dsimp only [State.layerSettle]; (repeat' split) <;> simp [h]
@[simp] theorem layerTake_canon (w e) : KeepsCanon s (s.layerTake w e) := .of fun h => by
  dsimp only [State.layerTake]; (repeat' split) <;> simp [h]
@[simp] theorem pipeDirty_canon (p) : KeepsCanon s (s.pipeDirty p) := .of fun h => by unfold State.pipeDirty; simp [h]
@[simp] theorem layerOff_canon (i frame) : KeepsCanon s (s.layerOff i frame) := .of fun h => by unfold State.layerOff; simp [h]

@[simp] theorem execCreateLayer_canon (dt w ext) (h : s.canonical = true) : EndsCanon (execCreateLayer dt w ext s) := by
  dsimp only [execCreateLayer]
  split
  · simp [h]
  split
  · simp [h]
  split
  · next hp => simp [h, snd_eq hp]
  · next hp => rw [snd_eq hp]; (repeat' split) <;> simp [h]
@[simp] theorem layerGone_canon (i) : KeepsCanon s (s.layerGone i) := .of fun h => by unfold State.layerGone; simp [h]
@[simp] theorem layerDestroy_canon (i) : KeepsCanon s (s.layerDestroy i) := .of fun h => by unfold State.layerDestroy; simp [h]
@[simp] theorem execLayerTableWrite_canon (dt r addr v) (h : s.canonical = true) : EndsCanon (execLayerTableWrite dt r addr v s) := by
  unfold execLayerTableWrite; split <;> simp [h]
@[simp] theorem execLayerPipeBgWrite_canon (dt r p v) (h : s.canonical = true) : EndsCanon (execLayerPipeBgWrite dt r p v s) := by
  unfold execLayerPipeBgWrite; split <;> simp [h]
@[simp] theorem heldMaps_canon (c) : KeepsCanon s (s.heldMaps c) := .of fun h => by unfold State.heldMaps; simp [h]
@[simp] theorem putWords_canon (c b l) : KeepsCanon s (s.putWords c b l) := .of fun h => by
  fun_induction State.putWords <;> simp_all

@[simp] theorem composeTile_canon (hosts p t n) : KeepsCanon s (s.composeTile hosts p t n) := .of fun h => by
  induction n generalizing s with
  | zero => exact h
  | succ n ih => unfold State.composeTile; dsimp only; (repeat' split) <;> simp [h, ih]
@[simp] theorem composeTiles_canon (hosts p a) : KeepsCanon s (s.composeTiles hosts p a) := .of fun h => by
  fun_induction State.composeTiles <;> simp_all

@[simp] theorem readMetas_canon (hosts frame l) : KeepsCanon s (s.readMetas hosts frame l).1 := .of fun h => by
  induction l generalizing s with
  | nil => exact h
  | cons d r ih =>
    dsimp only [State.readMetas]
    split
    · exact ih _ h
    split
    · next hl => exact ih _ (by simp [h, snd_eq hl])
    · next hl => exact ih _ (by simp [h, snd_eq hl])

@[simp] theorem settleAll_canon (frame l) : KeepsCanon s (s.settleAll frame l) := .of fun h => by
  induction l generalizing s with
  | nil => exact h
  | cons i r ih => exact ih _ (by simp [h])

@[simp] theorem drawAll_canon (hls frame l) : KeepsCanon s (s.drawAll hls frame l).1 := .of fun h => by
  induction l generalizing s with
  | nil => exact h
  | cons i r ih => exact ih _ (by simp [h])
@[simp] theorem compMetas_canon (hosts p) : KeepsCanon s (s.compMetas hosts p) := .of fun h => by
  dsimp only [State.compMetas]; (repeat' split) <;> simp [h]
@[simp] theorem beginComposition_canon (p c) : KeepsCanon s (s.beginComposition p c) := .of fun h => by
  unfold State.beginComposition; simp [h]
@[simp] theorem storeErrors_canon (b cls) : KeepsCanon s (s.storeErrors b cls) := .of fun h => by
  unfold State.storeErrors; simp +contextual [h]
@[simp] theorem wbCapture_canon (p c b comp) : KeepsCanon s (s.wbCapture p c b comp) := .of fun h => by
  unfold State.wbCapture; (repeat' split) <;> simp [h]

@[simp] theorem frameMarks_canon (comp l) : KeepsCanon s (s.frameMarks comp l) := .of fun h => by
  induction l generalizing s with
  | nil => exact h
  | cons i r ih => exact ih _ (by simp [h])
@[simp] theorem finishComposition_canon (hosts p) : KeepsCanon s (s.finishComposition hosts p) := .of fun h => by
  dsimp only [State.finishComposition]; (repeat' split) <;> simp [h]
@[simp] theorem execCompositionDone_canon (dt p hosts) (h : s.canonical = true) : EndsCanon (execCompositionDone dt p hosts s) := by
  dsimp only [execCompositionDone]; (repeat' split) <;> simp [h]

@[simp] theorem execCreateWritebackTarget_canon (dt w ext) (h : s.canonical = true) : EndsCanon (execCreateWritebackTarget dt w ext s) := by
  dsimp only [execCreateWritebackTarget]
  split
  · simp [h]
  split
  · simp [h]
  split
  · simp [h]
  split
  · next hp => simp [h, snd_eq hp]
  · next hp => rw [snd_eq hp]; (repeat' split) <;> simp [h]

@[simp] theorem wbWrite_canon (base stride l) : KeepsCanon s (s.wbWrite base stride l).2 := .of fun h => by
  induction l generalizing s base with
  | nil => exact h
  | cons r rs ih =>
    unfold State.wbWrite
    split
    · next hs => exact ih _ _ (by simp [h, snd_eq hs])
    · next hs => simp [h, snd_eq hs]

@[simp] theorem execWbFrameWritten_canon (dt p) (h : s.canonical = true) : EndsCanon (execWbFrameWritten dt p s) := by
  dsimp only [execWbFrameWritten]
  split
  · simp [h]
  split
  · next hw => simp [h, snd_eq hw]
  · next hw => simp [h, snd_eq hw]
@[simp] theorem storeFound_canon (p x y) : KeepsCanon s (s.storeFound p x y) := .of fun h => by unfold State.storeFound; simp [h]

@[simp] theorem directRsv_canon (p l) : KeepsCanon s (s.directRsv p l) := .of fun h => by
  induction l generalizing s with
  | nil => exact h
  | cons i r ih => exact ih _ (by simp [h])
@[simp] theorem directOff_canon (p slot x y) : KeepsCanon s (s.directOff p slot x y) := .of fun h => by unfold State.directOff; simp [h]

@[simp] theorem scanLine_canon (hosts p y n x) : KeepsCanon s (s.scanLine hosts p y n x) := .of fun h => by
  induction n generalizing s x with
  | zero => exact h
  | succ n ih => unfold State.scanLine; dsimp only; (repeat' split) <;> simp [h, ih]

@[simp] theorem scanLines_canon (hosts p n) : KeepsCanon s (s.scanLines hosts p n) := .of fun h => by
  induction n with
  | zero => exact h
  | succ n ih => unfold State.scanLines; simp [ih]
@[simp] theorem replaceNow_canon (p) : KeepsCanon s (s.replaceNow p) := .of fun h => by fun_cases State.replaceNow <;> simp [h]
@[simp] theorem scanTo_canon (hosts p y) : KeepsCanon s (s.scanTo hosts p y) := .of fun h => by unfold State.scanTo; simp [h]
@[simp] theorem toLine_canon (hosts p y) : KeepsCanon s (s.toLine hosts p y) := .of fun h => by unfold State.toLine; simp [h]

end Sys2Proof.Machine
end

section
/-!
PROOFS. Canonical memory: the checks, chunks and their mapping, and the memory's upkeep.
-/
namespace Sys2Proof.Machine

variable (s : State)

@[simp] theorem takeRegions_canon (p) : KeepsCanon s (s.takeRegions p) := .of fun h => by unfold State.takeRegions; simp +contextual [h]
@[simp] theorem checkEvent_canon (kind st detail) : KeepsCanon s (s.checkEvent kind st detail) := .of fun h => by
  unfold State.checkEvent; simp [h]
@[simp] theorem publishRegion_canon (p f r) : KeepsCanon s (s.publishRegion p f r) := .of fun h => by unfold State.publishRegion; simp [h]
@[simp] theorem publish_canon (p f) : KeepsCanon s (s.publish p f) := .of fun h => by unfold State.publish; simp +contextual [h]
@[simp] theorem execChkWrite_canon (dt r o v) (h : s.canonical = true) : EndsCanon (execChkWrite dt r o v s) := by
  fun_cases execChkWrite <;> simp +zetaDelta [h]
@[simp] theorem setClaimed_canon (r p) {t : State} (ht : t.canonical = true) : KeepsCanon s ((s.setClaimed r p).getD t) := .of fun h => by
  unfold State.setClaimed; split <;> simp [h, ht]
@[simp] theorem execFrameMissing_canon (dt p) (h : s.canonical = true) : EndsCanon (execFrameMissing dt p s) := by
  unfold execFrameMissing; simp [h]
@[simp] theorem dcuRefuse_canon (u st) : KeepsCanon s (s.dcuRefuse u st) := .of fun h => by unfold State.dcuRefuse; simp [h]
@[simp] theorem dcuClosed_canon (r u) : KeepsCanon s (s.dcuClosed r u) := .of fun h => by fun_cases State.dcuClosed <;> simp [h]
@[simp] theorem dcuFeed_canon (u bs) : KeepsCanon s (s.dcuFeed u bs) := .of fun h => by unfold State.dcuFeed; simp [h]
@[simp] theorem execDcuData_canon (dt r u v) (h : s.canonical = true) : EndsCanon (execDcuData dt r u v s) := by
  unfold execDcuData; simp [h]
@[simp] theorem execDcuData8_canon (dt r u v) (h : s.canonical = true) : EndsCanon (execDcuData8 dt r u v s) := by
  unfold execDcuData8; simp [h]
@[simp] theorem execDcuRestart_canon (dt r u) (h : s.canonical = true) : EndsCanon (execDcuRestart dt r u s) := by
  unfold execDcuRestart; simp [h]
@[simp] theorem execDcuValueWrite_canon (dt r u which v) (h : s.canonical = true) : EndsCanon (execDcuValueWrite dt r u which v s) := by
  unfold execDcuValueWrite; simp [h]
@[simp] theorem execDcuCfgWrite_canon (dt r u v) (h : s.canonical = true) : EndsCanon (execDcuCfgWrite dt r u v s) := by
  dsimp only [execDcuCfgWrite]; (repeat' split) <;> simp [h]
@[simp] theorem mCtx_canon (i f) : KeepsCanon s (s.mCtx i f) := .of fun h => by unfold State.mCtx; simp [h]

@[simp] theorem execCreateCheckContext_canon (dt w ext) (h : s.canonical = true) : EndsCanon (execCreateCheckContext dt w ext s) := by
  dsimp only [execCreateCheckContext]
  split
  · simp [h]
  split
  · simp [h]
  split
  · next hp => simp [h, snd_eq hp]
  · next hp => rw [snd_eq hp]; (repeat' split) <;> simp [h]
@[simp] theorem ctxReady_canon (k) : KeepsCanon s (s.ctxReady k) := .of fun h => by unfold State.ctxReady; simp [h]
@[simp] theorem checkDone_canon (i st tag result) : KeepsCanon s (s.checkDone i st tag result) := .of fun h => by
  unfold State.checkDone; simp [h]
@[simp] theorem ctxEnd_canon (i) : KeepsCanon s (s.ctxEnd i) := .of fun h => by unfold State.ctxEnd; simp [h]
@[simp] theorem execCheckEntryDispatch_canon (dt) (h : s.canonical = true) : EndsCanon (execCheckEntryDispatch dt s) := by
  dsimp only [execCheckEntryDispatch]; (repeat' split) <;> simp [h]
@[simp] theorem aliveCheck_canon (i n data) : KeepsCanon s (s.aliveCheck i n data) := .of fun h => by
  dsimp only [State.aliveCheck]; (repeat' split) <;> simp [h]

@[simp] theorem execChkFeed_canon (dt i hosts) (h : s.canonical = true) : EndsCanon (execChkFeed dt i hosts s) := by
  dsimp only [execChkFeed]
  split
  · simp [h]
  split
  · simp [h]
  split
  · next hl => simp [h, snd_eq hl]
  · next hl => simp [h, snd_eq hl]
@[simp] theorem execChkFinish_canon (dt i) (h : s.canonical = true) : EndsCanon (execChkFinish dt i s) := by
  dsimp only [execChkFinish]; (repeat' split) <;> simp [h]
@[simp] theorem execChkSet_canon (dt i) (h : s.canonical = true) : EndsCanon (execChkSet dt i s) := by
  dsimp only [execChkSet]; (repeat' split) <;> simp [h]
@[simp] theorem execChkRestart_canon (dt i) (h : s.canonical = true) : EndsCanon (execChkRestart dt i s) := by
  dsimp only [execChkRestart]; (repeat' split) <;> simp [h]
@[simp] theorem ringAbandon_canon (k) : KeepsCanon s (s.ringAbandon k) := .of fun h => by unfold State.ringAbandon; simp [h]
@[simp] theorem ctxAbandon_canon (i) : KeepsCanon s (s.ctxAbandon i) := .of fun h => by unfold State.ctxAbandon; simp +contextual [h]
@[simp] theorem mIcv_canon (p f) : KeepsCanon s (s.mIcv p f) := .of fun h => by unfold State.mIcv; simp [h]
@[simp] theorem mNode_canon (n f) : KeepsCanon s (s.mNode n f) := .of fun h => by unfold State.mNode; simp [h]
@[simp] theorem flitOut_canon (p ty) : KeepsCanon s (s.flitOut p ty) := .of fun h => by unfold State.flitOut; simp [h]
@[simp] theorem flitTo_canon (n ty) : KeepsCanon s (s.flitTo n ty) := .of fun h => by fun_cases State.flitTo <;> simp [h]
@[simp] theorem ctlSend_canon (dest m) : KeepsCanon s (s.ctlSend dest m) := .of fun h => by unfold State.ctlSend; simp [h]
@[simp] theorem exportGone_canon (idx) : KeepsCanon s (s.exportGone idx) := .of fun h => by unfold State.exportGone; simp +contextual [h]
@[simp] theorem mMac_canon (m f) : KeepsCanon s (s.mMac m f) := .of fun h => by unfold State.mMac; simp [h]
@[simp] theorem creditTick_canon (m) : KeepsCanon s (s.creditTick m) := .of fun h => by unfold State.creditTick; simp [h]
@[simp] theorem setChunk_canon (mem i state owner) : KeepsCanon s (s.setChunk mem i state owner) := .of fun h => by
  unfold State.setChunk; simp [h]
@[simp] theorem setChunks_canon (mem state owner a) : KeepsCanon s (s.setChunks mem state owner a) := .of fun h => by
  fun_induction State.setChunks <;> simp_all
@[simp] theorem zeroChunk_canon (mem i) : KeepsCanon s (s.zeroChunk mem i) := .of fun h => by
  rw [canonical_iff] at h ⊢
  exact ⟨twf_tcut h.1 _ _, h.2⟩

@[simp] theorem zeroChunks_canon (mem l) : KeepsCanon s (s.zeroChunks mem l) := .of fun h => by
  induction l generalizing s with
  | nil => exact h
  | cons i r ih => exact ih _ (by simp [h])
@[simp] theorem viChunks_canon (w mem n up) : KeepsCanon s (s.viChunks w mem n up) := .of fun h => by unfold State.viChunks; simp [h]
@[simp] theorem countChunks_canon (w mem n) : KeepsCanon s (s.countChunks w mem n) := .of fun h => by unfold State.countChunks; simp [h]
@[simp] theorem uncountChunks_canon (w mem n) : KeepsCanon s (s.uncountChunks w mem n) := .of fun h => by
  unfold State.uncountChunks; simp [h]

@[simp] theorem execCreateMemoryChunk_canon (dt w ext) (h : s.canonical = true) : EndsCanon (execCreateMemoryChunk dt w ext s) := by
  dsimp only [execCreateMemoryChunk]
  split
  · simp [h]
  split
  · simp [h]
  split
  · next hp => simp [h, snd_eq hp]
  · next hp => rw [snd_eq hp]; (repeat' split) <;> simp [h]
@[simp] theorem mapChunks_canon (w mem ro a l) : KeepsCanon s (s.mapChunks w mem ro a l) := .of fun h => by
  fun_induction State.mapChunks <;> simp_all
@[simp] theorem unmapChunks_canon (w first n) : KeepsCanon s (s.unmapChunks w first n) := .of fun h => by unfold State.unmapChunks; simp [h]
@[simp] theorem execChunkZeroDone_canon (dt idx) (h : s.canonical = true) : EndsCanon (execChunkZeroDone dt idx s) := by
  dsimp only [execChunkZeroDone]; (repeat' split) <;> simp [h]
@[simp] theorem compHold_canon (w first n) : KeepsCanon s (s.compHold w first n) := .of fun h => by unfold State.compHold; simp [h]
@[simp] theorem memUnmap_canon (w idx) : KeepsCanon s (s.memUnmap w idx) := .of fun h => by unfold State.memUnmap; simp [h]
@[simp] theorem execChunkUnmapDrainDone_canon (dt idx) (h : s.canonical = true) : EndsCanon (execChunkUnmapDrainDone dt idx s) := by
  dsimp only [execChunkUnmapDrainDone]; (repeat' split) <;> simp [h]
@[simp] theorem execZeroingDone_canon (dt mem chunk) (h : s.canonical = true) : EndsCanon (execZeroingDone dt mem chunk s) := by
  dsimp only [execZeroingDone]
  split <;> simp [h]
theorem placeBuffer_canon {s : State} (h : s.canonical = true) (pipe c) : ∀ p ∈ s.placeBuffer pipe c, p.2.canonical = true := by
  dsimp only [State.placeBuffer]; split <;> simp [h]

theorem placeStore_canon {s : State} (h : s.canonical = true) (pipe c n) : ∀ p ∈ s.placeStore pipe c n, p.2.canonical = true := by
  induction n generalizing s with
  | zero => simp [State.placeStore, h]
  | succ n ih =>
    unfold State.placeStore
    split
    · simp
    next hb =>
    split
    · simp
    next hs => simpa using ih (placeBuffer_canon h _ _ _ hb) _ hs
@[simp] theorem releaseStore_canon (a) : KeepsCanon s (s.releaseStore a) := .of fun h => by fun_induction State.releaseStore <;> simp_all
@[simp] theorem scrubError_canon (mem base e) : KeepsCanon s (s.scrubError mem base e) := .of fun h => by unfold State.scrubError; simp [h]
@[simp] theorem execScrubChunk_canon (dt mem errs) (h : s.canonical = true) : EndsCanon (execScrubChunk dt mem errs s) := by
  dsimp only [execScrubChunk]; (repeat' split) <;> simp +contextual [h]
@[simp] theorem execPageRetired_canon (dt mem page) (h : s.canonical = true) : EndsCanon (execPageRetired dt mem page s) := by
  dsimp only [execPageRetired]; (repeat' split) <;> simp [h]
@[simp] theorem execLpddrDriftTrack_canon (dt ch) (h : s.canonical = true) : EndsCanon (execLpddrDriftTrack dt ch s) := by
  unfold execLpddrDriftTrack; simp [h]
@[simp] theorem execBwWindow_canon (dt mem want) (h : s.canonical = true) : EndsCanon (execBwWindow dt mem want s) := by
  unfold execBwWindow; simp [h]
@[simp] theorem bwTotal_canon (mem) : KeepsCanon s (s.bwTotal mem) := .of fun h => by unfold State.bwTotal; simp [h]
@[simp] theorem execMemBwClassWrite_canon (dt mem c v) (h : s.canonical = true) : EndsCanon (execMemBwClassWrite dt mem c v s) := by
  unfold execMemBwClassWrite; simp [h]
@[simp] theorem setNeed_canon (pipe need) : KeepsCanon s (s.setNeed pipe need) := .of fun h => by unfold State.setNeed; simp [h]

end Sys2Proof.Machine
end

section
/-!
PROOFS. Canonical memory: audio, and the commits of layers.
-/
namespace Sys2Proof.Machine

variable (s : State)

@[simp] theorem mDom_canon (d f) : KeepsCanon s (s.mDom d f) := .of fun h => by unfold State.mDom; simp [h]
@[simp] theorem mPlayer_canon (n f) : KeepsCanon s (s.mPlayer n f) := .of fun h => by unfold State.mPlayer; simp [h]
@[simp] theorem mStream_canon (k f) : KeepsCanon s (s.mStream k f) := .of fun h => by unfold State.mStream; simp [h]
@[simp] theorem audioResult_canon (st) : KeepsCanon s (s.audioResult st) := .of fun h => by unfold State.audioResult; simp [h]
@[simp] theorem capacityShow_canon : KeepsCanon s s.capacityShow := .of fun h => by unfold State.capacityShow; simp [h]
@[simp] theorem mapCommit_canon {t : State} (bad) (ht : t.canonical = true) : KeepsCanon s (s.mapCommit t bad) := .of fun h => by
  unfold State.mapCommit; dsimp only; split <;> simp [h, ht]
@[simp] theorem execAudioMapWrite_canon (dt r addr v) (h : s.canonical = true) : EndsCanon (execAudioMapWrite dt r addr v s) := by
  dsimp only [execAudioMapWrite]; (repeat' split) <;> simp [h]
@[simp] theorem domResult_canon (d st) : KeepsCanon s (s.domResult d st) := .of fun h => by unfold State.domResult; simp [h]
@[simp] theorem execAudioDomainEnable_canon (dt r d v) (h : s.canonical = true) : EndsCanon (execAudioDomainEnable dt r d v s) := by
  dsimp only [execAudioDomainEnable]; (repeat' split) <;> simp [h]
@[simp] theorem execAudioDomainDisable_canon (dt r d v) (h : s.canonical = true) : EndsCanon (execAudioDomainDisable dt r d v s) := by
  dsimp only [execAudioDomainDisable]; (repeat' split) <;> simp [h]
@[simp] theorem execAudioDomCtrlWrite_canon (dt r d v) (h : s.canonical = true) : EndsCanon (execAudioDomCtrlWrite dt r d v s) := by
  dsimp only [execAudioDomCtrlWrite]; (repeat' split) <;> simp [h]
@[simp] theorem domLockEvent_canon (d locked) : KeepsCanon s (s.domLockEvent d locked) := .of fun h => by
  unfold State.domLockEvent; simp [h]
@[simp] theorem execAudioSourceLost_canon (dt d) (h : s.canonical = true) : EndsCanon (execAudioSourceLost dt d s) := by
  unfold execAudioSourceLost; simp [h]
@[simp] theorem execDomainLock_canon (dt d ppm) (h : s.canonical = true) : EndsCanon (execDomainLock dt d ppm s) := by
  unfold execDomainLock; simp [h]
@[simp] theorem dynStep_canon (rec_ hz group st x d) : KeepsCanon s (s.dynStep rec_ hz group st x d).2.2.2 := .of fun h => by
  dsimp only [State.dynStep]; (repeat' split) <;> simp [h]
@[simp] theorem slotStep_canon (hz link b fx slot x) : KeepsCanon s (s.slotStep hz link b fx slot x).2.2 := .of fun h => by
  unfold State.slotStep; (repeat' split) <;> simp [h]
@[simp] theorem chainStep_canon (hz link b fx c x) : KeepsCanon s (s.chainStep hz link b fx c x).2.2 := .of fun h =>
  foldl_canonical (fun a : Int × FxSt × State => a.2.2) _ (fun _ _ ha => by simp [ha]) _ h

@[simp] theorem chains_canon (hz link b fx off l) : KeepsCanon s (s.chains hz link b fx off l).2.2 := .of fun h => by
  induction l generalizing s fx with
  | nil => exact h
  | cons x r ih => dsimp only [State.chains]; simp [h, ih]
@[simp] theorem matrixPass_canon (hz link b fx xs outs) : KeepsCanon s (s.matrixPass hz link b fx xs outs).2.2.2 := .of fun h => by
  unfold State.matrixPass; simp [h]
@[simp] theorem matrixStep_canon (hz b fx xs outs) : KeepsCanon s (s.matrixStep hz b fx xs outs).2.2.2 := .of fun h => by
  fun_cases State.matrixStep <;> simp [h]
@[simp] theorem satCount_canon (j) : KeepsCanon s (s.satCount j) := .of fun h => by unfold State.satCount; simp [h]
@[simp] theorem audioNote_canon (n sat ys) : KeepsCanon s (s.audioNote n sat ys) := .of fun h => by
  unfold State.audioNote; simp +contextual [h]
@[simp] theorem playerTake_canon (bank n) : KeepsCanon s (s.playerTake bank n) := .of fun h => by unfold State.playerTake; simp [h]
@[simp] theorem playerBytes_canon (hosts p) : KeepsCanon s (s.playerBytes hosts p).2 := .of fun h => by
  fun_cases State.playerBytes <;> simp [h]

@[simp] theorem playerStep_canon (bank hosts n) : KeepsCanon s (s.playerStep bank hosts n).2 := .of fun h => by
  dsimp only [State.playerStep]
  split
  · simp [h]
  split
  · next hb => simp [h, snd_eq hb]
  · next hb => simp [h, snd_eq hb]
@[simp] theorem streamEvent_canon (k kind st) : KeepsCanon s (s.streamEvent k kind st) := .of fun h => by unfold State.streamEvent; simp [h]
@[simp] theorem streamNext_canon (k) : KeepsCanon s (s.streamNext k) := .of fun h => by unfold State.streamNext; simp [h]
@[simp] theorem streamXrun_canon (k) : KeepsCanon s (s.streamXrun k) := .of fun h => by unfold State.streamXrun; simp [h]
@[simp] theorem streamFault_canon (k) : KeepsCanon s (s.streamFault k) := .of fun h => by unfold State.streamFault; simp [h]
@[simp] theorem streamWait_canon (k) : KeepsCanon s (s.streamWait k) := .of fun h => by unfold State.streamWait; simp [h]

@[simp] theorem streamIn_canon (hosts k) : KeepsCanon s (s.streamIn hosts k).2 := .of fun h => by
  dsimp only [State.streamIn]
  split
  · simp [h]
  split
  · simp [h]
  split
  · next hl => simp [h, snd_eq hl]
  · next hl => simp [h, snd_eq hl]

@[simp] theorem streamOut_canon (k ys) : KeepsCanon s (s.streamOut k ys) := .of fun h => by
  dsimp only [State.streamOut]
  split
  · simp [h]
  split
  · next hs => simp [h, snd_eq hs]
  · next hs => simp [h, snd_eq hs]
@[simp] theorem avtpIn_canon (i n) : KeepsCanon s (s.avtpIn i n).2 := .of fun h => by fun_cases State.avtpIn <;> simp [h]
@[simp] theorem runIn_canon (bank hosts pins r) : KeepsCanon s (s.runIn bank hosts pins r).2 := .of fun h => by
  dsimp only [State.runIn]; (repeat' split) <;> simp [h]

@[simp] theorem runsIn_canon (bank hosts pins l) : KeepsCanon s (s.runsIn bank hosts pins l).2 := .of fun h => by
  induction l generalizing s with
  | nil => exact h
  | cons r rs ih => dsimp only [State.runsIn]; simp [h, ih]
@[simp] theorem runOut_canon (ys r) : KeepsCanon s (s.runOut ys r) := .of fun h => by unfold State.runOut; (repeat' split) <;> simp [h]
@[simp] theorem execAudioSwapGo_canon (dt r v) (h : s.canonical = true) : EndsCanon (execAudioSwapGo dt r v s) := by
  dsimp only [execAudioSwapGo]; (repeat' split) <;> simp [h]
@[simp] theorem swapAdvance_canon : KeepsCanon s s.swapAdvance := .of fun h => by unfold State.swapAdvance; simp [h]
@[simp] theorem playerFill_canon (hosts n new) : KeepsCanon s (s.playerFill hosts n new) := .of fun h => by
  unfold State.playerFill; simp [h]
@[simp] theorem playerBad_canon (n bad) : KeepsCanon s (s.playerBad n bad) := .of fun h => by unfold State.playerBad; simp [h]
@[simp] theorem playerCheck_canon (hosts n) : KeepsCanon s (s.playerCheck hosts n) := .of fun h => by unfold State.playerCheck; simp [h]
@[simp] theorem execSwapCheckDone_canon (dt hosts) (h : s.canonical = true) : EndsCanon (execSwapCheckDone dt hosts s) := by
  dsimp only [execSwapCheckDone]; (repeat' split) <;> simp +contextual [h]
@[simp] theorem execSwapDone_canon (dt) (h : s.canonical = true) : EndsCanon (execSwapDone dt s) := by unfold execSwapDone; simp [h]
@[simp] theorem bankWrite_canon (off v) : KeepsCanon s (s.bankWrite off v) := .of fun h => by unfold State.bankWrite; simp [h]
@[simp] theorem zeroRuns_canon (d) : KeepsCanon s (s.zeroRuns d) := .of fun h => by unfold State.zeroRuns; simp [h]

@[simp] theorem sampleStep_canon (d hosts pins) : KeepsCanon s (s.sampleStep d hosts pins) := .of fun h => by
  unfold State.sampleStep
  extract_lets m n s₁ inRuns
  have h₁ : s₁.canonical = true := by simp [s₁, h]
  split
  next xs s₂ hin =>
  have h₂ : s₂.canonical = true := by simp [snd_eq hin, h₁]
  extract_lets outRuns outs swapping fading bank
  split
  next ys sat fx s₃ hout =>
  have h₃ : s₃.canonical = true := by
    rw [show s₃ = _ from congrArg (fun p => p.2.2.2) hout.symm]; simp [h₂]
  split
  next ys' sat' fx' fxNew s₄ hfade =>
  have h₄ : s₄.canonical = true := by
    rw [show s₄ = _ from congrArg (fun p => p.2.2.2.2) hfade.symm]
    split
    · dsimp only; split <;> simp [h₃]
    · exact h₃
  simp +contextual [h₄]
@[simp] theorem domStop_canon (d) : KeepsCanon s (s.domStop d) := .of fun h => by unfold State.domStop; simp [h]
@[simp] theorem execSampleBoundary_canon (dt d pins hosts) (h : s.canonical = true) : EndsCanon (execSampleBoundary dt d pins hosts s) := by
  dsimp only [execSampleBoundary]; (repeat' split) <;> simp [h]
@[simp] theorem execAudioPathSelWrite_canon (dt r v) (h : s.canonical = true) : EndsCanon (execAudioPathSelWrite dt r v s) := by
  dsimp only [execAudioPathSelWrite]; (repeat' split) <;> simp [h]
@[simp] theorem playerTrigger_canon (n) : KeepsCanon s (s.playerTrigger n) := .of fun h => by unfold State.playerTrigger; simp [h]
@[simp] theorem playerHalt_canon (n) : KeepsCanon s (s.playerHalt n) := .of fun h => by unfold State.playerHalt; simp [h]
@[simp] theorem execPlayerTrigger_canon (dt r n) (h : s.canonical = true) : EndsCanon (execPlayerTrigger dt r n s) := by
  unfold execPlayerTrigger; simp [h]
@[simp] theorem execPlayerStop_canon (dt r n) (h : s.canonical = true) : EndsCanon (execPlayerStop dt r n s) := by
  unfold execPlayerStop; simp [h]
@[simp] theorem streamReady_canon (k tag) : KeepsCanon s (s.streamReady k tag) := .of fun h => by unfold State.streamReady; simp [h]

@[simp] theorem createStream_canon (w kind e ext) : KeepsCanon s (s.createStream w kind e ext) := .of fun h => by
  dsimp only [State.createStream]
  split
  · simp [h]
  split
  · next hp => simp [h, snd_eq hp]
  · next hp => rw [snd_eq hp]; (repeat' split) <;> simp [h]
@[simp] theorem execCreateAudioStreamIn_canon (dt w ext) (h : s.canonical = true) : EndsCanon (execCreateAudioStreamIn dt w ext s) := by
  dsimp only [execCreateAudioStreamIn]; (repeat' split) <;> simp [h]
@[simp] theorem execCreateAudioStreamOut_canon (dt w ext) (h : s.canonical = true) : EndsCanon (execCreateAudioStreamOut dt w ext s) := by
  dsimp only [execCreateAudioStreamOut]; (repeat' split) <;> simp [h]
@[simp] theorem execStreamCreateSwapIdle_canon (dt k) (h : s.canonical = true) : EndsCanon (execStreamCreateSwapIdle dt k s) := by
  dsimp only [execStreamCreateSwapIdle]; (repeat' split) <;> simp [h]
@[simp] theorem execStreamRun_canon (dt w sl v) (h : s.canonical = true) : EndsCanon (execStreamRun dt w sl v s) := by
  dsimp only [execStreamRun]; (repeat' split) <;> simp [h]
@[simp] theorem streamStop_canon (k) : KeepsCanon s (s.streamStop k) := .of fun h => by unfold State.streamStop; simp [h]
@[simp] theorem streamGone_canon (k) : KeepsCanon s (s.streamGone k) := .of fun h => by unfold State.streamGone; simp [h]
@[simp] theorem execTdmClkLost_canon (dt p) (h : s.canonical = true) : EndsCanon (execTdmClkLost dt p s) := by
  unfold execTdmClkLost; simp [h]
@[simp] theorem execTdmClkReturn_canon (dt p) (h : s.canonical = true) : EndsCanon (execTdmClkReturn dt p s) := by
  unfold execTdmClkReturn; simp [h]
@[simp] theorem execSwrCmd_canon (dt r m v) (h : s.canonical = true) : EndsCanon (execSwrCmd dt r m v s) := by unfold execSwrCmd; simp [h]
@[simp] theorem execSwrCmdDone_canon (dt m ok byte) (h : s.canonical = true) : EndsCanon (execSwrCmdDone dt m ok byte s) := by
  dsimp only [execSwrCmdDone]; (repeat' split) <;> simp [h]
@[simp] theorem execSwrPeripheralAttach_canon (dt m k on chIn chOut) (h : s.canonical = true) :
    EndsCanon (execSwrPeripheralAttach dt m k on chIn chOut s) := by
  unfold execSwrPeripheralAttach; simp [h]
@[simp] theorem execAvtpTalkerInterval_canon (dt i) (h : s.canonical = true) : EndsCanon (execAvtpTalkerInterval dt i s) := by
  unfold execAvtpTalkerInterval; simp [h]
@[simp] theorem execAvtpStream_canon (dt i) (h : s.canonical = true) : EndsCanon (execAvtpStream dt i s) := by
  unfold execAvtpStream; simp [h]
@[simp] theorem avtpReceive_canon (i p period) : KeepsCanon s (s.avtpReceive i p period) := .of fun h => by
  unfold State.avtpReceive; simp [h]
@[simp] theorem audioRestart_canon : KeepsCanon s s.audioRestart := .of fun h => by unfold State.audioRestart; simp +contextual [h]
@[simp] theorem portState_canon (c st res) : KeepsCanon s (s.portState c st res) := .of fun h => by unfold State.portState; simp [h]
@[simp] theorem portFrame_canon (c f) : KeepsCanon s (s.portFrame c f) := .of fun h => by unfold State.portFrame; simp [h]
@[simp] theorem portPending_canon (w p) : KeepsCanon s (s.portPending w p) := .of fun h => by unfold State.portPending; simp [h]
@[simp] theorem headerFrame_canon (c frame) : KeepsCanon s (s.headerFrame c frame) := .of fun h => by unfold State.headerFrame; simp [h]
@[simp] theorem headerWrite_canon (c st res frame) : KeepsCanon s (s.headerWrite c st res frame) := .of fun h => by
  unfold State.headerWrite; simp [h]
@[simp] theorem refuseToken_canon (w p token st) : KeepsCanon s (s.refuseToken w p token st) := .of fun h => by
  unfold State.refuseToken; simp [h]
@[simp] theorem execCommitToken_canon (dt w p token) (h : s.canonical = true) : EndsCanon (execCommitToken dt w p token s) := by
  dsimp only [execCommitToken]; (repeat' split) <;> simp [h]

@[simp] theorem entryChecks_canon (c hosts n i) : KeepsCanon s (s.entryChecks c hosts n i).1 := .of fun h => by
  induction n generalizing s i with
  | zero => exact h
  | succ n ih =>
    dsimp only [State.entryChecks]
    split
    · next hl => simp [h, snd_eq hl]
    · next hl => exact ih _ _ (by simp [h, snd_eq hl])

@[simp] theorem checkCommit_canon (c hosts) : KeepsCanon s (s.checkCommit c hosts).1 := .of fun h => by
  dsimp only [State.checkCommit]
  split
  · next hl => simp [h, snd_eq hl]
  · next hl => rw [snd_eq hl]; split <;> simp [h]
@[simp] theorem takeEnts_canon (w direct a) : KeepsCanon s (s.takeEnts w direct a) := .of fun h => by
  fun_induction State.takeEnts <;> simp_all
@[simp] theorem putCommit_canon (c new) : KeepsCanon s (s.putCommit c new) := .of fun h => by unfold State.putCommit; simp [h]
@[simp] theorem latchCommit_canon (c frame) : KeepsCanon s (s.latchCommit c frame) := .of fun h => by unfold State.latchCommit; simp [h]
@[simp] theorem takeNow_canon (c) : KeepsCanon s (s.takeNow c) := .of fun h => by unfold State.takeNow; simp +contextual [h]
@[simp] theorem takeComposition_canon (p comp) : KeepsCanon s (s.takeComposition p comp) := .of fun h => by
  unfold State.takeComposition; simp +contextual [h]
@[simp] theorem startComposition_canon (hosts p comp) : KeepsCanon s (s.startComposition hosts p comp) := .of fun h => by
  unfold State.startComposition; simp [h]
@[simp] theorem latchOne_canon (p k done c) : KeepsCanon s (s.latchOne p k done c) := .of fun h => by unfold State.latchOne; simp [h]
@[simp] theorem captureSlots_canon (hosts p frame ids) : KeepsCanon s (s.captureSlots hosts p frame ids) := .of fun h => by
  unfold State.captureSlots; simp +contextual [h]
@[simp] theorem captureDirects_canon (hosts p frame) : KeepsCanon s (s.captureDirects hosts p frame) := .of fun h => by
  unfold State.captureDirects; simp [h]
@[simp] theorem commitPass_canon (c hosts ents) : KeepsCanon s (s.commitPass c hosts ents) := .of fun h => by
  unfold State.commitPass; simp +contextual [h]
@[simp] theorem commitFail_canon (c st field) : KeepsCanon s (s.commitFail c st field) := .of fun h => by unfold State.commitFail; simp [h]
@[simp] theorem releaseWaiting_canon (hosts p) : KeepsCanon s (s.releaseWaiting hosts p) := .of fun h => by
  fun_cases State.releaseWaiting <;> simp [h]
@[simp] theorem releaseAll_canon : KeepsCanon s s.releaseAll := .of fun h => by
  refine (foldl_canon _ _ _ fun t p ht => ?_).canonical h
  split <;> simp [ht]
@[simp] theorem latchHeld_canon (p frame) : KeepsCanon s (s.latchHeld p frame) := .of fun h => by
  unfold State.latchHeld; simp +contextual [h]
@[simp] theorem execCommitCheckDone_canon (dt w p hosts) (h : s.canonical = true) : EndsCanon (execCommitCheckDone dt w p hosts s) := by
  dsimp only [execCommitCheckDone]; (repeat' split) <;> simp [h]

end Sys2Proof.Machine
end

section
/-!
PROOFS. Canonical memory: haptics, reflexes, touch, and the surface operations of rendering.
-/
namespace Sys2Proof.Machine

variable (s : State)

@[simp] theorem mHap_canon (c f) : KeepsCanon s (s.mHap c f) := .of fun h => by unfold State.mHap; simp [h]
@[simp] theorem hapResult_canon (st) : KeepsCanon s (s.hapResult st) := .of fun h => by unfold State.hapResult; simp [h]
@[simp] theorem hapOwn_canon (c st) : KeepsCanon s (s.hapOwn c st) := .of fun h => by unfold State.hapOwn; simp [h]
@[simp] theorem hapEvents_canon (i kind st detail) : KeepsCanon s (s.hapEvents i kind st detail) := .of fun h => by
  unfold State.hapEvents; simp [h]
@[simp] theorem hapCount_canon (c) : KeepsCanon s (s.hapCount c) := .of fun h => by unfold State.hapCount; simp [h]
@[simp] theorem hapPlayed_canon (c) : KeepsCanon s (s.hapPlayed c) := .of fun h => by fun_cases State.hapPlayed <;> simp [h]
@[simp] theorem hapEnter_canon (c code) : KeepsCanon s (s.hapEnter c code) := .of fun h => by
  dsimp only [State.hapEnter]; (repeat' split) <;> simp [h]
@[simp] theorem hapPlay_canon (c) : KeepsCanon s (s.hapPlay c) := .of fun h => by unfold State.hapPlay; simp [h]
@[simp] theorem hapBrake_canon (c) : KeepsCanon s (s.hapBrake c) := .of fun h => by unfold State.hapBrake; simp [h]
@[simp] theorem hapIdle_canon (c code) : KeepsCanon s (s.hapIdle c code) := .of fun h => by unfold State.hapIdle; simp [h]
theorem hapStep_canon {s : State} (h : s.canonical = true) (c amp) : ∀ t ∈ s.hapStep c amp, t.canonical = true := by
  dsimp only [State.hapStep]; (repeat' split) <;> simp [h]

@[simp] theorem hapSteps_canon (c amp n) : KeepsCanon s (s.hapSteps c amp n) := .of fun h => by
  induction n generalizing s with
  | zero => exact h
  | succ n ih =>
    unfold State.hapSteps
    split
    · next ht => exact ih _ (hapStep_canon h _ _ _ ht)
    · exact h
@[simp] theorem execHapControlPeriod_canon (dt c amp freq) (h : s.canonical = true) : EndsCanon (execHapControlPeriod dt c amp freq s) := by
  dsimp only [execHapControlPeriod]; (repeat' split) <;> simp [h]
@[simp] theorem hapUnpend_canon (c) : KeepsCanon s (s.hapUnpend c) := .of fun h => by unfold State.hapUnpend; (repeat' split) <;> simp [h]
@[simp] theorem hapDrop_canon (c) : KeepsCanon s (s.hapDrop c) := .of fun h => by fun_cases State.hapDrop <;> simp [h]
@[simp] theorem hapTake_canon (c i) : KeepsCanon s (s.hapTake c i) := .of fun h => by unfold State.hapTake; simp [h]
@[simp] theorem hapTrigger_canon (i) : KeepsCanon s (s.hapTrigger i).2 := .of fun h => by
  dsimp only [State.hapTrigger]; (repeat' split) <;> simp [h]
@[simp] theorem hslotResult_canon (i st) : KeepsCanon s (s.hslotResult i st) := .of fun h => by unfold State.hslotResult; simp [h]
@[simp] theorem execHslotPlay_canon (dt w k) (h : s.canonical = true) : EndsCanon (execHslotPlay dt w k s) := by
  dsimp only [execHslotPlay]; (repeat' split) <;> simp [h]
@[simp] theorem hslotHalt_canon (i) : KeepsCanon s (s.hslotHalt i) := .of fun h => by
  dsimp only [State.hslotHalt]; (repeat' split) <;> simp [h]
@[simp] theorem execHslotStop_canon (dt w k) (h : s.canonical = true) : EndsCanon (execHslotStop dt w k s) := by
  dsimp only [execHslotStop]; (repeat' split) <;> simp [h]
@[simp] theorem hslotDestroy_canon (i) : KeepsCanon s (s.hslotDestroy i) := .of fun h => by
  dsimp only [State.hslotDestroy]; (repeat' split) <;> simp [h]
@[simp] theorem hslotGone_canon (i) : KeepsCanon s (s.hslotGone i) := .of fun h => by unfold State.hslotGone; simp [h]

@[simp] theorem execCreateHapticEffectSlot_canon (dt w ext) (h : s.canonical = true) : EndsCanon (execCreateHapticEffectSlot dt w ext s) := by
  dsimp only [execCreateHapticEffectSlot]
  split
  · simp [h]
  split
  · simp [h]
  split
  · next hp => simp [h, snd_eq hp]
  · next hp => rw [snd_eq hp]; (repeat' split) <;> simp [h]
@[simp] theorem execHapLibCommit_canon (dt r k v) (h : s.canonical = true) : EndsCanon (execHapLibCommit dt r k v s) := by
  unfold execHapLibCommit; split <;> simp [h]
@[simp] theorem hapFields_canon (c v) : KeepsCanon s (s.hapFields c v) := .of fun h => by unfold State.hapFields; simp [h]
@[simp] theorem execHapEnable_canon (dt r c v) (h : s.canonical = true) : EndsCanon (execHapEnable dt r c v s) := by
  dsimp only [execHapEnable]; (repeat' split) <;> simp [h]
@[simp] theorem execHapDisable_canon (dt r c v) (h : s.canonical = true) : EndsCanon (execHapDisable dt r c v s) := by
  dsimp only [execHapDisable]; (repeat' split) <;> simp [h]
@[simp] theorem execHapStop_canon (dt r c) (h : s.canonical = true) : EndsCanon (execHapStop dt r c s) := by unfold execHapStop; simp [h]
@[simp] theorem hapCalStart_canon (c quick) : KeepsCanon s (s.hapCalStart c quick) := .of fun h => by unfold State.hapCalStart; simp [h]
@[simp] theorem execHapCal_canon (dt r c) (h : s.canonical = true) : EndsCanon (execHapCal dt r c s) := by
  dsimp only [execHapCal]; (repeat' split) <;> simp [h]
@[simp] theorem hapDomainStart_canon : KeepsCanon s s.hapDomainStart := .of fun h => by unfold State.hapDomainStart; simp +contextual [h]
@[simp] theorem calEvent_canon (c st why) : KeepsCanon s (s.calEvent c st why) := .of fun h => by unfold State.calEvent; simp [h]
@[simp] theorem execCalDone_canon (dt c near low peak f0 rc l k) (h : s.canonical = true) :
    EndsCanon (execCalDone dt c near low peak f0 rc l k s) := by
  unfold execCalDone; split <;> simp [h]
@[simp] theorem hapFaultEvent_canon (c why) : KeepsCanon s (s.hapFaultEvent c why) := .of fun h => by unfold State.hapFaultEvent; simp [h]
@[simp] theorem execHapShort_canon (dt c) (h : s.canonical = true) : EndsCanon (execHapShort dt c s) := by unfold execHapShort; simp [h]
@[simp] theorem execAccelRead_canon (dt c v) (h : s.canonical = true) : EndsCanon (execAccelRead dt c v s) := by
  unfold execAccelRead; split <;> simp [h]
@[simp] theorem execHapBinBoundary_canon (dt c) (h : s.canonical = true) : EndsCanon (execHapBinBoundary dt c s) := by
  dsimp only [execHapBinBoundary]; (repeat' split) <;> simp [h]
@[simp] theorem execHapticDropped_canon (dt c) (h : s.canonical = true) : EndsCanon (execHapticDropped dt c s) := by
  dsimp only [execHapticDropped]; (repeat' split) <;> simp [h]
@[simp] theorem execHapRestEnd_canon (dt c) (h : s.canonical = true) : EndsCanon (execHapRestEnd dt c s) := by
  dsimp only [execHapRestEnd]; (repeat' split) <;> simp [h]
@[simp] theorem execCoilModelUpdate_canon (dt c irms amb) (h : s.canonical = true) : EndsCanon (execCoilModelUpdate dt c irms amb s) := by
  dsimp only [execCoilModelUpdate]; (repeat' split) <;> simp [h]

@[simp] theorem execCreateReflexBinding_canon (dt w ext) (h : s.canonical = true) : EndsCanon (execCreateReflexBinding dt w ext s) := by
  unfold execCreateReflexBinding
  extract_lets s₁
  split
  · simp [s₁, h]
  split
  · simp [s₁, h]
  split
  · next hp => simp [s₁, h, snd_eq hp]
  next b s₂ hp =>
  have h₂ : s₂.canonical = true := by simp [snd_eq hp, s₁, h]
  extract_lets p named fails zone raises st
  clear_value st
  split <;> simp +zetaDelta [h₂]
@[simp] theorem setHighlight_canon (i on) : KeepsCanon s (s.setHighlight i on) := .of fun h => by unfold State.setHighlight; simp [h]
@[simp] theorem rxHaptic_canon (w p) : KeepsCanon s (s.rxHaptic w p).2 := .of fun h => by
  dsimp only [State.rxHaptic]; (repeat' split) <;> simp [h]
@[simp] theorem rxChime_canon (p) : KeepsCanon s (s.rxChime p).2 := .of fun h => by fun_cases State.rxChime <;> simp [h]
@[simp] theorem rxHighlight_canon (w p) : KeepsCanon s (s.rxHighlight w p).2 := .of fun h => by fun_cases State.rxHighlight <;> simp [h]

@[simp] theorem rxAction_canon (has place acc) {run : State → Bool × State} (hrun : ∀ t, t.canonical = true → (run t).2.canonical = true) :
    KeepsCanon s (s.rxAction has place acc run).2 := .of fun h => by
  unfold State.rxAction
  split
  · exact h
  split <;> next hr => simp [snd_eq hr, hrun s h]
@[simp] theorem rxFire_canon (b p) : KeepsCanon s (s.rxFire b p) := .of fun h => by unfold State.rxFire; simp +contextual [h]
@[simp] theorem reflexEvent_canon (z code unconfirmed) : KeepsCanon s (s.reflexEvent z code unconfirmed) := .of fun h => by
  unfold State.reflexEvent; simp +contextual [h]
@[simp] theorem reflexDown_canon : KeepsCanon s s.reflexDown := .of fun h => by unfold State.reflexDown; simp +contextual [h]
@[simp] theorem execHlPulseEnd_canon (dt i) (h : s.canonical = true) : EndsCanon (execHlPulseEnd dt i s) := by
  dsimp only [execHlPulseEnd]; (repeat' split) <;> simp [h]
@[simp] theorem mBlk_canon (b f) : KeepsCanon s (s.mBlk b f) := .of fun h => by unfold State.mBlk; simp [h]
@[simp] theorem mElec_canon (e f) : KeepsCanon s (s.mElec e f) := .of fun h => by unfold State.mElec; simp [h]
@[simp] theorem mZone_canon (z f) : KeepsCanon s (s.mZone z f) := .of fun h => by unfold State.mZone; simp [h]
@[simp] theorem touchResult_canon (st) : KeepsCanon s (s.touchResult st) := .of fun h => by unfold State.touchResult; simp [h]
@[simp] theorem blkResult_canon (b st) : KeepsCanon s (s.blkResult b st) := .of fun h => by unfold State.blkResult; simp [h]
@[simp] theorem elEnter_canon (e st) : KeepsCanon s (s.elEnter e st) := .of fun h => by unfold State.elEnter; simp [h]
@[simp] theorem elBase_canon (e base confirmed nvm) : KeepsCanon s (s.elBase e base confirmed nvm) := .of fun h => by
  unfold State.elBase; simp [h]
@[simp] theorem elFresh_canon (b e r) : KeepsCanon s (s.elFresh b e r) := .of fun h => by fun_cases State.elFresh <;> simp [h]
@[simp] theorem elFaultEvent_canon (e entered) : KeepsCanon s (s.elFaultEvent e entered) := .of fun h => by
  unfold State.elFaultEvent; simp [h]
@[simp] theorem elShow_canon (b e r) : KeepsCanon s (s.elShow b e r) := .of fun h => by unfold State.elShow; simp [h]
@[simp] theorem elRest_canon (b e r based) : KeepsCanon s (s.elRest b e r based) := .of fun h => by unfold State.elRest; simp [h]
@[simp] theorem elTouched_canon (b e r) : KeepsCanon s (s.elTouched b e r) := .of fun h => by unfold State.elTouched; simp [h]
@[simp] theorem elScan_canon (b e r noise) : KeepsCanon s (s.elScan b e r noise) := .of fun h => by
  dsimp only [State.elScan]; (repeat' split) <;> simp [h]
@[simp] theorem zoneScan_canon (z) : KeepsCanon s (s.zoneScan z).2 := .of fun h => by
  dsimp only [State.zoneScan]; (repeat' split) <;> simp [h]
@[simp] theorem zoneEvents_canon (evs) : KeepsCanon s (s.zoneEvents evs) := .of fun h => by unfold State.zoneEvents; simp +contextual [h]
@[simp] theorem zonesRelease_canon (b) : KeepsCanon s (s.zonesRelease b) := .of fun h => by unfold State.zonesRelease; simp +contextual [h]

@[simp] theorem zonesScan_canon (stuck l) : KeepsCanon s (s.zonesScan stuck l).2 := .of fun h => by
  induction l generalizing s with
  | nil => exact h
  | cons z r ih => dsimp only [State.zonesScan]; simp [h, ih]

@[simp] theorem execCreateTouchZone_canon (dt w ext) (h : s.canonical = true) : EndsCanon (execCreateTouchZone dt w ext s) := by
  unfold execCreateTouchZone
  extract_lets s₁
  split
  · simp [s₁, h]
  split
  · simp [s₁, h]
  split
  · next hp => simp [s₁, h, snd_eq hp]
  next b s₂ hp =>
  have h₂ : s₂.canonical = true := by simp [snd_eq hp, s₁, h]
  extract_lets p n els here lowest st
  clear_value st
  split <;> simp +zetaDelta +contextual [h₂]
@[simp] theorem zoneHold_canon (z t) : KeepsCanon s (s.zoneHold z t) := .of fun h => by unfold State.zoneHold; simp +contextual [h]
@[simp] theorem zoneDestroy_canon (z) : KeepsCanon s (s.zoneDestroy z) := .of fun h => by unfold State.zoneDestroy; simp +contextual [h]
@[simp] theorem zoneGone_canon (z) : KeepsCanon s (s.zoneGone z) := .of fun h => by unfold State.zoneGone; simp [h]
@[simp] theorem blkWrite_canon (b off v) : KeepsCanon s (s.blkWrite b off v) := .of fun h => by
  dsimp only [State.blkWrite]; (repeat' split) <;> simp [h]
@[simp] theorem execTblkEnable_canon (dt r b v) (h : s.canonical = true) : EndsCanon (execTblkEnable dt r b v s) := by
  unfold execTblkEnable; simp [h]
@[simp] theorem blkStop_canon (b) : KeepsCanon s (s.blkStop b) := .of fun h => by unfold State.blkStop; simp [h]
@[simp] theorem blkDown_canon (b) : KeepsCanon s (s.blkDown b) := .of fun h => by unfold State.blkDown; simp [h]
@[simp] theorem scanTake_canon (b) : KeepsCanon s (s.scanTake b) := .of fun h => by unfold State.scanTake; simp +contextual [h]
@[simp] theorem execScanStart_canon (dt b) (h : s.canonical = true) : EndsCanon (execScanStart dt b s) := by
  dsimp only [execScanStart]; (repeat' split) <;> simp [h]
@[simp] theorem showSurvey_canon (b survey) : KeepsCanon s (s.showSurvey b survey) := .of fun h => by
  unfold State.showSurvey; simp +contextual [h]

@[simp] theorem hopScan_canon (b readings noise survey) : KeepsCanon s (s.hopScan b readings noise survey) := .of fun h => by
  unfold State.hopScan
  extract_lets old new s₁ on rd idle sumNew sumOld charge num den s₂ s₃
  have h₁ : s₁.canonical = true := by simp [s₁, h]
  have h₂ : s₂.canonical = true := by
    clear_value s₁ num den
    simp +contextual [s₂, h₁]
  clear_value s₂
  simp [s₃, h₁, h₂]
@[simp] theorem plainScan_canon (b readings noise survey) : KeepsCanon s (s.plainScan b readings noise survey) := .of fun h => by
  unfold State.plainScan; simp +contextual [h]
@[simp] theorem execScanMeasureEnd_canon (dt b readings noise survey ns) (h : s.canonical = true) :
    EndsCanon (execScanMeasureEnd dt b readings noise survey ns s) := by
  unfold execScanMeasureEnd; simp [h]
@[simp] theorem execTelThreshWrite_canon (dt r e v) (h : s.canonical = true) : EndsCanon (execTelThreshWrite dt r e v s) := by
  unfold execTelThreshWrite; simp [h]
@[simp] theorem execTelCtrlWrite_canon (dt r e v) (h : s.canonical = true) : EndsCanon (execTelCtrlWrite dt r e v s) := by
  dsimp only [execTelCtrlWrite]; (repeat' split) <;> simp [h]

@[simp] theorem gfxStores_canon (w c l) : KeepsCanon s (s.gfxStores w c l).2 := .of fun h => by
  induction l generalizing s with
  | nil => exact h
  | cons x r ih => dsimp only [State.gfxStores]; simp [h, ih]
@[simp] theorem setFlag_canon (w c hosts u bx by_ flag) : KeepsCanon s (s.setFlag w c hosts u bx by_ flag).2 := .of fun h => by
  dsimp only [State.setFlag]; split <;> next hl => simp [h, snd_eq hl]
@[simp] theorem doBlock_canon (w c hosts u ops bx by_) : KeepsCanon s (s.doBlock w c hosts u ops bx by_).2 := .of fun h => by
  dsimp only [State.doBlock]; (repeat' split) <;> simp [h]

@[simp] theorem surfOps_canon (w c hosts u ops) : KeepsCanon s (s.surfOps w c hosts u ops).2 := .of fun h => by
  unfold State.surfOps
  split
  · simp [h]
  · exact foldl_canonical (fun a : Bool × State => a.2) _ (fun _ _ ha => by simp [ha]) _ h

@[simp] theorem resolve_canon (w c hosts u) : KeepsCanon s (s.resolve w c hosts u).2 := .of fun h => by
  unfold State.resolve
  split
  · exact h
  · refine foldl_canonical (fun a : Bool × State => a.2) _ (fun a b ha => ?_) _ h
    dsimp only; (repeat' split) <;> simp [ha]
@[simp] theorem freeOps_canon (u x y w k) : KeepsCanon s (s.freeOps u x y w k).2 := .of fun h =>
  foldl_canonical (fun a : List AttOp × State => a.2) _ (fun _ _ ha => by simp [ha]) _ h

end Sys2Proof.Machine
end

section
/-!
PROOFS. Canonical memory: display pipes, links and their latch points.
-/
namespace Sys2Proof.Machine

variable (s : State)

@[simp] theorem portSettle_canon (port) : KeepsCanon s (s.portSettle port) := .of fun h => by unfold State.portSettle; simp [h]
@[simp] theorem pipeEvent_canon (p st) : KeepsCanon s (s.pipeEvent p st) := .of fun h => by unfold State.pipeEvent; simp [h]
@[simp] theorem pipeResult_canon (p st) : KeepsCanon s (s.pipeResult p st) := .of fun h => by unfold State.pipeResult; simp [h]
@[simp] theorem pipeGo_canon (p v) : KeepsCanon s (s.pipeGo p v) := .of fun h => by unfold State.pipeGo; simp [h]
@[simp] theorem pipeCheckStart_canon (p kind) : KeepsCanon s (s.pipeCheckStart p kind) := .of fun h => by
  unfold State.pipeCheckStart; simp [h]
@[simp] theorem pipeRefuse_canon (p v reconfig) : KeepsCanon s (s.pipeRefuse p v reconfig) := .of fun h => by
  unfold State.pipeRefuse; simp [h]
@[simp] theorem execPipeEnable_canon (dt r p v) (h : s.canonical = true) : EndsCanon (execPipeEnable dt r p v s) := by
  dsimp only [execPipeEnable]; (repeat' split) <;> simp [h]
@[simp] theorem pipeHalt_canon (p v) : KeepsCanon s (s.pipeHalt p v) := .of fun h => by
  dsimp only [State.pipeHalt]; (repeat' split) <;> simp [h]
@[simp] theorem execPipeDisable_canon (dt r p v) (h : s.canonical = true) : EndsCanon (execPipeDisable dt r p v s) := by
  unfold execPipeDisable; simp [h]
@[simp] theorem execPipeReconfig_canon (dt r p v) (h : s.canonical = true) : EndsCanon (execPipeReconfig dt r p v s) := by
  dsimp only [execPipeReconfig]; (repeat' split) <;> simp [h]
@[simp] theorem pllTake_canon (c) : KeepsCanon s (s.pllTake c) := .of fun h => by unfold State.pllTake; simp [h]
@[simp] theorem pllGive_canon (c) : KeepsCanon s (s.pllGive c) := .of fun h => by unfold State.pllGive; simp [h]
@[simp] theorem dscTake_canon (c p) : KeepsCanon s (s.dscTake c p) := .of fun h => by unfold State.dscTake; simp [h]
@[simp] theorem dscGive_canon (c) : KeepsCanon s (s.dscGive c) := .of fun h => by unfold State.dscGive; simp [h]
@[simp] theorem payloadTake_canon (c p) : KeepsCanon s (s.payloadTake c p) := .of fun h => by unfold State.payloadTake; simp [h]
@[simp] theorem payloadGive_canon (c p) : KeepsCanon s (s.payloadGive c p) := .of fun h => by unfold State.payloadGive; simp [h]
@[simp] theorem linkEval_canon (port trained) : KeepsCanon s (s.linkEval port trained) := .of fun h => by
  unfold State.linkEval; simp +contextual [h]
@[simp] theorem videoStop_canon (p) : KeepsCanon s (s.videoStop p) := .of fun h => by unfold State.videoStop; simp [h]
@[simp] theorem videoStart_canon (p) : KeepsCanon s (s.videoStart p) := .of fun h => by unfold State.videoStart; simp [h]
@[simp] theorem pixelHzSet_canon (p) : KeepsCanon s (s.pixelHzSet p) := .of fun h => by unfold State.pixelHzSet; simp [h]
@[simp] theorem reserve_canon (p c) : KeepsCanon s (s.reserve p c) := .of fun h => by unfold State.reserve; simp [h]
@[simp] theorem takeLeft_canon (p) : KeepsCanon s (s.takeLeft p) := .of fun h => by unfold State.takeLeft; simp +contextual [h]
@[simp] theorem takeWaiting_canon (p) : KeepsCanon s (s.takeWaiting p) := .of fun h => by unfold State.takeWaiting; simp +contextual [h]
@[simp] theorem pipeRelease_canon (p) : KeepsCanon s (s.pipeRelease p) := .of fun h => by
  dsimp only [State.pipeRelease]; (repeat' split) <;> simp +contextual [h]
@[simp] theorem startFirst_canon (hosts p) : KeepsCanon s (s.startFirst hosts p) := .of fun h => by unfold State.startFirst; simp [h]

@[simp] theorem pipeStart_canon (hosts p) : KeepsCanon s (s.pipeStart hosts p) := .of fun h => by
  dsimp only [State.pipeStart]
  split
  · exact h
  · next hs => simp [placeStore_canon h _ _ _ _ hs]

@[simp] theorem pipeReconf_canon (hosts p) : KeepsCanon s (s.pipeReconf hosts p) := .of fun h => by
  dsimp only [State.pipeReconf]
  split
  · exact h
  · next hs => simp [placeStore_canon h _ _ _ _ hs]
@[simp] theorem execPipeChecksDone_canon (dt p hosts) (h : s.canonical = true) : EndsCanon (execPipeChecksDone dt p hosts s) := by
  dsimp only [execPipeChecksDone]; (repeat' split) <;> simp [h]
@[simp] theorem execPllLocked_canon (dt j hosts) (h : s.canonical = true) : EndsCanon (execPllLocked dt j hosts s) := by
  unfold execPllLocked; simp +contextual [h]
@[simp] theorem execPipeStopped_canon (dt p) (h : s.canonical = true) : EndsCanon (execPipeStopped dt p s) := by
  unfold execPipeStopped; simp [h]
@[simp] theorem viewEvent_canon (p b kind) : KeepsCanon s (s.viewEvent p b kind) := .of fun h => by
  unfold State.viewEvent; simp +contextual [h]
@[simp] theorem lineMatch_canon (p line) : KeepsCanon s (s.lineMatch p line) := .of fun h => by unfold State.lineMatch; simp +contextual [h]
@[simp] theorem execLineStart_canon (dt p line hosts) (h : s.canonical = true) : EndsCanon (execLineStart dt p line hosts s) := by
  unfold execLineStart; simp [h]
@[simp] theorem execLastActivePixel_canon (dt p hosts) (h : s.canonical = true) : EndsCanon (execLastActivePixel dt p hosts s) := by
  unfold execLastActivePixel; simp [h]
@[simp] theorem joinStores_canon (p) : KeepsCanon s (s.joinStores p) := .of fun h => by
  dsimp only [State.joinStores]; (repeat' split) <;> simp [h]
@[simp] theorem execComposeStart_canon (dt p hosts) (h : s.canonical = true) : EndsCanon (execComposeStart dt p hosts s) := by
  dsimp only [execComposeStart]; (repeat' split) <;> simp [h]
@[simp] theorem takeSprites_canon (p frame) : KeepsCanon s (s.takeSprites p frame) := .of fun h => by
  dsimp only [State.takeSprites]; (repeat' split) <;> simp [h]
@[simp] theorem takeLatched_canon (p frame) : KeepsCanon s (s.takeLatched p frame) := .of fun h => by unfold State.takeLatched; simp [h]

@[simp] theorem firstShown_canon (frame l) : KeepsCanon s (s.firstShown frame l) := .of fun h => by
  induction l generalizing s with
  | nil => exact h
  | cons d r ih => unfold State.firstShown; simp [h, ih]
@[simp] theorem composeLate_canon (p frame) : KeepsCanon s (s.composeLate p frame) := .of fun h => by
  unfold State.composeLate; simp +contextual [h]
@[simp] theorem directMarks_canon (p) : KeepsCanon s (s.directMarks p) := .of fun h => by unfold State.directMarks; simp +contextual [h]

@[simp] theorem latchPoint_canon (p hosts) : KeepsCanon s (s.latchPoint p hosts) := .of fun h => by
  unfold State.latchPoint
  split
  · exact h
  extract_lets k s₁ s₂ s₃ reconf held comp late s₄ results s₅ s₆ s₇ s₈ s₉ s₁₀ now shown s₁₁ s₁₂ s₁₃ s₁₄
  have h₃ : s₃.canonical = true := by simp [s₃, s₂, s₁, h]
  have h₄ : s₄.canonical = true := by dsimp only [s₄, comp]; split <;> simp [h₃]
  have h₅ : s₅.canonical = true := by simp [s₅, h₄]
  have h₆ : s₆.canonical = true := by dsimp only [s₆, comp]; split <;> simp [h₅]
  have h₈ : s₈.canonical = true := by simp +contextual [s₈, s₇, h₆]
  have h₉ : s₉.canonical = true := by dsimp only [s₉, comp]; split <;> simp [h₈]
  simp [s₁₄, s₁₃, s₁₂, s₁₁, s₁₀, h₉]
@[simp] theorem freeWithin_canon (lim) : KeepsCanon s (s.freeWithin lim).2 := .of fun h => by unfold State.freeWithin; simp [h]
@[simp] theorem freeUpTo_canon (lim) : KeepsCanon s (s.freeUpTo lim).2 := .of fun h => by unfold State.freeUpTo; simp [h]
@[simp] theorem pllTrimTo_canon (j t) : KeepsCanon s (s.pllTrimTo j t) := .of fun h => by unfold State.pllTrimTo; simp +contextual [h]

@[simp] theorem lockZero_canon (p) : KeepsCanon s (s.lockZero p) := .of fun h => by
  unfold State.lockZero
  extract_lets l c k setL
  have hset : ∀ t l, t.canonical = true → (setL t l).canonical = true := fun t l ht => by simp [setL, ht]
  split
  · exact hset _ _ (by simp [h])
  split
  · exact hset _ _ (by simp [h])
  extract_lets lines inside err s₂ good bad was is s₃ s₄ trims
  have h₄ : s₄.canonical = true := by simp +zetaDelta [h]
  split
  next t s₅ htrim =>
  have h₅ : s₅.canonical = true := by simp [snd_eq htrim, h₄]
  split
  next w s₆ hslew =>
  have h₆ : s₆.canonical = true := by simp [snd_eq hslew, h₅]
  exact hset _ _ (by simp [h₆])
@[simp] theorem lineZeroCommon_canon (p frame) : KeepsCanon s (s.lineZeroCommon p frame) := .of fun h => by
  unfold State.lineZeroCommon; simp [h]
@[simp] theorem tPip_canon : KeepsCanon s s.tPip := .of fun h => by unfold State.tPip; simp [h]
@[simp] theorem firstZero_canon (hosts p) : KeepsCanon s (s.firstZero hosts p) := .of fun h => by
  unfold State.firstZero; simp +contextual [h]
@[simp] theorem swapCfg_canon (p c) : KeepsCanon s (s.swapCfg p c) := .of fun h => by unfold State.swapCfg; simp [h]
@[simp] theorem execLineZero_canon (dt p hosts) (h : s.canonical = true) : EndsCanon (execLineZero dt p hosts s) := by
  dsimp only [execLineZero]; (repeat' split) <;> simp [h]
@[simp] theorem pipFirstStart_canon (p) : KeepsCanon s (s.pipFirstStart p) := .of fun h => by unfold State.pipFirstStart; simp [h]

@[simp] theorem execPipFirstHandover_canon (dt p hosts) (h : s.canonical = true) : EndsCanon (execPipFirstHandover dt p hosts s) := by
  unfold execPipFirstHandover
  extract_lets s₁ ps
  have h₁ : s₁.canonical = true := by simp [s₁, h]
  split
  · simp [h₁]
  split
  · simp [h₁]
  next hs =>
  split at hs
  · simp [placeStore_canon h₁ _ _ _ _ hs]
  · contradiction
@[simp] theorem execLayerFault_canon (dt slot faddr line x tiles hosts) (h : s.canonical = true) :
    EndsCanon (execLayerFault dt slot faddr line x tiles hosts s) := by
  dsimp only [execLayerFault]; (repeat' split) <;> simp [h]
@[simp] theorem execUnderrun_canon (dt slot line x hosts) (h : s.canonical = true) : EndsCanon (execUnderrun dt slot line x hosts s) := by
  unfold execUnderrun; simp [h]
@[simp] theorem execPipeLutWrite_canon (dt r addr v) (h : s.canonical = true) : EndsCanon (execPipeLutWrite dt r addr v s) := by
  dsimp only [execPipeLutWrite]; (repeat' split) <;> simp [h]
@[simp] theorem execPllWrite_canon (dt r j reg v) (h : s.canonical = true) : EndsCanon (execPllWrite dt r j reg v s) := by
  unfold execPllWrite; split <;> simp [h]
@[simp] theorem execDscCfgWrite_canon (dt r e v) (h : s.canonical = true) : EndsCanon (execDscCfgWrite dt r e v s) := by
  unfold execDscCfgWrite; split <;> simp [h]
@[simp] theorem trainStart_canon (port) : KeepsCanon s (s.trainStart port) := .of fun h => by unfold State.trainStart; simp [h]
@[simp] theorem execHpdPlug_canon (dt port) (h : s.canonical = true) : EndsCanon (execHpdPlug dt port s) := by unfold execHpdPlug; simp [h]
@[simp] theorem execHpdUnplug_canon (dt port) (h : s.canonical = true) : EndsCanon (execHpdUnplug dt port s) := by
  unfold execHpdUnplug; simp [h]
@[simp] theorem execIrqHpd_canon (dt port lost) (h : s.canonical = true) : EndsCanon (execIrqHpd dt port lost s) := by
  unfold execIrqHpd; simp [h]
@[simp] theorem execDpRetrain_canon (dt r port v) (h : s.canonical = true) : EndsCanon (execDpRetrain dt r port v s) := by
  dsimp only [execDpRetrain]; (repeat' split) <;> simp [h]
@[simp] theorem execLinkTrained_canon (dt port ok rate lanes capacity) (h : s.canonical = true) :
    EndsCanon (execLinkTrained dt port ok rate lanes capacity s) := by
  unfold execLinkTrained; simp [h]
@[simp] theorem execDpAuxCmd_canon (dt r port v) (h : s.canonical = true) : EndsCanon (execDpAuxCmd dt r port v s) := by
  dsimp only [execDpAuxCmd]; (repeat' split) <;> simp [h]
@[simp] theorem putBytes_canon (k bs a) : KeepsCanon s (s.putBytes k bs a) := .of fun h => by fun_induction State.putBytes <;> simp_all
@[simp] theorem execAuxTransactionDone_canon (dt port outcome rx) (h : s.canonical = true) :
    EndsCanon (execAuxTransactionDone dt port outcome rx s) := by
  dsimp only [execAuxTransactionDone]; (repeat' split) <;> simp [h]
@[simp] theorem execDsiCmd_canon (dt r port v) (h : s.canonical = true) : EndsCanon (execDsiCmd dt r port v s) := by
  dsimp only [execDsiCmd]; (repeat' split) <;> simp [h]
@[simp] theorem execDsiCmdDone_canon (dt port ok reply) (h : s.canonical = true) : EndsCanon (execDsiCmdDone dt port ok reply s) := by
  dsimp only [execDsiCmdDone]; (repeat' split) <;> simp [h]
@[simp] theorem execPipReplaceWrite_canon (dt r p on hosts) (h : s.canonical = true) : EndsCanon (execPipReplaceWrite dt r p on hosts s) := by
  dsimp only [execPipReplaceWrite]; (repeat' split) <;> simp [h]

end Sys2Proof.Machine
end

section
/-!
PROOFS. Canonical memory: render and compute queues, passes, draws and translation.
-/
namespace Sys2Proof.Machine

variable (s : State)

@[simp] theorem mQueue_canon (q f) : KeepsCanon s (s.mQueue q f) := .of fun h => by unfold State.mQueue; simp [h]
@[simp] theorem clusterCount_canon (c) : KeepsCanon s (s.clusterCount c) := .of fun h => by unfold State.clusterCount; simp [h]
@[simp] theorem holdCount_canon (q) : KeepsCanon s (s.holdCount q) := .of fun h => by unfold State.holdCount; simp [h]
@[simp] theorem setCluster_canon (c q) : KeepsCanon s (s.setCluster c q) := .of fun h => by unfold State.setCluster; simp [h]
@[simp] theorem clustersDrop_canon (p) : KeepsCanon s (s.clustersDrop p) := .of fun h => by unfold State.clustersDrop; simp +contextual [h]
@[simp] theorem ctxShow_canon (q) : KeepsCanon s (s.ctxShow q) := .of fun h => by unfold State.ctxShow; simp [h]
@[simp] theorem poolAsk_canon (q) : KeepsCanon s (s.poolAsk q) := .of fun h => by unfold State.poolAsk; simp [h]
@[simp] theorem poolTrim_canon (q) : KeepsCanon s (s.poolTrim q) := .of fun h => by unfold State.poolTrim; simp [h]
@[simp] theorem tilesBack_canon (q) : KeepsCanon s (s.tilesBack q) := .of fun h => by unfold State.tilesBack; simp [h]
@[simp] theorem execTilePoolGrowth_canon (dt q) (h : s.canonical = true) : EndsCanon (execTilePoolGrowth dt q s) := by
  dsimp only [execTilePoolGrowth]; (repeat' split) <;> simp [h]

@[simp] theorem loadOps_canon (p i tiles) : KeepsCanon s (s.loadOps p i tiles).2 := .of fun h => by
  dsimp only [State.loadOps]
  split
  · exact h
  · exact foldl_canonical (fun a : List AttOp × State => a.2) _ (fun _ _ ha => by simp [ha]) _ h
  · exact h
@[simp] theorem renderTiles_canon (w hosts p force back) : KeepsCanon s (s.renderTiles w hosts p force back).2 := .of fun h =>
  foldl_canonical (fun a : Bool × State => a.2) _ (fun a i ha => by dsimp only; simp [ha]) _ h
@[simp] theorem passLost_canon (w hosts p only) : KeepsCanon s (s.passLost w hosts p only) := .of fun h => by
  unfold State.passLost; simp +contextual [h]
@[simp] theorem passDrop_canon (q hosts) : KeepsCanon s (s.passDrop q hosts) := .of fun h => by fun_cases State.passDrop <;> simp [h]
@[simp] theorem qFault_canon (q hosts st cnt) : KeepsCanon s (s.qFault q hosts st cnt) := .of fun h => by unfold State.qFault; simp [h]
@[simp] theorem qPerform_canon (q d) : KeepsCanon s (s.qPerform q d).2 := .of fun h => by
  dsimp only [State.qPerform]; (repeat' split) <;> simp [h]

@[simp] theorem qRetire_canon (q hosts n) : KeepsCanon s (s.qRetire q hosts n) := .of fun h => by
  induction n generalizing s with
  | zero => exact h
  | succ n ih => unfold State.qRetire; dsimp only; split <;> simp [h, ih]
@[simp] theorem qMeet_canon (q) : KeepsCanon s (s.qMeet q) := .of fun h => by fun_cases State.qMeet <;> simp [h]
@[simp] theorem qSettle_canon (q hosts) : KeepsCanon s (s.qSettle q hosts) := .of fun h => by
  dsimp only [State.qSettle]; (repeat' split) <;> simp [h]
theorem qStart_canon {s : State} (h : s.canonical = true) (q op) : ∀ p ∈ s.qStart q op, p.2.canonical = true := by
  dsimp only [State.qStart]; (repeat' split) <;> simp [h]
@[simp] theorem qRunWith_canon (q n recs) : KeepsCanon s (s.qRunWith q n recs) := .of fun h => by unfold State.qRunWith; simp [h]
@[simp] theorem qRun_canon (q n) : KeepsCanon s (s.qRun q n) := .of fun h => by unfold State.qRun; simp [h]

/-- A descriptor whose effect keeps the memories canonical ends in canonical memories, whatever its checks say. -/
theorem qDo_canon {s : State} (h : s.canonical = true) {q op hosts more} {act : Nat → State → State}
    (hact : ∀ n t, t.canonical = true → (act n t).canonical = true) : EndsCanon (s.qDo q op hosts more act) := by
  unfold State.qDo
  split
  · simp [h]
  next hs =>
  have ht := qStart_canon h _ _ _ hs
  split <;> simp [ht, hact]

@[simp] theorem createQueue_canon (w kind e ext) : KeepsCanon s (s.createQueue w kind e ext) := .of fun h => by
  dsimp only [State.createQueue]
  split
  · simp [h]
  split
  · next hp => simp [h, snd_eq hp]
  · next hp => rw [snd_eq hp]; split <;> simp [h]
@[simp] theorem execCreateRenderQueue_canon (dt w ext) (h : s.canonical = true) : EndsCanon (execCreateRenderQueue dt w ext s) := by
  dsimp only [execCreateRenderQueue]; (repeat' split) <;> simp [h]
@[simp] theorem execCreateComputeQueue_canon (dt w ext) (h : s.canonical = true) : EndsCanon (execCreateComputeQueue dt w ext s) := by
  dsimp only [execCreateComputeQueue]; (repeat' split) <;> simp [h]
@[simp] theorem queueStop_canon (q hosts) : KeepsCanon s (s.queueStop q hosts) := .of fun h => by unfold State.queueStop; simp [h]
@[simp] theorem queueRestart_canon (q) : KeepsCanon s (s.queueRestart q) := .of fun h => by unfold State.queueRestart; simp [h]
@[simp] theorem queueGone_canon (q) : KeepsCanon s (s.queueGone q) := .of fun h => by unfold State.queueGone; simp [h]

@[simp] theorem sampleNow_canon (w hosts p out i x y m) : KeepsCanon s (s.sampleNow w hosts p out i x y m).2 := .of fun h => by
  dsimp only [State.sampleNow]; (repeat' split) <;> simp [h]

@[simp] theorem ite_frag_canon {c : Prop} [Decidable c] (a b : FragAcc) :
    (if c then a else b).s.canonical = if a.s.canonical && b.s.canonical then true else (if c then a else b).s.canonicalItself := by
  rw [apply_ite FragAcc.s]; exact ite_canon ..
theorem frag_ite {c : Prop} [Decidable c] {a b : FragAcc} (ha : a.s.canonical = true) (hb : b.s.canonical = true) :
    (if c then a else b).s.canonical = true := by
  split <;> assumption
@[simp] theorem ite_snd_frag_canon {c : Prop} [Decidable c] (p q : Nat × FragAcc) :
    (if c then p else q).2.s.canonical = if p.2.s.canonical && q.2.s.canonical then true else (if c then p else q).2.s.canonicalItself := by
  rw [apply_ite Prod.snd]; exact ite_frag_canon ..
@[simp] theorem fragPut_canon (a : FragAcc) (i x y m v) : KeepsCanon a.s (a.put i x y m v).s := .of id
@[simp] theorem fragGet_canon (a : FragAcc) (w hosts p i x y m) : KeepsCanon a.s (a.get w hosts p i x y m).2.s := .of fun h => by
  unfold FragAcc.get
  split <;> next hr => simp [h, snd_eq hr]
@[simp] theorem fragFrag_canon (a : FragAcc) (w hosts p scissor fixed c) : KeepsCanon a.s (a.frag w hosts p scissor fixed c).s := .of fun h => by
  unfold FragAcc.frag
  split
  · exact h
  extract_lets stOn zOn st
  dsimp only
  refine frag_ite (by simp [h]) (frag_ite (by simp [h]) ?_)
  refine foldl_canonical FragAcc.s _ (fun b i hb => ?_) _ (by simp [h])
  split
  · exact hb
  split
  · exact hb
  split <;> simp [hb]
@[simp] theorem fragments_canon (w hosts p scissor fixed frags) :
    KeepsCanon s (s.fragments w hosts p scissor fixed frags).s := .of fun h =>
  foldl_canonical FragAcc.s _ (fun a c ha => by simp [ha]) _ h

@[simp] theorem resource_canon (w c tables hosts compute set b) : KeepsCanon s (s.resource w c tables hosts compute set b).2 := .of fun h => by
  dsimp only [State.resource]
  split
  · exact h
  split <;> next hl => simp [h, snd_eq hl]
@[simp] theorem gfxFetch_canon (w c hosts a n) : KeepsCanon s (s.gfxFetch w c hosts a n).2 := .of fun h => by
  fun_cases State.gfxFetch <;> simp [h]

@[simp] theorem access_canon (w c tables hosts compute k) : KeepsCanon s (s.access w c tables hosts compute k).2 := .of fun h => by
  unfold State.access
  extract_lets through
  have hthrough : ∀ set b f, (∀ t d, t.canonical = true → (f t d).2.canonical = true) → (through set b f).2.canonical = true := by
    intro set b f hf
    dsimp only [through]
    split
    · next hr => simp [h, snd_eq hr]
    · next hr => exact hf _ _ (by simp [h, snd_eq hr])
  cases k with
  | read a n => simp [h]
  | write a v => simp [h]
  | bufRead | bufWrite | imgWrite =>
    refine hthrough _ _ _ fun t d ht => ?_
    (repeat' split) <;> simp [ht]
  | imgRead =>
    refine hthrough _ _ _ fun t d ht => ?_
    dsimp only
    (repeat' split) <;> simp [ht]

@[simp] theorem accesses_canon (w c tables hosts compute l) : KeepsCanon s (s.accesses w c tables hosts compute l).2 := .of fun h => by
  induction l generalizing s with
  | nil => exact h
  | cons k r ih => dsimp only [State.accesses]; simp [h, ih]

theorem qDoRead_canon {s : State} (h : s.canonical = true) {q op hosts addr len pre post} {act : Nat → Nat → State → State}
    (hact : ∀ n r t, t.canonical = true → (act n r t).canonical = true) : EndsCanon (s.qDoRead q op hosts addr len pre post act) := by
  unfold State.qDoRead
  split
  · simp [h]
  next hs =>
  have ht := qStart_canon h _ _ _ hs
  split
  · split
    · next hl => simp [snd_eq hl, ht]
    · next hl => rw [snd_eq hl]; split <;> simp [ht, hact]
  · simp [ht]
@[simp] theorem immediateLoad_canon (w hosts p) : KeepsCanon s (s.immediateLoad w hosts p).2 := .of fun h =>
  foldl_canonical (fun a : Bool × State => a.2) _ (fun _ _ ha => by simp [ha]) _ h
@[simp] theorem execPassBegin_canon (dt q hosts) (h : s.canonical = true) : EndsCanon (execPassBegin dt q hosts s) := by
  unfold execPassBegin
  exact ends_ite _ _ (by simp [h]) (qDoRead_canon (by simp [h]) fun _ _ _ ht => by simp [ht])
@[simp] theorem execPassEnd_canon (dt q hosts) (h : s.canonical = true) : EndsCanon (execPassEnd dt q hosts s) :=
  qDo_canon (by simp [h]) fun _ _ ht => by simp [ht]
@[simp] theorem execBindPipeline_canon (dt q hosts) (h : s.canonical = true) : EndsCanon (execBindPipeline dt q hosts s) := by
  unfold execBindPipeline
  exact qDoRead_canon (by simp [h]) fun _ _ _ ht => by split <;> simp [ht]
@[simp] theorem execBindResources_canon (dt q hosts) (h : s.canonical = true) : EndsCanon (execBindResources dt q hosts s) :=
  qDoRead_canon (by simp [h]) fun _ _ _ ht => by simp [ht]
@[simp] theorem execBindIndex_canon (dt q hosts) (h : s.canonical = true) : EndsCanon (execBindIndex dt q hosts s) :=
  qDo_canon (by simp [h]) fun _ _ ht => by simp [ht]
@[simp] theorem execBindVertex_canon (dt q hosts) (h : s.canonical = true) : EndsCanon (execBindVertex dt q hosts s) :=
  qDo_canon (by simp [h]) fun _ _ ht => by simp [ht]
@[simp] theorem execPush_canon (dt q hosts) (h : s.canonical = true) : EndsCanon (execPush dt q hosts s) :=
  qDo_canon (by simp [h]) fun _ _ ht => by simp [ht]
@[simp] theorem execSetViewport_canon (dt q hosts) (h : s.canonical = true) : EndsCanon (execSetViewport dt q hosts s) :=
  qDo_canon (by simp [h]) fun _ _ ht => by simp [ht]
@[simp] theorem execSetScissor_canon (dt q hosts) (h : s.canonical = true) : EndsCanon (execSetScissor dt q hosts s) :=
  qDo_canon (by simp [h]) fun _ _ ht => by simp [ht]
@[simp] theorem mPass_canon (q f) : KeepsCanon s (s.mPass q f) := .of fun h => by unfold State.mPass; simp [h]
@[simp] theorem poolEvents_canon (q lack p fell) : KeepsCanon s (s.poolEvents q lack p fell) := .of fun h => by
  unfold State.poolEvents; simp [h]

@[simp] theorem binTake_canon (q hosts n need) : KeepsCanon s (s.binTake q hosts n need).2 := .of fun h => by
  induction n generalizing s need with
  | zero => exact h
  | succ n ih => unfold State.binTake; dsimp only; (repeat' split) <;> simp [h, ih]
@[simp] theorem drawStart_canon (q need tiles hosts n recs) : KeepsCanon s (s.drawStart q need tiles hosts n recs) := .of fun h => by
  unfold State.drawStart; simp [h]
@[simp] theorem execDraw_canon (dt q need tiles hosts) (h : s.canonical = true) : EndsCanon (execDraw dt q need tiles hosts s) :=
  qDo_canon (by simp [h]) fun _ _ ht => by simp [ht]
@[simp] theorem execDrawIndexed_canon (dt q need tiles hosts) (h : s.canonical = true) : EndsCanon (execDrawIndexed dt q need tiles hosts s) :=
  qDo_canon (by simp [h]) fun _ _ ht => by simp [ht]
@[simp] theorem execDrawIndirect_canon (dt q need tiles hosts) (h : s.canonical = true) : EndsCanon (execDrawIndirect dt q need tiles hosts s) := by
  unfold execDrawIndirect
  exact ends_ite _ _ (by simp [h]) (qDoRead_canon (by simp [h]) fun _ _ _ ht => by simp [ht])
@[simp] theorem dispatchStart_canon (q n v) : KeepsCanon s (s.dispatchStart q n v) := .of fun h => by unfold State.dispatchStart; simp [h]
@[simp] theorem execDispatch_canon (dt q hosts) (h : s.canonical = true) : EndsCanon (execDispatch dt q hosts s) :=
  qDo_canon (by simp [h]) fun _ _ ht => by simp [ht]
@[simp] theorem execDispatchIndirect_canon (dt q hosts) (h : s.canonical = true) : EndsCanon (execDispatchIndirect dt q hosts s) := by
  unfold execDispatchIndirect
  exact ends_ite _ _ (by simp [h]) (qDoRead_canon (by simp [h]) fun _ _ _ ht => by simp [ht])
@[simp] theorem execClear_canon (dt q hosts) (h : s.canonical = true) : EndsCanon (execClear dt q hosts s) :=
  qDoRead_canon (by simp [h]) fun _ _ _ ht => by simp [ht]
@[simp] theorem execCopy_canon (dt q hosts) (h : s.canonical = true) : EndsCanon (execCopy dt q hosts s) :=
  qDo_canon (by simp [h]) fun _ _ ht => by simp [ht]
@[simp] theorem execResolve_canon (dt q hosts) (h : s.canonical = true) : EndsCanon (execResolve dt q hosts s) :=
  qDoRead_canon (by simp [h]) fun _ _ _ ht => by simp [ht]
@[simp] theorem execBarrier_canon (dt q hosts) (h : s.canonical = true) : EndsCanon (execBarrier dt q hosts s) :=
  qDo_canon (by simp [h]) fun _ _ ht => by simp [ht]
@[simp] theorem execFenceWait_canon (dt q hosts) (h : s.canonical = true) : EndsCanon (execFenceWait dt q hosts s) :=
  qDo_canon (by simp [h]) fun _ _ ht => by simp [ht]
@[simp] theorem execFenceWaitRelease_canon (dt q hosts) (h : s.canonical = true) : EndsCanon (execFenceWaitRelease dt q hosts s) := by
  dsimp only [execFenceWaitRelease]; (repeat' split) <;> simp [h]
@[simp] theorem execFenceSignal_canon (dt q hosts) (h : s.canonical = true) : EndsCanon (execFenceSignal dt q hosts s) :=
  qDo_canon (by simp [h]) fun _ _ ht => by simp [ht]

theorem qQuery_canon {s : State} (h : s.canonical = true) {q kind align hosts more} {act : State → State}
    (hact : ∀ t, t.canonical = true → (act t).canonical = true) : EndsCanon (s.qQuery q kind align hosts more act) := by
  unfold State.qQuery
  split
  · split
    · exact qDo_canon h fun n t ht => by simp [hact t ht]
    · simp [h]
  · simp [h]
@[simp] theorem execTimestamp_canon (dt q hosts) (h : s.canonical = true) : EndsCanon (execTimestamp dt q hosts s) :=
  qQuery_canon (by simp [h]) fun _ ht => by simp [ht]
@[simp] theorem execOcclusionBegin_canon (dt q hosts) (h : s.canonical = true) : EndsCanon (execOcclusionBegin dt q hosts s) :=
  qQuery_canon (by simp [h]) fun _ ht => by simp [ht]
@[simp] theorem execOcclusionEnd_canon (dt q hosts) (h : s.canonical = true) : EndsCanon (execOcclusionEnd dt q hosts s) :=
  qQuery_canon (by simp [h]) fun _ ht => by simp [ht]
@[simp] theorem execPassInfo_canon (dt q hosts) (h : s.canonical = true) : EndsCanon (execPassInfo dt q hosts s) :=
  qQuery_canon (by simp [h]) fun _ ht => by simp [ht]
@[simp] theorem missDeadline_canon (q d) : KeepsCanon s (s.missDeadline q d) := .of fun h => by unfold State.missDeadline; simp [h]

@[simp] theorem execDeadline_canon (dt q hosts) (h : s.canonical = true) : EndsCanon (execDeadline dt q hosts s) := by
  refine qDo_canon (by simp [h]) fun n t ht => ?_
  dsimp only
  split
  · simp [ht]
  · split <;> simp [ht]
@[simp] theorem execDeadlineMissed_canon (dt q) (h : s.canonical = true) : EndsCanon (execDeadlineMissed dt q s) := by
  dsimp only [execDeadlineMissed]; (repeat' split) <;> simp [h]

@[simp] theorem passPut_canon (q hosts o) : KeepsCanon s (s.passPut q hosts o).2 := .of fun h => by
  dsimp only [State.passPut]
  split
  · exact h
  split
  · exact foldl_canonical (fun a : Bool × State => a.2) _ (fun _ _ ha => by simp [ha]) _ h
  · simp [h]
@[simp] theorem passFinish_canon (q hosts) : KeepsCanon s (s.passFinish q hosts).2 := .of fun h => by
  unfold State.passFinish; (repeat' split) <;> simp [h]

@[simp] theorem drawEffect_canon (q hosts d k) : KeepsCanon s (s.drawEffect q hosts d k).2 := .of fun h => by
  dsimp only [State.drawEffect]
  split
  · split
    · exact h
    · (repeat' split) <;> simp [h]
  · exact h

@[simp] theorem descEffect_canon (q hosts d k) : KeepsCanon s (s.descEffect q hosts d k).2 := .of fun h => by
  dsimp only [State.descEffect]
  split
  · simp [h]
  · simp [h]
  · simp [h]
  · split
    · split <;> simp [h]
    · split <;> next hl => simp [h, snd_eq hl]
  · split <;> next hl => simp [h, snd_eq hl]
  · split <;> next hl => simp [h, snd_eq hl]
  · simp [h]
@[simp] theorem execDescriptorComplete_canon (dt q cnt k hosts) (h : s.canonical = true) : EndsCanon (execDescriptorComplete dt q cnt k hosts s) := by
  dsimp only [execDescriptorComplete]; (repeat' split) <;> simp [h]
@[simp] theorem giveCluster_canon (c) : KeepsCanon s (s.giveCluster c) := .of fun h => by
  unfold State.giveCluster; (repeat' split) <;> simp [h]
@[simp] theorem leaveCluster_canon (c q) : KeepsCanon s (s.leaveCluster c q) := .of fun h => by unfold State.leaveCluster; simp [h]
@[simp] theorem execPreemptionBoundary_canon (dt c) (h : s.canonical = true) : EndsCanon (execPreemptionBoundary dt c s) := by
  dsimp only [execPreemptionBoundary]; (repeat' split) <;> simp [h]
@[simp] theorem execContextSaved_canon (dt q) (h : s.canonical = true) : EndsCanon (execContextSaved dt q s) := by
  unfold execContextSaved; simp [h]
@[simp] theorem execContextRestored_canon (dt q) (h : s.canonical = true) : EndsCanon (execContextRestored dt q s) := by
  unfold execContextRestored; simp [h]

@[simp] theorem rangesLost_canon (w l) : KeepsCanon s (s.rangesLost w l) := .of fun h => by
  induction l generalizing s with
  | nil => exact h
  | cons x r ih => unfold State.rangesLost; simp [h, ih]
@[simp] theorem wdStop_canon (q hosts cnt ranges) : KeepsCanon s (s.wdStop q hosts cnt ranges) := .of fun h => by
  unfold State.wdStop; simp [h]
@[simp] theorem execWatchdogFired_canon (dt q cnt ranges hosts) (h : s.canonical = true) : EndsCanon (execWatchdogFired dt q cnt ranges hosts s) := by
  dsimp only [execWatchdogFired]; (repeat' split) <;> simp [h]
@[simp] theorem execFillLimitExpiry_canon (dt q cnt ranges hosts) (h : s.canonical = true) :
    EndsCanon (execFillLimitExpiry dt q cnt ranges hosts s) := by
  dsimp only [execFillLimitExpiry]; (repeat' split) <;> simp [h]

@[simp] theorem stageData_canon (w hosts r n) : KeepsCanon s (s.stageData w hosts r n).2 := .of fun h => by
  induction n with
  | zero => exact h
  | succ n ih => dsimp only [State.stageData]; simp [ih]
@[simp] theorem cacheShow_canon (w) : KeepsCanon s (s.cacheShow w) := .of fun h => by unfold State.cacheShow; simp [h]
@[simp] theorem takeCache_canon (w n) : KeepsCanon s (s.takeCache w n).2 := .of fun h => by unfold State.takeCache; simp [h]
@[simp] theorem cachePut_canon (w e) : KeepsCanon s (s.cachePut w e) := .of fun h => by unfold State.cachePut; simp [h]
@[simp] theorem cacheTrim_canon (w) : KeepsCanon s (s.cacheTrim w) := .of fun h => by unfold State.cacheTrim; simp [h]
@[simp] theorem sharedPut_canon (e) : KeepsCanon s (s.sharedPut e) := .of fun h => by unfold State.sharedPut; simp [h]
@[simp] theorem cacheDrop_canon (w) : KeepsCanon s (s.cacheDrop w) := .of fun h => by unfold State.cacheDrop; simp [h]
@[simp] theorem xlatePending_canon (w) : KeepsCanon s (s.xlatePending w) := .of fun h => by unfold State.xlatePending; simp [h]
@[simp] theorem xlateToken_canon (w token) : KeepsCanon s (s.xlateToken w token) := .of fun h => by unfold State.xlateToken; simp [h]
@[simp] theorem xlateOp_canon (w token ops) (h : s.canonical = true) : EndsCanon (s.xlateOp w token ops) := by
  unfold State.xlateOp; simp [h]
@[simp] theorem execTranslate_canon (dt w token) (h : s.canonical = true) : EndsCanon (execTranslate dt w token s) := by
  unfold execTranslate; simp [h]
@[simp] theorem execEvict_canon (dt w token) (h : s.canonical = true) : EndsCanon (execEvict dt w token s) := by unfold execEvict; simp [h]
@[simp] theorem execPublish_canon (dt w token) (h : s.canonical = true) : EndsCanon (execPublish dt w token s) := by
  unfold execPublish; simp [h]
@[simp] theorem xlateBody_canon (w addr ver share v b stages) : KeepsCanon s (s.xlateBody w addr ver share v b stages).2 := .of fun h => by
  fun_cases State.xlateBody <;> simp [h]

@[simp] theorem xlateRun_canon (w addr ver share v hosts) : KeepsCanon s (s.xlateRun w addr ver share v hosts).2 := .of fun h => by
  dsimp only [State.xlateRun]
  split
  · next hl => simp [h, snd_eq hl]
  next hl =>
  rw [snd_eq hl]
  split
  · next hl => simp [h, snd_eq hl]
  · next hl => rw [snd_eq hl]; simp [h]

@[simp] theorem xlateEvict_canon (w addr hosts) : KeepsCanon s (s.xlateEvict w addr hosts).2 := .of fun h => by
  dsimp only [State.xlateEvict]
  split
  · next hl => simp [h, snd_eq hl]
  · next hl => rw [snd_eq hl]; simp [h]
@[simp] theorem xlateHeader_canon (w addr o) : KeepsCanon s (s.xlateHeader w addr o) := .of fun h => by
  unfold State.xlateHeader; (repeat' split) <;> simp [h]
@[simp] theorem xlateEnd_canon (w q rest o) : KeepsCanon s (s.xlateEnd w q rest o) := .of fun h => by unfold State.xlateEnd; simp [h]
@[simp] theorem execXlateDone_canon (dt w v hosts) (h : s.canonical = true) : EndsCanon (execXlateDone dt w v hosts s) := by
  dsimp only [execXlateDone]; (repeat' split) <;> simp [h]

end Sys2Proof.Machine
end

section
/-!
PROOFS. Canonical memory: rings, virtual interfaces and their management window.
-/
namespace Sys2Proof.Machine

variable (s : State)

@[simp] theorem chanStop_canon (kind i hosts) : KeepsCanon s (s.chanStop kind i hosts) := .of fun h => by
  fun_cases State.chanStop <;> simp [h]
@[simp] theorem pipeShrink_canon (v) : KeepsCanon s (s.pipeShrink v) := .of fun h => by unfold State.pipeShrink; simp [h]
@[simp] theorem memGone_canon (i) : KeepsCanon s (s.memGone i) := .of fun h => by unfold State.memGone; simp [h]
@[simp] theorem chanGone_canon (kind i) : KeepsCanon s (s.chanGone kind i) := .of fun h => by
  unfold State.chanGone; (repeat' split) <;> simp [h]
@[simp] theorem submitFault_canon (w n) : KeepsCanon s (s.submitFault w n) := .of fun h => by unfold State.submitFault; simp [h]
@[simp] theorem execRingEnable_canon (dt w n v) (h : s.canonical = true) : EndsCanon (execRingEnable dt w n v s) := by
  dsimp only [execRingEnable]; (repeat' split) <;> simp [h]

@[simp] theorem ringStop_canon (w n hosts) : KeepsCanon s (s.ringStop w n hosts) := .of fun h => by
  rw [ringStop_eq]
  unfold State.boundStop
  (repeat' split) <;> simp [h]
@[simp] theorem execRingDisable_canon (dt w n v hosts) (h : s.canonical = true) : EndsCanon (execRingDisable dt w n v hosts s) := by
  unfold execRingDisable; simp [h]
@[simp] theorem execRingDoorbell_canon (dt w n v) (h : s.canonical = true) : EndsCanon (execRingDoorbell dt w n v s) := by
  dsimp only [execRingDoorbell]; (repeat' split) <;> simp [h]
@[simp] theorem takeControl_canon (w seq b) : KeepsCanon s (s.takeControl w seq b) := .of fun h => by unfold State.takeControl; simp [h]
@[simp] theorem takeEntry_canon (w n seq b) : KeepsCanon s (s.takeEntry w n seq b) := .of fun h => by
  unfold State.takeEntry; (repeat' split) <;> simp [h]
@[simp] theorem execRingEntryFetch_canon (dt w n hosts) (h : s.canonical = true) : EndsCanon (execRingEntryFetch dt w n hosts s) := by
  dsimp only [execRingEntryFetch]; (repeat' split) <;> simp [h]
@[simp] theorem unbindAll_canon (w handle) : KeepsCanon s (s.unbindAll w handle) := .of fun h => by
  unfold State.unbindAll; simp +contextual [h]
@[simp] theorem chanDestroy_canon (w kind i tag hosts) : KeepsCanon s (s.chanDestroy w kind i tag hosts) := .of fun h => by
  unfold State.chanDestroy; simp [h]
@[simp] theorem execDestroy_canon (dt w hosts) (h : s.canonical = true) : EndsCanon (execDestroy dt w hosts s) := by
  dsimp only [execDestroy]; (repeat' split) <;> simp [h]
@[simp] theorem execDestroyDrainDone_canon (dt kind i) (h : s.canonical = true) : EndsCanon (execDestroyDrainDone dt kind i s) := by
  dsimp only [execDestroyDrainDone]; (repeat' split) <;> simp [h]
@[simp] theorem execBindRing_canon (dt w) (h : s.canonical = true) : EndsCanon (execBindRing dt w s) := by
  dsimp only [execBindRing]; (repeat' split) <;> simp [h]
@[simp] theorem execUnbindRing_canon (dt w) (h : s.canonical = true) : EndsCanon (execUnbindRing dt w s) := by
  dsimp only [execUnbindRing]; (repeat' split) <;> simp [h]

@[simp] theorem execQuery_canon (dt w) (h : s.canonical = true) : EndsCanon (execQuery dt w s) := by
  dsimp only [execQuery]
  split
  · simp [h]
  split
  · simp [h]
  split
  · simp [h]
  split <;> next hs => simp [h, snd_eq hs]
@[simp] theorem pfFlush_canon : KeepsCanon s s.pfFlush := .of fun h => by unfold State.pfFlush; simp +contextual [h]
@[simp] theorem execEvrEnable_canon (dt w v) (h : s.canonical = true) : EndsCanon (execEvrEnable dt w v s) := by
  unfold execEvrEnable; simp [h]
@[simp] theorem execEvrHeadWrite_canon (dt w v) (h : s.canonical = true) : EndsCanon (execEvrHeadWrite dt w v s) := by
  unfold execEvrHeadWrite; simp [h]
@[simp] theorem execEvrIrqTimer_canon (dt w) (h : s.canonical = true) : EndsCanon (execEvrIrqTimer dt w s) := by
  dsimp only [execEvrIrqTimer]; (repeat' split) <;> simp [h]
@[simp] theorem setVi_canon (v st) : KeepsCanon s (s.setVi v st) := .of fun h => by unfold State.setVi; simp [h]
@[simp] theorem vimResult_canon (st) : KeepsCanon s (s.vimResult st) := .of fun h => by unfold State.vimResult; simp [h]
@[simp] theorem vimLast_canon (v st) : KeepsCanon s (s.vimLast v st) := .of fun h => by unfold State.vimLast; simp [h]
@[simp] theorem vimCount_canon : KeepsCanon s s.vimCount := .of fun h => by unfold State.vimCount; simp [h]

@[simp] theorem vimCheck_canon (r op v ext) : KeepsCanon s (s.vimCheck r op v ext).2 := .of fun h => by
  dsimp only [State.vimCheck]
  split
  · exact h
  split
  · exact h
  split
  · exact h
  split
  · next hf => split <;> simp [h, snd_eq hf]
  · next hf => rw [snd_eq hf]; split <;> simp [h]

/-- A command of the management window keeps the memories canonical where what it does when allowed does. -/
theorem vimCmd_canon {s : State} (h : s.canonical = true) {r op v ext} {act : Nat → State → State}
    (hact : ∀ p t, t.canonical = true → (act p t).canonical = true) : (s.vimCmd r op v ext act).canonical = true := by
  unfold State.vimCmd
  split
  · exact h
  split <;> next hc => simp [h, snd_eq hc, hact]
@[simp] theorem vimNow_canon (v st) : KeepsCanon s (s.vimNow v st) := .of fun h => by unfold State.vimNow; simp [h]
@[simp] theorem vimLater_canon (op v p) : KeepsCanon s (s.vimLater op v p) := .of fun h => by unfold State.vimLater; simp [h]
@[simp] theorem vimDone_canon (v st) : KeepsCanon s (s.vimDone v st) := .of fun h => by unfold State.vimDone; (repeat' split) <;> simp [h]
@[simp] theorem viBlank_canon (v) : KeepsCanon s (s.viBlank v) := .of id
@[simp] theorem execCreateVi_canon (dt r v ext) (h : s.canonical = true) : EndsCanon (execCreateVi dt r v ext s) :=
  (ends_next _).2 (vimCmd_canon (by simp [h]) fun _ _ ht => by simp [ht])
@[simp] theorem grantApply_canon (v k n b) : KeepsCanon s (s.grantApply v k n b) := .of fun h => by
  dsimp only [State.grantApply]; (repeat' split) <;> simp +contextual [h]
@[simp] theorem execGrant_canon (dt r v ext) (h : s.canonical = true) : EndsCanon (execGrant dt r v ext s) :=
  (ends_next _).2 (vimCmd_canon (by simp [h]) fun _ _ ht => by dsimp only; split <;> simp [ht])
@[simp] theorem dropCommits_canon (v) : KeepsCanon s (s.dropCommits v) := .of fun h => by unfold State.dropCommits; simp +contextual [h]
@[simp] theorem resetChan_canon (v c) : KeepsCanon s (s.resetChan v c) := .of fun h => by unfold State.resetChan; simp [h]
@[simp] theorem viReset_canon (v cause) : KeepsCanon s (s.viReset v cause) := .of fun h => by
  dsimp only [State.viReset]; (repeat' split) <;> simp +contextual [h]
@[simp] theorem execResetVi_canon (dt r v ext) (h : s.canonical = true) : EndsCanon (execResetVi dt r v ext s) :=
  (ends_next _).2 (vimCmd_canon (by simp [h]) fun _ _ ht => by simp [ht])
@[simp] theorem execDestroyVi_canon (dt r v ext) (h : s.canonical = true) : EndsCanon (execDestroyVi dt r v ext s) :=
  (ends_next _).2 (vimCmd_canon (by simp [h]) fun _ _ ht => by simp [ht])
@[simp] theorem execResetWorkStop_canon (dt v) (h : s.canonical = true) : EndsCanon (execResetWorkStop dt v s) := by
  dsimp only [execResetWorkStop]; (repeat' split) <;> simp +contextual [h]
@[simp] theorem viFree_canon (v) : KeepsCanon s (s.viFree v) := .of fun h => by unfold State.viFree; simp [h]
@[simp] theorem execViResetDone_canon (dt v) (h : s.canonical = true) : EndsCanon (execViResetDone dt v s) := by
  dsimp only [execViResetDone]; (repeat' split) <;> simp +contextual [h]
@[simp] theorem execFunctionLevelReset_canon (dt l vf) (h : s.canonical = true) : EndsCanon (execFunctionLevelReset dt l vf s) := by
  dsimp only [execFunctionLevelReset]; (repeat' split) <;> simp [h]
@[simp] theorem execVfEnableCleared_canon (dt l) (h : s.canonical = true) : EndsCanon (execVfEnableCleared dt l s) := by
  unfold execVfEnableCleared; simp +contextual [h]
@[simp] theorem execBusMasterEnableChange_canon (dt l vf on) (h : s.canonical = true) : EndsCanon (execBusMasterEnableChange dt l vf on s) := by
  unfold execBusMasterEnableChange; simp [h]
@[simp] theorem linkDown_canon (l) : KeepsCanon s (s.linkDown l) := .of fun h => by unfold State.linkDown; simp +contextual [h]
@[simp] theorem execPcieLinkDown_canon (dt l) (h : s.canonical = true) : EndsCanon (execPcieLinkDown dt l s) := by
  unfold execPcieLinkDown; simp [h]
@[simp] theorem execPcieLinkUp_canon (dt l) (h : s.canonical = true) : EndsCanon (execPcieLinkUp dt l s) := by
  unfold execPcieLinkUp; simp [h]
@[simp] theorem execFreeze_canon (dt r v ext) (h : s.canonical = true) : EndsCanon (execFreeze dt r v ext s) :=
  (ends_next _).2 (vimCmd_canon (by simp [h]) fun _ _ ht => by simp [ht])
@[simp] theorem execFreezeComplete_canon (dt v) (h : s.canonical = true) : EndsCanon (execFreezeComplete dt v s) := by
  unfold execFreezeComplete; simp [h]
@[simp] theorem execViFreezeTimeout_canon (dt v) (h : s.canonical = true) : EndsCanon (execViFreezeTimeout dt v s) := by
  dsimp only [execViFreezeTimeout]; (repeat' split) <;> simp [h]
@[simp] theorem viThaw_canon (v) : KeepsCanon s (s.viThaw v) := .of fun h => by unfold State.viThaw; simp [h]
@[simp] theorem execThaw_canon (dt r v ext) (h : s.canonical = true) : EndsCanon (execThaw dt r v ext s) :=
  (ends_next _).2 (vimCmd_canon (by simp [h]) fun _ _ ht => by simp [ht])
@[simp] theorem retranslate_canon (v addr old vd hosts) : KeepsCanon s (s.retranslate v addr old vd hosts) := .of fun h => by
  unfold State.retranslate; simp +contextual [h]
@[simp] theorem retranslateAll_canon (v hosts a l) : KeepsCanon s (s.retranslateAll v hosts a l) := .of fun h => by
  fun_induction State.retranslateAll <;> simp_all
@[simp] theorem execThawRetranslationDone_canon (dt v vs hosts) (h : s.canonical = true) : EndsCanon (execThawRetranslationDone dt v vs hosts s) := by
  dsimp only [execThawRetranslationDone]; (repeat' split) <;> simp [h]
@[simp] theorem execSave_canon (dt r v ext) (h : s.canonical = true) : EndsCanon (execSave dt r v ext s) :=
  (ends_next _).2 (vimCmd_canon (by simp [h]) fun _ _ ht => by simp [ht])

@[simp] theorem execSaveComplete_canon (dt v) (h : s.canonical = true) : EndsCanon (execSaveComplete dt v s) := by
  dsimp only [execSaveComplete]
  split
  · simp [h]
  split
  · simp [h]
  split <;> next hs => simp [h, snd_eq hs]
@[simp] theorem execRestore_canon (dt r v ext) (h : s.canonical = true) : EndsCanon (execRestore dt r v ext s) :=
  (ends_next _).2 (vimCmd_canon (by simp [h]) fun _ _ ht => by simp [ht])

theorem restoreStream_canon {s : State} (h : s.canonical = true) (k t) : ∀ u ∈ s.restoreStream k t, u.canonical = true := by
  intro u hu
  obtain ⟨_, _, rfl⟩ := Option.map_eq_some_iff.1 hu
  simp [h]

theorem restoreStreams_canon {s : State} (h : s.canonical = true) (l) : ∀ u ∈ s.restoreStreams l, u.canonical = true := by
  induction l generalizing s with
  | nil => intro u hu; obtain rfl := Option.some.inj hu; exact h
  | cons c r ih =>
    intro u hu
    obtain ⟨t, ht, hu⟩ := Option.bind_eq_some_iff.1 hu
    exact ih (restoreStream_canon h _ _ t ht) u hu
@[simp] theorem restoreStreams_getD_canon (l) : KeepsCanon s ((s.restoreStreams l).getD s) := .of fun h => by
  cases hr : s.restoreStreams l with
  | none => exact h
  | some u => exact restoreStreams_canon h l u hr
@[simp] theorem restoreMem_canon (v i m) : KeepsCanon s (s.restoreMem v i m) := .of fun h => by unfold State.restoreMem; simp [h]
@[simp] theorem restoreQueue_canon (v q u regs) : KeepsCanon s (s.restoreQueue v q u regs) := .of fun h => by
  unfold State.restoreQueue; simp [h]
@[simp] theorem restoreLayer_canon (i l regs) : KeepsCanon s (s.restoreLayer i l regs) := .of fun h => by
  unfold State.restoreLayer; simp [h]
@[simp] theorem restoreApply_canon (v l m) : KeepsCanon s (s.restoreApply v l m) := .of fun h => by
  unfold State.restoreApply; simp +contextual [h]

@[simp] theorem execRestoreComplete_canon (dt v ext) (h : s.canonical = true) : EndsCanon (execRestoreComplete dt v ext s) := by
  dsimp only [execRestoreComplete]
  split
  · simp [h]
  split
  · next hf => simp [h, snd_eq hf]
  next hf =>
  rw [snd_eq hf]
  split <;> simp [h]
@[simp] theorem execCopyOut_canon (dt r v ext) (h : s.canonical = true) : EndsCanon (execCopyOut dt r v ext s) :=
  (ends_next _).2 (vimCmd_canon (by simp [h]) fun _ _ ht => by simp [ht])
@[simp] theorem execCopyIn_canon (dt r v ext) (h : s.canonical = true) : EndsCanon (execCopyIn dt r v ext s) :=
  (ends_next _).2 (vimCmd_canon (by simp [h]) fun _ _ ht => by simp [ht])

@[simp] theorem copyIn_canon (v a l) : KeepsCanon s (s.copyIn v a l).2 := .of fun h => by
  induction l generalizing s a with
  | nil => exact h
  | cons b r ih => unfold State.copyIn; split <;> simp [h, ih]

@[simp] theorem execViCopyComplete_canon (dt v hosts) (h : s.canonical = true) : EndsCanon (execViCopyComplete dt v hosts s) := by
  dsimp only [execViCopyComplete]
  split
  · simp [h]
  split
  · simp [h]
  split
  · split
    · simp [h]
    split <;> next hs => simp [h, snd_eq hs]
  split
  · next hl => simp [h, snd_eq hl]
  next hl =>
  rw [snd_eq hl]
  split <;> next hs => simp [h, snd_eq hs]

@[simp] theorem areaZero_canon (a n) : KeepsCanon s (s.areaZero a n) := .of fun h => by
  delta State.areaZero
  refine (foldl_canon _ _ _ fun t i ht => ?_).canonical h
  extract_lets e k
  clear_value k e
  obtain ⟨hm, hh⟩ := canonical_iff.1 ht
  exact canonical_iff.2 ⟨twf_tcut hm _ _, hh⟩
@[simp] theorem vimAtOnce_canon (op v p st) : KeepsCanon s (s.vimAtOnce op v p st) := .of fun h => by unfold State.vimAtOnce; simp [h]
@[simp] theorem execDirtyCtrl_canon (dt r v ext) (h : s.canonical = true) : EndsCanon (execDirtyCtrl dt r v ext s) :=
  (ends_next _).2 (vimCmd_canon (by simp [h]) fun _ _ ht => by simp [ht])

@[simp] theorem memTdel_canon (l : List Nat) : KeepsCanon s { s with mem := l.foldl tdel s.mem } := .of fun h => by
  rw [canonical_iff] at h ⊢
  exact ⟨twf_foldl _ (fun _ k hm => twf_tdel hm k) _ _ h.1, h.2⟩
@[simp] theorem execDirtyHarvest_canon (dt r v ext) (h : s.canonical = true) : EndsCanon (execDirtyHarvest dt r v ext s) := by
  refine (ends_next _).2 (vimCmd_canon (by simp [h]) fun _ t ht => ?_)
  split
  · simp [ht]
  dsimp only
  split
  · simp [ht]
  split
  · simp [ht]
  split <;> next hs => simp [ht, snd_eq hs]

end Sys2Proof.Machine
end

section
/-!
PROOFS. Canonical memory: worlds, hulls, the interconnect, the network and the recorder.
-/
namespace Sys2Proof.Machine

variable (s : State)

@[simp] theorem mHart_canon (l f) : KeepsCanon s (s.mHart l f) := .of fun h => by unfold State.mHart; simp [h]
@[simp] theorem mHull_canon (k f) : KeepsCanon s (s.mHull k f) := .of fun h => by unfold State.mHull; simp [h]
@[simp] theorem setRc_canon (c e x) : KeepsCanon s (s.setRc c e x) := .of fun h => by unfold State.setRc; simp [h]
@[simp] theorem worldDenied_canon : KeepsCanon s s.worldDenied := .of fun h => by unfold State.worldDenied; simp [h]
@[simp] theorem execRcEntryCommit_canon (dt r c e v) (h : s.canonical = true) : EndsCanon (execRcEntryCommit dt r c e v s) := by
  dsimp only [execRcEntryCommit]; (repeat' split) <;> simp [h]
@[simp] theorem execWorldHartWrite_canon (dt l machine secure) (h : s.canonical = true) : EndsCanon (execWorldHartWrite dt l machine secure s) := by
  unfold execWorldHartWrite; split <;> simp [h]
@[simp] theorem hullResult_canon (l st) : KeepsCanon s (s.hullResult l st) := .of fun h => by unfold State.hullResult; simp [h]
@[simp] theorem zeroRange_canon (c base size) : KeepsCanon s (s.zeroRange c base size) := .of fun h => by
  rw [canonical_iff] at h ⊢
  exact ⟨twf_tcut h.1 _ _, h.2⟩
@[simp] theorem execHullCreate_canon (dt r) (h : s.canonical = true) : EndsCanon (execHullCreate dt r s) := by
  dsimp only [execHullCreate]; (repeat' split) <;> simp [h]

@[simp] theorem execHullAdd_canon (dt r) (h : s.canonical = true) : EndsCanon (execHullAdd dt r s) := by
  dsimp only [execHullAdd]
  split
  · simp [h]
  split <;> simp [h]
@[simp] theorem execHullSeal_canon (dt r) (h : s.canonical = true) : EndsCanon (execHullSeal dt r s) := by
  dsimp only [execHullSeal]; (repeat' split) <;> simp [h]
@[simp] theorem execHullEnter_canon (dt r ret) (h : s.canonical = true) : EndsCanon (execHullEnter dt r ret s) := by
  dsimp only [execHullEnter]; (repeat' split) <;> simp [h]
@[simp] theorem execHullExit_canon (dt r x10 x11) (h : s.canonical = true) : EndsCanon (execHullExit dt r x10 x11 s) := by
  dsimp only [execHullExit]; (repeat' split) <;> simp [h]
@[simp] theorem execHullAsyncExit_canon (dt n cause pc xs) (h : s.canonical = true) : EndsCanon (execHullAsyncExit dt n cause pc xs s) := by
  dsimp only [execHullAsyncExit]
  split <;> simp [h]
@[simp] theorem execHullWindowOpen_canon (dt r) (h : s.canonical = true) : EndsCanon (execHullWindowOpen dt r s) := by
  dsimp only [execHullWindowOpen]; (repeat' split) <;> simp [h]
@[simp] theorem closeWindow_canon (c e by_) : KeepsCanon s (s.closeWindow c e by_) := .of fun h => by unfold State.closeWindow; simp [h]
@[simp] theorem execHullWindowClose_canon (dt r) (h : s.canonical = true) : EndsCanon (execHullWindowClose dt r s) := by
  dsimp only [execHullWindowClose]; (repeat' split) <;> simp [h]
@[simp] theorem execWindowCloseDrained_canon (dt c e) (h : s.canonical = true) : EndsCanon (execWindowCloseDrained dt c e s) := by
  dsimp only [execWindowCloseDrained]; (repeat' split) <;> simp [h]

@[simp] theorem execHullReport_canon (dt r) (h : s.canonical = true) : EndsCanon (execHullReport dt r s) := by
  dsimp only [execHullReport]
  split
  · simp [h]
  split <;> simp [h]
@[simp] theorem execHullDestroy_canon (dt r) (h : s.canonical = true) : EndsCanon (execHullDestroy dt r s) := by
  dsimp only [execHullDestroy]; (repeat' split) <;> simp +contextual [h]
@[simp] theorem execHullDestroyDone_canon (dt k) (h : s.canonical = true) : EndsCanon (execHullDestroyDone dt k s) := by
  unfold execHullDestroyDone; simp +contextual [h]

@[simp] theorem freeWords_canon (k n) : KeepsCanon s (s.freeWords k n) := .of fun h => by
  induction n generalizing s k with
  | zero => exact h
  | succ n ih => unfold State.freeWords; simp [h, ih]
@[simp] theorem execDebugTokenSubmit_canon (dt r) (h : s.canonical = true) : EndsCanon (execDebugTokenSubmit dt r s) := by
  unfold execDebugTokenSubmit; simp [h]
@[simp] theorem execDebugRevoke_canon (dt r) (h : s.canonical = true) : EndsCanon (execDebugRevoke dt r s) := by
  unfold execDebugRevoke; split <;> simp [h]
@[simp] theorem claimCmd_canon (r u bad next) : KeepsCanon s (s.claimCmd r u bad next) := .of fun h => by
  unfold State.claimCmd; (repeat' split) <;> simp [h]
@[simp] theorem execClaimTake_canon (dt r u) (h : s.canonical = true) : EndsCanon (execClaimTake dt r u s) := by
  unfold execClaimTake; simp [h]
@[simp] theorem execClaimRelease_canon (dt r u) (h : s.canonical = true) : EndsCanon (execClaimRelease dt r u s) := by
  unfold execClaimRelease; simp [h]
@[simp] theorem execClaimRearm_canon (dt r u) (h : s.canonical = true) : EndsCanon (execClaimRearm dt r u s) := by
  unfold execClaimRearm; simp [h]
@[simp] theorem rootSettle_canon (old) : KeepsCanon s (s.rootSettle old) := .of fun h => by unfold State.rootSettle; simp [h]
@[simp] theorem timeEvent_canon (why) : KeepsCanon s (s.timeEvent why) := .of fun h => by unfold State.timeEvent; simp [h]
@[simp] theorem timeSettle_canon : KeepsCanon s s.timeSettle := .of fun h => by unfold State.timeSettle; (repeat' split) <;> simp [h]
@[simp] theorem mImp_canon (i f) : KeepsCanon s (s.mImp i f) := .of fun h => by unfold State.mImp; simp [h]
@[simp] theorem impUnmap_canon (i) : KeepsCanon s (s.impUnmap i) := .of fun h => by unfold State.impUnmap; simp [h]
@[simp] theorem impLost_canon (i) : KeepsCanon s (s.impLost i) := .of fun h => by unfold State.impLost; simp [h]
@[simp] theorem impCheck_canon : KeepsCanon s s.impCheck := .of fun h => by unfold State.impCheck; simp +contextual [h]
@[simp] theorem impRoutes_canon : KeepsCanon s s.impRoutes := .of fun h => by unfold State.impRoutes; simp +contextual [h]
@[simp] theorem portDown_canon (p) : KeepsCanon s (s.portDown p) := .of fun h => by unfold State.portDown; simp [h]
@[simp] theorem icvResult_canon (st) : KeepsCanon s (s.icvResult st) := .of fun h => by unfold State.icvResult; simp [h]
@[simp] theorem execIcvikPortEnable_canon (dt r p v) (h : s.canonical = true) : EndsCanon (execIcvikPortEnable dt r p v s) := by
  dsimp only [execIcvikPortEnable]; (repeat' split) <;> simp [h]
@[simp] theorem execIcvikTrainingDone_canon (dt p lanes) (h : s.canonical = true) : EndsCanon (execIcvikTrainingDone dt p lanes s) := by
  unfold execIcvikTrainingDone; simp [h]
@[simp] theorem execIcvikPortTimeout_canon (dt p) (h : s.canonical = true) : EndsCanon (execIcvikPortTimeout dt p s) := by
  dsimp only [execIcvikPortTimeout]; (repeat' split) <;> simp [h]

@[simp] theorem execFlitReceive_canon (dt p flit nak) (h : s.canonical = true) : EndsCanon (execFlitReceive dt p flit nak s) := by
  unfold execFlitReceive
  extract_lets s₁ f good s₂ s₃ dest s₄ recent s₅
  have h₁ : s₁.canonical = true := by simp [s₁, h]
  have h₄ : s₄.canonical = true := by
    dsimp only [s₄, s₃, s₂]
    (repeat' split) <;> simp [h₁]
  have h₅ : s₅.canonical = true := by simp [s₅, h₄]
  refine ends_ite _ _ (by simp [h₁]) (ends_ite _ _ ?_ (by simp [h₄]))
  clear_value s₅
  split <;> simp [h₅]
@[simp] theorem dirSet_canon (n i) : KeepsCanon s (s.dirSet n i) := .of fun h => by unfold State.dirSet; simp [h]
@[simp] theorem nodeJoin_canon (n i) : KeepsCanon s (s.nodeJoin n i) := .of fun h => by unfold State.nodeJoin; simp [h]
@[simp] theorem portRefuse_canon (p n) : KeepsCanon s (s.portRefuse p n) := .of fun h => by unfold State.portRefuse; simp [h]

@[simp] theorem joinTell_canon (n) : KeepsCanon s (s.joinTell n) := .of fun h => by
  dsimp only [State.joinTell]
  split
  · simp +contextual [h]
  refine (foldl_canon _ _ _ fun t k ht => ?_).canonical (by simp +contextual [h])
  split <;> simp [ht]
@[simp] theorem leaveSettle_canon : KeepsCanon s s.leaveSettle := .of fun h => by unfold State.leaveSettle; simp [h]
@[simp] theorem helloJoin_canon (p n l old) : KeepsCanon s (s.helloJoin p n l old) := .of fun h => by unfold State.helloJoin; simp [h]
@[simp] theorem execHello_canon (dt p l) (h : s.canonical = true) : EndsCanon (execHello dt p l s) := by
  dsimp only [execHello]; (repeat' split) <;> simp [h]
@[simp] theorem execBeat_canon (dt n) (h : s.canonical = true) : EndsCanon (execBeat dt n s) := by unfold execBeat; simp [h]
@[simp] theorem execBeatSend_canon (dt) (h : s.canonical = true) : EndsCanon (execBeatSend dt s) := by
  unfold execBeatSend; simp +contextual [h]
@[simp] theorem execNodeLost_canon (dt n) (h : s.canonical = true) : EndsCanon (execNodeLost dt n s) := by unfold execNodeLost; simp [h]
@[simp] theorem execRouteUpdate_canon (dt edges misfit) (h : s.canonical = true) : EndsCanon (execRouteUpdate dt edges misfit s) := by
  unfold execRouteUpdate; simp +contextual [h]
@[simp] theorem execTimeFlitSend_canon (dt p) (h : s.canonical = true) : EndsCanon (execTimeFlitSend dt p s) := by
  unfold execTimeFlitSend; simp [h]

theorem setNow_canon (n) : KeepsCanon s { s with now := n } := .of id
@[simp] theorem execTimeFlit_canon (dt p got sent) (h : s.canonical = true) : EndsCanon (execTimeFlit dt p got sent s) := by
  unfold execTimeFlit
  extract_lets s₁ a d delay off s₂ k s₃ locked was s₄
  have h₁ : s₁.canonical = true := by simp [s₁, h]
  have h₂ : s₂.canonical = true := by simp [s₂, h₁]
  have h₃ : s₃.canonical = true := by simp [s₃, h₂]
  have h₄ : s₄.canonical = true := by simp [s₄, h₃]
  have h₅ := (setNow_canon s₃ (tobits 64 (s₃.now + off))).canonical h₃
  clear_value s₁ s₂ s₃ s₄
  refine ends_ite _ _ (by simp [h₁]) ?_
  split <;> simp [h₂, h₄, h₅]
@[simp] theorem execPodRefApply_canon (dt r k) (h : s.canonical = true) : EndsCanon (execPodRefApply dt r k s) := by
  dsimp only [execPodRefApply]; (repeat' split) <;> simp +contextual [h]
@[simp] theorem execPodRefActivate_canon (dt k) (h : s.canonical = true) : EndsCanon (execPodRefActivate dt k s) := by
  dsimp only [execPodRefActivate]; (repeat' split) <;> simp [h]
@[simp] theorem impResult_canon (i st) : KeepsCanon s (s.impResult i st) := .of fun h => by unfold State.impResult; simp [h]
@[simp] theorem execImportOpen_canon (dt r i v) (h : s.canonical = true) : EndsCanon (execImportOpen dt r i v s) := by
  dsimp only [execImportOpen]; (repeat' split) <;> simp [h]
@[simp] theorem execImportOpenDone_canon (dt i answer chunks room) (h : s.canonical = true) :
    EndsCanon (execImportOpenDone dt i answer chunks room s) := by
  dsimp only [execImportOpenDone]; (repeat' split) <;> simp [h]
@[simp] theorem execImportClose_canon (dt r i v) (h : s.canonical = true) : EndsCanon (execImportClose dt r i v s) := by
  unfold execImportClose; split <;> simp [h]
@[simp] theorem execIcvRead_canon (dt src tag e off len) (h : s.canonical = true) : EndsCanon (execIcvRead dt src tag e off len s) := by
  unfold execIcvRead; simp [h]
@[simp] theorem execIcvPixel_canon (dt i off bs) (h : s.canonical = true) : EndsCanon (execIcvPixel dt i off bs s) := by
  unfold execIcvPixel; simp [h]
@[simp] theorem execNoRouteTimeout_canon (dt i addr) (h : s.canonical = true) : EndsCanon (execNoRouteTimeout dt i addr s) := by
  dsimp only [execNoRouteTimeout]; (repeat' split) <;> simp [h]
@[simp] theorem raccResult_canon (st busy) : KeepsCanon s (s.raccResult st busy) := .of fun h => by unfold State.raccResult; simp [h]
@[simp] theorem raccGo_canon (r v write) : KeepsCanon s (s.raccGo r v write) := .of fun h => by
  unfold State.raccGo; (repeat' split) <;> simp [h]
@[simp] theorem execRaccRead_canon (dt r v) (h : s.canonical = true) : EndsCanon (execRaccRead dt r v s) := by unfold execRaccRead; simp [h]
@[simp] theorem execRaccWrite_canon (dt r v) (h : s.canonical = true) : EndsCanon (execRaccWrite dt r v s) := by
  unfold execRaccWrite; simp [h]
@[simp] theorem execRaccDone_canon (dt answer) (h : s.canonical = true) : EndsCanon (execRaccDone dt answer s) := by
  dsimp only [execRaccDone]; (repeat' split) <;> simp [h]
@[simp] theorem execControlRetry_canon (dt tag) (h : s.canonical = true) : EndsCanon (execControlRetry dt tag s) := by
  dsimp only [execControlRetry]; (repeat' split) <;> simp [h]
@[simp] theorem tsnResult_canon (m st) : KeepsCanon s (s.tsnResult m st) := .of fun h => by unfold State.tsnResult; simp [h]
@[simp] theorem tsnReach_canon (r m) : KeepsCanon s (s.tsnReach r m).2 := .of fun h => by fun_cases State.tsnReach <;> simp [h]
@[simp] theorem tsnRing_canon (m rx st) : KeepsCanon s (s.tsnRing m rx st) := .of fun h => by unfold State.tsnRing; simp [h]
@[simp] theorem tsnRingFault_canon (m rx b) : KeepsCanon s (s.tsnRingFault m rx b) := .of fun h => by unfold State.tsnRingFault; simp [h]
@[simp] theorem tsnAdvance_canon (m rx) : KeepsCanon s (s.tsnAdvance m rx) := .of fun h => by unfold State.tsnAdvance; simp [h]
@[simp] theorem tsnOwed_canon (m) : KeepsCanon s (s.tsnOwed m) := .of fun h => by unfold State.tsnOwed; simp [h]
@[simp] theorem tsnRingOff_canon (m rx) : KeepsCanon s (s.tsnRingOff m rx) := .of fun h => by unfold State.tsnRingOff; simp [h]
@[simp] theorem execTsnRingEnable_canon (dt r m rx v) (h : s.canonical = true) : EndsCanon (execTsnRingEnable dt r m rx v s) := by
  dsimp only [execTsnRingEnable]; (repeat' split) <;> simp [h]
@[simp] theorem tsnDoorbell_canon (m rx v) : KeepsCanon s (s.tsnDoorbell m rx v) := .of fun h => by unfold State.tsnDoorbell; simp [h]
@[simp] theorem execTsnTxrDoorbell_canon (dt r m v) (h : s.canonical = true) : EndsCanon (execTsnTxrDoorbell dt r m v s) := by
  unfold execTsnTxrDoorbell; simp [h]
@[simp] theorem execTsnRxrDoorbell_canon (dt r m v) (h : s.canonical = true) : EndsCanon (execTsnRxrDoorbell dt r m v s) := by
  unfold execTsnRxrDoorbell; simp [h]
@[simp] theorem txFinish_canon (m k d st t) : KeepsCanon s (s.txFinish m k d st t) := .of fun h => by unfold State.txFinish; simp [h]

@[simp] theorem txLoad_canon (m hosts n) : KeepsCanon s (s.txLoad m hosts n) := .of fun h => by
  induction n generalizing s with
  | zero => exact h
  | succ n ih =>
    unfold State.txLoad
    extract_lets t
    split
    · exact h
    dsimp only
    split <;> simp [h, ih]
@[simp] theorem gclBusy_canon (m) : KeepsCanon s (s.gclBusy m) := .of fun h => by unfold State.gclBusy; simp [h]
@[simp] theorem ptpCtrl_canon (m) : KeepsCanon s (s.ptpCtrl m) := .of fun h => by unfold State.ptpCtrl; simp [h]
@[simp] theorem execGclApply_canon (dt r m) (h : s.canonical = true) : EndsCanon (execGclApply dt r m s) := by
  dsimp only [execGclApply]; (repeat' split) <;> simp [h]
@[simp] theorem execTsnGclSwitch_canon (dt m) (h : s.canonical = true) : EndsCanon (execTsnGclSwitch dt m s) := by
  dsimp only [execTsnGclSwitch]; (repeat' split) <;> simp [h]
@[simp] theorem execGateControlEntry_canon (dt m) (h : s.canonical = true) : EndsCanon (execGateControlEntry dt m s) := by
  dsimp only [execGateControlEntry]; (repeat' split) <;> simp [h]
@[simp] theorem txSend_canon (m hosts c f) : KeepsCanon s (s.txSend m hosts c f) := .of fun h => by
  dsimp only [State.txSend]; (repeat' split) <;> simp [h]
@[simp] theorem execTsnFrameTx_canon (dt m hosts) (h : s.canonical = true) : EndsCanon (execTsnFrameTx dt m hosts s) := by
  dsimp only [execTsnFrameTx]; (repeat' split) <;> simp [h]
@[simp] theorem ptpEvent_canon (m old) : KeepsCanon s (s.ptpEvent m old) := .of fun h => by unfold State.ptpEvent; simp [h]

@[simp] theorem ptpTake_canon (m q) : KeepsCanon s (s.ptpTake m q) := .of fun h => by
  unfold State.ptpTake
  extract_lets old role s₁ s₂ s₃ off s₄ s₅
  have h₃ : s₃.canonical = true := by simp [s₃, s₂, s₁, h]
  have h₄ : s₄.canonical = true := by
    have := (setNow_canon s₃ (tobits 64 (s₃.now + off))).canonical h₃
    clear_value s₃
    simp [s₄, s₂, s₁, h, h₃, this]
  split
  · exact h
  · simp [s₅, h₄]
@[simp] theorem execPtpSyncLoss_canon (dt m) (h : s.canonical = true) : EndsCanon (execPtpSyncLoss dt m s) := by
  unfold execPtpSyncLoss; simp [h]
@[simp] theorem execPtpInterval_canon (dt m msg ptp) (h : s.canonical = true) : EndsCanon (execPtpInterval dt m msg ptp s) := by
  unfold execPtpInterval; split <;> simp [h]
@[simp] theorem execPpsPulse_canon (dt m) (h : s.canonical = true) : EndsCanon (execPpsPulse dt m s) := by unfold execPpsPulse; simp [h]
@[simp] theorem rxStore_canon (m hosts b) : KeepsCanon s (s.rxStore m hosts b) := .of fun h => by
  dsimp only [State.rxStore]; (repeat' split) <;> simp [h]
@[simp] theorem execTsnFrameRx_canon (dt m frame ptp avtp hosts) (h : s.canonical = true) :
    EndsCanon (execTsnFrameRx dt m frame ptp avtp hosts s) := by
  dsimp only [execTsnFrameRx]; (repeat' split) <;> simp [h]
@[simp] theorem tsnLink_canon (m up rate) : KeepsCanon s (s.tsnLink m up rate) := .of fun h => by unfold State.tsnLink; simp [h]
@[simp] theorem tsnDown_canon (m) : KeepsCanon s (s.tsnDown m) := .of fun h => by unfold State.tsnDown; simp [h]
@[simp] theorem execTsnEnable_canon (dt r m v) (h : s.canonical = true) : EndsCanon (execTsnEnable dt r m v s) := by
  unfold execTsnEnable; simp [h]
@[simp] theorem execTsnLink_canon (dt m up rate) (h : s.canonical = true) : EndsCanon (execTsnLink dt m up rate s) := by
  unfold execTsnLink; simp [h]
@[simp] theorem execTsnMdioCmd_canon (dt r m v) (h : s.canonical = true) : EndsCanon (execTsnMdioCmd dt r m v s) := by
  unfold execTsnMdioCmd; simp [h]
@[simp] theorem execMdioDone_canon (dt m data) (h : s.canonical = true) : EndsCanon (execMdioDone dt m data s) := by
  unfold execMdioDone; simp [h]
@[simp] theorem mSlot_canon (n f) : KeepsCanon s (s.mSlot n f) := .of fun h => by unfold State.mSlot; simp [h]
@[simp] theorem execRecApply_canon (dt n) (h : s.canonical = true) : EndsCanon (execRecApply dt n s) := by unfold execRecApply; simp [h]
@[simp] theorem recClear_canon (n clearer) : KeepsCanon s (s.recClear n clearer) := .of fun h => by unfold State.recClear; simp [h]
@[simp] theorem execRecClear_canon (dt r view v) (h : s.canonical = true) : EndsCanon (execRecClear dt r view v s) := by
  unfold execRecClear; split <;> simp [h]
@[simp] theorem execRecSlotCfgWrite_canon (dt r n v) (h : s.canonical = true) : EndsCanon (execRecSlotCfgWrite dt r n v s) := by
  unfold execRecSlotCfgWrite; split <;> simp [h]
@[simp] theorem execCntValueWrite_canon (dt r i v inc) (h : s.canonical = true) : EndsCanon (execCntValueWrite dt r i v inc s) := by
  unfold execCntValueWrite; simp [h]
@[simp] theorem execCounterWrap_canon (dt i n) (h : s.canonical = true) : EndsCanon (execCounterWrap dt i n s) := by
  unfold execCounterWrap; simp [h]
@[simp] theorem smpLoad_canon (m) : KeepsCanon s (s.smpLoad m) := .of fun h => by unfold State.smpLoad; simp [h]
@[simp] theorem execSmpEnable_canon (dt r m v) (h : s.canonical = true) : EndsCanon (execSmpEnable dt r m v s) := by
  unfold execSmpEnable; simp [h]
@[simp] theorem execSmpSeedWrite_canon (dt r m v) (h : s.canonical = true) : EndsCanon (execSmpSeedWrite dt r m v s) := by
  unfold execSmpSeedWrite; simp [h]

@[simp] theorem execSampleRecord_canon (dt m g) (h : s.canonical = true) : EndsCanon (execSampleRecord dt m g s) := by
  dsimp only [execSampleRecord]
  split
  · simp [h]
  split
  · simp [h]
  split
  · simp [h]
  split <;> next hs => simp [h, snd_eq hs]

end Sys2Proof.Machine
end

section
/-!
PROOFS. Canonical memory: domains, regulators, the power budget and register access.
-/
namespace Sys2Proof.Machine

@[simp] theorem ends_ite_iff {c : Prop} [Decidable c] (a b : Host.Outcome State Fault Refusal) :
    EndsCanon (if c then a else b) ↔ if c then EndsCanon a else EndsCanon b := by
  split <;> rfl

variable (s : State)

@[simp] theorem setHealth_canon (u st) : KeepsCanon s (s.setHealth u st) := .of fun h => by
  dsimp only [State.setHealth]; (repeat' split) <;> simp [h]
@[simp] theorem clusterDrop_canon (c) : KeepsCanon s (s.clusterDrop c) := .of fun h => by unfold State.clusterDrop; simp [h]
@[simp] theorem renderDrop_canon : KeepsCanon s s.renderDrop := .of fun h => by
  refine (foldl_canon _ _ _ fun t c ht => ?_).canonical h
  split <;> simp [ht]
@[simp] theorem dcuDrop_canon (u) : KeepsCanon s (s.dcuDrop u) := .of fun h => by fun_cases State.dcuDrop <;> simp [h]
@[simp] theorem dpDrop_canon (port) : KeepsCanon s (s.dpDrop port) := .of fun h => by unfold State.dpDrop; simp [h]
@[simp] theorem dsiDrop_canon (port) : KeepsCanon s (s.dsiDrop port) := .of fun h => by unfold State.dsiDrop; simp [h]
@[simp] theorem xlateDrop_canon : KeepsCanon s s.xlateDrop := .of fun h => by fun_cases State.xlateDrop <;> simp [h]
@[simp] theorem swrDrop_canon (m) : KeepsCanon s (s.swrDrop m) := .of fun h => by unfold State.swrDrop; simp [h]
@[simp] theorem unitAbandon_canon (u) : KeepsCanon s (s.unitAbandon u) := .of fun h => by
  fun_cases State.unitAbandon <;> simp +contextual [h]
@[simp] theorem regsCut_canon (lo hi) : KeepsCanon s (s.regsCut lo hi) := .of id
@[simp] theorem pipesCut_canon (first) : KeepsCanon s (s.pipesCut first) := .of fun h => by unfold State.pipesCut; simp +contextual [h]
@[simp] theorem portsCut_canon (first) : KeepsCanon s (s.portsCut first) := .of fun h => by unfold State.portsCut; simp +contextual [h]

theorem memTcut_canon (lo hi) : KeepsCanon s { s with mem := tcut s.mem lo hi } := .of fun h => by
  rw [canonical_iff] at h ⊢
  exact ⟨twf_tcut h.1 _ _, h.2⟩
@[simp] theorem domainLost_canon (d) : KeepsCanon s (s.domainLost d) := .of fun h => by
  unfold State.domainLost
  split
  · exact (memTcut_canon (s.mPip fun _ => {}) _ _).canonical (by simp [h])
  · simp +contextual [h]
  · simp [h]
  · simp [h]
  · simp [h]
  · simp [h]
  · simp [h]
  · exact (memTcut_canon ..).canonical h
  · exact (memTcut_canon ..).canonical h
  · simp [h]
  · simp +contextual [h]
  · simp [h]
  · exact h
@[simp] theorem setDomain_canon (d v) : KeepsCanon s (s.setDomain d v) := .of fun h => by unfold State.setDomain; simp [h]
@[simp] theorem domainOff_canon (d) : KeepsCanon s (s.domainOff d) := .of fun h => by unfold State.domainOff; simp +contextual [h]
@[simp] theorem unitStop_canon (u st why) : KeepsCanon s (s.unitStop u st why) := .of fun h => by unfold State.unitStop; simp [h]
@[simp] theorem domainResult_canon (d st) : KeepsCanon s (s.domainResult d st) := .of fun h => by unfold State.domainResult; simp [h]
@[simp] theorem domainSettle_canon (d) : KeepsCanon s (s.domainSettle d) := .of fun h => by
  unfold State.domainSettle; (repeat' split) <;> simp [h]
@[simp] theorem powerAsk_canon (u q) : KeepsCanon s (s.powerAsk u q) := .of fun h => by fun_cases State.powerAsk <;> simp [h]
@[simp] theorem execUifPowerReq_canon (dt r u q) (h : s.canonical = true) : EndsCanon (execUifPowerReq dt r u q s) := by
  dsimp only [execUifPowerReq]; (repeat' split) <;> simp +contextual [h]
@[simp] theorem execUifPowerDone_canon (dt u) (h : s.canonical = true) : EndsCanon (execUifPowerDone dt u s) := by
  unfold execUifPowerDone; simp [h]
@[simp] theorem unitReset_canon (u) : KeepsCanon s (s.unitReset u) := .of fun h => by unfold State.unitReset; simp [h]
@[simp] theorem execUifResetGo_canon (dt r u) (h : s.canonical = true) : EndsCanon (execUifResetGo dt r u s) := by
  dsimp only [execUifResetGo]; (repeat' split) <;> simp +contextual [h]
@[simp] theorem resetDone_canon (u) : KeepsCanon s (s.resetDone u) := .of fun h => by
  dsimp only [State.resetDone]; (repeat' split) <;> simp [h]
@[simp] theorem execUifResetDone_canon (dt u) (h : s.canonical = true) : EndsCanon (execUifResetDone dt u s) := by
  unfold execUifResetDone; simp [h]
@[simp] theorem directoryChange_canon (u spare) : KeepsCanon s (s.directoryChange u spare) := .of fun h => by
  unfold State.directoryChange; (repeat' split) <;> simp [h]
@[simp] theorem execDirectoryChange_canon (dt u spare) (h : s.canonical = true) : EndsCanon (execDirectoryChange dt u spare s) := by
  unfold execDirectoryChange; split <;> simp [h]
@[simp] theorem powerDenied_canon : KeepsCanon s s.powerDenied := .of fun h => by unfold State.powerDenied; simp [h]
@[simp] theorem execPowerDomCtrlWrite_canon (dt r d v) (h : s.canonical = true) : EndsCanon (execPowerDomCtrlWrite dt r d v s) := by
  unfold execPowerDomCtrlWrite; simp [h]
@[simp] theorem execDomainAutoDrop_canon (dt d idle waits) (h : s.canonical = true) : EndsCanon (execDomainAutoDrop dt d idle waits s) := by
  unfold execDomainAutoDrop; simp [h]
@[simp] theorem rampStart_canon : KeepsCanon s s.rampStart := .of fun h => by fun_cases State.rampStart <;> simp [h]
@[simp] theorem execDomainRampStart_canon (dt work) (h : s.canonical = true) : EndsCanon (execDomainRampStart dt work s) := by
  unfold execDomainRampStart; simp +contextual [h]
@[simp] theorem execDomainPowerGood_canon (dt d) (h : s.canonical = true) : EndsCanon (execDomainPowerGood dt d s) := by
  unfold execDomainPowerGood; simp [h]
@[simp] theorem domainUp_canon (d) : KeepsCanon s (s.domainUp d) := .of fun h => by
  dsimp only [State.domainUp]; (repeat' split) <;> simp +contextual [h]
@[simp] theorem execDomainFault_canon (dt d) (h : s.canonical = true) : EndsCanon (execDomainFault dt d s) := by
  dsimp only [execDomainFault]; (repeat' split) <;> simp +contextual [h]
@[simp] theorem setPhase_canon (p v) : KeepsCanon s (s.setPhase p v) := .of fun h => by unfold State.setPhase; simp [h]
@[simp] theorem railNote_canon (r mv) : KeepsCanon s (s.railNote r mv) := .of fun h => by unfold State.railNote; simp [h]

@[simp] theorem execVrPhaseUpdate_canon (dt rail amps mv phases) (h : s.canonical = true) :
    EndsCanon (execVrPhaseUpdate dt rail amps mv phases s) := by
  unfold execVrPhaseUpdate
  extract_lets s₁ s₂ mine s₃ usable ilim least n active since set
  have h₁ : s₁.canonical = true := by simp [s₁, h]
  have h₂ : s₂.canonical = true := by simp [s₂, h₁]
  have h₃ : s₃.canonical = true := (foldl_canon _ _ _ fun t x ht => by simp [ht]).canonical h₂
  have hset : ∀ t k, t.canonical = true → (set t k).canonical = true := fun t k ht =>
    (foldl_canon _ _ _ fun u x hu => by simp [hu]).canonical ht
  clear_value s₃ set
  simp [h₃, hset]
@[simp] theorem vrFault_canon (why phase rail) : KeepsCanon s (s.vrFault why phase rail) := .of fun h => by unfold State.vrFault; simp [h]
@[simp] theorem execStageOvertemp_canon (dt p temp) (h : s.canonical = true) : EndsCanon (execStageOvertemp dt p temp s) := by
  unfold execStageOvertemp; simp [h]
@[simp] theorem execStageCooled_canon (dt p temp) (h : s.canonical = true) : EndsCanon (execStageCooled dt p temp s) := by
  unfold execStageCooled; simp [h]
@[simp] theorem execVrSenseLost_canon (dt p) (h : s.canonical = true) : EndsCanon (execVrSenseLost dt p s) := by
  unfold execVrSenseLost; simp [h]
@[simp] theorem execSupplyDroop_canon (dt rail mv) (h : s.canonical = true) : EndsCanon (execSupplyDroop dt rail mv s) := by
  unfold execSupplyDroop; simp [h]
@[simp] theorem execDroopEnd_canon (dt rail mv) (h : s.canonical = true) : EndsCanon (execDroopEnd dt rail mv s) := by
  unfold execDroopEnd; simp [h]
@[simp] theorem execRailOverVoltage_canon (dt rail mv) (h : s.canonical = true) : EndsCanon (execRailOverVoltage dt rail mv s) := by
  dsimp only [execRailOverVoltage]; (repeat' split) <;> simp +contextual [h]
@[simp] theorem railClear_canon (rail) : KeepsCanon s (s.railClear rail) := .of fun h => by unfold State.railClear; simp +contextual [h]
@[simp] theorem execVrCtrlClear_canon (dt r v) (h : s.canonical = true) : EndsCanon (execVrCtrlClear dt r v s) := by
  unfold execVrCtrlClear; simp [h]
@[simp] theorem emitSecure_canon (kind st detail) : KeepsCanon s (s.emitSecure kind st detail) := .of fun h => by
  unfold State.emitSecure; simp [h]
@[simp] theorem tripOff_canon (d) : KeepsCanon s (s.tripOff d) := .of fun h => by unfold State.tripOff; simp [h]
@[simp] theorem trip_canon (d t) : KeepsCanon s (s.trip d t) := .of fun h => by
  dsimp only [State.trip]; (repeat' split) <;> simp +contextual [h]
@[simp] theorem capDomain_canon (d) : KeepsCanon s (s.capDomain d) := .of fun h => by
  dsimp only [State.capDomain]; (repeat' split) <;> simp +contextual [h]
@[simp] theorem tripDomain_canon (d) : KeepsCanon s (s.tripDomain d) := .of fun h => by
  unfold State.tripDomain; (repeat' split) <;> simp [h]
@[simp] theorem execSensorRead_canon (dt readings) (h : s.canonical = true) : EndsCanon (execSensorRead dt readings s) := by
  dsimp only [execSensorRead]; (repeat' split) <;> simp +contextual [h]
@[simp] theorem execThermalClear_canon (dt d) (h : s.canonical = true) : EndsCanon (execThermalClear dt d s) := by
  unfold execThermalClear; simp [h]
@[simp] theorem execClaimLost_canon (dt d) (h : s.canonical = true) : EndsCanon (execClaimLost dt d s) := by
  unfold execClaimLost; simp +contextual [h]
@[simp] theorem clockEvent_canon (st cause) : KeepsCanon s (s.clockEvent st cause) := .of fun h => by unfold State.clockEvent; simp [h]
@[simp] theorem execReferenceLost_canon (dt cause ppm) (h : s.canonical = true) : EndsCanon (execReferenceLost dt cause ppm s) := by
  unfold execReferenceLost; simp [h]
@[simp] theorem execReferenceOk_canon (dt ppm) (h : s.canonical = true) : EndsCanon (execReferenceOk dt ppm s) := by
  unfold execReferenceOk; simp [h]
@[simp] theorem execClockReturn_canon (dt r v) (h : s.canonical = true) : EndsCanon (execClockReturn dt r v s) := by
  unfold execClockReturn; split <;> simp [h]
@[simp] theorem execSlowClockLost_canon (dt) (h : s.canonical = true) : EndsCanon (execSlowClockLost dt s) := by
  unfold execSlowClockLost; simp [h]
@[simp] theorem execSlowClockReturn_canon (dt) (h : s.canonical = true) : EndsCanon (execSlowClockReturn dt s) := by
  unfold execSlowClockReturn; simp [h]
@[simp] theorem execSleepRequest_canon (dt r v) (h : s.canonical = true) : EndsCanon (execSleepRequest dt r v s) := by
  unfold execSleepRequest; simp [h]
@[simp] theorem wakeBegin_canon (src) : KeepsCanon s (s.wakeBegin src) := .of fun h => by unfold State.wakeBegin; simp [h]
@[simp] theorem wakeFrom_canon (src) : KeepsCanon s (s.wakeFrom src) := .of fun h => by unfold State.wakeFrom; simp [h]
@[simp] theorem execWakePin_canon (dt) (h : s.canonical = true) : EndsCanon (execWakePin dt s) := by unfold execWakePin; simp [h]
@[simp] theorem execWakeTime_canon (dt) (h : s.canonical = true) : EndsCanon (execWakeTime dt s) := by
  dsimp only [execWakeTime]; (repeat' split) <;> simp [h]
@[simp] theorem wakeTouch_canon (e) : KeepsCanon s (s.wakeTouch e) := .of fun h => by unfold State.wakeTouch; simp [h]
@[simp] theorem execWakeScan_canon (dt readings) (h : s.canonical = true) : EndsCanon (execWakeScan dt readings s) := by
  unfold execWakeScan; simp +contextual [h]
@[simp] theorem execBudgetCapWrite_canon (dt r v) (h : s.canonical = true) : EndsCanon (execBudgetCapWrite dt r v s) := by
  unfold execBudgetCapWrite; simp [h]
@[simp] theorem oppSettle_canon (d) : KeepsCanon s (s.oppSettle d) := .of fun h => by unfold State.oppSettle; simp [h]
@[simp] theorem setPoint_canon (d p) : KeepsCanon s (s.setPoint d p) := .of fun h => by unfold State.setPoint; simp [h]
@[simp] theorem chargeEnergy_canon (m) : KeepsCanon s (s.chargeEnergy m) := .of fun h => by unfold State.chargeEnergy; simp +contextual [h]
@[simp] theorem noteHeld_canon : KeepsCanon s s.noteHeld := .of fun h => by unfold State.noteHeld; simp [h]
@[simp] theorem shareVi_canon (v) : KeepsCanon s (s.shareVi v) := .of fun h => by unfold State.shareVi; simp [h]
@[simp] theorem composeVi_canon (v) : KeepsCanon s (s.composeVi v) := .of fun h => by unfold State.composeVi; simp [h]
@[simp] theorem classNote_canon (c demand grant used) : KeepsCanon s (s.classNote c demand grant used) := .of fun h => by
  unfold State.classNote; simp [h]

@[simp] theorem execBudgetTick_canon (dt m) (h : s.canonical = true) : EndsCanon (execBudgetTick dt m s) := by
  unfold execBudgetTick
  extract_lets s₁ s₂ s₃ s₄ used total bank cold s₅ s₆ pavg cap th su limit plim e dw temps hot changed s₇ s₈ s₉ s₁₀ s₁₁ bad s₁₂ rem rem'
    cp clocks cd cg rem₁ ap rate old ad ag rem₂ ap' gp a s₁₃ s₁₄ s₁₅ s₁₆ s₁₇ s₁₈
  have h₄ : s₄.canonical = true := by simp +contextual [s₄, s₃, s₂, s₁, h]
  have h₆ : s₆.canonical = true := by simp +contextual [s₆, s₅, h₄]
  have h₁₁ : s₁₁.canonical = true := by simp [s₁₁, s₁₀, s₉, s₈, s₇, h₆]
  have h₁₂ : s₁₂.canonical = true := by
    dsimp only [s₁₂]
    split <;> simp [h₁₁]
  have h₁₅ : s₁₅.canonical = true := by simp +contextual [s₁₅, s₁₄, s₁₃, h₁₂]
  have h₁₈ : s₁₈.canonical = true := by simp +contextual [s₁₈, s₁₇, s₁₆, h₁₅]
  clear_value s₁₈
  simp +contextual [h₁₈]
@[simp] theorem budgeterLost_canon : KeepsCanon s s.budgeterLost := .of fun h => by fun_cases State.budgeterLost <;> simp [h]
@[simp] theorem execSafeBudgeting_canon (dt) (h : s.canonical = true) : EndsCanon (execSafeBudgeting dt s) := by
  unfold execSafeBudgeting; simp [h]
@[simp] theorem execDeratingEnd_canon (dt) (h : s.canonical = true) : EndsCanon (execDeratingEnd dt s) := by
  unfold execDeratingEnd; simp [h]

open Classical in
@[simp] theorem goOn_canon (o : Host.Outcome State Fault Refusal) :
    (goOn s o).canonical = if s.canonical ∧ EndsCanon o then true else (goOn s o).canonicalItself := by
  split
  · next h =>
    unfold goOn
    split
    · exact h.2 _ rfl
    · exact h.1
  · rfl
@[simp] theorem plain_canon (k v) : KeepsCanon s (s.plain k v) := .of fun h => by fun_cases State.plain <;> simp [h]
@[simp] theorem plain64_canon (k v) : KeepsCanon s (s.plain64 k v) := .of fun h => by unfold State.plain64; simp [h]
@[simp] theorem listOverride_canon (p v) : KeepsCanon s (s.listOverride p v) := .of fun h => by unfold State.listOverride; simp [h]
@[simp] theorem listCtrl_canon (r p v hosts) : KeepsCanon s (s.listCtrl r p v hosts) := .of fun h => by
  unfold State.listCtrl; (repeat' split) <;> simp [h]
@[simp] theorem execPipListCommit_canon (dt r p v hosts) (h : s.canonical = true) : EndsCanon (execPipListCommit dt r p v hosts s) := by
  unfold execPipListCommit; simp [h]
@[simp] theorem listWord_canon (r p o v) : KeepsCanon s (s.listWord r p o v) := .of fun h => by fun_cases State.listWord <;> simp [h]
@[simp] theorem evrStop_canon (w v) : KeepsCanon s (s.evrStop w v) := .of fun h => by unfold State.evrStop; simp [h]
@[simp] theorem winWord_canon (r w o v) : KeepsCanon s (s.winWord r w o v) := .of fun h => by
  fun_cases State.winWord <;> simp +zetaDelta [h]
@[simp] theorem winWide_canon (w o v) : KeepsCanon s (s.winWide w o v) := .of fun h => by unfold State.winWide; simp [h]
@[simp] theorem powerWord_canon (r k v) : KeepsCanon s (s.powerWord r k v) := .of fun h => by
  fun_cases State.powerWord <;> simp +zetaDelta [h]
@[simp] theorem huskWord_canon (r k n) : KeepsCanon s (s.huskWord r k n) := .of fun h => by unfold State.huskWord; simp [h]
@[simp] theorem vimgrWord_canon (r k n) : KeepsCanon s (s.vimgrWord r k n) := .of fun h => by
  unfold State.vimgrWord; simp [h, vimCmd_canon]
@[simp] theorem hullWord_canon (r n) : KeepsCanon s (s.hullWord r n) := .of fun h => by fun_cases State.hullWord <;> simp [h]
@[simp] theorem worldWord_canon (r k v) : KeepsCanon s (s.worldWord r k v) := .of fun h => by
  fun_cases State.worldWord <;> simp +zetaDelta [h]
@[simp] theorem memWord_canon (k v) : KeepsCanon s (s.memWord k v) := .of fun h => by unfold State.memWord; simp [h]
@[simp] theorem layerWord_canon (r k v) : KeepsCanon s (s.layerWord r k v) := .of fun h => by unfold State.layerWord; simp [h]
@[simp] theorem pipeWord_canon (r k v) : KeepsCanon s (s.pipeWord r k v) := .of fun h => by
  dsimp only [State.pipeWord]; (repeat' split) <;> simp [h]
@[simp] theorem renderWord_canon (k n) : KeepsCanon s (s.renderWord k n) := .of fun h => by
  dsimp only [State.renderWord]; (repeat' split) <;> simp [h]
@[simp] theorem checkWord_canon (r k v) : KeepsCanon s (s.checkWord r k v) := .of fun h => by
  fun_cases State.checkWord <;> simp +zetaDelta [h]
@[simp] theorem audioWord_canon (r k v) : KeepsCanon s (s.audioWord r k v) := .of fun h => by
  unfold State.audioWord; (repeat' split) <;> simp [h]
@[simp] theorem touchWord_canon (r k v) : KeepsCanon s (s.touchWord r k v) := .of fun h => by fun_cases State.touchWord <;> simp [h]
@[simp] theorem hapticWord_canon (r k v) : KeepsCanon s (s.hapticWord r k v) := .of fun h => by unfold State.hapticWord; simp [h]
@[simp] theorem recWord_canon (r k v) : KeepsCanon s (s.recWord r k v) := .of fun h => by fun_cases State.recWord <;> simp [h]
@[simp] theorem icvWord_canon (r k v) : KeepsCanon s (s.icvWord r k v) := .of fun h => by unfold State.icvWord; (repeat' split) <;> simp [h]
@[simp] theorem tsnWord_canon (r k v) : KeepsCanon s (s.tsnWord r k v) := .of fun h => by unfold State.tsnWord; (repeat' split) <;> simp [h]
@[simp] theorem pfWord_canon (r k v) : KeepsCanon s (s.pfWord r k v) := .of fun h => by unfold State.pfWord; simp [h]

theorem canon_ite {c : Prop} [Decidable c] {s t : State} (hs : s.canonical = true) (ht : t.canonical = true) :
    (if c then s else t).canonical = true := by
  split <;> assumption

@[simp] theorem pfWide_canon (r k v) : KeepsCanon s (s.pfWide r k v) := .of fun h => by
  unfold State.pfWide
  refine canon_ite (by simp [h]) (canon_ite ?_ ?_)
  · split <;> simp [h]
  · simp [h]
@[simp] theorem stage_canon (r k v) : KeepsCanon s (s.stage r k v) := .of id

@[simp] theorem putWide_canon (r k v) : KeepsCanon s (s.putWide r k v) := .of fun h => by
  dsimp only [State.putWide]
  split <;> split
  · exact (winWide_canon ..).canonical h
  · simp [h]
  · exact (pfWide_canon ..).canonical h
  · simp [h]
@[simp] theorem busWrite_canon (r addr v) : KeepsCanon s (s.busWrite r addr v) := .of fun h => by fun_cases State.busWrite <;> simp [h]

@[simp] theorem readClear_canon (r addr) : KeepsCanon s (s.readClear r addr) := .of fun h => by
  unfold State.readClear
  extract_lets k kept t
  split
  · exact h
  · exact h
@[simp] theorem fresh_canon (r addr) : KeepsCanon s (s.fresh r addr) := .of fun h => by fun_cases State.fresh <;> simp [h]

theorem setLatch_canon (l) : KeepsCanon s { s with latch := l } := .of id
@[simp] theorem busRead_canon (r addr) : KeepsCanon s (s.busRead r addr).2 := .of fun h => by
  unfold State.busRead
  extract_lets t key u x
  have ht : t.canonical = true := by simp [t, h]
  have hl : ∀ l, ({ t with latch := l } : State).canonical = true := fun l => (setLatch_canon t l).canonical ht
  have hx : x.canonical = true := by
    dsimp only [x]
    split
    · exact hl _
    · exact ht
  clear_value t x
  split
  · split
    · exact hl _
    · exact ht
  · simp [hx]
@[simp] theorem flashErase_canon (a n) : KeepsCanon s (s.flashErase a n) := .of fun h => by unfold State.flashErase; simp [h]
@[simp] theorem flashPut_canon (a bs) : KeepsCanon s (s.flashPut a bs) := .of fun h => by unfold State.flashPut; simp [h]

end Sys2Proof.Machine
end

section
/-!
PROOFS. Canonical memory: start, update, move and recovery.
-/
namespace Sys2Proof.Machine

variable (s : State)

@[simp] theorem flashFree_canon (a n) : KeepsCanon s (s.flashFree a n) := .of fun h => by unfold State.flashFree; simp [h]
@[simp] theorem flashCut_canon : KeepsCanon s s.flashCut := .of fun h => by dsimp only [State.flashCut]; (repeat' split) <;> simp [h]
@[simp] theorem failPin_canon (low) : KeepsCanon s (s.failPin low) := .of fun h => by unfold State.failPin; simp [h]

@[simp] theorem deviceReset_canon (sleep) : KeepsCanon s (s.deviceReset sleep) := .of fun h => by
  delta State.deviceReset
  extract_lets s₁ d r t t'
  obtain ⟨_, hh⟩ := canonical_iff.1 ((flashCut_canon s).canonical h)
  have ht : t.canonical = true := canonical_iff.2 ⟨twf_nil, hh⟩
  clear_value t
  simp [t', ht]
@[simp] theorem phaseTo_canon (v) : KeepsCanon s (s.phaseTo v) := .of fun h => by unfold State.phaseTo; simp [h]
@[simp] theorem startTo_canon (n) : KeepsCanon s (s.startTo n) := .of fun h => by unfold State.startTo; simp [h]
@[simp] theorem raiseAll_canon (a) : KeepsCanon s (s.raiseAll a) := .of fun h => by fun_induction State.raiseAll <;> simp_all
@[simp] theorem checkSlot_canon (k) : KeepsCanon s (s.checkSlot k) := .of fun h => by unfold State.checkSlot; simp [h]
@[simp] theorem takeSlot_canon (k) : KeepsCanon s (s.takeSlot k) := .of fun h => by unfold State.takeSlot; simp [h]
@[simp] theorem recovery_canon : KeepsCanon s s.recovery := .of fun h => by unfold State.recovery; simp [h]
@[simp] theorem leaveSlot_canon (kind st) : KeepsCanon s (s.leaveSlot kind st) := .of fun h => by
  dsimp only [State.leaveSlot]; (repeat' split) <;> simp [h]
@[simp] theorem recordFail_canon (kind st) : KeepsCanon s (s.recordFail kind st) := .of fun h => by unfold State.recordFail; simp [h]
@[simp] theorem listPut_canon (kind o v) : KeepsCanon s (s.listPut kind o v) := .of fun h => by unfold State.listPut; simp [h]

@[simp] theorem runList_canon (l) : KeepsCanon s (s.runList l) := .of fun h => by
  induction l generalizing s with
  | nil => simp [State.runList, h]
  | cons e es ih => unfold State.runList; simp [h, ih]
@[simp] theorem beginList_canon (kind es) : KeepsCanon s (s.beginList kind es) := .of fun h => by unfold State.beginList; simp [h]

@[simp] theorem loadFw_canon (kind ver) : KeepsCanon s (s.loadFw kind ver) := .of fun h => by
  unfold State.loadFw
  refine (foldl_canon _ _ _ fun t u ht => ?_).canonical h
  split
  · split <;> simp [ht]
  · exact ht
@[simp] theorem pipRuns_canon : KeepsCanon s s.pipRuns := .of fun h => by unfold State.pipRuns; simp [h]
@[simp] theorem pipOutputs_canon : KeepsCanon s s.pipOutputs := .of fun h => by unfold State.pipOutputs; simp +contextual [h]
@[simp] theorem phasesOn_canon : KeepsCanon s s.phasesOn := .of fun h => by unfold State.phasesOn; simp +contextual [h]
@[simp] theorem applyMemory_canon (b) : KeepsCanon s (s.applyMemory b) := .of fun h => by unfold State.applyMemory; simp [h]
@[simp] theorem applyHostio_canon (b) : KeepsCanon s (s.applyHostio b) := .of fun h => by unfold State.applyHostio; simp +contextual [h]

/-- A record's load keeps the memories canonical where what it does with the record's bytes does. -/
theorem useRecord_canon {s : State} (h : s.canonical = true) {kind next bad} {act : Bytes → Nat → State → State}
    (hact : ∀ b v t, t.canonical = true → (act b v t).canonical = true) : (s.useRecord kind next bad act).canonical = true := by
  unfold State.useRecord
  extract_lets t
  have ht : t.canonical = true := by simp [t, h]
  clear_value t
  split
  · simp [ht]
  · split <;> simp [ht, hact]
@[simp] theorem useList_canon (kind next) : KeepsCanon s (s.useList kind next) := .of fun h =>
  useRecord_canon h fun _ _ _ ht => by simp [ht]
@[simp] theorem retireStored_canon (mem page) : KeepsCanon s (s.retireStored mem page) := .of fun h => by
  unfold State.retireStored; simp [h]

/-- What the persistent settings read from the flash, or their absence, do (R594). -/
def State.psetLoaded (s : State) : Option (Nat × Bytes) → State
  | none => (s.mStart fun t => { t with pset := {} }).wb 0x00200000 23 false
  | some (seq, b) =>
    (psetOf b).pages.foldl (fun s x => s.retireStored x.1 x.2)
      (((s.mStart fun t => { t with pset := psetOf b }).wr64 0x00200058 seq).wb 0x00200000 23 true)

/-- An equation between functions: at an application the kernel would evaluate the areas of the flash. -/
theorem loadPset_def : State.loadPset = fun s => s.psetLoaded (s.areaBest 1) := by
  delta State.loadPset
  funext s
  generalize s.areaBest 1 = o
  cases o <;> rfl

@[simp] theorem psetLoaded_canon (o) : KeepsCanon s (s.psetLoaded o) := .of fun h => by
  unfold State.psetLoaded
  split
  · simp [h]
  · exact (foldl_canon _ _ _ fun t x ht => by simp [ht]).canonical (by simp [h])
@[simp] theorem loadPset_canon : KeepsCanon s s.loadPset := .of fun h => by
  rw [loadPset_def]
  exact (psetLoaded_canon s _).canonical h
@[simp] theorem startFault_canon (kind i) : KeepsCanon s (s.startFault kind i) := .of fun h => by fun_cases State.startFault <;> simp [h]
@[simp] theorem stackTest_canon : KeepsCanon s s.stackTest := .of fun h => by unfold State.stackTest; simp +contextual [h]

@[simp] theorem lpTrain_canon : KeepsCanon s s.lpTrain := .of fun h => by
  unfold State.lpTrain
  extract_lets n bad valid s₁ s₂
  have h₁ : s₁.canonical = true := by
    clear_value valid
    simp [s₁, h]
  have h₂ : s₂.canonical = true := by
    clear_value s₁
    simp +contextual [s₂, h₁]
  clear_value s₂
  simp [h₂]

@[simp] theorem markSpares_canon : KeepsCanon s s.markSpares := .of fun h => by
  unfold State.markSpares
  refine (foldl_canon _ _ _ fun t p ht => ?_).canonical h
  split <;> simp [ht]
@[simp] theorem huskRun_canon : KeepsCanon s s.huskRun := .of fun h => by unfold State.huskRun; simp [h]

theorem startOne_canon {s : State} (h : s.canonical = true) : ∀ t ∈ s.startOne, t.canonical = true := by
  unfold State.startOne
  split
  · dsimp only
    split <;> simp [h]
  split
  case h_2 =>
    extract_lets s₁ s₂
    have h₂ : s₂.canonical = true := by simp [s₂, s₁, h]
    clear_value s₂
    generalize (if s₂.rb 0x00200000 25 then s₂.activeSlot else none) = running
    generalize s₂.pickSlot = picked
    cases running
    · cases picked <;> simp [h₂]
    · dsimp only
      split <;> simp [h₂]
  all_goals simp +contextual [h, useRecord_canon]

@[simp] theorem startRun_canon (n) : KeepsCanon s (s.startRun n) := .of fun h => by
  induction n generalizing s with
  | zero => exact h
  | succ n ih =>
    unfold State.startRun
    split
    · next ht => simp [ih, startOne_canon h _ ht]
    · exact h
@[simp] theorem startGo_canon : KeepsCanon s s.startGo := .of fun h => by unfold State.startGo; simp [h]
@[simp] theorem startBegin_canon : KeepsCanon s s.startBegin := .of fun h => by unfold State.startBegin; simp +contextual [h]
@[simp] theorem coldStart_canon : KeepsCanon s s.coldStart := .of fun h => by dsimp only [State.coldStart]; (repeat' split) <;> simp [h]
@[simp] theorem warmStart_canon : KeepsCanon s s.warmStart := .of fun h => by dsimp only [State.warmStart]; (repeat' split) <;> simp [h]
@[simp] theorem execPwrgoodRise_canon (dt flash) (h : s.canonical = true) : EndsCanon (execPwrgoodRise dt flash s) := by
  dsimp only [execPwrgoodRise]; (repeat' split) <;> simp +contextual [h]
@[simp] theorem execPwrgoodFall_canon (dt) (h : s.canonical = true) : EndsCanon (execPwrgoodFall dt s) := by
  unfold execPwrgoodFall; simp [h]
@[simp] theorem execVddSafeLoss_canon (dt) (h : s.canonical = true) : EndsCanon (execVddSafeLoss dt s) := by
  unfold execVddSafeLoss; simp [h]
@[simp] theorem execVddSafeReturn_canon (dt) (h : s.canonical = true) : EndsCanon (execVddSafeReturn dt s) := by
  unfold execVddSafeReturn; simp [h]

@[simp] theorem execVddAonLoss_canon (dt) (h : s.canonical = true) : EndsCanon (execVddAonLoss dt s) := by
  delta execVddAonLoss
  extract_lets s₁ t u
  obtain ⟨hm, hh⟩ := canonical_iff.1 (show t.canonical = true by simp [t, s₁, h])
  clear_value t s₁
  have hu : u.canonical = true := canonical_iff.2 ⟨hm, hh⟩
  clear_value u
  simp [hu]
@[simp] theorem execVddAonReturn_canon (dt) (h : s.canonical = true) : EndsCanon (execVddAonReturn dt s) := by
  unfold execVddAonReturn; simp [h]
@[simp] theorem foundBad_canon (d defects) : KeepsCanon s (s.foundBad d defects) := .of fun h => by unfold State.foundBad; simp [h]
@[simp] theorem execDomainOn_canon (dt x) (h : s.canonical = true) : EndsCanon (execDomainOn dt x s) := by
  unfold execDomainOn; simp +contextual [h]
@[simp] theorem execStartFull_canon (dt) (h : s.canonical = true) : EndsCanon (execStartFull dt s) := by unfold execStartFull; simp [h]
@[simp] theorem execRailsOkRise_canon (dt) (h : s.canonical = true) : EndsCanon (execRailsOkRise dt s) := by
  unfold execRailsOkRise; simp [h]
@[simp] theorem psetNow_canon : KeepsCanon s (s.psetNow).2 := .of fun h => by dsimp only [State.psetNow]; (repeat' split) <;> simp [h]
@[simp] theorem askWrite_canon (area) : KeepsCanon s (s.askWrite area) := .of fun h => by unfold State.askWrite; simp [h]
@[simp] theorem nextWrite_canon : KeepsCanon s s.nextWrite := .of fun h => by fun_cases State.nextWrite <;> simp [h]
@[simp] theorem execPsetWriteDue_canon (dt) (h : s.canonical = true) : EndsCanon (execPsetWriteDue dt s) := by
  dsimp only [execPsetWriteDue]; (repeat' split) <;> simp [h]
@[simp] theorem execRecorderFlush_canon (dt) (h : s.canonical = true) : EndsCanon (execRecorderFlush dt s) := by
  dsimp only [execRecorderFlush]; (repeat' split) <;> simp [h]
@[simp] theorem writeFailed_canon (area) : KeepsCanon s (s.writeFailed area) := .of fun h => by unfold State.writeFailed; simp [h]
@[simp] theorem execNvmWrite_canon (dt ok) (h : s.canonical = true) : EndsCanon (execNvmWrite dt ok s) := by
  dsimp only [execNvmWrite]; (repeat' split) <;> simp [h]
@[simp] theorem startResult_canon (st) : KeepsCanon s (s.startResult st) := .of fun h => by unfold State.startResult; simp [h]

/-- A command of the start block keeps the memories canonical where what it does when allowed does. -/
theorem startCmd_canon {s : State} (h : s.canonical = true) {r check} {act : State → State}
    (hact : ∀ t, t.canonical = true → (act t).canonical = true) : (s.startCmd r check act).canonical = true := by
  unfold State.startCmd
  split
  · exact h
  · split <;> simp [h, hact]
@[simp] theorem execConfirm_canon (dt r) (h : s.canonical = true) : EndsCanon (execConfirm dt r s) :=
  (ends_next _).2 (startCmd_canon (by simp [h]) fun _ ht => by simp [ht])
@[simp] theorem execShutdown_canon (dt r) (h : s.canonical = true) : EndsCanon (execShutdown dt r s) :=
  (ends_next _).2 (startCmd_canon (by simp [h]) fun _ ht => by simp [ht])
@[simp] theorem execShutdownDone_canon (dt) (h : s.canonical = true) : EndsCanon (execShutdownDone dt s) := by
  unfold execShutdownDone; simp [h]
@[simp] theorem execPsetFlush_canon (dt r) (h : s.canonical = true) : EndsCanon (execPsetFlush dt r s) :=
  (ends_next _).2 (startCmd_canon (by simp [h]) fun _ ht => by simp [ht])
@[simp] theorem execStartCmdRestart_canon (dt r) (h : s.canonical = true) : EndsCanon (execStartCmdRestart dt r s) :=
  (ends_next _).2 (startCmd_canon (by simp [h]) fun _ ht => by simp [ht])
@[simp] theorem execClearMarks_canon (dt r) (h : s.canonical = true) : EndsCanon (execClearMarks dt r s) :=
  (ends_next _).2 (startCmd_canon (by simp [h]) fun _ ht => by simp [ht])
@[simp] theorem execHostOwnWrite_canon (dt r v) (h : s.canonical = true) : EndsCanon (execHostOwnWrite dt r v s) := by
  unfold execHostOwnWrite; simp [h]
@[simp] theorem nvmResult_canon (st) : KeepsCanon s (s.nvmResult st) := .of fun h => by unfold State.nvmResult; simp [h]
@[simp] theorem nvmCmd_canon (r op len) : KeepsCanon s (s.nvmCmd r op len) := .of fun h => by
  dsimp only [State.nvmCmd]; (repeat' split) <;> simp [h]
@[simp] theorem execNvmErase_canon (dt r len) (h : s.canonical = true) : EndsCanon (execNvmErase dt r len s) := by
  unfold execNvmErase; simp [h]
@[simp] theorem execNvmProgram_canon (dt r len) (h : s.canonical = true) : EndsCanon (execNvmProgram dt r len s) := by
  unfold execNvmProgram; simp [h]
@[simp] theorem execNvmRead_canon (dt r len) (h : s.canonical = true) : EndsCanon (execNvmRead dt r len s) := by
  unfold execNvmRead; simp [h]

@[simp] theorem execNvmCmdDone_canon (dt ok hosts) (h : s.canonical = true) : EndsCanon (execNvmCmdDone dt ok hosts s) := by
  unfold execNvmCmdDone
  extract_lets t u
  have ht : t.canonical = true := by simp [t, h]
  have hu : u.canonical = true := by simp [u, ht]
  clear_value t u
  split
  · simp [ht]
  split
  split
  next good v hv =>
  have hc : v.canonical = true := by
    rw [snd_eq hv]
    split
    · simp [hu]
    · split <;> next hf => simp [hu, snd_eq hf]
    · split <;> simp [hu]
  simp [hc]
@[simp] theorem divergedSet_canon : KeepsCanon s s.divergedSet := .of fun h => by unfold State.divergedSet; simp [h]
@[simp] theorem updResult_canon (st) : KeepsCanon s (s.updResult st) := .of fun h => by unfold State.updResult; simp [h]
@[simp] theorem updBegin_canon (o) : KeepsCanon s (s.updBegin o) := .of fun h => by unfold State.updBegin; simp [h]
@[simp] theorem updEnd_canon (st) : KeepsCanon s (s.updEnd st) := .of fun h => by unfold State.updEnd; simp [h]
@[simp] theorem updFail_canon (o st) : KeepsCanon s (s.updFail o st) := .of fun h => by unfold State.updFail; simp [h]
@[simp] theorem execLoad_canon (dt r u) (h : s.canonical = true) : EndsCanon (execLoad dt r u s) := by
  dsimp only [execLoad]; (repeat' split) <;> simp [h]
@[simp] theorem slotPut_canon (u ver) : KeepsCanon s (s.slotPut u ver) := .of fun h => by unfold State.slotPut; simp [h]

@[simp] theorem execUpdateLoaded_canon (dt hosts) (h : s.canonical = true) : EndsCanon (execUpdateLoaded dt hosts s) := by
  dsimp only [execUpdateLoaded]
  split
  · simp [h]
  split
  · simp [h]
  split
  · next hf => simp [h, snd_eq hf]
  next hf =>
  have ht := (snd_eq hf) ▸ (by simp [h] : (State.fetch ..).2.canonical = true)
  split
  · simp [ht]
  split
  · simp [ht]
  split <;> simp +contextual [ht]
@[simp] theorem setHusk_canon (b v) : KeepsCanon s (s.setHusk b v) := .of fun h => by unfold State.setHusk; simp [h]
@[simp] theorem setHand_canon (b v) : KeepsCanon s (s.setHand b v) := .of fun h => by unfold State.setHand; simp [h]
@[simp] theorem handOver_canon (r op u slot) : KeepsCanon s (s.handOver r op u slot) := .of fun h => by
  dsimp only [State.handOver]; (repeat' split) <;> simp +contextual [h]
@[simp] theorem execActivate_canon (dt r u) (h : s.canonical = true) : EndsCanon (execActivate dt r u s) := by unfold execActivate; simp [h]
@[simp] theorem execRevert_canon (dt r u) (h : s.canonical = true) : EndsCanon (execRevert dt r u s) := by unfold execRevert; simp [h]
@[simp] theorem pipHand_canon (p) : KeepsCanon s (s.pipHand p) := .of fun h => by fun_cases State.pipHand <;> simp [h]
@[simp] theorem handClear_canon (u) : KeepsCanon s (s.handClear u) := .of fun h => by
  dsimp only [State.handClear]; (repeat' split) <;> simp +contextual [h]
@[simp] theorem execHandoverDone_canon (dt pause) (h : s.canonical = true) : EndsCanon (execHandoverDone dt pause s) := by
  dsimp only [execHandoverDone]; (repeat' split) <;> simp +contextual [h]
@[simp] theorem execUpdateFailed_canon (dt) (h : s.canonical = true) : EndsCanon (execUpdateFailed dt s) := by
  dsimp only [execUpdateFailed]; (repeat' split) <;> simp [h]

@[simp] theorem execMove_canon (dt r u) (h : s.canonical = true) : EndsCanon (execMove dt r u s) := by
  have ht : (s.tick dt).canonical = true := by simp [h]
  dsimp only [execMove]
  split
  · simp [h]
  split
  · split
    · split
      · simp [h]
      · next hs => simp +contextual [placeStore_canon ht _ _ _ _ hs]
    · simp [h]
  · simp [h]
@[simp] theorem execSpareLockTimeout_canon (dt) (h : s.canonical = true) : EndsCanon (execSpareLockTimeout dt s) := by
  dsimp only [execSpareLockTimeout]; (repeat' split) <;> simp [h]
@[simp] theorem moveSwap_canon (p q o) : KeepsCanon s (s.moveSwap p q o) := .of fun h => by
  dsimp only [State.moveSwap]; (repeat' split) <;> simp [h]
@[simp] theorem moveDone_canon (p) : KeepsCanon s (s.moveDone p) := .of fun h => by fun_cases State.moveDone <;> simp [h]
@[simp] theorem execLatchPoint_canon (dt p hosts) (h : s.canonical = true) : EndsCanon (execLatchPoint dt p hosts s) := by
  unfold execLatchPoint; simp [h]
@[simp] theorem huskEvent_canon (kind st detail) : KeepsCanon s (s.huskEvent kind st detail) := .of fun h => by
  unfold State.huskEvent; simp [h]
@[simp] theorem restartNote_canon (cls u) : KeepsCanon s (s.restartNote cls u) := .of fun h => by unfold State.restartNote; simp [h]
@[simp] theorem giveUp_canon (u) : KeepsCanon s (s.giveUp u) := .of fun h => by unfold State.giveUp; simp [h]

/-- A restart keeps the memories canonical where the restart itself and the giving up do. -/
theorem restartOr_canon {s : State} (h : s.canonical = true) {cls u} {act stop : State → State}
    (hact : ∀ t, t.canonical = true → (act t).canonical = true) (hstop : ∀ t, t.canonical = true → (stop t).canonical = true) :
    (s.restartOr cls u act stop).canonical = true := by
  unfold State.restartOr
  split <;> simp [h, hact, hstop]
@[simp] theorem huskRestart_canon (b) : KeepsCanon s (s.huskRestart b) := .of fun h =>
  restartOr_canon h (fun _ ht => by simp [ht]) (fun _ ht => by simp [ht])
@[simp] theorem mgrReset_canon : KeepsCanon s s.mgrReset := .of fun h => by unfold State.mgrReset; simp +contextual [h]
@[simp] theorem outDegrade_canon (hosts p) : KeepsCanon s (s.outDegrade hosts p) := .of fun h => by unfold State.outDegrade; simp [h]
@[simp] theorem chimeWake_canon : KeepsCanon s s.chimeWake := .of fun h => by unfold State.chimeWake; simp [h]

@[simp] theorem degradedEnter_canon (hosts) : KeepsCanon s (s.degradedEnter hosts) := .of fun h => by
  delta State.degradedEnter
  extract_lets outs s₁ cfgs plls keep failed retry wait d held t m t₁ t₂ on t₃ t₄ t₅ t₆
  have h₁ : s₁.canonical = true := by simp +contextual [s₁, h]
  have ht : t.canonical = true := (deviceReset_canon s₁ false).canonical h₁
  clear_value s₁ t
  have hm : m.canonical = true := canonical_iff.2 ⟨twf_filter (canonical_iff.1 h₁).1 _, (canonical_iff.1 ht).2⟩
  clear_value m
  have h₂ : t₂.canonical = true := by simp +contextual [t₂, t₁, hm]
  clear_value t₂
  have h₃ : t₃.canonical = true := by simp +contextual [t₃, h₂]
  clear_value t₃
  have h₄ : t₄.canonical = true := by simp +contextual [t₄, h₃]
  clear_value t₄
  simp [t₆, t₅, h₄]
@[simp] theorem degradedReturn_canon : KeepsCanon s s.degradedReturn := .of fun h => by unfold State.degradedReturn; simp [h]
@[simp] theorem execDegradedRetry_canon (dt) (h : s.canonical = true) : EndsCanon (execDegradedRetry dt s) := by
  dsimp only [execDegradedRetry]; (repeat' split) <;> simp [h]
@[simp] theorem execStartTimeout_canon (dt hosts) (h : s.canonical = true) : EndsCanon (execStartTimeout dt hosts s) := by
  dsimp only [execStartTimeout]; (repeat' split) <;> simp [h]
@[simp] theorem setMissed_canon (b n) : KeepsCanon s (s.setMissed b n) := .of fun h => by unfold State.setMissed; simp [h]
@[simp] theorem execHuskHeartbeat_canon (dt b) (h : s.canonical = true) : EndsCanon (execHuskHeartbeat dt b s) := by
  unfold execHuskHeartbeat; simp [h]
@[simp] theorem execHuskBeatMissed_canon (dt b hosts) (h : s.canonical = true) : EndsCanon (execHuskBeatMissed dt b hosts s) := by
  dsimp only [execHuskBeatMissed]; (repeat' split) <;> simp [h]
@[simp] theorem execHuskLockstepMismatch_canon (dt b) (h : s.canonical = true) : EndsCanon (execHuskLockstepMismatch dt b s) := by
  unfold execHuskLockstepMismatch; simp [h]
@[simp] theorem execUnitFault_canon (dt u why) (h : s.canonical = true) : EndsCanon (execUnitFault dt u why s) := by
  unfold execUnitFault; simp [h]

@[simp] theorem execHuskUnitRecovery_canon (dt u) (h : s.canonical = true) : EndsCanon (execHuskUnitRecovery dt u s) := by
  have ht : (s.tick dt).canonical = true := by simp [h]
  dsimp only [execHuskUnitRecovery]
  split
  · simp [h]
  split
  · simp [h]
  · exact (ends_next _).2 (restartOr_canon ht (fun _ hu => by simp [hu]) fun _ hu => hu)
  · exact (ends_next _).2 (restartOr_canon ht (fun _ hu => by simp [hu]) fun _ hu => hu)
  · simp [h]
@[simp] theorem execManagerBeatMissed_canon (dt) (h : s.canonical = true) : EndsCanon (execManagerBeatMissed dt s) := by
  unfold execManagerBeatMissed
  refine ends_ite _ _ (by simp [h]) ((ends_next _).2 (restartOr_canon (by simp [h]) (fun _ ht => by simp [ht]) fun _ ht => ht))
@[simp] theorem domainGone_canon (d) : KeepsCanon s (s.domainGone d) := .of fun h => by unfold State.domainGone; simp +contextual [h]
@[simp] theorem domainRestart_canon (d) : KeepsCanon s (s.domainRestart d) := .of fun h => by
  unfold State.domainRestart; simp +contextual [h]
@[simp] theorem execDomainFaultRetry_canon (dt d) (h : s.canonical = true) : EndsCanon (execDomainFaultRetry dt d s) := by
  dsimp only [execDomainFaultRetry]; (repeat' split) <;> simp [h]
@[simp] theorem execRailRecovery_canon (dt rail) (h : s.canonical = true) : EndsCanon (execRailRecovery dt rail s) := by
  dsimp only [execRailRecovery]; (repeat' split) <;> simp +contextual [h]
@[simp] theorem execCriticalTemperature_canon (dt analog) (h : s.canonical = true) : EndsCanon (execCriticalTemperature dt analog s) := by
  dsimp only [execCriticalTemperature]; (repeat' split) <;> simp [h]
@[simp] theorem execThermtripRelease_canon (dt highest) (h : s.canonical = true) : EndsCanon (execThermtripRelease dt highest s) := by
  unfold execThermtripRelease; simp [h]
@[simp] theorem execSleepEntered_canon (dt) (h : s.canonical = true) : EndsCanon (execSleepEntered dt s) := by
  unfold execSleepEntered; simp +contextual [h]
@[simp] theorem pipReset_canon : KeepsCanon s s.pipReset := .of fun h => by unfold State.pipReset; simp [h]
@[simp] theorem execPipBeatMissed_canon (dt) (h : s.canonical = true) : EndsCanon (execPipBeatMissed dt s) := by
  unfold execPipBeatMissed; simp +contextual [h]
@[simp] theorem execPipLockstepMismatch_canon (dt store) (h : s.canonical = true) : EndsCanon (execPipLockstepMismatch dt store s) := by
  unfold execPipLockstepMismatch; simp [h]
@[simp] theorem execPipReloadDone_canon (dt) (h : s.canonical = true) : EndsCanon (execPipReloadDone dt s) := by
  dsimp only [execPipReloadDone]; (repeat' split) <;> simp [h]

end Sys2Proof.Machine
end

section
/-!
PROOFS. Canonical memory: the step (O5).
-/
namespace Sys2Proof.Machine

variable (s : State)

@[simp] theorem startWord_canon (r k v) : KeepsCanon s (s.startWord r k v) := .of fun h => by
  unfold State.startWord
  extract_lets n op u
  clear_value op u
  split
  · split <;> simp [h, startCmd_canon]
  · simp [h]
  · split <;> simp [h]
  · simp [h]
  · refine canon_ite (by simp [h]) ?_
    split <;> simp [h]
  · simp [h]
@[simp] theorem uifPut_canon (r u o v) : KeepsCanon s (s.uifPut r u o v) := .of fun h => by unfold State.uifPut; simp [h]
@[simp] theorem regWrite_canon (r addr v) : KeepsCanon s (s.regWrite r addr v) := .of fun h => by fun_cases State.regWrite <;> simp [h]
@[simp] theorem execRegisterWrite_canon (dt r addr v) (h : s.canonical = true) : EndsCanon (execRegisterWrite dt r addr v s) := by
  unfold execRegisterWrite; simp [h]
@[simp] theorem regRead_canon (r addr) : KeepsCanon s (s.regRead r addr) := .of fun h => (busRead_canon s r addr).canonical h
@[simp] theorem execRegisterReadClear_canon (dt r addr) (h : s.canonical = true) : EndsCanon (execRegisterReadClear dt r addr s) := by
  unfold execRegisterReadClear; simp [h]
@[simp] theorem execReadLowWord_canon (dt r addr) (h : s.canonical = true) : EndsCanon (execReadLowWord dt r addr s) := by
  unfold execReadLowWord; simp [h]
@[simp] theorem execWriteHighWord_canon (dt r addr v) (h : s.canonical = true) : EndsCanon (execWriteHighWord dt r addr v s) := by
  unfold execWriteHighWord; simp [h]
@[simp] theorem podLearn_canon (n i) : KeepsCanon s (s.podLearn n i) := .of fun h => by unfold State.podLearn; simp [h]
@[simp] theorem exportLost_canon (src handle) : KeepsCanon s (s.exportLost src handle) := .of fun h => by
  unfold State.exportLost; simp +contextual [h]
@[simp] theorem raccServe_canon (p src secure write addr v) : KeepsCanon s (s.raccServe p src secure write addr v) := .of fun h => by
  unfold State.raccServe; simp [h]
@[simp] theorem ctlAct_canon (p src a) : KeepsCanon s (s.ctlAct p src a) := .of fun h => by fun_cases State.ctlAct <;> simp [h]
@[simp] theorem execIcvControl_canon (dt p src tag msg crcOk) (h : s.canonical = true) : EndsCanon (execIcvControl dt p src tag msg crcOk s) := by
  unfold execIcvControl; split <;> simp [h]
theorem exec_canon (c) (h : s.canonical = true) : EndsCanon (exec c s) := by
  cases c <;> simp [exec, h]
@[simp] theorem withPending_canon (q) : KeepsCanon s (s.withPending q) := .of id

/-- Settles O5: every command keeps the memories in canonical form, by the lemma of the command at the front. -/
theorem stepKeepsCanonicalMemory : Obligations.StepKeepsCanonicalMemory := by
  unfold Obligations.StepKeepsCanonicalMemory
  intro s t h ht
  cases hp : s.pending with
  | nil =>
    rw [stepIdles s hp] at ht
    obtain rfl := Host.Outcome.next.inj ht
    exact h
  | cons c q =>
    rw [stepRunsFront c q s hp] at ht
    exact exec_canon _ c ((withPending_canon s q).canonical h) t ht

end Sys2Proof.Machine
end

section
/-!
PROOFS. The memory's upkeep: 64-bit counters, and what finding and retiring leave as it was (R86 to R92).
-/
namespace Sys2Proof.Machine

variable (s : State)

theorem exec_scrubChunk (dt mem : Nat) (errs : List (Nat × Bool)) : exec (.scrubChunk dt mem errs) s = execScrubChunk dt mem errs s := rfl
theorem exec_pageRetired (dt mem page : Nat) : exec (.pageRetired dt mem page) s = execPageRetired dt mem page s := rfl
theorem exec_lpddrDriftTrack (dt ch : Nat) : exec (.lpddrDriftTrack dt ch) s = execLpddrDriftTrack dt ch s := rfl
theorem exec_bwWindow (dt mem : Nat) (want : List Nat) : exec (.bwWindow dt mem want) s = execBwWindow dt mem want s := rfl
theorem exec_memBwClassWrite (dt mem c : Nat) (v : Word) : exec (.memBwClassWrite dt mem c v) s = execMemBwClassWrite dt mem c v s := rfl

/-- A 64-bit counter after an increment (R9). -/
theorem rd64_incr64 (k n : Nat) : (s.incr64 k n).rd64 k = (s.rd64 k + n) % 2 ^ 64 := by
  have hlow : k ≠ k + 4 := by omega
  rw [State.incr64, State.wr64]
  generalize s.rd64 k + n = v
  rw [State.rd64, State.rd_wr_ne _ hlow, State.rd_wr_same, State.rd_wr_same]
  omega

/-- The counters of errors and the marks of poisoned words are in `t` as in `s`. -/
structure KeepsErrors (s t : State) : Prop where
  counters : ∀ k, 0x00600020 ≤ k → k ≤ 0x0060002C → t.rd k = s.rd k
  poison : t.seed.poison = s.seed.poison

variable {s} {t : State}

theorem KeepsErrors.refl (s : State) : KeepsErrors s s := ⟨fun _ _ _ => rfl, rfl⟩

theorem KeepsErrors.rd64_ce (h : KeepsErrors s t) : t.rd64 0x00600020 = s.rd64 0x00600020 := by
  rw [State.rd64, State.rd64, h.counters _ (by decide) (by decide), h.counters _ (by decide) (by decide)]

theorem KeepsErrors.rd64_ue (h : KeepsErrors s t) : t.rd64 0x00600028 = s.rd64 0x00600028 := by
  rw [State.rd64, State.rd64, h.counters _ (by decide) (by decide), h.counters _ (by decide) (by decide)]

theorem KeepsErrors.wr (h : KeepsErrors s t) {k : Nat} (hk : k < 0x00600020 ∨ 0x0060002C < k) (v : Nat) : KeepsErrors s (t.wr k v) :=
  ⟨fun j hlo hhi => (t.rd_wr_ne (by omega)).trans (h.counters j hlo hhi), h.poison⟩

theorem KeepsErrors.mSeed (h : KeepsErrors s t) {f : Seed → Seed} (hf : (f t.seed).poison = t.seed.poison) : KeepsErrors s (t.mSeed f) :=
  ⟨h.counters, hf.trans h.poison⟩

theorem KeepsErrors.emitPf (h : KeepsErrors s t) (kind : Nat) (st : Status) (detail : Nat) : KeepsErrors s (t.emitPf kind st detail) :=
  ⟨fun k hlo hhi => (emitPf_rd t kind st detail k (by omega) (by rw [viReg, pfWin]; omega)).trans (h.counters k hlo hhi),
    (congrArg Seed.poison (emitPf_seed t kind st detail)).trans h.poison⟩

/-- A page's retirement begins, or the spares are found exhausted: no error is counted and no word poisoned (R92, R94). -/
theorem KeepsErrors.retirePage (h : KeepsErrors s t) (mem page : Nat) : KeepsErrors s (t.retirePage mem page) := by
  unfold State.retirePage
  split
  · exact h
  · dsimp only
    split
    · exact h.mSeed rfl
    · split
      · exact h
      · exact (h.mSeed rfl).emitPf _ _ _

/-- A correctable error is counted; beside that only suspects and a retirement change (R86, R90). -/
theorem ceFound_keepsErrors (s : State) (pa : Nat) : KeepsErrors (s.incr64 0x00600020 1) (s.ceFound pa) := by
  unfold State.ceFound
  extract_lets u mem page mine others old rest oldest rest' times v window th
  have hv : KeepsErrors u v := (KeepsErrors.refl u).mSeed rfl
  split
  · exact hv.retirePage _ _
  · exact hv

/-- An uncorrectable error is counted and its word poisoned; beside that its address, its event and a retirement (R87, R91). -/
theorem ueFound_keepsErrors (s : State) (pa cls w : Nat) :
    KeepsErrors ((s.mSeed fun m => { m with poison := tset false m.poison (pa / 8) true }).incr64 0x00600028 1) (s.ueFound pa cls w) := by
  unfold State.ueFound State.ueCount State.wr64
  exact ((((KeepsErrors.refl _).wr (by omega) _).wr (by omega) _).wr (by omega) _).emitPf _ _ _ |>.retirePage _ _

theorem scrubError_correctable (s : State) (mem base o : Nat) :
    s.scrubError mem base (o, false) = s.ceFound (mem * 2 ^ 60 + base + o % 2 ^ 21 / 8 * 8) := by
  simp [State.scrubError]

theorem scrubError_uncorrectable (s : State) (mem base o : Nat) :
    s.scrubError mem base (o, true) = s.ueFound (mem * 2 ^ 60 + base + o % 2 ^ 21 / 8 * 8) 7 0xFFFF := by
  simp [State.scrubError]

/-- A memory in service is scrubbed, LPDDR with inline ECC on (R89). -/
theorem scrub_goes {n mem : Nat} {u : State} (hn0 : n ≠ 0) (hecc : mem = 1 → u.rb 0x00600008 30 = true) :
    ¬ (n = 0 ∨ (mem = 1 ∧ ¬ u.rb 0x00600008 30)) := by
  rintro (h | ⟨h, hoff⟩)
  · exact hn0 h
  · exact hoff (hecc h)

/-- What a scrub read does after its error leaves it as it was found (R89). -/
theorem execScrubChunk_keepsErrors {dt mem n : Nat} {e : Nat × Bool} {s u : State} (hu : u = s.tick dt) (hn : n = u.scrubLength mem)
    (hn0 : n ≠ 0) (hecc : mem = 1 → u.rb 0x00600008 30 = true) :
    ∃ t, execScrubChunk dt mem [e] s = .next t ∧ KeepsErrors (u.scrubError mem (tget 0 u.seed.scrubPos mem % n * 2 ^ 21) e) t := by
  simp only [execScrubChunk, ← hu, ← hn, if_neg (scrub_goes hn0 hecc), List.foldl_cons, List.foldl_nil]
  split
  · exact ⟨_, rfl, (KeepsErrors.refl _).mSeed rfl⟩
  · exact ⟨_, rfl, (((KeepsErrors.refl _).mSeed rfl).wr (by omega) _).emitPf _ _ _⟩

end Sys2Proof.Machine
end

section
/-!
PROOFS. The division of a bandwidth window (R100, R101).
-/
namespace Sys2Proof.Machine

/-- The bytes of a list of grants together. -/
def grantSum (l : List (Nat × Nat)) : Nat := (l.map (·.2)).sum

@[simp] theorem grantSum_nil : grantSum [] = 0 := rfl
@[simp] theorem grantSum_cons (p : Nat × Nat) (l : List (Nat × Nat)) : grantSum (p :: l) = p.2 + grantSum l := rfl
@[simp] theorem grantSum_append (l m : List (Nat × Nat)) : grantSum (l ++ m) = grantSum l + grantSum m := by simp [grantSum]

theorem foldl_add_eq {α : Type} (f : α → Nat) (l : List α) (n : Nat) : l.foldl (fun n c => n + f c) n = n + (l.map f).sum := by
  induction l generalizing n with
  | nil => rfl
  | cons a l ih => rw [List.foldl_cons, ih, List.map_cons, List.sum_cons, Nat.add_assoc]

/-- The parts of `left` in proportion to the weights are together no more than `left`. -/
theorem parts_le (left : Nat) (cs : List (Nat × Nat × Nat)) {tw : Nat} (htw : tw = (cs.map (·.2.2)).sum) (h0 : tw ≠ 0) :
    (cs.map fun c => left * c.2.2 / tw).sum ≤ left := by
  have hmul : (cs.map fun c => left * c.2.2 / tw).sum * tw ≤ left * (cs.map (·.2.2)).sum := by
    clear htw
    induction cs with
    | nil => simp
    | cons c cs ih =>
      have := Nat.div_mul_le_self (left * c.2.2) tw
      simp only [List.map_cons, List.sum_cons, Nat.add_mul, Nat.mul_add]
      omega
  rw [← htw] at hmul
  exact Nat.le_of_mul_le_mul_right hmul (Nat.pos_of_ne_zero h0)

/-- A byte each to the first `rest` of `n` places adds no more than `rest`. -/
theorem extra_le (n rest : Nat) : ((List.range n).map fun i => b2n (decide (i < rest))).sum ≤ min n rest := by
  induction n with
  | zero => simp
  | succ n ih =>
    rw [List.range_succ, List.map_append, List.sum_append, List.map_singleton, List.sum_singleton]
    by_cases h : n < rest
    · have hone : b2n (decide (n < rest)) = 1 := by rw [decide_eq_true h]; rfl
      omega
    · have hzero : b2n (decide (n < rest)) = 0 := by rw [decide_eq_false h]; rfl
      omega

theorem sum_map_zip {α β : Type} (f : β → Nat) (g : α → Nat) {l : List α} {cs : List β} (h : l.length = cs.length) :
    ((l.zip cs).map fun c => f c.2 + g c.1).sum = (cs.map f).sum + (l.map g).sum := by
  have hsnd : (l.zip cs).map (fun c => f c.2) = cs.map f := by
    rw [← List.map_snd_zip (l₁ := l) (l₂ := cs) h.ge, List.map_map, List.map_snd_zip h.ge]; rfl
  have hfst : (l.zip cs).map (fun c => g c.1) = l.map g := by
    rw [← List.map_fst_zip (l₁ := l) (l₂ := cs) h.le, List.map_map, List.map_fst_zip h.le]; rfl
  rw [List.sum_map_add, hsnd, hfst]

/-- One round of `weigh` in which no class is content: the parts, and a byte each to the first classes of what rounding left (R101). -/
def roundOff (left tw : Nat) (cs : List (Nat × Nat × Nat)) : List (Nat × Nat) :=
  (List.range cs.length).zip cs |>.map fun c =>
    (c.2.1, left * c.2.2.2 / tw + b2n (decide (c.1 < left - (cs.map fun c => left * c.2.2 / tw).sum)))

/-- The classes that ask for no more than their part of `left`. -/
def contentClasses (left tw : Nat) (cs : List (Nat × Nat × Nat)) : List (Nat × Nat × Nat) := cs.filter fun c => c.2.1 ≤ left * c.2.2 / tw

theorem weigh_succ (fuel left : Nat) (cs : List (Nat × Nat × Nat)) {tw : Nat} (htw : tw = (cs.map (·.2.2)).sum) :
    weigh (fuel + 1) left cs =
      if tw = 0 then []
      else if contentClasses left tw cs = [] then roundOff left tw cs
      else (contentClasses left tw cs).map (fun c => (c.1, c.2.1)) ++
        weigh fuel (left - ((contentClasses left tw cs).map (·.2.1)).sum) (cs.filter fun c => ¬ c.2.1 ≤ left * c.2.2 / tw) := by
  subst htw
  rw [weigh, foldl_add_eq (fun c : Nat × Nat × Nat => c.2.2), Nat.zero_add]
  dsimp only
  rw [foldl_add_eq (fun c : Nat × Nat × Nat => left * c.2.2 / _), foldl_add_eq (fun c : Nat × Nat × Nat => c.2.1), Nat.zero_add, Nat.zero_add]
  rfl

theorem roundOff_sum_le (left : Nat) (cs : List (Nat × Nat × Nat)) {tw : Nat} (htw : tw = (cs.map (·.2.2)).sum) (h0 : tw ≠ 0) :
    grantSum (roundOff left tw cs) ≤ left := by
  have hparts := parts_le left cs htw h0
  have hextra := extra_le cs.length (left - (cs.map fun c => left * c.2.2 / tw).sum)
  rw [grantSum, roundOff, List.map_map]
  refine (sum_map_zip (fun c : Nat × Nat × Nat => left * c.2.2 / tw) (fun i => b2n (decide (i < _))) List.length_range).le.trans ?_
  omega

theorem contentClasses_sum_le (left : Nat) (cs : List (Nat × Nat × Nat)) {tw : Nat} (htw : tw = (cs.map (·.2.2)).sum) (h0 : tw ≠ 0) :
    ((contentClasses left tw cs).map (·.2.1)).sum ≤ left := by
  calc ((contentClasses left tw cs).map (·.2.1)).sum
      ≤ ((contentClasses left tw cs).map fun c => left * c.2.2 / tw).sum :=
        List.sum_le_sum fun c hc => by simpa using (List.mem_filter.1 hc).2
    _ ≤ (cs.map fun c => left * c.2.2 / tw).sum := (List.filter_sublist.map _).sum_le_sum fun _ _ => Nat.zero_le _
    _ ≤ left := parts_le left cs htw h0

/-- The weighted classes together get no more than what is left (R100). -/
theorem weigh_sum_le (fuel left : Nat) (cs : List (Nat × Nat × Nat)) : grantSum (weigh fuel left cs) ≤ left := by
  induction fuel generalizing left cs with
  | zero => exact Nat.zero_le _
  | succ fuel ih =>
    rw [weigh_succ fuel left cs rfl]
    split
    · exact Nat.zero_le _
    next h0 =>
    split
    · exact roundOff_sum_le left cs rfl h0
    · have hcontent := contentClasses_sum_le left cs rfl h0
      rw [grantSum_append, grantSum, List.map_map]
      exact (Nat.add_le_add_left (ih _ _) _).trans (Nat.add_sub_cancel' hcontent).le

/-- A weighted class gets no more than it asks for (R100). -/
theorem weigh_le_want (fuel left : Nat) (cs : List (Nat × Nat × Nat)) :
    ∀ p ∈ weigh fuel left cs, ∃ c ∈ cs, c.1 = p.1 ∧ p.2 ≤ c.2.1 := by
  induction fuel generalizing left cs with
  | zero => exact fun _ h => absurd h List.not_mem_nil
  | succ fuel ih =>
    intro p hp
    rw [weigh_succ fuel left cs rfl] at hp
    split at hp
    · exact absurd hp List.not_mem_nil
    split at hp
    next hsat =>
      obtain ⟨⟨i, c⟩, hc, rfl⟩ := List.mem_map.1 hp
      have hmem : c ∈ cs := (List.of_mem_zip hc).2
      have hmore : left * c.2.2 / (cs.map (·.2.2)).sum < c.2.1 := by
        simpa using List.filter_eq_nil_iff.1 hsat c hmem
      refine ⟨c, hmem, rfl, ?_⟩
      dsimp only
      have : ∀ b, b2n b ≤ 1 := by decide
      exact (Nat.add_le_add_left (this _) _).trans hmore
    · rcases List.mem_append.1 hp with hp | hp
      · obtain ⟨c, hc, rfl⟩ := List.mem_map.1 hp
        exact ⟨c, (List.mem_filter.1 hc).1, rfl, le_rfl⟩
      · obtain ⟨c, hc, h⟩ := ih _ _ p hp
        exact ⟨c, (List.mem_filter.1 hc).1, h⟩

/-- One class of weight 0 takes what it asks for of what is left (R100). -/
def giveLast (want : List Nat) (acc : Nat × List (Nat × Nat)) (c : Nat) : Nat × List (Nat × Nat) :=
  (acc.1 - min (want.getD c 0) acc.1, acc.2 ++ [(c, min (want.getD c 0) acc.1)])

theorem giveLast_sum (want l : List Nat) (acc : Nat × List (Nat × Nat)) :
    (l.foldl (giveLast want) acc).1 + grantSum (l.foldl (giveLast want) acc).2 = acc.1 + grantSum acc.2 := by
  induction l generalizing acc with
  | nil => rfl
  | cons c l ih =>
    rw [List.foldl_cons, ih, giveLast, grantSum_append, grantSum_cons, grantSum_nil]
    omega

theorem giveLast_le_want (want l : List Nat) (acc : Nat × List (Nat × Nat)) (hacc : ∀ p ∈ acc.2, p.2 ≤ want.getD p.1 0) :
    ∀ p ∈ (l.foldl (giveLast want) acc).2, p.2 ≤ want.getD p.1 0 := by
  induction l generalizing acc with
  | nil => exact hacc
  | cons c l ih =>
    refine ih _ fun p hp => ?_
    rcases List.mem_append.1 hp with hp | hp
    · exact hacc p hp
    · obtain rfl := List.mem_singleton.1 hp
      exact Nat.min_le_left _ _

/-- What the real-time class receives (R100). -/
def realTime (peak : Nat) (hard want : List Nat) : Nat := min (min (want.getD 0 0) (hard.getD 0 0 * 100)) peak

/-- What the display class receives (R100). -/
def scanoutPart (peak : Nat) (hard want : List Nat) : Nat :=
  min (min (want.getD 1 0) (hard.getD 1 0 * 100)) (peak - realTime peak hard want)

/-- The weighted classes that ask, with what they ask for. -/
def weightedAsks (weights want : List Nat) : List (Nat × Nat × Nat) :=
  (List.range 6).map (· + 2) |>.filterMap fun c =>
    if want.getD c 0 = 0 ∨ weights.getD c 0 = 0 then none else some (c, want.getD c 0, weights.getD c 0)

/-- What the weighted classes receive. -/
def weightedGrants (peak : Nat) (hard weights want : List Nat) : List (Nat × Nat) :=
  weigh 7 (peak - realTime peak hard want - scanoutPart peak hard want) (weightedAsks weights want)

/-- What is left for the classes of weight 0. -/
def leftLast (peak : Nat) (hard weights want : List Nat) : Nat :=
  peak - realTime peak hard want - scanoutPart peak hard want - grantSum (weightedGrants peak hard weights want)

/-- The classes of weight 0 that ask. -/
def lastAsks (weights want : List Nat) : List Nat :=
  (List.range 6).map (· + 2) |>.filter fun c => want.getD c 0 ≠ 0 ∧ weights.getD c 0 = 0

theorem bwDivide_eq (peak : Nat) (hard weights want : List Nat) :
    bwDivide peak hard weights want =
      (0, realTime peak hard want) :: (1, scanoutPart peak hard want) :: (weightedGrants peak hard weights want
        ++ ((lastAsks weights want).foldl (giveLast want) (leftLast peak hard weights want, [])).2) := by
  have hused : (weightedGrants peak hard weights want).foldl (fun n c => n + c.2) 0 = grantSum (weightedGrants peak hard weights want) :=
    (foldl_add_eq _ _ _).trans (Nat.zero_add _)
  rw [leftLast, ← hused]
  rfl

/-- All classes together receive no more than the peak (R100). -/
theorem bwDivide_sum_le (peak : Nat) (hard weights want : List Nat) : grantSum (bwDivide peak hard weights want) ≤ peak := by
  have hlast := giveLast_sum want (lastAsks weights want) (leftLast peak hard weights want, [])
  have hweighted : grantSum (weightedGrants peak hard weights want) ≤ _ := weigh_sum_le _ _ _
  have hreal : realTime peak hard want ≤ peak := Nat.min_le_right _ _
  have hscan : scanoutPart peak hard want ≤ peak - realTime peak hard want := Nat.min_le_right _ _
  rw [bwDivide_eq, grantSum_cons, grantSum_cons, grantSum_append]
  rw [grantSum_nil, leftLast] at hlast
  dsimp only at hlast ⊢
  rw [leftLast]
  omega

/-- No class receives more than it asks for (R100). -/
theorem bwDivide_le_want (peak : Nat) (hard weights want : List Nat) : ∀ p ∈ bwDivide peak hard weights want, p.2 ≤ want.getD p.1 0 := by
  rw [bwDivide_eq]
  intro p hp
  rcases List.mem_cons.1 hp with rfl | hp
  · exact (Nat.min_le_left _ _).trans (Nat.min_le_left _ _)
  rcases List.mem_cons.1 hp with rfl | hp
  · exact (Nat.min_le_left _ _).trans (Nat.min_le_left _ _)
  rcases List.mem_append.1 hp with hp | hp
  · obtain ⟨c, hc, hcp, hle⟩ := weigh_le_want _ _ _ p hp
    obtain ⟨k, -, hk⟩ := List.mem_filterMap.1 hc
    split at hk
    · cases hk
    · obtain rfl := Option.some.inj hk
      exact hcp ▸ hle
  · exact giveLast_le_want want _ _ (fun q hq => absurd hq List.not_mem_nil) p hp

/-- What a list of grants gives a class. -/
def grantOf (l : List (Nat × Nat)) (c : Nat) : Nat := ((l.find? fun g => g.1 == c).map (·.2)).getD 0

theorem grantOf_cons (p : Nat × Nat) (l : List (Nat × Nat)) (c : Nat) : grantOf (p :: l) c = if p.1 = c then p.2 else grantOf l c := by
  rw [grantOf, List.find?_cons]
  by_cases h : p.1 = c
  · simp [h]
  · rw [if_neg h, beq_false_of_ne h]; rfl

theorem grantOf_le {l : List (Nat × Nat)} {want : List Nat} (h : ∀ p ∈ l, p.2 ≤ want.getD p.1 0) (c : Nat) : grantOf l c ≤ want.getD c 0 := by
  induction l with
  | nil => exact Nat.zero_le _
  | cons p l ih =>
    rw [grantOf_cons]
    split
    · next hp => exact hp ▸ h p List.mem_cons_self
    · exact ih fun q hq => h q (List.mem_cons_of_mem _ hq)

/-- What the classes below `n` are given is part of all that is given. -/
theorem sum_grantOf_le (n : Nat) (l : List (Nat × Nat)) : ∑ c ∈ Finset.range n, grantOf l c ≤ grantSum l := by
  induction l with
  | nil => simp [grantOf]
  | cons p l ih =>
    calc ∑ c ∈ Finset.range n, grantOf (p :: l) c
        ≤ ∑ c ∈ Finset.range n, ((if p.1 = c then p.2 else 0) + grantOf l c) :=
          Finset.sum_le_sum fun c _ => by rw [grantOf_cons]; split <;> omega
      _ = (∑ c ∈ Finset.range n, if p.1 = c then p.2 else 0) + ∑ c ∈ Finset.range n, grantOf l c := Finset.sum_add_distrib
      _ ≤ p.2 + grantSum l := Nat.add_le_add (by rw [Finset.sum_ite_eq]; split <;> omega) ih

/-- Reading a run of keys that were all written. -/
theorem tget_foldl_tset (f : Nat → Nat) (m : Tbl Nat) (b n j : Nat) :
    tget 0 ((List.range n).foldl (fun t c => tset 0 t (b + c) (f c)) m) (b + j) = if j < n then f j else tget 0 m (b + j) := by
  induction n with
  | zero => rfl
  | succ n ih =>
    rw [List.range_succ, List.foldl_append, List.foldl_cons, List.foldl_nil, tget_tset, ih]
    by_cases h : j = n
    · simp [h]
    · have hne : ¬ b + j = b + n := by omega
      rw [if_neg hne]
      by_cases hlt : j < n
      · rw [if_pos hlt, if_pos (by omega)]
      · rw [if_neg hlt, if_neg (by omega)]

end Sys2Proof.Machine
end

section
/-!
PROOFS. Fields of a register after a write, and the memory's upkeep (O14).
-/
namespace Sys2Proof.Machine

variable (s : State)

theorem rf_wf_low (k v : Nat) : (s.wf k 15 0 v).rf k 15 0 = v % 65536 := by
  have hlt := s.rd_lt k
  rw [State.rf, State.wf, State.rd_wr_same]
  simp only [setBits, bits]
  omega

theorem rf_wf_low_high (k v : Nat) : (s.wf k 15 0 v).rf k 31 16 = s.rf k 31 16 := by
  have hlt := s.rd_lt k
  rw [State.rf, State.rf, State.wf, State.rd_wr_same]
  simp only [setBits, bits]
  omega

theorem rf_wf_high (k v : Nat) : (s.wf k 31 16 v).rf k 31 16 = v % 65536 := by
  have hlt := s.rd_lt k
  rw [State.rf, State.wf, State.rd_wr_same]
  simp only [setBits, bits]
  omega

theorem rf_wf_high_low (k v : Nat) : (s.wf k 31 16 v).rf k 15 0 = s.rf k 15 0 := by
  have hlt := s.rd_lt k
  rw [State.rf, State.rf, State.wf, State.rd_wr_same]
  simp only [setBits, bits]
  omega

/-! ### The scrub -/

section
variable {dt mem n : Nat} {s u : State} (hu : u = s.tick dt) (hn : n = u.scrubLength mem) (hn0 : n ≠ 0)
  (hecc : mem = 1 → u.rb 0x00600008 30 = true)
include hu hn hn0 hecc

/-- A scrub read that meets no error (R89). -/
theorem scrubChunk_clean :
    exec (.scrubChunk dt mem []) s =
      if tget 0 u.seed.scrubPos mem % n + 1 < n then
        .next (u.mSeed fun m => { m with scrubPos := tset 0 m.scrubPos mem (tget 0 u.seed.scrubPos mem % n + 1) })
      else
        let t := (u.mSeed fun m => { m with scrubPos := tset 0 m.scrubPos mem 0 }).incr 0x00600018
        .next (t.emitPf 0x2C .ok (mem * 2 ^ 28 + bits (t.rd 0x00600018) 27 0)) := by
  rw [exec_scrubChunk]
  simp only [execScrubChunk, ← hu, ← hn, if_neg (scrub_goes hn0 hecc), List.foldl_nil]

theorem scrubChunk_next (hpos : tget 0 u.seed.scrubPos mem % n + 1 < n) :
    ∃ t : State, exec (.scrubChunk dt mem []) s = .next t ∧ tget 0 t.seed.scrubPos mem = tget 0 u.seed.scrubPos mem % n + 1
      ∧ Frame [.seed] [] u t := by
  rw [scrubChunk_clean hu hn hn0 hecc, if_pos hpos]
  exact ⟨_, rfl, by simp, (Frame.refl u _ _).mSeed (by simp) _⟩

theorem scrubChunk_passDone (hpos : tget 0 u.seed.scrubPos mem % n + 1 = n) :
    ∃ t : State, exec (.scrubChunk dt mem []) s = .next (t.emitPf 0x2C .ok (mem * 2 ^ 28 + bits (t.rd 0x00600018) 27 0))
      ∧ tget 0 t.seed.scrubPos mem = 0 ∧ t.rd 0x00600018 = (u.rd 0x00600018 + 1) % 2 ^ 32 ∧ Frame [.seed] [0x00600018] u t := by
  rw [scrubChunk_clean hu hn hn0 hecc, if_neg (by omega)]
  exact ⟨_, rfl, by simp [State.incr], State.rd_wr_same _ _ _, ((Frame.refl u _ _).mSeed (by simp) _).incr (by simp)⟩

theorem scrubChunk_correctable (o : Nat) :
    ∃ t : State, exec (.scrubChunk dt mem [(o, false)]) s = .next t ∧ t.rd64 0x00600020 = (u.rd64 0x00600020 + 1) % 2 ^ 64 := by
  obtain ⟨t, ht, hkeeps⟩ := execScrubChunk_keepsErrors (e := (o, false)) hu hn hn0 hecc
  rw [scrubError_correctable] at hkeeps
  exact ⟨t, ht, by rw [hkeeps.rd64_ce, (ceFound_keepsErrors u _).rd64_ce, rd64_incr64]⟩

theorem scrubChunk_uncorrectable {o : Nat} (ho : o < 2 ^ 21) :
    ∃ t : State, exec (.scrubChunk dt mem [(o, true)]) s = .next t ∧ t.rd64 0x00600028 = (u.rd64 0x00600028 + 1) % 2 ^ 64
      ∧ tget false t.seed.poison ((mem * 2 ^ 60 + tget 0 u.seed.scrubPos mem % n * 2 ^ 21 + o / 8 * 8) / 8) = true := by
  obtain ⟨t, ht, hkeeps⟩ := execScrubChunk_keepsErrors (e := (o, true)) hu hn hn0 hecc
  rw [scrubError_uncorrectable, Nat.mod_eq_of_lt ho] at hkeeps
  have hfound := ueFound_keepsErrors u (mem * 2 ^ 60 + tget 0 u.seed.scrubPos mem % n * 2 ^ 21 + o / 8 * 8) 7 0xFFFF
  refine ⟨t, ht, by rw [hkeeps.rd64_ue, hfound.rd64_ue, rd64_incr64]; rfl, ?_⟩
  rw [hkeeps.poison, hfound.poison]
  simp

end

/-! ### Retirement -/

/-- A page stands among the retired ones (R92). -/
def State.pageMoved (u : State) (mem page : Nat) (r : Retirement) : State :=
  u.mSeed fun m =>
    { m with retiring := m.retiring.filter (fun q => !(q.mem == mem && q.page == page)), retired := m.retired ++ [r],
             chunks := tmod {} m.chunks (mem * 2 ^ 20 + page / 512) fun c => { c with retired := min 31 (c.retired + 1) } }

/-- The count of a memory's retired pages raised (R93). -/
def State.pageCounted (t : State) (mem : Nat) : State := if mem = 0 then t.satf 0x0060001C 15 0 1 else t.satf 0x0060001C 31 16 1

/-- What PAGE_RETIRED leaves before its event (R92, R95). -/
def State.pageOut (u : State) (mem page : Nat) (r : Retirement) : State := ((u.pageMoved mem page r).pageCounted mem).psetChanged

theorem pageCounted_frame (t : State) (mem : Nat) :
    (t.pageCounted mem).seed = t.seed ∧ (t.pageCounted mem).start = t.start ∧ (t.pageCounted mem).now = t.now := by
  unfold State.pageCounted
  split <;> simp

theorem pageCounted_device (t : State) : (t.pageCounted 0).rf 0x0060001C 15 0 = min (t.rf 0x0060001C 15 0 + 1) 65535
    ∧ (t.pageCounted 0).rf 0x0060001C 31 16 = t.rf 0x0060001C 31 16 := by
  rw [State.pageCounted, if_pos rfl, State.satf, satAdd]
  refine ⟨(rf_wf_low ..).trans (Nat.mod_eq_of_lt ?_), rf_wf_low_high ..⟩
  omega

theorem pageCounted_other (t : State) {mem : Nat} (h : mem ≠ 0) :
    (t.pageCounted mem).rf 0x0060001C 31 16 = min (t.rf 0x0060001C 31 16 + 1) 65535
    ∧ (t.pageCounted mem).rf 0x0060001C 15 0 = t.rf 0x0060001C 15 0 := by
  rw [State.pageCounted, if_neg h, State.satf, satAdd]
  refine ⟨(rf_wf_high ..).trans (Nat.mod_eq_of_lt ?_), rf_wf_high_low ..⟩
  omega

section
variable {dt mem page : Nat} {r : Retirement} {s u : State}

theorem pageRetired_out (hu : u = s.tick dt) (hr : (u.seed.retiring.find? fun r => r.mem == mem && r.page == page) = some r) :
    exec (.pageRetired dt mem page) s = .next ((u.pageOut mem page r).emitPf 0x2A .ok (mem * 2 ^ 28 + page)) := by
  rw [exec_pageRetired]
  simp only [execPageRetired, ← hu, hr]
  rfl

theorem pageOut_seed (u : State) (mem page : Nat) (r : Retirement) : (u.pageOut mem page r).seed = (u.pageMoved mem page r).seed :=
  (pageCounted_frame _ mem).1

theorem pageOut_retiring : ∀ q ∈ (u.pageOut mem page r).seed.retiring, ¬ (q.mem = mem ∧ q.page = page) := by
  rintro q hq ⟨hmem, hpage⟩
  rw [pageOut_seed, State.pageMoved, State.mSeed_seed, List.mem_filter] at hq
  simp [hmem, hpage] at hq

theorem pageMoved_rf (u : State) (mem page : Nat) (r : Retirement) (hi lo : Nat) :
    (u.pageMoved mem page r).rf 0x0060001C hi lo = u.rf 0x0060001C hi lo := rfl

theorem pageOut_rf (u : State) (mem page : Nat) (r : Retirement) (hi lo : Nat) :
    (u.pageOut mem page r).rf 0x0060001C hi lo = ((u.pageMoved mem page r).pageCounted mem).rf 0x0060001C hi lo := rfl

theorem pageOut_device (h : mem = 0) : (u.pageOut mem page r).rf 0x0060001C 15 0 = min (u.rf 0x0060001C 15 0 + 1) 65535
    ∧ (u.pageOut mem page r).rf 0x0060001C 31 16 = u.rf 0x0060001C 31 16 := by
  rw [pageOut_rf, pageOut_rf, ← pageMoved_rf u mem page r, ← pageMoved_rf u mem page r 31 16, h]
  exact pageCounted_device _

theorem pageOut_other (h : mem ≠ 0) : (u.pageOut mem page r).rf 0x0060001C 31 16 = min (u.rf 0x0060001C 31 16 + 1) 65535
    ∧ (u.pageOut mem page r).rf 0x0060001C 15 0 = u.rf 0x0060001C 15 0 := by
  rw [pageOut_rf, pageOut_rf, ← pageMoved_rf u mem page r, ← pageMoved_rf u mem page r 15 0]
  exact pageCounted_other _ h

theorem pageOut_start : (u.pageOut mem page r).start = u.psetChanged.start := by
  obtain ⟨-, hstart, hnow⟩ := pageCounted_frame (u.pageMoved mem page r) mem
  rw [State.pageOut, State.psetChanged, State.psetChanged, State.mStart_start, State.mStart_start, hstart, hnow]
  rfl

theorem pageOut_frame : Frame [.seed, .start] [0x0060001C] u (u.pageOut mem page r) := by
  have hmoved : Frame [.seed, .start] [0x0060001C] u (u.pageMoved mem page r) := (Frame.refl u _ _).mSeed (by simp) _
  unfold State.pageOut State.pageCounted
  split <;> exact (hmoved.wf (by simp) _ _ _).mStart (by simp) _

end

/-! ### Bandwidth classes -/

theorem bwWindow_granted {dt mem : Nat} {want : List Nat} {s u : State} (hu : u = s.tick dt) :
    ∃ (t : State) (hard : List Nat), exec (.bwWindow dt mem want) s = .next t ∧ Frame [.seed] [] u t
      ∧ hard.getD 0 0 = u.rf (bwKey mem 0) 15 0
      ∧ ∀ c, c < 8 → tget 0 t.seed.granted (mem * 8 + c) = grantOf (bwDivide (u.peakBytes mem) hard hard want) c := by
  rw [exec_bwWindow]
  simp only [execBwWindow, ← hu]
  refine ⟨_, (List.range 8).map fun c => u.rf (bwKey mem c) 15 0, rfl, (Frame.refl u _ _).mSeed (by simp) _, rfl, fun c hc => ?_⟩
  exact (tget_foldl_tset _ _ _ _ _).trans (if_pos hc)

theorem bwWindow_grants (dt mem : Nat) (want : List Nat) (s u : State) (hu : u = s.tick dt) :
    ∃ t : State, exec (.bwWindow dt mem want) s = .next t ∧ Frame [.seed] [] u t
      ∧ tget 0 t.seed.granted (mem * 8) = min (min (want.getD 0 0) (u.rf (bwKey mem 0) 15 0 * 100)) (u.peakBytes mem)
      ∧ (∀ c, c < 8 → tget 0 t.seed.granted (mem * 8 + c) ≤ want.getD c 0)
      ∧ ((List.range 8).map fun c => tget 0 t.seed.granted (mem * 8 + c)).sum ≤ u.peakBytes mem := by
  obtain ⟨t, hard, hstep, hframe, hhard, hgranted⟩ := bwWindow_granted (mem := mem) (want := want) hu
  refine ⟨t, hstep, hframe, ?_, fun c hc => ?_, ?_⟩
  · rw [← hhard]
    refine (hgranted 0 (by decide)).trans ?_
    rw [bwDivide_eq, grantOf_cons, if_pos rfl, realTime]
  · rw [hgranted c hc]
    exact grantOf_le (bwDivide_le_want _ _ _ _) c
  · calc ((List.range 8).map fun c => tget 0 t.seed.granted (mem * 8 + c)).sum
        = ∑ c ∈ Finset.range 8, tget 0 t.seed.granted (mem * 8 + c) := rfl
      _ = ∑ c ∈ Finset.range 8, grantOf (bwDivide (u.peakBytes mem) hard hard want) c :=
          Finset.sum_congr rfl fun c hc => hgranted c (Finset.mem_range.1 hc)
      _ ≤ u.peakBytes mem := (sum_grantOf_le _ _).trans (bwDivide_sum_le _ _ _ _)

theorem rf_low_lt (k : Nat) : s.rf k 15 0 < 65536 := by
  rw [State.rf]
  simp only [bits]
  omega

/-- A hard reservation that fits, and MEM_BW_RESERVED after it (R104). -/
theorem memBwClassWrite_reserve (dt mem : Nat) (v : Word) (s u : State) (hu : u = s.tick dt) (hmem : mem < 2)
    (hfits : u.bwFits mem (bits v.toNat 15 0 + u.rf (bwKey mem 1) 15 0) = true) :
    ∃ t : State, exec (.memBwClassWrite dt mem 0 v) s = .next t ∧ t.rf (bwKey mem 0) 15 0 = bits v.toNat 15 0
      ∧ t.rd (0x00600080 + mem * 4) = bits v.toNat 15 0 + u.rf (bwKey mem 1) 15 0 ∧ Frame [] [bwKey mem 0, 0x00600080 + mem * 4] u t := by
  have hne : bwKey mem 0 ≠ 0x00600080 + mem * 4 := by rw [bwKey]; omega
  have hne' : bwKey mem 1 ≠ bwKey mem 0 := by rw [bwKey, bwKey]; omega
  have hlow : (u.wf (bwKey mem 0) 15 0 (bits v.toNat 15 0)).rf (bwKey mem 0) 15 0 = bits v.toNat 15 0 := by
    rw [rf_wf_low]
    simp only [bits]
    omega
  have hother : (u.wf (bwKey mem 0) 15 0 (bits v.toNat 15 0)).rf (bwKey mem 1) 15 0 = u.rf (bwKey mem 1) 15 0 := by
    rw [State.rf, State.rf, State.wf, State.rd_wr_ne _ hne']
  have hsmall := rf_low_lt u (bwKey mem 1)
  rw [exec_memBwClassWrite]
  simp only [execMemBwClassWrite, ← hu, hfits, if_true]
  refine ⟨_, rfl, ?_, ?_, ?_⟩
  · rw [State.bwTotal, State.rf, State.rd_wr_ne _ hne]
    exact hlow
  · rw [State.bwTotal, State.rd_wr_same, hlow, hother]
    have : bits v.toNat 15 0 < 65536 := by simp only [bits]; omega
    omega
  · exact ((Frame.refl u _ _).wf (by simp) _ _ _).wr (by simp) _

/-- Settles O14 (log entries 16 and 19): what each of the memory's upkeep commands does, by the lemma of the command. -/
theorem memoryUpkeep : Obligations.MemoryUpkeep := by
  unfold Obligations.MemoryUpkeep
  refine ⟨fun dt mem n s u hu hn hn0 hecc => ⟨scrubChunk_next hu hn hn0 hecc, scrubChunk_passDone hu hn hn0 hecc,
      fun o _ => scrubChunk_correctable hu hn hn0 hecc o, fun o ho => scrubChunk_uncorrectable hu hn hn0 hecc ho⟩,
    fun dt mem page r s u hu hr => ?_, fun dt ch s u hu hch => ?_, bwWindow_grants, fun dt mem v s u hu hmem => ?_⟩
  · refine ⟨_, pageRetired_out hu hr, ?_, pageOut_retiring, pageOut_device, pageOut_other, pageOut_start, pageOut_frame⟩
    rw [pageOut_seed]
    rfl
  · rw [exec_lpddrDriftTrack]
    simp only [execLpddrDriftTrack, ← hu, if_pos hch]
    exact ⟨_, rfl, tget_tset_same _ _ _, (Frame.refl u _ _).mSeed (by simp) _⟩
  · refine ⟨memBwClassWrite_reserve dt mem v s u hu hmem, fun hfits => ?_, ?_, fun c hlo _ => ?_⟩ <;> rw [exec_memBwClassWrite]
    · simp only [execMemBwClassWrite, ← hu, hfits, if_true, Bool.false_eq_true, if_false]
    · simp only [execMemBwClassWrite, ← hu, one_ne_zero, if_true, if_false]
    · have h0 : c ≠ 0 := by omega
      have h1 : c ≠ 1 := by omega
      simp only [execMemBwClassWrite, ← hu, h0, h1, if_false]

end Sys2Proof.Machine
end

section
/-!
PROOFS. A composition's end: what composing, reporting and storing leave of the composition in hand, and that it is marked done (R132, R153, R163).
-/
namespace Sys2Proof.Machine

variable (s : State) (p : Nat)

/-- The time, and the composition a pipe has in hand. -/
def State.compNow : Nat × Option Composition := (s.now, (s.pipe p).comp)

/-! ### Registers, memory and reports -/

@[simp] theorem mPods_compNow (f) : (s.mPods f).compNow p = s.compNow p := rfl
@[simp] theorem mSeed_compNow (f) : (s.mSeed f).compNow p = s.compNow p := rfl
@[simp] theorem mWorlds_compNow (f) : (s.mWorlds f).compNow p = s.compNow p := rfl

/- Proved by rewriting, so that no address or word is computed where they are used. -/
@[simp] theorem wr_compNow (k v) : (s.wr k v).compNow p = s.compNow p := by simp only [State.compNow, State.pipe, State.wr_frame]
@[simp] theorem wr64_compNow (k v) : (s.wr64 k v).compNow p = s.compNow p := by simp only [State.wr64, wr_compNow]
@[simp] theorem wf_compNow (k hi lo v) : (s.wf k hi lo v).compNow p = s.compNow p := wr_compNow ..
@[simp] theorem wb_compNow (k i b) : (s.wb k i b).compNow p = s.compNow p := wf_compNow ..
@[simp] theorem incr64_compNow (k n) : (s.incr64 k n).compNow p = s.compNow p := wr64_compNow ..
@[simp] theorem rcCount_compNow (k n) : (s.rcCount k n).compNow p = s.compNow p := by
  simp only [State.compNow, State.pipe, State.rcCount_frame]
@[simp] theorem ueCount_compNow (pa cls w) : (s.ueCount pa cls w).compNow p = s.compNow p := by
  simp only [State.ueCount, wr_compNow, wr64_compNow, incr64_compNow]

@[simp] theorem emit_compNow (w kind st handle detail) : (s.emit w kind st handle detail).compNow p = s.compNow p := by
  simp only [State.compNow, State.pipe, emit_frame]

@[simp] theorem emitPf_compNow (kind st detail) : (s.emitPf kind st detail).compNow p = s.compNow p := emit_compNow ..

theorem foldl_compNow {β : Type} {f : State → β → State} (hf : ∀ t x, (f t x).compNow p = t.compNow p) (l : List β) :
    (l.foldl f s).compNow p = s.compNow p := by
  induction l generalizing s with
  | nil => rfl
  | cons x l ih => exact (ih _).trans (hf s x)

@[simp] theorem pwrite_compNow (pa bs cls w) : (s.pwrite pa bs cls w).compNow p = s.compNow p :=
  foldl_compNow _ p (fun t k => ueCount_compNow t p (k * 8) cls w) _

@[simp] theorem retirePage_compNow (mem page) : (s.retirePage mem page).compNow p = s.compNow p := by
  fun_cases State.retirePage <;> simp

@[simp] theorem ueFound_compNow (pa cls w) : (s.ueFound pa cls w).compNow p = s.compNow p := by
  simp [State.ueFound]

@[simp] theorem memFault_compNow (w addr) : (s.memFault w addr).compNow p = s.compNow p := by
  fun_cases State.memFault <;> simp +zetaDelta

/-- A denial is counted and latched in registers, and then reported at most twice (R518). -/
@[simp] theorem deny_compNow (c a write off) : (s.deny c a write off).compNow p = s.compNow p := by
  unfold State.deny
  extract_lets t u vi v last x d y
  have hv : v.compNow p = s.compNow p := by rw [wr_compNow, wr64_compNow, rcCount_compNow]
  have hx : x.compNow p = s.compNow p := (mWorlds_compNow v p _).trans hv
  split
  · exact hv
  split
  · exact (emit_compNow ..).trans hx
  · exact (emit_compNow ..).trans ((emit_compNow ..).trans hx)

/-- A read answers with the state as it was or with one that holds the reports of its fault. -/
@[simp] theorem fetch_compNow (w cls addr n ext) : (s.fetch w cls addr n ext).2.compNow p = s.compNow p := by
  dsimp only [State.fetch]
  (repeat' split) <;> simp

@[simp] theorem reportFault_compNow (w cls addr) : (s.reportFault w cls addr).compNow p = s.compNow p := fetch_compNow ..

@[simp] theorem load_compNow (w cls hosts addr n) : (s.load w cls hosts addr n).2.compNow p = s.compNow p := by
  fun_cases State.load <;> simp

/-! ### Layers and pipes -/

theorem mPipe_pipe (q : Nat) (f : PipeSt → PipeSt) : (s.mPipe q f).pipe p = if p = q then f (s.pipe q) else s.pipe p := by
  rw [State.pipe, State.mPipe, State.mDisplay_display, tget_tmod]
  rfl

/-- Of the display's parts the pipes alone hold compositions. -/
theorem mDisplay_compNow {f : Display → Display} (hf : (f s.display).pipes = s.display.pipes) : (s.mDisplay f).compNow p = s.compNow p := by
  rw [State.compNow, State.pipe, State.mDisplay_display, hf]
  rfl

@[simp] theorem mLayer_compNow (i f) : (s.mLayer i f).compNow p = s.compNow p := mDisplay_compNow _ _ rfl

@[simp] theorem pipeDirty_compNow (q) : (s.pipeDirty q).compNow p = s.compNow p := by
  rw [State.compNow, State.pipeDirty, mPipe_pipe]
  split
  · next h => rw [h]; rfl
  · rfl

@[simp] theorem layerShown_compNow (i v) : (s.layerShown i v).compNow p = s.compNow p := wf_compNow ..

@[simp] theorem layerOff_compNow (i frame) : (s.layerOff i frame).compNow p = s.compNow p := by
  dsimp only [State.layerOff]
  rw [emit_compNow]
  split <;> simp

@[simp] theorem putWords_compNow (c b ws) : (s.putWords c b ws).compNow p = s.compNow p := by
  fun_induction State.putWords <;> simp_all

@[simp] theorem readMetas_compNow (hosts frame ls) : (s.readMetas hosts frame ls).1.compNow p = s.compNow p := by
  induction ls generalizing s with
  | nil => rfl
  | cons d ls ih =>
    dsimp only [State.readMetas]
    split
    · exact ih _
    split
    · next hl => exact (ih _).trans (by rw [snd_eq hl, load_compNow])
    · next hl => exact (ih _).trans (by rw [layerOff_compNow, snd_eq hl, load_compNow])

/-! ### Composing -/

/-- At time `n` the pipe has a composition in hand. -/
def State.Composing (n : Nat) : Prop := ∃ c, s.compNow p = (n, some c)

variable {s p} {n : Nat}

theorem composing_iff : s.Composing p n ↔ s.now = n ∧ ∃ c, (s.pipe p).comp = some c := by
  simp [State.Composing, State.compNow]

theorem State.Composing.of_compNow {t : State} (h : s.Composing p n) (ht : t.compNow p = s.compNow p) : t.Composing p n :=
  h.imp fun _ hc => ht.trans hc

theorem composing_ite {t : State} {c : Prop} [Decidable c] (h : s.Composing p n) (ht : t.Composing p n) : (if c then s else t).Composing p n := by
  split <;> assumption

/-- A pipe given a composition has it. -/
theorem composing_mPipe {f : PipeSt → PipeSt} {c : Composition} (hn : s.now = n) (hf : (f (s.pipe p)).comp = some c) :
    (s.mPipe p f).Composing p n :=
  composing_iff.mpr ⟨hn, c, by rw [mPipe_pipe, if_pos rfl, hf]⟩

theorem compMetas_composing (hosts : List HostRun) (h : s.Composing p n) : (s.compMetas hosts p).Composing p n := by
  fun_cases State.compMetas with
  | case1 => exact h
  | case2 => exact h
  | case3 c hc hdue t ds ms hread =>
    have ht : t.compNow p = s.compNow p := by rw [← readMetas_compNow s p hosts c.frame c.layers, hread]
    exact composing_mPipe (composing_iff.mp (h.of_compNow ht)).1 rfl

/-- A tile ends composed, or a faulting fetch takes its layer out and the tile begins again (R136, R194). -/
theorem composeTile_composing (hosts : List HostRun) (tile : Nat) (fuel : Nat) (h : s.Composing p n) :
    (s.composeTile hosts p tile fuel).Composing p n := by
  induction fuel generalizing s with
  | zero => exact h
  | succ fuel ih =>
    dsimp only [State.composeTile]
    split
    · exact h
    split
    · exact composing_mPipe (composing_iff.mp (h.of_compNow (putWords_compNow ..))).1 rfl
    · exact ih (composing_mPipe (composing_iff.mp (h.of_compNow ((layerOff_compNow ..).trans (reportFault_compNow ..)))).1 rfl)

theorem composeTiles_composing (hosts : List HostRun) (tiles : List Nat) (h : s.Composing p n) : (s.composeTiles hosts p tiles).Composing p n := by
  induction tiles generalizing s with
  | nil => exact h
  | cons tile tiles ih =>
    rw [State.composeTiles]
    exact ih (composing_ite h (composeTile_composing hosts tile 65 h))

/-! ### What follows a composed frame -/

variable (s p)

@[simp] theorem frameMarks_compNow (comp ls) : (s.frameMarks comp ls).compNow p = s.compNow p := by
  induction ls generalizing s with
  | nil => rfl
  | cons i ls ih =>
    refine (ih _).trans ?_
    split <;> simp

@[simp] theorem storeErrors_compNow (b cls) : (s.storeErrors b cls).compNow p = s.compNow p :=
  foldl_compNow _ p (fun t _ => ueFound_compNow t p _ cls pfWin) _

/-- A frame taken for writeback, or counted as one that does not fit, leaves the pipe's composition (R153, R154). -/
@[simp] theorem wbCapture_compNow (q c b comp) : (s.wbCapture q c b comp).compNow p = s.compNow p := by
  fun_cases State.wbCapture with
  | case1 => rfl
  | case2 => rfl
  | case3 => exact mDisplay_compNow _ _ rfl
  | case4 => exact (emit_compNow ..).trans ((mDisplay_compNow _ _ rfl).trans (mDisplay_compNow _ _ rfl))
  | case5 => exact (storeErrors_compNow ..).trans ((mDisplay_compNow _ _ rfl).trans (mDisplay_compNow _ _ rfl))

variable {s p}

/-- COMPOSITION_DONE leaves the composition done, at the instant it came (R163). -/
theorem finishComposition_done (hosts : List HostRun) (h : s.Composing p n) :
    ∃ c, ((s.finishComposition hosts p).pipe p).comp = some c ∧ c.done = true ∧ c.doneAt = n := by
  obtain ⟨-, c, hc⟩ := composing_iff.mp h
  simp only [State.finishComposition, hc]
  generalize hx : (s.compMetas hosts p).composeTiles hosts p _ = x
  obtain ⟨hn, d, hd⟩ := composing_iff.mp (hx ▸ composeTiles_composing hosts _ (compMetas_composing hosts h))
  simp only [hd]
  refine ⟨{ d with done := true, doneAt := n }, congrArg Prod.snd ((wbCapture_compNow ..).trans (frameMarks_compNow ..)) |>.trans ?_, rfl, rfl⟩
  rw [State.compNow, mPipe_pipe, if_pos rfl, hn]

end Sys2Proof.Machine
end

section
/-!
PROOFS. Layers and writeback targets made, tables and backgrounds written, and frames written back (R107 to R110, R125, R146, R151 to R157).
-/
namespace Sys2Proof.Machine

/-! ### Words and fields -/

/-- A 64-bit register reads what was written (R9). -/
theorem rd64_wr64 (s : State) (k v : Nat) : (s.wr64 k v).rd64 k = v % 2 ^ 64 := by
  have hlow : k ≠ k + 4 := by omega
  rw [State.wr64, State.rd64, State.rd_wr_ne _ hlow, State.rd_wr_same, State.rd_wr_same]
  omega

theorem rf_wf_byte (s : State) (k v : Nat) : (s.wf k 7 0 v).rf k 7 0 = v % 256 := by
  have hlt := s.rd_lt k
  rw [State.rf, State.wf, State.rd_wr_same]
  simp only [setBits, bits]
  omega

theorem rf_wf_nextByte (s : State) (k v : Nat) : (s.wf k 15 8 v).rf k 7 0 = s.rf k 7 0 := by
  have hlt := s.rd_lt k
  rw [State.rf, State.rf, State.wf, State.rd_wr_same]
  simp only [setBits, bits]
  omega

theorem byR19_ok {l : List (Bool × Status)} (h : ∀ c ∈ l, c.1 = false) : byR19 l = .ok := by
  induction l with
  | nil => rfl
  | cons c l ih =>
    obtain ⟨bad, st⟩ := c
    obtain rfl : bad = false := h (bad, st) List.mem_cons_self
    exact ih fun d hd => h d (by simp [hd])

/-- Taking an index writes the count of the grant alone (R485). -/
theorem takeIndex_rd {s : State} {w kind k : Nat} (hk : w ≠ pfWin → k ≠ grantReg w kind 8) (i : Nat) (ph : ChanPhase) :
    (s.takeIndex w kind i ph).rd k = s.rd k := by
  unfold State.takeIndex
  split
  · rfl
  · next hw => rw [State.rd_wr_ne _ (hk hw), State.mPods_rd]

theorem chan_congr {s t : State} (h : t.pods = s.pods) (kind i : Nat) : t.chan kind i = s.chan kind i := by
  rw [State.chan, h, State.chan]

theorem handleWord_congr {s t : State} (h : t.pods = s.pods) (kind i : Nat) : t.handleWord kind i = s.handleWord kind i := by
  rw [State.handleWord, chan_congr h, State.gen, h, State.handleWord, State.gen]

/-- A CREATE that completes at once, with the pods as they were when its index was found free: its handle is the one the index had (R45, R60). -/
theorem createDone_free {s t : State} {w kind i : Nat} (e : CtlEntry) (hpods : t.pods = s.pods) (hpick : s.pickIndex w kind = some i) :
    t.createDone w e kind i = (t.takeIndex w kind i .live).ctlDone w e .ok (s.handleWord kind i) := by
  obtain ⟨-, hfree⟩ := pickIndex_free hpick
  rw [← chan_congr hpods] at hfree
  rw [State.createDone, takeIndex_handleWord hfree, handleWord_congr hpods]

/-! ### Layers -/

theorem okWin_iff {w : Nat} : okWin w = true ↔ w < 256 ∨ w = pfWin := by
  simp [okWin, pfWin]

/-- The fields of a layer's parameter block: pipe, path and the reserved rest (R108). -/
theorem layerBlock_fields {p : Nat} (hp : p < 16) (direct : Bool) :
    bits (p + b2n direct * 2 ^ 8) 7 0 = p ∧ bit (p + b2n direct * 2 ^ 8) 8 = direct ∧ bits (p + b2n direct * 2 ^ 8) 63 9 = 0 := by
  cases direct <;> simp only [b2n, bits, bit, Nat.testBit_eq_decide_div_mod_eq, Bool.false_eq_true, if_true, if_false, decide_eq_true_eq,
    decide_eq_false_iff_not] <;> omega

/-- The layers of a pipe are counted in its use, the direct ones apart as well (R109, R157). -/
def State.layerCounted (s : State) (p : Nat) (direct : Bool) : State :=
  let t := s.wf (0x01000104 + p * 0x10) 7 0 (s.rf (0x01000104 + p * 0x10) 7 0 + 1)
  if direct then t.wf (0x01000104 + p * 0x10) 15 8 (t.rf (0x01000104 + p * 0x10) 15 8 + 1) else t

/-- Slot `i` holds a disabled layer, which LAYER_STATE_OWNER shows (R107, R155). -/
def State.layerOpened (s : State) (w i p : Nat) (direct : Bool) : State :=
  (((s.mDisplay fun d => { d with layers := tset {} d.layers i { pipe := p, direct := direct } }).wr (layerReg i 0)
    (2 ^ 31 + b2n direct * 2 ^ 30 + p * 2 ^ 16 + w)).wr (layerReg i 4) 0).wr (layerReg i 8) 0

/-- What a CREATE of a layer leaves before its index is taken. -/
def State.layerMade (s : State) (w i p : Nat) (direct : Bool) : State := (s.layerOpened w i p direct).layerCounted p direct

section
variable (s : State) (w i p : Nat) (direct : Bool)

theorem layerCounted_rd {k : Nat} (hk : k ≠ 0x01000104 + p * 0x10) : (s.layerCounted p direct).rd k = s.rd k := by
  unfold State.layerCounted
  cases direct <;> simp only [Bool.false_eq_true, if_true, if_false, State.wf, State.rd_wr_ne _ hk]

theorem layerCounted_use : (s.layerCounted p direct).rf (0x01000104 + p * 0x10) 7 0 = (s.rf (0x01000104 + p * 0x10) 7 0 + 1) % 256 := by
  unfold State.layerCounted
  cases direct <;> simp only [Bool.false_eq_true, if_true, if_false, rf_wf_nextByte, rf_wf_byte]

theorem layerCounted_parts : (s.layerCounted p direct).pods = s.pods ∧ (s.layerCounted p direct).display = s.display := by
  unfold State.layerCounted
  cases direct <;> simp

theorem layerOpened_owner {w p : Nat} (hw : w < 2 ^ 16) (hp : p < 16) :
    (s.layerOpened w i p direct).rd (layerReg i 0) = 2 ^ 31 + b2n direct * 2 ^ 30 + p * 2 ^ 16 + w := by
  have h4 : layerReg i 0 ≠ layerReg i 4 := by unfold layerReg; omega
  have h8 : layerReg i 0 ≠ layerReg i 8 := by unfold layerReg; omega
  rw [State.layerOpened, State.rd_wr_ne _ h8, State.rd_wr_ne _ h4, State.rd_wr_same]
  cases direct <;> simp only [b2n, Bool.false_eq_true, if_true, if_false] <;> omega

theorem layerOpened_rd {k : Nat} (h0 : k ≠ layerReg i 0) (h4 : k ≠ layerReg i 4) (h8 : k ≠ layerReg i 8) :
    (s.layerOpened w i p direct).rd k = s.rd k := by
  rw [State.layerOpened, State.rd_wr_ne _ h8, State.rd_wr_ne _ h4, State.rd_wr_ne _ h0, State.mDisplay_rd]

theorem layerMade_pods : (s.layerMade w i p direct).pods = s.pods := by
  rw [State.layerMade, (layerCounted_parts ..).1]
  simp only [State.layerOpened, State.wr_frame, State.mDisplay_frame]

theorem layerMade_layer : (s.layerMade w i p direct).layer i = { pipe := p, direct := direct } := by
  rw [State.layer, State.layerMade, (layerCounted_parts ..).2]
  simp only [State.layerOpened, State.wr_frame, State.mDisplay_display, tget_tset_same]

/-- The registers of layers lie apart from the counts of the grants (R155, R483). -/
theorem layer_ne_grant {w : Nat} (hw : okWin w = true) (hpf : w ≠ pfWin) :
    layerReg i 0 ≠ grantReg w kLayer 8 ∧ 0x01000104 + p * 0x10 ≠ grantReg w kLayer 8 := by
  have hvi : w < 256 := (okWin_iff.mp hw).resolve_right hpf
  simp only [layerReg, grantReg, kLayer]
  omega

/-- The registers after the index is taken as well: the slot's owner, -/
theorem layerTaken_owner {w p : Nat} (hw : okWin w = true) (hp : p < 16) :
    ((s.layerMade w i p direct).takeIndex w kLayer i .live).rd (layerReg i 0) = 2 ^ 31 + b2n direct * 2 ^ 30 + p * 2 ^ 16 + w := by
  have huse : layerReg i 0 ≠ 0x01000104 + p * 0x10 := by unfold layerReg; omega
  have hw16 : w < 2 ^ 16 := by
    have := okWin_iff.mp hw
    unfold pfWin at this
    omega
  rw [takeIndex_rd fun hpf => (layer_ne_grant i p hw hpf).1, State.layerMade, layerCounted_rd _ _ _ huse, layerOpened_owner _ _ _ hw16 hp]

/-- and the pipe's count of layers (R109, R155). -/
theorem layerTaken_use {w p : Nat} (hw : okWin w = true) (hp : p < 16) :
    ((s.layerMade w i p direct).takeIndex w kLayer i .live).rf (0x01000104 + p * 0x10) 7 0 = (s.rf (0x01000104 + p * 0x10) 7 0 + 1) % 256 := by
  have hne : ∀ off, 0x01000104 + p * 0x10 ≠ layerReg i off := by unfold layerReg; omega
  rw [State.rf, takeIndex_rd fun hpf => (layer_ne_grant i p hw hpf).2]
  refine (layerCounted_use ..).trans ?_
  rw [State.rf, layerOpened_rd _ _ _ _ _ (hne 0) (hne 4) (hne 8), State.rf]

theorem layerMade_frame {ks : List Nat} (h0 : layerReg i 0 ∈ ks) (h4 : layerReg i 4 ∈ ks) (h8 : layerReg i 8 ∈ ks)
    (huse : 0x01000104 + p * 0x10 ∈ ks) : Frame [.pods, .display] ks s (s.layerMade w i p direct) := by
  have hshown : Frame [.pods, .display] ks s (s.layerOpened w i p direct) :=
    (((Frame.refl s _ _).mDisplay (by simp) _).wr h0 _).wr h4 0 |>.wr h8 0
  unfold State.layerMade State.layerCounted
  cases direct
  · exact hshown.wf huse 7 0 _
  · exact (hshown.wf huse 7 0 _).wf huse 15 8 _

end

/-- CREATE of a layer on a pipe granted to the window, of which neither the 64 layers nor the 4 direct ones are all there (R107 to R110). -/
theorem execCreateLayer_ok {dt w i p : Nat} {direct : Bool} {e : CtlEntry} {b : Bytes} {s u : State} (hu : u = s.tick dt)
    (hwait : u.ctlWaits w 1 kLayer = some e) (hlen : e.paramLen = 8) (hb : b.length = 8) (hok : u.hostOk w = true)
    (hval : leNat b = p + b2n direct * 2 ^ 8) (hp : p < u.row.pipes) (hpipes : u.row.pipes ≤ 16) (hgrant : u.pipeGranted w p = true)
    (hpick : u.pickIndex w kLayer = some i) (hroom : ((List.range 512).countP fun j => u.layerOn p j) < 64)
    (hdirect : direct = true → (u.layersOf p true).length < 4) :
    execCreateLayer dt w (some b) s = .next ((u.layerMade w i p direct).createDone w e kLayer i) := by
  obtain ⟨hpipe, hpath, hrest⟩ := layerBlock_fields (hp.trans_le hpipes) direct
  rw [← hval] at hpipe hpath hrest
  have hfull : (direct && decide (4 ≤ (u.layersOf p true).length)) = false := by
    cases direct
    · rfl
    · simpa using hdirect rfl
  have hstatus : byR19 [(!u.pipeGranted w p, .denied), (bits (leNat b) 63 9 != 0 || decide (u.row.pipes ≤ p), .badParam),
      ((u.pickIndex w kLayer).isNone || decide (64 ≤ (List.range 512).countP fun j => u.layerOn p j)
        || (direct && decide (4 ≤ (u.layersOf p true).length)), .noResource)] = .ok :=
    byR19_ok (by simp [hgrant, hrest, hp, hpick, hroom, hfull])
  simp only [execCreateLayer, ← hu, hwait, hlen, ne_eq, not_true_eq_false, if_false, params_host hok e (hb.trans hlen.symm)]
  rw [hpipe, hpath, if_neg (not_not.mpr hstatus), hpick, Option.getD_some]
  rfl

/-! ### Tables and backgrounds -/

section
variable {dt addr : Nat} {r : Req} {s u : State} (v : Word) (hu : u = s.tick dt) (hpath : ∀ x, r.path ≠ .vi x)
include hu hpath

theorem execLayerTableWrite_reserved (hbit : tableBit addr = none) : execLayerTableWrite dt r addr v s = .next u := by
  rw [execLayerTableWrite, ← hu, hbit]
  cases hr : r.path with
  | vi x => exact absurd hr (hpath x)
  | _ => rfl

/-- A word of a table that is referenced is left and marked; of any other it is stored, with the fields its table has (R124, R125, R146). -/
theorem execLayerTableWrite_word {i : Nat} (hbit : tableBit addr = some i) :
    execLayerTableWrite dt r addr v s =
      if bit u.tableRef i then .next (u.raise 0x0100000C i)
      else if addr < 0x01030000 then .next (u.wr addr (v.toNat &&& 0x0FFF0FFF))
      else .next (u.wr addr (if addr % 0x1000 = 2048 then v.toNat % 2 ^ 16 else v.toNat)) := by
  rw [execLayerTableWrite, ← hu, hbit]
  cases hr : r.path with
  | vi x => exact absurd hr (hpath x)
  | _ => rfl

end

theorem execLayerPipeBgWrite_pf {dt p v : Nat} {r : Req} {s u : State} (hu : u = s.tick dt) (hpath : ∀ x, r.path ≠ .vi x)
    (hp : p < u.row.pipes) : execLayerPipeBgWrite dt r p v s = .next (u.wr64 (0x01000108 + p * 0x10) (bits v 47 0)) := by
  rw [execLayerPipeBgWrite, ← hu]
  cases hr : r.path with
  | vi x => exact absurd hr (hpath x)
  | _ => exact if_neg (by omega)

/-! ### Composition -/

theorem execCompositionDone_running {dt p : Nat} {hosts : List HostRun} {c : Composition} {s u : State} (hu : u = s.tickMem dt hosts)
    (hcomp : (u.pipe p).comp = some c) (hwaits : c.waiting = false) (hdone : c.done = false) :
    execCompositionDone dt p hosts s = .next (u.finishComposition hosts p) := by
  simp only [execCompositionDone, ← hu, hcomp, hwaits, hdone, Bool.or_self, Bool.false_eq_true, if_false]

/-! ### Writeback -/

/-- What a CREATE of a writeback target leaves before its index is taken: the block's fields, and the target at the pipe (R151, R156). -/
def State.wbMade (s : State) (i p n : Nat) : State :=
  ((s.mDisplay fun d => { d with wbParams := tset 0 d.wbParams i n, wbCount := tset 0 d.wbCount i 0 }).wr (0x01000200 + p * 8) (2 ^ 31 + i)).wr
    (0x01000204 + p * 8) 0

theorem execCreateWritebackTarget_ok {dt i : Nat} {e : CtlEntry} {b : Bytes} {s u : State} (hu : u = s.tick dt)
    (hwait : u.ctlWaits pfWin 1 kWb = some e) (hlen : e.paramLen = 48) (hb : b.length = 48) (hstatus : u.wbStatus pfWin (leNat b) = .ok)
    (hpick : u.pickIndex pfWin kWb = some i) :
    execCreateWritebackTarget dt pfWin (some b) s = .next ((u.wbMade i (bits (leNat b) 7 0) (leNat b)).createDone pfWin e kWb i) := by
  have hok : u.hostOk pfWin = true := rfl
  simp only [execCreateWritebackTarget, ← hu, hwait, hlen, ne_eq, not_true_eq_false, if_false, params_host hok e (hb.trans hlen.symm), hstatus,
    hpick, Option.getD_some]
  rfl

theorem execCreateWritebackTarget_vi {dt w : Nat} {e : CtlEntry} {ext : Option Bytes} {s u : State} (hu : u = s.tick dt) (hw : w ≠ pfWin)
    (hwait : u.ctlWaits w 1 kWb = some e) : execCreateWritebackTarget dt w ext s = .next (u.ctlDone w e .denied 0) := by
  simp only [execCreateWritebackTarget, ← hu, hwait, ne_eq, hw, not_false_eq_true, if_true]

/-- A target is read back from LAYER_WB_STATUS (R156). -/
theorem wbTarget_of_rd {s : State} {i p : Nat} (hi : i < 2 ^ 18) (h : s.rd (0x01000200 + p * 8) = 2 ^ 31 + i) : s.wbTarget p = some i := by
  have hlive : bit (2 ^ 31 + i) 31 = true := by
    rw [bit, Nat.testBit_eq_decide_div_mod_eq, decide_eq_true_eq]
    omega
  have hindex : bits (2 ^ 31 + i) 17 0 = i := by
    simp only [bits]
    omega
  simp only [State.wbTarget, h, hlive, if_true, hindex]

theorem wbMade_rd (s : State) {i : Nat} (p n : Nat) (hi : i < 2 ^ 18) : (s.wbMade i p n).rd (0x01000200 + p * 8) = 2 ^ 31 + i := by
  have hne : 0x01000200 + p * 8 ≠ 0x01000204 + p * 8 := by omega
  rw [State.wbMade, State.rd_wr_ne _ hne, State.rd_wr_same]
  omega

theorem wbMade_pods (s : State) (i p n : Nat) : (s.wbMade i p n).pods = s.pods := by
  simp only [State.wbMade, State.wr_frame, State.mDisplay_frame]

theorem wbMade_params (s : State) (i p n : Nat) : tget 0 (s.wbMade i p n).display.wbParams i = n := by
  simp only [State.wbMade, State.wr_frame, State.mDisplay_display, tget_tset_same]

theorem wbMade_frame (s : State) (i p n : Nat) :
    Frame [.pods, .display] [0x01000200 + p * 8, 0x01000204 + p * 8] s (s.wbMade i p n) :=
  (((Frame.refl s _ _).mDisplay (by simp) _).wr (by simp) _).wr (by simp) 0

section
variable {dt p par k : Nat} {f : WbFrame} {fs : List WbFrame} {s u x : State} (hu : u = s.tick dt)
  (hframes : tget [] u.display.wbFrame p = f :: fs) (hpar : par = tget 0 u.display.wbParams f.target) (hk : k = (f.n - 1) % max 1 (bits par 18 16))
include hu hframes hpar hk

/-- The oldest frame on its way is written in full (R153), -/
theorem execWbFrameWritten_done
    (hwrite : (u.mDisplay fun d => { d with wbFrame := tset [] d.wbFrame p fs }).wbWrite (bits par (191 + 64 * k) (128 + 64 * k))
      (bits par 63 32) f.rows = (true, x)) :
    execWbFrameWritten dt p s = .next (((x.fenceSignal pfWin (bits par 95 64) f.n).incr (0x01000204 + p * 8)).emit pfWin 0x32 .ok
      (((x.fenceSignal pfWin (bits par 95 64) f.n).incr (0x01000204 + p * 8)).handleWord kWb f.target) f.frame) := by
  simp only [execWbFrameWritten, ← hu, hframes, ← hpar, ← hk, hwrite]

/-- or one of its rows meets a fault (R154). -/
theorem execWbFrameWritten_fault
    (hwrite : (u.mDisplay fun d => { d with wbFrame := tset [] d.wbFrame p fs }).wbWrite (bits par (191 + 64 * k) (128 + 64 * k))
      (bits par 63 32) f.rows = (false, x)) :
    execWbFrameWritten dt p s = .next ((x.raise (0x01000200 + p * 8) 30).emit pfWin 0x33 .fault (x.handleWord kWb f.target) f.frame) := by
  simp only [execWbFrameWritten, ← hu, hframes, ← hpar, ← hk, hwrite]

end

/-! ### The statement -/

/-- Settles O15 (log entries 23 and 71): each command by its equation, and what it leaves read off the states it names. -/
theorem layersAndWriteback : Obligations.LayersAndWriteback := by
  refine ⟨?create, ?table, ?background, ?composed, ?target, ?denied, ?written⟩
  case create =>
    intro dt w i p direct e b s u hu hw hwait hlen hb hok hval hp hpipes hgrant hpick hi hroom hdirect
    have hexec := execCreateLayer_ok hu hwait hlen hb hok hval hp hpipes hgrant hpick hroom hdirect
    rw [createDone_free e (layerMade_pods ..) hpick] at hexec
    obtain ⟨-, -, -, -, hdisplay⟩ := takeIndex_keeps (u.layerMade w i p direct) w kLayer i .live
    refine ⟨_, hexec, takeIndex_chan .., ?_, layerTaken_owner _ _ _ hw (hp.trans_le hpipes),
      layerTaken_use _ _ _ hw (hp.trans_le hpipes), ?_⟩
    · rw [State.layer, hdisplay]
      exact layerMade_layer ..
    · exact takeIndex_frame (layerMade_frame _ _ _ _ _ (by simp) (by simp) (by simp) (by simp)) (by simp) (fun _ => by simp) i .live
  case table =>
    intro dt addr r v s u hu _ hpath
    refine ⟨execLayerTableWrite_reserved v hu hpath, fun i hbit => ?_⟩
    have hexec : exec (.layerTableWrite dt r addr v) s = _ := execLayerTableWrite_word v hu hpath hbit
    refine ⟨fun href => ?_, fun href hlow => ?_, fun href hhigh => ?_⟩
    · rwa [if_pos href] at hexec
    · rwa [href, if_neg Bool.false_ne_true, if_pos hlow] at hexec
    · rwa [href, if_neg Bool.false_ne_true, if_neg (Nat.not_lt.mpr hhigh)] at hexec
  case background =>
    intro dt p v r s u hu hpath hp
    refine ⟨_, execLayerPipeBgWrite_pf hu hpath hp, ?_, (Frame.refl u _ _).wr64 (by simp) (by simp) _⟩
    rw [rd64_wr64]
    simp only [bits]
    omega
  case composed =>
    intro dt p c hosts s u hu hcomp hwaits hdone
    obtain ⟨c', hc', hdone', hat⟩ := finishComposition_done hosts (composing_iff.mpr ⟨rfl, c, hcomp⟩)
    exact ⟨_, c', execCompositionDone_running hu hcomp hwaits hdone, hc', hdone', hat⟩
  case target =>
    rintro dt i p e b s u hu hwait hlen hb hstatus hpick hi rfl
    have hexec := execCreateWritebackTarget_ok hu hwait hlen hb hstatus hpick
    rw [createDone_free e (wbMade_pods ..) hpick] at hexec
    obtain ⟨-, -, -, -, hdisplay⟩ := takeIndex_keeps (u.wbMade i (bits (leNat b) 7 0) (leNat b)) pfWin kWb i .live
    refine ⟨_, hexec, takeIndex_chan .., wbTarget_of_rd hi ?_, ?_, ?_⟩
    · rw [takeIndex_rd fun h => absurd rfl h, wbMade_rd _ _ _ hi]
    · rw [hdisplay, wbMade_params]
    · exact takeIndex_frame (wbMade_frame ..) (by simp) (fun h => absurd rfl h) i .live
  case denied => exact fun dt w e ext s u hu hw hwait => execCreateWritebackTarget_vi hu hw hwait
  case written =>
    rintro dt p i par k f fs s u x ok hu hframes rfl hpar hk hwrite
    exact ⟨fun hok => ⟨_, execWbFrameWritten_done hu hframes hpar hk (hok ▸ hwrite), rfl⟩,
      fun hok => execWbFrameWritten_fault hu hframes hpar hk (hok ▸ hwrite)⟩

end Sys2Proof.Machine
end

section
/-!
PROOFS. A port's token used again after a VI reset, while a commit taken before it has not latched (R165, R178).
-/
namespace Sys2Proof.Machine

/-- Pipe 0 runs, and VI 0 in service, to which it is granted, has its first commit in the composition of frame 1. -/
def firstCommitComposing : State :=
  { regs := [(viReg 0 0, 2 ^ 28), (viReg 0 0x30, 1), (pipeReg 0 4, 2)],
    display :=
      { commits := [{ w := 0, pipe := 0, token := 1, list := 0, ifComposed := 1, ifDirect := 1, phase := .composing, composed := true, target := 1 }],
        pipes := [(0, { csDone := true })] } }

/-- The commits of the VI go as its reset has it (R178, R492), and token 1 is written to its port again. -/
def tokenReused : State := goOn {} (exec (.commitToken 0 0 0 1) (firstCommitComposing.dropCommits 0))

/-- The commit taken before the reset, which goes on to latch (R178). -/
def commitBeforeReset : Commit :=
  { w := 0, pipe := 0, token := 1, list := 0, ifComposed := 1, ifDirect := 1, phase := .composing, composed := true, target := 1, dead := true }

/-- The commit accepted after it, whose list lies at an address that is not mapped. -/
def commitAfterReset : Commit := { w := 0, pipe := 0, token := 1, list := 0, ifComposed := 2, ifDirect := 1 }

/-- What the check of that commit ends with. -/
def reusedCheck : State × Status × List CommitEnt := (tokenReused.tickMem 0 []).checkCommit commitAfterReset []

theorem tokenReused_commits : (tokenReused.tickMem 0 []).display.commits = [commitBeforeReset, commitAfterReset] := by decide +kernel

/-- The header of the list cannot be read (R169). -/
theorem reusedCheck_faults : reusedCheck.2 = (.fault, []) := by decide +kernel

theorem reusedCheck_eq : reusedCheck = (reusedCheck.1, .fault, []) := by rw [← reusedCheck_faults]

/-- The commit of the VI's earlier life is not the one that failed, and stays. -/
theorem commitFail_keeps_before_reset :
    (reusedCheck.1.commitFail commitAfterReset .fault ((tokenReused.tickMem 0 []).spoofField commitAfterReset [])).display.commits
      = [commitBeforeReset] := by decide +kernel

/-- Refutes O16, in its clause for a check that fails: no commit of the port with that token is to be left. Tokens count from 1 again after a
reset of the VI (R165), so a commit taken before the reset, which goes on to latch (R178), can stand beside the one that fails with the
same token, and it stays, as it should. -/
theorem not_commitPort : ¬ Obligations.CommitPort := by
  rintro ⟨-, -, -, -, -, checkDone⟩
  have hfind : ((tokenReused.tickMem 0 []).display.commits.find? fun c => c.w == 0 && c.pipe == 0 && c.phase == .checking)
      = some commitAfterReset := by
    rw [tokenReused_commits]
    decide
  obtain ⟨hfails, -⟩ := checkDone 0 0 0 [] commitAfterReset [] .fault tokenReused _ reusedCheck.1 rfl hfind reusedCheck_eq
  obtain ⟨-, hgone⟩ := hfails (by decide)
  rw [commitFail_keeps_before_reset] at hgone
  exact hgone commitBeforeReset List.mem_cons_self ⟨rfl, rfl, rfl⟩

end Sys2Proof.Machine
end

section
/-!
PROOFS. A chunk map that names a memory which does not exist, and the first line 0 of a pipe (R206).
-/
namespace Sys2Proof.Machine

/-- A memory whose registers of denied accesses, were it there, would lie over those of pipe 0. -/
def strayMem : Nat := 0x97FE8

/-- The count of accesses denied at it (R518) is the word that holds the state of pipe 0. -/
theorem rcReg_strayMem : rcReg strayMem 4 = pipeReg 0 4 := rfl

/-- Pipe 0 STARTING, its domain ON, its PLL locked and its first frame composed with one commit, whose list lies in a chunk of that memory. -/
def strayListStarting : State :=
  { regs := [(domainReg (unitDomain 0x20 0) 4, 3 * 2 ^ 29), (pipeReg 0 4, 1), (pllReg 0 0xC, 2 ^ 31)],
    seed := { maps := [(pfWin * 2 ^ 19, { mapped := true, mem := strayMem })] },
    display :=
      { commits := [{ w := pfWin, pipe := 0, token := 1, list := 0, ifComposed := 0, ifDirect := 0, phase := .composing, composed := true }],
        pipes := [(0, { comp := some { frame := 0, buffer := 0, done := true } })] } }

theorem strayListStarting_ready :
    (strayListStarting.tickMem 0 []).pipeState 0 = 1 ∧ ((strayListStarting.tickMem 0 []).pipe 0).next = none
      ∧ ((strayListStarting.tickMem 0 []).pipe 0).comp = some { frame := 0, buffer := 0, done := true }
      ∧ ((strayListStarting.tickMem 0 []).pipe 0).stop = false ∧ (strayListStarting.tickMem 0 []).pipePowered 0 = true
      ∧ (strayListStarting.tickMem 0 []).rb (pllReg ((strayListStarting.tickMem 0 []).pipe 0).cfg.pll 0xC) 31 = true := by decide

/-- Each of the two writes of the latched commit's header is denied and counted, and the count goes on from RUNNING, 2. -/
theorem firstZero_strayList : ((strayListStarting.tickMem 0 []).firstZero [] 0).pipeState 0 = 4 := by decide +kernel

/-- Refutes O19, in its clause for the first line 0 of a STARTING pipe: where a chunk map names a memory that does not exist, the count of
the accesses denied there is the word that holds the pipe's state, which then reads 4 and not RUNNING. The statement ranges over all states
and does not ask that chunk maps name the device's memories, which the checks of a CREATE see to (R77, R78). -/
theorem not_raster : ¬ Obligations.Raster := by
  rintro ⟨-, -, -, -, lineZero, -⟩
  obtain ⟨hstate, hnext, hcomp, hstop, hpower, hlock⟩ := strayListStarting_ready
  obtain ⟨-, hruns, -⟩ := lineZero 0 0 [] _ strayListStarting _ rfl rfl hstate hnext hcomp rfl hstop hpower hlock
  rw [firstZero_strayList] at hruns
  exact absurd hruns (by decide)

end Sys2Proof.Machine
end

section
/-!
PROOFS. Fields of registers: what is read of a word after a field or a bit of it was written (R12), and what a fold of steps keeps.
-/
namespace Sys2Proof.Machine

theorem testBit_bits (v hi lo i : Nat) : (bits v hi lo).testBit i = (decide (i < hi + 1 - lo) && v.testBit (i + lo)) := by
  rw [bits, Nat.testBit_mod_two_pow, Nat.testBit_div_two_pow]

/-- The bits of a number with a field replaced: those of the new value inside the field, its own outside it. -/
theorem testBit_setBits {hi lo : Nat} (h : lo ≤ hi) (v x i : Nat) :
    (setBits v hi lo x).testBit i = if lo ≤ i ∧ i ≤ hi then x.testBit (i - lo) else v.testBit i := by
  have hlow : x % 2 ^ (hi + 1 - lo) * 2 ^ lo + v % 2 ^ lo < 2 ^ (hi + 1) := by
    have hx : x % 2 ^ (hi + 1 - lo) + 1 ≤ 2 ^ (hi + 1 - lo) := Nat.mod_lt _ (Nat.two_pow_pos _)
    have hv : v % 2 ^ lo < 2 ^ lo := Nat.mod_lt _ (Nat.two_pow_pos _)
    calc x % 2 ^ (hi + 1 - lo) * 2 ^ lo + v % 2 ^ lo < (x % 2 ^ (hi + 1 - lo) + 1) * 2 ^ lo := by rw [Nat.add_mul]; omega
      _ ≤ 2 ^ (hi + 1 - lo) * 2 ^ lo := Nat.mul_le_mul_right _ hx
      _ = 2 ^ (hi + 1) := by rw [← Nat.pow_add]; congr 1; omega
  rw [setBits, Nat.add_assoc, Nat.mul_comm (v / _), Nat.testBit_two_pow_mul_add _ hlow, Nat.mul_comm (x % _),
    Nat.testBit_two_pow_mul_add _ (Nat.mod_lt _ (Nat.two_pow_pos _)), Nat.testBit_mod_two_pow, Nat.testBit_mod_two_pow, Nat.testBit_div_two_pow]
  rcases Nat.lt_or_ge i lo with hbelow | habove
  · have hin : i < hi + 1 := by omega
    have hout : ¬ (lo ≤ i ∧ i ≤ hi) := by omega
    simp [hin, hbelow, hout]
  rcases Nat.lt_or_ge hi i with hover | hinside
  · have hpast : ¬ i < hi + 1 := by omega
    have hout : ¬ (lo ≤ i ∧ i ≤ hi) := by omega
    rw [if_neg hpast, if_neg hout, Nat.sub_add_cancel (by omega)]
  · have hin : i < hi + 1 ∧ ¬ i < lo ∧ i - lo < hi + 1 - lo := by omega
    obtain ⟨h1, h2, h3⟩ := hin
    simp [h1, h2, h3, habove, hinside]

section
variable (s : State) (k v : Nat) {hi lo : Nat} (h : lo ≤ hi)
include h

/-- A bit of a word after one of its fields was written. -/
theorem testBit_rd_wf {i : Nat} (hi32 : i < 32) :
    ((s.wf k hi lo v).rd k).testBit i = if lo ≤ i ∧ i ≤ hi then v.testBit (i - lo) else (s.rd k).testBit i := by
  rw [State.wf, State.rd_wr_same, Nat.testBit_mod_two_pow, testBit_setBits h, decide_eq_true hi32, Bool.true_and]

theorem rf_wf_same (hhi : hi < 32) : (s.wf k hi lo v).rf k hi lo = v % 2 ^ (hi + 1 - lo) := by
  refine Nat.eq_of_testBit_eq fun i => ?_
  rw [State.rf, testBit_bits, Nat.testBit_mod_two_pow]
  rcases Nat.lt_or_ge i (hi + 1 - lo) with hin | hout
  · have hfield : lo ≤ i + lo ∧ i + lo ≤ hi := by omega
    rw [testBit_rd_wf s k v h (by omega), if_pos hfield, Nat.add_sub_cancel]
  · rw [decide_eq_false (Nat.not_lt.mpr hout), Bool.false_and, Bool.false_and]

/-- A field apart from the one written keeps its value. -/
theorem rf_wf_ne {hi' lo' : Nat} (hhi' : hi' < 32) (hapart : hi < lo' ∨ hi' < lo) : (s.wf k hi lo v).rf k hi' lo' = s.rf k hi' lo' := by
  refine Nat.eq_of_testBit_eq fun i => ?_
  rw [State.rf, State.rf, testBit_bits, testBit_bits]
  rcases Nat.lt_or_ge i (hi' + 1 - lo') with hin | hout
  · have hfield : ¬ (lo ≤ i + lo' ∧ i + lo' ≤ hi) := by omega
    rw [testBit_rd_wf s k v h (by omega), if_neg hfield]
  · rw [decide_eq_false (Nat.not_lt.mpr hout), Bool.false_and, Bool.false_and]

theorem rb_wf_ne {i : Nat} (hi32 : i < 32) (hapart : hi < i ∨ i < lo) : (s.wf k hi lo v).rb k i = s.rb k i := by
  have hfield : ¬ (lo ≤ i ∧ i ≤ hi) := by omega
  rw [State.rb, bit, testBit_rd_wf s k v h hi32, if_neg hfield, State.rb, bit]

end

section
variable (s : State) (k : Nat) (b : Bool) {i : Nat}

theorem rb_wb_same (hi32 : i < 32) : (s.wb k i b).rb k i = b := by
  rw [State.rb, bit, State.wb, testBit_rd_wf s k _ le_rfl hi32, if_pos ⟨le_rfl, le_rfl⟩, Nat.sub_self]
  cases b <;> rfl

theorem rb_wb_ne {j : Nat} (hj32 : j < 32) (hne : j ≠ i) : (s.wb k i b).rb k j = s.rb k j :=
  rb_wf_ne s k _ le_rfl hj32 (by omega)

theorem rf_wb_ne {hi lo : Nat} (hhi : hi < 32) (hapart : i < lo ∨ hi < i) : (s.wb k i b).rf k hi lo = s.rf k hi lo :=
  rf_wf_ne s k _ le_rfl hhi hapart

end

/-- Fields and bits of words that read alike. -/
theorem rf_congr {s t : State} {k : Nat} (h : t.rd k = s.rd k) (hi lo : Nat) : t.rf k hi lo = s.rf k hi lo := by rw [State.rf, h, State.rf]
theorem rb_congr {s t : State} {k : Nat} (h : t.rd k = s.rd k) (i : Nat) : t.rb k i = s.rb k i := by rw [State.rb, h, State.rb]

/-- What every step of a fold keeps, the fold keeps. -/
theorem foldl_keeps {α β γ : Type} (g : α → γ) {f : α → β → α} (hf : ∀ a b, g (f a b) = g a) (l : List β) (a : α) :
    g (l.foldl f a) = g a :=
  calc g (l.foldl f a) = l.foldl (fun c _ => c) (g a) := (List.foldl_hom g fun a b => (hf a b).symm).symm
    _ = g a := List.foldl_fixed l

end Sys2Proof.Machine
end

section
/-!
PROOFS. The links of the ports: which registers and records evaluating a link changes (R228 to R230), and where a port's registers lie (R242).
-/
namespace Sys2Proof.Machine

/-- Registers at different places of a pipe's block are different, whichever the pipes (R242). -/
theorem pipeReg_ne {a b : Nat} (ha : a < 0x10000) (hb : b < 0x10000) (h : a ≠ b) (p q : Nat) : pipeReg p a ≠ pipeReg q b := by
  unfold pipeReg
  omega

theorem mDisplay_rf (s : State) (f : Display → Display) (k hi lo : Nat) : (s.mDisplay f).rf k hi lo = s.rf k hi lo := rfl
theorem mDisplay_rb (s : State) (f : Display → Display) (k i : Nat) : (s.mDisplay f).rb k i = s.rb k i := rfl

section
variable (s : State) (port : Nat) (trained : Bool)

/-- LINK_SHORT of the pipes whose stream a link cannot carry is raised in their own status alone. -/
theorem shortRaised_rd {k : Nat} (hk : ∀ q, k ≠ pipeReg q 0x4C) (l : List Nat) :
    (l.foldl (fun s q => s.raise (pipeReg q 0x4C) 3) s).rd k = s.rd k :=
  foldl_keeps (·.rd k) (fun _ q => (State.raise_rd ..).trans (State.rd_wr_ne _ (hk q))) l s

theorem shortRaised_display (l : List Nat) : (l.foldl (fun s q => s.raise (pipeReg q 0x4C) 3) s).display = s.display :=
  foldl_keeps (·.display) (fun _ _ => by simp) l s

theorem shortRaised_pods (l : List Nat) : (l.foldl (fun s q => s.raise (pipeReg q 0x4C) 3) s).pods = s.pods :=
  foldl_keeps (·.pods) (fun _ _ => by simp) l s

/-- Evaluating a link writes the port's status and the pipes' LINK_SHORT, no other register. -/
theorem linkEval_rd {k : Nat} (hport : k ≠ pipeReg port 0x8004) (hpipe : ∀ q, k ≠ pipeReg q 0x4C) :
    (s.linkEval port trained).rd k = s.rd k := by
  rw [State.linkEval]
  exact (shortRaised_rd _ hpipe _).trans ((State.rd_wr_ne _ hport).trans (State.rd_wr_ne _ hport))

/-- In the port's status it writes SHORT and the streams that carry video. -/
theorem linkEval_rf {hi lo : Nat} (hhi : hi < 32) (hshort : 29 < lo ∨ hi < 29) (hvideo : 19 < lo ∨ hi < 16) :
    (s.linkEval port trained).rf (pipeReg port 0x8004) hi lo = s.rf (pipeReg port 0x8004) hi lo := by
  rw [State.linkEval]
  exact (rf_congr (shortRaised_rd _ (fun q => pipeReg_ne (by decide) (by decide) (by decide) port q) _) hi lo).trans
    ((rf_wf_ne _ _ _ (by decide) hhi hvideo).trans (rf_wb_ne _ _ _ hhi hshort))

theorem linkEval_rb {i : Nat} (hi : i < 32) (hshort : i ≠ 29) (hvideo : 19 < i ∨ i < 16) :
    (s.linkEval port trained).rb (pipeReg port 0x8004) i = s.rb (pipeReg port 0x8004) i := by
  rw [State.linkEval]
  exact (rb_congr (shortRaised_rd _ (fun q => pipeReg_ne (by decide) (by decide) (by decide) port q) _) i).trans
    ((rb_wf_ne _ _ _ (by decide) hi hvideo).trans (rb_wb_ne _ _ _ hi hshort))

/-- Of the display's records it changes which streams are short and which carry video. -/
theorem linkEval_display : ∃ short video, (s.linkEval port trained).display = { s.display with short := short, video := video } :=
  ⟨_, _, by rw [State.linkEval]; simp only [shortRaised_display, State.wf_frame, State.wb_frame, State.mDisplay_display]; rfl⟩

theorem linkEval_pods : (s.linkEval port trained).pods = s.pods := by
  rw [State.linkEval]
  simp only [shortRaised_pods, State.wf_frame, State.wb_frame, State.mDisplay_frame]

end

end Sys2Proof.Machine
end

section
/-!
PROOFS. Outputs: hot plug and training of a DisplayPort link (R226 to R229), AUX transactions (R231) and DSI commands (R233, R244).
-/
namespace Sys2Proof.Machine

/-- A status code fits the RESULT field (R18). -/
theorem Status.code_lt (st : Status) : st.code < 2 ^ 7 := by cases st <;> decide

section
variable (s : State) (port : Nat)

/-! ### Training -/

/-- A port in training shows no trained link, whether something is plugged in or not (R228). -/
theorem trainStart_training : port ∈ (s.trainStart port).display.training := by
  obtain ⟨short, video, hdisplay⟩ := linkEval_display
    ((s.wb (pipeReg port 0x8004) 30 false).mDisplay fun d => { d with training := d.training.filter (· != port) ++ [port] }) port true
  rw [State.trainStart, hdisplay]
  simp

theorem trainStart_trained : (s.trainStart port).rb (pipeReg port 0x8004) 30 = false := by
  rw [State.trainStart, linkEval_rb _ _ _ (by decide) (by decide) (by decide), mDisplay_rb, rb_wb_same _ _ _ (by decide)]

theorem trainStart_hpd : (s.trainStart port).rb (pipeReg port 0x8004) 31 = s.rb (pipeReg port 0x8004) 31 := by
  rw [State.trainStart, linkEval_rb _ _ _ (by decide) (by decide) (by decide), mDisplay_rb, rb_wb_ne _ _ _ (by decide) (by decide)]

/-- What an unplug leaves: nothing in the port's status, and no training (R227, R229). -/
def State.unplugged : State :=
  ((s.wr (pipeReg port 0x8004) 0).mDisplay fun d => { d with training := d.training.filter (· != port) }).linkEval port true

theorem unplugged_rb {i : Nat} (hi : i < 32) (hshort : i ≠ 29) (hvideo : 19 < i ∨ i < 16) :
    (s.unplugged port).rb (pipeReg port 0x8004) i = false := by
  rw [State.unplugged, linkEval_rb _ _ _ hi hshort hvideo, State.rb, State.mDisplay_rd, State.rd_wr_same]
  exact Nat.zero_testBit i

theorem unplugged_training : port ∉ (s.unplugged port).display.training := by
  obtain ⟨short, video, hdisplay⟩ := linkEval_display
    ((s.wr (pipeReg port 0x8004) 0).mDisplay fun d => { d with training := d.training.filter (· != port) }) port true
  rw [State.unplugged, hdisplay]
  simp

/-- What training found, as the port's status shows it: rate and lanes of a link that is up, 0 of one that failed (R228). -/
def State.linkShown (up : Bool) (rate lanes : Nat) : State :=
  ((s.wb (pipeReg port 0x8004) 30 up).wf (pipeReg port 0x8004) 11 8 (if up then rate else 0)).wf (pipeReg port 0x8004) 2 0
    (if up then lanes else 0)

/-- What the end of a training leaves (R228). -/
def State.trainEnded (capacity : Nat) (up : Bool) (rate lanes : Nat) : State :=
  let t := s.mDisplay fun d => { d with training := d.training.filter (· != port), capacity := tset 0 d.capacity port capacity }
  (t.linkShown port up rate lanes).linkEval port true

variable (capacity : Nat) (up : Bool) (rate lanes : Nat)

theorem trainEnded_trained : (s.trainEnded port capacity up rate lanes).rb (pipeReg port 0x8004) 30 = up := by
  rw [State.trainEnded, linkEval_rb _ _ _ (by decide) (by decide) (by decide), State.linkShown,
    rb_wf_ne _ _ _ (by decide) (by decide) (by decide), rb_wf_ne _ _ _ (by decide) (by decide) (by decide), rb_wb_same _ _ _ (by decide)]

theorem trainEnded_rate :
    (s.trainEnded port capacity up rate lanes).rf (pipeReg port 0x8004) 11 8 = (if up then rate else 0) % 2 ^ 4 := by
  rw [State.trainEnded, linkEval_rf _ _ _ (by decide) (by decide) (by decide), State.linkShown,
    rf_wf_ne _ _ _ (by decide) (by decide) (by decide), rf_wf_same _ _ _ (by decide) (by decide)]

theorem trainEnded_lanes :
    (s.trainEnded port capacity up rate lanes).rf (pipeReg port 0x8004) 2 0 = (if up then lanes else 0) % 2 ^ 3 := by
  rw [State.trainEnded, linkEval_rf _ _ _ (by decide) (by decide) (by decide), State.linkShown,
    rf_wf_same _ _ _ (by decide) (by decide)]

theorem trainEnded_training : port ∉ (s.trainEnded port capacity up rate lanes).display.training := by
  obtain ⟨short, video, hdisplay⟩ := linkEval_display ((s.mDisplay fun d =>
    { d with training := d.training.filter (· != port), capacity := tset 0 d.capacity port capacity }).linkShown port up rate lanes) port true
  rw [State.trainEnded, hdisplay]
  simp [State.linkShown]

end

/-- A link trains with 4 lanes at most (R226). -/
theorem laneCount_le (n : Nat) : laneCount n ≤ 4 := by
  unfold laneCount
  split <;> omega

section
variable {dt port : Nat} {s u : State} (hu : u = s.tick dt)
include hu

theorem execHpdPlug_unplugged (hport : port < u.row.dpPorts) (hhpd : u.rb (pipeReg port 0x8004) 31 = false) :
    execHpdPlug dt port s = .next (((u.wb (pipeReg port 0x8004) 31 true).emitPf 0x44 .ok (port * 2 ^ 24 + 2 ^ 16)).trainStart port) := by
  simp only [execHpdPlug, ← hu, hhpd, Nat.not_le.mpr hport, Bool.false_eq_true, or_self, if_false]

theorem execHpdUnplug_plugged (hport : port < u.row.dpPorts) (hhpd : u.rb (pipeReg port 0x8004) 31 = true) :
    execHpdUnplug dt port s = .next ((u.unplugged port).emitPf 0x44 .ok (port * 2 ^ 24)) := by
  simp only [execHpdUnplug, ← hu, hhpd, Nat.not_le.mpr hport, not_true_eq_false, or_self, if_false, State.unplugged]

theorem execIrqHpd_plugged (lost : Bool) (hport : port < u.row.dpPorts) (hhpd : u.rb (pipeReg port 0x8004) 31 = true) :
    execIrqHpd dt port lost s = .next (if lost then (u.emitPf 0x44 .ok (port * 2 ^ 24 + 2 * 2 ^ 16)).trainStart port
      else u.emitPf 0x44 .ok (port * 2 ^ 24 + 2 * 2 ^ 16)) := by
  simp only [execIrqHpd, ← hu, hhpd, Nat.not_le.mpr hport, not_true_eq_false, or_self, if_false]

/-- The end of a training in progress, with what the sink and the fallback gave held to the port's limits (R226, R228). -/
theorem execLinkTrained_training (ok : Bool) (rate lanes capacity : Nat) {n top : Nat} {up : Bool} (hmem : port ∈ u.display.training)
    (hn : n = laneCount (min lanes (u.rf (pipeReg port 0x8000) 2 0))) (hup : up = (ok && n != 0))
    (htop : top = min (min rate (u.rf (pipeReg port 0x8000) 11 8)) (if u.dpMode port = 3 then 3 else 6)) :
    ∃ d, execLinkTrained dt port ok rate lanes capacity s
      = .next ((u.trainEnded port capacity up top n).emitPf 0x45 (if up then .ok else .fault) d) := by
  have hcontains : (!u.display.training.contains port) = false := by simp [hmem]
  have hmode : (u.mDisplay fun d =>
      { d with training := d.training.filter (· != port), capacity := tset 0 d.capacity port capacity }).dpMode port = u.dpMode port := rfl
  simp only [execLinkTrained, ← hu, hcontains, Bool.false_eq_true, if_false, mDisplay_rf, hmode, ← hn, ← htop, ← hup]
  cases up <;> exact ⟨_, rfl⟩

end

/-! ### Commands of a port -/

/-- A port busy with an AUX command (R231). -/
def State.auxTaken (s : State) (port cmd : Nat) : State :=
  (s.wb (pipeReg port 0x8020) 31 true).mDisplay fun d => { d with aux := tset none d.aux port (some cmd) }

/-- A port busy with an LP command (R233). -/
def State.lpTaken (s : State) (port cmd : Nat) : State :=
  (s.wb (pipeReg port 0xA004) 0 true).mDisplay fun d => { d with lp := tset none d.lp port (some cmd) }

section
variable (s : State) (port cmd : Nat)

theorem auxTaken_busy : (s.auxTaken port cmd).rb (pipeReg port 0x8020) 31 = true := by
  rw [State.auxTaken, mDisplay_rb, rb_wb_same _ _ _ (by decide)]

theorem auxTaken_command : tget none (s.auxTaken port cmd).display.aux port = some cmd := by
  simp only [State.auxTaken, State.mDisplay_display, tget_tset_same]

theorem auxTaken_frame : Frame [.display] [pipeReg port 0x8020] s (s.auxTaken port cmd) :=
  ((Frame.refl s _ _).wb (by simp) _ _).mDisplay (by simp) _

theorem lpTaken_busy : (s.lpTaken port cmd).rb (pipeReg port 0xA004) 0 = true := by
  rw [State.lpTaken, mDisplay_rb, rb_wb_same _ _ _ (by decide)]

theorem lpTaken_command : tget none (s.lpTaken port cmd).display.lp port = some cmd := by
  simp only [State.lpTaken, State.mDisplay_display, tget_tset_same]

theorem lpTaken_frame : Frame [.display] [pipeReg port 0xA004] s (s.lpTaken port cmd) :=
  ((Frame.refl s _ _).wb (by simp) _ _).mDisplay (by simp) _

end

section
variable {dt port : Nat} {r : Req} {s u : State} (v : Word) (hu : u = s.tick dt) (hpath : ∀ x, r.path ≠ .vi x)
include hu hpath

theorem execDpRetrain_open (hport : port < u.row.dpPorts) (hclaim : u.portClaimed 1 port r = none) :
    execDpRetrain dt r port v s = .next (if bit v.toNat 0 then u.trainStart port else u) := by
  rw [execDpRetrain, ← hu]
  cases hr : r.path with
  | vi x => exact absurd hr (hpath x)
  | _ =>
    simp only [Nat.not_le.mpr hport, if_false, hclaim]
    split <;> rfl

theorem execDpAuxCmd_open (hport : port < u.row.dpPorts) (hclaim : u.portClaimed 1 port r = none) :
    execDpAuxCmd dt r port v s = if u.rb (pipeReg port 0x8020) 31 then .next u
      else if !auxKnown (bits v.toNat 31 28) then .next (u.wf (pipeReg port 0x8020) 22 16 Status.badParam.code)
      else .next (u.auxTaken port v.toNat) := by
  rw [execDpAuxCmd, ← hu]
  cases hr : r.path with
  | vi x => exact absurd hr (hpath x)
  | _ => simp only [Nat.not_le.mpr hport, if_false, hclaim, State.auxTaken]

theorem execDsiCmd_open (hport : port < u.row.dsiPorts) (hclaim : u.portClaimed 2 port r = none)
    (hfree : u.rb (pipeReg port 0xA004) 0 = false) :
    execDsiCmd dt r port v s = if 64 < bits v.toNat 15 0 then .next (u.wf (pipeReg port 0xA004) 22 16 Status.badParam.code)
      else .next (u.lpTaken port v.toNat) := by
  rw [execDsiCmd, ← hu]
  cases hr : r.path with
  | vi x => exact absurd hr (hpath x)
  | _ => simp only [Nat.not_le.mpr hport, if_false, hclaim, hfree, Bool.false_eq_true, State.lpTaken]

end

/-- How a transaction fails: NACK, seven DEFER replies, or no reply (R231). -/
def auxFailure : Nat → Status
  | 1 => .fault
  | 2 => .busy
  | _ => .timeout

theorem putBytes_byte (s : State) (k : Nat) (b : Byte) : s.putBytes k [b] 1 = s.wr k b.toNat := by
  simp [State.putBytes, leNat]

/-- What the end of an AUX transaction leaves: BUSY clear, its result, and how many bytes came (R231). -/
def State.auxEnded (s : State) (port : Nat) (st : Status) (got : Nat) : State :=
  (((s.mDisplay fun d => { d with aux := tset none d.aux port none }).wb (pipeReg port 0x8020) 31 false).wf (pipeReg port 0x8020) 22 16
    st.code).wf (pipeReg port 0x8020) 4 0 got

section
variable (s : State) (port : Nat) (st : Status) (got : Nat)

theorem auxEnded_busy : (s.auxEnded port st got).rb (pipeReg port 0x8020) 31 = false := by
  rw [State.auxEnded, rb_wf_ne _ _ _ (by decide) (by decide) (by decide), rb_wf_ne _ _ _ (by decide) (by decide) (by decide),
    rb_wb_same _ _ _ (by decide)]

theorem auxEnded_result : (s.auxEnded port st got).rf (pipeReg port 0x8020) 22 16 = st.code := by
  rw [State.auxEnded, rf_wf_ne _ _ _ (by decide) (by decide) (by decide), rf_wf_same _ _ _ (by decide) (by decide)]
  exact Nat.mod_eq_of_lt st.code_lt

theorem auxEnded_count (hgot : got < 32) : (s.auxEnded port st got).rf (pipeReg port 0x8020) 4 0 = got := by
  rw [State.auxEnded, rf_wf_same _ _ _ (by decide) (by decide)]
  exact Nat.mod_eq_of_lt hgot

theorem auxEnded_free : tget none (s.auxEnded port st got).display.aux port = none := by
  simp only [State.auxEnded, State.wf_frame, State.wb_frame, State.mDisplay_display, tget_tset_same]

theorem auxEnded_frame {ks : List Nat} (hk : pipeReg port 0x8020 ∈ ks) : Frame [.display] ks s (s.auxEnded port st got) :=
  ((((Frame.refl s _ _).mDisplay (by simp) _).wb hk _ _).wf hk _ _ _).wf hk _ _ _

end

section
variable {dt port cmd : Nat} {s u : State} (hu : u = s.tick dt) (haux : tget none u.display.aux port = some cmd)
include hu haux

/-- Of a transaction that fails nothing is received (R231). -/
theorem execAuxTransactionDone_failed {outcome : Nat} (rx : Bytes) (hout : 1 ≤ outcome) :
    execAuxTransactionDone dt port outcome rx s = .next (u.auxEnded port (auxFailure outcome) 0) := by
  have hnothing : ¬ (outcome = 0 ∧ bit cmd 28 = true) := fun h => Nat.one_le_iff_ne_zero.mp hout h.1
  unfold execAuxTransactionDone
  simp only [← hu, haux, hnothing, if_false, if_true]
  match outcome, hout with
  | 1, _ => rfl
  | 2, _ => rfl
  | n + 3, _ => rfl

/-- A read of which one byte comes (R231). -/
theorem execAuxTransactionDone_byte (b : Byte) (hread : bit cmd 28 = true) :
    execAuxTransactionDone dt port 0 [b] s = .next ((u.auxEnded port .ok 1).wr (pipeReg port 0x8010) b.toNat) := by
  have hgot : min 16 (min [b].length (bits cmd 3 0 + 1)) = 1 := by
    rw [List.length_singleton]
    omega
  unfold execAuxTransactionDone
  simp only [← hu, haux, hread, and_self, if_true, hgot, Nat.one_ne_zero, if_false]
  exact congrArg _ (putBytes_byte _ _ b)

end

/-- What the end of an LP command leaves (R233). -/
def State.lpEnded (s : State) (port : Nat) (ok : Bool) : State :=
  ((s.mDisplay fun d => { d with lp := tset none d.lp port none }).wb (pipeReg port 0xA004) 0 false).wf (pipeReg port 0xA004) 22 16
    (if ok then Status.ok else .fault).code

section
variable (s : State) (port : Nat) (ok : Bool)

theorem lpEnded_busy : (s.lpEnded port ok).rb (pipeReg port 0xA004) 0 = false := by
  rw [State.lpEnded, rb_wf_ne _ _ _ (by decide) (by decide) (by decide), rb_wb_same _ _ _ (by decide)]

theorem lpEnded_result : (s.lpEnded port ok).rf (pipeReg port 0xA004) 22 16 = (if ok then Status.ok else .fault).code := by
  rw [State.lpEnded, rf_wf_same _ _ _ (by decide) (by decide)]
  exact Nat.mod_eq_of_lt (Status.code_lt _)

theorem lpEnded_free : tget none (s.lpEnded port ok).display.lp port = none := by
  simp only [State.lpEnded, State.wf_frame, State.wb_frame, State.mDisplay_display, tget_tset_same]

theorem lpEnded_frame : Frame [.display] [pipeReg port 0xA004] s (s.lpEnded port ok) :=
  (((Frame.refl s _ _).mDisplay (by simp) _).wb (by simp) _ _).wf (by simp) _ _ _

end

section
variable {dt port cmd : Nat} {s u : State} (ok : Bool) (reply : Bytes) (hu : u = s.tick dt) (hlp : tget none u.display.lp port = some cmd)
include hu hlp

theorem execDsiCmdDone_waits (hscan : u.dsiBusy port = true) : execDsiCmdDone dt port ok reply s = .next u := by
  simp only [execDsiCmdDone, ← hu, hlp, hscan, if_true]

/-- A command that reads nothing ends (R233). -/
theorem execDsiCmdDone_ends (hblank : u.dsiBusy port = false) (hwrite : bit cmd 21 = false) :
    execDsiCmdDone dt port ok reply s = .next (u.lpEnded port ok) := by
  simp only [execDsiCmdDone, ← hu, hlp, hblank, hwrite, Bool.false_eq_true, and_false, if_false, State.lpEnded]

end

/-! ### The statement -/

/-- Settles O18 (log entry 20): each command by its equation, and the port's registers read off the state it leaves. -/
theorem outputs : Obligations.Outputs := by
  refine ⟨?plug, ?train, ?unplug, ?retrain, ?trained, ?aux, ?auxFailed, ?auxByte, ?dsi, ?dsiDone⟩
  case plug => exact fun dt port s u hu hport hhpd => execHpdPlug_unplugged hu hport hhpd
  case train => exact fun port u _ => ⟨trainStart_training u port, trainStart_trained u port, trainStart_hpd u port⟩
  case unplug =>
    intro dt port s u hu hport _ hhpd
    exact ⟨⟨_, execHpdUnplug_plugged hu hport hhpd, unplugged_rb u port (by decide) (by decide) (by decide),
      unplugged_rb u port (by decide) (by decide) (by decide), unplugged_training u port⟩,
      execIrqHpd_plugged hu false hport hhpd, execIrqHpd_plugged hu true hport hhpd⟩
  case retrain => exact fun dt port r v s u hu hpath hport hclaim => execDpRetrain_open v hu hpath hport hclaim
  case trained =>
    intro dt port rate lanes capacity n ok up s u hu _ hmem hn hup
    obtain ⟨d, hexec⟩ := execLinkTrained_training hu ok rate lanes capacity hmem hn hup rfl
    have hlanes : n ≤ 4 := hn ▸ laneCount_le _
    refine ⟨_, d, hexec, trainEnded_trained .., ?_, ?_, trainEnded_training _ _ _ _ _ _⟩
    · refine (trainEnded_rate ..).trans (Nat.mod_eq_of_lt ?_)
      split
      · exact (min_le_right _ _).trans_lt (by split <;> decide)
      · decide
    · refine (trainEnded_lanes ..).trans (Nat.mod_eq_of_lt ?_)
      split <;> omega
  case aux =>
    intro dt port r v s u hu hpath hport hclaim
    have hexec : exec (.dpAuxCmd dt r port v) s = _ := execDpAuxCmd_open v hu hpath hport hclaim
    refine ⟨fun hbusy => ?_, fun hfree hunknown => ?_, fun hfree hknown =>
      ⟨u.auxTaken port v.toNat, ?_, auxTaken_busy .., auxTaken_command .., auxTaken_frame ..⟩⟩
    · rwa [if_pos hbusy] at hexec
    · rwa [hfree, hunknown] at hexec
    · rwa [hfree, hknown] at hexec
  case auxFailed =>
    intro dt port cmd outcome rx s u hu haux hout
    exact ⟨_, execAuxTransactionDone_failed hu haux rx hout, auxEnded_busy .., auxEnded_count _ _ _ _ (by decide), auxEnded_result _ _ _ _,
      auxEnded_free .., auxEnded_frame _ _ _ _ (by simp)⟩
  case auxByte =>
    intro dt port cmd b s u hu haux hread
    have hdata : ((u.auxEnded port .ok 1).wr (pipeReg port 0x8010) b.toNat).rd (pipeReg port 0x8020)
        = (u.auxEnded port .ok 1).rd (pipeReg port 0x8020) := State.rd_wr_ne _ (pipeReg_ne (by decide) (by decide) (by decide) _ _)
    refine ⟨_, execAuxTransactionDone_byte hu haux b hread, ?_, ?_, ?_, ?_, ?_⟩
    · exact (rb_congr hdata 31).trans (auxEnded_busy ..)
    · exact (rf_congr hdata 4 0).trans (auxEnded_count _ _ _ _ (by decide))
    · exact (rf_congr hdata 22 16).trans (auxEnded_result ..)
    · rw [State.rd_wr_same]
      have := b.isLt
      omega
    · exact (auxEnded_frame _ _ _ _ (by simp)).wr (by simp) _
  case dsi =>
    intro dt port r v s u hu hpath hport hclaim hfree
    have hexec : exec (.dsiCmd dt r port v) s = _ := execDsiCmd_open v hu hpath hport hclaim hfree
    refine ⟨fun hlong => ?_, fun hfits => ⟨u.lpTaken port v.toNat, ?_, lpTaken_busy .., lpTaken_command .., lpTaken_frame ..⟩⟩
    · rwa [if_pos hlong] at hexec
    · rwa [if_neg (Nat.not_lt.mpr hfits)] at hexec
  case dsiDone =>
    intro dt port cmd ok reply s u hu hlp
    exact ⟨fun hscan => execDsiCmdDone_waits ok reply hu hlp hscan, fun hblank hwrite =>
      ⟨_, execDsiCmdDone_ends ok reply hu hlp hblank hwrite, lpEnded_busy .., lpEnded_free .., lpEnded_result .., lpEnded_frame ..⟩⟩

end Sys2Proof.Machine
end

section
/-!
PROOFS. Requests to a pipe: PIPE_CTRL, the checks of a start or reconfiguration, their end, and the stop of a pipe (R203 to R210, R217, R225, R245).
-/
namespace Sys2Proof.Machine

/-! ### PIPE_CTRL and PIPE_STATUS -/

/-- The bits PIPE_CTRL keeps beside ENABLE (R243). -/
theorem pipeCtrlKept_mod (v : Nat) : pipeCtrlKept v % 2 ^ 31 = v &&& 0x33 := by
  rw [pipeCtrlKept, Nat.and_mod_two_pow, show 0x80000033 % 2 ^ 31 = 0x33 % 2 ^ 31 from rfl, ← Nat.and_mod_two_pow]
  exact Nat.mod_eq_of_lt (Nat.and_lt_two_pow v (by decide))

theorem pipeCtrlKept_enabled (v : Nat) : pipeCtrlKept v ||| 2 ^ 31 = (v &&& 0x33) ||| 2 ^ 31 := by
  have habsorb : (v &&& 2 ^ 31) ||| 2 ^ 31 = 2 ^ 31 := Nat.eq_of_testBit_eq fun i => by
    rw [Nat.testBit_or, Nat.testBit_and]
    cases v.testBit i <;> simp
  rw [pipeCtrlKept, show 0x80000033 = 0x33 ||| 2 ^ 31 from rfl, Nat.and_or_distrib_left, Nat.or_assoc, habsorb]

theorem enabled_lt (v : Nat) : (v &&& 0x33) ||| 2 ^ 31 < 2 ^ 32 := Nat.or_lt_two_pow (Nat.and_lt_two_pow v (by decide)) (by decide)

section
variable (s : State) (p : Nat)

theorem pipeState_congr {s t : State} (h : t.rd (pipeReg p 4) = s.rd (pipeReg p 4)) : t.pipeState p = s.pipeState p := rf_congr h 2 0

/-- PIPE_STATUS.STATE reads what was written, and a RESULT leaves it (R243). -/
theorem pipeGo_pipeState (v : Nat) : (s.pipeGo p v).pipeState p = v % 2 ^ 3 := rf_wf_same _ _ _ (by decide) (by decide)

theorem pipeResult_pipeState (st : Status) : (s.pipeResult p st).pipeState p = s.pipeState p :=
  rf_wf_ne _ _ _ (by decide) (by decide) (by decide)

theorem mPipe_pipe_same (f : PipeSt → PipeSt) : (s.mPipe p f).pipe p = f (s.pipe p) := by rw [mPipe_pipe, if_pos rfl]

theorem Frame.mPipe {s t : State} {ps : List Part} {ks : List Nat} (h : Frame ps ks s t) (hp : Part.display ∈ ps) (p : Nat)
    (f : PipeSt → PipeSt) : Frame ps ks s (t.mPipe p f) := h.mDisplay hp _

theorem mPipe_pipeState (f : PipeSt → PipeSt) (q : Nat) : (s.mPipe q f).pipeState p = s.pipeState p := rfl

end

/-! ### Requests -/

/-- The state with PIPE_CTRL written and the checks of a request begun (R205). -/
def State.pipeAsked (s : State) (p ctrl kind : Nat) : State := (s.wr (pipeReg p 0) ctrl).pipeCheckStart p kind

section
variable (s : State) (p ctrl kind : Nat)

theorem pipeAsked_ctrl (h : ctrl < 2 ^ 32) : (s.pipeAsked p ctrl kind).rd (pipeReg p 0) = ctrl :=
  (State.rd_wr_same _ _ _).trans (Nat.mod_eq_of_lt h)

/-- The configuration checked is the one the registers hold (R204, R205). -/
theorem pipeAsked_pipe : (s.pipeAsked p ctrl kind).pipe p
    = { s.pipe p with checks := kind, held := (s.pipeAsked p ctrl kind).heldCfg p, abandon := false } := by
  rw [State.pipeAsked, State.pipeCheckStart, mPipe_pipe_same]
  rfl

theorem pipeAsked_frame : Frame [.display] [pipeReg p 0] s (s.pipeAsked p ctrl kind) :=
  ((Frame.refl s _ _).wr (List.mem_singleton.mpr rfl) ctrl).mPipe (List.mem_singleton.mpr rfl) p _

end

section
variable (s : State) (p : Nat) (v : Word)

/-- Writing PIPE_CTRL leaves the pipe's state and what it has in hand. -/
theorem wrCtrl_pipeState (n : Nat) : (s.wr (pipeReg p 0) n).pipeState p = s.pipeState p :=
  pipeState_congr p (State.rd_wr_ne _ (pipeReg_ne (by decide) (by decide) (by decide) p p))

theorem wr_pipe (k n : Nat) : (s.wr k n).pipe p = s.pipe p := by simp only [State.pipe, State.wr_frame]

/-- ENABLE cleared of a RUNNING pipe, -/
theorem pipeHalt_running (hstate : s.pipeState p = 2) (hchecks : (s.pipe p).checks = 0) :
    s.pipeHalt p v = (s.wr (pipeReg p 0) (v.toNat &&& 0x33)).pipeGo p 3 := by
  simp only [State.pipeHalt, pipeCtrlKept_mod, wr_pipe, wrCtrl_pipeState, hchecks, hstate, ne_eq, not_true_eq_false, if_false]

/-- and of a STARTING one (R209). -/
theorem pipeHalt_starting (hstate : s.pipeState p = 1) (hchecks : (s.pipe p).checks = 0) :
    s.pipeHalt p v = (s.wr (pipeReg p 0) (v.toNat &&& 0x33)).mPipe p fun ps => { ps with stop := true } := by
  simp only [State.pipeHalt, pipeCtrlKept_mod, wr_pipe, wrCtrl_pipeState, hchecks, hstate, ne_eq, not_true_eq_false, if_false]

end

section
variable {dt p : Nat} {r : Req} {s u : State} (v : Word) (hu : u = s.tick dt) (hreach : u.pipeReach r p = true)
include hu hreach

theorem execPipeEnable_claimed (hclaim : u.pipeClaimed p r = true) (hstate : u.pipeState p = 0) :
    execPipeEnable dt r p v s = .next ((u.pipeResult p .claimed).pipeEvent p .claimed) := by
  simp only [execPipeEnable, ← hu, hreach, hclaim, Bool.not_true, Bool.false_eq_true, if_false, if_true, pipeResult_pipeState, hstate]

variable (hclaim : u.pipeClaimed p r = false)
include hclaim

theorem execPipeEnable_open : execPipeEnable dt r p v s =
    if u.pipeState p = 2 then .next (u.wr (pipeReg p 0) ((v.toNat &&& 0x33) ||| 2 ^ 31))
    else if u.pipeBusy p then .next (u.pipeRefuse p v.toNat false)
    else .next (u.pipeAsked p ((v.toNat &&& 0x33) ||| 2 ^ 31) 1) := by
  simp only [execPipeEnable, ← hu, hreach, hclaim, Bool.not_true, Bool.false_eq_true, if_false, pipeCtrlKept_enabled, State.pipeAsked]

theorem execPipeReconfig_running (hstate : u.pipeState p = 2) (hfree : u.pipeBusy p = false) (henable : bit v.toNat 31 = true) :
    execPipeReconfig dt r p v s = .next (u.pipeAsked p (v.toNat &&& 0x80000033) 2) := by
  simp only [execPipeReconfig, ← hu, hreach, hclaim, hstate, hfree, henable, Bool.not_true, Bool.false_eq_true, OfNat.ofNat_ne_zero, false_and,
    if_false, if_true]
  rfl

theorem execPipeDisable_open : execPipeDisable dt r p v s = .next (u.pipeHalt p v) := by
  simp only [execPipeDisable, ← hu, hreach, hclaim, Bool.not_true, Bool.false_eq_true, if_false]

end

/-- A request to a STOPPING pipe is BUSY, whatever it asks for (R209; log entry 26). -/
theorem pipeRefuse_stopping {s : State} {p : Nat} (hstate : s.pipeState p = 3) (v : Nat) (reconfig : Bool) :
    s.pipeRefuse p v reconfig = (s.pipeResult p .busy).pipeEvent p .busy := by
  simp only [State.pipeRefuse, hstate, true_or, if_true]

end Sys2Proof.Machine
end

section
/-!
PROOFS. The stop of a pipe: that giving its resources back leaves the layers, the channels and the commits as they are, and OFF shown (R209).
-/
namespace Sys2Proof.Machine

/-- The records that say which layers a pipe has and which commits wait for it. -/
def State.layerRecords (s : State) : Pods × Tbl LayerSt × List Commit := (s.pods, s.display.layers, s.display.commits)

section
variable (s : State) (p : Nat)

theorem layersOf_congr {s t : State} (h : t.layerRecords = s.layerRecords) (p : Nat) (direct : Bool) : t.layersOf p direct = s.layersOf p direct := by
  simp only [State.layerRecords, Prod.mk.injEq] at h
  obtain ⟨hpods, hlayers, -⟩ := h
  simp only [State.layersOf, State.layerOn, State.chan, State.layer, hpods, hlayers]

theorem commits_congr {s t : State} (h : t.layerRecords = s.layerRecords) : t.display.commits = s.display.commits := by
  simp only [State.layerRecords, Prod.mk.injEq] at h
  exact h.2.2

@[simp] theorem wr_layerRecords (k v : Nat) : (s.wr k v).layerRecords = s.layerRecords := by simp only [State.layerRecords, State.wr_frame]
@[simp] theorem wf_layerRecords (k hi lo v : Nat) : (s.wf k hi lo v).layerRecords = s.layerRecords := wr_layerRecords ..
@[simp] theorem wb_layerRecords (k i : Nat) (b : Bool) : (s.wb k i b).layerRecords = s.layerRecords := wf_layerRecords ..
@[simp] theorem mSeed_layerRecords (f : Seed → Seed) : (s.mSeed f).layerRecords = s.layerRecords := by
  simp only [State.layerRecords, State.mSeed_frame]

theorem mDisplay_layerRecords {f : Display → Display} (hlayers : (f s.display).layers = s.display.layers)
    (hcommits : (f s.display).commits = s.display.commits) : (s.mDisplay f).layerRecords = s.layerRecords := by
  simp only [State.layerRecords, State.mDisplay_display, State.mDisplay_frame, hlayers, hcommits]

@[simp] theorem mPipe_layerRecords (q : Nat) (f : PipeSt → PipeSt) : (s.mPipe q f).layerRecords = s.layerRecords := by
  rw [State.mPipe, mDisplay_layerRecords s rfl rfl]

@[simp] theorem setChunks_layerRecords (mem st owner : Nat) (l : List Nat) : (s.setChunks mem st owner l).layerRecords = s.layerRecords := by
  induction l generalizing s with
  | nil => rfl
  | cons i l ih => exact ih (s.setChunk mem i st owner)

@[simp] theorem releaseStore_layerRecords (l : List (List Nat)) : (s.releaseStore l).layerRecords = s.layerRecords := by
  induction l generalizing s with
  | nil => rfl
  | cons b l ih => exact (ih _).trans (setChunks_layerRecords s 0 5 0 b)

@[simp] theorem setNeed_layerRecords (need : Nat) : (s.setNeed p need).layerRecords = s.layerRecords := by
  simp only [State.setNeed, State.bwTotal, wr_layerRecords, wf_layerRecords, mSeed_layerRecords]

@[simp] theorem pllGive_layerRecords (c : PipeCfg) : (s.pllGive c).layerRecords = s.layerRecords := by
  unfold State.pllGive
  dsimp only
  split <;> simp

@[simp] theorem dscGive_layerRecords (c : PipeCfg) : (s.dscGive c).layerRecords = s.layerRecords := by
  unfold State.dscGive
  split <;> simp

@[simp] theorem payloadGive_layerRecords (c : PipeCfg) : (s.payloadGive c p).layerRecords = s.layerRecords := mDisplay_layerRecords _ rfl rfl

@[simp] theorem pipeGo_layerRecords (v : Nat) : (s.pipeGo p v).layerRecords = s.layerRecords := wf_layerRecords ..

@[simp] theorem replaceNow_layerRecords : (s.replaceNow p).layerRecords = s.layerRecords := by
  unfold State.replaceNow
  split <;> simp

@[simp] theorem linkEval_layerRecords (port : Nat) (trained : Bool) : (s.linkEval port trained).layerRecords = s.layerRecords := by
  obtain ⟨short, video, hdisplay⟩ := linkEval_display s port trained
  rw [State.layerRecords, hdisplay, linkEval_pods]
  rfl

@[simp] theorem portSettle_layerRecords (port : Nat) : (s.portSettle port).layerRecords = s.layerRecords := by
  unfold State.portSettle
  extract_lets t
  have ht : t.layerRecords = s.layerRecords := by
    simp only [t]
    split
    · rfl
    · exact mDisplay_layerRecords s rfl rfl
  split
  · exact ht
  · exact (mDisplay_layerRecords t rfl rfl).trans ht

/-! ### The state shown -/

/-- A register elsewhere in a pipe's block does not hold a state. -/
theorem wrApart_pipeState {off : Nat} (hoff : off < 0x10000) (hne : 4 ≠ off) (q v : Nat) : (s.wr (pipeReg q off) v).pipeState p = s.pipeState p :=
  pipeState_congr p (State.rd_wr_ne _ (pipeReg_ne (by decide) hoff hne p q))

theorem replaceNow_pipeState (q : Nat) : (s.replaceNow q).pipeState p = s.pipeState p := by
  unfold State.replaceNow
  split
  · rw [mPipe_pipeState, State.wb, State.wf, wrApart_pipeState _ _ (by decide) (by decide)]
  · rfl

theorem linkEval_pipeState (port : Nat) (trained : Bool) : (s.linkEval port trained).pipeState p = s.pipeState p :=
  pipeState_congr p (linkEval_rd _ _ _ (pipeReg_ne (by decide) (by decide) (by decide) p port)
    fun q => pipeReg_ne (by decide) (by decide) (by decide) p q)

theorem portSettle_pipeState (port : Nat) : (s.portSettle port).pipeState p = s.pipeState p := by
  unfold State.portSettle
  dsimp only
  (repeat' split) <;> rfl

/-- A pipe without commits has none to take as it stops. -/
theorem takeLeft_of_no_commits (h : s.display.commits = []) : s.takeLeft p = s := by
  rw [State.takeLeft, h, List.foldl_nil]

/-- A pipe with no layers and no commits shows OFF once its resources are given back (R209). -/
theorem pipeRelease_pipeState (hcommits : s.display.commits = []) (hdirect : s.layersOf p true = []) (hcomposed : s.layersOf p false = []) :
    (s.pipeRelease p).pipeState p = 0 := by
  unfold State.pipeRelease
  extract_lets ps stores need given next cleared off links regs locks settled flushed
  have hgiven : given.layerRecords = s.layerRecords := by simp [given, need, stores]
  have hnext : next.layerRecords = s.layerRecords := by
    simp only [next]
    split <;> simp [hgiven]
  have hregs : regs.layerRecords = s.layerRecords := by
    simp only [regs, replaceNow_layerRecords, wr_layerRecords, wf_layerRecords, links]
    exact (mDisplay_layerRecords _ rfl rfl).trans (by simp [off, cleared, hnext])
  have hsettled : settled.layerRecords = s.layerRecords := by
    simp only [settled, portSettle_layerRecords, linkEval_layerRecords, locks]
    exact (mDisplay_layerRecords _ rfl rfl).trans hregs
  have hoff : off.pipeState p = 0 := pipeGo_pipeState cleared p 0
  have hshown : settled.pipeState p = 0 := by
    simp only [settled, portSettle_pipeState, linkEval_pipeState]
    calc locks.pipeState p = regs.pipeState p := rfl
      _ = links.pipeState p := by
        simp only [regs, replaceNow_pipeState]
        rw [wrApart_pipeState _ _ (by decide) (by decide), wrApart_pipeState _ _ (by decide) (by decide), State.wf,
          wrApart_pipeState _ _ (by decide) (by decide)]
      _ = off.pipeState p := rfl
      _ = 0 := hoff
  have hflushed : flushed = settled := by
    simp only [flushed, layersOf_congr hsettled, hdirect, hcomposed, List.foldl_nil]
  rw [hflushed, takeLeft_of_no_commits _ _ ((commits_congr hsettled).trans hcommits), hshown]

end

end Sys2Proof.Machine
end

section
/-!
PROOFS. The ends of a pipe's checks and of its frame, the lock of its PLL, and its held settings (R203 to R210, R217, R225, R245).
-/
namespace Sys2Proof.Machine

section
variable {dt p : Nat} {st : Status} {hosts : List HostRun} {s u x : State}

/-- The checks end, with the first status of R19 (R205, R206, R208, R209). -/
theorem execPipeChecksDone_ends (hu : u = s.tickMem dt hosts) (hchecks : (u.pipe p).checks ≠ 0)
    (hst : st = byR19 (u.pipeFails p (u.pipe p).held ((u.pipe p).checks = 2) true))
    (hx : x = u.mPipe p fun ps => { ps with checks := 0, abandon := false }) :
    execPipeChecksDone dt p hosts s =
      if st ≠ .ok then .next ((x.pipeResult p st).pipeEvent p st)
      else if (u.pipe p).abandon then .next ((x.pipeResult p .ok).pipeEvent p .ok)
      else if (u.pipe p).checks = 1 then .next (x.pipeStart hosts p)
      else .next (x.pipeReconf hosts p) := by
  simp only [execPipeChecksDone, ← hu, hchecks, if_false, ← hst, ← hx]

/-- No composition of a pipe that is not STARTING waits for a PLL (R206). -/
theorem startFirst_of_not_starting (h : s.pipeState p ≠ 1) : s.startFirst hosts p = s := if_neg fun hfirst => h hfirst.1

end

/-- A PLL locks that no STARTING pipe uses (R203). -/
theorem execPllLocked_unused {dt j : Nat} {hosts : List HostRun} {s u : State} (hu : u = s.tickMem dt hosts)
    (hstarting : u.rb (pllReg j 0xC) 30 = true) (hunlocked : u.rb (pllReg j 0xC) 31 = false)
    (hpipes : ∀ p, p < 16 → (u.pipe p).cfg.pll = j → u.pipeState p ≠ 1) :
    execPllLocked dt j hosts s = .next (u.wb (pllReg j 0xC) 31 true) := by
  simp only [execPllLocked, ← hu, hstarting, hunlocked, Bool.false_eq_true, not_false_eq_true, and_self, if_true]
  refine congrArg _ (List.foldlRecOn (motive := (· = u.wb (pllReg j 0xC) 31 true)) _ _ rfl fun t ht p hp => ?_)
  have hp16 : p < 16 := List.mem_range.mp hp
  have hne : pipeReg p 4 ≠ pllReg j 0xC := by
    unfold pipeReg pllReg
    omega
  subst ht
  split
  · next hpll =>
    rw [State.wb, State.wf, wr_pipe] at hpll
    refine startFirst_of_not_starting ?_
    rw [State.wb, State.wf, pipeState_congr p (State.rd_wr_ne _ hne)]
    exact hpipes p hp16 hpll
  · rfl

theorem execPipeStopped_stopping {dt p : Nat} {s u : State} (hu : u = s.tick dt) (hstate : u.pipeState p = 3) :
    execPipeStopped dt p s = .next ((u.pipeRelease p).pipeEvent p .ok) := by
  simp only [execPipeStopped, ← hu, hstate, true_or, if_true]

/-- A word of a LUT is stored where its bank is not in use (R217). -/
theorem execPipeLutWrite_open {dt addr p bank v : Nat} {cube : Bool} {r : Req} {s u : State} (hu : u = s.tick dt)
    (hlut : lutAt addr = some (p, cube, bank)) (hreach : u.pipeReach r p = true) (hclaim : u.pipeClaimed p r = false) :
    execPipeLutWrite dt r addr v s = .next (if bankUsed (u.pipe p).colour cube bank || bankUsed (u.rd (pipeReg p 0x24)) cube bank
      then u.raise (pipeReg p 0x4C) 0 else u.wr64 addr (v % 2 ^ 48)) := by
  have hword : bits v 47 0 = v % 2 ^ 48 := by simp only [bits, Nat.pow_zero, Nat.div_one]
  simp only [execPipeLutWrite, ← hu, hlut, hreach, hclaim, Bool.not_true, Bool.false_eq_true, if_false, hword]
  split <;> rfl

section
variable {dt : Nat} {r : Req} {s u : State} (v : Word) (hu : u = s.tick dt) (hpath : ∀ x, r.path ≠ .vi x)
include hu hpath

theorem execPllWrite_pf {j : Nat} (hj : j < u.row.plls) :
    execPllWrite dt r j 0 v s = .next (u.wr (pllReg j 0) (v.toNat &&& 0x1FF))
      ∧ execPllWrite dt r j 1 v s = .next (u.wr (pllReg j 4) (v.toNat &&& 0xFFFFFF))
      ∧ execPllWrite dt r j 2 v s = .next (u.wr (pllReg j 8) (v.toNat &&& 0x07FF07FF)) := by
  simp only [execPllWrite, ← hu]
  cases hr : r.path with
  | vi x => exact absurd hr (hpath x)
  | _ => simp only [Nat.not_le.mpr hj, if_false, Nat.zero_mul, Nat.one_mul, Nat.reduceMul, and_self]

theorem execDscCfgWrite_pf {e : Nat} (he : e < u.row.dscs) :
    execDscCfgWrite dt r e v s = .next (u.wr (dscReg e 0) (v.toNat &&& 0xE3FF3FFF)) := by
  rw [execDscCfgWrite, ← hu]
  cases hr : r.path with
  | vi x => exact absurd hr (hpath x)
  | _ => exact if_neg (Nat.not_le.mpr he)

end

/-! ### The statement -/

/-- Settles O17 (log entries 18 and 26): each command by its equation, and the pipe's state and registers read off the states it names. -/
theorem pipeRequests : Obligations.PipeRequests := by
  refine ⟨?requests, ?claimed, ?checked, ?locked, ?stopped, ?lut, ?settings⟩
  case requests =>
    intro dt p r v s u hu hreach hclaim
    have henable : exec (.pipeEnable dt r p v) s = _ := execPipeEnable_open v hu hreach hclaim
    have hdisable : exec (.pipeDisable dt r p v) s = _ := execPipeDisable_open v hu hreach hclaim
    refine ⟨fun hstate hfree => ?_, fun hstate => ?_, fun hstate hbusy => ⟨?_, fun hstop => pipeRefuse_stopping hstop _ _⟩,
      fun hstate hfree hbit => ?_, fun hstate hchecks => ?_, fun hstate hchecks => ?_⟩
    · refine ⟨_, ?_, pipeAsked_ctrl u p _ 1 (enabled_lt _), ?_, ?_, ?_, pipeAsked_frame u p _ 1⟩
      · rwa [if_neg (by omega), hfree] at henable
      all_goals rw [pipeAsked_pipe]
    · rwa [if_pos hstate] at henable
    · rwa [if_neg hstate, if_pos hbusy] at henable
    · refine ⟨_, execPipeReconfig_running v hu hreach hclaim hstate hfree hbit, pipeAsked_ctrl u p _ 2 ?_, ?_, ?_, pipeAsked_frame u p _ 2⟩
      · exact Nat.and_lt_two_pow _ (by decide)
      all_goals rw [pipeAsked_pipe]
    · rw [pipeHalt_running u p v hstate hchecks] at hdisable
      have hne : pipeReg p 0 ≠ pipeReg p 4 := pipeReg_ne (by decide) (by decide) (by decide) p p
      refine ⟨_, hdisable, pipeGo_pipeState _ p 3, ?_, ((Frame.refl u _ _).wr (by simp) _).wf (by simp) _ _ _⟩
      rw [State.pipeGo, State.wf, State.rd_wr_ne _ hne, State.rd_wr_same]
      exact Nat.mod_eq_of_lt (Nat.and_lt_two_pow _ (by decide))
    · rw [pipeHalt_starting u p v hstate hchecks] at hdisable
      refine ⟨_, hdisable, ?_, ?_, ((Frame.refl u _ _).wr (by simp) _).mPipe (by simp) _ _⟩
      · rw [mPipe_pipeState, wrCtrl_pipeState, hstate]
      · rw [mPipe_pipe_same]
  case claimed => exact fun dt p r v s u hu hreach hclaim hstate => execPipeEnable_claimed v hu hreach hclaim hstate
  case checked =>
    intro dt p st hosts s u x hu hchecks hst hx
    have hexec : exec (.pipeChecksDone dt p hosts) s = _ := execPipeChecksDone_ends hu hchecks hst hx
    refine ⟨fun hfail => ⟨?_, ?_⟩, fun hok habandon => ?_, fun hok hkept hkind => ?_, fun hok hkept hkind => ?_⟩
    · rwa [if_pos hfail] at hexec
    · rw [pipeResult_pipeState, hx, mPipe_pipeState]
    · rwa [if_neg (not_not.mpr hok), if_pos habandon] at hexec
    · rwa [if_neg (not_not.mpr hok), hkept, if_neg Bool.false_ne_true, if_pos hkind] at hexec
    · rwa [if_neg (not_not.mpr hok), hkept, if_neg Bool.false_ne_true, if_neg (by omega)] at hexec
  case locked => exact fun dt j hosts s u hu hstarting hunlocked hpipes _ => execPllLocked_unused hu hstarting hunlocked hpipes
  case stopped =>
    exact fun dt p s u hu _ hstate hcommits hdirect hcomposed =>
      ⟨_, execPipeStopped_stopping hu hstate, pipeRelease_pipeState u p hcommits hdirect hcomposed⟩
  case lut => exact fun dt addr p bank v cube r s u hu hlut hreach hclaim => execPipeLutWrite_open hu hlut hreach hclaim
  case settings =>
    exact fun dt j r v s u hu hpath => ⟨fun hj => execPllWrite_pf v hu hpath hj, fun he => execDscCfgWrite_pf v hu hpath he⟩

end Sys2Proof.Machine
end

section
/-!
PROOFS. The checks of R264, and the registers of display check regions and data check units (R254 to R265, R274).
-/
namespace Sys2Proof.Machine

/-! ### The check values of the spec's table -/

/-- Settles O20: each setting of the table of R264, evaluated over its nine bytes. -/
theorem checkValues : Obligations.CheckValues := by
  refine ⟨?crc8, ?crc16, ?crc32, ?crc32c, ?crc64⟩
  case crc8 => decide +kernel
  case crc16 => decide +kernel
  case crc32 => decide +kernel
  case crc32c => decide +kernel
  case crc64 => decide +kernel

/-! ### Display check regions -/

/-- A write to a held register of a region, where the pipe's check unit set is in the directory (R254, R262, R274). -/
theorem execChkWrite_held {dt addr k x m : Nat} {r : Req} {s u : State} (v : Word) (hu : u = s.tick dt) (haddr : u.checkAddr r addr = some k)
    (hregion : k % 0x1000 < 0x400) (hmask : regionMask (k % 0x40) = some m) (hunit : u.unitIndex 0x70 ((k - 0x03C10000) / 0x1000) = some x) :
    execChkWrite dt r addr v s = .next
      (if u.claimBlocks x (u.reqSecure r) then u.wf (setStatus ((k - 0x03C10000) / 0x1000)) 22 16 Status.claimed.code
       else u.wr k (if k % 0x40 = 8 then max 1 (bits (v.toNat &&& m) 31 16) * 2 ^ 16 + max 1 (bits (v.toNat &&& m) 15 0) else v.toNat &&& m)) := by
  have hoff : k % 0x1000 % 0x40 = k % 0x40 := Nat.mod_mod_of_dvd k (by decide)
  simp only [execChkWrite, ← hu, haddr, hregion, if_true, hoff, hmask, hunit]
  exact (apply_ite Host.Outcome.next _ _ _).symm

/-- A RUNNING pipe's set that has published nothing for two frame times, and has not said so (R257; log entry 67). -/
theorem execFrameMissing_due {dt p : Nat} {s u : State} (hu : u = s.tick dt) (hstate : u.pipeState p = 2) (hlast : tget 0 u.checks.published p ≠ 0)
    (hunsaid : u.rb (setStatus p) 31 = false)
    (hdue : 2 * (u.pipe p).cfg.vTotal * (u.pipe p).cfg.linePs ≤ (u.now + 1 - tget 0 u.checks.published p) * 1000) :
    execFrameMissing dt p s = .next ((u.raise (setStatus p) 31).checkEvent 0xA3 .late
      (p * 2 ^ 24 + tget (2 ^ 64 - 1) u.checks.lastFrames p % 2 ^ 24)) := by
  simp only [execFrameMissing, ← hu]
  exact if_pos ⟨hstate, hlast, hdue, by rw [hunsaid]; exact Bool.false_ne_true⟩

/-! ### Data check units through their registers -/

/-- A byte of a word, taken out by its place. -/
theorem ofNat_div_eq_extractLsb' (v : Word) (i : Nat) : BitVec.ofNat 8 (v.toNat / 2 ^ i) = v.extractLsb' i 8 := by
  rw [BitVec.extractLsb', Nat.shiftRight_eq_div_pow]

/-- The bytes of a word from bits 7 to 0 upward (R265). -/
theorem leBytes_word (v : Word) :
    leBytes v.toNat 4 = [v.extractLsb' 0 8, v.extractLsb' 8 8, v.extractLsb' 16 8, v.extractLsb' 24 8] := by
  simp only [leBytes, Nat.div_div_eq_div_mul, ← ofNat_div_eq_extractLsb', Nat.pow_zero, Nat.div_one, Nat.reducePow, Nat.reduceMul]

/-- A unit that serves contexts takes no write through its registers, -/
theorem dcuOpen_of_direct_le {s : State} {k : Nat} (r : Req) (hserves : s.dcuDirect ≤ k) : s.dcuOpen r k = false := by
  rw [State.dcuOpen, decide_eq_false (Nat.not_lt.mpr hserves), Bool.and_false]

/-- and says so in DCU_STATUS (R265). -/
theorem dcuClosed_of_not_vi {r : Req} (hpath : ∀ x, r.path ≠ .vi x) (s : State) (k : Nat) :
    s.dcuClosed r k = s.wr (dcuReg k 0x3C) Status.denied.code := by
  rw [State.dcuClosed]
  split
  · next x hx => exact absurd hx (hpath x)
  · rfl

section
variable {dt k : Nat} {r : Req} {s u : State} (v : Word) (hu : u = s.tick dt)
include hu

section
variable (hopen : u.dcuOpen r k = true)
include hopen

theorem execDcuData_open : execDcuData dt r k v s = .next (u.dcuFeed k (leBytes v.toNat 4)) := by
  simp only [execDcuData, ← hu, hopen, if_true]

theorem execDcuData8_open : execDcuData8 dt r k v s = .next (u.dcuFeed k (leBytes v.toNat 1)) := by
  simp only [execDcuData8, ← hu, hopen, if_true]

theorem execDcuRestart_open : execDcuRestart dt r k s = .next (u.wr64 (dcuReg k 0x20) (u.rd64 (dcuReg k 0x10))) := by
  simp only [execDcuRestart, ← hu, hopen, if_true]

/-- A value is stored when it fits the unit's width (R264, R274). -/
theorem execDcuValueWrite_open (n x : Nat) : execDcuValueWrite dt r k n x s = .next
    (if x < 2 ^ u.dcuWidth k then u.wr64 (dcuReg k (8 + n * 8)) x else u.wr (dcuReg k 0x3C) Status.badParam.code) := by
  simp only [execDcuValueWrite, ← hu, hopen, if_true, State.dcuRefuse]
  rcases Nat.lt_or_ge x (2 ^ u.dcuWidth k) with hfits | hwide
  · rw [if_neg (Nat.not_le.mpr hfits), if_pos hfits]
  · rw [if_pos hwide, if_neg (Nat.not_lt.mpr hwide)]

/-- DCU_CFG that widens a unit: POLY, INIT and XOROUT fit the new width as they fitted the old one (R274). -/
theorem execDcuCfgWrite_widened (hwider : u.dcuWidth k < widthBits (bits v.toNat 3 2)) (hpoly : u.rd64 (dcuReg k 8) < 2 ^ u.dcuWidth k)
    (hinit : u.rd64 (dcuReg k 0x10) < 2 ^ u.dcuWidth k) (hxor : u.rd64 (dcuReg k 0x18) < 2 ^ u.dcuWidth k) :
    execDcuCfgWrite dt r k v s = .next ((u.wr (dcuReg k 0) (bits v.toNat 3 0)).wr64 (dcuReg k 0x20) (u.rd64 (dcuReg k 0x10))) := by
  have hgrows : 2 ^ u.dcuWidth k ≤ 2 ^ widthBits (bits v.toNat 3 2) := Nat.pow_le_pow_right (by decide) hwider.le
  simp only [execDcuCfgWrite, ← hu, hopen, if_true]
  rw [if_neg hwider.ne', if_neg (by omega)]

end

section
variable (hpath : ∀ x, r.path ≠ .vi x) (hserves : u.dcuDirect ≤ k)

include hpath hserves

theorem execDcuData_serving : execDcuData dt r k v s = .next (u.wr (dcuReg k 0x3C) Status.denied.code) := by
  simp only [execDcuData, ← hu, dcuOpen_of_direct_le r hserves, Bool.false_eq_true, if_false, dcuClosed_of_not_vi hpath]

theorem execDcuRestart_serving : execDcuRestart dt r k s = .next (u.wr (dcuReg k 0x3C) Status.denied.code) := by
  simp only [execDcuRestart, ← hu, dcuOpen_of_direct_le r hserves, Bool.false_eq_true, if_false, dcuClosed_of_not_vi hpath]

theorem execDcuCfgWrite_serving : execDcuCfgWrite dt r k v s = .next (u.wr (dcuReg k 0x3C) Status.denied.code) := by
  simp only [execDcuCfgWrite, ← hu, dcuOpen_of_direct_le r hserves, Bool.false_eq_true, if_false, dcuClosed_of_not_vi hpath]

end

end

/-- A 64-bit register reads as a 64-bit number (R9). -/
theorem rd64_lt (s : State) (k : Nat) : s.rd64 k < 2 ^ 64 := by
  have hlow := s.rd_lt k
  have hhigh := s.rd_lt (k + 4)
  rw [State.rd64]
  omega

/-- Writing DCU_VALUE leaves DCU_CFG (R273). -/
theorem wr64_dcuValue_cfg (s : State) (k v : Nat) : (s.wr64 (dcuReg k 0x20) v).rd (dcuReg k 0) = s.rd (dcuReg k 0) := by
  have hlow : dcuReg k 0 ≠ dcuReg k 0x20 := by unfold dcuReg; omega
  have hhigh : dcuReg k 0 ≠ dcuReg k 0x20 + 4 := by unfold dcuReg; omega
  rw [State.wr64, State.rd_wr_ne _ hhigh, State.rd_wr_ne _ hlow]

/-! ### The statement -/

/-- Settles O21: each command by its equation, and a widened unit's registers read off the state it leaves. -/
theorem checkUnits : Obligations.CheckUnits := by
  refine ⟨?region, ?missing, ?direct, ?serving⟩
  case region => exact fun dt addr k x m r v s u hu haddr hregion hmask hunit => execChkWrite_held v hu haddr hregion hmask hunit
  case missing =>
    exact fun dt p s u hu hstate hlast hunsaid hdue =>
      ⟨p * 2 ^ 24 + tget (2 ^ 64 - 1) u.checks.lastFrames p % 2 ^ 24, by omega, execFrameMissing_due hu hstate hlast hunsaid hdue⟩
  case direct =>
    intro dt k r v s u hu hopen
    refine ⟨?_, ?_, execDcuRestart_open hu hopen, fun n x _ => execDcuValueWrite_open hu hopen n x, fun hwider hpoly hinit hxor => ?_⟩
    · have hexec : exec (.dcuData dt r k v) s = _ := execDcuData_open v hu hopen
      rwa [leBytes_word] at hexec
    · exact execDcuData8_open v hu hopen
    · refine ⟨_, execDcuCfgWrite_widened v hu hopen hwider hpoly hinit hxor, ?_, ?_, ((Frame.refl u _ _).wr (by simp) _).wr64 (by simp) ?_ _⟩
      · rw [wr64_dcuValue_cfg, State.rd_wr_same]
        simp only [bits]
        omega
      · rw [rd64_wr64, Nat.mod_eq_of_lt (rd64_lt u _)]
      · simp [dcuReg]
  case serving =>
    exact fun dt k r v s u hu hpath hserves =>
      ⟨execDcuData_serving v hu hpath hserves, execDcuRestart_serving hu hpath hserves, execDcuCfgWrite_serving v hu hpath hserves⟩

end Sys2Proof.Machine
end

section
/-!
PROOFS. Check contexts: CREATE, dispatch of entries, and what FEED, FINISH, SET and RESTART leave (R264 to R272).
-/
namespace Sys2Proof.Machine

/-! ### A context -/

theorem Frame.mCtx {s t : State} {ps : List Part} {ks : List Nat} (h : Frame ps ks s t) (hp : Part.checks ∈ ps) (i : Nat)
    (f : CheckCtx → CheckCtx) : Frame ps ks s (t.mCtx i f) := h.mChecks hp _

section
variable (s : State) (i k : Nat)

theorem mCtx_ctx (f : CheckCtx → CheckCtx) : (s.mCtx i f).ctx i = f (s.ctx i) := by
  rw [State.mCtx, State.ctx, State.mChecks_checks, tget_tmod, if_pos rfl, State.ctx]

/-- A ring that joins those that wait leaves every context as it was (R268), -/
theorem ctxReady_ctx : (s.ctxReady k).ctx i = s.ctx i := by
  fun_cases State.ctxReady <;> rfl

/-- and nothing but the order of the rings changes. -/
theorem ctxReady_frame {s t : State} {ps : List Part} {ks : List Nat} (h : Frame ps ks s t) (hp : Part.checks ∈ ps) :
    Frame ps ks s (t.ctxReady k) := by
  fun_cases State.ctxReady
  · exact h.mChecks hp _
  · exact h

/-- An entry that ends runs no longer, and leaves the rest of its context (R268). -/
theorem ctxEnd_ctx : (s.ctxEnd i).ctx i = { s.ctx i with running := none } := by
  rw [State.ctxEnd, ctxReady_ctx, mCtx_ctx]

theorem ctxEnd_frame {s t : State} {ps : List Part} {ks : List Nat} (h : Frame ps ks s t) (hp : Part.checks ∈ ps) :
    Frame ps ks s (t.ctxEnd i) := ctxReady_frame _ (h.mCtx hp _ _) hp

/-- The state with a context's running value replaced. -/
def State.withReg (s : State) (i reg : Nat) : State := s.mCtx i fun c => { c with reg := reg }

theorem withReg_ctx (reg : Nat) : (s.withReg i reg).ctx i = { s.ctx i with reg := reg } := mCtx_ctx ..

theorem withReg_frame (reg : Nat) : Frame [.checks] [] s (s.withReg i reg) := 
  (Frame.refl s _ _).mCtx (List.mem_singleton.mpr rfl) i _

/-- What an entry that only replaces the running value leaves (R269). -/
theorem withReg_ctxEnd (reg : Nat) :
    ((s.withReg i reg).ctxEnd i).ctx i = { s.ctx i with reg := reg, running := none }
      ∧ Frame [.checks] [] s ((s.withReg i reg).ctxEnd i) :=
  ⟨by rw [ctxEnd_ctx, withReg_ctx], ctxEnd_frame _ (withReg_frame ..) (List.mem_singleton.mpr rfl)⟩

end

/-! ### CREATE -/

/-- The state with the context at an index made from a parameter block: its running value is INIT (R266). -/
def State.ctxMade (s : State) (i n : Nat) : State := s.mChecks fun c => { c with ctxs := tset {} c.ctxs i { params := n, reg := ctxInit n } }

theorem ctxMade_ctx (s : State) (i n : Nat) : (s.ctxMade i n).ctx i = { params := n, reg := ctxInit n } := by
  rw [State.ctxMade, State.ctx, State.mChecks_checks, tget_tset_same]

theorem ctxMade_pods (s : State) (i n : Nat) : (s.ctxMade i n).pods = s.pods := by simp only [State.ctxMade, State.mChecks_frame]

/-- Taking an index leaves the contexts. -/
theorem takeIndex_ctx (s : State) (w kind i : Nat) (ph : ChanPhase) (j : Nat) : (s.takeIndex w kind i ph).ctx j = s.ctx j := by
  have hframe : Frame [.pods] [grantReg w kind 8] s (s.takeIndex w kind i ph) :=
    takeIndex_frame (Frame.refl s _ _) (by simp) (fun _ => by simp) i ph
  have hchecks : (s.takeIndex w kind i ph).checks = s.checks := hframe.parts .checks (by simp)
  rw [State.ctx, hchecks, State.ctx]

/-- CREATE of a check context with a valid block, while some unit serves contexts and the window has an index (R266). -/
theorem execCreateCheckContext_ok {dt w i : Nat} {e : CtlEntry} {b : Bytes} {s u : State} (hu : u = s.tick dt)
    (hwait : u.ctlWaits w 1 kCheck = some e) (hlen : e.paramLen = 32) (hb : b.length = 32) (hok : u.hostOk w = true)
    (hvalid : ctxBad (leNat b) = false) (hunits : u.dcuDirect ≠ 64) (hpick : u.pickIndex w kCheck = some i) :
    execCreateCheckContext dt w (some b) s = .next ((u.ctxMade i (leNat b)).createDone w e kCheck i) := by
  simp only [execCreateCheckContext, ← hu, hwait, hlen, ne_eq, not_true_eq_false, if_false, params_host hok e (hb.trans hlen.symm), hvalid,
    Bool.false_eq_true, hunits, hpick]
  rfl

/-! ### Dispatch -/

/-- The state in which the next entry of a ring is taken from its queue, and the ring waits no longer (R268). -/
def State.entryTaken (s : State) (k : Nat) (q : List Bytes) : State :=
  (s.mChecks fun c => { c with ready := c.ready.filter (· != k) }).mPods fun p => { p with fetched := tset [] p.fetched k q }

section
variable (s : State) (k : Nat) (q : List Bytes)

theorem entryTaken_queue : (s.entryTaken k q).ringQueue k = q := by
  rw [State.entryTaken, State.ringQueue, State.mPods_pods, tget_tset_same]

theorem entryTaken_frame : Frame [.pods, .checks] [] s (s.entryTaken k q) :=
  ((Frame.refl s [.pods, .checks] []).mChecks (by simp) _).mPods (by simp) _

end

/-- The entry of the ring ready longest gets a free unit: it runs in its context, or is out of range and completes (R267, R268). -/
theorem execCheckEntryDispatch_entry {dt k : Nat} {b : Bytes} {q : List Bytes} {s u : State} (hu : u = s.tick dt)
    (hfirst : (u.checks.ready.find? fun k => (u.ctx (u.ringCtx k)).running.isNone) = some k)
    (hunits : (u.checks.ctxs.countP fun c => c.2.running.isSome) < 64 - u.dcuDirect) (hqueue : u.ringQueue k = b :: q) :
    execCheckEntryDispatch dt s = .next
      (if entBad (leNat b) then ((u.entryTaken k q).checkDone (u.ringCtx k) .badParam (entTag (leNat b)) 0).ctxReady k
       else (u.entryTaken k q).mCtx (u.ringCtx k) fun c => { c with running := some b, ring := k }) := by
  have hqueue' : (u.mChecks fun c => { c with ready := c.ready.filter (· != k) }).ringQueue k = b :: q := hqueue
  simp only [execCheckEntryDispatch, ← hu, hfirst, if_neg (Nat.not_le.mpr hunits), hqueue']
  exact (apply_ite Host.Outcome.next _ _ _).symm

/-! ### Entries -/

/-- A read of memory that does not fault makes no report (R76). -/
theorem load_of_peek {s : State} {w cls addr n : Nat} {hosts : List HostRun} {data : Bytes} (h : s.peek w cls hosts addr n = .ok data) :
    s.load w cls hosts addr n = (some data, s) := by
  rw [State.load, h]

section
variable {dt i n : Nat} {s u : State}

/-- FEED without the alive check (R269). -/
theorem execChkFeed_plain {hosts : List HostRun} {data : Bytes} (hu : u = s.tickMem dt hosts) (hruns : u.ctxRuns i 1 = some n)
    (halive : bit n 8 = false) (hdata : u.peek (u.chan kCheck i).owner 4 hosts (bits n 191 128) (bits n 63 32) = .ok data) :
    execChkFeed dt i hosts s = .next ((u.withReg i (crcFeed (ctxWidth (u.ctx i).params) (ctxPoly (u.ctx i).params) (bit (u.ctx i).params 11)
      (u.ctx i).reg data)).ctxEnd i) := by
  simp only [execChkFeed, ← hu, hruns, halive, Bool.false_and, Bool.false_eq_true, if_false, load_of_peek hdata]
  rfl

variable (hu : u = s.tick dt)
include hu

/-- FINISH that writes no result to memory (R269). -/
theorem execChkFinish_unwritten {res : Nat} (hruns : u.ctxRuns i 2 = some n) (haddr : bits n 191 128 = 0)
    (hres : res = crcResult (ctxWidth (u.ctx i).params) (ctxXor (u.ctx i).params) (bit (u.ctx i).params 10) (u.ctx i).reg) :
    execChkFinish dt i s = .next (((u.withReg i (ctxInit (u.ctx i).params)).checkDone i
      (if bit n 9 && res != bits n 127 64 then Status.badCrc else .ok) (entTag n) res).ctxEnd i) := by
  simp only [execChkFinish, ← hu, hruns, haddr, if_true, ← hres]
  rfl

theorem execChkSet_running (hruns : u.ctxRuns i 3 = some n) :
    execChkSet dt i s = .next (if 2 ^ ctxWidth (u.ctx i).params ≤ bits n 127 64 then (u.checkDone i .badParam (entTag n) 0).ctxEnd i
      else (u.withReg i (bits n 127 64)).ctxEnd i) := by
  simp only [execChkSet, ← hu, hruns]
  exact (apply_ite Host.Outcome.next _ _ _).symm

theorem execChkRestart_running (hruns : u.ctxRuns i 4 = some n) :
    execChkRestart dt i s = .next ((u.withReg i (ctxInit (u.ctx i).params)).ctxEnd i) := by
  simp only [execChkRestart, ← hu, hruns]
  rfl

end

/-! ### The statement -/

/-- Settles O22: each command by its equation, and the context read off the state it names. -/
theorem checkContexts : Obligations.CheckContexts := by
  refine ⟨?create, ?dispatch, ?feed, ?finish, ?set, ?restart⟩
  case create =>
    intro dt w i e b s u hu _ hwait hlen hb hok hvalid hunits hpick
    have hexec := execCreateCheckContext_ok hu hwait hlen hb hok hvalid hunits hpick
    rw [createDone_free e (ctxMade_pods ..) hpick] at hexec
    refine ⟨_, hexec, takeIndex_chan .., ?_, ?_⟩
    · rw [takeIndex_ctx, ctxMade_ctx]
    · exact takeIndex_frame ((Frame.refl u _ _).mChecks (by simp) _) (by simp) (fun _ => by simp) i .live
  case dispatch =>
    rintro dt i k b q s u hu hfirst rfl hunits hqueue
    have hexec : exec (.checkEntryDispatch dt) s = _ := execCheckEntryDispatch_entry hu hfirst hunits hqueue
    refine ⟨fun hgood => ?_, fun hbad => ?_⟩
    · rw [hgood, if_neg Bool.false_ne_true] at hexec
      exact ⟨_, hexec, mCtx_ctx .., rfl, entryTaken_queue .., (entryTaken_frame u k q).mCtx (by simp) _ _⟩
    · rw [if_pos hbad] at hexec
      exact ⟨_, hexec, entryTaken_queue .., rfl, entryTaken_frame ..⟩
  case feed =>
    intro dt i n data hosts s u hu hruns halive hdata
    obtain ⟨hctx, hframe⟩ := withReg_ctxEnd u i
      (crcFeed (ctxWidth (u.ctx i).params) (ctxPoly (u.ctx i).params) (bit (u.ctx i).params 11) (u.ctx i).reg data)
    exact ⟨_, execChkFeed_plain hu hruns halive hdata, by rw [hctx], by rw [hctx], hframe⟩
  case finish =>
    intro dt i n res s u hu hruns haddr hres
    exact ⟨_, execChkFinish_unwritten hu hruns haddr hres, by rw [withReg_ctx], withReg_frame ..⟩
  case set =>
    intro dt i n s u hu hruns
    have hexec : exec (.chkSet dt i) s = _ := execChkSet_running hu hruns
    refine ⟨fun hfits => ?_, fun hwide => ?_⟩
    · rw [if_neg (Nat.not_le.mpr hfits)] at hexec
      obtain ⟨hctx, hframe⟩ := withReg_ctxEnd u i (bits n 127 64)
      exact ⟨_, hexec, by rw [hctx], by rw [hctx], hframe⟩
    · rwa [if_pos hwide] at hexec
  case restart =>
    intro dt i n s u hu hruns
    obtain ⟨hctx, hframe⟩ := withReg_ctxEnd u i (ctxInit (u.ctx i).params)
    exact ⟨_, execChkRestart_running hu hruns, by rw [hctx], by rw [hctx], by rw [hctx], hframe⟩

end Sys2Proof.Machine
end

section
/-!
PROOFS. Queues: a queue's record, a queue brought up to date, and the start of a descriptor (R303 to R309, R323, R326, R329, R339).
-/
namespace Sys2Proof.Machine

/-! ### A queue's record -/

theorem mQueue_queue (s : State) (q : Nat) (f : QueueSt → QueueSt) : (s.mQueue q f).queue q = f (s.queue q) := by
  rw [State.queue, State.mQueue, State.mRender_render, tget_tmod, if_pos rfl, State.queue]

theorem queue_congr {s t : State} (h : t.render = s.render) (q : Nat) : t.queue q = s.queue q := by rw [State.queue, h, State.queue]

/-- A queue's class hangs on the fill class of its record alone. -/
theorem mQueue_qCls {s : State} {q : Nat} {f : QueueSt → QueueSt} (hfill : (f (s.queue q)).fill = (s.queue q).fill) :
    (s.mQueue q f).qCls q = s.qCls q := by
  rw [State.qCls, mQueue_queue, hfill, State.qCls]

theorem Frame.mQueue {s t : State} {ps : List Part} {ks : List Nat} (h : Frame ps ks s t) (hp : Part.render ∈ ps) (q : Nat)
    (f : QueueSt → QueueSt) : Frame ps ks s (t.mQueue q f) := h.mRender hp _

/-! ### A queue brought up to date -/

/-- What bringing a queue up to date does once no descriptor leaves it or faults: deadline, state shown, growth (R323, R329, R339). -/
def State.qShown (s : State) (q : Nat) : State := ((s.qMeet q).ctxShow q).poolAsk q

section
variable (s : State) (q : Nat)

/-- Meeting a deadline marks it settled; with no instant to meet there is nothing to do (R339). -/
theorem qMeet_eq : ∃ d, s.qMeet q = s.mQueue q (fun r => { r with deadline := d }) ∨ s.qMeet q = s := by
  fun_cases State.qMeet
  · exact ⟨_, .inl rfl⟩
  · exact ⟨none, .inr rfl⟩
  · exact ⟨none, .inr rfl⟩

theorem qMeet_of_no_instant {s : State} {q : Nat} (h : s.qDeadline q = none) : s.qMeet q = s := by
  rw [State.qMeet, h]
  split
  · next heq => cases heq
  · rfl

/-- A growth asked for is a mark in the queue's record (R323). -/
theorem poolAsk_eq : s.poolAsk q = s.mQueue q (fun r => { r with growing := true }) ∨ s.poolAsk q = s := by
  rw [State.poolAsk]
  split
  · exact .inl rfl
  · exact .inr rfl

/-- Showing a context's state writes its register (R329). -/
theorem ctxShow_eq : (∃ x, s.ctxShow q = s.wf (s.qReg q 4) 31 28 x) ∨ s.ctxShow q = s := by
  rw [State.ctxShow]
  split
  · exact .inr rfl
  · exact .inl ⟨_, rfl⟩

theorem ctxShow_render : (s.ctxShow q).render = s.render := by
  obtain ⟨x, h⟩ | h := ctxShow_eq s q <;> rw [h]
  simp only [State.wf_frame]

/-- Showing a context's state changes no part of the state. -/
theorem ctxShow_frame {ps : List Part} {ks : List Nat} {s t : State} (h : Frame ps ks s t) (hk : t.qReg q 4 ∈ ks) :
    Frame ps ks s (t.ctxShow q) := by
  obtain ⟨x, hshow⟩ | hshow := ctxShow_eq t q <;> rw [hshow]
  · exact h.wf hk _ _ _
  · exact h

/-- A record that has been brought up to date differs in its deadline and the mark of a growth alone, in the deadline only when its
instant is known. -/
theorem qShown_queue : ∃ d g, (s.qShown q).queue q = { s.queue q with deadline := d, growing := g }
    ∧ (s.qDeadline q = none → d = (s.queue q).deadline) := by
  have hpool : ∀ t : State, ∃ g, (t.poolAsk q).queue q = { t.queue q with growing := g } := fun t => by
    obtain h | h := poolAsk_eq t q <;> rw [h]
    · exact ⟨true, mQueue_queue ..⟩
    · exact ⟨_, rfl⟩
  obtain ⟨g, hg⟩ := hpool ((s.qMeet q).ctxShow q)
  rw [State.qShown, hg, queue_congr (ctxShow_render ..)]
  by_cases hinstant : s.qDeadline q = none
  · rw [qMeet_of_no_instant hinstant]
    exact ⟨_, g, rfl, fun _ => rfl⟩
  · obtain ⟨d, h | h⟩ := qMeet_eq s q <;> rw [h]
    · exact ⟨d, g, by rw [mQueue_queue], fun h => absurd h hinstant⟩
    · exact ⟨_, g, rfl, fun _ => rfl⟩

theorem qMeet_ctx : ((s.qMeet q).queue q).ctx = (s.queue q).ctx := by
  obtain ⟨d, h | h⟩ := qMeet_eq s q <;> rw [h]
  rw [mQueue_queue]

theorem qShown_frame {ps : List Part} {ks : List Nat} {s t : State} (h : Frame ps ks s t) (hp : Part.render ∈ ps) (hk : t.qReg q 4 ∈ ks) :
    Frame ps ks s (t.qShown q) := by
  have hmeet : Frame ps ks s (t.qMeet q) := by
    obtain ⟨d, hd | hd⟩ := qMeet_eq t q <;> rw [hd]
    · exact h.mQueue hp _ _
    · exact h
  have hreg : (t.qMeet q).qReg q 4 ∈ ks := by rwa [State.qReg, qMeet_ctx]
  have hshow := ctxShow_frame q hmeet hreg
  obtain hpool | hpool := poolAsk_eq ((t.qMeet q).ctxShow q) q <;> rw [State.qShown, hpool]
  · exact hshow.mQueue hp _ _
  · exact hshow

end

section
variable {s : State} {q : Nat} (hosts : List HostRun)

/-- Nothing leaves a queue in which nothing runs, -/
theorem qRetire_of_idle (h : (s.queue q).running = []) (n : Nat) : s.qRetire q hosts n = s := by
  cases n with
  | zero => rfl
  | succ n => rw [State.qRetire, h]

/-- or whose oldest running descriptor is work that is not done (R303). -/
theorem qRetire_of_work {d : Desc} {r : List Desc} (h : (s.queue q).running = d :: r) (hwork : descWork (descOp d.word) = true)
    (hdone : d.done = false) (n : Nat) : s.qRetire q hosts n = s := by
  cases n with
  | zero => rfl
  | succ n => simp only [State.qRetire, h, hwork, hdone, Bool.not_false, Bool.and_self, if_true]

/-- With nothing waiting and nothing to leave, only what the queue shows is brought up to date. -/
theorem qSettle_of_kept (h : s.qRetire q hosts (s.queue q).running.length = s) (hwait : s.qWaiting q = []) : s.qSettle q hosts = s.qShown q := by
  simp only [State.qSettle, h, hwait, State.qShown]

/-- The one running descriptor leaves, having done what it does without work of its own (R308). -/
theorem qSettle_of_leaves {d : Desc} {y : State} (h : (s.queue q).running = [d]) (hleaves : (descWork (descOp d.word) && !d.done) = false)
    (hperform : (s.mQueue q fun r => { r with running := [] }).qPerform q d = (true, y)) (hy : (y.queue q).running = []) :
    s.qSettle q hosts = y.qSettle q hosts := by
  have hs : s.qRetire q hosts (s.queue q).running.length = y := by
    simp only [h, List.length_singleton, State.qRetire, hleaves, Bool.false_eq_true, if_false, hperform, if_true]
  have hyy : y.qRetire q hosts (y.queue q).running.length = y := qRetire_of_idle hosts hy _
  simp only [State.qSettle, hs, hyy]

end

/-- What a queue with nothing waiting keeps when it is brought up to date from `t`, and what has changed since `u`. -/
structure Settled (q : Nat) (u t t' : State) : Prop where
  record : ∃ d g, t'.queue q = { t.queue q with deadline := d, growing := g } ∧ (t.qDeadline q = none → d = (t.queue q).deadline)
  frame : Frame [.pods, .render] [u.qReg q 4] u t'

theorem settled_of_kept {q : Nat} {u t : State} (hosts : List HostRun) (h : Frame [.pods, .render] [u.qReg q 4] u t)
    (hctx : (t.queue q).ctx = (u.queue q).ctx) (hkept : t.qRetire q hosts (t.queue q).running.length = t) (hwait : t.qWaiting q = []) :
    Settled q u t (t.qSettle q hosts) := by
  rw [qSettle_of_kept hosts hkept hwait]
  exact ⟨qShown_queue t q, qShown_frame q h (by simp) (by simp only [State.qReg, hctx, List.mem_singleton])⟩

section
variable {q : Nat} {u t t' : State} (h : Settled q u t t')
include h

/-- A field of the record that bringing the queue up to date leaves. -/
theorem Settled.field {α : Type} (g : QueueSt → α) (hg : ∀ r d b, g { r with deadline := d, growing := b } = g r) :
    g (t'.queue q) = g (t.queue q) := by
  obtain ⟨d, b, hq, -⟩ := h.record
  rw [hq, hg]

theorem Settled.deadline (hnone : t.qDeadline q = none) : (t'.queue q).deadline = (t.queue q).deadline := by
  obtain ⟨d, g, hq, hd⟩ := h.record
  rw [hq, ← hd hnone]

end

/-! ### A descriptor starts -/

/-- A queue with the first of its waiting descriptors taken from it. -/
def State.qTaken (s : State) (q : Nat) (r : List Bytes) : State := s.mPods fun p => { p with fetched := tset [] p.fetched q r }

/-- What the start of a descriptor rests on: it is the first that waits, the queue may start it and its opcode is the one asked for (R305,
R308, R326). -/
theorem qStart_some {u v : State} {q op n : Nat} (h : u.qStart q op = some (n, v)) :
    ∃ e r, u.qWaiting q = e :: r ∧ leNat e = n ∧ descOp n = op ∧ u.qCan q = true ∧ v = u.qTaken q r := by
  rw [State.qStart] at h
  split at h
  · cases h
  · next e r hwait =>
    dsimp only at h
    split at h
    · next hcan =>
      obtain ⟨hn, hv⟩ := Prod.mk.inj (Option.some.inj h)
      simp only [Bool.and_eq_true, beq_iff_eq] at hcan
      obtain ⟨⟨⟨hqueue, hop⟩, -⟩, -⟩ := hcan
      exact ⟨e, r, hwait, hn, hn ▸ hop, hqueue, hv.symm⟩
    · cases h

section
variable {u v : State} {q op n : Nat} (h : u.starts v q op n)
include h

theorem starts_op : descOp n = op := by
  obtain ⟨hstart, -, -⟩ := h
  obtain ⟨_, _, -, -, hop, -, -⟩ := qStart_some hstart
  exact hop

theorem starts_taken : ∃ r, v = u.qTaken q r := by
  obtain ⟨hstart, -, -⟩ := h
  obtain ⟨_, r, -, -, -, -, hv⟩ := qStart_some hstart
  exact ⟨r, hv⟩

/-- Only the list of waiting descriptors has changed. -/
theorem starts_queue (r : Nat) : v.queue r = u.queue r := by
  obtain ⟨_, rfl⟩ := starts_taken h
  rfl

theorem starts_frame {ks : List Nat} : Frame [.pods, .render] ks u v := by
  obtain ⟨_, rfl⟩ := starts_taken h
  exact (Frame.refl u _ _).mPods (by simp) _

/-- A queue that waits for a fence starts nothing (R308). -/
theorem starts_wait : (u.queue q).wait = none := by
  obtain ⟨hstart, -, -⟩ := h
  obtain ⟨_, _, -, -, -, hcan, -⟩ := qStart_some hstart
  simp only [State.qCan, Bool.and_eq_true, Option.isNone_iff_eq_none] at hcan
  obtain ⟨⟨⟨⟨-, hwait⟩, -⟩, -⟩, -⟩ := hcan
  exact hwait

/-- Place and reserved bits pass, so the checks of the opcode decide (R305, R326). -/
theorem qCheck_of_starts (more : List (Bool × Status)) : v.qCheck q n more = byR19 more := by
  obtain ⟨-, hplaced, hrsv⟩ := h
  rw [State.qCheck, hplaced, hrsv]
  rfl

section
variable (hosts : List HostRun)

/-- A descriptor whose checks pass takes effect, -/
theorem qDo_of_ok {more : Nat → State → List (Bool × Status)} {act : Nat → State → State} {y : State} (hchecks : byR19 (more n v) = .ok)
    (hact : act n v = y) : u.qDo q op hosts more act = .next (y.qSettle q hosts) := by
  have hstart := h.1
  subst hact
  simp only [State.qDo, hstart, qCheck_of_starts h, hchecks]

/-- and one of which a check fails faults the queue (R326). -/
theorem qDo_of_fault {more : Nat → State → List (Bool × Status)} {act : Nat → State → State} {st : Status} (hchecks : byR19 (more n v) = st)
    (hst : st ≠ .ok) : u.qDo q op hosts more act = .next ((v.qFault q hosts st (descCnt n)).qSettle q hosts) := by
  have hstart := h.1
  simp only [State.qDo, hstart, qCheck_of_starts h, hchecks]

/-- A descriptor that reads memory: the checks before the read and those of what was read pass (R326). -/
theorem qDoRead_of_ok {addr len : Nat → Nat} {pre : Nat → State → List (Bool × Status)} {post : Nat → Nat → State → List (Bool × Status)}
    {act : Nat → Nat → State → State} {b : Bytes} {x y : State} (hpre : byR19 (pre n v) = .ok)
    (hload : v.load (v.qOwner q) (v.qCls q) hosts (addr n) (len n) = (some b, x)) (hpost : byR19 (post n (leNat b) x) = .ok)
    (hact : act n (leNat b) x = y) : u.qDoRead q op hosts addr len pre post act = .next (y.qSettle q hosts) := by
  have hstart := h.1
  subst hact
  simp only [State.qDoRead, hstart, qCheck_of_starts h, hpre, hload, hpost]

end

end

/-- What a descriptor leaves in a queue where nothing runs then and nothing waits. -/
theorem settled_of_idle {q : Nat} {u t : State} (hosts : List HostRun) (h : Frame [.pods, .render] [u.qReg q 4] u t)
    (hctx : (t.queue q).ctx = (u.queue q).ctx) (hrun : (t.queue q).running = []) (hwait : t.qWaiting q = []) :
    Settled q u t (t.qSettle q hosts) := settled_of_kept hosts h hctx (qRetire_of_idle hosts hrun _) hwait

/-- A descriptor that changes the queue's record alone, and after which nothing runs. -/
theorem settled_of_record {u v : State} {q op n : Nat} (h : u.starts v q op n) (hwait : v.qWaiting q = []) (hosts : List HostRun)
    {f : QueueSt → QueueSt} (hctx : (f (v.queue q)).ctx = (v.queue q).ctx) (hrun : (f (v.queue q)).running = []) :
    Settled q u (v.mQueue q f) ((v.mQueue q f).qSettle q hosts) := by
  refine settled_of_idle hosts ((starts_frame h).mQueue (by simp) _ _) ?_ ?_ hwait
  · rw [mQueue_queue, hctx, starts_queue h]
  · rw [mQueue_queue, hrun]

end Sys2Proof.Machine
end

section
/-!
PROOFS. Bindings: what BIND_PIPELINE, BIND_RESOURCES and the descriptors that set a value leave (R301, R305, R306, R326).
-/
namespace Sys2Proof.Machine

/-- A field of a number that was just replaced. -/
theorem bits_setBits {hi lo : Nat} (h : lo ≤ hi) (v x : Nat) : bits (setBits v hi lo x) hi lo = x % 2 ^ (hi + 1 - lo) := by
  refine Nat.eq_of_testBit_eq fun i => ?_
  rw [testBit_bits, testBit_setBits h, Nat.testBit_mod_two_pow]
  rcases Nat.lt_or_ge i (hi + 1 - lo) with hin | hout
  · have hfield : lo ≤ i + lo ∧ i + lo ≤ hi := by omega
    rw [if_pos hfield, Nat.add_sub_cancel]
  · rw [decide_eq_false (Nat.not_lt.mpr hout), Bool.false_and, Bool.false_and]

/-- A block of 128 bits that was just replaced, as PUSH does (R306). -/
theorem bits_setBits_block (v k x : Nat) : bits (setBits v (128 * k + 127) (128 * k) (bits x 127 0)) (128 * k + 127) (128 * k) = bits x 127 0 := by
  have hwidth : 128 * k + 127 + 1 - 128 * k = 128 := by omega
  rw [bits_setBits (by omega), hwidth]
  simp only [bits]
  omega

/-- A translation does not fit where a queue is: a graphics one outside a pass, or one that is not the open pass's (R305, R326). -/
def State.bindRefused (s : State) (q : Nat) (e : XlateEnt) : Bool :=
  match (s.queue q).openPass with
  | some p => e.compute || !pipeFits e p
  | none => !e.compute

section
variable {dt q n : Nat} {hosts : List HostRun} {s u v x : State} (hu : u = s.tickMem dt hosts)
include hu

/-- BIND_PIPELINE of a record whose KEY finds a translation that may be bound here (R290, R305). -/
theorem execBindPipeline_found (hstart : u.starts v q 3 n) {b : Bytes} {e : XlateEnt} (haligned : bits n 5 0 = 0)
    (hload : v.load (v.qOwner q) (v.qCls q) hosts (bits n 63 0) 64 = (some b, x)) (hstate : bits (leNat b) 135 128 = 1)
    (hfind : x.xlateFind (x.qOwner q) (bits (leNat b) 511 256) = some e)
    (hfits : x.bindRefused q e = false) :
    execBindPipeline dt q hosts s
      = .next ((x.mQueue q fun r => if e.compute then { r with cPipe := some e } else { r with gPipe := some e }).qSettle q hosts) := by
  have hpre : byR19 [(bits n 5 0 != 0, Status.badParam)] = .ok := by rw [haligned]; rfl
  rw [execBindPipeline, ← hu]
  refine qDoRead_of_ok hstart hosts hpre hload ?_ ?_
  · simp only [hstate, hfind]
    exact congrArg (fun bad => byR19 [(bad, .badState)]) hfits
  · simp only [hfind]

/-- BIND_RESOURCES of a table whose descriptors are all sound (R301). -/
theorem execBindResources_sound (hstart : u.starts v q 4 n) {b : Bytes} (haligned : bits n 5 0 = 0) (hsome : 0 < bits n 72 64)
    (hmost : bits n 72 64 ≤ 256) (hload : v.load (v.qOwner q) (v.qCls q) hosts (bits n 63 0) (64 * bits n 72 64) = (some b, x))
    (hsound : ∀ i, i < bits n 72 64 → resourceBad (bits (leNat b) (512 * i + 511) (512 * i)) = false
      ∧ resourceStride (bits (leNat b) (512 * i + 511) (512 * i)) = false) :
    execBindResources dt q hosts s = .next ((x.mQueue q fun r =>
      { r with tables := tset (0, 0) r.tables (b2n (bit n 160) * 4 + bits n 81 80) (bits n 63 0, bits n 72 64) }).qSettle q hosts) := by
  have hpre : byR19 [(bits n 5 0 != 0 || bits n 72 64 == 0 || decide (256 < bits n 72 64), Status.badParam)] = .ok := by
    refine byR19_ok fun c hc => ?_
    obtain rfl := List.mem_singleton.mp hc
    simp [haligned, hsome.ne', hmost]
  have hall : ∀ f : Nat → Bool, (∀ i, i < bits n 72 64 → f (bits (leNat b) (512 * i + 511) (512 * i)) = false) →
      ((List.range (bits n 72 64)).any fun i => f (bits (leNat b) (512 * i + 511) (512 * i))) = false := fun f hf => by
    rw [List.any_eq_false]
    exact fun i hi => by rw [hf i (List.mem_range.mp hi)]; exact Bool.false_ne_true
  rw [execBindResources, ← hu]
  refine qDoRead_of_ok hstart hosts hpre hload ?_ rfl
  simp only [hall _ fun i hi => (hsound i hi).1, hall _ fun i hi => (hsound i hi).2]
  rfl

theorem execBindIndex_aligned (hstart : u.starts v q 5 n) (haligned : bits n 63 0 % (if bit n 160 then 4 else 2) = 0) :
    execBindIndex dt q hosts s = .next ((v.mQueue q fun r => { r with index := some (bits n 63 0, bits n 95 64, bit n 160) }).qSettle q hosts) := by
  rw [execBindIndex, ← hu]
  refine qDo_of_ok hstart hosts ?_ rfl
  simp only [haligned]
  rfl

theorem execBindIndex_misaligned (hstart : u.starts v q 5 n) (hmisaligned : bits n 63 0 % (if bit n 160 then 4 else 2) ≠ 0) :
    execBindIndex dt q hosts s = .next ((v.qFault q hosts .badParam (descCnt n)).qSettle q hosts) := by
  rw [execBindIndex, ← hu]
  refine qDo_of_fault hstart hosts ?_ (by decide)
  simp only [bne_iff_ne.mpr hmisaligned]
  rfl

theorem execBindVertex_aligned (hstart : u.starts v q 6 n) (haligned : bits n 1 0 = 0) :
    execBindVertex dt q hosts s
      = .next ((v.mQueue q fun r => { r with vertex := tset (0, 0) r.vertex (bits n 99 96) (bits n 63 0, bits n 95 64) }).qSettle q hosts) := by
  rw [execBindVertex, ← hu]
  refine qDo_of_ok hstart hosts ?_ rfl
  simp only [haligned]
  rfl

/-- The push constants of one kind with 16 bytes replaced (R306). -/
def pushed (n v : Nat) : Nat := setBits v (128 * bits n 130 128 + 127) (128 * bits n 130 128) (bits n 127 0)

omit hu in
theorem pushed_block (n v : Nat) : bits (pushed n v) (128 * bits n 130 128 + 127) (128 * bits n 130 128) = bits n 127 0 :=
  bits_setBits_block ..

theorem execPush_starts (hstart : u.starts v q 7 n) :
    execPush dt q hosts s
      = .next ((v.mQueue q fun r => if bit n 160 then { r with pushC := pushed n r.pushC } else { r with pushG := pushed n r.pushG }).qSettle q hosts) := by
  rw [execPush, ← hu]
  exact qDo_of_ok hstart hosts rfl rfl

theorem execSetViewport_starts (hstart : u.starts v q 8 n) :
    execSetViewport dt q hosts s = .next ((v.mQueue q fun r => { r with viewport := some (bits n 159 0) }).qSettle q hosts) := by
  rw [execSetViewport, ← hu]
  exact qDo_of_ok hstart hosts rfl rfl

theorem execSetScissor_inside (hstart : u.starts v q 9 n) (hwidth : bits n 47 32 ≤ 16384) (hheight : bits n 63 48 ≤ 16384)
    (hinside : scissorOut (some (bits n 63 0)) (v.queue q).openPass = false) :
    execSetScissor dt q hosts s = .next ((v.mQueue q fun r => { r with scissor := some (bits n 63 0) }).qSettle q hosts) := by
  rw [execSetScissor, ← hu]
  refine qDo_of_ok hstart hosts ?_ rfl
  simp only [hinside, decide_eq_false (Nat.not_lt.mpr hwidth), decide_eq_false (Nat.not_lt.mpr hheight)]
  rfl

end

/-- Settles O24: each descriptor by its equation, and its binding read off the record of the queue. -/
theorem renderBindings : Obligations.RenderBindings := by
  refine ⟨?pipeline, ?resources, ?values⟩
  case pipeline =>
    intro dt q n hosts b e s u v x hu hstart haligned hload hstate hfind
    have hbind : _ → exec (.bindPipeline dt q hosts) s = _ := execBindPipeline_found hu hstart haligned hload hstate hfind
    refine ⟨fun hpass hcompute => ?_, fun p hpass hgraphics hfits => ?_⟩
    · have hexec := hbind (by simp [State.bindRefused, hpass, hcompute])
      simpa only [hcompute, if_true] using hexec
    · have hexec := hbind (by simp [State.bindRefused, hpass, hgraphics, hfits])
      simpa only [hgraphics, Bool.false_eq_true, if_false] using hexec
  case resources =>
    exact fun dt q n hosts b s u v x hu hstart haligned hsome hmost hload hsound =>
      execBindResources_sound hu hstart haligned hsome hmost hload hsound
  case values =>
    intro dt q n hosts s u v hu hrun hwait
    refine ⟨?index, fun hstart hmisaligned => execBindIndex_misaligned hu hstart hmisaligned, ?vertex, ?push, ?viewport, ?scissor⟩
    case index =>
      intro hstart haligned
      have hs := settled_of_record hstart hwait hosts (f := fun r => { r with index := some (bits n 63 0, bits n 95 64, bit n 160) }) rfl hrun
      exact ⟨_, execBindIndex_aligned hu hstart haligned, by rw [hs.field (·.index) fun _ _ _ => rfl, mQueue_queue], hs.frame⟩
    case vertex =>
      intro hstart haligned
      have hs := settled_of_record hstart hwait hosts
        (f := fun r => { r with vertex := tset (0, 0) r.vertex (bits n 99 96) (bits n 63 0, bits n 95 64) }) rfl hrun
      refine ⟨_, execBindVertex_aligned hu hstart haligned, ?_, hs.frame⟩
      rw [hs.field (·.vertex) fun _ _ _ => rfl, mQueue_queue, tget_tset_same]
    case push =>
      intro hstart
      have hs := settled_of_record hstart hwait hosts
        (f := fun r => if bit n 160 then { r with pushC := pushed n r.pushC } else { r with pushG := pushed n r.pushG })
        (by split <;> rfl) (by split <;> exact hrun)
      refine ⟨_, execPush_starts hu hstart, fun hgraphics => ?_, fun hcompute => ?_, hs.frame⟩ <;>
        rw [hs.field (·.pushG) fun _ _ _ => rfl, hs.field (·.pushC) fun _ _ _ => rfl, mQueue_queue, starts_queue hstart]
      · rw [hgraphics, if_neg Bool.false_ne_true]
        exact ⟨pushed_block .., rfl⟩
      · rw [hcompute, if_pos rfl]
        exact ⟨pushed_block .., rfl⟩
    case viewport =>
      intro hstart
      have hs := settled_of_record hstart hwait hosts (f := fun r => { r with viewport := some (bits n 159 0) }) rfl hrun
      exact ⟨_, execSetViewport_starts hu hstart, by rw [hs.field (·.viewport) fun _ _ _ => rfl, mQueue_queue], hs.frame⟩
    case scissor =>
      intro hstart hwidth hheight hinside
      have hs := settled_of_record hstart hwait hosts (f := fun r => { r with scissor := some (bits n 63 0) }) rfl hrun
      exact ⟨_, execSetScissor_inside hu hstart hwidth hheight hinside, by rw [hs.field (·.scissor) fun _ _ _ => rfl, mQueue_queue], hs.frame⟩

end Sys2Proof.Machine
end

section
/-!
PROOFS. Work that joins a queue: descriptors that start and stay, and PASS_BEGIN, PASS_END and the draws (R305 to R307, R310 to R318, R324, R349).
-/
namespace Sys2Proof.Machine

/-! ### Changes of one record in a row -/

section
variable {α : Type} {d : α}

theorem tdel_of_absent (m : Tbl α) (k : Nat) (h : ∀ c ∈ m, c.1 ≠ k) : tdel m k = m := by
  induction m with
  | nil => rfl
  | cons c m ih =>
    obtain ⟨k', v⟩ := c
    have hne : k ≠ k' := fun e => h (k', v) List.mem_cons_self e.symm
    rw [tdel, if_neg hne, ih fun c hc => h c (List.mem_cons_of_mem _ hc)]

theorem tdel_tins (m : Tbl α) (k : Nat) (v : α) (h : ∀ c ∈ m, c.1 ≠ k) : tdel (tins k v m) k = m := by
  induction m with
  | nil => rw [tins, tdel, if_pos rfl, tdel]
  | cons c m ih =>
    obtain ⟨k', v'⟩ := c
    have hne : k ≠ k' := fun e => h (k', v') List.mem_cons_self e.symm
    have hm : ∀ c ∈ m, c.1 ≠ k := fun c hc => h c (List.mem_cons_of_mem _ hc)
    rw [tins]
    split
    · rw [tdel, if_pos rfl, tdel_of_absent _ _ h]
    · rw [tdel, if_neg hne, ih hm]

/-- Of two writes to one key the second stands. -/
theorem tset_tset [DecidableEq α] (m : Tbl α) (k : Nat) (v w : α) : tset d (tset d m k v) k w = tset d m k w := by
  have hdel : tdel (tset d m k v) k = tdel m k := by
    rw [tset]
    split
    · exact tdel_of_absent _ _ (tdel_ne m k)
    · exact tdel_tins _ _ _ (tdel_ne m k)
  rw [tset, hdel, tset]

end

/-- Two changes of one queue's record are one change. -/
theorem mQueue_mQueue (s : State) (q : Nat) (f g : QueueSt → QueueSt) : (s.mQueue q f).mQueue q g = s.mQueue q fun r => g (f r) := by
  have hq : tmod {} (tmod {} s.render.queues q f) q g = tmod {} s.render.queues q fun r => g (f r) := by
    rw [tmod, tget_tmod, if_pos rfl, tmod, tset_tset, tmod]
  simp only [State.mQueue, State.mRender, hq]

/-! ### Joining the running work -/

/-- What `t` is when a descriptor of `v`'s queue has joined its running work: the record changed in that, in the free tile chunks and in the
open pass, and nothing else. -/
def State.Joined (v t : State) (q n : Nat) (recs : List Nat) (free : Nat) (pass : Option Pass) : Prop :=
  ∃ F, t = v.mQueue q F ∧
    F (v.queue q) = { v.queue q with running := (v.queue q).running ++ [v.started q n recs], freeTiles := free, pass := pass }

/-- What is in force for a descriptor as it starts does not hang on the free tile chunks and the open pass (R305, R349). -/
theorem started_mQueue {s : State} {q : Nat} {f : QueueSt → QueueSt} {free : Nat} {pass : Option Pass}
    (hf : f (s.queue q) = { s.queue q with freeTiles := free, pass := pass }) (n : Nat) (recs : List Nat) :
    (s.mQueue q f).started q n recs = s.started q n recs := by
  simp only [State.started, State.startLimit, State.heldNow, mQueue_queue, hf]
  rfl

/-- A descriptor joins after the free tile chunks and the pass were changed. -/
theorem joined_qRunWith {s : State} {q : Nat} {f : QueueSt → QueueSt} {free : Nat} {pass : Option Pass}
    (hf : f (s.queue q) = { s.queue q with freeTiles := free, pass := pass }) (n : Nat) (recs : List Nat) :
    s.Joined ((s.mQueue q f).qRunWith q n recs) q n recs free pass := by
  refine ⟨_, mQueue_mQueue .., ?_⟩
  rw [started_mQueue hf, hf]

theorem joined_of_qRunWith (s : State) (q n : Nat) (recs : List Nat) :
    s.Joined (s.qRunWith q n recs) q n recs (s.queue q).freeTiles (s.queue q).pass := ⟨_, rfl, rfl⟩

section
variable {q : Nat} {u v t t' : State}

/-- Work that joins a queue where nothing else runs or waits stays, and is all that runs. -/
theorem settled_of_joined {op n free : Nat} {recs : List Nat} {pass : Option Pass} (hstart : u.starts v q op n)
    (hjoin : v.Joined t q n recs free pass) (hwork : descWork op = true) (hrun : (v.queue q).running = []) (hwait : v.qWaiting q = [])
    (hosts : List HostRun) :
    ((t.qSettle q hosts).queue q).running = [v.started q n recs] ∧ ((t.qSettle q hosts).queue q).freeTiles = free
      ∧ ((t.qSettle q hosts).queue q).pass = pass ∧ Frame [.pods, .render] [u.qReg q 4] u (t.qSettle q hosts) := by
  obtain ⟨F, rfl, hF⟩ := hjoin
  have hq : (v.mQueue q F).queue q = { v.queue q with running := [v.started q n recs], freeTiles := free, pass := pass } := by
    rw [mQueue_queue, hF, hrun, List.nil_append]
  have hword : descWork (descOp (v.started q n recs).word) = true := by
    rw [show (v.started q n recs).word = n from rfl, starts_op hstart, hwork]
  have hs : Settled q u (v.mQueue q F) ((v.mQueue q F).qSettle q hosts) :=
    settled_of_kept hosts ((starts_frame hstart).mQueue (by simp) _ _) (by rw [hq, starts_queue hstart])
      (qRetire_of_work hosts (congrArg (·.running) hq) hword rfl _) hwait
  refine ⟨?_, ?_, ?_, hs.frame⟩
  · rw [hs.field (·.running) fun _ _ _ => rfl, hq]
  · rw [hs.field (·.freeTiles) fun _ _ _ => rfl, hq]
  · rw [hs.field (·.pass) fun _ _ _ => rfl, hq]

end

/-! ### Passes -/

/-- The signature of the pass of a record that a PASS_BEGIN names (R316). -/
def openedSig (n r : Nat) : Nat := passSig (bits r 511 0) ((List.range 10).map (recordAtt r)) (bits n 159 128) (bits n 127 96)

/-- The pass that a PASS_BEGIN opens; `imm` is the mode it runs in (R310, R314, R316). -/
def State.openedPass (s : State) (q n r : Nat) (imm : Bool) : Pass :=
  { cnt := descCnt n, header := bits r 511 0, atts := (List.range 10).map (recordAtt r), started := b2n imm, immediate := imm,
    unordered := bit n 162, sig := openedSig n r, energy := (s.queue q).energy }

/-- The mode that a PASS_BEGIN chooses, true for IMMEDIATE: AUTO goes by the history of the signature (R314, R317). -/
def State.choosesImmediate (s : State) (q n r : Nat) : Bool :=
  match bits n 161 160 with
  | 0 => autoImmediate ((((s.queue q).hist.find? fun e => e.1 == openedSig n r).map (·.2)).getD [])
  | 1 => false
  | _ => true

/-- The state with the pass open. -/
def State.passOpened (s : State) (q n r : Nat) (imm : Bool) : State :=
  s.mQueue q fun u => { u with pass := some (s.openedPass q n r imm) }

/-- What PASS_BEGIN leaves: the pass open, and one that is to run IMMEDIATE loaded over its area (R314). -/
def State.passBegun (s : State) (q n r : Nat) (hosts : List HostRun) (imm : Bool) : State :=
  if imm then
    let loaded := (s.passOpened q n r imm).immediateLoad (s.qOwner q) hosts (s.openedPass q n r imm)
    if loaded.1 then loaded.2 else loaded.2.qFault q hosts .fault (descCnt n)
  else s.passOpened q n r imm

section
variable {dt q n : Nat} {hosts : List HostRun} {s u v x : State} (hu : u = s.tickMem dt hosts)
include hu

/-- PASS_BEGIN of a sound record (R310 to R317). -/
theorem execPassBegin_sound (hstart : u.starts v q 1 n) {b : Bytes} (hmode : bits n 161 160 ≠ 3) (haligned : bits n 5 0 = 0)
    (hready : (u.queue q).pass.any (·.ended) = false)
    (hload : v.load (v.qOwner q) (v.qCls q) hosts (bits n 63 0) 704 = (some b, x)) (hrecord : byR19 (passChecks (leNat b)) = .ok) :
    execPassBegin dt q hosts s = .next ((x.passBegun q n (leNat b) hosts (x.choosesImmediate q n (leNat b))).qSettle q hosts) := by
  have hpre : byR19 [(bits n 161 160 == 3 || bits n 5 0 != 0, Status.badParam)] = .ok := by
    rw [haligned, beq_eq_false_iff_ne.mpr hmode]
    rfl
  simp only [execPassBegin, ← hu, hready, Bool.false_eq_true, if_false]
  exact qDoRead_of_ok hstart hosts hpre hload hrecord rfl

/-- PASS_END with no query open starts what is left to render (R305, R313). -/
theorem execPassEnd_starts (hstart : u.starts v q 2 n) (hclosed : (v.queue q).occlOpen = false) :
    execPassEnd dt q hosts s
      = .next (((v.qRun q n).mQueue q fun r => { r with pass := r.pass.map fun p => { p with ended := true } }).qSettle q hosts) := by
  rw [execPassEnd, ← hu]
  refine qDo_of_ok hstart hosts ?_ rfl
  simp only [hclosed]
  rfl

omit hu in
theorem joined_passEnd (v : State) (q n : Nat) :
    v.Joined ((v.qRun q n).mQueue q fun r => { r with pass := r.pass.map fun p => { p with ended := true } }) q n [] (v.queue q).freeTiles
      ((v.queue q).pass.map fun p => { p with ended := true }) := ⟨_, mQueue_mQueue .., rfl⟩

/-! ### Draws -/

theorem execDraw_starts (hstart : u.starts v q 0x0A n) (hchecks : byR19 (v.drawChecks q) = .ok) (need : Nat) (tiles : List (Nat × Nat)) :
    execDraw dt q need tiles hosts s = .next ((v.drawStart q need tiles hosts n [bits n 127 0]).qSettle q hosts) := by
  rw [execDraw, ← hu]
  exact qDo_of_ok hstart hosts hchecks rfl

theorem execDrawIndexed_starts (hstart : u.starts v q 0x0B n) (hchecks : byR19 (v.drawChecks q) = .ok) (need : Nat) (tiles : List (Nat × Nat)) :
    execDrawIndexed dt q need tiles hosts s = .next ((v.drawStart q need tiles hosts n [bits n 159 0]).qSettle q hosts) := by
  rw [execDrawIndexed, ← hu]
  exact qDo_of_ok hstart hosts hchecks rfl

omit hu in
/-- A check that passes, after others, decides nothing (R19). -/
theorem byR19_append_passed (l : List (Bool × Status)) (st : Status) : byR19 (l ++ [(false, st)]) = byR19 l := by
  induction l with
  | nil => rfl
  | cons c l ih => rw [List.cons_append, byR19, byR19, ih]

/-- DRAW_INDIRECT whose records are read: it draws them (R306). -/
theorem execDrawIndirect_read (hstart : u.starts v q 0x0C n) {b : Bytes} (hfree : u.indirectHeld q = false)
    (hchecks : byR19 (v.drawChecks q) = .ok) (haligned : bits n 1 0 = 0) (hstride : bits n 97 96 = 0) (hwide : indirectRec n ≤ bits n 127 96)
    (hmost : bits n 95 64 ≤ 65535) (hload : v.load (v.qOwner q) (v.qCls q) hosts (bits n 63 0) (indirectLen n) = (some b, x)) (need : Nat)
    (tiles : List (Nat × Nat)) :
    execDrawIndirect dt q need tiles hosts s = .next ((x.drawStart q need tiles hosts n
      ((List.range (bits n 95 64)).map fun i => leNat b / 2 ^ (8 * i * bits n 127 96) % 2 ^ (8 * indirectRec n))).qSettle q hosts) := by
  have hsound : (bits n 1 0 != 0 || bits n 97 96 != 0 || decide (bits n 127 96 < indirectRec n) || decide (65535 < bits n 95 64)) = false := by
    simp [haligned, hstride, hwide, hmost]
  simp only [execDrawIndirect, ← hu, hfree, Bool.false_eq_true, if_false]
  refine qDoRead_of_ok hstart hosts ?_ hload rfl rfl
  rw [hsound, byR19_append_passed, hchecks]

theorem execDrawIndirect_held (hheld : u.indirectHeld q = true) (need : Nat) (tiles : List (Nat × Nat)) :
    execDrawIndirect dt q need tiles hosts s = .next u := by
  simp only [execDrawIndirect, ← hu, hheld, if_true]

theorem execDispatchIndirect_held (hheld : u.indirectHeld q = true) : execDispatchIndirect dt q hosts s = .next u := by
  simp only [execDispatchIndirect, ← hu, hheld, if_true]

/-- A draw with no graphics pipeline bound (R326). -/
theorem execDraw_unbound (hstart : u.starts v q 0x0A n) (hpipe : (v.queue q).gPipe = none)
    (hscissor : scissorOut (v.queue q).scissor (v.queue q).openPass = false) (need : Nat) (tiles : List (Nat × Nat)) :
    execDraw dt q need tiles hosts s = .next ((v.qFault q hosts .badState (descCnt n)).qSettle q hosts) := by
  have hchecks : byR19 (v.drawChecks q) = .badState := by
    simp only [State.drawChecks, hpipe, hscissor]
    rfl
  rw [execDraw, ← hu]
  exact qDo_of_fault hstart hosts hchecks (by decide)

end

section
variable {v : State} {q : Nat} (n need : Nat) (tiles : List (Nat × Nat)) (hosts : List HostRun) {r : Nat} {p : Pass}

/-- A draw of nothing takes nothing (R306). -/
theorem joined_draw_empty (hempty : recEmpty r = true) :
    v.Joined (v.drawStart q need tiles hosts n [r]) q n [r] (v.queue q).freeTiles (v.queue q).pass := by
  have hall : [r].all recEmpty = true := by rw [List.all_cons, hempty]; rfl
  rw [State.drawStart, if_pos hall]
  exact joined_of_qRunWith ..

variable (hsome : recEmpty r = false) (hpass : (v.queue q).pass = some p)
include hsome hpass

/-- A draw in a TILED pass whose bins fit the pool takes its tile chunks (R313, R324). -/
theorem joined_draw_tiled (htiled : p.immediate = false) (hroom : need ≤ (v.queue q).freeTiles) :
    v.Joined (v.drawStart q need tiles hosts n [r]) q n [r] ((v.queue q).freeTiles - need)
      (some { p with chunks := p.chunks + need, binned := true, tiles := (p.tiles ++ tiles).eraseDups }) := by
  have hall : ¬ [r].all recEmpty = true := by rw [List.all_cons, hsome]; exact Bool.false_ne_true
  have htake : v.binTake q hosts (need + 2) need = (true, v.mQueue q fun r =>
      { r with freeTiles := r.freeTiles - need, pass := some { p with chunks := p.chunks + need, binned := true } }) := by
    simp only [State.binTake, hpass, htiled, Bool.false_eq_true, if_false, hroom, if_true]
  simp only [State.drawStart, if_neg hall, htake, if_true, State.mPass, mQueue_mQueue]
  refine joined_qRunWith ?_ n [r]
  simp only [Option.map_some, htiled, Bool.false_eq_true, if_false]

/-- A draw in an IMMEDIATE pass takes no tile chunks (R314). -/
theorem joined_draw_immediate (himm : p.immediate = true) :
    v.Joined (v.drawStart q need tiles hosts n [r]) q n [r] (v.queue q).freeTiles (some p) := by
  have hall : ¬ [r].all recEmpty = true := by rw [List.all_cons, hsome]; exact Bool.false_ne_true
  have htake : v.binTake q hosts (need + 2) need = (true, v) := by simp only [State.binTake, hpass, himm, if_true]
  simp only [State.drawStart, if_neg hall, htake, if_true, State.mPass]
  refine joined_qRunWith ?_ n [r]
  simp only [hpass, Option.map_some, himm, if_true]

end

/-- Settles O25: each descriptor by its equation, and what joined the queue read off its record. -/
theorem renderPasses : Obligations.RenderPasses := by
  refine ⟨?begin, ?finish, ?draws, ?empty, ?indirect, ?held, ?unbound⟩
  case begin =>
    intro dt q n hosts b sig s u v x hu hstart hmode haligned hready hload hrecord hsig
    subst hsig
    have hexec : exec (.passBegin dt q hosts) s = _ := execPassBegin_sound hu hstart hmode haligned hready hload hrecord
    refine ⟨fun p htiled hp => ?_, fun p y himm hp hy => ?_⟩ <;> subst hp
    · have hmode : x.choosesImmediate q n (leNat b) = false := by
        obtain h | ⟨h, hauto⟩ := htiled <;> simp only [State.choosesImmediate, h]
        exact hauto
      rwa [hmode] at hexec
    · have hmode : x.choosesImmediate q n (leNat b) = true := by simp only [State.choosesImmediate, himm]
      have hbegun : x.passBegun q n (leNat b) hosts true = y := by
        have hloaded : (x.passOpened q n (leNat b) true).immediateLoad (x.qOwner q) hosts (x.openedPass q n (leNat b) true) = (true, y) := hy
        simp only [State.passBegun, if_true, hloaded]
      rwa [hmode, hbegun] at hexec
  case finish =>
    intro dt q n hosts s u v hu hstart hclosed hrun hwait
    obtain ⟨hruns, -, hpass, hframe⟩ := settled_of_joined hstart (joined_passEnd v q n) (by decide) hrun hwait hosts
    exact ⟨_, execPassEnd_starts hu hstart hclosed, hruns, by rw [hpass, starts_queue hstart], hframe⟩
  case draws =>
    intro dt q n need tiles hosts p s u v hu hchecks hpass _ hrun hwait
    refine ⟨fun htiled hroom => ⟨fun hstart hsome => ?_, fun hstart hsome => ?_⟩, fun himm => ⟨fun hstart hsome => ?_, fun hstart hsome => ?_⟩⟩
    · have hjoin := joined_draw_tiled n need tiles hosts hsome hpass htiled hroom
      rw [starts_queue hstart] at hjoin
      exact ⟨_, execDraw_starts hu hstart hchecks need tiles, settled_of_joined hstart hjoin (by decide) hrun hwait hosts⟩
    · have hjoin := joined_draw_tiled n need tiles hosts hsome hpass htiled hroom
      rw [starts_queue hstart] at hjoin
      exact ⟨_, execDrawIndexed_starts hu hstart hchecks need tiles, settled_of_joined hstart hjoin (by decide) hrun hwait hosts⟩
    · obtain ⟨hruns, -, hp, hframe⟩ :=
        settled_of_joined hstart (joined_draw_immediate n need tiles hosts hsome hpass himm) (by decide) hrun hwait hosts
      exact ⟨_, execDraw_starts hu hstart hchecks need tiles, hruns, hp, hframe⟩
    · obtain ⟨hruns, -, hp, hframe⟩ :=
        settled_of_joined hstart (joined_draw_immediate n need tiles hosts hsome hpass himm) (by decide) hrun hwait hosts
      exact ⟨_, execDrawIndexed_starts hu hstart hchecks need tiles, hruns, hp, hframe⟩
  case empty =>
    intro dt q n need tiles hosts p s u v hu hchecks hpass _ hrun hwait hstart hempty
    obtain ⟨hruns, hfree, hp, hframe⟩ :=
      settled_of_joined hstart (joined_draw_empty n need tiles hosts hempty) (by decide) hrun hwait hosts
    exact ⟨_, execDraw_starts hu hstart hchecks need tiles, hruns, hp.trans hpass, by rw [hfree, starts_queue hstart], hframe⟩
  case indirect =>
    exact fun dt q n need tiles hosts b s u v x hu hstart hfree hchecks haligned hstride hwide hmost hload =>
      execDrawIndirect_read hu hstart hfree hchecks haligned hstride hwide hmost hload need tiles
  case held =>
    exact fun dt q need tiles hosts s u hu hheld => ⟨execDrawIndirect_held hu hheld need tiles, execDispatchIndirect_held hu hheld⟩
  case unbound =>
    exact fun dt q n need tiles hosts s u v hu hstart hpipe hscissor => execDraw_unbound hu hstart hpipe hscissor need tiles

end Sys2Proof.Machine
end

section
/-!
PROOFS. Work and what takes none: dispatches, copies, barriers, fences, queries and deadlines (R299, R305 to R309, R326, R336 to R339).
-/
namespace Sys2Proof.Machine

/-! ### Stores leave the queues -/

theorem EventOnly.render {w : Nat} {s t : State} (h : EventOnly w s t) : t.render = s.render := congrArg (·.render) h.rest

section
variable (s : State)

@[simp] theorem pwrite_render (pa bs cls w) : (s.pwrite pa bs cls w).render = s.render :=
  (pwrite_only s (w := 0) (by decide) pa bs cls w).render

@[simp] theorem markDirty_render (w addr len) : (s.markDirty w addr len).render = s.render := (markDirty_only ..).render

@[simp] theorem hostWrite_render (w addr bs) : (s.hostWrite w addr bs).render = s.render := (hostWrite_only ..).render

@[simp] theorem memFault_render (w addr) : (s.memFault w addr).render = s.render := by
  fun_cases State.memFault <;> simp +zetaDelta

/-- A denial is counted and latched in registers, and then reported at most twice (R518). -/
@[simp] theorem deny_render (c a write off) : (s.deny c a write off).render = s.render := by
  unfold State.deny
  extract_lets t u vi v last x d y
  have hv : v.render = s.render := by simp only [v, u, t, State.wr_frame, State.wr64_frame, State.rcCount_frame]
  have hx : x.render = s.render := by simp only [x, State.mWorlds_frame, hv]
  split
  · exact hv
  split
  · exact (emit_only ..).render.trans hx
  · exact (emit_only ..).render.trans ((emit_only ..).render.trans hx)

/-- Memory made for a function is no part of the render pipeline. -/
@[simp] theorem store_render (w cls addr bs) : (s.store w cls addr bs).2.render = s.render := by
  dsimp only [State.store]
  (repeat' split) <;> simp

@[simp] theorem fenceSignal_render (w hw v) : (s.fenceSignal w hw v).render = s.render := by
  dsimp only [State.fenceSignal]
  (repeat' split) <;> simp

end

/-! ### Descriptors that take no work -/

section
variable {s : State} {q n : Nat}

theorem passedBy_queue : (s.passedBy q n).queue q = { s.queue q with running := [] } := by
  rw [State.passedBy, mQueue_queue, State.qRun, State.qRunWith, mQueue_queue]

theorem passedBy_qCls : (s.passedBy q n).qCls q = s.qCls q := by
  rw [State.qCls, passedBy_queue, State.qCls]

/-- Where nothing else runs, a descriptor that takes no work does what it does at once, and is gone (R308). -/
theorem qSettle_qRun {y : State} (hosts : List HostRun) (hrun : (s.queue q).running = []) (hop : descWork (descOp n) = false)
    (hperform : (s.passedBy q n).qPerform q (s.started q n []) = (true, y)) (hy : (y.queue q).running = []) :
    (s.qRun q n).qSettle q hosts = y.qSettle q hosts := by
  refine qSettle_of_leaves hosts (d := s.started q n []) ?_ ?_ hperform hy
  · rw [State.qRun, State.qRunWith, mQueue_queue, hrun, List.nil_append]
  · rw [show (s.started q n []).word = n from rfl, hop, Bool.false_and]

/-- A store after which nothing has come back into the queue. -/
theorem running_of_store {w cls addr : Nat} {bs : Bytes} {y : State}
    (h : (s.passedBy q n).store w cls addr bs = (true, y)) : (y.queue q).running = [] := by
  have hrender := store_render (s.passedBy q n) w cls addr bs
  rw [h] at hrender
  rw [queue_congr hrender, passedBy_queue]

/-- QUERY starts when the next descriptor is one of its kind and names an aligned address (R309, R326). -/
theorem qQuery_of_ok {u v y : State} {kind align : Nat} {more : State → List (Bool × Status)} {act : State → State} (h : u.starts v q 0x14 n)
    (hosts : List HostRun) (hkind : bits n 162 160 = kind) (haligned : bits n 63 0 % align = 0) (hmore : byR19 (more v) = .ok)
    (hact : (act v).qRun q n = y) : u.qQuery q kind align hosts more act = .next (y.qSettle q hosts) := by
  obtain ⟨e, r, hwait, hn, -⟩ := qStart_some h.1
  simp only [State.qQuery, hwait, hn, hkind, if_true]
  refine qDo_of_ok h hosts ?_ hact
  rw [haligned]
  exact hmore

end

section
variable {dt q n : Nat} {hosts : List HostRun} {s u v x y : State} (hu : u = s.tickMem dt hosts)
include hu

/-! ### Work -/

/-- DISPATCH with a pipeline bound and sizes in range (R306). -/
theorem execDispatch_starts (hstart : u.starts v q 0x0D n) (hchecks : byR19 (v.dispatchChecks q) = .ok) (hx : bits n 31 0 ≤ 65535)
    (hy : bits n 63 32 ≤ 65535) (hz : bits n 95 64 ≤ 65535) :
    execDispatch dt q hosts s = .next ((v.dispatchStart q n (bits n 95 0)).qSettle q hosts) := by
  have hsizes : (decide (65535 < bits n 31 0) || decide (65535 < bits n 63 32) || decide (65535 < bits n 95 64)) = false := by
    simp [hx, hy, hz]
  rw [execDispatch, ← hu]
  refine qDo_of_ok hstart hosts ?_ rfl
  rw [hsizes, byR19_append_passed, hchecks]

/-- DISPATCH_INDIRECT whose record is read and holds sizes in range (R306). -/
theorem execDispatchIndirect_read (hstart : u.starts v q 0x0E n) {b : Bytes} (hfree : u.indirectHeld q = false)
    (hchecks : byR19 (v.dispatchChecks q) = .ok) (haligned : bits n 1 0 = 0)
    (hload : v.load (v.qOwner q) (v.qCls q) hosts (bits n 63 0) 12 = (some b, x)) (hx : bits (leNat b) 31 0 ≤ 65535)
    (hy : bits (leNat b) 63 32 ≤ 65535) (hz : bits (leNat b) 95 64 ≤ 65535) :
    execDispatchIndirect dt q hosts s = .next ((x.dispatchStart q n (leNat b)).qSettle q hosts) := by
  have hsizes : (decide (65535 < bits (leNat b) 31 0) || decide (65535 < bits (leNat b) 63 32) || decide (65535 < bits (leNat b) 95 64))
      = false := by
    simp [hx, hy, hz]
  simp only [execDispatchIndirect, ← hu, hfree, Bool.false_eq_true, if_false]
  refine qDoRead_of_ok hstart hosts ?_ hload ?_ rfl
  · rw [haligned]
    exact (byR19_append_passed ..).trans hchecks
  · rw [hsizes]
    rfl

/-- CLEAR of a surface whose entry is sound (R298). -/
theorem execClear_sound (hstart : u.starts v q 0x0F n) {b : Bytes} (hsurface : bit n 160 = false) (haligned : bits n 5 0 = 0)
    (hmask : bits n 73 64 = 0) (hload : v.load (v.qOwner q) (v.qCls q) hosts (bits n 63 0) 64 = (some b, x))
    (hentry : byR19 (entryChecks (leNat b)) = .ok) : execClear dt q hosts s = .next ((x.qRun q n).qSettle q hosts) := by
  rw [execClear, ← hu]
  refine qDoRead_of_ok (b := b) hstart hosts ?_ ?_ ?_ rfl
  · rw [hsurface, haligned, hmask]
    rfl
  · rw [hsurface]
    exact hload
  · rw [hsurface]
    exact hentry

theorem execResolve_sound (hstart : u.starts v q 0x15 n) {b : Bytes} (haligned : bits n 5 0 = 0)
    (hload : v.load (v.qOwner q) (v.qCls q) hosts (bits n 63 0) 64 = (some b, x)) (hentry : byR19 (entryChecks (leNat b)) = .ok) :
    execResolve dt q hosts s = .next ((x.qRun q n).qSettle q hosts) := by
  rw [execResolve, ← hu]
  refine qDoRead_of_ok hstart hosts ?_ hload hentry rfl
  rw [haligned]
  rfl

/-- COPY of words between ranges that lie inside their spaces (R75, R299). -/
theorem execCopy_inside (hstart : u.starts v q 0x10 n) (hsource : bits n 1 0 = 0) (htarget : bits n 65 64 = 0) (hlength : bits n 129 128 = 0)
    (hreads : rangeOut (bits n 63 0) (bits n 159 128) = false) (hwrites : rangeOut (bits n 127 64) (bits n 159 128) = false) :
    execCopy dt q hosts s = .next ((v.qRun q n).qSettle q hosts) := by
  rw [execCopy, ← hu]
  refine qDo_of_ok hstart hosts ?_ rfl
  rw [hsource, htarget, hlength, hreads, hwrites]
  rfl

/-! ### Barriers, fences and queries -/

theorem execBarrier_starts (hstart : u.starts v q 0x11 n) : execBarrier dt q hosts s = .next ((v.qRun q n).qSettle q hosts) := by
  rw [execBarrier, ← hu]
  exact qDo_of_ok hstart hosts rfl rfl

/-- FENCE_WAIT on a handle of the queue's function (R308). -/
theorem execFenceWait_starts (hstart : u.starts v q 0x12 n) (hfence : v.fenceCheck q (bits n 95 64) = []) :
    execFenceWait dt q hosts s = .next ((if v.fenceReady (v.qOwner q) (bits n 95 64) (bits n 63 0) then v
      else v.mQueue q fun r => { r with wait := some (descCnt n, bits n 95 64, bits n 63 0) }).qSettle q hosts) := by
  rw [execFenceWait, ← hu]
  exact qDo_of_ok hstart hosts (by rw [hfence]; rfl) rfl

/-- A queue that waits for a fence that is there goes on when the fence counts as signalled (R180, R308). -/
theorem execFenceWaitRelease_live {c h k i : Nat} (hwait : (u.queue q).wait = some (c, h, k)) (hfence : u.handleCheck (u.qOwner q) kFence h = .ok i) :
    execFenceWaitRelease dt q hosts s
      = .next (if k ≤ (u.fence i).value ∨ h = 0 then (u.mQueue q fun r => { r with wait := none }).qSettle q hosts else u) := by
  have hready : u.fenceReady (u.qOwner q) h k = true ↔ k ≤ (u.fence i).value ∨ h = 0 := by
    simp only [State.fenceReady, hfence, Bool.or_eq_true, beq_iff_eq, decide_eq_true_eq, or_comm]
  simp only [execFenceWaitRelease, ← hu, hwait, hfence, hready]
  exact (apply_ite Host.Outcome.next _ _ _).symm

/-- FENCE_SIGNAL, every earlier descriptor having completed (R308). -/
theorem execFenceSignal_alone (hstart : u.starts v q 0x13 n) (hrun : (v.queue q).running = []) (hfence : v.fenceCheck q (bits n 95 64) = []) :
    execFenceSignal dt q hosts s
      = .next (((v.passedBy q n).fenceSignal (v.qOwner q) (bits n 95 64) (bits n 63 0)).qSettle q hosts) := by
  have hop : descOp n = 0x13 := starts_op hstart
  rw [execFenceSignal, ← hu, ← qSettle_qRun hosts hrun (by rw [hop]; rfl) ?_ ?_]
  · exact qDo_of_ok hstart hosts (by rw [hfence]; rfl) rfl
  · simp only [State.qPerform, State.started, hop]
    rfl
  · rw [queue_congr (fenceSignal_render ..), passedBy_queue]

/-- TIMESTAMP writes device time (R309). -/
theorem execTimestamp_alone (hstart : u.starts v q 0x14 n) (hrun : (v.queue q).running = []) (hkind : bits n 162 160 = 1)
    (haligned : bits n 63 0 % 8 = 0) (hstore : (v.passedBy q n).store (v.qOwner q) (v.qCls q) (bits n 63 0) (leBytes u.now 8) = (true, y)) :
    execTimestamp dt q hosts s = .next (y.qSettle q hosts) := by
  have hop : descOp n = 0x14 := starts_op hstart
  have hnow : (v.passedBy q n).now = u.now := by
    obtain ⟨r, rfl⟩ := starts_taken hstart
    rfl
  rw [execTimestamp, ← hu, ← qSettle_qRun hosts hrun (by rw [hop]; rfl) ?_ (running_of_store hstore)]
  · exact qQuery_of_ok hstart hosts hkind haligned rfl rfl
  · simp only [State.qPerform, State.started, hop, hkind, passedBy_qCls, hnow]
    exact hstore

/-- OCCLUSION_END writes the count of samples since BEGIN (R309). -/
theorem execOcclusionEnd_alone (hstart : u.starts v q 0x14 n) (hrun : (v.queue q).running = []) (hkind : bits n 162 160 = 3)
    (haligned : bits n 63 0 % 8 = 0) (hopen : (v.queue q).occlOpen = true)
    (hstore : ((v.mQueue q fun r => { r with occlOpen := false }).passedBy q n).store (v.qOwner q) (v.qCls q) (bits n 63 0)
      (leBytes (v.queue q).occl 8) = (true, y)) :
    execOcclusionEnd dt q hosts s = .next (y.qSettle q hosts) := by
  have hop : descOp n = 0x14 := starts_op hstart
  have hclosed : ((v.mQueue q fun r => { r with occlOpen := false }).queue q).running = [] := by rw [mQueue_queue, hrun]
  rw [execOcclusionEnd, ← hu, ← qSettle_qRun hosts hclosed (by rw [hop]; rfl) ?_ (running_of_store hstore)]
  · exact qQuery_of_ok hstart hosts hkind haligned (by rw [hopen]; rfl) rfl
  · simp only [State.qPerform, State.started, hop, hkind, passedBy_qCls, passedBy_queue, mQueue_queue]
    rw [mQueue_qCls rfl]
    exact hstore

/-- PASS_INFO writes the 16 bytes of the most recent pass (R309). -/
theorem execPassInfo_alone {i : Nat} (hstart : u.starts v q 0x14 n) (hrun : (v.queue q).running = []) (hkind : bits n 162 160 = 4)
    (haligned : bits n 63 0 % 16 = 0) (hinfo : (v.queue q).info = some i)
    (hstore : (v.passedBy q n).store (v.qOwner q) (v.qCls q) (bits n 63 0) (leBytes i 16) = (true, y)) :
    execPassInfo dt q hosts s = .next (y.qSettle q hosts) := by
  have hop : descOp n = 0x14 := starts_op hstart
  rw [execPassInfo, ← hu, ← qSettle_qRun hosts hrun (by rw [hop]; rfl) ?_ (running_of_store hstore)]
  · exact qQuery_of_ok hstart hosts hkind haligned rfl rfl
  · simp only [State.qPerform, State.started, hop, hkind, passedBy_qCls, passedBy_queue, hinfo]
    exact hstore

theorem execOcclusionBegin_closed (hstart : u.starts v q 0x14 n) (hkind : bits n 162 160 = 2) (haligned : bits n 63 0 % 8 = 0)
    (hclosed : (v.queue q).occlOpen = false) :
    execOcclusionBegin dt q hosts s = .next (((v.mQueue q fun r => { r with occlOpen := true }).qRun q n).qSettle q hosts) := by
  rw [execOcclusionBegin, ← hu]
  exact qQuery_of_ok hstart hosts hkind haligned (by rw [hclosed]; rfl) rfl

/-! ### Deadlines -/

theorem execDeadline_removes (hstart : u.starts v q 0x16 n) (hremove : bit n 160 = true) (hframe : bits n 127 64 = 0) (hpipe : bits n 7 0 = 0) :
    execDeadline dt q hosts s = .next ((v.mQueue q fun r => { r with deadline := none }).qSettle q hosts) := by
  rw [execDeadline, ← hu]
  refine qDo_of_ok hstart hosts ?_ ?_
  · simp only [hremove, hframe, hpipe]
    rfl
  · simp only [hremove, if_true]

omit hu in
/-- A pipe that is not RUNNING gives no instant (R338). -/
theorem deadlineAt_of_not_running {p : Nat} (h : u.pipeState p ≠ 2) (frame : Nat) : u.deadlineAt p frame = none := by
  rw [State.deadlineAt, if_pos (.inl h)]

omit hu in
/-- The state with a deadline made active, the latest started of all (R332, R336). -/
def State.deadlineSet (s : State) (q n : Nat) : State :=
  (s.mRender fun r => { r with deadlines := r.deadlines + 1 }).mQueue q fun r =>
    { r with deadline := some { pipe := bits n 7 0, frame := bits n 127 64, order := s.render.deadlines } }

/-- DEADLINE against a granted pipe that is not RUNNING (R336, R338). -/
theorem execDeadline_sets (hstart : u.starts v q 0x16 n) (hset : bit n 160 = false) (hpipe : bits n 7 0 < u.row.pipes)
    (hgranted : u.pipeGranted (v.qOwner q) (bits n 7 0) = true) (hstate : u.pipeState (bits n 7 0) ≠ 2) :
    execDeadline dt q hosts s = .next ((v.deadlineSet q n).qSettle q hosts) := by
  obtain ⟨r, rfl⟩ := starts_taken hstart
  have hinstant : ((u.qTaken q r).deadlineSet q n).deadlineAt (bits n 7 0) (bits n 127 64) = none := deadlineAt_of_not_running hstate _
  have hrow : decide ((u.qTaken q r).row.pipes ≤ bits n 7 0) = false := decide_eq_false (Nat.not_le.mpr hpipe)
  have hpermits : (u.qTaken q r).pipeGranted ((u.qTaken q r).qOwner q) (bits n 7 0) = true := hgranted
  rw [execDeadline, ← hu]
  refine qDo_of_ok hstart hosts ?_ ?_
  · simp only [hset, Bool.false_eq_true, if_false, hrow, hpermits, Bool.not_true, Bool.and_false]
    rfl
  · rw [State.deadlineSet] at hinstant
    simp only [hset, Bool.false_eq_true, if_false, hinstant]
    rfl

end

/-- A deadline that passes while work is left is marked, counted and reported (R339, R370). -/
theorem execDeadlineMissed_due {dt q : Nat} {d : DeadlineSt} {a : Int} {s u : State} (hu : u = s.tick dt)
    (hdeadline : (u.queue q).deadline = some d) (hinstant : u.qDeadline q = some a) (hopen : d.settled = false)
    (hforeground : (u.queue q).fill = false) (hpassed : a ≤ u.now) (hleft : u.qUndone q = true) :
    execDeadlineMissed dt q s = .next (u.missDeadline q d) := by
  simp only [execDeadlineMissed, ← hu, hdeadline, hinstant, hopen, hforeground, decide_eq_true hpassed, hleft, Bool.not_false, Bool.and_self,
    if_true]

end Sys2Proof.Machine
end

section
/-!
PROOFS. Work at a queue where nothing else runs or waits: what is left in it (R299, R305 to R309, R336 to R339).
-/
namespace Sys2Proof.Machine

section
variable {q n op : Nat} {u v : State} (hosts : List HostRun) (hstart : u.starts v q op n)
include hstart

/-- Work that starts alone runs alone. -/
theorem settled_qRun (hwork : descWork op = true) (hrun : (v.queue q).running = []) (hwait : v.qWaiting q = []) :
    (((v.qRun q n).qSettle q hosts).queue q).running = [v.started q n []] ∧ Frame [.pods, .render] [u.qReg q 4] u ((v.qRun q n).qSettle q hosts) := by
  obtain ⟨hruns, -, -, hframe⟩ := settled_of_joined hstart (joined_of_qRunWith v q n []) hwork hrun hwait hosts
  exact ⟨hruns, hframe⟩

/-- A descriptor that joins alone, is not work left to do, and changes the record as it leaves. -/
theorem settled_of_leaves {F g : QueueSt → QueueSt} {d : Desc} (hwait : v.qWaiting q = []) (hjoins : (F (v.queue q)).running = [d])
    (hleaves : (descWork (descOp d.word) && !d.done) = false)
    (hperform : ∀ t : State, t.qPerform q d = (true, t.mQueue q g))
    (hctx : (g { F (v.queue q) with running := [] }).ctx = (v.queue q).ctx) (hrun : (g { F (v.queue q) with running := [] }).running = []) :
    Settled q u (v.mQueue q fun r => g { F r with running := [] }) ((v.mQueue q F).qSettle q hosts) := by
  have hgone : (v.mQueue q F).qSettle q hosts = (v.mQueue q fun r => g { F r with running := [] }).qSettle q hosts := by
    refine qSettle_of_leaves hosts (d := d) ?_ hleaves ?_ ?_
    · rw [mQueue_queue, hjoins]
    · rw [hperform, mQueue_mQueue, mQueue_mQueue]
    · rw [mQueue_queue, hrun]
  rw [hgone]
  exact settled_of_record hstart hwait hosts hctx hrun

end

/-- Descriptors other than signals and queries add the samples of theirs that passed to the count (R309). -/
theorem qPerform_count {q : Nat} {d : Desc} (hsignal : descOp d.word ≠ 0x13) (hquery : descOp d.word ≠ 0x14) (t : State) :
    t.qPerform q d = (true, t.mQueue q fun r => { r with occl := r.occl + d.passed }) := by
  rw [State.qPerform]
  split
  · next h => exact absurd h hsignal
  · next h => exact absurd h hquery
  · rfl

theorem qPerform_begin {q : Nat} {d : Desc} (hop : descOp d.word = 0x14) (hkind : bits d.word 162 160 = 2) (t : State) :
    t.qPerform q d = (true, t.mQueue q fun r => { r with occl := 0 }) := by
  simp only [State.qPerform, hop, hkind]

/-- A dispatch of at least one workgroup joins the running work as it is, -/
theorem dispatchStart_some {v : State} {q n : Nat} (h : 0 < bits n 31 0 ∧ 0 < bits n 63 32 ∧ 0 < bits n 95 64) :
    v.dispatchStart q n (bits n 95 0) = v.qRun q n := by
  obtain ⟨hx, hy, hz⟩ := h
  simp only [bits] at hx hy hz
  refine if_neg ?_
  simp only [bits]
  omega

/-- an empty one is marked done (R306). -/
theorem dispatchStart_none {v : State} {q n : Nat} (h : bits n 31 0 = 0) :
    v.dispatchStart q n (bits n 95 0) = (v.qRun q n).mQueue q fun r =>
      { r with running := r.running.map fun d => if d.cnt = descCnt n then { d with done := true } else d } := by
  refine if_pos (.inl ?_)
  simp only [bits] at h ⊢
  omega

section
variable {q n : Nat} {u v : State} (hosts : List HostRun)

/-- An empty dispatch leaves at once (R306). -/
theorem settled_emptyDispatch (hstart : u.starts v q 0x0D n) (h : bits n 31 0 = 0) (hrun : (v.queue q).running = []) (hwait : v.qWaiting q = []) :
    (((v.dispatchStart q n (bits n 95 0)).qSettle q hosts).queue q).running = []
      ∧ Frame [.pods, .render] [u.qReg q 4] u ((v.dispatchStart q n (bits n 95 0)).qSettle q hosts) := by
  obtain ⟨d, hd⟩ : ∃ d, d = { v.started q n [] with done := true } := ⟨_, rfl⟩
  have hop : descOp d.word = 0x0D := by rw [hd]; exact starts_op hstart
  have hdone : d.done = true := by rw [hd]
  rw [dispatchStart_none h, State.qRun, State.qRunWith, mQueue_mQueue]
  have hs := settled_of_leaves hosts hstart (d := d) hwait
    (F := fun r => { r with running := (r.running ++ [v.started q n []]).map fun d => if d.cnt = descCnt n then { d with done := true } else d })
    (by rw [hrun, hd]; exact congrArg (fun e => [e]) (if_pos rfl)) (by rw [hdone]; exact Bool.and_false _)
    (qPerform_count (by rw [hop]; decide) (by rw [hop]; decide)) rfl rfl
  exact ⟨by rw [hs.field (·.running) fun _ _ _ => rfl, mQueue_queue], hs.frame⟩

/-- A BARRIER that nothing stands before leaves at once (R307). -/
theorem settled_barrier (hstart : u.starts v q 0x11 n) (hrun : (v.queue q).running = []) (hwait : v.qWaiting q = []) :
    (((v.qRun q n).qSettle q hosts).queue q).running = [] ∧ Frame [.pods, .render] [u.qReg q 4] u ((v.qRun q n).qSettle q hosts) := by
  have hop : descOp (v.started q n []).word = 0x11 := starts_op hstart
  have hs := settled_of_leaves hosts hstart (d := v.started q n []) hwait
    (F := fun r => { r with running := r.running ++ [v.started q n []] })
    (by rw [hrun, List.nil_append]) (by rw [hop]; rfl) (qPerform_count (by rw [hop]; decide) (by rw [hop]; decide)) rfl rfl
  exact ⟨(hs.field (·.running) fun _ _ _ => rfl).trans (by rw [mQueue_queue]), hs.frame⟩

/-- OCCLUSION_BEGIN opens the query with its count 0, and leaves at once (R309). -/
theorem settled_occlusionBegin (hstart : u.starts v q 0x14 n) (hkind : bits n 162 160 = 2) (hrun : (v.queue q).running = [])
    (hwait : v.qWaiting q = []) {t : State} (ht : t = ((v.mQueue q fun r => { r with occlOpen := true }).qRun q n).qSettle q hosts) :
    (t.queue q).occlOpen = true ∧ (t.queue q).occl = 0 ∧ (t.queue q).running = [] ∧ Frame [.pods, .render] [u.qReg q 4] u t := by
  have hop : descOp ((v.mQueue q fun r => { r with occlOpen := true }).started q n []).word = 0x14 := starts_op hstart
  rw [State.qRun, State.qRunWith, mQueue_mQueue] at ht
  have hs := settled_of_leaves hosts hstart hwait (d := (v.mQueue q fun r => { r with occlOpen := true }).started q n [])
    (F := fun r => { r with occlOpen := true, running := r.running ++ [(v.mQueue q fun r => { r with occlOpen := true }).started q n []] })
    (by rw [hrun, List.nil_append]) (by rw [hop]; rfl) (qPerform_begin hop hkind) rfl rfl
  rw [← ht] at hs
  refine ⟨?_, ?_, ?_, hs.frame⟩
  · rw [hs.field (·.occlOpen) fun _ _ _ => rfl, mQueue_queue]
  · rw [hs.field (·.occl) fun _ _ _ => rfl, mQueue_queue]
  · rw [hs.field (·.running) fun _ _ _ => rfl, mQueue_queue]

/-- FENCE_WAIT holds the queue on a value not yet signalled; on a signalled one the queue, which waits for nothing, goes on (R308). -/
theorem settled_fenceWait (hstart : u.starts v q 0x12 n) (hrun : (v.queue q).running = []) (hwait : v.qWaiting q = []) (ready : Bool)
    (w : Nat × Nat × Nat) {t : State} (ht : t = (if ready then v else v.mQueue q fun r => { r with wait := some w }).qSettle q hosts) :
    (t.queue q).wait = (if ready then none else some w) ∧ Frame [.pods, .render] [u.qReg q 4] u t := by
  subst ht
  cases ready with
  | true =>
    have hs := settled_of_idle hosts (starts_frame hstart) (by rw [starts_queue hstart]) hrun hwait
    exact ⟨(hs.field (·.wait) fun _ _ _ => rfl).trans (by rw [starts_queue hstart, starts_wait hstart]; rfl), hs.frame⟩
  | false =>
    have hs := settled_of_record hstart hwait hosts (f := fun r => { r with wait := some w }) rfl hrun
    exact ⟨(hs.field (·.wait) fun _ _ _ => rfl).trans (by rw [mQueue_queue]; rfl), hs.frame⟩

/-- A deadline removed leaves none (R337). -/
theorem settled_deadlineRemoved (hstart : u.starts v q 0x16 n) (hrun : (v.queue q).running = []) (hwait : v.qWaiting q = []) :
    (((v.mQueue q fun r => { r with deadline := none }).qSettle q hosts).queue q).deadline = none
      ∧ Frame [.pods, .render] [u.qReg q 4] u ((v.mQueue q fun r => { r with deadline := none }).qSettle q hosts) := by
  have hs := settled_of_record hstart hwait hosts (f := fun r => { r with deadline := none }) rfl hrun
  have hnone : (v.mQueue q fun r => { r with deadline := none }).qDeadline q = none := by
    rw [State.qDeadline, mQueue_queue]
    rfl
  exact ⟨by rw [hs.deadline hnone, mQueue_queue], hs.frame⟩

/-- A deadline set against a pipe that is not RUNNING stays as it was set (R336, R338). -/
theorem settled_deadlineSet (hstart : u.starts v q 0x16 n) (hstate : u.pipeState (bits n 7 0) ≠ 2) (hrun : (v.queue q).running = [])
    (hwait : v.qWaiting q = []) :
    (((v.deadlineSet q n).qSettle q hosts).queue q).deadline
        = some { pipe := bits n 7 0, frame := bits n 127 64, order := u.render.deadlines }
      ∧ Frame [.pods, .render] [u.qReg q 4] u ((v.deadlineSet q n).qSettle q hosts) := by
  obtain ⟨r, rfl⟩ := starts_taken hstart
  have hq : ((u.qTaken q r).deadlineSet q n).queue q
      = { u.queue q with deadline := some { pipe := bits n 7 0, frame := bits n 127 64, order := u.render.deadlines } } := mQueue_queue ..
  have hframe : Frame [.pods, .render] [u.qReg q 4] u ((u.qTaken q r).deadlineSet q n) :=
    ((starts_frame hstart).mRender (by simp) _).mQueue (by simp) _ _
  have hs := settled_of_idle hosts hframe (by rw [hq]) (by rw [hq]; exact hrun) hwait
  have hnone : ((u.qTaken q r).deadlineSet q n).qDeadline q = none := by
    rw [State.qDeadline, hq]
    exact deadlineAt_of_not_running hstate _
  exact ⟨by rw [hs.deadline hnone, hq], hs.frame⟩

end

/-- Settles O26: each descriptor by its equation, and what it leaves read off the record of the queue. -/
theorem renderWork : Obligations.RenderWork := by
  refine ⟨?starts, ?reads, ?release, ?missed⟩
  case starts =>
    intro dt q n hosts s u v hu hrun hwait
    refine ⟨?dispatch, ?copy, ?barrier, ?fenceWait, fun hstart hfence => execFenceSignal_alone hu hstart hrun hfence,
      fun y hstart hkind haligned hstore => execTimestamp_alone hu hstart hrun hkind haligned hstore, ?occlusionBegin,
      fun y hstart hkind haligned hopen hstore => execOcclusionEnd_alone hu hstart hrun hkind haligned hopen hstore,
      fun i y hstart hkind haligned hinfo hstore => execPassInfo_alone hu hstart hrun hkind haligned hinfo hstore, ?removed, ?set⟩
    case dispatch =>
      intro hstart hchecks hx hy hz
      have hexec : exec (.dispatch dt q hosts) s = _ := execDispatch_starts hu hstart hchecks hx hy hz
      refine ⟨fun hsome => ?_, fun hnone => ⟨_, hexec, settled_emptyDispatch hosts hstart hnone hrun hwait⟩⟩
      rw [dispatchStart_some hsome] at hexec
      exact ⟨_, hexec, settled_qRun hosts hstart (by decide) hrun hwait⟩
    case copy =>
      exact fun hstart hsource htarget hlength hreads hwrites =>
        ⟨_, execCopy_inside hu hstart hsource htarget hlength hreads hwrites, settled_qRun hosts hstart (by decide) hrun hwait⟩
    case barrier => exact fun hstart => ⟨_, execBarrier_starts hu hstart, settled_barrier hosts hstart hrun hwait⟩
    case fenceWait =>
      exact fun hstart hfence => ⟨_, execFenceWait_starts hu hstart hfence, settled_fenceWait hosts hstart hrun hwait _ _ rfl⟩
    case occlusionBegin =>
      exact fun hstart hkind haligned hclosed =>
        ⟨_, execOcclusionBegin_closed hu hstart hkind haligned hclosed, settled_occlusionBegin hosts hstart hkind hrun hwait rfl⟩
    case removed =>
      exact fun hstart hremove hframe hpipe =>
        ⟨_, execDeadline_removes hu hstart hremove hframe hpipe, settled_deadlineRemoved hosts hstart hrun hwait⟩
    case set =>
      exact fun hstart hset hpipe hgranted hstate =>
        ⟨_, execDeadline_sets hu hstart hset hpipe hgranted hstate, settled_deadlineSet hosts hstart hstate hrun hwait⟩
  case reads =>
    intro dt q n hosts b s u v x hu
    exact ⟨fun hstart hfree hchecks haligned hload hx hy hz => execDispatchIndirect_read hu hstart hfree hchecks haligned hload hx hy hz,
      fun hstart hsurface haligned hmask hload hentry => execClear_sound hu hstart hsurface haligned hmask hload hentry,
      fun hstart haligned hload hentry => execResolve_sound hu hstart haligned hload hentry⟩
  case release => exact fun dt q c h k i hosts s u hu hwait hfence => execFenceWaitRelease_live hu hwait hfence
  case missed =>
    intro dt q d a s u hu hdeadline hinstant hopen hforeground hpassed hleft
    refine ⟨_, execDeadlineMissed_due hu hdeadline hinstant hopen hforeground hpassed hleft, ?_, ?_, ?_⟩
    · exact congrArg QueueSt.deadline (mQueue_queue ..)
    · rw [State.sat, State.rd_wr_same]
      have hmax : satAdd 32 (u.rd 0x0018002C) 1 < 2 ^ 32 := by simp only [satAdd]; omega
      exact Nat.mod_eq_of_lt hmax
    · exact ((Frame.refl u _ _).mQueue (by simp) _ _).sat (by simp) 1

end Sys2Proof.Machine
end

section
/-!
PROOFS. The scheduler: completed work, clusters given and left, contexts saved and restored, and the watchdog (R298, R307, R326, R327, R334,
R345 to R349, R359).
-/
namespace Sys2Proof.Machine

/-! ### Completion -/

section
variable {dt q : Nat} {hosts : List HostRun} {d : Desc} {k : Work} {s u x y : State}

/-- The one running descriptor waits for none, so its work completes and has its effect (R307). -/
theorem execDescriptorComplete_alone (hu : u = s.tickMem dt hosts) (hrun : (u.queue q).running = [d]) (hdone : d.done = false)
    (hwork : descWork (descOp d.word) = true) (heffect : u.descEffect q hosts d k = (true, x)) :
    execDescriptorComplete dt q d.cnt k hosts s = .next
      ((x.mQueue q fun r => { r with running := r.running.map fun e => if e.cnt = d.cnt then { e with done := true } else e }).qSettle q hosts) := by
  have hfind : ([d].find? fun e => e.cnt == d.cnt && descWork (descOp e.word) && !e.done) = some d := by simp [hwork, hdone]
  have hfirst : ([d].takeWhile fun e => e.cnt != d.cnt) = [] := by simp
  have hfree : ∀ unordered, descBlocked unordered [] d = false := fun _ => by simp [descBlocked, barrierHolds]
  simp only [execDescriptorComplete, ← hu, hrun, hfind, hfirst, hfree, Bool.false_eq_true, if_false, heffect, if_true]

/-- COPY stores the bytes it read at its destination (R299). -/
theorem descEffect_copy (hop : descOp d.word = 0x10) {b : Bytes}
    (hload : u.load (u.qOwner q) (u.qCls q) hosts (bits d.word 63 0) (bits d.word 159 128) = (some b, x))
    (hstore : x.store (u.qOwner q) (u.qCls q) (bits d.word 127 64) b = (true, y)) : u.descEffect q hosts d k = (true, y) := by
  simp only [State.descEffect, hop, hload]
  exact hstore

end

/-! ### Clusters -/

theorem mQueue_queue_ne (s : State) {q r : Nat} (f : QueueSt → QueueSt) (h : r ≠ q) : (s.mQueue q f).queue r = s.queue r := by
  rw [State.queue, State.mQueue, State.mRender_render, tget_tmod, if_neg h, State.queue]

theorem mQueue_clusters (s : State) (q : Nat) (f : QueueSt → QueueSt) : (s.mQueue q f).render.clusters = s.render.clusters := rfl

/-- A record counted up to another time: only the times for which the queue has held clusters differ (R347, R348). -/
def Recounted (r r' : QueueSt) : Prop := ∃ a b c, r' = { r with held := a, clusterTime := b, holdAt := c }

theorem Recounted.refl (r : QueueSt) : Recounted r r := ⟨_, _, _, rfl⟩

theorem Recounted.trans {r r' r'' : QueueSt} (h : Recounted r r') (g : Recounted r' r'') : Recounted r r'' := by
  obtain ⟨a, b, c, rfl⟩ := h
  obtain ⟨a', b', c', rfl⟩ := g
  exact ⟨a', b', c', rfl⟩

section
variable (s : State) (c p q : Nat)

theorem holdCount_queue : Recounted (s.queue q) ((s.holdCount p).queue q) := by
  rw [State.holdCount]
  split
  · exact .refl _
  · by_cases h : q = p
    · rw [h, mQueue_queue]
      exact ⟨_, _, _, rfl⟩
    · rw [mQueue_queue_ne _ _ h]
      exact .refl _

theorem clusterCount_render : (s.clusterCount c).render = s.render := by
  unfold State.clusterCount
  extract_lets held since t
  have ht : t.render = s.render := by
    unfold t
    split <;> rfl
  exact ht

/-- A cluster that changes hands leaves of each record all but the times counted in it. -/
theorem setCluster_queue : Recounted (s.queue q) ((s.setCluster c p).queue q) := by
  have hleft := holdCount_queue (s.clusterCount c) (tget 0 s.render.clusters c) q
  have htaken := holdCount_queue ((s.clusterCount c).holdCount (tget 0 s.render.clusters c)) p q
  rw [queue_congr (clusterCount_render s c)] at hleft
  exact hleft.trans htaken

theorem setCluster_cluster : tget 0 (s.setCluster c p).render.clusters c = p := tget_tset_same ..

theorem setCluster_frame (ks : List Nat) : Frame [.render, .budget] ks s (s.setCluster c p) := by
  have hhold : ∀ (t : State) (r : Nat), Frame [.render, .budget] ks s t → Frame [.render, .budget] ks s (t.holdCount r) := fun t r h => by
    rw [State.holdCount]
    split
    · exact h
    · exact h.mQueue (by simp) _ _
  have hcount : Frame [.render, .budget] ks s (s.clusterCount c) := by
    unfold State.clusterCount
    extract_lets held since t
    have ht : Frame [.render, .budget] ks s t := by
      unfold t
      split
      · exact Frame.refl ..
      · exact (Frame.refl ..).mBudget (by simp) _
    exact ht.mBudget (by simp) _
  dsimp only [State.setCluster]
  exact ((hhold _ _ (hhold _ _ hcount)).mRender (by simp) _).mBudget (by simp) _

end

section
variable {s : State} {c q : Nat}

/-- The cluster goes to the queue that ranks first and is allotted more, whose saved context is to be restored (R334, R345, R359). -/
theorem giveCluster_next (hnext : s.nextQueue = some q) (hroom : s.qClusters q < tget 0 s.render.allot q) :
    s.giveCluster c = ((s.setCluster c q).mQueue q fun r => { r with lastRan := s.now, restoring := r.saved }).ctxShow q := by
  simp only [State.giveCluster, hnext, if_pos hroom]

/-- What a cluster given to a queue leaves. -/
theorem cluster_given {f : QueueSt → QueueSt} {t : State} (ht : t = ((s.setCluster c q).mQueue q f).ctxShow q)
    (hf : ∀ r, f r = { r with lastRan := s.now, restoring := r.saved }) :
    tget 0 t.render.clusters c = q ∧ (t.queue q).restoring = (s.queue q).saved ∧ (t.queue q).lastRan = s.now
      ∧ Frame [.render, .budget] [s.qReg q 4] s t := by
  obtain ⟨a, b, h, hq⟩ := setCluster_queue s c q q
  have hrecord : ((s.setCluster c q).mQueue q f).queue q = _ := mQueue_queue ..
  rw [hf, hq] at hrecord
  have hreg : ((s.setCluster c q).mQueue q f).qReg q 4 = s.qReg q 4 := by rw [State.qReg, hrecord, State.qReg]
  subst ht
  refine ⟨?_, ?_, ?_, ctxShow_frame q ((setCluster_frame ..).mQueue (by simp) q f) (by rw [hreg]; exact List.mem_singleton.mpr rfl)⟩
  · rw [ctxShow_render, mQueue_clusters, setCluster_cluster]
  · rw [queue_congr (ctxShow_render ..), hrecord]
  · rw [queue_congr (ctxShow_render ..), hrecord]

/-- Whatever becomes of the work of a queue that leaves a cluster, the cluster is free, the queue last ran now, and only the register of its
context is written (R278, R327, R345). -/
theorem leaveCluster_left : tget 0 (s.leaveCluster c q).render.clusters c = 0 ∧ ((s.leaveCluster c q).queue q).lastRan = s.now
    ∧ Frame [.render, .budget] [s.qReg q 4] s (s.leaveCluster c q) := by
  obtain ⟨a, b, h, hq⟩ := setCluster_queue s c 0 q
  have hshown : ∀ f : QueueSt → QueueSt, (∀ r, (f r).lastRan = s.now ∧ (f r).ctx = r.ctx) →
      tget 0 (((s.setCluster c 0).mQueue q f).ctxShow q).render.clusters c = 0
        ∧ ((((s.setCluster c 0).mQueue q f).ctxShow q).queue q).lastRan = s.now
        ∧ Frame [.render, .budget] [s.qReg q 4] s (((s.setCluster c 0).mQueue q f).ctxShow q) := fun f hf => by
    have hreg : ((s.setCluster c 0).mQueue q f).qReg q 4 = s.qReg q 4 := by rw [State.qReg, mQueue_queue, (hf _).2, hq, State.qReg]
    refine ⟨?_, ?_, ctxShow_frame q ((setCluster_frame ..).mQueue (by simp) q f) (by rw [hreg]; exact List.mem_singleton.mpr rfl)⟩
    · rw [ctxShow_render, mQueue_clusters, setCluster_cluster]
    · rw [queue_congr (ctxShow_render ..), mQueue_queue, (hf _).1]
  simp only [State.leaveCluster, mQueue_mQueue]
  split
  · exact hshown _ fun _ => ⟨rfl, rfl⟩
  split
  · exact hshown _ fun _ => ⟨rfl, rfl⟩
  · exact hshown _ fun _ => ⟨rfl, rfl⟩

end

section
variable {dt c q r : Nat} {s u : State} (hu : u = s.tick dt)
include hu

/-- A cluster in service that no queue holds is given on (R334). -/
theorem execPreemptionBoundary_free (hup : c ∈ u.clustersUp) (hfree : tget 0 u.render.clusters c = 0) :
    execPreemptionBoundary dt c s = .next (u.giveCluster c) := by
  have hcontains : u.clustersUp.contains c = true := List.contains_iff_mem.mpr hup
  simp only [execPreemptionBoundary, ← hu, hcontains, not_true_eq_false, if_false, hfree, if_true]

/-- A queue that is no longer ready leaves its cluster, which is given on (R334). -/
theorem execPreemptionBoundary_unready (hup : c ∈ u.clustersUp) (hheld : tget 0 u.render.clusters c = r) (hsome : r ≠ 0)
    (hunready : u.qReady r = false) : execPreemptionBoundary dt c s = .next ((u.leaveCluster c r).giveCluster c) := by
  have hcontains : u.clustersUp.contains c = true := List.contains_iff_mem.mpr hup
  simp only [execPreemptionBoundary, ← hu, hcontains, not_true_eq_false, if_false, hheld, hsome, hunready, Bool.not_false, Bool.true_or, if_true]

theorem execContextSaved_saving (hsaving : (u.queue q).saving = true) :
    execContextSaved dt q s = .next ((u.mQueue q fun r => { r with saving := false, saved := u.qClusters q == 0 }).ctxShow q) := by
  simp only [execContextSaved, ← hu, hsaving, if_true]

theorem execContextRestored_restoring (hrestoring : (u.queue q).restoring = true) :
    execContextRestored dt q s = .next ((u.mQueue q fun r => { r with restoring := false, saved := false }).ctxShow q) := by
  simp only [execContextRestored, ← hu, hrestoring, if_true]

end

/-- A record changed and its context's state shown: the record is as changed, and only the register of the context is written. -/
theorem mQueue_shown (u : State) (q : Nat) (f : QueueSt → QueueSt) (hctx : (f (u.queue q)).ctx = (u.queue q).ctx) :
    ((u.mQueue q f).ctxShow q).queue q = f (u.queue q) ∧ Frame [.render] [u.qReg q 4] u ((u.mQueue q f).ctxShow q) := by
  have hreg : (u.mQueue q f).qReg q 4 = u.qReg q 4 := by rw [State.qReg, mQueue_queue, hctx, State.qReg]
  exact ⟨by rw [queue_congr (ctxShow_render ..), mQueue_queue],
    ctxShow_frame q ((Frame.refl ..).mQueue (by simp) q f) (by rw [hreg]; exact List.mem_singleton.mpr rfl)⟩

/-! ### The watchdog -/

/-- Work of the clusters that SCHED_WATCHDOG limits: that of a pass and of a draw, and a dispatch of a foreground queue (R347). -/
def Desc.watched (d : Desc) (fill : Bool) : Bool :=
  let op := descOp d.word
  op == 0x02 || op == 0x0A || op == 0x0B || op == 0x0C || ((op == 0x0D || op == 0x0E) && !fill)

/-- A dispatch, whose writes are lost when it is stopped (R347). -/
def Desc.dispatch (d : Desc) : Bool := descOp d.word == 0x0D || descOp d.word == 0x0E

section
variable {dt q cnt : Nat} (ranges : List (Nat × Nat)) {hosts : List HostRun} {d : Desc} {s u : State} (hu : u = s.tickMem dt hosts)
  (hfind : ((u.queue q).running.find? fun d => d.cnt == cnt && !d.done) = some d)
include hu hfind

/-- The watchdog of a running descriptor: what must hold for it to stop the queue (R347, R349). -/
theorem execWatchdogFired_eq : execWatchdogFired dt q cnt ranges hosts s = .next
    (if (d.watched (u.queue q).fill && (u.queue q).prio != 7 && !u.qDead q && decide (d.held0 + d.limit * 1000 ≤ (u.heldNow q).1)) = true
     then u.wdStop q hosts cnt (if d.dispatch then ranges else []) else u) := by
  simp only [execWatchdogFired, ← hu, hfind]
  exact (apply_ite Host.Outcome.next _ _ _).symm

/-- The cluster-time limit of a running fill dispatch likewise (R348, R349). -/
theorem execFillLimitExpiry_eq : execFillLimitExpiry dt q cnt ranges hosts s = .next
    (if (d.dispatch && (u.queue q).fill && (u.queue q).prio != 7 && !u.qDead q
        && decide (d.clusterTime0 + d.limit * 1000000 < (u.heldNow q).2)) = true
     then u.wdStop q hosts cnt ranges else u) := by
  simp only [execFillLimitExpiry, ← hu, hfind]
  exact (apply_ite Host.Outcome.next _ _ _).symm

/-- In a queue that lives, below priority 7, work over its limit is stopped. -/
theorem execWatchdogFired_over (hlive : u.qDead q = false) (hprio : (u.queue q).prio ≠ 7) (hwatched : d.watched (u.queue q).fill = true)
    (hover : d.held0 + d.limit * 1000 ≤ (u.heldNow q).1) :
    execWatchdogFired dt q cnt ranges hosts s = .next (u.wdStop q hosts cnt (if d.dispatch then ranges else [])) := by
  rw [execWatchdogFired_eq ranges hu hfind, if_pos]
  rw [hwatched, hlive, bne_iff_ne.mpr hprio, decide_eq_true hover]
  rfl

theorem execFillLimitExpiry_over (hlive : u.qDead q = false) (hprio : (u.queue q).prio ≠ 7) (hfill : (u.queue q).fill = true)
    (hdispatch : d.dispatch = true) (hover : d.clusterTime0 + d.limit * 1000000 < (u.heldNow q).2) :
    execFillLimitExpiry dt q cnt ranges hosts s = .next (u.wdStop q hosts cnt ranges) := by
  rw [execFillLimitExpiry_eq ranges hu hfind, if_pos]
  rw [hdispatch, hfill, hlive, bne_iff_ne.mpr hprio, decide_eq_true hover]
  rfl

/-- Before the limit nothing happens, -/
theorem execWatchdogFired_within (hwithin : (u.heldNow q).1 < d.held0 + d.limit * 1000) :
    execWatchdogFired dt q cnt ranges hosts s = .next u := by
  rw [execWatchdogFired_eq ranges hu hfind, if_neg]
  rw [decide_eq_false (Nat.not_le.mpr hwithin), Bool.and_false]
  exact Bool.false_ne_true

theorem execFillLimitExpiry_within (hwithin : (u.heldNow q).2 ≤ d.clusterTime0 + d.limit * 1000000) :
    execFillLimitExpiry dt q cnt ranges hosts s = .next u := by
  rw [execFillLimitExpiry_eq ranges hu hfind, if_neg]
  rw [decide_eq_false (Nat.not_lt.mpr hwithin), Bool.and_false]
  exact Bool.false_ne_true

/-- and at priority 7 neither (R347, R348). -/
theorem execWatchdogFired_top (hprio : (u.queue q).prio = 7) : execWatchdogFired dt q cnt ranges hosts s = .next u := by
  rw [execWatchdogFired_eq ranges hu hfind, if_neg]
  simp only [hprio, bne_self_eq_false, Bool.and_false, Bool.false_and, Bool.false_eq_true, not_false_eq_true]

theorem execFillLimitExpiry_top (hprio : (u.queue q).prio = 7) : execFillLimitExpiry dt q cnt ranges hosts s = .next u := by
  rw [execFillLimitExpiry_eq ranges hu hfind, if_neg]
  simp only [hprio, bne_self_eq_false, Bool.and_false, Bool.false_and, Bool.false_eq_true, not_false_eq_true]

end

/-- Settles O27 (log entries 33 and 76): each command by its equation, and what it leaves read off the queue's record. -/
theorem renderScheduling : Obligations.RenderScheduling := by
  refine ⟨?completes, ?copies, ?given, ?leaves, ?contexts, ?watchdog⟩
  case completes =>
    exact fun dt q k hosts d s u x hu hrun hdone hwork heffect => execDescriptorComplete_alone hu hrun hdone hwork heffect
  case copies =>
    exact fun dt q k hosts b d s u x y hu hrun hdone hop hload hstore =>
      execDescriptorComplete_alone hu hrun hdone (by rw [hop]; rfl) (descEffect_copy hop hload hstore)
  case given =>
    intro dt c q s u hu hup hfree hnext hroom
    have hexec : exec (.preemptionBoundary dt c) s = _ := execPreemptionBoundary_free hu hup hfree
    exact ⟨_, hexec, cluster_given (giveCluster_next hnext hroom) fun _ => rfl⟩
  case leaves =>
    exact fun dt c r s u hu hup hheld hsome hunready => ⟨execPreemptionBoundary_unready hu hup hheld hsome hunready, leaveCluster_left⟩
  case contexts =>
    intro dt q s u hu
    refine ⟨fun hsaving => ?_, fun hrestoring => ?_⟩
    · obtain ⟨hq, hframe⟩ := mQueue_shown u q (fun r => { r with saving := false, saved := u.qClusters q == 0 }) rfl
      exact ⟨_, execContextSaved_saving hu hsaving, by rw [hq], by rw [hq], hframe⟩
    · obtain ⟨hq, hframe⟩ := mQueue_shown u q (fun r => { r with restoring := false, saved := false }) rfl
      exact ⟨_, execContextRestored_restoring hu hrestoring, by rw [hq], by rw [hq], hframe⟩
  case watchdog =>
    intro dt q cnt ranges hosts d s u hu hfind hlive
    refine ⟨fun hprio hop hover => ?draw, fun hprio hfill hop hover => ?fill, fun hprio hfore hop hover => ?dispatch,
      execWatchdogFired_within ranges hu hfind, execFillLimitExpiry_within ranges hu hfind,
      fun hprio => ⟨execWatchdogFired_top ranges hu hfind hprio, execFillLimitExpiry_top ranges hu hfind hprio⟩⟩
    case draw =>
      obtain ⟨hwatched, hdispatch⟩ : d.watched (u.queue q).fill = true ∧ d.dispatch = false := by
        rcases hop with hop | hop | hop | hop <;> simp [Desc.watched, Desc.dispatch, hop]
      have hexec : exec (.watchdogFired dt q cnt ranges hosts) s = _ :=
        execWatchdogFired_over ranges hu hfind hlive hprio hwatched hover
      rw [hdispatch, if_neg Bool.false_ne_true] at hexec
      exact ⟨_, _, hexec, rfl, rfl⟩
    case fill =>
      have hdispatch : d.dispatch = true := by rcases hop with hop | hop <;> simp [Desc.dispatch, hop]
      exact ⟨_, _, execFillLimitExpiry_over ranges hu hfind hlive hprio hfill hdispatch hover, rfl, rfl⟩
    case dispatch =>
      obtain ⟨hwatched, hdispatch⟩ : d.watched (u.queue q).fill = true ∧ d.dispatch = true := by
        rcases hop with hop | hop <;> simp [Desc.watched, Desc.dispatch, hop, hfore]
      have hexec : exec (.watchdogFired dt q cnt ranges hosts) s = _ :=
        execWatchdogFired_over ranges hu hfind hlive hprio hwatched hover
      rw [hdispatch, if_pos rfl] at hexec
      exact ⟨_, _, hexec, rfl, rfl⟩

end Sys2Proof.Machine
end

section
/-!
PROOFS. Queues made and grown: CREATE of a render or compute queue, and a growth of its tile-list pool (R275, R276, R323, R328).
-/
namespace Sys2Proof.Machine

/-! ### Chunks for tile lists -/

/-- LPDDR chunks taken for a window: zeroed, held and counted (R276, R323). -/
def State.tileChunksTaken (s : State) (w : Nat) (l : List Nat) (n : Nat) : State :=
  ((s.zeroChunks 1 l).setChunks 1 (if w = pfWin then 3 else 2) (if w = pfWin then 0 else w) l).countChunks w 1 n

section
variable (s : State) (w : Nat) (l : List Nat) (n : Nat)

theorem tileChunksTaken_frame : FrameM [.seed] [grantReg w 0x12 8, viReg w 0x18] (fun a => ∃ k ∈ l, inChunk 1 k a) (fun _ => False) s
    (s.tileChunksTaken w l n) := by
  have hzeroed : FrameM [.seed] [grantReg w 0x12 8, viReg w 0x18] (fun a => ∃ k ∈ l, inChunk 1 k a) (fun _ => False) s (s.zeroChunks 1 l) :=
    zeroChunks_frame (by simp) 1 l (FrameM.refl ..) fun k hk _ ha => ⟨k, hk, ha⟩
  exact hzeroed.frame (countChunks_frame (setChunks_frame (by simp) 1 _ _ l (Frame.refl ..)) (by simp) (by simp) n)

theorem tileChunksTaken_render : (s.tileChunksTaken w l n).render = s.render := (tileChunksTaken_frame s w l n).parts .render (by simp)
theorem tileChunksTaken_pods : (s.tileChunksTaken w l n).pods = s.pods := (tileChunksTaken_frame s w l n).parts .pods (by simp)
theorem tileChunksTaken_now : (s.tileChunksTaken w l n).now = s.now := (tileChunksTaken_frame s w l n).now

end

/-- Which chunks are picked does not hang on a queue's record. -/
theorem pickChunks_mQueue (s : State) (q : Nat) (f : QueueSt → QueueSt) (mem fuel i n : Nat) :
    pickChunks (s.mQueue q f) mem fuel i n = pickChunks s mem fuel i n := by
  have hstate : ∀ i, (s.mQueue q f).chunkState mem i = s.chunkState mem i := fun _ => rfl
  induction fuel generalizing i n with
  | zero => rfl
  | succ fuel ih =>
    cases n with
    | zero => rfl
    | succ n => simp only [pickChunks, hstate, ih]

theorem pickChunks_none (s : State) (mem fuel i : Nat) : pickChunks s mem fuel i 0 = [] := by cases fuel <;> rfl

/-! ### CREATE -/

/-- The checks of a CREATE of a queue with parameter block `n` (R276). -/
def State.queueChecks (s : State) (w kind n : Nat) : List (Bool × Status) :=
  [(bits n 2 0 == 7 && w != s.safetyWin, .denied),
   (bits n 127 80 != 0 || bits n 63 48 != 0 || bits n 31 9 != 0 || bits n 7 3 != 0
      || (if kind = kRender then bit n 8 || bits n 47 32 == 0 || bits n 79 64 < bits n 47 32 || 1024 < bits n 79 64
          else bits n 47 32 != 0 || bits n 79 64 != 0), .badParam),
   (s.freeCtx.isNone || !s.grantRoom w 0x10 1 || !s.grantRoom w 0x12 (bits n 47 32) || s.freeChunks 1 < bits n 47 32
      || (s.pickIndex w kind).isNone, .noResource)]

/-- The state with the chunks of a queue and its context taken (R276). -/
def State.queueFed (s : State) (w n : Nat) : State :=
  (s.tileChunksTaken w (pickChunks s 1 s.lpChunks 0 (bits n 47 32)) (bits n 47 32)).grantTake w 0x10 1

/-- The record of a new queue in context `c` (R276). -/
def State.newQueue (s : State) (c n : Nat) : QueueSt :=
  { ctx := c, fill := bit n 8, prio := bits n 2 0, pool := pickChunks s 1 s.lpChunks 0 (bits n 47 32), freeTiles := 32 * bits n 47 32,
    lastRan := s.now }

/-- What CREATE of a queue leaves before its index is taken: the record, and the registers of the context (R276, R328). -/
def State.queueMade (s : State) (w kind c i n : Nat) : State :=
  ((s.queueFed w n).mRender fun r => { r with queues := tset {} r.queues (chanKey kind i) (s.newQueue c n) }).wrs
    [(ctxReg c 0, 2 ^ 31 + b2n (kind == kCompute) * 2 ^ 30 + b2n (bit n 8) * 2 ^ 29 + bits n 2 0 * 2 ^ 16 + w % 2 ^ 16),
     (ctxReg c 4, 2 ^ 28 + i), (ctxReg c 8, bits n 79 64 * 2 ^ 16 + bits n 47 32), (ctxReg c 12, 0)]

section
variable (s : State) (w kind c i n : Nat)

theorem queueFed_keeps : (s.queueFed w n).pods = s.pods ∧ (s.queueFed w n).render = s.render ∧ (s.queueFed w n).now = s.now := by
  have hpods := tileChunksTaken_pods s w (pickChunks s 1 s.lpChunks 0 (bits n 47 32)) (bits n 47 32)
  have hrender := tileChunksTaken_render s w (pickChunks s 1 s.lpChunks 0 (bits n 47 32)) (bits n 47 32)
  have hnow := tileChunksTaken_now s w (pickChunks s 1 s.lpChunks 0 (bits n 47 32)) (bits n 47 32)
  unfold State.queueFed State.grantTake
  split
  · exact ⟨hpods, hrender, hnow⟩
  · simp only [State.wr_frame]
    exact ⟨hpods, hrender, hnow⟩

theorem queueMade_pods : (s.queueMade w kind c i n).pods = s.pods := by
  obtain ⟨hpods, -, -⟩ := queueFed_keeps s w n
  simp only [State.queueMade, State.wrs, State.wr_frame, State.mRender_frame, hpods]

theorem queueMade_queue : (s.queueMade w kind c i n).queue (chanKey kind i) = s.newQueue c n := by
  simp only [State.queue, State.queueMade, State.wrs, State.wr_frame, State.mRender_render, tget_tset_same]

/-- RENDER_CTX_OWNER of the new queue (R328). -/
theorem queueMade_owner : (s.queueMade w kind c i n).rd (ctxReg c 0)
    = 2 ^ 31 + b2n (kind == kCompute) * 2 ^ 30 + b2n (bit n 8) * 2 ^ 29 + bits n 2 0 * 2 ^ 16 + w % 2 ^ 16 := by
  have h4 : ctxReg c 0 ≠ ctxReg c 4 := by unfold ctxReg; omega
  have h8 : ctxReg c 0 ≠ ctxReg c 8 := by unfold ctxReg; omega
  have h12 : ctxReg c 0 ≠ ctxReg c 12 := by unfold ctxReg; omega
  have hfill : b2n (bit n 8) ≤ 1 := by unfold b2n; split <;> omega
  have hkind : b2n (kind == kCompute) ≤ 1 := by unfold b2n; split <;> omega
  have hprio : bits n 2 0 < 8 := by simp only [bits]; omega
  simp only [State.queueMade, State.wrs]
  rw [State.rd_wr_ne _ h12, State.rd_wr_ne _ h8, State.rd_wr_ne _ h4, State.rd_wr_same]
  omega

/-- The pool's sizes of the new queue (R328). -/
theorem queueMade_sizes : (s.queueMade w kind c i n).rd (ctxReg c 8) = bits n 79 64 * 2 ^ 16 + bits n 47 32 := by
  have h12 : ctxReg c 8 ≠ ctxReg c 12 := by unfold ctxReg; omega
  have hinit : bits n 47 32 < 2 ^ 16 := by simp only [bits]; omega
  have hmax : bits n 79 64 < 2 ^ 16 := by simp only [bits]; omega
  simp only [State.queueMade, State.wrs]
  rw [State.rd_wr_ne _ h12, State.rd_wr_same]
  omega

/-- Taking the index leaves the new queue's record. -/
theorem queueTaken_queue : ((s.queueMade w kind c i n).takeIndex w kind i .live).queue (chanKey kind i) = s.newQueue c n := by
  have hframe : Frame [.pods] [grantReg w kind 8] (s.queueMade w kind c i n) ((s.queueMade w kind c i n).takeIndex w kind i .live) :=
    takeIndex_frame (Frame.refl ..) (by simp) (fun _ => by simp) i .live
  rw [queue_congr (hframe.parts .render (by simp)), queueMade_queue]

end

/-- The registers of contexts lie apart from the counts of the grants (R328, R483). -/
theorem ctxReg_ne_grant {w c k kind : Nat} (hw : okWin w = true) (hpf : w ≠ pfWin) (hkind : kind ≤ 3) (hk : k ≤ 8) : ctxReg c k ≠ grantReg w kind 8 := by
  have hvi : w < 256 := (okWin_iff.mp hw).resolve_right hpf
  unfold ctxReg grantReg
  omega

/-- CREATE of a queue whose checks pass (R275, R276; log entry 29). -/
theorem createQueue_passes {s : State} {w kind c i : Nat} {e : CtlEntry} {b : Bytes} (hlen : e.paramLen = 16) (hb : b.length = 16)
    (hok : s.hostOk w = true) (hctx : s.freeCtx = some c) (hpick : s.pickIndex w kind = some i)
    (hchecks : byR19 (s.queueChecks w kind (leNat b)) = .ok) :
    s.createQueue w kind e (some b) = (s.queueMade w kind c i (leNat b)).createDone w e kind i := by
  have hc : s.freeCtx.getD 0 = c := by rw [hctx]; rfl
  have hi : (s.pickIndex w kind).getD 0 = i := by rw [hpick]; rfl
  obtain ⟨-, -, hnow⟩ := queueFed_keeps s w (leNat b)
  rw [State.createQueue, if_neg (not_not.mpr hlen), params_host hok e (hb.trans hlen.symm)]
  dsimp only
  split
  · rw [hc, hi]
    unfold State.queueMade State.newQueue
    rw [← hnow]
    rfl
  · next hrefused => exact (hrefused hchecks).elim

/-- The fields of a compute queue's parameter block: all beside priority and fill class is 0 (R276). -/
theorem computeBlock_fields {n : Nat} (h : n = bits n 2 0 + b2n (bit n 8) * 2 ^ 8) :
    bits n 127 80 = 0 ∧ bits n 63 48 = 0 ∧ bits n 31 9 = 0 ∧ bits n 7 3 = 0 ∧ bits n 47 32 = 0 ∧ bits n 79 64 = 0 := by
  have hprio : bits n 2 0 < 8 := by simp only [bits]; omega
  have hfill : b2n (bit n 8) ≤ 1 := by unfold b2n; split <;> omega
  generalize bits n 2 0 = p at h hprio
  generalize b2n (bit n 8) = f at h hfill
  simp only [bits]
  omega

/-- Those of a render queue's: all beside priority and the pool's sizes is 0 (R276). -/
theorem renderBlock_fields {n : Nat} (h : n = bits n 2 0 + bits n 47 32 * 2 ^ 32 + bits n 79 64 * 2 ^ 64) :
    bits n 127 80 = 0 ∧ bits n 63 48 = 0 ∧ bits n 31 9 = 0 ∧ bits n 7 3 = 0 ∧ bit n 8 = false := by
  have hprio : bits n 2 0 < 8 := by simp only [bits]; omega
  have hinit : bits n 47 32 < 2 ^ 16 := by simp only [bits]; omega
  have hmax : bits n 79 64 < 2 ^ 16 := by simp only [bits]; omega
  generalize bits n 2 0 = p at h hprio
  generalize bits n 47 32 = a at h hinit
  generalize bits n 79 64 = m at h hmax
  simp only [bits, bit, Nat.testBit_eq_decide_div_mod_eq, decide_eq_false_iff_not]
  omega

section
variable {s : State} {w c i n : Nat} (hctx : s.freeCtx = some c) (hprio : bits n 2 0 ≠ 7) (hroom : s.grantRoom w 0x10 1 = true)
include hctx hprio hroom

theorem computeChecks_pass (hblock : n = bits n 2 0 + b2n (bit n 8) * 2 ^ 8) (hpick : s.pickIndex w kCompute = some i)
    (hchunks : s.grantRoom w 0x12 0 = true) : byR19 (s.queueChecks w kCompute n) = .ok := by
  obtain ⟨h127, h63, h31, h7, hinit, hmax⟩ := computeBlock_fields hblock
  have hkind : kCompute ≠ kRender := by decide
  simp only [State.queueChecks, beq_eq_false_iff_ne.mpr hprio, h127, h63, h31, h7, hinit, hmax, if_neg hkind, hctx, hpick, hroom, hchunks]
  rfl

theorem renderChecks_pass (hblock : n = bits n 2 0 + bits n 47 32 * 2 ^ 32 + bits n 79 64 * 2 ^ 64) (hsome : 0 < bits n 47 32)
    (hmax : bits n 47 32 ≤ bits n 79 64) (hmost : bits n 79 64 ≤ 1024) (hpick : s.pickIndex w kRender = some i)
    (hchunks : s.grantRoom w 0x12 (bits n 47 32) = true) (hfree : bits n 47 32 ≤ s.freeChunks 1) :
    byR19 (s.queueChecks w kRender n) = .ok := by
  obtain ⟨h127, h63, h31, h7, hfill⟩ := renderBlock_fields hblock
  simp only [State.queueChecks, beq_eq_false_iff_ne.mpr hprio, h127, h63, h31, h7, hfill, beq_eq_false_iff_ne.mpr hsome.ne',
    decide_eq_false (Nat.not_lt.mpr hmax), decide_eq_false (Nat.not_lt.mpr hmost), decide_eq_false (Nat.not_lt.mpr hfree), if_true, hctx,
    hpick, hroom, hchunks]
  rfl

end

section
variable {dt w i : Nat} {e : CtlEntry} {s u : State} (hu : u = s.tick dt)
include hu

theorem execCreateComputeQueue_waits (ext : Option Bytes) (hwait : u.ctlWaits w 1 kCompute = some e) :
    execCreateComputeQueue dt w ext s = .next (u.createQueue w kCompute e ext) := by
  simp only [execCreateComputeQueue, ← hu, hwait]

theorem execCreateRenderQueue_waits (ext : Option Bytes) (hwait : u.ctlWaits w 1 kRender = some e) :
    execCreateRenderQueue dt w ext s = .next (u.createQueue w kRender e ext) := by
  simp only [execCreateRenderQueue, ← hu, hwait]

end

/-! ### Growth -/

/-- The state with one chunk more in a queue's pool, which its context shows (R323). -/
def State.poolGrown (s : State) (q k : Nat) : State :=
  let t := ((s.mQueue q fun r => { r with growing := false }).tileChunksTaken (s.qOwner q) [k] 1).mQueue q fun r =>
    { r with pool := r.pool ++ [k], freeTiles := r.freeTiles + 32 }
  t.wf (t.qReg q 8) 15 0 (t.rf (t.qReg q 8) 15 0 + 1)

theorem poolGrown_queue (s : State) (q k : Nat) :
    (s.poolGrown q k).queue q = { s.queue q with growing := false, pool := (s.queue q).pool ++ [k], freeTiles := (s.queue q).freeTiles + 32 } := by
  have hrecord : ((s.mQueue q fun r => { r with growing := false }).tileChunksTaken (s.qOwner q) [k] 1).queue q = { s.queue q with growing := false } := by
    rw [queue_congr (tileChunksTaken_render ..), mQueue_queue]
  have hshown : ∀ (t : State) (a b c d : Nat), (t.wf a b c d).queue q = t.queue q := fun t a b c d => by
    simp only [State.queue, State.wf_frame]
  rw [State.poolGrown, hshown, mQueue_queue, hrecord]

/-- A growth that is due, with a chunk to be had (R323). -/
theorem execTilePoolGrowth_due {dt q k : Nat} {s u : State} (hu : u = s.tick dt) (hgrowing : (u.queue q).growing = true) (hmay : u.poolMay q = true)
    (hpick : pickChunks u 1 u.lpChunks 0 1 = [k]) : execTilePoolGrowth dt q s = .next ((u.poolGrown q k).poolAsk q) := by
  have hmay' : (u.mQueue q fun r => { r with growing := false }).poolMay q = true := by
    rw [← hmay, State.poolMay, State.poolMay, State.qReg, State.qReg, mQueue_queue]
    rfl
  have hpick' : pickChunks (u.mQueue q fun r => { r with growing := false }) 1 (u.mQueue q fun r => { r with growing := false }).lpChunks 0 1 = [k] :=
    (pickChunks_mQueue ..).trans hpick
  simp only [execTilePoolGrowth, ← hu, hgrowing, if_true, hmay', hpick']
  rfl

end Sys2Proof.Machine
end

section
/-!
PROOFS. The translation port, and the statement of queues made and grown: a request accepted or refused, and the oldest of them completing
(R284 to R290).
-/
namespace Sys2Proof.Machine

/-! ### A token write -/

/-- The state with a request accepted: its token shown, the request behind the others and counted (R285). -/
def State.xlateTaken (s : State) (w token : Nat) (q : XlateReq) : State :=
  ((s.wr (xlateReg w 0x0C) token).mRender fun r => { r with reqs := tset [] r.reqs w (tget [] r.reqs w ++ [q]) }).xlatePending w

section
variable (s : State) {w token : Nat} (q : XlateReq)

theorem xlateTaken_reqs : tget [] (s.xlateTaken w token q).render.reqs w = tget [] s.render.reqs w ++ [q] := by
  simp only [State.xlateTaken, State.xlatePending, State.wf_frame, State.mRender_render, State.wr_frame, tget_tset_same]

theorem xlateTaken_token (htoken : token < 2 ^ 32) : (s.xlateTaken w token q).rd (xlateReg w 0x0C) = token := by
  have hne : xlateReg w 0x0C ≠ xlateReg w 0x20 := by unfold xlateReg; omega
  rw [State.xlateTaken, State.xlatePending, State.wf, State.rd_wr_ne _ hne, State.mRender_rd, State.rd_wr_same, Nat.mod_eq_of_lt htoken]

theorem xlateTaken_pending (hroom : (tget [] s.render.reqs w).length < 8) :
    (s.xlateTaken w token q).rf (xlateReg w 0x20) 31 28 = (tget [] s.render.reqs w).length + 1 := by
  have hlen : (tget [] ((s.wr (xlateReg w 0x0C) token).mRender fun r =>
      { r with reqs := tset [] r.reqs w (tget [] r.reqs w ++ [q]) }).render.reqs w).length = (tget [] s.render.reqs w).length + 1 := by
    rw [State.mRender_render, tget_tset_same, List.length_append]
    rfl
  rw [State.xlateTaken, State.xlatePending, rf_wf_same _ _ _ (by omega) (by omega), hlen, Nat.mod_eq_of_lt (by omega)]

theorem xlateTaken_frame : Frame [.render] [xlateReg w 0x0C, xlateReg w 0x20] s (s.xlateTaken w token q) :=
  (((Frame.refl ..).wr (by simp) token).mRender (by simp) _).wf (by simp) ..

end

/-- The checks of a token write (R285). -/
def State.tokenChecks (s : State) (w token : Nat) : List (Bool × Status) :=
  [(token != nextToken (s.rd (xlateReg w 0x0C)), .spoof),
   (s.rf (xlateReg w 0x14) 1 0 == 2 && w != pfWin, .denied),
   (bits (s.rd64 (xlateReg w 0)) 5 0 != 0 || bits (s.rd (xlateReg w 0x14)) 31 2 != 0 || s.rf (xlateReg w 0x14) 1 0 == 3, .badParam),
   (8 ≤ (tget [] s.render.reqs w).length || s.viHeld w, .busy)]

theorem xlateToken_eq (s : State) (w token : Nat) : s.xlateToken w token =
    if byR19 (s.tokenChecks w token) ≠ .ok then
      let t := s.wf (xlateReg w 0x20) 22 16 (byR19 (s.tokenChecks w token)).code
      if byR19 (s.tokenChecks w token) = .spoof then t.spoofDrop w 0x04 else t
    else s.xlateTaken w token
      ⟨s.rf (xlateReg w 0x14) 1 0, s.rd64 (xlateReg w 0), token, s.rd (xlateReg w 0x10), s.rd64 (xlateReg w 0x18), s.xlateVer⟩ := rfl

/-- SPOOF ranks before every other status (R19). -/
theorem byR19_spoof (l : List (Bool × Status)) : byR19 ((true, .spoof) :: l) = .spoof := by
  simp only [byR19, Status.rank, Nat.not_lt_zero, if_true, if_false, ite_self]

section
variable {s : State} {w : Nat} {token : Word} {q : XlateReq} {ops : List Nat} (hdead : s.winDead w = false)
  (hq : q = ⟨s.rf (xlateReg w 0x14) 1 0, s.rd64 (xlateReg w 0), token.toNat, s.rd (xlateReg w 0x10), s.rd64 (xlateReg w 0x18), s.xlateVer⟩)
  (hop : q.op ∈ ops)
include hdead hq hop

theorem xlateOp_live : s.xlateOp w token ops = .next (s.xlateToken w token.toNat) := by
  subst hq
  rw [State.xlateOp, if_neg]
  simpa [hdead] using hop

/-- A token write that passes the checks, for any operation (R285). -/
theorem xlateOp_taken (hheld : s.viHeld w = false) (htoken : token.toNat = nextToken (s.rd (xlateReg w 0x0C)))
    (hroom : (tget [] s.render.reqs w).length < 8) (haddr : q.addr % 64 = 0) (hctrl : s.rd (xlateReg w 0x14) < 4) (hres : q.op ≠ 3)
    (hpublish : q.op = 2 → w = pfWin) : s.xlateOp w token ops = .next (s.xlateTaken w token.toNat q) := by
  rw [xlateOp_live hdead hq hop]
  subst hq
  have hlow : bits (s.rd64 (xlateReg w 0)) 5 0 = 0 := by simpa [bits] using haddr
  have hhigh : bits (s.rd (xlateReg w 0x14)) 31 2 = 0 := by
    generalize s.rd (xlateReg w 0x14) = c at hctrl
    simp only [bits]
    omega
  have hchecks : byR19 (s.tokenChecks w token.toNat) = .ok := by
    refine byR19_ok ?_
    simp only [State.tokenChecks, List.forall_mem_cons, List.not_mem_nil, IsEmpty.forall_iff, implies_true, and_true]
    refine ⟨by simpa using htoken, ?_, ?_, by simp [hroom, hheld]⟩
    · simpa using fun h => hpublish h
    · simpa [hlow, hhigh] using hres
  rw [xlateToken_eq, hchecks]
  rfl

/-- A token write with a wrong token: SPOOF, the status that ranks first (R19, R285). -/
theorem xlateOp_spoof (htoken : token.toNat ≠ nextToken (s.rd (xlateReg w 0x0C))) :
    s.xlateOp w token ops = .next ((s.wf (xlateReg w 0x20) 22 16 Status.spoof.code).spoofDrop w 0x04) := by
  have hwrong : (token.toNat != nextToken (s.rd (xlateReg w 0x0C))) = true := by simpa using htoken
  have hspoof : byR19 (s.tokenChecks w token.toNat) = .spoof := by rw [State.tokenChecks, hwrong, byR19_spoof]
  rw [xlateOp_live hdead hq hop, xlateToken_eq, hspoof]
  rfl

end

/-! ### Completion -/

section
variable {s x y z : State} {w addr ver : Nat} {share : Bool} {v : Verdict} {hosts : List HostRun}

/-- A record whose header cannot be read (R288). -/
theorem xlateRun_unread (hload : s.load w 1 hosts addr 64 = (none, x)) :
    s.xlateRun w addr ver share v hosts = (⟨.fault, some 2, none, 0, 0xFFFFFFFF⟩, x) := by
  rw [State.xlateRun, hload]
  rfl

/-- A record read whole and sound is translated (R286, R287). -/
theorem xlateRun_read {h b : Bytes} {stages : List StageIn} (hhead : s.load w 1 hosts addr 64 = (some h, x))
    (hrec : x.load w 1 hosts addr (recordLen (bits (leNat h) 7 0)) = (some b, y)) (hgood : recordBad (leNat b) = false)
    (hstages : y.stageData w hosts (leNat b) (bits (leNat b) 15 8) = (stages, z)) :
    s.xlateRun w addr ver share v hosts = z.xlateBody w addr ver share v b stages := by
  simp only [State.xlateRun, hhead, hrec, hgood, hstages, Bool.false_eq_true, if_false]

/-- A key that a cache of the window holds: nothing is left to find out (R288, R289). -/
theorem xlateBody_hit {b d : Bytes} {stages : List StageIn} (hbytes : stageBytes stages = some d) (hclean : ∀ e ∈ stages, e.errors = [])
    (hheld : (s.xlateFind w (recordKey ver b d)).isSome = true) :
    s.xlateBody w addr ver false v b stages = (⟨.ok, some 1, some (recordKey ver b d), 0, 0xFFFFFFFF⟩, s) := by
  have hshown : ∀ st : Status, ((stages.map StageIn.errors).any fun l => l.any fun e => e.1 == st) = false := fun st => by
    simpa using fun e he => by simp [hclean e he]
  simp only [State.xlateBody, hbytes, Option.map_some, hheld, hshown, Bool.false_eq_true, if_false]
  rfl

end

section
variable {dt w : Nat} {v : Verdict} {hosts : List HostRun} {q : XlateReq} {rest : List XlateReq} {s u x : State} {o : XlateOut}
  (hu : u = s.tickMem dt hosts)
include hu

/-- A window whose turn is not due (R286). -/
theorem execXlateDone_other (hturn : u.xlateNext ≠ some w) : execXlateDone dt w v hosts s = .next u := by
  simp only [execXlateDone, ← hu, if_neg hturn]

/-- The oldest request of the window whose turn it is, a TRANSLATE or a PUBLISH (R286). -/
theorem execXlateDone_served (hreqs : tget [] u.render.reqs w = q :: rest) (hturn : u.xlateNext = some w) (hop : q.op ≠ 1)
    (hrun : u.xlateRun w q.addr q.ver (q.op == 2) v hosts = (o, x)) : execXlateDone dt w v hosts s = .next (x.xlateEnd w q rest o) := by
  simp only [execXlateDone, ← hu, if_pos hturn, hreqs, if_neg hop, hrun]

end

@[simp] theorem xlateHeader_render (s : State) (w addr : Nat) (o : XlateOut) : (s.xlateHeader w addr o).render = s.render := by
  unfold State.xlateHeader
  (repeat' split) <;> simp

/-! ### The statement -/

/-- Settles O23 (log entries 11, 29 and 75): a CREATE through its checks, a growth through the chunk it picks, a token write through the
four checks of the port, and a completion through what the record's reads give. -/
theorem queueCreation : Obligations.QueueCreation := by
  unfold Obligations.QueueCreation
  refine ⟨?creation, ?growth, ?token, ?done, ?other, ?ended⟩
  case creation =>
    intro dt w i c e b s u hu hw hlen hb hok hctx _ hprio hroom
    refine ⟨fun hwait hblock hpick hchunks => ?_, fun hwait hblock hsome hmax hmost hpick hchunks hfree => ?_⟩
    · obtain ⟨-, -, -, -, hinit, -⟩ := computeBlock_fields hblock
      have hmade := createQueue_passes hlen hb hok hctx hpick (computeChecks_pass hctx hprio hroom hblock hpick hchunks)
      have hexec : exec (.createComputeQueue dt w (some b)) s = _ := execCreateComputeQueue_waits hu (some b) hwait
      rw [hexec, hmade, createDone_free e (queueMade_pods ..) hpick]
      refine ⟨_, rfl, takeIndex_chan .., ?_, ?_⟩
      · rw [queueTaken_queue, State.newQueue, hinit, pickChunks_none]
      · rw [takeIndex_rd (fun hpf => ctxReg_ne_grant hw hpf (by decide) (by decide)), queueMade_owner]
        rfl
    · have hmade := createQueue_passes hlen hb hok hctx hpick
        (renderChecks_pass hctx hprio hroom hblock hsome hmax hmost hpick hchunks hfree)
      have hexec : exec (.createRenderQueue dt w (some b)) s = _ := execCreateRenderQueue_waits hu (some b) hwait
      rw [hexec, hmade, createDone_free e (queueMade_pods ..) hpick]
      have hrecord := queueTaken_queue u w kRender c i (leNat b)
      refine ⟨_, rfl, takeIndex_chan .., congrArg QueueSt.ctx hrecord, congrArg QueueSt.freeTiles hrecord, congrArg QueueSt.pool hrecord, ?_⟩
      rw [takeIndex_rd (fun hpf => ctxReg_ne_grant hw hpf (by decide) (by decide)), queueMade_sizes]
  case growth =>
    intro dt q k s u hu hgrowing hmay hpick
    refine ⟨u.poolGrown q k, execTilePoolGrowth_due hu hgrowing hmay hpick, ?_, ?_⟩ <;> rw [poolGrown_queue]
  case token =>
    intro dt w token q s u hu hdead hheld hq
    subst hu
    have htoken32 : token.toNat < 2 ^ 32 := token.isLt
    refine ⟨fun htoken hroom haddr hctrl => ?_, fun hwrong hop => xlateOp_spoof hdead hq (by simp [hop]) hwrong⟩
    have htaken {ops : List Nat} (hop : q.op ∈ ops) := xlateOp_taken hdead hq hop hheld htoken hroom haddr hctrl
    refine ⟨fun hop => ?_, fun hop => ?_, fun hop hpf => ?_⟩
    · exact ⟨_, htaken (by simp [hop]) (by omega) (by omega), xlateTaken_reqs .., xlateTaken_token _ q htoken32, xlateTaken_pending _ q hroom,
        xlateTaken_frame ..⟩
    · exact ⟨_, htaken (by simp [hop]) (by omega) (by omega), xlateTaken_reqs .., xlateTaken_token _ q htoken32, xlateTaken_frame ..⟩
    · exact ⟨_, htaken (by simp [hop]) (by omega) fun _ => hpf, xlateTaken_reqs .., xlateTaken_token _ q htoken32, xlateTaken_frame ..⟩
  case done =>
    intro dt w v hosts q rest s u hu hreqs hturn
    refine ⟨fun x hop hload => execXlateDone_served hu hreqs hturn hop (xlateRun_unread hload), ?_⟩
    intro h b d x y z stages hop hhead hrec hgood hstages hbytes hclean hheld
    have hshare : (q.op == 2) = false := by rw [hop]; rfl
    refine execXlateDone_served hu hreqs hturn (by omega) ?_
    rw [hshare, xlateRun_read hhead hrec hgood hstages, xlateBody_hit hbytes hclean hheld]
  case other =>
    intro dt w v hosts s u hu hturn
    exact execXlateDone_other hu hturn
  case ended =>
    intro w q rest o u x hx
    subst hx
    refine ⟨rfl, ?_, ?_⟩ <;> simp only [xlateHeader_render, State.xlatePending, State.wf_frame, State.mRender_render, tget_tset_same]

end Sys2Proof.Machine
end

section
/-!
PROOFS. The budgeter's tick: what is shown of the tick that ended, and that the limits, grants, points and shares of the next one leave it as
it is (R341 to R343, R350 to R364).
-/
namespace Sys2Proof.Machine

theorem exec_budgetTick (dt : Nat) (m : BudgetIn) (s : State) : exec (.budgetTick dt m) s = execBudgetTick dt m s := rfl

/-! ### What the budgeter shows of a tick -/

/-- The words in which the budgeter shows the tick that ended: the power of the rails, BUDGET_TICK, and the use of the classes (R352, R355,
R360). -/
abbrev BudgetShown (k : Nat) : Prop :=
  (0x0010A000 ≤ k ∧ k < 0x0010A040) ∨ (0x00180010 ≤ k ∧ k < 0x00180018) ∨ (0x00180100 ≤ k ∧ k < 0x00180190 ∧ k % 16 = 8)

/-- What is shown and remembered of a tick is in `t` as in `s`. -/
structure KeepsShown (s t : State) : Prop where
  regs : ∀ k, BudgetShown k → t.rd k = s.rd k
  ticks : t.budget.ticks = s.budget.ticks
  powers : t.budget.powers = s.budget.powers
  held : t.budget.held = s.budget.held

section
variable {s t x : State}

theorem KeepsShown.refl (s : State) : KeepsShown s s := ⟨fun _ _ => rfl, rfl, rfl, rfl⟩

theorem KeepsShown.trans (h : KeepsShown s t) (g : KeepsShown t x) : KeepsShown s x :=
  ⟨fun k hk => (g.regs k hk).trans (h.regs k hk), g.ticks.trans h.ticks, g.powers.trans h.powers, g.held.trans h.held⟩

/-- What leaves the registers of a tick and the budgeter's own state keeps what is shown. -/
theorem KeepsShown.of_budget (h : ∀ k, BudgetShown k → t.rd k = s.rd k) (hbudget : t.budget = s.budget) : KeepsShown s t :=
  ⟨h, by rw [hbudget], by rw [hbudget], by rw [hbudget]⟩

theorem KeepsShown.wr (h : KeepsShown s t) {k : Nat} (hk : ¬ BudgetShown k) (v : Nat) : KeepsShown s (t.wr k v) :=
  h.trans (.of_budget (fun j hj => t.rd_wr_ne (by omega)) (by simp only [State.wr_frame]))

theorem KeepsShown.wf (h : KeepsShown s t) {k : Nat} (hk : ¬ BudgetShown k) (hi lo v : Nat) : KeepsShown s (t.wf k hi lo v) := h.wr hk _

theorem KeepsShown.wb (h : KeepsShown s t) {k : Nat} (hk : ¬ BudgetShown k) (i : Nat) (b : Bool) : KeepsShown s (t.wb k i b) := h.wr hk _

theorem KeepsShown.mRender (h : KeepsShown s t) (f : Render → Render) : KeepsShown s (t.mRender f) :=
  h.trans (.of_budget (fun _ _ => rfl) rfl)

theorem KeepsShown.mDisplay (h : KeepsShown s t) (f : Display → Display) : KeepsShown s (t.mDisplay f) :=
  h.trans (.of_budget (fun _ _ => rfl) rfl)

/-- A change of the budgeter's state that leaves the ticks counted, the powers remembered and the clusters' time. -/
theorem KeepsShown.mBudget (h : KeepsShown s t) {f : BudgetSt → BudgetSt} (hticks : ∀ b, (f b).ticks = b.ticks)
    (hpowers : ∀ b, (f b).powers = b.powers) (hheld : ∀ b, (f b).held = b.held) : KeepsShown s (t.mBudget f) :=
  h.trans ⟨fun _ _ => rfl, hticks _, hpowers _, hheld _⟩

theorem KeepsShown.foldl {β : Type} {f : State → β → State} (l : List β) (hf : ∀ t, ∀ x ∈ l, KeepsShown t (f t x)) (s : State) :
    KeepsShown s (l.foldl f s) := by
  induction l generalizing s with
  | nil => exact .refl s
  | cons x l ih => exact (hf s x (by simp)).trans (ih (fun t y hy => hf t y (by simp [hy])) _)

theorem keepsShown_clr (s : State) {k n : Nat} (h : ∀ j, k ≤ j → j < k + 4 * n → ¬ BudgetShown j) : KeepsShown s (s.clr k n) := by
  induction n generalizing s k with
  | zero => exact .refl s
  | succ n ih => exact ((KeepsShown.refl s).wr (h k (by omega) (by omega)) _).trans (ih _ fun j hlo hhi => h j (by omega) (by omega))

end

/-! ### Events and health -/

section
variable (s : State)

theorem EventOnly.budget {w : Nat} {s t : State} (h : EventOnly w s t) : t.budget = s.budget := congrArg (·.budget) h.rest

/-- The registers of an event lie beyond those of the PF below the VIs' (R66, R507). -/
theorem emitAt_rd_below (w kind status handle detail time : Nat) {k : Nat} (hk : k < 0x00410000) :
    (s.emitAt w kind status handle detail time).rd k = s.rd k := by
  have hbeyond : 0x00410000 ≤ (evr w).tail ∧ 0x00410000 ≤ (evr w).lost := by
    unfold evr win
    split
    · decide
    · split <;> dsimp only <;> omega
  exact (emitAt_only ..).regs k (by omega) (by omega) (by unfold viReg; omega) (by omega)

theorem keepsShown_emitAt (w kind status handle detail time : Nat) : KeepsShown s (s.emitAt w kind status handle detail time) :=
  .of_budget (fun _ hk => emitAt_rd_below s _ _ _ _ _ _ (by omega)) (emitAt_only ..).budget

theorem keepsShown_emit (w kind : Nat) (st : Status) (handle detail : Nat) : KeepsShown s (s.emit w kind st handle detail) :=
  keepsShown_emitAt ..

theorem keepsShown_emitPf (kind : Nat) (st : Status) (detail : Nat) : KeepsShown s (s.emitPf kind st detail) := keepsShown_emit ..

/-- A change of health changes the unit, the region controllers' state, and raises an event: no register of the PF below the VIs', and neither
the queues nor the budgeter's state (R29, R71). -/
theorem setHealth_keeps (u st : Nat) :
    (∀ k, k < 0x00410000 → (s.setHealth u st).rd k = s.rd k) ∧ (s.setHealth u st).render = s.render
      ∧ (s.setHealth u st).budget = s.budget := by
  unfold State.setHealth
  extract_lets x y
  have hy : (∀ k, y.rd k = s.rd k) ∧ y.render = s.render ∧ y.budget = s.budget := by
    unfold y
    split <;> exact ⟨fun _ => rfl, rfl, rfl⟩
  obtain ⟨hregs, hrender, hbudget⟩ := hy
  split
  · exact ⟨fun _ _ => rfl, rfl, rfl⟩
  · exact ⟨fun k hk => (emitAt_rd_below y _ _ _ _ _ _ hk).trans (hregs k), (emitAt_only ..).render.trans hrender,
      (emitAt_only ..).budget.trans hbudget⟩

theorem keepsShown_setHealth (u st : Nat) : KeepsShown s (s.setHealth u st) := by
  obtain ⟨hregs, -, hbudget⟩ := setHealth_keeps s u st
  exact .of_budget (fun k hk => hregs k (by omega)) hbudget

theorem keepsShown_recValue (source inst : Nat) (v : Int) : KeepsShown s (s.recValue source inst v) := by
  unfold State.recValue
  refine .foldl _ (fun t n _ => ?_) s
  exact .of_budget (fun _ _ => rfl) rfl

/-! ### Points and shares -/

theorem keepsShown_oppSettle {d : Nat} (hd : d < 24) : KeepsShown s (s.oppSettle d) := by
  unfold State.oppSettle
  extract_lets falls
  split
  · exact keepsShown_clr s fun j hlo hhi => by unfold oppReg at hlo hhi; omega
  · exact .refl s

theorem keepsShown_setPoint {d : Nat} (hd : d < 24) (p : Nat) : KeepsShown s (s.setPoint d p) :=
  (KeepsShown.refl s).wf (by unfold domainReg; omega) ..

/-- The points of the four GFX domains (R362). -/
theorem keepsShown_gfxPoints {pts : List Nat} (hlen : pts.length = 4) :
    KeepsShown s (pts.zipIdx.foldl (fun s x => s.setPoint (8 + x.2) x.1) s) := by
  refine .foldl _ (fun t x hx => ?_) s
  have hindex := List.snd_lt_of_mem_zipIdx hx
  exact keepsShown_setPoint t (by omega) _

theorem keepsShown_shareVi (v : Nat) : KeepsShown s (s.shareVi v) := by
  unfold State.shareVi
  extract_lets k use share held was t
  have ht : KeepsShown s t := ((KeepsShown.refl s).wf (by omega) ..).wb (by omega) ..
  split
  · exact ht.trans (keepsShown_emit ..)
  · exact ht

theorem keepsShown_composeVi (v : Nat) : KeepsShown s (s.composeVi v) := by
  unfold State.composeVi
  extract_lets k clocks use share held was t
  have ht : KeepsShown s t := ((KeepsShown.refl s).wf (by omega) ..).wb (by omega) ..
  split
  · exact ht.trans (keepsShown_emitPf ..)
  · exact ht

theorem gfxLower_length (m : BudgetIn) (rem fuel : Nat) (pts : List Nat) : (s.gfxLower m rem pts fuel).length = pts.length := by
  induction fuel generalizing pts with
  | zero => rfl
  | succ fuel ih =>
    unfold State.gfxLower
    dsimp only
    split
    · rw [ih, List.length_map]
    · rfl

/-! ### A class -/

/-- Of what is shown a class changes the word of its use alone (R355). -/
theorem classNote_use (c demand grant used : Nat) :
    ∃ a, KeepsShown s a ∧ KeepsShown (a.wr (0x00180108 + c * 0x10) (min 0xFFFFFFFF used)) (s.classNote c demand grant used) := by
  have hk : 0x00180108 + c * 0x10 = 0x00180100 + c * 0x10 + 8 := by omega
  rw [hk]
  unfold State.classNote
  extract_lets k sat b t
  refine ⟨(s.wr k (sat demand)).wr (k + 4) (sat grant), ((KeepsShown.refl s).wr (by omega) _).wr (by omega) _, ?_⟩
  change KeepsShown b _
  have ht : KeepsShown b t := (KeepsShown.refl b).wr (by omega) _
  split
  · split
    · exact ht
    · exact (ht.trans (keepsShown_emitPf ..)).mBudget (fun _ => rfl) (fun _ => rfl) fun _ => rfl
  · exact (KeepsShown.refl b).mBudget (fun _ => rfl) (fun _ => rfl) fun _ => rfl

end

/-! ### The tick that ended -/

/-- What `t` shows of a tick measured as `m`, which began with the budgeter's state `b`: BUDGET_TICK at `count`, the tick counted and its power
remembered, no cluster time uncounted, the rails, and the first `n` classes (R352, R355, R360, R363). -/
structure TickShown (m : BudgetIn) (b : BudgetSt) (count n : Nat) (t : State) : Prop where
  counted : t.rd64 0x00180010 = count
  ticks : t.budget.ticks = b.ticks + 1
  powers : t.budget.powers = ((List.range 9).foldl (fun n c => n + m.used.getD c 0) 0 :: b.powers).take 10
  held : t.budget.held = []
  uses : ∀ c, c < n → t.rd (0x00180108 + c * 0x10) = min (2 ^ 32 - 1) (m.used.getD c 0)
  rails : ∀ r, r < 16 → t.rd (0x0010A000 + r * 4) = m.rails.getD r 0 % 2 ^ 32

section
variable {m : BudgetIn} {b : BudgetSt} {count n : Nat} {s t : State}

theorem KeepsShown.rd64_tick (h : KeepsShown s t) : t.rd64 0x00180010 = s.rd64 0x00180010 := by
  rw [State.rd64, State.rd64, h.regs _ (by decide), h.regs _ (by decide)]

theorem TickShown.keep (h : TickShown m b count n s) (hn : n ≤ 9) (g : KeepsShown s t) : TickShown m b count n t where
  counted := g.rd64_tick.trans h.counted
  ticks := g.ticks.trans h.ticks
  powers := g.powers.trans h.powers
  held := g.held.trans h.held
  uses c hc := (g.regs _ (by omega)).trans (h.uses c hc)
  rails r hr := (g.regs _ (by omega)).trans (h.rails r hr)

/-- BUDGET_TICK counts the tick (R352). -/
theorem TickShown.incr64 (h : TickShown m b count n s) : TickShown m b ((count + 1) % 2 ^ 64) n (s.incr64 0x00180010 1) where
  counted := by rw [rd64_incr64, h.counted]
  ticks := by simpa using h.ticks
  powers := by simpa using h.powers
  held := by simpa using h.held
  uses c hc := by rw [State.incr64, State.wr64, State.rd_wr_ne _ (by omega), State.rd_wr_ne _ (by omega), h.uses c hc]
  rails r hr := by rw [State.incr64, State.wr64, State.rd_wr_ne _ (by omega), State.rd_wr_ne _ (by omega), h.rails r hr]

/-- The next class shows its use, which stops at all ones (R355). -/
theorem TickShown.classNote (h : TickShown m b count n s) (hn : n < 9) (demand grant : Nat) :
    TickShown m b count (n + 1) (s.classNote n demand grant (m.used.getD n 0)) := by
  obtain ⟨a, ha, hnote⟩ := classNote_use s n demand grant (m.used.getD n 0)
  have hold := h.keep hn.le ha
  have hkey : ∀ k, k ≠ 0x00180108 + n * 0x10 → (a.wr (0x00180108 + n * 0x10) (min 0xFFFFFFFF (m.used.getD n 0))).rd k = a.rd k :=
    fun k hk => State.rd_wr_ne _ hk
  have hnoted : TickShown m b count (n + 1) (a.wr (0x00180108 + n * 0x10) (min 0xFFFFFFFF (m.used.getD n 0))) := by
    refine ⟨?_, hold.ticks, hold.powers, hold.held, fun c hc => ?_, fun r hr => ?_⟩
    · rw [State.rd64, hkey _ (by omega), hkey _ (by omega), ← State.rd64, hold.counted]
    · rcases Nat.lt_succ_iff_lt_or_eq.mp hc with hlt | rfl
      · rw [hkey _ (by omega), hold.uses c hlt]
      · rw [State.rd_wr_same]
        omega
    · rw [hkey _ (by omega), hold.rails r hr]
  exact hnoted.keep hn hnote

theorem TickShown.classNotes (h : TickShown m b count 0 s) (demand grant : Nat → Nat) {n : Nat} (hn : n ≤ 9) :
    TickShown m b count n ((List.range n).foldl (fun s c => s.classNote c (demand c) (grant c) (m.used.getD c 0)) s) := by
  induction n with
  | zero => exact h
  | succ n ih =>
    rw [List.range_succ, List.foldl_append]
    exact (ih (by omega)).classNote hn ..

end

/-! ### Measuring -/

/-- BUDGET_TICK, the ticks counted and the powers remembered. -/
def State.tickCounts (s : State) : Nat × Nat × List Nat := (s.rd64 0x00180010, s.budget.ticks, s.budget.powers)

section
variable (s : State)

theorem clusterCount_tickCounts (c : Nat) : (s.clusterCount c).tickCounts = s.tickCounts := by
  unfold State.clusterCount
  extract_lets q since t
  have ht : t.tickCounts = s.tickCounts := by
    unfold t
    split <;> rfl
  exact ht

theorem incr64_tickCounts {k : Nat} (hk : 0x00180018 ≤ k) (n : Nat) : (s.incr64 k n).tickCounts = s.tickCounts := by
  have hrd : ∀ j, j < 0x00180018 → (s.incr64 k n).rd j = s.rd j := fun j hj =>
    (State.rd_wr_ne _ (by omega)).trans (State.rd_wr_ne _ (by omega))
  simp only [State.tickCounts, State.incr64_frame, State.rd64, hrd _ (by decide : 0x00180010 < 0x00180018),
    hrd _ (by decide : 0x00180010 + 4 < 0x00180018)]

theorem mQueue_tickCounts (q : Nat) (f : QueueSt → QueueSt) : (s.mQueue q f).tickCounts = s.tickCounts := rfl

/-- Energy is charged to contexts and to the VIs' registers (R363). -/
theorem chargeEnergy_tickCounts (m : BudgetIn) : (s.chargeEnergy m).tickCounts = s.tickCounts := by
  unfold State.chargeEnergy
  refine foldl_keeps State.tickCounts (fun t x => ?_) _ s
  dsimp only
  split
  · rfl
  · split
    · rfl
    · rw [incr64_tickCounts _ (by omega), mQueue_tickCounts]

theorem noteHeld_tickCounts : s.noteHeld.tickCounts = s.tickCounts := rfl

/-- The time clusters were held joins the last 100 ticks' (R341). -/
theorem noteHeld_held : s.noteHeld.budget.held = [] := rfl

/-- Words in a row after each was written, and what a write of them leaves. -/
theorem wrRun_keeps (base : Nat) (f : Nat → Nat) (n : Nat) :
    let t := (List.range n).foldl (fun s k => s.wr (base + k * 4) (f k)) s
    (∀ r, r < n → t.rd (base + r * 4) = f r % 2 ^ 32) ∧ (∀ k, k < base ∨ base + n * 4 ≤ k → t.rd k = s.rd k) ∧ t.budget = s.budget := by
  induction n with
  | zero => exact ⟨fun r hr => absurd hr r.not_lt_zero, fun _ _ => rfl, rfl⟩
  | succ n ih =>
    obtain ⟨hin, hout, hbudget⟩ := ih
    rw [List.range_succ, List.foldl_append]
    refine ⟨fun r hr => ?_, fun k hk => ?_, hbudget⟩
    · rcases Nat.lt_succ_iff_lt_or_eq.mp hr with hlt | rfl
      · exact (State.rd_wr_ne _ (by omega)).trans (hin r hlt)
      · exact State.rd_wr_same ..
    · exact (State.rd_wr_ne _ (by omega)).trans (hout k (by omega))

/-- The tick that ended is accounted for: the clusters' time is counted and charged, and the rails' power is shown (R341, R360, R363). -/
def State.tickMeasured (m : BudgetIn) : State :=
  (List.range 16).foldl (fun s k => s.wr (0x0010A000 + k * 4) (m.rails.getD k 0))
    ((s.render.clusters.foldl (fun s c => s.clusterCount c.1) s).chargeEnergy m).noteHeld

/-- Once `f` counts the tick and remembers its power, all that is to be shown of it but the classes is in place. -/
theorem tickMeasured_shown (m : BudgetIn) {f : BudgetSt → BudgetSt} (hticks : ∀ b, (f b).ticks = b.ticks + 1)
    (hpowers : ∀ b, (f b).powers = ((List.range 9).foldl (fun n c => n + m.used.getD c 0) 0 :: b.powers).take 10)
    (hheld : ∀ b, (f b).held = b.held) : TickShown m s.budget (s.rd64 0x00180010) 0 ((s.tickMeasured m).mBudget f) := by
  unfold State.tickMeasured
  have hcharged := chargeEnergy_tickCounts (s.render.clusters.foldl (fun s c => s.clusterCount c.1) s) m
  rw [foldl_keeps State.tickCounts (fun t (c : Nat × Nat) => clusterCount_tickCounts t c.1) _ s, ← noteHeld_tickCounts] at hcharged
  have hheldNow := noteHeld_held ((s.render.clusters.foldl (fun s c => s.clusterCount c.1) s).chargeEnergy m)
  generalize ((s.render.clusters.foldl (fun s c => s.clusterCount c.1) s).chargeEnergy m).noteHeld = t at hcharged hheldNow ⊢
  obtain ⟨hcount, hcounted, hremembered⟩ : t.rd64 0x00180010 = s.rd64 0x00180010 ∧ t.budget.ticks = s.budget.ticks
    ∧ t.budget.powers = s.budget.powers := by simpa only [State.tickCounts, Prod.mk.injEq] using hcharged
  obtain ⟨hrails, hothers, hbudget⟩ := wrRun_keeps t 0x0010A000 (fun k => m.rails.getD k 0) 16
  generalize (List.range 16).foldl (fun s k => s.wr (0x0010A000 + k * 4) (m.rails.getD k 0)) t = x at hrails hothers hbudget ⊢
  refine ⟨?_, ?_, ?_, ?_, fun c hc => absurd hc c.not_lt_zero, hrails⟩
  · rw [State.rd64, State.mBudget_rd, State.mBudget_rd, hothers _ (by omega), hothers _ (by omega), ← State.rd64, hcount]
  · rw [State.mBudget_budget, hticks, hbudget, hcounted]
  · rw [State.mBudget_budget, hpowers, hbudget, hremembered]
  · rw [State.mBudget_budget, hheld, hbudget, hheldNow]

end

/-- A tick in the order of its stages: measured and counted, then its limits, the budgeter's health, the classes, the points and the shares,
none of which touches what the stages before it show (R350 to R364). -/
theorem execBudgetTick_shown {dt : Nat} (m : BudgetIn) {s u : State} (hu : u = s.tick dt) :
    ∃ t, execBudgetTick dt m s = .next t ∧ TickShown m u.budget ((u.rd64 0x00180010 + 1) % 2 ^ 64) 9 t := by
  subst hu
  unfold execBudgetTick
  extract_lets ticked counted charged railed used total bank cold measured settled pavg cap thermal supply limit plim e dw temps hot changed
    limited banked warmed recorded told bad healthy rem rem' cp clocks cd cg rem₁ busy rate old ad ag rem₂ ap gp a five classed allotted ready
    pointed shared
  have hmeasured : TickShown m ticked.budget (ticked.rd64 0x00180010) 0 measured :=
    tickMeasured_shown ticked m (fun _ => rfl) (fun _ => rfl) fun _ => rfl
  have hsettled : TickShown m ticked.budget _ 0 settled :=
    hmeasured.keep (by decide) (.foldl _ (fun t d hd => keepsShown_oppSettle t (List.mem_range.mp hd)) _)
  have hlimited : TickShown m ticked.budget ((ticked.rd64 0x00180010 + 1) % 2 ^ 64) 0 limited :=
    (hsettled.keep (by decide) (((KeepsShown.refl settled).wf (by decide) ..).wf (by decide) ..)).incr64
  have htold : KeepsShown limited told := by
    have hrecorded : KeepsShown limited recorded :=
      (((KeepsShown.refl limited).wr (by decide) _).wr (by decide) _).trans (keepsShown_recValue ..)
    unfold told
    split
    · exact hrecorded.trans (keepsShown_emitPf ..)
    · exact hrecorded
  have hhealth : KeepsShown told healthy := by
    unfold healthy
    split
    · split
      · exact keepsShown_setHealth ..
      · split
        · exact keepsShown_setHealth ..
        · exact .refl _
    · exact .refl _
  have hfive : TickShown m ticked.budget _ 5 five :=
    (hlimited.keep (by decide) (htold.trans hhealth)).classNotes used used (by decide)
  have hclassed : TickShown m ticked.budget _ 9 classed :=
    (((hfive.classNote (by decide) ..).classNote (by decide) ..).classNote (by decide) ..).classNote (by decide) ..
  have hallotted : KeepsShown classed ready := ((KeepsShown.refl classed).mRender _).mBudget (fun _ => rfl) (fun _ => rfl) fun _ => rfl
  have hpointed : KeepsShown ready pointed :=
    (((keepsShown_setPoint ready (by decide) cp).trans (keepsShown_setPoint _ (by decide) _)).trans (keepsShown_setPoint _ (by decide) _)).trans
      (keepsShown_gfxPoints _ (gfxLower_length ..))
  have hshared : KeepsShown pointed shared := (KeepsShown.refl pointed).mDisplay _
  have hends : KeepsShown shared ((List.range shared.row.vis).foldl (fun s v => (s.shareVi v).composeVi v) shared) :=
    .foldl _ (fun t v _ => (keepsShown_shareVi t v).trans (keepsShown_composeVi ..)) _
  refine ⟨_, rfl, ?_⟩
  exact hclassed.keep le_rfl (((hallotted.trans hpointed).trans hshared).trans hends)

end Sys2Proof.Machine
end

section
/-!
PROOFS. Safe budgeting, the cap and the end of the derating, and the statements of the budgeter (R351, R360, R365, R367, R608).
-/
namespace Sys2Proof.Machine

theorem exec_safeBudgeting (dt : Nat) (s : State) : exec (.safeBudgeting dt) s = execSafeBudgeting dt s := rfl
theorem exec_budgetCapWrite (dt : Nat) (r : Req) (v : Word) (s : State) : exec (.budgetCapWrite dt r v) s = execBudgetCapWrite dt r v s := rfl
theorem exec_deratingEnd (dt : Nat) (s : State) : exec (.deratingEnd dt) s = execDeratingEnd dt s := rfl

/-! ### Points -/

section
variable (s : State)

theorem setPoint_point (d p e : Nat) : (s.setPoint d p).point e = if e = d then p % 2 ^ 3 else s.point e := by
  unfold State.point State.setPoint
  split
  · next h => rw [h, rf_wf_same _ _ _ (by decide) (by decide)]
  · next h => exact rf_congr (State.rd_wr_ne _ (by unfold domainReg; omega)) ..

/-- The APP and GFX domains at point 0 (R367). -/
def State.pointsLow : State := [6, 7, 8, 9, 10, 11].foldl (fun s d => s.setPoint d 0) s

theorem pointsLow_point {d : Nat} (hlo : 6 ≤ d) (hhi : d ≤ 11) : s.pointsLow.point d = 0 := by
  simp only [State.pointsLow, List.foldl_cons, List.foldl_nil, setPoint_point, Nat.zero_mod]
  split_ifs <;> omega

theorem pointsLow_unit (u : Nat) : s.pointsLow.unit u = s.unit u := foldl_keeps (fun s => s.unit u) (fun s _ => wf_unit s ..) _ s

theorem pointsLow_render : s.pointsLow.render = s.render := foldl_keeps State.render (fun s d => by simp [State.setPoint]) _ s

variable {s} in
theorem Frame.pointsLow {ps : List Part} {ks : List Nat} {u : State} (h : Frame ps ks u s)
    (hk : ∀ d ∈ [6, 7, 8, 9, 10, 11], domainReg d 0xC ∈ ks) : Frame ps ks u s.pointsLow := by
  unfold State.pointsLow
  generalize [6, 7, 8, 9, 10, 11] = l at hk
  induction l generalizing s with
  | nil => exact h
  | cons d l ih => exact ih (h.wf (hk d (by simp)) ..) fun e he => hk e (by simp [he])

/-! ### A missed tick -/

/-- A tick is missed: BUDGET_STATUS.SAFE is set, no queue is allotted a cluster, and the ticks missed in succession are counted (R367). -/
def State.tickMissed : State :=
  ((s.wb 0x0018000C 28 true).mRender fun r => { r with allot := [] }).mBudget fun b =>
    { b with ready := ((s.wb 0x0018000C 28 true).mRender fun r => { r with allot := [] }).qRanked, missed := min 11 (b.missed + 1) }

theorem execSafeBudgeting_eq (dt : Nat) : execSafeBudgeting dt s = .next (s.tick dt).tickMissed.budgeterLost.pointsLow := rfl

variable {s}

theorem tickMissed_missed : s.tickMissed.budget.missed = min 11 (s.budget.missed + 1) := by
  simp only [State.tickMissed, State.mBudget_budget, State.mRender_frame, State.wb_frame]

theorem tickMissed_allot : s.tickMissed.render.allot = [] := by simp only [State.tickMissed, State.mBudget_frame, State.mRender_render]

theorem tickMissed_safe : s.tickMissed.rb 0x0018000C 28 = true := by
  rw [← rb_wb_same s 0x0018000C true (by decide : 28 < 32)]
  exact rb_congr (by rw [State.tickMissed, State.mBudget_rd, State.mRender_rd]) 28

theorem tickMissed_unit (u : Nat) : s.tickMissed.unit u = s.unit u := by
  simp only [State.unit, State.tickMissed, State.mBudget_frame, State.mRender_frame, State.wb_frame]

theorem tickMissed_unitIndex (kind i : Nat) : s.tickMissed.unitIndex kind i = s.unitIndex kind i := by
  simp only [State.unitIndex, State.row, State.tickMissed, State.mBudget_frame, State.mRender_frame, State.wb_frame]

theorem budgeterLost_of_ne (h : s.budget.missed ≠ 10) : s.budgeterLost = s := by
  unfold State.budgeterLost
  split <;> simp [h]

/-- The tenth tick missed in succession: the budgeter reads FAULT with TIMEOUT (R608). -/
theorem budgeterLost_tenth {u : Nat} (h : s.budget.missed = 10) (hunit : s.unitIndex 0x15 0 = some u) (hhealth : (s.unit u).health ≤ 1) :
    (s.budgeterLost.unit u).health = 2 ∧ (s.budgeterLost.unit u).lastStatus = Status.timeout.code := by
  have hlost : s.budgeterLost = (s.mUnit u fun x => { x with lastStatus := Status.timeout.code }).setHealth u 2 := by
    simp only [State.budgeterLost, hunit, h, hhealth, and_self, if_true]
  rw [hlost, setHealth_unit, if_pos rfl, mUnit_unit, if_pos rfl]
  exact ⟨rfl, rfl⟩

theorem budgeterLost_keeps (s : State) :
    (∀ k, k < 0x00410000 → s.budgeterLost.rd k = s.rd k) ∧ s.budgeterLost.render = s.render := by
  unfold State.budgeterLost
  split
  · split
    · obtain ⟨hregs, hrender, -⟩ := setHealth_keeps (s.mUnit _ fun x => { x with lastStatus := Status.timeout.code }) _ 2
      exact ⟨hregs, hrender⟩
    · exact ⟨fun _ _ => rfl, rfl⟩
  · exact ⟨fun _ _ => rfl, rfl⟩

/-- The registers a missed tick changes: BUDGET_STATUS and the points of the GFX and APP domains (R367). -/
abbrev safeRegs : List Nat :=
  [0x0018000C, domainReg 6 0xC, domainReg 7 0xC, domainReg 8 0xC, domainReg 9 0xC, domainReg 10 0xC, domainReg 11 0xC]

theorem tickMissed_frame (s : State) : Frame [.render, .budget] safeRegs s s.tickMissed :=
  (((Frame.refl ..).wb (by simp) 28 true).mRender (by simp) _).mBudget (by simp) _

theorem pointsLow_rb_status (s : State) (i : Nat) : s.pointsLow.rb 0x0018000C i = s.rb 0x0018000C i :=
  rb_congr ((Frame.pointsLow (Frame.refl s [] ([6, 7, 8, 9, 10, 11].map fun d => domainReg d 0xC)) fun d hd =>
    List.mem_map_of_mem hd).regs _ (by decide)) i

theorem budgeterLost_rb_status (s : State) (i : Nat) : s.budgeterLost.rb 0x0018000C i = s.rb 0x0018000C i :=
  rb_congr ((budgeterLost_keeps s).1 _ (by decide)) i

end

/-- Settles O28 (log entry 56): each stage of a tick leaves what the stages before it show; a missed tick sets SAFE, takes the allotments and
lowers the points, and the budgeter is lost with the tenth alone. -/
theorem budgetTick : Obligations.BudgetTick := by
  unfold Obligations.BudgetTick
  refine ⟨?tick, ?missed⟩
  case tick =>
    intro dt m s u hu
    obtain ⟨t, hexec, hshown⟩ := execBudgetTick_shown m hu
    obtain ⟨hcounted, hticks, hpowers, hheld, huses, hrails⟩ := hshown
    exact ⟨t, (exec_budgetTick dt m s).trans hexec, hcounted, hticks, hpowers, hheld, huses, hrails⟩
  case missed =>
    intro dt s u hu
    obtain ⟨-, hrender⟩ := budgeterLost_keeps u.tickMissed
    refine ⟨u.tickMissed.budgeterLost.pointsLow, ?_, ?_, ?_, fun d hlo hhi => pointsLow_point _ hlo hhi, fun hfew => ?_,
      fun x hnine hunit hhealth => ?_⟩
    · rw [exec_safeBudgeting, execSafeBudgeting_eq, hu]
    · rw [pointsLow_rb_status, budgeterLost_rb_status]
      exact tickMissed_safe
    · rw [pointsLow_render, hrender, tickMissed_allot]
    · have hkeeps : u.tickMissed.budgeterLost = u.tickMissed := budgeterLost_of_ne (by rw [tickMissed_missed]; omega)
      rw [hkeeps]
      exact (tickMissed_frame u).pointsLow (by simp)
    · rw [pointsLow_unit]
      exact budgeterLost_tenth (by rw [tickMissed_missed]; omega) (by rw [tickMissed_unitIndex, hunit]) (by rw [tickMissed_unit]; exact hhealth)

/-! ### The cap and the derating -/

/-- The lowest cap of a part is no higher than its highest, and a word holds both (R566, R711). -/
theorem capMin_le_capMax (v : Variant) : v.capMin ≤ v.row.capMaxW * 10 ∧ v.row.capMaxW * 10 < 2 ^ 32 := by cases v <;> decide

/-- A cap is stored between the part's lowest and highest, and as it is when it lies there (R365). -/
theorem capClamp_bounds (s : State) (v : Nat) :
    s.variant.capMin ≤ s.capClamp v ∧ s.capClamp v ≤ s.row.capMaxW * 10
      ∧ (s.variant.capMin ≤ v → v ≤ s.row.capMaxW * 10 → s.capClamp v = v) := by
  obtain ⟨hcaps, -⟩ := capMin_le_capMax s.variant
  unfold State.capClamp State.row
  omega

section
variable {dt : Nat} {r : Req} {s u : State} (hu : u = s.tick dt)
include hu

theorem execBudgetCapWrite_claimed (v : Word) (hpath : pathWin r.path = pfWin) (hclaimed : u.budgetClaimed r = true) :
    execBudgetCapWrite dt r v s = .next (u.wf 0x0018000C 22 16 Status.claimed.code) := by
  simp [execBudgetCapWrite, ← hu, hpath, hclaimed]

theorem execBudgetCapWrite_free (v : Word) (hpath : pathWin r.path = pfWin) (hfree : u.budgetClaimed r = false) :
    execBudgetCapWrite dt r v s = .next (u.wr 0x00180000 (u.capClamp (v.toNat % 65536))) := by
  simp [execBudgetCapWrite, ← hu, hpath, hfree]

theorem execDeratingEnd_due {f : Nat} (hfirst : u.budget.first = some f) (htheta : u.start.pset.theta ≠ 0) (hderated : u.budget.derated = true)
    (hdue : f + 10000000000 ≤ u.now) :
    execDeratingEnd dt s = .next ((u.mBudget fun b => { b with derated := false }).wb 0x0018000C 29 false) := by
  simp [execDeratingEnd, ← hu, hfirst, htheta, hderated, hdue]

theorem execDeratingEnd_early {f : Nat} (hfirst : u.budget.first = some f) (htheta : u.start.pset.theta ≠ 0) (hearly : u.now < f + 10000000000) :
    execDeratingEnd dt s = .next u := by
  simp [execDeratingEnd, ← hu, hfirst, htheta, hearly]

end

/-- Settles O29: a write of the cap through its clamp, or through the claim that refuses it, and the derating before and after its 10 s. -/
theorem budgetRegisters : Obligations.BudgetRegisters := by
  unfold Obligations.BudgetRegisters
  refine ⟨?cap, ?derating⟩
  case cap =>
    intro dt r v s u hu hpath
    refine ⟨fun hclaimed => execBudgetCapWrite_claimed hu v hpath hclaimed, fun hfree => ?_⟩
    obtain ⟨hlo, hhi, hsame⟩ := capClamp_bounds u (v.toNat % 65536)
    obtain ⟨-, hword⟩ := capMin_le_capMax u.variant
    refine ⟨_, (exec_budgetCapWrite ..).trans (execBudgetCapWrite_free hu v hpath hfree), (Frame.refl ..).wr (by simp) _, ?_⟩
    rw [State.rd_wr_same, Nat.mod_eq_of_lt (hhi.trans_lt hword)]
    exact ⟨hlo, hhi, hsame⟩
  case derating =>
    intro dt f s u hu hfirst htheta
    refine ⟨fun hderated hdue => ?_, fun hearly => execDeratingEnd_early hu hfirst htheta hearly⟩
    exact ⟨_, (exec_deratingEnd ..).trans (execDeratingEnd_due hu hfirst htheta hderated hdue),
      by simp only [State.wb_frame, State.mBudget_budget], rb_wb_same _ _ _ (by decide),
      ((Frame.refl ..).mBudget (by simp) _).wb (by simp) ..⟩

end Sys2Proof.Machine
end

section
/-!
PROOFS. Audio maps and clock domains: capacity and the progress of a swap as they are shown, and the commands of maps and domains (R375 to R378,
R402, R403).
-/
namespace Sys2Proof.Machine

theorem exec_audioMapWrite (dt k : Nat) (r : Req) (v : Word) (s : State) : exec (.audioMapWrite dt r k v) s = execAudioMapWrite dt r k v s := rfl
theorem exec_audioDomainEnable (dt d : Nat) (r : Req) (v : Word) (s : State) :
    exec (.audioDomainEnable dt r d v) s = execAudioDomainEnable dt r d v s := rfl
theorem exec_audioDomainDisable (dt d : Nat) (r : Req) (v : Word) (s : State) :
    exec (.audioDomainDisable dt r d v) s = execAudioDomainDisable dt r d v s := rfl
theorem exec_audioDomCtrlWrite (dt d : Nat) (r : Req) (v : Word) (s : State) :
    exec (.audioDomCtrlWrite dt r d v) s = execAudioDomCtrlWrite dt r d v s := rfl
theorem exec_sampleBoundary (dt d : Nat) (pins : List (Nat × Word)) (hosts : List HostRun) (s : State) :
    exec (.sampleBoundary dt d pins hosts) s = execSampleBoundary dt d pins hosts s := rfl
theorem exec_audioSourceLost (dt d : Nat) (s : State) : exec (.audioSourceLost dt d) s = execAudioSourceLost dt d s := rfl
theorem exec_domainLock (dt d : Nat) (ppm : Word) (s : State) : exec (.domainLock dt d ppm) s = execDomainLock dt d ppm s := rfl

/-! ### Words under a mask -/

theorem and_lt_of_mask_lt {m n : Nat} (v : Nat) (hm : m < 2 ^ n) : v &&& m < 2 ^ n := lt_of_le_of_lt Nat.and_le_right hm

/-- A bit that a mask keeps. -/
theorem bit_and_of_mask {v m i : Nat} (hm : bit m i = true) : bit (v &&& m) i = bit v i := by
  rw [bit, Nat.testBit_and, ← bit, ← bit, hm, Bool.and_true]

/-! ### Domains and what is shown of them -/

theorem Frame.ite {ps : List Part} {ks : List Nat} {s t u : State} {c : Prop} [Decidable c] (h : Frame ps ks s t) (g : Frame ps ks s u) :
    Frame ps ks s (if c then t else u) := by
  split <;> assumption

section
variable {s t : State} {ps : List Part} {ks : List Nat}

theorem mDom_dom (s : State) (d : Nat) (f : DomSt → DomSt) : (s.mDom d f).dom d = f (s.dom d) := by
  simp only [State.dom, State.mDom, State.mAudio_audio, tget_tmod, if_pos]

theorem dom_congr (h : t.audio = s.audio) (d : Nat) : t.dom d = s.dom d := by rw [State.dom, h, State.dom]

theorem wr_dom (s : State) (k v d : Nat) : (s.wr k v).dom d = s.dom d := dom_congr (by simp) d

theorem Frame.mDom (h : Frame ps ks s t) (hp : Part.audio ∈ ps) (d : Nat) (f : DomSt → DomSt) : Frame ps ks s (t.mDom d f) := h.mAudio hp _

theorem Frame.capacityShow (h : Frame ps ks s t) (hk : 0x03000008 ∈ ks) : Frame ps ks s t.capacityShow := h.wr hk _

/-- AUDIO_CAPACITY alone is brought up to date (R376). -/
theorem capacityShow_rd {k : Nat} (hk : k ≠ 0x03000008) : s.capacityShow.rd k = s.rd k := State.rd_wr_ne _ hk

@[simp] theorem capacityShow_audio : s.capacityShow.audio = s.audio := by simp only [State.capacityShow, State.wr_frame]
@[simp] theorem capacityShow_pods : s.capacityShow.pods = s.pods := by simp only [State.capacityShow, State.wr_frame]

/-- The progress of a swap is kept in AUDIO_BANK_STATUS alone (R389, R404). -/
theorem Frame.swapAdvance (h : Frame ps ks s t) (hk : bankStatus ∈ ks) : Frame ps ks s t.swapAdvance := by
  have hshown := h.wf hk 8 0 (t.runningDoms.foldl (fun m d => max m (t.dom d).k) 0)
  have hchanged (c : Prop) [Decidable c] (x : Nat) := Frame.ite (c := c) (hshown.wf hk 30 28 x) hshown
  exact Frame.ite (((hchanged ..).wf hk 30 28 4).wf hk 8 0 0) (hchanged ..)

theorem swapAdvance_audio (s : State) : s.swapAdvance.audio = s.audio :=
  ((Frame.refl s [] [bankStatus]).swapAdvance (by simp)).parts .audio (by simp)

theorem swapAdvance_rd {k : Nat} (hk : k ≠ bankStatus) : s.swapAdvance.rd k = s.rd k :=
  ((Frame.refl s [] [bankStatus]).swapAdvance (by simp)).regs k (by simpa using hk)

theorem Frame.zeroRuns (h : Frame ps ks s t) (hp : Part.audio ∈ ps) (d : Nat) : Frame ps ks s (t.zeroRuns d) := h.mAudio hp _

end

/-- The words of a domain come after AUDIO_CAPACITY and AUDIO_BANK_STATUS (R404). -/
theorem domReg_apart (d off : Nat) : domReg d off ≠ 0x03000008 ∧ domReg d off ≠ bankStatus := by
  unfold domReg bankStatus
  omega

theorem domReg_ne {d off off' : Nat} (h : off ≠ off') : domReg d off ≠ domReg d off' := by
  unfold domReg
  omega

/-! ### Maps -/

section
variable {dt k : Nat} {r : Req} {v : Word} {row : RegRow} {high : Bool} {s u x : State} (hu : u = s.tick dt) (hclaim : u.audioClaimed r = false)
  (hrow : keyRow k = some (row, high)) (hx : x = u.wr k (accessWrite row high (u.rb audioLock 0) (u.rd k) v.toNat))
include hu hclaim hrow hx

theorem execAudioMapWrite_open : execAudioMapWrite dt r k v s = .next (u.mapCommit x (u.mapBad k (x.rd k))) := by
  simp [execAudioMapWrite, ← hu, hclaim, hrow, hx]

theorem execAudioMapWrite_fits (hbad : (u.mapBad k (x.rd k) || runsPast x.inRuns u.row.audioIn || runsPast x.outRuns u.row.audioOut) = false)
    (hover : (runsOverlap x.inRuns || runsOverlap x.outRuns || decide (u.row.audioOut < x.unitsUsed fun d => (x.dom d).running)) = false) :
    execAudioMapWrite dt r k v s = .next x.capacityShow := by
  rw [execAudioMapWrite_open hu hclaim hrow hx]
  simp [State.mapCommit, byR19, hbad, hover]

/-- A reserved encoding or a run past the matrix comes before a lack of room (R19, R378). -/
theorem execAudioMapWrite_bad (hbad : (u.mapBad k (x.rd k) || runsPast x.inRuns u.row.audioIn || runsPast x.outRuns u.row.audioOut) = true) :
    execAudioMapWrite dt r k v s = .next (u.audioResult .badParam) := by
  rw [execAudioMapWrite_open hu hclaim hrow hx, State.mapCommit, hbad]
  cases (runsOverlap x.inRuns || runsOverlap x.outRuns || decide (u.row.audioOut < x.unitsUsed fun d => (x.dom d).running)) <;> rfl

end

/-! ### ENABLE -/

/-- A domain that was enabled with setup word `n`: it runs, and is fresh; STATE reads LOCKED on the device's own clock and HOLDOVER on another
(R374, R375, R377). -/
def State.domStarted (s : State) (d n : Nat) : State :=
  ((((s.wr (domReg d 0) n).mDom d fun m =>
        { m with running := true, stopping := false, fresh := true, changed := decide (2 ≤ s.swapState),
                 k := if 2 ≤ s.swapState then s.audio.soft else 0, fxNew := none }).wf
      (domReg d 4) 31 29 (if bits n 25 24 = 0 then 6 else 4)).domResult d .ok).capacityShow

section
variable {dt d : Nat} {r : Req} {v : Word} {s u : State} (hu : u = s.tick dt)
include hu

section
variable (hclaim : u.audioClaimed r = false)
include hclaim

section
variable {n : Nat} (hoff : u.rb (domReg d 0) 31 = false) (hn : n = v.toNat &&& 0xBF00003F) (henable : bit v.toNat 31 = true)
include hoff hn henable

theorem execAudioDomainEnable_passes (hcheck : u.domCheck d n = .ok) : execAudioDomainEnable dt r d v s = .next (u.domStarted d n) := by
  have hbit : bit n 31 = true := by rw [hn, bit_and_of_mask rfl, henable]
  simp only [execAudioDomainEnable, ← hu, ← hn, hclaim, hoff, hbit, hcheck, Bool.not_true, Bool.or_self, Bool.false_eq_true, if_false]
  rfl

theorem execAudioDomainEnable_fails {st : Status} (hcheck : u.domCheck d n = st) (hst : st ≠ .ok) :
    execAudioDomainEnable dt r d v s = .next (u.domResult d st) := by
  have hbit : bit n 31 = true := by rw [hn, bit_and_of_mask rfl, henable]
  simp only [execAudioDomainEnable, ← hu, ← hn, hclaim, hoff, hbit, hcheck, Bool.not_true, Bool.or_self, Bool.false_eq_true, if_false]

end

/-- ENABLE = 0, by whether the write would change another field of the setup word as well (R377). -/
theorem execAudioDomainDisable_enabled (hon : u.rb (domReg d 0) 31 = true) (hdisable : bit v.toNat 31 = false) :
    execAudioDomainDisable dt r d v s = .next (((if v.toNat &&& 0x3F00003F = u.rd (domReg d 0) &&& 0x3F00003F then u else u.domResult d .badState).wb
      (domReg d 0) 31 false).mDom d fun m => { m with stopping := true }) := by
  simp [execAudioDomainDisable, ← hu, hclaim, hon, hdisable]

theorem execAudioDomCtrlWrite_disabled (hoff : u.rb (domReg d 0) 31 = false) (hdisable : bit v.toNat 31 = false) :
    execAudioDomCtrlWrite dt r d v s = .next (u.wr (domReg d 0) (v.toNat &&& 0x3F00003F)) := by
  simp [execAudioDomCtrlWrite, ← hu, hclaim, hoff, hdisable]

theorem execAudioDomCtrlWrite_enabled (hon : u.rb (domReg d 0) 31 = true) (henable : bit v.toNat 31 = true)
    (hchange : v.toNat &&& 0x3F00003F ≠ u.rd (domReg d 0) &&& 0x3F00003F) :
    execAudioDomCtrlWrite dt r d v s = .next (u.domResult d .badState) := by
  simp [execAudioDomCtrlWrite, ← hu, hclaim, hon, henable, hchange]

end

/-- A write that another world's claim shuts out (R403). -/
theorem audioWrites_claimed (hclaim : u.audioClaimed r = true) (k : Nat) :
    execAudioMapWrite dt r k v s = .next (u.audioResult .claimed) ∧ execAudioDomainEnable dt r d v s = .next (u.audioResult .claimed)
      ∧ execAudioDomainDisable dt r d v s = .next (u.audioResult .claimed) ∧ execAudioDomCtrlWrite dt r d v s = .next (u.audioResult .claimed) := by
  simp [execAudioMapWrite, execAudioDomainEnable, execAudioDomainDisable, execAudioDomCtrlWrite, ← hu, hclaim]

/-- A running domain in holdover goes on from the last frequency (R375). -/
theorem execAudioSourceLost_running (hrun : (u.dom d).running = true) (hsrc : u.rf (domReg d 0) 25 24 ≠ 0) (hheld : u.rb (domReg d 4) 29 = false) :
    execAudioSourceLost dt d s = .next (((u.wb (domReg d 4) 30 false).wb (domReg d 4) 29 true).domLockEvent d false) := by
  simp [execAudioSourceLost, ← hu, hrun, hsrc, hheld]

theorem execDomainLock_running {ppm : Word} (hrun : (u.dom d).running = true) (hsrc : u.rf (domReg d 0) 25 24 ≠ 0)
    (hfree : u.rb (domReg d 4) 30 = false) :
    execDomainLock dt d ppm s =
      .next ((((u.wf (domReg d 4) 15 0 ppm.toNat).wb (domReg d 4) 30 true).wb (domReg d 4) 29 false).domLockEvent d true) := by
  simp [execDomainLock, ← hu, hrun, hsrc, hfree]

end

section
variable (s : State) (d n : Nat)

theorem domStarted_dom : (s.domStarted d n).dom d =
    { s.dom d with running := true, stopping := false, fresh := true, changed := decide (2 ≤ s.swapState),
                   k := if 2 ≤ s.swapState then s.audio.soft else 0, fxNew := none } := by
  simp only [State.domStarted, State.capacityShow, State.domResult, State.wf, wr_dom, mDom_dom]

theorem domStarted_ctrl (hn : n < 2 ^ 32) : (s.domStarted d n).rd (domReg d 0) = n := by
  rw [State.domStarted, capacityShow_rd (domReg_apart d 0).1, State.domResult, State.wf, State.rd_wr_ne _ (domReg_ne (by decide)), State.wf,
    State.rd_wr_ne _ (domReg_ne (by decide)), State.mDom, State.mAudio_rd, State.rd_wr_same, Nat.mod_eq_of_lt hn]

theorem domStarted_state : (s.domStarted d n).rf (domReg d 4) 31 29 = if bits n 25 24 = 0 then 6 else 4 := by
  rw [State.domStarted, rf_congr (capacityShow_rd (domReg_apart d 4).1), State.domResult, rf_wf_ne _ _ _ (by decide) (by decide) (by decide),
    rf_wf_same _ _ _ (by decide) (by decide)]
  split <;> rfl

theorem domStarted_result : (s.domStarted d n).rf (domReg d 4) 22 16 = Status.ok.code := by
  rw [State.domStarted, rf_congr (capacityShow_rd (domReg_apart d 4).1), State.domResult, rf_wf_same _ _ _ (by decide) (by decide)]
  rfl

theorem domStarted_frame : Frame [.audio] [domReg d 0, domReg d 4, 0x03000008] s (s.domStarted d n) :=
  Frame.capacityShow (((((Frame.refl ..).wr (by simp) n).mDom (by simp) d _).wf (by simp) ..).wf (by simp) ..) (by simp)

end

/-! ### A boundary at which a domain stops -/

section
variable (s : State) (d : Nat)

theorem domStop_running : ((s.domStop d).dom d).running = false := by
  rw [State.domStop, dom_congr (swapAdvance_audio _), dom_congr capacityShow_audio, State.dom, State.mAudio_audio, ← State.dom, State.wf,
    wr_dom, mDom_dom]

theorem domStop_state : (s.domStop d).rf (domReg d 4) 31 29 = 0 := by
  obtain ⟨hcapacity, hbank⟩ := domReg_apart d 4
  rw [State.domStop, rf_congr (swapAdvance_rd hbank), rf_congr (capacityShow_rd hcapacity), rf_congr (State.mAudio_rd ..),
    rf_wf_same _ _ _ (by decide) (by decide), Nat.zero_mod]

theorem Frame.domStop {s t : State} {ps : List Part} {ks : List Nat} (h : Frame ps ks s t) (hp : Part.audio ∈ ps) {d : Nat}
    (hk : domReg d 4 ∈ ks) (hcapacity : 0x03000008 ∈ ks) (hbank : bankStatus ∈ ks) : Frame ps ks s (t.domStop d) :=
  ((((h.mDom hp d _).wf hk 31 29 0).mAudio hp _).capacityShow hcapacity).swapAdvance hbank

theorem execSampleBoundary_stopping {dt : Nat} {pins : List (Nat × Word)} {hosts : List HostRun} {s u : State} (hu : u = s.tickMem dt hosts)
    (hrun : (u.dom d).running = true) (hstop : (u.dom d).stopping = true) :
    execSampleBoundary dt d pins hosts s = .next ((u.zeroRuns d).domStop d) := by
  simp [execSampleBoundary, ← hu, hrun, hstop]

end

/-- Settles O31: each command by the branch its hypotheses choose, and of what it leaves the fields it sets and the frame of its writes. -/
theorem audioDomains : Obligations.AudioDomains := by
  unfold Obligations.AudioDomains
  refine ⟨?map, ?enable, ?ctrl, ?claimed, ?stop, ?source⟩
  case map =>
    intro dt k r v row high s u x hu hclaim hrow hx
    exact ⟨fun hbad hover => (exec_audioMapWrite ..).trans (execAudioMapWrite_fits hu hclaim hrow hx hbad hover),
      fun hbad => (exec_audioMapWrite ..).trans (execAudioMapWrite_bad hu hclaim hrow hx hbad)⟩
  case enable =>
    intro dt d n r v s u hu hclaim hoff hn henable
    refine ⟨fun hcheck => ⟨_, (exec_audioDomainEnable ..).trans (execAudioDomainEnable_passes hu hclaim hoff hn henable hcheck), ?_, ?_,
      domStarted_state .., domStarted_result .., domStarted_frame ..⟩,
      fun st hcheck hst => (exec_audioDomainEnable ..).trans (execAudioDomainEnable_fails hu hclaim hoff hn henable hcheck hst)⟩
    · exact domStarted_ctrl _ _ _ (hn ▸ and_lt_of_mask_lt _ (by decide))
    · rw [domStarted_dom]
  case ctrl =>
    intro dt d r v s u hu hclaim
    refine ⟨fun hon hdisable => ⟨_, (exec_audioDomainDisable ..).trans (execAudioDomainDisable_enabled hu hclaim hon hdisable), ?_, ?_, ?_⟩,
      fun hoff hdisable => ⟨_, (exec_audioDomCtrlWrite ..).trans (execAudioDomCtrlWrite_disabled hu hclaim hoff hdisable), ?_,
        (Frame.refl ..).wr (by simp) _⟩,
      fun hon henable hchange => (exec_audioDomCtrlWrite ..).trans (execAudioDomCtrlWrite_enabled hu hclaim hon henable hchange)⟩
    · exact (rb_congr (State.mAudio_rd ..) 31).trans (rb_wb_same _ _ _ (by decide))
    · rw [mDom_dom]
    · refine (Frame.wb ?_ (by simp) ..).mDom (by simp) ..
      split
      · exact Frame.refl ..
      · exact (Frame.refl ..).wf (by simp) ..
    · rw [State.rd_wr_same, Nat.mod_eq_of_lt (and_lt_of_mask_lt _ (by decide))]
  case claimed =>
    intro dt k d r v s u hu hclaim
    obtain ⟨hmap, henable, hdisable, hctrl⟩ := audioWrites_claimed (d := d) (v := v) hu hclaim k
    exact ⟨(exec_audioMapWrite ..).trans hmap, (exec_audioDomainEnable ..).trans henable, (exec_audioDomainDisable ..).trans hdisable,
      (exec_audioDomCtrlWrite ..).trans hctrl⟩
  case stop =>
    intro dt d pins hosts s u hu hrun hstop
    exact ⟨_, (exec_sampleBoundary ..).trans (execSampleBoundary_stopping d hu hrun hstop), domStop_running .., domStop_state ..,
      ((Frame.refl ..).zeroRuns (by simp) d).domStop (by simp) (by simp) (by simp) (by simp)⟩
  case source =>
    intro dt d ppm s u hu hrun hsrc
    refine ⟨fun hheld => ⟨_, (exec_audioSourceLost ..).trans (execAudioSourceLost_running hu hrun hsrc hheld), ?_, ?_, ?_,
        ((Frame.refl ..).wb (by simp) ..).wb (by simp) ..⟩,
      fun hfree => ⟨_, (exec_domainLock ..).trans (execDomainLock_running hu hrun hsrc hfree), ?_, ?_, ?_,
        (((Frame.refl ..).wf (by simp) ..).wb (by simp) ..).wb (by simp) ..⟩⟩
    · rw [rb_wb_ne _ _ _ (by decide) (by decide), rb_wb_same _ _ _ (by decide)]
    · rw [rb_wb_same _ _ _ (by decide)]
    · rw [rf_wb_ne _ _ _ (by decide) (by decide), rf_wb_ne _ _ _ (by decide) (by decide)]
    · rw [rb_wb_ne _ _ _ (by decide) (by decide), rb_wb_same _ _ _ (by decide)]
    · rw [rb_wb_same _ _ _ (by decide)]
    · rw [rf_wb_ne _ _ _ (by decide) (by decide), rf_wb_ne _ _ _ (by decide) (by decide), rf_wf_same _ _ _ (by decide) (by decide), bits, pow_zero,
        Nat.div_one]

end Sys2Proof.Machine
end

section
/-!
PROOFS. Bank swaps, path latency and players: the progress of a swap as it is shown, the runs of the maps, and the statement (R385, R386, R388,
R389, R391 to R393).
-/
namespace Sys2Proof.Machine

theorem exec_audioSwapGo (dt : Nat) (r : Req) (v : Word) (s : State) : exec (.audioSwapGo dt r v) s = execAudioSwapGo dt r v s := rfl
theorem exec_swapCheckDone (dt : Nat) (hosts : List HostRun) (s : State) : exec (.swapCheckDone dt hosts) s = execSwapCheckDone dt hosts s := rfl
theorem exec_swapDone (dt : Nat) (s : State) : exec (.swapDone dt) s = execSwapDone dt s := rfl
theorem exec_audioPathSelWrite (dt : Nat) (r : Req) (v : Word) (s : State) :
    exec (.audioPathSelWrite dt r v) s = execAudioPathSelWrite dt r v s := rfl
theorem exec_playerTrigger (dt n : Nat) (r : Req) (s : State) : exec (.playerTrigger dt r n) s = execPlayerTrigger dt r n s := rfl
theorem exec_playerStop (dt n : Nat) (r : Req) (s : State) : exec (.playerStop dt r n) s = execPlayerStop dt r n s := rfl

/-! ### The state of a swap -/

section
variable (s : State)

theorem rf_wr_same (k v hi lo : Nat) : (s.wr k v).rf k hi lo = bits (v % 2 ^ 32) hi lo := by rw [State.rf, State.rd_wr_same]

theorem swapState_congr {s t : State} (h : t.rd bankStatus = s.rd bankStatus) : t.swapState = s.swapState := rf_congr h ..

theorem wf_swapState (x : Nat) : (s.wf bankStatus 30 28 x).swapState = x % 8 := rf_wf_same _ _ _ (by decide) (by decide)

/-- The samples of the crossfade, RESULT and ACTIVE stand apart from STATE (R404). -/
theorem wf_progress_swapState (x : Nat) : (s.wf bankStatus 8 0 x).swapState = s.swapState := rf_wf_ne _ _ _ (by decide) (by decide) (by decide)
theorem wf_result_swapState (x : Nat) : (s.wf bankStatus 22 16 x).swapState = s.swapState := rf_wf_ne _ _ _ (by decide) (by decide) (by decide)
theorem wb_active_swapState (b : Bool) : (s.wb bankStatus 31 b).swapState = s.swapState := rf_wb_ne _ _ _ (by decide) (by decide)

theorem wf_dom (k hi lo x d : Nat) : (s.wf k hi lo x).dom d = s.dom d := wr_dom ..

/-- The progress of a swap does not touch RESULT (R404). -/
theorem swapAdvance_result : s.swapAdvance.rf bankStatus 22 16 = s.rf bankStatus 22 16 := by
  have hfield (t : State) {hi lo : Nat} (x : Nat) (hle : lo ≤ hi) (hapart : hi < 16 ∨ 22 < lo) :
      (t.wf bankStatus hi lo x).rf bankStatus 22 16 = t.rf bankStatus 22 16 := rf_wf_ne _ _ _ hle (by decide) hapart
  unfold State.swapAdvance
  extract_lets ds shown moved
  have hmoved : moved.rf bankStatus 22 16 = s.rf bankStatus 22 16 := by
    unfold moved shown
    split
    · rw [hfield _ _ (by decide) (by decide), hfield _ _ (by decide) (by decide)]
    · rw [hfield _ _ (by decide) (by decide)]
  split
  · rw [hfield _ _ (by decide) (by decide), hfield _ _ (by decide) (by decide), hmoved]
  · exact hmoved

variable {s}

/-- An armed changeover with no domain to wait for goes straight to the copy (R389). -/
theorem swapAdvance_of_none (hstate : s.swapState = 2) (hnone : s.runningDoms = []) : s.swapAdvance.swapState = 4 := by
  simp [State.swapAdvance, hnone, wf_progress_swapState, hstate, wf_swapState]

/-- An armed changeover waits for a running domain that has not reached it (R389). -/
theorem swapAdvance_of_waiting (hstate : s.swapState = 2) {d : Nat} (hd : d ∈ s.runningDoms) (hwaits : (s.dom d).changed = false) :
    s.swapAdvance.swapState = 2 := by
  have hall : (s.runningDoms.all fun d => (s.dom d).changed) = false := List.all_eq_false.mpr ⟨d, hd, by simp [hwaits]⟩
  simp [State.swapAdvance, wf_dom, wf_progress_swapState, hstate, hall]

end

/-! ### GO -/

/-- STATE reads CHECK with RESULT PENDING, and no domain has taken the new bank (R388). -/
def State.swapChecking (s : State) (v : Word) : State :=
  (s.mAudio fun a => { a with soft := min 256 (bits v.toNat 8 0), doms := a.doms.map fun c => (c.1, { c.2 with changed := false, k := 0 }) }).wr
    bankStatus (b2n (s.rb bankStatus 31) * 2 ^ 31 + 2 ^ 28 + Status.pending.code * 2 ^ 16)

section
variable {dt : Nat} {r : Req} {v : Word} {s u : State} (hu : u = s.tick dt) (hclaim : u.audioClaimed r = false) (hgo : bit v.toNat 31 = true)
include hu hclaim hgo

theorem execAudioSwapGo_idle (hidle : u.swapState = 0) : execAudioSwapGo dt r v s = .next (u.swapChecking v) := by
  simp only [execAudioSwapGo, ← hu, hclaim, hgo, hidle, Bool.not_true, Bool.false_eq_true, if_false]
  rfl

theorem execAudioSwapGo_busy (hbusy : u.swapState ≠ 0) : execAudioSwapGo dt r v s = .next (u.wf bankStatus 22 16 Status.busy.code) := by
  have hcheck : byR19 [(false, .claimed), (u.swapState != 0, .busy)] = .busy := by simp [byR19, hbusy]
  simp only [execAudioSwapGo, ← hu, hclaim, hgo, hcheck, Bool.not_true, Bool.false_eq_true, if_false]

end

/-- The word of AUDIO_BANK_STATUS while a bank is checked. -/
theorem checkingWord_fields (active : Bool) :
    (b2n active * 2 ^ 31 + 2 ^ 28 + Status.pending.code * 2 ^ 16) < 2 ^ 32
      ∧ bits (b2n active * 2 ^ 31 + 2 ^ 28 + Status.pending.code * 2 ^ 16) 30 28 = 1
      ∧ bits (b2n active * 2 ^ 31 + 2 ^ 28 + Status.pending.code * 2 ^ 16) 22 16 = Status.pending.code
      ∧ bit (b2n active * 2 ^ 31 + 2 ^ 28 + Status.pending.code * 2 ^ 16) 31 = active := by
  cases active <;> decide

theorem swapChecking_rd (s : State) (v : Word) :
    (s.swapChecking v).rd bankStatus = b2n (s.rb bankStatus 31) * 2 ^ 31 + 2 ^ 28 + Status.pending.code * 2 ^ 16 := by
  obtain ⟨hlt, -⟩ := checkingWord_fields (s.rb bankStatus 31)
  rw [State.swapChecking, State.rd_wr_same, Nat.mod_eq_of_lt hlt]

theorem swapChecking_frame (s : State) (v : Word) : Frame [.audio] [bankStatus] s (s.swapChecking v) :=
  ((Frame.refl ..).mAudio (by simp) _).wr (by simp) _

/-! ### The end of the check -/

/-- A player whose record is as before is not checked (R385). -/
theorem playerCheck_of_same {s : State} {n : Nat} (hosts : List HostRun)
    (h : bankRec s.audio.active (playerOff n) 8 = bankRec s.audio.shadow (playerOff n) 8) : s.playerCheck hosts n = s := by
  simp [State.playerCheck, h]

/-- The changeover is armed: RESULT reads OK (R388, R389). -/
def State.swapArmed (s : State) : State := (s.wf bankStatus 30 28 2).wf bankStatus 22 16 Status.ok.code

section
variable (s : State)

theorem swapArmed_state : s.swapArmed.swapState = 2 := by rw [State.swapArmed, wf_result_swapState, wf_swapState]

theorem swapArmed_result : s.swapArmed.rf bankStatus 22 16 = Status.ok.code := rf_wf_same _ _ _ (by decide) (by decide)

theorem swapArmed_dom (d : Nat) : s.swapArmed.dom d = s.dom d := by rw [State.swapArmed, wf_dom, wf_dom]

theorem swapArmed_audio : s.swapArmed.audio = s.audio := by simp only [State.swapArmed, State.wf_frame]

theorem swapArmed_frame : Frame [] [bankStatus] s s.swapArmed := ((Frame.refl ..).wf (by simp) ..).wf (by simp) ..

theorem swapArmed_runningDoms : s.swapArmed.runningDoms = s.runningDoms := by simp only [State.runningDoms, swapArmed_dom]

end

section
variable {dt : Nat} {hosts : List HostRun} {s u : State} (hu : u = s.tickMem dt hosts) (hstate : u.swapState = 1)
include hu hstate

theorem execSwapCheckDone_fails {item : Nat} (hcheck : u.bankCheck = some item) :
    execSwapCheckDone dt hosts s =
      .next (((u.wf bankStatus 30 28 0).wf bankStatus 22 16 Status.badParam.code).emitPf 0x71 .badParam item) := by
  simp [execSwapCheckDone, ← hu, hstate, hcheck]

theorem execSwapCheckDone_passes (hcheck : u.bankCheck = none)
    (hplayers : ∀ n, n < 64 → bankRec u.audio.active (playerOff n) 8 = bankRec u.audio.shadow (playerOff n) 8) :
    execSwapCheckDone dt hosts s = .next u.swapArmed.swapAdvance := by
  have hsame : (List.range 64).foldl (fun s n => s.playerCheck hosts n) u.swapArmed = u.swapArmed :=
    List.foldlRecOn (motive := fun t => t = u.swapArmed) _ _ rfl fun t ht n hn => by
      rw [ht]
      exact playerCheck_of_same hosts (by rw [swapArmed_audio]; exact hplayers n (List.mem_range.mp hn))
  simp only [execSwapCheckDone, ← hu, hstate, hcheck, ne_eq, not_true_eq_false, if_false]
  rw [← State.swapArmed, hsame]

end

/-! ### The end of the copy -/

/-- The shadow bank is in force, and the swap is counted (R391). -/
def State.swapped (s : State) : State :=
  (((s.mAudio fun a => { a with active := a.shadow, doms := a.doms.map fun c => (c.1, { c.2 with changed := false, k := 0 }) }).wf
    bankStatus 30 28 0).wb bankStatus 31 (!s.rb bankStatus 31)).incr 0x03000018

theorem execSwapDone_copied {dt : Nat} {s u : State} (hu : u = s.tick dt) (hstate : u.swapState = 4) :
    execSwapDone dt s = .next (u.swapped.emitPf 0x70 .ok (u.swapped.rd 0x03000018 % 2 ^ 16)) := by
  simp only [execSwapDone, ← hu, hstate, ne_eq, not_true_eq_false, if_false]
  rfl

section
variable (s : State)

theorem swapped_bankStatus : s.swapped.rd bankStatus = ((s.wf bankStatus 30 28 0).wb bankStatus 31 (!s.rb bankStatus 31)).rd bankStatus :=
  (State.rd_wr_ne _ (by decide)).trans rfl

theorem swapped_state : s.swapped.swapState = 0 := by
  rw [swapState_congr (swapped_bankStatus s), wb_active_swapState, wf_swapState]

theorem swapped_active : s.swapped.rb bankStatus 31 = !s.rb bankStatus 31 := by
  rw [rb_congr (swapped_bankStatus s), rb_wb_same _ _ _ (by decide)]

theorem swapped_count : s.swapped.rd 0x03000018 = (s.rd 0x03000018 + 1) % 2 ^ 32 := by
  rw [State.swapped, State.incr, State.rd_wr_same, State.wb, State.wf, State.rd_wr_ne _ (by decide), State.wf, State.rd_wr_ne _ (by decide),
    State.mAudio_rd]

theorem swapped_frame : Frame [.audio] [bankStatus, 0x03000018] s s.swapped :=
  ((((Frame.refl ..).mAudio (by simp) _).wf (by simp) ..).wb (by simp) ..).incr (by simp)

end

/-! ### The runs of the maps -/

/-- The map registers stand above the registers of the matrix and of the domains (R404). -/
theorem mapRegs_above (i off : Nat) : 0x03000100 ≤ tdmReg i off ∧ 0x03000100 ≤ swrReg i off ∧ 0x03000100 ≤ playerReg i off
    ∧ 0x03000100 ≤ avtpRx i off ∧ 0x03000100 ≤ avtpTx i off := by
  unfold tdmReg swrReg playerReg avtpRx avtpTx
  omega

section
variable {s t : State} (haudio : t.audio = s.audio) (hpods : t.pods = s.pods)
include haudio hpods

theorem streamRuns_congr (kind : Nat) : t.streamRuns kind = s.streamRuns kind := by
  simp only [State.streamRuns, haudio, chan_congr hpods]

variable (hregs : ∀ k, 0x03000100 ≤ k → t.rd k = s.rd k)
include hregs

/-- The runs are those of the map registers and of the streams (R378, R404). -/
theorem runs_congr : t.inRuns = s.inRuns ∧ t.outRuns = s.outRuns := by
  have htdm (i off : Nat) : t.rd (tdmReg i off) = s.rd (tdmReg i off) := hregs _ (mapRegs_above i off).1
  have hswr (i off : Nat) : t.rd (swrReg i off) = s.rd (swrReg i off) := hregs _ (mapRegs_above i off).2.1
  have hplayer (i off : Nat) : t.rd (playerReg i off) = s.rd (playerReg i off) := hregs _ (mapRegs_above i off).2.2.1
  have hrx (i off : Nat) : t.rd (avtpRx i off) = s.rd (avtpRx i off) := hregs _ (mapRegs_above i off).2.2.2.1
  have htx (i off : Nat) : t.rd (avtpTx i off) = s.rd (avtpTx i off) := hregs _ (mapRegs_above i off).2.2.2.2
  simp only [State.inRuns, State.outRuns, State.swrChannels, streamRuns_congr haudio hpods, haudio, State.rb, State.rf, htdm, hswr, hplayer, hrx, htx]
  exact ⟨rfl, rfl⟩

end

theorem runs_wr (s : State) {k : Nat} (hk : k < 0x03000100) (v : Nat) : (s.wr k v).inRuns = s.inRuns ∧ (s.wr k v).outRuns = s.outRuns :=
  runs_congr (by simp) (by simp) fun _ hj => State.rd_wr_ne _ (by omega)

/-! ### The latency of a path -/

/-- A field that a mask keeps whole. -/
theorem bits_and_of_mask {v m hi lo : Nat} (hm : bits m hi lo = 2 ^ (hi + 1 - lo) - 1) : bits (v &&& m) hi lo = bits v hi lo := by
  refine Nat.eq_of_testBit_eq fun i => ?_
  have hbit := congrArg (Nat.testBit · i) hm
  simp only [testBit_bits, Nat.testBit_two_pow_sub_one] at hbit
  simp only [testBit_bits, Nat.testBit_and]
  cases h : decide (i < hi + 1 - lo) <;> simp_all

theorem chainLatency_wr (s : State) (k v : Nat) (b : Bank) (c : Nat) : (s.wr k v).chainLatency b c = s.chainLatency b c := by
  simp only [State.chainLatency, State.slotLatency, State.wr_frame]

/-- The samples a path takes from its source, through its chains and the matrix, to its sink (R392). -/
def State.pathLatency (s : State) (a c : MapRun) (i j : Nat) : Nat :=
  edgeLatency a.kind + s.chainLatency s.audio.active i + 1 + s.chainLatency s.audio.active (512 + j) + edgeLatency c.kind

/-- A write of AUDIO_PATH_SEL that names a mapped input and a mapped output of the matrix (R393). -/
theorem execAudioPathSelWrite_mapped {dt i j : Nat} {r : Req} {v : Word} {a c : MapRun} {s u : State} (hu : u = s.tick dt)
    (hclaim : u.audioClaimed r = false) (hi : i = bits v.toNat 9 0) (hj : j = bits v.toNat 24 16) (ha : runOf u.inRuns i = some a)
    (hc : runOf u.outRuns j = some c) (hi512 : i < 512) (hj256 : j < 256) :
    execAudioPathSelWrite dt r v s = .next ((u.wr 0x0300001C (v.toNat &&& 0x01FF03FF)).wr 0x03000020
      (if bankGet u.audio.active (nodeOff i j) ≠ 0 then 2 ^ 31 + u.pathLatency a c i j % 2 ^ 20 else 0)) := by
  have hi' : bits (v.toNat &&& 0x01FF03FF) 9 0 = i := (bits_and_of_mask rfl).trans hi.symm
  have hj' : bits (v.toNat &&& 0x01FF03FF) 24 16 = j := (bits_and_of_mask rfl).trans hj.symm
  obtain ⟨hin, hout⟩ := runs_wr u (k := 0x0300001C) (by decide) (v.toNat &&& 0x01FF03FF)
  simp only [execAudioPathSelWrite, ← hu, hclaim, hi', hj', hin, hout, ha, hc, hi512, hj256, chainLatency_wr, true_and, Bool.false_eq_true, if_false]
  split <;> rfl

theorem pathWord_fields (n : Nat) : bits ((2 ^ 31 + n % 2 ^ 20) % 2 ^ 32) 19 0 = n % 2 ^ 20 ∧ bit ((2 ^ 31 + n % 2 ^ 20) % 2 ^ 32) 31 = true := by
  simp only [bits, bit, Nat.testBit_eq_decide_div_mod_eq, decide_eq_true_eq]
  omega

/-! ### Players -/

section
variable (s : State) (n : Nat)

theorem mPlayer_player (f : PlayerSt → PlayerSt) : (s.mPlayer n f).player n = f (s.player n) := by
  simp only [State.player, State.mPlayer, State.mAudio_audio, tget_tmod, if_pos]

theorem wr_player (k v : Nat) : (s.wr k v).player n = s.player n := by simp only [State.player, State.wr_frame]

variable {s n}

theorem Frame.mPlayer {s t : State} {ps : List Part} {ks : List Nat} (h : Frame ps ks s t) (hp : Part.audio ∈ ps) (n : Nat)
    (f : PlayerSt → PlayerSt) : Frame ps ks s (t.mPlayer n f) := h.mAudio hp _

theorem playerTrigger_of_good (hgood : (s.player n).bad = false) : s.playerTrigger n = s.mPlayer n fun p => { p with trig := true } := by
  simp [State.playerTrigger, hgood]

theorem playerTrigger_of_bad (hbad : (s.player n).bad = true) : s.playerTrigger n = s := if_pos hbad

theorem playerHalt_of_good (hgood : (s.player n).bad = false) :
    s.playerHalt n = (s.mPlayer n fun p => { p with playing := false, trig := false }).wr (playerReg n 4) 0 := by
  simp [State.playerHalt, mPlayer_player, hgood]

end

section
variable {dt n : Nat} {r : Req} {s u : State} (hu : u = s.tick dt) (hclaim : u.audioClaimed r = false)
include hu hclaim

theorem execPlayerTrigger_open : execPlayerTrigger dt r n s = .next (u.playerTrigger n) := by simp [execPlayerTrigger, ← hu, hclaim]

theorem execPlayerStop_open : execPlayerStop dt r n s = .next (u.playerHalt n) := by simp [execPlayerStop, ← hu, hclaim]

end

/-! ### The statement -/

/-- Settles O32: GO by the state it finds, the check by its outcome, an armed changeover by the domains it waits for, a path by its node, and a
trigger and a stop by BAD. -/
theorem audioSwaps : Obligations.AudioSwaps := by
  unfold Obligations.AudioSwaps
  refine ⟨?go, ?check, ?copied, ?path, ?players, ?bad⟩
  case go =>
    intro dt r v s u hu hclaim hgo
    refine ⟨fun hidle => ⟨_, (exec_audioSwapGo ..).trans (execAudioSwapGo_idle hu hclaim hgo hidle), ?_, ?_, ?_, ?_, ?_, ?_,
      swapChecking_frame ..⟩, fun hbusy => (exec_audioSwapGo ..).trans (execAudioSwapGo_busy hu hclaim hgo hbusy)⟩
    all_goals obtain ⟨-, hstate, hresult, hactive⟩ := checkingWord_fields (u.rb bankStatus 31)
    · rw [State.swapState, State.rf, swapChecking_rd, hstate]
    · rw [State.rf, swapChecking_rd, hresult]
    · rw [State.rb, swapChecking_rd, hactive]
    all_goals simp only [State.swapChecking, State.wr_frame, State.mAudio_audio]
  case check =>
    intro dt hosts s u hu hstate
    refine ⟨fun item hcheck => ⟨_, (exec_swapCheckDone ..).trans (execSwapCheckDone_fails hu hstate hcheck), ?_, ?_,
      ((Frame.refl ..).wf (by simp) ..).wf (by simp) ..⟩, fun hcheck hplayers => ?_⟩
    · rw [wf_result_swapState, wf_swapState]
    · exact rf_wf_same _ _ _ (by decide) (by decide)
    · have hexec := (exec_swapCheckDone ..).trans (execSwapCheckDone_passes hu hstate hcheck hplayers)
      have hresult := (swapAdvance_result u.swapArmed).trans (swapArmed_result u)
      have hframe := (swapArmed_frame u).swapAdvance (by simp)
      refine ⟨fun hnone => ⟨_, hexec, ?_, hresult, hframe⟩, fun d hd hwaits => ⟨_, hexec, ?_, hresult, hframe⟩⟩
      · exact swapAdvance_of_none (swapArmed_state u) ((swapArmed_runningDoms u).trans hnone)
      · exact swapAdvance_of_waiting (swapArmed_state u) ((swapArmed_runningDoms u).symm ▸ hd) ((swapArmed_dom u d).symm ▸ hwaits)
  case copied =>
    intro dt s u hu hstate
    refine ⟨_, (exec_swapDone ..).trans (execSwapDone_copied hu hstate), ?_, ?_, swapped_state u, swapped_active u, swapped_count u, swapped_frame u⟩
    all_goals simp only [State.swapped, State.incr_frame, State.wb_frame, State.wf_frame, State.mAudio_audio]
  case path =>
    intro dt i j r v a c s u hu hclaim hi hj ha hc hi512 hj256
    have hexec := (exec_audioPathSelWrite ..).trans (execAudioPathSelWrite_mapped hu hclaim hi hj ha hc hi512 hj256)
    refine ⟨fun hnode => ?_, fun hnode => ?_⟩
    · rw [if_pos hnode] at hexec
      obtain ⟨hlatency, hvalid⟩ := pathWord_fields (u.pathLatency a c i j)
      exact ⟨_, hexec, (rf_wr_same ..).trans hlatency, by rw [State.rb, State.rd_wr_same, hvalid],
        ((Frame.refl ..).wr (by simp) _).wr (by simp) _⟩
    · rw [if_neg (not_not.mpr hnode)] at hexec
      exact ⟨_, hexec, State.rd_wr_same .., ((Frame.refl ..).wr (by simp) _).wr (by simp) _⟩
  case players =>
    intro dt n r s u hu hclaim hgood
    refine ⟨⟨_, (exec_playerTrigger ..).trans (execPlayerTrigger_open hu hclaim), ?_⟩,
      ⟨_, (exec_playerStop ..).trans (execPlayerStop_open hu hclaim), ?_⟩⟩
    · rw [playerTrigger_of_good hgood, mPlayer_player]
      exact ⟨rfl, rfl, (Frame.refl ..).mPlayer (by simp) ..⟩
    · rw [playerHalt_of_good hgood, wr_player, mPlayer_player]
      exact ⟨rfl, rfl, State.rd_wr_same .., ((Frame.refl ..).mPlayer (by simp) ..).wr (by simp) _⟩
  case bad =>
    intro dt n r s u hu hclaim hbad
    rw [exec_playerTrigger, execPlayerTrigger_open hu hclaim, playerTrigger_of_bad hbad]

end Sys2Proof.Machine
end

section
/-!
PROOFS. The matrix: chains without effects, one sample of a domain from its port to its port, and the statement (R371, R373, R379 to R382, R390).
-/
namespace Sys2Proof.Machine

/-! ### Numbers -/

/-- A gain of 1.0 (R379). -/
theorem gainMul_one (x : Int) : gainMul 0x10000000 x = x := by
  simp only [gainMul, asr]
  omega

/-- At its last step a crossfade gives the new value (R390). -/
theorem fade_end (a b : Int) {l : Nat} (hl : 0 < l) : fade a b l l = b := by
  rw [fade, Int.mul_ediv_cancel _ (by omega)]
  omega

theorem biquadStep_bypass {r : Nat} (h : Nat × Nat × Nat × Nat) (x : Int) (hbypass : bit r 160 = true) :
    biquadStep r h x = (x, (0, 0, 0, 0), false) := by
  rw [biquadStep, if_pos hbypass]

/-! ### Chains without effects -/

/-- No effect stands in a slot of a chain (R381). -/
def EmptyChains (b : Bank) : Prop := ∀ c k, c < 768 → k < 16 → bankGet b (slotOff c k) = 0

section
variable (s : State) (hz : Nat) (link : Tbl Int) {b : Bank} (fx : FxSt) (hempty : EmptyChains b)

theorem slotStep_empty (b : Bank) (x : Int) : s.slotStep hz link b fx 0 x = (x, fx, s) := by
  simp [State.slotStep, bits]

include hempty

theorem chainStep_of_empty {c : Nat} (hc : c < 768) (x : Int) : s.chainStep hz link b fx c x = (x, fx, s) :=
  List.foldlRecOn (motive := fun a => a = (x, fx, s)) _ _ rfl fun a ha k hk => by
    rw [ha, hempty c k hc (List.mem_range.mp hk), slotStep_empty]

theorem chains_of_empty {off : Nat} : ∀ xs : List (Nat × Int), (∀ x ∈ xs, off + x.1 < 768) → s.chains hz link b fx off xs = (xs, fx, s)
  | [], _ => rfl
  | (i, x) :: xs, h => by
    have htail := chains_of_empty xs fun y hy => h y (List.mem_cons_of_mem _ hy)
    rw [State.chains, chainStep_of_empty s hz link fx hempty (h (i, x) List.mem_cons_self)]
    dsimp only
    rw [htail]

theorem linkMembers_of_empty {cs : List Nat} (hcs : ∀ c ∈ cs, c < 768) : linkMembers b cs = [] := by
  rw [linkMembers, List.filterMap_eq_nil_iff]
  intro slot hslot
  obtain ⟨c, hc, k, hk, rfl⟩ : ∃ c ∈ cs, ∃ k ∈ List.range 16, bankGet b (slotOff c k) = slot := by simpa using hslot
  rw [hempty c k (hcs c hc) (List.mem_range.mp hk)]
  simp [bits]

/-- The matrix with no effect in any chain (R379, R380). -/
theorem matrixStep_of_empty {xs : List (Nat × Int)} {outs : List Nat} (hxs : ∀ x ∈ xs, x.1 < 512) (houts : ∀ j ∈ outs, j < 256) :
    s.matrixStep hz b fx xs outs =
      (outs.map fun j => (j, satS (matrixSum b xs j)), outs.filter fun j => satS (matrixSum b xs j) != matrixSum b xs j, fx, s) := by
  have hlinks : linkMembers b (xs.map (·.1) ++ outs.map (512 + ·)) = [] := by
    refine linkMembers_of_empty hempty fun c hc => ?_
    rcases List.mem_append.mp hc with hin | hout
    · obtain ⟨x, hx, rfl⟩ := List.mem_map.mp hin
      exact (hxs x hx).trans (by decide)
    · obtain ⟨j, hj, rfl⟩ := List.mem_map.mp hout
      have := houts j hj
      omega
  have hins : s.chains hz [] b fx 0 xs = (xs, fx, s) :=
    chains_of_empty s hz [] fx hempty xs fun x hx => by have := hxs x hx; omega
  have hsums : s.chains hz [] b fx 512 ((outs.map fun j => (j, matrixSum b xs j)).map fun c => (c.1, satS c.2))
      = ((outs.map fun j => (j, matrixSum b xs j)).map fun c => (c.1, satS c.2), fx, s) := by
    refine chains_of_empty s hz [] fx hempty _ fun y hy => ?_
    simp only [List.map_map, List.mem_map] at hy
    obtain ⟨j, hj, rfl⟩ := hy
    have := houts j hj
    simp only [Function.comp]
    omega
  rw [State.matrixStep, if_pos hlinks, State.matrixPass, hins]
  dsimp only
  rw [hsums]
  simp [List.filter_map, Function.comp_def]

end

/-! ### Units in service -/

theorem unitUp_congr {s t : State} (hunits : t.pods.units = s.pods.units) (hvariant : t.variant = s.variant) (kind i : Nat) :
    t.unitUp kind i = s.unitUp kind i := by
  have hindex : t.unitIndex kind i = s.unitIndex kind i := by rw [State.unitIndex, State.row, hvariant, State.unitIndex, State.row]
  have hunit (u : Nat) : t.unit u = s.unit u := by rw [State.unit, hunits, State.unit]
  rw [State.unitUp, hindex, State.unitUp]
  simp only [hunit]

/-! ### What a sample leaves of the state beside the outputs -/

/-- The registers of the matrix and its ports below AUDIO_OUT_SAT (R403, R404). -/
def State.sampleRegs (s : State) (k : Nat) : Nat := if 0x03000000 ≤ k ∧ k < 0x03001C00 then s.rd k else 0

/-- The audio state, the units and those registers: what counting clamped outputs and noting peaks leave as they are. -/
def State.sampleView (s : State) : Audio × Tbl UnitSt × Variant × (Nat → Nat) := (s.audio, s.pods.units, s.variant, s.sampleRegs)

theorem sampleRegs_congr {s t : State} (h : ∀ k, 0x03000000 ≤ k → k < 0x03001C00 → t.rd k = s.rd k) : t.sampleRegs = s.sampleRegs := by
  funext k
  unfold State.sampleRegs
  split
  · next hk => exact h k hk.1 hk.2
  · rfl

section
variable {s t : State} (h : t.sampleView = s.sampleView)
include h

theorem audio_of_sampleView : t.audio = s.audio := congrArg (·.1) h

theorem rd_of_sampleView {k : Nat} (hlo : 0x03000000 ≤ k) (hhi : k < 0x03001C00) : t.rd k = s.rd k := by
  have hregs : t.sampleRegs k = s.sampleRegs k := congrFun (congrArg (·.2.2.2) h) k
  rwa [State.sampleRegs, if_pos ⟨hlo, hhi⟩, State.sampleRegs, if_pos ⟨hlo, hhi⟩] at hregs

theorem unitUp_of_sampleView (kind i : Nat) : t.unitUp kind i = s.unitUp kind i :=
  unitUp_congr (congrArg (·.2.1) h) (congrArg (·.2.2.1) h) ..

end

theorem sampleView_wr (s : State) {k : Nat} (hk : 0x03001C00 ≤ k) (v : Nat) : (s.wr k v).sampleView = s.sampleView := by
  have hregs : (s.wr k v).sampleRegs = s.sampleRegs := sampleRegs_congr fun j _ hj => State.rd_wr_ne _ (by omega)
  simp only [State.sampleView, State.wr_frame, hregs]

theorem sampleView_emitPf (s : State) (kind : Nat) (st : Status) (detail : Nat) : (s.emitPf kind st detail).sampleView = s.sampleView := by
  have hdirty : viReg pfWin 0x14 < 0x03000000 := by decide
  have hregs : (s.emitPf kind st detail).sampleRegs = s.sampleRegs :=
    sampleRegs_congr fun j hlo hhi => emitPf_rd s kind st detail j (by omega) (by omega)
  simp only [State.sampleView, emitPf_frame, emitPf_pods, hregs]

/-- AUDIO_OUT_SAT counts and OUTPUT_SATURATED is written (R380). -/
theorem sampleView_satCount (s : State) (j : Nat) : (s.satCount j).sampleView = s.sampleView := by
  have hcount : (s.rcCount (0x03001C00 + j * 4) 1).sampleView = s.sampleView := sampleView_wr s (by omega) _
  unfold State.satCount
  dsimp only
  split
  · rw [sampleView_emitPf, hcount]
  · exact hcount

theorem sampleView_mRecs (s : State) (f : Recs → Recs) : (s.mRecs f).sampleView = s.sampleView := by
  have hregs : (s.mRecs f).sampleRegs = s.sampleRegs := rfl
  simp only [State.sampleView, State.mRecs_frame, hregs]

theorem sampleView_recValue (s : State) (source inst : Nat) (v : Int) : (s.recValue source inst v).sampleView = s.sampleView :=
  foldl_keeps State.sampleView (fun _ _ => sampleView_mRecs ..) _ s

theorem sampleView_audioNote (s : State) (n : Nat) (sat : List Nat) (ys : List (Nat × Int)) : (s.audioNote n sat ys).sampleView = s.sampleView := by
  refine foldl_keeps State.sampleView (fun t y => ?_) ys s
  dsimp only
  split
  · rw [sampleView_mRecs, sampleView_recValue, sampleView_recValue]
  · rw [sampleView_mRecs]

/-! ### From a TDM port -/

/-- The samples of a TDM port mapped from input `f` on (R373, R394). -/
def State.tdmSamples (s : State) (pins : List (Nat × Word)) (p f n : Nat) : List (Nat × Int) :=
  (List.range n).map fun c =>
    (f + c, match pins.find? fun x => x.1 == f + c with | some x => codeIn (wordBits (s.rf (tdmReg p 0) 19 18)) x.2.toNat | none => 0)

theorem zeroRuns_of_no_streams {s : State} (h : s.audio.streams = []) (d : Nat) : s.zeroRuns d = s := by
  simp [State.zeroRuns, State.mAudio, h]

theorem runIn_tdm {s : State} {p d f n : Nat} (bank : Bank) (hosts : List HostRun) (pins : List (Nat × Word)) (hup : s.unitUp 0x52 p = true)
    (hclock : s.rb (tdmReg p 0) 30 = true ∨ s.rb (tdmReg p 8) 31 = false) :
    s.runIn bank hosts pins ⟨1, p, d, f, n, 0xFFFF⟩ = (s.tdmSamples pins p f n, s) := by
  have hlost : (!s.rb (tdmReg p 0) 30 && s.rb (tdmReg p 8) 31) = false := by
    rcases hclock with h | h <;> simp [h]
  simp only [State.runIn, State.portServes, hup, hlost, Bool.not_true, Bool.false_eq_true, if_false]
  rfl

/-- The gains of players act on the samples of players alone (R385). -/
theorem playerGain_of_no_players (bank : Bank) {rs : List MapRun} (hrs : ∀ r ∈ rs, r.kind ≠ 5) (xs : List (Nat × Int)) :
    playerGain bank rs xs = xs := by
  refine List.map_id'' (fun x => ?_) xs
  split
  · next r hr => rw [if_neg (hrs r (List.mem_of_find?_eq_some hr))]
  · rfl

/-! ### To a TDM port -/

/-- The pair of a number in a list of numbers with their values. -/
theorem find_of_mem_pairs {β : Type} (g : Nat → β) {k : Nat} : ∀ {l : List Nat}, k ∈ l →
    (l.map fun o => (o, g o)).find? (fun y => y.1 == k) = some (k, g k)
  | o :: l, h => by
    by_cases ho : o = k
    · simp [ho]
    · rw [List.map_cons, List.find?_cons_of_neg (by simpa using ho)]
      exact find_of_mem_pairs g ((List.mem_cons.mp h).resolve_left (Ne.symm ho))

/-- What a TDM port is given: the code of each channel's value (R373). -/
theorem runOut_tdm {s : State} {q d j m : Nat} (ys : List (Nat × Int)) (hup : s.unitUp 0x52 q = true) :
    s.runOut ys ⟨1, q, d, j, m, 0xFFFF⟩ = s.mAudio fun a =>
      { a with out := (List.range m).foldl (fun t c => tset 0 t (j + c)
          (codeOut (wordBits (s.rf (tdmReg q 0) 19 18)) (((ys.find? fun y => y.1 == j + c).map (·.2)).getD 0))) a.out } := by
  simp only [State.runOut, State.portServes, hup, Bool.not_true, Bool.false_eq_true, if_false]

/-! ### One sample -/

theorem sampleView_mAudio {s t : State} (h : t.sampleView = s.sampleView) (f : Audio → Audio) :
    (t.mAudio f).sampleView = (s.mAudio f).sampleView := congrArg (fun v => (f v.1, v.2)) h

/-- A sample delivered to a run: the clamped outputs `sat` are counted, the run is given its values `ys`, and peaks are noted (R380, R664). -/
def State.deliver (s : State) (n : Nat) (sat : List Nat) (ys : List (Nat × Int)) (r : MapRun) : State :=
  ((sat.eraseDups.foldl (fun s j => s.satCount j) s).runOut ys r).audioNote n sat ys

/-- Of the matrix and its ports, a sample delivered to a TDM port changes what that port is given (R373, R379). -/
theorem deliver_view {s : State} {q d j m : Nat} (hq : q < 8) (hup : s.unitUp 0x52 q = true) (n : Nat) (sat : List Nat) (ys : List (Nat × Int)) :
    (s.deliver n sat ys ⟨1, q, d, j, m, 0xFFFF⟩).sampleView = (s.mAudio fun a =>
      { a with out := (List.range m).foldl (fun t c => tset 0 t (j + c)
          (codeOut (wordBits (s.rf (tdmReg q 0) 19 18)) (((ys.find? fun y => y.1 == j + c).map (·.2)).getD 0))) a.out }).sampleView := by
  have hview : (sat.eraseDups.foldl (fun s j => s.satCount j) s).sampleView = s.sampleView := foldl_keeps State.sampleView sampleView_satCount _ s
  have hwidth := rf_congr (rd_of_sampleView hview (k := tdmReg q 0) (by unfold tdmReg; omega) (by unfold tdmReg; omega)) 19 18
  rw [State.deliver, sampleView_audioNote, runOut_tdm ys ((unitUp_of_sampleView hview ..).trans hup), hwidth]
  exact sampleView_mAudio hview _

/-- The state in which a domain takes sample `n`: its count is shown (R374, R379). -/
def State.sampleCounted (s : State) (d : Nat) : State :=
  s.wr64 (domReg d 8) (if (s.dom d).fresh then 0 else s.rd64 (domReg d 8) + 1)

/-- A domain after a sample at which no swap was in progress. -/
def State.sampleDone (s : State) (d : Nat) (m : DomSt) : State :=
  (s.mDom d fun x => { x with fresh := false, fx := m.fx, fxNew := m.fxNew, k := m.k }).swapAdvance

/-- The values of a run of `m` outputs from `j` on, and those of its outputs whose sum was clamped (R379, R380). -/
def matrixOuts (b : Bank) (xs : List (Nat × Int)) (j m : Nat) : List (Nat × Int) :=
  ((List.range m).map (j + ·)).map fun o => (o, satS (matrixSum b xs o))
def clampedOuts (b : Bank) (xs : List (Nat × Int)) (j m : Nat) : List Nat :=
  ((List.range m).map (j + ·)).filter fun o => satS (matrixSum b xs o) != matrixSum b xs o

/-- The words of a domain lie between those of the matrix and those of the ports (R404). -/
theorem domReg_range {d off : Nat} (hd : d < 2) (hoff : off < 0x20) : 0x03000000 ≤ domReg d off ∧ domReg d off < 0x03000100 := by
  unfold domReg
  omega

theorem sampleCounted_parts (s : State) (d : Nat) : (s.sampleCounted d).audio = s.audio ∧ (s.sampleCounted d).pods = s.pods
    ∧ (s.sampleCounted d).variant = s.variant := by
  simp only [State.sampleCounted, State.wr64_frame, and_self]

theorem sampleCounted_rd {s : State} {d k : Nat} (hlo : k ≠ domReg d 8) (hhi : k ≠ domReg d 12) : (s.sampleCounted d).rd k = s.rd k := by
  exact (State.rd_wr_ne _ hhi).trans (State.rd_wr_ne _ hlo)

section
variable {d p q f n j m : Nat} {u : State} {pins : List (Nat × Word)}
  (hd : d < 2) (hq : q < 8) (hchanged : (u.dom d).changed = false) (hidle : u.swapState = 0) (hstreams : u.audio.streams = [])
  (hin : (u.inRuns.filter fun r => r.dom == d) = [⟨1, p, d, f, n, 0xFFFF⟩])
  (hout : (u.outRuns.filter fun r => r.dom == d) = [⟨1, q, d, j, m, 0xFFFF⟩])
  (hempty : EmptyChains u.audio.active) (hins : f + n ≤ 512) (houts : j + m ≤ 256)
  (hclock : u.rb (tdmReg p 0) 30 = true ∨ u.rb (tdmReg p 8) 31 = false) (hsource : u.unitUp 0x52 p = true) (hsink : u.unitUp 0x52 q = true)

/-- The sample of a domain between two TDM ports, delivered. -/
def State.tdmDelivered (u : State) (pins : List (Nat × Word)) (d p f n q j m : Nat) : State :=
  (u.sampleCounted d).deliver (if (u.dom d).fresh then 0 else u.rd64 (domReg d 8) + 1)
    (clampedOuts u.audio.active (u.tdmSamples pins p f n) j m) (matrixOuts u.audio.active (u.tdmSamples pins p f n) j m) ⟨1, q, d, j, m, 0xFFFF⟩

include hq hsink in
theorem tdmDelivered_view : (u.tdmDelivered pins d p f n q j m).sampleView = ((u.sampleCounted d).mAudio fun a =>
    { a with out := (List.range m).foldl (fun t c => tset 0 t (j + c) (codeOut (wordBits ((u.sampleCounted d).rf (tdmReg q 0) 19 18))
        ((((matrixOuts u.audio.active (u.tdmSamples pins p f n) j m).find? fun y => y.1 == j + c).map (·.2)).getD 0))) a.out }).sampleView := by
  obtain ⟨-, hpods, hvariant⟩ := sampleCounted_parts u d
  exact deliver_view hq ((unitUp_congr (congrArg _ hpods) hvariant ..).trans hsink) ..

include hd hq hchanged hidle hstreams hin hout hempty hins houts hclock hsource hsink in
theorem sampleStep_tdm (hosts : List HostRun) :
    u.sampleStep d hosts pins = (u.tdmDelivered pins d p f n q j m).sampleDone d (u.dom d) := by
  obtain ⟨haudio, hpods, hvariant⟩ := sampleCounted_parts u d
  have hkeeps {k : Nat} (hk : 0x03000100 ≤ k ∨ k < 0x03000040) : (u.sampleCounted d).rd k = u.rd k :=
    sampleCounted_rd (by unfold domReg; omega) (by unfold domReg; omega)
  obtain ⟨hinRuns, houtRuns⟩ := runs_congr haudio hpods fun k hk => hkeeps (.inl hk)
  have hstate : (u.sampleCounted d).swapState = 0 := (swapState_congr (hkeeps (.inr (by decide)))).trans hidle
  have hread : (u.sampleCounted d).runsIn u.audio.active hosts pins [⟨1, p, d, f, n, 0xFFFF⟩] = (u.tdmSamples pins p f n, u.sampleCounted d) := by
    have hport (off : Nat) : (u.sampleCounted d).rd (tdmReg p off) = u.rd (tdmReg p off) := hkeeps (.inl (mapRegs_above p off).1)
    have hsamples : (u.sampleCounted d).tdmSamples pins p f n = u.tdmSamples pins p f n := by
      simp only [State.tdmSamples, rf_congr (hport 0)]
    rw [State.runsIn, runIn_tdm _ _ _ ((unitUp_congr (congrArg _ hpods) hvariant ..).trans hsource)
      (by rwa [rb_congr (hport 0), rb_congr (hport 8)]), hsamples]
    simp only [State.runsIn, List.append_nil]
  have hxs : ∀ x ∈ u.tdmSamples pins p f n, x.1 < 512 := by
    intro x hx
    obtain ⟨c, hc, rfl⟩ := List.mem_map.mp hx
    have := List.mem_range.mp hc
    dsimp only
    omega
  have hoj : ∀ o ∈ (List.range m).map (j + ·), o < 256 := by
    intro o ho
    obtain ⟨c, hc, rfl⟩ := List.mem_map.mp ho
    have := List.mem_range.mp hc
    omega
  have hgain : playerGain u.audio.active [⟨1, p, d, f, n, 0xFFFF⟩] (u.tdmSamples pins p f n) = u.tdmSamples pins p f n :=
    playerGain_of_no_players _ (by simp) _
  have hmatrix (s : State) (hz : Nat) (fx : FxSt) :
      s.matrixStep hz u.audio.active fx (u.tdmSamples pins p f n) ((List.range m).map (j + ·)) =
        (matrixOuts u.audio.active (u.tdmSamples pins p f n) j m, clampedOuts u.audio.active (u.tdmSamples pins p f n) j m, fx, s) :=
    matrixStep_of_empty s hz fx hempty hxs hoj
  have hcounted : u.wr64 (domReg d 8) (if (u.dom d).fresh then 0 else u.rd64 (domReg d 8) + 1) = u.sampleCounted d := rfl
  have hdeliver (s : State) (n : Nat) (sat : List Nat) (ys : List (Nat × Int)) (r : MapRun) :
      ((sat.eraseDups.foldl (fun s j => s.satCount j) s).runOut ys r).audioNote n sat ys = s.deliver n sat ys r := rfl
  have hdelivered : (u.sampleCounted d).deliver (if (u.dom d).fresh then 0 else u.rd64 (domReg d 8) + 1)
      (clampedOuts u.audio.active (u.tdmSamples pins p f n) j m) (matrixOuts u.audio.active (u.tdmSamples pins p f n) j m)
      ⟨1, q, d, j, m, 0xFFFF⟩ = u.tdmDelivered pins d p f n q j m := rfl
  have hend : (u.tdmDelivered pins d p f n q j m).swapState = 0 := by
    rw [← hstate]
    exact swapState_congr ((rd_of_sampleView (tdmDelivered_view hq hsink) (by decide) (by decide)).trans (State.mAudio_rd ..))
  unfold State.sampleStep
  rw [zeroRuns_of_no_streams hstreams]
  simp only [hcounted, hinRuns, houtRuns, hin, hout, hchanged, haudio, hread, hgain, hmatrix, hdeliver, hdelivered, hend, List.flatMap_cons,
    List.flatMap_nil, List.append_nil, List.foldl_cons, List.foldl_nil, Bool.false_eq_true, if_false, Bool.and_false, Bool.false_and, Bool.and_true,
    Bool.not_false, Bool.or_false, Nat.reduceBEq]
  rfl

end

section
variable (s : State) (d : Nat) (m : DomSt)

theorem sampleDone_out : (s.sampleDone d m).audio.out = s.audio.out := by rw [State.sampleDone, swapAdvance_audio]; rfl

theorem sampleDone_active : (s.sampleDone d m).audio.active = s.audio.active := by rw [State.sampleDone, swapAdvance_audio]; rfl

theorem sampleDone_fresh : ((s.sampleDone d m).dom d).fresh = false := by rw [State.sampleDone, dom_congr (swapAdvance_audio _), mDom_dom]

theorem sampleDone_rd {k : Nat} (hk : k ≠ bankStatus) : (s.sampleDone d m).rd k = s.rd k := (swapAdvance_rd hk).trans (State.mAudio_rd ..)

end

/-- A boundary of a running domain while the matrix unit is in service (R379, R402). -/
theorem execSampleBoundary_running {dt d : Nat} {pins : List (Nat × Word)} {hosts : List HostRun} {s u : State} (hu : u = s.tickMem dt hosts)
    (hrun : (u.dom d).running = true) (hstop : (u.dom d).stopping = false) (hup : u.audioUp = true) :
    execSampleBoundary dt d pins hosts s = .next (u.sampleStep d hosts pins) := by
  simp [execSampleBoundary, ← hu, hrun, hstop, hup]

/-- Settles O30: the matrix with empty chains, the sample it gives between two TDM ports, and the numbers of a bypass, of a gain of 1.0 and of a
crossfade's end. -/
theorem audioMatrix : Obligations.AudioMatrix := by
  unfold Obligations.AudioMatrix
  refine ⟨?matrix, ?sample, fun r h x => biquadStep_bypass h x, gainMul_one, fun a b l => fade_end a b⟩
  case matrix =>
    intro s hz b fx xs outs hempty hxs houts
    exact matrixStep_of_empty s hz fx hempty hxs houts
  case sample =>
    rintro dt d p q f n j m pins hosts xs s u hu hd - hq hrun hstop hchanged hup hidle hstreams hin hout hempty hins houts hclock hsource hsink hxs
    obtain rfl : xs = u.tdmSamples pins p f n := hxs
    have hview := tdmDelivered_view (u := u) (pins := pins) (d := d) (p := p) (f := f) (n := n) (j := j) (m := m) hq hsink
    obtain ⟨haudio, -⟩ := sampleCounted_parts u d
    have hexec := execSampleBoundary_running (pins := pins) hu hrun hstop hup
    rw [sampleStep_tdm hd hq hchanged hidle hstreams hin hout hempty hins houts hclock hsource hsink hosts] at hexec
    refine ⟨_, (exec_sampleBoundary ..).trans hexec, fun c hc => ?_, ?_, ?_, sampleDone_fresh ..⟩
    · have hwidth : (u.sampleCounted d).rf (tdmReg q 0) 19 18 = u.rf (tdmReg q 0) 19 18 :=
        rf_congr (sampleCounted_rd (by unfold tdmReg domReg; omega) (by unfold tdmReg domReg; omega)) ..
      have hc' : j + c ∈ (List.range m).map (j + ·) := List.mem_map.mpr ⟨c, List.mem_range.mpr hc, rfl⟩
      rw [sampleDone_out, audio_of_sampleView hview, State.mAudio_audio, hwidth]
      dsimp only
      rw [tget_foldl_tset, if_pos hc, matrixOuts, find_of_mem_pairs _ hc']
      rfl
    · have hword {off : Nat} (hoff : off < 0x20) :
          ((u.tdmDelivered pins d p f n q j m).sampleDone d (u.dom d)).rd (domReg d off) = (u.sampleCounted d).rd (domReg d off) :=
        have ⟨hlo, hhi⟩ := domReg_range hd hoff
        (sampleDone_rd _ _ _ (domReg_apart d off).2).trans ((rd_of_sampleView hview hlo (by omega)).trans (State.mAudio_rd ..))
      have hcount : ((u.tdmDelivered pins d p f n q j m).sampleDone d (u.dom d)).rd64 (domReg d 8) = (u.sampleCounted d).rd64 (domReg d 8) :=
        congrArg₂ (fun lo hi => lo + 2 ^ 32 * hi) (hword (by decide)) (hword (off := 12) (by decide))
      rw [hcount, State.sampleCounted, rd64_wr64]
      split <;> rfl
    · rw [sampleDone_active, audio_of_sampleView hview, State.mAudio_audio, haudio]

end Sys2Proof.Machine
end

section
/-!
PROOFS. Guest streams and the ports: CREATE of a stream and its end, STREAM_CTRL, TDM, SoundWire and AVTP, and the statement (R394 to R400).
-/
namespace Sys2Proof.Machine

theorem exec_createAudioStreamIn (dt w : Nat) (ext : Option Bytes) (s : State) :
    exec (.createAudioStreamIn dt w ext) s = execCreateAudioStreamIn dt w ext s := rfl
theorem exec_createAudioStreamOut (dt w : Nat) (ext : Option Bytes) (s : State) :
    exec (.createAudioStreamOut dt w ext) s = execCreateAudioStreamOut dt w ext s := rfl
theorem exec_streamCreateSwapIdle (dt k : Nat) (s : State) : exec (.streamCreateSwapIdle dt k) s = execStreamCreateSwapIdle dt k s := rfl
theorem exec_streamRun (dt w sl : Nat) (v : Word) (s : State) : exec (.streamRun dt w sl v) s = execStreamRun dt w sl v s := rfl
theorem exec_tdmClkLost (dt p : Nat) (s : State) : exec (.tdmClkLost dt p) s = execTdmClkLost dt p s := rfl
theorem exec_tdmClkReturn (dt p : Nat) (s : State) : exec (.tdmClkReturn dt p) s = execTdmClkReturn dt p s := rfl
theorem exec_swrCmd (dt m : Nat) (r : Req) (v : Word) (s : State) : exec (.swrCmd dt r m v) s = execSwrCmd dt r m v s := rfl
theorem exec_swrCmdDone (dt m : Nat) (ok : Bool) (byte : Byte) (s : State) :
    exec (.swrCmdDone dt m ok byte) s = execSwrCmdDone dt m ok byte s := rfl
theorem exec_swrPeripheralAttach (dt m k a b : Nat) (on : Bool) (s : State) :
    exec (.swrPeripheralAttach dt m k on a b) s = execSwrPeripheralAttach dt m k on a b s := rfl
theorem exec_avtpTalkerInterval (dt i : Nat) (s : State) : exec (.avtpTalkerInterval dt i) s = execAvtpTalkerInterval dt i s := rfl
theorem exec_avtpStream (dt i : Nat) (s : State) : exec (.avtpStream dt i) s = execAvtpStream dt i s := rfl

/-! ### A stream's record -/

theorem mStream_stream (s : State) (k : Nat) (f : StreamSt → StreamSt) : (s.mStream k f).stream k = f (s.stream k) := by
  simp only [State.stream, State.mStream, State.mAudio_audio, tget_tmod, if_pos]

theorem wr_stream (s : State) (j v k : Nat) : (s.wr j v).stream k = s.stream k := by simp only [State.stream, State.wr_frame]

theorem Frame.mStream {s t : State} {ps : List Part} {ks : List Nat} (h : Frame ps ks s t) (hp : Part.audio ∈ ps) (k : Nat)
    (f : StreamSt → StreamSt) : Frame ps ks s (t.mStream k f) := h.mAudio hp _

theorem Frame.wrs {s : State} {ps : List Part} {ks : List Nat} : ∀ {l : List (Nat × Nat)} {t : State}, Frame ps ks s t → (∀ e ∈ l, e.1 ∈ ks) →
    Frame ps ks s (t.wrs l)
  | [], _, h, _ => h
  | (k, v) :: l, t, h, hk =>
    have htail : ∀ e ∈ l, e.1 ∈ ks := fun e he => hk e (List.mem_cons_of_mem _ he)
    Frame.wrs (t := t.wr k v) (h.wr (hk (k, v) List.mem_cons_self) v) htail

/-- Words written leave the audio state and the channels. -/
theorem wrs_keeps : ∀ (l : List (Nat × Nat)) (s : State), (s.wrs l).audio = s.audio ∧ (s.wrs l).pods = s.pods
  | [], _ => ⟨rfl, rfl⟩
  | (k, v) :: l, s => by
    obtain ⟨haudio, hpods⟩ := wrs_keeps l (s.wr k v)
    rw [State.wrs, haudio, hpods]
    simp only [State.wr_frame, and_self]

theorem chanKey_parts {kind i : Nat} (hi : i < 2 ^ 18) : chanKey kind i / 2 ^ 18 = kind ∧ chanKey kind i % 2 ^ 18 = i := by
  unfold chanKey
  omega

/-! ### CREATE -/

/-- The parameter block of a stream has a reserved field set or a field outside its range (R397). -/
def streamBad (p : Nat) : Bool :=
  bits p 143 136 != 0 || bits p 127 16 != 0 || bits p 7 1 != 0 || stRing p % 256 != 0 || stFrames p < 64 || 1048576 < stFrames p
    || stPeriod p < 16 || 4096 < stPeriod p || stFrames p < 2 * stPeriod p || 63 < stSlot p || 2 < stFormat p
    || stChannels p == 0 || 8 < stChannels p

/-- A stream that was accepted holds its index and its run, with its slot registers 0, and its ring's next entry waits behind it (R60, R397). -/
def State.streamTaken (s : State) (w kind i : Nat) (e : CtlEntry) (p a : Nat) : State :=
  ((((s.takeIndex w kind i (.creating e.tag)).mAudio fun x =>
      { x with streams := tset {} x.streams (chanKey kind i) { params := p, base := a, waiting := true } }).capacityShow).ctlBegin w).wrs
    [(streamReg w (stSlot p) 0, 0), (streamReg w (stSlot p) 4, 0), (streamReg w (stSlot p) 8, 0), (streamReg w (stSlot p) 12, 0)]

/-- The registers that CREATE of a stream writes. -/
abbrev streamTakenRegs (w kind p : Nat) : List Nat :=
  [0x03000008, grantReg w kind 8, streamReg w (stSlot p) 0, streamReg w (stSlot p) 4, streamReg w (stSlot p) 8, streamReg w (stSlot p) 12]

section
variable (s : State) (w kind i : Nat) (e : CtlEntry) (p a : Nat)

theorem streamTaken_chan : (s.streamTaken w kind i e p a).chan kind i = ⟨.creating e.tag, w⟩ := by
  rw [State.streamTaken, chan_congr (wrs_keeps ..).2, ← takeIndex_chan s w kind i]
  simp only [State.ctlBegin, State.chan, State.mPods_pods, capacityShow_pods, State.mAudio_frame]

theorem streamTaken_stream : (s.streamTaken w kind i e p a).stream (chanKey kind i) = { params := p, base := a, waiting := true } := by
  rw [State.stream, State.streamTaken, (wrs_keeps ..).1, State.ctlBegin]
  simp only [State.mPods_frame, capacityShow_audio, State.mAudio_audio, tget_tset_same]

theorem streamTaken_ctl {e : CtlEntry} (hctl : tget none s.pods.ctl w = some e) :
    tget none (s.streamTaken w kind i e p a).pods.ctl w = some { e with begun := true } := by
  obtain ⟨-, -, hkeeps, -⟩ := takeIndex_keeps s w kind i (.creating e.tag)
  rw [State.streamTaken, (wrs_keeps ..).2, State.ctlBegin]
  simp only [State.mPods_pods, capacityShow_pods, State.mAudio_frame, tget_tset_same, hkeeps, hctl, Option.map_some]

theorem streamTaken_frame : Frame [.audio, .pods] (streamTakenRegs w kind p) s (s.streamTaken w kind i e p a) :=
  have hindex : Frame [.audio, .pods] (streamTakenRegs w kind p) s (s.takeIndex w kind i (.creating e.tag)) :=
    takeIndex_frame (Frame.refl ..) (by simp) (fun _ => by simp) i _
  Frame.wrs (((hindex.mAudio (by simp) _).capacityShow (by simp)).mPods (by simp) _) (by simp)

/-- None of these registers is AUDIO_BANK_STATUS. -/
theorem streamTaken_swapState : (s.streamTaken w kind i e p a).swapState = s.swapState := by
  refine swapState_congr ((streamTaken_frame s w kind i e p a).regs bankStatus ?_)
  have hgrant : bankStatus ≠ grantReg w kind 8 := by
    unfold bankStatus grantReg
    omega
  have hslot (off : Nat) : bankStatus ≠ streamReg w (stSlot p) off := by
    unfold bankStatus streamReg win
    split <;> omega
  simp only [List.mem_cons, List.not_mem_nil, or_false, not_or]
  exact ⟨by decide, hgrant, hslot 0, hslot 4, hslot 8, hslot 12⟩

end

/-- CREATE of a stream that passes its checks goes on at once when no swap is in progress, and otherwise waits (R397). -/
theorem createStream_ok {w kind i a : Nat} {e : CtlEntry} {b : Bytes} {u : State} (hlen : e.paramLen = 32)
    (hb : b.length = 32) (hok : u.hostOk w = true)
    (hfree : ∀ c ∈ u.audio.streams, ¬ (u.streamOwner c.1 = w ∧ stSlot c.2.params = stSlot (leNat b))) (hgood : streamBad (leNat b) = false)
    (hpick : u.pickIndex w kind = some i)
    (hrun : freeRun (if kind == kStreamIn then u.inRuns else u.outRuns) (stChannels (leNat b))
      (if kind == kStreamIn then u.row.audioIn else u.row.audioOut) = some a)
    (hroom : (!(kind == kStreamIn) && (u.dom (stDomain (leNat b))).running && decide (u.row.audioOut <
      u.unitsUsed (fun d => (u.dom d).running) + stChannels (leNat b) * u.outUnits (stDomain (leNat b)))) = false) :
    u.createStream w kind e (some b) = if u.swapState = 0 then (u.streamTaken w kind i e (leNat b) a).streamReady (chanKey kind i) e.tag
      else u.streamTaken w kind i e (leNat b) a := by
  have htaken : (u.audio.streams.any fun c => u.streamOwner c.1 == w && stSlot c.2.params == stSlot (leNat b)) = false :=
    List.any_eq_false.mpr fun c hc => by simpa using hfree c hc
  unfold streamBad at hgood
  rw [State.createStream, if_neg (not_not.mpr hlen), params_host hok e (hb.trans hlen.symm)]
  simp only [htaken, hgood, hpick, hrun, hroom, byR19, Option.isNone_some, Option.getD_some, Bool.false_or, Bool.false_eq_true, if_false]
  rw [← streamTaken_swapState u w kind i e (leNat b) a]
  rfl

/-! ### The end of a CREATE -/

/-- The run of a stream zeroed in the shadow bank (R397). -/
def State.runZeroed (s : State) (isIn : Bool) (x : StreamSt) : State :=
  s.mAudio fun a => { a with shadow := bankZero a.shadow isIn x.base (stChannels x.params) }

/-- The run is zeroed in the shadow bank and the channel is live; the control entry that made it is done with (R60, R397). -/
def State.streamLive (s : State) (kind i w : Nat) : State :=
  (((s.runZeroed (kind == kStreamIn) (s.stream (chanKey kind i))).mStream (chanKey kind i) fun t => { t with waiting := false }).mPods fun p =>
    { p with chans := tset {} p.chans (chanKey kind i) ⟨.live, w⟩ }).ctlEnd w

section
variable {s : State} {kind i w : Nat}

theorem streamLive_chan : (s.streamLive kind i w).chan kind i = ⟨.live, w⟩ := by
  simp only [State.streamLive, State.ctlEnd, State.chan, State.mPods_pods, tget_tset_same]

theorem streamLive_stream : (s.streamLive kind i w).stream (chanKey kind i) = { s.stream (chanKey kind i) with waiting := false } := by
  simp only [State.streamLive, State.ctlEnd, State.stream, State.mStream, State.runZeroed, State.mPods_frame, State.mAudio_audio, tget_tmod, if_pos]

theorem streamLive_active : (s.streamLive kind i w).audio.active = s.audio.active := by
  simp only [State.streamLive, State.ctlEnd, State.mStream, State.runZeroed, State.mPods_frame, State.mAudio_audio]

theorem streamLive_frame : Frame [.audio, .pods] [] s (s.streamLive kind i w) := by
  have hzeroed : Frame [.audio, .pods] [] s (s.runZeroed (kind == kStreamIn) (s.stream (chanKey kind i))) := (Frame.refl ..).mAudio (by simp) _
  unfold State.streamLive State.ctlEnd
  exact ((hzeroed.mStream (by simp) ..).mPods (by simp) _).mPods (by simp) _

/-- The handle of the channel is the one it had while it was created, whatever events are written (R45). -/
theorem streamLive_handleWord {tag : Nat} (hchan : s.chan kind i = ⟨.creating tag, w⟩) {t : State}
    (hchans : t.pods.chans = (s.streamLive kind i w).pods.chans) (hgens : t.pods.gens = (s.streamLive kind i w).pods.gens) :
    t.handleWord kind i = s.handleWord kind i := by
  have hlive : t.chan kind i = ⟨.live, w⟩ := by
    rw [State.chan, hchans]
    exact streamLive_chan
  have hgen : t.gen kind i = s.gen kind i := by
    rw [State.gen, hgens]
    rfl
  rw [handleWord_of_gen (by simp [hlive]), handleWord_of_gen (by simp [hchan]), hgen]

/-- A wait for the swap that is over: CHANNEL_DONE reports OK and STREAM_MAP names the run (R397, R404, R406). -/
theorem streamReady_eq {tag : Nat} (hi : i < 2 ^ 18) (hchan : s.chan kind i = ⟨.creating tag, w⟩) :
    s.streamReady (chanKey kind i) tag = (((s.streamLive kind i w).channelDone w .ok (s.handleWord kind i) tag 1).emit pfWin 0x75 .ok
      (s.handleWord kind i) (w % 2 ^ 16 * 2 ^ 16 + b2n (kind != kStreamIn) * 2 ^ 15 + (stChannels (s.stream (chanKey kind i)).params - 1) * 2 ^ 12
        + stDomain (s.stream (chanKey kind i)).params * 2 ^ 10 + (s.stream (chanKey kind i)).base)) := by
  obtain ⟨hkind, hindex⟩ := chanKey_parts (kind := kind) hi
  have howner : s.streamOwner (chanKey kind i) = w := by rw [State.streamOwner, hkind, hindex, hchan]
  have hready : s.streamReady (chanKey kind i) tag =
      (((s.streamLive kind i w).channelDone w .ok ((s.streamLive kind i w).handleWord kind i) tag 1).emit pfWin 0x75 .ok
        (((s.streamLive kind i w).channelDone w .ok ((s.streamLive kind i w).handleWord kind i) tag 1).handleWord kind i)
        (w % 2 ^ 16 * 2 ^ 16 + b2n (kind != kStreamIn) * 2 ^ 15 + (stChannels (s.stream (chanKey kind i)).params - 1) * 2 ^ 12
          + stDomain (s.stream (chanKey kind i)).params * 2 ^ 10 + (s.stream (chanKey kind i)).base)) := by
    simp only [State.streamReady, hkind, hindex, howner]
    rfl
  rw [hready]
  have hlive := streamLive_handleWord hchan rfl rfl
  have hdone := streamLive_handleWord hchan (t := (s.streamLive kind i w).channelDone w .ok (s.handleWord kind i) tag 1)
    (by simp only [State.channelDone, emit_pods]) (by simp only [State.channelDone, emit_pods])
  rw [hlive, hdone]

end

theorem execStreamCreateSwapIdle_creating {dt kind i w tag : Nat} {s u : State} (hu : u = s.tick dt) (hi : i < 2 ^ 18) (hidle : u.swapState = 0)
    (hwaits : (u.stream (chanKey kind i)).waiting = true) (hchan : u.chan kind i = ⟨.creating tag, w⟩) :
    execStreamCreateSwapIdle dt (chanKey kind i) s = .next (u.streamReady (chanKey kind i) tag) := by
  obtain ⟨hkind, hindex⟩ := chanKey_parts (kind := kind) hi
  simp only [execStreamCreateSwapIdle, ← hu, hidle, hwaits, hkind, hindex, hchan, ne_eq, not_true_eq_false, or_self, if_false]

section
variable {dt w : Nat} {e : CtlEntry} {ext : Option Bytes} {s u : State} (hu : u = s.tick dt)
include hu

theorem execCreateAudioStreamIn_waiting (hwait : u.ctlWaits w 1 kStreamIn = some e) :
    execCreateAudioStreamIn dt w ext s = .next (u.createStream w kStreamIn e ext) := by
  simp only [execCreateAudioStreamIn, ← hu, hwait]

theorem execCreateAudioStreamOut_waiting (hwait : u.ctlWaits w 1 kStreamOut = some e) :
    execCreateAudioStreamOut dt w ext s = .next (u.createStream w kStreamOut e ext) := by
  simp only [execCreateAudioStreamOut, ← hu, hwait]

end

/-! ### STREAM_CTRL -/

theorem streamBySlot_wr (s : State) (k v w sl : Nat) : (s.wr k v).streamBySlot w sl = s.streamBySlot w sl := by
  simp only [State.streamBySlot, State.streamOwner, State.chan, State.wr_frame]

/-- A stream that starts: it reads as running, and its first frame comes PERIOD samples later (R399, R400). -/
def State.streamStarted (s : State) (w sl k : Nat) (v : Word) : State :=
  ((s.wr (streamReg w sl 0) (v.toNat &&& 0xC0000000)).wb (streamReg w sl 12) 31 true).mStream k fun t =>
    { t with wait := stPeriod t.params, xrun := false }

theorem execStreamRun_starts {dt w sl k : Nat} {v : Word} {s u : State} (hu : u = s.tick dt) (hlive : u.winDead w = false) (hfree : u.viHeld w = false)
    (hslot : u.streamBySlot w sl = some k) (hrun : bit v.toNat 31 = true) (hoff : u.rb (streamReg w sl 0) 31 = false) :
    execStreamRun dt w sl v s = .next (u.streamStarted w sl k v) := by
  simp [execStreamRun, ← hu, hlive, hfree, streamBySlot_wr, hslot, hrun, hoff, State.streamStarted]

section
variable (s : State) (w sl k : Nat) (v : Word)

theorem streamReg_ne {off off' : Nat} (h : off ≠ off') : streamReg w sl off ≠ streamReg w sl off' := by
  unfold streamReg
  omega

theorem streamStarted_ctrl : (s.streamStarted w sl k v).rd (streamReg w sl 0) = v.toNat &&& 0xC0000000 := by
  rw [State.streamStarted, State.mStream, State.mAudio_rd, State.wb, State.wf, State.rd_wr_ne _ (streamReg_ne w sl (by decide)), State.rd_wr_same,
    Nat.mod_eq_of_lt (and_lt_of_mask_lt _ (by decide))]

theorem streamStarted_status : (s.streamStarted w sl k v).rb (streamReg w sl 12) 31 = true :=
  (rb_congr (State.mAudio_rd ..) 31).trans (rb_wb_same _ _ _ (by decide))

theorem streamStarted_stream :
    (s.streamStarted w sl k v).stream k = { s.stream k with wait := stPeriod (s.stream k).params, xrun := false } := by
  rw [State.streamStarted, mStream_stream, State.wb, State.wf, wr_stream, wr_stream]

theorem streamStarted_frame : Frame [.audio] [streamReg w sl 0, streamReg w sl 12] s (s.streamStarted w sl k v) :=
  (((Frame.refl ..).wr (by simp) _).wb (by simp) ..).mStream (by simp) ..

end

/-! ### TDM and SoundWire -/

theorem execTdmClkLost_slave {dt p : Nat} {s u : State} (hu : u = s.tick dt) (hon : u.rb (tdmReg p 0) 31 = true) (hslave : u.rb (tdmReg p 0) 30 = false) :
    execTdmClkLost dt p s = .next (u.wb (tdmReg p 8) 31 true) := by
  simp [execTdmClkLost, ← hu, hon, hslave]

theorem execTdmClkReturn_eq {dt p : Nat} {s u : State} (hu : u = s.tick dt) : execTdmClkReturn dt p s = .next (u.wb (tdmReg p 8) 31 false) := by
  rw [execTdmClkReturn, ← hu]

/-- The access a SoundWire manager serves, put in place or taken away (R395). -/
def State.swrServing (s : State) (m : Nat) (c : Option Nat) : State := s.mAudio fun a => { a with swrBusy := tset none a.swrBusy m c }

section
variable (s : State) (m : Nat) (c : Option Nat)

theorem swrServing_busy : tget none (s.swrServing m c).audio.swrBusy m = c := by
  simp only [State.swrServing, State.mAudio_audio, tget_tset_same]

theorem Frame.swrServing {s t : State} {ps : List Part} {ks : List Nat} (h : Frame ps ks s t) (hp : Part.audio ∈ ps) (m : Nat) (c : Option Nat) :
    Frame ps ks s (t.swrServing m c) := h.mAudio hp _

end

theorem execSwrCmd_taken {dt m : Nat} {r : Req} {v : Word} {s u : State} (hu : u = s.tick dt) (hclaim : u.audioClaimed r = false)
    (hidle : tget none u.audio.swrBusy m = none) :
    execSwrCmd dt r m v s = .next ((u.swrServing m (some (v.toNat &&& 0x8F00FFFF))).wf (swrReg m 8) 20 16 Status.pending.code) := by
  simp [execSwrCmd, ← hu, hclaim, hidle, State.swrServing]

section
variable {dt m c : Nat} {byte : Byte} {s u : State} (hu : u = s.tick dt) (hbusy : tget none u.audio.swrBusy m = some c)
include hu hbusy

/-- The end of a read from a peripheral that is attached (R395). -/
theorem execSwrCmdDone_read (hread : bit c 31 = true) (hreal : bits c 27 24 < 11) (hattached : u.rb (swrReg m 8) (bits c 27 24) = true) :
    execSwrCmdDone dt m true byte s = .next (((u.swrServing m none).wf (swrReg m 8) 20 16 Status.ok.code).wr (swrReg m 16) byte.toNat) := by
  simp [execSwrCmdDone, ← hu, hbusy, hread, hreal, hattached, State.swrServing]

/-- A peripheral that is not attached does not answer (log entry 36). -/
theorem execSwrCmdDone_unattached (hunattached : 11 ≤ bits c 27 24 ∨ u.rb (swrReg m 8) (bits c 27 24) = false) :
    execSwrCmdDone dt m true byte s = .next ((u.swrServing m none).wf (swrReg m 8) 20 16 Status.timeout.code) := by
  have hthere : (decide (bits c 27 24 < 11) && u.rb (swrReg m 8) (bits c 27 24)) = false := by
    rcases hunattached with h | h
    · rw [decide_eq_false (Nat.not_lt.mpr h), Bool.false_and]
    · rw [h, Bool.and_false]
  simp only [execSwrCmdDone, ← hu, hbusy, hthere, Bool.and_false, Bool.false_eq_true, if_false]
  rfl

end

/-- A peripheral attached with its channels (R395). -/
def State.swrAttached (s : State) (m k a b : Nat) : State :=
  ((s.mAudio fun x => { x with swr := tset (0, 0) x.swr (m * 16 + k) (a, b) }).wb (swrReg m 8) k true).capacityShow

theorem execSwrPeripheralAttach_enabled {dt m k a b : Nat} {s u : State} (hu : u = s.tick dt) (hon : u.rb (swrReg m 0) 31 = true) :
    execSwrPeripheralAttach dt m k true a b s = .next (u.swrAttached m k a b) := by
  simp [execSwrPeripheralAttach, ← hu, hon, State.swrAttached]

section
variable (s : State) (m k a b : Nat)

theorem swrAttached_shown (hk : k < 32) : (s.swrAttached m k a b).rb (swrReg m 8) k = true := by
  rw [State.swrAttached, rb_congr (capacityShow_rd (by unfold swrReg; omega)), rb_wb_same _ _ _ hk]

theorem swrAttached_channels : tget (0, 0) (s.swrAttached m k a b).audio.swr (m * 16 + k) = (a, b) := by
  simp only [State.swrAttached, capacityShow_audio, State.wb_frame, State.mAudio_audio, tget_tset_same]

theorem swrAttached_frame : Frame [.audio] [swrReg m 8, 0x03000008] s (s.swrAttached m k a b) :=
  (((Frame.refl ..).mAudio (by simp) _).wb (by simp) ..).capacityShow (by simp)

end

/-! ### AVTP -/

theorem creditTick_audio (s : State) (m : Nat) : (s.creditTick m).audio = s.audio := by simp only [State.creditTick, State.mMac, State.mNet_frame]

/-- A talker's packet is formed from the frames it captured, and its credit is brought up to date (R396, R651). -/
def State.talkerSent (s : State) (i m : Nat) (p : AvtpPkt) : State :=
  ((s.mAudio fun a => { a with cap := tset (0, []) a.cap i (0, []) }).creditTick m).mAudio fun a =>
    { a with packets := tset [] a.packets i (tget [] a.packets i ++ [p]) }

section
variable (s : State) (i m : Nat) (p : AvtpPkt)

theorem talkerSent_cap : tget (0, []) (s.talkerSent i m p).audio.cap i = (0, []) := by
  simp only [State.talkerSent, State.mAudio_audio, creditTick_audio, tget_tset_same]

theorem talkerSent_packets : tget [] (s.talkerSent i m p).audio.packets i = tget [] s.audio.packets i ++ [p] := by
  simp only [State.talkerSent, State.mAudio_audio, creditTick_audio, tget_tset_same]

end

/-- The interval of a talker of the PF's, with its link up (R396, R658). -/
theorem execAvtpTalkerInterval_sends {dt i x : Nat} {f : List (List Nat)} {s u : State} (hu : u = s.tick dt) (hon : u.rb (avtpTx i 8) 31 = true)
    (hcap : tget (0, []) u.audio.cap i = (x, f)) (hf : f ≠ []) (hlink : u.rb (tsnReg (u.talkerMac i) 8) 31 = true) (hpf : u.talkerVi i = none) :
    execAvtpTalkerInterval dt i s = .next (u.talkerSent i (u.talkerMac i) ⟨(x + u.rd64 (tsnReg (u.talkerMac i) 0x40) + u.rd (avtpTx i 12)) % 2 ^ 64,
      f, none, bits (u.rd64 (tsnReg (u.talkerMac i) 0x10)) 47 0, u.rd64 (avtpTx i 0)⟩) := by
  have hup (g : Audio → Audio) : (u.mAudio g).rb (tsnReg (u.talkerMac i) 8) 31 = true := hlink
  simp only [execAvtpTalkerInterval, ← hu, hcap, hon, hf, hup, hpf, Bool.not_true, decide_false, Bool.or_self, Option.isSome_none, Bool.false_and,
    Bool.false_eq_true, if_false]
  rfl

/-- A listener that has no packets (R396). -/
def State.listenerLost (s : State) (i : Nat) : State := (s.wb (avtpRx i 12) 31 false).mAudio fun a => { a with rx := tset [] a.rx i [] }

theorem listenerLost_receiving (s : State) (i : Nat) : (s.listenerLost i).rb (avtpRx i 12) 31 = false :=
  (rb_congr (State.mAudio_rd ..) 31).trans (rb_wb_same _ _ _ (by decide))

theorem listenerLost_rx (s : State) (i : Nat) : tget [] (s.listenerLost i).audio.rx i = [] := by
  simp only [State.listenerLost, State.mAudio_audio, tget_tset_same]

theorem execAvtpStream_receiving {dt i : Nat} {s u : State} (hu : u = s.tick dt) (hon : u.rb (avtpRx i 8) 31 = true)
    (hreceives : u.rb (avtpRx i 12) 31 = true) : execAvtpStream dt i s = .next ((u.listenerLost i).emitPf 0x79 .ok i) := by
  simp [execAvtpStream, ← hu, hon, hreceives, State.listenerLost]

/-! ### The statement -/

/-- A block whose reserved fields are 0 and whose other fields lie in their ranges (R397). -/
theorem streamBad_of_ranges {p : Nat} (h1 : bits p 143 136 = 0) (h2 : bits p 127 16 = 0) (h3 : bits p 7 1 = 0) (hring : stRing p % 256 = 0)
    (hframes : 64 ≤ stFrames p ∧ stFrames p ≤ 1048576) (hperiod : 16 ≤ stPeriod p ∧ stPeriod p ≤ 4096) (htwice : 2 * stPeriod p ≤ stFrames p)
    (hslot : stSlot p ≤ 63) (hformat : stFormat p ≤ 2) (hchannels : 0 < stChannels p ∧ stChannels p ≤ 8) : streamBad p = false := by
  simp only [streamBad, h1, h2, h3, hring, bne_self_eq_false, Bool.false_or, Bool.or_eq_false_iff, decide_eq_false_iff_not, beq_eq_false_iff_ne]
  omega

/-- Settles O33 (log entry 36 for the end of an access to a peripheral that is not attached): each command by the branch its hypotheses
choose, a CREATE in two steps, the stream taken and its wait over. -/
theorem audioStreams : Obligations.AudioStreams := by
  unfold Obligations.AudioStreams
  refine ⟨?create, ?idle, ?run, ?tdm, ?swrCmd, ?swrDone, ?attach, ?talker, ?listener⟩
  case create =>
    intro dt w i a p e b s u hu hw hlen hb hok hp hfree h1 h2 h3 hring hfr64 hfr hper16 hper htwice hslot hformat hch0 hch
    subst hp
    have hgood := streamBad_of_ranges h1 h2 h3 hring ⟨hfr64, hfr⟩ ⟨hper16, hper⟩ htwice hslot hformat ⟨hch0, hch⟩
    refine ⟨fun hwait hpick hrun => ?_, fun hwait hpick hrun hroom => ?_⟩
    · obtain ⟨hctl, -⟩ := ctlWaits_some hwait
      refine ⟨u.streamTaken w kStreamIn i e (leNat b) a, ?_, streamTaken_chan .., streamTaken_stream .., streamTaken_ctl _ _ _ _ _ _ hctl,
        streamTaken_frame ..⟩
      rw [exec_createAudioStreamIn, execCreateAudioStreamIn_waiting hu hwait, createStream_ok hlen hb hok hfree hgood hpick hrun (by simp)]
    · refine ⟨u.streamTaken w kStreamOut i e (leNat b) a, ?_, streamTaken_chan .., streamTaken_stream ..⟩
      rw [exec_createAudioStreamOut, execCreateAudioStreamOut_waiting hu hwait, createStream_ok hlen hb hok hfree hgood hpick hrun]
      cases hon : (u.dom (stDomain (leNat b))).running
      · rw [Bool.and_false, Bool.false_and]
      · rw [decide_eq_false (Nat.not_lt.mpr (hroom hon)), Bool.and_false]
  case idle =>
    rintro dt kind i w tag p x s u hu hi rfl rfl hidle hwaits hchan
    refine ⟨u.streamLive kind i w, ?_, streamLive_chan, ?_, streamLive_active, streamLive_frame⟩
    · rw [exec_streamCreateSwapIdle, execStreamCreateSwapIdle_creating hu hi hidle hwaits hchan, streamReady_eq hi hchan]
    · rw [streamLive_stream]
  case run =>
    intro dt w sl k v s u hu _ _ hlive hfree hslot hrun hoff
    refine ⟨_, (exec_streamRun ..).trans (execStreamRun_starts hu hlive hfree hslot hrun hoff), streamStarted_ctrl .., streamStarted_status .., ?_, ?_,
      streamStarted_frame ..⟩
    all_goals rw [streamStarted_stream]
  case tdm =>
    intro dt p s u hu
    refine ⟨fun hon hslave => ⟨_, (exec_tdmClkLost ..).trans (execTdmClkLost_slave hu hon hslave), rb_wb_same _ _ _ (by decide),
      (Frame.refl ..).wb (by simp) ..⟩, ⟨_, (exec_tdmClkReturn ..).trans (execTdmClkReturn_eq hu), rb_wb_same _ _ _ (by decide),
      (Frame.refl ..).wb (by simp) ..⟩⟩
  case swrCmd =>
    intro dt m r v s u hu hclaim hidle
    refine ⟨_, (exec_swrCmd ..).trans (execSwrCmd_taken hu hclaim hidle), ?_, rf_wf_same _ _ _ (by decide) (by decide),
      ((Frame.refl ..).swrServing (by simp) ..).wf (by simp) ..⟩
    simp only [State.wf_frame, swrServing_busy]
  case swrDone =>
    intro dt m c byte s u hu hbusy hread
    refine ⟨fun hreal hattached => ⟨_, (exec_swrCmdDone ..).trans (execSwrCmdDone_read hu hbusy hread hreal hattached), ?_, ?_, ?_,
        (((Frame.refl ..).swrServing (by simp) ..).wf (by simp) ..).wr (by simp) _⟩,
      fun hunattached => ⟨_, (exec_swrCmdDone ..).trans (execSwrCmdDone_unattached hu hbusy hunattached), rf_wf_same _ _ _ (by decide) (by decide), ?_,
        ((Frame.refl ..).swrServing (by simp) ..).wf (by simp) ..⟩⟩
    · rw [rf_congr (State.rd_wr_ne _ (by unfold swrReg; omega)), rf_wf_same _ _ _ (by decide) (by decide)]
      rfl
    · rw [State.rd_wr_same, Nat.mod_eq_of_lt (byte.isLt.trans (by decide))]
    · simp only [State.wr_frame, State.wf_frame, swrServing_busy]
    · simp only [State.wf_frame, swrServing_busy]
  case attach =>
    intro dt m k a b s u hu hk hon
    exact ⟨_, (exec_swrPeripheralAttach ..).trans (execSwrPeripheralAttach_enabled hu hon), swrAttached_shown _ _ _ _ _ (by omega),
      swrAttached_channels .., swrAttached_frame ..⟩
  case talker =>
    rintro dt i m x f s u hu hon hcap hf rfl hlink hpf
    exact ⟨_, (exec_avtpTalkerInterval ..).trans (execAvtpTalkerInterval_sends hu hon hcap hf hlink hpf), talkerSent_cap .., talkerSent_packets ..⟩
  case listener =>
    intro dt i s u hu hon hreceives
    exact ⟨_, (exec_avtpStream ..).trans (execAvtpStream_receiving hu hon hreceives), listenerLost_receiving .., listenerLost_rx ..,
      ((Frame.refl ..).wb (by simp) ..).mAudio (by simp) _⟩

end Sys2Proof.Machine
end

section
/-!
PROOFS. Sense blocks and electrodes: what a change of one leaves, a block enabled, a scan that starts, and the words of an electrode (R408, R411,
R415, R420, R421, R424, R425, R433).
-/
namespace Sys2Proof.Machine

theorem exec_tblkEnable (dt : Nat) (r : Req) (b : Nat) (v : Word) (s : State) : exec (.tblkEnable dt r b v) s = execTblkEnable dt r b v s := rfl
theorem exec_scanStart (dt b : Nat) (s : State) : exec (.scanStart dt b) s = execScanStart dt b s := rfl
theorem exec_telThreshWrite (dt : Nat) (r : Req) (e : Nat) (v : Word) (s : State) :
    exec (.telThreshWrite dt r e v) s = execTelThreshWrite dt r e v s := rfl
theorem exec_telCtrlWrite (dt : Nat) (r : Req) (e : Nat) (v : Word) (s : State) :
    exec (.telCtrlWrite dt r e v) s = execTelCtrlWrite dt r e v s := rfl

/-! ### Registers and records -/

theorem blkReg_ne (b : Nat) {off off' : Nat} (h : off ≠ off') : blkReg b off ≠ blkReg b off' := by
  unfold blkReg
  omega

theorem elReg_ne (e : Nat) {off off' : Nat} (h : off ≠ off') : elReg e off ≠ elReg e off' := by
  unfold elReg
  omega

/-- An electrode of a block (R407). -/
theorem mem_blkEls {b e : Nat} : e ∈ blkEls b ↔ ∃ j < 32, b * 32 + j = e := by simp [blkEls]

theorem blk_congr {s t : State} (h : t.panel = s.panel) (b : Nat) : t.blk b = s.blk b := by rw [State.blk, h, State.blk]
theorem elec_congr {s t : State} (h : t.panel = s.panel) (e : Nat) : t.elec e = s.elec e := by rw [State.elec, h, State.elec]

section
variable (s : State)

theorem mBlk_blk (b : Nat) (f : BlkSt → BlkSt) : (s.mBlk b f).blk b = f (s.blk b) := by
  simp only [State.blk, State.mBlk, State.mPanel_panel, tget_tmod, if_pos]

theorem mElec_elec (e x : Nat) (f : ElSt → ElSt) : (s.mElec e f).elec x = if x = e then f (s.elec e) else s.elec x := by
  simp only [State.elec, State.mElec, State.mPanel_panel, tget_tmod]

theorem mElec_elec_same (e : Nat) (f : ElSt → ElSt) : (s.mElec e f).elec e = f (s.elec e) := by rw [mElec_elec, if_pos rfl]

theorem mBlk_elec (b e : Nat) (f : BlkSt → BlkSt) : (s.mBlk b f).elec e = s.elec e := rfl
theorem mBlk_zones (b : Nat) (f : BlkSt → BlkSt) : (s.mBlk b f).panel.zones = s.panel.zones := rfl
theorem mElec_zones (e : Nat) (f : ElSt → ElSt) : (s.mElec e f).panel.zones = s.panel.zones := rfl
theorem mElec_blk (e b : Nat) (f : ElSt → ElSt) : (s.mElec e f).blk b = s.blk b := rfl

theorem wr_blk (k v b : Nat) : (s.wr k v).blk b = s.blk b := blk_congr (by simp only [State.wr_frame]) b
theorem wr_zones (k v : Nat) : (s.wr k v).panel.zones = s.panel.zones := by simp only [State.wr_frame]
theorem mElec_rd (e k : Nat) (f : ElSt → ElSt) : (s.mElec e f).rd k = s.rd k := rfl
theorem wr_elec (k v e : Nat) : (s.wr k v).elec e = s.elec e := elec_congr (by simp only [State.wr_frame]) e

/-- Entering a state leaves the sense block. -/
theorem elEnter_blk (e st b : Nat) : (s.elEnter e st).blk b = s.blk b := by
  rw [State.elEnter, mElec_blk, State.wf, wr_blk]

end

section
variable {s t : State} {ps : List Part} {ks : List Nat}

theorem Frame.mBlk (h : Frame ps ks s t) (hp : Part.panel ∈ ps) (b : Nat) (f : BlkSt → BlkSt) : Frame ps ks s (t.mBlk b f) := h.mPanel hp _

theorem Frame.mElec (h : Frame ps ks s t) (hp : Part.panel ∈ ps) (e : Nat) (f : ElSt → ElSt) : Frame ps ks s (t.mElec e f) := h.mPanel hp _

theorem Frame.elEnter (h : Frame ps ks s t) (hp : Part.panel ∈ ps) {e : Nat} (hk : elReg e 0x18 ∈ ks) (st : Nat) : Frame ps ks s (t.elEnter e st) :=
  (h.wf hk ..).mElec hp ..

/-- A fold whose steps stay in a frame stays in it. -/
theorem Frame.foldl {β : Type} {f : State → β → State} {l : List β} (hf : ∀ t, ∀ x ∈ l, Frame ps ks s t → Frame ps ks s (f t x))
    (h : Frame ps ks s t) : Frame ps ks s (l.foldl f t) := by
  induction l generalizing t with
  | nil => exact h
  | cons x l ih => exact ih (fun t y hy => hf t y (by simp [hy])) (hf t x (by simp) h)

end

/-- What the step of a fold for `x` brings about, and every other step keeps, holds after the fold of each `x` of the list. -/
theorem foldl_each {α β : Type} {f : α → β → α} {P : β → α → Prop} (hdo : ∀ a x, P x (f a x))
    (hkeep : ∀ a x y, x ≠ y → P y a → P y (f a x)) : ∀ (l : List β) (a : α), ∀ x ∈ l, P x (l.foldl f a)
  | y :: l, a, x, hx => by
    by_cases hl : x ∈ l
    · exact foldl_each hdo hkeep l (f a y) x hl
    · obtain rfl : x = y := (List.mem_cons.mp hx).resolve_right hl
      refine List.foldlRecOn l f (motive := P x) (hdo a x) fun c hc z hz => hkeep c z x ?_ hc
      rintro rfl
      exact hl hz

/-! ### ENABLE -/

/-- The word that a write of ENABLE = 1 stores has ENABLE set (R411, R434). -/
theorem enableWord_enabled (v : Nat) : bit ((v ||| 0x80000000) &&& 0xCFF307FF) 31 = true := by
  rw [bit_and_of_mask (by decide), bit, Nat.testBit_or, show Nat.testBit 0x80000000 31 = true by decide, Bool.or_true]

/-- The state with `n` in TBLK_CTRL and the block's words in force, its first scan to come (R411, R420). -/
def State.blkArmed (s : State) (b n : Nat) : State :=
  (s.wr (blkReg b 0) n).mBlk b fun k =>
    { k with ctrl := n, timing := s.rd (blkReg b 4), phase := s.rd (blkReg b 8), noiseTh := s.rd (blkReg b 0xC), first := true, ovr := 0, scan := 0 }

/-- The state in which the block runs, at the stored setting (R411, R421). -/
def State.blkStarted (s : State) (b n : Nat) : State :=
  ((((s.blkArmed b n).wb (blkReg b 0x10) 31 true).wb (blkReg b 0x10) 30 false).wf (blkReg b 0x10) 29 27
    (tget 0 s.start.pset.setting b % 8)).blkResult b .ok

/-- The state in which an enable has failed (R411). -/
def State.blkRefused (s : State) (b n : Nat) (st : Status) : State := ((s.wr (blkReg b 0) n).wb (blkReg b 0) 31 false).blkResult b st

section
variable {dt b n : Nat} {r : Req} {v : Word} {s u : State} (hu : u = s.tick dt) (hb : b < u.blocks) (hclaim : u.blkClaimed b r = false)
  (hstopped : u.rb (blkReg b 0x10) 31 = false) (hn : n = (v.toNat ||| 0x80000000) &&& 0xCFF307FF)
include hu hb hclaim hstopped hn

theorem execTblkEnable_passes (hcheck : blkCheck n (u.rd (blkReg b 4)) (u.rd (blkReg b 8)) = .ok) :
    execTblkEnable dt r b v s = .next (u.blkStarted b n) := by
  have henable : bit n 31 = true := hn ▸ enableWord_enabled v.toNat
  simp only [execTblkEnable, ← hu, if_neg (Nat.not_le.mpr hb), hclaim, Bool.false_eq_true, if_false, State.blkWrite, ← hn, henable, hstopped,
    not_false_eq_true, and_self, if_true, hcheck]
  rfl

theorem execTblkEnable_fails {st : Status} (hcheck : blkCheck n (u.rd (blkReg b 4)) (u.rd (blkReg b 8)) = st) (hst : st ≠ .ok) :
    execTblkEnable dt r b v s = .next (u.blkRefused b n st) := by
  have henable : bit n 31 = true := hn ▸ enableWord_enabled v.toNat
  simp only [execTblkEnable, ← hu, if_neg (Nat.not_le.mpr hb), hclaim, Bool.false_eq_true, if_false, State.blkWrite, ← hn, henable, hstopped,
    not_false_eq_true, and_self, if_true]
  split
  · next h => exact absurd (hcheck.symm.trans h) hst
  · rw [hcheck]
    rfl

end

section
variable (s : State) (b n : Nat)

theorem blkStarted_frame : Frame [.panel] [blkReg b 0, blkReg b 0x10] s (s.blkStarted b n) :=
  ((((((Frame.refl ..).wr (by simp) _).mBlk (by simp) ..).wb (by simp) ..).wb (by simp) ..).wf (by simp) ..).wf (by simp) ..

theorem blkStarted_ctrl (hn : n < 2 ^ 32) : (s.blkStarted b n).rd (blkReg b 0) = n := by
  have hstatus : Frame [] [blkReg b 0x10] (s.blkArmed b n) (s.blkStarted b n) :=
    ((((Frame.refl ..).wb (by simp) ..).wb (by simp) ..).wf (by simp) ..).wf (by simp) ..
  rw [hstatus.regs _ (by simpa using blkReg_ne b (by decide)), State.blkArmed, State.mBlk, State.mPanel_rd, State.rd_wr_same, Nat.mod_eq_of_lt hn]

theorem blkStarted_running : (s.blkStarted b n).rb (blkReg b 0x10) 31 = true := by
  rw [State.blkStarted, State.blkResult, rb_wf_ne _ _ _ (by decide) (by decide) (by decide), rb_wf_ne _ _ _ (by decide) (by decide) (by decide),
    rb_wb_ne _ _ _ (by decide) (by decide), rb_wb_same _ _ _ (by decide)]

theorem blkStarted_hopNext : (s.blkStarted b n).rb (blkReg b 0x10) 30 = false := by
  rw [State.blkStarted, State.blkResult, rb_wf_ne _ _ _ (by decide) (by decide) (by decide), rb_wf_ne _ _ _ (by decide) (by decide) (by decide),
    rb_wb_same _ _ _ (by decide)]

theorem blkResult_result (st : Status) : (s.blkResult b st).rf (blkReg b 0x10) 22 16 = st.code := by
  rw [State.blkResult, rf_wf_same _ _ _ (by decide) (by decide)]
  cases st <;> rfl

theorem blkStarted_blk : (s.blkStarted b n).blk b = (s.blkArmed b n).blk b := by
  simp only [State.blkStarted, State.blkResult, State.wb, State.wf, wr_blk]

theorem blkArmed_blk : ((s.blkArmed b n).blk b).first = true ∧ ((s.blkArmed b n).blk b).ctrl = n := by
  rw [State.blkArmed, mBlk_blk]
  exact ⟨rfl, rfl⟩

theorem blkRefused_frame (st : Status) : Frame [] [blkReg b 0, blkReg b 0x10] s (s.blkRefused b n st) :=
  (((Frame.refl ..).wr (by simp) _).wb (by simp) ..).wf (by simp) ..

theorem blkRefused_disabled (st : Status) : (s.blkRefused b n st).rb (blkReg b 0) 31 = false :=
  (rb_congr (State.rd_wr_ne _ (blkReg_ne b (by decide))) 31).trans (rb_wb_same _ _ _ (by decide))

/-- A failed enable leaves RUNNING as it was. -/
theorem blkRefused_running (st : Status) : (s.blkRefused b n st).rb (blkReg b 0x10) 31 = s.rb (blkReg b 0x10) 31 := by
  have hctrl : Frame [] [blkReg b 0] s ((s.wr (blkReg b 0) n).wb (blkReg b 0) 31 false) := ((Frame.refl ..).wr (by simp) _).wb (by simp) ..
  rw [State.blkRefused, State.blkResult, rb_wf_ne _ _ _ (by decide) (by decide) (by decide),
    rb_congr (hctrl.regs _ (by simpa using blkReg_ne b (by decide)))]

end

/-! ### A scan starts -/

/-- The state with the words of the block's registers in force (R411). -/
def State.blkHeld (s : State) (b : Nat) : State :=
  s.mBlk b fun k =>
    { k with ctrl := s.rd (blkReg b 0), timing := s.rd (blkReg b 4), phase := s.rd (blkReg b 8), noiseTh := s.rd (blkReg b 0xC) }

/-- The state with an electrode's words in force, to be baselined as the block's first scan has it (R415, R420). -/
def State.elTaken (s : State) (e : Nat) : State :=
  let t := s.mElec e fun x => { x with ctrl := s.rd (elReg e 0), thresh := s.rd (elReg e 4), long := s.rd (elReg e 8), fresh := 1 }
  if bit (s.rd (elReg e 0)) 31 then t else t.elEnter e 4

theorem scanTake_first {s : State} {b : Nat} (hfirst : (s.blk b).first = true) : s.scanTake b = (blkEls b).foldl State.elTaken (s.blkHeld b) := by
  simp only [State.scanTake, hfirst, Bool.not_true, Bool.and_false, Bool.false_eq_true, if_false, if_true]
  rfl

section
variable (s : State) (e b : Nat)

theorem elTaken_blk : (s.elTaken e).blk b = s.blk b := by
  unfold State.elTaken
  dsimp only
  split
  · exact mElec_blk ..
  · exact (elEnter_blk ..).trans (mElec_blk ..)

/-- TEL_STATUS shows an electrode that is off; no other register changes. -/
theorem Frame.elTaken {s t : State} {ps : List Part} {ks : List Nat} (h : Frame ps ks s t) (hp : Part.panel ∈ ps) {e : Nat}
    (hk : elReg e 0x18 ∈ ks) : Frame ps ks s (t.elTaken e) :=
  Frame.ite (h.mElec hp ..) ((h.mElec hp ..).elEnter hp hk _)

theorem elTaken_elec : ((s.elTaken e).elec e).thresh = s.rd (elReg e 4) ∧ ((s.elTaken e).elec e).fresh = 1 := by
  unfold State.elTaken
  dsimp only
  split
  · rw [mElec_elec_same]
    exact ⟨rfl, rfl⟩
  · rw [State.elEnter, mElec_elec_same, State.wf, wr_elec, mElec_elec_same]
    exact ⟨rfl, rfl⟩

theorem elTaken_elec_ne {x : Nat} (h : x ≠ e) : (s.elTaken e).elec x = s.elec x := by
  unfold State.elTaken
  dsimp only
  split
  · rw [mElec_elec, if_neg h]
  · rw [State.elEnter, mElec_elec, if_neg h, State.wf, wr_elec, mElec_elec, if_neg h]

/-- The threshold taken is the one in TEL_THRESH, which taking leaves. -/
theorem elTaken_rd_thresh (x : Nat) : (s.elTaken e).rd (elReg x 4) = s.rd (elReg x 4) :=
  ((Frame.refl s [.panel] [elReg e 0x18]).elTaken (by simp) (by simp)).regs _ (by
    rw [List.mem_singleton]
    unfold elReg
    omega)

end

section
variable {s : State} {b : Nat} (hfirst : (s.blk b).first = true)
include hfirst

theorem scanTake_frame : Frame [.panel] ((blkEls b).map fun e => elReg e 0x18) s (s.scanTake b) := by
  rw [scanTake_first hfirst]
  exact Frame.foldl (fun t e he h => h.elTaken (by simp) (List.mem_map_of_mem he)) ((Frame.refl ..).mBlk (by simp) ..)

theorem scanTake_blk : (s.scanTake b).blk b = (s.blkHeld b).blk b := by
  rw [scanTake_first hfirst]
  exact foldl_keeps (fun t => t.blk b) (fun t e => elTaken_blk t e b) _ _

/-- Every electrode of the block scans under its words, and is to be baselined (R415, R420). -/
theorem scanTake_elec {e : Nat} (he : e ∈ blkEls b) : ((s.scanTake b).elec e).thresh = s.rd (elReg e 4) ∧ ((s.scanTake b).elec e).fresh = 1 := by
  have hthresh : (s.scanTake b).rd (elReg e 4) = s.rd (elReg e 4) := by
    rw [scanTake_first hfirst]
    exact foldl_keeps (fun t => t.rd (elReg e 4)) (fun t x => elTaken_rd_thresh t x e) _ _
  rw [← hthresh, scanTake_first hfirst]
  refine foldl_each (P := fun x (t : State) => (t.elec x).thresh = t.rd (elReg x 4) ∧ (t.elec x).fresh = 1)
    (fun t x => ?_) (fun t x y hxy h => ?_) _ _ e he
  · rw [elTaken_rd_thresh]
    exact elTaken_elec t x
  · rwa [elTaken_rd_thresh, elTaken_elec_ne _ _ (Ne.symm hxy)]

/-- Taking the electrodes' words leaves TBLK_STATUS. -/
theorem scanTake_status : (s.scanTake b).rd (blkReg b 0x10) = s.rd (blkReg b 0x10) := by
  refine (scanTake_frame hfirst).regs _ fun h => ?_
  obtain ⟨e, he, heq⟩ := List.mem_map.mp h
  obtain ⟨j, -, rfl⟩ := mem_blkEls.mp he
  unfold elReg blkReg at heq
  omega

end

/-- The state in which a scan of the block has started (R408, R421). -/
def State.scanBegun (s : State) (b : Nat) : State :=
  (s.scanTake b).mBlk b fun k => { k with scan := if (s.scanTake b).rb (blkReg b 0x10) 30 then 2 else 1, startAt := (s.scanTake b).now }

theorem scanBegun_frame {s : State} {b : Nat} (hfirst : (s.blk b).first = true) :
    Frame [.panel] ((blkEls b).map fun e => elReg e 0x18) s (s.scanBegun b) := (scanTake_frame hfirst).mBlk (by simp) ..

theorem scanBegun_elec (s : State) (b e : Nat) : (s.scanBegun b).elec e = (s.scanTake b).elec e := by rw [State.scanBegun, mBlk_elec]

theorem sat_rd (s : State) (k n : Nat) : (s.sat k n).rd k = min (s.rd k + n) (2 ^ 32 - 1) := by
  rw [State.sat, State.rd_wr_same, satAdd]
  omega

section
variable {dt b : Nat} {s u : State} (hu : u = s.tick dt) (hb : b < u.blocks) (hrunning : u.rb (blkReg b 0x10) 31 = true)
  (hup : u.unitUp 0x60 b = true)
include hu hb hrunning hup

theorem execScanStart_idle (hidle : (u.blk b).scan = 0) (henabled : u.rb (blkReg b 0) 31 = true) :
    execScanStart dt b s = .next (u.scanBegun b) := by
  simp [execScanStart, ← hu, Nat.not_le.mpr hb, hrunning, hup, hidle, henabled, State.scanBegun]

theorem execScanStart_hopping (hhop : (u.blk b).scan = 2) : execScanStart dt b s = .next (u.sat (blkReg b 0x24) 1) := by
  simp [execScanStart, ← hu, Nat.not_le.mpr hb, hrunning, hup, hhop]

end

/-! ### The words of an electrode -/

section
variable {dt e : Nat} {r : Req} {v : Word} {s u : State} (hu : u = s.tick dt) (he : e < u.row.electrodes) (hclaim : u.blkClaimed (e / 32) r = false)
include hu he hclaim

theorem execTelThreshWrite_eq :
    execTelThreshWrite dt r e v s = .next (u.wr (elReg e 4) (min (bits v.toNat 31 16) (bits v.toNat 15 0) * 2 ^ 16 + bits v.toNat 15 0)) := by
  simp only [execTelThreshWrite, ← hu, if_neg (Nat.not_le.mpr he), hclaim, Bool.false_eq_true, if_false]

theorem execTelCtrlWrite_sameOwner (howner : bits v.toNat 15 0 = u.rf (elReg e 0) 15 0) :
    execTelCtrlWrite dt r e v s = .next (u.wb (elReg e 0) 31 (bit v.toNat 31)) := by
  have hkept : (u.wb (elReg e 0) 31 (bit v.toNat 31)).rf (elReg e 0) 15 0 = u.rf (elReg e 0) 15 0 := rf_wb_ne _ _ _ (by decide) (by decide)
  simp only [execTelCtrlWrite, ← hu, if_neg (Nat.not_le.mpr he), hclaim, Bool.false_eq_true, if_false, hkept, howner, if_true]

theorem execTelCtrlWrite_newOwner (howner : bits v.toNat 15 0 ≠ u.rf (elReg e 0) 15 0) :
    execTelCtrlWrite dt r e v s = .next (if u.rb (elReg e 0x18) 26 then (u.wb (elReg e 0) 31 (bit v.toNat 31)).touchResult .badState
      else (u.wb (elReg e 0) 31 (bit v.toNat 31)).wf (elReg e 0) 15 0 (bits v.toNat 15 0)) := by
  have hkept : (u.wb (elReg e 0) 31 (bit v.toNat 31)).rf (elReg e 0) 15 0 = u.rf (elReg e 0) 15 0 := rf_wb_ne _ _ _ (by decide) (by decide)
  have hzone : (u.wb (elReg e 0) 31 (bit v.toNat 31)).rb (elReg e 0x18) 26 = u.rb (elReg e 0x18) 26 :=
    rb_congr (State.rd_wr_ne _ (elReg_ne e (by decide))) 26
  simp only [execTelCtrlWrite, ← hu, if_neg (Nat.not_le.mpr he), hclaim, Bool.false_eq_true, if_false, hkept, if_neg howner, hzone]
  exact (apply_ite Host.Outcome.next _ _ _).symm

end

/-- The two halves of a word. -/
theorem halves_fields {low high : Nat} (hlow : low < 2 ^ 16) (hhigh : high < 2 ^ 16) :
    bits ((high * 2 ^ 16 + low) % 2 ^ 32) 15 0 = low ∧ bits ((high * 2 ^ 16 + low) % 2 ^ 32) 31 16 = high := by
  simp only [bits, Nat.reduceAdd, Nat.reduceSub, Nat.reducePow, Nat.div_one] at hlow hhigh ⊢
  omega

end Sys2Proof.Machine
end

section
/-!
PROOFS. The end of a scan with one live electrode at rest and no zone, and the statement on scans (R408, R413, R414, R416, R422).
-/
namespace Sys2Proof.Machine

theorem exec_scanMeasureEnd (dt b ns : Nat) (readings noise survey : List Nat) (s : State) :
    exec (.scanMeasureEnd dt b readings noise survey ns) s = execScanMeasureEnd dt b readings noise survey ns s := rfl

/-! ### What counting and recording leave -/

/-- The registers of touch surfaces, haptic drive and reflex paths (R433, R467, R471). -/
def State.panelRegs (s : State) (k : Nat) : Nat := if 0x03800000 ≤ k ∧ k < 0x03C00000 then s.rd k else 0

/-- The state of the panel, the channels and those registers: what counters and recorder slots leave as they are. -/
def State.panelView (s : State) : Panel × Tbl Chan × (Nat → Nat) := (s.panel, s.pods.chans, s.panelRegs)

theorem panelRegs_congr {s t : State} (h : ∀ k, 0x03800000 ≤ k → k < 0x03C00000 → t.rd k = s.rd k) : t.panelRegs = s.panelRegs := by
  funext k
  unfold State.panelRegs
  split
  · next hk => exact h k hk.1 hk.2
  · rfl

section
variable {s t : State} (h : t.panelView = s.panelView)
include h

theorem panel_of_panelView : t.panel = s.panel := congrArg (·.1) h

theorem chans_of_panelView : t.pods.chans = s.pods.chans := congrArg (·.2.1) h

theorem rd_of_panelView {k : Nat} (hlo : 0x03800000 ≤ k) (hhi : k < 0x03C00000) : t.rd k = s.rd k := by
  have hregs : t.panelRegs k = s.panelRegs k := congrFun (congrArg (·.2.2) h) k
  rwa [State.panelRegs, if_pos ⟨hlo, hhi⟩, State.panelRegs, if_pos ⟨hlo, hhi⟩] at hregs

end

section
variable (s : State)

theorem panelView_wr {k : Nat} (hk : 0x03C00000 ≤ k) (v : Nat) : (s.wr k v).panelView = s.panelView := by
  have hregs : (s.wr k v).panelRegs = s.panelRegs := panelRegs_congr fun j _ hj => State.rd_wr_ne _ (by omega)
  simp only [State.panelView, State.wr_frame, hregs]

theorem panelView_raise {k : Nat} (hk : 0x03C00000 ≤ k) (i : Nat) : (s.raise k i).panelView = s.panelView := panelView_wr s hk _

theorem panelView_emitPf (kind : Nat) (st : Status) (detail : Nat) : (s.emitPf kind st detail).panelView = s.panelView := by
  have hdirty : viReg pfWin 0x14 < 0x03800000 := by decide
  have hregs : (s.emitPf kind st detail).panelRegs = s.panelRegs :=
    panelRegs_congr fun j hlo hhi => emitPf_rd s kind st detail j (by omega) (by omega)
  simp only [State.panelView, emitPf_frame, emitPf_pods, hregs]

theorem panelView_cntAdd (i n : Nat) : (s.cntAdd i n).panelView = s.panelView := by
  have hreg (off : Nat) : 0x03C00000 ≤ cntReg i off := by unfold cntReg; omega
  have hvalue (v : Nat) : (s.wr64 (cntReg i 0) v).panelView = s.panelView := by
    rw [State.wr64, panelView_wr _ ((hreg 4).trans (by unfold cntReg; omega)), panelView_wr _ (hreg 0)]
  unfold State.cntAdd
  dsimp only
  split
  · exact hvalue _
  split
  · exact hvalue _
  split
  · rw [panelView_emitPf, panelView_raise _ (hreg 8), hvalue]
  · rw [panelView_raise _ (hreg 8), hvalue]

theorem panelView_cntEvent (kind inst ev n : Nat) : (s.cntEvent kind inst ev n).panelView = s.panelView := by
  unfold State.cntEvent
  split
  · rfl
  dsimp only
  split
  · exact panelView_cntAdd ..
  · exact panelView_cntAdd ..

theorem recValue_rd (source inst : Nat) (v : Int) (k : Nat) : (s.recValue source inst v).rd k = s.rd k :=
  foldl_keeps (fun t => t.rd k) (fun t _ => t.mRecs_rd _ k) _ s

theorem recValue_panel (source inst : Nat) (v : Int) : (s.recValue source inst v).panel = s.panel :=
  foldl_keeps State.panel (fun t _ => by simp only [State.mRecs_frame]) _ s

end

/-! ### The scan of one electrode at rest -/

/-- The state in which a reading of an electrode that is in range was taken and shown (R409, R413). -/
def State.elRead (s : State) (b e r noise : Nat) : State :=
  (((s.wr (elReg e 0xC) r).wr (elReg e 0x1C) (noise % 65536)).mElec e fun x => { x with raw := r, oor := 0, inr := x.inr + 1 }).elShow b e r

/-- The state with the consecutive counts of an electrode as a scan at rest sets them, no excursion among them (R414, R417). -/
def State.elCounts (s : State) (e up : Nat) : State := s.mElec e fun x => { x with up := up, down := 0, exc := 0 }

/-- The state in which an electrode of block `b` has entered TOUCH (R414). -/
def State.elTouches (s : State) (b e up : Nat) : State :=
  ((s.elCounts e up).elEnter e 1).mElec e fun x => { x with touchAt := (s.blk b).startAt }

/-- The state in which the baseline of an electrode that stays IDLE has followed the reading (R416). -/
def State.elTracks (s : State) (b e r : Nat) : State :=
  (s.elCounts e 0).wr (elReg e 0x10) (trackBase (s.rd (elReg e 0x10)) r (tbTrack (s.blk b).ctrl))

section
variable (s : State) (b e r n : Nat)

theorem elRead_frame : Frame [.panel] [elReg e 0xC, elReg e 0x14, elReg e 0x1C] s (s.elRead b e r n) :=
  ((((Frame.refl ..).wr (by simp) _).wr (by simp) _).mElec (by simp) ..).wr (by simp) _

theorem elRead_raw : (s.elRead b e r n).rd (elReg e 0xC) = r % 2 ^ 32 := by
  rw [State.elRead, State.elShow, State.rd_wr_ne _ (elReg_ne e (by decide)), State.mElec, State.mPanel_rd, State.rd_wr_ne _ (elReg_ne e (by decide)),
    State.rd_wr_same]

theorem elRead_blk : (s.elRead b e r n).blk b = s.blk b := by
  rw [State.elRead, State.elShow, wr_blk, mElec_blk, wr_blk, wr_blk]

theorem elRead_elec : (s.elRead b e r n).elec e = { s.elec e with raw := r, oor := 0, inr := (s.elec e).inr + 1 } := by
  rw [State.elRead, State.elShow, wr_elec, mElec_elec_same, wr_elec, wr_elec]

theorem elRead_zones : (s.elRead b e r n).panel.zones = s.panel.zones := by
  rw [State.elRead, State.elShow, wr_zones, mElec_zones, wr_zones, wr_zones]

end

section
variable {s : State} {b e r : Nat}

theorem elScan_rest (noise : Nat) (hlive : bit (s.elec e).ctrl 31 = true) (hbased : (s.elec e).fresh = 0) (hstate : s.elState e = 0)
    (hpos : 0 < r) (hrange : r < 0xFFFFFF) : s.elScan b e r noise = (s.elRead b e r noise).elRest b e r false := by
  have hoor : (r == 0 || r == 0xFFFFFF) = false := by simp; omega
  have hshown : (s.elRead b e r noise).elState e = 0 := by
    rw [← hstate]
    exact rf_congr ((elRead_frame s b e r noise).regs _ (by simp [elReg])) 31 29
  have hcount : ((s.elRead b e r noise).elec e).oor = 0 := by rw [elRead_elec]
  unfold State.elScan
  simp only [hlive, Bool.not_true, Bool.false_eq_true, if_false, hoor, hbased]
  rw [← State.elRead]
  simp [hshown, hcount]

/-- A signal that has reached the threshold often enough in a row (R414). -/
theorem elRest_touches (hstate : s.elState e = 0) (hthresh : 0 < bits (s.elec e).thresh 15 0)
    (hsignal : (bits (s.elec e).thresh 15 0 : Int) ≤ elSignal (tbCharge (s.blk b).ctrl) (s.rd (elReg e 0x10)) r)
    (hcount : tbDebounce (s.blk b).ctrl ≤ (s.elec e).up + 1) : s.elRest b e r false = s.elTouches b e ((s.elec e).up + 1) := by
  have hexcursion : ¬ elSignal (tbCharge (s.blk b).ctrl) (s.rd (elReg e 0x10)) r ≤ -(bits (s.elec e).thresh 15 0 : Int) := by omega
  simp [State.elRest, hstate, hsignal, hexcursion, hcount, State.elTouches, State.elCounts]

/-- A signal below the threshold that is no excursion: the baseline follows the reading (R414, R416). -/
theorem elRest_tracks (hstate : s.elState e = 0) (hconfirmed : s.rb (elReg e 0x18) 28 = false)
    (hbelow : elSignal (tbCharge (s.blk b).ctrl) (s.rd (elReg e 0x10)) r < bits (s.elec e).thresh 15 0)
    (habove : -(bits (s.elec e).thresh 15 0 : Int) < elSignal (tbCharge (s.blk b).ctrl) (s.rd (elReg e 0x10)) r) :
    s.elRest b e r false = s.elTracks b e r := by
  have hkept (v : Nat) : ((s.elCounts e 0).wr (elReg e 0x10) v).rb (elReg e 0x18) 28 = false :=
    (rb_congr (State.rd_wr_ne _ (elReg_ne e (by decide))) 28).trans hconfirmed
  have hdebounce : ¬ tbDebounce (s.blk b).ctrl ≤ 0 := Nat.not_le.mpr (Nat.succ_pos _)
  simp only [State.elRest, hstate, not_le.mpr hbelow, not_le.mpr habove, hdebounce, if_false, decide_false, Bool.and_false, BEq.rfl, Bool.not_true,
    Bool.false_and, Bool.false_eq_true, nonpos_iff_eq_zero, OfNat.ofNat_ne_zero]
  exact if_neg fun ⟨_, hshown, _⟩ => Bool.false_ne_true ((hkept _).symm.trans hshown)

end

/-! ### A scan of one electrode -/

/-- The state in which a normal scan of a block is over and counted (R408). -/
def State.scanCounted (s : State) (b : Nat) : State := ((s.incr64 (blkReg b 0x18) 1).mBlk b fun k => { k with scan := 0 }).cntEvent 0x60 b 2 1

/-- The state in which the noise of a scan that is not the first was taken (R422). -/
def State.noiseSeen (s : State) (b n : Nat) : State :=
  let ovr := if (s.blk b).noiseTh < n then (s.blk b).ovr + 1 else 0
  ((s.wf (blkReg b 0x10) 15 0 (min n 65535)).wb (blkReg b 0x10) 30 (decide (3 ≤ ovr))).mBlk b fun k => { k with ovr := ovr, first := false }

/-- The state from which a normal scan that read `r` and the noise `n` decides the state of its one electrode. -/
def State.scanRead (s : State) (b e r n : Nat) : State := ((s.scanCounted b).noiseSeen b n).elRead b e r n

theorem zonesOf_congr {s t : State} (hzones : t.panel.zones = s.panel.zones) (hchans : t.pods.chans = s.pods.chans) (b : Nat) :
    t.zonesOf b = s.zonesOf b := by
  simp only [State.zonesOf, State.chan, hzones, hchans]

theorem sensed_congr {s t : State} (h : ∀ e, t.elec e = s.elec e) (b : Nat) : t.sensed b = s.sensed b := by
  simp only [State.sensed, h]

/-- An electrode's registers, and those of a block of the part, among those of the panel (R433). -/
theorem elReg_range {b e off : Nat} (hb : b < 16) (he : e ∈ blkEls b) (hoff : off < 0x20) : 0x03800000 ≤ elReg e off ∧ elReg e off < 0x03C00000 := by
  obtain ⟨j, hj, rfl⟩ := mem_blkEls.mp he
  unfold elReg
  omega

theorem blkReg_range {b off : Nat} (hb : b < 16) (hoff : off < 0x40) : 0x03800000 ≤ blkReg b off ∧ blkReg b off < 0x03C00000 := by
  unfold blkReg
  omega

theorem elReg_ne_blkReg {b e off off' : Nat} (hb : b < 16) (hoff' : off' < 0x40) : elReg e off ≠ blkReg b off' := by
  unfold elReg blkReg
  omega

theorem plainScan_single {s z : State} {b e : Nat} {readings noise survey : List Nat} (hfirst : (s.blk b).first = false) (hsensed : s.sensed b = [e])
    (hstate : s.elState e = 0)
    (hz : (s.noiseSeen b (noise.getD (e % 32) 0)).elScan b e (readings.getD (e % 32) 0) (noise.getD (e % 32) 0) = z) (hzones : z.zonesOf b = []) :
    s.plainScan b readings noise survey = z := by
  simp only [State.noiseSeen] at hz
  simp only [State.plainScan, hfirst, hsensed, hstate, Bool.false_eq_true, if_false, Bool.false_and, Bool.or_false, List.foldl_cons, List.foldl_nil,
    Nat.zero_max, OfNat.zero_ne_ofNat, hz, hzones]
  rfl

/-! ### What a scan decides from -/

section
variable (s : State) (b e r n : Nat)

theorem scanCounted_view : (s.scanCounted b).panelView = ((s.incr64 (blkReg b 0x18) 1).mBlk b fun k => { k with scan := 0 }).panelView :=
  panelView_cntEvent ..

theorem scanCounted_blk : (s.scanCounted b).blk b = { s.blk b with scan := 0 } := by
  rw [blk_congr (panel_of_panelView (scanCounted_view s b)), mBlk_blk, State.incr64, State.wr64, wr_blk, wr_blk]

theorem scanCounted_elec : (s.scanCounted b).elec e = s.elec e := by
  rw [elec_congr (panel_of_panelView (scanCounted_view s b)), mBlk_elec, State.incr64, State.wr64, wr_elec, wr_elec]

theorem scanCounted_zonesOf : (s.scanCounted b).zonesOf b = s.zonesOf b := by
  have hview := scanCounted_view s b
  refine zonesOf_congr ?_ ?_ b
  · simp only [panel_of_panelView hview, mBlk_zones, State.incr64_frame]
  · simp only [chans_of_panelView hview, State.mBlk, State.mPanel_frame, State.incr64_frame]

/-- Of the panel's registers the count of scans alone changes. -/
theorem scanCounted_rd {k : Nat} (hrange : 0x03800000 ≤ k ∧ k < 0x03C00000) (hlow : k ≠ blkReg b 0x18) (hhigh : k ≠ blkReg b 0x1C) :
    (s.scanCounted b).rd k = s.rd k := by
  rw [rd_of_panelView (scanCounted_view s b) hrange.1 hrange.2, State.mBlk, State.mPanel_rd]
  exact (State.rd_wr_ne _ hhigh).trans (State.rd_wr_ne _ hlow)

theorem scanCounted_scans (hb : b < 16) : (s.scanCounted b).rd64 (blkReg b 0x18) = (s.rd64 (blkReg b 0x18) + 1) % 2 ^ 64 := by
  have hreg (off : Nat) (hoff : off < 0x40) := blkReg_range hb hoff
  have hlow := rd_of_panelView (scanCounted_view s b) (hreg 0x18 (by decide)).1 (hreg 0x18 (by decide)).2
  have hhigh : (s.scanCounted b).rd (blkReg b 0x18 + 4) = _ :=
    rd_of_panelView (scanCounted_view s b) (hreg 0x1C (by decide)).1 (hreg 0x1C (by decide)).2
  rw [State.rd64, hlow, hhigh, State.mBlk, State.mPanel_rd, State.mPanel_rd, ← State.rd64, State.incr64, rd64_wr64]

theorem noiseSeen_frame : Frame [.panel] [blkReg b 0x10] s (s.noiseSeen b n) :=
  (((Frame.refl ..).wf (by simp) ..).wb (by simp) ..).mBlk (by simp) ..

theorem noiseSeen_blk : ((s.noiseSeen b n).blk b).ctrl = (s.blk b).ctrl ∧ ((s.noiseSeen b n).blk b).startAt = (s.blk b).startAt
    ∧ ((s.noiseSeen b n).blk b).scan = (s.blk b).scan := by
  rw [State.noiseSeen, mBlk_blk, State.wb, State.wf, State.wf, wr_blk, wr_blk]
  exact ⟨rfl, rfl, rfl⟩

theorem noiseSeen_elec : (s.noiseSeen b n).elec e = s.elec e := by
  rw [State.noiseSeen, mBlk_elec, State.wb, State.wf, State.wf, wr_elec, wr_elec]

theorem noiseSeen_zones : (s.noiseSeen b n).panel.zones = s.panel.zones := by
  rw [State.noiseSeen, mBlk_zones, State.wb, State.wf, State.wf, wr_zones, wr_zones]

end

section
variable {b e r n : Nat} {u : State}

/-- From the count on, a scan changes words of TBLK_STATUS and of the electrode alone. -/
theorem scanRead_frame : Frame [.panel] [blkReg b 0x10, elReg e 0xC, elReg e 0x14, elReg e 0x1C] (u.scanCounted b) (u.scanRead b e r n) :=
  (((((((Frame.refl ..).wf (by simp) ..).wb (by simp) ..).mBlk (by simp) ..).wr (by simp) _).wr (by simp) _).mElec (by simp) ..).wr (by simp) _

theorem scanRead_blk : ((u.scanRead b e r n).blk b).ctrl = (u.blk b).ctrl ∧ ((u.scanRead b e r n).blk b).startAt = (u.blk b).startAt
    ∧ ((u.scanRead b e r n).blk b).scan = 0 := by
  obtain ⟨hctrl, hstart, hscan⟩ := noiseSeen_blk (u.scanCounted b) b n
  rw [State.scanRead, elRead_blk, hctrl, hstart, hscan, scanCounted_blk]
  exact ⟨rfl, rfl, rfl⟩

theorem scanRead_elec : (u.scanRead b e r n).elec e = { u.elec e with raw := r, oor := 0, inr := (u.elec e).inr + 1 } := by
  rw [State.scanRead, elRead_elec, noiseSeen_elec, scanCounted_elec]

variable (hb16 : b < 16) (he : e ∈ blkEls b)
include hb16 he

theorem scanRead_rd {off : Nat} (hoff : off = 0x10 ∨ off = 0x18) : (u.scanRead b e r n).rd (elReg e off) = u.rd (elReg e off) := by
  rw [scanRead_frame.regs _ ?_]
  · exact scanCounted_rd u b (elReg_range hb16 he (by omega)) (elReg_ne_blkReg hb16 (by decide)) (elReg_ne_blkReg hb16 (by decide))
  · simp only [List.mem_cons, List.not_mem_nil, or_false, not_or]
    exact ⟨elReg_ne_blkReg hb16 (by decide), elReg_ne e (by omega), elReg_ne e (by omega), elReg_ne e (by omega)⟩

end

/-- An electrode that a block's scan measures is one of the block's that TEL_CTRL enables (R407, R434). -/
theorem mem_sensed {s : State} {b e : Nat} (h : s.sensed b = [e]) : e ∈ blkEls b ∧ bit (s.elec e).ctrl 31 = true :=
  List.mem_filter.mp (show e ∈ s.sensed b by rw [h]; exact List.mem_singleton_self e)

/-- A normal scan, not the block's first, finds one live electrode, which is IDLE with a baseline, and no zone, and reads `r` within range (R409,
R414). -/
structure SingleScan (u : State) (b e r : Nat) : Prop where
  block : b < 16
  first : (u.blk b).first = false
  zones : u.zonesOf b = []
  sensed : u.sensed b = [e]
  based : (u.elec e).fresh = 0
  idle : u.elState e = 0
  positive : 0 < r
  range : r < 0xFFFFFF

section
variable {dt b e r n ns : Nat} {readings noise survey : List Nat} {s u z : State} (hsingle : SingleScan u b e r)
  (hr : r = readings.getD (e % 32) 0) (hn : n = noise.getD (e % 32) 0) (hz : (u.scanRead b e r n).elRest b e r false = z)
  (hframe : Frame [.panel] [elReg e 0x10, elReg e 0x18] (u.scanRead b e r n) z) (hzones : z.panel.zones = (u.scanRead b e r n).panel.zones)
include hsingle hr hn hz hframe hzones

/-- The one live electrode at rest of a block without zones is all that a normal scan decides (R414, R422). -/
theorem scanCounted_plainScan : (u.scanCounted b).plainScan b readings noise survey = z := by
  obtain ⟨hb16, hfirst, hnone, hsensed, hbased, hidle, hpos, hrange⟩ := hsingle
  obtain ⟨he, hlive⟩ := mem_sensed hsensed
  have hcounted : (u.scanCounted b).elState e = 0 := by
    rw [← hidle]
    exact rf_congr (scanCounted_rd u b (elReg_range hb16 he (by decide)) (elReg_ne_blkReg hb16 (by decide)) (elReg_ne_blkReg hb16 (by decide))) 31 29
  have hseen : ((u.scanCounted b).noiseSeen b n).elState e = 0 :=
    (rf_congr ((noiseSeen_frame (u.scanCounted b) b n).regs _ (by simpa using elReg_ne_blkReg hb16 (by decide))) 31 29).trans hcounted
  have helec : ((u.scanCounted b).noiseSeen b n).elec e = u.elec e := (noiseSeen_elec ..).trans (scanCounted_elec ..)
  refine plainScan_single (e := e) (by rw [scanCounted_blk, hfirst]) (by rw [sensed_congr (scanCounted_elec u b), hsensed]) hcounted ?_ ?_
  · rw [← hn, ← hr, elScan_rest n (by rwa [helec]) (by rwa [helec]) hseen hpos hrange]
    exact hz
  · have hpods : z.pods = (u.scanCounted b).pods := (hframe.parts .pods (by simp)).trans (scanRead_frame.parts .pods (by simp))
    have hkept : z.panel.zones = (u.scanCounted b).panel.zones := by rw [hzones, State.scanRead, elRead_zones, noiseSeen_zones]
    rw [zonesOf_congr hkept (by rw [hpods]), scanCounted_zonesOf, hnone]

/-- No binding fires, so the dispatch is not timed (R469). -/
theorem execScanMeasureEnd_single (hu : u = s.tick dt) (hb : b < u.blocks) (hscan : (u.blk b).scan = 1) :
    execScanMeasureEnd dt b readings noise survey ns s = .next (z.recValue 5 b (z.rf (blkReg b 0x10) 15 0 : Nat)) := by
  have hplain := scanCounted_plainScan (survey := survey) hsingle hr hn hz hframe hzones
  have hkept {k : Nat} (hk : 0x03A80008 ≤ k) (v : Int) : (z.recValue 5 b v).rd k = (u.scanCounted b).rd k := by
    have hb16 := hsingle.block
    obtain ⟨j, hj, rfl⟩ := mem_blkEls.mp (mem_sensed hsingle.sensed).1
    rw [recValue_rd, hframe.regs _ (by simp [elReg]; omega), scanRead_frame.regs _ (by simp [elReg, blkReg]; omega)]
  have hfired (v : Int) : (z.recValue 5 b v).rd64 0x03A80008 = (u.scanCounted b).rd64 0x03A80008 := by
    rw [State.rd64, hkept (by decide), hkept (by decide), State.rd64]
  simp only [State.scanCounted] at hplain hfired
  simp only [execScanMeasureEnd, ← hu, Nat.not_le.mpr hb, hscan, OfNat.one_ne_ofNat, one_ne_zero, or_self, if_false, hplain, hfired, if_true]

end

/-! ### What a scan shows -/

section
variable (s : State) (b e r up : Nat)

theorem elTouches_frame {ks : List Nat} (hk : elReg e 0x18 ∈ ks) : Frame [.panel] ks s (s.elTouches b e up) :=
  (((Frame.refl ..).mElec (by simp) ..).elEnter (by simp) hk _).mElec (by simp) ..

theorem elTouches_state : (s.elTouches b e up).elState e = 1 := by
  rw [State.elTouches, State.elState, rf_congr (mElec_rd ..), State.elEnter, rf_congr (mElec_rd ..), rf_wf_same _ _ _ (by decide) (by decide),
    Nat.mod_eq_of_lt (by decide)]

theorem elTouches_touchAt : ((s.elTouches b e up).elec e).touchAt = (s.blk b).startAt := by
  rw [State.elTouches, mElec_elec_same]

theorem elTouches_blk : (s.elTouches b e up).blk b = s.blk b := by
  rw [State.elTouches, mElec_blk, elEnter_blk, State.elCounts, mElec_blk]

theorem elTouches_zones : (s.elTouches b e up).panel.zones = s.panel.zones := by
  rw [State.elTouches, mElec_zones, State.elEnter, mElec_zones, State.wf, wr_zones, State.elCounts, mElec_zones]

theorem elTracks_frame {ks : List Nat} (hk : elReg e 0x10 ∈ ks) : Frame [.panel] ks s (s.elTracks b e r) :=
  ((Frame.refl ..).mElec (by simp) ..).wr hk _

theorem elTracks_base : (s.elTracks b e r).rd (elReg e 0x10) = trackBase (s.rd (elReg e 0x10)) r (tbTrack (s.blk b).ctrl) := by
  rw [State.elTracks, State.rd_wr_same, trackBase, Nat.mod_mod]

theorem elTracks_blk : (s.elTracks b e r).blk b = s.blk b := by
  rw [State.elTracks, wr_blk, State.elCounts, mElec_blk]

theorem elTracks_zones : (s.elTracks b e r).panel.zones = s.panel.zones := by
  rw [State.elTracks, wr_zones, State.elCounts, mElec_zones]

end

section
variable {b e r n : Nat} {u z : State} (hframe : Frame [.panel] [elReg e 0x10, elReg e 0x18] (u.scanRead b e r n) z)
include hframe

theorem scanEnded_raw (hr : r < 2 ^ 32) : z.rd (elReg e 0xC) = r := by
  rw [hframe.regs _ (by simp [elReg]), State.scanRead, elRead_raw, Nat.mod_eq_of_lt hr]

theorem scanEnded_scans (hb16 : b < 16) : z.rd64 (blkReg b 0x18) = (u.rd64 (blkReg b 0x18) + 1) % 2 ^ 64 := by
  have hkept {k : Nat} (hk : k = blkReg b 0x18 ∨ k = blkReg b 0x18 + 4) : z.rd k = (u.scanCounted b).rd k := by
    rw [hframe.regs k (by simp [elReg, blkReg] at *; omega), scanRead_frame.regs k (by simp [elReg, blkReg] at *; omega)]
  rw [State.rd64, hkept (.inl rfl), hkept (.inr rfl), ← State.rd64, scanCounted_scans u b hb16]

end

/-! ### The statement -/

/-- Settles O34: each command by its equation; a scan of one electrode at rest is what its signal makes of the state in which it was read. -/
theorem touchScans : Obligations.TouchScans := by
  refine ⟨?enable, ?start, ?measured, ?words⟩
  case enable =>
    intro dt b n r v s u hu hb hclaim hstopped hn
    refine ⟨fun hcheck => ⟨_, (exec_tblkEnable ..).trans (execTblkEnable_passes hu hb hclaim hstopped hn hcheck),
        blkStarted_ctrl _ _ _ (hn ▸ and_lt_of_mask_lt _ (by decide)), blkStarted_running .., blkStarted_hopNext .., blkResult_result .., ?_, ?_,
        blkStarted_frame ..⟩,
      fun st hcheck hst => ⟨_, (exec_tblkEnable ..).trans (execTblkEnable_fails hu hb hclaim hstopped hn hcheck hst), blkRefused_disabled ..,
        blkResult_result .., (blkRefused_running ..).trans hstopped, blkRefused_frame ..⟩⟩
    · rw [blkStarted_blk, (blkArmed_blk u b n).1]
    · rw [blkStarted_blk, (blkArmed_blk u b n).2]
  case start =>
    intro dt b s u hu hb hrunning hup
    refine ⟨fun hidle hfirst henabled => ⟨_, (exec_scanStart ..).trans (execScanStart_idle hu hb hrunning hup hidle henabled), ?_, ?_, ?_,
        fun j hj => ?_, scanBegun_frame hfirst⟩,
      fun hhop => ⟨_, (exec_scanStart ..).trans (execScanStart_hopping hu hb hrunning hup hhop), ?_, (Frame.refl ..).sat (by simp) _⟩⟩
    · rw [State.scanBegun, mBlk_blk, rb_congr (scanTake_status hfirst)]
    · rw [State.scanBegun, mBlk_blk, scanTake_blk hfirst, State.blkHeld, mBlk_blk]
    · rw [State.scanBegun, mBlk_blk, scanTake_blk hfirst, State.blkHeld, mBlk_blk]
    · rw [scanBegun_elec]
      exact scanTake_elec hfirst (mem_blkEls.mpr ⟨j, hj, rfl⟩)
    · exact sat_rd ..
  case measured =>
    intro dt b e r ns base readings noise survey sg s u hu hb h16 hscan hfirst hnone hsensed hbased hstate _ _ hr hpos hrange hbase hsg hthresh hconf
    have hb16 : b < 16 := hb.trans_le h16
    have hsingle : SingleScan u b e r := ⟨hb16, hfirst, hnone, hsensed, hbased, hstate, hpos, hrange⟩
    obtain ⟨he, -⟩ := mem_sensed hsensed
    obtain ⟨n, hn⟩ : ∃ n, n = noise.getD (e % 32) 0 := ⟨_, rfl⟩
    obtain ⟨hctrl, hstart, hover⟩ := scanRead_blk (u := u) (b := b) (e := e) (r := r) (n := n)
    have hread (off : Nat) (hoff : off = 0x10 ∨ off = 0x18) := scanRead_rd (r := r) (n := n) (u := u) hb16 he hoff
    have hidle : (u.scanRead b e r n).elState e = 0 := (rf_congr (hread _ (.inr rfl)) 31 29).trans hstate
    have hsignal : elSignal (tbCharge ((u.scanRead b e r n).blk b).ctrl) ((u.scanRead b e r n).rd (elReg e 0x10)) r = sg := by
      rw [hctrl, hread _ (.inl rfl), ← hbase, hsg]
    refine ⟨fun habove hcount => ?_, fun hbelow habove => ?_⟩
    · have hz := elRest_touches (b := b) (r := r) hidle (by rwa [scanRead_elec]) (by rwa [hsignal, scanRead_elec]) (by rwa [hctrl, scanRead_elec])
      have hframe := elTouches_frame (u.scanRead b e r n) b e (((u.scanRead b e r n).elec e).up + 1) (ks := [elReg e 0x10, elReg e 0x18]) (by simp)
      refine ⟨_, (exec_scanMeasureEnd ..).trans (execScanMeasureEnd_single hsingle hr hn hz hframe
        (elTouches_zones ..) hu hb hscan), ?_, ?_, ?_, ?_, ?_, ?_⟩
      · exact (rf_congr (recValue_rd ..) 31 29).trans (elTouches_state ..)
      · rw [recValue_rd, (elTouches_frame _ b e _ (List.mem_singleton_self _)).regs _ (by simp [elReg]), hread _ (.inl rfl), hbase]
      · rw [recValue_rd, scanEnded_raw hframe (by omega)]
      · rw [elec_congr (recValue_panel ..), elTouches_touchAt, hstart]
      · rw [blk_congr (recValue_panel ..), elTouches_blk, hover]
      · rw [State.rd64, recValue_rd, recValue_rd, ← State.rd64, scanEnded_scans hframe hb16]
    · have hz := elRest_tracks hidle ((rb_congr (hread _ (.inr rfl)) 28).trans hconf) (by rwa [hsignal, scanRead_elec]) (by rwa [hsignal, scanRead_elec])
      have hframe := elTracks_frame (u.scanRead b e r n) b e r (ks := [elReg e 0x10, elReg e 0x18]) (by simp)
      refine ⟨_, (exec_scanMeasureEnd ..).trans (execScanMeasureEnd_single hsingle hr hn hz hframe
        (elTracks_zones ..) hu hb hscan), ?_, ?_, ?_, ?_⟩
      · refine (rf_congr (recValue_rd ..) 31 29).trans (Eq.trans (rf_congr ?_ 31 29) hidle)
        exact (elTracks_frame _ b e r (List.mem_singleton_self _)).regs _ (by simp [elReg])
      · rw [recValue_rd, elTracks_base, hread _ (.inl rfl), hbase, hctrl]
      · rw [recValue_rd, scanEnded_raw hframe (by omega)]
      · rw [blk_congr (recValue_panel ..), elTracks_blk, hover]
  case words =>
    intro dt e r v s u hu he hclaim
    have hlow (w : Nat) : bits w 15 0 < 2 ^ 16 := Nat.mod_lt _ (by decide)
    obtain ⟨htouch, hrelease⟩ := halves_fields (hlow v.toNat) ((min_le_right (bits v.toNat 31 16) _).trans_lt (hlow v.toNat))
    refine ⟨⟨_, (exec_telThreshWrite ..).trans (execTelThreshWrite_eq hu he hclaim), ?_, ?_, (Frame.refl ..).wr (by simp) _⟩, fun hfree => ?_,
      fun hzone howner => ?_⟩
    · rw [rf_wr_same, htouch]
    · rw [rf_wr_same, hrelease]
    · by_cases howner : bits v.toNat 15 0 = u.rf (elReg e 0) 15 0
      · refine ⟨_, (exec_telCtrlWrite ..).trans (execTelCtrlWrite_sameOwner hu he hclaim howner), ?_, rb_wb_same _ _ _ (by decide),
          (Frame.refl ..).wb (by simp) ..⟩
        rw [rf_wb_ne _ _ _ (by decide) (by decide), howner]
      · have hexec := execTelCtrlWrite_newOwner hu he hclaim howner
        rw [hfree, if_neg Bool.false_ne_true] at hexec
        refine ⟨_, (exec_telCtrlWrite ..).trans hexec, ?_, ?_, ((Frame.refl ..).wb (by simp) ..).wf (by simp) ..⟩
        · rw [rf_wf_same _ _ _ (by decide) (by decide), Nat.mod_eq_of_lt (hlow _)]
        · rw [rb_wf_ne _ _ _ (by decide) (by decide) (by decide), rb_wb_same _ _ _ (by decide)]
    · have hexec := execTelCtrlWrite_newOwner hu he hclaim howner
      rw [if_pos hzone] at hexec
      have happart : elReg e 0 ≠ 0x03800008 := by unfold elReg; omega
      refine ⟨_, (exec_telCtrlWrite ..).trans hexec, ?_, ?_, rf_wf_same _ _ _ (by decide) (by decide),
        ((Frame.refl ..).wb (by simp) ..).wf (by simp) ..⟩
      · exact (rf_congr (State.rd_wr_ne _ happart) ..).trans (rf_wb_ne _ _ _ (by decide) (by decide))
      · exact (rb_congr (State.rd_wr_ne _ happart) _).trans (rb_wb_same _ _ _ (by decide))

end Sys2Proof.Machine
end

section
/-!
PROOFS. Touch zones and reflex bindings made, the wake scanner, highlight pulses and interpolation (R426 to R428, R431, R461, R462, R464).
-/
namespace Sys2Proof.Machine

theorem exec_createTouchZone (dt w : Nat) (ext : Option Bytes) (s : State) :
    exec (.createTouchZone dt w ext) s = execCreateTouchZone dt w ext s := rfl
theorem exec_createReflexBinding (dt w : Nat) (ext : Option Bytes) (s : State) :
    exec (.createReflexBinding dt w ext) s = execCreateReflexBinding dt w ext s := rfl
theorem exec_wakeScan (dt : Nat) (readings : List Nat) (s : State) : exec (.wakeScan dt readings) s = execWakeScan dt readings s := rfl
theorem exec_hlPulseEnd (dt i : Nat) (s : State) : exec (.hlPulseEnd dt i) s = execHlPulseEnd dt i s := rfl

/-! ### CREATE of a zone -/

/-- The fewest electrodes of a zone of a type (R426). -/
def zLowest (ty : Nat) : Nat := match ty with | 0 => 1 | 1 => 2 | _ => 3

/-- The state in which an electrode shows that it stands in a zone (R434). -/
def State.elZoned (s : State) (i e : Nat) : State := (s.wb (elReg e 0x18) 26 true).wf (elReg e 0x18) 17 0 i

/-- The state with a zone made of a parameter block, and shown by its electrodes (R426, R427). -/
def State.zoneMade (s : State) (i p : Nat) : State :=
  (zEls p).foldl (fun s e => s.elZoned i e) (s.mPanel fun q => { q with zones := tset {} q.zones i { params := p } })

/-- A parameter block of a zone in which no field is out of range and no electrode stands twice (R426, R427). -/
structure ZoneBlock (p : Nat) : Prop where
  distinct : (zEls p).Nodup
  type : zoneType p ≤ 2
  enough : zLowest (zoneType p) ≤ zCount p
  most : zCount p ≤ 16
  rsv : bits p 39 11 = 0
  rsvBit : bit p 5 = false
  step : zoneType p ≠ 1 → zStep p = 0
  detents : zoneType p ≠ 2 → zDetents p = 0
  rest : ∀ k, k < 16 → zCount p ≤ k → zEl p k = 0

theorem execCreateTouchZone_ok {dt w i p : Nat} {e : CtlEntry} {b : Bytes} {s u : State} (hu : u = s.tick dt)
    (hwait : u.ctlWaits w 1 kZone = some e) (hlen : e.paramLen = 40) (hb : b.length = 40) (hok : u.hostOk w = true) (hp : p = leNat b)
    (hels : ∀ x ∈ zEls p, x < u.row.electrodes ∧ u.elOwner x = w ∧ u.rb (elReg x 0x18) 26 = false ∧ x / 32 = zEl p 0 / 32)
    (hblock : ZoneBlock p) (hpick : u.pickIndex w kZone = some i) :
    execCreateTouchZone dt w (some b) s = .next ((u.zoneMade i p).createDone w e kZone i) := by
  have hpresent : ((zEls p).filter fun x => decide (x < u.row.electrodes)) = zEls p :=
    List.filter_eq_self.mpr fun x hx => decide_eq_true (hels x hx).1
  simp only [execCreateTouchZone, ← hu, hwait, hlen, ne_eq, not_true_eq_false, if_false, params_host hok e (hb.trans hlen.symm), ← hp, hpresent, hpick,
    Option.isNone_some]
  split
  · rfl
  · next hfails =>
    refine absurd (byR19_ok fun c hc => ?_) hfails
    simp only [List.mem_cons, List.not_mem_nil, or_false] at hc
    obtain rfl | rfl | rfl | rfl | rfl := hc
    · exact List.any_eq_false.mpr fun x hx => by simp [(hels x hx).2.1]
    · exact List.any_eq_false.mpr fun x hx => by simp [(hels x hx).2.2.1]
    · obtain ⟨hdistinct, htype, henough, hmost, hrsv, hrsvBit, hstep, hdetents, hrest⟩ := hblock
      have honce (x : Nat) : (zEls p).count x ≤ 1 := List.nodup_iff_count_le_one.mp hdistinct x
      have hthree : zoneType p ≠ 3 := by omega
      simp only [hthree, hmost, hrsv, hrsvBit, honce, bne_self_eq_false, Bool.or_false, Bool.or_eq_false_iff, beq_eq_false_iff_ne, ne_eq,
        not_false_eq_true, decide_eq_false_iff_not, not_lt, true_and, and_true, Bool.and_eq_false_imp, bne_iff_ne, bne_eq_false_iff_eq,
        List.any_eq_false, List.mem_range, Bool.and_eq_true, decide_eq_true_eq, not_and, Decidable.not_not, implies_true]
      exact ⟨⟨⟨henough, hstep⟩, hdetents⟩, hrest⟩
    · exact List.any_eq_false.mpr fun x hx => by simp [(hels x hx).2.2.2]
    · rfl

section
variable (s : State) (i e p : Nat)

theorem elZoned_shows (hi : i < 2 ^ 18) : (s.elZoned i e).rb (elReg e 0x18) 26 = true ∧ (s.elZoned i e).rf (elReg e 0x18) 17 0 = i := by
  constructor
  · rw [State.elZoned, rb_wf_ne _ _ _ (by decide) (by decide) (by decide), rb_wb_same _ _ _ (by decide)]
  · rw [State.elZoned, rf_wf_same _ _ _ (by decide) (by decide), Nat.mod_eq_of_lt hi]

theorem elZoned_rd_ne {k : Nat} (hk : k ≠ elReg e 0x18) : (s.elZoned i e).rd k = s.rd k := (State.rd_wr_ne _ hk).trans (State.rd_wr_ne _ hk)

theorem zoneMade_frame {ps : List Part} {ks : List Nat} (hp : Part.panel ∈ ps) (hks : ∀ x ∈ zEls p, elReg x 0x18 ∈ ks) :
    Frame ps ks s (s.zoneMade i p) :=
  Frame.foldl (fun _ x hx h => (h.wb (hks x hx) ..).wf (hks x hx) ..) ((Frame.refl ..).mPanel hp _)

theorem zoneMade_pods : (s.zoneMade i p).pods = s.pods :=
  (zoneMade_frame s i p (ps := [.panel]) (ks := (zEls p).map fun x => elReg x 0x18) (by simp) fun _ hx => List.mem_map_of_mem hx).parts .pods (by simp)

theorem zoneMade_zone : (s.zoneMade i p).zone i = { params := p } := by
  have hpanel : (s.zoneMade i p).panel = _ :=
    foldl_keeps State.panel (fun t x => by simp only [State.elZoned, State.wf_frame, State.wb_frame]) (zEls p) _
  rw [State.zone, hpanel, State.mPanel_panel, tget_tset_same]

/-- Every electrode of the zone shows it (R434). -/
theorem zoneMade_shows (hi : i < 2 ^ 18) : ∀ x ∈ zEls p, (s.zoneMade i p).rb (elReg x 0x18) 26 = true ∧ (s.zoneMade i p).rf (elReg x 0x18) 17 0 = i := by
  refine foldl_each (P := fun x (t : State) => t.rb (elReg x 0x18) 26 = true ∧ t.rf (elReg x 0x18) 17 0 = i)
    (fun t x => elZoned_shows t i x hi) (fun t x y hxy h => ?_) (zEls p) _
  have hkept := elZoned_rd_ne t i x (k := elReg y 0x18) (by unfold elReg; omega)
  rwa [rb_congr hkept, rf_congr hkept]

end

theorem takeIndex_panel (s : State) (w kind i : Nat) (ph : ChanPhase) : (s.takeIndex w kind i ph).panel = s.panel :=
  (takeIndex_frame (Frame.refl s [.pods] [grantReg w kind 8]) (by simp) (fun _ => by simp) i ph).parts .panel (by simp)

/-- The grants of the VIs lie below the electrodes (R433, R507). -/
theorem elReg_ne_grantReg {w : Nat} (hw : okWin w = true) (kind : Nat) (hkind : kind < 32) (x off : Nat) :
    w ≠ pfWin → elReg x off ≠ grantReg w kind 8 := by
  intro hne
  have hw' : w < 256 ∨ w = 0xFFFF := by simpa [okWin] using hw
  unfold pfWin at hne
  unfold elReg grantReg
  omega

/-! ### CREATE of a reflex binding -/

/-- A parameter block of a binding that has a player to trigger and no other action, with no field out of range (R461, R462). -/
structure ChimeBlock (p : Nat) : Prop where
  trigger : rxTrigger p ≤ 5
  rsvTop : bits p 191 160 = 0
  rsvMode : bits p 143 140 = 0
  rsvBit : bit p 137 = false
  rsvZone : bits p 63 40 = 0
  rsvTrigger : bits p 37 36 = 0
  hslot : rxHslot p = 0
  layer : rxLayer p = 0
  hlMode : rxHlMode p = 0
  hlMs : rxHlMs p = 0
  playerEn : rxPlayerEn p = true
  player : rxPlayer p ≤ 63

/-- The state with a binding made of a parameter block, and no fire of it counted (R65, R461). -/
def State.bindMade (s : State) (i p : Nat) : State :=
  s.mPanel fun q => { q with binds := tset 0 q.binds i p, fires := tset (0, 0) q.fires i (0, 0) }

theorem execCreateReflexBinding_ok {dt w i p z : Nat} {e : CtlEntry} {b : Bytes} {s u : State} (hu : u = s.tick dt)
    (hwait : u.ctlWaits w 1 kReflex = some e) (hlen : e.paramLen = 24) (hb : b.length = 24) (hok : u.hostOk w = true) (hp : p = leNat b)
    (hzone : u.handleCheck w kZone (rxZone p) = .ok z) (hraises : canRaise (zoneType (u.zone z).params) (rxTrigger p) = true) (hblock : ChimeBlock p)
    (hgranted : w = pfWin ∨ bit (u.rd64 (0x03A81000 + w * 8)) (rxPlayer p) = true) (hroom : (u.bindsOf z).length < 8)
    (hpick : u.pickIndex w kReflex = some i) :
    execCreateReflexBinding dt w (some b) s = .next ((u.bindMade i p).createDone w e kReflex i) := by
  obtain ⟨htrigger, hrsvTop, hrsvMode, hrsvBit, hrsvZone, hrsvTrigger, hhslot, hlayer, hhlMode, hhlMs, hplayerEn, hplayer⟩ := hblock
  rw [State.zone] at hraises
  simp only [execCreateReflexBinding, ← hu, hwait, hlen, ne_eq, not_true_eq_false, if_false, params_host hok e (hb.trans hlen.symm), ← hp, hpick,
    Option.isNone_some, hzone, hraises, hhslot, hlayer, if_true, List.append_nil, List.any_cons, List.any_nil, Bool.or_false]
  split
  · rfl
  · next hfails =>
    refine absurd (byR19_ok fun c hc => ?_) hfails
    simp only [List.mem_cons, List.not_mem_nil, or_false] at hc
    obtain rfl | rfl | rfl | rfl | rfl := hc
    · obtain rfl | hbit := hgranted
      · rfl
      · simp [hbit, hplayer]
    · rfl
    · rfl
    · simp [hrsvTop, hrsvMode, hrsvBit, hrsvZone, hrsvTrigger, htrigger, hplayer, hplayerEn, hhlMode, hhlMs]
    · simp [hroom]

section
variable (s : State) (i p : Nat)

theorem bindMade_pods : (s.bindMade i p).pods = s.pods := by simp only [State.bindMade, State.mPanel_frame]

theorem bindMade_bind : tget 0 (s.bindMade i p).panel.binds i = p ∧ tget (0, 0) (s.bindMade i p).panel.fires i = (0, 0) := by
  rw [State.bindMade, State.mPanel_panel]
  exact ⟨tget_tset_same .., tget_tset_same (d := (0, 0)) s.panel.fires i (0, 0)⟩

end

/-! ### The wake scanner -/

/-- The sum of the first readings, then the baseline, that the wake scanner holds after reading `r`, its `n` scans before (R431). -/
def wakeBase (n b r : Nat) : Nat := if n < 3 then b + r else if n = 3 then (b + r) * 64 else trackBase b r 6

/-- The touching scans in a row of electrode `e` after reading `r` (R431). -/
def State.wakeCount (s : State) (n : Nat) (th : Int) (e r : Nat) : Nat :=
  if 4 ≤ n && decide (th ≤ elSignal true (tget 0 s.panel.wake.base e) r) then tget 0 s.panel.wake.count e + 1 else 0

/-- The state in which the wake scanner has read electrode `e`. -/
def State.wakeRead (readings : List Nat) (n : Nat) (th : Int) (s : State) (e : Nat) : State :=
  s.mPanel fun q => { q with wake := { q.wake with
    base := tset 0 q.wake.base e (wakeBase n (tget 0 s.panel.wake.base e) (readings.getD e 0)),
    count := tset 0 q.wake.count e (s.wakeCount n th e (readings.getD e 0)) } }

/-- One electrode at a wake scan: the second touch in a row is reported and wakes the device (R431). -/
def State.wakeStep (readings : List Nat) (n : Nat) (th : Int) (s : State) (e : Nat) : State :=
  if s.wakeCount n th e (readings.getD e 0) = 2 then (s.wakeRead readings n th e).wakeTouch e else s.wakeRead readings n th e

theorem execWakeScan_armed {dt : Nat} {readings : List Nat} {s u : State} (hu : u = s.tick dt) (hrow : u.row.electrodes ≠ 0)
    (harmed : u.rb 0x03800010 31 = true) (hoff : u.domainState 21 = 0) :
    execWakeScan dt readings s = .next ((((List.range 16).filter fun e => u.rb 0x03800010 e).foldl
      (State.wakeStep readings u.panel.wake.scans (u.rf 0x03800014 15 0)) u).mPanel fun q =>
        { q with wake := { q.wake with scans := u.panel.wake.scans + 1 } }) := by
  simp only [execWakeScan, ← hu, hrow, harmed, hoff, not_true_eq_false, ne_eq, or_self, if_false]
  rfl

section
variable (readings : List Nat) (n : Nat) (th : Int) (s : State) (e : Nat)

/-- Without a touch before, a scan finds no second one. -/
theorem wakeStep_of_untouched (h : tget 0 s.panel.wake.count e ≠ 1) : s.wakeStep readings n th e = s.wakeRead readings n th e := by
  refine if_neg ?_
  unfold State.wakeCount
  split <;> omega

theorem wakeRead_wake {x : Nat} (h : x ≠ e) : tget 0 (s.wakeRead readings n th e).panel.wake.base x = tget 0 s.panel.wake.base x
    ∧ tget 0 (s.wakeRead readings n th e).panel.wake.count x = tget 0 s.panel.wake.count x := by
  rw [State.wakeRead, State.mPanel_panel]
  exact ⟨tget_tset_ne _ _ h, tget_tset_ne _ _ h⟩

theorem wakeRead_base : tget 0 (s.wakeRead readings n th e).panel.wake.base e = wakeBase n (tget 0 s.panel.wake.base e) (readings.getD e 0) := by
  rw [State.wakeRead, State.mPanel_panel]
  exact tget_tset_same ..

theorem wakeSteps_of_untouched {l : List Nat} {s : State} (hl : l.Nodup) (h : ∀ e ∈ l, tget 0 s.panel.wake.count e ≠ 1) :
    l.foldl (State.wakeStep readings n th) s = l.foldl (State.wakeRead readings n th) s := by
  induction l generalizing s with
  | nil => rfl
  | cons e l ih =>
    obtain ⟨hnew, hl⟩ := List.nodup_cons.mp hl
    rw [List.foldl_cons, List.foldl_cons, wakeStep_of_untouched _ _ _ _ _ (h e List.mem_cons_self)]
    refine ih hl fun x hx => ?_
    rw [(wakeRead_wake readings n th s e (ne_of_mem_of_not_mem hx hnew)).2]
    exact h x (List.mem_cons_of_mem _ hx)

theorem wakeReads_frame (l : List Nat) : Frame [.panel] [] s (l.foldl (State.wakeRead readings n th) s) :=
  Frame.foldl (fun _ _ _ h => h.mPanel (by simp) _) (Frame.refl ..)

theorem wakeReads_base {l : List Nat} {s : State} (hl : l.Nodup) (x : Nat) : tget 0 (l.foldl (State.wakeRead readings n th) s).panel.wake.base x
    = if x ∈ l then wakeBase n (tget 0 s.panel.wake.base x) (readings.getD x 0) else tget 0 s.panel.wake.base x := by
  induction l generalizing s with
  | nil => rfl
  | cons e l ih =>
    obtain ⟨hnew, hl⟩ := List.nodup_cons.mp hl
    rw [List.foldl_cons, ih hl]
    by_cases hxe : x = e
    · rw [hxe, if_neg hnew, if_pos List.mem_cons_self, wakeRead_base]
    · rw [(wakeRead_wake readings n th s e hxe).1]
      simp only [List.mem_cons, hxe, false_or]

end

/-! ### Highlight pulses -/

/-- The state in which the pulse of a layer has ended (R464). -/
def State.pulseEnded (s : State) (i : Nat) : State := (s.mPanel fun p => { p with pulses := tset none p.pulses i none }).setHighlight i false

theorem execHlPulseEnd_due {dt i x : Nat} {s u : State} (hu : u = s.tick dt) (hpulse : tget none u.panel.pulses i = some x) (hdue : x ≤ u.now) :
    execHlPulseEnd dt i s = .next (u.pulseEnded i) := by
  simp only [execHlPulseEnd, ← hu, hpulse, if_neg (Nat.not_lt.mpr hdue)]
  rfl

theorem pulseEnded_pulses (s : State) (i : Nat) : tget none (s.pulseEnded i).panel.pulses i = none := by
  simp only [State.pulseEnded, State.setHighlight, State.wb_frame, State.mPanel_panel, tget_tset_same]

/-! ### Interpolation -/

/-- Midway between two equal signals (R428): 32767.5 is rounded up. -/
theorem sliderPos_equal {k : Nat} (hk : 0 < k) : sliderPos [k, k] = some 32768 := by
  have hmiddle : (131070 * k + (k + k)) / (2 * (k + k)) = 32768 := by
    rw [show 131070 * k + (k + k) = 32768 * (2 * (k + k)) by ring]
    exact Nat.mul_div_cancel _ (by omega)
  simp [sliderPos, largest, List.range_succ, hk.ne', hmiddle]

/-- At the centre of electrode 1 of 3 (R428): a third of a turn, 65,536 / 3 + 1 / 2 rounded down. -/
theorem wheelAngle_single {k : Nat} (hk : 0 < k) : wheelAngle [0, k, 0] = some 21845 := by
  have hthird : (131072 * (k : Int) + 3 * k) / (6 * k) = 21845 := by
    rw [← Int.add_mul, Int.mul_ediv_mul_of_pos_left _ _ (by omega)]
    rfl
  simp [wheelAngle, largest, List.range_succ, hk, hk.ne', hthird]

/-! ### The statement -/

/-- Settles O35: each command by its equation; the electrodes of a zone, and those of a wake scan, are a fold each. -/
theorem touchZonesAndReflexes : Obligations.TouchZonesAndReflexes := by
  refine ⟨?zone, ?binding, ?wake, ?pulse, fun k => sliderPos_equal, rfl, fun k => wheelAngle_single⟩
  case zone =>
    intro dt w i p e b s u hu hw hlen hb hok hp hwait hels hdistinct htype henough hmost hrsv hrsvBit hstep hdetents hrest hpick hi
    have hexec := execCreateTouchZone_ok hu hwait hlen hb hok hp hels
      ⟨hdistinct, htype, henough, hmost, hrsv, hrsvBit, hstep, hdetents, hrest⟩ hpick
    rw [createDone_free e (zoneMade_pods ..) hpick] at hexec
    have hframe := zoneMade_frame u i p (ps := [.panel, .pods]) (ks := grantReg w kZone 8 :: (zEls p).map fun x => elReg x 0x18) (by simp)
      fun x hx => List.mem_cons_of_mem _ (List.mem_map_of_mem hx)
    refine ⟨_, (exec_createTouchZone ..).trans hexec, takeIndex_chan .., ?_, fun x hx => ?_,
      takeIndex_frame hframe (by simp) (fun _ => List.mem_cons_self) i .live⟩
    · rw [State.zone, takeIndex_panel]
      exact zoneMade_zone u i p
    · have hkept : ((u.zoneMade i p).takeIndex w kZone i .live).rd (elReg x 0x18) = (u.zoneMade i p).rd (elReg x 0x18) :=
        takeIndex_rd (elReg_ne_grantReg hw kZone (by decide) x 0x18) i .live
      rw [rb_congr hkept, rf_congr hkept]
      exact zoneMade_shows u i p hi x hx
  case binding =>
    intro dt w i p z e b s u hu _ hlen hb hok hp hwait hzone hraises htrigger hrsvTop hrsvMode hrsvBit hrsvZone hrsvTrigger hhslot hlayer hhlMode hhlMs
      hplayerEn hplayer hgranted hroom hpick
    have hexec := execCreateReflexBinding_ok hu hwait hlen hb hok hp hzone hraises
      ⟨htrigger, hrsvTop, hrsvMode, hrsvBit, hrsvZone, hrsvTrigger, hhslot, hlayer, hhlMode, hhlMs, hplayerEn, hplayer⟩ hgranted hroom hpick
    rw [createDone_free e (bindMade_pods ..) hpick] at hexec
    obtain ⟨hbind, hfires⟩ := bindMade_bind u i p
    refine ⟨_, (exec_createReflexBinding ..).trans hexec, takeIndex_chan .., ?_, ?_,
      takeIndex_frame ((Frame.refl ..).mPanel (by simp) _) (by simp) (fun _ => by simp) i .live⟩
    · rw [takeIndex_panel, hbind]
    · rw [takeIndex_panel, hfires]
  case wake =>
    intro dt readings s u hu hrow harmed hoff hcount
    have hdistinct : ((List.range 16).filter fun e => u.rb 0x03800010 e).Nodup := List.nodup_range.filter _
    have hexec := execWakeScan_armed (readings := readings) hu hrow harmed hoff
    rw [wakeSteps_of_untouched _ _ _ hdistinct fun e _ => hcount e] at hexec
    refine ⟨_, (exec_wakeScan ..).trans hexec, rfl, (wakeReads_frame ..).mPanel (by simp) _, fun e he hmask hfew => ?_⟩
    have hin : e ∈ (List.range 16).filter fun e => u.rb 0x03800010 e := List.mem_filter.mpr ⟨List.mem_range.mpr he, hmask⟩
    rw [State.mPanel_panel, wakeReads_base _ _ _ hdistinct, if_pos hin, wakeBase, if_pos hfew]
  case pulse =>
    intro dt i x s u hu hpulse hdue
    exact ⟨_, (exec_hlPulseEnd ..).trans (execHlPulseEnd_due hu hpulse hdue), rb_wb_same _ _ _ (by decide), pulseEnded_pulses ..,
      ((Frame.refl ..).mPanel (by simp) _).wb (by simp) ..⟩

end Sys2Proof.Machine
end

section
/-!
PROOFS. Recorder slots: what applying the staged values, a clear and a change of the configuration leave, and the bin of a value (R663 to R674).
-/
namespace Sys2Proof.Machine

theorem exec_recApply (dt n : Nat) (s : State) : exec (.recApply dt n) s = execRecApply dt n s := rfl
theorem exec_recClear (dt : Nat) (r : Req) (view : Bool) (v : Word) (s : State) : exec (.recClear dt r view v) s = execRecClear dt r view v s := rfl
theorem exec_recSlotCfgWrite (dt n v : Nat) (r : Req) (s : State) : exec (.recSlotCfgWrite dt r n v) s = execRecSlotCfgWrite dt r n v s := rfl

theorem recSlot_congr {s t : State} (h : t.recs = s.recs) (n : Nat) : t.recSlot n = s.recSlot n := by rw [State.recSlot, h, State.recSlot]

@[simp] theorem mSlot_recSlot (s : State) (n k : Nat) (f : RecSlot → RecSlot) :
    (s.mSlot n f).recSlot k = if k = n then f (s.recSlot n) else s.recSlot k := tget_tmod ..

theorem Frame.mSlot {s t : State} {ps : List Part} {ks : List Nat} (h : Frame ps ks s t) (hp : Part.recs ∈ ps) (n : Nat) (f : RecSlot → RecSlot) :
    Frame ps ks s (t.mSlot n f) := h.mRecs hp _

@[simp] theorem emitPf_recSlot (s : State) (kind : Nat) (st : Status) (detail n : Nat) : (s.emitPf kind st detail).recSlot n = s.recSlot n :=
  recSlot_congr (by simp) n

/-! ### Applying what is staged -/

/-- What a slot holds with its staged values taken, before it is marked applied (R666). -/
def State.recTaken (s : State) (n : Nat) : RecSlot :=
  (s.recSlot n).staged.foldl (fun a v => recTake (s.rd64 (recCfg n)) a v.1 v.2) (s.recSlot n)

/-- The values taken saturate a slot of which no saturation was reported (R667). -/
def State.recTells (s : State) (n : Nat) : Bool :=
  !(s.recSlot n).told && ((s.recTaken n).satBins != 0 || (s.recTaken n).countSat || (s.recTaken n).sumSat)

/-- The state with a slot's staged values applied in this millisecond (R667, R668). -/
def State.recApplied (s : State) (n : Nat) : State :=
  s.mSlot n fun _ => { s.recTaken n with
    staged := [], applied := s.now / 1000000 + 1, seq := ((s.recTaken n).seq + 2) % 2 ^ 32, told := (s.recSlot n).told || s.recTells n }

/-- Taking a value changes neither the sequence nor the staged values of a slot. -/
theorem recTake_seq (cfg : Nat) (x : RecSlot) (v : Int) (at_ : Nat) : (recTake cfg x v at_).seq = x.seq := rfl

theorem recTaken_seq (s : State) (n : Nat) : (s.recTaken n).seq = (s.recSlot n).seq := foldl_keeps RecSlot.seq (fun _ _ => recTake_seq ..) _ _

theorem recApplied_recSlot (s : State) (n : Nat) : (s.recApplied n).recSlot n = { s.recTaken n with
    staged := [], applied := s.now / 1000000 + 1, seq := ((s.recTaken n).seq + 2) % 2 ^ 32, told := (s.recSlot n).told || s.recTells n } := by
  simp [State.recApplied]

theorem recApplied_recSlot_ne (s : State) {n k : Nat} (h : k ≠ n) : (s.recApplied n).recSlot k = s.recSlot k := by
  simp [State.recApplied, h]

theorem recApplied_frame (s : State) (n : Nat) : Frame [.recs] [] s (s.recApplied n) := (Frame.refl ..).mSlot (by simp) ..

section
variable {dt n : Nat} {s u : State} (hu : u = s.tick dt)
include hu

theorem recApply_idle (h : (u.recSlot n).staged = [] ∨ (u.recSlot n).applied = u.now / 1000000 + 1) : exec (.recApply dt n) s = .next u := by
  rw [← List.isEmpty_iff] at h
  simp only [exec_recApply, execRecApply, ← hu, h, if_true]

theorem recApply_applies (hstaged : (u.recSlot n).staged ≠ []) (hnew : (u.recSlot n).applied ≠ u.now / 1000000 + 1) :
    exec (.recApply dt n) s = .next (if u.recTells n then (u.recApplied n).emitPf 0xB0 .throttled n else u.recApplied n) := by
  have hgo : ¬ ((u.recSlot n).staged.isEmpty = true ∨ (u.recSlot n).applied = u.now / 1000000 + 1) := by
    simp [hstaged, hnew]
  simp only [exec_recApply, execRecApply, ← hu, if_neg hgo]
  rfl

end

/-! ### The bin of a value -/

theorem recBin_lt (cfg : Nat) (v : Int) : recBin cfg v < 64 := by
  simp only [recBin, clampI]
  split <;> (try split) <;> omega

theorem recTake_bins (cfg : Nat) (x : RecSlot) (v : Int) (at_ j : Nat) :
    tget 0 (recTake cfg x v at_).bins j = if j = recBin cfg v then min (tget 0 x.bins j + 1) (2 ^ 32 - 1) else tget 0 x.bins j := by
  simp only [recTake, tget_tset, satAdd]
  split <;> simp_all

/-- A division with its remainder in range has the quotient it names. -/
theorem ediv_eq_of_bounds {a d n : Int} (hlo : d * n ≤ a) (hhi : a < (d + 1) * n) (hn : 0 < n) : a / n = d :=
  le_antisymm (Int.lt_add_one_iff.mp (Int.ediv_lt_of_lt_mul hn hhi)) ((Int.le_ediv_iff_mul_le hn).mpr hlo)

theorem recBin_linear {cfg : Nat} {v d : Int} (hd : (v - sext 32 (bits cfg 63 32)) / ((2 ^ bits cfg 14 10 : Nat) : Int) = d)
    (hlog : bit cfg 15 = false) : (recBin cfg v : Int) = max 0 (min 63 d) := by
  simp only [recBin, hd, hlog, Bool.false_eq_true, if_false, clampI]
  split <;> (try split) <;> omega

theorem recBin_log_low {cfg : Nat} {v d : Int} (hd : (v - sext 32 (bits cfg 63 32)) / ((2 ^ bits cfg 14 10 : Nat) : Int) = d)
    (hlog : bit cfg 15 = true) (hlow : d ≤ 0) : recBin cfg v = 0 := by
  simp only [recBin, hd, hlog, if_true, if_pos hlow]

theorem recBin_log {cfg k : Nat} {v d : Int} (hd : (v - sext 32 (bits cfg 63 32)) / ((2 ^ bits cfg 14 10 : Nat) : Int) = d)
    (hlog : bit cfg 15 = true) (hpos : 0 < d) (hlo : (2 ^ k : Int) ≤ d) (hhi : d < (2 ^ (k + 1) : Int)) : recBin cfg v = min 63 (k + 1) := by
  obtain ⟨m, rfl⟩ := Int.eq_ofNat_of_zero_le hpos.le
  have hm : m ≠ 0 := by omega
  have hk : Nat.log2 m = k := (Nat.log2_eq_iff hm).mpr ⟨by exact_mod_cast hlo, by exact_mod_cast hhi⟩
  simp only [recBin, hd, hlog, if_true, if_neg (not_le.mpr hpos), Int.toNat_natCast, hk]

/-- Settles O60: the slot takes the one value staged, and d is the quotient of a division. -/
theorem valuesFallIntoBins : Obligations.ValuesFallIntoBins := by
  unfold Obligations.ValuesFallIntoBins
  intro dt n i k at_ cfg v d s u hu hstaged hnew hcfg _ _ hlo hhi hlinear hlogLow hlogHigh
  have hd : (v - sext 32 (bits cfg 63 32)) / ((2 ^ bits cfg 14 10 : Nat) : Int) = d :=
    ediv_eq_of_bounds (by exact_mod_cast hlo) (by exact_mod_cast hhi) (by positivity)
  have hi : i = recBin cfg v := by
    cases hlog : bit cfg 15 with
    | false => exact_mod_cast (hlinear hlog).trans (recBin_linear hd hlog).symm
    | true =>
      rcases le_or_gt d 0 with hlow | hpos
      · rw [hlogLow hlog hlow, recBin_log_low hd hlog hlow]
      · obtain ⟨hpow, hpow', hmin⟩ := hlogHigh hlog hpos
        rw [hmin, recBin_log hd hlog hpos hpow hpow']
  have hbins (j : Nat) : tget 0 ((u.recApplied n).recSlot n).bins j
      = if j = i then min (tget 0 (u.recSlot n).bins j + 1) (2 ^ 32 - 1) else tget 0 (u.recSlot n).bins j := by
    rw [recApplied_recSlot, hi, hcfg, ← recTake_bins _ _ _ at_]
    simp only [State.recTaken, hstaged, List.foldl_cons, List.foldl_nil]
  have hslot : ((if u.recTells n then (u.recApplied n).emitPf 0xB0 .throttled n else u.recApplied n).recSlot n) = (u.recApplied n).recSlot n := by
    split <;> simp
  refine ⟨_, recApply_applies hu (by simp [hstaged]) hnew, ?_, fun j hj => ?_⟩
  · rw [hslot, hbins, if_pos rfl]
  · rw [hslot, hbins, if_neg hj]

end Sys2Proof.Machine
end

section
/-!
PROOFS. Recorder slots cleared and configured, performance counters and samplers, and the statement (R670 to R687).
-/
namespace Sys2Proof.Machine

theorem exec_cntValueWrite (dt i v inc : Nat) (r : Req) (s : State) : exec (.cntValueWrite dt r i v inc) s = execCntValueWrite dt r i v inc s := rfl
theorem exec_counterWrap (dt i n : Nat) (s : State) : exec (.counterWrap dt i n) s = execCounterWrap dt i n s := rfl
theorem exec_smpEnable (dt m : Nat) (r : Req) (v : Word) (s : State) : exec (.smpEnable dt r m v) s = execSmpEnable dt r m v s := rfl
theorem exec_smpSeedWrite (dt m : Nat) (r : Req) (v : Word) (s : State) : exec (.smpSeedWrite dt r m v) s = execSmpSeedWrite dt r m v s := rfl
theorem exec_sampleRecord (dt m : Nat) (g : Tagged) (s : State) : exec (.sampleRecord dt m g) s = execSampleRecord dt m g s := rfl

/-! ### Clears -/

/-- A clear of a slot is reported: none was in the last millisecond (R671). -/
def State.clearTells (s : State) (n : Nat) : Bool := (s.recSlot n).clearTold = 0 || (s.recSlot n).clearTold - 1 + 1000000 ≤ s.now

/-- The state with a slot empty, and its clear counted under the clearer's name (R670). -/
def State.recEmptied (s : State) (n clearer : Nat) : State :=
  s.mSlot n fun t => { seq := (t.seq + 2) % 2 ^ 32, clears := satAdd 32 t.clears 1, clearAt := s.now, clearer := clearer, applied := t.applied,
                       clearTold := if s.clearTells n then s.now + 1 else t.clearTold }

theorem recClear_eq (s : State) (n clearer : Nat) : s.recClear n clearer
    = if s.clearTells n then (s.recEmptied n clearer).emitPf 0xB1 .ok (clearer * 2 ^ 16 + n) else s.recEmptied n clearer := rfl

section
variable (s : State) (n clearer : Nat)

theorem recEmptied_recSlot : (s.recEmptied n clearer).recSlot n =
    { seq := ((s.recSlot n).seq + 2) % 2 ^ 32, clears := satAdd 32 (s.recSlot n).clears 1, clearAt := s.now, clearer := clearer,
      applied := (s.recSlot n).applied, clearTold := if s.clearTells n then s.now + 1 else (s.recSlot n).clearTold } := by
  simp [State.recEmptied]

theorem recEmptied_recSlot_ne {k : Nat} (h : k ≠ n) : (s.recEmptied n clearer).recSlot k = s.recSlot k := by simp [State.recEmptied, h]

theorem recEmptied_frame : Frame [.recs] [] s (s.recEmptied n clearer) := (Frame.refl ..).mSlot (by simp) ..

theorem recClear_recSlot : (s.recClear n clearer).recSlot n = (s.recEmptied n clearer).recSlot n := by
  rw [recClear_eq]
  split <;> simp

theorem recClear_rd {k : Nat} (h : k < 0x07000000) (hvi : k ≠ viReg pfWin 0x14) : (s.recClear n clearer).rd k = s.rd k := by
  rw [recClear_eq]
  split
  · exact (emitPf_rd _ _ _ _ _ h hvi).trans (State.mRecs_rd ..)
  · exact State.mRecs_rd ..

end

section
variable {dt n : Nat} {r : Req} {s u : State} (hu : u = s.tick dt)
include hu

theorem recClear_ignored {view : Bool} {v : Word} (hbit : bit v.toNat 0 = false) : exec (.recClear dt r view v) s = .next u := by
  simp only [exec_recClear, execRecClear, ← hu, hbit, Bool.not_false, if_true]

/-- From either view the slot that the view names is cleared. -/
theorem recClear_clears {view : Bool} {v : Word} (hbit : bit v.toNat 0 = true) (hview : view = true → u.winDead (pathWin r.path) = false)
    (hpf : view = false → pathWin r.path = pfWin)
    (hn : n = if view then u.rf (win (pathWin r.path) + 0x80000) 7 0 else u.rf 0x03E0000C 7 0) :
    exec (.recClear dt r view v) s = .next (u.recClear n (u.recClearer r)) := by
  simp only [exec_recClear, execRecClear, ← hu, hbit, Bool.not_true, Bool.false_eq_true, if_false]
  cases view with
  | true => simp only [hview, Bool.false_eq_true, if_false, if_true, hn]
  | false => simp only [hpf, Bool.false_eq_true, if_false, if_true, hn]

variable {v : Nat} (hpath : pathWin r.path = pfWin)
include hpath

theorem recSlotCfgWrite_denied (hnormal : u.reqSecure r = false) :
    exec (.recSlotCfgWrite dt r n v) s = .next (u.wf 0x03E00004 22 16 Status.denied.code) := by
  simp only [exec_recSlotCfgWrite, execRecSlotCfgWrite, ← hu, hpath, hnormal, ne_eq, not_true_eq_false, if_false, Bool.not_false, if_true]

theorem recSlotCfgWrite_secure (hsecure : u.reqSecure r = true) : exec (.recSlotCfgWrite dt r n v) s
    = if u.rb 0x03E00004 0 ∨ u.rd64 (recCfg n) = v / 1024 * 1024 then .next u
      else .next ((u.wr64 (recCfg n) (v / 1024 * 1024)).recClear n (u.recClearer r)) := by
  simp only [exec_recSlotCfgWrite, execRecSlotCfgWrite, ← hu, hpath, hsecure, ne_eq, not_true_eq_false, if_false, Bool.not_true, Bool.false_eq_true]

end

theorem rd64_congr {s t : State} {k : Nat} (hlo : t.rd k = s.rd k) (hhi : t.rd (k + 4) = s.rd (k + 4)) : t.rd64 k = s.rd64 k := by
  rw [State.rd64, State.rd64, hlo, hhi]

/-! ### Counters -/

/-- The counter with a number added to it (R680). -/
def State.cntSum (s : State) (i n : Nat) : State := s.wr64 (cntReg i 0) ((s.rd64 (cntReg i 0) + n) % 2 ^ 64)

section
variable {s : State} {i n : Nat}

theorem cntAdd_below (h : s.rd64 (cntReg i 0) + n < 2 ^ 64) : s.cntAdd i n = s.cntSum i n := by simp only [State.cntAdd, if_pos h, State.cntSum]

theorem cntAdd_past (h : 2 ^ 64 ≤ s.rd64 (cntReg i 0) + n) : s.cntAdd i n
    = if (s.cntSum i n).rb (cntReg i 8) 29 then s.cntSum i n
      else if ((s.cntSum i n).raise (cntReg i 8) 29).rb (cntReg i 8) 31 then ((s.cntSum i n).raise (cntReg i 8) 29).emitPf 0xB2 .ok i
      else (s.cntSum i n).raise (cntReg i 8) 29 := by
  simp only [State.cntAdd, if_neg (Nat.not_lt.mpr h), State.cntSum]
  rfl

theorem cntSum_value : (s.cntSum i n).rd64 (cntReg i 0) = (s.rd64 (cntReg i 0) + n) % 2 ^ 64 := by rw [State.cntSum, rd64_wr64, Nat.mod_mod]

theorem cntSum_ctrl : (s.cntSum i n).rd (cntReg i 8) = s.rd (cntReg i 8) := by
  rw [State.cntSum, State.wr64, State.rd_wr_ne _ (by unfold cntReg; omega), State.rd_wr_ne _ (by unfold cntReg; omega)]

theorem Frame.cntSum {t : State} {ps : List Part} {ks : List Nat} (h : Frame ps ks s t) (hlo : cntReg i 0 ∈ ks) (hhi : cntReg i 4 ∈ ks) :
    Frame ps ks s (t.cntSum i n) := h.wr64 hlo (by simpa [cntReg] using hhi) _

/-- A counter that wraps is marked (R680). -/
def State.cntWrapped (s : State) (i n : Nat) : State := (s.cntSum i n).raise (cntReg i 8) 29

theorem cntWrapped_value : (s.cntWrapped i n).rd64 (cntReg i 0) = (s.rd64 (cntReg i 0) + n) % 2 ^ 64 := by
  rw [← cntSum_value]
  refine rd64_congr ?_ ?_ <;> exact (State.raise_rd ..).trans (State.rd_wr_ne _ (by unfold cntReg; omega))

theorem cntWrapped_rb (j : Nat) : (s.cntWrapped i n).rb (cntReg i 8) j = ((s.cntSum i n).wb (cntReg i 8) 29 true).rb (cntReg i 8) j := by
  rw [State.rb, State.cntWrapped, State.raise_rd, State.rb]

theorem cntWrapped_marked : (s.cntWrapped i n).rb (cntReg i 8) 29 = true := by
  rw [cntWrapped_rb, rb_wb_same _ _ _ (by decide)]

theorem cntWrapped_report : (s.cntWrapped i n).rb (cntReg i 8) 31 = s.rb (cntReg i 8) 31 := by
  rw [cntWrapped_rb, rb_wb_ne _ _ _ (by decide) (by decide), rb_congr cntSum_ctrl]

theorem cntAdd_wraps (h : 2 ^ 64 ≤ s.rd64 (cntReg i 0) + n) (hmark : s.rb (cntReg i 8) 29 = false) :
    s.cntAdd i n = if s.rb (cntReg i 8) 31 then (s.cntWrapped i n).emitPf 0xB2 .ok i else s.cntWrapped i n := by
  rw [cntAdd_past h, rb_congr cntSum_ctrl, hmark, ← State.cntWrapped, cntWrapped_report]
  rfl

theorem emitPf_cnt (s : State) (kind : Nat) (st : Status) (detail off : Nat) (hi : i < 4096) (hoff : off < 16) :
    (s.emitPf kind st detail).rd (cntReg i off) = s.rd (cntReg i off) :=
  emitPf_rd _ _ _ _ _ (by unfold cntReg; omega) (by unfold cntReg viReg pfWin; omega)

/-- Past its end a counter holds the low 64 bits and is marked. -/
theorem cntAdd_past_shows (hi : i < 4096) (h : 2 ^ 64 ≤ s.rd64 (cntReg i 0) + n) :
    (s.cntAdd i n).rd64 (cntReg i 0) = (s.rd64 (cntReg i 0) + n) % 2 ^ 64 ∧ (s.cntAdd i n).rb (cntReg i 8) 29 = true := by
  by_cases hmark : s.rb (cntReg i 8) 29 = true
  · rw [cntAdd_past h, rb_congr cntSum_ctrl, if_pos hmark]
    exact ⟨cntSum_value, (rb_congr cntSum_ctrl 29).trans hmark⟩
  · rw [cntAdd_wraps h (Bool.eq_false_of_not_eq_true hmark)]
    split
    · exact ⟨(rd64_congr (emitPf_cnt _ _ _ _ 0 hi (by decide)) (emitPf_cnt _ _ _ _ 4 hi (by decide))).trans cntWrapped_value,
        (rb_congr (emitPf_cnt _ _ _ _ 8 hi (by decide)) 29).trans cntWrapped_marked⟩
    · exact ⟨cntWrapped_value, cntWrapped_marked⟩

end

section
variable {dt i v inc : Nat} {r : Req} {s u : State} (hu : u = s.tick dt) (hpath : pathWin r.path = pfWin)
include hu

theorem counterWrap_eq (n : Nat) : exec (.counterWrap dt i n) s = .next (if 2 ^ 64 ≤ u.rd64 (cntReg i 0) + n then u.cntAdd i n else u) := by
  rw [exec_counterWrap, execCounterWrap, hu]

include hpath

theorem cntValueWrite_claimed (hclaim : u.cntClaimed i r = true) :
    exec (.cntValueWrite dt r i v inc) s = .next (u.wf 0x04000004 6 0 Status.claimed.code) := by
  simp only [exec_cntValueWrite, execCntValueWrite, ← hu, hpath, hclaim, ne_eq, not_true_eq_false, if_false, if_true]

theorem cntValueWrite_open (hclaim : u.cntClaimed i r = false) :
    exec (.cntValueWrite dt r i v inc) s = .next ((u.wr64 (cntReg i 0) v).cntAdd i inc) := by
  simp only [exec_cntValueWrite, execCntValueWrite, ← hu, hpath, hclaim, ne_eq, not_true_eq_false, if_false, Bool.false_eq_true]

end

/-! ### Samplers -/

/-- LOG2WINDOW and LOG2SIZE that a write of SMP_CTRL leaves (R687). -/
def State.smpWindow (v : Nat) : Nat := max 4 (min 24 (bits v 28 24))
def State.smpSize (s : State) (m v : Nat) : Nat := if s.rb (smpReg m 0) 31 then s.rf (smpReg m 0) 20 16 else max 6 (min 20 (bits v 20 16))

/-- The state with SMP_CTRL written (R687). -/
def State.smpSet (s : State) (m v : Nat) : State :=
  s.wr (smpReg m 0) (b2n (bit v 31) * 2 ^ 31 + State.smpWindow v * 2 ^ 24 + s.smpSize m v * 2 ^ 16)

/-- The state with a sampler's windows restarted and its ring empty (R687). -/
def State.smpRestarted (s : State) (m : Nat) : State := ((s.smpLoad m).wr (smpReg m 0x10) 0).wr (smpReg m 0x14) 0

section
variable (s : State) (m : Nat)

theorem smpSize_lt (v : Nat) : s.smpSize m v < 32 := by
  unfold State.smpSize State.rf bits
  split <;> omega

theorem smpSet_fields (v : Nat) : (s.smpSet m v).rb (smpReg m 0) 31 = bit v 31 ∧ (s.smpSet m v).rf (smpReg m 0) 28 24 = State.smpWindow v
    ∧ (s.smpSet m v).rf (smpReg m 0) 20 16 = s.smpSize m v := by
  have hsize := smpSize_lt s m v
  have hwindow : State.smpWindow v < 32 := by unfold State.smpWindow; omega
  have hb : b2n (bit v 31) ≤ 1 := by unfold b2n; split <;> omega
  simp only [State.rb, State.rf, State.smpSet, State.rd_wr_same]
  generalize State.smpWindow v = w at *
  generalize s.smpSize m v = z at *
  refine ⟨?_, by unfold bits; omega, by unfold bits; omega⟩
  have hquot : (b2n (bit v 31) * 2 ^ 31 + w * 2 ^ 24 + z * 2 ^ 16) % 2 ^ 32 / 2 ^ 31 = b2n (bit v 31) := by omega
  rw [bit, Nat.testBit_eq_decide_div_mod_eq, hquot]
  cases bit v 31 <;> rfl

theorem Frame.smpLoad {s t : State} {ps : List Part} {ks : List Nat} (h : Frame ps ks s t) (hp : Part.recs ∈ ps) (m : Nat) :
    Frame ps ks s (t.smpLoad m) := by
  unfold State.smpLoad
  exact h.mRecs hp _

theorem smpLoad_rd (k : Nat) : (s.smpLoad m).rd k = s.rd k := rfl

theorem smpRestarted_rd : (s.smpRestarted m).rd (smpReg m 0) = s.rd (smpReg m 0) ∧ (s.smpRestarted m).rd (smpReg m 0x10) = 0
    ∧ (s.smpRestarted m).rd (smpReg m 0x14) = 0 := by
  have hne : smpReg m 0 ≠ smpReg m 0x10 ∧ smpReg m 0 ≠ smpReg m 0x14 ∧ smpReg m 0x10 ≠ smpReg m 0x14 := by unfold smpReg; omega
  obtain ⟨h10, h14, hring⟩ := hne
  rw [State.smpRestarted, State.rd_wr_ne _ h14, State.rd_wr_ne _ h10, State.rd_wr_ne _ hring, State.rd_wr_same, State.rd_wr_same]
  exact ⟨rfl, rfl, rfl⟩

/-- The selectors of the application cores are loaded from the seed plus their numbers (R682). -/
theorem smpLoad_sels {c : Nat} (hc : c < s.row.appCores) :
    tget 0 (s.smpLoad 0).recs.sels c = ((if s.rd (smpReg 0 4) = 0 then 1 else s.rd (smpReg 0 4)) + c) % 2 ^ 32 + 1 := by
  have h := tget_foldl_tset (fun c => ((if s.rd (smpReg 0 4) = 0 then 1 else s.rd (smpReg 0 4)) + c) % 2 ^ 32 + 1) s.recs.sels 0 s.row.appCores c
  simpa [State.smpLoad, hc] using h

end

section
variable {dt m : Nat} {r : Req} {s u : State} (hu : u = s.tick dt)
include hu

theorem smpEnable_eq (v : Word) (hpath : pathWin r.path = pfWin) :
    exec (.smpEnable dt r m v) s = .next (if bit v.toNat 31 then (u.smpSet m v.toNat).smpRestarted m else u.smpSet m v.toNat) := by
  simp only [exec_smpEnable, execSmpEnable, ← hu, hpath, ne_eq, not_true_eq_false, if_false]
  rfl

theorem smpSeedWrite_eq (v : Word) (hpath : pathWin r.path = pfWin) : exec (.smpSeedWrite dt r m v) s = .next ((u.wr (smpReg m 4) v.toNat).smpLoad m) := by
  simp only [exec_smpSeedWrite, execSmpSeedWrite, ← hu, hpath, ne_eq, not_true_eq_false, if_false]

/-- The state with the windows of a selector passed, and the tags missed meanwhile counted (R683). -/
def State.smpPassed (s : State) (m : Nat) (g : Tagged) : State :=
  (s.mRecs fun r => { r with sels := tmod 0 r.sels (m * 64 + g.sel) fun x => smpWindows (1 + g.missed) (x - 1) + 1 }).rcCount (smpReg m 0x1C) g.missed

theorem sampleRecord_idle (g : Tagged) (h : u.rb (smpReg m 0) 31 = false ∨ tget 0 u.recs.sels (m * 64 + g.sel) = 0) : exec (.sampleRecord dt m g) s = .next u := by
  have hidle : (!u.rb (smpReg m 0) 31 || decide (tget 0 u.recs.sels (m * 64 + g.sel) = 0)) = true := by simpa using h
  simp only [exec_sampleRecord, execSampleRecord, ← hu, hidle, if_true]

/-- What becomes of the record of a tagged instruction: filtered, counted as missed where the ring is full, or written (R683, R684). -/
def State.smpTake (s : State) (m : Nat) (g : Tagged) : Host.Outcome State Fault Refusal :=
  if !s.smpAllowed m g then .next (s.rcCount (smpReg m 0x20) 1)
  else
    let tail := s.rd (smpReg m 0x14)
    let size := 2 ^ s.rf (smpReg m 0) 20 16
    let held := (tail + 2 ^ 32 - s.rd (smpReg m 0x10)) % 2 ^ 32
    if held = size then .next (s.rcCount (smpReg m 0x1C) 1)
    else
      match s.store pfWin 6 (s.rd64 (smpReg m 8) + tail % size * 64) (leBytes (s.smpRecord m g) 64) with
      | (false, s) => .next ((s.wb (smpReg m 0) 31 false).emitPf 0xB4 .fault m)
      | (true, s) =>
        let s := s.wr (smpReg m 0x14) (tail + 1)
        .next (if held + 1 = s.rd (smpReg m 0x18) then s.emitPf 0xB3 .ok m else s)

theorem sampleRecord_tagged (g : Tagged) (hen : u.rb (smpReg m 0) 31 = true) (hsel : tget 0 u.recs.sels (m * 64 + g.sel) ≠ 0) :
    exec (.sampleRecord dt m g) s = (u.smpPassed m g).smpTake m g := by
  simp only [exec_sampleRecord, execSampleRecord, ← hu, hen, hsel, Bool.not_true, decide_false, Bool.or_false, Bool.false_eq_true, if_false]
  rfl

end

section
variable (s : State) (m : Nat) (g : Tagged)

theorem smpPassed_sels : tget 0 (s.smpPassed m g).recs.sels (m * 64 + g.sel) = smpWindows (1 + g.missed) (tget 0 s.recs.sels (m * 64 + g.sel) - 1) + 1 := by
  simp [State.smpPassed]

theorem smpPassed_missed : (s.smpPassed m g).rd (smpReg m 0x1C) = satAdd 32 (s.rd (smpReg m 0x1C)) g.missed := by
  have hlt : satAdd 32 (s.rd (smpReg m 0x1C)) g.missed < 2 ^ 32 := by unfold satAdd; omega
  rw [State.smpPassed, State.rcCount, State.rcUpdate_rd, State.rd_wr_same, State.mRecs_rd, Nat.mod_eq_of_lt hlt]

theorem smpPassed_frame : Frame [.recs, .cycle] [smpReg m 0x1C] s (s.smpPassed m g) := by
  unfold State.smpPassed State.rcCount
  exact ((Frame.refl ..).mRecs (by simp) _).rcUpdate (by simp) (by simp) _

end

section
variable {t : State} {m : Nat} {g : Tagged}

theorem smpTake_filtered (h : t.smpAllowed m g = false) : t.smpTake m g = .next (t.rcCount (smpReg m 0x20) 1) := by
  simp only [State.smpTake, h, Bool.not_false, if_true]

variable (h : t.smpAllowed m g = true)
include h

theorem smpTake_full (hfull : (t.rd (smpReg m 0x14) + 2 ^ 32 - t.rd (smpReg m 0x10)) % 2 ^ 32 = 2 ^ t.rf (smpReg m 0) 20 16) :
    t.smpTake m g = .next (t.rcCount (smpReg m 0x1C) 1) := by
  simp only [State.smpTake, h, Bool.not_true, Bool.false_eq_true, if_false, hfull, if_true]

variable (hroom : (t.rd (smpReg m 0x14) + 2 ^ 32 - t.rd (smpReg m 0x10)) % 2 ^ 32 ≠ 2 ^ t.rf (smpReg m 0) 20 16) {y : State}
include hroom

theorem smpTake_fault (hstore : t.store pfWin 6 (t.rd64 (smpReg m 8) + t.rd (smpReg m 0x14) % 2 ^ t.rf (smpReg m 0) 20 16 * 64)
      (leBytes (t.smpRecord m g) 64) = (false, y)) : t.smpTake m g = .next ((y.wb (smpReg m 0) 31 false).emitPf 0xB4 .fault m) := by
  simp only [State.smpTake, h, Bool.not_true, Bool.false_eq_true, if_false, hroom, hstore]

theorem smpTake_written (hstore : t.store pfWin 6 (t.rd64 (smpReg m 8) + t.rd (smpReg m 0x14) % 2 ^ t.rf (smpReg m 0) 20 16 * 64)
      (leBytes (t.smpRecord m g) 64) = (true, y)) : t.smpTake m g
    = .next (if (t.rd (smpReg m 0x14) + 2 ^ 32 - t.rd (smpReg m 0x10)) % 2 ^ 32 + 1 = (y.wr (smpReg m 0x14) (t.rd (smpReg m 0x14) + 1)).rd (smpReg m 0x18)
        then (y.wr (smpReg m 0x14) (t.rd (smpReg m 0x14) + 1)).emitPf 0xB3 .ok m else y.wr (smpReg m 0x14) (t.rd (smpReg m 0x14) + 1)) := by
  simp only [State.smpTake, h, Bool.not_true, Bool.false_eq_true, if_false, hroom, hstore]

end

/-! ### The statement -/

/-- Settles O57: each command by its equation. -/
theorem recorderAndCounters : Obligations.RecorderAndCounters := by
  unfold Obligations.RecorderAndCounters
  refine ⟨?apply, ?take, ?clear, ?config, ?value, ?wrap, ?sampler, ?sample⟩
  case apply =>
    rintro dt n x s u hu rfl
    refine ⟨recApply_idle hu, fun hstaged hnew => ?_⟩
    have hslot := recApplied_recSlot u n
    refine ⟨u.recApplied n, u.recTaken n, rfl, ?_, ?_, ?_, ?_, ?_, ?_, ?_, ?_, fun k hk => recApplied_recSlot_ne u hk, recApplied_frame u n,
      recApply_applies hu hstaged hnew⟩ <;> rw [hslot]
    rw [← recTaken_seq]
  case take =>
    rintro cfg at_ i v x t rfl rfl
    refine ⟨recBin_lt .., (recTake_bins ..).trans (if_pos rfl), fun j hj => (recTake_bins ..).trans (if_neg hj), rfl, fun hzero => ?_, fun hsome => ?_⟩
    · simp [recTake, hzero]
    · simp only [recTake, hsome, false_or]
      constructor <;> split <;> omega
  case clear =>
    rintro dt n w r view v s u hu rfl hdead hpf hn
    refine ⟨fun hbit => ?_, recClear_ignored hu⟩
    have hslot := recEmptied_recSlot u n (u.recClearer r)
    refine ⟨u.recEmptied n (u.recClearer r), ?_, ?_, ?_, ?_, ?_, ?_, fun k hk => recEmptied_recSlot_ne u n _ hk, recEmptied_frame .., ?_⟩
    case refine_7 =>
      rw [recClear_clears hu hbit hdead hpf hn, recClear_eq]
      simp only [State.clearTells, Bool.or_eq_true, decide_eq_true_eq]
    all_goals rw [hslot]
  case config =>
    rintro dt n v c r s u hu hpath hn hv rfl
    refine ⟨recSlotCfgWrite_denied hu hpath, fun hsecure hkeep => ?_, fun hsecure hopen hnew => ?_⟩
    · rw [recSlotCfgWrite_secure hu hpath hsecure, if_pos hkeep]
    · have hchange : ¬ (u.rb 0x03E00004 0 = true ∨ u.rd64 (recCfg n) = v / 1024 * 1024) := by simp [hopen, hnew]
      have hcfg (k : Nat) (hk : 0x03E01000 ≤ k ∧ k < 0x03E01800) (x : State) (m : Nat) : (x.recClear n m).rd k = x.rd k :=
        recClear_rd _ _ _ (by omega) (by unfold viReg pfWin; omega)
      refine ⟨_, (recSlotCfgWrite_secure hu hpath hsecure).trans (if_neg hchange), ?_, ?_⟩
      · rw [rd64_congr (hcfg _ (by unfold recCfg; omega) _ _) (hcfg _ (by unfold recCfg; omega) _ _), rd64_wr64]
        exact Nat.mod_eq_of_lt (by omega)
      · rw [recClear_recSlot, recEmptied_recSlot]
        exact ⟨rfl, rfl, rfl⟩
  case value =>
    intro dt i v inc r s u hu hpath hi hv
    have hval : (u.wr64 (cntReg i 0) v).rd64 (cntReg i 0) = v := (rd64_wr64 ..).trans (Nat.mod_eq_of_lt hv)
    refine ⟨cntValueWrite_claimed hu hpath, fun hclaim hlow => ⟨_, cntValueWrite_open hu hpath hclaim, ?_⟩,
      fun hclaim hpast => ⟨_, cntValueWrite_open hu hpath hclaim, ?_⟩⟩
    · rw [cntAdd_below (by rw [hval]; exact hlow), cntSum_value, hval, Nat.mod_eq_of_lt hlow]
      exact ⟨rfl, ((Frame.refl ..).wr64 (by simp) (by simp [cntReg]) _).wr64 (by simp) (by simp [cntReg]) _⟩
    · have h := cntAdd_past_shows (n := inc) hi (by rw [hval]; exact hpast)
      rwa [hval] at h
  case wrap =>
    intro dt i n s u hu hi
    refine ⟨fun hlow => ?_, fun hpast hmark => ?_⟩
    · rw [counterWrap_eq hu, if_neg (by omega)]
    · refine ⟨u.cntWrapped i n, cntWrapped_value, cntWrapped_marked, ?_, ?_⟩
      · exact (Frame.cntSum (Frame.refl ..) (by simp) (by simp)).raise (by simp) (by simp) _
      · rw [counterWrap_eq hu, if_pos hpast, cntAdd_wraps hpast hmark]
  case sampler =>
    intro dt m r v s u hu hpath
    refine ⟨⟨_, smpEnable_eq hu v hpath, ?_⟩, ⟨_, smpSeedWrite_eq hu v hpath, ?_, ?_, ?_⟩⟩
    · obtain ⟨hen, hwindow, hsize⟩ := smpSet_fields u m v.toNat
      obtain ⟨hctrl, hhead, htail⟩ := smpRestarted_rd (u.smpSet m v.toNat) m
      have hset : Frame [.recs] [smpReg m 0, smpReg m 0x10, smpReg m 0x14] u (u.smpSet m v.toNat) := (Frame.refl ..).wr (by simp) _
      split
      · exact ⟨(rb_congr hctrl 31).trans hen, (rf_congr hctrl ..).trans hwindow, (rf_congr hctrl ..).trans hsize, fun _ => ⟨hhead, htail⟩,
          ((hset.smpLoad (by simp) m).wr (by simp) _).wr (by simp) _⟩
      · next hoff => exact ⟨hen, hwindow, hsize, fun hon => absurd hon hoff, hset⟩
    · rw [smpLoad_rd, State.rd_wr_same]
      exact Nat.mod_eq_of_lt v.isLt
    · rintro rfl c hc
      have hsel := smpLoad_sels (u.wr (smpReg 0 4) v.toNat) hc
      rwa [State.rd_wr_same, Nat.mod_eq_of_lt v.isLt] at hsel
    · exact Frame.smpLoad ((Frame.refl ..).wr (by simp) _) (by simp) m
  case sample =>
    intro dt m g s u hu
    refine ⟨sampleRecord_idle hu g, fun hen hsel => ?_⟩
    have hexec := sampleRecord_tagged hu g hen hsel
    refine ⟨u.smpPassed m g, _, smpPassed_sels .., smpPassed_missed .., smpPassed_frame .., rfl, fun hno => hexec.trans (smpTake_filtered hno),
      fun hyes hfull => hexec.trans (smpTake_full hyes hfull), fun hyes hroom ok y hstore => ⟨?_, ?_⟩⟩
    · rintro rfl
      exact hexec.trans (smpTake_fault hyes hroom hstore)
    · rintro rfl
      exact hexec.trans (smpTake_written hyes hroom hstore)

end Sys2Proof.Machine
end

section
/-!
PROOFS. A table of haptic slots that lists an index twice, and a PLAY of the slot its second entry names (R449, R451).
-/
namespace Sys2Proof.Machine

/-- Slot 0 of the PF live, listed with set 0 and again with set 1; its channel IDLE, its entry playable and admitted; RESULT of set 1 reads 1. -/
def slotListedTwice : State :=
  { regs := [(hapReg 0 8, 100 * 2 ^ 24), (hapReg 0 0x20, 2 ^ 29), (hslotReg pfWin 1 4, 2 ^ 16)],
    pods := { chans := [(chanKey kHslot 0, ⟨.live, pfWin⟩)] },
    panel := { slots := [(0, 0), (0, 2 ^ 16)], lib := [(0, 1 + 100 * 2 ^ 192)] } }

theorem slotListedTwice_plays :
    (slotListedTwice.tick 0).hslotBy pfWin 1 = some 0 ∧ (slotListedTwice.tick 0).hapState 0 = 1
      ∧ hapEntryBad (tget 0 (slotListedTwice.tick 0).panel.lib 0) ((slotListedTwice.tick 0).rb (hapReg 0 0) 28) = false
      ∧ (slotListedTwice.tick 0).hapRefusal 0 (tget 0 (slotListedTwice.tick 0).panel.lib 0) = 0 := by decide

/-- The PLAY finds index 0 by its second entry, and loads RESULT of the set its first entry names. -/
theorem slotListedTwice_result :
    (goOn {} (exec (.hslotPlay 0 pfWin 1) slotListedTwice)).rf (hslotReg pfWin 1 4) 22 16 = 1 := by decide

/-- Refutes O36, in its clause for a PLAY that is taken: where the table of slots lists an index twice, a slot is found by one entry and its
parameter block read from the other, so RESULT is loaded in another set's register and that of the set played stays. The statement ranges
over all states and does not ask that the table of slots be canonical, as the tables the commands leave are. -/
theorem not_hapticSlots : ¬ Obligations.HapticSlots := by
  rintro ⟨-, -, play, -⟩
  obtain ⟨hby, hstate, hgood, hadmitted⟩ := slotListedTwice_plays
  obtain ⟨-, taken, -⟩ := play 0 pfWin 1 0 0 _ slotListedTwice _ rfl (by decide) (by decide) (by decide) (by decide) hby rfl rfl
  obtain ⟨t, ht, -, hresult, -⟩ := taken hstate hgood hadmitted
  have hplayed := slotListedTwice_result
  rw [ht] at hplayed
  exact absurd (hplayed.symm.trans hresult) (by decide)

end Sys2Proof.Machine
end

section
/-!
PROOFS. Haptic channels: what counting drive time, entering a phase and standing still leave, and the statement (R438 to R441, R452 to R459, R469).
-/
namespace Sys2Proof.Machine

theorem exec_hapEnable (dt c : Nat) (r : Req) (v : Word) (s : State) : exec (.hapEnable dt r c v) s = execHapEnable dt r c v s := rfl
theorem exec_hapDisable (dt c : Nat) (r : Req) (v : Word) (s : State) : exec (.hapDisable dt r c v) s = execHapDisable dt r c v s := rfl
theorem exec_hapStop (dt c : Nat) (r : Req) (s : State) : exec (.hapStop dt r c) s = execHapStop dt r c s := rfl
theorem exec_hapCal (dt c : Nat) (r : Req) (s : State) : exec (.hapCal dt r c) s = execHapCal dt r c s := rfl
theorem exec_calDone (dt c near f0 rc l k : Nat) (low peak : Bool) (s : State) :
    exec (.calDone dt c near low peak f0 rc l k) s = execCalDone dt c near low peak f0 rc l k s := rfl
theorem exec_hapShort (dt c : Nat) (s : State) : exec (.hapShort dt c) s = execHapShort dt c s := rfl
theorem exec_accelRead (dt c : Nat) (v : Option Word) (s : State) : exec (.accelRead dt c v) s = execAccelRead dt c v s := rfl
theorem exec_hapBinBoundary (dt c : Nat) (s : State) : exec (.hapBinBoundary dt c) s = execHapBinBoundary dt c s := rfl
theorem exec_hapticDropped (dt c : Nat) (s : State) : exec (.hapticDropped dt c) s = execHapticDropped dt c s := rfl
theorem exec_hapRestEnd (dt c : Nat) (s : State) : exec (.hapRestEnd dt c) s = execHapRestEnd dt c s := rfl
theorem exec_coilModelUpdate (dt c irms : Nat) (amb : Word) (s : State) : exec (.coilModelUpdate dt c irms amb) s = execCoilModelUpdate dt c irms amb s := rfl

/-! ### Words apart from the one written -/

theorem rd_wf_ne (s : State) {k j hi lo v : Nat} (h : j ≠ k) : (s.wf k hi lo v).rd j = s.rd j := State.rd_wr_ne _ h
theorem rd_wb_ne (s : State) {k j i : Nat} {b : Bool} (h : j ≠ k) : (s.wb k i b).rd j = s.rd j := State.rd_wr_ne _ h

/-! ### A channel's record -/

theorem hap_congr {s t : State} (h : t.panel = s.panel) (c : Nat) : t.hap c = s.hap c := by rw [State.hap, h, State.hap]

@[simp] theorem mHap_hap (s : State) (c : Nat) (f : HapSt → HapSt) : (s.mHap c f).hap c = f (s.hap c) := (tget_tmod ..).trans (if_pos rfl)
@[simp] theorem mHap_rd (s : State) (c k : Nat) (f : HapSt → HapSt) : (s.mHap c f).rd k = s.rd k := rfl
@[simp] theorem mHap_rf (s : State) (c k hi lo : Nat) (f : HapSt → HapSt) : (s.mHap c f).rf k hi lo = s.rf k hi lo := rfl
@[simp] theorem mHap_hapState (s : State) (c d : Nat) (f : HapSt → HapSt) : (s.mHap c f).hapState d = s.hapState d := rfl
@[simp] theorem mHap_now (s : State) (c : Nat) (f : HapSt → HapSt) : (s.mHap c f).now = s.now := rfl
@[simp] theorem wr_hap (s : State) (k v c : Nat) : (s.wr k v).hap c = s.hap c := rfl
@[simp] theorem wf_hap (s : State) (k hi lo v c : Nat) : (s.wf k hi lo v).hap c = s.hap c := rfl
@[simp] theorem wb_hap (s : State) (k i : Nat) (b : Bool) (c : Nat) : (s.wb k i b).hap c = s.hap c := rfl

theorem hapReg_ne {c a b : Nat} (h : a ≠ b) : hapReg c a ≠ hapReg c b := by unfold hapReg; omega

section
variable {s t : State} {ps : List Part} {ks : List Nat} (h : Frame ps ks s t)
include h

theorem Frame.mHap (hp : Part.panel ∈ ps) (c : Nat) (f : HapSt → HapSt) : Frame ps ks s (t.mHap c f) := h.mPanel hp _

theorem Frame.freeWord (hp : Part.free ∈ ps) : Frame ps ks s t.freeWord.2 := by
  refine ⟨fun q hq => ?_, h.regs, h.mem, h.hostMem, h.now, h.queue, h.variant⟩
  have hsame := h.parts q hq
  cases q with
  | free => exact absurd hp hq
  | _ => exact hsame

theorem Frame.recValue (hp : Part.recs ∈ ps) (source inst : Nat) (v : Int) : Frame ps ks s (t.recValue source inst v) :=
  Frame.foldl (fun _ _ _ g => g.mRecs hp _) h

theorem Frame.hapCount (hp : Part.panel ∈ ps) {c : Nat} (hk : hapReg c 0x30 ∈ ks) : Frame ps ks s (t.hapCount c) :=
  (Frame.ite (h.mHap hp ..) (h.mHap hp ..)).wr hk _

theorem Frame.hapPlayed (hp : Part.panel ∈ ps) (hr : Part.recs ∈ ps) (c : Nat) : Frame ps ks s (t.hapPlayed c) := by
  unfold State.hapPlayed
  split
  · exact (h.recValue hr ..).mHap hp ..
  · exact h

end

/-! ### Drive time -/

/-- A channel's record but for the counts of its drive time. -/
def HapSt.uncounted (h : HapSt) : HapSt := { h with counted := 0, bin := 0, runFrom := none, runTo := 0, played := none }

section
variable (s : State) (c : Nat)

theorem hapCount_uncounted : ((s.hapCount c).hap c).uncounted = (s.hap c).uncounted := by
  simp only [State.hapCount, wr_hap]
  split <;> simp [HapSt.uncounted]

theorem hapCount_rd {k : Nat} (hk : k ≠ hapReg c 0x30) : (s.hapCount c).rd k = s.rd k := ((Frame.refl s [.panel] [hapReg c 0x30]).hapCount (by simp) (by simp)).regs k (by simpa using hk)

theorem hapPlayed_uncounted : ((s.hapPlayed c).hap c).uncounted = (s.hap c).uncounted := by
  unfold State.hapPlayed
  split
  · rw [mHap_hap, hap_congr (recValue_panel ..)]
    rfl
  · rfl

theorem hapPlayed_rd (k : Nat) : (s.hapPlayed c).rd k = s.rd k :=
  ((Frame.refl s [.panel, .recs] []).hapPlayed (by simp) (by simp) c).regs k (by simp)

end

/-! ### Phases -/

/-- The state just before a phase is entered: its drive time counted, and a play that is over recorded. -/
def State.hapPrepared (s : State) (c code : Nat) : State := if 3 ≤ code ∧ code ≤ 5 then s.hapCount c else (s.hapCount c).hapPlayed c

/-- The free value of the drive of a calibration or a closed-loop HOLD (R446, R452). -/
def State.hapDraw (s : State) (c code : Nat) : Word × State :=
  if code = 2 ∨ code = 4 ∧ ¬ (s.rf (hapReg c 0) 27 26 == 2) = true then s.freeWord else (0, s)

/-- The drive of a phase, with the free value `w` (R446). -/
def State.hapDrive (s : State) (c code vmax : Nat) (openLoop : Bool) (w : Word) : Int :=
  match code with
  | 2 => (w.toNat % (vmax + 1) : Nat)
  | 3 => vmax
  | 4 => if openLoop then (vmax * s.hapTarget c / 65535 : Nat) else (w.toNat % (vmax + 1) : Nat)
  | 5 => if leNoBrake (s.hap c).run.entry then 0 else - (vmax : Int)
  | _ => 0

section
variable (s : State) (c code : Nat)

theorem hapEnter_eq : s.hapEnter c code = (((s.hapPrepared c code).hapDraw c code).2.mHap c fun h =>
    { h with
      phaseAt := ((s.hapPrepared c code).hapDraw c code).2.now,
      drive := ((s.hapPrepared c code).hapDraw c code).2.hapDrive c code ((s.hapPrepared c code).hapVmax c)
        ((s.hapPrepared c code).rf (hapReg c 0) 27 26 == 2) ((s.hapPrepared c code).hapDraw c code).1,
      resting := false }).wf (hapReg c 0x20) 31 29 code := rfl

theorem Frame.hapEnter {s t : State} {ps : List Part} {ks : List Nat} (h : Frame ps ks s t) (hp : Part.panel ∈ ps) (hr : Part.recs ∈ ps)
    {c code : Nat} (hf : code = 2 ∨ code = 4 → Part.free ∈ ps) (h20 : hapReg c 0x20 ∈ ks) (h30 : hapReg c 0x30 ∈ ks) : Frame ps ks s (t.hapEnter c code) := by
  have hcount : Frame ps ks s (t.hapPrepared c code) := Frame.ite (h.hapCount hp h30) ((h.hapCount hp h30).hapPlayed hp hr c)
  have hdraw : Frame ps ks s ((t.hapPrepared c code).hapDraw c code).2 := by
    unfold State.hapDraw
    split
    next hfree => exact hcount.freeWord (hf (hfree.imp id And.left))
    next => exact hcount
  rw [hapEnter_eq]
  exact (hdraw.mHap hp ..).wf h20 ..

/-- Standing still after earlier steps of a frame. -/
theorem Frame.hapIdle {s t : State} {ps : List Part} {ks : List Nat} (h : Frame ps ks s t) (hp : Part.panel ∈ ps) (hr : Part.recs ∈ ps) {c code : Nat}
    (hf : code = 2 ∨ code = 4 → Part.free ∈ ps) (h20 : hapReg c 0x20 ∈ ks) (h30 : hapReg c 0x30 ∈ ks) : Frame ps ks s (t.hapIdle c code) :=
  ((h.hapEnter hp hr hf h20 h30).mHap hp ..).wf h20 ..

theorem hapPrepared_uncounted : ((s.hapPrepared c code).hap c).uncounted = (s.hap c).uncounted := by
  unfold State.hapPrepared
  split
  · exact hapCount_uncounted ..
  · rw [hapPlayed_uncounted, hapCount_uncounted]

theorem hapDraw_hap : (s.hapDraw c code).2.hap c = s.hap c := by
  unfold State.hapDraw
  split <;> rfl

theorem hapDraw_now : (s.hapDraw c code).2.now = s.now := by
  unfold State.hapDraw
  split <;> rfl

/-- A phase that drives nothing: OFF, IDLE, GAP or REST, and FAULT. -/
theorem hapDrive_still (hq : code < 2 ∨ 5 < code) (vmax : Nat) (o : Bool) (w : Word) : s.hapDrive c code vmax o w = 0 := by
  unfold State.hapDrive
  split <;> omega

theorem hapEnter_hapState : (s.hapEnter c code).hapState c = code % 8 := by
  rw [State.hapState, hapEnter_eq, rf_wf_same _ _ _ (by omega) (by omega)]
  norm_num

theorem hapIdle_hapState : (s.hapIdle c code).hapState c = code % 8 := by
  rw [← hapEnter_hapState s c code, State.hapState, State.hapIdle, rf_wf_ne _ _ _ (by omega) (by omega) (.inl (by omega)), mHap_rf, State.hapState]

/-- A channel that stands still is not driven and has nothing that runs or is about to start; the rest of its record is kept. -/
theorem hapIdle_hap (hq : code < 2 ∨ 5 < code) : ((s.hapIdle c code).hap c).uncounted =
    { (s.hap c).uncounted with phaseAt := s.now, drive := 0, resting := false, next := none, left := 0, restNext := false } := by
  have hnow : (s.hapPrepared c code).now = s.now :=
    (Frame.ite ((Frame.refl s [.panel, .recs] [hapReg c 0x30]).hapCount (by simp) (by simp))
      (((Frame.refl s [.panel, .recs] [hapReg c 0x30]).hapCount (by simp) (by simp)).hapPlayed (by simp) (by simp) c)).now
  rw [State.hapIdle, wf_hap, mHap_hap, hapEnter_eq, wf_hap, mHap_hap, hapDrive_still _ _ _ hq, hapDraw_hap, hapDraw_now, hnow,
    ← hapPrepared_uncounted s c code]
  rfl

theorem hapIdle_heat (hq : code < 2 ∨ 5 < code) : ((s.hapIdle c code).hap c).heat = (s.hap c).heat :=
  (congrArg HapSt.heat (hapIdle_hap s c code hq) :)
theorem hapIdle_hot (hq : code < 2 ∨ 5 < code) : ((s.hapIdle c code).hap c).hot = (s.hap c).hot :=
  (congrArg HapSt.hot (hapIdle_hap s c code hq) :)
theorem hapIdle_l (hq : code < 2 ∨ 5 < code) : ((s.hapIdle c code).hap c).l = (s.hap c).l :=
  (congrArg HapSt.l (hapIdle_hap s c code hq) :)
theorem hapIdle_k (hq : code < 2 ∨ 5 < code) : ((s.hapIdle c code).hap c).k = (s.hap c).k :=
  (congrArg HapSt.k (hapIdle_hap s c code hq) :)
theorem hapIdle_drive (hq : code < 2 ∨ 5 < code) : ((s.hapIdle c code).hap c).drive = 0 := congrArg HapSt.drive (hapIdle_hap s c code hq)
theorem hapIdle_rd {k : Nat} (hq : code ≠ 2 ∧ code ≠ 4) (h20 : k ≠ hapReg c 0x20) (h30 : k ≠ hapReg c 0x30) : (s.hapIdle c code).rd k = s.rd k :=
  ((Frame.refl s [.panel, .recs] [hapReg c 0x20, hapReg c 0x30]).hapIdle (by simp) (by simp) (by omega) (by simp) (by simp)).regs k (by simp [h20, h30])

theorem hapIdle_next : ((s.hapIdle c code).hap c).next = none := by rw [State.hapIdle, wf_hap, mHap_hap]

end

/-! ### A counted channel that is not driven -/

section
variable (s : State) (c : Nat)

theorem hapCount_still (hd : s.hapDriven c = false) : (s.hapCount c).hap c =
    { s.hap c with counted := s.now, runFrom := if s.now - (s.hap c).runTo < 20000000 then (s.hap c).runFrom else none } := by
  simp only [State.hapCount, hd, Bool.not_false, if_true, wr_hap, mHap_hap]

theorem hapDriven_congr {s t : State} {c : Nat} (hrd : t.rd (hapReg c 0x20) = s.rd (hapReg c 0x20)) (hrun : (t.hap c).run = (s.hap c).run) :
    t.hapDriven c = s.hapDriven c := by
  simp only [State.hapDriven, State.hapState, rf_congr hrd, hrun]

/-- The bin of a channel that is not driven joins the window, and the next one is empty. -/
theorem hapBin_still (hd : s.hapDriven c = false) (f : HapSt → HapSt) (hf : f = fun h => { h with bins := (h.bin :: h.bins).take 1000, bin := 0 }) :
    ((((s.hapCount c).mHap c f).hapCount c).hap c).bins = ((s.hap c).bin :: (s.hap c).bins).take 1000
    ∧ ((((s.hapCount c).mHap c f).hapCount c).hap c).bin = 0 ∧ ((((s.hapCount c).mHap c f).hapCount c).hap c).pend = (s.hap c).pend := by
  have hrec : ((s.hapCount c).mHap c f).hap c = f ((s.hapCount c).hap c) := mHap_hap ..
  have hd' : ((s.hapCount c).mHap c f).hapDriven c = false := by
    rw [← hd]
    refine hapDriven_congr (hapCount_rd s c (hapReg_ne (by decide))) ?_
    rw [hrec, hapCount_still s c hd, hf]
  rw [hapCount_still _ c hd', hrec, hapCount_still s c hd, hf]
  exact ⟨rfl, rfl, rfl⟩

theorem tobits_lt (w : Nat) (i : Int) : tobits w i < 2 ^ w := by
  have hpos : (0 : Int) < ((2 ^ w : Nat) : Int) := by positivity
  have hlt := Int.emod_lt_of_pos i hpos
  have hnn := Int.emod_nonneg i hpos.ne'
  unfold tobits
  omega

end

/-! ### The fields of HAP_CTRL -/

/-- Of a channel that is disabled and that no slot names, both fields read as written (R439). -/
theorem hapFields_rf {s : State} {c v : Nat} (hoff : s.rb (hapReg c 0) 31 = false) (hn : s.hapNamed c = false) :
    (s.hapFields c v).rf (hapReg c 0) 15 0 = bits v 15 0 ∧ (s.hapFields c v).rf (hapReg c 0) 30 26 = bits v 30 26 := by
  unfold State.hapFields
  simp only [hn, Bool.false_eq_true, if_false]
  obtain ⟨s₁, hs₁⟩ : ∃ s₁, s₁ = if bits v 15 0 = s.rf (hapReg c 0) 15 0 then s else s.wf (hapReg c 0) 15 0 (bits v 15 0) := ⟨_, rfl⟩
  have h31 : (s₁.wf (hapReg c 0) 25 25 (bits v 25 25)).rb (hapReg c 0) 31 = false := by
    rw [rb_wf_ne _ _ _ (by omega) (by omega) (.inl (by omega)), hs₁, ← hoff]
    split
    · rfl
    · exact rb_wf_ne _ _ _ (by omega) (by omega) (.inl (by omega))
  have hlow : s₁.rf (hapReg c 0) 15 0 = bits v 15 0 := by
    rw [hs₁]
    split
    next heq => exact heq.symm
    next => rw [rf_wf_same _ _ _ (by omega) (by omega), bits, Nat.mod_mod]
  rw [← hs₁, h31]
  simp only [Bool.false_eq_true, if_false]
  split
  next heq =>
    exact ⟨by rw [rf_wf_ne _ _ _ (by omega) (by omega) (.inr (by omega)), hlow], heq.symm⟩
  next =>
    have hne : hapReg c 0 ≠ hapReg c 4 := hapReg_ne (by decide)
    constructor
    · rw [rf_congr (State.rd_wr_ne _ hne), rf_wf_ne _ _ _ (by omega) (by omega) (.inr (by omega)),
        rf_wf_ne _ _ _ (by omega) (by omega) (.inr (by omega)), hlow]
    · rw [rf_congr (State.rd_wr_ne _ hne), rf_wf_same _ _ _ (by omega) (by omega), bits, Nat.mod_mod]

/-! ### The clauses -/

section
variable {s u : State} {dt c : Nat} (hu : u = s.tick dt) (hc : c < u.row.haptics)
include hu hc

theorem hapShort_next (h0 : u.hapState c ≠ 0) (h7 : u.hapState c ≠ 7) : exec (.hapShort dt c) s = .next ((u.hapIdle c 7).hapFaultEvent c 1) := by
  simp only [exec_hapShort, execHapShort, ← hu, Nat.not_le.mpr hc, h0, h7, or_self, if_false]

theorem hapRestEnd_next (hr : (u.hap c).resting = true) (h6 : u.hapState c = 6)
    (hdue : (u.hap c).phaseAt + u.rf (hapReg c 0xC) 31 16 * 1000000 ≤ u.now) : exec (.hapRestEnd dt c) s = .next (u.hapIdle c 1) := by
  simp only [exec_hapRestEnd, execHapRestEnd, ← hu, Nat.not_le.mpr hc, hr, h6, Nat.not_lt.mpr hdue, not_true, ne_eq, or_self, if_false]

theorem hapBinBoundary_next (hp : (u.hap c).pend = none) (hd : u.hapDriven c = false) :
    exec (.hapBinBoundary dt c) s =
      .next (((u.hapCount c).mHap c fun h => { h with bins := (h.bin :: h.bins).take 1000, bin := 0 }).hapCount c) := by
  have hnone := (hapBin_still u c hd _ rfl).2.2.trans hp
  simp only [exec_hapBinBoundary, execHapBinBoundary, ← hu, Nat.not_le.mpr hc, if_false, hnone]

theorem accelRead_good (hon : u.rb (hapReg c 0) 31 = true) (hfb : u.rf (hapReg c 0) 27 26 = 1) (hl : u.rb (hapReg c 0x20) 25 = false) (w : Word) :
    exec (.accelRead dt c (some w)) s = .next (u.mHap c fun h => { h with fails := 0, sample := w }) := by
  simp only [exec_accelRead, execAccelRead, ← hu, Nat.not_le.mpr hc, hon, hfb, hl, not_true, ne_eq, Bool.false_eq_true, or_self, if_false]

theorem accelRead_third (hon : u.rb (hapReg c 0) 31 = true) (hfb : u.rf (hapReg c 0) 27 26 = 1) (hl : u.rb (hapReg c 0x20) 25 = false)
    (h2 : (u.hap c).fails = 2) : exec (.accelRead dt c none) s =
      .next ((((u.satf 0x03A00010 15 0 1).mHap c fun h => { h with fails := h.fails + 1 }).wb (hapReg c 0x20) 25 true).hapFaultEvent c 2) := by
  have h3 : (((u.satf 0x03A00010 15 0 1).mHap c fun h => { h with fails := h.fails + 1 }).hap c).fails = 3 := by
    rw [mHap_hap]
    exact congrArg (· + 1) h2
  simp only [exec_accelRead, execAccelRead, ← hu, Nat.not_le.mpr hc, hon, hfb, hl, not_true, ne_eq, Bool.false_eq_true, or_self, if_false, h3, if_true]

theorem calDone_measured (h2 : u.hapState c = 2) (hq : (u.hap c).quick = false) (near f0 rc l k : Nat) :
    exec (.calDone dt c near false true f0 rc l k) s =
      .next ((((((u.wb (hapReg c 0x20) 24 false).mHap c fun h => { h with l := l, k := k }).wr (hapReg c 0x24)
        (f0 % 65536 * 2 ^ 16 + rc % 65536)).hapIdle c 1).hapOwn c .ok).psetChanged.calEvent c .ok 0) := by
  simp only [exec_calDone, execCalDone, ← hu, Nat.not_le.mpr hc, h2, hq, ne_eq, not_true, or_self, if_false, Bool.false_and, Bool.false_eq_true,
    Bool.false_or, Bool.not_true]

theorem calDone_low (h2 : u.hapState c = 2) (hq : (u.hap c).quick = false) (near f0 rc l k : Nat) (peak : Bool) :
    exec (.calDone dt c near true peak f0 rc l k) s = .next ((((u.wb (hapReg c 0x20) 24 false).hapIdle c 7).hapOwn c .fault).calEvent c .fault 1) := by
  simp only [exec_calDone, execCalDone, ← hu, Nat.not_le.mpr hc, h2, hq, ne_eq, not_true, or_self, if_false, Bool.false_and, Bool.false_eq_true,
    Bool.true_or, if_true]

theorem coilModelUpdate_next {irms : Nat} {amb : Word} {heat tc : Int} (hr : u.rf (hapReg c 0x10) 31 16 ≠ 0) (hon : u.rb (hapReg c 0) 31 = true)
    (hheat : heat = (u.hap c).heat + (((irms * irms * u.rf (hapReg c 0x24) 15 0 * u.rf (hapReg c 0x10) 31 16 * 65536 / 10000000000 : Nat) : Int)
      - (u.hap c).heat) / ((max 1 (u.rf (hapReg c 0x10) 15 0) : Nat) : Int))
    (htc : tc = sext 16 amb.toNat + heat / 256) (hcool : tc < (u.rf (hapReg c 0xC) 15 8 : Int) * 256) :
    exec (.coilModelUpdate dt c irms amb) s = .next
      (if tc < ((u.rf (hapReg c 0xC) 15 8 : Int) - 10) * 256 then
        ((u.mHap c fun h => { h with heat := heat }).wr (hapReg c 0x2C) (tobits 16 (clampI (-32768) 32767 tc))).mHap c fun h => { h with hot := false }
      else (u.mHap c fun h => { h with heat := heat }).wr (hapReg c 0x2C) (tobits 16 (clampI (-32768) 32767 tc))) := by
  simp only [exec_coilModelUpdate, execCoilModelUpdate, ← hu, Nat.not_le.mpr hc, hr, hon, not_true, or_self, if_false, ← hheat, ← htc,
    Int.not_le.mpr hcool, decide_false, Bool.and_false, Bool.false_eq_true]
  split <;> rfl

section
variable {r : Req} (hcl : u.claimedFor 0x61 c r = false)
include hcl

theorem hapStop_next : exec (.hapStop dt r c) s = .next ((u.hapBrake c).hapOwn c .ok) := by
  simp only [exec_hapStop, execHapStop, ← hu, Nat.not_le.mpr hc, hcl, if_false, Bool.false_eq_true]

theorem hapCal_idle (h1 : u.hapState c = 1) : exec (.hapCal dt r c) s = .next ((u.hapCalStart c false).hapOwn c .ok) := by
  simp only [exec_hapCal, execHapCal, ← hu, Nat.not_le.mpr hc, hcl, h1, if_false, if_true, Bool.false_eq_true]

theorem hapCal_busy (h1 : u.hapState c ≠ 1) : exec (.hapCal dt r c) s = .next ((u.hapResult .busy).hapOwn c .busy) := by
  simp only [exec_hapCal, execHapCal, ← hu, Nat.not_le.mpr hc, hcl, h1, if_false, Bool.false_eq_true]

theorem hapEnable_next {v : Word} (hoff : u.rb (hapReg c 0) 31 = false) (hmode : (u.hapFields c v.toNat).rf (hapReg c 0) 30 29 ≤ 1)
    (hfb : (u.hapFields c v.toNat).rf (hapReg c 0) 27 26 = 0 ∨ (u.hapFields c v.toNat).rf (hapReg c 0) 27 26 = 2) :
    exec (.hapEnable dt r c v) s = .next ((((((u.hapFields c v.toNat).wb (hapReg c 0) 31 true).mHap c fun h =>
      { h with heat := 0, hot := false, fails := 0, next := none }).hapIdle c 1).wb (hapReg c 0x20) 25 false).hapOwn c .ok) := by
  have hm : ¬ 1 < bits ((u.hapFields c v.toNat).rd (hapReg c 0)) 30 29 := Nat.not_lt.mpr hmode
  have hf1 : (bits ((u.hapFields c v.toNat).rd (hapReg c 0)) 27 26 == 1) = false := by rcases hfb with h | h <;> exact beq_eq_false_iff_ne.mpr (by rw [← State.rf, h]; decide)
  have hf3 : (bits ((u.hapFields c v.toNat).rd (hapReg c 0)) 27 26 == 3) = false := by rcases hfb with h | h <;> exact beq_eq_false_iff_ne.mpr (by rw [← State.rf, h]; decide)
  simp only [exec_hapEnable, execHapEnable, ← hu, Nat.not_le.mpr hc, hcl, hoff, if_false, Bool.false_eq_true, hm, hf1, hf3, decide_false,
    Bool.false_and, Bool.or_self]
  rfl

theorem hapDisable_next {v : Word} (hon : u.rb (hapReg c 0) 31 = true) :
    exec (.hapDisable dt r c v) s = .next ((((u.hapFields c v.toNat).wb (hapReg c 0) 31 false).hapIdle c 0).wb (hapReg c 0x20) 25 false) := by
  simp only [exec_hapDisable, execHapDisable, ← hu, Nat.not_le.mpr hc, hcl, hon, if_false, Bool.false_eq_true, Bool.not_true]

end
end

theorem hapticDropped_next {s u : State} {dt c i a : Nat} (hu : u = s.tick dt) (hp : (u.hap c).pend = some (i, a))
    (hdue : a + u.rf (hapReg c 8) 23 16 * 1000000 ≤ u.now) :
    exec (.hapticDropped dt c) s = .next ((u.hapUnpend c).hapEvents i 0x91 .timeout (c % 256)) := by
  simp only [exec_hapticDropped, execHapticDropped, ← hu, hp, hdue, if_true, State.hapDrop]

section
variable (s : State) (c code : Nat)

theorem hapOwn_hapState (st : Status) : (s.hapOwn c st).hapState c = s.hapState c := by
  rw [State.hapState, State.hapOwn, rf_wf_ne _ _ _ (by omega) (by omega) (.inl (by omega)), State.hapState]

theorem hapOwn_hap (st : Status) : (s.hapOwn c st).hap c = s.hap c := wf_hap ..

theorem hapLost_hapState (b : Bool) : (s.wb (hapReg c 0x20) 25 b).hapState c = s.hapState c := by
  rw [State.hapState, rf_wb_ne _ _ _ (by omega) (.inl (by omega)), State.hapState]

theorem hapOwn_rf (st : Status) : (s.hapOwn c st).rf (hapReg c 0x20) 22 16 = st.code := by
  rw [State.hapOwn, rf_wf_same _ _ _ (by omega) (by omega)]
  exact Nat.mod_eq_of_lt st.code_lt

theorem Frame.hapOwn {s t : State} {ps : List Part} {ks : List Nat} (h : Frame ps ks s t) {c : Nat} (hk : hapReg c 0x20 ∈ ks) (st : Status) :
    Frame ps ks s (t.hapOwn c st) := h.wf hk ..

end

/-- Settles O37: the record of a channel through `hapIdle_hap`, its drive time apart, the rest by the command's own equation (the
coil model and its rounding are the model's choice of log entry 39). -/
theorem hapticChannels : Obligations.HapticChannels := by
  unfold Obligations.HapticChannels
  refine ⟨fun dt c r v s u x hu hc hcl hx => ⟨fun hoff hmode hfb => ?enable, fun hon => ?disable, fun hoff hn => ?fields, ?stop, fun h1 => ?cal, fun h1 => ?busy⟩,
    fun dt c near f0 rc l k low peak s u hu hc h2 hq => ⟨fun hlow hpeak => ?measured, fun hlow => ?low⟩,
    fun dt c s u hu hc => ⟨fun h0 h7 => ?short, fun hon hfb hl => ⟨fun w => ?good, fun h2 => ?third⟩, fun hp hd => ?bin, fun i a hp hdue => ?dropped,
      fun hr h6 hdue => ?rest⟩,
    fun dt c irms amb heat tc s u hu hc hr hon hheat htc hcool => ?coil⟩
  case enable =>
    subst hx
    refine ⟨_, hapEnable_next hu hc hcl hoff hmode hfb, ?on, ?state, ?heat, ?hot, ?next, hapOwn_rf _ _ _,
      (((((Frame.refl ..).wb (by simp) ..).mHap (by simp) ..).hapIdle (by simp) (by simp) (by omega) (by simp) (by simp)).wb (by simp) ..).hapOwn (by simp) _⟩
    case on =>
      have hne : hapReg c 0 ≠ hapReg c 0x20 := hapReg_ne (by decide)
      rw [State.hapOwn, rb_congr (rd_wf_ne _ hne), rb_congr (rd_wb_ne _ hne), rb_congr (hapIdle_rd _ c 1 (by omega) hne (hapReg_ne (by decide))),
        rb_congr (mHap_rd ..), rb_wb_same _ _ _ (by omega)]
    case state => rw [hapOwn_hapState, hapLost_hapState, hapIdle_hapState]
    case heat => rw [hapOwn_hap, wb_hap, hapIdle_heat _ _ _ (.inl (by omega)), mHap_hap]
    case hot => rw [hapOwn_hap, wb_hap, hapIdle_hot _ _ _ (.inl (by omega)), mHap_hap]
    case next => rw [hapOwn_hap, wb_hap, hapIdle_next]
  case disable =>
    subst hx
    refine ⟨_, hapDisable_next hu hc hcl hon, ?off, ?state, ?drive, ?next,
      (((Frame.refl ..).wb (by simp) ..).hapIdle (by simp) (by simp) (by omega) (by simp) (by simp)).wb (by simp) ..⟩
    case off =>
      have hne : hapReg c 0 ≠ hapReg c 0x20 := hapReg_ne (by decide)
      rw [rb_congr (rd_wb_ne _ hne), rb_congr (hapIdle_rd _ c 0 (by omega) hne (hapReg_ne (by decide))), rb_wb_same _ _ _ (by omega)]
    case state => rw [hapLost_hapState, hapIdle_hapState]
    case drive => rw [wb_hap, hapIdle_drive _ _ _ (.inl (by omega))]
    case next => rw [wb_hap, hapIdle_next]
  case fields => exact hx ▸ hapFields_rf hoff hn
  case stop => exact hapStop_next hu hc hcl
  case cal =>
    refine ⟨_, hapCal_idle hu hc hcl h1, ?_, ?_, ?_, hapOwn_rf _ _ _, ?_⟩
    · rw [hapOwn_hapState, State.hapCalStart, mHap_hapState, hapIdle_hapState]
    · rw [hapOwn_hap, State.hapCalStart, mHap_hap]
    · rw [hapOwn_hap, State.hapCalStart, mHap_hap]
      exact hapIdle_next ..
    · exact (((Frame.refl ..).hapIdle (by simp) (by simp) (by simp) (by simp) (by simp)).mHap (by simp) ..).hapOwn (by simp) _
  case busy => exact hapCal_busy hu hc hcl h1
  case measured =>
    subst hlow hpeak
    refine ⟨_, calDone_measured hu hc h2 hq near f0 rc l k, ?_, ?_, ?_, ?_, ?_⟩
    · rw [hapOwn_hapState, hapIdle_hapState]
    · rw [State.hapOwn, rd_wf_ne _ (hapReg_ne (by decide)), hapIdle_rd _ c 1 (by omega) (hapReg_ne (by decide)) (hapReg_ne (by decide)),
        State.rd_wr_same]
      omega
    · rw [hapOwn_hap, hapIdle_l _ _ _ (.inl (by omega)), wr_hap, mHap_hap]
    · rw [hapOwn_hap, hapIdle_k _ _ _ (.inl (by omega)), wr_hap, mHap_hap]
    · exact (((((Frame.refl ..).wb (by simp) ..).mHap (by simp) ..).wr (by simp) _).hapIdle (by simp) (by simp) (by omega) (by simp) (by simp)).hapOwn
        (by simp) _
  case low =>
    subst hlow
    refine ⟨_, calDone_low hu hc h2 hq near f0 rc l k peak, by rw [hapOwn_hapState, hapIdle_hapState], ?_⟩
    exact (((Frame.refl ..).wb (by simp) ..).hapIdle (by simp) (by simp) (by omega) (by simp) (by simp)).hapOwn (by simp) _
  case short =>
    exact ⟨_, hapShort_next hu hc h0 h7, hapIdle_hapState .., hapIdle_drive _ _ _ (.inr (by omega)),
      (Frame.refl ..).hapIdle (by simp) (by simp) (by omega) (by simp) (by simp)⟩
  case good => exact ⟨_, accelRead_good hu hc hon hfb hl w, by rw [mHap_hap], by rw [mHap_hap], (Frame.refl ..).mHap (by simp) ..⟩
  case third =>
    refine ⟨_, accelRead_third hu hc hon hfb hl h2, rb_wb_same _ _ _ (by omega), ?_, (((Frame.refl ..).wf (by simp) ..).mHap (by simp) ..).wb (by simp) ..⟩
    rw [wb_hap, mHap_hap]
    exact congrArg (· + 1) h2
  case bin =>
    obtain ⟨hbins, hbin, -⟩ := hapBin_still u c hd _ rfl
    exact ⟨_, hapBinBoundary_next hu hc hp hd, hbins, hbin,
      (((Frame.refl ..).hapCount (by simp) (by simp)).mHap (by simp) ..).hapCount (by simp) (by simp)⟩
  case dropped => exact hapticDropped_next hu hp hdue
  case rest =>
    exact ⟨_, hapRestEnd_next hu hc hr h6 hdue, hapIdle_hapState .., hapIdle_drive _ _ _ (.inl (by omega)),
      (Frame.refl ..).hapIdle (by simp) (by simp) (by omega) (by simp) (by simp)⟩
  case coil =>
    have hshown : tobits 16 (clampI (-32768) 32767 tc) % 2 ^ 32 = tobits 16 (clampI (-32768) 32767 tc) :=
      Nat.mod_eq_of_lt ((tobits_lt ..).trans (by decide))
    refine ⟨_, coilModelUpdate_next hu hc hr hon hheat htc hcool, ?_, ?_, fun hlow => ?_,
      Frame.ite ((((Frame.refl ..).mHap (by simp) ..).wr (by simp) _).mHap (by simp) ..) (((Frame.refl ..).mHap (by simp) ..).wr (by simp) _)⟩
    · split <;> simp only [mHap_hap, wr_hap]
    · split <;> rw [← hshown] <;> simp only [mHap_rd, State.rd_wr_same, hshown]
    · rw [if_pos hlow, mHap_hap]

end Sys2Proof.Machine
end

section
/-!
PROOFS. Commands of VIMGR: what accepting and completing one changes, and freeze, thaw, save and restore (R477 to R502).
-/
namespace Sys2Proof.Machine

theorem exec_freeze (dt v : Nat) (r : Req) (ext : Option Bytes) (s : State) : exec (.freeze dt r v ext) s = execFreeze dt r v ext s := rfl
theorem exec_save (dt v : Nat) (r : Req) (ext : Option Bytes) (s : State) : exec (.save dt r v ext) s = execSave dt r v ext s := rfl
theorem exec_restore (dt v : Nat) (r : Req) (ext : Option Bytes) (s : State) : exec (.restore dt r v ext) s = execRestore dt r v ext s := rfl
theorem exec_thaw (dt v : Nat) (r : Req) (ext : Option Bytes) (s : State) : exec (.thaw dt r v ext) s = execThaw dt r v ext s := rfl
theorem exec_freezeComplete (dt v : Nat) (s : State) : exec (.freezeComplete dt v) s = execFreezeComplete dt v s := rfl
theorem exec_viFreezeTimeout (dt v : Nat) (s : State) : exec (.viFreezeTimeout dt v) s = execViFreezeTimeout dt v s := rfl
theorem exec_saveComplete (dt v : Nat) (s : State) : exec (.saveComplete dt v) s = execSaveComplete dt v s := rfl
theorem exec_restoreComplete (dt v : Nat) (ext : Option Bytes) (s : State) : exec (.restoreComplete dt v ext) s = execRestoreComplete dt v ext s := rfl
theorem exec_thawRetranslationDone (dt v : Nat) (vs : List Verdict) (hosts : List HostRun) (s : State) :
    exec (.thawRetranslationDone dt v vs hosts) s = execThawRetranslationDone dt v vs hosts s := rfl

/-! ### An accepted command -/

/-- A read that does not fault changes nothing (R76). -/
theorem fetch_some {s x : State} {w cls addr n : Nat} {ext : Option Bytes} {b : Bytes} (h : s.fetch w cls addr n ext = (some b, x)) : x = s := by
  unfold State.fetch at h
  dsimp only at h
  (repeat' split at h) <;> cases h <;> rfl

theorem vimCheck_ok {u x : State} {r : Req} {op v p : Nat} {ext : Option Bytes} (h : u.vimCheck r op v ext = (.ok p, x)) : x = u := by
  unfold State.vimCheck at h
  split at h
  · cases h
  split at h
  · cases h
  split at h
  · cases h
  split at h
  · split at h <;> cases h
  next b t hread =>
    dsimp only at h
    split at h
    · cases h
      exact fetch_some hread
    · cases h

theorem vimTakes_eq {u x : State} {r : Req} {op v p : Nat} {ext : Option Bytes} (h : u.vimTakes x r op v ext p) : x = u := vimCheck_ok h.2

theorem vimCmd_taken {u x : State} {r : Req} {op v p : Nat} {ext : Option Bytes} (h : u.vimTakes x r op v ext p) (act : Nat → State → State) :
    u.vimCmd r op v ext act = act p x := by
  simp only [State.vimCmd, h.1, ne_eq, not_true, if_false, h.2]

/-! ### Registers of the port and of a VI -/

theorem viReg_ne_port (v off : Nat) : viReg v off ≠ 0x0040001C := by unfold viReg; omega

theorem viReg_low {v off : Nat} (hv : v < 128) (hoff : off < 0x40) : viReg v off < 0x00420000 := by unfold viReg; omega

theorem viReg_ne {v a b : Nat} (h : a ≠ b) : viReg v a ≠ viReg v b := by unfold viReg; omega

/-- Events leave the words of a VI but its dirty flags, whatever window they are for. -/
theorem emit_viWord (s : State) {v w : Nat} (hv : v < 128) (hw : w < 128 ∨ w = pfWin) (kind : Nat) (st : Status) (handle detail : Nat) :
    (s.emit w kind st handle detail).rd (viReg v 0) = s.rd (viReg v 0) := by
  have hlow := viReg_low hv (off := 0) (by omega)
  have hwin : 0x07000000 ≤ win w := by unfold win; split <;> omega
  have hevr : (evr w).tail = win w + 0x90010 ∧ (evr w).lost = win w + 0x90018 := by
    have : w ≠ secWin := by unfold secWin; unfold pfWin at hw; omega
    simp only [evr, this, if_false, and_self]
  refine emit_rd s w kind st handle detail _ (by rw [hevr.1]; omega) (by rw [hevr.2]; omega) ?_ ?_
  · unfold viReg
    omega
  · unfold viReg
    omega

theorem emit_port (s : State) {w : Nat} (hw : w < 128 ∨ w = pfWin) (kind : Nat) (st : Status) (handle detail : Nat) :
    (s.emit w kind st handle detail).rd 0x0040001C = s.rd 0x0040001C := by
  have hwin : 0x07000000 ≤ win w := by unfold win; split <;> omega
  have hevr : (evr w).tail = win w + 0x90010 ∧ (evr w).lost = win w + 0x90018 := by
    have : w ≠ secWin := by unfold secWin; unfold pfWin at hw; omega
    simp only [evr, this, if_false, and_self]
  exact emit_rd s w kind st handle detail _ (by rw [hevr.1]; omega) (by rw [hevr.2]; omega) (fun e => viReg_ne_port _ _ e.symm) (by omega)

theorem viState_congr {s t : State} {v : Nat} (h : t.rd (viReg v 0) = s.rd (viReg v 0)) : t.viState v = s.viState v := rf_congr h ..

section
variable (s : State) (v : Nat)

theorem setVi_viState (st : Nat) : (s.setVi v st).viState v = st % 16 := by
  rw [State.viState, State.setVi, rf_wf_same _ _ _ (by omega) (by omega)]
  norm_num

theorem setVi_rd {k : Nat} (st : Nat) (h : k ≠ viReg v 0) : (s.setVi v st).rd k = s.rd k := rd_wf_ne s h

theorem vimResult_viState (st : Status) : (s.vimResult st).viState v = s.viState v := viState_congr (rd_wf_ne s (viReg_ne_port v 0))

theorem vimLast_viState (st : Status) : (s.vimLast v st).viState v = s.viState v := by
  rw [State.viState, State.vimLast, rf_wf_ne _ _ _ (by omega) (by omega) (.inl (by omega)), State.viState]

theorem vimCount_viState : s.vimCount.viState v = s.viState v := viState_congr (rd_wf_ne s (viReg_ne_port v 0))

theorem vimResult_shown (st : Status) : (s.vimResult st).rf 0x0040001C 22 16 = st.code := by
  rw [State.vimResult, rf_wf_same _ _ _ (by omega) (by omega)]
  exact Nat.mod_eq_of_lt st.code_lt

theorem vimCount_shown : s.vimCount.rf 0x0040001C 22 16 = s.rf 0x0040001C 22 16 := rf_wf_ne _ _ _ (by omega) (by omega) (.inl (by omega))

theorem vimLast_shown (st : Status) : (s.vimLast v st).rf 0x0040001C 22 16 = s.rf 0x0040001C 22 16 := rf_congr (rd_wf_ne s (viReg_ne_port v 0).symm) ..

theorem vimLast_last (st : Status) : (s.vimLast v st).rf (viReg v 0) 6 0 = st.code := by
  rw [State.vimLast, rf_wf_same _ _ _ (by omega) (by omega)]
  exact Nat.mod_eq_of_lt st.code_lt

/-! ### A command that completes at once or later -/

theorem vimNow_viState (st : Status) : (s.vimNow v st).viState v = s.viState v := by rw [State.vimNow, vimLast_viState, vimResult_viState]

theorem vimNow_shown (st : Status) : (s.vimNow v st).rf 0x0040001C 22 16 = st.code := by rw [State.vimNow, vimLast_shown, vimResult_shown]

theorem vimLater_viState (op w p : Nat) : (s.vimLater op w p).viState v = s.viState v := by
  rw [State.vimLater, vimCount_viState, vimResult_viState]
  rfl

theorem vimLater_shown (op p : Nat) : (s.vimLater op v p).rf 0x0040001C 22 16 = Status.pending.code := by
  rw [State.vimLater, vimCount_shown, vimResult_shown]

theorem vimLater_ops (op p : Nat) : tget none (s.vimLater op v p).vims.ops v = some ⟨op, p, s.now⟩ := by
  simp only [State.vimLater, State.vimCount, State.vimResult, State.wf_frame, State.mVims_vims, tget_tset_same]

theorem vimLater_resets (op p : Nat) : (s.vimLater op v p).vims.resets = s.vims.resets := by
  simp only [State.vimLater, State.vimCount, State.vimResult, State.wf_frame, State.mVims_vims]

end

section
variable {s t : State} {ps : List Part} {ks : List Nat} (h : Frame ps ks s t)
include h

theorem Frame.setVi {v : Nat} (hk : viReg v 0 ∈ ks) (st : Nat) : Frame ps ks s (t.setVi v st) := h.wf hk ..

theorem Frame.vimNow {v : Nat} (hk : 0x0040001C ∈ ks) (hv : viReg v 0 ∈ ks) (st : Status) : Frame ps ks s (t.vimNow v st) := (h.wf hk ..).wf hv ..

theorem Frame.vimLater (hp : Part.vims ∈ ps) (hk : 0x0040001C ∈ ks) (op v p : Nat) : Frame ps ks s (t.vimLater op v p) :=
  ((h.mVims hp _).wf hk ..).wf hk ..

end

/-! ### A pending command that completes -/

/-- A command that ends, before its event: no command is pending, and LAST shows its status. -/
def State.vimEnds (s : State) (v : Nat) (st : Status) : State :=
  ((s.mVims fun m => { m with ops := tset none m.ops v none }).vimCount).vimLast v st

section
variable {s : State} {v : Nat}

theorem vimDone_ends {o : VimOp} (ho : tget none s.vims.ops v = some o) (st : Status) : s.vimDone v st =
    (s.vimEnds v st).emitPf 0x05 st (o.op * 2 ^ 24 + (s.vimEnds v st).viState v * 2 ^ 16 + v) := by
  simp only [State.vimDone, ho, State.vimEnds]

variable (s v)

theorem vimEnds_viState (st : Status) : (s.vimEnds v st).viState v = s.viState v := by
  rw [State.vimEnds, vimLast_viState, vimCount_viState]
  rfl

theorem vimEnds_ops (st : Status) : tget none (s.vimEnds v st).vims.ops v = none := by
  simp only [State.vimEnds, State.vimLast, State.vimCount, State.wf_frame, State.mVims_vims, tget_tset_same]

theorem setVi_now (st : Nat) : (s.setVi v st).now = s.now := by simp only [State.setVi, State.wf_frame]

theorem setVi_vims (st : Nat) : (s.setVi v st).vims = s.vims := by simp only [State.setVi, State.wf_frame]

end

theorem Frame.vimEnds {s t : State} {ps : List Part} {ks : List Nat} (h : Frame ps ks s t) {v : Nat} (hp : Part.vims ∈ ps) (hk : 0x0040001C ∈ ks)
    (hv : viReg v 0 ∈ ks) (st : Status) : Frame ps ks s (t.vimEnds v st) := ((h.mVims hp _).wf hk ..).wf hv ..

theorem vimPending_some {s : State} {v : Nat} {o : VimOp} {ops : List Nat} (ho : tget none s.vims.ops v = some o) (hop : o.op ∈ ops) :
    s.vimPending v ops = some o := by
  simp only [State.vimPending, ho, List.contains_iff_mem.mpr hop, if_true]

/-! ### Thaw -/

theorem viThaw_viState (s : State) {v : Nat} (hv : v < 128) : (s.viThaw v).viState v = 1 := by
  unfold State.viThaw
  dsimp only
  rw [viState_congr (emit_viWord _ hv (.inl hv) ..)]
  refine (viState_congr ?_).trans (setVi_viState s v 1)
  rw [State.mVims_rd]
  split
  · exact State.mDisplay_rd ..
  · rfl

/-! ### The clauses of freeze, thaw, save and restore -/

section
variable {s u : State} {dt v : Nat} (hu : u = s.tick dt)
include hu

section
variable {x : State} {r : Req} {ext : Option Bytes} {p : Nat}

theorem freeze_taken (h : u.vimTakes x r 5 v ext p) : exec (.freeze dt r v ext) s = .next ((x.setVi v 3).vimLater 5 v p) := by
  rw [exec_freeze, execFreeze, ← hu, vimCmd_taken h]

theorem save_taken (h : u.vimTakes x r 7 v ext p) : exec (.save dt r v ext) s = .next ((x.setVi v 5).vimLater 7 v p) := by
  rw [exec_save, execSave, ← hu, vimCmd_taken h]

theorem restore_taken (h : u.vimTakes x r 8 v ext p) : exec (.restore dt r v ext) s = .next ((x.setVi v 6).vimLater 8 v p) := by
  rw [exec_restore, execRestore, ← hu, vimCmd_taken h]

theorem thaw_taken (h : u.vimTakes x r 6 v ext p) : exec (.thaw dt r v ext) s =
    .next (if tget [] x.vims.retrans v = [] then (x.viThaw v).vimNow v .ok else x.vimLater 6 v p) := by
  rw [exec_thaw, execThaw, ← hu, vimCmd_taken h]

end

variable {o : VimOp} (ho : tget none u.vims.ops v = some o)
include ho

theorem freezeComplete_next (hop : o.op = 5) (hq : u.viQuiet v = true) :
    exec (.freezeComplete dt v) s = .next ((u.setVi v 4).vimDone v .ok) := by
  simp only [exec_freezeComplete, execFreezeComplete, ← hu, vimPending_some ho (show o.op ∈ [5] by simp [hop]), Option.isSome_some, hq, and_self, if_true]

theorem viFreezeTimeout_next (hop : o.op = 5) (hdue : o.at_ + u.rf 0x00400004 17 0 * 1000 ≤ u.now)
    (hfree : ∀ q ∈ u.viQueues v, u.qClusters q = 0) :
    exec (.viFreezeTimeout dt v) s = .next (((u.setVi v 1).emit pfWin 0x0B .timeout 0 v).vimDone v .timeout) := by
  have hnone : (u.viQueues v).find? (fun q => u.qClusters q != 0) = none :=
    List.find?_eq_none.mpr fun q hq => by simp [hfree q hq]
  simp only [exec_viFreezeTimeout, execViFreezeTimeout, ← hu, vimPending_some ho (show o.op ∈ [5] by simp [hop]), Nat.not_lt.mpr hdue, if_false, hnone]

theorem saveComplete_next (hop : o.op = 7) {b : Bytes} {y : State} (hb : b = u.imageBytes v) (hy : y = (u.wr (viReg v 0x38) b.length).setVi v 4) :
    exec (.saveComplete dt v) s = .next (if vpLen o.par * 4096 < b.length then y.vimDone v .badGeometry
      else (y.store pfWin 6 (vpAddr o.par) b).2.vimDone v (if (y.store pfWin 6 (vpAddr o.par) b).1 then .ok else .fault)) := by
  simp only [exec_saveComplete, execSaveComplete, ← hu, vimPending_some ho (show o.op ∈ [7] by simp [hop]), ← hb, ← hy]
  rcases y.store pfWin 6 (vpAddr o.par) b with ⟨ok, z⟩
  split
  · rfl
  · cases ok <;> rfl

theorem restoreComplete_fault (hop : o.op = 8) {ext : Option Bytes} {x : State}
    (hread : u.fetch pfWin 6 (vpAddr o.par) (vpLen o.par * 4096) ext = (none, x)) :
    exec (.restoreComplete dt v ext) s = .next ((x.setVi v 4).vimDone v .fault) := by
  simp only [exec_restoreComplete, execRestoreComplete, ← hu, vimPending_some ho (show o.op ∈ [8] by simp [hop]), hread]

theorem restoreComplete_read (hop : o.op = 8) {ext : Option Bytes} {b : Bytes} {x : State}
    (hread : u.fetch pfWin 6 (vpAddr o.par) (vpLen o.par * 4096) ext = (some b, x)) :
    exec (.restoreComplete dt v ext) s = .next (match (x.setVi v 4).restoreStatus v b (Config.openImage b), Config.openImage b with
      | .ok, some m => ((x.setVi v 4).restoreApply v (leNat (b.take 64)) m).vimDone v .ok
      | st, _ => (x.setVi v 4).vimDone v st) := by
  simp only [exec_restoreComplete, execRestoreComplete, ← hu, vimPending_some ho (show o.op ∈ [8] by simp [hop]), hread]
  generalize (x.setVi v 4).restoreStatus v b (Config.openImage b) = st
  generalize Config.openImage b = img
  cases img <;> cases st <;> rfl

end

theorem thawRetranslationDone_none {s u : State} {dt v : Nat} {hosts : List HostRun} {o : VimOp} (hu : u = s.tickMem dt hosts)
    (ho : tget none u.vims.ops v = some o) (hop : o.op = 6) (hnone : tget [] u.vims.retrans v = []) (vs : List Verdict) :
    exec (.thawRetranslationDone dt v vs hosts) s =
      .next (((u.mVims fun m => { m with retrans := tset [] m.retrans v [] }).viThaw v).vimDone v .ok) := by
  simp only [exec_thawRetranslationDone, execThawRetranslationDone, ← hu, vimPending_some ho (show o.op ∈ [6] by simp [hop]), hnone,
    State.retranslateAll]

/-- Settles O39: each command is taken as `vimCheck` found it, leaves the state it is in as a pending one (`vimLater`), and ends through `vimDone`
once its condition holds. -/
theorem instanceFreeze : Obligations.InstanceFreeze := by
  unfold Obligations.InstanceFreeze
  refine ⟨fun dt v p r ext s u x hu hv => ⟨fun h => ?freeze, fun h => ?save, fun h => ?restore, fun h hnone => ?thaw, fun h hsome => ?thawLater⟩,
    fun dt v o s u hu hv ho => ⟨fun hop hq => ?frozen, fun hop hdue hfree => ?timeout, fun b y hop hb hy => saveComplete_next hu ho hop hb hy,
      fun ext x hop hread => restoreComplete_fault hu ho hop hread, fun ext b x hop hread => restoreComplete_read hu ho hop hread⟩,
    fun dt v o vs hosts s u hu hv ho hop hnone => ?retranslated, fun v s hv => viThaw_viState s hv⟩
  case freeze =>
    exact ⟨_, freeze_taken hu h, by rw [vimLater_viState, setVi_viState], by rw [vimLater_ops, setVi_now, vimTakes_eq h], vimLater_shown ..,
      ((Frame.refl ..).setVi (by simp) _).vimLater (by simp) (by simp) ..⟩
  case save =>
    exact ⟨_, save_taken hu h, by rw [vimLater_viState, setVi_viState], by rw [vimLater_ops, setVi_now, vimTakes_eq h],
      ((Frame.refl ..).setVi (by simp) _).vimLater (by simp) (by simp) ..⟩
  case restore =>
    exact ⟨_, restore_taken hu h, by rw [vimLater_viState, setVi_viState], by rw [vimLater_ops, setVi_now, vimTakes_eq h],
      ((Frame.refl ..).setVi (by simp) _).vimLater (by simp) (by simp) ..⟩
  case thaw =>
    exact ⟨_, by rw [thaw_taken hu h, if_pos hnone], rfl, by rw [vimNow_viState, viThaw_viState x hv], vimNow_shown ..⟩
  case thawLater =>
    exact ⟨_, by rw [thaw_taken hu h, if_neg hsome], vimLater_viState .., by rw [vimLater_ops, vimTakes_eq h],
      (Frame.refl ..).vimLater (by simp) (by simp) ..⟩
  case frozen =>
    have hst : ((u.setVi v 4).vimEnds v .ok).viState v = 4 := by rw [vimEnds_viState, setVi_viState]
    refine ⟨(u.setVi v 4).vimEnds v .ok, ?_, hst, vimEnds_ops .., vimLast_last .., ((Frame.refl ..).setVi (by simp) _).vimEnds (by simp) (by simp) (by simp) _⟩
    rw [freezeComplete_next hu ho hop hq, vimDone_ends (by rw [setVi_vims]; exact ho), hst, hop]
  case timeout =>
    exact ⟨u.setVi v 1, viFreezeTimeout_next hu ho hop hdue hfree, setVi_viState .., (Frame.refl ..).setVi (by simp) _⟩
  case retranslated =>
    exact ⟨_, thawRetranslationDone_none hu ho hop hnone vs, by rw [State.mVims_vims, tget_tset_same], (Frame.refl ..).mVims (by simp) _⟩

end Sys2Proof.Machine
end

section
/-!
PROOFS. The flash: write-backs, START_CMD, the manager's commands, and what a device reset leaves (R539, R580, R592 to R595, R600 to R603).
-/
namespace Sys2Proof.Machine

theorem exec_hostOwnWrite (dt : Nat) (r : Req) (v : Word) (s : State) : exec (.hostOwnWrite dt r v) s = execHostOwnWrite dt r v s := rfl
theorem exec_nvmErase (dt len : Nat) (r : Req) (s : State) : exec (.nvmErase dt r len) s = execNvmErase dt r len s := rfl
theorem exec_nvmProgram (dt len : Nat) (r : Req) (s : State) : exec (.nvmProgram dt r len) s = execNvmProgram dt r len s := rfl
theorem exec_nvmRead (dt len : Nat) (r : Req) (s : State) : exec (.nvmRead dt r len) s = execNvmRead dt r len s := rfl
theorem exec_nvmCmdDone (dt : Nat) (ok : Bool) (hosts : List HostRun) (s : State) : exec (.nvmCmdDone dt ok hosts) s = execNvmCmdDone dt ok hosts s := rfl

/-! ### The flash and the active slot -/

theorem activeSlot_congr {s t : State} (h : t.rd 0x00200000 = s.rd 0x00200000) : t.activeSlot = s.activeSlot := by
  rw [State.activeSlot, rf_congr h, State.activeSlot]

theorem freeBytes_start : ∀ (n : Nat) (s : State), (s.freeBytes n).2.start = s.start
  | 0, _ => rfl
  | n + 1, s => freeBytes_start n { s with freeCount := s.freeCount + 1 }

section
variable {s t : State} {ps : List Part} {ks : List Nat} (h : Frame ps ks s t)
include h

theorem Frame.freeBytes (hp : Part.free ∈ ps) (n : Nat) : Frame ps ks s (t.freeBytes n).2 := by
  induction n generalizing t with
  | zero => exact h
  | succ n ih => exact ih (h.freeWord hp)

theorem Frame.flashPut (hp : Part.start ∈ ps) (a : Nat) (bs : Bytes) : Frame ps ks s (t.flashPut a bs) := h.mStart hp _

theorem Frame.flashFree (hf : Part.free ∈ ps) (hp : Part.start ∈ ps) (a n : Nat) : Frame ps ks s (t.flashFree a n) := (h.freeBytes hf n).flashPut hp ..

theorem Frame.flashCut (hf : Part.free ∈ ps) (hp : Part.start ∈ ps) : Frame ps ks s t.flashCut := by
  have harea : Frame ps ks s (match t.start.writing with
      | some area => (match t.writePlace area with | some (_, a, _) => t.flashFree a 64 | none => t)
      | none => t) := by
    split
    · split
      · exact h.flashFree hf hp ..
      · exact h
    · exact h
  unfold State.flashCut
  dsimp only
  split
  · exact Frame.ite harea (harea.flashFree hf hp ..)
  · exact harea

end

/-! ### What is asked to be written -/

/-- A write-back may be asked for: there is an active slot, and the device is not degraded (R592, R675). -/
def State.mayWrite (s : State) : Prop := s.activeSlot ≠ none ∧ s.husk.degraded = false

/-- The state with a write-back asked for. -/
def State.asked (s : State) (area : Nat) : State := s.mStart fun t => { t with writes := t.writes ++ [area] }

section
variable {s : State} (hmay : s.mayWrite)
include hmay

theorem askWrite_new {area : Nat} (hnew : area ∉ s.start.writes) : s.askWrite area = s.asked area := by
  obtain ⟨hslot, hdeg⟩ := hmay
  have hsome : s.activeSlot.isNone = false := by rwa [Option.isNone_eq_false_iff, Option.isSome_iff_ne_none]
  have hin : s.start.writes.contains area = false := by rwa [List.contains_eq_mem, decide_eq_false_iff_not]
  simp only [State.askWrite, State.asked, hsome, hdeg, hin, Bool.or_self, Bool.false_eq_true, if_false]

theorem mayWrite_congr {t : State} (hrd : t.rd 0x00200000 = s.rd 0x00200000) (hh : t.husk = s.husk) : t.mayWrite :=
  ⟨activeSlot_congr hrd ▸ hmay.1, hh ▸ hmay.2⟩

end

/-- The first write-back that is asked for begins when the flash is free. -/
theorem nextWrite_begins {s : State} {a : Nat} {r : List Nat} (hw : s.start.writes = a :: r) (hidle : s.start.writing = none) (hnvm : s.start.nvm = none)
    (hown : s.rb 0x00200030 31 = false) :
    s.nextWrite = s.mStart fun t => { t with writing := some a, writes := r, psetDue := if a = 1 then none else t.psetDue } := by
  simp only [State.nextWrite, hw, hidle, hnvm, hown, Option.isSome_none, Bool.or_self, Bool.false_eq_true, if_false]

/-- The flash is free, nothing is asked for, and a write-back may be. -/
structure State.FlashIdle (s : State) : Prop where
  may : s.mayWrite
  writes : s.start.writes = []
  writing : s.start.writing = none
  nvm : s.start.nvm = none
  own : s.rb 0x00200030 31 = false

namespace State.FlashIdle
variable {s : State} (h : s.FlashIdle)
include h

theorem ask_one (area : Nat) : (s.askWrite area).nextWrite = s.mStart fun t =>
    { t with writing := some area, writes := [], psetDue := if area = 1 then none else t.psetDue } := by
  have hw : (s.asked area).start.writes = [area] := by simp [State.asked, h.writes]
  rw [askWrite_new h.may (by rw [h.writes]; exact List.not_mem_nil), nextWrite_begins (s := s.asked area) hw h.writing h.nvm h.own]
  rfl

theorem ask_both : ((s.askWrite 1).askWrite 2).nextWrite = s.mStart fun t => { t with writing := some 1, writes := [2], psetDue := none } := by
  have hw : (s.asked 1).start.writes = [1] := by simp [State.asked, h.writes]
  have hw' : ((s.asked 1).asked 2).start.writes = [1, 2] := by simp [State.asked, h.writes]
  rw [askWrite_new h.may (by rw [h.writes]; exact List.not_mem_nil),
    askWrite_new (s := s.asked 1) (mayWrite_congr h.may (State.mStart_rd ..) rfl) (by rw [hw]; decide),
    nextWrite_begins (s := (s.asked 1).asked 2) hw' h.writing h.nvm h.own]
  rfl

end State.FlashIdle

/-! ### The manager's access (R594) -/

theorem hostOwnWrite_release {s u : State} {dt : Nat} {r : Req} {v : Word} (hu : u = s.tick dt) (hp : pathWin r.path = pfWin)
    (hown : u.rb 0x00200030 31 = true) (hv : bit v.toNat 31 = false) (hidle : (u.wb 0x00200030 31 false).FlashIdle) :
    exec (.hostOwnWrite dt r v) s = .next ((u.wb 0x00200030 31 false).mStart fun t => { t with writing := some 1, writes := [2], psetDue := none }) := by
  simp only [exec_hostOwnWrite, execHostOwnWrite, ← hu, hp, ne_eq, not_true, if_false, hown, hv, Bool.not_false, Bool.and_self, if_true, hidle.ask_both]

theorem hostOwnWrite_other {s u : State} {dt : Nat} {r : Req} {v : Word} (hu : u = s.tick dt) (hp : pathWin r.path = pfWin)
    (hno : ¬ (u.rb 0x00200030 31 = true ∧ bit v.toNat 31 = false)) : exec (.hostOwnWrite dt r v) s = .next (u.wb 0x00200030 31 (bit v.toNat 31)) := by
  have hcond : ¬ (u.rb 0x00200030 31 && !bit v.toNat 31) = true := by simpa using hno
  simp only [exec_hostOwnWrite, execHostOwnWrite, ← hu, hp, ne_eq, not_true, if_false, hcond, Bool.false_eq_true]

/-- The operand check of a flash command (R594). -/
def nvmBad (op : Nat) (o : NvmOp) : Bool :=
  if op = 1 then o.addr % 4096 != 0 || o.len == 0 else !(op == 2 || op == 3) || o.addr % 256 != 0 || o.len % 256 != 0 || o.buf % 256 != 0

/-- The operands of a flash command. -/
def State.nvmOp (s : State) (op len : Nat) : NvmOp := ⟨op, s.rd 0x00200038, s.rd64 0x00200040, len⟩

section
variable (s : State) (r : Req) (op len : Nat)

/-- The flash bytes a command covers lie beyond the flash. -/
def State.nvmOut : Bool := decide (s.flashSize < (s.nvmRange (s.nvmOp op len)).1 + (s.nvmRange (s.nvmOp op len)).2)

/-- A kept range is touched by an ERASE or a PROGRAM outside RECOVERY. -/
def State.nvmTouches : Bool :=
  (op == 1 || op == 2) && !(s.rf 0x00200000 31 28 == 5)
    && s.nvmKept.any fun k => overlap (s.nvmRange (s.nvmOp op len)).1 (s.nvmRange (s.nvmOp op len)).2 k.1 k.2

/-- What the region controller finds of a command whose operands pass, outside RECOVERY. -/
def State.nvmRegion : Option Nat :=
  if (s.rf 0x00200000 31 28 == 5) || nvmBad op (s.nvmOp op len) || s.nvmOut op len then none
  else s.rcDenied 3 (s.reqAttr r) (if op = 3 then 4 else 2) (s.nvmRange (s.nvmOp op len)).1 (s.nvmRange (s.nvmOp op len)).2

/-- The status of a command by its checks. -/
def State.nvmStatus : Status :=
  byR19 [(s.nvmTouches op len || (s.nvmRegion r op len).isSome, .denied), (!s.rb 0x00200030 31, .badState),
    (nvmBad op (s.nvmOp op len) || s.nvmOut op len, .badParam), (s.start.writing.isSome || s.start.nvm.isSome, .busy)]

variable {s r op len} (hp : pathWin r.path = pfWin)
include hp

theorem nvmCmd_begun (hst : s.nvmStatus r op len = .ok) :
    s.nvmCmd r op len = (s.wb 0x00200048 0 true).mStart fun t => { t with nvm := some (s.nvmOp op len) } := by
  unfold State.nvmStatus State.nvmTouches State.nvmRegion nvmBad State.nvmOut State.nvmOp at hst
  simp only [State.nvmCmd, hp, ne_eq, not_true, if_false]
  rw [hst]
  rfl

theorem nvmCmd_refused {st : Status} (hst : s.nvmStatus r op len = st) (hne : st ≠ .ok) (hun : s.nvmRegion r op len = none) :
    s.nvmCmd r op len = s.nvmResult st := by
  unfold State.nvmStatus State.nvmTouches at hst
  rw [hun] at hst
  unfold State.nvmRegion at hun
  unfold nvmBad State.nvmOut State.nvmOp at hst hun
  simp only [State.nvmCmd, hp, ne_eq, not_true, if_false]
  rw [hun, hst]
  split
  next => exact absurd rfl hne
  next => rfl

end

/-! ### The end of a flash command -/

/-- What a flash command does at its end: whether it was made, and the state after it. -/
def State.nvmEffect (v : State) (o : NvmOp) (a n : Nat) (ok : Bool) (hosts : List HostRun) : Bool × State :=
  match o.op with
  | 1 => if ok then (true, v.flashErase a n) else (false, v.flashFree a n)
  | 2 =>
    match v.fetch pfWin 6 o.buf n (runAt hosts pfWin o.buf n) with
    | (some b, s) => if ok then (true, s.flashPut a b) else (false, s.flashFree a n)
    | (none, s) => (false, s)
  | _ =>
    match v.flashRead a n with
    | some b => v.store pfWin 6 o.buf b
    | none => (false, v)

theorem execNvmCmdDone_eq (dt : Nat) (ok : Bool) (hosts : List HostRun) (s : State) :
    execNvmCmdDone dt ok hosts s = match (s.tickMem dt hosts).start.nvm with
    | none => .next (s.tickMem dt hosts)
    | some o => match (s.tickMem dt hosts).nvmRange o with
      | (a, n) => match (((s.tickMem dt hosts).wb 0x00200048 0 false).mStart fun t => { t with nvm := none }).nvmEffect o a n ok hosts with
        | (good, x) => .next (x.nvmResult (if good then .ok else .fault)).nextWrite := rfl

section
variable {s u v : State} {dt a n : Nat} {ok : Bool} {hosts : List HostRun} {o : NvmOp} (hu : u = s.tickMem dt hosts) (ho : u.start.nvm = some o)
  (hr : (a, n) = u.nvmRange o) (hv : v = (u.wb 0x00200048 0 false).mStart fun t => { t with nvm := none })
include hu ho hr hv

theorem nvmCmdDone_next {g : Bool} {x : State} (he : v.nvmEffect o a n ok hosts = (g, x)) :
    exec (.nvmCmdDone dt ok hosts) s = .next (x.nvmResult (if g then .ok else .fault)).nextWrite := by
  rw [exec_nvmCmdDone, execNvmCmdDone_eq, ← hu]
  split
  next hnone => cases ho.symm.trans hnone
  next o' ho' =>
    cases ho.symm.trans ho'
    rw [← hr, ← hv]
    show (match v.nvmEffect o a n ok hosts with | (good, x) => Host.Outcome.next (x.nvmResult (if good then .ok else .fault)).nextWrite) = _
    rw [he]

theorem nvmCmdDone_erase (hop : o.op = 1) : exec (.nvmCmdDone dt ok hosts) s =
    .next (((if ok then v.flashErase a n else v.flashFree a n).nvmResult (if ok then .ok else .fault)).nextWrite) :=
  nvmCmdDone_next hu ho hr hv (by rw [State.nvmEffect, hop]; cases ok <;> rfl)

theorem nvmCmdDone_read (hop : o.op = 3) {b : Bytes} {g : Bool} {x : State} (hread : v.flashRead a n = some b)
    (hstore : v.store pfWin 6 o.buf b = (g, x)) :
    exec (.nvmCmdDone dt ok hosts) s = .next (x.nvmResult (if g then .ok else .fault)).nextWrite :=
  nvmCmdDone_next hu ho hr hv (by simp only [State.nvmEffect, hop, hread, hstore])

theorem nvmCmdDone_unread (hop : o.op = 3) (hread : v.flashRead a n = none) :
    exec (.nvmCmdDone dt ok hosts) s = .next (v.nvmResult .fault).nextWrite :=
  nvmCmdDone_next hu ho hr hv (g := false) (by simp only [State.nvmEffect, hop, hread])

theorem nvmCmdDone_program (hop : o.op = 2) {b : Bytes} {x : State} (hread : v.fetch pfWin 6 o.buf n (runAt hosts pfWin o.buf n) = (some b, x)) :
    exec (.nvmCmdDone dt ok hosts) s = .next (((if ok then x.flashPut a b else x.flashFree a n).nvmResult (if ok then .ok else .fault)).nextWrite) :=
  nvmCmdDone_next hu ho hr hv (by simp only [State.nvmEffect, hop, hread]; cases ok <;> rfl)

theorem nvmCmdDone_unfetched (hop : o.op = 2) {x : State} (hread : v.fetch pfWin 6 o.buf n (runAt hosts pfWin o.buf n) = (none, x)) :
    exec (.nvmCmdDone dt ok hosts) s = .next (x.nvmResult .fault).nextWrite :=
  nvmCmdDone_next hu ho hr hv (g := false) (by simp only [State.nvmEffect, hop, hread])

end

theorem nvmCmdDone_idle {s u : State} {dt : Nat} {ok : Bool} {hosts : List HostRun} (hu : u = s.tickMem dt hosts) (ho : u.start.nvm = none) :
    exec (.nvmCmdDone dt ok hosts) s = .next u := by
  simp only [exec_nvmCmdDone, execNvmCmdDone, ← hu, ho]

theorem flashErase_flash (u : State) (a n k : Nat) :
    tget 0xFF (u.flashErase a n).start.flash k = if a ≤ k ∧ k < a + n then 0xFF else tget 0xFF u.start.flash k := tget_tcut ..

/-! ### The manager's commands: which of them begin, and how one is refused -/

/-- A command of the manager is an ERASE, a PROGRAM or a READ. -/
theorem nvmCmd_exec {s u : State} {dt op len : Nat} {r : Req} {i : Instr} (hu : u = s.tick dt)
    (hi : (op = 1 ∧ i = .nvmErase dt r len) ∨ (op = 2 ∧ i = .nvmProgram dt r len) ∨ (op = 3 ∧ i = .nvmRead dt r len)) :
    exec i s = .next (u.nvmCmd r op len) := by
  rw [hu]
  rcases hi with ⟨rfl, rfl⟩ | ⟨rfl, rfl⟩ | ⟨rfl, rfl⟩ <;> rfl

/-- Settles O51: each command is `nvmCmd` of its operation, whose status `nvmStatus` ranks the checks by R19 (log entry 62). -/
theorem flashCommands : Obligations.FlashCommands := by
  unfold Obligations.FlashCommands
  refine ⟨fun dt r v s u hu hp => ⟨fun hno => hostOwnWrite_other hu hp hno, fun hown hv hslot hdeg hws hw hn => ?release⟩,
    fun dt op len a n r o i bad recovery s u hu hp hi ho hr hrec hbad => ?commands,
    fun dt a n ok hosts o s u v hu ho hr hv => ?done, fun dt ok hosts s u hu ho => nvmCmdDone_idle hu ho, fun a n k u => flashErase_flash u a n k⟩
  case release =>
    have hidle : (u.wb 0x00200030 31 false).FlashIdle :=
      ⟨⟨by rwa [activeSlot_congr (rd_wb_ne u (by omega))], by simpa only [State.wb_frame] using hdeg⟩, by simpa only [State.wb_frame] using hws,
        by simpa only [State.wb_frame] using hw, by simpa only [State.wb_frame] using hn, rb_wb_same _ _ _ (by omega)⟩
    refine ⟨_, hostOwnWrite_release hu hp hown hv hidle, ?_, ?_, ((Frame.refl ..).wb (by simp) ..).mStart (by simp) _⟩
    · simp only [State.mStart_start, State.wb_frame]
    · rw [rb_congr (State.mStart_rd ..), rb_wb_same _ _ _ (by omega)]
  case done =>
    exact ⟨fun hop => nvmCmdDone_erase hu ho hr hv hop, fun hop b g x hread hstore => nvmCmdDone_read hu ho hr hv hop hread hstore,
      fun hop hread => nvmCmdDone_unread hu ho hr hv hop hread, fun hop b x hread => nvmCmdDone_program hu ho hr hv hop hread,
      fun hop x hread => nvmCmdDone_unfetched hu ho hr hv hop hread⟩
  case commands =>
    have hop : op = 1 ∨ op = 2 ∨ op = 3 := hi.imp And.left (Or.imp And.left And.left)
    have hrange : a = (u.nvmRange (u.nvmOp op len)).1 ∧ n = (u.nvmRange (u.nvmOp op len)).2 := by
      rw [ho] at hr
      exact ⟨congrArg Prod.fst hr, congrArg Prod.snd hr⟩
    obtain ⟨ha, hn⟩ := hrange
    have hbad' : nvmBad op (u.nvmOp op len) = bad := by
      rw [hbad, ho, nvmBad]
      rcases hop with rfl | rfl | rfl <;> rfl
    have hout : u.nvmOut op len = decide (u.flashSize < a + n) := by rw [State.nvmOut, ha, hn]
    have htouch : u.nvmTouches op len = ((op == 1 || op == 2) && !recovery && u.nvmKept.any fun k => overlap a n k.1 k.2) := by
      rw [State.nvmTouches, hrec, ha, hn]
    have hregion : u.nvmRegion r op len = if recovery || bad || decide (u.flashSize < a + n) then none
        else u.rcDenied 3 (u.reqAttr r) (if op = 3 then 4 else 2) a n := by
      rw [State.nvmRegion, hout, hbad', ← hrec, ha, hn]
    have hstatus : u.nvmStatus r op len = byR19 [(u.nvmTouches op len || (u.nvmRegion r op len).isSome, .denied), (!u.rb 0x00200030 31, .badState),
        (bad || decide (u.flashSize < a + n), .badParam), (u.start.writing.isSome || u.start.nvm.isSome, .busy)] := by
      rw [State.nvmStatus, hbad', hout]
    have hfree (hr : recovery = true) : u.nvmRegion r op len = none ∧ u.nvmTouches op len = false :=
      ⟨by rw [hregion, hr]; rfl, by rw [htouch, hr, Bool.not_true, Bool.and_false, Bool.false_and]⟩
    rw [nvmCmd_exec hu hi]
    refine ⟨fun hown hb hfit hw hno hguard => ?begun, fun hr hown => ?badState, fun hr hown hbo => ?badParam,
      fun hr hown hb hfit hbusy => ?busy, fun hr hop3 hkept hbo => ?denied⟩
    case begun =>
      have hin : decide (u.flashSize < a + n) = false := decide_eq_false (Nat.not_lt.mpr hfit)
      have htouched : u.nvmTouches op len = false := by
        rw [htouch]
        rcases hguard with hrecovery | ⟨rfl | hfree, -⟩
        · rw [hrecovery, Bool.not_true, Bool.and_false, Bool.false_and]
        · rfl
        · rw [List.any_eq_false.mpr fun k hk => by rw [hfree k hk]; decide, Bool.and_false]
      have hasked : u.nvmRegion r op len = none := by
        rw [hregion]
        split
        · rfl
        next hasks =>
          rcases hguard with hrecovery | ⟨-, hdenied⟩
          · exact absurd (by rw [hrecovery]; rfl) hasks
          · exact hdenied
      have hok : u.nvmStatus r op len = .ok := by rw [hstatus, htouched, hasked, hown, hb, hin, hw, hno]; rfl
      rw [nvmCmd_begun hp hok]
      refine ⟨_, rfl, ?_, ?_, ((Frame.refl ..).wb (by simp) ..).mStart (by simp) _⟩
      · rw [rb_congr (State.mStart_rd ..), rb_wb_same _ _ _ (by omega)]
      · simp only [State.mStart_start, State.wb_frame, ho, State.nvmOp]
    case badState =>
      obtain ⟨hasked, htouched⟩ := hfree hr
      have hst : u.nvmStatus r op len = .badState := by
        rw [hstatus, htouched, hasked, hown]
        cases bad || decide (u.flashSize < a + n) <;> cases u.start.writing.isSome || u.start.nvm.isSome <;> rfl
      rw [nvmCmd_refused hp hst (by decide) hasked]
      rfl
    case badParam =>
      obtain ⟨hasked, htouched⟩ := hfree hr
      have hwrong : (bad || decide (u.flashSize < a + n)) = true := by simpa using hbo
      have hst : u.nvmStatus r op len = .badParam := by
        rw [hstatus, htouched, hasked, hown, hwrong]
        cases u.start.writing.isSome || u.start.nvm.isSome <;> rfl
      rw [nvmCmd_refused hp hst (by decide) hasked]
      rfl
    case busy =>
      obtain ⟨hasked, htouched⟩ := hfree hr
      have hin : decide (u.flashSize < a + n) = false := decide_eq_false (Nat.not_lt.mpr hfit)
      have hrun : (u.start.writing.isSome || u.start.nvm.isSome) = true := by rw [Option.isSome_iff_ne_none.mpr hbusy, Bool.or_true]
      have hst : u.nvmStatus r op len = .busy := by rw [hstatus, htouched, hasked, hown, hb, hin, hrun]; rfl
      rw [nvmCmd_refused hp hst (by decide) hasked]
      rfl
    case denied =>
      have hwrong : (bad || decide (u.flashSize < a + n)) = true := by simpa using hbo
      have hasked : u.nvmRegion r op len = none := by rw [hregion, Bool.or_assoc, hwrong, Bool.or_true]; rfl
      have htouched : u.nvmTouches op len = true := by
        obtain ⟨k, hk, hover⟩ := hkept
        rw [htouch, hr, List.any_eq_true.mpr ⟨k, hk, hover⟩]
        rcases hop with rfl | rfl | rfl
        · rfl
        · rfl
        · exact absurd rfl hop3
      have hst : u.nvmStatus r op len = .denied := by
        rw [hstatus, htouched, hwrong]
        cases u.rb 0x00200030 31 <;> cases u.start.writing.isSome || u.start.nvm.isSome <;> rfl
      rw [nvmCmd_refused hp hst (by decide) hasked]
      rfl

end Sys2Proof.Machine
end

section
/-!
PROOFS. A device reset, START_CMD and the write-backs (R539, R580, R592, R593, R595, R600 to R603).
-/
namespace Sys2Proof.Machine

theorem exec_confirm (dt : Nat) (r : Req) (s : State) : exec (.confirm dt r) s = execConfirm dt r s := rfl
theorem exec_shutdown (dt : Nat) (r : Req) (s : State) : exec (.shutdown dt r) s = execShutdown dt r s := rfl
theorem exec_psetFlush (dt : Nat) (r : Req) (s : State) : exec (.psetFlush dt r) s = execPsetFlush dt r s := rfl
theorem exec_startCmdRestart (dt : Nat) (r : Req) (s : State) : exec (.startCmdRestart dt r) s = execStartCmdRestart dt r s := rfl
theorem exec_clearMarks (dt : Nat) (r : Req) (s : State) : exec (.clearMarks dt r) s = execClearMarks dt r s := rfl
theorem exec_shutdownDone (dt : Nat) (s : State) : exec (.shutdownDone dt) s = execShutdownDone dt s := rfl
theorem exec_psetWriteDue (dt : Nat) (s : State) : exec (.psetWriteDue dt) s = execPsetWriteDue dt s := rfl
theorem exec_recorderFlush (dt : Nat) (s : State) : exec (.recorderFlush dt) s = execRecorderFlush dt s := rfl
theorem exec_nvmWrite (dt : Nat) (ok : Bool) (s : State) : exec (.nvmWrite dt ok) s = execNvmWrite dt ok s := rfl

/-! ### A device reset -/

theorem tget_filter_key {α : Type} (d : α) (p : Nat → Bool) (k : Nat) : ∀ m : Tbl α,
    tget d (m.filter fun c => p c.1) k = if p k then tget d m k else d
  | [] => by simp [tget]
  | (j, v) :: m => by
    by_cases hj : p j <;> by_cases hk : k = j
    · simp [hj, hk, tget]
    · simp [hj, hk, tget, tget_filter_key d p k m]
    · have hout : p k = false := by simpa [hk] using hj
      simp [hj, tget_filter_key d p k m, hout]
    · simp [hj, hk, tget, tget_filter_key d p k m]

/-- A device reset before the two registers it writes: everything outside AON at its value after reset. -/
def State.resetHeld (s : State) (sleep : Bool) : State :=
  { State.reset with
    pending := s.pending, now := s.now, variant := s.variant, freeCount := s.freeCount, lastRead := s.lastRead,
    regs := s.regs.filter fun c => aonHeld sleep c.1, hostMem := s.hostMem, recs := { s.recs with heldCnt := [], ranDom := [] },
    seed := { stack1 := if s.row.seedbankMiB = 16384 then 1 else 0 },
    start := { flash := s.start.flash, flashBad := s.start.flashBad, spares := s.start.spares, rollback := s.start.rollback },
    power := { pwrgood := s.power.pwrgood, goodAt := s.power.goodAt, safeLow := s.power.safeLow, aonLow := s.power.aonLow,
               slowTold := s.power.slowTold, thermtrip := s.power.thermtrip, critical := s.power.critical,
               critCool := s.power.critCool, touchOwed := s.power.touchOwed,
               wakeOwed := s.power.wakeOwed, critOwed := s.power.critOwed } }

theorem deviceReset_eq (s : State) (sleep : Bool) : s.deviceReset sleep =
    ((s.flashCut.resetHeld sleep).wr 0x00180000 ((s.flashCut.resetHeld sleep).row.capDefaultW * 10)).wr 0x00200004
      (s.flashCut.rf 0x00200004 29 28 * 2 ^ 28) := rfl

theorem resetHeld_rd (s : State) (sleep : Bool) (k : Nat) : (s.resetHeld sleep).rd k = if aonHeld sleep k then s.rd k else regReset k % 2 ^ 32 := by
  have hget : tget (BitVec.ofNat 32 (regReset k)) (s.resetHeld sleep).regs k = if aonHeld sleep k then tget (BitVec.ofNat 32 (regReset k)) s.regs k
      else BitVec.ofNat 32 (regReset k) := tget_filter_key _ (aonHeld sleep) k s.regs
  rw [State.rd, hget, State.rd]
  split
  · rfl
  · exact BitVec.toNat_ofNat ..

/-- Free bytes move the count of free values alone. -/
theorem freeBytes_only (n : Nat) (s : State) : ∃ c, (s.freeBytes n).2 = { s with freeCount := c } := by
  induction n generalizing s with
  | zero => exact ⟨s.freeCount, rfl⟩
  | succ n ih =>
    obtain ⟨c, hc⟩ := ih { s with freeCount := s.freeCount + 1 }
    exact ⟨c, hc⟩

theorem flashFree_only (s : State) (a n : Nat) : ∃ c st, s.flashFree a n = { s with freeCount := c, start := st } := by
  obtain ⟨c, hc⟩ := freeBytes_only n s
  refine ⟨c, ((s.freeBytes n).2.flashPut a (s.freeBytes n).1).start, ?_⟩
  show (s.freeBytes n).2.flashPut a (s.freeBytes n).1 = _
  rw [hc]
  rfl

/-- The state after the area write that is cut off. -/
def State.areaCut (s : State) : State :=
  match s.start.writing with
  | some area => (match s.writePlace area with | some (_, a, _) => s.flashFree a 64 | none => s)
  | none => s

theorem flashCut_eq (s : State) : s.flashCut = match s.areaCut.start.nvm with
    | some o => if o.op = 3 then s.areaCut else s.areaCut.flashFree (s.areaCut.nvmRange o).1 (s.areaCut.nvmRange o).2
    | none => s.areaCut := rfl

theorem areaCut_only (s : State) : ∃ c st, s.areaCut = { s with freeCount := c, start := st } := by
  unfold State.areaCut
  split
  · split
    · exact flashFree_only s _ 64
    · exact ⟨s.freeCount, s.start, rfl⟩
  · exact ⟨s.freeCount, s.start, rfl⟩

/-- What is left of a write that is cut off changes the flash and the count of free values alone. -/
theorem flashCut_only (s : State) : ∃ c st, s.flashCut = { s with freeCount := c, start := st } := by
  obtain ⟨c, st, harea⟩ := areaCut_only s
  rw [flashCut_eq]
  split
  · split
    · exact ⟨c, st, harea⟩
    · obtain ⟨c', st', hn⟩ := flashFree_only s.areaCut _ _
      exact ⟨c', st', by rw [hn, harea]⟩
  · exact ⟨c, st, harea⟩

/-- What a device reset leaves (R539). -/
theorem deviceReset_resetFrom (s : State) (sleep : Bool) : ResetFrom sleep s (s.deviceReset sleep) := by
  obtain ⟨c, st, hcut⟩ := flashCut_only s
  have hrd (k : Nat) : s.flashCut.rd k = s.rd k := by rw [hcut]; rfl
  have hcap : aonHeld sleep 0x00180000 = false := by cases sleep <;> decide
  rw [deviceReset_eq]
  exact {
    kept := fun k hk hne => by
      have hne' : k ≠ 0x00180000 := fun e => by rw [e, hcap] at hk; cases hk
      rw [State.rd_wr_ne _ hne, State.rd_wr_ne _ hne', resetHeld_rd, if_pos hk, hrd]
    marks := by
      have hlt : s.rf 0x00200004 29 28 < 4 := Nat.mod_lt _ (by decide)
      rw [State.rd_wr_same, rf_congr (hrd _)]
      omega
    cleared := fun k hk hne => by
      have hne' : k ≠ 0x00200004 := fun e => by rw [e] at hk; cases sleep <;> exact absurd hk (by decide)
      rw [State.rd_wr_ne _ hne', State.rd_wr_ne _ hne, resetHeld_rd, if_neg (by rw [hk]; decide)]
    mem := fun a => by simp only [State.wr_frame]; rfl
    pips := by simp only [State.wr_frame]; rfl
    vims := by simp only [State.wr_frame]; rfl
    hostMem := by simp only [State.wr_frame]; rw [State.resetHeld, hcut]
    recs := by simp only [State.wr_frame]; rw [State.resetHeld, hcut]
    now := by simp only [State.wr_frame]; rw [State.resetHeld, hcut]
    queue := by simp only [State.wr_frame]; rw [State.resetHeld, hcut]
    variant := by simp only [State.wr_frame]; rw [State.resetHeld, hcut] }

/-! ### START_CMD -/

/-- A requester that START_CMD serves: a secure one, or any in RECOVERY (R601). -/
def State.startServes (s : State) (r : Req) : Prop := s.reqSecure r = true ∨ s.rf 0x00200000 31 28 = 5

theorem startServes_check {s : State} {r : Req} (h : s.startServes r) : (!s.reqSecure r && s.rf 0x00200000 31 28 != 5) = false := by
  rcases h with h | h <;> simp [h]

section
variable {s : State} {r : Req} {check : State → Status} {act : State → State} (hp : pathWin r.path = pfWin)
include hp

theorem startCmd_denied (hn : s.reqSecure r = false) (hph : s.rf 0x00200000 31 28 ≠ 5) (hc : check s = .ok ∨ check s = .badState) :
    s.startCmd r check act = s.startResult .denied := by
  have hden : (!s.reqSecure r && s.rf 0x00200000 31 28 != 5) = true := by simp [hn, hph]
  simp only [State.startCmd, hp, ne_eq, not_true, if_false, hden]
  rcases hc with hc | hc <;> rw [hc] <;> cases s.rb 0x00200024 0 <;> rfl

variable (hs : s.startServes r)
include hs

theorem startCmd_busy (hb : s.rb 0x00200024 0 = true) (hc : check s = .ok) : s.startCmd r check act = s.startResult .busy := by
  simp only [State.startCmd, hp, ne_eq, not_true, if_false, startServes_check hs, hb, hc]
  rfl

variable (hb : s.rb 0x00200024 0 = false)
include hb

theorem startCmd_taken (hc : check s = .ok) : s.startCmd r check act = act s := by
  simp only [State.startCmd, hp, ne_eq, not_true, if_false, startServes_check hs, hb, hc]
  rfl

theorem startCmd_badState (hc : check s = .badState) : s.startCmd r check act = s.startResult .badState := by
  simp only [State.startCmd, hp, ne_eq, not_true, if_false, startServes_check hs, hb, hc]
  rfl

end

theorem needsSlot_ok {s : State} (h : s.activeSlot ≠ none) : s.needsSlot = .ok := by
  rw [State.needsSlot, Option.isNone_eq_false_iff.mpr (Option.isSome_iff_ne_none.mpr h)]
  rfl

theorem needsSlot_badState {s : State} (h : s.activeSlot = none) : s.needsSlot = .badState := by
  rw [State.needsSlot, h]
  rfl

theorem needsSlot_cases (s : State) : s.needsSlot = .ok ∨ s.needsSlot = .badState := by
  by_cases h : s.activeSlot = none
  · exact .inr (needsSlot_badState h)
  · exact .inl (needsSlot_ok h)

/-- Each START_CMD command goes through `startCmd`, with a check that passes where its own condition holds and is BAD_STATE otherwise. -/
theorem startCmd_exec {s u : State} {dt : Nat} {r : Req} {i : Instr} (hu : u = s.tick dt)
    (hi : i = .confirm dt r ∨ i = .shutdown dt r ∨ i = .psetFlush dt r ∨ i = .startCmdRestart dt r ∨ i = .clearMarks dt r) :
    ∃ check act, exec i s = .next (u.startCmd r check act) ∧ (check u = .ok ∨ check u = .badState)
      ∧ (((i = .confirm dt r ∨ i = .psetFlush dt r) → u.activeSlot ≠ none) → (i = .shutdown dt r → u.rb 0x00200030 31 = false) → check u = .ok) := by
  subst hu
  rcases hi with rfl | rfl | rfl | rfl | rfl
  · exact ⟨_, _, rfl, needsSlot_cases _, fun h _ => needsSlot_ok (h (.inl rfl))⟩
  · refine ⟨_, _, rfl, ?_, fun _ h => if_neg (by rw [h rfl]; decide)⟩
    split
    · exact .inr rfl
    · exact .inl rfl
  · exact ⟨_, _, rfl, needsSlot_cases _, fun h _ => needsSlot_ok (h (.inr rfl))⟩
  · exact ⟨_, _, rfl, .inl rfl, fun _ _ => rfl⟩
  · exact ⟨_, _, rfl, .inl rfl, fun _ _ => rfl⟩

theorem startResult_shown (s : State) (st : Status) : (s.startResult st).rf 0x00200024 22 16 = st.code := by
  rw [State.startResult, rf_wf_same _ _ _ (by omega) (by omega)]
  exact Nat.mod_eq_of_lt st.code_lt

section
variable {s u : State} {dt : Nat} (hu : u = s.tick dt)
include hu

section
variable {r : Req} (hp : pathWin r.path = pfWin) (hs : u.startServes r) (hb : u.rb 0x00200024 0 = false)
include hp hs hb

theorem confirm_next (hslot : u.activeSlot ≠ none) : exec (.confirm dt r) s =
    .next (((u.mStart fun t => { t with rollback := max u.start.rollback (u.rf 0x00200018 7 0) }).wf 0x00200018 15 8
      (max u.start.rollback (u.rf 0x00200018 7 0))).startResult .ok) := by
  rw [exec_confirm, execConfirm, ← hu, startCmd_taken hp hs hb (needsSlot_ok hslot)]

theorem confirm_unslotted (hslot : u.activeSlot = none) : exec (.confirm dt r) s = .next (u.startResult .badState) := by
  rw [exec_confirm, execConfirm, ← hu, startCmd_badState hp hs hb (needsSlot_badState hslot)]

theorem psetFlush_unslotted (hslot : u.activeSlot = none) : exec (.psetFlush dt r) s = .next (u.startResult .badState) := by
  rw [exec_psetFlush, execPsetFlush, ← hu, startCmd_badState hp hs hb (needsSlot_badState hslot)]

theorem clearMarks_next : exec (.clearMarks dt r) s = .next ((u.wf 0x00200004 29 28 0).startResult .ok) := by
  rw [exec_clearMarks, execClearMarks, ← hu, startCmd_taken hp hs hb rfl]

theorem startCmdRestart_next : exec (.startCmdRestart dt r) s = .next (u.deviceReset false).coldStart := by
  rw [exec_startCmdRestart, execStartCmdRestart, ← hu, startCmd_taken hp hs hb rfl]

theorem shutdown_owned (hown : u.rb 0x00200030 31 = true) : exec (.shutdown dt r) s = .next (u.startResult .badState) := by
  rw [exec_shutdown, execShutdown, ← hu, startCmd_badState hp hs hb (if_pos hown)]

theorem psetFlush_next (hidle : (u.startResult .ok).FlashIdle) (hslot : u.activeSlot ≠ none) : exec (.psetFlush dt r) s =
    .next ((u.startResult .ok).mStart fun t => { t with writing := some 1, writes := [], psetDue := none }) := by
  rw [exec_psetFlush, execPsetFlush, ← hu, startCmd_taken hp hs hb (needsSlot_ok hslot), hidle.ask_one]
  rfl

theorem shutdown_next (hown : u.rb 0x00200030 31 = false)
    (hidle : ((u.wb 0x00200024 0 true).mStart fun t => { t with shutdown := some u.now }).FlashIdle) : exec (.shutdown dt r) s =
    .next (((u.wb 0x00200024 0 true).mStart fun t => { t with shutdown := some u.now }).mStart fun t =>
      { t with writing := some 1, writes := [2], psetDue := none }) := by
  rw [exec_shutdown, execShutdown, ← hu, startCmd_taken hp hs hb (if_neg (by rw [hown]; decide)), hidle.ask_both]

end

theorem shutdownDone_next (hsh : u.start.shutdown ≠ none) (hw : u.start.writing = none) (hws : u.start.writes = []) : exec (.shutdownDone dt) s =
    .next ((((u.phaseTo 6).wb 0x00200024 0 false).startResult .ok).mStart fun t => { t with shutdown := none }) := by
  have hcond : (u.start.shutdown.isNone || u.start.writing.isSome || !u.start.writes.isEmpty) = false := by
    rw [Option.isNone_eq_false_iff.mpr (Option.isSome_iff_ne_none.mpr hsh), hw, hws]
    rfl
  rw [exec_shutdownDone, execShutdownDone, ← hu]
  exact if_neg (by rw [hcond]; decide)

theorem shutdownDone_waits (hsome : u.start.writing ≠ none ∨ u.start.writes ≠ []) : exec (.shutdownDone dt) s = .next u := by
  have hcond : (u.start.shutdown.isNone || u.start.writing.isSome || !u.start.writes.isEmpty) = true := by
    rcases hsome with h | h
    · rw [Option.isSome_iff_ne_none.mpr h, Bool.or_true, Bool.true_or]
    · rw [List.isEmpty_eq_false_iff.mpr h, Bool.not_false, Bool.or_true]
  rw [exec_shutdownDone, execShutdownDone, ← hu]
  exact if_pos hcond

/-! ### Write-backs that fall due -/

section
variable {d : Nat}

theorem psetWriteDue_next (hidle : u.FlashIdle) (hd : u.start.psetDue = some d) (hdue : d + max 10 (min 3600 (u.rf 0x00200050 11 0)) * 1000000000 ≤ u.now) :
    exec (.psetWriteDue dt) s = .next (u.mStart fun t => { t with writing := some 1, writes := [], psetDue := none }) := by
  simp only [exec_psetWriteDue, execPsetWriteDue, ← hu, hd, hdue, if_true, hidle.ask_one]

theorem psetWriteDue_waits (hd : u.start.psetDue = some d) (hdue : u.now < d + max 10 (min 3600 (u.rf 0x00200050 11 0)) * 1000000000) :
    exec (.psetWriteDue dt) s = .next u := by
  simp only [exec_psetWriteDue, execPsetWriteDue, ← hu, hd, Nat.not_le.mpr hdue, if_false]

theorem recorderFlush_next (hidle : (u.mStart fun t => { t with recDue := some (d + 900000000000) }).FlashIdle) (hd : u.start.recDue = some d) (hdue : d ≤ u.now) :
    exec (.recorderFlush dt) s = .next ((u.mStart fun t => { t with recDue := some (d + 900000000000) }).mStart fun t =>
      { t with writing := some 2, writes := [] }) := by
  simp only [exec_recorderFlush, execRecorderFlush, ← hu, hd, hdue, if_true, hidle.ask_one]
  rfl

theorem recorderFlush_waits (hd : u.start.recDue = some d) (hdue : u.now < d) : exec (.recorderFlush dt) s = .next u := by
  simp only [exec_recorderFlush, execRecorderFlush, ← hu, hd, Nat.not_le.mpr hdue, if_false]

end
end

/-! ### The end of an area write -/

/-- The sequence number an area write gets (R589). -/
def State.nvmSeq (u : State) (area : Nat) : Nat := ((match u.areaBest area with | some x => x.1 | none => 0) + 1) % 2 ^ 64

/-- What an area write holds (R589). -/
def State.nvmImage (v : State) (p : PsetRec) (area seq : Nat) : Bytes :=
  areaBytes area seq (if area = 1 then 6 else 256) (if area = 1 then psetBytes v.row p else v.recBytes)

/-- The area erased, with no write in progress. -/
def State.nvmErased (v : State) (a n : Nat) : State := (v.flashErase a n).mStart fun t => { t with writing := none }

/-- An area that was written: its bytes, and for the settings their registers. -/
def State.nvmGood (v : State) (p : PsetRec) (area seq a n : Nat) (b : Bytes) : State :=
  let s := ((v.nvmErased a n).flashPut a b).mStart fun t => { t with failed := t.failed.filter (· != area), pset := if area = 1 then p else t.pset }
  if area = 1 then (s.wr64 0x00200058 seq).satf 0x00200054 15 0 1 else s

/-- An area whose write failed. -/
def State.nvmFailed (v : State) (area a n : Nat) : State :=
  let s := ((v.nvmErased a n).flashFree a 64).writeFailed area
  if area = 1 then s.satf 0x00200054 31 16 1 else s

/-- The detail of PSET_WRITTEN and PSET_FAILED. -/
def nvmDetail (area k seq : Nat) : Nat := area * 2 ^ 28 + (k + 1) * 2 ^ 26 + seq % 2 ^ 26

theorem execNvmWrite_eq (dt : Nat) (ok : Bool) (s : State) : execNvmWrite dt ok s = match (s.tick dt).start.writing with
    | none => .next (s.tick dt)
    | some area => match (s.tick dt).writePlace area with
      | none => .next ((s.tick dt).mStart fun t => { t with writing := none }).nextWrite
      | some (k, a, n) => match (s.tick dt).psetNow with
        | (p, v) =>
          if ok && decide ((v.nvmImage p area ((s.tick dt).nvmSeq area)).length ≤ n) then
            .next ((v.nvmGood p area ((s.tick dt).nvmSeq area) a n (v.nvmImage p area ((s.tick dt).nvmSeq area))).emitPf 0x1B .ok
              (nvmDetail area k ((s.tick dt).nvmSeq area))).nextWrite
          else .next ((v.nvmFailed area a n).emitPf 0x1C .fault (nvmDetail area k ((s.tick dt).nvmSeq area))).nextWrite := rfl

theorem nvmWrite_idle {s u : State} {dt : Nat} {ok : Bool} (hu : u = s.tick dt) (hw : u.start.writing = none) : exec (.nvmWrite dt ok) s = .next u := by
  rw [exec_nvmWrite, execNvmWrite_eq, ← hu]
  split
  · rfl
  next area hsome => cases hw.symm.trans hsome

section
variable {s u : State} {dt area : Nat} {ok : Bool} (hu : u = s.tick dt) (hw : u.start.writing = some area)
include hu hw

theorem nvmWrite_placeless (hplace : u.writePlace area = none) : exec (.nvmWrite dt ok) s = .next (u.mStart fun t => { t with writing := none }).nextWrite := by
  rw [exec_nvmWrite, execNvmWrite_eq, ← hu]
  split
  next hnone => cases hw.symm.trans hnone
  next area' hsome =>
    cases hw.symm.trans hsome
    rw [hplace]

theorem nvmWrite_placed {k a n : Nat} {p : PsetRec} {v : State} (hplace : u.writePlace area = some (k, a, n)) (hpset : u.psetNow = (p, v)) :
    exec (.nvmWrite dt ok) s = if ok && decide ((v.nvmImage p area (u.nvmSeq area)).length ≤ n) then
        .next ((v.nvmGood p area (u.nvmSeq area) a n (v.nvmImage p area (u.nvmSeq area))).emitPf 0x1B .ok (nvmDetail area k (u.nvmSeq area))).nextWrite
      else .next ((v.nvmFailed area a n).emitPf 0x1C .fault (nvmDetail area k (u.nvmSeq area))).nextWrite := by
  rw [exec_nvmWrite, execNvmWrite_eq, ← hu]
  split
  next hnone => cases hw.symm.trans hnone
  next area' hsome =>
    cases hw.symm.trans hsome
    rw [hplace, hpset]

end

theorem psetNow_only (s : State) : ∃ c, s.psetNow.2 = { s with freeCount := c } := by
  by_cases h : s.start.pset.theta = 0
  · exact ⟨s.freeCount + 1, by simp only [State.psetNow, h, if_true, State.freeWord]⟩
  · exact ⟨s.freeCount, by simp only [State.psetNow, h, if_false]⟩

section
variable {s t : State} {ps : List Part} {ks : List Nat} (h : Frame ps ks s t)
include h

theorem Frame.satf {k : Nat} (hk : k ∈ ks) (hi lo n : Nat) : Frame ps ks s (t.satf k hi lo n) := h.wf hk ..

theorem Frame.nvmErased (hp : Part.start ∈ ps) (a n : Nat) : Frame ps ks s (t.nvmErased a n) := (h.mStart hp _).mStart hp _

theorem Frame.nvmGood (hp : Part.start ∈ ps) (h54 : 0x00200054 ∈ ks) (h58 : 0x00200058 ∈ ks) (h5c : 0x00200058 + 4 ∈ ks) (p : PsetRec) (area seq a n : Nat)
    (b : Bytes) : Frame ps ks s (t.nvmGood p area seq a n b) := by
  have hbody := ((h.nvmErased hp a n).flashPut hp a b).mStart hp fun t =>
    { t with failed := t.failed.filter (· != area), pset := if area = 1 then p else t.pset }
  exact Frame.ite ((hbody.wr64 h58 h5c _).satf h54 ..) hbody

theorem Frame.nvmFailed (hf : Part.free ∈ ps) (hp : Part.start ∈ ps) (h54 : 0x00200054 ∈ ks) (area a n : Nat) : Frame ps ks s (t.nvmFailed area a n) := by
  have hbody : Frame ps ks s (((t.nvmErased a n).flashFree a 64).writeFailed area) := ((h.nvmErased hp a n).flashFree hf hp a 64).mStart hp _
  exact Frame.ite (hbody.satf h54 ..) hbody

end

/-- A counter field after a count. -/
theorem rf_satf (s : State) {k hi lo : Nat} (n : Nat) (h : lo ≤ hi) (hhi : hi < 32) :
    (s.satf k hi lo n).rf k hi lo = min (s.rf k hi lo + n) (2 ^ (hi + 1 - lo) - 1) := by
  have hpos : 0 < 2 ^ (hi + 1 - lo) := by positivity
  rw [State.satf, rf_wf_same _ _ _ h hhi, satAdd]
  exact Nat.mod_eq_of_lt (by omega)

section
variable (v : State) (p : PsetRec) (area seq a n : Nat) (b : Bytes)

theorem nvmGood_start : (v.nvmGood p area seq a n b).start = { ((v.nvmErased a n).flashPut a b).start with
    failed := ((v.nvmErased a n).flashPut a b).start.failed.filter (· != area),
    pset := if area = 1 then p else ((v.nvmErased a n).flashPut a b).start.pset } := by
  unfold State.nvmGood
  dsimp only
  split <;> simp only [State.satf_frame, State.wr64_frame, State.mStart_start]

theorem nvmGood_seq (hseq : seq < 2 ^ 64) : (v.nvmGood p 1 seq a n b).rd64 0x00200058 = seq := by
  simp only [State.nvmGood, if_true]
  rw [State.satf, rd64_congr (rd_wf_ne _ (by omega)) (rd_wf_ne _ (by omega)), rd64_wr64, Nat.mod_eq_of_lt hseq]

theorem nvmGood_count : (v.nvmGood p 1 seq a n b).rf 0x00200054 15 0 = min 65535 (v.rf 0x00200054 15 0 + 1) := by
  simp only [State.nvmGood, if_true]
  rw [rf_satf _ 1 (by omega) (by omega), rf_congr (s := v), Nat.min_comm]
  · norm_num
  · rw [State.wr64, State.rd_wr_ne _ (by omega), State.rd_wr_ne _ (by omega)]
    rfl

theorem nvmFailed_start : (v.nvmFailed area a n).start = (((v.nvmErased a n).flashFree a 64).writeFailed area).start := by
  unfold State.nvmFailed
  dsimp only
  split <;> simp only [State.satf_frame]

theorem nvmFailed_count : (v.nvmFailed 1 a n).rf 0x00200054 31 16 = min 65535 (v.rf 0x00200054 31 16 + 1) := by
  simp only [State.nvmFailed, if_true]
  rw [rf_satf _ 1 (by omega) (by omega), rf_congr (s := v), Nat.min_comm]
  · norm_num
  · exact (((Frame.refl v [.free, .start] []).nvmErased (by simp) a n).flashFree (by simp) (by simp) a 64 |>.mStart (by simp) _).regs _ (by simp)

theorem flashFree_start (s : State) (a n : Nat) : ∃ f, (s.flashFree a n).start = { s.start with flash := f } := by
  refine ⟨((s.freeBytes n).2.flashPut a (s.freeBytes n).1).start.flash, ?_⟩
  show ((s.freeBytes n).2.flashPut a (s.freeBytes n).1).start = _
  rw [← freeBytes_start n s]
  rfl

/-- What of the start state a failed write leaves: no write is in progress, and the area is marked as failed unless it was. -/
theorem nvmFailed_kept : (v.nvmFailed area a n).start.writing = none ∧ (area ∉ v.start.failed → area ∈ (v.nvmFailed area a n).start.failed) := by
  obtain ⟨f, hf⟩ := flashFree_start (v.nvmErased a n) a 64
  rw [nvmFailed_start, State.writeFailed, State.mStart_start, hf]
  split
  next hin => exact ⟨rfl, fun hnot => absurd (List.contains_iff_mem.mp hin) hnot⟩
  next => exact ⟨rfl, fun _ => List.mem_append_right _ (List.mem_singleton.mpr rfl)⟩

end

/-- Settles O50: START_CMD goes through `startCmd`, a write-back through `FlashIdle` and `nvmWrite_placed` (log entry 62). -/
theorem startCommandsAndWriteBack : Obligations.StartCommandsAndWriteBack := by
  unfold Obligations.StartCommandsAndWriteBack
  refine ⟨fun dt r i s u hu hp hi => ?refused, fun dt r s u hu hp hs hb => ⟨fun hslot => ?confirm, fun hslot =>
      ⟨confirm_unslotted hu hp hs hb hslot, psetFlush_unslotted hu hp hs hb hslot⟩, ?clear, ?restart, fun hown => shutdown_owned hu hp hs hb hown,
      fun hslot hdeg hws hw hn hown => ⟨?flush, ?shutdown⟩⟩,
    fun dt s u hu hsh => ⟨fun hw hws => ?done, fun hsome => shutdownDone_waits hu hsome⟩,
    fun dt d s u hu hslot hdeg hws hw hn hown => ⟨fun hd hdue => ?pset, fun hd hdue => psetWriteDue_waits hu hd hdue, fun hd hdue => ?rec,
      fun hd hdue => recorderFlush_waits hu hd hdue⟩,
    fun dt ok s u hu hw => nvmWrite_idle hu hw, fun dt area seq ok p recs b s u v hu hw hpset hrecs hseq hb => ?area⟩
  case refused =>
    obtain ⟨check, act, hexec, hc, hok⟩ := startCmd_exec (s := s) hu hi
    rw [hexec]
    exact ⟨fun hn hph => by rw [startCmd_denied hp hn hph hc, State.startResult],
      fun hs hb hslot hown => by rw [startCmd_busy hp hs hb (hok hslot hown), State.startResult]⟩
  case confirm =>
    refine ⟨_, confirm_next hu hp hs hb hslot, ?_, ?_, startResult_shown .., (((Frame.refl ..).mStart (by simp) _).wf (by simp) ..).wf (by simp) ..⟩
    · simp only [State.startResult, State.wf_frame, State.mStart_start]
    · rw [State.startResult, rf_congr (rd_wf_ne _ (by omega)), rf_wf_same _ _ _ (by omega) (by omega)]
      norm_num
  case clear =>
    refine ⟨_, clearMarks_next hu hp hs hb, ?_, startResult_shown .., ((Frame.refl ..).wf (by simp) ..).wf (by simp) ..⟩
    rw [State.startResult, rf_congr (rd_wf_ne _ (by omega)), rf_wf_same _ _ _ (by omega) (by omega)]
    norm_num
  case restart => exact ⟨_, deviceReset_resetFrom u false, startCmdRestart_next hu hp hs hb⟩
  case flush =>
    have hidle : (u.startResult .ok).FlashIdle :=
      ⟨mayWrite_congr ⟨hslot, hdeg⟩ (rd_wf_ne u (by omega)) (by simp only [State.startResult, State.wf_frame]),
        by simpa only [State.startResult, State.wf_frame] using hws, by simpa only [State.startResult, State.wf_frame] using hw,
        by simpa only [State.startResult, State.wf_frame] using hn, by rwa [State.startResult, rb_congr (rd_wf_ne u (by omega))]⟩
    refine ⟨_, psetFlush_next hu hp hs hb hidle hslot, ?_, ?_, ((Frame.refl ..).wf (by simp) ..).mStart (by simp) _⟩
    · simp only [State.startResult, State.wf_frame, State.mStart_start, hws]
    · rw [rf_congr (State.mStart_rd ..), startResult_shown]
  case shutdown =>
    have hidle : ((u.wb 0x00200024 0 true).mStart fun t => { t with shutdown := some u.now }).FlashIdle :=
      ⟨mayWrite_congr ⟨hslot, hdeg⟩ ((State.mStart_rd ..).trans (rd_wb_ne u (by omega))) (by simp only [State.mStart_frame, State.wb_frame]),
        by simpa only [State.mStart_start, State.wb_frame] using hws, by simpa only [State.mStart_start, State.wb_frame] using hw,
        by simpa only [State.mStart_start, State.wb_frame] using hn, by rwa [rb_congr (State.mStart_rd ..), rb_congr (rd_wb_ne u (by omega))]⟩
    refine ⟨_, shutdown_next hu hp hs hb hown hidle, ?_, ?_, (((Frame.refl ..).wb (by simp) ..).mStart (by simp) _).mStart (by simp) _⟩
    · simp only [State.mStart_start, State.wb_frame]
    · rw [rb_congr (State.mStart_rd ..), rb_congr (State.mStart_rd ..), rb_wb_same _ _ _ (by omega)]
  case done =>
    refine ⟨_, shutdownDone_next hu hsh hw hws, ?_, ?_, ?_, ?_, ((((Frame.refl ..).wf (by simp) ..).wb (by simp) ..).wf (by simp) ..).mStart (by simp) _⟩
    · rw [rf_congr (State.mStart_rd ..), State.startResult, rf_congr (rd_wf_ne _ (by omega)), rf_congr (rd_wb_ne _ (by omega)), State.phaseTo,
        rf_wf_same _ _ _ (by omega) (by omega)]
      norm_num
    · rw [rb_congr (State.mStart_rd ..), State.startResult, rb_wf_ne _ _ _ (by omega) (by omega) (.inr (by omega)), rb_wb_same _ _ _ (by omega)]
    · rw [rf_congr (State.mStart_rd ..), startResult_shown]
    · simp only [State.mStart_start, State.startResult, State.phaseTo, State.wf_frame, State.wb_frame]
  case pset =>
    refine ⟨_, psetWriteDue_next hu ⟨⟨hslot, hdeg⟩, hws, hw, hn, hown⟩ hd hdue, ?_, (Frame.refl ..).mStart (by simp) _⟩
    simp only [State.mStart_start, hws]
  case rec =>
    have hidle : (u.mStart fun t => { t with recDue := some (d + 900000000000) }).FlashIdle :=
      ⟨mayWrite_congr ⟨hslot, hdeg⟩ (State.mStart_rd ..) (by simp only [State.mStart_frame]), hws, hw, hn, by rwa [rb_congr (State.mStart_rd ..)]⟩
    refine ⟨_, recorderFlush_next hu hidle hd hdue, ?_, ((Frame.refl ..).mStart (by simp) _).mStart (by simp) _⟩
    simp only [State.mStart_start, hws]
  case area =>
    obtain ⟨c, hc⟩ := psetNow_only u
    rw [hpset] at hc
    have hvst : v.start = u.start := (congrArg State.start hc :)
    have hvrd (k : Nat) : v.rd k = u.rd k := by rw [show v = _ from hc]; rfl
    have hframe (ks : List Nat) : Frame [.free, .start] ks u v := by
      rw [show v = _ from hc]
      exact ⟨fun q hq => by cases q <;> simp_all [Part.same], fun _ _ => rfl, fun _ => rfl, fun _ => rfl, rfl, rfl, rfl⟩
    have hseq' : u.nvmSeq area = seq := hseq.symm
    have hb' : v.nvmImage p area seq = b := by rw [hb, hrecs, State.nvmImage]
    have hlt : seq < 2 ^ 64 := hseq ▸ Nat.mod_lt _ (by positivity)
    split
    next hplace => exact nvmWrite_placeless hu hw hplace
    next k a n hplace =>
      have hexec := nvmWrite_placed (ok := ok) hu hw hplace hpset
      rw [hseq', hb'] at hexec
      split
      next hfits =>
        have hgood : (ok && decide (b.length ≤ n)) = true := by rw [hfits.1, decide_eq_true hfits.2]; rfl
        rw [if_pos hgood] at hexec
        refine ⟨_, hexec, ?_, ?_, ?_, ?_, (hframe _).nvmGood (by simp) (by simp) (by simp) (by simp) ..⟩
        · rw [nvmGood_start]
          rfl
        · rw [nvmGood_start]
          simp
        · rw [nvmGood_start]
          rfl
        · rintro rfl
          refine ⟨?_, nvmGood_seq v p seq a n b hlt, ?_⟩
          · rw [nvmGood_start]
            rfl
          · rw [nvmGood_count, rf_congr (hvrd _)]
      next hfails =>
        have hbad : ¬ (ok && decide (b.length ≤ n)) = true := by simpa using hfails
        rw [if_neg hbad] at hexec
        obtain ⟨hnone, hmarked⟩ := nvmFailed_kept v area a n
        refine ⟨_, hexec, hnone, hvst ▸ hmarked, ?_, ?_⟩
        · rintro rfl
          rw [nvmFailed_count, rf_congr (hvrd _)]
        · exact (hframe _).nvmFailed (by simp) (by simp) (by simp) ..

end Sys2Proof.Machine
end

section
/-!
PROOFS. Icvik: flits and messages, time, and pod frame references (R627, R628, R637 to R640).
-/
namespace Sys2Proof.Machine

theorem exec_timeFlitSend (dt p : Nat) (s : State) : exec (.timeFlitSend dt p) s = execTimeFlitSend dt p s := rfl
theorem exec_timeFlit (dt p got sent : Nat) (s : State) : exec (.timeFlit dt p got sent) s = execTimeFlit dt p got sent s := rfl
theorem exec_podRefApply (dt k : Nat) (r : Req) (s : State) : exec (.podRefApply dt r k) s = execPodRefApply dt r k s := rfl
theorem exec_podRefActivate (dt k : Nat) (s : State) : exec (.podRefActivate dt k) s = execPodRefActivate dt k s := rfl

/-! ### Ports and flits -/

theorem mIcv_icv (s : State) (p q : Nat) (f : PortSt → PortSt) : (s.mIcv p f).icv q = if q = p then f (s.icv p) else s.icv q := tget_tmod ..

theorem mIcv_icv_same (s : State) (p : Nat) (f : PortSt → PortSt) : (s.mIcv p f).icv p = f (s.icv p) := (mIcv_icv ..).trans (if_pos rfl)

theorem mIcv_icv_ne (s : State) {p q : Nat} (f : PortSt → PortSt) (h : q ≠ p) : (s.mIcv p f).icv q = s.icv q := (mIcv_icv ..).trans (if_neg h)

section
variable {s t : State} {ps : List Part} {ks : List Nat} (h : Frame ps ks s t) (hp : Part.net ∈ ps)
include h hp

theorem Frame.mIcv (p : Nat) (f : PortSt → PortSt) : Frame ps ks s (t.mIcv p f) := h.mNet hp _

theorem Frame.flitOut (p ty : Nat) : Frame ps ks s (t.flitOut p ty) := h.mIcv hp _ _

theorem Frame.flitTo (n ty : Nat) : Frame ps ks s (t.flitTo n ty) := by
  unfold State.flitTo
  split
  · exact h.flitOut hp ..
  · exact h

theorem Frame.ctlSend (dest : Nat) (m : CtlMsg) : Frame ps ks s (t.ctlSend dest m) := (h.flitTo hp dest 3).mNet hp _

theorem Frame.ctlSends {l : List Nat} (m : CtlMsg) : Frame ps ks s (l.foldl (fun s n => s.ctlSend n m) t) :=
  Frame.foldl (fun _ _ _ g => g.ctlSend hp _ m) h

end

section
variable (s : State)

/-- A flit moves the sequence of a port alone. -/
theorem flitTo_net (n ty : Nat) : ∃ ps, (s.flitTo n ty).net = { s.net with ports := ps } := by
  unfold State.flitTo
  split
  · exact ⟨_, rfl⟩
  · exact ⟨s.net.ports, rfl⟩

theorem ctlSend_refs (dest : Nat) (m : CtlMsg) : (s.ctlSend dest m).net.refs = s.net.refs := by
  obtain ⟨ps, hps⟩ := flitTo_net s dest 3
  rw [State.ctlSend, State.mNet_net, hps]

theorem ctlSend_dests (dest : Nat) (m : CtlMsg) : (s.ctlSend dest m).net.outs.map (·.dest) = s.net.outs.map (·.dest) ++ [dest] := by
  obtain ⟨ps, hps⟩ := flitTo_net s dest 3
  rw [State.ctlSend, State.mNet_net, hps, List.map_append, List.map_singleton]

theorem ctlSends_refs (m : CtlMsg) (l : List Nat) : (l.foldl (fun s n => s.ctlSend n m) s).net.refs = s.net.refs :=
  foldl_keeps (fun t : State => t.net.refs) (fun t n => ctlSend_refs t n m) l s

theorem ctlSends_dests (m : CtlMsg) (l : List Nat) : (l.foldl (fun s n => s.ctlSend n m) s).net.outs.map (·.dest) = s.net.outs.map (·.dest) ++ l := by
  induction l generalizing s with
  | nil => exact (List.append_nil _).symm
  | cons n l ih => rw [List.foldl_cons, ih, ctlSend_dests, List.append_assoc, List.singleton_append]

end

/-! ### Nodes and routes -/

section
variable {s t : State} (hnode : t.rd 0x05000004 = s.rd 0x05000004) (hnet : t.net = s.net) (hv : t.variant = s.variant)
include hnode hnet hv

theorem myNode_congr : t.myNode = s.myNode := by
  rw [State.myNode, State.myNode, rb_congr hnode, rf_congr hnode, hnet, State.row, hv, State.row]

theorem rootNode_congr : t.rootNode = s.rootNode := by
  have hprio : t.myPrio = s.myPrio := rf_congr hnode ..
  rw [State.rootNode, State.rootNode, hprio, myNode_congr hnode hnet hv, State.joined, State.joined, hnet]
  simp only [State.node, hnet]

theorem routeTo_congr (n : Nat) : t.routeTo n = s.routeTo n := by
  rw [State.routeTo, State.routeTo, State.routes, State.routes, hnet, myNode_congr hnode hnet hv]

theorem timeParent_congr : t.timeParent = s.timeParent := by
  rw [State.timeParent, State.timeParent, rootNode_congr hnode hnet hv, myNode_congr hnode hnet hv]
  simp only [routeTo_congr hnode hnet hv]

end

/-! ### Time (R637, R639) -/

theorem sat16_lt (i : Int) : sat16 i < 2 ^ 16 := tobits_lt 16 _

/-- ICVIK_TIME_STATUS with an offset, out of holdover. -/
def State.timeShown (s : State) (off : Int) : State := (s.wf 0x05000024 15 0 (sat16 off)).wb 0x05000024 30 false

theorem timeParent_delayed (u : State) (p v : Nat) : (u.wr (icvPort p 0x10) v).timeParent = u.timeParent :=
  timeParent_congr (State.rd_wr_ne _ (by unfold icvPort; omega)) (by simp only [State.wr_frame]) (by simp only [State.wr_frame])

/-- Device time corrected. -/
def State.withNow (s : State) (n : Nat) : State := { s with now := n }

theorem withNow_rd (s : State) (n k : Nat) : (s.withNow n).rd k = s.rd k := rfl
theorem withNow_now (s : State) (n : Nat) : (s.withNow n).now = n := rfl
theorem withNow_net (s : State) (n : Nat) : (s.withNow n).net = s.net := rfl
theorem withNow_pending (s : State) (n : Nat) : (s.withNow n).pending = s.pending := rfl

section
variable {s u : State} {dt p got sent : Nat} {a off delay : Int} (hu : u = s.tick dt) (hup : u.icvUp p = true) (ha : a = (u.icv p).timeSent)
  (hdelay : delay = (((u.now : Int) - a) - ((sent : Int) - got)) / 2)
include hu hup ha hdelay

theorem timeFlit_other (hno : ∀ h, u.timeParent ≠ some (p, h)) : exec (.timeFlit dt p got sent) s = .next (u.wr (icvPort p 0x10) delay.toNat) := by
  simp only [exec_timeFlit, execTimeFlit, ← hu, hup, Bool.not_true, Bool.false_eq_true, if_false, ← ha, ← hdelay, timeParent_delayed]
  split
  next q h hparent => exact if_pos (.inl fun e => hno h (by rw [hparent, e]))
  next => rfl

variable {h : Nat} (hoff : off = (((got : Int) - a) + (sent - u.now)) / 2) (hparent : u.timeParent = some (p, h)) (hh : h ≤ 63)
include hoff hparent hh

theorem timeFlit_slewed (hsmall : off.natAbs ≤ 1000000) : exec (.timeFlit dt p got sent) s =
    .next (if (decide (off.natAbs ≤ 20) && !((u.wr (icvPort p 0x10) delay.toNat).timeShown off).rb 0x05000024 31) = true then
        (((u.wr (icvPort p 0x10) delay.toNat).timeShown off).wb 0x05000024 31 (decide (off.natAbs ≤ 20))).timeEvent 1
      else ((u.wr (icvPort p 0x10) delay.toNat).timeShown off).wb 0x05000024 31 (decide (off.natAbs ≤ 20))) := by
  have hq : ¬ (p ≠ p ∨ 63 < h) := by omega
  simp only [exec_timeFlit, execTimeFlit, ← hu, hup, Bool.not_true, Bool.false_eq_true, if_false, ← ha, ← hdelay, ← hoff,
    timeParent_delayed, hparent, hq, Nat.not_lt.mpr hsmall]
  rfl

theorem timeFlit_stepped (hbig : 1000000 < off.natAbs) : exec (.timeFlit dt p got sent) s =
    .next (((((u.wr (icvPort p 0x10) delay.toNat).timeShown off).withNow
      (tobits 64 ((((u.wr (icvPort p 0x10) delay.toNat).timeShown off).now : Int) + off))).wb 0x05000024 31 false).timeEvent 3) := by
  have hq : ¬ (p ≠ p ∨ 63 < h) := by omega
  simp only [exec_timeFlit, execTimeFlit, ← hu, hup, Bool.not_true, Bool.false_eq_true, if_false, ← ha, ← hdelay, ← hoff,
    timeParent_delayed, hparent, hq, hbig, if_true]
  rfl

end

section
variable (s : State) (off : Int)

theorem timeShown_offset : (s.timeShown off).rf 0x05000024 15 0 = sat16 off := by
  rw [State.timeShown, rf_wb_ne _ _ _ (by omega) (.inr (by omega)), rf_wf_same _ _ _ (by omega) (by omega)]
  exact Nat.mod_eq_of_lt (sat16_lt off)

theorem timeShown_keeps : (s.timeShown off).now = s.now ∧ (s.timeShown off).net = s.net ∧ (s.timeShown off).pending = s.pending := by
  simp only [State.timeShown, State.wb_frame, State.wf_frame, and_self]

theorem timeShown_locked : (s.timeShown off).rb 0x05000024 31 = s.rb 0x05000024 31 := by
  rw [State.timeShown, rb_wb_ne _ _ _ (by omega) (by omega), rb_wf_ne _ _ _ (by omega) (by omega) (.inl (by omega))]

theorem timeShown_rd {k : Nat} (hk : k ≠ 0x05000024) : (s.timeShown off).rd k = s.rd k := by rw [State.timeShown, rd_wb_ne _ hk, rd_wf_ne _ hk]

end

/-! ### Pod frame references (R640) -/

/-- The state with the new values of a reference waiting for their time. -/
def State.refWaits (s : State) (k : Nat) (v : Nat × Nat × Nat) : State := s.mNet fun n => { n with refs := tset none n.refs k (some v) }

section
variable {s u : State} {dt k : Nat} {r : Req} (hu : u = s.tick dt) (hp : ∀ x, r.path ≠ .vi x)
include hu hp

theorem podRefApply_notRoot (hroot : u.rootNode ≠ some u.myNode) :
    exec (.podRefApply dt r k) s = .next (u.wf (podRef k 0x18) 22 16 Status.badState.code) := by
  have hopen : u.refOpen = false := beq_eq_false_iff_ne.mpr hroot
  rw [exec_podRefApply, execPodRefApply, ← hu]
  split
  next x hx => exact absurd hx (hp x)
  next => simp only [hopen, Bool.not_false, if_true]

variable (hroot : u.rootNode = some u.myNode)
include hroot

theorem podRefApply_early (hearly : u.rd64 (podRef k 0x10) < u.now + 10000000) :
    exec (.podRefApply dt r k) s = .next (u.wf (podRef k 0x18) 22 16 Status.badParam.code) := by
  have hopen : u.refOpen = true := beq_iff_eq.mpr hroot
  rw [exec_podRefApply, execPodRefApply, ← hu]
  split
  next x hx => exact absurd hx (hp x)
  next => simp only [hopen, Bool.not_true, Bool.false_eq_true, if_false, hearly, if_true]

theorem podRefApply_sent (hlater : u.now + 10000000 ≤ u.rd64 (podRef k 0x10)) : exec (.podRefApply dt r k) s =
    .next ((u.joined.foldl (fun s n => s.ctlSend n (.refs k (u.rd64 (podRef k 0)) (bits (u.rd64 (podRef k 8)) 47 0) (u.rd64 (podRef k 0x10))))
      (u.refWaits k (u.rd64 (podRef k 0), bits (u.rd64 (podRef k 8)) 47 0, u.rd64 (podRef k 0x10)))).wf (podRef k 0x18) 22 16 Status.ok.code) := by
  have hopen : u.refOpen = true := beq_iff_eq.mpr hroot
  rw [exec_podRefApply, execPodRefApply, ← hu]
  split
  next x hx => exact absurd hx (hp x)
  next =>
    simp only [hopen, Bool.not_true, Bool.false_eq_true, if_false, Nat.not_lt.mpr hlater]
    rfl

end

section
variable {s u : State} {dt k e pd at_ : Nat} (hu : u = s.tick dt) (hr : tget none u.net.refs k = some (e, pd, at_))
include hu hr

theorem podRefActivate_due (hdue : at_ ≤ u.now) : exec (.podRefActivate dt k) s =
    .next (((u.mNet fun n => { n with refs := tset none n.refs k none }).mDisplay fun d => { d with podRefs := tset (0, 0) d.podRefs k (e, pd) }).wb
      (podRef k 0x18) 30 true) := by
  simp only [exec_podRefActivate, execPodRefActivate, ← hu, hr, Nat.not_lt.mpr hdue, if_false]

theorem podRefActivate_early (hearly : u.now < at_) : exec (.podRefActivate dt k) s = .next u := by
  simp only [exec_podRefActivate, execPodRefActivate, ← hu, hr, hearly, if_true]

end

/-- Settles O54: `timeParent` reads neither of the words a TIME flit writes, and the messages of a reference are appended one by one (log
entry 47). -/
theorem icvikTimeAndReferences : Obligations.IcvikTimeAndReferences := by
  unfold Obligations.IcvikTimeAndReferences
  refine ⟨fun dt p s u hu => ⟨fun hup => ?send, fun hdown => ?down⟩,
    fun dt p got sent a off delay s u hu hp hup ha hdelay hoff => ⟨u.wr (icvPort p 0x10) delay.toNat, State.rd_wr_same .., (Frame.refl ..).wr (by simp) _,
      fun hno => timeFlit_other hu hup ha hdelay hno, fun h hparent hh hsmall => ?slewed, fun h hparent hh hbig => ?stepped⟩,
    fun dt k r s u hu hp => ⟨fun hroot => podRefApply_notRoot hu hp hroot, fun hroot hearly => podRefApply_early hu hp hroot hearly,
      fun hroot hlater => ?sent⟩,
    fun dt k e pd at_ s u hu hr => ⟨fun hdue => ?due, fun hearly => podRefActivate_early hu hr hearly⟩⟩
  case send =>
    refine ⟨(u.flitOut p 1).mIcv p fun t => { t with timeSent := u.now }, ?_, ?_, ?_, ?_, fun q hq => ?_, ((Frame.refl ..).flitOut (by simp) ..).mIcv (by simp) ..⟩
    · simp only [exec_timeFlitSend, execTimeFlitSend, ← hu, hup, if_true]
    · rw [mIcv_icv_same]
    · rw [mIcv_icv_same, State.flitOut, mIcv_icv_same]
    · rw [mIcv_icv_same, State.flitOut, mIcv_icv_same]
    · rw [mIcv_icv_ne _ _ hq, State.flitOut, mIcv_icv_ne _ _ hq]
  case down => simp only [exec_timeFlitSend, execTimeFlitSend, ← hu, hdown, Bool.false_eq_true, if_false]
  case slewed =>
    have hwas : (u.wr (icvPort p 0x10) delay.toNat).rb 0x05000024 31 = u.rb 0x05000024 31 := rb_congr (State.rd_wr_ne _ (by unfold icvPort; omega)) _
    refine ⟨((u.wr (icvPort p 0x10) delay.toNat).timeShown off).wb 0x05000024 31 (decide (off.natAbs ≤ 20)), ?_, ?_, rb_wb_same _ _ _ (by omega),
      (((Frame.refl ..).wf (by simp) ..).wb (by simp) ..).wb (by simp) .., ?_⟩
    · rw [rf_wb_ne _ _ _ (by omega) (.inr (by omega)), timeShown_offset]
    · rw [rb_wb_ne _ _ _ (by omega) (by omega), State.timeShown, rb_wb_same _ _ _ (by omega)]
    · rw [timeFlit_slewed hu hup ha hdelay hoff hparent hh hsmall, timeShown_locked, hwas]
      simp only [Bool.and_eq_true, decide_eq_true_eq, Bool.not_eq_true']
  case stepped =>
    obtain ⟨hnow, hnet, hpending⟩ := timeShown_keeps (u.wr (icvPort p 0x10) delay.toNat) off
    refine ⟨_, ?_, rb_wb_same _ _ _ (by omega), ?_, ?_, ?_, fun k hk => ?_, timeFlit_stepped hu hup ha hdelay hoff hparent hh hbig⟩
    · rw [rf_wb_ne _ _ _ (by omega) (.inr (by omega)), rf_congr (withNow_rd ..), timeShown_offset]
    · simp only [State.wb_frame, withNow_now, hnow, State.wr_frame]
    · simp only [State.wb_frame, withNow_net, hnet, State.wr_frame]
    · simp only [State.wb_frame, withNow_pending, hpending, State.wr_frame]
    · rw [rd_wb_ne _ hk, withNow_rd, timeShown_rd _ _ hk]
  case sent =>
    refine ⟨_, podRefApply_sent hu hp hroot hlater, ?_, ?_, ?_, ?_⟩
    · simp only [State.wf_frame, ctlSends_refs, State.refWaits, State.mNet_net, tget_tset_same]
    · rw [rf_wf_same _ _ _ (by omega) (by omega)]
      exact Nat.mod_eq_of_lt (Status.code_lt _)
    · simp only [State.wf_frame, ctlSends_dests]
      rfl
    · exact (((Frame.refl ..).mNet (by simp) _).ctlSends (by simp) _).wf (by simp) ..
  case due =>
    refine ⟨_, podRefActivate_due hu hr hdue, ?_, ?_, rb_wb_same _ _ _ (by omega), fun j hj => ?_,
      (((Frame.refl ..).mNet (by simp) _).mDisplay (by simp) _).wb (by simp) ..⟩
    · simp only [State.wb_frame, State.mDisplay_display, tget_tset_same]
    · simp only [State.wb_frame, State.mDisplay_frame, State.mNet_net, tget_tset_same]
    · simp only [State.wb_frame, State.mDisplay_display, tget_tset_ne _ _ hj, State.mNet_frame]

end Sys2Proof.Machine
end

section
/-!
PROOFS. Clocks, sleep and wake (R561 to R564, R697).
-/
namespace Sys2Proof.Machine

theorem exec_referenceLost (dt cause ppm : Nat) (s : State) : exec (.referenceLost dt cause ppm) s = execReferenceLost dt cause ppm s := rfl
theorem exec_referenceOk (dt ppm : Nat) (s : State) : exec (.referenceOk dt ppm) s = execReferenceOk dt ppm s := rfl
theorem exec_clockReturn (dt : Nat) (r : Req) (v : Word) (s : State) : exec (.clockReturn dt r v) s = execClockReturn dt r v s := rfl
theorem exec_slowClockLost (dt : Nat) (s : State) : exec (.slowClockLost dt) s = execSlowClockLost dt s := rfl
theorem exec_slowClockReturn (dt : Nat) (s : State) : exec (.slowClockReturn dt) s = execSlowClockReturn dt s := rfl
theorem exec_sleepRequest (dt : Nat) (r : Req) (v : Word) (s : State) : exec (.sleepRequest dt r v) s = execSleepRequest dt r v s := rfl
theorem exec_sleepEntered (dt : Nat) (s : State) : exec (.sleepEntered dt) s = execSleepEntered dt s := rfl
theorem exec_wakePin (dt : Nat) (s : State) : exec (.wakePin dt) s = execWakePin dt s := rfl
theorem exec_wakeTime (dt : Nat) (s : State) : exec (.wakeTime dt) s = execWakeTime dt s := rfl
theorem exec_railsOkRise (dt : Nat) (s : State) : exec (.railsOkRise dt) s = execRailsOkRise dt s := rfl

/-! ### Clocks (R561) -/

/-- A clock event carries the reference error as it stands. -/
theorem clockEvent_eq (s : State) (st : Status) (cause : Nat) {e : Nat} (he : s.rf 0x00100028 15 0 = e) :
    s.clockEvent st cause = s.emitPf 0x15 st (cause * 2 ^ 24 + e) := by rw [State.clockEvent, he]

/-- The reference is lost: its error is shown, and REF_OK is clear. -/
def State.refGone (s : State) (ppm : Nat) : State := (s.wf 0x00100028 15 0 ppm).wb 0x00100028 31 false

section
variable (s : State) (ppm : Nat)

theorem refGone_internal : (s.refGone ppm).rb 0x00100028 30 = s.rb 0x00100028 30 := by
  rw [State.refGone, rb_wb_ne _ _ _ (by omega) (by omega), rb_wf_ne _ _ _ (by omega) (by omega) (.inl (by omega))]

theorem refGone_error : (s.refGone ppm).rf 0x00100028 15 0 = ppm % 2 ^ 16 := by
  rw [State.refGone, rf_wb_ne _ _ _ (by omega) (.inr (by omega)), rf_wf_same _ _ _ (by omega) (by omega)]

theorem refGone_ok : (s.refGone ppm).rb 0x00100028 31 = false := rb_wb_same _ _ _ (by omega)

end

section
variable {s u : State} {dt : Nat} (hu : u = s.tick dt)
include hu

theorem referenceLost_eq (cause ppm : Nat) : exec (.referenceLost dt cause ppm) s =
    if u.rb 0x00100028 30 then .next (u.refGone ppm)
    else .next (((u.refGone ppm).wb 0x00100028 30 true).emitPf 0x15 .fault (cause * 2 ^ 24 + ppm % 2 ^ 16)) := by
  have herr : ((u.refGone ppm).wb 0x00100028 30 true).rf 0x00100028 15 0 = ppm % 2 ^ 16 := by
    rw [rf_wb_ne _ _ _ (by omega) (.inr (by omega)), refGone_error]
  rw [← refGone_internal u ppm, ← clockEvent_eq _ _ _ herr, exec_referenceLost, execReferenceLost, ← hu]
  rfl

theorem clockReturn_denied {r : Req} (hp : pathWin r.path = pfWin) (hn : u.reqSecure r = false) (v : Word) :
    exec (.clockReturn dt r v) s = .next (u.wf 0x00100008 22 16 Status.denied.code) := by
  simp only [exec_clockReturn, execClockReturn, ← hu, hp, ne_eq, not_true, if_false, hn, Bool.not_false, if_true, State.powerDenied]

theorem clockReturn_secure {r : Req} (hp : pathWin r.path = pfWin) (hs : u.reqSecure r = true) (v : Word) : exec (.clockReturn dt r v) s =
    if bit v.toNat 0 ∧ u.rb 0x00100028 31 ∧ u.rb 0x00100028 30 then .next ((u.wb 0x00100028 30 false).clockEvent .ok 4) else .next u := by
  simp only [exec_clockReturn, execClockReturn, ← hu, hp, ne_eq, not_true, if_false, hs, Bool.not_true, Bool.false_eq_true]

theorem slowClockLost_eq : exec (.slowClockLost dt) s = if u.power.slowTold ∨ u.now < u.power.goodAt + 1000000000 then .next (u.wb 0x00100028 29 false)
    else .next (((u.wb 0x00100028 29 false).mPower fun p => { p with slowTold := true }).clockEvent .fault 3) := by
  simp only [exec_slowClockLost, execSlowClockLost, ← hu, State.wb_frame]

theorem slowClockReturn_eq : exec (.slowClockReturn dt) s = if u.power.slowTold then
      .next (((u.wb 0x00100028 29 true).mPower fun p => { p with slowTold := false }).clockEvent .ok 5)
    else .next (u.wb 0x00100028 29 true) := by
  simp only [exec_slowClockReturn, execSlowClockReturn, ← hu, State.wb_frame]

end

/-! ### Sleep (R562, R563) -/

/-- The checks of a sleep request in the order of R562. -/
def State.sleepCheck (s : State) (r : Req) : Status :=
  firstFail [(!s.reqSecure r && s.worlds.claims.any fun c => c.2.state != 0, .claimed),
    (s.pipesOn 0 16 || (List.range s.row.vis).any fun w => s.viState w == 1, .badState),
    (s.rf 0x00100014 2 0 == 0, .badParam), (!s.rb 0x00100028 29, .fault)]

section
variable {s u : State} {dt : Nat} {r : Req} {v : Word} (hu : u = s.tick dt)
include hu

theorem sleepRequest_none (hv : bit v.toNat 31 = false) : exec (.sleepRequest dt r v) s = .next u := by
  simp only [exec_sleepRequest, execSleepRequest, ← hu, hv, Bool.not_false, or_true, if_true]

variable (hp : pathWin r.path = pfWin) (hv : bit v.toNat 31 = true)
include hp hv

theorem sleepRequest_eq : exec (.sleepRequest dt r v) s =
    if u.sleepCheck r = .ok ∧ u.power.sleep = 0 then
      .next ((u.wf 0x00100010 22 16 (u.sleepCheck r).code).mPower fun p => { p with sleep := 1, latched := 0 })
    else .next (u.wf 0x00100010 22 16 (u.sleepCheck r).code) := by
  simp only [exec_sleepRequest, execSleepRequest, ← hu, hp, ne_eq, not_true, hv, Bool.not_true, Bool.false_eq_true, or_self, if_false, State.wf_frame]
  rfl

theorem sleepRequest_refused {st : Status} (hst : u.sleepCheck r = st) (hne : st ≠ .ok) :
    exec (.sleepRequest dt r v) s = .next (u.wf 0x00100010 22 16 st.code) := by
  rw [sleepRequest_eq hu hp hv, hst, if_neg fun h => hne h.1]

end

/-- The active phases shed before the device goes to sleep (R563). -/
def State.phasesShed (s : State) : State := (List.range 16).foldl (fun s p => if s.phase p = 2 then s.setPhase p 1 else s) s

/-- A device asleep, from the state after its reset (R563). -/
def State.asleep (t : State) : State :=
  ((((((t.setDomain 0 3).setDomain 1 1).setDomain 2 1).wb 0x00100028 31 false).failPin false)).mPower fun p => { p with sleep := 2, railEn := false }

theorem sleepEntered_eq {s u : State} {dt : Nat} (hu : u = s.tick dt) (hs : u.power.sleep = 1) : exec (.sleepEntered dt) s =
    .next (if u.power.latched = 0 then (u.phasesShed.deviceReset true).asleep else (u.phasesShed.deviceReset true).asleep.wakeBegin u.power.latched) := by
  simp only [exec_sleepEntered, execSleepEntered, ← hu, hs, ne_eq, not_true, if_false]
  rfl

theorem setDomain_shown (s : State) {d v : Nat} (hv : v < 8) : (s.setDomain d v).domainState d = v := by
  rw [State.domainState, State.setDomain, rf_wf_same _ _ _ (by omega) (by omega)]
  exact Nat.mod_eq_of_lt (by omega)

theorem setDomain_rd (s : State) {d v k : Nat} (hk : k ≠ domainReg d 4) : (s.setDomain d v).rd k = s.rd k := by
  rw [State.setDomain, rd_wf_ne _ hk]
  split
  · rfl
  · exact State.mRecs_rd ..

theorem Frame.setDomain {s t : State} {ps : List Part} {ks : List Nat} (h : Frame ps ks s t) (hp : Part.recs ∈ ps) {d : Nat} (hk : domainReg d 4 ∈ ks) (v : Nat) :
    Frame ps ks s (t.setDomain d v) := (Frame.ite h (h.mRecs hp _)).wf hk ..

theorem domainState_congr {s t : State} {d : Nat} (h : t.rd (domainReg d 4) = s.rd (domainReg d 4)) : t.domainState d = s.domainState d := rf_congr h ..

section
variable (t : State)

theorem asleep_rd {k : Nat} (h28 : k ≠ 0x00100028) (hf : k ≠ 0x00300000) :
    t.asleep.rd k = (((t.setDomain 0 3).setDomain 1 1).setDomain 2 1).rd k := by
  rw [State.asleep, State.mPower_rd, State.failPin, State.mPower_rd, rd_wb_ne _ hf, rd_wb_ne _ h28]

theorem asleep_domains : t.asleep.domainState 0 = 3 ∧ t.asleep.domainState 1 = 1 ∧ t.asleep.domainState 2 = 1 := by
  refine ⟨?_, ?_, ?_⟩ <;> rw [domainState_congr (asleep_rd t (by decide) (by decide))]
  · rw [domainState_congr (setDomain_rd _ (by decide)), domainState_congr (setDomain_rd _ (by decide)), setDomain_shown _ (by omega)]
  · rw [domainState_congr (setDomain_rd _ (by decide)), setDomain_shown _ (by omega)]
  · rw [setDomain_shown _ (by omega)]

theorem asleep_power : t.asleep.power.huskFail = false ∧ t.asleep.power.sleep = 2 ∧ t.asleep.power.railEn = false := ⟨rfl, rfl, rfl⟩

theorem asleep_frame : Frame [.power, .recs] [domainReg 0 4, domainReg 1 4, domainReg 2 4, 0x00100028, 0x00300000, 0x00100020] t t.asleep :=
  ((((((Frame.refl ..).setDomain (by simp) (by simp) 3).setDomain (by simp) (by simp) 1).setDomain (by simp) (by simp) 1).wb (by simp) ..).wb (by simp) ..
    |>.mPower (by simp) _).mPower (by simp) _

end

/-! ### Wake (R564, R697) -/

theorem Frame.wakeBegin {s t : State} {ps : List Part} {ks : List Nat} (h : Frame ps ks s t) (hp : Part.power ∈ ps) (hk : 0x00100020 ∈ ks) (src : Nat) :
    Frame ps ks s (t.wakeBegin src) := (h.wr hk src).mPower hp _

theorem wakeBegin_domainState (s : State) (src d : Nat) : (s.wakeBegin src).domainState d = s.domainState d :=
  domainState_congr (State.rd_wr_ne _ (by unfold domainReg; omega))

theorem wakeBegin_power (s : State) (src : Nat) :
    (s.wakeBegin src).power = { s.power with sleep := 3, railEn := true, latched := 0, wakeOwed := true } := by
  simp only [State.wakeBegin, State.mPower_power, State.wr_frame]

section
variable {s : State} {n : Nat}

theorem wakeFrom_unarmed (h : s.rb 0x00100014 (n - 1) = false) : s.wakeFrom n = s := by
  simp only [State.wakeFrom, h, Bool.not_false, if_true]

theorem wakeFrom_awake (h : s.power.sleep = 0) : s.wakeFrom n = s := by
  simp only [State.wakeFrom, h, Nat.reduceEqDiff, false_and, if_false, ite_self]

theorem wakeFrom_asleep (h : s.rb 0x00100014 (n - 1) = true) (hs : s.power.sleep = 2) : s.wakeFrom n = s.wakeBegin n := by
  simp only [State.wakeFrom, h, Bool.not_true, Bool.false_eq_true, if_false, hs, if_true]

theorem wakeFrom_entering (h : s.rb 0x00100014 (n - 1) = true) (hs : s.power.sleep = 1) (hl : s.power.latched = 0) :
    s.wakeFrom n = s.mPower fun p => { p with latched := n } := by
  simp only [State.wakeFrom, h, Bool.not_true, Bool.false_eq_true, if_false, hs, hl, Nat.reduceEqDiff, and_self, if_true]

end

theorem wake_exec {s u : State} {dt n : Nat} {i : Instr} (hu : u = s.tick dt)
    (hi : (n = 2 ∧ i = .wakePin dt) ∨ (n = 3 ∧ i = .wakeTime dt ∧ u.rd64 0x00100018 ≤ u.now)) : exec i s = .next (u.wakeFrom n) := by
  rcases hi with ⟨rfl, rfl⟩ | ⟨rfl, rfl, hdue⟩
  · rw [exec_wakePin, execWakePin, ← hu]
  · simp only [exec_wakeTime, execWakeTime, ← hu, hdue, if_true]

/-- Settles O46: each clock and sleep command by its equation; a sleep's state by `asleep`, on a reset that `deviceReset_resetFrom` describes. -/
theorem clocksAndSleep : Obligations.ClocksAndSleep := by
  unfold Obligations.ClocksAndSleep
  refine ⟨fun dt cause ppm s u hu => ?lost, fun dt ppm s u hu => ?ok, fun dt r v s u hu hp => ⟨fun hn => clockReturn_denied hu hp hn v, fun hs h0 h31 h30 => ?back,
      fun hs hno => ?stays⟩,
    fun dt s u hu => ?slowLost, fun dt s u hu => ?slowBack,
    fun dt r v claims busy s u hu hp hcl hbusy => ⟨fun hv => sleepRequest_none hu hv, fun hv hc => ?claimed, fun hv hc hb => ?badState, fun hv hc hb hw => ?badParam,
      fun hv hc hb hw hf => ?fault, fun hv hc hb hw hf hs => ?accepted⟩,
    fun dt s u hu hs => ?entered, fun dt n i s u hu hi => ⟨fun h => ?unarmed, fun h hs => ?wakes, fun h hs hl => ?latched, fun hs => ?awake⟩,
    fun dt s u hu hearly => ?early, fun dt s u hu => ⟨fun hs => ?warm, fun hs => ?nothing⟩⟩
  case lost =>
    by_cases h30 : u.rb 0x00100028 30 = true
    · refine ⟨u.refGone ppm, refGone_ok .., by rw [refGone_internal, h30], refGone_error .., ((Frame.refl ..).wf (by simp) ..).wb (by simp) .., fun _ => ?_, fun hno => ?_⟩
      · rw [referenceLost_eq hu, if_pos h30]
      · rw [h30] at hno; cases hno
    · refine ⟨(u.refGone ppm).wb 0x00100028 30 true, ?_, rb_wb_same _ _ _ (by omega), ?_, (((Frame.refl ..).wf (by simp) ..).wb (by simp) ..).wb (by simp) ..,
        fun hyes => absurd hyes h30, fun _ => by rw [referenceLost_eq hu, if_neg h30]⟩
      · rw [rb_wb_ne _ _ _ (by omega) (by omega), refGone_ok]
      · rw [rf_wb_ne _ _ _ (by omega) (.inr (by omega)), refGone_error]
  case ok =>
    refine ⟨(u.wf 0x00100028 15 0 ppm).wb 0x00100028 31 true, by rw [exec_referenceOk, execReferenceOk, ← hu], rb_wb_same _ _ _ (by omega), ?_, ?_, ?_,
      ((Frame.refl ..).wf (by simp) ..).wb (by simp) ..⟩
    · rw [rf_wb_ne _ _ _ (by omega) (.inr (by omega)), rf_wf_same _ _ _ (by omega) (by omega)]
    · rw [rb_wb_ne _ _ _ (by omega) (by omega), rb_wf_ne _ _ _ (by omega) (by omega) (.inl (by omega))]
    · rw [rb_wb_ne _ _ _ (by omega) (by omega), rb_wf_ne _ _ _ (by omega) (by omega) (.inl (by omega))]
  case back =>
    rw [clockReturn_secure hu hp hs, if_pos ⟨h0, h31, h30⟩, clockEvent_eq]
    exact rf_wb_ne _ _ _ (by omega) (.inr (by omega))
  case stays =>
    have hcond : ¬ (bit v.toNat 0 = true ∧ u.rb 0x00100028 31 = true ∧ u.rb 0x00100028 30 = true) := by
      rintro ⟨h0, h31, h30⟩
      rcases hno with h | h | h <;> simp_all
    rw [clockReturn_secure hu hp hs, if_neg hcond]
  case slowLost =>
    by_cases hquiet : u.power.slowTold = true ∨ u.now < u.power.goodAt + 1000000000
    · refine ⟨u.wb 0x00100028 29 false, rb_wb_same _ _ _ (by omega), (Frame.refl ..).wb (by simp) .., by simp only [State.wb_frame], fun hno hold => ?_,
        fun _ => ⟨by simp only [State.wb_frame], by rw [slowClockLost_eq hu, if_pos hquiet]⟩⟩
      rcases hquiet with h | h
      · rw [h] at hno; cases hno
      · omega
    · refine ⟨(u.wb 0x00100028 29 false).mPower fun p => { p with slowTold := true }, ?_, ((Frame.refl ..).wb (by simp) ..).mPower (by simp) _,
        by simp only [State.mPower_power, State.wb_frame], fun _ _ => ⟨rfl, ?_⟩, fun hyes => absurd hyes hquiet⟩
      · rw [rb_congr (State.mPower_rd ..), rb_wb_same _ _ _ (by omega)]
      · rw [slowClockLost_eq hu, if_neg hquiet, clockEvent_eq]
        rw [rf_congr (State.mPower_rd ..), rf_wb_ne _ _ _ (by omega) (.inr (by omega))]
  case slowBack =>
    by_cases htold : u.power.slowTold = true
    · refine ⟨(u.wb 0x00100028 29 true).mPower fun p => { p with slowTold := false }, ?_, rfl, ((Frame.refl ..).wb (by simp) ..).mPower (by simp) _,
        fun _ => ?_, fun hno => ?_⟩
      · rw [rb_congr (State.mPower_rd ..), rb_wb_same _ _ _ (by omega)]
      · rw [slowClockReturn_eq hu, if_pos htold, clockEvent_eq]
        rw [rf_congr (State.mPower_rd ..), rf_wb_ne _ _ _ (by omega) (.inr (by omega))]
      · rw [htold] at hno; cases hno
    · exact ⟨u.wb 0x00100028 29 true, rb_wb_same _ _ _ (by omega), by simpa only [State.wb_frame, Bool.not_eq_true] using htold, (Frame.refl ..).wb (by simp) ..,
        fun hyes => absurd hyes htold, fun _ => by rw [slowClockReturn_eq hu, if_neg htold]⟩
  case claimed => exact sleepRequest_refused hu hp hv (by rw [State.sleepCheck, ← hcl, hc]; rfl) (by decide)
  case badState => exact sleepRequest_refused hu hp hv (by rw [State.sleepCheck, ← hcl, hc, ← hbusy, hb]; rfl) (by decide)
  case badParam => exact sleepRequest_refused hu hp hv (by rw [State.sleepCheck, ← hcl, hc, ← hbusy, hb, hw]; rfl) (by decide)
  case fault =>
    exact sleepRequest_refused hu hp hv (by rw [State.sleepCheck, ← hcl, hc, ← hbusy, hb, beq_eq_false_iff_ne.mpr hw, hf]; rfl) (by decide)
  case accepted =>
    have hok : u.sleepCheck r = .ok := by rw [State.sleepCheck, ← hcl, hc, ← hbusy, hb, beq_eq_false_iff_ne.mpr hw, hf]; rfl
    refine ⟨_, by rw [sleepRequest_eq hu hp hv, hok, if_pos ⟨rfl, hs⟩], ?_, ?_, ((Frame.refl ..).wf (by simp) ..).mPower (by simp) _⟩
    · rw [rf_congr (State.mPower_rd ..), rf_wf_same _ _ _ (by omega) (by omega)]
      exact Nat.mod_eq_of_lt (Status.code_lt _)
    · simp only [State.mPower_power, State.wf_frame]
  case entered =>
    refine ⟨u.phasesShed.deviceReset true, deviceReset_resetFrom _ true, _, sleepEntered_eq hu hs, ?_⟩
    obtain ⟨h0, h1, h2⟩ := asleep_domains (u.phasesShed.deviceReset true)
    obtain ⟨hfail, hsleep, hrail⟩ := asleep_power (u.phasesShed.deviceReset true)
    split
    next hl => exact ⟨h0, h1, h2, hfail, hsleep, by rw [hrail, hl]; rfl, fun hno => absurd hl hno, asleep_frame _⟩
    next hl =>
      refine ⟨by rw [wakeBegin_domainState, h0], by rw [wakeBegin_domainState, h1], by rw [wakeBegin_domainState, h2], by rw [wakeBegin_power, hfail],
        by rw [wakeBegin_power], ?_, fun _ => ?_, (asleep_frame _).wakeBegin (by simp) (by simp) _⟩
      · rw [wakeBegin_power]
        exact (bne_iff_ne.mpr hl).symm
      · rw [State.wakeBegin, State.mPower_rd, State.rd_wr_same]
  case unarmed => rw [wake_exec hu hi, wakeFrom_unarmed h]
  case wakes =>
    refine ⟨u.wakeBegin n, by rw [wake_exec hu hi, wakeFrom_asleep h hs], ?_, ?_, (Frame.refl ..).wakeBegin (by simp) (by simp) n⟩
    · rw [State.wakeBegin, State.mPower_rd, State.rd_wr_same]
      omega
    · simp only [State.wakeBegin, State.mPower_power, State.wr_frame]
  case latched => exact ⟨_, by rw [wake_exec hu hi, wakeFrom_entering h hs hl], rfl, (Frame.refl ..).mPower (by simp) _⟩
  case awake => rw [wake_exec hu hi, wakeFrom_awake hs]
  case early => simp only [exec_wakeTime, execWakeTime, ← hu, Nat.not_le.mpr hearly, if_false]
  case warm => simp only [exec_railsOkRise, execRailsOkRise, ← hu, hs, if_true]
  case nothing => simp only [exec_railsOkRise, execRailsOkRise, ← hu, hs, if_false]

end Sys2Proof.Machine
end

section
/-!
PROOFS. The regulator controller: phases, droop and over-voltage (R546 to R549, R567, R569, R703).
-/
namespace Sys2Proof.Machine

theorem exec_vrPhaseUpdate (dt rail amps mv : Nat) (phases : List PhaseIn) (s : State) :
    exec (.vrPhaseUpdate dt rail amps mv phases) s = execVrPhaseUpdate dt rail amps mv phases s := rfl
theorem exec_stageOvertemp (dt p temp : Nat) (s : State) : exec (.stageOvertemp dt p temp) s = execStageOvertemp dt p temp s := rfl
theorem exec_stageCooled (dt p temp : Nat) (s : State) : exec (.stageCooled dt p temp) s = execStageCooled dt p temp s := rfl
theorem exec_vrSenseLost (dt p : Nat) (s : State) : exec (.vrSenseLost dt p) s = execVrSenseLost dt p s := rfl
theorem exec_supplyDroop (dt rail mv : Nat) (s : State) : exec (.supplyDroop dt rail mv) s = execSupplyDroop dt rail mv s := rfl
theorem exec_droopEnd (dt rail mv : Nat) (s : State) : exec (.droopEnd dt rail mv) s = execDroopEnd dt rail mv s := rfl
theorem exec_railOverVoltage (dt rail mv : Nat) (s : State) : exec (.railOverVoltage dt rail mv) s = execRailOverVoltage dt rail mv s := rfl
theorem exec_vrCtrlClear (dt : Nat) (r : Req) (v : Word) (s : State) : exec (.vrCtrlClear dt r v) s = execVrCtrlClear dt r v s := rfl

/-! ### The phases -/

theorem phaseReg_ne_railReg (p r : Nat) : phaseReg p 4 ≠ railReg r 8 := by unfold phaseReg railReg; omega

theorem phase_congr {s t : State} {p : Nat} (h : t.rd (phaseReg p 4) = s.rd (phaseReg p 4)) : t.phase p = s.phase p := rf_congr h ..

section
variable (s : State)

theorem setPhase_rd (p v : Nat) {k : Nat} (hk : k ≠ phaseReg p 4) : (s.setPhase p v).rd k = s.rd k := by
  rw [State.setPhase, State.mPower_rd, rd_wf_ne _ hk]

theorem setPhase_phase (p : Nat) {v : Nat} (hv : v < 8) : (s.setPhase p v).phase p = v := by
  rw [State.phase, State.setPhase, rf_congr (State.mPower_rd ..), rf_wf_same _ _ _ (by omega) (by omega)]
  exact Nat.mod_eq_of_lt (by omega)

theorem setPhase_phase_ne {p q : Nat} (v : Nat) (h : q ≠ p) : (s.setPhase p v).phase q = s.phase q :=
  phase_congr (setPhase_rd s p v (by unfold phaseReg; omega))

theorem setPhase_low (p v : Nat) {hi lo : Nat} (hhi : hi < 29) : (s.setPhase p v).rf (phaseReg p 4) hi lo = s.rf (phaseReg p 4) hi lo := by
  rw [State.setPhase, rf_congr (State.mPower_rd ..), rf_wf_ne _ _ _ (by omega) (by omega) (.inr (by omega))]

theorem setPhase_power (p v : Nat) : (s.setPhase p v).power = { s.power with vr := tset {} s.power.vr p ⟨v == 2, v == 2⟩ } := by
  simp only [State.setPhase, State.mPower_power, State.wf_frame]

/-- The phases assigned to a rail are read from words no phase's state lies in. -/
theorem railPhases_congr {s t : State} (hv : t.variant = s.variant) (h : ∀ p, t.rd (phaseReg p 0) = s.rd (phaseReg p 0)) (r : Nat) :
    t.railPhases r = s.railPhases r := by
  simp only [State.railPhases, State.row, hv, rb_congr (h _), rf_congr (h _)]
  rfl

theorem railPhases_lt {p r : Nat} (h : p ∈ s.railPhases r) : p < 16 := by
  have hin := List.mem_range.mp (List.mem_of_mem_filter h)
  split at hin <;> omega

theorem railPhases_nodup (r : Nat) : (s.railPhases r).Nodup := List.nodup_range.filter _

end

section
variable {s t : State} {ps : List Part} {ks : List Nat} (h : Frame ps ks s t) (hp : Part.power ∈ ps)
include h hp

theorem Frame.setPhase {p : Nat} (hk : phaseReg p 4 ∈ ks) (v : Nat) : Frame ps ks s (t.setPhase p v) := (h.wf hk ..).mPower hp _

theorem Frame.railNote (hr : Part.recs ∈ ps) (r mv : Nat) : Frame ps ks s (t.railNote r mv) := by
  unfold State.railNote
  exact Frame.ite (h.mPower hp _) ((Frame.ite h (h.recValue hr ..)).mPower hp _)

end

theorem recValue_power (s : State) (source inst : Nat) (v : Int) : (s.recValue source inst v).power = s.power :=
  foldl_keeps State.power (fun t _ => by simp only [State.mRecs_frame]) _ s

section
variable (s : State)

theorem railNote_rd (r mv k : Nat) : (s.railNote r mv).rd k = s.rd k :=
  ((Frame.refl s [.power, .recs] []).railNote (by simp) (by simp) r mv).regs k (by simp)

/-- Of the power state, a note of a rail's voltage changes what it notes alone. -/
theorem railNote_power (r mv : Nat) : ∃ low ms, (s.railNote r mv).power = { s.power with lowest := low, railMs := ms } := by
  unfold State.railNote
  dsimp only
  split
  · exact ⟨_, _, rfl⟩
  · split
    · exact ⟨_, _, rfl⟩
    · exact ⟨_, _, by rw [State.mPower_power, recValue_power]⟩

end

/-! ### Many phases set at once -/

/-- The phases of a list are set, the first `n` of them active. -/
def State.phasesSet (s : State) (l : List Nat) (n : Nat) : State := l.zipIdx.foldl (fun s x => s.setPhase x.1 (if x.2 < n then 2 else 1)) s

section
variable {n : Nat}

theorem setPhases_keeps {q : Nat} : ∀ (l : List Nat) (k : Nat) (s : State), q ∉ l →
    ((l.zipIdx k).foldl (fun s x => s.setPhase x.1 (if x.2 < n then 2 else 1)) s).phase q = s.phase q
  | [], _, _, _ => rfl
  | p :: l, k, s, hq => by
    rw [List.zipIdx_cons, List.foldl_cons, setPhases_keeps l (k + 1) _ (List.not_mem_of_not_mem_cons hq), setPhase_phase_ne _ _ (List.ne_of_not_mem_cons hq)]

theorem setPhases_phase : ∀ (l : List Nat) (k : Nat) (s : State), l.Nodup → ∀ (i p : Nat), l[i]? = some p →
    ((l.zipIdx k).foldl (fun s x => s.setPhase x.1 (if x.2 < n then 2 else 1)) s).phase p = if k + i < n then 2 else 1
  | [], _, _, _, _, _, hp => by simp at hp
  | q :: l, k, s, hl, 0, p, hp => by
    obtain rfl : q = p := by simpa using hp
    rw [List.zipIdx_cons, List.foldl_cons, setPhases_keeps l (k + 1) _ (List.nodup_cons.mp hl).1, setPhase_phase _ _ (by split <;> omega), Nat.add_zero]
  | q :: l, k, s, hl, i + 1, p, hp => by
    rw [List.zipIdx_cons, List.foldl_cons, setPhases_phase l (k + 1) _ (List.nodup_cons.mp hl).2 i p (by simpa using hp), show k + 1 + i = k + (i + 1) by omega]

variable (s : State) (l : List Nat)

theorem phasesSet_keeps {q : Nat} (hq : q ∉ l) : (s.phasesSet l n).phase q = s.phase q := setPhases_keeps l 0 s hq

theorem phasesSet_phase (hl : l.Nodup) {i p : Nat} (hp : l[i]? = some p) : (s.phasesSet l n).phase p = if i < n then 2 else 1 := by
  rw [State.phasesSet, setPhases_phase l 0 s hl i p hp, Nat.zero_add]

theorem phasesSet_fewer : (s.phasesSet l n).power.fewer = s.power.fewer :=
  foldl_keeps (fun t : State => t.power.fewer) (fun t x => by rw [setPhase_power]) _ s

theorem Frame.phasesSet {s t : State} {ps : List Part} {ks : List Nat} (h : Frame ps ks s t) (hp : Part.power ∈ ps) (hl : ∀ p ∈ l, phaseReg p 4 ∈ ks) :
    Frame ps ks s (t.phasesSet l n) :=
  Frame.foldl (fun _ x hx g => g.setPhase hp (hl x.1 (List.fst_mem_of_mem_zipIdx hx)) _) h

end

/-! ### A rail's reading (R548, R549) -/

/-- What a rail's reading shows of a phase (R548). -/
def State.phaseRead (s : State) (x : PhaseIn) : State :=
  ((s.wf (phaseReg x.phase 4) 23 16 (min 255 x.temp)).wf (phaseReg x.phase 4) 15 0 (min 65535 x.amps)).sat (phaseReg x.phase 8) x.limited

/-- A rail's reading shown: its current and voltage, and its phases. -/
def State.railRead (s : State) (rail amps mv : Nat) (phases : List PhaseIn) : State :=
  phases.foldl (fun t x => if (s.railPhases rail).contains x.phase then t.phaseRead x else t)
    ((s.wr (railReg rail 0) (min 65535 amps * 2 ^ 16 + min 65535 mv)).railNote rail mv)

/-- The usable phases of a rail (R548). -/
def State.railUsable (s : State) (rail : Nat) : List Nat := (s.railPhases rail).filter fun p => s.phase p != 3 && s.phase p != 4 && s.phase p != 5

/-- The current limit of the first of the usable phases. -/
def State.firstLimit (s : State) (usable : List Nat) : Nat := match usable with | p :: _ => s.rf (phaseReg p 0) 7 0 | [] => 0

/-- The number of active phases that a rail's current needs (R548). -/
def State.railNeeds (s : State) (rail amps : Nat) (usable : List Nat) : Nat :=
  min usable.length (max (max 1 (min 16 (s.rf (railReg rail 4) 15 8)))
    (match usable with | p :: _ => if s.rf (phaseReg p 0) 7 0 = 0 then 0 else cdiv amps (7 * s.rf (phaseReg p 0) 7 0) | [] => 0))

section
variable (s : State) (rail amps mv : Nat) (phases : List PhaseIn)

theorem phaseRead_rd (x : PhaseIn) {k : Nat} (h4 : k ≠ phaseReg x.phase 4) (h8 : k ≠ phaseReg x.phase 8) : (s.phaseRead x).rd k = s.rd k := by
  rw [State.phaseRead, State.sat, State.rd_wr_ne _ h8, rd_wf_ne _ h4, rd_wf_ne _ h4]

theorem phaseRead_phase (x : PhaseIn) (p : Nat) : (s.phaseRead x).phase p = s.phase p := by
  by_cases hp : p = x.phase
  · subst hp
    rw [State.phase, State.phaseRead, State.sat, rf_congr (State.rd_wr_ne _ (by unfold phaseReg; omega)), rf_wf_ne _ _ _ (by omega) (by omega) (.inl (by omega)),
      rf_wf_ne _ _ _ (by omega) (by omega) (.inl (by omega)), State.phase]
  · exact phase_congr (phaseRead_rd s x (by unfold phaseReg; omega) (by unfold phaseReg; omega))

/-- A word that is neither a phase's status nor a phase's count is as it was before a reading's phases. -/
theorem railRead_rd {k : Nat} (hk : ∀ p, k ≠ phaseReg p 4 ∧ k ≠ phaseReg p 8) : (s.railRead rail amps mv phases).rd k =
    (s.wr (railReg rail 0) (min 65535 amps * 2 ^ 16 + min 65535 mv)).rd k := by
  refine (foldl_keeps (fun t : State => t.rd k) (fun t x => ?_) phases _).trans (railNote_rd _ rail mv k)
  split
  · exact phaseRead_rd t x (hk x.phase).1 (hk x.phase).2
  · rfl

theorem railRead_phase (p : Nat) : (s.railRead rail amps mv phases).phase p = s.phase p := by
  have hstart : ((s.wr (railReg rail 0) (min 65535 amps * 2 ^ 16 + min 65535 mv)).railNote rail mv).phase p = s.phase p :=
    phase_congr ((railNote_rd _ rail mv _).trans (State.rd_wr_ne _ (by unfold phaseReg railReg; omega)))
  rw [← hstart]
  refine foldl_keeps (fun t : State => t.phase p) (fun t x => ?_) phases _
  split
  · exact phaseRead_phase t x p
  · rfl

theorem railRead_power : ∃ low ms, (s.railRead rail amps mv phases).power = { s.power with lowest := low, railMs := ms } := by
  obtain ⟨low, ms, hnote⟩ := railNote_power (s.wr (railReg rail 0) (min 65535 amps * 2 ^ 16 + min 65535 mv)) rail mv
  refine ⟨low, ms, ?_⟩
  have hkeep : (s.railRead rail amps mv phases).power = ((s.wr (railReg rail 0) (min 65535 amps * 2 ^ 16 + min 65535 mv)).railNote rail mv).power := by
    refine foldl_keeps State.power (fun t x => ?_) phases _
    split
    · simp only [State.phaseRead, State.sat_frame, State.wf_frame]
    · rfl
  rw [hkeep, hnote]
  simp only [State.wr_frame]

theorem railRead_frame : Frame [.power, .recs] (railReg rail 0 :: (List.range 16).flatMap fun p => [phaseReg p 4, phaseReg p 8]) s
    (s.railRead rail amps mv phases) := by
  refine Frame.foldl (fun t x _ g => ?_) (((Frame.refl ..).wr (by simp) _).railNote (by simp) (by simp) ..)
  split
  next hin =>
    have hmem : x.phase ∈ List.range 16 := List.mem_range.mpr (railPhases_lt s (List.contains_iff_mem.mp hin))
    have h4 : phaseReg x.phase 4 ∈ railReg rail 0 :: (List.range 16).flatMap fun p => [phaseReg p 4, phaseReg p 8] :=
      List.mem_cons_of_mem _ (List.mem_flatMap.mpr ⟨_, hmem, by simp⟩)
    have h8 : phaseReg x.phase 8 ∈ railReg rail 0 :: (List.range 16).flatMap fun p => [phaseReg p 4, phaseReg p 8] :=
      List.mem_cons_of_mem _ (List.mem_flatMap.mpr ⟨_, hmem, by simp⟩)
    exact ((g.wf h4 ..).wf h4 ..).sat h8 _
  next => exact g

end

/-! ### Setting the number of active phases (R548) -/

theorem railUsable_congr {s t : State} {rail : Nat} (hr : t.railPhases rail = s.railPhases rail) (hp : ∀ p, t.phase p = s.phase p) :
    t.railUsable rail = s.railUsable rail := by
  simp only [State.railUsable, hr, hp]

theorem railUsable_nodup (s : State) (rail : Nat) : (s.railUsable rail).Nodup := (railPhases_nodup s rail).filter _

/-- After a rail was read: its usable phases are set, or fewer wait for their ms (R548). -/
def State.railSet (y : State) (rail n : Nat) (usable : List Nat) : State :=
  if usable.countP (fun p => y.phase p == 2) ≤ n then (y.phasesSet usable n).mPower fun p => { p with fewer := tset 0 p.fewer rail 0 }
  else if tget 0 y.power.fewer rail = 0 then y.mPower fun p => { p with fewer := tset 0 p.fewer rail (y.now + 1) }
  else if tget 0 y.power.fewer rail - 1 + 1000000 ≤ y.now then (y.phasesSet usable n).mPower fun p => { p with fewer := tset 0 p.fewer rail 0 }
  else y

/-- The number of active phases a rail needs, as the reading computes it, before any of its phases' words is written. -/
theorem railNeeds_congr {s t : State} {rail : Nat} (h0 : ∀ p, t.rd (phaseReg p 0) = s.rd (phaseReg p 0)) (h4 : t.rd (railReg rail 4) = s.rd (railReg rail 4))
    (amps : Nat) (usable : List Nat) : t.railNeeds rail amps usable = s.railNeeds rail amps usable := by
  simp only [State.railNeeds, rf_congr (h0 _), rf_congr h4]

/-- The number of active phases with the limit of the first usable phase read first. -/
theorem railNeeds_eq (s : State) (rail amps : Nat) (usable : List Nat) (ilim : Nat)
    (hl : ilim = s.firstLimit usable) :
    min usable.length (max (max 1 (min 16 (s.rf (railReg rail 4) 15 8))) (if ilim = 0 then 0 else cdiv amps (7 * ilim))) = s.railNeeds rail amps usable := by
  subst hl
  cases usable with
  | nil => rfl
  | cons p l => rfl

theorem execVrPhaseUpdate_eq (dt rail amps mv : Nat) (phases : List PhaseIn) (s x y : State) (usable : List Nat) (ilim n : Nat)
    (hx : x = ((s.tick dt).wr (railReg rail 0) (min 65535 amps * 2 ^ 16 + min 65535 mv)).railNote rail mv)
    (hy : y = phases.foldl (fun t z => if (x.railPhases rail).contains z.phase then t.phaseRead z else t) x)
    (hu : usable = (x.railPhases rail).filter fun p => y.phase p != 3 && y.phase p != 4 && y.phase p != 5)
    (hl : ilim = y.firstLimit usable)
    (hn : n = min usable.length (max (max 1 (min 16 (y.rf (railReg rail 4) 15 8))) (if ilim = 0 then 0 else cdiv amps (7 * ilim)))) :
    execVrPhaseUpdate dt rail amps mv phases s =
      if usable.countP (fun p => y.phase p == 2) ≤ n then .next ((y.phasesSet usable n).mPower fun p => { p with fewer := tset 0 p.fewer rail 0 })
      else if tget 0 y.power.fewer rail = 0 then .next (y.mPower fun p => { p with fewer := tset 0 p.fewer rail (y.now + 1) })
      else if tget 0 y.power.fewer rail - 1 + 1000000 ≤ y.now then .next ((y.phasesSet usable n).mPower fun p => { p with fewer := tset 0 p.fewer rail 0 })
      else .next y := by
  subst hn hl hu hy hx
  rfl

theorem railSet_next (y : State) (rail n : Nat) (usable : List Nat) :
    (if usable.countP (fun p => y.phase p == 2) ≤ n then .next ((y.phasesSet usable n).mPower fun p => { p with fewer := tset 0 p.fewer rail 0 })
      else if tget 0 y.power.fewer rail = 0 then .next (y.mPower fun p => { p with fewer := tset 0 p.fewer rail (y.now + 1) })
      else if tget 0 y.power.fewer rail - 1 + 1000000 ≤ y.now then .next ((y.phasesSet usable n).mPower fun p => { p with fewer := tset 0 p.fewer rail 0 })
      else .next y : Host.Outcome State Fault Refusal) = .next (y.railSet rail n usable) := by
  unfold State.railSet
  split_ifs <;> rfl

section
variable (rail amps mv : Nat) (phases : List PhaseIn)

theorem railPhases_read (s : State) (hr : rail < 2) : (((s.wr (railReg rail 0) (min 65535 amps * 2 ^ 16 + min 65535 mv)).railNote rail mv).railPhases rail) = s.railPhases rail := by
  have hg : Frame [.power, .recs] [railReg rail 0] s ((s.wr (railReg rail 0) (min 65535 amps * 2 ^ 16 + min 65535 mv)).railNote rail mv) :=
    ((Frame.refl ..).wr (by simp) _).railNote (by simp) (by simp) ..
  refine railPhases_congr hg.variant (fun p => ?_) rail
  rw [railNote_rd, State.rd_wr_ne _ (by unfold phaseReg railReg; omega)]

/-- A reading sets the active phases by the phases and limits it found. -/
theorem vrPhaseUpdate_next (dt : Nat) (s : State) (hr : rail < 2) : execVrPhaseUpdate dt rail amps mv phases s =
    .next (((s.tick dt).railRead rail amps mv phases).railSet rail ((s.tick dt).railNeeds rail amps ((s.tick dt).railUsable rail)) ((s.tick dt).railUsable rail)) := by
  generalize hu : s.tick dt = u
  have hphase := railRead_phase u rail amps mv phases
  rw [← railSet_next]
  refine execVrPhaseUpdate_eq dt rail amps mv phases s _ _ _ _ _ rfl ?_ ?_ rfl ?_
  · rw [hu, railPhases_read _ _ _ _ hr, State.railRead]
  · simp only [hu, railPhases_read _ _ _ _ hr, hphase, State.railUsable]
  · refine (railNeeds_congr (fun p => ?_) ?_ amps _).symm.trans (railNeeds_eq _ rail amps _ _ rfl).symm
    · rw [railRead_rd _ _ _ _ _ (fun q => by unfold phaseReg; omega), State.rd_wr_ne _ (by unfold phaseReg railReg; omega)]
    · rw [railRead_rd _ _ _ _ _ (fun q => by unfold phaseReg railReg; omega), State.rd_wr_ne _ (by unfold railReg; omega)]

end

theorem phasesSet_rd (s : State) (l : List Nat) (n : Nat) {k : Nat} (hk : ∀ p, k ≠ phaseReg p 4) : (s.phasesSet l n).rd k = s.rd k := by
  rw [State.phasesSet]
  exact foldl_keeps (fun t : State => t.rd k) (fun t (x : Nat × Nat) => setPhase_rd t x.1 _ (hk x.1)) _ s

section
variable (y : State) (rail n : Nat) (usable : List Nat)

theorem railSet_rd {k : Nat} (hk : ∀ p, k ≠ phaseReg p 4) : (y.railSet rail n usable).rd k = y.rd k := by
  unfold State.railSet
  split_ifs
  · exact (State.mPower_rd ..).trans (phasesSet_rd y usable n hk)
  · exact State.mPower_rd ..
  · exact (State.mPower_rd ..).trans (phasesSet_rd y usable n hk)
  · rfl

theorem railSet_keeps {q : Nat} (hq : q ∉ usable) : (y.railSet rail n usable).phase q = y.phase q := by
  unfold State.railSet
  split_ifs
  · exact (phase_congr (State.mPower_rd ..)).trans (phasesSet_keeps y usable hq)
  · exact phase_congr (State.mPower_rd ..)
  · exact (phase_congr (State.mPower_rd ..)).trans (phasesSet_keeps y usable hq)
  · rfl

theorem Frame.railSet {s : State} {ps : List Part} {ks : List Nat} (h : Frame ps ks s y) (hp : Part.power ∈ ps) (hl : ∀ p ∈ usable, phaseReg p 4 ∈ ks) :
    Frame ps ks s (y.railSet rail n usable) := by
  unfold State.railSet
  split_ifs
  · exact (h.phasesSet usable hp hl).mPower hp _
  · exact h.mPower hp _
  · exact (h.phasesSet usable hp hl).mPower hp _
  · exact h

/-- Not more active phases than the current needs: they are set at once. -/
theorem railSet_more (hl : usable.Nodup) (h : usable.countP (fun p => y.phase p == 2) ≤ n) :
    (∀ i p, usable[i]? = some p → (y.railSet rail n usable).phase p = if i < n then 2 else 1) ∧ tget 0 (y.railSet rail n usable).power.fewer rail = 0 := by
  rw [State.railSet, if_pos h]
  refine ⟨fun i p hp => (phase_congr (State.mPower_rd ..)).trans (phasesSet_phase y usable hl hp), ?_⟩
  simp only [State.mPower_power, tget_tset_same]

/-- More than it needs: their ms begins. -/
theorem railSet_begins (h : n < usable.countP (fun p => y.phase p == 2)) (hf : tget 0 y.power.fewer rail = 0) :
    (∀ p ∈ usable, (y.railSet rail n usable).phase p = y.phase p) ∧ tget 0 (y.railSet rail n usable).power.fewer rail = y.now + 1 := by
  rw [State.railSet, if_neg (by omega), if_pos hf]
  refine ⟨fun p _ => phase_congr (State.mPower_rd ..), ?_⟩
  simp only [State.mPower_power, tget_tset_same]

/-- Their ms is over: fewer are set. -/
theorem railSet_fewer (hl : usable.Nodup) (h : n < usable.countP (fun p => y.phase p == 2)) (hf : tget 0 y.power.fewer rail ≠ 0)
    (hms : tget 0 y.power.fewer rail - 1 + 1000000 ≤ y.now) {i p : Nat} (hp : usable[i]? = some p) :
    (y.railSet rail n usable).phase p = if i < n then 2 else 1 := by
  rw [State.railSet, if_neg (by omega), if_neg hf, if_pos hms]
  exact (phase_congr (State.mPower_rd ..)).trans (phasesSet_phase y usable hl hp)

end

/-! ### Stages, droop and over-voltage (R549) -/

/-- A stage's state and temperature shown. -/
def State.stageShown (s : State) (p v temp : Nat) : State := (s.setPhase p v).wf (phaseReg p 4) 23 16 temp

section
variable (s : State) (p temp : Nat) {v : Nat}

theorem stageShown_phase (hv : v < 8) : (s.stageShown p v temp).phase p = v := by
  rw [State.phase, State.stageShown, rf_wf_ne _ _ _ (by omega) (by omega) (.inl (by omega))]
  exact setPhase_phase s p hv

theorem stageShown_temp : (s.stageShown p v temp).rf (phaseReg p 4) 23 16 = temp % 256 := rf_wf_same _ _ _ (by omega) (by omega)

theorem stageShown_frame : Frame [.power] [phaseReg p 4] s (s.stageShown p v temp) := ((Frame.refl ..).setPhase (by simp) (by simp) v).wf (by simp) ..

end

/-- A droop noted: the clocks of the rail's domains are stretched, and it is counted. -/
def State.drooped (s : State) (rail mv : Nat) : State :=
  ((s.mPower fun p => { p with stretched := p.stretched ++ [rail] }).satf (railReg rail 8) 15 0 1).railNote rail mv

section
variable (s : State) (rail mv : Nat)

theorem drooped_power : ∃ low ms, (s.drooped rail mv).power = { s.power with stretched := s.power.stretched ++ [rail], lowest := low, railMs := ms } := by
  obtain ⟨low, ms, hnote⟩ := railNote_power ((s.mPower fun p => { p with stretched := p.stretched ++ [rail] }).satf (railReg rail 8) 15 0 1) rail mv
  refine ⟨low, ms, ?_⟩
  rw [State.drooped, hnote]
  simp only [State.satf, State.wf_frame, State.mPower_power]

theorem drooped_count : (s.drooped rail mv).rf (railReg rail 8) 15 0 = min 65535 (s.rf (railReg rail 8) 15 0 + 1) := by
  refine (rf_congr (railNote_rd ..) ..).trans ?_
  rw [rf_satf _ _ (Nat.zero_le _) (by omega), rf_congr (State.mPower_rd ..)]
  norm_num [Nat.min_comm]

theorem drooped_frame : Frame [.power, .recs] [railReg rail 8] s (s.drooped rail mv) :=
  (((Frame.refl ..).mPower (by simp) _).satf (by simp) ..).railNote (by simp) (by simp) ..

end

/-- Phases of a list, each set to one value. -/
def State.phasesTo (s : State) (l : List Nat) (v : Nat) : State := l.foldl (fun s p => s.setPhase p v) s

section
variable (l : List Nat) {v : Nat}

theorem phasesTo_rd (s : State) {k : Nat} (hk : ∀ p, k ≠ phaseReg p 4) : (s.phasesTo l v).rd k = s.rd k := by
  rw [State.phasesTo]
  exact foldl_keeps (fun t : State => t.rd k) (fun t p => setPhase_rd t p v (hk p)) l s

theorem phasesTo_phase (hv : v < 8) {q : Nat} : ∀ (l : List Nat) (s : State), q ∈ l ∨ s.phase q = v → (s.phasesTo l v).phase q = v
  | [], s, h => h.resolve_left List.not_mem_nil
  | p :: l, s, h => by
    refine phasesTo_phase hv l (s.setPhase p v) ?_
    by_cases hpq : q = p
    · rw [hpq]
      exact .inr (setPhase_phase s p hv)
    · exact h.imp (fun hin => (List.mem_cons.mp hin).resolve_left hpq) fun h => (setPhase_phase_ne s v hpq).trans h

theorem Frame.phasesTo {s t : State} {ps : List Part} {ks : List Nat} (h : Frame ps ks s t) (hp : Part.power ∈ ps) (hl : ∀ p ∈ l, phaseReg p 4 ∈ ks) (v : Nat) :
    Frame ps ks s (t.phasesTo l v) :=
  Frame.foldl (fun _ p hin g => g.setPhase hp (hl p hin) _) h

end

/-! ### A rail that may start again -/

/-- Disabled phases of a list, shed again. -/
def State.phasesShedAgain (s : State) (l : List Nat) : State := l.foldl (fun s p => if s.phase p = 5 then s.setPhase p 1 else s) s

theorem phasesShedAgain_rd (s : State) (l : List Nat) {k : Nat} (hk : ∀ p, k ≠ phaseReg p 4) : (s.phasesShedAgain l).rd k = s.rd k := by
  rw [State.phasesShedAgain]
  refine foldl_keeps (fun t : State => t.rd k) (fun t p => ?_) l s
  split
  · exact setPhase_rd t p 1 (hk p)
  · rfl

theorem phasesShedAgain_keeps {q : Nat} : ∀ (l : List Nat) (s : State), q ∉ l → (s.phasesShedAgain l).phase q = s.phase q
  | [], _, _ => rfl
  | p :: l, s, hq => by
    refine (phasesShedAgain_keeps l (if s.phase p = 5 then s.setPhase p 1 else s) (List.not_mem_of_not_mem_cons hq)).trans ?_
    split
    · exact setPhase_phase_ne s 1 (List.ne_of_not_mem_cons hq)
    · rfl

theorem phasesShedAgain_phase {q : Nat} : ∀ (l : List Nat) (s : State), l.Nodup → q ∈ l → (s.phasesShedAgain l).phase q = if s.phase q = 5 then 1 else s.phase q
  | [], _, _, hq => absurd hq List.not_mem_nil
  | p :: l, s, hl, hq => by
    obtain ⟨hp, hl⟩ := List.nodup_cons.mp hl
    rcases List.mem_cons.mp hq with rfl | hq
    · refine (phasesShedAgain_keeps l (if s.phase q = 5 then s.setPhase q 1 else s) hp).trans ?_
      split
      · exact setPhase_phase s q (by omega)
      · rfl
    · have hne : q ≠ p := fun h => hp (h ▸ hq)
      refine (phasesShedAgain_phase l (if s.phase p = 5 then s.setPhase p 1 else s) hl hq).trans ?_
      have hkeep : (if s.phase p = 5 then s.setPhase p 1 else s).phase q = s.phase q := by
        split
        · exact setPhase_phase_ne s 1 hne
        · rfl
      rw [hkeep]

theorem phasesShedAgain_offRails (s : State) (l : List Nat) : (s.phasesShedAgain l).power.offRails = s.power.offRails := by
  rw [State.phasesShedAgain]
  refine foldl_keeps (fun t : State => t.power.offRails) (fun t p => ?_) l s
  split
  · rw [setPhase_power]
  · rfl

theorem Frame.phasesShedAgain {s t : State} {ps : List Part} {ks : List Nat} (h : Frame ps ks s t) (hp : Part.power ∈ ps) {l : List Nat}
    (hl : ∀ p ∈ l, phaseReg p 4 ∈ ks) : Frame ps ks s (t.phasesShedAgain l) :=
  Frame.foldl (fun _ p hin g => Frame.ite (g.setPhase hp (hl p hin) _) g) h

/-- A shut rail opened: not yet its phases. -/
def State.railOpened (s : State) (rail : Nat) : State := (s.wb (railReg rail 8) 31 false).mPower fun p => { p with offRails := tset 0 p.offRails rail 0 }

section
variable (s : State) (rail : Nat)

theorem railOpened_rd {k : Nat} (hk : k ≠ railReg rail 8) : (s.railOpened rail).rd k = s.rd k := by
  rw [State.railOpened, State.mPower_rd, rd_wb_ne _ hk]

theorem railOpened_phase (p : Nat) : (s.railOpened rail).phase p = s.phase p := phase_congr (railOpened_rd s rail (phaseReg_ne_railReg p rail))

theorem railOpened_phases (r : Nat) : (s.railOpened rail).railPhases r = s.railPhases r :=
  railPhases_congr (((Frame.refl s [.power] [railReg rail 8]).wb (by simp) ..).mPower (by simp) _).variant
    (fun p => railOpened_rd s rail (by unfold phaseReg railReg; omega)) r

theorem railClear_eq : s.railClear rail = if s.rb (railReg rail 8) 31 = true then (s.railOpened rail).phasesShedAgain (s.railPhases rail) else s := by
  rw [← railOpened_phases s rail rail]
  rfl

theorem railClear_rd {k : Nat} (h8 : k ≠ railReg rail 8) (h4 : ∀ p, k ≠ phaseReg p 4) : (s.railClear rail).rd k = s.rd k := by
  rw [railClear_eq s rail]
  split
  · rw [phasesShedAgain_rd _ _ h4, railOpened_rd s rail h8]
  · rfl

theorem railClear_phase_ne {p : Nat} (hp : p ∉ s.railPhases rail) : (s.railClear rail).phase p = s.phase p := by
  rw [railClear_eq s rail]
  split
  · rw [phasesShedAgain_keeps _ _ hp, railOpened_phase]
  · rfl

theorem railClear_offRails_ne {r : Nat} (h : r ≠ rail) : tget 0 (s.railClear rail).power.offRails r = tget 0 s.power.offRails r := by
  rw [railClear_eq s rail]
  split
  · rw [phasesShedAgain_offRails, State.railOpened, State.mPower_power]
    simp only [State.wb_frame]
    exact tget_tset_ne (d := 0) _ _ h
  · rfl

theorem railClear_phases (r : Nat) : (s.railClear rail).railPhases r = s.railPhases r := by
  rw [railClear_eq s rail]
  split
  · refine (railPhases_congr ?_ (fun p => phasesShedAgain_rd _ _ (fun q => by unfold phaseReg; omega)) r).trans (railOpened_phases s rail r)
    exact ((Frame.refl (s.railOpened rail) [.power] ((s.railPhases rail).map fun p => phaseReg p 4)).phasesShedAgain (by simp)
      fun p hp => List.mem_map.mpr ⟨p, hp, rfl⟩).variant
  · rfl

theorem railClear_shut (h : s.rb (railReg rail 8) 31 = true) : (s.railClear rail).rb (railReg rail 8) 31 = false ∧ tget 0 (s.railClear rail).power.offRails rail = 0
    ∧ ∀ p ∈ s.railPhases rail, (s.railClear rail).phase p = if s.phase p = 5 then 1 else s.phase p := by
  rw [railClear_eq s rail, if_pos h]
  refine ⟨?_, ?_, fun p hp => ?_⟩
  · rw [rb_congr (phasesShedAgain_rd _ _ fun p => (phaseReg_ne_railReg p rail).symm), State.railOpened, rb_congr (State.mPower_rd ..), rb_wb_same _ _ _ (by omega)]
  · rw [phasesShedAgain_offRails]
    simp only [State.railOpened, State.mPower_power, tget_tset_same]
  · rw [phasesShedAgain_phase _ _ (railPhases_nodup s rail) hp, railOpened_phase]

end

theorem Frame.railClear {s t : State} {ps : List Part} {ks : List Nat} (h : Frame ps ks s t) (hp : Part.power ∈ ps) {rail : Nat}
    (h8 : railReg rail 8 ∈ ks) (h4 : ∀ p, p < 16 → phaseReg p 4 ∈ ks) : Frame ps ks s (t.railClear rail) := by
  rw [railClear_eq t rail]
  split
  · exact ((h.wb h8 ..).mPower hp _).phasesShedAgain hp fun p hin => h4 p (railPhases_lt t hin)
  · exact h

/-- A phase is assigned to one rail. -/
theorem railPhases_apart (s : State) {p r q : Nat} (h : p ∈ s.railPhases r) (hne : r ≠ q) : p ∉ s.railPhases q := by
  intro hq
  have h1 := (List.mem_filter.mp h).2
  have h2 := (List.mem_filter.mp hq).2
  simp only [Bool.and_eq_true, beq_iff_eq] at h1 h2
  exact hne (h1.2.symm.trans h2.2)

/-- Rails cleared as a write of VR_CTRL names them. -/
def State.railsClear (s : State) (b0 b1 : Bool) : State :=
  if b1 then (if b0 then s.railClear 0 else s).railClear 1 else if b0 then s.railClear 0 else s

section
variable (s : State) (b0 b1 : Bool) {rail : Nat}

theorem railsClear_frame : Frame [.power] (railReg 0 8 :: railReg 1 8 :: (List.range 16).map fun p => phaseReg p 4) s (s.railsClear b0 b1) := by
  have h4 : ∀ p, p < 16 → phaseReg p 4 ∈ railReg 0 8 :: railReg 1 8 :: (List.range 16).map fun p => phaseReg p 4 := fun p hp =>
    List.mem_cons_of_mem _ (List.mem_cons_of_mem _ (List.mem_map.mpr ⟨p, List.mem_range.mpr hp, rfl⟩))
  have h0 : Frame [.power] (railReg 0 8 :: railReg 1 8 :: (List.range 16).map fun p => phaseReg p 4) s (if b0 then s.railClear 0 else s) :=
    Frame.ite ((Frame.refl ..).railClear (by simp) (by simp) h4) (Frame.refl ..)
  exact Frame.ite (h0.railClear (by simp) (by simp) h4) h0

/-- What the clear of a rail leaves of the other one. -/
theorem railClear_other {r q : Nat} (hne : r ≠ q) : (s.railClear q).rd (railReg r 8) = s.rd (railReg r 8)
    ∧ tget 0 (s.railClear q).power.offRails r = tget 0 s.power.offRails r ∧ (∀ p ∈ s.railPhases r, (s.railClear q).phase p = s.phase p) :=
  ⟨railClear_rd s q (by unfold railReg; omega) fun p => (phaseReg_ne_railReg p r).symm, railClear_offRails_ne s q hne,
    fun _ hp => railClear_phase_ne s q (railPhases_apart s hp hne)⟩

end

theorem vrCtrlClear_next {dt : Nat} {r : Req} {v : Word} {s u : State} (hu : u = s.tick dt) (hp : pathWin r.path = pfWin) (hs : u.reqSecure r = true) :
    exec (.vrCtrlClear dt r v) s = .next (u.railsClear (bit v.toNat 0) (bit v.toNat 1)) := by
  simp only [exec_vrCtrlClear, execVrCtrlClear, ← hu, hp, hs, ne_eq, not_true_eq_false, if_false, Bool.not_true, Bool.false_eq_true]
  rfl

section
variable (s : State) (b0 b1 : Bool) {rail : Nat}

theorem railsClear_shut (hr : rail < 2) (hb : (if rail = 0 then b0 else b1) = true) (h : s.rb (railReg rail 8) 31 = true) :
    (s.railsClear b0 b1).rb (railReg rail 8) 31 = false ∧ tget 0 (s.railsClear b0 b1).power.offRails rail = 0
      ∧ ∀ p ∈ s.railPhases rail, (s.railsClear b0 b1).phase p = if s.phase p = 5 then 1 else s.phase p := by
  obtain rfl | rfl : rail = 0 ∨ rail = 1 := by omega
  · obtain rfl : b0 = true := hb
    obtain ⟨hbit, hoff, hph⟩ := railClear_shut s 0 h
    cases b1
    · exact ⟨hbit, hoff, hph⟩
    · obtain ⟨kbit, koff, kph⟩ := railClear_other (s.railClear 0) (r := 0) (q := 1) (by omega)
      refine ⟨(rb_congr kbit 31).trans hbit, koff.trans hoff, fun p hp => ?_⟩
      exact (kph p (by rw [railClear_phases]; exact hp)).trans (hph p hp)
  · obtain rfl : b1 = true := hb
    cases b0
    · exact railClear_shut s 1 h
    · obtain ⟨kbit, koff, kph⟩ := railClear_other s (r := 1) (q := 0) (by omega)
      obtain ⟨hbit, hoff, hph⟩ := railClear_shut (s.railClear 0) 1 ((rb_congr kbit 31).trans h)
      refine ⟨hbit, hoff, fun p hp => ?_⟩
      rw [← kph p hp]
      exact hph p (by rw [railClear_phases]; exact hp)

theorem railsClear_kept (hr : rail < 2) (hb : (if rail = 0 then b0 else b1) = false) :
    (s.railsClear b0 b1).rd (railReg rail 8) = s.rd (railReg rail 8) ∧ ∀ p ∈ s.railPhases rail, (s.railsClear b0 b1).phase p = s.phase p := by
  obtain rfl | rfl : rail = 0 ∨ rail = 1 := by omega
  · obtain rfl : b0 = false := hb
    cases b1
    · exact ⟨rfl, fun _ _ => rfl⟩
    · obtain ⟨kbit, _, kph⟩ := railClear_other s (r := 0) (q := 1) (by omega)
      exact ⟨kbit, kph⟩
  · obtain rfl : b1 = false := hb
    cases b0
    · exact ⟨rfl, fun _ _ => rfl⟩
    · obtain ⟨kbit, _, kph⟩ := railClear_other s (r := 1) (q := 0) (by omega)
      exact ⟨kbit, kph⟩

end

/-! ### The controller's outcomes -/

theorem supplyDroop_eq {dt rail mv : Nat} {s u : State} (hu : u = s.tick dt) (hlow : mv * 100 < u.railTarget rail * 94) (hin : rail ∉ u.power.stretched) :
    exec (.supplyDroop dt rail mv) s = if tget 0 u.power.droopAt rail ≠ 0 ∧ u.now < tget 0 u.power.droopAt rail - 1 + 1000000 then .next (u.drooped rail mv)
      else .next (((u.drooped rail mv).mPower fun p => { p with droopAt := tset 0 p.droopAt rail (u.now + 1) }).emitPf 0x14 .throttled (rail * 2 ^ 24 + mv % 2 ^ 16)) := by
  obtain ⟨low, ms, hpow⟩ := drooped_power u rail mv
  have hat : (u.drooped rail mv).power.droopAt = u.power.droopAt := (congrArg PowerSt.droopAt hpow :)
  have hnot : ¬ (u.railTarget rail * 94 ≤ mv * 100 ∨ u.power.stretched.contains rail = true) := by
    rw [List.contains_iff_mem]
    exact not_or.mpr ⟨by omega, hin⟩
  rw [← hat, ← (drooped_frame u rail mv).now]
  simp only [exec_supplyDroop, execSupplyDroop, ← hu, if_neg hnot]
  rfl

theorem railOverVoltage_eq {dt rail mv : Nat} {s u : State} (hu : u = s.tick dt) (hhigh : u.railTarget rail * 112 < mv * 100) (hb : u.rb (railReg rail 8) 31 = false) :
    exec (.railOverVoltage dt rail mv) s = .next ((railDomains rail).foldl (fun s d => if s.domainAbsent d then s
        else (s.domainUnits d).foldl (fun s k => s.unitStop k 2 (some .fault)) (s.domainOff d))
      ((((u.wb (railReg rail 8) 31 true).phasesTo (u.railPhases rail) 5).vrFault 3 0xFF rail).mPower fun p =>
        { p with offRails := tset 0 p.offRails rail (u.now + 1), railFaults := tmod [] p.railFaults rail fun l => u.now :: l })) := by
  have hnot : ¬ (mv * 100 ≤ u.railTarget rail * 112 ∨ u.rb (railReg rail 8) 31 = true) := by
    rw [hb]
    exact not_or.mpr ⟨by omega, Bool.false_ne_true⟩
  have hnow : (((u.wb (railReg rail 8) 31 true).phasesTo (u.railPhases rail) 5).vrFault 3 0xFF rail).now = u.now := by
    simp only [State.vrFault, emit_frame, emitPf_frame]
    exact (((Frame.refl u [.power] (railReg rail 8 :: (u.railPhases rail).map fun p => phaseReg p 4)).wb (by simp) ..).phasesTo _ (by simp)
      (fun p hp => List.mem_cons_of_mem _ (List.mem_map.mpr ⟨p, hp, rfl⟩)) 5).now
  rw [← hnow, exec_railOverVoltage, execRailOverVoltage, ← hu, if_neg hnot]
  rfl

/--
Settles O44: each outcome is followed from the operation to the phases and the rail it names. The usable phases and the number the current
needs are read after the reading's own writes, none of which lies in a phase's state or its assignment; the two rails share no phase, so the clear
of one leaves the other. The controller's order of phases and its droop reports are the model's choice (log entry 53).
-/
theorem regulators : Obligations.Regulators := by
  unfold Obligations.Regulators
  refine ⟨fun dt rail amps mv n phases usable s u hu hr hus hn => ?reading, fun dt p temp s u hu hon hst hhot => ?hot,
    fun dt p temp s u hu h3 => ⟨fun hc => ?cooled, fun hw => ?warm⟩, fun dt p s u hu hon h4 => ?lost, fun dt rail mv last s u hu hlow hin hl => ?droop,
    fun dt rail mv s u hu h => ?none, fun dt rail mv s u hu hup => ?ends, fun dt rail mv s u hu hhigh hb => ?tooHigh,
    fun dt rail r v s u hu hp hs hr => ?clear, fun dt r v s u hu hp hs => ?denied, fun p v u hv => ?pins, fun p u => ?drives⟩
  case reading =>
    have hus : usable = u.railUsable rail := hus
    have hn : n = u.railNeeds rail amps usable := by rw [hn]; cases usable <;> rfl
    obtain ⟨low, ms, hpow⟩ := railRead_power u rail amps mv phases
    have hphase := railRead_phase u rail amps mv phases
    have hfewer : (u.railRead rail amps mv phases).power.fewer = u.power.fewer := (congrArg PowerSt.fewer hpow :)
    have hframe := railRead_frame u rail amps mv phases
    have hnodup : usable.Nodup := hus ▸ railUsable_nodup u rail
    refine ⟨(u.railRead rail amps mv phases).railSet rail n usable, ?_, ?_, fun h => ?_, fun h h0 => ?_, fun h h0 hms i p hp => ?_, fun p hp hno => ?_, ?_⟩
    · rw [exec_vrPhaseUpdate, vrPhaseUpdate_next _ _ _ _ _ _ hr, hn, hus, hu]
    · rw [railSet_rd _ _ _ _ fun p => by unfold phaseReg railReg; omega, railRead_rd _ _ _ _ _ fun p => by unfold phaseReg railReg; omega, State.rd_wr_same]
      omega
    · exact railSet_more _ rail n usable hnodup (by simpa only [hphase] using h)
    · obtain ⟨hk, hf⟩ := railSet_begins (u.railRead rail amps mv phases) rail n usable (by simpa only [hphase] using h) (by rw [hfewer]; exact h0)
      exact ⟨fun p hp => (hk p hp).trans (hphase p), by rw [hf, hframe.now]⟩
    · exact railSet_fewer _ rail n usable hnodup (by simpa only [hphase] using h) (by rw [hfewer]; exact h0) (by rw [hfewer, hframe.now]; exact hms) hp
    · exact (railSet_keeps _ rail n usable hno).trans (hphase p)
    · refine hframe.railSet _ rail n usable (by simp) fun p hp => List.mem_cons_of_mem _ (List.mem_flatMap.mpr ⟨p, ?_, by simp⟩)
      exact List.mem_range.mpr (railPhases_lt u (List.mem_of_mem_filter (hus ▸ hp)))
  case hot =>
    refine ⟨u.stageShown p 3 (min 255 temp), ?_, stageShown_phase u p _ (by omega), ?_, stageShown_frame ..⟩
    · rw [exec_stageOvertemp, execStageOvertemp, ← hu, if_pos ⟨hon, hst, hhot⟩]
      rfl
    · rw [stageShown_temp]
      omega
  case cooled =>
    refine ⟨u.stageShown p 1 temp, ?_, stageShown_phase u p _ (by omega), ?_, stageShown_frame ..⟩
    · rw [exec_stageCooled, execStageCooled, ← hu, if_pos ⟨h3, hc⟩]
      rfl
    · have hmax : u.rf (phaseReg p 0) 15 8 < 256 := Nat.mod_lt _ (by omega)
      rw [stageShown_temp]
      omega
  case warm => rw [exec_stageCooled, execStageCooled, ← hu, if_neg fun h => by omega]
  case lost =>
    exact ⟨u.setPhase p 4, by rw [exec_vrSenseLost, execVrSenseLost, ← hu, if_pos ⟨hon, h4⟩], setPhase_phase u p (by omega), (Frame.refl ..).setPhase (by simp) (by simp) 4⟩
  case droop =>
    obtain ⟨low, ms, hpow⟩ := drooped_power u rail mv
    have hst : (u.drooped rail mv).power.stretched = u.power.stretched ++ [rail] := (congrArg PowerSt.stretched hpow :)
    by_cases hquiet : last ≠ 0 ∧ u.now < last - 1 + 1000000
    · exact ⟨u.drooped rail mv, fun h => by omega, fun _ => by rw [supplyDroop_eq hu hlow hin, ← hl, if_pos hquiet], hst, drooped_count .., drooped_frame ..⟩
    · refine ⟨(u.drooped rail mv).mPower fun p => { p with droopAt := tset 0 p.droopAt rail (u.now + 1) },
        fun _ => by rw [supplyDroop_eq hu hlow hin, ← hl, if_neg hquiet], fun h => by omega, hst, ?_, (drooped_frame ..).mPower (by simp) _⟩
      exact (rf_congr (State.mPower_rd ..) ..).trans (drooped_count ..)
  case none => rw [exec_supplyDroop, execSupplyDroop, ← hu, if_pos (by rwa [List.contains_iff_mem])]
  case ends =>
    refine ⟨u.mPower fun p => { p with stretched := p.stretched.filter (· != rail) }, by rw [exec_droopEnd, execDroopEnd, ← hu, if_pos hup], ?_, fun r hne => ?_,
      (Frame.refl ..).mPower (by simp) _⟩
    · simp [State.mPower_power]
    · simp [State.mPower_power, hne]
  case tooHigh =>
    have hp : ∀ p ∈ u.railPhases rail, phaseReg p 4 ∈ railReg rail 8 :: (List.range 16).map fun p => phaseReg p 4 := fun p hp =>
      List.mem_cons_of_mem _ (List.mem_map.mpr ⟨p, List.mem_range.mpr (railPhases_lt u hp), rfl⟩)
    refine ⟨(u.wb (railReg rail 8) 31 true).phasesTo (u.railPhases rail) 5, _, railOverVoltage_eq hu hhigh hb, fun p hp => phasesTo_phase (by omega) _ _ (.inl hp), ?_,
      ((Frame.refl ..).wb (by simp) ..).phasesTo _ (by simp) hp 5, rfl⟩
    rw [rb_congr (phasesTo_rd _ _ fun p => (phaseReg_ne_railReg p rail).symm), rb_wb_same _ _ _ (by omega)]
  case clear =>
    have hbit : bit v.toNat rail = if rail = 0 then bit v.toNat 0 else bit v.toNat 1 := by
      obtain rfl | rfl : rail = 0 ∨ rail = 1 := by omega
      · rfl
      · rfl
    refine ⟨_, vrCtrlClear_next hu hp hs, fun h => railsClear_shut u _ _ hr (hbit ▸ h), fun h => railsClear_kept u _ _ hr (hbit ▸ h), railsClear_frame ..⟩
  case denied =>
    rw [exec_vrCtrlClear, execVrCtrlClear, ← hu, if_neg (not_not.mpr hp), hs]
    rfl
  case pins =>
    have hoff : (v == 2) = false := beq_eq_false_iff_ne.mpr (by omega)
    simp [State.vrPwm, State.vrEn, setPhase_power, hoff, tget_tset_same]
  case drives =>
    simp only [State.vrPwm, State.vrEn, setPhase_power, tget_tset_same]
    cases Config.pwmLevel p (u.setPhase p 2).now <;> simp

end Sys2Proof.Machine
end

section
/-!
PROOFS. Temperature: sensors, caps, trips, lost claims and the critical level (R534, R553 to R557).
-/
namespace Sys2Proof.Machine

theorem exec_sensorRead (dt : Nat) (readings : List (Int × Nat)) (s : State) : exec (.sensorRead dt readings) s = execSensorRead dt readings s := rfl
theorem exec_thermalClear (dt d : Nat) (s : State) : exec (.thermalClear dt d) s = execThermalClear dt d s := rfl
theorem exec_claimLost (dt d : Nat) (s : State) : exec (.claimLost dt d) s = execClaimLost dt d s := rfl
theorem exec_criticalTemperature (dt : Nat) (analog : Option Int) (s : State) :
    exec (.criticalTemperature dt analog) s = execCriticalTemperature dt analog s := rfl
theorem exec_thermtripRelease (dt : Nat) (highest : Int) (s : State) : exec (.thermtripRelease dt highest) s = execThermtripRelease dt highest s := rfl

/-! ### The sensors (R553) -/

/-- A sensor's register (R567). -/
def sensorReg (i : Nat) : Nat := 0x00109000 + i * 4

/-- A sensor's reading stored and shown. -/
def State.sensorShown (s : State) (x : (Int × Nat) × Nat) : State :=
  (s.mPower fun p => { p with temps := tset none p.temps x.2 (if sensorOk x.1.1 x.1.2 then some x.1.1 else none) }).wr (sensorReg x.2)
    (b2n (sensorOk x.1.1 x.1.2) * 2 ^ 31 + (Config.sensorDomain x.2).val * 2 ^ 24 + q88 x.1.1)

/-- The hottest sensor shown, and noted by the recorder once a ms. -/
def State.hottestShown (s : State) : State :=
  match s.allTemps with
  | [] => s
  | x :: r =>
    let hot := r.foldl (fun b y => if b.2 < y.2 then y else b) x
    let s := s.wr 0x00100030 (hot.1 * 2 ^ 16 + q88 hot.2)
    if s.power.hotMs = s.now / 1000000 + 1 then s
    else (s.recValue 3 0 hot.2).mPower fun p => { p with hotMs := s.now / 1000000 + 1 }

theorem q88_lt (x : Int) : q88 x < 2 ^ 16 := tobits_lt ..

theorem sensorRead_next {dt : Nat} {readings : List (Int × Nat)} {s u : State} (hu : u = s.tick dt) (hl : readings.length ≤ 64) (hc : u.power.critical = false) :
    exec (.sensorRead dt readings) s = .next ((List.range 24).foldl (fun s d => (s.capDomain d).tripDomain d)
      (readings.zipIdx.foldl State.sensorShown u).hottestShown) := by
  rw [exec_sensorRead, execSensorRead, ← hu, hc, List.take_of_length_le hl]
  rfl

section
variable (s : State)

theorem sensorShown_temp (x : (Int × Nat) × Nat) : tget none (s.sensorShown x).power.temps x.2 = if sensorOk x.1.1 x.1.2 then some x.1.1 else none := by
  simp only [State.sensorShown, State.wr_frame, State.mPower_power, tget_tset_same]

theorem sensorShown_temp_ne (x : (Int × Nat) × Nat) {i : Nat} (h : i ≠ x.2) : tget none (s.sensorShown x).power.temps i = tget none s.power.temps i := by
  simp only [State.sensorShown, State.wr_frame, State.mPower_power, tget_tset_ne _ _ h]

theorem sensorShown_rd (x : (Int × Nat) × Nat) : (s.sensorShown x).rd (sensorReg x.2) =
    b2n (sensorOk x.1.1 x.1.2) * 2 ^ 31 + (Config.sensorDomain x.2).val * 2 ^ 24 + q88 x.1.1 := by
  have hq := q88_lt x.1.1
  have hd := (Config.sensorDomain x.2).isLt
  have hb : b2n (sensorOk x.1.1 x.1.2) ≤ 1 := by cases sensorOk x.1.1 x.1.2 <;> decide
  rw [State.sensorShown, State.rd_wr_same]
  omega

theorem sensorShown_rd_ne (x : (Int × Nat) × Nat) {k : Nat} (h : k ≠ sensorReg x.2) : (s.sensorShown x).rd k = s.rd k := by
  rw [State.sensorShown, State.rd_wr_ne _ h, State.mPower_rd]

/-- Sensors before the first of a list of readings are as they were. -/
theorem sensorsShown_keep {i : Nat} : ∀ (l : List (Int × Nat)) (k : Nat) (s : State), i < k →
    tget none ((l.zipIdx k).foldl State.sensorShown s).power.temps i = tget none s.power.temps i
      ∧ ((l.zipIdx k).foldl State.sensorShown s).rd (sensorReg i) = s.rd (sensorReg i)
  | [], _, _, _ => ⟨rfl, rfl⟩
  | x :: l, k, s, h => by
    obtain ⟨htemp, hrd⟩ := sensorsShown_keep (i := i) l (k + 1) (s.sensorShown (x, k)) (by omega)
    rw [List.zipIdx_cons, List.foldl_cons, htemp, hrd]
    exact ⟨sensorShown_temp_ne s (x, k) (by dsimp only; omega), sensorShown_rd_ne s (x, k) (by unfold sensorReg; omega)⟩

/-- Each reading of a list stands at its sensor. -/
theorem sensorsShown_each : ∀ (l : List (Int × Nat)) (k : Nat) (s : State) (i : Nat) (x : Int × Nat), l[i]? = some x →
    tget none ((l.zipIdx k).foldl State.sensorShown s).power.temps (k + i) = (if sensorOk x.1 x.2 then some x.1 else none)
      ∧ ((l.zipIdx k).foldl State.sensorShown s).rd (sensorReg (k + i)) =
        b2n (sensorOk x.1 x.2) * 2 ^ 31 + (Config.sensorDomain (k + i)).val * 2 ^ 24 + q88 x.1
  | [], _, _, _, _, h => by simp at h
  | y :: l, k, s, 0, x, h => by
    obtain rfl : y = x := by simpa using h
    obtain ⟨htemp, hrd⟩ := sensorsShown_keep (i := k) l (k + 1) (s.sensorShown (y, k)) (by omega)
    simp only [List.zipIdx_cons, List.foldl_cons, Nat.add_zero, htemp, hrd]
    exact ⟨sensorShown_temp s (y, k), sensorShown_rd s (y, k)⟩
  | y :: l, k, s, i + 1, x, h => by
    rw [List.zipIdx_cons, List.foldl_cons, show k + (i + 1) = k + 1 + i by omega]
    exact sensorsShown_each l (k + 1) _ i x (by simpa using h)

theorem hottestShown_frame {u t : State} {ks : List Nat} (h : Frame [.power, .recs] ks u t) (hk : 0x00100030 ∈ ks) : Frame [.power, .recs] ks u t.hottestShown := by
  unfold State.hottestShown
  split
  · exact h
  · exact Frame.ite (h.wr hk _) (((h.wr hk _).recValue (by simp) ..).mPower (by simp) _)

theorem hottestShown_temps : s.hottestShown.power.temps = s.power.temps := by
  unfold State.hottestShown
  split
  · rfl
  · dsimp only
    split
    · simp only [State.wr_frame]
    · simp only [State.mPower_power, recValue_power, State.wr_frame]

theorem hottestShown_rd {k : Nat} (hk : k ≠ 0x00100030) : s.hottestShown.rd k = s.rd k :=
  (hottestShown_frame (Frame.refl s _ [0x00100030]) (by simp)).regs k (by simpa using hk)

end

/-! ### Caps (R555) -/

/-- A sensor's reading at a domain, its cap begun or ended. -/
def State.capMarked (s : State) (d : Nat) (x : Int) : State :=
  let limit := s.tLimit * 256
  let s := s.wr (domainReg d 0x14) (q88 x)
  let capped := s.rb (domainReg d 4) 27
  if (!capped && decide (limit ≤ x)) = true then (s.wb (domainReg d 4) 27 true).emitPf 0x10 .throttled (d * 2 ^ 24 + 2 ^ 16 + q88 x)
  else if (capped && decide (x < limit - 768)) = true then (s.wb (domainReg d 4) 27 false).emitPf 0x10 .throttled (d * 2 ^ 24 + q88 x) else s

/-- The highest point a domain may take, and its point held below it. -/
def State.capTop (s : State) (d top : Nat) : State := (s.wf (domainReg d 0xC) 18 16 top).wf (domainReg d 0xC) 26 24 (min top (s.point d))

/-- The units of a domain that read one health read another one. -/
def State.healthTo (s : State) (l : List Nat) (a b : Nat) : State := l.foldl (fun s u => if (s.unit u).health = a then s.setHealth u b else s) s

section
variable (l : List Nat) {a b : Nat}

theorem healthTo_rd (s : State) {k : Nat} (hk : k < 0x00410000) : (s.healthTo l a b).rd k = s.rd k := by
  rw [State.healthTo]
  refine foldl_keeps (fun t : State => t.rd k) (fun t u => ?_) l s
  split
  · exact (setHealth_keeps t u b).1 k hk
  · rfl

/-- A unit of the list that reads `a` or already `b` reads `b` then. -/
theorem healthTo_unit {k : Nat} : ∀ (l : List Nat) (s : State), (s.unit k).health = b ∨ k ∈ l ∧ (s.unit k).health = a → ((s.healthTo l a b).unit k).health = b
  | [], s, h => h.resolve_right fun h => List.not_mem_nil h.1
  | u :: l, s, h => by
    refine healthTo_unit l (if (s.unit u).health = a then s.setHealth u b else s) ?_
    split
    next hu =>
      rw [setHealth_unit]
      by_cases hk : k = u
      · rw [if_pos hk]
        exact .inl rfl
      · rw [if_neg hk]
        exact h.imp_right fun h => ⟨(List.mem_cons.mp h.1).resolve_left hk, h.2⟩
    next hu =>
      refine h.imp_right fun h => ⟨(List.mem_cons.mp h.1).resolve_left ?_, h.2⟩
      rintro rfl
      exact hu h.2

end

section
variable (s : State) (d : Nat) {x : Int}

theorem capDomain_none (hh : hottest (s.domainTemps d) = none) (hown : ((List.range 64).any fun i => (Config.sensorDomain i).val == d) = true) :
    s.capDomain d = ((s.wf (domainReg d 0xC) 18 16 0).wf (domainReg d 0xC) 26 24 0).healthTo
      (((s.wf (domainReg d 0xC) 18 16 0).wf (domainReg d 0xC) 26 24 0).domainUnits d) 0 1 := by
  unfold State.capDomain
  rw [hh]
  dsimp only
  rw [if_pos hown]
  rfl

theorem capDomain_some (hh : hottest (s.domainTemps d) = some x) : s.capDomain d =
    let y := (s.capMarked d x).capTop d (if (s.capMarked d x).rb (domainReg d 4) 27 then (s.wr (domainReg d 0x14) (q88 x)).rf 0x0010002C 2 0 else 7)
    if ((s.capMarked d x).rf (domainReg d 0xC) 18 16 == 0 && (s.wr (domainReg d 0x14) (q88 x)).rf 0x0010002C 2 0 != 0) = true then y.healthTo (y.domainUnits d) 1 0 else y := by
  unfold State.capDomain
  rw [hh]
  rfl

end

section
variable (s : State) {d : Nat}

theorem domainReg_below {off : Nat} (hd : d < 24) (ho : off < 0x20) : domainReg d off < 0x00410000 := by unfold domainReg; omega

theorem point_congr {t : State} (h : t.rd (domainReg d 0xC) = s.rd (domainReg d 0xC)) : t.point d = s.point d := rf_congr h ..

theorem capTop_top {top : Nat} (h : top < 8) : (s.capTop d top).rf (domainReg d 0xC) 18 16 = top := by
  rw [State.capTop, rf_wf_ne _ _ _ (by omega) (by omega) (.inr (by omega)), rf_wf_same _ _ _ (by omega) (by omega)]
  exact Nat.mod_eq_of_lt (by omega)

theorem point_lt : s.point d < 8 := Nat.mod_lt _ (by omega)

theorem capTop_point {top : Nat} : (s.capTop d top).point d = min top (s.point d) := by
  have hp := point_lt s (d := d)
  rw [State.point, State.capTop, rf_wf_same _ _ _ (by omega) (by omega)]
  exact Nat.mod_eq_of_lt (by omega)

theorem capTop_rd {top k : Nat} (hk : k ≠ domainReg d 0xC) : (s.capTop d top).rd k = s.rd k := by
  rw [State.capTop, rd_wf_ne _ hk, rd_wf_ne _ hk]

variable (hd : d < 24)
include hd

theorem domainEvent_rd (kind : Nat) (st : Status) (detail : Nat) {off : Nat} (ho : off < 0x20) :
    (s.emitPf kind st detail).rd (domainReg d off) = s.rd (domainReg d off) :=
  emitPf_rd _ _ _ _ _ (by have := domainReg_below hd ho; omega) (by have := domainReg_below hd ho; unfold viReg pfWin; omega)

/-- A mark changes a domain's state and reading alone, of its registers. -/
theorem capMarked_rd (x : Int) {off : Nat} (ho : off < 0x20) (h4 : off ≠ 4) (h14 : off ≠ 0x14) : (s.capMarked d x).rd (domainReg d off) = s.rd (domainReg d off) := by
  have hwr : (s.wr (domainReg d 0x14) (q88 x)).rd (domainReg d off) = s.rd (domainReg d off) := State.rd_wr_ne _ (by unfold domainReg; omega)
  unfold State.capMarked
  dsimp only
  split_ifs
  · rw [domainEvent_rd _ hd _ _ _ ho, rd_wb_ne _ (by unfold domainReg; omega), hwr]
  · rw [domainEvent_rd _ hd _ _ _ ho, rd_wb_ne _ (by unfold domainReg; omega), hwr]
  · exact hwr

theorem capMarked_capped (x : Int) : (s.capMarked d x).rb (domainReg d 4) 27 =
    if s.rb (domainReg d 4) 27 then decide (s.tLimit * 256 - 768 ≤ x) else decide (s.tLimit * 256 ≤ x) := by
  have hcap : (s.wr (domainReg d 0x14) (q88 x)).rb (domainReg d 4) 27 = s.rb (domainReg d 4) 27 := rb_congr (State.rd_wr_ne _ (by unfold domainReg; omega)) 27
  unfold State.capMarked
  dsimp only
  rw [hcap]
  cases hc : s.rb (domainReg d 4) 27
  · by_cases hx : s.tLimit * 256 ≤ x
    · simp only [hx, Bool.not_false, decide_true, Bool.and_true, if_true, Bool.false_eq_true, if_false]
      rw [rb_congr (domainEvent_rd _ hd _ _ _ (by omega)), rb_wb_same _ _ _ (by omega)]
    · simp only [hx, Bool.not_false, decide_false, Bool.and_false, Bool.false_and, if_false, Bool.false_eq_true]
      rw [hcap, hc]
  · by_cases hx : x < s.tLimit * 256 - 768
    · simp only [hx, not_le.mpr hx, Bool.not_true, Bool.false_and, decide_true, decide_false, Bool.and_true, if_true, Bool.false_eq_true, if_false]
      rw [rb_congr (domainEvent_rd _ hd _ _ _ (by omega)), rb_wb_same _ _ _ (by omega)]
    · simp only [hx, not_lt.mp hx, Bool.not_true, Bool.false_and, decide_true, decide_false, Bool.and_false, if_true, Bool.false_eq_true, if_false]
      rw [hcap, hc]

/-- A domain with a valid sensor: its registers after its cap was set (R555). -/
theorem capDomain_rd {x : Int} (hh : hottest (s.domainTemps d) = some x) {off : Nat} (ho : off < 0x20) : (s.capDomain d).rd (domainReg d off) =
    ((s.capMarked d x).capTop d (if (s.capMarked d x).rb (domainReg d 4) 27 then s.rf 0x0010002C 2 0 else 7)).rd (domainReg d off) := by
  have hcap : (s.wr (domainReg d 0x14) (q88 x)).rf 0x0010002C 2 0 = s.rf 0x0010002C 2 0 := rf_congr (State.rd_wr_ne _ (by unfold domainReg; omega)) ..
  rw [capDomain_some s d hh, hcap]
  dsimp only
  split
  · exact healthTo_rd _ _ (domainReg_below hd ho)
  · rfl

/-- The cap, the highest point and the point of a domain with a valid sensor (R555). -/
theorem capDomain_shown {x : Int} (hh : hottest (s.domainTemps d) = some x) {c : Bool}
    (hc : c = if s.rb (domainReg d 4) 27 then decide (s.tLimit * 256 - 768 ≤ x) else decide (s.tLimit * 256 ≤ x)) :
    (s.capDomain d).rb (domainReg d 4) 27 = c ∧ (s.capDomain d).rf (domainReg d 0xC) 18 16 = (if c then s.rf 0x0010002C 2 0 else 7)
      ∧ (s.capDomain d).point d = min (if c then s.rf 0x0010002C 2 0 else 7) (s.point d) := by
  have hmark : (s.capMarked d x).rb (domainReg d 4) 27 = c := hc ▸ capMarked_capped s hd x
  have htop : (if c then s.rf 0x0010002C 2 0 else 7) < 8 := by
    have hlt : s.rf 0x0010002C 2 0 < 8 := Nat.mod_lt _ (by omega)
    split <;> omega
  refine ⟨?_, ?_, ?_⟩
  · rw [rb_congr (capDomain_rd s hd hh (by omega)), rb_congr (capTop_rd _ (by unfold domainReg; omega)), hmark]
  · rw [rf_congr (capDomain_rd s hd hh (by omega)), hmark, capTop_top _ htop]
  · rw [point_congr _ (capDomain_rd s hd hh (by omega)), hmark, capTop_point, point_congr s (capMarked_rd s hd x (by omega) (by omega) (by omega))]

/-- A domain whose sensors read nothing valid: the lowest point, and its good units DEGRADED (R555). -/
theorem capDomain_blind (hh : hottest (s.domainTemps d) = none) (hown : ((List.range 64).any fun i => (Config.sensorDomain i).val == d) = true) :
    (s.capDomain d).rf (domainReg d 0xC) 18 16 = 0 ∧ (s.capDomain d).point d = 0
      ∧ ∀ k ∈ s.domainUnits d, (s.unit k).health = 0 → ((s.capDomain d).unit k).health = 1 := by
  rw [capDomain_none s d hh hown]
  refine ⟨?_, ?_, fun k hk h0 => ?_⟩
  · rw [rf_congr (healthTo_rd _ _ (domainReg_below hd (by omega))), rf_wf_ne _ _ _ (by omega) (by omega) (.inr (by omega)), rf_wf_same _ _ _ (by omega) (by omega),
      Nat.zero_mod]
  · rw [point_congr _ (healthTo_rd _ _ (domainReg_below hd (by omega))), State.point, rf_wf_same _ _ _ (by omega) (by omega), Nat.zero_mod]
  · refine healthTo_unit _ _ (.inr ⟨?_, ?_⟩)
    · simpa only [State.domainUnits, State.row, State.unitAt, State.wf_frame] using hk
    · simpa only [State.unit, State.wf_frame] using h0

end

/-! ### Claims lost at a trip (R534, R556) -/

/-- A covered unit stops at its domain's trip, and its claim is lost. -/
def State.claimStop (s : State) (d u : Nat) : State :=
  ((s.unitStop u 4 (some .lost)).mWorlds fun w =>
    let w := if (tget {} w.claims u).state = 1 then { w with claims := tset {} w.claims u ⟨2⟩ } else w
    if (tget {} w.claims 0).state = 1 then { w with claims := tset {} w.claims 0 ⟨2⟩ } else w).emitSecure 0x22 .lost (d * 2 ^ 24 + u % 4096)

theorem claimLost_next {dt d c : Nat} {s u : State} (hu : u = s.tick dt) (hc : c = tget 0 u.power.trips d) (h0 : c ≠ 0) (hms : c - 1 + 1000000 ≤ u.now) :
    exec (.claimLost dt d) s = .next ((((u.tripUnits d).filter fun k => u.covered k).foldl (fun s k => s.claimStop d k) u).tripOff d) := by
  have hdue : ¬ (tget 0 u.power.trips d = 0 ∨ u.now < tget 0 u.power.trips d - 1 + 1000000) := by
    rw [← hc]
    omega
  rw [exec_claimLost, execClaimLost, ← hu]
  exact if_neg hdue

/-- A tripped domain is OFF and TRIPPED, with no trip under way. -/
theorem tripOff_shown (s : State) (d : Nat) : (s.tripOff d).domainState d = 0 ∧ (s.tripOff d).rb (domainReg d 4) 28 = true
    ∧ tget 0 (s.tripOff d).power.trips d = 0 ∧ tget 0 (s.tripOff d).power.cool d = 0 := by
  have h4 : (s.tripOff d).rd (domainReg d 4) = ((s.domainOff d).wb (domainReg d 4) 28 true).rd (domainReg d 4) := by
    rw [State.tripOff, State.mPower_rd, State.sat, State.rd_wr_ne _ (by unfold domainReg; omega)]
  refine ⟨?_, ?_, ?_, ?_⟩
  · rw [domainState_congr h4, State.domainState, rf_wb_ne _ _ _ (by omega) (.inl (by omega)), State.domainOff]
    exact setDomain_shown _ (by omega)
  · rw [rb_congr h4, rb_wb_same _ _ _ (by omega)]
  · simp only [State.tripOff, State.mPower_power, tget_tset_same]
  · simp only [State.tripOff, State.mPower_power, tget_tset_same]

/-! ### The critical level (R557) -/

/-- What a critical temperature leaves: the device reset, THERMTRIP_N low. -/
def State.critical (s : State) (x : Int) : State := (s.deviceReset false).mPower fun p =>
  { p with critical := true, thermtrip := true, critOwed := some (q88 x), critCool := some s.now }

/-- The reading that is critical: a sensor's before the analog one's. -/
def State.criticalBy (s : State) (analog : Option Int) : Option Int :=
  match s.allTemps.find? fun x => (s.tLimit + s.rf 0x0010002C 11 7) * 256 ≤ x.2, analog with
  | some x, _ => some x.2
  | none, some a => if (s.tLimit + 20) * 256 ≤ a then some a else none
  | none, none => none

theorem criticalBy_sensor {s : State} {k : Nat} {x : Int} (hx : (s.allTemps.find? fun y => (s.tLimit + s.rf 0x0010002C 11 7) * 256 ≤ y.2) = some (k, x)) (analog : Option Int) :
    s.criticalBy analog = some x := by
  simp only [State.criticalBy, hx]

theorem criticalBy_analog {s : State} (hx : (s.allTemps.find? fun y => (s.tLimit + s.rf 0x0010002C 11 7) * 256 ≤ y.2) = none) (a : Int) :
    s.criticalBy (some a) = if (s.tLimit + 20) * 256 ≤ a then some a else none := by
  simp only [State.criticalBy, hx]

theorem criticalTemperature_eq {dt : Nat} {analog : Option Int} {s u : State} (hu : u = s.tick dt) (hc : u.power.critical = false) :
    exec (.criticalTemperature dt analog) s = .next (match u.criticalBy analog with | none => u | some x => u.critical x) := by
  have heq : execCriticalTemperature dt analog s = match (s.tick dt).criticalBy analog with
      | none => .next (s.tick dt)
      | some x => if (s.tick dt).power.critical then .next (s.tick dt) else .next ((s.tick dt).critical x) := rfl
  rw [exec_criticalTemperature, heq, ← hu, hc]
  cases u.criticalBy analog <;> rfl

theorem critical_reset (u : State) (x : Int) : ∃ t : State, ResetFrom false u t ∧ u.critical x = t.mPower fun p =>
    { p with critical := true, thermtrip := true, critOwed := some (q88 x), critCool := some t.now } :=
  ⟨u.deviceReset false, deviceReset_resetFrom u false, by rw [(deviceReset_resetFrom u false).now]; rfl⟩

/--
Settles O45: each outcome is followed from the operation. A cap is read back through the domain's two registers, which neither the event nor a
unit's health reaches; a tripped domain's state is the last thing its stop writes. The Q8.8 ends of a reading and the units that stop with a
domain are the model's choices (log entries 54 and 55).
-/
theorem temperature : Obligations.Temperature := by
  unfold Obligations.Temperature
  refine ⟨fun dt readings s u hu hl hc => ?read, fun dt readings s u hu hc => ?held, fun d u t hd ht => ?cap,
    fun dt d c s u hu h28 hc h0 => ⟨fun hms => ?clear, fun hms => ?early⟩, fun dt d c s u hu hc h0 hms => ?lost, fun dt k x analog s u hu hc hx => ?sensor,
    fun dt a s u hu hc hx => ⟨fun ha => ?analog, fun ha => ?below⟩, fun dt c highest s u hu hc hcool => ⟨fun hh hms => ?released, fun hh => ?hot⟩⟩
  case read =>
    refine ⟨_, sensorRead_next hu hl hc, fun i x hx => ?_, hottestShown_frame (Frame.foldl (fun t y hy g => ?_) (Frame.refl ..)) (by simp)⟩
    · obtain ⟨htemp, hrd⟩ := sensorsShown_each readings 0 u i x hx
      have hi : i < readings.length := (List.getElem?_eq_some_iff.mp hx).1
      rw [Nat.zero_add] at htemp hrd
      exact ⟨by rw [hottestShown_temps, htemp], (hottestShown_rd _ (by omega)).trans hrd⟩
    · have hlt : y.2 < readings.length := by
        obtain ⟨i, hi, rfl⟩ := List.getElem_of_mem hy
        simpa using hi
      exact (g.mPower (by simp) _).wr (List.mem_cons_of_mem _ (List.mem_map.mpr ⟨y.2, List.mem_range.mpr (by omega), rfl⟩)) _
  case held => rw [exec_sensorRead, execSensorRead, ← hu, if_pos hc]
  case cap =>
    subst ht
    split
    next hh => exact capDomain_blind u hd hh
    next x hh =>
      refine ⟨fun hb hx => ?_, fun hb hx => ?_, fun hb hx => ?_⟩
      · exact capDomain_shown (c := true) u hd hh (by rw [hb]; exact (decide_eq_true hx).symm)
      · obtain ⟨hcap, htop, hpoint⟩ := capDomain_shown (c := false) u hd hh (by rw [hb]; exact (decide_eq_false (by omega)).symm)
        have hlt := point_lt u (d := d)
        exact ⟨hcap, htop, hpoint.trans (Nat.min_eq_right (by simp only [Bool.false_eq_true, if_false]; omega))⟩
      · obtain ⟨hcap, -, hpoint⟩ := capDomain_shown (c := true) u hd hh (by rw [hb]; exact (decide_eq_true hx).symm)
        exact ⟨hcap, hpoint⟩
  case clear =>
    rw [exec_thermalClear, execThermalClear, ← hu]
    exact if_pos ⟨h28, hc ▸ h0, hc ▸ hms⟩
  case early =>
    rw [exec_thermalClear, execThermalClear, ← hu]
    exact if_neg fun h => by rw [← hc] at h; omega
  case lost =>
    obtain ⟨hstate, htrip, htrips, hcool⟩ := tripOff_shown (((u.tripUnits d).filter fun k => u.covered k).foldl (fun s k => s.claimStop d k) u) d
    refine ⟨_, _, claimLost_next hu hc h0 hms, rfl, hstate, htrip, htrips, hcool, fun hnone => ?_, fun k hk => ?_⟩
    · rw [hnone, List.foldl_nil]
    · rw [hk, List.foldl_cons, List.foldl_nil, State.claimStop]
  case sensor =>
    obtain ⟨t, hreset, ht⟩ := critical_reset u x
    exact ⟨t, hreset, by rw [criticalTemperature_eq hu hc, ← ht, criticalBy_sensor hx]⟩
  case analog =>
    obtain ⟨t, hreset, ht⟩ := critical_reset u a
    exact ⟨t, hreset, by rw [criticalTemperature_eq hu hc, ← ht, criticalBy_analog hx, if_pos ha]⟩
  case below => rw [criticalTemperature_eq hu hc, criticalBy_analog hx, if_neg (not_le.mpr ha)]
  case released =>
    refine ⟨u.mPower fun p => { p with critical := false, thermtrip := false, critCool := none }, rfl, (Frame.refl ..).mPower (by simp) _, ?_⟩
    have hdue : ¬ ((!u.power.critical) = true ∨ (u.tLimit - 5) * 256 ≤ highest ∨ u.now < u.power.critCool.getD u.now + 1000000000) := by
      rw [hc, hcool]
      simp only [Bool.not_true, Bool.false_eq_true, false_or, Option.getD_some]
      omega
    rw [exec_thermtripRelease, execThermtripRelease, ← hu, if_neg hdue]
    simp only [State.mPower_power, apply_ite Host.Outcome.next, Bool.and_eq_true, Bool.not_eq_true', Bool.not_eq_true, and_assoc]
  case hot =>
    rw [exec_thermtripRelease, execThermtripRelease, ← hu]
    exact if_pos (.inr (.inl hh))

end Sys2Proof.Machine
end

section
/-!
PROOFS. What the work that a unit gives up leaves as it was: time, the commands that wait, the variant, the units, the start and the Husks, and the
power state but the composer's place among the domains that wait (R35, R539).
-/
namespace Sys2Proof.Machine

/-- The parts of a state that no unit's work reaches; `vs` counts the records of the VIs among them, which only resets of VIs reach. The composer's
domain, 13, may be asked for by what a pipe's end takes. -/
def State.calm (s : State) (vs : Bool) : (Nat × List Instr × Variant) × (PowerSt × Tbl UnitSt) × (StartSt × HuskSt) × Vims :=
  ((s.now, s.pending, s.variant), ({ s.power with waiting := s.power.waiting.filter (· != 13) }, s.pods.units), (s.start, s.husk), if vs then s.vims else {})

section
variable {s : State} {vs : Bool}

@[simp] theorem ite_calm {c : Prop} [Decidable c] (a b : State) : (if c then a else b).calm vs = if c then a.calm vs else b.calm vs := apply_ite (fun x : State => x.calm vs) c a b

@[simp] theorem ite_snd_calm {α : Type} {c : Prop} [Decidable c] (a b : α × State) : (if c then a else b).2.calm vs = if c then a.2.calm vs else b.2.calm vs :=
  apply_ite (fun x : α × State => x.2.calm vs) c a b

@[simp] theorem foldl_calm {β : Type} {f : State → β → State} (hf : ∀ t x, (f t x).calm vs = t.calm vs) (l : List β) : (l.foldl f s).calm vs = s.calm vs :=
  foldl_keeps (fun t : State => t.calm vs) hf l s

@[simp] theorem wr_calm (k v) : (s.wr k v).calm vs = s.calm vs := by simp only [State.calm, State.wr_frame]
@[simp] theorem wr64_calm (k v) : (s.wr64 k v).calm vs = s.calm vs := by simp only [State.calm, State.wr64_frame]
@[simp] theorem wf_calm (k hi lo v) : (s.wf k hi lo v).calm vs = s.calm vs := by simp only [State.calm, State.wf_frame]
@[simp] theorem wb_calm (k i b) : (s.wb k i b).calm vs = s.calm vs := by simp only [State.calm, State.wb_frame]
@[simp] theorem incr_calm (k) : (s.incr k).calm vs = s.calm vs := by simp only [State.calm, State.incr_frame]
@[simp] theorem sat_calm (k n) : (s.sat k n).calm vs = s.calm vs := by simp only [State.calm, State.sat_frame]
@[simp] theorem raise_calm (k i) : (s.raise k i).calm vs = s.calm vs := by simp only [State.calm, State.raise_frame]
@[simp] theorem rcUpdate_calm (k f) : (s.rcUpdate k f).calm vs = s.calm vs := by simp only [State.calm, State.rcUpdate_frame]
@[simp] theorem rcCount_calm (k n) : (s.rcCount k n).calm vs = s.calm vs := by simp only [State.calm, State.rcCount_frame]
@[simp] theorem incr64_calm (k n) : (s.incr64 k n).calm vs = s.calm vs := by simp only [State.calm, State.incr64_frame]
@[simp] theorem mSeed_calm (f) : (s.mSeed f).calm vs = s.calm vs := by simp only [State.calm, State.mSeed_frame]
@[simp] theorem mDisplay_calm (f) : (s.mDisplay f).calm vs = s.calm vs := by simp only [State.calm, State.mDisplay_frame]
@[simp] theorem mPip_calm (f) : (s.mPip f).calm vs = s.calm vs := by simp only [State.calm, State.mPip_frame]
@[simp] theorem mChecks_calm (f) : (s.mChecks f).calm vs = s.calm vs := by simp only [State.calm, State.mChecks_frame]
@[simp] theorem mRender_calm (f) : (s.mRender f).calm vs = s.calm vs := by simp only [State.calm, State.mRender_frame]
@[simp] theorem mAudio_calm (f) : (s.mAudio f).calm vs = s.calm vs := by simp only [State.calm, State.mAudio_frame]
@[simp] theorem mPanel_calm (f) : (s.mPanel f).calm vs = s.calm vs := by simp only [State.calm, State.mPanel_frame]
@[simp] theorem mWorlds_calm (f) : (s.mWorlds f).calm vs = s.calm vs := by simp only [State.calm, State.mWorlds_frame]
@[simp] theorem mVims_calm (f) : (s.mVims f).calm false = s.calm false := by simp only [State.calm, State.mVims_frame, Bool.false_eq_true, if_false]
@[simp] theorem mNet_calm (f) : (s.mNet f).calm vs = s.calm vs := by simp only [State.calm, State.mNet_frame]
@[simp] theorem mBudget_calm (f) : (s.mBudget f).calm vs = s.calm vs := by simp only [State.calm, State.mBudget_frame]
@[simp] theorem mRecs_calm (f) : (s.mRecs f).calm vs = s.calm vs := by simp only [State.calm, State.mRecs_frame]
@[simp] theorem freeWord_calm : s.freeWord.2.calm vs = s.calm vs := by simp only [State.calm, State.freeWord]
@[simp] theorem mPods_calm {f : Pods → Pods} (hf : ∀ p, (f p).units = p.units) : (s.mPods f).calm vs = s.calm vs := by
  unfold State.calm
  rw [show (s.mPods f).pods.units = s.pods.units from hf s.pods]
  rfl
@[simp] theorem regsCut_calm (lo hi) : (s.regsCut lo hi).calm vs = s.calm vs := by simp only [State.calm, State.regsCut]
@[simp] theorem mem_calm (m : Tbl (BitVec 8)) : ({ s with mem := m } : State).calm vs = s.calm vs := by simp only [State.calm]

/-- An event at a ring is none of these parts. -/
theorem EventOnly.calm {w : Nat} {t : State} (h : EventOnly w s t) : t.calm vs = s.calm vs := by
  obtain ⟨_, _, _, _, _, hp⟩ := h.pods
  unfold State.calm
  rw [hp, h.rest]

@[simp] theorem hostWrite_calm (w addr bs) : (s.hostWrite w addr bs).calm vs = s.calm vs := (hostWrite_only ..).calm
@[simp] theorem markDirty_calm (w addr len) : (s.markDirty w addr len).calm vs = s.calm vs := (markDirty_only ..).calm
@[simp] theorem putRecord_calm (w kind status handle detail time) : (s.putRecord w kind status handle detail time).calm vs = s.calm vs := (putRecord_only ..).calm
@[simp] theorem domainQueue_calm : (s.domainQueue 13).calm vs = s.calm vs := by
  unfold State.domainQueue
  split
  · rfl
  · unfold State.calm
    simp [State.mPower]

@[simp] theorem clr_calm (k n) : (s.clr k n).calm vs = s.calm vs := by
  induction n generalizing s k with
  | zero => rfl
  | succ n ih => exact (ih ..).trans (by simp)
@[simp] theorem freeBytes_calm (n) : (s.freeBytes n).2.calm vs = s.calm vs := by
  induction n generalizing s with
  | zero => rfl
  | succ n ih => exact ih
@[simp] theorem recValue_calm (source inst v) : (s.recValue source inst v).calm vs = s.calm vs := by
  unfold State.recValue; simp +contextual
@[simp] theorem raiseMsix_calm (w) : (s.raiseMsix w).calm vs = s.calm vs := by unfold State.raiseMsix; simp
@[simp] theorem signal_calm (w) : (s.signal w).calm vs = s.calm vs := by unfold State.signal; simp
@[simp] theorem ueCount_calm (pa cls w) : (s.ueCount pa cls w).calm vs = s.calm vs := by unfold State.ueCount; simp
@[simp] theorem pwrite_calm (pa bs cls w) : (s.pwrite pa bs cls w).calm vs = s.calm vs := by
  unfold State.pwrite
  exact (foldl_calm (by simp) _).trans ((mem_calm _).trans (mSeed_calm _))
@[simp] theorem loseEvent_calm (w) : (s.loseEvent w).calm vs = s.calm vs := by unfold State.loseEvent; simp
@[simp] theorem flushLost_calm (w) : (s.flushLost w).calm vs = s.calm vs := by unfold State.flushLost; simp
@[simp] theorem emitAt_calm (w kind status handle detail time) : (s.emitAt w kind status handle detail time).calm vs = s.calm vs := by
  unfold State.emitAt; simp
@[simp] theorem emit_calm (w kind st handle detail) : (s.emit w kind st handle detail).calm vs = s.calm vs := by
  unfold State.emit; simp
@[simp] theorem emitPf_calm (kind st detail) : (s.emitPf kind st detail).calm vs = s.calm vs := by unfold State.emitPf; simp
@[simp] theorem deny_calm (c a write off) : (s.deny c a write off).calm vs = s.calm vs := by unfold State.deny; simp
@[simp] theorem memFault_calm (w addr) : (s.memFault w addr).calm vs = s.calm vs := by unfold State.memFault; simp
@[simp] theorem retirePage_calm (mem page) : (s.retirePage mem page).calm vs = s.calm vs := by unfold State.retirePage; simp
@[simp] theorem ueFound_calm (pa cls w) : (s.ueFound pa cls w).calm vs = s.calm vs := by unfold State.ueFound; simp
@[simp] theorem fetch_calm (w cls addr n ext) : (s.fetch w cls addr n ext).2.calm vs = s.calm vs := by
  dsimp only [State.fetch]; (repeat' split) <;> simp
@[simp] theorem store_calm (w cls addr bs) : (s.store w cls addr bs).2.calm vs = s.calm vs := by
  fun_cases State.store <;> simp +zetaDelta
@[simp] theorem shrinkCheck_calm (v kind) : (s.shrinkCheck v kind).calm vs = s.calm vs := by unfold State.shrinkCheck; simp
@[simp] theorem bumpGen_calm (kind idx) : (s.bumpGen kind idx).calm vs = s.calm vs := by unfold State.bumpGen; simp
@[simp] theorem grantGive_calm (w kind n) : (s.grantGive w kind n).calm vs = s.calm vs := by unfold State.grantGive; simp
@[simp] theorem params_calm (w e ext) : (s.params w e ext).2.calm vs = s.calm vs := by unfold State.params; simp
@[simp] theorem reportFault_calm (w cls addr) : (s.reportFault w cls addr).calm vs = s.calm vs := by
  unfold State.reportFault; simp
@[simp] theorem load_calm (w cls hosts addr n) : (s.load w cls hosts addr n).2.calm vs = s.calm vs := by
  fun_cases State.load <;> simp
@[simp] theorem fenceSignal_calm (w hw v) : (s.fenceSignal w hw v).calm vs = s.calm vs := by
  unfold State.fenceSignal; (repeat' split) <;> simp
@[simp] theorem fenceSignals_calm (w a) : (s.fenceSignals w a).calm vs = s.calm vs := by fun_induction State.fenceSignals <;> simp_all
@[simp] theorem domainNeed_calm : (s.domainNeed 13).calm vs = s.calm vs := by unfold State.domainNeed; simp
@[simp] theorem cntAdd_calm (i n) : (s.cntAdd i n).calm vs = s.calm vs := by unfold State.cntAdd; simp
@[simp] theorem cntEvent_calm (kind inst ev n) : (s.cntEvent kind inst ev n).calm vs = s.calm vs := by
  dsimp only [State.cntEvent]; (repeat' split) <;> simp
@[simp] theorem cntFresh_calm (i) : (s.cntFresh i).calm vs = s.calm vs := by unfold State.cntFresh; (repeat' split) <;> simp
@[simp] theorem mPipe_calm (p f) : (s.mPipe p f).calm vs = s.calm vs := by unfold State.mPipe; simp
@[simp] theorem mLayer_calm (i f) : (s.mLayer i f).calm vs = s.calm vs := by unfold State.mLayer; simp
@[simp] theorem layerStatus_calm (i) : (s.layerStatus i).calm vs = s.calm vs := by unfold State.layerStatus; simp
@[simp] theorem layerShown_calm (i v) : (s.layerShown i v).calm vs = s.calm vs := by unfold State.layerShown; simp
@[simp] theorem flushRel_calm (i) : (s.flushRel i).calm vs = s.calm vs := by unfold State.flushRel; simp
@[simp] theorem layerScaler_calm (i) : (s.layerScaler i).calm vs = s.calm vs := by unfold State.layerScaler; simp
@[simp] theorem layerSettle_calm (i) : (s.layerSettle i).calm vs = s.calm vs := by
  dsimp only [State.layerSettle]; (repeat' split) <;> simp
@[simp] theorem layerTake_calm (w e) : (s.layerTake w e).calm vs = s.calm vs := by
  dsimp only [State.layerTake]; (repeat' split) <;> simp
@[simp] theorem pipeDirty_calm (p) : (s.pipeDirty p).calm vs = s.calm vs := by unfold State.pipeDirty; simp
@[simp] theorem layerDestroy_calm (i) : (s.layerDestroy i).calm vs = s.calm vs := by unfold State.layerDestroy; simp
@[simp] theorem settleAll_calm (frame l) : (s.settleAll frame l).calm vs = s.calm vs := by
  induction l generalizing s with
  | nil => rfl
  | cons i r ih => exact ih.trans (by simp)
@[simp] theorem drawAll_calm (hls frame l) : (s.drawAll hls frame l).1.calm vs = s.calm vs := by
  induction l generalizing s with
  | nil => rfl
  | cons i r ih => exact ih.trans (by simp)
@[simp] theorem beginComposition_calm (p c) : (s.beginComposition p c).calm vs = s.calm vs := by
  unfold State.beginComposition; simp
@[simp] theorem replaceNow_calm (p) : (s.replaceNow p).calm vs = s.calm vs := by fun_cases State.replaceNow <;> simp
@[simp] theorem mCtx_calm (i f) : (s.mCtx i f).calm vs = s.calm vs := by unfold State.mCtx; simp
@[simp] theorem ctxReady_calm (k) : (s.ctxReady k).calm vs = s.calm vs := by unfold State.ctxReady; simp
@[simp] theorem ctxEnd_calm (i) : (s.ctxEnd i).calm vs = s.calm vs := by unfold State.ctxEnd; simp
@[simp] theorem ringAbandon_calm (k) : (s.ringAbandon k).calm vs = s.calm vs := by unfold State.ringAbandon; simp
@[simp] theorem ctxAbandon_calm (i) : (s.ctxAbandon i).calm vs = s.calm vs := by unfold State.ctxAbandon; simp +contextual
@[simp] theorem mIcv_calm (p f) : (s.mIcv p f).calm vs = s.calm vs := by unfold State.mIcv; simp
@[simp] theorem flitOut_calm (p ty) : (s.flitOut p ty).calm vs = s.calm vs := by unfold State.flitOut; simp
@[simp] theorem flitTo_calm (n ty) : (s.flitTo n ty).calm vs = s.calm vs := by fun_cases State.flitTo <;> simp
@[simp] theorem ctlSend_calm (dest m) : (s.ctlSend dest m).calm vs = s.calm vs := by unfold State.ctlSend; simp
@[simp] theorem exportGone_calm (idx) : (s.exportGone idx).calm vs = s.calm vs := by unfold State.exportGone; simp +contextual
@[simp] theorem mMac_calm (m f) : (s.mMac m f).calm vs = s.calm vs := by unfold State.mMac; simp
@[simp] theorem setChunk_calm (mem i state owner) : (s.setChunk mem i state owner).calm vs = s.calm vs := by
  unfold State.setChunk; simp
@[simp] theorem setChunks_calm (mem state owner a) : (s.setChunks mem state owner a).calm vs = s.calm vs := by fun_induction State.setChunks <;> simp_all
@[simp] theorem viChunks_calm (w mem n up) : (s.viChunks w mem n up).calm vs = s.calm vs := by unfold State.viChunks; simp
@[simp] theorem uncountChunks_calm (w mem n) : (s.uncountChunks w mem n).calm vs = s.calm vs := by
  unfold State.uncountChunks; simp
@[simp] theorem unmapChunks_calm (w first n) : (s.unmapChunks w first n).calm vs = s.calm vs := by unfold State.unmapChunks; simp
@[simp] theorem compHold_calm (w first n) : (s.compHold w first n).calm vs = s.calm vs := by unfold State.compHold; simp
@[simp] theorem memUnmap_calm (w idx) : (s.memUnmap w idx).calm vs = s.calm vs := by unfold State.memUnmap; simp
@[simp] theorem releaseStore_calm (a) : (s.releaseStore a).calm vs = s.calm vs := by fun_induction State.releaseStore <;> simp_all
@[simp] theorem bwTotal_calm (mem) : (s.bwTotal mem).calm vs = s.calm vs := by unfold State.bwTotal; simp
@[simp] theorem setNeed_calm (pipe need) : (s.setNeed pipe need).calm vs = s.calm vs := by unfold State.setNeed; simp
@[simp] theorem mPlayer_calm (n f) : (s.mPlayer n f).calm vs = s.calm vs := by unfold State.mPlayer; simp
@[simp] theorem mStream_calm (k f) : (s.mStream k f).calm vs = s.calm vs := by unfold State.mStream; simp
@[simp] theorem streamEvent_calm (k kind st) : (s.streamEvent k kind st).calm vs = s.calm vs := by unfold State.streamEvent; simp
@[simp] theorem streamXrun_calm (k) : (s.streamXrun k).calm vs = s.calm vs := by unfold State.streamXrun; simp
@[simp] theorem playerTrigger_calm (n) : (s.playerTrigger n).calm vs = s.calm vs := by unfold State.playerTrigger; simp
@[simp] theorem streamStop_calm (k) : (s.streamStop k).calm vs = s.calm vs := by unfold State.streamStop; simp
@[simp] theorem audioRestart_calm : s.audioRestart.calm vs = s.calm vs := by unfold State.audioRestart; simp +contextual
@[simp] theorem portState_calm (c st res) : (s.portState c st res).calm vs = s.calm vs := by unfold State.portState; simp
@[simp] theorem portFrame_calm (c f) : (s.portFrame c f).calm vs = s.calm vs := by unfold State.portFrame; simp
@[simp] theorem portPending_calm (w p) : (s.portPending w p).calm vs = s.calm vs := by unfold State.portPending; simp
@[simp] theorem headerFrame_calm (c frame) : (s.headerFrame c frame).calm vs = s.calm vs := by unfold State.headerFrame; simp
@[simp] theorem headerWrite_calm (c st res frame) : (s.headerWrite c st res frame).calm vs = s.calm vs := by
  unfold State.headerWrite; simp
@[simp] theorem takeEnts_calm (w direct a) : (s.takeEnts w direct a).calm vs = s.calm vs := by fun_induction State.takeEnts <;> simp_all
@[simp] theorem putCommit_calm (c new) : (s.putCommit c new).calm vs = s.calm vs := by unfold State.putCommit; simp
@[simp] theorem latchCommit_calm (c frame) : (s.latchCommit c frame).calm vs = s.calm vs := by unfold State.latchCommit; simp
@[simp] theorem takeNow_calm (c) : (s.takeNow c).calm vs = s.calm vs := by unfold State.takeNow; simp +contextual
@[simp] theorem takeComposition_calm (p comp) : (s.takeComposition p comp).calm vs = s.calm vs := by unfold State.takeComposition; simp
@[simp] theorem releaseAll_calm : s.releaseAll.calm vs = s.calm vs := by
  refine foldl_calm (fun t p => ?_) _
  split <;> simp
@[simp] theorem mHap_calm (c f) : (s.mHap c f).calm vs = s.calm vs := by unfold State.mHap; simp
@[simp] theorem hapEvents_calm (i kind st detail) : (s.hapEvents i kind st detail).calm vs = s.calm vs := by
  unfold State.hapEvents; simp
@[simp] theorem hapCount_calm (c) : (s.hapCount c).calm vs = s.calm vs := by unfold State.hapCount; simp
@[simp] theorem hapPlayed_calm (c) : (s.hapPlayed c).calm vs = s.calm vs := by fun_cases State.hapPlayed <;> simp
@[simp] theorem hapEnter_calm (c code) : (s.hapEnter c code).calm vs = s.calm vs := by
  dsimp only [State.hapEnter]; (repeat' split) <;> simp
@[simp] theorem hapBrake_calm (c) : (s.hapBrake c).calm vs = s.calm vs := by
  dsimp only [State.hapBrake]
  (repeat' split) <;> simp
@[simp] theorem hapIdle_calm (c code) : (s.hapIdle c code).calm vs = s.calm vs := by unfold State.hapIdle; simp
@[simp] theorem hapUnpend_calm (c) : (s.hapUnpend c).calm vs = s.calm vs := by unfold State.hapUnpend; (repeat' split) <;> simp
@[simp] theorem hapDrop_calm (c) : (s.hapDrop c).calm vs = s.calm vs := by fun_cases State.hapDrop <;> simp
@[simp] theorem hapTake_calm (c i) : (s.hapTake c i).calm vs = s.calm vs := by unfold State.hapTake; simp
@[simp] theorem hapTrigger_calm (i) : (s.hapTrigger i).2.calm vs = s.calm vs := by
  dsimp only [State.hapTrigger]; (repeat' split) <;> simp
@[simp] theorem hslotResult_calm (i st) : (s.hslotResult i st).calm vs = s.calm vs := by unfold State.hslotResult; simp
@[simp] theorem hslotHalt_calm (i) : (s.hslotHalt i).calm vs = s.calm vs := by
  dsimp only [State.hslotHalt]; (repeat' split) <;> simp
@[simp] theorem hslotDestroy_calm (i) : (s.hslotDestroy i).calm vs = s.calm vs := by
  dsimp only [State.hslotDestroy]; (repeat' split) <;> simp
@[simp] theorem setHighlight_calm (i on) : (s.setHighlight i on).calm vs = s.calm vs := by unfold State.setHighlight; simp
@[simp] theorem rxHaptic_calm (w p) : (s.rxHaptic w p).2.calm vs = s.calm vs := by
  dsimp only [State.rxHaptic]; (repeat' split) <;> simp
@[simp] theorem rxChime_calm (p) : (s.rxChime p).2.calm vs = s.calm vs := by fun_cases State.rxChime <;> simp
@[simp] theorem rxHighlight_calm (w p) : (s.rxHighlight w p).2.calm vs = s.calm vs := by fun_cases State.rxHighlight <;> simp
@[simp] theorem rxAction_calm (has place acc) {run : State → Bool × State} (hrun : ∀ t, (run t).2.calm vs = t.calm vs) :
    (s.rxAction has place acc run).2.calm vs = s.calm vs := by
  unfold State.rxAction
  split
  · rfl
  split <;> next hr => simp [snd_eq hr, hrun s]
@[simp] theorem rxFire_calm (b p) : (s.rxFire b p).calm vs = s.calm vs := by unfold State.rxFire; simp +contextual
@[simp] theorem reflexEvent_calm (z code unconfirmed) : (s.reflexEvent z code unconfirmed).calm vs = s.calm vs := by
  unfold State.reflexEvent; simp +contextual
@[simp] theorem reflexDown_calm : s.reflexDown.calm vs = s.calm vs := by unfold State.reflexDown; simp +contextual
@[simp] theorem mBlk_calm (b f) : (s.mBlk b f).calm vs = s.calm vs := by unfold State.mBlk; simp
@[simp] theorem mZone_calm (z f) : (s.mZone z f).calm vs = s.calm vs := by unfold State.mZone; simp
@[simp] theorem zoneEvents_calm (evs) : (s.zoneEvents evs).calm vs = s.calm vs := by unfold State.zoneEvents; simp +contextual
@[simp] theorem zonesRelease_calm (b) : (s.zonesRelease b).calm vs = s.calm vs := by unfold State.zonesRelease; simp +contextual
@[simp] theorem zoneHold_calm (z t) : (s.zoneHold z t).calm vs = s.calm vs := by unfold State.zoneHold; simp +contextual
@[simp] theorem zoneDestroy_calm (z) : (s.zoneDestroy z).calm vs = s.calm vs := by unfold State.zoneDestroy; simp +contextual
@[simp] theorem blkDown_calm (b) : (s.blkDown b).calm vs = s.calm vs := by unfold State.blkDown; simp
@[simp] theorem gfxStores_calm (w c l) : (s.gfxStores w c l).2.calm vs = s.calm vs := by
  induction l generalizing s with
  | nil => rfl
  | cons x r ih =>
    dsimp only [State.gfxStores]
    exact ih.trans (store_calm ..)
@[simp] theorem setFlag_calm (w c hosts u bx by_ flag) : (s.setFlag w c hosts u bx by_ flag).2.calm vs = s.calm vs := by
  dsimp only [State.setFlag]
  split <;> next hl => simp [snd_eq hl]
@[simp] theorem doBlock_calm (w c hosts u ops bx by_) : (s.doBlock w c hosts u ops bx by_).2.calm vs = s.calm vs := by
  dsimp only [State.doBlock]; (repeat' split) <;> simp
@[simp] theorem foldl_snd_calm {α β : Type} {f : α × State → β → α × State} (hf : ∀ a x, (f a x).2.calm vs = a.2.calm vs) (l : List β) (a : α × State) :
    (l.foldl f a).2.calm vs = a.2.calm vs :=
  foldl_keeps (fun a : α × State => a.2.calm vs) hf l a

@[simp] theorem surfOps_calm (w c hosts u ops) : (s.surfOps w c hosts u ops).2.calm vs = s.calm vs := by
  unfold State.surfOps
  split <;> simp
@[simp] theorem freeOps_calm (u x y w k) : (s.freeOps u x y w k).2.calm vs = s.calm vs := foldl_snd_calm (fun _ _ => by simp) _ _
@[simp] theorem portSettle_calm (port) : (s.portSettle port).calm vs = s.calm vs := by unfold State.portSettle; simp
@[simp] theorem pipeEvent_calm (p st) : (s.pipeEvent p st).calm vs = s.calm vs := by unfold State.pipeEvent; simp
@[simp] theorem pipeGo_calm (p v) : (s.pipeGo p v).calm vs = s.calm vs := by unfold State.pipeGo; simp
@[simp] theorem pllGive_calm (c) : (s.pllGive c).calm vs = s.calm vs := by unfold State.pllGive; simp
@[simp] theorem dscGive_calm (c) : (s.dscGive c).calm vs = s.calm vs := by unfold State.dscGive; simp
@[simp] theorem payloadGive_calm (c p) : (s.payloadGive c p).calm vs = s.calm vs := by unfold State.payloadGive; simp
@[simp] theorem linkEval_calm (port trained) : (s.linkEval port trained).calm vs = s.calm vs := by
  unfold State.linkEval; simp +contextual
@[simp] theorem takeLeft_calm (p) : (s.takeLeft p).calm vs = s.calm vs := by unfold State.takeLeft; simp +contextual
@[simp] theorem pipeRelease_calm (p) : (s.pipeRelease p).calm vs = s.calm vs := by
  dsimp only [State.pipeRelease]; (repeat' split) <;> simp +contextual
@[simp] theorem mQueue_calm (q f) : (s.mQueue q f).calm vs = s.calm vs := by unfold State.mQueue; simp
@[simp] theorem clusterCount_calm (c) : (s.clusterCount c).calm vs = s.calm vs := by unfold State.clusterCount; simp
@[simp] theorem holdCount_calm (q) : (s.holdCount q).calm vs = s.calm vs := by unfold State.holdCount; simp
@[simp] theorem setCluster_calm (c q) : (s.setCluster c q).calm vs = s.calm vs := by unfold State.setCluster; simp
@[simp] theorem clustersDrop_calm (p) : (s.clustersDrop p).calm vs = s.calm vs := by unfold State.clustersDrop; simp +contextual
@[simp] theorem ctxShow_calm (q) : (s.ctxShow q).calm vs = s.calm vs := by unfold State.ctxShow; simp
@[simp] theorem poolTrim_calm (q) : (s.poolTrim q).calm vs = s.calm vs := by unfold State.poolTrim; simp
@[simp] theorem tilesBack_calm (q) : (s.tilesBack q).calm vs = s.calm vs := by unfold State.tilesBack; simp
@[simp] theorem passLost_calm (w hosts p only) : (s.passLost w hosts p only).calm vs = s.calm vs := by
  unfold State.passLost; simp +contextual
@[simp] theorem passDrop_calm (q hosts) : (s.passDrop q hosts).calm vs = s.calm vs := by fun_cases State.passDrop <;> simp
@[simp] theorem qFault_calm (q hosts st cnt) : (s.qFault q hosts st cnt).calm vs = s.calm vs := by unfold State.qFault; simp
@[simp] theorem queueStop_calm (q hosts) : (s.queueStop q hosts).calm vs = s.calm vs := by unfold State.queueStop; simp
@[simp] theorem xlatePending_calm (w) : (s.xlatePending w).calm vs = s.calm vs := by unfold State.xlatePending; simp
@[simp] theorem xlateHeader_calm (w addr o) : (s.xlateHeader w addr o).calm vs = s.calm vs := by
  unfold State.xlateHeader; (repeat' split) <;> simp
@[simp] theorem xlateEnd_calm (w q rest o) : (s.xlateEnd w q rest o).calm vs = s.calm vs := by unfold State.xlateEnd; simp
@[simp] theorem chanStop_calm (kind i hosts) : (s.chanStop kind i hosts).calm vs = s.calm vs := by
  fun_cases State.chanStop <;> simp
@[simp] theorem setVi_calm (v st) : (s.setVi v st).calm vs = s.calm vs := by unfold State.setVi; simp
@[simp] theorem vimLast_calm (v st) : (s.vimLast v st).calm vs = s.calm vs := by unfold State.vimLast; simp
@[simp] theorem vimCount_calm : s.vimCount.calm vs = s.calm vs := by unfold State.vimCount; simp
@[simp] theorem vimDone_calm (v st) : (s.vimDone v st).calm false = s.calm false := by unfold State.vimDone; (repeat' split) <;> simp
@[simp] theorem dropCommits_calm (v) : (s.dropCommits v).calm vs = s.calm vs := by unfold State.dropCommits; simp +contextual
@[simp] theorem resetChan_calm (v c) : (s.resetChan v c).calm vs = s.calm vs := by unfold State.resetChan; simp
@[simp] theorem viReset_calm (v cause) : (s.viReset v cause).calm false = s.calm false := by
  dsimp only [State.viReset]; (repeat' split) <;> simp +contextual
@[simp] theorem linkDown_calm (l) : (s.linkDown l).calm false = s.calm false := by unfold State.linkDown; simp +contextual
@[simp] theorem mHart_calm (l f) : (s.mHart l f).calm vs = s.calm vs := by unfold State.mHart; simp
@[simp] theorem rootSettle_calm (old) : (s.rootSettle old).calm vs = s.calm vs := by unfold State.rootSettle; simp
@[simp] theorem timeEvent_calm (why) : (s.timeEvent why).calm vs = s.calm vs := by unfold State.timeEvent; simp
@[simp] theorem timeSettle_calm : s.timeSettle.calm vs = s.calm vs := by unfold State.timeSettle; (repeat' split) <;> simp
@[simp] theorem mImp_calm (i f) : (s.mImp i f).calm vs = s.calm vs := by unfold State.mImp; simp
@[simp] theorem impRoutes_calm : s.impRoutes.calm vs = s.calm vs := by unfold State.impRoutes; simp +contextual
@[simp] theorem portDown_calm (p) : (s.portDown p).calm vs = s.calm vs := by unfold State.portDown; simp
@[simp] theorem tsnRingOff_calm (m rx) : (s.tsnRingOff m rx).calm vs = s.calm vs := by unfold State.tsnRingOff; simp
@[simp] theorem ptpEvent_calm (m old) : (s.ptpEvent m old).calm vs = s.calm vs := by unfold State.ptpEvent; simp
@[simp] theorem tsnDown_calm (m) : (s.tsnDown m).calm vs = s.calm vs := by unfold State.tsnDown; simp
@[simp] theorem clusterDrop_calm (c) : (s.clusterDrop c).calm vs = s.calm vs := by unfold State.clusterDrop; simp
@[simp] theorem renderDrop_calm : s.renderDrop.calm vs = s.calm vs := by
  refine foldl_calm (fun t c => ?_) _
  split <;> simp
@[simp] theorem dcuDrop_calm (u) : (s.dcuDrop u).calm vs = s.calm vs := by fun_cases State.dcuDrop <;> simp
@[simp] theorem dpDrop_calm (port) : (s.dpDrop port).calm vs = s.calm vs := by unfold State.dpDrop; simp
@[simp] theorem dsiDrop_calm (port) : (s.dsiDrop port).calm vs = s.calm vs := by unfold State.dsiDrop; simp
@[simp] theorem xlateDrop_calm : s.xlateDrop.calm vs = s.calm vs := by fun_cases State.xlateDrop <;> simp
@[simp] theorem swrDrop_calm (m) : (s.swrDrop m).calm vs = s.calm vs := by unfold State.swrDrop; simp
@[simp] theorem unitAbandon_calm (u) : (s.unitAbandon u).calm false = s.calm false := by
  fun_cases State.unitAbandon <;> simp +contextual
@[simp] theorem pipesCut_calm (first) : (s.pipesCut first).calm vs = s.calm vs := by unfold State.pipesCut; simp +contextual
@[simp] theorem portsCut_calm (first) : (s.portsCut first).calm vs = s.calm vs := by unfold State.portsCut; simp +contextual
@[simp] theorem domainLost_calm (d) : (s.domainLost d).calm vs = s.calm vs := by
  unfold State.domainLost
  split
  · rfl
  · simp
  · simp
  · simp
  · simp
  · simp
  · simp
  · rfl
  · rfl
  · simp
  · simp
  · simp
  · rfl
@[simp] theorem fresh_calm (r addr) : (s.fresh r addr).calm vs = s.calm vs := by fun_cases State.fresh <;> simp

end

/-! ### What calm states agree in -/

section
variable {s t : State} {vs : Bool} (h : t.calm vs = s.calm vs)
include h

theorem calm_now : t.now = s.now := (congrArg (·.1.1) h :)
theorem calm_pending : t.pending = s.pending := (congrArg (·.1.2.1) h :)
theorem calm_variant : t.variant = s.variant := (congrArg (·.1.2.2) h :)
theorem calm_raising : t.power.raising = s.power.raising := (congrArg (·.2.1.1.raising) h :)
theorem calm_units : t.pods.units = s.pods.units := (congrArg (·.2.1.2) h :)
theorem calm_start : t.start = s.start := (congrArg (·.2.2.1.1) h :)
theorem calm_husk : t.husk = s.husk := (congrArg (·.2.2.1.2) h :)
theorem calm_unit (u : Nat) : t.unit u = s.unit u := by rw [State.unit, calm_units h, State.unit]

theorem calm_waiting {d : Nat} (hd : d ≠ 13) : d ∈ t.power.waiting ↔ d ∈ s.power.waiting := by
  have hw : t.power.waiting.filter (· != 13) = s.power.waiting.filter (· != 13) := (congrArg (·.2.1.1.waiting) h :)
  have hmem := congrArg (d ∈ ·) hw
  simpa [List.mem_filter, hd] using hmem

end

theorem calm_vims {s t : State} (h : t.calm true = s.calm true) : t.vims = s.vims := (congrArg (·.2.2.2) h :)

end Sys2Proof.Machine
end

section
/-!
PROOFS. Power domains: requests, drops, staggered ramps and failed raises (R538 to R545, R568).
-/
namespace Sys2Proof.Machine

theorem exec_powerDomCtrlWrite (dt d : Nat) (r : Req) (v : Word) (s : State) : exec (.powerDomCtrlWrite dt r d v) s = execPowerDomCtrlWrite dt r d v s := rfl
theorem exec_domainAutoDrop (dt d idle : Nat) (waits : Bool) (s : State) : exec (.domainAutoDrop dt d idle waits) s = execDomainAutoDrop dt d idle waits s := rfl
theorem exec_domainRampStart (dt : Nat) (work : List Nat) (s : State) : exec (.domainRampStart dt work) s = execDomainRampStart dt work s := rfl
theorem exec_domainPowerGood (dt d : Nat) (s : State) : exec (.domainPowerGood dt d) s = execDomainPowerGood dt d s := rfl
theorem exec_domainOn (dt : Nat) (up : DomainUp) (s : State) : exec (.domainOn dt up) s = execDomainOn dt up s := rfl
theorem exec_domainFault (dt d : Nat) (s : State) : exec (.domainFault dt d) s = execDomainFault dt d s := rfl

/-! ### A domain's units -/

/-- A unit's kind and number come from its part's list: the number is below the count. -/
theorem kindAt_mem {k i u : Nat} : ∀ {l : List (Nat × Nat)} {first : Nat}, kindAt l first u = some (k, i) → ∃ n, (k, n) ∈ l ∧ i < n
  | [], _, h => by cases h
  | (k', n) :: l, first, h => by
    unfold kindAt at h
    split at h
    next hin =>
      obtain ⟨rfl, rfl⟩ := Prod.mk.inj (Option.some.inj h)
      exact ⟨n, List.mem_cons_self, by omega⟩
    next =>
      obtain ⟨m, hm, hi⟩ := kindAt_mem h
      exact ⟨m, List.mem_cons_of_mem _ hm, hi⟩

theorem clusters_le (v : Variant) : v.row.clusters ≤ 32 := by cases v <;> decide

theorem unitAt_cluster {s : State} {u i : Nat} (h : s.unitAt u = some (0x30, i)) : i < 32 := by
  unfold State.unitAt at h
  split at h
  · cases h
  · obtain ⟨n, hn, hi⟩ := kindAt_mem h
    have hle : n ≤ 32 := by
      have hc := clusters_le s.variant
      simp only [VariantRow.kinds, List.mem_cons, Prod.mk.injEq, List.not_mem_nil] at hn
      norm_num at hn
      rw [hn]
      exact hc
    omega

theorem mem_domainUnits {s : State} {d u : Nat} : u ∈ s.domainUnits d ↔ u < s.row.unitCount ∧ ∃ k i, s.unitAt u = some (k, i) ∧ unitDomain k i = d ∧ k ≠ 1 := by
  unfold State.domainUnits
  rw [List.mem_filter, List.mem_range]
  cases hu : s.unitAt u with
  | none => simp
  | some x =>
    obtain ⟨k, i⟩ := x
    simp

theorem domainUnits_congr {s t : State} (h : t.variant = s.variant) (d : Nat) : t.domainUnits d = s.domainUnits d := by
  simp only [State.domainUnits, State.row, State.unitAt, h]

theorem domainUnits_nodup (s : State) (d : Nat) : (s.domainUnits d).Nodup := List.nodup_range.filter _

/-- The kinds in the composer's domain; a cluster's number would have to be past the last. -/
theorem unitDomain_composer {k i : Nat} (h : unitDomain k i = 13) : k = 0x12 ∨ k = 0x21 ∨ k = 0x22 ∨ k = 0x30 ∧ 40 ≤ i := by
  unfold unitDomain at h
  split at h <;> (try split at h) <;> omega

/-- The composer's units hold nothing to give up. -/
theorem unitAbandon_composer {s : State} {u : Nat} (h : u ∈ s.domainUnits 13) : s.unitAbandon u = s := by
  obtain ⟨-, k, i, hu, hd, -⟩ := mem_domainUnits.mp h
  unfold State.unitAbandon
  rcases unitDomain_composer hd with rfl | rfl | rfl | ⟨rfl, hi⟩
  · rw [hu]
    rfl
  · rw [hu]
    rfl
  · rw [hu]
    rfl
  · exact absurd (unitAt_cluster hu) (by omega)

/-- What a unit gives up leaves its own domain where it was in the queue of ramps. -/
theorem unitAbandon_waiting {s : State} {d u : Nat} (h : u ∈ s.domainUnits d) : d ∈ (s.unitAbandon u).power.waiting ↔ d ∈ s.power.waiting := by
  by_cases hd : d = 13
  · subst hd
    rw [unitAbandon_composer h]
  · exact calm_waiting (unitAbandon_calm u) hd

/-! ### A domain OFF -/

/-- A unit of a domain that goes OFF. -/
def State.unitOff (s : State) (u : Nat) : State := (s.unitAbandon u).mUnit u fun x => { x with state := 0 }

/-- Time, the commands that wait and the variant: what neither a unit's nor a domain's end reaches. -/
def State.clock (s : State) : Nat × List Instr × Variant := (s.now, s.pending, s.variant)

theorem calm_clock {s t : State} {vs : Bool} (h : t.calm vs = s.calm vs) : t.clock = s.clock := (congrArg (·.1) h :)

section
variable (s : State)

theorem mUnit_clock (u : Nat) (f : UnitSt → UnitSt) : (s.mUnit u f).clock = s.clock := by
  simp only [State.clock, State.mUnit, State.mPods_frame]

theorem setHealth_clock (u st : Nat) : (s.setHealth u st).clock = s.clock := by
  unfold State.setHealth
  split
  · rfl
  · dsimp only
    split
    · exact (calm_clock (vs := false) ((emitAt_calm ..).trans (mWorlds_calm _))).trans (mUnit_clock ..)
    · exact (calm_clock (vs := false) (emitAt_calm ..)).trans (mUnit_clock ..)

theorem unitStop_clock (u st : Nat) (why : Option Status) : (s.unitStop u st why).clock = s.clock :=
  (setHealth_clock ..).trans ((mUnit_clock ..).trans (calm_clock (vs := false) (unitAbandon_calm u)))

theorem unitOff_clock (u : Nat) : (s.unitOff u).clock = s.clock := (mUnit_clock ..).trans (calm_clock (vs := false) (unitAbandon_calm u))

theorem clock_variant {t : State} (h : t.clock = s.clock) : t.variant = s.variant := (congrArg (·.2.2) h :)

theorem setDomain_clock (d v : Nat) : (s.setDomain d v).clock = s.clock := by
  unfold State.setDomain
  dsimp only
  split <;> simp only [State.clock, State.wf_frame, State.mRecs_frame]

theorem setDomain_power (d v : Nat) : (s.setDomain d v).power = s.power := by
  unfold State.setDomain
  dsimp only
  split <;> simp only [State.wf_frame, State.mRecs_frame]

theorem mUnit_power (u : Nat) (f : UnitSt → UnitSt) : (s.mUnit u f).power = s.power := by simp only [State.mUnit, State.mPods_frame]

/-- A domain's units OFF. -/
theorem unitsOff_queue {d : Nat} : ∀ (l : List Nat) (s : State), (∀ u ∈ l, u ∈ s.domainUnits d) →
    ((d ∈ (l.foldl State.unitOff s).power.waiting ↔ d ∈ s.power.waiting) ∧ (l.foldl State.unitOff s).power.raising = s.power.raising)
  | [], _, _ => ⟨Iff.rfl, rfl⟩
  | u :: l, s, h => by
    obtain ⟨hw, hr⟩ := unitsOff_queue l (s.unitOff u) fun x hx => by
      rw [domainUnits_congr (clock_variant s (unitOff_clock s u))]
      exact h x (List.mem_cons_of_mem _ hx)
    refine ⟨hw.trans ?_, hr.trans ?_⟩
    · rw [State.unitOff, mUnit_power]
      exact unitAbandon_waiting (h u List.mem_cons_self)
    · rw [State.unitOff, mUnit_power]
      exact calm_raising (unitAbandon_calm u)

/-- A domain taken out of the queue of ramps and of the raises. -/
def State.unqueued (s : State) (d : Nat) : State :=
  s.mPower fun p => { p with waiting := p.waiting.filter (· != d), raising := p.raising.filter (·.d != d) }

/-- A domain's units OFF, and the wake-up scan of the panels with theirs. -/
def State.unitsOff (s : State) (d : Nat) : State :=
  if d = 21 then ((s.domainUnits d).foldl State.unitOff s).mPanel fun q => { q with wake := {} } else (s.domainUnits d).foldl State.unitOff s

theorem domainOff_eq (d : Nat) : s.domainOff d = (((s.unqueued d).unitsOff d).domainLost d).setDomain d 0 := rfl

theorem unitsOff_clock (d : Nat) : (s.unitsOff d).clock = s.clock := by
  have hfold : ((s.domainUnits d).foldl State.unitOff s).clock = s.clock := foldl_keeps State.clock (fun t u => unitOff_clock t u) _ s
  unfold State.unitsOff
  split
  · exact (calm_clock (vs := false) (mPanel_calm _)).trans hfold
  · exact hfold

theorem domainOff_clock (d : Nat) : (s.domainOff d).clock = s.clock := by
  rw [domainOff_eq, setDomain_clock]
  refine (calm_clock (vs := false) (domainLost_calm d)).trans ((unitsOff_clock ..).trans ?_)
  simp only [State.clock, State.unqueued, State.mPower_frame]

/-- A domain that went OFF neither waits for a ramp nor is raised. -/
theorem domainOff_queue (d : Nat) : d ∉ (s.domainOff d).power.waiting ∧ ∀ x ∈ (s.domainOff d).power.raising, x.d ≠ d := by
  have hunits : (d ∈ ((s.unqueued d).unitsOff d).power.waiting ↔ d ∈ (s.unqueued d).power.waiting)
      ∧ ((s.unqueued d).unitsOff d).power.raising = (s.unqueued d).power.raising := by
    have hfold := unitsOff_queue ((s.unqueued d).domainUnits d) (s.unqueued d) fun _ h => h
    unfold State.unitsOff
    split
    · simpa only [State.mPanel_frame] using hfold
    · exact hfold
  have hlost : (d ∈ ((((s.unqueued d).unitsOff d).domainLost d).power.waiting) ↔ d ∈ ((s.unqueued d).unitsOff d).power.waiting) := by
    by_cases hd : d = 13
    · subst hd
      exact Iff.rfl
    · exact calm_waiting (vs := false) (domainLost_calm d) hd
  rw [domainOff_eq, setDomain_power, hlost, hunits.1, calm_raising (vs := false) (domainLost_calm d), hunits.2]
  simp [State.unqueued, State.mPower_power]

theorem domainOff_state (d : Nat) : (s.domainOff d).domainState d = 0 := setDomain_shown _ (by omega)

end

/-! ### A domain's settling (R540) -/

section
variable (s : State) (d : Nat)

theorem domainResult_rd {k : Nat} (st : Status) (hk : k ≠ domainReg d 4) : (s.domainResult d st).rd k = s.rd k := rd_wf_ne _ hk

theorem domainResult_shown (st : Status) : (s.domainResult d st).rf (domainReg d 4) 22 16 = st.code := by
  rw [State.domainResult, rf_wf_same _ _ _ (by omega) (by omega)]
  exact Nat.mod_eq_of_lt st.code_lt

theorem domainResult_state (st : Status) (e : Nat) : (s.domainResult d st).domainState e = s.domainState e := by
  by_cases he : domainReg e 4 = domainReg d 4
  · rw [State.domainState, State.domainResult, he, rf_wf_ne _ _ _ (by omega) (by omega) (.inl (by omega)), State.domainState, he]
  · exact domainState_congr (domainResult_rd s d st he)

theorem setDomain_result (v : Nat) : (s.setDomain d v).rf (domainReg d 4) 22 16 = s.rf (domainReg d 4) 22 16 := by
  rw [State.setDomain, rf_wf_ne _ _ _ (by omega) (by omega) (.inr (by omega))]
  split
  · rfl
  · rw [rf_congr (State.mRecs_rd ..)]

variable {s d}

theorem domainSettle_barred (h7 : s.domainState d ≠ 7) (hup : s.domainState d < s.domainWant d) (hbar : s.raiseBar d ≠ .ok) :
    s.domainSettle d = s.domainResult d (s.raiseBar d) := by
  unfold State.domainSettle
  dsimp only
  rw [if_neg h7, if_pos hup]
  split
  next hok => exact absurd hok hbar
  next => rfl

theorem domainSettle_gated (h2 : s.domainState d = 2) (hup : s.domainState d < s.domainWant d) (hbar : s.raiseBar d = .ok) :
    s.domainSettle d = (s.domainResult d .ok).setDomain d 3 := by
  unfold State.domainSettle
  dsimp only
  rw [if_neg (by omega), if_pos hup, hbar]
  dsimp only
  rw [if_pos h2]

theorem domainSettle_queued (h2 : s.domainState d < 2) (hup : s.domainState d < s.domainWant d) (hbar : s.raiseBar d = .ok)
    (hrail : tget 0 s.power.offRails (domainRail d) = 0) : s.domainSettle d = (s.domainResult d .ok).domainQueue d := by
  have hrail' : ¬ ((tget 0 (s.domainResult d .ok).power.offRails (domainRail d) != 0) = true) := by
    simpa only [State.domainResult, State.wf_frame, bne_iff_ne, ne_eq, not_not] using hrail
  unfold State.domainSettle
  dsimp only
  rw [if_neg (by omega), if_pos hup, hbar]
  dsimp only
  rw [if_neg (by omega), if_neg hrail']

/-- A lowering leaves the queue of ramps to the domain's own states. -/
theorem domainSettle_down (h7 : s.domainState d ≠ 7) (hdown : s.domainWant d < s.domainState d) :
    s.domainSettle d = (if s.domainWant d = 0 then s.domainOff d else s.setDomain d (s.domainWant d)).domainResult d .ok := by
  have hne : s.domainState d ≠ s.domainWant d := by omega
  have hsame : (s.mPower fun p => { p with waiting := if s.domainState d = s.domainWant d then p.waiting.filter (· != d) else p.waiting }) = s := by
    simp only [if_neg hne]
    rfl
  unfold State.domainSettle
  dsimp only
  rw [hsame, if_neg h7, if_neg (by omega), if_neg hne]
  split <;> rfl

end

/-! ### A write of POWER_DOM_CTRL (R532, R540) -/

/-- What a write stores: FLOOR, AUTO and the idle time, bounded (R568). -/
def domCtrlStored (v : Word) : Nat :=
  bits v.toNat 31 30 * 2 ^ 30 + (if bits v.toNat 29 28 = 3 then 0 else bits v.toNat 29 28) * 2 ^ 28 + max 10 (min 1000000 (bits v.toNat 19 0))

section
variable {dt d : Nat} {r : Req} {v : Word} {s u : State} (hu : u = s.tick dt) (hp : pathWin r.path = pfWin) (hd : d ≠ 0)
include hu hp hd

theorem powerDomCtrl_settles (h : u.floor d ≤ bits v.toNat 31 30 ∨ u.domainClaimed d r = false) :
    exec (.powerDomCtrlWrite dt r d v) s = .next ((u.wr (domainReg d 0) (domCtrlStored v)).domainSettle d) := by
  have hok : ¬ (bits v.toNat 31 30 < u.floor d ∧ u.domainClaimed d r = true) := by
    rintro ⟨hlt, hc⟩
    rcases h with h | h
    · omega
    · rw [h] at hc; cases hc
  rw [exec_powerDomCtrlWrite, execPowerDomCtrlWrite, ← hu, if_neg (not_not.mpr hp), if_neg hd, if_neg hok]
  rfl

theorem powerDomCtrl_claimed (h : bits v.toNat 31 30 < u.floor d) (hc : u.domainClaimed d r = true) :
    exec (.powerDomCtrlWrite dt r d v) s = .next (u.wf (domainReg d 4) 22 16 Status.claimed.code) := by
  rw [exec_powerDomCtrlWrite, execPowerDomCtrlWrite, ← hu, if_neg (not_not.mpr hp), if_neg hd, if_pos ⟨h, hc⟩]
  rfl

end

/-! ### Ramps (R542) -/

theorem nextRamp_least : ∀ (l : List Nat), l ≠ [] → ∃ d, nextRamp l = some d ∧ d ∈ l ∧ ∀ e ∈ l, rampRank d ≤ rampRank e
  | [], h => absurd rfl h
  | [d], _ => ⟨d, rfl, List.mem_singleton_self d, fun e he => by rw [List.mem_singleton.mp he]⟩
  | d :: x :: l, _ => by
    obtain ⟨e, he, hin, hle⟩ := nextRamp_least (x :: l) (List.cons_ne_nil x l)
    have heq : nextRamp (d :: x :: l) = if rampRank e < rampRank d then some e else some d := by
      rw [nextRamp, he]
    rw [heq]
    split
    next hlt =>
      refine ⟨e, rfl, List.mem_cons_of_mem _ hin, fun y hy => ?_⟩
      rcases List.mem_cons.mp hy with rfl | hy
      · omega
      · exact hle y hy
    next hge =>
      refine ⟨d, rfl, List.mem_cons_self, fun y hy => ?_⟩
      rcases List.mem_cons.mp hy with rfl | hy
      · exact le_refl _
      · have hey := hle y hy
        omega

/-- A domain's ramp begun. -/
def State.rampBegun (s : State) (d : Nat) : State :=
  (s.mPower fun p =>
    { p with waiting := p.waiting.filter (· != d), raising := p.raising ++ [⟨d, s.now, s.rampUs d, false, s.domainState d == 0⟩], lastRamp := some s.now }).setDomain d 7

/-- The spacing since the last ramp has passed (R544). -/
def State.rampSpaced (s : State) : Bool :=
  match s.power.lastRamp with
  | none => true
  | some t => decide (t + max 20 (s.rf 0x0010000C 7 0) * 1000 ≤ s.now)

theorem rampSpaced_of {s : State} (h : ∀ t, s.power.lastRamp = some t → t + max 20 (s.rf 0x0010000C 7 0) * 1000 ≤ s.now) : s.rampSpaced = true := by
  unfold State.rampSpaced
  split
  next => rfl
  next t hl => exact decide_eq_true (h t hl)

theorem rampStart_eq (s : State) : s.rampStart = match nextRamp s.power.waiting with
    | none => s
    | some d => if ((s.power.raising.all fun r => r.good) && s.rampSpaced) = true then s.rampBegun d else s := rfl

theorem rampStart_begins {s : State} {d : Nat} (hn : nextRamp s.power.waiting = some d) (hfree : ∀ x ∈ s.power.raising, x.good = true)
    (hspace : ∀ t, s.power.lastRamp = some t → t + max 20 (s.rf 0x0010000C 7 0) * 1000 ≤ s.now) : s.rampStart = s.rampBegun d := by
  rw [rampStart_eq, hn, List.all_eq_true.mpr hfree, rampSpaced_of hspace]
  rfl

theorem rampBegun_shown (s : State) (d : Nat) : (s.rampBegun d).domainState d = 7 ∧ Frame [.power, .recs] [domainReg d 4] s (s.rampBegun d)
    ∧ (s.rampBegun d).power =
      { s.power with waiting := s.power.waiting.filter (· != d), raising := s.power.raising ++ [⟨d, s.now, s.rampUs d, false, s.domainState d == 0⟩], lastRamp := some s.now } :=
  ⟨setDomain_shown _ (by omega), ((Frame.refl ..).mPower (by simp) _).setDomain (by simp) (by simp) 7, by rw [State.rampBegun, setDomain_power, State.mPower_power]⟩

/-! ### A change of health -/

/-- What a change of a unit's health leaves (R29, R71). -/
def State.steady (s : State) : (Nat × List Instr × Variant) × PowerSt × StartSt × HuskSt × Seed :=
  ((s.now, s.pending, s.variant), s.power, s.start, s.husk, s.seed)

section
variable (s : State)

theorem mUnit_steady (u : Nat) (f : UnitSt → UnitSt) : (s.mUnit u f).steady = s.steady := by simp only [State.steady, State.mUnit, State.mPods_frame]

theorem mWorlds_steady (f : Worlds → Worlds) : (s.mWorlds f).steady = s.steady := by simp only [State.steady, State.mWorlds_frame]

theorem emitAt_pf_steady (kind status handle detail time : Nat) : (s.emitAt pfWin kind status handle detail time).steady = s.steady := by
  have honly := emitAt_only s pfWin kind status handle detail time
  unfold State.steady
  rw [(honly.pf rfl).1, honly.rest]

theorem setHealth_steady (u st : Nat) : (s.setHealth u st).steady = s.steady := by
  unfold State.setHealth
  split
  · rfl
  · dsimp only
    refine (emitAt_pf_steady ..).trans ?_
    split
    · exact (mWorlds_steady ..).trans (mUnit_steady ..)
    · exact mUnit_steady ..

/-- A domain's state is in no register that an event at the PF ring writes. -/
theorem setHealth_domain (u st d : Nat) : (s.setHealth u st).rd (domainReg d 4) = s.rd (domainReg d 4) := by
  unfold State.setHealth
  split
  · rfl
  · dsimp only
    refine ((emitAt_only ..).regs _ ?_ ?_ ?_ ?_).trans ?_
    · have h : (evr pfWin).tail = 0x07090010 := by decide
      unfold domainReg
      omega
    · have h : (evr pfWin).lost = 0x07090018 := by decide
      unfold domainReg
      omega
    · unfold domainReg viReg pfWin
      omega
    · unfold domainReg
      omega
    · split
      · exact (State.mWorlds_rd ..).trans (State.mPods_rd ..)
      · exact State.mPods_rd ..

end

/-! ### A raise that ends (R544, R545) -/

/-- A unit of a raised domain, in service again. -/
def unitRaised (step : Nat) (x : UnitSt) : UnitSt :=
  let y : UnitSt := if x.state = 7 then x else { x with state := 3, req := if step = 0 then x.req else 3, target := 3 }
  if x.health = 4 ∧ ¬ x.gaveUp then { y with health := 0 } else y

def State.unitBack (s : State) (u : Nat) : State :=
  let x := s.unit u
  let s := if x.state = 7 then s else s.mUnit u fun x => { x with state := 3, req := if s.start.step = 0 then x.req else 3, target := 3 }
  if x.health = 4 ∧ ¬ x.gaveUp then s.setHealth u 0 else s

/-- A raised domain before its next request is acted on. -/
def State.domainRaised (s : State) (d : Nat) (r : Ramp) : State :=
  let s := s.mPower fun p => { p with raising := p.raising.filter (·.d != d) }
  let s := ((s.setDomain d 3).wf (domainReg d 4) 15 0 (min 65535 ((s.now - r.at_) / 1000))).sat (domainReg d 0x18) 1
  let s := (s.domainUnits d).foldl State.unitBack s
  if d = 21 then s.mPanel fun q => { q with wake := {} } else s

theorem domainUp_eq {s : State} {d : Nat} {x : Ramp} (h : (s.power.raising.find? fun r => r.d == d && r.good) = some x) :
    s.domainUp d = (s.domainRaised d x).domainSettle d := by
  unfold State.domainUp
  rw [h]
  rfl

section
variable (s : State)

theorem unitBack_unit (u j : Nat) : (s.unitBack u).unit j = if j = u then unitRaised s.start.step (s.unit u) else s.unit j := by
  unfold State.unitBack unitRaised
  dsimp only
  split_ifs <;> simp_all [setHealth_unit, mUnit_unit]

theorem unitBack_steady (u : Nat) : (s.unitBack u).steady = s.steady := by
  unfold State.unitBack
  extract_lets x y
  have hy : y.steady = s.steady := by
    unfold y
    split
    · rfl
    · exact mUnit_steady ..
  split
  · exact (setHealth_steady ..).trans hy
  · exact hy

theorem unitBack_domain (u d : Nat) : (s.unitBack u).rd (domainReg d 4) = s.rd (domainReg d 4) := by
  unfold State.unitBack
  extract_lets x y
  have hy : y.rd (domainReg d 4) = s.rd (domainReg d 4) := by
    unfold y
    split
    · rfl
    · exact State.mPods_rd ..
  split
  · exact (setHealth_domain ..).trans hy
  · exact hy

theorem steady_start {t : State} (h : t.steady = s.steady) : t.start = s.start := (congrArg (·.2.2.1) h :)

/-- Every unit of a list in service again, and no other changed. -/
theorem unitsBack_unit {k : Nat} : ∀ (l : List Nat) (s : State), l.Nodup →
    (l.foldl State.unitBack s).unit k = if k ∈ l then unitRaised s.start.step (s.unit k) else s.unit k
  | [], s, _ => rfl
  | u :: l, s, hl => by
    obtain ⟨hu, hl⟩ := List.nodup_cons.mp hl
    rw [List.foldl_cons, unitsBack_unit l (s.unitBack u) hl, steady_start s (unitBack_steady s u), unitBack_unit]
    by_cases hk : k = u
    · subst hk
      rw [if_neg hu, if_pos rfl, if_pos List.mem_cons_self]
    · simp only [hk, if_false, List.mem_cons, false_or]

end

section
variable {s : State} {d : Nat} {x : Ramp}

/-- The raise of a domain taken out, its state and its measured time shown. -/
def State.raiseShown (s : State) (d : Nat) (x : Ramp) : State :=
  (((s.mPower fun p => { p with raising := p.raising.filter (·.d != d) }).setDomain d 3).wf (domainReg d 4) 15 0 (min 65535 ((s.now - x.at_) / 1000))).sat (domainReg d 0x18) 1

theorem domainRaised_eq : s.domainRaised d x = if d = 21 then (((s.raiseShown d x).domainUnits d).foldl State.unitBack (s.raiseShown d x)).mPanel fun q => { q with wake := {} }
    else ((s.raiseShown d x).domainUnits d).foldl State.unitBack (s.raiseShown d x) := by
  unfold State.raiseShown
  rfl

theorem raiseShown_rd : (s.raiseShown d x).rd (domainReg d 4) =
    (((s.mPower fun p => { p with raising := p.raising.filter (·.d != d) }).setDomain d 3).wf (domainReg d 4) 15 0 (min 65535 ((s.now - x.at_) / 1000))).rd (domainReg d 4) := by
  rw [State.raiseShown, State.sat, State.rd_wr_ne _ (by unfold domainReg; omega)]

theorem raiseShown_units : (s.raiseShown d x).domainUnits d = s.domainUnits d ∧ (∀ k, (s.raiseShown d x).unit k = s.unit k) ∧ (s.raiseShown d x).start = s.start := by
  have hrest : (s.raiseShown d x).pods = s.pods ∧ (s.raiseShown d x).variant = s.variant ∧ (s.raiseShown d x).start = s.start := by
    simp only [State.raiseShown, State.setDomain, State.sat_frame, State.wf_frame]
    split <;> simp only [State.mRecs_frame, State.mPower_frame, and_self]
  obtain ⟨hpods, hvar, hstart⟩ := hrest
  exact ⟨domainUnits_congr hvar d, fun k => by rw [State.unit, hpods, State.unit], hstart⟩

theorem domainRaised_unit {k : Nat} (hk : k ∈ s.domainUnits d) : (s.domainRaised d x).unit k = unitRaised s.start.step (s.unit k) := by
  obtain ⟨hunits, hunit, hstart⟩ := raiseShown_units (s := s) (d := d) (x := x)
  have hfold : (((s.raiseShown d x).domainUnits d).foldl State.unitBack (s.raiseShown d x)).unit k = unitRaised s.start.step (s.unit k) := by
    rw [unitsBack_unit _ _ (domainUnits_nodup _ d), hunits, if_pos hk, hunit, hstart]
  rw [domainRaised_eq]
  split
  · simpa only [State.unit, State.mPanel_frame] using hfold
  · exact hfold

theorem domainRaised_shown : (s.domainRaised d x).domainState d = 3 ∧ (s.domainRaised d x).rf (domainReg d 4) 15 0 = min 65535 ((s.now - x.at_) / 1000)
    ∧ (s.domainRaised d x).power = { s.power with raising := s.power.raising.filter (·.d != d) } := by
  have hrd : (s.domainRaised d x).rd (domainReg d 4) = (s.raiseShown d x).rd (domainReg d 4) := by
    have hfold : (((s.raiseShown d x).domainUnits d).foldl State.unitBack (s.raiseShown d x)).rd (domainReg d 4) = (s.raiseShown d x).rd (domainReg d 4) :=
      foldl_keeps (fun t : State => t.rd (domainReg d 4)) (fun t u => unitBack_domain t u d) _ _
    rw [domainRaised_eq]
    split
    · exact (State.mPanel_rd ..).trans hfold
    · exact hfold
  have hpow : (s.domainRaised d x).power = (s.raiseShown d x).power := by
    have hfold : (((s.raiseShown d x).domainUnits d).foldl State.unitBack (s.raiseShown d x)).power = (s.raiseShown d x).power :=
      foldl_keeps State.power (fun t u => (congrArg (·.2.1) (unitBack_steady t u) :)) _ _
    rw [domainRaised_eq]
    split
    · simpa only [State.mPanel_frame] using hfold
    · exact hfold
  refine ⟨?_, ?_, ?_⟩
  · rw [domainState_congr hrd, domainState_congr raiseShown_rd, State.domainState, rf_wf_ne _ _ _ (by omega) (by omega) (.inl (by omega))]
    exact setDomain_shown _ (by omega)
  · rw [rf_congr hrd, rf_congr raiseShown_rd, rf_wf_same _ _ _ (by omega) (by omega)]
    exact Nat.mod_eq_of_lt (by omega)
  · rw [hpow]
    simp only [State.raiseShown, State.sat_frame, State.wf_frame, setDomain_power, State.mPower_power]

end

/-! ### A raise that misses power-good (R544) -/

/-- A domain that failed, before the event. -/
def State.domainFailed (s : State) (d : Nat) : State :=
  ((((s.domainUnits d).foldl (fun s u => s.unitStop u 2 (some .fault)) (s.domainOff d)).wb (domainReg d 4) 26 true).mPower fun p =>
    { p with domFaults := tmod [] p.domFaults d fun l => ((s.domainUnits d).foldl (fun s u => s.unitStop u 2 (some .fault)) (s.domainOff d)).now :: l }).domainResult d .fault

theorem domainFailed_clock (s : State) (d : Nat) : (s.domainFailed d).clock = s.clock := by
  have hfold : ((s.domainUnits d).foldl (fun s u => s.unitStop u 2 (some .fault)) (s.domainOff d)).clock = s.clock :=
    (foldl_keeps State.clock (fun t u => unitStop_clock t u 2 _) _ _).trans (domainOff_clock s d)
  rw [← hfold]
  simp only [State.domainFailed, State.domainResult, State.clock, State.wf_frame, State.mPower_frame, State.wb_frame]

theorem domainFailed_shown (s : State) (d : Nat) : (s.domainFailed d).rb (domainReg d 4) 26 = true ∧ (s.domainFailed d).rf (domainReg d 4) 22 16 = Status.fault.code := by
  refine ⟨?_, domainResult_shown ..⟩
  rw [State.domainFailed, State.domainResult, rb_wf_ne _ _ _ (by omega) (by omega) (.inl (by omega)), rb_congr (State.mPower_rd ..), rb_wb_same _ _ _ (by omega)]

theorem domainFault_next {dt d : Nat} {x : Ramp} {s u : State} (hu : u = s.tick dt) (hx : (u.power.raising.find? fun r => r.d == d && !r.good) = some x)
    (hlate : x.at_ + (2 * x.us + 10) * 1000 < u.now) : exec (.domainFault dt d) s = .next ((u.domainFailed d).emitPf 0x17 .fault (d * 2 ^ 24)) := by
  rw [exec_domainFault, execDomainFault, ← hu, hx]
  exact if_neg (by omega)

/--
Settles O43: a write settles the domain, and each way a domain settles is one equation; the ramps, the raise and its fault follow their operations.
What a unit gives up leaves its own domain's place in the queue of ramps: only the composer's domain is asked for there, and none of its units
gives anything up. Which harts wait is the sender's knowledge (log entry 53).
-/
theorem powerDomains : Obligations.PowerDomains := by
  unfold Obligations.PowerDomains
  refine ⟨fun dt d r v s u w hu hp hd hw hfloor => ?write, fun dt d r v s u hu hp hd hlow hc => powerDomCtrl_claimed hu hp hd hlow hc,
    fun dt d idle least auto waits s u hu h4 ha hauto hidle hwait hleast h7 => ?auto, fun dt d s u hu hin hmin hn hfree hspace => ?ramp, nextRamp_least,
    fun dt d s u hu hw hr hl hbar => ?need, fun dt d s u hu => ?good, fun dt d up x s u hu hd hx => ?raised, fun dt d x s u hu hx hlate => ?failed⟩
  case write =>
    have hw : w = u.wr (domainReg d 0) (domCtrlStored v) := hw
    have hexec : exec (.powerDomCtrlWrite dt r d v) s = .next (w.domainSettle d) := hw ▸ powerDomCtrl_settles hu hp hd hfloor
    have hne : domainReg d 0 ≠ domainReg d 4 := by unfold domainReg; omega
    have hstate : w.domainState d = u.domainState d := domainState_congr (by rw [hw, State.rd_wr_ne _ hne.symm])
    have hpow : w.power = u.power := by rw [hw]; simp only [State.wr_frame]
    have hframe : ∀ ps, Frame ps [domainReg d 0, domainReg d 4] u w := fun ps => by
      rw [hw]
      exact (Frame.refl ..).wr (by simp) _
    refine ⟨fun h2 h3 hbar => ?_, fun hlow hup hbar hrail hwait hraise => ?_, fun hup h7 hbar => ?_, fun h0 hdown h7 => ?_, fun h0 hpos h7 => ?_⟩
    · refine ⟨_, hexec.trans (congrArg _ (domainSettle_gated h2 (by omega) hbar)), setDomain_shown _ (by omega), by rw [setDomain_result, domainResult_shown],
        by rw [setDomain_rd _ hne, domainResult_rd _ _ _ hne], ?_⟩
      exact ((hframe _).wf (by simp) ..).setDomain (by simp) (by simp) 3
    · have hnew : ¬ (((w.domainResult d .ok).power.waiting.contains d || (w.domainResult d .ok).power.raising.any (·.d == d)) = true) := by
        simp only [State.domainResult, State.wf_frame, hpow, Bool.or_eq_true, List.contains_iff_mem, List.any_eq_true, beq_iff_eq, not_or, not_exists, not_and]
        exact ⟨hwait, hraise⟩
      have hq : (w.domainResult d .ok).domainQueue d = (w.domainResult d .ok).mPower fun p => { p with waiting := p.waiting ++ [d] } := by
        rw [State.domainQueue, if_neg hnew]
      refine ⟨_, hexec.trans (congrArg _ ((domainSettle_queued hlow hup hbar (by rw [hpow]; exact hrail)).trans hq)), ?_, ?_, ?_, ?_, ?_⟩
      · simp only [State.mPower_power, State.domainResult, State.wf_frame, hpow]
      · rw [domainState_congr (State.mPower_rd ..), domainResult_state, hstate]
      · rw [rf_congr (State.mPower_rd ..), domainResult_shown]
      · rw [State.mPower_rd, domainResult_rd _ _ _ hne]
      · exact ((hframe _).wf (by simp) ..).mPower (by simp) _
    · refine ⟨_, hexec.trans (congrArg _ (domainSettle_barred h7 hup hbar)), by rw [domainResult_state, hstate], domainResult_shown .., domainResult_rd _ _ _ hne, ?_⟩
      exact (hframe _).wf (by simp) ..
    · have hlt : w.domainState d < 8 := Nat.mod_lt _ (by omega)
      have hset := domainSettle_down h7 hdown
      rw [if_neg (by omega)] at hset
      refine ⟨_, hexec.trans (congrArg _ hset), by rw [domainResult_state, setDomain_shown _ (by omega)], domainResult_shown ..,
        by rw [domainResult_rd _ _ _ hne, setDomain_rd _ hne], ?_⟩
      exact ((hframe _).setDomain (by simp) (by simp) _).wf (by simp) ..
    · have hset := domainSettle_down h7 (by omega)
      rw [if_pos h0] at hset
      obtain ⟨hwaiting, hraising⟩ := domainOff_queue w d
      refine ⟨_, hexec.trans (congrArg _ hset), by rw [domainResult_state, domainOff_state], domainResult_shown .., ?_, ?_⟩
      · simpa only [State.domainResult, State.wf_frame] using hwaiting
      · simpa only [State.domainResult, State.wf_frame] using hraising
  case auto =>
    have hwork : ∀ tgt, tgt = (if u.rf (domainReg d 0) 29 28 = 1 then 2 else 1) → max (u.floor d) (max (u.domainWork d) tgt) = least := fun tgt ht => by
      rw [hleast, ht, ← ha]
    have heq : exec (.domainAutoDrop dt d idle waits) s = if u.domainState d ≤ least then .next u else .next (u.setDomain d least) := by
      rw [exec_domainAutoDrop, execDomainAutoDrop, ← hu, hwork _ rfl]
      split_ifs with h1 h2 h2
      · rfl
      · rw [← ha] at h1
        rcases h1 with h | h | h | h | ⟨h, hno⟩ | h | h
        case inr.inr.inr.inr.inl => exact absurd (hwait h) hno
        all_goals omega
      · exact absurd (by omega) h1
      · rfl
    refine ⟨fun hlt => ⟨_, heq.trans (if_neg (by omega)), setDomain_shown _ ?_, (Frame.refl ..).setDomain (by simp) (by simp) least⟩, fun hle => heq.trans (if_pos hle)⟩
    have h8 : u.domainState d < 8 := Nat.mod_lt _ (by omega)
    omega
  case ramp =>
    obtain ⟨hstate, hframe, hpow⟩ := rampBegun_shown u d
    refine ⟨u.rampBegun d, ?_, hstate, hpow, hframe⟩
    rw [exec_domainRampStart, execDomainRampStart, ← hu, List.foldl_nil, rampStart_begins hn hfree hspace]
  case need =>
    refine ⟨fun h2 => ?_, fun hlow => ?_⟩
    · have hneed : u.domainNeed d = u.wf (domainReg d 4) 31 29 3 := by rw [State.domainNeed, if_pos hbar, if_pos h2]
      refine ⟨u.wf (domainReg d 4) 31 29 3, ?_, ?_, (Frame.refl ..).wf (by simp) ..⟩
      · have hidle : (u.wf (domainReg d 4) 31 29 3).power.waiting = [] := by simpa only [State.wf_frame] using hw
        rw [exec_domainRampStart, execDomainRampStart, ← hu, List.foldl_cons, List.foldl_nil, hneed, rampStart_eq, hidle]
        rfl
      · rw [State.domainState, rf_wf_same _ _ _ (by omega) (by omega), Nat.mod_eq_of_lt (by omega)]
    · have hneed : u.domainNeed d = u.mPower fun p => { p with waiting := p.waiting ++ [d] } := by
        rw [State.domainNeed, if_pos hbar, if_neg (by omega), if_pos hlow, State.domainQueue, hw, hr]
        rfl
      have hwait : (u.domainNeed d).power.waiting = [d] := by rw [hneed, State.mPower_power, hw]; rfl
      have hraise : (u.domainNeed d).power.raising = [] := by rw [hneed, State.mPower_power, hr]
      have hlast : (u.domainNeed d).power.lastRamp = none := by rw [hneed, State.mPower_power, hl]
      obtain ⟨hstate, hframe, hpow⟩ := rampBegun_shown (u.domainNeed d) d
      refine ⟨(u.domainNeed d).rampBegun d, ?_, hstate, ?_, ?_, ?_⟩
      · rw [exec_domainRampStart, execDomainRampStart, ← hu, List.foldl_cons, List.foldl_nil, rampStart_begins (by rw [hwait]; rfl) (by simp [hraise]) (by simp [hlast])]
      · rw [hpow, hwait]
        simp
      · rw [hpow, hraise, hneed]
        rfl
      · rw [hneed]
        exact (((Frame.refl ..).mPower (by simp) _).mPower (by simp) _).setDomain (by simp) (by simp) 7
  case good =>
    refine ⟨_, by rw [exec_domainPowerGood, execDomainPowerGood, ← hu], fun x hx hxd hdue => ?_, fun x hx hno => ?_, ?_, (Frame.refl ..).mPower (by simp) _⟩
    · exact List.mem_map.mpr ⟨x, hx, if_pos ⟨hxd, hdue⟩⟩
    · exact List.mem_map.mpr ⟨x, hx, if_neg hno⟩
    · simp only [State.mPower_power, List.map_map]
      refine List.map_congr_left fun x _ => ?_
      simp only [Function.comp]
      split <;> rfl
  case raised =>
    subst hd
    obtain ⟨hstate, htime, hpow⟩ := domainRaised_shown (s := u) (d := up.d) (x := x)
    refine ⟨u.domainRaised up.d x, by rw [exec_domainOn, execDomainOn, ← hu, domainUp_eq hx], hstate, htime, hpow, fun k hk => ?_⟩
    rw [domainRaised_unit hk]
    refine ⟨fun h7 => ?_, fun h4 hg => ?_⟩
    · unfold unitRaised
      simp only [h7, if_false]
      split <;> exact ⟨rfl, rfl⟩
    · unfold unitRaised
      simp only [h4, hg, Bool.false_eq_true, not_false_eq_true, and_self, if_true]
  case failed =>
    obtain ⟨hbit, hresult⟩ := domainFailed_shown u d
    have hclock := domainFailed_clock u d
    exact ⟨u.domainFailed d, domainFault_next hu hx hlate, hbit, hresult, (congrArg (·.1) hclock :), (congrArg (·.2.1) hclock :), (congrArg (·.2.2) hclock :)⟩

end Sys2Proof.Machine
end

section
/-!
PROOFS. Virtual instances: creation, grants, reset and destruction (R477 to R493).
-/
namespace Sys2Proof.Machine

/-! ### A command that comes over an Icvik link -/

/-- A CREATE_VI of VI 256, which no device has, that comes over link 0, is refused by the checks. -/
theorem viOverLink_check :
    ((State.reset.tick 0).vimCheck ⟨.link 0, false⟩ 1 256 none).1 = (.error .badParam : Except Status Nat) := by rfl

/-- It changes nothing: RESULT reads 0, as at reset. -/
theorem viOverLink_result : (goOn {} (exec (.createVi 0 ⟨.link 0, false⟩ 256 none) State.reset)).rf 0x0040001C 22 16 = 0 := by decide

/-- Refutes O38, in its clause for a refused command: that clause asks only that the requester is no VI, and a command that comes over an
Icvik link is no VI's either, but it is not the PF's, so it is ignored and no status is shown (R477). -/
theorem not_instanceCommands : ¬ Obligations.InstanceCommands := by
  rintro ⟨-, -, refused⟩
  obtain ⟨shown, -⟩ := refused 0 256 .badParam ⟨.link 0, false⟩ none State.reset _ ((State.reset.tick 0).vimCheck ⟨.link 0, false⟩ 1 256 none).2 rfl
    (by simp)
  have hresult := viOverLink_result
  rw [shown (Prod.ext viOverLink_check rfl)] at hresult
  have hcode := vimResult_shown ((State.reset.tick 0).vimCheck ⟨.link 0, false⟩ 1 256 none).2 .badParam
  exact absurd (hresult.symm.trans hcode) (by decide)

/-! ### A reset accepted (R492) -/

section
variable (s : State) (v : Nat)

/-- Commands in progress end, and the VI's channels stop. -/
def State.viStopped (s : State) (v from_ : Nat) : State :=
  let s := if (s.vimPending v [0x05, 0x06, 0x07, 0x08, 0x09, 0x0A]).isSome then (s.setVi v from_).vimDone v .badState else s
  (s.viChans v).foldl (fun s c => s.resetChan v c) s

/-- The record of a VI's reset. -/
def State.resetNoted (s : State) (v cause from_ : Nat) : State := s.mVims fun m =>
  { m with resets := tset none m.resets v (some ⟨cause, from_, cause == 2, s.now⟩), restored := m.restored.filter (· != v), retrans := tset [] m.retrans v [] }

/-- What a reset does at once after its record: commits, translations, rings and the control entry. -/
def State.viEmptied (s : State) (v : Nat) : State :=
  let s := ((s.dropCommits v).mRender fun r => { r with reqs := tset [] r.reqs v [] }).xlatePending v
  let s := (List.range 256).foldl (fun s n => s.wb (ringCtrl v n) 31 false) s
  (s.wb (evr v).ctrl 31 false).mPods fun p => { p with ctl := tset none p.ctl v none }

theorem viReset_eq (cause : Nat) (h0 : s.viState v ≠ 0) (hr : tget none s.vims.resets v = none) : s.viReset v cause =
    let from_ := if s.viState v = 1 ∨ s.viState v = 3 then 1 else 4
    let t := ((s.viStopped v from_).resetNoted v cause from_).viEmptied v
    (t.wf (viReg v 4) 15 0 (t.rf (viReg v 4) 15 0 + 1)).setVi v (if cause = 2 then 7 else 2) := by
  unfold State.viReset
  dsimp only
  rw [if_neg h0, hr]
  rfl

theorem viStopped_now (from_ : Nat) : (s.viStopped v from_).now = s.now := by
  refine calm_now (vs := false) ((foldl_calm (by simp) _).trans ?_)
  simp

theorem viEmptied_vims : (s.viEmptied v).vims = s.vims := by
  refine calm_vims ?_
  unfold State.viEmptied
  simp

/-- An accepted reset: the state it leads to, its record, and the time. -/
theorem viReset_shown (cause : Nat) (h0 : s.viState v ≠ 0) (hr : tget none s.vims.resets v = none) :
    (s.viReset v cause).viState v = (if cause = 2 then 7 else 2) ∧ (s.viReset v cause).now = s.now
      ∧ tget none (s.viReset v cause).vims.resets v = some ⟨cause, if s.viState v = 1 ∨ s.viState v = 3 then 1 else 4, cause == 2, s.now⟩ := by
  refine ⟨?_, calm_now (viReset_calm v cause), ?_⟩
  · rw [viReset_eq s v cause h0 hr]
    dsimp only
    rw [setVi_viState]
    split <;> rfl
  · rw [viReset_eq s v cause h0 hr]
    dsimp only
    simp only [setVi_vims, State.wf_frame, viEmptied_vims, State.resetNoted, State.mVims_vims, tget_tset_same, viStopped_now]

end

end Sys2Proof.Machine
end

section
/-!
PROOFS. Copies, dirty logging and PCIe events of virtual instances (R476, R479, R503 to R509).
-/
namespace Sys2Proof.Machine

theorem exec_copyOut (dt v : Nat) (r : Req) (ext : Option Bytes) (s : State) : exec (.copyOut dt r v ext) s = execCopyOut dt r v ext s := rfl
theorem exec_copyIn (dt v : Nat) (r : Req) (ext : Option Bytes) (s : State) : exec (.copyIn dt r v ext) s = execCopyIn dt r v ext s := rfl
theorem exec_dirtyCtrl (dt v : Nat) (r : Req) (ext : Option Bytes) (s : State) : exec (.dirtyCtrl dt r v ext) s = execDirtyCtrl dt r v ext s := rfl
theorem exec_dirtyHarvest (dt v : Nat) (r : Req) (ext : Option Bytes) (s : State) : exec (.dirtyHarvest dt r v ext) s = execDirtyHarvest dt r v ext s := rfl
theorem exec_viCopyComplete (dt v : Nat) (hosts : List HostRun) (s : State) : exec (.viCopyComplete dt v hosts) s = execViCopyComplete dt v hosts s := rfl
theorem exec_functionLevelReset (dt l vf : Nat) (s : State) : exec (.functionLevelReset dt l vf) s = execFunctionLevelReset dt l vf s := rfl
theorem exec_vfEnableCleared (dt l : Nat) (s : State) : exec (.vfEnableCleared dt l) s = execVfEnableCleared dt l s := rfl
theorem exec_pcieLinkDown (dt l : Nat) (s : State) : exec (.pcieLinkDown dt l) s = execPcieLinkDown dt l s := rfl
theorem exec_pcieLinkUp (dt l : Nat) (s : State) : exec (.pcieLinkUp dt l) s = execPcieLinkUp dt l s := rfl
theorem exec_busMasterEnableChange (dt l vf : Nat) (on : Bool) (s : State) :
    exec (.busMasterEnableChange dt l vf on) s = execBusMasterEnableChange dt l vf on s := rfl

/-! ### Copies and dirty logging (R503, R506) -/

section
variable {s u x : State} {dt v p : Nat} {r : Req} {ext : Option Bytes} (hu : u = s.tick dt)
include hu

theorem copyOut_taken (h : u.vimTakes x r 9 v ext p) : exec (.copyOut dt r v ext) s = .next (x.vimLater 9 v p) := by
  rw [exec_copyOut, execCopyOut, ← hu, vimCmd_taken h]

theorem copyIn_taken (h : u.vimTakes x r 10 v ext p) : exec (.copyIn dt r v ext) s = .next (x.vimLater 10 v p) := by
  rw [exec_copyIn, execCopyIn, ← hu, vimCmd_taken h]

end

/-- Logging off, and its area forgotten. -/
def State.dirtyOff (s : State) (v : Nat) : State :=
  (s.mVims fun m => { m with dirty := tset none m.dirty v none }).wb (viReg v 0x14) 31 false

/-- Logging on, in an area that reads 0. -/
def State.dirtyOn (s : State) (v p : Nat) : State :=
  ((s.areaZero (vpAddr p) (dirtyLen (vpArg p) (vpLen p))).mVims fun m =>
    { m with dirty := tset none m.dirty v (some ⟨vpAddr p, vpArg p, vpAddr2 p, vpLen p⟩) }).wr (viReg v 0x14) (2 ^ 31)

theorem areaZero_hostMem (s : State) (a n : Nat) : (s.areaZero a n).hostMem = s.hostMem := by
  unfold State.areaZero
  refine foldl_keeps State.hostMem (fun t i => ?_) _ s
  rfl

section
variable (s : State) (v p : Nat)

theorem dirtyOff_shown : tget none (s.dirtyOff v).vims.dirty v = none ∧ (s.dirtyOff v).rb (viReg v 0x14) 31 = false := by
  unfold State.dirtyOff
  refine ⟨?_, rb_wb_same _ _ _ (by decide)⟩
  simp only [State.wb_frame, State.mVims_vims, tget_tset_same]

theorem dirtyOn_shown : tget none (s.dirtyOn v p).vims.dirty v = some ⟨vpAddr p, vpArg p, vpAddr2 p, vpLen p⟩
    ∧ (s.dirtyOn v p).rd (viReg v 0x14) = 2 ^ 31
    ∧ (s.dirtyOn v p).mem = (s.areaZero (vpAddr p) (dirtyLen (vpArg p) (vpLen p))).mem ∧ (s.dirtyOn v p).hostMem = s.hostMem := by
  unfold State.dirtyOn
  refine ⟨?_, ?_, ?_, ?_⟩
  · simp only [State.wr_frame, State.mVims_vims, tget_tset_same]
  · rw [State.rd_wr_same, Nat.mod_eq_of_lt (by norm_num)]
  · simp only [State.wr_frame, State.mVims_frame]
  · simp only [State.wr_frame, State.mVims_frame, areaZero_hostMem]

end

section
variable {s u x : State} {dt v p : Nat} {r : Req} {ext : Option Bytes} (hu : u = s.tick dt)
include hu

theorem dirtyCtrl_off (h : u.vimTakes x r 11 v ext p) (hoff : vpFlags p = 0) :
    exec (.dirtyCtrl dt r v ext) s = .next ((x.dirtyOff v).vimAtOnce 11 v p .ok) := by
  rw [exec_dirtyCtrl, execDirtyCtrl, ← hu, vimCmd_taken h, if_pos hoff]
  rfl

theorem dirtyCtrl_on (h : u.vimTakes x r 11 v ext p) (hon : vpFlags p = 1) (hdev : isHost (vpAddr p) = false)
    (hmap : x.areaMapped (vpAddr p) (dirtyLen (vpArg p) (vpLen p)) = true) :
    exec (.dirtyCtrl dt r v ext) s = .next ((x.dirtyOn v p).vimAtOnce 11 v p .ok) := by
  rw [exec_dirtyCtrl, execDirtyCtrl, ← hu, vimCmd_taken h, if_neg (by omega)]
  dsimp only
  rw [hdev, hmap, if_neg (by decide)]
  rfl

theorem dirtyHarvest_stored {d : DirtyCfg} {pas : List Nat} {y : State} (h : u.vimTakes x r 12 v ext p) (hd : tget none x.vims.dirty v = some d)
    (hfit : vpArg p + vpLen p ≤ dirtyLen d.limit d.hostPages) (hpas : x.physAll pfWin (d.area + vpArg p) (vpLen p) = some pas)
    (hst : x.store pfWin 6 (vpAddr p) (pas.map fun a => tget 0 x.mem a) = (true, y)) :
    exec (.dirtyHarvest dt r v ext) s = .next (({ y with mem := pas.foldl tdel y.mem } : State).vimAtOnce 12 v p .ok) := by
  rw [exec_dirtyHarvest, execDirtyHarvest, ← hu, vimCmd_taken h]
  simp only [hd, Nat.not_lt.mpr hfit, if_false, hpas, hst]

end

/-! ### A copy that ends (R503) -/

section
variable {s u x y : State} {dt v : Nat} {hosts : List HostRun} {o : VimOp} {b : Bytes} (hu : u = s.tickMem dt hosts)
  (ho : tget none u.vims.ops v = some o)
include hu ho

theorem viCopyComplete_out (hop : o.op = 9) (hdev : isHost (vpArg o.par) = false)
    (hread : u.peek v 6 hosts (vpArg o.par) (vpLen o.par) = .ok b) (hst : u.store pfWin 6 (vpAddr o.par) b = (true, x)) :
    exec (.viCopyComplete dt v hosts) s = .next (x.vimDone v .ok) := by
  simp only [exec_viCopyComplete, execViCopyComplete, ← hu, vimPending_some ho (show o.op ∈ [9, 10] by simp [hop]), hdev, hop, hread, hst, Bool.false_eq_true,
    if_false, if_true]

theorem viCopyComplete_in (hop : o.op = 10) (hdev : isHost (vpArg o.par) = false)
    (hread : u.load pfWin 6 hosts (vpAddr o.par) (vpLen o.par) = (some b, x)) (hst : x.copyIn v (vpArg o.par) (pages b) = (true, y)) :
    exec (.viCopyComplete dt v hosts) s = .next (y.vimDone v .ok) := by
  simp only [exec_viCopyComplete, execViCopyComplete, ← hu, vimPending_some ho (show o.op ∈ [9, 10] by simp [hop]), hdev, hop, hread, hst, Bool.false_eq_true,
    if_false, show ¬((10 : Nat) = 9) by decide]

theorem viCopyComplete_host (hop : o.op = 9 ∨ o.op = 10) (hhost : isHost (vpArg o.par) = true) :
    exec (.viCopyComplete dt v hosts) s = .next (u.vimDone v .fault) := by
  simp only [exec_viCopyComplete, execViCopyComplete, ← hu, vimPending_some ho (show o.op ∈ [9, 10] by simpa using hop), hhost, if_true]

end

/-! ### PCIe events (R476, R479, R508) -/

theorem boundVi_inUse {s : State} {l vf v : Nat} (h : s.boundVi l vf = some v) : s.viState v ≠ 0 := by
  have hv := List.find?_some h
  simp only [Bool.and_eq_true, bne_iff_ne, ne_eq] at hv
  exact hv.1.1

section
variable {s u : State} {dt l : Nat} (hu : u = s.tick dt)
include hu

theorem functionLevelReset_bound {vf v : Nat} (h : u.boundVi l vf = some v) : exec (.functionLevelReset dt l vf) s = .next (u.viReset v 3) := by
  rw [exec_functionLevelReset, execFunctionLevelReset, ← hu]
  simp only [h]

theorem vfEnableCleared_next : exec (.vfEnableCleared dt l) s = .next ((u.linkVis l).foldl (fun s v => s.viReset v 4) u) := by
  rw [exec_vfEnableCleared, execVfEnableCleared, ← hu]

/-- A link that goes down with VIs in use of it that no reset runs for. -/
theorem pcieLinkDown_next (hup : u.rb (linkReg l) 30 = true) (hfree : ∀ v ∈ u.linkVis l, tget none u.vims.resets v = none) :
    exec (.pcieLinkDown dt l) s =
      .next (((u.linkVis l).foldl (fun s v => s.viReset v 5) (u.wb (linkReg l) 30 false)).emitPf 0x0A .fault (l * 2 ^ 24 + (u.linkVis l).length)) := by
  have hall : (u.linkVis l).filter (fun v => (tget none u.vims.resets v).isNone) = u.linkVis l :=
    List.filter_eq_self.mpr fun v hv => by rw [hfree v hv]; rfl
  rw [exec_pcieLinkDown, execPcieLinkDown, ← hu, State.linkDown, hup]
  simp only [Bool.not_true, Bool.false_eq_true, if_false, hall]

theorem pcieLinkUp_shown (hen : u.rb (linkReg l) 31 = true) (hdown : u.rb (linkReg l) 30 = false) :
    exec (.pcieLinkUp dt l) s = .next ((u.wb (linkReg l) 30 true).emitPf 0x0A .ok (l * 2 ^ 24 + 0x01 * 2 ^ 16)) := by
  rw [exec_pcieLinkUp, execPcieLinkUp, ← hu, hen, hdown]
  rfl

end

/-- The VFs without Bus Master Enable, after a change of VF `k`'s bit. -/
def noMasterAfter (k : Nat) (on : Bool) (l : List Nat) : List Nat :=
  if on then l.filter (· != k) else if l.contains k then l else k :: l

theorem noMasterAfter_same (k : Nat) (on : Bool) (l : List Nat) : (noMasterAfter k on l).contains k = !on := by
  cases on with
  | true => simp [noMasterAfter]
  | false =>
    unfold noMasterAfter
    by_cases h : k ∈ l <;> simp [h]

theorem noMasterAfter_ne {k j : Nat} (hj : j ≠ k) (on : Bool) (l : List Nat) : (noMasterAfter k on l).contains j = l.contains j := by
  cases on with
  | true => simp [noMasterAfter, hj]
  | false =>
    unfold noMasterAfter
    by_cases h : k ∈ l <;> simp [h, hj]

theorem busMasterEnableChange_next {s u : State} {dt l vf : Nat} (hu : u = s.tick dt) (on : Bool) :
    exec (.busMasterEnableChange dt l vf on) s = .next (u.mVims fun m => { m with noMaster := noMasterAfter (l * 256 + vf) on m.noMaster }) := by
  rw [exec_busMasterEnableChange, execBusMasterEnableChange, ← hu]
  rfl

/-- Settles O40: the copies stay pending and end through `vimDone`; a change of logging and a harvest complete at once, as the model chooses
(log entry 43); a link's and a function's events reset what `linkVis` and `boundVi` name. -/
theorem instanceCopiesAndLinks : Obligations.InstanceCopiesAndLinks := by
  unfold Obligations.InstanceCopiesAndLinks
  refine ⟨fun dt v p r ext s u x hu hv => ⟨fun h => ?copyOut, fun h => ?copyIn, fun h hoff => ?off, fun h hon hdev hmap => ?on,
      fun d pas y h hd hfit hpas hst => dirtyHarvest_stored hu h hd hfit hpas hst⟩,
    fun dt v hosts o b s u x y hu ho => ⟨fun hop hdev hread hst => viCopyComplete_out hu ho hop hdev hread hst,
      fun hop hdev hread hst => viCopyComplete_in hu ho hop hdev hread hst, fun hop hhost => viCopyComplete_host hu ho hop hhost⟩,
    fun dt l vf v s u hu hbound hv hr _ => ?function, fun dt l v s u hu _ hvis => ⟨?cleared, fun hup hr => ?down⟩,
    fun dt l s u hu => ⟨fun hvis => ?none, fun hvis _ hup => ?noneDown, fun hen hdown => pcieLinkUp_shown hu hen hdown⟩,
    fun dt l vf on s u hu => ?master⟩
  case copyOut =>
    exact ⟨_, copyOut_taken hu h, by rw [vimLater_ops, vimTakes_eq h], vimLater_shown .., (Frame.refl ..).vimLater (by simp) (by simp) ..⟩
  case copyIn =>
    exact ⟨_, copyIn_taken hu h, by rw [vimLater_ops, vimTakes_eq h], vimLater_shown .., (Frame.refl ..).vimLater (by simp) (by simp) ..⟩
  case off =>
    obtain ⟨hnone, hshown⟩ := dirtyOff_shown x v
    exact ⟨_, dirtyCtrl_off hu h hoff, hnone, hshown, ((Frame.refl ..).mVims (by simp) _).wb (by simp) ..⟩
  case on =>
    obtain ⟨harea, hshown, hmem, hhost⟩ := dirtyOn_shown x v p
    exact ⟨_, dirtyCtrl_on hu h hon hdev hmap, harea, hshown, hmem, hhost⟩
  case function =>
    obtain ⟨hstate, -, hrecord⟩ := viReset_shown u v 3 (boundVi_inUse hbound) hr
    exact ⟨_, functionLevelReset_bound hu hbound, hstate, hrecord⟩
  case cleared => rw [vfEnableCleared_next hu, hvis, List.foldl_cons, List.foldl_nil]
  case down => rw [pcieLinkDown_next hu hup (by simpa [hvis] using hr), hvis, List.foldl_cons, List.foldl_nil, List.length_singleton]
  case none => rw [vfEnableCleared_next hu, hvis, List.foldl_nil]
  case noneDown => rw [pcieLinkDown_next hu hup (by simp [hvis]), hvis, List.foldl_nil, List.length_nil, Nat.add_zero]
  case master =>
    refine ⟨_, busMasterEnableChange_next hu on, ?_, (Frame.refl ..).mVims (by simp) _, fun k hk => ?_⟩
    · rw [State.mVims_vims, noMasterAfter_same]
    · rw [State.mVims_vims, noMasterAfter_ne hk]

end Sys2Proof.Machine
end

section
/-!
PROOFS. Region entries, worlds of harts, debug tokens and claims (R511 to R532).
-/
namespace Sys2Proof.Machine

theorem exec_rcEntryCommit (dt c e : Nat) (r : Req) (v : Word) (s : State) : exec (.rcEntryCommit dt r c e v) s = execRcEntryCommit dt r c e v s := rfl
theorem exec_worldHartWrite (dt h : Nat) (machine secure : Bool) (s : State) :
    exec (.worldHartWrite dt h machine secure) s = execWorldHartWrite dt h machine secure s := rfl
theorem exec_debugTokenSubmit (dt : Nat) (r : Req) (s : State) : exec (.debugTokenSubmit dt r) s = execDebugTokenSubmit dt r s := rfl
theorem exec_debugRevoke (dt : Nat) (r : Req) (s : State) : exec (.debugRevoke dt r) s = execDebugRevoke dt r s := rfl
theorem exec_claimTake (dt i : Nat) (r : Req) (s : State) : exec (.claimTake dt r i) s = execClaimTake dt r i s := rfl
theorem exec_claimRelease (dt i : Nat) (r : Req) (s : State) : exec (.claimRelease dt r i) s = execClaimRelease dt r i s := rfl
theorem exec_claimRearm (dt i : Nat) (r : Req) (s : State) : exec (.claimRearm dt r i) s = execClaimRearm dt r i s := rfl

/-! ### Region entries (R514, R515) -/

section
variable (s : State) (c e : Nat)

/-- The words of an entry below the one that is written. -/
def State.rcWords (m : Nat) : Nat := (List.range m).foldl (fun n k => n + s.rd (rcWord c e k) * 2 ^ (32 * k)) 0

theorem rcWords_lt (m : Nat) : s.rcWords c e m < 2 ^ (32 * m) := by
  induction m with
  | zero => simp [State.rcWords]
  | succ m ih =>
    have hsplit : s.rcWords c e (m + 1) = s.rcWords c e m + s.rd (rcWord c e m) * 2 ^ (32 * m) := by
      simp only [State.rcWords, List.range_succ, List.foldl_append, List.foldl_cons, List.foldl_nil]
    have hword : s.rd (rcWord c e m) + 1 ≤ 2 ^ 32 := State.rd_lt ..
    calc s.rcWords c e (m + 1) < 2 ^ (32 * m) + s.rd (rcWord c e m) * 2 ^ (32 * m) := by omega
      _ = (s.rd (rcWord c e m) + 1) * 2 ^ (32 * m) := by ring
      _ ≤ 2 ^ 32 * 2 ^ (32 * m) := Nat.mul_le_mul_right _ hword
      _ = 2 ^ (32 * (m + 1)) := by rw [← pow_add]; ring_nf

/-- Bit 31 of word 7 is bit 255 of the entry. -/
theorem rcWords_en (v : Nat) : bit (s.rcWords c e 7 + v * 2 ^ 224) 255 = bit v 31 := by
  rw [bit, bit, Nat.add_comm, Nat.mul_comm, Nat.testBit_two_pow_mul_add _ (rcWords_lt s c e 7)]
  rfl

theorem setRc_same (x : RcEntry) : (s.setRc c e x).rcEntry c e = x := by
  simp only [State.rcEntry, State.setRc, State.mWorlds_worlds, tget_tset_same]

variable {c e} in
theorem setRc_ne {d f : Nat} (h : c * 64 + e ≠ d * 64 + f) (x : RcEntry) : (s.setRc c e x).rcEntry d f = s.rcEntry d f := by
  simp only [State.rcEntry, State.setRc, State.mWorlds_worlds, tget_tset_ne _ _ h.symm]

end

section
variable {s u : State} {dt c e n : Nat} {r : Req} {v : Word} (hu : u = s.tick dt)
include hu

theorem rcEntryCommit_normal (hr : u.reqSecure r = false) : exec (.rcEntryCommit dt r c e v) s = .next u.worldDenied := by
  rw [exec_rcEntryCommit, execRcEntryCommit, ← hu, hr]
  rfl

variable (hr : u.reqSecure r = true)
include hr

theorem rcEntryCommit_locked (hlock : u.rb 0x00500004 0 = true) :
    exec (.rcEntryCommit dt r c e v) s = .next (u.wf (rcReg c 0) 22 16 Status.denied.code) := by
  simp only [exec_rcEntryCommit, execRcEntryCommit, ← hu, hr, hlock, Bool.not_true, Bool.false_eq_true, if_false, if_true]

variable (hn : n = (List.range 7).foldl (fun n k => n + u.rd (rcWord c e k) * 2 ^ (32 * k)) 0 + v.toNat * 2 ^ 224)
  (hlock : u.rb 0x00500004 0 = false)
include hn hlock

theorem rcEntryCommit_ok (hok : u.rcStatus c e (rcFields n) = .ok) : exec (.rcEntryCommit dt r c e v) s = .next (u.setRc c e (rcFields n)) := by
  simp only [exec_rcEntryCommit, execRcEntryCommit, ← hu, hr, hlock, Bool.not_true, Bool.false_eq_true, if_false, ← hn, hok]

theorem rcEntryCommit_refused {st : Status} (hst : u.rcStatus c e (rcFields n) = st) (hne : st ≠ .ok) :
    exec (.rcEntryCommit dt r c e v) s = .next (u.wf (rcReg c 0) 22 16 st.code) := by
  simp only [exec_rcEntryCommit, execRcEntryCommit, ← hu, hr, hlock, Bool.not_true, Bool.false_eq_true, if_false, ← hn, hst]

end

/-! ### Worlds of harts (R511) -/

theorem mHart_same (s : State) (h : Nat) (f : HartSt → HartSt) : (s.mHart h f).hart h = f (s.hart h) := by
  simp only [State.hart, State.mHart, State.mWorlds_worlds, tmod, tget_tset_same]

section
variable {s u : State} {dt h : Nat} (hu : u = s.tick dt) (hh : h < u.row.appCores)
include hu hh

theorem worldHartWrite_normal (machine secure : Bool) (hw : (u.hart h).normal = true) :
    exec (.worldHartWrite dt h machine secure) s = .next (u.mHart h fun t => { t with trap := 1 }) := by
  rw [exec_worldHartWrite, execWorldHartWrite, ← hu]
  rw [if_neg (by omega), if_pos hw]

variable (secure : Bool) (hw : (u.hart h).normal = false)
include hw

theorem worldHartWrite_machine : exec (.worldHartWrite dt h true secure) s = .next (u.mHart h fun t => { t with normal := !secure }) := by
  rw [exec_worldHartWrite, execWorldHartWrite, ← hu]
  simp only [Nat.not_le.mpr hh, hw, Bool.false_eq_true, if_false, if_true]

theorem worldHartWrite_other : exec (.worldHartWrite dt h false secure) s = .next u := by
  rw [exec_worldHartWrite, execWorldHartWrite, ← hu]
  simp only [Nat.not_le.mpr hh, hw, Bool.false_eq_true, if_false]

end

/-! ### Debug tokens (R527 to R530) -/

theorem freeWords_frame (n : Nat) : ∀ (s : State) (k j : Nat), (∀ i < n, j ≠ k + 4 * i) →
    (s.freeWords k n).rd j = s.rd j ∧ (s.freeWords k n).worlds = s.worlds ∧ (s.freeWords k n).freeCount = s.freeCount + n := by
  induction n with
  | zero => exact fun s k j _ => ⟨rfl, rfl, rfl⟩
  | succ n ih =>
    intro s k j hj
    obtain ⟨hrd, hworlds, hcount⟩ := ih ((s.freeWord).2.wr k (s.freeWord).1.toNat) (k + 4) j fun i hi => by
      have := hj (i + 1) (by omega)
      omega
    refine ⟨?_, ?_, ?_⟩
    · exact hrd.trans (State.rd_wr_ne _ (by simpa using hj 0 (by omega)))
    · exact hworlds
    · refine hcount.trans ?_
      simp only [State.wr_frame, State.freeWord]
      omega

/-- The enables of a token that is accepted. -/
def State.tokenEnables (s : State) (n : Nat) : State := s.mWorlds fun w =>
  { w with tokWorlds := w.tokWorlds ||| bits n 323 320, tokNi := w.tokNi ||| bits n 447 384, tokI := w.tokI ||| bits n 511 448 }

/-- A token's status shown, and an accepted token's enables and nonce. -/
def State.tokenTaken (s : State) : State :=
  let t := s.wf 0x0050003C 22 16 s.tokenStatus.code
  if s.tokenStatus = .ok then (t.tokenEnables s.token).freeWords 0x00500040 4 else t

theorem tokenEnables_shown (s : State) (n : Nat) : (s.tokenEnables n).worlds.tokWorlds = s.worlds.tokWorlds ||| bits n 323 320
    ∧ (s.tokenEnables n).worlds.tokNi = s.worlds.tokNi ||| bits n 447 384 ∧ (s.tokenEnables n).worlds.tokI = s.worlds.tokI ||| bits n 511 448
    ∧ (s.tokenEnables n).freeCount = s.freeCount := by
  unfold State.tokenEnables
  simp only [State.mWorlds_worlds, State.mWorlds_frame, and_self]

theorem tokenStatus_shown (s : State) (st : Status) : (s.wf 0x0050003C 22 16 st.code).rf 0x0050003C 22 16 = st.code := by
  rw [rf_wf_same _ _ _ (by omega) (by omega)]
  exact Nat.mod_eq_of_lt st.code_lt

theorem tokenTaken_shown (s : State) : s.tokenTaken.rf 0x0050003C 22 16 = s.tokenStatus.code := by
  unfold State.tokenTaken
  by_cases h : s.tokenStatus = .ok
  · have hkeep := (freeWords_frame 4 ((s.wf 0x0050003C 22 16 s.tokenStatus.code).tokenEnables s.token) 0x00500040 0x0050003C (by omega)).1
    rw [if_pos h, rf_congr hkeep, State.tokenEnables, rf_congr (State.mWorlds_rd ..), tokenStatus_shown]
  · rw [if_neg h, tokenStatus_shown]

theorem tokenTaken_ok {s : State} (h : s.tokenStatus = .ok) : s.tokenTaken.worlds.tokWorlds = s.worlds.tokWorlds ||| bits s.token 323 320
    ∧ s.tokenTaken.worlds.tokNi = s.worlds.tokNi ||| bits s.token 447 384 ∧ s.tokenTaken.worlds.tokI = s.worlds.tokI ||| bits s.token 511 448
    ∧ s.tokenTaken.freeCount = s.freeCount + 4 := by
  have hok : s.tokenTaken = ((s.wf 0x0050003C 22 16 s.tokenStatus.code).tokenEnables s.token).freeWords 0x00500040 4 := if_pos h
  rw [hok]
  generalize 0x00500040 = k
  generalize 0x0050003C = j
  obtain ⟨-, hworlds, hcount⟩ := freeWords_frame 4 ((s.wf j 22 16 s.tokenStatus.code).tokenEnables s.token) k (k + 16) (by omega)
  obtain ⟨hw, hni, hi, hfree⟩ := tokenEnables_shown (s.wf j 22 16 s.tokenStatus.code) s.token
  have hkeep : (s.wf j 22 16 s.tokenStatus.code).worlds = s.worlds ∧ (s.wf j 22 16 s.tokenStatus.code).freeCount = s.freeCount := by
    simp only [State.wf_frame, and_self]
  rw [hworlds, hcount, hw, hni, hi, hfree, hkeep.1, hkeep.2]
  exact ⟨rfl, rfl, rfl, rfl⟩

theorem tokenTaken_refused {s : State} (h : s.tokenStatus ≠ .ok) : s.tokenTaken = s.wf 0x0050003C 22 16 s.tokenStatus.code :=
  if_neg h

section
variable {s u : State} {dt : Nat} {r : Req} (hu : u = s.tick dt) (hpf : pathWin r.path = pfWin)
include hu hpf

theorem debugTokenSubmit_taken (hr : u.reqSecure r = true ∨ dbgPath r = true) {d : Nat}
    (hd : d = (if u.tokenStatus = .ok then bits u.token 323 320 * 2 ^ 28 else 0) + bits u.token 63 48) :
    exec (.debugTokenSubmit dt r) s = .next ((u.tokenTaken.emit secWin 0x23 u.tokenStatus 0 d).emitPf 0x23 u.tokenStatus d) := by
  rw [exec_debugTokenSubmit, execDebugTokenSubmit, ← hu, hd]
  dsimp only
  rw [if_neg (by simp [hpf]), if_neg (by rcases hr with h | h <;> simp [h])]
  simp only [beq_iff_eq]
  rfl

theorem debugTokenSubmit_denied (hr : u.reqSecure r = false) (hd : dbgPath r = false) : exec (.debugTokenSubmit dt r) s = .next u.worldDenied := by
  rw [exec_debugTokenSubmit, execDebugTokenSubmit, ← hu]
  dsimp only
  rw [if_neg (by simp [hpf]), if_pos (by simp [hr, hd])]

end

theorem debugRevoke_next {s u : State} {dt : Nat} {r : Req} (hu : u = s.tick dt) (hvi : ∀ x, r.path ≠ .vi x) :
    exec (.debugRevoke dt r) s = .next (if u.reqSecure r then u.mWorlds fun w => { w with tokWorlds := 0, tokNi := 0, tokI := 0 } else u.worldDenied) := by
  rw [exec_debugRevoke, execDebugRevoke, ← hu]
  obtain ⟨path, secure⟩ := r
  cases path with
  | vi x => exact absurd rfl (hvi x)
  | _ => exact apply_ite Host.Outcome.next .. |>.symm

/-! ### Claims (R531, R532) -/

section
variable {s : State} {r : Req} {i : Nat}

theorem claimCmd_bad (hr : s.reqSecure r = true) (hi : i < s.row.unitCount) (next : Nat) :
    s.claimCmd r i true next = s.wf 0x00500204 22 16 Status.badState.code := by
  simp only [State.claimCmd, hr, if_true, if_neg (Nat.not_le.mpr hi), reduceCtorEq, if_false]

theorem claimCmd_done (hr : s.reqSecure r = true) (hi : i < s.row.unitCount) (next : Nat) : s.claimCmd r i false next =
    (s.wf 0x00500204 22 16 Status.ok.code).mWorlds fun w => { w with claims := tset {} w.claims i ⟨next⟩ } := by
  simp only [State.claimCmd, hr, if_true, if_neg (Nat.not_le.mpr hi), Bool.false_eq_true, if_false]

theorem claimCmd_denied (hr : s.reqSecure r = false) (hvi : ∀ x, r.path ≠ .vi x) (bad : Bool) (next : Nat) :
    s.claimCmd r i bad next = s.worldDenied := by
  simp only [State.claimCmd, hr, Bool.false_eq_true, if_false]

theorem claimSet_shown (s : State) (i next : Nat) (t : State)
    (ht : t = (s.wf 0x00500204 22 16 Status.ok.code).mWorlds fun w => { w with claims := tset {} w.claims i ⟨next⟩ }) :
    (tget {} t.worlds.claims i).state = next ∧ t.rf 0x00500204 22 16 = Status.ok.code
      ∧ (∀ j, j ≠ i → tget {} t.worlds.claims j = tget {} s.worlds.claims j) ∧ Frame [.worlds] [0x00500204] s t := by
  subst ht
  refine ⟨?_, ?_, fun j hj => ?_, ((Frame.refl ..).wf (by simp) ..).mWorlds (by simp) _⟩
  · simp only [State.mWorlds_worlds, tget_tset_same]
  · rw [rf_congr (State.mWorlds_rd ..), rf_wf_same _ _ _ (by omega) (by omega)]
    exact Nat.mod_eq_of_lt Status.ok.code_lt
  · simp only [State.mWorlds_worlds, tget_tset_ne _ _ hj, State.wf_frame]

end

/-- Settles O42: an entry is put into force by one write of the table (`setRc`), a hart's world by one of its record; a token's fate is
`tokenTaken`, and every claim command is `claimCmd`. A hart in the secure world but not in machine mode keeps its world, as the model chooses
(log entry 45). -/
theorem worldsAndClaims : Obligations.WorldsAndClaims := by
  unfold Obligations.WorldsAndClaims
  refine ⟨fun dt c e n r v s u hu hn => ⟨fun hr hlock hok => ?commit, fun st hr hlock hst hne => rcEntryCommit_refused hu hr hn hlock hst hne,
      fun hr hlock => rcEntryCommit_locked hu hr hlock, fun hr => rcEntryCommit_normal hu hr⟩,
    fun dt h machine secure s u hu hh => ⟨fun hw => ?normal, fun hw hm => ?secure, fun hw hm => ?other⟩,
    fun dt d st r s u hu hpf hr hst hd => ?token, fun dt r s u hu hpf hr hd => debugTokenSubmit_denied hu hpf hr hd,
    fun dt r s u hu hvi => ⟨fun hr => ?revoke, fun hr => by rw [debugRevoke_next hu hvi, if_neg (by simp [hr])]⟩,
    fun dt i r s u hu hr hi => ⟨fun hfree => ?take, fun hcov => ?covered, fun hheld => ?release, fun hlost => ?rearm⟩,
    fun dt i r s u hu hr hvi => ?denied⟩
  case commit =>
    refine ⟨_, rcEntryCommit_ok hu hr hn hlock hok, setRc_same .., by rw [setRc_same]; rfl, by rw [setRc_same]; rfl, ?_,
      fun d f hne => setRc_ne u hne _, (Frame.refl ..).mWorlds (by simp) _⟩
    rw [setRc_same, hn]
    exact rcWords_en u c e v.toNat
  case normal =>
    exact ⟨_, worldHartWrite_normal hu hh _ _ hw, by rw [mHart_same], by rw [mHart_same]; exact hw, (Frame.refl ..).mWorlds (by simp) _⟩
  case secure =>
    subst hm
    exact ⟨_, worldHartWrite_machine hu hh _ hw, by rw [mHart_same], by rw [mHart_same], (Frame.refl ..).mWorlds (by simp) _⟩
  case other => rw [hm, worldHartWrite_other hu hh _ hw]
  case token =>
    subst hst
    exact ⟨_, debugTokenSubmit_taken hu hpf hr hd, tokenTaken_shown u, fun hok => tokenTaken_ok hok,
      fun hne => by rw [tokenTaken_refused hne]; exact (Frame.refl ..).wf (by simp) ..⟩
  case revoke =>
    refine ⟨_, by rw [debugRevoke_next hu hvi, if_pos hr], ?_, ?_, ?_, (Frame.refl ..).mWorlds (by simp) _⟩ <;> rw [State.mWorlds_worlds]
  case take =>
    obtain ⟨hstate, hshown, hother, hframe⟩ := claimSet_shown u i 1 _ rfl
    exact ⟨_, by rw [exec_claimTake, execClaimTake, ← hu, hfree, claimCmd_done hr hi], hstate, hshown, hother, hframe⟩
  case covered => rw [exec_claimTake, execClaimTake, ← hu, hcov, claimCmd_bad hr hi]
  case release =>
    obtain ⟨hstate, hshown, -, hframe⟩ := claimSet_shown u i 0 _ rfl
    exact ⟨_, by rw [exec_claimRelease, execClaimRelease, ← hu, beq_eq_false_iff_ne.mpr hheld, claimCmd_done hr hi], hstate, hshown, hframe⟩
  case rearm =>
    obtain ⟨hstate, hshown, -, hframe⟩ := claimSet_shown u i 1 _ rfl
    refine ⟨_, ?_, hstate, hshown, hframe⟩
    rw [exec_claimRearm, execClaimRearm, ← hu, hlost]
    exact congrArg _ (claimCmd_done hr hi 1)
  case denied =>
    rw [exec_claimTake, exec_claimRelease, exec_claimRearm, execClaimTake, execClaimRelease, execClaimRearm, ← hu]
    simp only [claimCmd_denied hr hvi, and_self]

end Sys2Proof.Machine
end

section
/-!
PROOFS. Recovery of domains and rails, and restarts of the Pip lane (R607, R608, R615, R619).
-/
namespace Sys2Proof.Machine

theorem exec_domainFaultRetry (dt d : Nat) (s : State) : exec (.domainFaultRetry dt d) s = execDomainFaultRetry dt d s := rfl
theorem exec_railRecovery (dt rail : Nat) (s : State) : exec (.railRecovery dt rail) s = execRailRecovery dt rail s := rfl
theorem exec_pipBeatMissed (dt : Nat) (s : State) : exec (.pipBeatMissed dt) s = execPipBeatMissed dt s := rfl
theorem exec_pipLockstepMismatch (dt : Nat) (store : Bool) (s : State) : exec (.pipLockstepMismatch dt store) s = execPipLockstepMismatch dt store s := rfl
theorem exec_pipReloadDone (dt : Nat) (s : State) : exec (.pipReloadDone dt) s = execPipReloadDone dt s := rfl

/-! ### Units of a kind -/

theorem kindIndex_at {kind i u : Nat} : ∀ {l : List (Nat × Nat)} {first : Nat}, kindIndex l first kind i = some u → first ≤ u ∧ kindAt l first u = some (kind, i)
  | [], _, h => by cases h
  | (k, n) :: l, first, h => by
    unfold kindIndex at h
    split at h
    next hk =>
      split at h
      next hi =>
        obtain rfl := Option.some.inj h
        exact ⟨by omega, by rw [kindAt, if_pos ⟨by omega, by omega⟩, hk, Nat.add_sub_cancel_left]⟩
      next => cases h
    next =>
      obtain ⟨hle, hat⟩ := kindIndex_at h
      exact ⟨by omega, by rw [kindAt, if_neg (by omega), hat]⟩

theorem unitIndex_at {s : State} {kind i u : Nat} (h : s.unitIndex kind i = some u) : s.unitAt u = some (kind, i) := by
  obtain ⟨hle, hat⟩ := kindIndex_at h
  rw [State.unitAt, if_neg (by omega), hat]

theorem kindAt_lt {k i u : Nat} : ∀ {l : List (Nat × Nat)} {first : Nat}, kindAt l first u = some (k, i) → u < l.foldl (fun n x => n + x.2) first
  | [], _, h => by cases h
  | (k', n) :: l, first, h => by
    unfold kindAt at h
    rw [List.foldl_cons]
    split at h
    next hin =>
      have hle : first + n ≤ l.foldl (fun n x => n + x.2) (first + n) := by
        rw [foldl_add_eq]
        omega
      exact Nat.lt_of_lt_of_le hin.2 hle
    next => exact kindAt_lt h

theorem unitAt_lt {s : State} {k i u : Nat} (h : s.unitAt u = some (k, i)) (hk : k ≠ 1) : u < s.row.unitCount := by
  unfold State.unitAt at h
  split at h
  · exact absurd (Prod.mk.inj (Option.some.inj h)).1.symm hk
  · have hlt := kindAt_lt h
    rw [foldl_add_eq] at hlt
    rw [VariantRow.unitCount, foldl_add_eq]
    omega

theorem unitAt_congr {s t : State} (h : t.variant = s.variant) (u : Nat) : t.unitAt u = s.unitAt u := by simp only [State.unitAt, State.row, h]

theorem pipUnit_congr {s t : State} (h : t.variant = s.variant) : t.pipUnit = s.pipUnit := by simp only [State.pipUnit, State.unitIndex, State.row, h]

/-! ### Units left OFFLINE (R607, R608) -/

/-- A unit is given up and reads OFFLINE. -/
def State.unitGone (s : State) (k : Nat) : Prop := (s.unit k).gaveUp = true ∧ (s.unit k).health = 4

/-- A unit left OFFLINE. -/
def State.offlineUnit (s : State) (k : Nat) : State := (s.mUnit k fun x => { x with gaveUp := true }).setHealth k 4

theorem offlineUnit_gone (s : State) (k : Nat) : (s.offlineUnit k).unitGone k := by
  rw [State.unitGone, State.offlineUnit, setHealth_unit, if_pos rfl, mUnit_unit, if_pos rfl]
  exact ⟨rfl, rfl⟩

theorem offlineUnit_keeps {s : State} {k : Nat} (h : s.unitGone k) (j : Nat) : (s.offlineUnit j).unitGone k := by
  by_cases hj : k = j
  · exact hj ▸ offlineUnit_gone s k
  · rw [State.unitGone, State.offlineUnit, setHealth_unit, if_neg hj, mUnit_unit, if_neg hj]
    exact h

theorem domainGone_keeps {s : State} {k : Nat} (h : s.unitGone k) (d : Nat) : (s.domainGone d).unitGone k :=
  List.foldlRecOn _ State.offlineUnit (motive := fun t : State => t.unitGone k) h fun _ ht j _ => offlineUnit_keeps ht j

theorem domainGone_gone (s : State) {d k : Nat} (hk : k ∈ s.domainUnits d) : (s.domainGone d).unitGone k :=
  foldl_each (f := State.offlineUnit) (P := fun k t => t.unitGone k) offlineUnit_gone (fun _ j _ _ h => offlineUnit_keeps h j) _ s k hk

theorem offlineUnit_variant (s : State) (k : Nat) : (s.offlineUnit k).variant = s.variant := by
  exact (congrArg (·.1.2.2) ((setHealth_steady _ k 4).trans (mUnit_steady s k _)) :)

theorem domainGone_variant (s : State) (d : Nat) : (s.domainGone d).variant = s.variant :=
  foldl_keeps State.variant (f := State.offlineUnit) offlineUnit_variant _ s

theorem domainsGone_gone {d k : Nat} : ∀ (ds : List Nat) (s : State), s.unitGone k ∨ d ∈ ds ∧ k ∈ s.domainUnits d → (ds.foldl State.domainGone s).unitGone k
  | [], _, h => h.resolve_right fun ⟨hd, _⟩ => by simp at hd
  | e :: ds, s, h => by
    refine domainsGone_gone (d := d) ds (s.domainGone e) ?_
    rcases h with h | ⟨hd, hk⟩
    · exact .inl (domainGone_keeps h e)
    · rcases List.mem_cons.mp hd with rfl | hd
      · exact .inl (domainGone_gone s hk)
      · exact .inr ⟨hd, by rw [domainUnits_congr (domainGone_variant s e)]; exact hk⟩

/-! ### A domain raised again (R608) -/

/-- The fault of a domain cleared, and the domain in the queue of ramps. -/
def State.domainRetry (s : State) (d : Nat) : State := (s.wb (domainReg d 4) 26 false).domainQueue d

theorem domainQueue_waits (s : State) (d : Nat) : d ∈ (s.domainQueue d).power.waiting ∨ ∃ r ∈ (s.domainQueue d).power.raising, r.d = d := by
  unfold State.domainQueue
  split
  next h => simpa only [Bool.or_eq_true, List.contains_iff_mem, List.any_eq_true, beq_iff_eq] using h
  next => exact .inl (by simp only [State.mPower_power, List.mem_append, List.mem_singleton, or_true])

theorem Frame.domainQueue {s t : State} {ps : List Part} {ks : List Nat} (h : Frame ps ks s t) (hp : Part.power ∈ ps) (d : Nat) :
    Frame ps ks s (t.domainQueue d) := by
  unfold State.domainQueue
  split
  · exact h
  · exact h.mPower hp _

theorem domainQueue_rd (s : State) (d k : Nat) : (s.domainQueue d).rd k = s.rd k := by
  unfold State.domainQueue
  split
  · rfl
  · exact State.mPower_rd ..

section
variable {s u : State} {dt d x : Nat} {older : List Nat} (hu : u = s.tick dt) (hx : tget [] u.power.domFaults d = x :: older) (hup : u.huskUp = true)
  (hf : u.rb (domainReg d 4) 26 = true)
include hu hx hup hf

theorem domainFaultRetry_early (hnow : u.now < x + 10000000) : exec (.domainFaultRetry dt d) s = .next u := by
  simp only [exec_domainFaultRetry, execDomainFaultRetry, ← hu, hx, hup, hf, hnow, or_true, if_true]

variable (hnow : x + 10000000 ≤ u.now)
include hnow

theorem domainFaultRetry_second (hold : (older.any fun o => decide (x < o + u.restartWin)) = true) :
    exec (.domainFaultRetry dt d) s = .next (u.domainGone d) := by
  simp only [exec_domainFaultRetry, execDomainFaultRetry, ← hu, hx, hup, hf, Nat.not_lt.mpr hnow, Bool.not_true, Bool.false_eq_true, or_self, if_false, hold, if_true]

theorem domainFaultRetry_raised (hold : (older.any fun o => decide (x < o + u.restartWin)) = false) :
    exec (.domainFaultRetry dt d) s = .next (((u.domainRetry d).domainRestart d).restartNote 4 (u.domainFirst d)) := by
  simp only [exec_domainFaultRetry, execDomainFaultRetry, ← hu, hx, hup, hf, Nat.not_lt.mpr hnow, Bool.not_true, Bool.false_eq_true, or_self, if_false, hold]
  rfl

end

section
variable {s u : State} {dt rail x : Nat} {older : List Nat} (hu : u = s.tick dt) (hx : tget [] u.power.railFaults rail = x :: older) (hup : u.huskUp = true)
  (hf : u.rb (railReg rail 8) 31 = true)
include hu hx hup hf

theorem railRecovery_early (hnow : u.now < x + 100000000) : exec (.railRecovery dt rail) s = .next u := by
  simp only [exec_railRecovery, execRailRecovery, ← hu, hx, hup, hf, hnow, or_true, if_true]

variable (hnow : x + 100000000 ≤ u.now)
include hnow

theorem railRecovery_second (hold : (older.any fun o => decide (x < o + u.restartWin)) = true) :
    exec (.railRecovery dt rail) s = .next (((railDomains rail).filter fun d => !u.domainAbsent d).foldl State.domainGone u) := by
  simp only [exec_railRecovery, execRailRecovery, ← hu, hx, hup, hf, Nat.not_lt.mpr hnow, Bool.not_true, Bool.false_eq_true, or_self, if_false, hold, if_true]

theorem railRecovery_raised (hold : (older.any fun o => decide (x < o + u.restartWin)) = false) {ds : List Nat} {v : State}
    (hds : ds = (railDomains rail).filter fun d => !u.domainAbsent d)
    (hv : v = ds.foldl (fun s d => (s.domainSettle d).domainRestart d) (u.railClear rail)) :
    exec (.railRecovery dt rail) s = .next (v.restartNote 5 (v.domainFirst (ds.headD 0))) := by
  simp only [exec_railRecovery, execRailRecovery, ← hu, hx, hup, hf, Nat.not_lt.mpr hnow, Bool.not_true, Bool.false_eq_true, or_self, if_false, hold, ← hds, ← hv]

end

/-! ### The Pip lane reset (R615, R619) -/

/-- The count of restarts moved on, and RUNNING at 0. -/
def State.pipDown (s : State) : State := (s.satf 0x00300020 7 0 1).wb 0x00300020 31 false

theorem pipReset_eq (s : State) : s.pipReset = s.pipDown.unitReset s.pipUnit := by rw [State.pipReset, State.pipDown]

theorem pipDown_shown (s : State) : s.pipDown.rb 0x00300020 31 = false ∧ s.pipDown.rf 0x00300020 7 0 = min 255 (s.rf 0x00300020 7 0 + 1)
    ∧ s.pipDown.rb 0x00300020 30 = s.rb 0x00300020 30 := by
  unfold State.pipDown
  refine ⟨rb_wb_same _ _ _ (by decide), ?_, ?_⟩
  · rw [rf_wb_ne _ _ _ (by decide) (by decide), rf_satf _ _ (by decide) (by decide), Nat.min_comm]
    norm_num
  · rw [rb_wb_ne _ _ _ (by decide) (by decide), State.satf, rb_wf_ne _ _ _ (by decide) (by decide) (by decide)]

theorem Frame.pipDown {s t : State} {ps : List Part} {ks : List Nat} (h : Frame ps ks s t) (hk : 0x00300020 ∈ ks) : Frame ps ks s t.pipDown :=
  (h.satf hk ..).wb hk ..

/-- The lane's unit holds nothing that a reset abandons. -/
theorem unitAbandon_pip (s : State) {k : Nat} (h : s.unitAt k = some (0x13, 0) ∨ k = 0) : s.unitAbandon k = s := by
  rcases h with h | rfl
  · simp only [State.unitAbandon, h]
  · rfl

theorem pipUnit_kind (s : State) : s.unitAt s.pipUnit = some (0x13, 0) ∨ s.pipUnit = 0 := by
  unfold State.pipUnit
  cases h : s.unitIndex 0x13 0 with
  | none => exact .inr rfl
  | some k => exact .inl (unitIndex_at h)

theorem pipReset_shown (s : State) : (∀ k, k < 0x00410000 → s.pipReset.rd k = s.pipDown.rd k) ∧ s.pipReset.husk = s.husk
    ∧ (s.pipReset.unit s.pipUnit).resetBusy = true := by
  have hkind : s.pipDown.unitAt s.pipUnit = some (0x13, 0) ∨ s.pipUnit = 0 := by
    rw [unitAt_congr ((Frame.refl s [] [0x00300020]).pipDown (by simp)).variant]
    exact pipUnit_kind s
  rw [pipReset_eq]
  refine ⟨fun k hk => ?_, ?_, by rw [unitReset_unit]⟩
  · rw [State.unitReset, unitAbandon_pip _ hkind, (setHealth_keeps ..).1 k hk]
    exact State.mPods_rd ..
  · rw [State.unitReset, unitAbandon_pip _ hkind]
    refine (congrArg (·.2.2.2.1) ((setHealth_steady _ _ 3).trans (mUnit_steady ..)) :).trans ?_
    simp only [State.steady, State.pipDown, State.wb_frame, State.satf_frame]

theorem huskEvent_keeps (s : State) (kind st detail : Nat) :
    (∀ k, k < 0x00410000 → (s.huskEvent kind st detail).rd k = s.rd k) ∧ (s.huskEvent kind st detail).husk = s.husk
      ∧ (s.huskEvent kind st detail).variant = s.variant := by
  have hcalm : (s.huskEvent kind st detail).calm true = s.calm true := by simp only [State.huskEvent, emitAt_calm]
  exact ⟨fun k hk => (emitAt_rd_below _ _ _ _ _ _ _ hk).trans (emitAt_rd_below _ _ _ _ _ _ _ hk), calm_husk hcalm, calm_variant hcalm⟩

/-! ### A lost lane in degraded mode (R615) -/

/-- The loss of the lane noted, with the outputs stopped where it was lost before within 60 s. -/
def State.pipNoted (s : State) : State :=
  (s.mHusk fun h => { h with pipLost := s.now :: h.pipLost, stopped := h.stopped || s.husk.pipLost.any fun t => decide (s.now < t + 60000000000) }).pipDown

theorem pipNoted_husk (s : State) : s.pipNoted.husk =
    { s.husk with pipLost := s.now :: s.husk.pipLost, stopped := s.husk.stopped || s.husk.pipLost.any fun t => decide (s.now < t + 60000000000) } := by
  simp only [State.pipNoted, State.pipDown, State.wb_frame, State.satf_frame, State.mHusk_husk]

theorem pipNoted_shown (s : State) : s.pipNoted.rb 0x00300020 31 = false ∧ s.pipNoted.rf 0x00300020 7 0 = min 255 (s.rf 0x00300020 7 0 + 1) := by
  unfold State.pipNoted
  obtain ⟨hrun, hcount, -⟩ := pipDown_shown (s.mHusk fun h =>
    { h with pipLost := s.now :: h.pipLost, stopped := h.stopped || s.husk.pipLost.any fun t => decide (s.now < t + 60000000000) })
  rw [hrun, hcount, rf_congr (State.mHusk_rd ..)]
  exact ⟨rfl, rfl⟩

theorem pipBeatMissed_next {s u : State} {dt : Nat} (hu : u = s.tick dt) (hd : u.husk.degraded = true) : exec (.pipBeatMissed dt) s =
    .next (if (u.husk.pipLost.any fun t => decide (u.now < t + 60000000000)) = true then
        (u.pipNoted.unitReset u.pipUnit).degradedOuts.foldl (fun s p => if s.pipeState p = 0 then s else s.pipeRelease p) (u.pipNoted.unitReset u.pipUnit)
      else u.pipNoted.unitReset u.pipUnit) := by
  have hreset : (u.mHusk fun h =>
      { h with pipLost := u.now :: h.pipLost, stopped := h.stopped || u.husk.pipLost.any fun t => decide (u.now < t + 60000000000) }).pipReset
      = u.pipNoted.unitReset u.pipUnit := by
    rw [pipReset_eq, pipUnit_congr (s := u) (by simp only [State.mHusk_frame])]
    rfl
  rw [exec_pipBeatMissed, execPipBeatMissed, ← hu]
  simp only [hd, Bool.not_true, Bool.false_eq_true, if_false, hreset]

/-! ### A mismatch of the lane (R619) -/

/-- The reload of the store begins. -/
def State.reloadBegin (s : State) (store : Bool) : State :=
  if store then (s.wb 0x00300020 30 true).mHusk fun h => { h with reload := true } else s

theorem reloadBegin_shown (s : State) (store : Bool) : (s.reloadBegin store).rb 0x00300020 31 = s.rb 0x00300020 31
    ∧ (s.reloadBegin store).rf 0x00300020 7 0 = s.rf 0x00300020 7 0 ∧ (s.reloadBegin store).rb 0x00300020 30 = (store || s.rb 0x00300020 30)
    ∧ (s.reloadBegin store).husk.reload = (store || s.husk.reload) ∧ (s.reloadBegin store).pods = s.pods := by
  cases store with
  | false => exact ⟨rfl, rfl, (Bool.false_or _).symm, (Bool.false_or _).symm, rfl⟩
  | true =>
    unfold State.reloadBegin
    rw [if_pos rfl, rb_congr (State.mHusk_rd ..), rf_congr (State.mHusk_rd ..), rb_congr (State.mHusk_rd ..), rb_wb_ne _ _ _ (by decide) (by decide),
      rf_wb_ne _ _ _ (by decide) (by decide), rb_wb_same _ _ _ (by decide)]
    simp only [State.mHusk_husk, State.mHusk_frame, State.wb_frame, Bool.true_or, and_self]

/-- The mismatch reported. -/
def State.mismatchNoted (s : State) (store : Bool) : State := s.huskEvent 0xD3 Status.fault.code ((if store then 2 else 1) * 2 ^ 28)

theorem pipLockstepMismatch_next {s u : State} {dt : Nat} (hu : u = s.tick dt) (hup : u.huskUp = true) (store : Bool) :
    exec (.pipLockstepMismatch dt store) s =
      .next (((u.mismatchNoted (store || u.pipStoreBad)).pipReset).reloadBegin (store || u.pipStoreBad)) := by
  rw [exec_pipLockstepMismatch, execPipLockstepMismatch, ← hu]
  simp only [hup, Bool.not_true, Bool.false_eq_true, if_false]
  rfl

theorem pipLockstepMismatch_down {s u : State} {dt : Nat} (hu : u = s.tick dt) (hup : u.huskUp = false) (store : Bool) :
    exec (.pipLockstepMismatch dt store) s = .next u := by
  rw [exec_pipLockstepMismatch, execPipLockstepMismatch, ← hu]
  simp only [hup, Bool.not_false, if_true]

/-! ### A reload that ends (R619) -/

/-- A record of the active slot, with its entry's version. -/
def State.activeRecord (s : State) (kind : Nat) : Option (Nat × Bytes) :=
  match imgEntry s.activeRead kind with
  | some e => (match readRecord s.activeRead e with | .ok b => some (deVersion e, b) | .error _ => none)
  | none => none

/-- What a reload leaves: the firmware, the sprites, and a store without errors. -/
def State.reloaded (s : State) (ver : Nat) (sprites : Bytes) : State :=
  let s := ((s.loadFw 0x13 ver).divergedSet).mPip fun q => { q with sprites := sprites }
  let s := (s.mHusk fun h => { h with reload := false }).wb 0x00300020 30 false
  let s := s.mSeed fun m => { m with poison := tcut m.poison (2 ^ 58) (2 ^ 58 + 3 * 2 ^ 20) }
  s.wf 0x00300020 15 8 (min 64 s.iconCount)

theorem execPipReloadDone_eq (dt : Nat) (s : State) : execPipReloadDone dt s =
    if !(s.tick dt).husk.reload then .next (s.tick dt)
    else
      match (s.tick dt).activeRecord 0x03, (s.tick dt).activeRecord 0x05 with
      | some (ver, _), some (_, b) => .next ((s.tick dt).reloaded ver b)
      | _, _ => .next (s.tick dt) := rfl

section
variable {s u : State} {dt : Nat} (hu : u = s.tick dt)
include hu

theorem pipReloadDone_none (hr : u.husk.reload = false) : exec (.pipReloadDone dt) s = .next u := by
  rw [exec_pipReloadDone, execPipReloadDone_eq, ← hu, hr]
  rfl

theorem pipReloadDone_good (hr : u.husk.reload = true) {ver : Nat} {a b : Bytes} {n : Nat} (h3 : u.activeRecord 0x03 = some (ver, a))
    (h5 : u.activeRecord 0x05 = some (n, b)) : exec (.pipReloadDone dt) s = .next (u.reloaded ver b) := by
  rw [exec_pipReloadDone, execPipReloadDone_eq, ← hu, hr, h3, h5]
  rfl

theorem pipReloadDone_bad (hbad : u.activeRecord 0x03 = none ∨ u.activeRecord 0x05 = none) : exec (.pipReloadDone dt) s = .next u := by
  rw [exec_pipReloadDone, execPipReloadDone_eq, ← hu]
  split
  · rfl
  · rcases hbad with h | h
    · rw [h]
    · rw [h]
      rcases u.activeRecord 0x03 with _ | ⟨_, _⟩ <;> rfl

end

section
variable (s : State)

theorem activeRecord_good {kind e : Nat} {b : Bytes} (he : imgEntry s.activeRead kind = some e) (hb : readRecord s.activeRead e = .ok b) :
    s.activeRecord kind = some (deVersion e, b) := by
  simp only [State.activeRecord, he, hb]

/-- One unit's firmware, as `loadFw` sets it. -/
def State.fwLoaded (s : State) (kind ver u : Nat) : State :=
  match s.unitAt u with
  | some (k, _) =>
    if k = kind then
      (s.mUnit u fun x => { x with slotActive := 1, slotPending := 0, verA := ver, verB := 0, fw := ver }).mStart fun t =>
        { t with ran := tset 0 t.ran u 0, live := tset 0 (tset 0 t.live (u * 4 + 1) 0) (u * 4 + 2) 0 }
    else s
  | none => s

theorem mStart_unit (f : StartSt → StartSt) (j : Nat) : (s.mStart f).unit j = s.unit j := by simp only [State.unit, State.mStart_frame]

theorem fwLoaded_unit (kind ver u j : Nat) : (s.fwLoaded kind ver u).unit j =
    if j = u ∧ (s.unitAt u).map Prod.fst = some kind then { s.unit u with slotActive := 1, slotPending := 0, verA := ver, verB := 0, fw := ver } else s.unit j := by
  unfold State.fwLoaded
  rcases s.unitAt u with _ | ⟨k, i⟩
  · simp
  · dsimp only
    by_cases hk : k = kind
    · simp only [hk, if_true, mStart_unit, mUnit_unit, Option.map_some, and_true]
    · simp only [hk, if_false, Option.map_some, Option.some.injEq, and_false]

theorem fwLoaded_variant (kind ver u : Nat) : (s.fwLoaded kind ver u).variant = s.variant := by
  unfold State.fwLoaded
  split
  · split
    · simp only [State.mStart_frame, State.mUnit, State.mPods_frame]
    · rfl
  · rfl

/-- Every unit of the kind runs the firmware from slot A. -/
theorem loadFw_unit {kind i k : Nat} (ver : Nat) (hk : s.unitAt k = some (kind, i)) (hdev : kind ≠ 1) :
    ((s.loadFw kind ver).unit k).slotActive = 1 ∧ ((s.loadFw kind ver).unit k).fw = ver := by
  have hfold : s.loadFw kind ver = (List.range s.row.unitCount).foldl (fun s u => s.fwLoaded kind ver u) s := rfl
  have hloop : ∀ (l : List Nat) (t : State), t.unitAt k = some (kind, i) →
      (k ∈ l ∨ (t.unit k).slotActive = 1 ∧ (t.unit k).fw = ver) →
      ((l.foldl (fun s u => s.fwLoaded kind ver u) t).unit k).slotActive = 1 ∧ ((l.foldl (fun s u => s.fwLoaded kind ver u) t).unit k).fw = ver := by
    intro l
    induction l with
    | nil => exact fun t _ h => h.resolve_left (by simp)
    | cons u l ih =>
      intro t ht h
      refine ih _ ((unitAt_congr (fwLoaded_variant t kind ver u) k).trans ht) ?_
      rw [fwLoaded_unit]
      by_cases hku : k = u
      · subst hku
        simp [ht]
      · rcases h with h | h
        · exact .inl ((List.mem_cons.mp h).resolve_left hku)
        · exact .inr (by simpa [hku] using h)
  rw [hfold]
  exact hloop _ s hk (.inl (List.mem_range.mpr (unitAt_lt hk hdev)))

end

theorem reloaded_shown (s : State) (ver : Nat) (b : Bytes) : (s.reloaded ver b).pip.sprites = b ∧ (s.reloaded ver b).husk.reload = false
    ∧ (s.reloaded ver b).rb 0x00300020 30 = false ∧ (s.reloaded ver b).rf 0x00300020 15 8 = min 64 (s.reloaded ver b).iconCount
    ∧ ∀ k, (s.reloaded ver b).unit k = (s.loadFw 0x13 ver).unit k := by
  unfold State.reloaded
  generalize s.loadFw 0x13 ver = l
  refine ⟨?_, ?_, ?_, ?_, fun k => ?_⟩
  · simp only [State.wf_frame, State.mSeed_frame, State.wb_frame, State.mHusk_frame, State.mPip_pip]
  · simp only [State.wf_frame, State.mSeed_frame, State.wb_frame, State.mHusk_husk]
  · rw [rb_wf_ne _ _ _ (by decide) (by decide) (by decide), rb_congr (State.mSeed_rd ..), rb_wb_same _ _ _ (by decide)]
  · rw [rf_wf_same _ _ _ (by decide) (by decide)]
    simp only [State.iconCount, State.wf_frame]
    exact Nat.mod_eq_of_lt (by omega)
  · simp only [State.unit, State.wf_frame, State.mSeed_frame, State.wb_frame, State.mHusk_frame, State.mPip_frame, State.divergedSet]

/-- Settles O49: a domain's or a rail's retry clears the fault and queues the domain, or leaves its units OFFLINE; the lane's reset is `pipReset`,
which holds nothing that a reset abandons. The unit that an event of a domain names is its first, as the model chooses (log entry 65). -/
theorem domainAndPipRecovery : Obligations.DomainAndPipRecovery := by
  unfold Obligations.DomainAndPipRecovery
  refine ⟨fun dt d x older s u hu hx hup hf => ⟨fun hnow => domainFaultRetry_early hu hx hup hf hnow, fun hnow hold => ?gone, fun hnow hold => ?raised⟩,
    fun dt rail x older ds s u hu hx hup hf hds => ⟨fun hnow => railRecovery_early hu hx hup hf hnow, fun hnow hold => ?railGone, fun hnow hold => ?railRaised⟩,
    fun dt s u hu hd => ?beat, fun dt s u hu hd => ?beatOut, fun dt store s u hu => ⟨fun hup => ?mismatch, fun hup => pipLockstepMismatch_down hu hup store⟩,
    fun dt s u hu => ⟨fun hr => pipReloadDone_none hu hr, fun hr => ?reload⟩⟩
  case gone => exact ⟨_, domainFaultRetry_second hu hx hup hf hnow hold, fun k hk => domainGone_gone u hk⟩
  case raised =>
    refine ⟨u.domainRetry d, ?_, domainQueue_waits .., ((Frame.refl ..).wb (by simp) ..).domainQueue (by simp) d,
      domainFaultRetry_raised hu hx hup hf hnow hold⟩
    rw [State.domainRetry, rb_congr (domainQueue_rd ..), rb_wb_same _ _ _ (by decide)]
  case railGone =>
    exact ⟨_, railRecovery_second hu hx hup hf hnow hold, fun d hd k hk => domainsGone_gone _ u (.inr ⟨hds ▸ hd, hk⟩)⟩
  case railRaised =>
    obtain ⟨hshut, hoff, -⟩ := railClear_shut u rail hf
    exact ⟨_, _, rfl, hshut, hoff, rfl, railRecovery_raised hu hx hup hf hnow hold hds rfl⟩
  case beat =>
    obtain ⟨hrun, hcount⟩ := pipNoted_shown u
    have hhusk := pipNoted_husk u
    refine ⟨u.pipNoted, by rw [hhusk], hrun, hcount, ((Frame.refl ..).mHusk (by simp) _).pipDown (by simp), fun hnone => ⟨?_, ?_⟩, fun hagain => ⟨?_, ?_⟩⟩
    · rw [hhusk, hnone]
      exact Bool.or_false _
    · rw [pipBeatMissed_next hu hd, if_neg (by simp [hnone])]
    · rw [hhusk, hagain]
      exact Bool.or_true _
    · rw [pipBeatMissed_next hu hd, if_pos hagain]
  case beatOut =>
    rw [exec_pipBeatMissed, execPipBeatMissed, ← hu]
    simp only [hd, Bool.not_false, if_true]
  case mismatch =>
    obtain ⟨hrd, hhusk, hvariant⟩ := huskEvent_keeps u 0xD3 Status.fault.code ((if (store || u.pipStoreBad) = true then 2 else 1) * 2 ^ 28)
    rw [← State.mismatchNoted] at hrd hhusk hvariant
    obtain ⟨hkeep, hreset, hbusy⟩ := pipReset_shown (u.mismatchNoted (store || u.pipStoreBad))
    obtain ⟨hrun, hcount, hblank⟩ := pipDown_shown (u.mismatchNoted (store || u.pipStoreBad))
    obtain ⟨hrun', hcount', hblank', hreload, hpods⟩ := reloadBegin_shown (u.mismatchNoted (store || u.pipStoreBad)).pipReset (store || u.pipStoreBad)
    have hword := hkeep 0x00300020 (by decide)
    refine ⟨_, pipLockstepMismatch_next hu hup store, ?_, ?_, ?_, ?_, ?_⟩
    · rw [hrun', rb_congr hword, hrun]
    · rw [hcount', rf_congr hword, hcount, rf_congr (hrd _ (by decide))]
    · rw [hblank', rb_congr hword, hblank, rb_congr (hrd _ (by decide))]
    · rw [hreload, hreset, hhusk]
    · rw [State.unit, hpods, ← State.unit, ← pipUnit_congr hvariant]
      exact hbusy
  case reload =>
    split
    next e f he hf =>
      split
      next a b ha hb =>
        obtain ⟨hsprites, hreload, hblank, hicons, hunits⟩ := reloaded_shown u (deVersion e) b
        refine ⟨_, pipReloadDone_good hu hr (activeRecord_good u he ha) (activeRecord_good u hf hb), hsprites, hreload, hblank, hicons, fun k hk => ?_⟩
        rw [hunits]
        exact loadFw_unit u _ hk (by decide)
      next hbad =>
        refine pipReloadDone_bad hu ?_
        simp only [State.activeRecord, he, hf]
        rcases ha : readRecord u.activeRead e with a | a
        · exact .inl rfl
        · rcases hb : readRecord u.activeRead f with b | b
          · exact .inr rfl
          · exact absurd hb (hbad a b ha)
    next hbad =>
      refine pipReloadDone_bad hu ?_
      rcases he : imgEntry u.activeRead 0x03 with _ | e
      · exact .inl (by simp only [State.activeRecord, he])
      · rcases hf : imgEntry u.activeRead 0x05 with _ | f
        · exact .inr (by simp only [State.activeRecord, hf])
        · exact absurd hf (hbad e f he)

end Sys2Proof.Machine
end

section
/-!
PROOFS. What the scan of a pipe leaves: time, the variant, the start, the Husks and the Pip lane (R221, R612).
-/
namespace Sys2Proof.Machine

/-- The parts of a state that the scan of a pipe does not reach. -/
def State.still (s : State) : Nat × Variant × StartSt × HuskSt × PipSt := (s.now, s.variant, s.start, s.husk, s.pip)

section
variable {s : State}

@[simp] theorem ite_still {c : Prop} [Decidable c] (a b : State) : (if c then a else b).still = if c then a.still else b.still := apply_ite State.still c a b

@[simp] theorem foldl_still {β : Type} {f : State → β → State} (hf : ∀ t x, (f t x).still = t.still) (l : List β) : (l.foldl f s).still = s.still :=
  foldl_keeps State.still hf l s

/-- An event at a ring is none of these parts. -/
theorem EventOnly.still {w : Nat} {t : State} (h : EventOnly w s t) : t.still = s.still := by
  unfold State.still
  rw [h.rest]

@[simp] theorem wr_still (k v) : (s.wr k v).still = s.still := by simp only [State.still, State.wr_frame]
@[simp] theorem wr64_still (k v) : (s.wr64 k v).still = s.still := by simp only [State.still, State.wr64_frame]
@[simp] theorem wf_still (k hi lo v) : (s.wf k hi lo v).still = s.still := by simp only [State.still, State.wf_frame]
@[simp] theorem wb_still (k i b) : (s.wb k i b).still = s.still := by simp only [State.still, State.wb_frame]
@[simp] theorem incr_still (k) : (s.incr k).still = s.still := by simp only [State.still, State.incr_frame]
@[simp] theorem sat_still (k n) : (s.sat k n).still = s.still := by simp only [State.still, State.sat_frame]
@[simp] theorem raise_still (k i) : (s.raise k i).still = s.still := by simp only [State.still, State.raise_frame]
@[simp] theorem rcUpdate_still (k f) : (s.rcUpdate k f).still = s.still := by simp only [State.still, State.rcUpdate_frame]
@[simp] theorem rcCount_still (k n) : (s.rcCount k n).still = s.still := by simp only [State.still, State.rcCount_frame]
@[simp] theorem incr64_still (k n) : (s.incr64 k n).still = s.still := by simp only [State.still, State.incr64_frame]
@[simp] theorem mSeed_still (f) : (s.mSeed f).still = s.still := by simp only [State.still, State.mSeed_frame]
@[simp] theorem mDisplay_still (f) : (s.mDisplay f).still = s.still := by simp only [State.still, State.mDisplay_frame]
@[simp] theorem mWorlds_still (f) : (s.mWorlds f).still = s.still := by simp only [State.still, State.mWorlds_frame]
@[simp] theorem mPods_still (f) : (s.mPods f).still = s.still := by simp only [State.still, State.mPods_frame]
@[simp] theorem mem_still (m : Tbl (BitVec 8)) : ({ s with mem := m } : State).still = s.still := by simp only [State.still]
@[simp] theorem hostWrite_still (w addr bs) : (s.hostWrite w addr bs).still = s.still := (hostWrite_only ..).still
@[simp] theorem markDirty_still (w addr len) : (s.markDirty w addr len).still = s.still := (markDirty_only ..).still
@[simp] theorem putRecord_still (w kind status handle detail time) : (s.putRecord w kind status handle detail time).still = s.still := (putRecord_only ..).still
@[simp] theorem raiseMsix_still (w) : (s.raiseMsix w).still = s.still := by unfold State.raiseMsix; simp
@[simp] theorem signal_still (w) : (s.signal w).still = s.still := by unfold State.signal; simp
@[simp] theorem ueCount_still (pa cls w) : (s.ueCount pa cls w).still = s.still := by unfold State.ueCount; simp
@[simp] theorem pwrite_still (pa bs cls w) : (s.pwrite pa bs cls w).still = s.still := by
  unfold State.pwrite
  exact (foldl_still (by simp) _).trans ((mem_still _).trans (mSeed_still _))
@[simp] theorem loseEvent_still (w) : (s.loseEvent w).still = s.still := by unfold State.loseEvent; simp
@[simp] theorem flushLost_still (w) : (s.flushLost w).still = s.still := by unfold State.flushLost; simp
@[simp] theorem emitAt_still (w kind status handle detail time) : (s.emitAt w kind status handle detail time).still = s.still := by
  unfold State.emitAt; simp
@[simp] theorem emit_still (w kind st handle detail) : (s.emit w kind st handle detail).still = s.still := by
  unfold State.emit; simp
@[simp] theorem emitPf_still (kind st detail) : (s.emitPf kind st detail).still = s.still := by unfold State.emitPf; simp
@[simp] theorem deny_still (c a write off) : (s.deny c a write off).still = s.still := by unfold State.deny; simp
@[simp] theorem memFault_still (w addr) : (s.memFault w addr).still = s.still := by unfold State.memFault; simp
@[simp] theorem retirePage_still (mem page) : (s.retirePage mem page).still = s.still := by unfold State.retirePage; simp
@[simp] theorem ueFound_still (pa cls w) : (s.ueFound pa cls w).still = s.still := by unfold State.ueFound; simp
@[simp] theorem fetch_still (w cls addr n ext) : (s.fetch w cls addr n ext).2.still = s.still := by
  dsimp only [State.fetch]; (repeat' split) <;> simp
@[simp] theorem reportFault_still (w cls addr) : (s.reportFault w cls addr).still = s.still := by
  unfold State.reportFault; simp
@[simp] theorem mPipe_still (p f) : (s.mPipe p f).still = s.still := by unfold State.mPipe; simp
@[simp] theorem mLayer_still (i f) : (s.mLayer i f).still = s.still := by unfold State.mLayer; simp
@[simp] theorem layerShown_still (i v) : (s.layerShown i v).still = s.still := by unfold State.layerShown; simp
@[simp] theorem pipeDirty_still (p) : (s.pipeDirty p).still = s.still := by unfold State.pipeDirty; simp
@[simp] theorem replaceNow_still (p) : (s.replaceNow p).still = s.still := by fun_cases State.replaceNow <;> simp
@[simp] theorem storeFound_still (p x y) : (s.storeFound p x y).still = s.still := by unfold State.storeFound; simp
@[simp] theorem directRsv_still (p l) : (s.directRsv p l).still = s.still := by
  induction l generalizing s with
  | nil => rfl
  | cons i r ih => exact ih.trans (by simp)
@[simp] theorem layerOff_still (i frame) : (s.layerOff i frame).still = s.still := by unfold State.layerOff; simp
@[simp] theorem directOff_still (p slot x y) : (s.directOff p slot x y).still = s.still := by unfold State.directOff; simp
@[simp] theorem scanLine_still (hosts p y fuel x) : (s.scanLine hosts p y fuel x).still = s.still := by
  fun_induction State.scanLine <;> simp_all +zetaDelta
@[simp] theorem scanLines_still (hosts p y) : (s.scanLines hosts p y).still = s.still := by
  induction y with
  | zero => rfl
  | succ y ih =>
    unfold State.scanLines
    simp [ih]
@[simp] theorem scanTo_still (hosts p y) : (s.scanTo hosts p y).still = s.still := by unfold State.scanTo; simp
@[simp] theorem outDegrade_still (hosts p) : (s.outDegrade hosts p).still = s.still := by unfold State.outDegrade; simp

end

end Sys2Proof.Machine
end

section
/-!
PROOFS. Beats of the Husks, restarts, give-ups and degraded mode (R604 to R616).
-/
namespace Sys2Proof.Machine

theorem exec_huskHeartbeat (dt b : Nat) (s : State) : exec (.huskHeartbeat dt b) s = execHuskHeartbeat dt b s := rfl
theorem exec_huskBeatMissed (dt b : Nat) (hosts : List HostRun) (s : State) : exec (.huskBeatMissed dt b hosts) s = execHuskBeatMissed dt b hosts s := rfl
theorem exec_huskLockstepMismatch (dt b : Nat) (s : State) : exec (.huskLockstepMismatch dt b) s = execHuskLockstepMismatch dt b s := rfl
theorem exec_unitFault (dt k why : Nat) (s : State) : exec (.unitFault dt k why) s = execUnitFault dt k why s := rfl
theorem exec_huskUnitRecovery (dt k : Nat) (s : State) : exec (.huskUnitRecovery dt k) s = execHuskUnitRecovery dt k s := rfl
theorem exec_managerBeatMissed (dt : Nat) (s : State) : exec (.managerBeatMissed dt) s = execManagerBeatMissed dt s := rfl
theorem exec_degradedRetry (dt : Nat) (s : State) : exec (.degradedRetry dt) s = execDegradedRetry dt s := rfl

/-! ### Beats (R605, R609) -/

section
variable (s : State) (b n : Nat)

theorem setMissed_missed : (s.setMissed b n).missed b = n := by
  simp only [State.missed, State.setMissed, State.mHusk_husk]
  split <;> rfl

theorem setMissed_missed_ne {c : Nat} (hb : b = 0 ↔ c ≠ 0) : (s.setMissed b n).missed c = s.missed c := by
  simp only [State.missed, State.setMissed, State.mHusk_husk]
  by_cases h : c = 0
  · rw [if_pos h, if_pos h, if_neg (by rw [hb]; simpa using h)]
  · rw [if_neg h, if_neg h, if_pos (hb.mpr h)]

theorem setMissed_restarts : (s.setMissed b n).husk.restarts = s.husk.restarts := by
  simp only [State.setMissed, State.mHusk_husk]
  split <;> rfl

theorem Frame.setMissed {s t : State} {ps : List Part} {ks : List Nat} (h : Frame ps ks s t) (hp : Part.husk ∈ ps) (b n : Nat) :
    Frame ps ks s (t.setMissed b n) := h.mHusk hp _

theorem setHusk_state {v : Nat} (hv : v < 8) : (s.setHusk b v).huskState b = v := by
  unfold State.setHusk State.huskState
  split <;> rw [rf_wf_same _ _ _ (by omega) (by omega)] <;> exact Nat.mod_eq_of_lt (by omega)

theorem huskState_congr {s t : State} (h : t.rd 0x00300000 = s.rd 0x00300000) (b : Nat) : t.huskState b = s.huskState b := by
  simp only [State.huskState, rf_congr h]

theorem Frame.setHusk {s t : State} {ps : List Part} {ks : List Nat} (h : Frame ps ks s t) (hk : 0x00300000 ∈ ks) (b v : Nat) : Frame ps ks s (t.setHusk b v) := by
  unfold State.setHusk
  split
  · exact h.wf hk ..
  · exact h.wf hk ..

end

theorem huskHeartbeat_next {s u : State} {dt b : Nat} (hu : u = s.tick dt) (hst : u.huskState b = 0) (hd : u.husk.degraded = false) :
    exec (.huskHeartbeat dt b) s = .next ((u.incr (0x00300008 + 4 * b)).setMissed b 0) := by
  rw [exec_huskHeartbeat, execHuskHeartbeat, ← hu]
  exact if_pos ⟨hst, by simp [hd]⟩

theorem huskHeartbeat_none {s u : State} {dt b : Nat} (hu : u = s.tick dt) (h : u.huskState b ≠ 0 ∨ u.husk.degraded = true) :
    exec (.huskHeartbeat dt b) s = .next u := by
  rw [exec_huskHeartbeat, execHuskHeartbeat, ← hu]
  refine if_neg fun ⟨hst, hd⟩ => ?_
  rcases h with h | h
  · exact h hst
  · exact hd h

/-- A missed beat counted. -/
def State.beatMissed (s : State) (b : Nat) : State :=
  (if b = 0 then s.satf 0x00300010 15 0 1 else s.satf 0x00300010 31 16 1).setMissed b (satAdd 32 (s.missed b) 1)

section
variable (s : State) (b : Nat)

theorem Frame.beatMissed : Frame [.husk] [0x00300010] s (s.beatMissed b) := by
  unfold State.beatMissed
  split
  · exact ((Frame.refl ..).satf (by simp) ..).setMissed (by simp) ..
  · exact ((Frame.refl ..).satf (by simp) ..).setMissed (by simp) ..

theorem beatMissed_missed : (s.beatMissed b).missed b = satAdd 32 (s.missed b) 1 := setMissed_missed ..

theorem beatMissed_shown : (s.beatMissed b).rf 0x00300010 (if b = 0 then 15 else 31) (if b = 0 then 0 else 16) =
    min 65535 (s.rf 0x00300010 (if b = 0 then 15 else 31) (if b = 0 then 0 else 16) + 1) := by
  unfold State.beatMissed State.setMissed
  rw [rf_congr (State.mHusk_rd ..)]
  by_cases h : b = 0
  · simp only [h, if_true]
    rw [rf_satf _ _ (by decide) (by decide), Nat.min_comm]
    norm_num
  · simp only [h, if_false]
    rw [rf_satf _ _ (by decide) (by decide), Nat.min_comm]
    norm_num

theorem beatMissed_restarts : (s.beatMissed b).husk.restarts = s.husk.restarts := by
  rw [State.beatMissed, setMissed_restarts]
  split <;> simp only [State.satf_frame]

theorem beatMissed_husks (c : Nat) : (s.beatMissed b).huskState c = s.huskState c ∧ (s.beatMissed b).huskUnit c = s.huskUnit c
    ∧ ∀ k, (s.beatMissed b).unit k = s.unit k := by
  have hframe := Frame.beatMissed s b
  refine ⟨huskState_congr (hframe.regs _ (by simp)) c, ?_, fun k => ?_⟩
  · simp only [State.huskUnit, State.unitIndex, State.row, hframe.variant]
  · have hpods : (s.beatMissed b).pods = s.pods := hframe.parts .pods (by simp)
    rw [State.unit, hpods, State.unit]

end

section
variable {s u : State} {dt b : Nat} {hosts : List HostRun} (hu : u = s.tickMem dt hosts)
include hu

theorem huskBeatMissed_none (h : u.watched = false ∨ u.excused b = true) : exec (.huskBeatMissed dt b hosts) s = .next u := by
  rw [exec_huskBeatMissed, execHuskBeatMissed, ← hu]
  exact if_pos (by rcases h with h | h <;> simp [h])

theorem huskBeatMissed_next (hw : u.watched = true) (he : u.excused b = false) : exec (.huskBeatMissed dt b hosts) s =
    (if ((u.beatMissed b).huskLost 0 && (u.beatMissed b).huskLost 1) = true then .next ((u.beatMissed b).degradedEnter hosts)
      else if (decide ((if b = 0 then 4 else 3) ≤ (u.beatMissed b).missed b)
          && ((tget [] (u.beatMissed b).husk.restarts ((u.beatMissed b).huskUnit b)).headD 0 == 0
            || decide ((tget [] (u.beatMissed b).husk.restarts ((u.beatMissed b).huskUnit b)).headD 0 + 5000000 ≤ (u.beatMissed b).now))
          && (u.beatMissed b).huskState (1 - b) == 0 && (u.beatMissed b).huskState b != 3
          && !((u.beatMissed b).unit ((u.beatMissed b).huskUnit b)).resetBusy) = true then .next ((u.beatMissed b).huskRestart b)
      else .next (u.beatMissed b)) := by
  rw [exec_huskBeatMissed, execHuskBeatMissed, ← hu]
  exact if_neg (by simp [hw, he])

end

/-! ### Restarts and give-ups (R607, R608) -/

theorem restartOr_restart {s : State} {u : Nat} (h : (s.inWin (tget [] s.husk.restarts u)).length < s.restartMax) (cls : Nat) (act stop : State → State) :
    s.restartOr cls u act stop = (act s).restartNote cls u := if_neg (Nat.not_le.mpr h)

theorem restartOr_giveUp {s : State} {u : Nat} (h : s.restartMax ≤ (s.inWin (tget [] s.husk.restarts u)).length) (cls : Nat) (act stop : State → State) :
    s.restartOr cls u act stop = stop (s.giveUp u) := if_pos h

theorem huskRestart_giveUp {s : State} {b : Nat} (h : s.restartMax ≤ (s.inWin (tget [] s.husk.restarts (s.huskUnit b))).length) :
    (s.huskRestart b).huskState b = 3 := by
  rw [State.huskRestart, restartOr_giveUp h]
  exact setHusk_state _ b (by decide)

theorem huskEvent_unit (s : State) (kind st detail k : Nat) : (s.huskEvent kind st detail).unit k = s.unit k := by
  rw [State.huskEvent, emitAt_unit, emitAt_unit]

theorem giveUp_gone (s : State) (k : Nat) : (s.giveUp k).unitGone k := by
  unfold State.unitGone State.giveUp
  dsimp only
  rw [huskEvent_unit]
  exact offlineUnit_gone (s.powerAsk k 0) k

/-- A fault of a unit: its status, and its health. -/
def State.faulted (s : State) (k why : Nat) : State := (s.mUnit k fun x => { x with lastStatus := why }).setHealth k 2

theorem faulted_unit (s : State) (k why j : Nat) :
    (s.faulted k why).unit j = if j = k then { s.unit k with lastStatus := why, health := 2 } else s.unit j := by
  unfold State.faulted
  by_cases h : j = k <;> simp [h]

theorem faulted_steady (s : State) (k why : Nat) : (s.faulted k why).steady = s.steady := (setHealth_steady ..).trans (mUnit_steady ..)

theorem unitFault_next {s u : State} {dt k why : Nat} (hu : u = s.tick dt) (hk : k ≠ 0) (hin : k < u.row.unitCount) (hh : (u.unit k).health ≤ 1)
    (hb : (u.unit k).resetBusy = false) : exec (.unitFault dt k why) s = .next (u.faulted k why) := by
  rw [exec_unitFault, execUnitFault, ← hu]
  refine if_neg ?_
  simp only [hk, hb, Nat.not_le.mpr hin, Nat.not_lt.mpr hh, Bool.false_eq_true, or_self, not_false_eq_true]

theorem huskLockstepMismatch_next {s u : State} {dt b : Nat} (hu : u = s.tick dt) (hd : u.husk.degraded = false) (hst : u.huskState b = 0 ∨ u.huskState b = 4) :
    exec (.huskLockstepMismatch dt b) s =
      .next (((u.setHusk b 2).setHand b 0).mUnit (u.huskUnit b) fun x => { x with lastStatus := Status.fault.code }) := by
  rw [exec_huskLockstepMismatch, execHuskLockstepMismatch, ← hu]
  exact if_neg (by rcases hst with h | h <;> simp [hd, h])

section
variable {s u : State} {dt k kind i : Nat} (hu : u = s.tick dt) (hk : k ≠ 0) (hup : u.huskUp = true) (hh : (u.unit k).health = 2)
  (hb : (u.unit k).resetBusy = false) (hd : u.rb (domainReg (u.unitDom k) 4) 26 = false) (hr : tget 0 u.power.offRails (domainRail (u.unitDom k)) = 0)
include hu hk hup hh hb hd hr

theorem huskUnitRecovery_next : exec (.huskUnitRecovery dt k) s =
    match u.unitAt k with
    | some (0x12, b) => if u.huskState (1 - b) = 0 then .next (u.huskRestart b) else .next u
    | some (0x10, _) => .next (u.restartOr 3 k (·.mgrReset) id)
    | some _ => .next (u.restartOr 1 k (fun s => s.unitReset k) id)
    | none => .next u := by
  rw [exec_huskUnitRecovery, execHuskUnitRecovery, ← hu]
  exact if_neg (by simp [hk, hup, hh, hb, hd, hr])

theorem huskUnitRecovery_husk (hat : u.unitAt k = some (0x12, i)) :
    exec (.huskUnitRecovery dt k) s = .next (if u.huskState (1 - i) = 0 then u.huskRestart i else u) := by
  rw [huskUnitRecovery_next hu hk hup hh hb hd hr, hat]
  exact (apply_ite Host.Outcome.next ..).symm

theorem huskUnitRecovery_manager (hat : u.unitAt k = some (0x10, i)) :
    exec (.huskUnitRecovery dt k) s = .next (u.restartOr 3 k (·.mgrReset) id) := by
  rw [huskUnitRecovery_next hu hk hup hh hb hd hr, hat]
  rfl

theorem huskUnitRecovery_other (hat : u.unitAt k = some (kind, i)) (h12 : kind ≠ 0x12) (h10 : kind ≠ 0x10) :
    exec (.huskUnitRecovery dt k) s = .next (u.restartOr 1 k (fun s => s.unitReset k) id) := by
  rw [huskUnitRecovery_next hu hk hup hh hb hd hr, hat]
  split
  next h => exact absurd (Prod.mk.inj (Option.some.inj h)).1 h12
  next h => exact absurd (Prod.mk.inj (Option.some.inj h)).1 h10
  next => rfl
  next h => cases h

end

theorem managerBeatMissed_next {s u : State} {dt k : Nat} (hu : u = s.tick dt) (hup : u.huskUp = true) (hdown : u.mgrDown = false)
    (hk : u.unitIndex 0x10 0 = some k) (hslot : (u.unit k).slotActive ≠ 0) (hg : (u.unit k).gaveUp = false) :
    exec (.managerBeatMissed dt) s = .next (u.restartOr 3 k (·.mgrReset) id) := by
  rw [exec_managerBeatMissed, execManagerBeatMissed, ← hu]
  rw [hk, Option.getD_some]
  exact if_neg (by simp [hup, hdown, hslot, hg])

/-! ### Degraded mode (R612, R613, R616) -/

/-- The outputs of a device in degraded mode are Pip-first. -/
def State.outsDegraded (s : State) (hosts : List HostRun) : State := s.degradedOuts.foldl (fun s p => s.outDegrade hosts p) s

theorem outsDegraded_still (s : State) (hosts : List HostRun) : (s.outsDegraded hosts).still = s.still := foldl_still (by simp) _

/-- The state of the Husks in degraded mode. -/
def State.degradedHusk (s : State) : HuskSt :=
  let retry := bits s.pip.config 455 440
  let failed := if s.start.returning then s.husk.failed + 1 else 0
  { degraded := true, degradedAt := if s.start.returning then s.husk.degradedAt else s.now,
    retryAt := if retry = 0 then none else some (s.now + min 3600 (retry * 2 ^ min failed 12) * 1000000000), failed := failed, pipLost := s.husk.pipLost,
    stopped := s.husk.stopped }

/-- The domains that hold the degraded outputs and PIP, ON with their units. -/
def State.degradedDomains (t s : State) : State := (0 :: 3 :: 20 :: t.pipDomains).foldl (fun t d =>
  (t.domainUnits d).foldl (fun t u => t.mUnit u fun _ => { if d = 3 then s.unit u else ({} : UnitSt) with state := 3, req := 3, target := 3 }) (t.setDomain d 3)) t

/-- The phases in degraded mode. -/
def State.degradedPhases (t s : State) : State := (List.range 16).foldl (fun t p =>
  let q := s.phase p
  if !t.rb (phaseReg p 0) 31 then t
  else if t.rf (phaseReg p 0) 30 30 = 0 then t.setPhase p q
  else if q = 2 then t.setPhase p 1
  else t.setPhase p q) t

/-- The counts and the pin of degraded mode, the chime port and the wake scanner. -/
def State.degradedEnd (t : State) (returning : Bool) (wait : Nat) : State :=
  let t := (t.failPin true).satf 0x00300014 31 16 1
  let t := if returning then t.satf 0x00300014 15 0 1 else t
  (t.wr 0x00300018 wait).chimeWake

theorem degradedEnter_eq (s : State) (hosts : List HostRun) : ∃ (t : State) (wait : Nat),
    t.husk = (s.outsDegraded hosts).degradedHusk
    ∧ s.degradedEnter hosts = ((t.degradedDomains (s.outsDegraded hosts)).degradedPhases (s.outsDegraded hosts)).degradedEnd (s.outsDegraded hosts).start.returning wait := by
  refine ⟨_, _, ?_, rfl⟩
  refine (foldl_keeps State.husk (fun t c => ?_) _ _).trans ((foldl_keeps State.husk (fun t j => ?_) _ _).trans rfl)
  · simp only [State.wb_frame]
  · simp only [State.wf_frame]

theorem degradedHusk_congr {s t : State} (h : t.still = s.still) : t.degradedHusk = s.degradedHusk := by
  simp only [State.still, Prod.mk.injEq] at h
  obtain ⟨hnow, -, hstart, hhusk, hpip⟩ := h
  simp only [State.degradedHusk, hnow, hstart, hhusk, hpip]

section
variable (t s : State)

theorem unitsSet_keeps {α : Type} (g : State → α) (hg : ∀ (t : State) u f, g (t.mUnit u f) = g t) (us : List Nat) (f : Nat → UnitSt → UnitSt) :
    g (us.foldl (fun t u => t.mUnit u (f u)) t) = g t := foldl_keeps g (fun t u => hg t u _) us t

theorem degradedDomains_husk : (t.degradedDomains s).husk = t.husk := by
  unfold State.degradedDomains
  refine foldl_keeps State.husk (fun t d => ?_) _ t
  rw [unitsSet_keeps _ State.husk fun t u f => (by simp only [State.mUnit, State.mPods_frame])]
  unfold State.setDomain
  dsimp only
  split <;> simp only [State.wf_frame, State.mRecs_frame]

theorem degradedDomains_on {d : Nat} (hd : d = 0 ∨ d = 3 ∨ d = 20) : (t.degradedDomains s).domainState d = 3 := by
  unfold State.degradedDomains
  refine foldl_each (P := fun d t => t.domainState d = 3) (fun t d => ?_) (fun t d e hne he => ?_) _ t d ?_
  · rw [unitsSet_keeps _ (State.domainState · d) fun t u f => domainState_congr (State.mPods_rd ..), setDomain_shown _ (by decide)]
  · rw [unitsSet_keeps _ (State.domainState · e) fun t u f => domainState_congr (State.mPods_rd ..),
      domainState_congr (setDomain_rd t (by unfold domainReg; omega)), he]
  · rcases hd with rfl | rfl | rfl <;> simp only [List.mem_cons, true_or, or_true]

/-- Each phase is written at its state or left. -/
theorem degradedPhases_keeps {α : Type} (g : State → α) (hg : ∀ (t : State) p v, g (t.setPhase p v) = g t) : g (t.degradedPhases s) = g t := by
  unfold State.degradedPhases
  refine foldl_keeps g (fun t p => ?_) _ t
  dsimp only
  split
  · rfl
  · split
    · exact hg ..
    · split <;> exact hg ..

theorem chimeWake_keeps : (∀ k, k < 0x03000000 → t.chimeWake.rd k = t.rd k) ∧ t.chimeWake.husk = t.husk ∧ t.chimeWake.power = t.power := by
  unfold State.chimeWake
  refine ⟨fun k hk => ?_, ?_, ?_⟩
  · dsimp only
    rw [State.mPanel_rd, State.rd_wr_ne _ (by omega), State.rd_wr_ne _ (by omega), State.rd_wr_ne _ (by omega), State.rd_wr_ne _ (by unfold tdmReg; omega)]
  · simp only [State.mPanel_frame, State.wr_frame]
  · simp only [State.mPanel_frame, State.wr_frame]

/-- The counts of entries and of failed returns. -/
def State.degradedCounted (t : State) (returning : Bool) (wait : Nat) : State :=
  let t := t.satf 0x00300014 31 16 1
  (if returning then t.satf 0x00300014 15 0 1 else t).wr 0x00300018 wait

theorem degradedCounted_keeps (returning : Bool) (wait : Nat) : (∀ k, k ≠ 0x00300014 → k ≠ 0x00300018 → (t.degradedCounted returning wait).rd k = t.rd k)
    ∧ (t.degradedCounted returning wait).husk = t.husk ∧ (t.degradedCounted returning wait).power = t.power := by
  unfold State.degradedCounted State.satf
  cases returning
  · refine ⟨fun k h4 h8 => ?_, ?_, ?_⟩
    · simp only [Bool.false_eq_true, if_false]
      rw [State.rd_wr_ne _ h8, rd_wf_ne _ h4]
    · simp only [Bool.false_eq_true, if_false, State.wr_frame, State.wf_frame]
    · simp only [Bool.false_eq_true, if_false, State.wr_frame, State.wf_frame]
  · refine ⟨fun k h4 h8 => ?_, ?_, ?_⟩
    · simp only [if_true]
      rw [State.rd_wr_ne _ h8, rd_wf_ne _ h4, rd_wf_ne _ h4]
    · simp only [if_true, State.wr_frame, State.wf_frame]
    · simp only [if_true, State.wr_frame, State.wf_frame]

theorem degradedEnd_eq (returning : Bool) (wait : Nat) : t.degradedEnd returning wait = ((t.failPin true).degradedCounted returning wait).chimeWake := by
  rw [State.degradedEnd, State.degradedCounted]

theorem degradedEnd_shown (returning : Bool) (wait : Nat) : (t.degradedEnd returning wait).husk = t.husk
    ∧ (t.degradedEnd returning wait).power.huskFail = true ∧ (t.degradedEnd returning wait).rb 0x00300000 24 = true
    ∧ ∀ d, d < 24 → (t.degradedEnd returning wait).domainState d = t.domainState d := by
  rw [degradedEnd_eq]
  obtain ⟨hrd, hhusk, hpower⟩ := chimeWake_keeps ((t.failPin true).degradedCounted returning wait)
  obtain ⟨hrd', hhusk', hpower'⟩ := degradedCounted_keeps (t.failPin true) returning wait
  refine ⟨?_, ?_, ?_, fun d hd => ?_⟩
  · rw [hhusk, hhusk', State.failPin]
    simp only [State.mPower_frame, State.wb_frame]
  · rw [hpower, hpower', State.failPin]
    simp only [State.mPower_power]
  · rw [rb_congr (hrd _ (by decide)), rb_congr (hrd' _ (by decide) (by decide)), State.failPin, rb_congr (State.mPower_rd ..), rb_wb_same _ _ _ (by decide)]
  · have hlow := domainReg_below (off := 4) hd (by decide)
    have hin : domainReg d 4 < 0x00300000 := by unfold domainReg; omega
    rw [domainState_congr (hrd _ (by omega)), domainState_congr (hrd' _ (by omega) (by omega)), State.failPin, domainState_congr (State.mPower_rd ..),
      domainState_congr (rd_wb_ne _ (by omega))]

end

/-- What degraded mode shows: the Husks' state, the pin, and the domains that are ON. -/
theorem degradedEnter_shown (s : State) (hosts : List HostRun) : (s.degradedEnter hosts).husk = s.degradedHusk
    ∧ (s.degradedEnter hosts).power.huskFail = true ∧ (s.degradedEnter hosts).rb 0x00300000 24 = true
    ∧ ∀ d, d = 0 ∨ d = 3 ∨ d = 20 → (s.degradedEnter hosts).domainState d = 3 := by
  obtain ⟨t, wait, hhusk, heq⟩ := degradedEnter_eq s hosts
  rw [heq]
  obtain ⟨hend, hpin, hfail, hdom⟩ := degradedEnd_shown ((t.degradedDomains (s.outsDegraded hosts)).degradedPhases (s.outsDegraded hosts))
    (s.outsDegraded hosts).start.returning wait
  refine ⟨?_, hpin, hfail, fun d hd => ?_⟩
  · rw [hend, degradedPhases_keeps _ _ State.husk fun t p v => (by simp only [State.setPhase, State.mPower_frame, State.wf_frame]), degradedDomains_husk, hhusk,
      degradedHusk_congr (outsDegraded_still s hosts)]
  · have hlt : d < 24 := by omega
    rw [hdom d hlt, degradedPhases_keeps _ _ (State.domainState · d) fun t p v => domainState_congr (setPhase_rd t p v (by unfold domainReg phaseReg; omega)),
      degradedDomains_on _ _ hd]

/-- The release of the Husks for a return, before the start goes on. -/
def State.returnBegun (s : State) : State :=
  (((s.mHusk fun h => { h with degraded := false, retryAt := none, missA := 0, missB := 0 }).mStart fun t => { t with returning := true }).mPods
    fun p => { p with pfQueue := [] }).wb 0x00300000 25 true

theorem degradedRetry_next {s u : State} {dt x : Nat} (hu : u = s.tick dt) (hx : u.husk.retryAt = some x) :
    exec (.degradedRetry dt) s = .next (if u.husk.degraded && decide (x ≤ u.now) then u.returnBegun.startBegin else u) := by
  rw [exec_degradedRetry, execDegradedRetry, ← hu]
  simp only [hx]
  exact (apply_ite Host.Outcome.next ..).symm

theorem returnBegun_shown (s : State) : s.returnBegun.husk.degraded = false ∧ s.returnBegun.husk.retryAt = none ∧ s.returnBegun.start.returning = true
    ∧ s.returnBegun.rb 0x00300000 25 = true ∧ s.returnBegun.pods.pfQueue = [] ∧ Frame [.husk, .start, .pods] [0x00300000] s s.returnBegun := by
  unfold State.returnBegun
  refine ⟨?_, ?_, ?_, rb_wb_same _ _ _ (by decide), ?_, ((((Frame.refl ..).mHusk (by simp) _).mStart (by simp) _).mPods (by simp) _).wb (by simp) ..⟩ <;>
    simp only [State.wb_frame, State.mPods_frame, State.mPods_pods, State.mStart_frame, State.mStart_start, State.mHusk_husk]

/-- Settles O48: a beat and a missed beat count in the Husk's record; every restart is `restartOr`, which gives a unit up at RESTART_MAX; degraded
mode is entered with every step of R612 at the decision, as the model chooses (log entry 65). -/
theorem supervision : Obligations.Supervision := by
  unfold Obligations.Supervision
  refine ⟨fun dt b s u hu => ⟨fun hst hd => ?beat, fun h => huskHeartbeat_none hu h⟩, fun dt b hosts s u hu hw he => ?missed,
    fun dt b hosts s u hu h => huskBeatMissed_none hu h, fun b u _ => ⟨fun h => ?restart, fun h => huskRestart_giveUp h⟩,
    fun dt b s u hu hd hst => ?lockstep, fun dt k why s u hu hk hin hh hb => ?fault,
    fun dt k kind i s u hu hk hup hh hb hd hr hat => ⟨fun h12 hmax => ?unitGiveUp, fun h12 h10 hlt => ?unitRestart, fun h10 hlt => ?manager, fun h12 => ?husk⟩,
    fun k u => giveUp_gone u k, fun dt k s u hu hup hdown hk hslot hg => ?beats, fun hosts u t ht => ?degraded, fun dt x s u hu hx => ⟨fun hd hdue => ?retry, fun h => ?early⟩⟩
  case beat =>
    refine ⟨_, huskHeartbeat_next hu hst hd, ?_, setMissed_missed .., ((Frame.refl ..).wr (by simp) _).setMissed (by simp) ..⟩
    rw [State.setMissed, State.mHusk_rd, State.incr, State.rd_wr_same]
  case missed =>
    obtain ⟨hst, hunit, hunits⟩ := beatMissed_husks u b b
    have hother := (beatMissed_husks u b (1 - b)).1
    refine ⟨_, beatMissed_missed u b, Frame.beatMissed u b, beatMissed_shown u b, fun h0 h1 => ?_, fun hlost hdue hnone hpartner hself hbusy => ?_, fun hlost hnot => ?_⟩
    · rw [huskBeatMissed_next hu hw he, if_pos (by rw [h0, h1]; rfl)]
    · rw [huskBeatMissed_next hu hw he, if_neg (by simp [hlost]), if_pos]
      rw [beatMissed_restarts, hunit, hother, hst, hunits, hnone, hpartner, hbusy, decide_eq_true hdue]
      simp [hself]
    · rw [huskBeatMissed_next hu hw he, if_neg (by simp [hlost]), if_neg]
      rw [hother, hst]
      rcases hnot with h | h | h
      · simp [Nat.not_le.mpr h]
      · simp [h]
      · simp [h]
  case restart => rw [State.huskRestart, restartOr_restart h]
  case lockstep =>
    refine ⟨_, huskLockstepMismatch_next hu hd hst, ?_, ?_, (((Frame.refl ..).setHusk (by simp) ..).mHusk (by simp) _).mPods (by simp) _⟩
    · rw [State.mUnit, huskState_congr (State.mPods_rd ..), State.setHand, huskState_congr (State.mHusk_rd ..), setHusk_state u b (by decide)]
    · rw [mUnit_unit, if_pos rfl]
  case fault =>
    have hsteady := faulted_steady u k why
    refine ⟨_, unitFault_next hu hk hin hh hb, ?_, ?_, fun j hj => ?_, (congrArg (·.2.2.2.2) hsteady :), (congrArg (·.2.1) hsteady :), (congrArg (·.2.2.2.1) hsteady :),
      (congrArg (·.1.1) hsteady :)⟩
    · rw [faulted_unit, if_pos rfl]
    · rw [faulted_unit, if_pos rfl]
    · rw [faulted_unit, if_neg hj]
  case unitGiveUp =>
    by_cases h10 : kind = 0x10
    · rw [huskUnitRecovery_manager hu hk hup hh hb hd hr (h10 ▸ hat), restartOr_giveUp hmax, id]
    · rw [huskUnitRecovery_other hu hk hup hh hb hd hr hat h12 h10, restartOr_giveUp hmax, id]
  case unitRestart => rw [huskUnitRecovery_other hu hk hup hh hb hd hr hat h12 h10, restartOr_restart hlt]
  case manager => rw [huskUnitRecovery_manager hu hk hup hh hb hd hr (h10 ▸ hat), restartOr_restart hlt]
  case husk => exact huskUnitRecovery_husk hu hk hup hh hb hd hr (h12 ▸ hat)
  case beats =>
    rw [managerBeatMissed_next hu hup hdown hk hslot hg]
    rfl
  case degraded =>
    obtain ⟨hhusk, hpin, hfail, hdom⟩ := degradedEnter_shown u hosts
    subst ht
    exact ⟨by rw [hhusk]; rfl, hpin, hfail, hdom 0 (.inl rfl), hdom 3 (.inr (.inl rfl)), hdom 20 (.inr (.inr rfl)), by rw [hhusk]; rfl⟩
  case retry =>
    obtain ⟨hd', hnone, hret, hrel, hqueue, hframe⟩ := returnBegun_shown u
    exact ⟨_, by rw [degradedRetry_next hu hx, if_pos (by simp [hd, hdue])], hd', hnone, hret, hrel, hqueue, hframe⟩
  case early =>
    rw [degradedRetry_next hu hx, if_neg]
    rcases h with h | h
    · simp [h]
    · simp [Nat.not_le.mpr h]

end Sys2Proof.Machine
end

section
/-!
PROOFS. Supplies, the cold start, its end and its timeout (R580 to R587, R611, R695, R696).
-/
namespace Sys2Proof.Machine

theorem exec_pwrgoodRise (dt : Nat) (flash : Option FlashIn) (s : State) : exec (.pwrgoodRise dt flash) s = execPwrgoodRise dt flash s := rfl
theorem exec_pwrgoodFall (dt : Nat) (s : State) : exec (.pwrgoodFall dt) s = execPwrgoodFall dt s := rfl
theorem exec_vddSafeLoss (dt : Nat) (s : State) : exec (.vddSafeLoss dt) s = execVddSafeLoss dt s := rfl
theorem exec_vddSafeReturn (dt : Nat) (s : State) : exec (.vddSafeReturn dt) s = execVddSafeReturn dt s := rfl
theorem exec_vddAonLoss (dt : Nat) (s : State) : exec (.vddAonLoss dt) s = execVddAonLoss dt s := rfl
theorem exec_vddAonReturn (dt : Nat) (s : State) : exec (.vddAonReturn dt) s = execVddAonReturn dt s := rfl
theorem exec_startFull (dt : Nat) (s : State) : exec (.startFull dt) s = execStartFull dt s := rfl
theorem exec_startTimeout (dt : Nat) (hosts : List HostRun) (s : State) : exec (.startTimeout dt hosts) s = execStartTimeout dt hosts s := rfl

/-! ### Domains the start raises (R568, R583) -/

/-- The parts of a state that the raise of a domain leaves. -/
def State.awake (s : State) : Nat × StartSt × (Bool × Bool) × Tbl RecSlot := (s.now, s.start, (s.power.huskFail, s.power.railEn), s.recs.slots)

theorem le_foldl_max {α : Type} (f : α → Nat) : ∀ (l : List α) (n : Nat), n ≤ l.foldl (fun m x => max m (f x)) n
  | [], _ => Nat.le_refl _
  | x :: l, n => (Nat.le_max_left n (f x)).trans (le_foldl_max f l (max n (f x)))

section
variable (s : State) (d : Nat)

theorem setDomain_awake (v : Nat) : (s.setDomain d v).awake = s.awake := by
  unfold State.setDomain
  dsimp only
  split <;> simp only [State.awake, State.wf_frame, State.mRecs_frame, State.mRecs_recs]

theorem domainResult_awake (st : Status) : (s.domainResult d st).awake = s.awake := by simp only [State.awake, State.domainResult, State.wf_frame]

theorem domainQueue_awake : (s.domainQueue d).awake = s.awake := by
  unfold State.domainQueue
  split
  · rfl
  · simp only [State.awake, State.mPower_frame, State.mPower_power]

variable {s d}

/-- A domain that something asks for: its settling changes its own register, the queue of ramps and the counts alone. -/
theorem domainSettle_keeps (h : s.domainWant d ≠ 0) : (s.domainSettle d).awake = s.awake ∧ ∀ k, k ≠ domainReg d 4 → (s.domainSettle d).rd k = s.rd k := by
  unfold State.domainSettle
  dsimp only
  split
  · exact ⟨rfl, fun _ _ => rfl⟩
  · split
    · split
      · split
        · exact ⟨(setDomain_awake ..).trans (domainResult_awake ..), fun k hk => (setDomain_rd _ hk).trans (domainResult_rd s d _ hk)⟩
        · split
          · exact ⟨domainResult_awake .., fun k hk => domainResult_rd s d _ hk⟩
          · exact ⟨(domainQueue_awake ..).trans (domainResult_awake ..), fun k hk => (domainQueue_rd ..).trans (domainResult_rd s d _ hk)⟩
      · exact ⟨domainResult_awake .., fun k hk => domainResult_rd s d _ hk⟩
    · have hpower (f : PowerSt → List Nat) : (s.mPower fun p => { p with waiting := f p }).awake = s.awake := by
        simp only [State.awake, State.mPower_frame, State.mPower_power]
      split
      · exact ⟨(domainResult_awake ..).trans (hpower _), fun k hk => (domainResult_rd _ d _ hk).trans (State.mPower_rd ..)⟩
      · exact ⟨(domainResult_awake ..).trans ((setDomain_awake ..).trans (hpower _)),
          fun k hk => (domainResult_rd _ d _ hk).trans ((setDomain_rd _ hk).trans (State.mPower_rd ..))⟩

/-- A domain that is OFF or in RETAIN waits for its ramp. -/
theorem domainSettle_low (h2 : s.domainState d < 2) (hw : 2 ≤ s.domainWant d) : (s.domainSettle d).domainState d = s.domainState d := by
  have hres (st : Status) : (s.domainResult d st).domainState d = s.domainState d := rf_wf_ne _ _ _ (by decide) (by decide) (.inl (by decide))
  unfold State.domainSettle
  dsimp only
  rw [if_neg (by omega), if_pos (by omega)]
  split
  · rw [if_neg (by omega)]
    split
    · exact hres _
    · exact (domainState_congr (domainQueue_rd ..)).trans (hres _)
  · exact hres _

variable (s)

/-- A domain's FLOOR set to ON, and the domain settled. -/
def State.floorOn (s : State) (d : Nat) : State := (s.wf (domainReg d 0) 31 30 3).domainSettle d

theorem floorOn_want (hd : d ≠ 0) : 3 ≤ (s.wf (domainReg d 0) 31 30 3).domainWant d := by
  have hfloor : (s.wf (domainReg d 0) 31 30 3).floor d = 3 := by
    rw [State.floor, if_neg hd, rf_wf_same _ _ _ (by decide) (by decide)]
    norm_num
  unfold State.domainWant
  rw [hfloor]
  exact (Nat.le_max_left ..).trans (le_foldl_max ..)

theorem floorOn_keeps (hd : d ≠ 0) : (s.floorOn d).awake = s.awake ∧ ∀ k, k ≠ domainReg d 0 → k ≠ domainReg d 4 → (s.floorOn d).rd k = s.rd k := by
  have hw := floorOn_want s hd
  obtain ⟨hawake, hrd⟩ := domainSettle_keeps (s := s.wf (domainReg d 0) 31 30 3) (d := d) (by omega)
  exact ⟨hawake.trans (by simp only [State.awake, State.wf_frame]), fun k h0 h4 => (hrd k h4).trans (rd_wf_ne _ h0)⟩

theorem floorOn_low (hd : d ≠ 0) (h2 : s.domainState d < 2) : (s.floorOn d).domainState d = s.domainState d := by
  have hw := floorOn_want s hd
  have hst : (s.wf (domainReg d 0) 31 30 3).domainState d = s.domainState d := domainState_congr (rd_wf_ne _ (by unfold domainReg; omega))
  rw [State.floorOn, domainSettle_low (by rw [hst]; exact h2) (by omega), hst]

theorem raiseSafe_eq : s.raiseAll [1, 2, 3] = ((s.floorOn 1).floorOn 2).floorOn 3 := by
  simp only [State.raiseAll, State.domainAbsent, Bool.false_eq_true, if_false, State.floorOn]

/-- The three safe domains on their way up. -/
theorem raiseSafe_keeps : (s.raiseAll [1, 2, 3]).awake = s.awake ∧ ∀ k, (k < 0x00101020 ∨ 0x00101080 ≤ k) → (s.raiseAll [1, 2, 3]).rd k = s.rd k := by
  rw [raiseSafe_eq]
  obtain ⟨h1, hrd1⟩ := floorOn_keeps s (d := 1) (by decide)
  obtain ⟨h2, hrd2⟩ := floorOn_keeps (s.floorOn 1) (d := 2) (by decide)
  obtain ⟨h3, hrd3⟩ := floorOn_keeps ((s.floorOn 1).floorOn 2) (d := 3) (by decide)
  refine ⟨h3.trans (h2.trans h1), fun k hk => ?_⟩
  rw [hrd3 k (by unfold domainReg; omega) (by unfold domainReg; omega), hrd2 k (by unfold domainReg; omega) (by unfold domainReg; omega),
    hrd1 k (by unfold domainReg; omega) (by unfold domainReg; omega)]

theorem raiseSafe_low (h : s.domainState 1 < 2) : (s.raiseAll [1, 2, 3]).domainState 1 < 2 := by
  rw [raiseSafe_eq]
  have h3 := (floorOn_keeps ((s.floorOn 1).floorOn 2) (d := 3) (by decide)).2 (domainReg 1 4) (by decide) (by decide)
  have h2 := (floorOn_keeps (s.floorOn 1) (d := 2) (by decide)).2 (domainReg 1 4) (by decide) (by decide)
  rw [domainState_congr h3, domainState_congr h2, floorOn_low s (by decide) h]
  exact h

end

/-! ### The cold start (R583) -/

theorem startRun_waits {s : State} (h : s.startOne = none) (n : Nat) : s.startRun n = s := by
  cases n with
  | zero => rfl
  | succ n => rw [State.startRun, h]

/-- At its first point the start waits for the safe domains. -/
theorem startGo_waits {s : State} (hl : s.start.list = []) (hs : s.start.step = 1) (h1 : s.domainState 1 < 2) : s.startGo = s := by
  refine startRun_waits ?_ 128
  have hup : s.allUp [1, 2, 3] = false := by
    have h3 : s.domainState 1 ≠ 3 := by omega
    simp [State.allUp, State.domainAbsent, h3]
  unfold State.startOne
  simp [hl, hs, hup]

/-- AON reads ON, with its units. -/
def State.aonOn (s : State) : State :=
  (s.domainUnits 0).foldl (fun s u => s.mUnit u fun x => { x with state := 3, req := 3, target := 3 }) (s.setDomain 0 3)

/-- The phase and the Husks at the first point of a start. -/
def State.phaseShown (s : State) : State := ((s.phaseTo 1).wf 0x00300000 31 29 1).wf 0x00300000 28 26 1

/-- What a start sets before its domains rise. -/
def State.startSet (s : State) : State :=
  s.aonOn.phaseShown.mStart fun t => { t with step := 1, since := s.aonOn.phaseShown.now, tried := [], list := [], waitFrom := none }

theorem startBegin_eq (s : State) : s.startBegin = (s.startSet.raiseAll [1, 2, 3]).startGo := rfl

theorem aonOn_awake (s : State) : s.aonOn.awake = s.awake := by
  unfold State.aonOn
  refine (unitsSet_keeps _ State.awake (fun t u f => ?_) _ _).trans (setDomain_awake ..)
  simp only [State.awake, State.mUnit, State.mPods_frame]

theorem aonOn_rd (s : State) (k : Nat) : s.aonOn.rd k = (s.setDomain 0 3).rd k :=
  unitsSet_keeps _ (State.rd · k) (fun _ _ _ => State.mPods_rd ..) _ _

theorem phaseShown_rd (s : State) {k : Nat} (h2 : k ≠ 0x00200000) (h3 : k ≠ 0x00300000) : s.phaseShown.rd k = s.rd k := by
  rw [State.phaseShown, State.phaseTo, rd_wf_ne _ h3, rd_wf_ne _ h3, rd_wf_ne _ h2]

theorem phaseShown_phase (s : State) : s.phaseShown.rf 0x00200000 31 28 = 1 := by
  rw [State.phaseShown, State.phaseTo, rf_congr (rd_wf_ne _ (by decide)), rf_congr (rd_wf_ne _ (by decide)), rf_wf_same _ _ _ (by decide) (by decide)]
  norm_num

theorem phaseShown_awake (s : State) : s.phaseShown.awake = s.awake := by
  simp only [State.awake, State.phaseShown, State.phaseTo, State.wf_frame]

theorem startSet_shown (s : State) : s.startSet.start.step = 1 ∧ s.startSet.start.list = [] ∧ s.startSet.start.since = s.now
    ∧ s.startSet.rf 0x00200000 31 28 = 1 ∧ s.startSet.domainState 0 = 3 ∧ s.startSet.domainState 1 = s.domainState 1
    ∧ (s.startSet.power.huskFail = s.power.huskFail ∧ s.startSet.power.railEn = s.power.railEn) ∧ s.startSet.recs.slots = s.recs.slots := by
  have hawake : s.aonOn.phaseShown.awake = s.awake := (phaseShown_awake _).trans (aonOn_awake s)
  simp only [State.awake, Prod.mk.injEq] at hawake
  obtain ⟨hnow, -, ⟨hfail, hrail⟩, hslots⟩ := hawake
  have hrd (d : Nat) (hd : d < 2) : s.aonOn.phaseShown.rd (domainReg d 4) = (s.setDomain 0 3).rd (domainReg d 4) := by
    rw [phaseShown_rd _ (by unfold domainReg; omega) (by unfold domainReg; omega), aonOn_rd]
  unfold State.startSet
  refine ⟨?_, ?_, ?_, ?_, ?_, ?_, ?_, ?_⟩
  · simp only [State.mStart_start]
  · simp only [State.mStart_start]
  · simp only [State.mStart_start, hnow]
  · rw [rf_congr (State.mStart_rd ..), phaseShown_phase]
  · rw [domainState_congr (State.mStart_rd ..), domainState_congr (hrd 0 (by decide)), setDomain_shown _ (by decide)]
  · rw [domainState_congr (State.mStart_rd ..), domainState_congr (hrd 1 (by decide)), domainState_congr (setDomain_rd _ (by decide))]
  · simp only [State.mStart_frame, hfail, hrail, and_self]
  · simp only [State.mStart_frame, hslots]

/-- A start that begins waits at its first point for the safe domains. -/
theorem startBegin_shown {s : State} (h1 : s.domainState 1 < 2) : s.startBegin.start.step = 1 ∧ s.startBegin.rf 0x00200000 31 28 = 1
    ∧ s.startBegin.domainState 0 = 3 ∧ s.startBegin.power.huskFail = s.power.huskFail ∧ s.startBegin.power.railEn = s.power.railEn
    ∧ s.startBegin.start.since = s.now ∧ s.startBegin.recs.slots = s.recs.slots := by
  obtain ⟨hstep, hlist, hsince, hphase, h0, hst1, ⟨hfail, hrail⟩, hslots⟩ := startSet_shown s
  obtain ⟨hawake, hrd⟩ := raiseSafe_keeps s.startSet
  have hlow := raiseSafe_low s.startSet (by rw [hst1]; exact h1)
  simp only [State.awake, Prod.mk.injEq] at hawake
  obtain ⟨-, hstart, ⟨hfail', hrail'⟩, hslots'⟩ := hawake
  rw [startBegin_eq, startGo_waits (by rw [hstart, hlist]) (by rw [hstart, hstep]) hlow]
  exact ⟨by rw [hstart, hstep], by rw [rf_congr (hrd _ (.inr (by decide))), hphase], by rw [domainState_congr (hrd _ (.inl (by decide))), h0],
    by rw [hfail', hfail], by rw [hrail', hrail], by rw [hstart, hsince], by rw [hslots', hslots]⟩

/-- A recorder slot emptied without counting a clear. -/
def RecSlot.emptied (c : RecSlot) : RecSlot :=
  { seq := c.seq, clears := c.clears, clearAt := c.clearAt, clearer := c.clearer, clearTold := c.clearTold }

/-- What a cold start sets before its first point. -/
def State.coldSet (s : State) : State :=
  let s := s.mRecs fun r => { slots := r.slots.map fun c => (c.1, c.2.emptied) }
  let s := ((s.wr 0x00100020 0).wb 0x00100028 31 true).wb 0x00100028 30 false
  ((s.wr 0x00200000 0).failPin true).mPower fun p => { p with railEn := true }

/-- The critical temperature that was owed is reported. -/
def State.critTold (s : State) : State :=
  match s.power.critOwed with
  | some v => (s.mPower fun p => { p with critOwed := none }).emitPf 0x11 .fault (0xFF * 2 ^ 24 + v)
  | none => s

theorem coldStart_eq (s : State) : s.coldStart = s.coldSet.critTold.startBegin := rfl

theorem coldSet_shown (s : State) : s.coldSet.power.huskFail = true ∧ s.coldSet.power.railEn = true ∧ s.coldSet.now = s.now
    ∧ s.coldSet.recs.slots = s.recs.slots.map (fun c => (c.1, c.2.emptied)) ∧ s.coldSet.domainState 1 = s.domainState 1 := by
  unfold State.coldSet State.failPin
  refine ⟨?_, ?_, ?_, ?_, ?_⟩
  · simp only [State.mPower_power]
  · simp only [State.mPower_power]
  · simp only [State.mPower_frame, State.wb_frame, State.wr_frame, State.mRecs_frame]
  · simp only [State.mPower_frame, State.wb_frame, State.wr_frame, State.mRecs_recs]
  · refine domainState_congr ?_
    rw [State.mPower_rd, State.mPower_rd, rd_wb_ne _ (by decide), State.rd_wr_ne _ (by decide), rd_wb_ne _ (by decide), rd_wb_ne _ (by decide),
      State.rd_wr_ne _ (by decide), State.mRecs_rd]

/-- An event to the PF leaves the power state, time, the start, the Husks, the recorder and the queue. -/
theorem emitPf_parts (s : State) (kind : Nat) (st : Status) (detail : Nat) : (s.emitPf kind st detail).power = s.power ∧ (s.emitPf kind st detail).now = s.now
    ∧ (s.emitPf kind st detail).start = s.start ∧ (s.emitPf kind st detail).husk = s.husk ∧ (s.emitPf kind st detail).recs = s.recs
    ∧ (s.emitPf kind st detail).pending = s.pending := by
  have hrest := (emitAt_only s pfWin kind st.code 0 detail s.now).rest
  exact ⟨(congrArg State.power hrest :), (congrArg State.now hrest :), (congrArg State.start hrest :), (congrArg State.husk hrest :),
    (congrArg State.recs hrest :), (congrArg State.pending hrest :)⟩

theorem critTold_shown (s : State) : s.critTold.power.huskFail = s.power.huskFail ∧ s.critTold.power.railEn = s.power.railEn ∧ s.critTold.now = s.now
    ∧ s.critTold.recs.slots = s.recs.slots ∧ s.critTold.domainState 1 = s.domainState 1 := by
  unfold State.critTold
  split
  next v _ =>
    obtain ⟨hpower, hnow, -, -, hrecs, -⟩ := emitPf_parts (s.mPower fun p => { p with critOwed := none }) 0x11 .fault (0xFF * 2 ^ 24 + v)
    rw [hpower, hnow, hrecs]
    refine ⟨by simp only [State.mPower_power], by simp only [State.mPower_power], by simp only [State.mPower_frame], by simp only [State.mPower_frame],
      domainState_congr ?_⟩
    exact (emitAt_rd_below _ _ _ _ _ _ _ (by decide)).trans (State.mPower_rd ..)
  next => exact ⟨rfl, rfl, rfl, rfl, rfl⟩

theorem emptied_get (n : Nat) : ∀ l : Tbl RecSlot, tget {} (l.map fun c => (c.1, c.2.emptied)) n = (tget {} l n).emptied
  | [] => rfl
  | (k, c) :: l => by
    simp only [List.map_cons, tget]
    split
    · rfl
    · exact emptied_get n l

theorem coldStart_shown {s : State} (h1 : s.domainState 1 < 2) : s.coldStart.start.step = 1 ∧ s.coldStart.rf 0x00200000 31 28 = 1
    ∧ s.coldStart.domainState 0 = 3 ∧ s.coldStart.power.huskFail = true ∧ s.coldStart.power.railEn = true ∧ s.coldStart.start.since = s.now
    ∧ ∀ n, s.coldStart.recSlot n = (s.recSlot n).emptied := by
  obtain ⟨hfail, hrail, hnow, hslots, hst⟩ := coldSet_shown s
  obtain ⟨hfail', hrail', hnow', hslots', hst'⟩ := critTold_shown s.coldSet
  obtain ⟨hstep, hphase, h0, hf, hr, hsince, hs⟩ := startBegin_shown (s := s.coldSet.critTold) (by rw [hst', hst]; exact h1)
  rw [coldStart_eq]
  refine ⟨hstep, hphase, h0, by rw [hf, hfail', hfail], by rw [hr, hrail', hrail], by rw [hsince, hnow', hnow], fun n => ?_⟩
  rw [State.recSlot, hs, hslots', hslots, emptied_get, State.recSlot]

/-! ### Supplies (R611, R695, R696) -/

/-- The flash that was fitted while the device was off. -/
def State.flashFitted (s : State) (f : FlashIn) : State :=
  f.runs.foldl (fun (s : State) (r : Nat × Bytes) => s.flashPut r.1 r.2)
    ((s.mStart fun t => { t with flash := [], flashBad := f.bad, spares := f.spares }).wr 0x0020004C (f.sizeMiB * 2 ^ 16 + f.eraseKiB))

/-- PWRGOOD counts as risen. -/
def State.pwrgoodUp (s : State) : State := s.mPower fun p => { p with pwrgood := true, goodAt := s.now }

theorem flashPut_rd (s : State) (a : Nat) (b : Bytes) (k : Nat) : (s.flashPut a b).rd k = s.rd k := State.mStart_rd ..

theorem flashFitted_shown (s : State) (f : FlashIn) : (s.flashFitted f).power = s.power ∧ (s.flashFitted f).now = s.now
    ∧ (s.flashFitted f).start.flashBad = f.bad ∧ (s.flashFitted f).start.spares = f.spares
    ∧ (s.flashFitted f).rd 0x0020004C = (f.sizeMiB * 2 ^ 16 + f.eraseKiB) % 2 ^ 32 := by
  unfold State.flashFitted
  refine ⟨?_, ?_, ?_, ?_, ?_⟩
  · refine (foldl_keeps State.power (fun t r => ?_) _ _).trans ?_
    · simp only [State.flashPut, State.mStart_frame]
    · simp only [State.wr_frame, State.mStart_frame]
  · refine (foldl_keeps State.now (fun t r => ?_) _ _).trans ?_
    · simp only [State.flashPut, State.mStart_frame]
    · simp only [State.wr_frame, State.mStart_frame]
  · refine (foldl_keeps (fun t : State => t.start.flashBad) (fun t r => ?_) _ _).trans ?_
    · simp only [State.flashPut, State.mStart_start]
    · simp only [State.wr_frame, State.mStart_start]
  · refine (foldl_keeps (fun t : State => t.start.spares) (fun t r => ?_) _ _).trans ?_
    · simp only [State.flashPut, State.mStart_start]
    · simp only [State.wr_frame, State.mStart_start]
  · exact (foldl_keeps (fun t : State => t.rd 0x0020004C) (fun t (r : Nat × Bytes) => flashPut_rd t r.1 r.2 _) _ _).trans (State.rd_wr_same ..)

theorem Frame.flashFitted (s : State) (f : FlashIn) : Frame [.power, .start] [0x0020004C] s (s.flashFitted f) := by
  unfold State.flashFitted
  exact Frame.foldl (fun _ _ _ h => h.flashPut (by simp) ..) (((Frame.refl ..).mStart (by simp) _).wr (by simp) _)

section
variable {s u : State} {dt : Nat} (hu : u = s.tick dt)
include hu

theorem pwrgoodRise_on (h : u.power.pwrgood = true) (flash : Option FlashIn) : exec (.pwrgoodRise dt flash) s = .next u := by
  subst hu
  exact if_pos h

variable (h : u.power.pwrgood = false)
include h

theorem pwrgoodRise_bare : exec (.pwrgoodRise dt none) s =
    .next (if u.power.aonLow || u.power.safeLow || u.power.critical then u.pwrgoodUp else u.pwrgoodUp.coldStart) := by
  subst hu
  refine (if_neg (by rw [h]; decide)).trans ?_
  exact (apply_ite Host.Outcome.next ..).symm

theorem pwrgoodRise_fitted (f : FlashIn) : exec (.pwrgoodRise dt (some f)) s =
    .next (if u.power.aonLow || u.power.safeLow || u.power.critical then (u.flashFitted f).pwrgoodUp else (u.flashFitted f).pwrgoodUp.coldStart) := by
  have hpower := (flashFitted_shown u f).1
  rw [← hpower]
  subst hu
  refine (if_neg (by rw [h]; decide)).trans ?_
  exact (apply_ite Host.Outcome.next ..).symm

theorem pwrgoodFall_off : exec (.pwrgoodFall dt) s = .next u := by
  subst hu
  exact if_pos (by rw [h]; rfl)

end

theorem pwrgoodFall_on {s u : State} {dt : Nat} (hu : u = s.tick dt) (h : u.power.pwrgood = true) : exec (.pwrgoodFall dt) s =
    .next (((u.deviceReset false).wr 0x00300018 0).mPower fun p => { p with pwrgood := false, huskFail := true }) := by
  subst hu
  exact if_neg (by rw [h]; decide)

theorem deviceReset_pwrgood (s : State) (sleep : Bool) : (s.deviceReset sleep).power.pwrgood = s.power.pwrgood := by
  obtain ⟨c, st, hcut⟩ := flashCut_only s
  rw [deviceReset_eq]
  simp only [State.wr_frame]
  rw [State.resetHeld, hcut]

/-- VDD_SAFE lost: the device is in reset with HUSK_FAIL_N low. -/
def State.safeLost (s : State) : State := ((s.deviceReset false).failPin true).mPower fun p => { p with safeLow := true }

theorem vddSafeLoss_next {s u : State} {dt : Nat} (hu : u = s.tick dt) : exec (.vddSafeLoss dt) s = .next u.safeLost := by
  rw [exec_vddSafeLoss, execVddSafeLoss, ← hu]
  rfl

theorem safeLost_rd (s : State) (k : Nat) : s.safeLost.rd k = ((s.deviceReset false).wb 0x00300000 24 true).rd k :=
  (State.mPower_rd ..).trans (State.mPower_rd ..)

theorem safeLost_power (s : State) : s.safeLost.power = { (s.deviceReset false).power with huskFail := true, safeLow := true } := by
  simp only [State.safeLost, State.failPin, State.mPower_power, State.wb_frame]

theorem safeLost_rest (s : State) : s.safeLost.now = (s.deviceReset false).now ∧ s.safeLost.recs = (s.deviceReset false).recs
    ∧ s.safeLost.pending = (s.deviceReset false).pending ∧ s.safeLost.hostMem = (s.deviceReset false).hostMem ∧ s.safeLost.mem = (s.deviceReset false).mem := by
  simp only [State.safeLost, State.failPin, State.mPower_frame, State.wb_frame, and_self]

theorem vddSafeReturn_next {s u : State} {dt : Nat} (hu : u = s.tick dt) : exec (.vddSafeReturn dt) s =
    if !u.power.safeLow then .next u
    else if u.power.pwrgood ∧ ¬ u.power.aonLow then .next (u.mPower fun p => { p with safeLow := false }).coldStart
    else .next (u.mPower fun p => { p with safeLow := false }) := by
  subst hu
  rfl

theorem vddAonReturn_next {s u : State} {dt : Nat} (hu : u = s.tick dt) : exec (.vddAonReturn dt) s =
    if !u.power.aonLow then .next u
    else if u.power.pwrgood ∧ ¬ u.power.safeLow then .next (u.mPower fun p => { p with aonLow := false, goodAt := u.now }).coldStart
    else .next (u.mPower fun p => { p with aonLow := false, goodAt := u.now }) := by
  subst hu
  rfl

/-- Of two rails that a start waits for, one is back: the start begins where the other is there. -/
theorem start_if {p q : Bool} (s t : State) :
    (if p = true ∧ ¬ q = true then .next s else .next t : Host.Outcome State Fault Refusal) = .next (if p && !q then s else t) := by
  cases p <;> cases q <;> rfl

/-- VDD_AON lost, before the two registers it writes. -/
def State.aonGone (s : State) : State :=
  { s.deviceReset false with now := 0, recs := {}, regs := [], power := { pwrgood := s.power.pwrgood, safeLow := s.power.safeLow, aonLow := true } }

/-- VDD_AON lost. -/
def State.aonLost (s : State) : State := (s.aonGone.wr 0x00180000 (s.row.capDefaultW * 10)).wr 0x0020004C (s.rd 0x0020004C)

theorem vddAonLoss_next {s u : State} {dt : Nat} (hu : u = s.tick dt) : exec (.vddAonLoss dt) s = .next u.aonLost := by
  rw [exec_vddAonLoss, execVddAonLoss, ← hu]
  rfl

theorem aonGone_rd (s : State) (k : Nat) : s.aonGone.rd k = regReset k % 2 ^ 32 := BitVec.toNat_ofNat ..

theorem aonLost_rd (s : State) {k : Nat} (h0 : k ≠ 0x00180000) (h4 : k ≠ 0x0020004C) : s.aonLost.rd k = regReset k % 2 ^ 32 := by
  rw [State.aonLost, State.rd_wr_ne _ h4, State.rd_wr_ne _ h0, aonGone_rd]

theorem aonLost_flash (s : State) : s.aonLost.rd 0x0020004C = s.rd 0x0020004C := by
  rw [State.aonLost, State.rd_wr_same, Nat.mod_eq_of_lt (State.rd_lt ..)]

theorem aonLost_rest (s : State) : s.aonLost.now = 0 ∧ s.aonLost.recs = {}
    ∧ s.aonLost.power = { pwrgood := s.power.pwrgood, safeLow := s.power.safeLow, aonLow := true }
    ∧ s.aonLost.mem = (s.deviceReset false).mem ∧ s.aonLost.hostMem = (s.deviceReset false).hostMem ∧ s.aonLost.pending = (s.deviceReset false).pending := by
  simp only [State.aonLost, State.wr_frame, State.aonGone, and_self]

/-! ### The end of a start, and its timeout (R580, R587, R616) -/

/-- The phase FULL and the time the start took. -/
def State.fullShown (s : State) (us : Nat) : State := ((s.phaseTo 4).wr 0x0020000C (min (2 ^ 32 - 1) us)).failPin false

/-- The end of a start reported, and of a return. -/
def State.fullTold (s : State) (us : Nat) : State :=
  let s := s.emitPf 0x18 .ok (4 * 2 ^ 28 + s.rf 0x00200000 27 26 * 2 ^ 26 + s.rf 0x00200000 25 25 * 2 ^ 25 + s.rf 0x00200000 22 22 * 2 ^ 24
    + min (2 ^ 24 - 1) (us / 1000))
  if s.start.returning then
    s.emitPf 0xD2 .ok (min 65535 ((s.now - s.husk.degradedAt) / 1000000000) * 2 ^ 16 + min 65535 s.husk.failed)
  else s

/-- The start is over. -/
def State.startOver (s : State) : State :=
  let s := s.mHusk fun h => { h with failed := 0, retryAt := none }
  s.mStart fun t => { t with step := 0, returning := false, recDue := some (s.now + 900000000000) }

theorem startFull_eq {s u : State} {dt : Nat} (hu : u = (s.tick dt).startGo) : exec (.startFull dt) s =
    if u.start.step ≠ 33 ∨ u.start.list ≠ [] then .next u
    else .next (((u.fullShown ((u.now - u.start.since) / 1000)).fullTold ((u.now - u.start.since) / 1000)).startOver) := by
  rw [exec_startFull, execStartFull, ← hu]
  rfl

theorem fullTold_keeps (s : State) (us : Nat) : (s.fullTold us).power = s.power ∧ (s.fullTold us).now = s.now ∧ (s.fullTold us).pending = s.pending
    ∧ ∀ k, k < 0x00410000 → (s.fullTold us).rd k = s.rd k := by
  unfold State.fullTold
  extract_lets t
  have ht : t.power = s.power ∧ t.now = s.now ∧ t.pending = s.pending ∧ ∀ k, k < 0x00410000 → t.rd k = s.rd k := by
    obtain ⟨hpower, hnow, -, -, -, hqueue⟩ := emitPf_parts s 0x18 .ok (4 * 2 ^ 28 + s.rf 0x00200000 27 26 * 2 ^ 26 + s.rf 0x00200000 25 25 * 2 ^ 25
      + s.rf 0x00200000 22 22 * 2 ^ 24 + min (2 ^ 24 - 1) (us / 1000))
    exact ⟨hpower, hnow, hqueue, fun k hk => emitAt_rd_below _ _ _ _ _ _ _ hk⟩
  obtain ⟨hpower, hnow, hqueue, hrd⟩ := ht
  split
  · obtain ⟨hpower', hnow', -, -, -, hqueue'⟩ := emitPf_parts t 0xD2 .ok
      (min 65535 ((t.now - t.husk.degradedAt) / 1000000000) * 2 ^ 16 + min 65535 t.husk.failed)
    exact ⟨hpower'.trans hpower, hnow'.trans hnow, hqueue'.trans hqueue, fun k hk => (emitAt_rd_below _ _ _ _ _ _ _ hk).trans (hrd k hk)⟩
  · exact ⟨hpower, hnow, hqueue, hrd⟩

theorem startOver_shown (s : State) : s.startOver.start.step = 0 ∧ s.startOver.start.returning = false
    ∧ s.startOver.start.recDue = some (s.now + 900000000000) ∧ s.startOver.husk.failed = 0 ∧ s.startOver.husk.retryAt = none
    ∧ s.startOver.now = s.now ∧ s.startOver.pending = s.pending ∧ s.startOver.power = s.power ∧ ∀ k, s.startOver.rd k = s.rd k := by
  unfold State.startOver
  refine ⟨?_, ?_, ?_, ?_, ?_, ?_, ?_, ?_, fun k => (State.mStart_rd ..).trans (State.mHusk_rd ..)⟩ <;>
    simp only [State.mStart_start, State.mStart_frame, State.mHusk_husk, State.mHusk_frame]

theorem fullShown_shown (s : State) (us : Nat) : (s.fullShown us).rf 0x00200000 31 28 = 4
    ∧ (s.fullShown us).rf 0x00200000 27 22 = s.rf 0x00200000 27 22 ∧ (s.fullShown us).rd 0x0020000C = min (2 ^ 32 - 1) us
    ∧ (s.fullShown us).power.huskFail = false ∧ (s.fullShown us).now = s.now ∧ (s.fullShown us).pending = s.pending := by
  have hword (k : Nat) (hk : k ≠ 0x00300000) : (s.fullShown us).rd k = ((s.phaseTo 4).wr 0x0020000C (min (2 ^ 32 - 1) us)).rd k := by
    rw [State.fullShown, State.failPin, State.mPower_rd, rd_wb_ne _ hk]
  refine ⟨?_, ?_, ?_, ?_, ?_, ?_⟩
  · rw [rf_congr (hword _ (by decide)), rf_congr (State.rd_wr_ne _ (by decide)), State.phaseTo, rf_wf_same _ _ _ (by decide) (by decide)]
    norm_num
  · rw [rf_congr (hword _ (by decide)), rf_congr (State.rd_wr_ne _ (by decide)), State.phaseTo, rf_wf_ne _ _ _ (by decide) (by decide) (.inr (by decide))]
  · rw [hword _ (by decide), State.rd_wr_same, Nat.mod_eq_of_lt (by omega)]
  · simp only [State.fullShown, State.failPin, State.mPower_power]
  · simp only [State.fullShown, State.failPin, State.mPower_frame, State.wb_frame, State.wr_frame, State.phaseTo, State.wf_frame]
  · simp only [State.fullShown, State.failPin, State.mPower_frame, State.wb_frame, State.wr_frame, State.phaseTo, State.wf_frame]

/-- The slot of a start that ran out of time is marked TRIED_BAD. -/
def State.slotTried (s : State) : State := match s.activeSlot with | some k => s.wb 0x00200004 (29 - k) true | none => s

theorem startTimeout_next {s u : State} {dt : Nat} {hosts : List HostRun} (hu : u = s.tickMem dt hosts) (h1 : 1 ≤ u.start.step) (h33 : u.start.step ≤ 33)
    (h25 : u.rb 0x00200000 25 = false) (hnow : u.start.since + 2000000000 ≤ u.now) : exec (.startTimeout dt hosts) s =
    if u.start.returning then .next (u.degradedEnter hosts) else .next (u.slotTried.deviceReset false).coldStart := by
  rw [exec_startTimeout, execStartTimeout, ← hu]
  refine if_neg ?_
  rw [h25]
  simp only [Bool.false_eq_true, false_or, not_or]
  omega

/-- Settles O47: a start that begins waits at its first point, because a domain whose FLOOR is set to ON settles without going ON at once; a supply
lost is a device reset. -/
theorem startAndSupplies : Obligations.StartAndSupplies := by
  unfold Obligations.StartAndSupplies
  refine ⟨fun u t h1 ht => ?cold, fun dt f s u hu h => ⟨?bare, ?fitted⟩, fun dt s u hu h => ?fall,
    fun dt flash s u hu => ⟨fun h => pwrgoodRise_on hu h flash, fun h => pwrgoodFall_off hu h⟩, fun dt s u hu => ?safeLoss, fun dt s u hu h => ?safeReturn,
    fun dt s u hu => ?aonLoss, fun dt s u hu h => ?aonReturn, fun dt s u hu => ⟨fun h => ?safeThere, fun h => ?aonThere⟩,
    fun dt s u hu hlist hstep => ?full, fun dt s u hu h => ?notYet, fun dt hosts s u hu h1 h33 h25 hnow => ⟨fun hret => ?back, fun hret => ?again⟩⟩
  case cold =>
    obtain ⟨hstep, hphase, h0, hfail, hrail, hsince, hslots⟩ := coldStart_shown h1
    subst ht
    exact ⟨hstep, hphase, h0, hfail, hrail, hsince, fun n => by rw [hslots]; exact ⟨rfl, rfl, rfl, rfl⟩⟩
  case bare =>
    exact ⟨_, State.mPower_power .., (Frame.refl ..).mPower (by simp) _, pwrgoodRise_bare hu h⟩
  case fitted =>
    obtain ⟨hpower, hnow, hbad, hspares, hinfo⟩ := flashFitted_shown u f
    refine ⟨(u.flashFitted f).pwrgoodUp, ?_, ?_, ?_, ?_, (Frame.flashFitted u f).mPower (by simp) _, pwrgoodRise_fitted hu h f⟩
    · rw [State.pwrgoodUp, State.mPower_power, hpower, hnow]
    · simp only [State.pwrgoodUp, State.mPower_frame, hbad]
    · simp only [State.pwrgoodUp, State.mPower_frame, hspares]
    · rw [State.pwrgoodUp, State.mPower_rd, hinfo]
  case fall => exact ⟨_, deviceReset_resetFrom u false, pwrgoodFall_on hu h⟩
  case safeLoss =>
    obtain ⟨kept, -, cleared, mem, -, -, hostMem, recs, now, queue, -⟩ := deviceReset_resetFrom u false
    obtain ⟨hnow, hrecs, hqueue, hhost, hmem⟩ := safeLost_rest u
    have hpower := safeLost_power u
    refine ⟨_, vddSafeLoss_next hu, by rw [hpower], by rw [hpower], ?_, ?_, by rw [hnow, now], by rw [hrecs, recs], by rw [hqueue, queue], by rw [hhost, hostMem],
      fun a => by rw [hmem, mem], fun k hk h0 h3 => ?_, fun k hk hne => ?_⟩
    · rw [rb_congr (safeLost_rd u _), rb_wb_same _ _ _ (by decide)]
    · rw [hpower]
      exact deviceReset_pwrgood u false
    · rw [safeLost_rd, rd_wb_ne _ h3, cleared k hk h0]
    · have h3 : k ≠ 0x00300000 := fun e => by rw [e] at hk; exact absurd hk (by decide)
      rw [safeLost_rd, rd_wb_ne _ h3, kept k hk hne]
  case safeReturn =>
    refine ⟨u.mPower fun p => { p with safeLow := false }, State.mPower_power .., (Frame.refl ..).mPower (by simp) _, ?_⟩
    rw [vddSafeReturn_next hu, if_neg (by simp [h]), start_if]
  case aonLoss =>
    obtain ⟨-, -, -, mem, -, -, hostMem, -, -, queue, -⟩ := deviceReset_resetFrom u false
    obtain ⟨hnow, hrecs, hpower, hmem, hhost, hqueue⟩ := aonLost_rest u
    exact ⟨_, vddAonLoss_next hu, hnow, hrecs, by rw [hpower], by rw [hpower], by rw [hpower], aonLost_flash u, fun k h0 h4 => aonLost_rd u h0 h4,
      fun a => by rw [hmem, mem], by rw [hhost, hostMem], by rw [hqueue, queue]⟩
  case aonReturn =>
    refine ⟨u.mPower fun p => { p with aonLow := false, goodAt := u.now }, State.mPower_power .., (Frame.refl ..).mPower (by simp) _, ?_⟩
    rw [vddAonReturn_next hu, if_neg (by simp [h]), start_if]
  case safeThere => rw [vddSafeReturn_next hu, if_pos (by simp [h])]
  case aonThere => rw [vddAonReturn_next hu, if_pos (by simp [h])]
  case full =>
    have hnext := startFull_eq hu
    rw [if_neg (by simp [hlist, hstep])] at hnext
    generalize (u.now - u.start.since) / 1000 = us at *
    obtain ⟨hphase, hslot, htime, hfail, hnow, hqueue⟩ := fullShown_shown u us
    obtain ⟨hpower', hnow', hqueue', hrd'⟩ := fullTold_keeps (u.fullShown us) us
    obtain ⟨hstep0, hret, hdue, hfailed, hretry, hnow'', hqueue'', hpower'', hrd''⟩ := startOver_shown ((u.fullShown us).fullTold us)
    have hword (k : Nat) (hk : k < 0x00410000) : ((u.fullShown us).fullTold us).startOver.rd k = (u.fullShown us).rd k := by rw [hrd'', hrd' k hk]
    exact ⟨_, hnext, by rw [rf_congr (hword _ (by decide)), hphase], by rw [rf_congr (hword _ (by decide)), hslot], by rw [hword _ (by decide), htime],
      by rw [hpower'', hpower', hfail], hstep0, hret, by rw [hdue, hnow', hnow], hfailed, hretry, by rw [hnow'', hnow', hnow], by rw [hqueue'', hqueue', hqueue]⟩
  case notYet =>
    rw [startFull_eq hu, if_pos]
    exact h.symm
  case back => rw [startTimeout_next hu h1 h33 h25 hnow, if_pos hret]
  case again =>
    refine ⟨u.slotTried, _, fun k hk => ?_, fun hnone => ?_, deviceReset_resetFrom _ false, ?_⟩
    · rw [State.slotTried, hk]
    · rw [State.slotTried, hnone]
    · rw [startTimeout_next hu h1 h33 h25 hnow, if_neg (by simp [hret])]

end Sys2Proof.Machine
end

section
/-!
PROOFS. Live update: load, activate, revert, hand-over and move (R596 to R606).
-/
namespace Sys2Proof.Machine

theorem exec_load (dt k : Nat) (r : Req) (s : State) : exec (.load dt r k) s = execLoad dt r k s := rfl
theorem exec_updateLoaded (dt : Nat) (hosts : List HostRun) (s : State) : exec (.updateLoaded dt hosts) s = execUpdateLoaded dt hosts s := rfl
theorem exec_activate (dt k : Nat) (r : Req) (s : State) : exec (.activate dt r k) s = execActivate dt r k s := rfl
theorem exec_revert (dt k : Nat) (r : Req) (s : State) : exec (.revert dt r k) s = execRevert dt r k s := rfl
theorem exec_handoverDone (dt pause : Nat) (s : State) : exec (.handoverDone dt pause) s = execHandoverDone dt pause s := rfl
theorem exec_updateFailed (dt : Nat) (s : State) : exec (.updateFailed dt) s = execUpdateFailed dt s := rfl
theorem exec_move (dt k : Nat) (r : Req) (s : State) : exec (.move dt r k) s = execMove dt r k s := rfl
theorem exec_spareLockTimeout (dt : Nat) (s : State) : exec (.spareLockTimeout dt) s = execSpareLockTimeout dt s := rfl

/-! ### The statuses of the commands, in the order of R19 -/

theorem load_status : ∀ denied idle claimed bad busy : Bool,
    byR19 [(denied, .denied), (idle, .badState), (claimed, .claimed), (bad, .badParam), (busy, .busy)] =
      if denied then .denied else if idle then .badState else if claimed then .claimed else if bad then .badParam else if busy then .busy else .ok := by decide

theorem hand_status : ∀ denied claimed bad busy : Bool, byR19 [(denied, .denied), (claimed, .claimed), (bad, .badState), (busy, .busy)] =
      if denied then .denied else if bad then .badState else if claimed then .claimed else if busy then .busy else .ok := by decide

/-! ### A command that begins or ends -/

section
variable (s : State) (o : UpdOp) (st : Status)

theorem updBegin_shown : (s.updBegin o).rb 0x00200114 0 = true ∧ (s.updBegin o).start = { s.start with upd := some o } := by
  unfold State.updBegin
  exact ⟨(rb_congr (State.mStart_rd ..) _).trans (rb_wb_same _ _ _ (by decide)), by simp only [State.mStart_start, State.wb_frame]⟩

theorem updEnd_shown : (s.updEnd st).rb 0x00200114 0 = false ∧ (s.updEnd st).rf 0x00200114 22 16 = st.code
    ∧ (s.updEnd st).start = { s.start with upd := none } := by
  unfold State.updEnd State.updResult
  refine ⟨?_, ?_, by simp only [State.mStart_start, State.wf_frame, State.wb_frame]⟩
  · rw [rb_congr (State.mStart_rd ..), rb_wf_ne _ _ _ (by decide) (by decide) (by decide), rb_wb_same _ _ _ (by decide)]
  · rw [rf_congr (State.mStart_rd ..), rf_wf_same _ _ _ (by decide) (by decide)]
    exact Nat.mod_eq_of_lt st.code_lt

theorem updBegin_unit (k : Nat) : (s.updBegin o).unit k = s.unit k := by rw [State.updBegin, mStart_unit, wb_unit]

theorem updEnd_unit (k : Nat) : (s.updEnd st).unit k = s.unit k := by rw [State.updEnd, State.updResult, mStart_unit, wf_unit, wb_unit]

end

theorem Frame.updBegin {s t : State} {ps : List Part} {ks : List Nat} (h : Frame ps ks s t) (hp : Part.start ∈ ps) (hk : 0x00200114 ∈ ks) (o : UpdOp) :
    Frame ps ks s (t.updBegin o) := (h.wb hk ..).mStart hp _

theorem Frame.updEnd {s t : State} {ps : List Part} {ks : List Nat} (h : Frame ps ks s t) (hp : Part.start ∈ ps) (hk : 0x00200114 ∈ ks) (st : Status) :
    Frame ps ks s (t.updEnd st) := ((h.wb hk ..).wf hk ..).mStart hp _

/-! ### LOAD (R596, R597) -/

/-- What LOAD takes. -/
def State.loadOp (s : State) (r : Req) (k : Nat) : UpdOp :=
  { op := 1, index := k, at_ := s.now, addr := s.rd64 0x00200100, len := s.rd 0x00200108, secure := s.reqSecure r }

section
variable {s u : State} {dt k : Nat} {r : Req} (hu : u = s.tick dt) (hpf : pathWin r.path = pfWin)
include hu hpf

theorem load_next : exec (.load dt r k) s =
    match (if !u.reqSecure r && (u.updUnits k).any u.safeUnit then .denied else if u.noWork then .badState
      else if (k :: u.updUnits k).any fun x => u.claimBlocks x (u.reqSecure r) then .claimed
      else if (k != 0 && (u.updUnits k).isEmpty) || u.rd64 0x00200100 % 64 != 0 then .badParam else if u.start.upd.isSome then .busy else .ok : Status) with
    | .ok => .next (u.updBegin (u.loadOp r k))
    | st => .next (u.updResult st) := by
  rw [exec_load, execLoad, ← hu, ← load_status]
  exact if_neg (not_not.mpr hpf)

theorem load_denied (hr : u.reqSecure r = false) (hs : (u.updUnits k).any u.safeUnit = true) :
    exec (.load dt r k) s = .next (u.wf 0x00200114 22 16 Status.denied.code) := by
  rw [load_next hu hpf, hr, hs]
  rfl

variable (hr : u.reqSecure r = true ∨ (u.updUnits k).any u.safeUnit = false) (hc : ∀ x ∈ k :: u.updUnits k, u.claimBlocks x (u.reqSecure r) = false)
  (hk : k = 0 ∨ u.updUnits k ≠ []) (ha : u.rd64 0x00200100 % 64 = 0) (hw : u.noWork = false)
include hr hc hk ha hw

theorem load_checked : exec (.load dt r k) s =
    if u.start.upd.isSome then .next (u.updResult .busy) else .next (u.updBegin (u.loadOp r k)) := by
  have hdenied : (!u.reqSecure r && (u.updUnits k).any u.safeUnit) = false := by rcases hr with h | h <;> simp [h]
  have hclaimed : ((k :: u.updUnits k).any fun x => u.claimBlocks x (u.reqSecure r)) = false := by
    rw [List.any_eq_false]
    exact fun x hx => by simp [hc x hx]
  have hbad : ((k != 0 && (u.updUnits k).isEmpty) || u.rd64 0x00200100 % 64 != 0) = false := by
    rcases hk with h | h <;> simp [h, ha]
  rw [load_next hu hpf, hdenied, hclaimed, hbad, hw]
  cases u.start.upd <;> rfl

end

/-! ### A package that has been read (R596, R597) -/

/-- The slots a package fills. -/
def State.loadTodo (s : State) (o : UpdOp) (recs : List (Nat × Nat)) : List (Nat × Nat) :=
  recs.flatMap fun y => ((s.unitsOf y.1).filter fun k => o.index == 0 || (s.updUnits o.index).contains k).map fun k => (k, y.2)

/-- How the bytes of a package are read. -/
def packageRead (o : UpdOp) (c : Bytes) : ImgRead := fun a n => if o.len < a + n then none else some ((c.drop a).take n)

/-- The slots filled. -/
def State.slotsPut (s : State) (todo : List (Nat × Nat)) : State := todo.foldl (fun s y => s.slotPut y.1 y.2) s

section
variable {s u x : State} {dt : Nat} {hosts : List HostRun} {o : UpdOp} (hu : u = s.tickMem dt hosts) (ho : u.start.upd = some o) (hop : o.op = 1)
include hu ho hop

theorem updateLoaded_unread (h : u.fetch pfWin 6 o.addr o.len (runAt hosts pfWin o.addr o.len) = (none, x)) :
    exec (.updateLoaded dt hosts) s = .next (x.updFail o .fault) := by
  simp only [exec_updateLoaded, execUpdateLoaded, ← hu, ho, hop, ne_eq, not_true, if_false, h]

variable {c : Bytes} (h : u.fetch pfWin 6 o.addr o.len (runAt hosts pfWin o.addr o.len) = (some c, x))
include h

theorem updateLoaded_bad {code : Nat} (hf : imgFault x.start.rollback x.row.code o.len true (packageRead o c) = some code) :
    exec (.updateLoaded dt hosts) s = .next (x.updFail o (statusOf code)) := by
  unfold packageRead at hf
  simp only [exec_updateLoaded, execUpdateLoaded, ← hu, ho, hop, ne_eq, not_true, if_false, h, hf]

theorem updateLoaded_record {st : Status} (hf : imgFault x.start.rollback x.row.code o.len true (packageRead o c) = none)
    (hr : packageRecords (packageRead o c) = .error st) : exec (.updateLoaded dt hosts) s = .next (x.updFail o st) := by
  unfold packageRead at hf hr
  simp only [exec_updateLoaded, execUpdateLoaded, ← hu, ho, hop, ne_eq, not_true, if_false, h, hf, hr]

theorem updateLoaded_done {recs : List (Nat × Nat)} (hf : imgFault x.start.rollback x.row.code o.len true (packageRead o c) = none)
    (hr : packageRecords (packageRead o c) = .ok recs) (hs : o.secure = true ∨ ∀ y ∈ x.loadTodo o recs, x.safeUnit y.1 = false)
    (hc : ∀ y ∈ x.loadTodo o recs, x.claimBlocks y.1 o.secure = false) (hne : x.loadTodo o recs ≠ []) :
    exec (.updateLoaded dt hosts) s =
      .next (((x.slotsPut (x.loadTodo o recs)).updEnd .ok).emitPf 0x1D .ok (((x.loadTodo o recs).headD (0, 0)).2 * 2 ^ 16 + o.index)) := by
  have hst : byR19 [(!o.secure && (x.loadTodo o recs).any fun y => x.safeUnit y.1, .denied), ((x.loadTodo o recs).any fun y => x.claimBlocks y.1 o.secure, .claimed),
      ((x.loadTodo o recs).isEmpty, .badParam)] = .ok := by
    refine byR19_ok ?_
    have hdenied : (!o.secure && (x.loadTodo o recs).any fun y => x.safeUnit y.1) = false := by
      rcases hs with hs | hs
      · rw [hs]; rfl
      · rw [Bool.and_eq_false_iff]
        exact .inr (List.any_eq_false.mpr fun y hy => by simp [hs y hy])
    have hclaimed : ((x.loadTodo o recs).any fun y => x.claimBlocks y.1 o.secure) = false := List.any_eq_false.mpr fun y hy => by simp [hc y hy]
    simp [hdenied, hclaimed, hne]
  unfold packageRead at hf hr
  unfold State.loadTodo at hst
  simp only [exec_updateLoaded, execUpdateLoaded, ← hu, ho, hop, ne_eq, not_true, if_false, h, hf, hr, hst]
  rfl

end

section
variable (s : State)

theorem slotPut_unit (k ver j : Nat) : (s.slotPut k ver).unit j =
    if j = k then (if (s.unit k).otherSlot = 1 then { s.unit k with verA := ver } else { s.unit k with verB := ver }) else s.unit j := by
  rw [State.slotPut, mStart_unit, mUnit_unit]

theorem slotsPut_unit_ne {k : Nat} : ∀ (todo : List (Nat × Nat)) (s : State), (∀ y ∈ todo, y.1 ≠ k) → (s.slotsPut todo).unit k = s.unit k
  | [], _, _ => rfl
  | y :: todo, s, h => by
    rw [State.slotsPut, List.foldl_cons, ← State.slotsPut, slotsPut_unit_ne todo _ fun z hz => h z (List.mem_cons_of_mem _ hz), slotPut_unit,
      if_neg (h y List.mem_cons_self).symm]

/-- A slot filled holds the version; the active slot stays. -/
theorem slotPut_filled (k ver : Nat) : ((s.slotPut k ver).unit k).slotVer (s.unit k).otherSlot = ver
    ∧ ((s.slotPut k ver).unit k).slotActive = (s.unit k).slotActive := by
  rw [slotPut_unit, if_pos rfl]
  split
  next h => exact ⟨by rw [h]; rfl, rfl⟩
  next h => exact ⟨if_neg h, rfl⟩

end

/-! ### Hand-over (R597, R598, R606) -/

/-- The units of a command have the slot as the pending one. -/
def State.slotPends (s : State) (us : List Nat) (slot : Nat) : State := us.foldl (fun s x => s.mUnit x fun y => { y with slotPending := slot }) s

/-- A Husk whose hand-over begins reads UPDATING. -/
def State.huskHands (s : State) (k : Nat) : State :=
  match s.unitAt k with
  | some (0x12, b) => (s.setHusk b 4).setHand b (s.now + 1)
  | _ => s

/-- A hand-over begins. -/
def State.handBegun (s : State) (r : Req) (op k slot : Nat) : State :=
  (((s.slotPends (s.updUnits k) slot).huskHands k).updBegin
    { op := op, index := k, slot := slot, at_ := ((s.slotPends (s.updUnits k) slot).huskHands k).now, secure := s.reqSecure r })

section
variable {s : State} {r : Req} {op k slot : Nat} (hpf : pathWin r.path = pfWin)
include hpf

theorem handOver_eq : s.handOver r op k slot =
    match (if !s.reqSecure r && (s.updUnits k).any s.safeUnit then .denied
      else if s.noWork || (s.updUnits k).isEmpty || slot == 0 || (s.unit k).slotVer slot == 0 || !s.partnerOk k then .badState
      else if (k :: s.updUnits k).any fun x => s.claimBlocks x (s.reqSecure r) then .claimed else if s.start.upd.isSome then .busy else .ok : Status) with
    | .ok => s.handBegun r op k slot
    | st => s.updResult st := by
  rw [State.handOver, ← hand_status]
  exact if_neg (not_not.mpr hpf)

theorem handOver_denied (hr : s.reqSecure r = false) (hs : (s.updUnits k).any s.safeUnit = true) :
    s.handOver r op k slot = s.wf 0x00200114 22 16 Status.denied.code := by
  rw [handOver_eq hpf, hr, hs]
  rfl

variable (hr : s.reqSecure r = true ∨ (s.updUnits k).any s.safeUnit = false)
include hr

theorem handOver_badState (h : s.noWork = true ∨ s.updUnits k = [] ∨ slot = 0 ∨ (s.unit k).slotVer slot = 0 ∨ s.partnerOk k = false) :
    s.handOver r op k slot = s.wf 0x00200114 22 16 Status.badState.code := by
  have hdenied : (!s.reqSecure r && (s.updUnits k).any s.safeUnit) = false := by rcases hr with h | h <;> simp [h]
  have hbad : (s.noWork || (s.updUnits k).isEmpty || slot == 0 || (s.unit k).slotVer slot == 0 || !s.partnerOk k) = true := by
    rcases h with h | h | h | h | h <;> simp [h]
  rw [handOver_eq hpf, hdenied, hbad]
  rfl

theorem handOver_taken (hc : ∀ x ∈ k :: s.updUnits k, s.claimBlocks x (s.reqSecure r) = false) (hk : s.updUnits k ≠ []) (hslot : slot ≠ 0)
    (hver : (s.unit k).slotVer slot ≠ 0) (hp : s.partnerOk k = true) (hupd : s.start.upd = none) (hw : s.noWork = false) :
    s.handOver r op k slot = s.handBegun r op k slot := by
  have hdenied : (!s.reqSecure r && (s.updUnits k).any s.safeUnit) = false := by rcases hr with h | h <;> simp [h]
  have hbad : (s.noWork || (s.updUnits k).isEmpty || slot == 0 || (s.unit k).slotVer slot == 0 || !s.partnerOk k) = false := by
    simp [hw, hk, hslot, hver, hp]
  have hclaimed : ((k :: s.updUnits k).any fun x => s.claimBlocks x (s.reqSecure r)) = false := by
    rw [List.any_eq_false]
    exact fun x hx => by simp [hc x hx]
  rw [handOver_eq hpf, hdenied, hbad, hclaimed, hupd]
  rfl

end

theorem updUnits_nodup (s : State) (k : Nat) : (s.updUnits k).Nodup := by
  unfold State.updUnits
  split
  · exact List.nodup_range.filter _
  · split
    · exact List.nodup_singleton _
    · exact List.nodup_nil
  · exact List.nodup_nil

theorem updUnits_congr {s t : State} (h : t.variant = s.variant) (k : Nat) : t.updUnits k = s.updUnits k := by
  simp only [State.updUnits, State.unitsOf, State.unitAt, State.row, h]

/-- Each unit of a list is changed once. -/
theorem unitsSet_unit (f : UnitSt → UnitSt) (j : Nat) : ∀ (us : List Nat) (s : State), us.Nodup →
    (us.foldl (fun s x => s.mUnit x f) s).unit j = if j ∈ us then f (s.unit j) else s.unit j
  | [], _, _ => rfl
  | x :: us, s, h => by
    obtain ⟨hx, hus⟩ := List.nodup_cons.mp h
    rw [List.foldl_cons, unitsSet_unit f j us _ hus, mUnit_unit]
    by_cases hj : j = x
    · subst hj
      rw [if_neg hx, if_pos rfl, if_pos List.mem_cons_self]
    · simp only [hj, if_false, List.mem_cons, false_or]

theorem Frame.slotPends {s t : State} {ps : List Part} {ks : List Nat} (h : Frame ps ks s t) (hp : Part.pods ∈ ps) (us : List Nat) (slot : Nat) :
    Frame ps ks s (t.slotPends us slot) := Frame.foldl (fun _ _ _ h => h.mPods hp _) h

theorem Frame.huskHands {s t : State} {ps : List Part} {ks : List Nat} (h : Frame ps ks s t) (hp : Part.husk ∈ ps) (hk : 0x00300000 ∈ ks) (k : Nat) :
    Frame ps ks s (t.huskHands k) := by
  unfold State.huskHands
  split
  · exact (h.setHusk hk ..).mHusk hp _
  · exact h

theorem huskHands_unit (s : State) (k j : Nat) : (s.huskHands k).unit j = s.unit j := by
  have hpods : (s.huskHands k).pods = s.pods := (Frame.huskHands (ps := [.husk]) (ks := [0x00300000]) (.refl ..) (by simp) (by simp) k).parts .pods (by simp)
  rw [State.unit, hpods, State.unit]

theorem huskHands_state {s : State} {k b : Nat} (h : s.unitAt k = some (0x12, b)) : (s.huskHands k).huskState b = 4 := by
  simp only [State.huskHands, h, State.setHand]
  rw [huskState_congr (State.mHusk_rd ..), setHusk_state s b (by decide)]

theorem huskHands_start (s : State) (k : Nat) : (s.huskHands k).start = s.start :=
  (Frame.huskHands (ps := [.husk]) (ks := [0x00300000]) (.refl ..) (by simp) (by simp) k).parts .start (by simp)

section
variable (s : State) (r : Req) (op k slot : Nat)

theorem Frame.handBegun : Frame [.start, .pods, .husk] [0x00200114, 0x00300000] s (s.handBegun r op k slot) :=
  (((Frame.refl ..).slotPends (by simp) ..).huskHands (by simp) (by simp) _).updBegin (by simp) (by simp) _

theorem slotPends_start (us : List Nat) : (s.slotPends us slot).start = s.start :=
  ((Frame.refl s [.pods] []).slotPends (by simp) us slot).parts .start (by simp)

theorem handBegun_unit (j : Nat) : (s.handBegun r op k slot).unit j = if j ∈ s.updUnits k then { s.unit j with slotPending := slot } else s.unit j := by
  rw [State.handBegun, updBegin_unit, huskHands_unit, State.slotPends, unitsSet_unit _ j _ s (updUnits_nodup s k)]

theorem handBegun_shown : (s.handBegun r op k slot).rb 0x00200114 0 = true
    ∧ (s.handBegun r op k slot).start = { s.start with upd := some { op := op, index := k, slot := slot, at_ := s.now, secure := s.reqSecure r } }
    ∧ ∀ b, s.unitAt k = some (0x12, b) → (s.handBegun r op k slot).huskState b = 4 := by
  have hpends := (Frame.refl s [.pods] []).slotPends (by simp) (s.updUnits k) slot
  have hframe := (((Frame.refl s [.pods, .husk] [0x00300000]).slotPends (by simp) (s.updUnits k) slot).huskHands (by simp) (by simp) k)
  obtain ⟨hbusy, hstart⟩ := updBegin_shown ((s.slotPends (s.updUnits k) slot).huskHands k)
    { op := op, index := k, slot := slot, at_ := ((s.slotPends (s.updUnits k) slot).huskHands k).now, secure := s.reqSecure r }
  refine ⟨hbusy, ?_, fun b hb => ?_⟩
  · rw [State.handBegun, hstart, huskHands_start, slotPends_start, hframe.now]
  · rw [State.handBegun, huskState_congr, huskHands_state]
    · rw [unitAt_congr hpends.variant, hb]
    · exact ((Frame.refl _ [.start] [0x00200114]).updBegin (by simp) (by simp) _).regs _ (by decide)

end

/-! ### The end of a hand-over (R597, R600, R606) -/

/-- A Husk's hand-over is over. -/
def State.huskClears (s : State) (k : Nat) : State :=
  match s.unitAt k with
  | some (0x12, b) => (if s.huskState b = 4 then s.setHusk b 0 else s).setHand b 0
  | _ => s

theorem handClear_eq (s : State) (k : Nat) : s.handClear k = (s.slotPends (s.updUnits k) 0).huskClears k := rfl

theorem Frame.huskClears {s t : State} {ps : List Part} {ks : List Nat} (h : Frame ps ks s t) (hp : Part.husk ∈ ps) (hk : 0x00300000 ∈ ks) (k : Nat) :
    Frame ps ks s (t.huskClears k) := by
  unfold State.huskClears
  split
  next b _ =>
    by_cases h4 : t.huskState b = 4
    · rw [if_pos h4]
      exact (h.setHusk hk ..).mHusk hp _
    · rw [if_neg h4]
      exact h.mHusk hp _
  next => exact h

theorem huskClears_state {s : State} {k b : Nat} (h : s.unitAt k = some (0x12, b)) :
    (s.huskClears k).huskState b = if s.huskState b = 4 then 0 else s.huskState b := by
  simp only [State.huskClears, h, State.setHand]
  rw [huskState_congr (State.mHusk_rd ..)]
  split
  · exact setHusk_state s b (by decide)
  · rfl

theorem Frame.handClear {s t : State} {ps : List Part} {ks : List Nat} (h : Frame ps ks s t) (hp : Part.pods ∈ ps) (hh : Part.husk ∈ ps) (hk : 0x00300000 ∈ ks)
    (k : Nat) : Frame ps ks s (t.handClear k) := by
  rw [handClear_eq]
  exact (h.slotPends hp ..).huskClears hh hk k

section
variable (s : State) (k : Nat)

theorem handClear_start : (s.handClear k).start = s.start :=
  ((Frame.refl s [.pods, .husk] [0x00300000]).handClear (by simp) (by simp) (by simp) k).parts .start (by simp)

theorem handClear_variant : (s.handClear k).variant = s.variant :=
  ((Frame.refl s [.pods, .husk] [0x00300000]).handClear (by simp) (by simp) (by simp) k).variant

theorem handClear_unit (j : Nat) : (s.handClear k).unit j = if j ∈ s.updUnits k then { s.unit j with slotPending := 0 } else s.unit j := by
  have hpods : ((s.slotPends (s.updUnits k) 0).huskClears k).pods = (s.slotPends (s.updUnits k) 0).pods :=
    ((Frame.refl _ [.husk] [0x00300000]).huskClears (by simp) (by simp) k).parts .pods (by simp)
  rw [handClear_eq, State.unit, hpods, ← State.unit, State.slotPends, unitsSet_unit _ j _ s (updUnits_nodup s k)]

variable {k} in
theorem handClear_husk {b : Nat} (h : s.unitAt k = some (0x12, b)) : (s.handClear k).huskState b = if s.huskState b = 4 then 0 else s.huskState b := by
  have hpends := (Frame.refl s [.pods] []).slotPends (by simp) (s.updUnits k) 0
  rw [handClear_eq, huskClears_state (by rw [unitAt_congr hpends.variant, h]), huskState_congr (hpends.regs _ (by simp))]

/-- A unit goes over to a slot, and remembers the one before. -/
def State.slotTaken (s : State) (slot x : Nat) : State :=
  (s.mStart fun t => { t with ran := tset 0 t.ran x (s.unit x).slotActive }).mUnit x fun y => { y with slotActive := slot, fw := y.slotVer slot }

/-- The units of a command go over to the slot. -/
def State.slotsTaken (s : State) (us : List Nat) (slot : Nat) : State := us.foldl (fun s x => s.slotTaken slot x) s

variable (slot : Nat)

theorem slotTaken_unit (x j : Nat) : (s.slotTaken slot x).unit j = if j = x then { s.unit x with slotActive := slot, fw := (s.unit x).slotVer slot } else s.unit j := by
  rw [State.slotTaken, mUnit_unit, mStart_unit, mStart_unit]

theorem slotTaken_ran (x : Nat) : (s.slotTaken slot x).start = { s.start with ran := tset 0 s.start.ran x (s.unit x).slotActive } := by
  simp only [State.slotTaken, State.mUnit, State.mPods_frame, State.mStart_start]

theorem slotsTaken_unit (j : Nat) : ∀ (us : List Nat) (s : State), us.Nodup → (s.slotsTaken us slot).unit j =
    if j ∈ us then { s.unit j with slotActive := slot, fw := (s.unit j).slotVer slot } else s.unit j
  | [], _, _ => rfl
  | x :: us, s, h => by
    obtain ⟨hx, hus⟩ := List.nodup_cons.mp h
    rw [State.slotsTaken, List.foldl_cons, ← State.slotsTaken, slotsTaken_unit j us _ hus, slotTaken_unit]
    by_cases hj : j = x
    · subst hj
      rw [if_neg hx, if_pos rfl, if_pos List.mem_cons_self]
    · simp only [hj, if_false, List.mem_cons, false_or]

theorem slotsTaken_ran (j : Nat) : ∀ (us : List Nat) (s : State), us.Nodup → tget 0 (s.slotsTaken us slot).start.ran j =
    if j ∈ us then (s.unit j).slotActive else tget 0 s.start.ran j
  | [], _, _ => rfl
  | x :: us, s, h => by
    obtain ⟨hx, hus⟩ := List.nodup_cons.mp h
    rw [State.slotsTaken, List.foldl_cons, ← State.slotsTaken, slotsTaken_ran j us _ hus, slotTaken_unit, slotTaken_ran]
    by_cases hj : j = x
    · subst hj
      rw [if_neg hx, if_pos List.mem_cons_self, tget_tset_same]
    · simp only [hj, if_false, List.mem_cons, false_or, tget_tset_ne _ _ hj]

theorem Frame.slotTaken {s t : State} {ps : List Part} {ks : List Nat} (h : Frame ps ks s t) (hp : Part.start ∈ ps) (hq : Part.pods ∈ ps) (slot x : Nat) :
    Frame ps ks s (t.slotTaken slot x) := by
  unfold State.slotTaken
  exact (h.mStart hp _).mPods hq _

theorem Frame.slotsTaken {s t : State} {ps : List Part} {ks : List Nat} (h : Frame ps ks s t) (hp : Part.start ∈ ps) (hq : Part.pods ∈ ps) (us : List Nat) (slot : Nat) :
    Frame ps ks s (t.slotsTaken us slot) := Frame.foldl (fun _ _ _ h => h.slotTaken hp hq ..) h

theorem divergedSet_unit (j : Nat) : s.divergedSet.unit j = s.unit j := wb_unit ..

/-- A hand-over that came about, before its event. -/
def State.handEnded (s : State) : State := (((s.slotsTaken (s.updUnits k) slot).handClear k).divergedSet).updEnd .ok

theorem Frame.handEnded : Frame [.start, .pods, .husk] [0x00200114, 0x00300000, 0x00200000] s (s.handEnded k slot) :=
  ((((Frame.refl ..).slotsTaken (by simp) (by simp) ..).handClear (by simp) (by simp) (by simp) k).wb (by simp) ..).updEnd (by simp) (by simp) _

theorem handEnded_unit (j : Nat) : (s.handEnded k slot).unit j =
    if j ∈ s.updUnits k then { s.unit j with slotActive := slot, fw := (s.unit j).slotVer slot, slotPending := 0 } else s.unit j := by
  have htaken := (Frame.refl s [.start, .pods] []).slotsTaken (by simp) (by simp) (s.updUnits k) slot
  rw [State.handEnded, updEnd_unit, divergedSet_unit, handClear_unit, updUnits_congr htaken.variant, slotsTaken_unit slot j _ s (updUnits_nodup s k)]
  split <;> rfl

theorem handEnded_shown : (s.handEnded k slot).rb 0x00200114 0 = false ∧ (s.handEnded k slot).rf 0x00200114 22 16 = Status.ok.code
    ∧ (s.handEnded k slot).start.upd = none
    ∧ (∀ j ∈ s.updUnits k, tget 0 (s.handEnded k slot).start.ran j = (s.unit j).slotActive)
    ∧ ∀ b, s.unitAt k = some (0x12, b) → (s.handEnded k slot).huskState b = if s.huskState b = 4 then 0 else s.huskState b := by
  have htaken := (Frame.refl s [.start, .pods] []).slotsTaken (by simp) (by simp) (s.updUnits k) slot
  obtain ⟨hbusy, hresult, hstart⟩ := updEnd_shown ((s.slotsTaken (s.updUnits k) slot).handClear k).divergedSet .ok
  have hdiv : ((s.slotsTaken (s.updUnits k) slot).handClear k).divergedSet.start = (s.slotsTaken (s.updUnits k) slot).start := by
    rw [State.divergedSet]
    simp only [State.wb_frame]
    exact handClear_start ..
  refine ⟨hbusy, hresult, by rw [State.handEnded, hstart], fun j hj => ?_, fun b hb => ?_⟩
  · rw [State.handEnded, hstart, hdiv]
    exact (slotsTaken_ran slot j _ s (updUnits_nodup s k)).trans (if_pos hj)
  · have hword : (s.handEnded k slot).rd 0x00300000 = ((s.slotsTaken (s.updUnits k) slot).handClear k).rd 0x00300000 :=
      (((Frame.refl _ [.start] [0x00200114, 0x00200000]).wb (by simp) 24 _).updEnd (by simp) (by simp) .ok).regs _ (by decide)
    rw [huskState_congr hword, handClear_husk _ (by rw [unitAt_congr htaken.variant, hb]), huskState_congr (htaken.regs _ (by simp))]

end

section
variable {s u : State} {dt : Nat} {o : UpdOp} (hu : u = s.tick dt) (ho : u.start.upd = some o) (hop : o.op = 2 ∨ o.op = 3)
include hu ho hop

theorem handoverDone_next (pause : Nat) : exec (.handoverDone dt pause) s =
    if u.pauseMax o.index < pause ∨ ¬ u.handPoint o.index then .next u
    else .next ((u.handEnded o.index o.slot).emitPf 0x1E .ok (min 65535 pause * 2 ^ 16 + o.index)) := by
  have hkind : ¬ (o.op ≠ 2 ∧ o.op ≠ 3) := by omega
  simp only [exec_handoverDone, execHandoverDone, ← hu, ho, hkind, false_or]
  rfl

theorem updateFailed_next : exec (.updateFailed dt) s =
    if ¬ u.handPoint o.index ∨ u.now < o.begun.getD o.at_ + u.pauseMax o.index * 1000 then .next u
    else .next (((u.handClear o.index).updEnd .timeout).emitPf 0x1F .timeout (o.op * 2 ^ 28 + o.index)) := by
  have hkind : ¬ (o.op ≠ 2 ∧ o.op ≠ 3) := by omega
  simp only [exec_updateFailed, execUpdateFailed, ← hu, ho, hkind, false_or]
  rfl

end

/-! ### MOVE (R599) -/

theorem pipes_le (v : Variant) : v.row.pipes ≤ 16 := by cases v <;> decide

theorem unitAt_pipe {s : State} {u i : Nat} (h : s.unitAt u = some (0x20, i)) : i < 16 := by
  unfold State.unitAt at h
  split at h
  · cases h
  · obtain ⟨n, hn, hi⟩ := kindAt_mem h
    have hle : n ≤ 16 := by
      have hc := pipes_le s.variant
      simp only [VariantRow.kinds, List.mem_cons, Prod.mk.injEq, List.not_mem_nil] at hn
      norm_num at hn
      rw [hn]
      exact hc
    omega

/-- The spare's held registers are those of the pipe it will take over. -/
def State.spareRegs (s : State) (p q vActive : Nat) : State :=
  let s := [8, 0xC, 0x10, 0x14].foldl (fun s o => s.wr (pipeReg q o) (s.rd (pipeReg p o))) s
  ((s.wr (pipeReg q 0x28) (2 * 2 ^ 30 + p * 2 ^ 26 + 0x00400A00)).wr (pipeReg q 0x2C) 0).wr (pipeReg q 0x20) (vActive / 2)

/-- The spare starts. -/
def State.spareStarts (s : State) (q : Nat) : State :=
  ((((s.mDisplay fun d => { d with locks := tset {} d.locks q {} }).pipeGo q 1).pipeResult q .ok).pipeEvent q .ok).domainNeed (unitDomain 0x20 q)

/-- A spare set up beside pipe p. -/
def State.spareSet (x : State) (p q need : Nat) (c : PipeCfg) (bufs : List (List Nat)) : State :=
  ((x.setNeed q need).pllTake c).mPipe q fun y =>
    { y with cfg := c, store := bufs.map fun b => { chunks := b }, front := 0, stop := false, spareOf := some p }

/-- A move that begins. -/
def State.moveBegun (x : State) (p q need : Nat) (c : PipeCfg) (bufs : List (List Nat)) (k : Nat) (secure : Bool) : State :=
  let t := ((x.spareSet p q need c bufs).spareRegs p q c.vActive).spareStarts q
  t.updBegin { op := 4, index := k, at_ := t.now, secure := secure }

theorem move_next {s u x : State} {dt k v p q need : Nat} {r : Req} {c : PipeCfg} {bufs : List (List Nat)} (hu : u = s.tick dt) (hpf : pathWin r.path = pfWin)
    (hv : v = u.rf 0x00200110 11 0) (hk : u.unitAt k = some (0x20, q)) (hkv : u.unitAt v = some (0x20, p)) (hc : c = u.spareCfg q (u.pipe p).cfg)
    (hneed : need = scanoutNeed (c.pixelHz 0) c.bpp) (hclk : u.claimBlocks k (u.reqSecure r) = false) (hclv : u.claimBlocks v (u.reqSecure r) = false)
    (hspare : (u.unit k).spare = true) (hpq : p ≠ q) (hq0 : u.pipeState q = 0) (hchecks : (u.pipe q).checks = 0) (hp2 : u.pipeState p = 2)
    (hnext : (u.pipe p).next = none) (hupd : u.start.upd = none) (hw : u.noWork = false)
    (hpll : ((List.range 16).all fun i => !(i != q && u.pipeState i != 0 && (u.pipe i).cfg.pll == c.pll && (u.pipe i).cfg.pllOut == c.pllOut)) = true)
    (hbw : u.bwFits 0 (u.rf (bwKey 0 0) 15 0 + u.rf (bwKey 0 1) 15 0 + need) = true)
    (hplace : u.placeStore p (storeChunks c.hActive c.vActive c.bpp) c.buffers = some (bufs, x)) :
    exec (.move dt r k) s = .next (x.moveBegun p q need c bufs k (u.reqSecure r)) := by
  have hshort : ((List.range 16).any fun i => i != q && u.pipeState i != 0 && (u.pipe i).cfg.pll == c.pll && (u.pipe i).cfg.pllOut == c.pllOut) = false := by
    rw [List.any_eq_false]
    exact fun i hi => by simpa only [Bool.not_eq_true', Bool.not_eq_true] using List.all_eq_true.mp hpll i hi
  have hst : byR19 [(u.claimBlocks k (u.reqSecure r) || u.claimBlocks v (u.reqSecure r), .claimed),
      (u.noWork || !(u.unit k).spare || p == q || u.pipeState q != 0 || (u.pipe q).checks != 0 || u.pipeState p != 2 || (u.pipe p).next.isSome, .badState),
      (u.start.upd.isSome, .busy),
      (((List.range 16).any fun i => i != q && u.pipeState i != 0 && (u.pipe i).cfg.pll == c.pll && (u.pipe i).cfg.pllOut == c.pllOut)
        || !u.bwFits 0 (u.rf (bwKey 0 0) 15 0 + u.rf (bwKey 0 1) 15 0 + need), .noResource)] = .ok :=
    byR19_ok (by simp [hclk, hclv, hspare, hpq, hq0, hchecks, hp2, hnext, hupd, hw, hshort, hbw])
  rw [exec_move, execMove, ← hu]
  simp only [hpf, ne_eq, not_true, if_false, ← hv, hk, hkv, ← hc, ← hneed, hst, hplace]
  rfl

section
variable (x : State) {p q : Nat} (need : Nat) (c : PipeCfg) (bufs : List (List Nat))

theorem pllReg_ne_state (i j : Nat) : pipeReg i 4 ≠ pllReg j 0xC := by unfold pipeReg pllReg; omega

theorem setNeed_state (i : Nat) : (x.setNeed q need).rd (pipeReg i 4) = x.rd (pipeReg i 4) := by
  unfold State.setNeed State.bwTotal
  dsimp only
  rw [State.rd_wr_ne _ (by unfold pipeReg; omega), rd_wf_ne _ (by unfold pipeReg bwKey; omega), State.mSeed_rd]

theorem setNeed_now : (x.setNeed q need).now = x.now := by
  simp only [State.setNeed, State.bwTotal, State.wr_frame, State.wf_frame, State.mSeed_frame]

theorem pllTake_state (i : Nat) : (x.pllTake c).rd (pipeReg i 4) = x.rd (pipeReg i 4) := by
  unfold State.pllTake
  dsimp only
  rw [rd_wb_ne _ (pllReg_ne_state i _), rd_wb_ne _ (pllReg_ne_state i _)]
  split
  · exact State.mDisplay_rd ..
  · rfl

theorem pllTake_now : (x.pllTake c).now = x.now := by
  unfold State.pllTake
  dsimp only
  split <;> simp only [State.wb_frame, State.mDisplay_frame]

theorem spareSet_keeps (i : Nat) : (x.spareSet p q need c bufs).rd (pipeReg i 4) = x.rd (pipeReg i 4) ∧ (x.spareSet p q need c bufs).now = x.now := by
  unfold State.spareSet
  refine ⟨?_, ?_⟩
  · rw [State.mPipe, State.mDisplay_rd, pllTake_state, setNeed_state]
  · rw [State.mPipe]
    simp only [State.mDisplay_frame]
    rw [pllTake_now, setNeed_now]

theorem spareSet_pipe : ((x.spareSet p q need c bufs).pipe q).spareOf = some p ∧ ((x.spareSet p q need c bufs).pipe q).cfg = c := by
  rw [State.spareSet, mPipe_pipe_same]
  exact ⟨rfl, rfl⟩

end

section
variable (s : State) {p q : Nat}

theorem spareRegs_keeps (vActive i : Nat) : (s.spareRegs p q vActive).rd (pipeReg i 4) = s.rd (pipeReg i 4)
    ∧ (s.spareRegs p q vActive).display = s.display ∧ (s.spareRegs p q vActive).now = s.now := by
  have hne (o : Nat) (ho : o < 0x10000) (h4 : o ≠ 4) : pipeReg i 4 ≠ pipeReg q o := pipeReg_ne (by decide) ho (Ne.symm h4) i q
  unfold State.spareRegs
  simp only [List.foldl_cons, List.foldl_nil]
  refine ⟨?_, ?_, ?_⟩
  · rw [State.rd_wr_ne _ (hne _ (by decide) (by decide)), State.rd_wr_ne _ (hne _ (by decide) (by decide)), State.rd_wr_ne _ (hne _ (by decide) (by decide)),
      State.rd_wr_ne _ (hne _ (by decide) (by decide)), State.rd_wr_ne _ (hne _ (by decide) (by decide)), State.rd_wr_ne _ (hne _ (by decide) (by decide)),
      State.rd_wr_ne _ (hne _ (by decide) (by decide))]
  · simp only [State.wr_frame]
  · simp only [State.wr_frame]

theorem pipe_congr {s t : State} (h : t.display = s.display) (i : Nat) : t.pipe i = s.pipe i := by rw [State.pipe, h, State.pipe]

theorem domainNeed_keeps (d i : Nat) (hd : d < 24) : (s.domainNeed d).rd (pipeReg i 4) = s.rd (pipeReg i 4) ∧ (s.domainNeed d).display = s.display
    ∧ (s.domainNeed d).now = s.now := by
  unfold State.domainNeed State.domainQueue
  split
  · split
    · exact ⟨rd_wf_ne _ (by unfold pipeReg domainReg; omega), by simp only [State.wf_frame], by simp only [State.wf_frame]⟩
    · split
      · split
        · exact ⟨rfl, rfl, rfl⟩
        · exact ⟨State.mPower_rd .., by simp only [State.mPower_frame], by simp only [State.mPower_frame]⟩
      · exact ⟨rfl, rfl, rfl⟩
  · exact ⟨rfl, rfl, rfl⟩

theorem pipeEvent_keeps {i : Nat} (hi : i < 16) (q : Nat) (st : Status) : (s.pipeEvent q st).rd (pipeReg i 4) = s.rd (pipeReg i 4)
    ∧ (s.pipeEvent q st).display = s.display ∧ (s.pipeEvent q st).now = s.now := by
  have hrest := (emitAt_only s pfWin 0x47 st.code 0 (q * 2 ^ 24 + s.pipeState q * 2 ^ 16) s.now).rest
  exact ⟨emitPf_rd _ _ _ _ _ (by unfold pipeReg; omega) (by unfold pipeReg viReg pfWin; omega), (congrArg State.display hrest :), (congrArg State.now hrest :)⟩

theorem pipeDomain_lt (q : Nat) : unitDomain 0x20 q < 24 := by
  show (if q < 8 then 14 else 15) < 24
  split <;> decide

theorem spareStarts_shown {i : Nat} (hi : i < 16) (hq : q < 16) (hne : i ≠ q) : (s.spareStarts q).pipeState q = 1
    ∧ (s.spareStarts q).pipeState i = s.pipeState i ∧ (∀ j, (s.spareStarts q).pipe j = s.pipe j) ∧ (s.spareStarts q).now = s.now := by
  have hstart (t : State) : ((t.pipeGo q 1).pipeResult q .ok).pipeState q = 1 := by
    rw [State.pipeResult, State.pipeState, rf_wf_ne _ _ _ (by decide) (by decide) (.inr (by decide)), State.pipeGo, rf_wf_same _ _ _ (by decide) (by decide)]
    norm_num
  have hother (t : State) : ((t.pipeGo q 1).pipeResult q .ok).rd (pipeReg i 4) = t.rd (pipeReg i 4) := by
    have hreg : pipeReg i 4 ≠ pipeReg q 4 := by unfold pipeReg; omega
    rw [State.pipeResult, rd_wf_ne _ hreg, State.pipeGo, rd_wf_ne _ hreg]
  unfold State.spareStarts
  generalize hl : (s.mDisplay fun d => { d with locks := tset {} d.locks q {} }) = l
  have hlrd : l.rd (pipeReg i 4) = s.rd (pipeReg i 4) := hl ▸ State.mDisplay_rd ..
  have hlpipe (j : Nat) : l.pipe j = s.pipe j := by
    rw [← hl, State.pipe, State.mDisplay_display, State.pipe]
  have hlnow : l.now = s.now := by
    rw [← hl]
    simp only [State.mDisplay_frame]
  have hdom := pipeDomain_lt q
  have hevent := pipeEvent_keeps ((l.pipeGo q 1).pipeResult q .ok) hi q .ok
  have heventq := pipeEvent_keeps ((l.pipeGo q 1).pipeResult q .ok) hq q .ok
  obtain ⟨hrd, hdisplay, hnow⟩ := domainNeed_keeps (((l.pipeGo q 1).pipeResult q .ok).pipeEvent q .ok) (unitDomain 0x20 q) i hdom
  have hrdq := (domainNeed_keeps (((l.pipeGo q 1).pipeResult q .ok).pipeEvent q .ok) (unitDomain 0x20 q) q hdom).1
  refine ⟨?_, ?_, fun j => ?_, ?_⟩
  · rw [pipeState_congr _ hrdq, pipeState_congr _ heventq.1, hstart]
  · rw [pipeState_congr _ hrd, pipeState_congr _ hevent.1, pipeState_congr _ (hother l), pipeState_congr _ hlrd]
  · rw [pipe_congr hdisplay, pipe_congr hevent.2.1, ← hlpipe]
    exact pipe_congr (by simp only [State.pipeGo, State.pipeResult, State.wf_frame]) j
  · rw [hnow, hevent.2.2, ← hlnow]
    simp only [State.pipeGo, State.pipeResult, State.wf_frame]

end

theorem moveBegun_shown (x : State) {p q : Nat} (need : Nat) (c : PipeCfg) (bufs : List (List Nat)) (k : Nat) (secure : Bool) (hp : p < 16) (hq : q < 16) (hne : p ≠ q) :
    (x.moveBegun p q need c bufs k secure).start.upd = some { op := 4, index := k, at_ := x.now, secure := secure }
    ∧ (x.moveBegun p q need c bufs k secure).rb 0x00200114 0 = true ∧ ((x.moveBegun p q need c bufs k secure).pipe q).spareOf = some p
    ∧ ((x.moveBegun p q need c bufs k secure).pipe q).cfg = c ∧ (x.moveBegun p q need c bufs k secure).pipeState q = 1
    ∧ (x.moveBegun p q need c bufs k secure).pipeState p = x.pipeState p := by
  obtain ⟨hrd, hnow⟩ := spareSet_keeps x (p := p) (q := q) need c bufs p
  obtain ⟨hof, hcfg⟩ := spareSet_pipe x (p := p) (q := q) need c bufs
  obtain ⟨hrd', hdisplay, hnow'⟩ := spareRegs_keeps (x.spareSet p q need c bufs) (p := p) (q := q) c.vActive p
  obtain ⟨hq1, hp2, hpipe, hnow''⟩ := spareStarts_shown ((x.spareSet p q need c bufs).spareRegs p q c.vActive) hp hq hne
  unfold State.moveBegun
  generalize ((x.spareSet p q need c bufs).spareRegs p q c.vActive).spareStarts q = t at *
  dsimp only
  obtain ⟨hbusy, hstart⟩ := updBegin_shown t { op := 4, index := k, at_ := t.now, secure := secure }
  have hframe := (Frame.refl t [.start] [0x00200114]).updBegin (by simp) (by simp) { op := 4, index := k, at_ := t.now, secure := secure }
  have hupd (j : Nat) : (t.updBegin { op := 4, index := k, at_ := t.now, secure := secure }).pipe j = t.pipe j :=
    pipe_congr (hframe.parts .display (by simp)) j
  have hstate (j : Nat) : (t.updBegin { op := 4, index := k, at_ := t.now, secure := secure }).pipeState j = t.pipeState j :=
    pipeState_congr _ (hframe.regs _ (by simp only [List.mem_singleton]; unfold pipeReg; omega))
  refine ⟨by rw [hstart, hnow'', hnow', hnow], hbusy, ?_, ?_, by rw [hstate, hq1], by rw [hstate, hp2, pipeState_congr _ hrd', pipeState_congr _ hrd]⟩
  · rw [hupd, hpipe, pipe_congr hdisplay, hof]
  · rw [hupd, hpipe, pipe_congr hdisplay, hcfg]

theorem spareLockTimeout_next {s u : State} {dt p q : Nat} {o : UpdOp} (hu : u = s.tick dt) (hm : u.moving = some (p, q, o)) (hnow : o.at_ + 1000000000 ≤ u.now)
    (hto : (u.pipe p).moveTo = none) : exec (.spareLockTimeout dt) s =
    if u.pipeState p ≠ 2 then .next ((u.pipeRelease q).updFail o .badState) else .next (u.mPipe p fun ps => { ps with moveTo := some q }) := by
  rw [exec_spareLockTimeout, execSpareLockTimeout, ← hu]
  simp only [hm, Nat.not_lt.mpr hnow, hto, Option.isSome_none, Bool.false_eq_true, or_self, if_false]

/-- Settles O52: each command takes the first status of R19 that applies, and otherwise begins with BUSY; a hand-over ends in `handEnded`, or in
`handClear` where it fails. Which units a command names and when a spare takes over are the model's choices (log entries 63, 64 and 18). -/
theorem updates : Obligations.Updates := by
  unfold Obligations.Updates
  refine ⟨fun dt k r s u hu hpf hr hc hk ha hw => ⟨fun hupd => ?load, fun hupd => ?loadBusy⟩, fun dt k r i s u hu hpf hr hs hi => ?denied,
    fun dt hosts o x b s u hu ho hop hfetch => ?loaded, fun dt k op slot r i s u hu hpf hi hr => ⟨fun hbad => ?handBad, fun hc hk hslot hver hp hupd hw => ?hand⟩,
    fun dt pause o s u hu ho hop => ⟨fun hpause hpoint => ?done, fun h => ?notDone, fun hnow hpoint => ?failed, fun h => ?notFailed⟩,
    fun dt k v p q need r c bufs s u x hu hpf hv hk hkv hc hneed hclk hclv hspare hpq hq0 hchecks hp2 hnext hupd hw hpll hbw hplace => ?move,
    fun dt p q o s u hu hm hnow hto => ⟨fun h2 => ?lock, fun h2 => ?stopped⟩⟩
  case load =>
    obtain ⟨hbusy, hstart⟩ := updBegin_shown u (u.loadOp r k)
    refine ⟨_, ?_, hbusy, hstart, (Frame.refl ..).updBegin (by simp) (by simp) _⟩
    rw [load_checked hu hpf hr hc hk ha hw, hupd]
    rfl
  case loadBusy =>
    rw [load_checked hu hpf hr hc hk ha hw, if_pos (Option.isSome_iff_ne_none.mpr hupd)]
    rfl
  case denied =>
    rcases hi with rfl | rfl | rfl
    · exact load_denied hu hpf hr hs
    · rw [exec_activate, execActivate, ← hu, handOver_denied hpf hr hs]
    · rw [exec_revert, execRevert, ← hu, handOver_denied hpf hr hs]
  case loaded =>
    cases b with
    | none => exact updateLoaded_unread hu ho hop hfetch
    | some c =>
      dsimp only
      split
      next code hf => exact updateLoaded_bad hu ho hop hfetch hf
      next hf =>
        split
        next st hrec => exact updateLoaded_record hu ho hop hfetch hf hrec
        next recs hrec =>
          rintro todo rfl hs hc hne
          obtain ⟨hbusy, hresult, hstart⟩ := updEnd_shown (x.slotsPut (x.loadTodo o recs)) .ok
          refine ⟨_, updateLoaded_done hu ho hop hfetch hf hrec hs hc hne, hbusy, hresult, by rw [hstart], fun k hk => ?_, fun y hy => ?_⟩
          · rw [updEnd_unit]
            exact slotsPut_unit_ne _ x hk
          · rw [updEnd_unit, State.loadTodo, hy]
            exact slotPut_filled x y.1 y.2
  case handBad =>
    rcases hi with ⟨rfl, rfl, rfl⟩ | ⟨rfl, rfl, rfl⟩
    · rw [exec_activate, execActivate, ← hu, handOver_badState hpf hr hbad]
    · rw [exec_revert, execRevert, ← hu, handOver_badState hpf hr hbad]
  case hand =>
    have htaken := handOver_taken (op := op) hpf hr hc hk hslot hver hp hupd hw
    have hexec : exec i s = .next (u.handBegun r op k slot) := by
      rcases hi with ⟨rfl, rfl, rfl⟩ | ⟨rfl, rfl, rfl⟩
      · rw [exec_activate, execActivate, ← hu, htaken]
      · rw [exec_revert, execRevert, ← hu, htaken]
    obtain ⟨hbusy, hstart, hhusk⟩ := handBegun_shown u r op k slot
    refine ⟨_, hexec, fun y hy => ?_, fun y hy => ?_, hbusy, by rw [hstart], hhusk, Frame.handBegun u r op k slot⟩
    · rw [handBegun_unit, if_pos hy]
      exact ⟨rfl, rfl⟩
    · rw [handBegun_unit, if_neg hy]
  case done =>
    obtain ⟨hbusy, hresult, hupd, hran, hhusk⟩ := handEnded_shown u o.index o.slot
    refine ⟨u.handEnded o.index o.slot, ?_, fun y hy => ?_, fun y hy => ?_, hupd, hbusy, hresult, hhusk, Frame.handEnded u o.index o.slot⟩
    · rw [handoverDone_next hu ho hop, if_neg (by simp [Nat.not_lt.mpr hpause, hpoint])]
    · rw [handEnded_unit, if_pos hy]
      exact ⟨rfl, rfl, rfl, hran y hy⟩
    · rw [handEnded_unit, if_neg hy]
  case notDone => rw [handoverDone_next hu ho hop, if_pos (by rcases h with h | h <;> simp [h])]
  case failed =>
    obtain ⟨hbusy, hresult, hstart⟩ := updEnd_shown (u.handClear o.index) .timeout
    refine ⟨(u.handClear o.index).updEnd .timeout, ?_, fun y hy => ?_, by rw [hstart], hbusy, hresult,
      ((Frame.refl ..).handClear (by simp) (by simp) (by simp) _).updEnd (by simp) (by simp) _⟩
    · rw [updateFailed_next hu ho hop, if_neg (by simp [Nat.not_lt.mpr hnow, hpoint])]
    · rw [updEnd_unit, handClear_unit, if_pos hy]
      exact ⟨rfl, rfl, rfl⟩
  case notFailed => rw [updateFailed_next hu ho hop, if_pos (by rcases h with h | h <;> simp [h])]
  case move =>
    have hnext' := move_next hu hpf hv hk hkv hc hneed hclk hclv hspare hpq hq0 hchecks hp2 hnext hupd hw hpll hbw hplace
    exact ⟨_, hnext', moveBegun_shown x need c bufs k (u.reqSecure r) (unitAt_pipe hkv) (unitAt_pipe hk) hpq⟩
  case lock =>
    refine ⟨u.mPipe p fun ps => { ps with moveTo := some q }, ?_, by rw [mPipe_pipe_same], fun i hi => ?_, (Frame.refl ..).mDisplay (by simp) _⟩
    · rw [spareLockTimeout_next hu hm hnow hto, if_neg (not_not.mpr h2)]
    rw [mPipe_pipe, if_neg hi]
  case stopped => rw [spareLockTimeout_next hu hm hnow hto, if_pos h2]

end Sys2Proof.Machine
end

section
/-!
PROOFS. Imports, remote accesses and CONTROL messages (R628, R635, R641 to R644).
-/
namespace Sys2Proof.Machine

theorem exec_importOpen (dt i : Nat) (r : Req) (v : Word) (s : State) : exec (.importOpen dt r i v) s = execImportOpen dt r i v s := rfl
theorem exec_importClose (dt i : Nat) (r : Req) (v : Word) (s : State) : exec (.importClose dt r i v) s = execImportClose dt r i v s := rfl
theorem exec_importOpenDone (dt i : Nat) (answer : Option Nat) (chunks : Nat) (room : Bool) (s : State) :
    exec (.importOpenDone dt i answer chunks room) s = execImportOpenDone dt i answer chunks room s := rfl
theorem exec_icvRead (dt src tag e off len : Nat) (s : State) : exec (.icvRead dt src tag e off len) s = execIcvRead dt src tag e off len s := rfl
theorem exec_icvPixel (dt i off : Nat) (bs : Bytes) (s : State) : exec (.icvPixel dt i off bs) s = execIcvPixel dt i off bs s := rfl
theorem exec_noRouteTimeout (dt i addr : Nat) (s : State) : exec (.noRouteTimeout dt i addr) s = execNoRouteTimeout dt i addr s := rfl
theorem exec_raccRead (dt : Nat) (r : Req) (v : Word) (s : State) : exec (.raccRead dt r v) s = .next ((s.tick dt).raccGo r v.toNat false) := rfl
theorem exec_raccWrite (dt : Nat) (r : Req) (v : Word) (s : State) : exec (.raccWrite dt r v) s = .next ((s.tick dt).raccGo r v.toNat true) := rfl
theorem exec_raccDone (dt : Nat) (answer : Option (Bool × Word)) (s : State) : exec (.raccDone dt answer) s = execRaccDone dt answer s := rfl
theorem exec_controlRetry (dt tag : Nat) (s : State) : exec (.controlRetry dt tag) s = execControlRetry dt tag s := rfl
theorem exec_icvControl (dt p src tag : Nat) (msg : CtlMsg) (crcOk : Bool) (s : State) :
    exec (.icvControl dt p src tag msg crcOk) s = execIcvControl dt p src tag msg crcOk s := rfl

/-! ### What a flit or a message leaves -/

section
variable (s : State)

theorem mNet_rd (f : Net → Net) (k : Nat) : (s.mNet f).rd k = s.rd k := rfl

theorem flitTo_rootNode (n ty : Nat) : (s.flitTo n ty).rootNode = s.rootNode := by
  unfold State.flitTo
  split
  · rfl
  · rfl

theorem flitTo_rd (n ty k : Nat) : (s.flitTo n ty).rd k = s.rd k :=
  ((Frame.refl [Part.net] [] (s := s)).flitTo (by simp) n ty).regs k (by simp)

theorem flitTo_outs (n ty : Nat) : (s.flitTo n ty).net.outs = s.net.outs := by
  obtain ⟨ps, hps⟩ := flitTo_net s n ty
  rw [hps]

end

/-! ### The registers of an import -/

section
variable {s t : State} {i : Nat}

theorem impNode_congr (hlo : t.rd (impReg i 0) = s.rd (impReg i 0)) (hhi : t.rd (impReg i 4) = s.rd (impReg i 4)) : t.impNode i = s.impNode i := by
  rw [State.impNode, State.impNode, rd64_congr hlo hhi]

/-- The status word of an import after its state and count, and then a result, are written. -/
theorem impShown (s : State) (i w : Nat) (st : Status) : ((s.wr (impReg i 0x14) w).impResult i st).impState i = bits (w % 2 ^ 32) 31 29
    ∧ ((s.wr (impReg i 0x14) w).impResult i st).rf (impReg i 0x14) 22 16 = st.code := by
  refine ⟨?_, ?_⟩
  · rw [State.impState, State.impResult, rf_wf_ne _ _ _ (by decide) (by decide) (.inl (by decide)), rf_wr_same]
  · rw [State.impResult, rf_wf_same _ _ _ (by decide) (by decide)]
    exact Nat.mod_eq_of_lt st.code_lt

theorem Frame.impResult {ps : List Part} {ks : List Nat} (h : Frame ps ks s t) (hk : impReg i 0x14 ∈ ks) (st : Status) :
    Frame ps ks s (t.impResult i st) := h.wf hk ..

end

/-! ### Opening and closing (R642) -/

/-- An import that begins to open. -/
def State.impOpening (s : State) (i v : Nat) : State := (s.wr (impReg i 0x10) (v &&& 0x8FFFFFFF)).wr (impReg i 0x14) (2 ^ 29)

/-- What closing an open import does first: its range is unmapped and its source is told. -/
def State.impEnd (s : State) (i : Nat) : State :=
  if s.impState i = 2 then (s.impUnmap i).ctlSend (s.impNode i) (.importEnd (s.rd64 (impReg i 0) % 2 ^ 32)) else s

/-- An import that is OFF, with the status of a write that also changed other fields. -/
def State.impOff (s : State) (i v : Nat) : State :=
  if v &&& 0x0FFFFFFF = s.rd (impReg i 0x10) &&& 0x0FFFFFFF then (s.wr (impReg i 0x14) 0).wb (impReg i 0x10) 31 false
  else ((s.wr (impReg i 0x14) 0).wb (impReg i 0x10) 31 false).impResult i .badState

section
variable (s : State) (i v : Nat)

theorem impOpening_rd {k : Nat} (h10 : k ≠ impReg i 0x10) (h14 : k ≠ impReg i 0x14) : (s.impOpening i v).rd k = s.rd k := by
  rw [State.impOpening, State.rd_wr_ne _ h14, State.rd_wr_ne _ h10]

theorem impOpening_ctrl : (s.impOpening i v).rd (impReg i 0x10) = v &&& 0x8FFFFFFF := by
  rw [State.impOpening, State.rd_wr_ne _ (by unfold impReg; omega), State.rd_wr_same]
  exact Nat.mod_eq_of_lt (Nat.lt_of_le_of_lt Nat.and_le_right (by norm_num))

theorem impOpening_state : (s.impOpening i v).impState i = 1 := by
  rw [State.impState, State.impOpening, rf_wr_same]
  rfl

theorem impOpening_frame : Frame [] [impReg i 0x10, impReg i 0x14] s (s.impOpening i v) :=
  ((Frame.refl ..).wr (by simp) _).wr (by simp) _

/-- The bandwidth asked for is the one written with EN. -/
theorem impOpening_bw : (s.impOpening i v).rf (impReg i 0x10) 27 16 = bits v 27 16 := by
  rw [State.rf, impOpening_ctrl]
  unfold bits
  refine Nat.eq_of_testBit_eq fun j => ?_
  simp only [Nat.testBit_mod_two_pow, Nat.testBit_div_two_pow, Nat.testBit_and]
  by_cases hj : j < 27 - 16 + 1
  · have hmask : Nat.testBit 0x8FFFFFFF (j + 16) = true := by
      have hj12 : j < 12 := by omega
      interval_cases j <;> rfl
    rw [hmask, Bool.and_true]
  · simp only [hj, decide_false, Bool.false_and]

theorem impOff_shown : (s.impOff i v).impState i = 0 ∧ (s.impOff i v).rb (impReg i 0x10) 31 = false
    ∧ Frame [] [impReg i 0x10, impReg i 0x14] s (s.impOff i v) := by
  have hne : impReg i 0x14 ≠ impReg i 0x10 := by unfold impReg; omega
  have hoff : ((s.wr (impReg i 0x14) 0).wb (impReg i 0x10) 31 false).impState i = 0 := by
    rw [State.impState, rf_congr (rd_wb_ne _ hne), rf_wr_same]
    rfl
  have hen : ((s.wr (impReg i 0x14) 0).wb (impReg i 0x10) 31 false).rb (impReg i 0x10) 31 = false := rb_wb_same _ _ _ (by decide)
  have hframe : Frame [] [impReg i 0x10, impReg i 0x14] s ((s.wr (impReg i 0x14) 0).wb (impReg i 0x10) 31 false) :=
    ((Frame.refl ..).wr (by simp) _).wb (by simp) ..
  unfold State.impOff
  split
  · exact ⟨hoff, hen, hframe⟩
  · refine ⟨?_, ?_, hframe.impResult (by simp) _⟩
    · rw [State.impState, State.impResult, rf_wf_ne _ _ _ (by decide) (by decide) (.inl (by decide))]
      exact hoff
    · rw [State.impResult, rb_congr (rd_wf_ne _ hne.symm)]
      exact hen

end

section
variable {s u : State} {dt i : Nat} {r : Req} {v : Word} (hu : u = s.tick dt) (hp : ∀ x, r.path ≠ .vi x)
include hu hp

theorem importOpen_held (hen : u.rb (impReg i 0x10) 31 = true) (hother : v.toNat &&& 0x0FFFFFFF ≠ u.rd (impReg i 0x10) &&& 0x0FFFFFFF) :
    exec (.importOpen dt r i v) s = .next (u.wf (impReg i 0x14) 22 16 Status.badState.code) := by
  rw [exec_importOpen, execImportOpen, ← hu]
  split
  next x hx => exact absurd hx (hp x)
  next => rw [if_pos hen, if_neg hother, State.impResult]

theorem importOpen_asked (hen : u.rb (impReg i 0x10) 31 = false) : exec (.importOpen dt r i v) s = .next ((u.impOpening i v.toNat).ctlSend (u.impNode i)
    (.importReq i (u.rd64 (impReg i 0) % 2 ^ 32) (bits v.toNat 27 16))) := by
  have h0 : (u.impOpening i v.toNat).rd (impReg i 0) = u.rd (impReg i 0) := impOpening_rd _ _ _ (by unfold impReg; omega) (by unfold impReg; omega)
  have h4 : (u.impOpening i v.toNat).rd (impReg i 4) = u.rd (impReg i 4) := impOpening_rd _ _ _ (by unfold impReg; omega) (by unfold impReg; omega)
  have hnode := impNode_congr h0 h4
  have hsrc : (u.impOpening i v.toNat).rd64 (impReg i 0) = u.rd64 (impReg i 0) := rd64_congr h0 h4
  rw [exec_importOpen, execImportOpen, ← hu, ← hnode, ← hsrc, ← impOpening_bw u i v.toNat]
  split
  next x hx => exact absurd hx (hp x)
  next =>
    rw [if_neg (by rw [hen]; decide)]
    rfl

theorem importClose_on (hen : u.rb (impReg i 0x10) 31 = true) : exec (.importClose dt r i v) s = .next ((u.impEnd i).impOff i v.toNat) := by
  rw [exec_importClose, execImportClose, ← hu]
  split
  next x hx => exact absurd hx (hp x)
  next =>
    rw [if_pos hen, State.impOff, ← State.impEnd]

theorem importClose_off (hen : u.rb (impReg i 0x10) 31 = false) :
    exec (.importClose dt r i v) s = .next (u.wr (impReg i 0x10) (v.toNat &&& 0x0FFFFFFF)) := by
  rw [exec_importClose, execImportClose, ← hu]
  split
  next x hx => exact absurd hx (hp x)
  next => rw [if_neg (by rw [hen]; decide)]

end

/-! ### The answer to an import (R642) -/

/-- How an import ends its opening: the first failure decides. -/
def State.importStatus (s : State) (i : Nat) (answer : Option Nat) (chunks : Nat) (room : Bool) : Status :=
  match answer with
  | none => .timeout
  | some a =>
    firstFail [
      (bits (s.rd64 (impReg i 0)) 63 44 != 0 || (s.node (s.impNode i)).info.state != 1 || a == Status.badHandle.code, .badHandle),
      (a == Status.staleHandle.code, .staleHandle),
      (s.rd64 (impReg i 8) % 2 ^ 21 != 0 || s.rangeMapped (s.impWin i) (s.rd64 (impReg i 8) / 2 ^ 21) chunks, .badGeometry),
      (!room, .noResource)]

/-- The state without the request of an import that waits for its acknowledgement. -/
def State.impAnswered (s : State) (i : Nat) : State :=
  s.mNet fun n => { n with outs := n.outs.filter fun o => match o.msg with | .importReq j _ _ => j != i | _ => true }

/-- The range of an import, mapped as read-only remote chunks. -/
def State.impMapped (s : State) (i w d chunks : Nat) : State := s.mapChunks w 3 true (d / 2 ^ 21) ((List.range chunks).map (i * 2 ^ 19 + ·))

/-- An import in its place in the order of opening. -/
def State.impPlaced (s : State) (i chunks : Nat) : State := s.mNet fun n =>
  { n with opened := n.opened + 1, imports := tset {} n.imports i ⟨(s.node (s.impNode i)).info.joins, chunks, n.opened + 1, none⟩ }

/-- An import that is open: its range mapped, and its place in the order. -/
def State.impOpened (s : State) (i chunks : Nat) : State :=
  ((s.impAnswered i).impMapped i (s.impWin i) (s.rd64 (impReg i 8)) chunks).impPlaced i chunks

section
variable {s u : State} {dt i chunks : Nat} {answer : Option Nat} {room : Bool} (hu : u = s.tick dt) (hopening : u.impState i = 1)
include hu hopening

theorem importOpenDone_refused {st : Status} (hst : u.importStatus i answer chunks room = st) (hne : st ≠ .ok) :
    exec (.importOpenDone dt i answer chunks room) s = .next (((u.impAnswered i).wr (impReg i 0x14) 0).impResult i st) := by
  subst hu hst
  refine (if_neg (not_not.mpr hopening)).trans ?_
  split
  next hok => exact absurd hok hne
  next => rfl

theorem importOpenDone_open (hst : u.importStatus i answer chunks room = .ok) : exec (.importOpenDone dt i answer chunks room) s =
    .next (((u.impOpened i chunks).wr (impReg i 0x14) (2 * 2 ^ 29 + chunks)).impResult i .ok) := by
  subst hu
  refine (if_neg (not_not.mpr hopening)).trans ?_
  split
  next => simp only [State.impOpened, State.impPlaced, State.impMapped, State.impAnswered] <;> rfl
  next hfails => exact absurd hst hfails

end

section
variable (s : State) (i chunks : Nat)

/-- Mapping an import's range leaves everything but the maps. -/
theorem impMapped_frame (w d : Nat) : Frame [.seed] [] s (s.impMapped i w d chunks) := mapChunks_frame (by simp) _ _ _ _ _ (Frame.refl ..)

theorem importRefused_shown (st : Status) : (((s.impAnswered i).wr (impReg i 0x14) 0).impResult i st).impState i = 0
    ∧ (((s.impAnswered i).wr (impReg i 0x14) 0).impResult i st).rf (impReg i 0x14) 22 16 = st.code
    ∧ Frame [.net] [impReg i 0x14] s (((s.impAnswered i).wr (impReg i 0x14) 0).impResult i st) := by
  obtain ⟨hstate, hresult⟩ := impShown (s.impAnswered i) i 0 st
  exact ⟨hstate, hresult, ((((Frame.refl ..).mNet (by simp) _).wr (by simp) _).impResult (by simp) _)⟩

theorem impOpened_net : (s.impOpened i chunks).imp i = ⟨(s.node (s.impNode i)).info.joins, chunks, s.net.opened + 1, none⟩
    ∧ (s.impOpened i chunks).net.opened = s.net.opened + 1 := by
  have hframe := impMapped_frame (s.impAnswered i) i chunks (s.impWin i) (s.rd64 (impReg i 8))
  have hnet : ((s.impAnswered i).impMapped i (s.impWin i) (s.rd64 (impReg i 8)) chunks).net = (s.impAnswered i).net := hframe.parts .net (by simp)
  have hnode : ((s.impAnswered i).impMapped i (s.impWin i) (s.rd64 (impReg i 8)) chunks).impNode i = s.impNode i :=
    impNode_congr (hframe.regs _ (by simp)) (hframe.regs _ (by simp))
  simp only [State.impOpened, State.impPlaced, State.imp, State.mNet_net, tget_tset_same, State.node, hnet, hnode]
  exact ⟨rfl, rfl⟩

end

section
variable {s : State} {i a chunks : Nat} {room : Bool}

theorem importStatus_badHandle : s.importStatus i (some Status.badHandle.code) chunks room = .badHandle := by
  simp [State.importStatus, firstFail]

variable (hfields : bits (s.rd64 (impReg i 0)) 63 44 = 0) (hjoined : (s.node (s.impNode i)).info.state = 1)
include hfields hjoined

theorem importStatus_badGeometry (hbad : s.rd64 (impReg i 8) % 2 ^ 21 ≠ 0 ∨ s.rangeMapped (s.impWin i) (s.rd64 (impReg i 8) / 2 ^ 21) chunks = true) :
    s.importStatus i (some 0) chunks room = .badGeometry := by
  have hgeo : (s.rd64 (impReg i 8) % 2 ^ 21 != 0 || s.rangeMapped (s.impWin i) (s.rd64 (impReg i 8) / 2 ^ 21) chunks) = true := by
    simpa only [Bool.or_eq_true, bne_iff_ne] using hbad
  rw [State.importStatus, hfields, hjoined, hgeo]
  rfl

/-- With the range aligned and free only the bandwidth of the route decides. -/
theorem importStatus_room (haligned : s.rd64 (impReg i 8) % 2 ^ 21 = 0)
    (hfree : s.rangeMapped (s.impWin i) (s.rd64 (impReg i 8) / 2 ^ 21) chunks = false) :
    s.importStatus i (some 0) chunks room = if room then .ok else .noResource := by
  rw [State.importStatus, hfields, hjoined, haligned, hfree]
  cases room
  · rfl
  · rfl

end

/-! ### Remote reads (R643) -/

section
variable {s u : State} {dt src tag e off len : Nat} {h : Handle} (hu : u = s.tick dt) (hh : h = handleOf (u.rd (expReg e 0)))
include hu hh

theorem icvRead_served {b : Option Bytes} {x : State} (hen : u.rb (expReg e 4) 31 = true) (hsrc : u.rf (expReg e 4) 11 0 = src) (hkind : h.kind = kMem)
    (hgen : h.gen = u.gen h.kind h.index) (hlive : (u.chan h.kind h.index).phase = .live)
    (hfits : off + len ≤ (tget {} u.seed.chans h.index).count * 2 ^ 21)
    (hfetch : u.fetch (u.chan h.kind h.index).owner 6 ((tget {} u.seed.chans h.index).daddr + off) len none = (b, x)) :
    exec (.icvRead dt src tag e off len) s = .next ((x.flitTo src 4).mNet fun n => { n with served := some (tag, b) }) := by
  have hpass : (!u.rb (expReg e 4) 31 || u.rf (expReg e 4) 11 0 != src || h.kind != kMem || h.gen != u.gen h.kind h.index
      || (u.chan h.kind h.index).phase != .live || decide ((tget {} u.seed.chans h.index).count * 2 ^ 21 < off + len)) = false := by
    simp only [Bool.or_eq_false_iff, Bool.not_eq_false', bne_eq_false_iff_eq, decide_eq_false_iff_not]
    exact ⟨⟨⟨⟨⟨hen, hsrc⟩, hkind⟩, hgen⟩, hlive⟩, Nat.not_lt.mpr hfits⟩
  simp only [exec_icvRead, execIcvRead, ← hu, ← hh, hpass, hfetch, Bool.false_eq_true, if_false]

theorem icvRead_refused (hbad : u.rb (expReg e 4) 31 = false ∨ u.rf (expReg e 4) 11 0 ≠ src ∨ h.kind ≠ kMem ∨ h.gen ≠ u.gen h.kind h.index) :
    exec (.icvRead dt src tag e off len) s = .next (u.mNet fun n => { n with served := some (tag, none) }) := by
  have hfails : (!u.rb (expReg e 4) 31 || u.rf (expReg e 4) 11 0 != src || h.kind != kMem || h.gen != u.gen h.kind h.index
      || (u.chan h.kind h.index).phase != .live || decide ((tget {} u.seed.chans h.index).count * 2 ^ 21 < off + len)) = true := by
    simp only [Bool.or_eq_true, Bool.not_eq_true', bne_iff_ne, decide_eq_true_eq]
    tauto
  simp only [exec_icvRead, execIcvRead, ← hu, ← hh, hfails, if_true]

end

/-- The bytes a PIXEL flit brings stand one after another. -/
theorem arrived_at (bs : Bytes) (m : Tbl (Option Byte)) (a n k : Nat) (hk : k < n) :
    tget none ((List.range n).foldl (fun t k => tset none t (a + k) (some (bs.getD k 0))) m) (a + k) = some (bs.getD k 0) := by
  induction n with
  | zero => exact absurd hk (Nat.not_lt_zero k)
  | succ n ih =>
    rw [List.range_succ, List.foldl_append, List.foldl_cons, List.foldl_nil]
    obtain rfl | hne := eq_or_ne k n
    · rw [tget_tset_same]
    · rw [tget_tset_ne _ _ (by omega), ih (by omega)]

/-! ### Remote accesses (R635) -/

/-- A remote access that is asked for. -/
def State.raccAsked (s : State) (write : Bool) : State := (s.raccResult .pending true).mNet fun n => { n with racc := some (s.now, write) }

/-- A remote access that has ended: its request waits for nothing any more. -/
def State.raccEnded (s : State) : State :=
  s.mNet fun n => { n with racc := none, outs := n.outs.filter fun o => match o.msg with | .raccReq .. => false | _ => true }

section
variable (s : State)

theorem raccResult_shown (st : Status) (busy : Bool) : (s.raccResult st busy).rf 0x0500003C 22 16 = st.code ∧ (s.raccResult st busy).rb 0x0500003C 0 = busy := by
  have hst := st.code_lt
  have hbusy : b2n busy < 2 := by cases busy <;> decide
  have hlt : st.code * 2 ^ 16 + b2n busy < 2 ^ 32 := by omega
  refine ⟨?_, ?_⟩
  · rw [State.raccResult, rf_wr_same, Nat.mod_eq_of_lt hlt]
    unfold bits
    omega
  · rw [State.raccResult, State.rb, State.rd_wr_same, Nat.mod_eq_of_lt hlt]
    have hodd : (st.code * 2 ^ 16 + b2n busy) % 2 = b2n busy := by omega
    rw [bit, Nat.testBit_zero, hodd]
    cases busy <;> rfl

theorem raccAsked_rd {k : Nat} (write : Bool) (hk : k ≠ 0x0500003C) : (s.raccAsked write).rd k = s.rd k := by
  rw [State.raccAsked, mNet_rd, State.raccResult, State.rd_wr_ne _ hk]

variable {s}
variable {r : Req} {v : Nat} {write : Bool}

theorem raccGo_busy (hbusy : s.rb 0x0500003C 0 = true) : s.raccGo r v write = s := by
  unfold State.raccGo
  split
  next => rfl
  next => exact if_pos hbusy

variable (hp : ∀ x, r.path ≠ .vi x)
include hp

theorem raccGo_denied (hbusy : s.rb 0x0500003C 0 = false) (hsecure : bit v 30 = true) (hworld : s.reqSecure r = false) :
    s.raccGo r v write = s.raccResult .denied false := by
  unfold State.raccGo
  split
  next x hx => exact absurd hx (hp x)
  next => simp only [hbusy, hsecure, hworld, Bool.false_eq_true, if_false, Bool.not_false, Bool.and_self, if_true]

theorem raccGo_asked (hbusy : s.rb 0x0500003C 0 = false) (hworld : bit v 30 = false ∨ s.reqSecure r = true) : s.raccGo r v write =
    (s.raccAsked write).ctlSend (bits v 11 0) (.raccReq (bit v 30) write (s.rd 0x05000030) (BitVec.ofNat 32 (s.rd 0x05000034))) := by
  have hmay : (bit v 30 && !s.reqSecure r) = false := by
    simpa only [Bool.and_eq_false_iff, Bool.not_eq_false'] using hworld
  unfold State.raccGo
  split
  next x hx => exact absurd hx (hp x)
  next =>
    simp only [hbusy, hmay, Bool.false_eq_true, if_false]
    rw [← State.raccAsked, raccAsked_rd _ _ (by decide), raccAsked_rd _ _ (by decide)]

end

section
variable {s u : State} {dt at_ : Nat} {write : Bool} (hu : u = s.tick dt) (hracc : u.net.racc = some (at_, write))
include hu hracc

theorem raccDone_answered (v : Word) : exec (.raccDone dt (some (true, v))) s =
    .next ((if write then u else u.wr 0x05000034 v.toNat).raccResult .ok false).raccEnded := by
  rw [exec_raccDone, execRaccDone, ← hu]
  simp only [hracc]
  rfl

theorem raccDone_refused (v : Word) : exec (.raccDone dt (some (false, v))) s = .next (u.raccResult .denied false).raccEnded := by
  rw [exec_raccDone, execRaccDone, ← hu]
  simp only [hracc]
  rfl

theorem raccDone_timeout (hlate : at_ + 5000000 ≤ u.now) : exec (.raccDone dt none) s = .next (u.raccResult .timeout false).raccEnded := by
  rw [exec_raccDone, execRaccDone, ← hu]
  simp only [hracc, hlate, if_true]
  rfl

theorem raccDone_waits (hwaits : u.now < at_ + 5000000) : exec (.raccDone dt none) s = .next u := by
  rw [exec_raccDone, execRaccDone, ← hu]
  simp only [hracc, Nat.not_le.mpr hwaits, if_false]

end

theorem raccEnded_shown (s : State) (st : Status) : (s.raccResult st false).raccEnded.rf 0x0500003C 22 16 = st.code
    ∧ (s.raccResult st false).raccEnded.rb 0x0500003C 0 = false ∧ (s.raccResult st false).raccEnded.net.racc = none := by
  obtain ⟨hresult, hbusy⟩ := raccResult_shown s st false
  exact ⟨hresult, hbusy, rfl⟩

/-! ### Messages sent again (R628) -/

/-- A message that is sent again, and its count. -/
def State.ctlAgain (s : State) (tag dest : Nat) : State := (s.flitTo dest 3).mNet fun n =>
  { n with outs := n.outs.map fun q => if q.tag = tag then { q with tries := q.tries + 1, at_ := s.now } else q }

/-- The state without a message. -/
def State.ctlGone (s : State) (tag : Nat) : State := s.mNet fun n => { n with outs := n.outs.filter fun q => q.tag != tag }

/-- What a request whose message was never acknowledged ends with. -/
def State.ctlTimeout (s : State) : CtlMsg → State
  | .importReq i _ _ => if s.impState i = 1 then (s.wr (impReg i 0x14) 0).impResult i .timeout else s
  | .raccReq .. => if s.net.racc.isSome then (s.raccResult .timeout false).mNet fun n => { n with racc := none } else s
  | _ => s

section
variable {s u : State} {dt tag : Nat} {o : CtlOut} (hu : u = s.tick dt) (ho : (u.net.outs.find? fun o => o.tag == tag) = some o)
include hu ho

theorem controlRetry_waits (hwaits : u.now < o.at_ + 1000000) : exec (.controlRetry dt tag) s = .next u := by
  rw [exec_controlRetry, execControlRetry, ← hu]
  simp only [ho, hwaits, if_true]

variable (hlate : o.at_ + 1000000 ≤ u.now)
include hlate

theorem controlRetry_again (hfew : o.tries < 3) : exec (.controlRetry dt tag) s = .next (u.ctlAgain tag o.dest) := by
  rw [exec_controlRetry, execControlRetry, ← hu]
  simp only [ho, Nat.not_lt.mpr hlate, if_false, hfew, if_true]
  rfl

theorem controlRetry_ends (hmany : 3 ≤ o.tries) : exec (.controlRetry dt tag) s = .next ((u.ctlGone tag).ctlTimeout o.msg) := by
  rw [exec_controlRetry, execControlRetry, ← hu]
  simp only [ho, Nat.not_lt.mpr hlate, Nat.not_lt.mpr hmany, if_false]
  cases o.msg <;> rfl

end

section
variable (s : State) (tag : Nat)

theorem ctlAgain_outs (dest : Nat) : (s.ctlAgain tag dest).net.outs =
    s.net.outs.map fun q => if q.tag = tag then { q with tries := q.tries + 1, at_ := s.now } else q := by
  rw [State.ctlAgain, State.mNet_net, flitTo_outs]

theorem ctlTimeout_outs (m : CtlMsg) : (s.ctlTimeout m).net.outs = s.net.outs := by
  unfold State.ctlTimeout
  split
  · split
    · simp only [State.impResult, State.wf_frame, State.wr_frame]
    · rfl
  · split
    · simp only [State.mNet_net, State.raccResult, State.wr_frame]
    · rfl
  · rfl

theorem ctlGone_outs : ∀ q ∈ (s.ctlGone tag).net.outs, q.tag ≠ tag := fun _ hq => bne_iff_ne.mp (List.mem_filter.mp hq).2

end

/-! ### Messages that arrive (R628) -/

section
variable {s u : State} {dt p src tag : Nat} (hu : u = s.tick dt)
include hu

theorem icvControl_bad (msg : CtlMsg) : exec (.icvControl dt p src tag msg false) s = .next u := by
  simp only [exec_icvControl, execIcvControl, ← hu, Bool.not_false, Bool.true_or, if_true]

variable (hup : u.icvUp p = true)
include hup

theorem icvControl_ack (n : Nat) : exec (.icvControl dt p src tag (.ack n) true) s =
    .next (u.mNet fun t => { t with outs := t.outs.filter fun o => !(o.tag == n && o.dest == src) }) := by
  subst hu
  exact if_neg (by rw [hup]; decide)

/-- A message that is no acknowledgement is acknowledged and acted on. -/
theorem icvControl_acts {msg : CtlMsg} (hmsg : ∀ n, msg ≠ .ack n) : exec (.icvControl dt p src tag msg true) s =
    .next ((u.flitTo src 3).ctlAct p src msg) := by
  subst hu
  refine (if_neg (by rw [hup]; decide)).trans ?_
  cases msg with
  | ack n => exact absurd rfl (hmsg n)
  | _ => rfl

end

section
variable {s : State} {p src : Nat}

theorem raccServe_refused {addr : Nat} {v : Word} {write : Bool} (htrust : s.rb (icvPort p 0) 30 = false) :
    s.raccServe p src true write addr v = s.ctlSend src (.raccAnswer false 0) := by
  rw [State.raccServe, htrust]
  rfl

variable {secure : Bool} {addr : Nat} {v : Word} (htrust : secure = false ∨ s.rb (icvPort p 0) 30 = true)
include htrust

theorem raccServe_write : s.raccServe p src secure true addr v = (s.regWrite ⟨.icvik p, secure⟩ addr v).ctlSend src (.raccAnswer true v) := by
  have hmay : (secure && !s.rb (icvPort p 0) 30) = false := by simpa only [Bool.and_eq_false_iff, Bool.not_eq_false'] using htrust
  rw [State.raccServe, hmay]
  rfl

theorem raccServe_read {w : Word} {y : State} (hread : s.busRead ⟨.icvik p, secure⟩ addr = (w, y)) :
    s.raccServe p src secure false addr v = y.ctlSend src (.raccAnswer true w) := by
  have hmay : (secure && !s.rb (icvPort p 0) 30) = false := by simpa only [Bool.and_eq_false_iff, Bool.not_eq_false'] using htrust
  simp only [State.raccServe, hmay, hread, Bool.false_eq_true, if_false]

end

/-- A reservation of a port's payload, shown within its 16 bits. -/
theorem reserved_shown (s : State) (q bw : Nat) (add : Bool) :
    (s.wf (icvPort q 0xC) 15 0 (if add then min 65535 (s.rf (icvPort q 0xC) 15 0 + bw) else s.rf (icvPort q 0xC) 15 0 - bw)).rf (icvPort q 0xC) 15 0
      = if add then min 65535 (s.rf (icvPort q 0xC) 15 0 + bw) else s.rf (icvPort q 0xC) 15 0 - bw := by
  have hold : s.rf (icvPort q 0xC) 15 0 < 2 ^ 16 := Nat.mod_lt _ (by decide)
  rw [rf_wf_same _ _ _ (by decide) (by decide)]
  refine Nat.mod_eq_of_lt ?_
  split <;> omega

/-- Settles O55: the status of an import, the checks of a remote read and the parts of a CONTROL message, each by its own rule (log entries 46, 47
and 66). -/
theorem importsAndMessages : Obligations.ImportsAndMessages := by
  unfold Obligations.ImportsAndMessages
  refine ⟨fun dt i r v s u hu hp hi => ⟨fun hen hother => importOpen_held hu hp hen hother, fun hen => ?asked, fun hen hnot => ?stopped, fun hen hopen => ?closed,
      fun hen => ⟨_, importClose_off hu hp hen, ?fields, (Frame.refl ..).wr (by simp) _⟩⟩,
    fun dt i a chunks d room s u hu hopening hd hchunks => ?answer,
    fun dt src tag e off len h b s u x hu hh => ⟨fun hen hsrc hkind hgen hlive hfits hfetch => icvRead_served hu hh hen hsrc hkind hgen hlive hfits hfetch,
      fun hbad => ⟨_, icvRead_refused hu hh hbad, rfl, (Frame.refl ..).mNet (by simp) _⟩⟩,
    fun dt i off bs s u hu hopen => ⟨fun hfits => ?pixel, fun hpast => ?past⟩,
    fun dt i addr t s u hu hopen hroute => ⟨fun hlate => ?fault, fun hearly => ?early⟩,
    fun dt r v write i s u hu hp hi => ?racc,
    fun dt at_ write v s u hu hracc => ⟨⟨_, raccDone_answered hu hracc v, ?done⟩,
      ⟨_, raccDone_refused hu hracc v, ?denied⟩, fun hlate => ⟨_, raccDone_timeout hu hracc hlate, ?timeout⟩,
      fun hearly => raccDone_waits hu hracc hearly⟩,
    fun dt tag o s u hu ho hlate => ⟨fun hfew => ⟨_, controlRetry_again hu ho hlate hfew, ?again⟩,
      fun hmany => ⟨_, controlRetry_ends hu ho hlate hmany, ?ends⟩⟩,
    fun dt tag o s u hu ho hearly => controlRetry_waits hu ho hearly,
    fun dt p src tag msg s u x hu hup hx => ?control⟩
  case asked => exact ⟨_, importOpen_asked hu hp hen, impOpening_state .., (impOpening_ctrl ..), impOpening_frame ..⟩
  case stopped =>
    refine ⟨_, importClose_on hu hp hen, ?_⟩
    rw [State.impEnd, if_neg hnot]
    exact impOff_shown ..
  case closed =>
    refine ⟨_, _, rfl, importClose_on hu hp hen, ?_⟩
    rw [State.impEnd, if_pos hopen]
    exact impOff_shown ..
  case fields =>
    rw [State.rd_wr_same]
    exact Nat.mod_eq_of_lt (Nat.lt_of_le_of_lt Nat.and_le_right (by norm_num))
  case answer =>
    subst hd
    refine ⟨⟨_, importOpenDone_refused hu hopening (st := .timeout) rfl (by decide), importRefused_shown ..⟩, fun ha => ?_, fun ha hfields hjoined hbad => ?_,
      fun ha hfields hjoined haligned hfree => ?_⟩
    · subst ha
      exact ⟨_, importOpenDone_refused hu hopening importStatus_badHandle (by decide), importRefused_shown ..⟩
    · subst ha
      exact ⟨_, importOpenDone_refused hu hopening (importStatus_badGeometry hfields hjoined hbad) (by decide), importRefused_shown ..⟩
    · subst ha
      have hst := importStatus_room (room := room) hfields hjoined haligned hfree
      refine ⟨fun hroom => ?_, fun hroom => ?_⟩
      · subst hroom
        exact ⟨_, importOpenDone_refused hu hopening hst (by decide), importRefused_shown ..⟩
      · subst hroom
        obtain ⟨hstate, hresult⟩ := impShown (u.impOpened i chunks) i (2 * 2 ^ 29 + chunks) .ok
        obtain ⟨himp, hopened⟩ := impOpened_net u i chunks
        refine ⟨_, importOpenDone_open hu hopening hst, ?_, hresult, ?_, ?_⟩
        · rw [hstate, Nat.mod_eq_of_lt (by omega)]
          unfold bits
          omega
        · rw [← himp]
          simp only [State.imp, State.impResult, State.wf_frame, State.wr_frame]
        · rw [← hopened]
          simp only [State.impResult, State.wf_frame, State.wr_frame]
  case pixel =>
    refine ⟨u.mNet fun n => { n with arrived := (List.range bs.length).foldl (fun t k => tset none t (3 * 2 ^ 60 + i * 2 ^ 40 + off + k) (some (bs.getD k 0))) n.arrived },
      ?_, fun k hk => arrived_at _ _ _ _ _ hk, (Frame.refl ..).mNet (by simp) _⟩
    simp only [exec_icvPixel, execIcvPixel, ← hu, hopen, hfits, and_self, if_true]
  case past => simp only [exec_icvPixel, execIcvPixel, ← hu, Nat.not_le.mpr hpast, and_false, if_false]
  case fault => simp only [exec_noRouteTimeout, execNoRouteTimeout, ← hu, hroute, hopen, hlate, and_self, if_true]
  case early => simp only [exec_noRouteTimeout, execNoRouteTimeout, ← hu, hroute, Nat.not_le.mpr hearly, and_false, if_false]
  case racc =>
    have hexec : exec i s = .next (u.raccGo r v.toNat write) := by
      obtain ⟨rfl, rfl⟩ | ⟨rfl, rfl⟩ := hi
      · rw [hu, exec_raccRead]
      · rw [hu, exec_raccWrite]
    refine ⟨fun hbusy => ?_, fun hbusy hsecure hworld => ?_, fun hbusy hworld => ⟨u.raccAsked write, ?_, ?_, ?_, ?_, ?_⟩⟩
    · rw [hexec, raccGo_busy hbusy]
    · rw [hexec, raccGo_denied hp hbusy hsecure hworld, State.raccResult]
      rfl
    · exact (raccResult_shown u .pending true).1
    · exact (raccResult_shown u .pending true).2
    · simp only [State.raccAsked, State.mNet_net, State.raccResult, State.wr_frame]
    · exact ((Frame.refl ..).wr (by simp) _).mNet (by simp) _
    · rw [hexec, raccGo_asked hp hbusy hworld]
  case done =>
    obtain ⟨-, -, hnone⟩ := raccEnded_shown (if write then u else u.wr 0x05000034 v.toNat) .ok
    refine ⟨?_, ?_, hnone, ?_⟩
    · rw [State.raccEnded, mNet_rd, State.raccResult, State.rd_wr_same]
      rfl
    · rw [State.raccEnded, mNet_rd, State.raccResult, State.rd_wr_ne _ (by decide)]
      split
      · rfl
      · rw [State.rd_wr_same, Nat.mod_eq_of_lt v.isLt]
    · split
      · exact ((Frame.refl ..).wr (by simp) _).mNet (by simp) _
      · exact (((Frame.refl ..).wr (by simp) _).wr (by simp) _).mNet (by simp) _
  case denied =>
    obtain ⟨hresult, hbusy, hnone⟩ := raccEnded_shown u .denied
    exact ⟨hresult, hbusy, hnone, ((Frame.refl ..).wr (by simp) _).mNet (by simp) _⟩
  case timeout =>
    obtain ⟨hresult, hbusy, hnone⟩ := raccEnded_shown u .timeout
    exact ⟨hresult, hbusy, hnone, ((Frame.refl ..).wr (by simp) _).mNet (by simp) _⟩
  case again =>
    have htag : o.tag = tag := by simpa using List.find?_some ho
    rw [ctlAgain_outs]
    refine ⟨List.mem_map.mpr ⟨o, List.mem_of_find?_eq_some ho, if_pos htag⟩, List.length_map .., ((Frame.refl ..).flitTo (by simp) ..).mNet (by simp) _⟩
  case ends =>
    refine ⟨fun q hq => ctlGone_outs u tag q (by rwa [ctlTimeout_outs] at hq), fun i handle bw hmsg hstate => ?_, fun a b c d hmsg hsome => ?_⟩
    · rw [hmsg, State.ctlTimeout, if_pos (show (u.ctlGone tag).impState i = 1 from hstate)]
      exact impShown ..
    · have hracc : (u.ctlGone tag).net.racc.isSome = true := Option.isSome_iff_ne_none.mpr hsome
      rw [hmsg, State.ctlTimeout, if_pos hracc]
      exact ⟨rfl, (raccResult_shown _ .timeout false).1⟩
  case control =>
    subst hx
    refine ⟨icvControl_bad hu msg, fun n hmsg => ?_, fun i handle bw hmsg => ?_, fun handle hmsg => ?_, fun q bw add hmsg hq => ?_, fun n i hmsg => ?_,
      fun k e pd at_ hmsg hk hroot => ?_, fun write addr v hmsg htrust => ?_, fun secure addr v hmsg htrust => ?_, fun secure addr v w y hmsg htrust hread => ?_,
      fun i st n b w hmsg => ?_⟩
    · subst hmsg
      exact ⟨_, icvControl_ack hu hup n, rfl, (Frame.refl ..).mNet (by simp) _⟩
    · subst hmsg
      exact icvControl_acts hu hup (fun n => by simp)
    · subst hmsg
      exact icvControl_acts hu hup (fun n => by simp)
    · subst hmsg
      refine ⟨_, icvControl_acts hu hup (fun n => by simp), ?_⟩
      rw [State.ctlAct, if_neg (Nat.not_le.mpr hq)]
      have hold : (u.flitTo src 3).rf (icvPort q 0xC) 15 0 = u.rf (icvPort q 0xC) 15 0 := rf_congr (flitTo_rd ..) ..
      refine ⟨((Frame.refl ..).flitTo (by simp) ..).wf (by simp) .., ?_⟩
      rw [reserved_shown, hold]
    · subst hmsg
      exact icvControl_acts hu hup (fun n => by simp)
    · subst hmsg
      refine ⟨_, icvControl_acts hu hup (fun n => by simp), ?_⟩
      have hmay : ¬ (8 ≤ k ∨ (u.flitTo src 3).rootNode ≠ some src) := by
        rw [flitTo_rootNode, hroot]
        exact fun hor => hor.elim (Nat.not_le.mpr hk) (absurd rfl)
      rw [State.ctlAct, if_neg hmay]
      exact ⟨by rw [State.mNet_net, tget_tset_same], ((Frame.refl ..).flitTo (by simp) ..).mNet (by simp) _⟩
    · subst hmsg
      rw [icvControl_acts hu hup (fun n => by simp), State.ctlAct, raccServe_refused (by rw [rb_congr (flitTo_rd ..), htrust])]
    · subst hmsg
      rw [icvControl_acts hu hup (fun n => by simp), State.ctlAct, raccServe_write (by rwa [rb_congr (flitTo_rd ..)])]
    · subst hmsg
      rw [icvControl_acts hu hup (fun n => by simp), State.ctlAct, raccServe_read (by rwa [rb_congr (flitTo_rd ..)]) hread]
    · obtain rfl | rfl | rfl := hmsg
      · exact icvControl_acts hu hup (fun n => by simp)
      · exact icvControl_acts hu hup (fun n => by simp)
      · exact icvControl_acts hu hup (fun n => by simp)

end Sys2Proof.Machine
end

section
/-!
PROOFS. Icvik ports and nodes: training, flits, joining and leaving, routes (R627 to R634).
-/
namespace Sys2Proof.Machine

theorem exec_icvikPortEnable (dt p : Nat) (r : Req) (v : Word) (s : State) : exec (.icvikPortEnable dt r p v) s = execIcvikPortEnable dt r p v s := rfl
theorem exec_icvikTrainingDone (dt p lanes : Nat) (s : State) : exec (.icvikTrainingDone dt p lanes) s = execIcvikTrainingDone dt p lanes s := rfl
theorem exec_icvikPortTimeout (dt p : Nat) (s : State) : exec (.icvikPortTimeout dt p) s = execIcvikPortTimeout dt p s := rfl
theorem exec_flitReceive (dt p : Nat) (flit : Bytes) (nak : Bool) (s : State) : exec (.flitReceive dt p flit nak) s = execFlitReceive dt p flit nak s := rfl
theorem exec_hello (dt p : Nat) (h : Hello) (s : State) : exec (.hello dt p h) s = execHello dt p h s := rfl
theorem exec_beat (dt n : Nat) (s : State) : exec (.beat dt n) s = execBeat dt n s := rfl
theorem exec_beatSend (dt : Nat) (s : State) : exec (.beatSend dt) s = execBeatSend dt s := rfl
theorem exec_nodeLost (dt n : Nat) (s : State) : exec (.nodeLost dt n) s = execNodeLost dt n s := rfl
theorem exec_routeUpdate (dt : Nat) (edges : List PortEdge) (misfit : List Nat) (s : State) :
    exec (.routeUpdate dt edges misfit) s = execRouteUpdate dt edges misfit s := rfl

/-! ### What settling the root, the time and the routes leaves -/

theorem emitPf_net (s : State) (kind : Nat) (st : Status) (detail : Nat) : (s.emitPf kind st detail).net = s.net :=
  (congrArg State.net (emitAt_only s pfWin kind st.code 0 detail s.now).rest :)

section
variable (s : State) {k : Nat} (h : k < 0x07000000) (h' : k ≠ viReg pfWin 0x14)

theorem rootSettle_net (old : Option Nat) : (s.rootSettle old).net = s.net := by
  unfold State.rootSettle
  split
  · rfl
  · exact emitPf_net ..

theorem timeSettle_net : s.timeSettle.net = s.net := by
  unfold State.timeSettle State.timeEvent
  dsimp only
  split
  · simp only [State.wr_frame]
  · split
    · split
      · simp only [State.wr_frame]
      · split
        · simp only [State.wr_frame]
        · simp only [emitPf_net, State.wr_frame]
    · split
      · simp only [State.wr_frame]
      · simp only [emitPf_net, State.wr_frame]

theorem impRoutes_rd (k : Nat) : s.impRoutes.rd k = s.rd k := by
  unfold State.impRoutes
  refine foldl_keeps (fun t : State => t.rd k) (fun t x => ?_) _ _
  rfl

theorem impRoutes_net : s.impRoutes.net.ports = s.net.ports ∧ s.impRoutes.net.edges = s.net.edges := by
  unfold State.impRoutes
  refine ⟨foldl_keeps (fun t : State => t.net.ports) (fun t x => ?_) _ _, foldl_keeps (fun t : State => t.net.edges) (fun t x => ?_) _ _⟩
  · rfl
  · rfl

include h h'

theorem rootSettle_rd (old : Option Nat) : (s.rootSettle old).rd k = s.rd k := by
  unfold State.rootSettle
  split
  · rfl
  · exact emitPf_rd _ _ _ _ _ h h'

theorem timeSettle_rd (htime : k ≠ 0x05000024) : s.timeSettle.rd k = s.rd k := by
  unfold State.timeSettle State.timeEvent
  dsimp only
  split
  · exact State.rd_wr_ne _ htime
  · split
    · split
      · exact State.rd_wr_ne _ htime
      · split
        · exact State.rd_wr_ne _ htime
        · rw [emitPf_rd _ _ _ _ _ h h', State.rd_wr_ne _ htime]
    · split
      · exact State.rd_wr_ne _ htime
      · rw [emitPf_rd _ _ _ _ _ h h', State.rd_wr_ne _ htime]

end

/-! ### Ports (R629) -/

theorem icvPort_ne {p a b : Nat} (h : a ≠ b) : icvPort p a ≠ icvPort p b := by
  unfold icvPort
  omega

theorem mIcv_rd (s : State) (p k : Nat) (f : PortSt → PortSt) : (s.mIcv p f).rd k = s.rd k := rfl

/-- The registers of a port that is lost. -/
def State.portEmptied (s : State) (p : Nat) : State :=
  ((s.wr (icvPort p 4) (if s.rb (icvPort p 0) 31 then 2 ^ 29 else 0)).sat (icvPort p 0x18) 1).wr (icvPort p 8) 0

/-- What a port's loss makes of the port, before it is reported: its registers, its flits and its link. -/
def State.portLost (s : State) (p : Nat) : State :=
  ((s.portEmptied p).mIcv p fun _ => {}).mNet fun n =>
    { n with edges := n.edges.filter fun e => !((e.a == s.myNode && e.ap == p) || (e.b == s.myNode && e.bp == p)) }

section
variable {s : State} {p : Nat}

theorem portDown_up (hup : s.icvUp p = true) :
    s.portDown p = (((s.portLost p).emitPf 0xC0 .fault (p * 2 ^ 24)).rootSettle s.rootNode).timeSettle.impRoutes := by
  rw [State.portDown, if_pos hup]
  rfl

theorem portLost_regs : (s.portLost p).icvState p = (if s.rb (icvPort p 0) 31 then 1 else 0)
    ∧ (s.portLost p).rd (icvPort p 0x18) = satAdd 32 (s.rd (icvPort p 0x18)) 1 ∧ (s.portLost p).rd (icvPort p 8) = 0 := by
  have hlt : satAdd 32 (s.rd (icvPort p 0x18)) 1 < 2 ^ 32 := by unfold satAdd; omega
  refine ⟨?_, ?_, ?_⟩
  · rw [State.icvState, State.portLost, rf_congr (mNet_rd ..), rf_congr (mIcv_rd ..), State.portEmptied, rf_congr (State.rd_wr_ne _ (icvPort_ne (by decide))), State.sat,
      rf_congr (State.rd_wr_ne _ (icvPort_ne (by decide))), rf_wr_same]
    split
    · rfl
    · rfl
  · rw [State.portLost, mNet_rd, mIcv_rd, State.portEmptied, State.rd_wr_ne _ (icvPort_ne (by decide)), State.sat, State.rd_wr_same,
      State.rd_wr_ne _ (icvPort_ne (by decide)), Nat.mod_eq_of_lt hlt]
  · rw [State.portLost, mNet_rd, mIcv_rd, State.portEmptied, State.rd_wr_same, Nat.zero_mod]

theorem portLost_net : (s.portLost p).icv p = {}
    ∧ (s.portLost p).net.edges = s.net.edges.filter fun e => !((e.a == s.myNode && e.ap == p) || (e.b == s.myNode && e.bp == p)) := by
  refine ⟨?_, ?_⟩
  · exact mIcv_icv_same (s.portEmptied p) p fun _ => {}
  · simp only [State.portLost, State.portEmptied, State.mNet_net, State.mIcv, State.wr_frame, State.sat]

/-- The report of a port's loss and what follows leave the registers and the flits of the ports, and the links. -/
theorem portSettled_keeps (t : State) (old : Option Nat) (d : Nat) (hp : p < 4) : (∀ o, 4 ≤ o → o < 0x40 → ((((t.emitPf 0xC0 .fault d).rootSettle old).timeSettle).impRoutes).rd (icvPort p o) = t.rd (icvPort p o))
    ∧ ((((t.emitPf 0xC0 .fault d).rootSettle old).timeSettle).impRoutes).net.ports = t.net.ports
    ∧ ((((t.emitPf 0xC0 .fault d).rootSettle old).timeSettle).impRoutes).net.edges = t.net.edges := by
  have hev : viReg pfWin 0x14 = 0x0080FFD4 := by decide
  refine ⟨fun o h4 ho => ?_, ?_, ?_⟩
  · have hk : icvPort p o < 0x07000000 ∧ icvPort p o ≠ viReg pfWin 0x14 ∧ icvPort p o ≠ 0x05000024 := by
      rw [hev]
      unfold icvPort
      omega
    obtain ⟨hlow, hne, htime⟩ := hk
    rw [impRoutes_rd, timeSettle_rd _ hlow hne htime, rootSettle_rd _ hlow hne, emitPf_rd _ _ _ _ _ hlow hne]
  · rw [(impRoutes_net _).1, timeSettle_net, rootSettle_net, emitPf_net]
  · rw [(impRoutes_net _).2, timeSettle_net, rootSettle_net, emitPf_net]

end

section
variable {s u : State} {dt p : Nat} {r : Req} {v : Word} (hu : u = s.tick dt) (hp : ∀ x, r.path ≠ .vi x) (hport : p < u.row.icvikPorts)
  (hoff : u.rb 0x0500000C 0 = false)
include hu hp hport hoff

theorem icvikPortEnable_claimed (hclaim : u.claimedFor 0x82 p r = true) :
    exec (.icvikPortEnable dt r p v) s = .next (u.wf 0x0500000C 22 16 Status.claimed.code) := by
  rw [exec_icvikPortEnable, execIcvikPortEnable, ← hu]
  split
  next x hx => exact absurd hx (hp x)
  next => simp only [Nat.not_le.mpr hport, hoff, Bool.false_eq_true, or_self, if_false, hclaim, if_true, State.icvResult]

theorem icvikPortEnable_taken (hclaim : u.claimedFor 0x82 p r = false) : exec (.icvikPortEnable dt r p v) s = .next
    (if bit v.toNat 31 then if u.rb (icvPort p 0) 31 then u.wr (icvPort p 0) (v.toNat &&& 0xF0000000)
        else (u.wr (icvPort p 0) (v.toNat &&& 0xF0000000)).wr (icvPort p 4) (2 ^ 29)
      else if u.rb (icvPort p 0) 31 then (u.wr (icvPort p 0) (v.toNat &&& 0xF0000000)).portDown p else u.wr (icvPort p 0) (v.toNat &&& 0xF0000000)) := by
  rw [exec_icvikPortEnable, execIcvikPortEnable, ← hu]
  split
  next x hx => exact absurd hx (hp x)
  next =>
    simp only [Nat.not_le.mpr hport, hoff, Bool.false_eq_true, or_self, if_false, hclaim]
    exact (apply_ite Host.Outcome.next ..).symm

end

theorem portCtrl_word (v : Nat) : (v &&& 0xF0000000) % 2 ^ 32 = v &&& 0xF0000000 :=
  Nat.mod_eq_of_lt (Nat.lt_of_le_of_lt Nat.and_le_right (by norm_num))

/-! ### Training (R629) -/

/-- A port that is up at a number of lanes. -/
def State.portTrained (s : State) (p n : Nat) : State :=
  (s.wr (icvPort p 4) (2 * 2 ^ 29 + n * 2 ^ 26 + lanePayload n)).mIcv p fun _ => { heardAt := s.now }

theorem portTrained_shown (s : State) (p : Nat) {n : Nat} (hn : n < 5) : (s.portTrained p n).icvState p = 2 ∧ (s.portTrained p n).rf (icvPort p 4) 28 26 = n
    ∧ (s.portTrained p n).rf (icvPort p 4) 15 0 = lanePayload n := by
  have hword : (s.portTrained p n).rd (icvPort p 4) = 2 * 2 ^ 29 + n * 2 ^ 26 + lanePayload n := by
    rw [State.portTrained, mIcv_rd, State.rd_wr_same]
    refine Nat.mod_eq_of_lt ?_
    unfold lanePayload
    split
    · omega
    · split <;> omega
  rw [State.icvState, State.rf, State.rf, State.rf, hword]
  interval_cases n <;> decide

/-! ### Flits (R627, R628, R632) -/

/-- A good flit is heard: what it acknowledges waits no longer. -/
def PortSt.heard (t : PortSt) (now a : Nat) : PortSt :=
  { t with heardAt := now, unacked := ackDrop a t.unacked, replays := t.replays.filter fun r => (ackDrop a t.unacked).any fun c => c.1 == r.2 }

/-- A port after a flit: whether it was good, and whether it was next in sequence. -/
def PortSt.afterFlit (t : PortSt) (good next : Bool) (now a : Nat) : PortSt :=
  if good then if next then { t.heard now a with rxSeq := (t.rxSeq + 1) % 2 ^ 16, discard := false } else { t.heard now a with discard := true }
  else { t with discard := true }

/-- The check of a flit, over its first 252 bytes. -/
def flitGood (flit : Bytes) : Bool :=
  crcResult 32 0xFFFFFFFF true (crcFeed 32 0x1EDC6F41 true 0xFFFFFFFF (flit.take 252)) == bits (leNat flit) 2047 2016

/-- A good flit is heard at its port. -/
def State.flitHeard (s : State) (p : Nat) (flit : Bytes) : State := s.mIcv p fun t => t.heard s.now (bits (leNat flit) 2015 2000)

/-- What a flit does to its port. -/
def State.flitTaken (s : State) (p : Nat) (flit : Bytes) : State :=
  if flitGood flit then
    if bits (leNat flit) 1999 1984 = (s.icv p).rxSeq then (s.flitHeard p flit).mIcv p fun t => { t with rxSeq := (t.rxSeq + 1) % 2 ^ 16, discard := false }
    else (s.flitHeard p flit).mIcv p fun t => { t with discard := true }
  else s.mIcv p fun t => { t with discard := true }

/-- A flit that is taken, and forwarded when it is for another node. -/
def State.flitPassed (s : State) (p : Nat) (flit : Bytes) : State :=
  if flitGood flit && bits (leNat flit) 1999 1984 == (s.icv p).rxSeq && bits (leNat flit) 35 24 != s.myNode && s.icvState p == 3 then
    (s.flitTaken p flit).flitTo (bits (leNat flit) 35 24) (bits (leNat flit) 55 52)
  else s.flitTaken p flit

/-- The replay that the other side asks for. -/
def State.flitReplay (s : State) (p : Nat) (c : Nat × Nat) (recent : List (Nat × Nat)) : State :=
  s.mIcv p fun t => { t with replays := (s.now, c.1) :: recent }

/-- The replays of the last ms at a port. -/
def State.flitRecent (s : State) (p : Nat) : List (Nat × Nat) := (s.icv p).replays.filter fun t => s.now < t.1 + 1000000

/-- A flit with whose header a replay is asked for. -/
def State.flitNak (s : State) (p : Nat) : State :=
  match (s.icv p).unacked.getLast? with
  | none => s.sat (icvPort p 0x14) 1
  | some c =>
    if 8 ≤ (s.flitRecent p).length + 1 then ((s.sat (icvPort p 0x14) 1).flitReplay p c (s.flitRecent p)).portDown p
    else (s.sat (icvPort p 0x14) 1).flitReplay p c (s.flitRecent p)

theorem flitHeard_icv (s : State) (p : Nat) (flit : Bytes) : (s.flitHeard p flit).icv p = (s.icv p).heard s.now (bits (leNat flit) 2015 2000) := mIcv_icv_same ..

theorem flitTaken_icv (s : State) (p : Nat) (flit : Bytes) : (s.flitTaken p flit).icv p =
    (s.icv p).afterFlit (flitGood flit) (bits (leNat flit) 1999 1984 == (s.icv p).rxSeq) s.now (bits (leNat flit) 2015 2000) := by
  unfold State.flitTaken PortSt.afterFlit
  simp only [beq_iff_eq]
  split
  · split
    · rw [mIcv_icv_same, flitHeard_icv]
      rfl
    · rw [mIcv_icv_same, flitHeard_icv]
  · rw [mIcv_icv_same]

theorem flitTaken_frame (s : State) (p : Nat) (flit : Bytes) : Frame [.net] [] s (s.flitTaken p flit) := by
  unfold State.flitTaken
  split
  · split
    · exact ((Frame.refl ..).mIcv (by simp) ..).mIcv (by simp) ..
    · exact ((Frame.refl ..).mIcv (by simp) ..).mIcv (by simp) ..
  · exact (Frame.refl ..).mIcv (by simp) ..

theorem sat_net (s : State) (k n : Nat) : (s.sat k n).net = s.net := by simp only [State.sat, State.wr_frame]

/-- A flit at its port, in the order of the checks. -/
def State.flitRouted (s : State) (p : Nat) (flit : Bytes) : State :=
  if !flitGood flit then s.mIcv p fun t => { t with discard := true }
  else if bits (leNat flit) 1999 1984 = ((s.flitHeard p flit).icv p).rxSeq then
    let t := (s.flitHeard p flit).mIcv p fun t => { t with rxSeq := (t.rxSeq + 1) % 2 ^ 16, discard := false }
    if bits (leNat flit) 35 24 = t.myNode ∨ t.icvState p ≠ 3 then t else t.flitTo (bits (leNat flit) 35 24) (bits (leNat flit) 55 52)
  else (s.flitHeard p flit).mIcv p fun t => { t with discard := true }

/-- The end of a flit, with the replay it may ask for. -/
def State.flitAnswered (s : State) (p : Nat) (nak : Bool) : Host.Outcome State Fault Refusal :=
  if nak then
    let recent := (s.icv p).replays.filter fun t => s.now < t.1 + 1000000
    let s := s.sat (icvPort p 0x14) 1
    match (s.icv p).unacked.getLast? with
    | none => .next s
    | some c =>
      let s := s.mIcv p fun t => { t with replays := (s.now, c.1) :: recent }
      .next (if 8 ≤ recent.length + 1 then s.portDown p else s)
  else .next s

theorem flitRouted_eq (s : State) (p : Nat) (flit : Bytes) : s.flitRouted p flit = s.flitPassed p flit := by
  unfold State.flitRouted State.flitPassed State.flitTaken
  have hseq : ((s.flitHeard p flit).icv p).rxSeq = (s.icv p).rxSeq := by
    rw [flitHeard_icv]
    rfl
  rw [hseq]
  cases flitGood flit with
  | false => rfl
  | true =>
    simp only [Bool.not_true, Bool.false_eq_true, if_false, if_true, Bool.true_and]
    by_cases hnext : bits (leNat flit) 1999 1984 = (s.icv p).rxSeq
    · rw [if_pos hnext, if_pos hnext, beq_iff_eq.mpr hnext, Bool.true_and]
      set t := (s.flitHeard p flit).mIcv p fun t => { t with rxSeq := (t.rxSeq + 1) % 2 ^ 16, discard := false }
      have hnode : t.myNode = s.myNode := rfl
      have hstate : t.icvState p = s.icvState p := rfl
      rw [hnode, hstate]
      by_cases hforward : (bits (leNat flit) 35 24 != s.myNode && s.icvState p == 3) = true
      · rw [if_pos hforward, if_neg]
        simp only [Bool.and_eq_true, bne_iff_ne, beq_iff_eq] at hforward
        exact fun hor => hor.elim hforward.1 (absurd hforward.2)
      · rw [if_neg hforward, if_pos]
        simp only [Bool.and_eq_true, bne_iff_ne, beq_iff_eq] at hforward
        tauto
    · rw [if_neg hnext, if_neg hnext, beq_eq_false_iff_ne.mpr hnext]
      rfl

theorem flitAnswered_eq (s : State) (p : Nat) (nak : Bool) : s.flitAnswered p nak = .next (if nak then s.flitNak p else s) := by
  cases nak with
  | false => rfl
  | true =>
    have hicv : (s.sat (icvPort p 0x14) 1).icv p = s.icv p := by rw [State.icv, State.icv, sat_net]
    simp only [State.flitAnswered, State.flitNak, if_true, hicv]
    cases hlast : (s.icv p).unacked.getLast? with
    | none => rfl
    | some c => rfl

theorem flitPassed_frame (s : State) (p : Nat) (flit : Bytes) : Frame [.net] [] s (s.flitPassed p flit) := by
  unfold State.flitPassed
  split
  · exact (flitTaken_frame s p flit).flitTo (by simp) ..
  · exact flitTaken_frame s p flit

theorem flitNak_none {s : State} {p : Nat} (hnone : (s.icv p).unacked = []) : s.flitNak p = s.sat (icvPort p 0x14) 1 := by
  rw [State.flitNak, hnone]
  rfl

theorem flitNak_some {s : State} {p : Nat} {c : Nat × Nat} (hlast : (s.icv p).unacked.getLast? = some c) : s.flitNak p =
    if 8 ≤ (s.flitRecent p).length + 1 then ((s.sat (icvPort p 0x14) 1).flitReplay p c (s.flitRecent p)).portDown p
    else (s.sat (icvPort p 0x14) 1).flitReplay p c (s.flitRecent p) := by
  rw [State.flitNak, hlast]

theorem flitReceive_eq {s u : State} {dt p : Nat} {flit : Bytes} {nak : Bool} (hu : u = s.tick dt) (hup : u.icvUp p = true) :
    exec (.flitReceive dt p flit nak) s = .next (if nak then (u.flitPassed p flit).flitNak p else u.flitPassed p flit) := by
  rw [← flitAnswered_eq, ← flitRouted_eq]
  subst hu
  exact if_neg (by rw [hup]; decide)

/-! ### Joining and leaving (R630 to R634) -/

section
variable (s : State)

theorem mNode_node_same (n : Nat) (f : NodeSt → NodeSt) : (s.mNode n f).node n = f (s.node n) := (tget_tmod ..).trans (if_pos rfl)

theorem dirSet_node (n : Nat) (i : NodeInfo) : (s.dirSet n i).node n = { s.node n with info := i } := by
  rw [← mNode_node_same s n fun t => { t with info := i }]
  rfl

theorem dirSet_gen (n : Nat) (i : NodeInfo) : (s.dirSet n i).rd 0x05000018 = (s.rd 0x05000018 + 1) % 2 ^ 32 := by
  rw [State.dirSet, State.incr, State.rd_wr_same]
  rfl

end

section
variable {s t : State} {ps : List Part} {ks : List Nat} (h : Frame ps ks s t) (hp : Part.net ∈ ps)
include h hp

theorem Frame.mNode (n : Nat) (f : NodeSt → NodeSt) : Frame ps ks s (t.mNode n f) := h.mNet hp _

theorem Frame.dirSet (hk : 0x05000018 ∈ ks) (n : Nat) (i : NodeInfo) : Frame ps ks s (t.dirSet n i) := (h.mNode hp ..).wr hk _

theorem Frame.nodeJoin (hk : 0x05000018 ∈ ks) (n : Nat) (i : NodeInfo) : Frame ps ks s (t.nodeJoin n i) := (h.dirSet hp hk ..).mNode hp ..

end

/-- The entry of a node that joins. -/
def State.joinInfo (s : State) (n : Nat) (i : NodeInfo) : NodeInfo :=
  { i with state := 1, joins := if (s.node n).info.state = 1 then (s.node n).info.joins else ((s.node n).info.joins + 1) % 64 }

theorem nodeJoin_node (s : State) (n : Nat) (i : NodeInfo) : (s.nodeJoin n i).node n = ⟨s.joinInfo n i, s.now⟩ := by
  rw [State.nodeJoin, mNode_node_same, dirSet_node]
  rfl

theorem nodeJoin_gen (s : State) (n : Nat) (i : NodeInfo) : (s.nodeJoin n i).rd 0x05000018 = (s.rd 0x05000018 + 1) % 2 ^ 32 :=
  dirSet_gen ..

theorem nodeJoin_edges (s : State) (n : Nat) (i : NodeInfo) : (s.nodeJoin n i).net.edges = s.net.edges := rfl

/-- A link enters the graph once. -/
def State.edgeAdd (s : State) (e : PortEdge) : State :=
  s.mNet fun t => { t with edges := if t.edges.contains e then t.edges else t.edges ++ [e] }

theorem edgeAdd_mem (s : State) (e : PortEdge) : e ∈ (s.edgeAdd e).net.edges := by
  rw [State.edgeAdd, State.mNet_net]
  dsimp only
  split
  next hin => exact List.contains_iff_mem.mp hin
  next => exact List.mem_append_right _ (List.mem_singleton_self e)

/-- The registers of the port of a device that joins. -/
def State.portMet (s : State) (p n : Nat) (h : Hello) : State := (s.wr (icvPort p 8) (h.port * 2 ^ 30 + n)).wf (icvPort p 4) 31 29 3

/-- The port of a device that joins, with its link. -/
def State.portJoined (s : State) (p n : Nat) (h : Hello) : State := (s.portMet p n h).edgeAdd ⟨(s.portMet p n h).myNode, p, n, h.port⟩

section
variable (s : State) (p n : Nat) (h : Hello)

theorem portMet_myNode : (s.portMet p n h).myNode = s.myNode := by
  have hne (o : Nat) : 0x05000004 ≠ icvPort p o := by
    unfold icvPort
    omega
  exact myNode_congr (by rw [State.portMet, rd_wf_ne _ (hne _), State.rd_wr_ne _ (hne _)]) (by simp only [State.portMet, State.wf_frame, State.wr_frame])
    (by simp only [State.portMet, State.wf_frame, State.wr_frame])

theorem portJoined_shown : (s.portJoined p n h).rd (icvPort p 8) = (h.port * 2 ^ 30 + n) % 2 ^ 32 ∧ (s.portJoined p n h).icvState p = 3
    ∧ (⟨s.myNode, p, n, h.port⟩ : PortEdge) ∈ (s.portJoined p n h).net.edges ∧ (s.portJoined p n h).net.nodes = s.net.nodes := by
  refine ⟨?_, ?_, ?_, ?_⟩
  · rw [State.portJoined, State.edgeAdd, mNet_rd, State.portMet, rd_wf_ne _ (icvPort_ne (by decide)), State.rd_wr_same]
  · rw [State.icvState, State.portJoined, State.edgeAdd, rf_congr (mNet_rd ..), State.portMet, rf_wf_same _ _ _ (by decide) (by decide)]
    rfl
  · rw [← portMet_myNode s p n h]
    exact edgeAdd_mem ..
  · simp only [State.portJoined, State.edgeAdd, State.mNet_net, State.portMet, State.wf_frame, State.wr_frame]

theorem portJoined_node (m : Nat) : (s.portJoined p n h).node m = s.node m := by
  rw [State.node, State.node, (portJoined_shown ..).2.2.2]

variable {n h p} in
theorem Frame.portJoined {s t : State} {ps : List Part} {ks : List Nat} (hf : Frame ps ks s t) (hp : Part.net ∈ ps) (h8 : icvPort p 8 ∈ ks)
    (h4 : icvPort p 4 ∈ ks) : Frame ps ks s (t.portJoined p n h) := by
  unfold State.portJoined State.edgeAdd State.portMet
  exact ((hf.wr h8 _).wf h4 ..).mNet hp _

theorem portJoined_now : (s.portJoined p n h).now = s.now := by
  simp only [State.portJoined, State.portMet, State.edgeAdd, State.mNet_frame, State.wf_frame, State.wr_frame]

theorem portJoined_gen : (s.portJoined p n h).rd 0x05000018 = s.rd 0x05000018 := by
  have hne (o : Nat) : 0x05000018 ≠ icvPort p o := by
    unfold icvPort
    omega
  rw [State.portJoined, State.edgeAdd, mNet_rd, State.portMet, rd_wf_ne _ (hne _), State.rd_wr_ne _ (hne _)]

theorem helloJoin_fresh (old : Option Nat) (hfresh : s.icvState p ≠ 3 ∨ (s.node n).info.state ≠ 1) : s.helloJoin p n h old =
    (((((((s.portJoined p n h).nodeJoin n h.info).emitPf 0xC1 .ok n).joinTell n).rootSettle old).timeSettle).impCheck).impRoutes := by
  have hcond : (s.icvState p != 3 || (s.node n).info.state != 1) = true := by simpa only [Bool.or_eq_true, bne_iff_ne] using hfresh
  rw [State.helloJoin, hcond, ← State.portMet]
  simp only [if_true, State.portJoined, State.edgeAdd]

theorem helloJoin_again (old : Option Nat) (hstate : s.icvState p = 3) (hnode : (s.node n).info.state = 1) : s.helloJoin p n h old =
    ((((s.portJoined p n h).rootSettle old).timeSettle).impCheck).impRoutes := by
  have hcond : (s.icvState p != 3 || (s.node n).info.state != 1) = false := by rw [hstate, hnode]; rfl
  rw [State.helloJoin, hcond, ← State.portMet]
  rfl

end

/-- The state with a number from the root kept. -/
def State.numberKept (s : State) (h : Hello) : State :=
  match h.give with
  | some g => if s.rb 0x05000004 31 then s.mNet fun x => { x with given := some g } else s
  | none => s

/-- The number keeps everything but itself. -/
theorem numberKept_keeps (s : State) (h : Hello) (ks : List Nat) : (s.numberKept h).net.nodes = s.net.nodes ∧ Frame [.net] ks s (s.numberKept h) := by
  unfold State.numberKept
  split
  · split
    · exact ⟨rfl, (Frame.refl ..).mNet (by simp) _⟩
    · exact ⟨rfl, Frame.refl ..⟩
  · exact ⟨rfl, Frame.refl ..⟩

/-- The number a device that greets has or is given. -/
def State.helloNode (s : State) (h : Hello) : Option Nat :=
  match h.node with
  | some n => some n
  | none => if s.rootNode = some s.myNode then s.freeNode else none

/-- What becomes of a device that greets with a number: it joins, or is refused. -/
def State.helloNamed (s : State) (p : Nat) (h : Hello) (n : Nat) : State :=
  if !h.known && (s.numberKept h).nodeClash n h.info.path then
    if (s.node n).info.state = 1 ∨ n = s.myNode then s.portRefuse p n
    else (s.dirSet n { h.info with state := 3, joins := (s.node n).info.joins }).portRefuse p n
  else (s.numberKept h).helloJoin p n h s.rootNode

section
variable {s u : State} {dt p : Nat} {h : Hello} (hu : u = s.tick dt) (hup : u.icvUp p = true)
include hu hup

theorem hello_rootless (halone : (u.rootless h.info.prio && (h.node.isNone || (u.rb 0x05000004 31 && u.net.given.isNone))) = true) :
    exec (.hello dt p h) s = .next (u.portRefuse p 0) := by
  subst hu
  exact (if_neg (by rw [hup]; decide)).trans (if_pos halone)

variable (halone : (u.rootless h.info.prio && (h.node.isNone || (u.rb 0x05000004 31 && u.net.given.isNone))) = false)
include halone

theorem hello_waits (hwaits : (u.numberKept h).autoWaits h = true) : exec (.hello dt p h) s = .next u := by
  subst hu
  exact ((if_neg (by rw [hup]; decide)).trans (if_neg (by rw [halone]; decide))).trans (if_pos hwaits)

variable (hnow : (u.numberKept h).autoWaits h = false)
include hnow

theorem hello_asks : exec (.hello dt p h) s = (u.helloNode h).elim (.next u) fun n => .next (u.helloNamed p h n) := by
  have hmay : ¬ (u.numberKept h).autoWaits h = true := by rw [hnow]; decide
  subst hu
  refine (((if_neg (by rw [hup]; decide)).trans (if_neg (by rw [halone]; decide))).trans (if_neg hmay)).trans ?_
  unfold State.helloNode
  cases h.node with
  | some n => exact (apply_ite Host.Outcome.next ..).symm
  | none =>
    by_cases hroot : (s.tick dt).rootNode = some (s.tick dt).myNode
    · simp only [if_pos hroot]
      cases (s.tick dt).freeNode with
      | none => rfl
      | some n => exact (apply_ite Host.Outcome.next ..).symm
    · simp only [if_neg hroot]
      rfl

variable {n : Nat} (hn : h.node = some n ∨ (h.node = none ∧ u.rootNode = some u.myNode ∧ u.freeNode = some n))
include hn

theorem hello_named : exec (.hello dt p h) s = .next (u.helloNamed p h n) := by
  have hnode : u.helloNode h = some n := by
    unfold State.helloNode
    obtain hnode | ⟨hnode, hroot, hfree⟩ := hn
    · rw [hnode]
    · rw [hnode]
      exact (if_pos hroot).trans hfree
  rw [hello_asks hu hup halone hnow, hnode, Option.elim_some]

theorem hello_joins (hnew : h.known = true ∨ (u.numberKept h).nodeClash n h.info.path = false) :
    exec (.hello dt p h) s = .next ((u.numberKept h).helloJoin p n h u.rootNode) := by
  have hclash : (!h.known && (u.numberKept h).nodeClash n h.info.path) = false := by
    simpa only [Bool.and_eq_false_iff, Bool.not_eq_false'] using hnew
  rw [hello_named hu hup halone hnow hn, State.helloNamed, hclash]
  rfl

variable (hknown : h.known = false) (hclash : (u.numberKept h).nodeClash n h.info.path = true)
include hknown hclash

theorem hello_refused : exec (.hello dt p h) s = .next (if (u.node n).info.state = 1 ∨ n = u.myNode then u.portRefuse p n
    else (u.dirSet n { h.info with state := 3, joins := (u.node n).info.joins }).portRefuse p n) := by
  rw [hello_named hu hup halone hnow hn, State.helloNamed, hknown, hclash]
  rfl

end

/-! ### Beats and lost nodes (R633, R634) -/

/-- A beat goes to every joined device. -/
def State.beatsSent (s : State) : State := s.joined.foldl (fun s n => s.flitTo n 2) s

/-- The entry the device tells of itself. -/
def State.myInfo (s : State) (gen : Nat) : NodeInfo := ⟨1, s.myPrio, 0, s.row.code, Config.chipRev.toNat / 2 ^ 16, gen, s.rd64 0x05000010⟩

theorem flitsTo_net (ty : Nat) (l : List Nat) (s : State) : ∃ ps, (l.foldl (fun s n => s.flitTo n ty) s).net = { s.net with ports := ps } := by
  induction l generalizing s with
  | nil => exact ⟨s.net.ports, rfl⟩
  | cons n l ih =>
    obtain ⟨ps, hps⟩ := flitTo_net s n ty
    obtain ⟨qs, hqs⟩ := ih (s.flitTo n ty)
    exact ⟨qs, by rw [List.foldl_cons, hqs, hps]⟩

theorem beatsSent_frame (s : State) : Frame [.net] [] s s.beatsSent := Frame.foldl (fun _ _ _ g => g.flitTo (by simp) ..) (Frame.refl ..)

theorem beatsSent_net (s : State) : s.beatsSent.joined = s.joined ∧ s.beatsSent.net.toldGen = s.net.toldGen ∧ s.beatsSent.net.nodes = s.net.nodes
    ∧ s.beatsSent.net.edges = s.net.edges ∧ s.beatsSent.net.given = s.net.given := by
  obtain ⟨ps, hps⟩ := flitsTo_net 2 s.joined s
  have hnet : s.beatsSent.net = { s.net with ports := ps } := hps
  rw [State.joined, hnet]
  exact ⟨rfl, rfl, rfl, rfl, rfl⟩

theorem ctlSend_given (s : State) (dest : Nat) (m : CtlMsg) : (s.ctlSend dest m).net.given = s.net.given := by
  obtain ⟨ps, hps⟩ := flitTo_net s dest 3
  rw [State.ctlSend, State.mNet_net, hps]

/-- The device's number reads one register and the number the root gave. -/
theorem myNode_given {s t : State} (hnode : t.rd 0x05000004 = s.rd 0x05000004) (hgiven : t.net.given = s.net.given) (hv : t.variant = s.variant) :
    t.myNode = s.myNode := by
  rw [State.myNode, State.myNode, rb_congr hnode, rf_congr hnode, hgiven, State.row, hv, State.row]

theorem ctlSend_myNode (s : State) (dest : Nat) (m : CtlMsg) : (s.ctlSend dest m).myNode = s.myNode :=
  have hframe : Frame [.net] [] s (s.ctlSend dest m) := (Frame.refl ..).ctlSend (by simp) ..
  myNode_given (hframe.regs _ (by simp)) (ctlSend_given ..) hframe.variant

/-- Messages that name the device's own number name it throughout. -/
theorem ctlSends_myNode (me : NodeInfo) (l : List Nat) (s : State) : l.foldl (fun s n => s.ctlSend n (.directory s.myNode me)) s =
    l.foldl (fun t n => t.ctlSend n (.directory s.myNode me)) s := by
  induction l generalizing s with
  | nil => rfl
  | cons n l ih => rw [List.foldl_cons, ih, ctlSend_myNode, List.foldl_cons]

section
variable {s u : State} {dt : Nat} (hu : u = s.tick dt)
include hu

theorem beatSend_quiet (hquiet : u.joined = [] ∨ u.rd 0x104 = u.net.toldGen) : exec (.beatSend dt) s = .next u.beatsSent := by
  obtain ⟨hjoined, htold, -⟩ := beatsSent_net u
  have hcond : (u.beatsSent.joined.isEmpty || u.beatsSent.rd 0x104 == u.beatsSent.net.toldGen) = true := by
    rw [hjoined, htold, (beatsSent_frame u).regs _ (by simp), Bool.or_eq_true, List.isEmpty_iff, beq_iff_eq]
    exact hquiet
  subst hu
  exact if_pos hcond

theorem beatSend_told (hsome : u.joined ≠ []) (hgen : u.rd 0x104 ≠ u.net.toldGen) : exec (.beatSend dt) s = .next (u.joined.foldl (fun s n => s.ctlSend n
    (.directory u.myNode (u.myInfo (u.rd 0x104)))) (u.beatsSent.mNet fun n => { n with toldGen := u.rd 0x104 })) := by
  obtain ⟨hjoined, htold, hnodes, hedges, hgiven⟩ := beatsSent_net u
  have hframe := beatsSent_frame u
  have hrd : u.beatsSent.rd 0x104 = u.rd 0x104 := hframe.regs _ (by simp)
  have hcond : ¬ (u.beatsSent.joined.isEmpty || u.beatsSent.rd 0x104 == u.beatsSent.net.toldGen) = true := by
    rw [hjoined, htold, hrd, Bool.or_eq_true, List.isEmpty_iff, beq_iff_eq]
    tauto
  have hinfo : u.beatsSent.myInfo (u.rd 0x104) = u.myInfo (u.rd 0x104) := by
    rw [State.myInfo, State.myInfo, State.myPrio, State.myPrio, rf_congr (hframe.regs _ (by simp)), State.row, hframe.variant, State.row,
      rd64_congr (hframe.regs _ (by simp)) (hframe.regs _ (by simp))]
  have hnode : (u.beatsSent.mNet fun n => { n with toldGen := u.rd 0x104 }).myNode = u.myNode := myNode_given (hframe.regs _ (by simp)) hgiven hframe.variant
  have hexec : exec (.beatSend dt) s = .next (u.beatsSent.joined.foldl (fun s n => s.ctlSend n (.directory s.myNode (u.beatsSent.myInfo (u.beatsSent.rd 0x104))))
      (u.beatsSent.mNet fun n => { n with toldGen := u.beatsSent.rd 0x104 })) := by
    subst hu
    exact if_neg hcond
  rw [hexec, hrd, hjoined, hinfo, ctlSends_myNode, hnode]

variable {n : Nat}

theorem nodeLost_late (hjoined : (u.node n).info.state = 1) (hlate : (u.node n).beatAt + 10000000 ≤ u.now) : exec (.nodeLost dt n) s =
    .next ((((((u.dirSet n { (u.node n).info with state := 2 }).emitPf 0xC2 .lost ((if (u.routeTo n).isSome then 1 else 2) * 2 ^ 24 + n)).leaveSettle).rootSettle
      u.rootNode).timeSettle).impCheck) := by
  subst hu
  exact if_pos ⟨hjoined, hlate⟩

theorem nodeLost_waits (hwaits : (u.node n).info.state ≠ 1 ∨ u.now < (u.node n).beatAt + 10000000) : exec (.nodeLost dt n) s = .next u := by
  subst hu
  exact if_neg fun hand => hwaits.elim (absurd hand.1) (Nat.not_lt.mpr hand.2)

end

/-- One joined node: its port sends one flit. -/
theorem beatsSent_one {s : State} {n p h : Nat} (hjoined : s.joined = [n]) (hroute : s.routeTo n = some (p, h)) :
    (s.beatsSent.icv p).txSeq = ((s.icv p).txSeq + 1) % 2 ^ 16 ∧ (s.beatsSent.icv p).unacked = (s.icv p).unacked ++ [((s.icv p).txSeq, 2)] := by
  have hsent : s.beatsSent.icv p = { s.icv p with txSeq := ((s.icv p).txSeq + 1) % 2 ^ 16, unacked := (s.icv p).unacked ++ [((s.icv p).txSeq, 2)] } := by
    rw [State.beatsSent, hjoined, List.foldl_cons, List.foldl_nil, State.flitTo, hroute]
    exact mIcv_icv_same ..
  rw [hsent]
  exact ⟨rfl, rfl⟩

section
variable {s u : State} {dt p n : Nat} (hu : u = s.tick dt)
include hu

theorem beat_joined (hjoined : (u.node n).info.state = 1) : exec (.beat dt n) s = .next (u.mNode n fun t => { t with beatAt := u.now }) := by
  rw [exec_beat, execBeat, ← hu]
  exact congrArg Host.Outcome.next (if_pos hjoined)

theorem beat_other (hnot : (u.node n).info.state ≠ 1) : exec (.beat dt n) s = .next u := by
  rw [exec_beat, execBeat, ← hu]
  exact congrArg Host.Outcome.next (if_neg hnot)

variable {lanes most : Nat} (hmost : most = 2 ^ min 2 (u.rf (icvPort p 0) 29 28))
  (hn : n = if 4 ≤ min lanes most then 4 else if 2 ≤ min lanes most then 2 else min 1 (min lanes most))
include hmost hn

theorem icvikTrainingDone_up (hstate : u.icvState p = 1) (hsome : 0 < n) : exec (.icvikTrainingDone dt p lanes) s =
    .next ((u.portTrained p n).emitPf 0xC0 .ok (p * 2 ^ 24 + 2 ^ 16 + n * 2 ^ 8)) := by
  subst hmost
  have hgo : ¬ (u.icvState p ≠ 1 ∨ n = 0) := by omega
  subst hn hu
  exact if_neg hgo

theorem icvikTrainingDone_none (hnone : n = 0) : exec (.icvikTrainingDone dt p lanes) s = .next u := by
  subst hmost
  have hstop : u.icvState p ≠ 1 ∨ n = 0 := .inr hnone
  subst hn hu
  exact if_pos hstop

end

/-- What the port of a flit holds afterwards. -/
theorem afterFlit_fields (t : PortSt) (good next : Bool) (now a : Nat) : (t.afterFlit good next now a).heardAt = (if good then now else t.heardAt)
    ∧ (t.afterFlit good next now a).discard = !(good && next) ∧ (t.afterFlit good next now a).rxSeq = (if good && next then (t.rxSeq + 1) % 2 ^ 16 else t.rxSeq)
    ∧ (t.afterFlit good next now a).unacked = (if good then ackDrop a t.unacked else t.unacked) ∧ (t.afterFlit good next now a).txSeq = t.txSeq
    ∧ (t.afterFlit good next now a).replays =
      if good then t.replays.filter fun r => (if good then ackDrop a t.unacked else t.unacked).any fun c => c.1 == r.2 else t.replays := by
  cases good with
  | false => exact ⟨rfl, rfl, rfl, rfl, rfl, rfl⟩
  | true => cases next <;> exact ⟨rfl, rfl, rfl, rfl, rfl, rfl⟩

/-- Settles O53: the parts of a port, a greeting and a beat, each by its own rule (log entry 47). -/
theorem icvikPortsAndNodes : Obligations.IcvikPortsAndNodes := by
  unfold Obligations.IcvikPortsAndNodes
  refine ⟨fun dt p r v s u hu hp hport hoff => ⟨fun hclaim => icvikPortEnable_claimed hu hp hport hoff hclaim,
      fun hclaim => ⟨fun hon hwas => ⟨_, icvikPortEnable_taken hu hp hport hoff hclaim, ?trains⟩,
        fun hsame => ⟨_, icvikPortEnable_taken hu hp hport hoff hclaim, ?same⟩, fun hdown hwas => ⟨u.wr (icvPort p 0) (v.toNat &&& 0xF0000000), ?stops⟩⟩⟩,
    fun p u t hp hup ht => ?lost,
    fun dt p lanes most n s u hu hmost hn hstate => ⟨fun hsome => ⟨_, icvikTrainingDone_up hu hmost hn hstate hsome, ?trained⟩,
      fun hnone => icvikTrainingDone_none hu hmost hn hnone⟩,
    fun dt p s u hu => ⟨fun hup hlate => ?silent, fun hheard => ?heard⟩,
    fun dt p f flit nak good x left s u hu hup hf hx hgood hleft => ⟨u.flitTaken p flit, u.flitPassed p flit, ?flit⟩,
    fun dt p flit nak s u hu hdown => ?down, fun dt p h alone s u v hu hup hv halone => ?hello,
    fun dt n s u hu => ⟨fun hjoined => ⟨_, beat_joined hu hjoined, ?beat⟩, fun hnot => beat_other hu hnot⟩,
    fun dt s u hu => ⟨u.beatsSent, beatsSent_frame u, (beatsSent_net u).2.2.1, (beatsSent_net u).2.2.2.1, (beatsSent_net u).2.1,
      fun n p h hjoined hroute => beatsSent_one hjoined hroute, fun hquiet => beatSend_quiet hu hquiet, fun hsome hgen => beatSend_told hu hsome hgen⟩,
    fun dt n s u hu => ⟨fun hjoined hlate => ⟨_, nodeLost_late hu hjoined hlate, ?gone⟩, fun hwaits => nodeLost_waits hu hwaits⟩,
    fun dt edges misfit s u hu => ⟨u.mNet fun n => { n with edges := edges }, ?route, rfl, (Frame.refl ..).mNet (by simp) _⟩⟩
  case trains =>
    rw [if_pos hon, hwas]
    refine ⟨?_, ?_, ((Frame.refl ..).wr (by simp) _).wr (by simp) _⟩
    · rw [State.icvState, if_neg (by decide), rf_wr_same]
      rfl
    · rw [if_neg (by decide), State.rd_wr_ne _ (icvPort_ne (by decide)), State.rd_wr_same, portCtrl_word]
  case same =>
    rw [hsame]
    cases u.rb (icvPort p 0) 31 with
    | false => exact ⟨(State.rd_wr_same ..).trans (portCtrl_word _), (Frame.refl ..).wr (by simp) _⟩
    | true => exact ⟨(State.rd_wr_same ..).trans (portCtrl_word _), (Frame.refl ..).wr (by simp) _⟩
  case stops =>
    refine ⟨(State.rd_wr_same ..).trans (portCtrl_word _), (Frame.refl ..).wr (by simp) _, ?_⟩
    rw [icvikPortEnable_taken hu hp hport hoff hclaim, hdown, hwas]
    rfl
  case lost =>
    obtain ⟨hregs, hports, hedges⟩ := portSettled_keeps (u.portLost p) u.rootNode (p * 2 ^ 24) hp
    obtain ⟨hstate, hdowns, hpeer⟩ := portLost_regs (s := u) (p := p)
    obtain ⟨hicv, hlinks⟩ := portLost_net (s := u) (p := p)
    rw [ht, portDown_up hup]
    refine ⟨?_, ?_, ?_, ?_, ?_⟩
    · rw [← hstate]
      exact rf_congr (hregs 4 (by decide) (by decide)) ..
    · rw [hregs 0x18 (by decide) (by decide), hdowns]
    · rw [hregs 8 (by decide) (by decide), hpeer]
    · rw [State.icv, hports]
      exact hicv
    · rw [hedges, hlinks]
  case trained =>
    have hn5 : n < 5 := by
      rw [hn]
      split
      · decide
      · split <;> omega
    obtain ⟨hstate, hlanes, hpayload⟩ := portTrained_shown u p hn5
    refine ⟨hstate, hlanes, hpayload, ?_, ?_, ((Frame.refl ..).wr (by simp) _).mIcv (by simp) ..⟩
    · rw [State.portTrained, mIcv_icv_same]
    · rw [State.portTrained, mIcv_icv_same]
  case silent =>
    subst hu
    exact if_pos ⟨hup, hlate⟩
  case heard =>
    subst hu
    refine if_neg fun hand => hheard.elim (fun hdown => ?_) (Nat.not_lt.mpr hand.2)
    exact absurd hand.1 (by rw [hdown]; decide)
  case flit =>
    subst hf hx
    have hgood' : flitGood flit = good := hgood.symm
    obtain ⟨hheard, hdiscard, hrx, hunacked, htx, hreplays⟩ :=
      afterFlit_fields (u.icv p) good (bits (leNat flit) 1999 1984 == (u.icv p).rxSeq) u.now (bits (leNat flit) 2015 2000)
    rw [← hgood', ← flitTaken_icv u p flit] at hheard hdiscard hrx hunacked htx hreplays
    rw [hgood', ← hleft] at hunacked hreplays
    rw [hgood'] at hheard hdiscard hrx
    refine ⟨by rw [← hgood']; rfl, flitTaken_frame u p flit, hheard, hdiscard, hrx, hunacked, htx, hreplays, fun hno => ?_,
      fun hyes => ⟨(u.flitPassed p flit).sat (icvPort p 0x14) 1, ?_, (Frame.refl ..).wr (by simp) _, fun hnone => ?_, fun c recent z hlast hrecent hz => ?_⟩⟩
    · rw [flitReceive_eq hu hup, hno]
      rfl
    · rw [State.sat, State.rd_wr_same, (flitPassed_frame u p flit).regs _ (by simp)]
      exact Nat.mod_eq_of_lt (by unfold satAdd; omega)
    · rw [flitReceive_eq hu hup, if_pos hyes, flitNak_none hnone]
    · have hnow : (u.flitPassed p flit).now = u.now := (flitPassed_frame u p flit).now
      have hsat : ((u.flitPassed p flit).sat (icvPort p 0x14) 1).now = u.now := by rw [← hnow]; simp only [State.sat, State.wr_frame]
      have hrec : (u.flitPassed p flit).flitRecent p = recent := by rw [hrecent, State.flitRecent, hnow]
      rw [flitReceive_eq hu hup, if_pos hyes, flitNak_some hlast, hrec, State.flitReplay, hsat, ← hz]
  case down =>
    subst hu
    exact if_pos (by rw [hdown]; rfl)
  case hello =>
    have hv' : v = u.numberKept h := hv.trans (by unfold State.numberKept; cases h.give <;> rfl)
    subst hv' halone
    obtain ⟨hnodes, hkept⟩ := numberKept_keeps u h []
    have hnode (n : Nat) : (u.numberKept h).node n = u.node n := by rw [State.node, State.node, hnodes]
    have hstate : (u.numberKept h).icvState p = u.icvState p := rf_congr (hkept.regs _ (by simp)) ..
    refine ⟨fun hyes => hello_rootless hu hup hyes, fun hno hwaits => hello_waits hu hup hno hwaits, fun n hno hnow hn =>
      ⟨fun hnew hfresh => ⟨((u.numberKept h).portJoined p n h).nodeJoin n h.info, ?_, ?_⟩, fun hnew hjoined hmet => ⟨(u.numberKept h).portJoined p n h, ?_, ?_⟩,
        fun hknown hclash hhere => ?_, fun hknown hclash hnot hother => ⟨u.dirSet n { h.info with state := 3, joins := (u.node n).info.joins }, ?_, ?_, ?_⟩⟩⟩
    · rw [hello_joins hu hup hno hnow hn hnew, helloJoin_fresh _ _ _ _ _ (by rwa [hstate])]
    · obtain ⟨hpeer, hjoined, hedge, hsame⟩ := portJoined_shown (u.numberKept h) p n h
      have hrd (o : Nat) : (((u.numberKept h).portJoined p n h).nodeJoin n h.info).rd (icvPort p o) = ((u.numberKept h).portJoined p n h).rd (icvPort p o) :=
        ((Frame.refl _ [.net] [0x05000018]).nodeJoin (by simp) (by simp) n h.info).regs _ (by simp only [List.mem_singleton]; unfold icvPort; omega)
      refine ⟨(hrd 8).trans hpeer, (rf_congr (hrd 4) ..).trans hjoined, ?_, ?_, ?_, ?_, ?_⟩
      · rw [nodeJoin_edges]
        exact hedge
      · rw [nodeJoin_node, State.joinInfo, portJoined_node]
      · rw [nodeJoin_node]
        dsimp only
        rw [portJoined_now, hkept.now]
      · rw [nodeJoin_gen, portJoined_gen, hkept.regs _ (by simp)]
      · exact ((numberKept_keeps u h _).2.portJoined (by simp) (by simp) (by simp)).nodeJoin (by simp) (by simp) ..
    · rw [hello_joins hu hup hno hnow hn hnew, helloJoin_again _ _ _ _ _ (by rwa [hstate]) hmet]
    · obtain ⟨hpeer, -, hedge, hsame⟩ := portJoined_shown (u.numberKept h) p n h
      exact ⟨hpeer, hedge, hsame.trans hnodes, (numberKept_keeps u h _).2.portJoined (by simp) (by simp) (by simp)⟩
    · rw [hello_refused hu hup hno hnow hn hknown hclash, if_pos hhere]
    · rw [hello_refused hu hup hno hnow hn hknown hclash, if_neg (by tauto)]
    · rw [dirSet_node]
    · exact (Frame.refl ..).dirSet (by simp) (by simp) ..
  case beat =>
    refine ⟨?_, ?_, (Frame.refl ..).mNode (by simp) ..⟩
    · rw [mNode_node_same]
    · rw [mNode_node_same]
  case gone => exact ⟨by rw [dirSet_node], dirSet_gen .., (Frame.refl ..).dirSet (by simp) (by simp) ..⟩
  case route =>
    rw [exec_routeUpdate, execRouteUpdate, ← hu]

end Sys2Proof.Machine
end

section
/-!
PROOFS. TSN MACs: enable and link, transmission, reception, gates, gPTP, rings and MDIO (R649 to R661).
-/
namespace Sys2Proof.Machine

theorem exec_tsnEnable (dt m : Nat) (r : Req) (v : Word) (s : State) : exec (.tsnEnable dt r m v) s = execTsnEnable dt r m v s := rfl
theorem exec_tsnLink (dt m : Nat) (up : Bool) (rate : Nat) (s : State) : exec (.tsnLink dt m up rate) s = execTsnLink dt m up rate s := rfl
theorem exec_tsnFrameTx (dt m : Nat) (hosts : List HostRun) (s : State) : exec (.tsnFrameTx dt m hosts) s = execTsnFrameTx dt m hosts s := rfl
theorem exec_tsnFrameRx (dt m : Nat) (frame : Bytes) (ptp : Option PtpIn) (avtp : Option AvtpIn) (hosts : List HostRun) (s : State) :
    exec (.tsnFrameRx dt m frame ptp avtp hosts) s = execTsnFrameRx dt m frame ptp avtp hosts s := rfl
theorem exec_gclApply (dt m : Nat) (r : Req) (s : State) : exec (.gclApply dt r m) s = execGclApply dt r m s := rfl
theorem exec_tsnGclSwitch (dt m : Nat) (s : State) : exec (.tsnGclSwitch dt m) s = execTsnGclSwitch dt m s := rfl
theorem exec_gateControlEntry (dt m : Nat) (s : State) : exec (.gateControlEntry dt m) s = execGateControlEntry dt m s := rfl
theorem exec_ptpSyncLoss (dt m : Nat) (s : State) : exec (.ptpSyncLoss dt m) s = execPtpSyncLoss dt m s := rfl
theorem exec_ptpInterval (dt m : Nat) (msg : Bytes) (ptp : Option PtpIn) (s : State) : exec (.ptpInterval dt m msg ptp) s = execPtpInterval dt m msg ptp s := rfl
theorem exec_ppsPulse (dt m : Nat) (s : State) : exec (.ppsPulse dt m) s = execPpsPulse dt m s := rfl
theorem exec_tsnTxrDoorbell (dt m : Nat) (r : Req) (v : Word) (s : State) : exec (.tsnTxrDoorbell dt r m v) s = execTsnTxrDoorbell dt r m v s := rfl
theorem exec_tsnRxrDoorbell (dt m : Nat) (r : Req) (v : Word) (s : State) : exec (.tsnRxrDoorbell dt r m v) s = execTsnRxrDoorbell dt r m v s := rfl
theorem exec_tsnRingEnable (dt m : Nat) (rx : Bool) (r : Req) (v : Word) (s : State) :
    exec (.tsnRingEnable dt r m rx v) s = execTsnRingEnable dt r m rx v s := rfl
theorem exec_mdioDone (dt m data : Nat) (s : State) : exec (.mdioDone dt m data) s = execMdioDone dt m data s := rfl
theorem exec_tsnMdioCmd (dt m : Nat) (r : Req) (v : Word) (s : State) : exec (.tsnMdioCmd dt r m v) s = execTsnMdioCmd dt r m v s := rfl

/-! ### The state of a MAC -/

section
variable (s : State) (m : Nat)

theorem mMac_mac (f : MacSt → MacSt) : (s.mMac m f).mac m = f (s.mac m) := (tget_tmod ..).trans (if_pos rfl)

theorem mMac_rd (f : MacSt → MacSt) (k : Nat) : (s.mMac m f).rd k = s.rd k := rfl

theorem mac_congr {s t : State} (h : t.net = s.net) (m : Nat) : t.mac m = s.mac m := by rw [State.mac, State.mac, h]

theorem wr_mac (k v : Nat) : (s.wr k v).mac m = s.mac m := mac_congr (by simp only [State.wr_frame]) m
theorem wf_mac (k hi lo v : Nat) : (s.wf k hi lo v).mac m = s.mac m := mac_congr (by simp only [State.wf_frame]) m
theorem wb_mac (k i : Nat) (b : Bool) : (s.wb k i b).mac m = s.mac m := mac_congr (by simp only [State.wb_frame]) m
theorem emitPf_mac (kind : Nat) (st : Status) (detail : Nat) : (s.emitPf kind st detail).mac m = s.mac m := mac_congr (emitPf_net ..) m

theorem tsnReg_ne {m a b : Nat} (h : a ≠ b) : tsnReg m a ≠ tsnReg m b := by
  unfold tsnReg
  omega

/-- The registers of the MACs stay as they are when an event is written. -/
theorem emitPf_tsn (kind : Nat) (st : Status) (detail : Nat) {o : Nat} (hm : m < 2) (ho : o < 0x10000) :
    (s.emitPf kind st detail).rd (tsnReg m o) = s.rd (tsnReg m o) := by
  have hev : viReg pfWin 0x14 = 0x0080FFD4 := by decide
  have hk : tsnReg m o < 0x07000000 ∧ tsnReg m o ≠ viReg pfWin 0x14 := by
    rw [hev]
    unfold tsnReg
    omega
  exact emitPf_rd _ _ _ _ _ hk.1 hk.2

theorem ptpEvent_tsn (old : Nat) {o : Nat} (hm : m < 2) (ho : o < 0x10000) : (s.ptpEvent m old).rd (tsnReg m o) = s.rd (tsnReg m o) := by
  unfold State.ptpEvent
  dsimp only
  split
  · rfl
  · exact emitPf_tsn s m _ _ _ hm ho

theorem ptpEvent_mac (old : Nat) : (s.ptpEvent m old).mac m = s.mac m := by
  unfold State.ptpEvent
  dsimp only
  split
  · rfl
  · exact emitPf_mac ..

end

theorem Frame.mMac {s t : State} {ps : List Part} {ks : List Nat} (h : Frame ps ks s t) (hp : Part.net ∈ ps) (m : Nat) (f : MacSt → MacSt) :
    Frame ps ks s (t.mMac m f) := h.mNet hp _

section
variable {s : State} {r : Req} {m : Nat} (hp : ∀ x, r.path ≠ .vi x)
include hp

theorem tsnReach_claimed (hclaim : s.claimedFor 0x81 m r = true) : s.tsnReach r m = (false, s.tsnResult m .claimed) := by
  unfold State.tsnReach
  split
  next x hx => exact absurd hx (hp x)
  next => exact if_pos hclaim

theorem tsnReach_free (hclaim : s.claimedFor 0x81 m r = false) : s.tsnReach r m = (true, s) := by
  unfold State.tsnReach
  split
  next x hx => exact absurd hx (hp x)
  next => exact if_neg (by rw [hclaim]; decide)

end

/-! ### Enable and link (R649, R659, R661) -/

section
variable {s u : State} {dt m : Nat} {r : Req} {v : Word} (hu : u = s.tick dt) (hp : ∀ x, r.path ≠ .vi x)
include hu hp

theorem tsnEnable_claimed (hclaim : u.claimedFor 0x81 m r = true) : exec (.tsnEnable dt r m v) s = .next (u.wf (tsnReg m 8) 22 16 Status.claimed.code) := by
  simp only [exec_tsnEnable, execTsnEnable, ← hu, tsnReach_claimed hp hclaim, Bool.not_false, if_true, State.tsnResult]

variable (hclaim : u.claimedFor 0x81 m r = false)
include hclaim

theorem tsnEnable_bad (hrate : 4 < bits v.toNat 30 28) : exec (.tsnEnable dt r m v) s = .next (u.wf (tsnReg m 8) 22 16 Status.badParam.code) := by
  simp only [exec_tsnEnable, execTsnEnable, ← hu, tsnReach_free hp hclaim, Bool.not_true, Bool.false_eq_true, if_false, hrate, if_true, State.tsnResult]

theorem tsnEnable_taken (hrate : bits v.toNat 30 28 ≤ 4) : exec (.tsnEnable dt r m v) s =
    .next (if u.rb (tsnReg m 4) 31 = true ∧ bit v.toNat 31 = false then ((u.wr (tsnReg m 4) (v.toNat &&& 0xF0000000)).tsnDown m).tsnLink m false 0
      else u.wr (tsnReg m 4) (v.toNat &&& 0xF0000000)) := by
  simp only [exec_tsnEnable, execTsnEnable, ← hu, tsnReach_free hp hclaim, Bool.not_true, Bool.false_eq_true, if_false, Nat.not_lt.mpr hrate, Bool.and_eq_true,
    Bool.not_eq_true']

end

/-- The rings of a MAC that goes down. -/
def State.tsnEmptied (s : State) (m : Nat) : State := (s.tsnRingOff m true).tsnRingOff m false

/-- A MAC with every gate open, and nothing of gPTP or of its list. -/
def State.tsnGates (s : State) (m : Nat) : State :=
  s.mMac m fun t => { t with oper := none, entry := 0, gates := 0xFF, gptp := [], held := [], found := false, pps := none }

/-- The packets of the talkers of a MAC are dropped. -/
def State.tsnSilent (s : State) (m : Nat) : State := s.mAudio fun a => { a with packets := a.packets.filter fun c => s.talkerMac c.1 != m }

/-- A MAC that goes down, its gates open and its time begun again, before that is reported. -/
def State.tsnOpened (s : State) (m : Nat) : State :=
  ((((((s.tsnEmptied m).tsnGates m).tsnSilent m).wb (tsnReg m 0x20) 29 false).wr (tsnReg m 0x38) 0).wr64 (tsnReg m 0x40) 0)

theorem tsnDown_eq (s : State) (m : Nat) : s.tsnDown m = (s.tsnOpened m).ptpEvent m (s.rf (tsnReg m 0x38) 31 28) := rfl

section
variable (s : State) (m : Nat)

theorem mAudio_rd (f : Audio → Audio) (k : Nat) : (s.mAudio f).rd k = s.rd k := rfl

theorem mAudio_mac (f : Audio → Audio) : (s.mAudio f).mac m = s.mac m := rfl

theorem wr64_mac (k v : Nat) : (s.wr64 k v).mac m = s.mac m := mac_congr (by simp only [State.wr64, State.wr_frame]) m

theorem tsnCtrl_reg (rx : Bool) : tsnCtrl m rx = tsnReg m (if rx then 0x70 else 0x58) := by cases rx <;> rfl

theorem tsnEmptied_shown : (s.tsnEmptied m).rb (tsnCtrl m true) 31 = false ∧ (s.tsnEmptied m).rb (tsnCtrl m false) 31 = false
    ∧ ((s.tsnEmptied m).mac m).txq = [] := by
  have hne : tsnCtrl m true ≠ tsnCtrl m false := tsnReg_ne (by decide)
  refine ⟨?_, ?_, ?_⟩
  · refine (rb_congr (s := (s.tsnRingOff m true).wb (tsnCtrl m false) 31 false) (mMac_rd ..) _).trans ?_
    rw [rb_congr (rd_wb_ne _ hne)]
    exact rb_wb_same _ _ _ (by decide)
  · refine (rb_congr (s := (s.tsnRingOff m true).wb (tsnCtrl m false) 31 false) (mMac_rd ..) _).trans ?_
    exact rb_wb_same _ _ _ (by decide)
  · exact congrArg MacSt.txq (mMac_mac ((s.tsnRingOff m true).wb (tsnCtrl m false) 31 false) m fun t => { t with txq := [], done := [] })

theorem tsnOpened_ctrl (rx : Bool) : (s.tsnOpened m).rd (tsnCtrl m rx) = (s.tsnEmptied m).rd (tsnCtrl m rx) := by
  have hne {o : Nat} (ho : o ≠ 0x70) (ho' : o ≠ 0x58) : tsnCtrl m rx ≠ tsnReg m o := by
    rw [tsnCtrl_reg]
    split
    · exact tsnReg_ne ho.symm
    · exact tsnReg_ne ho'.symm
  have h44 : tsnReg m 0x40 + 4 = tsnReg m 0x44 := rfl
  rw [State.tsnOpened, State.wr64, h44, State.rd_wr_ne _ (hne (by decide) (by decide)), State.rd_wr_ne _ (hne (by decide) (by decide)),
    State.rd_wr_ne _ (hne (by decide) (by decide)), rd_wb_ne _ (hne (by decide) (by decide)), State.tsnSilent, mAudio_rd, State.tsnGates, mMac_rd]

theorem tsnOpened_mac : (s.tsnOpened m).mac m =
    { (s.tsnEmptied m).mac m with oper := none, entry := 0, gates := 0xFF, gptp := [], held := [], found := false, pps := none } := by
  rw [State.tsnOpened, wr64_mac, wr_mac, wb_mac, State.tsnSilent, mAudio_mac, State.tsnGates, mMac_mac]

theorem tsnOpened_time : (s.tsnOpened m).rd (tsnReg m 0x38) = 0 ∧ (s.tsnOpened m).rd64 (tsnReg m 0x40) = 0 := by
  have h44 : tsnReg m 0x40 + 4 = tsnReg m 0x44 := rfl
  refine ⟨?_, rd64_wr64 ..⟩
  rw [State.tsnOpened, State.wr64, h44, State.rd_wr_ne _ (tsnReg_ne (by decide)), State.rd_wr_ne _ (tsnReg_ne (by decide)), State.rd_wr_same, Nat.zero_mod]

end

/-- A link that changes, in its register. -/
def State.linkSet (s : State) (m : Nat) (up : Bool) (rate : Nat) : State := (s.wb (tsnReg m 8) 31 up).wf (tsnReg m 8) 30 28 (if up then rate else 0)

/-- What is left of a MAC whose link is lost: no packets, and gPTP in holdover. -/
def State.macLinkLost (s : State) (m : Nat) : State :=
  if !(s.tsnSilent m).rb (tsnReg m 0x34) 31 then s.tsnSilent m
  else ((s.tsnSilent m).wb (tsnReg m 0x38) 28 true).ptpEvent m ((s.tsnSilent m).rf (tsnReg m 0x38) 31 28)

section
variable {s : State} {m rate : Nat}

theorem tsnLink_up (hoff : s.rb (tsnReg m 8) 31 = false) : s.tsnLink m true rate =
    (s.linkSet m true rate).emitPf 0xC8 .ok (m * 2 ^ 24 + 2 ^ 16 + rate * 2 ^ 8) := by
  rw [State.tsnLink, if_neg (by rw [hoff]; decide), State.linkSet]
  simp only [if_true, Bool.true_or, b2n, Nat.one_mul]

theorem tsnLink_again (hon : s.rb (tsnReg m 8) 31 = true) : s.tsnLink m true rate = s.wf (tsnReg m 8) 30 28 rate := by
  rw [State.tsnLink, if_pos hon, if_pos rfl]

theorem tsnLink_lost (hon : s.rb (tsnReg m 8) 31 = true) : s.tsnLink m false rate = ((s.linkSet m false rate).emitPf 0xC8 .fault (m * 2 ^ 24)).macLinkLost m := by
  rw [State.tsnLink, if_neg (by rw [hon]; decide), State.linkSet, State.macLinkLost]
  simp only [Bool.false_eq_true, if_false, Bool.false_or, b2n, Nat.zero_mul, Nat.add_zero, State.tsnSilent]

theorem linkSet_shown (up : Bool) (hrate : rate < 8) : (s.linkSet m up rate).rb (tsnReg m 8) 31 = up
    ∧ (s.linkSet m up rate).rf (tsnReg m 8) 30 28 = if up then rate else 0 := by
  refine ⟨?_, ?_⟩
  · rw [State.linkSet, rb_wf_ne _ _ _ (by decide) (by decide) (.inl (by decide)), rb_wb_same _ _ _ (by decide)]
  · rw [State.linkSet, rf_wf_same _ _ _ (by decide) (by decide)]
    refine Nat.mod_eq_of_lt ?_
    split <;> omega

end

section
variable (s : State) {m : Nat} (hm : m < 2)
include hm

theorem macLinkLost_link : (s.macLinkLost m).rd (tsnReg m 8) = s.rd (tsnReg m 8) := by
  unfold State.macLinkLost
  split
  · exact mAudio_rd ..
  · rw [ptpEvent_tsn _ _ _ hm (by decide), rd_wb_ne _ (tsnReg_ne (by decide)), State.tsnSilent, mAudio_rd]

theorem macLinkLost_holdover (hptp : s.rb (tsnReg m 0x34) 31 = true) : (s.macLinkLost m).rb (tsnReg m 0x38) 28 = true := by
  have hptp' : (s.tsnSilent m).rb (tsnReg m 0x34) 31 = true := hptp
  rw [State.macLinkLost, hptp', Bool.not_true, if_neg Bool.false_ne_true, rb_congr (ptpEvent_tsn _ _ _ hm (by decide)), rb_wb_same _ _ _ (by decide)]

end

/-! ### Transmission (R650 to R652) -/

/-- The frames the guard band now holds for the first time are counted. -/
def State.txHeld (s : State) (m : Nat) (held : List Nat) : State :=
  (s.sat (tsnReg m 0xA8) (held.filter fun c => !(s.mac m).held.contains c).length).mMac m fun t =>
    { t with held := t.held ++ held.filter fun c => !(s.mac m).held.contains c }

section
variable {s u w : State} {dt m : Nat} {hosts : List HostRun} (hu : u = (s.tickMem dt hosts).tsnOwed m)
include hu

theorem tsnFrameTx_down (hdown : u.rb (tsnReg m 8) 31 = false) : exec (.tsnFrameTx dt m hosts) s = .next u := by
  subst hu
  exact if_pos (by rw [hdown]; rfl)

variable (hup : u.rb (tsnReg m 8) 31 = true) (hw : w = (u.creditTick m).txLoad m hosts 4096)
include hup hw

theorem tsnFrameTx_sends {c : Nat} {f : TxFrame} {held : List Nat} (hpick : w.txPick m [7, 6, 5, 4, 3, 2, 1, 0] [] = (some (c, f), held)) :
    exec (.tsnFrameTx dt m hosts) s = .next ((w.txHeld m held).txSend m hosts c f) := by
  simp only [exec_tsnFrameTx, execTsnFrameTx, ← hu, hup, Bool.not_true, Bool.false_eq_true, if_false, ← hw, hpick, State.txHeld]

theorem tsnFrameTx_rests {held : List Nat} (hpick : w.txPick m [7, 6, 5, 4, 3, 2, 1, 0] [] = (none, held)) :
    exec (.tsnFrameTx dt m hosts) s = .next (w.txHeld m held) := by
  simp only [exec_tsnFrameTx, execTsnFrameTx, ← hu, hup, Bool.not_true, Bool.false_eq_true, if_false, ← hw, hpick, State.txHeld]

end

theorem txHeld_held (s : State) (m : Nat) (held : List Nat) : ((s.txHeld m held).mac m).held =
    (s.mac m).held ++ held.filter fun c => !(s.mac m).held.contains c := by
  rw [State.txHeld, mMac_mac, State.sat, wr_mac]

/-- Why a class is passed over: its gate, its credit, or the guard band, which holds its frame. -/
def State.txSkips (s : State) (m d : Nat) (held : List Nat) : Prop :=
  ∀ g, s.txNextOf m d = some g → bit (s.mac m).gates d = false ∨ s.creditOk m d = false ∨ (s.gateFits m d (s.txTime m (s.txLen g)) = false ∧ d ∈ held)

/-- What lets a class send. -/
def State.txMay (s : State) (m c : Nat) (f : TxFrame) : Prop :=
  s.txNextOf m c = some f ∧ bit (s.mac m).gates c = true ∧ s.creditOk m c = true ∧ s.gateFits m c (s.txTime m (s.txLen f)) = true

/-- The classes looked at: those before the one that sends are passed over. -/
theorem txPick_splits {s : State} {m c : Nat} {f : TxFrame} {l acc held : List Nat} (hpick : s.txPick m l acc = (some (c, f), held)) :
    ∃ l₁ l₂, l = l₁ ++ c :: l₂ ∧ s.txMay m c f ∧ (∀ d ∈ acc, d ∈ held) ∧ ∀ d ∈ l₁, s.txSkips m d held := by
  induction l generalizing acc with
  | nil => exact absurd (congrArg Prod.fst hpick) (by simp [State.txPick])
  | cons x l ih =>
    have hpass {acc' : List Nat} (hrest : s.txPick m l acc' = (some (c, f), held)) (hacc : ∀ d ∈ acc, d ∈ acc')
        (hskip : (∀ d ∈ acc', d ∈ held) → s.txSkips m x held) : ∃ l₁ l₂, x :: l = l₁ ++ c :: l₂ ∧ s.txMay m c f ∧ (∀ d ∈ acc, d ∈ held)
          ∧ ∀ d ∈ l₁, s.txSkips m d held := by
      obtain ⟨l₁, l₂, hl, hmay, hheld, hskips⟩ := ih hrest
      exact ⟨x :: l₁, l₂, by rw [hl, List.cons_append], hmay, fun d hd => hheld d (hacc d hd), List.forall_mem_cons.mpr ⟨hskip hheld, hskips⟩⟩
    rw [State.txPick] at hpick
    split at hpick
    next hnone => exact hpass hpick (fun _ hd => hd) fun _ g hg => absurd hg (by simp [hnone])
    next g hg =>
      split at hpick
      next hshut =>
        rw [Bool.or_eq_true, Bool.not_eq_true', Bool.not_eq_true'] at hshut
        exact hpass hpick (fun _ hd => hd) fun _ g' _ => hshut.imp_right .inl
      next hopen =>
        rw [Bool.or_eq_true, Bool.not_eq_true', Bool.not_eq_true', not_or, Bool.not_eq_false, Bool.not_eq_false] at hopen
        split at hpick
        next hfits =>
          obtain ⟨rfl, rfl⟩ : x = c ∧ g = f := by simpa using congrArg Prod.fst hpick
          obtain rfl : acc = held := congrArg Prod.snd hpick
          exact ⟨[], l, rfl, ⟨hg, hopen.1, hopen.2, hfits⟩, fun _ hd => hd, fun d hd => absurd hd List.not_mem_nil⟩
        next hlong =>
          refine hpass hpick (fun _ hd => List.mem_append_left _ hd) fun hheld g' hg' => .inr (.inr ⟨?_, hheld x (List.mem_append_right _ (List.mem_singleton_self x))⟩)
          obtain rfl : g = g' := Option.some.inj (hg.symm.trans hg')
          exact Bool.not_eq_true _ ▸ hlong

/-- Of the eight classes every one above the one that sends is passed over. -/
theorem txPick_highest {s : State} {m c : Nat} {f : TxFrame} {held : List Nat} (hpick : s.txPick m [7, 6, 5, 4, 3, 2, 1, 0] [] = (some (c, f), held)) :
    s.txMay m c f ∧ ∀ d, c < d → d < 8 → s.txSkips m d held := by
  obtain ⟨l₁, l₂, hl, hmay, -, hskips⟩ := txPick_splits hpick
  refine ⟨hmay, fun d hcd hd => hskips d ?_⟩
  have hsorted : List.Pairwise (· > ·) (l₁ ++ c :: l₂) := hl ▸ (by decide)
  have hmem : d ∈ l₁ ++ c :: l₂ := by
    rw [← hl]
    interval_cases d <;> simp
  obtain hin | hin := List.mem_append.mp hmem
  · exact hin
  · have hbelow : d ≤ c := by
      obtain rfl | hin := List.mem_cons.mp hin
      · exact le_rfl
      · exact Nat.le_of_lt (List.rel_of_pairwise_cons (List.pairwise_append.mp hsorted).2.1 hin)
    omega

/-! ### Reception (R657) -/

section
variable {s u w : State} {dt m : Nat} {b frame : Bytes} {good : Bool} {ptp : Option PtpIn} {avtp : Option AvtpIn} {hosts : List HostRun}
  (hu : u = (s.tickMem dt hosts).tsnOwed m)
include hu

theorem tsnFrameRx_down (hdown : u.rb (tsnReg m 8) 31 = false) : exec (.tsnFrameRx dt m frame ptp avtp hosts) s = .next u := by
  subst hu
  exact if_pos (by rw [hdown]; rfl)

variable (hb : b = frame.take (frame.length - 4)) (hgood : good = (leNat (frame.drop (frame.length - 4)) == crc32 b))
  (hw : w = if good then u.incr64 (tsnReg m 0x98) 1 else u) (hup : u.rb (tsnReg m 8) 31 = true)
include hb hgood hw hup

theorem tsnFrameRx_bad (hbad : good = false ∨ 1522 < frame.length) : exec (.tsnFrameRx dt m frame ptp avtp hosts) s = .next (w.rcCount (tsnReg m 0xA0) 1) := by
  have hcond : (!good || decide (1522 < frame.length)) = true := by
    rw [Bool.or_eq_true, Bool.not_eq_true', decide_eq_true_eq]
    exact hbad
  simp only [exec_tsnFrameRx, execTsnFrameRx, ← hu, hup, Bool.not_true, Bool.false_eq_true, if_false, ← hb, ← hgood, ← hw, hcond, if_true]

variable (hwhole : good = true) (hlen : frame.length ≤ 1522)
include hwhole hlen

theorem tsnFrameRx_ptp (htype : etherType b = 0x88F7) : exec (.tsnFrameRx dt m frame ptp avtp hosts) s =
    .next (match ptp with | some q => w.ptpTake m q | none => w) := by
  have hcond : (!good || decide (1522 < frame.length)) = false := by
    rw [hwhole, decide_eq_false (Nat.not_lt.mpr hlen)]
    rfl
  have hnext : exec (.tsnFrameRx dt m frame ptp avtp hosts) s = .next (ptp.elim w fun q => w.ptpTake m q) := by
    simp only [exec_tsnFrameRx, execTsnFrameRx, ← hu, hup, Bool.not_true, Bool.false_eq_true, if_false, ← hb, ← hgood, ← hw, hcond, htype, if_true]
    cases ptp <;> rfl
  rw [hnext]
  cases ptp <;> rfl

variable (htype : etherType b ≠ 0x88F7)
include htype

theorem tsnFrameRx_pf (hnone : ∀ a, avtp = some a → etherType b = 0x22F0 → w.listenerOf m a.id = none) :
    exec (.tsnFrameRx dt m frame ptp avtp hosts) s = .next (if w.pfTakes m (etherDest b) then w.rxStore m hosts b else w.rcCount (tsnReg m 0xA0) 1) := by
  have hcond : (!good || decide (1522 < frame.length)) = false := by
    rw [hwhole, decide_eq_false (Nat.not_lt.mpr hlen)]
    rfl
  simp only [exec_tsnFrameRx, execTsnFrameRx, ← hu, hup, Bool.not_true, Bool.false_eq_true, if_false, ← hb, ← hgood, ← hw, hcond, htype]
  rw [apply_ite Host.Outcome.next]
  cases avtp with
  | none => rfl
  | some a =>
    by_cases havtp : etherType b = 0x22F0
    · simp only [havtp, hnone a rfl havtp, if_true]
    · simp only [havtp, if_false]

theorem tsnFrameRx_listener {a : AvtpIn} {i : Nat} (ha : avtp = some a) (havtp : etherType b = 0x22F0) (hi : w.listenerOf m a.id = some i) :
    exec (.tsnFrameRx dt m frame ptp avtp hosts) s =
      .next (w.avtpReceive i { time := (a.time + 2 ^ 64 - w.rd64 (tsnReg m 0x40)) % 2 ^ 64, frames := a.frames } a.period) := by
  have hcond : (!good || decide (1522 < frame.length)) = false := by
    rw [hwhole, decide_eq_false (Nat.not_lt.mpr hlen)]
    rfl
  simp only [exec_tsnFrameRx, execTsnFrameRx, ← hu, hup, Bool.not_true, Bool.false_eq_true, if_false, ← hb, ← hgood, ← hw, hcond, htype, ha, if_pos havtp, hi]

end

/-! ### Gate lists (R652) -/

/-- When a gate list begins: the first cycle start that leaves 1 ms. -/
def gclStart (base cycle soon : Nat) : Nat := if soon ≤ base then base else base + cdiv (soon - base) cycle * cycle

theorem gclStart_spec {base cycle soon : Nat} (hcycle : 0 < cycle) : soon ≤ gclStart base cycle soon ∧ base ≤ gclStart base cycle soon
    ∧ (gclStart base cycle soon - base) % cycle = 0 ∧ (base < gclStart base cycle soon → gclStart base cycle soon < soon + cycle) := by
  unfold gclStart
  split
  next h => exact ⟨h, le_rfl, by rw [Nat.sub_self, Nat.zero_mod], fun hlt => absurd hlt (Nat.lt_irrefl _)⟩
  next h =>
    have hdiv := Nat.div_add_mod (soon - base + cycle - 1) cycle
    have hmod := Nat.mod_lt (soon - base + cycle - 1) hcycle
    have hcomm : cdiv (soon - base) cycle * cycle = cycle * ((soon - base + cycle - 1) / cycle) := Nat.mul_comm ..
    refine ⟨by omega, Nat.le_add_right .., by rw [Nat.add_sub_cancel_left, Nat.mul_mod_left], fun _ => by omega⟩

section
variable {s u : State} {dt m len cycle base : Nat} {es : List Nat} {r : Req} (hu : u = s.tick dt) (hp : ∀ x, r.path ≠ .vi x)
  (hclaim : u.claimedFor 0x81 m r = false)
include hu hp hclaim

theorem gclApply_busy (hbusy : u.rb (tsnReg m 0x20) 30 = true) : exec (.gclApply dt r m) s = .next (u.wf (tsnReg m 0x20) 22 16 Status.busy.code) := by
  simp only [exec_gclApply, execGclApply, ← hu, tsnReach_free hp hclaim, Bool.not_true, Bool.false_eq_true, if_false, hbusy, firstFail, if_true]

variable (hlen : len = u.rf (tsnReg m 0x20) 6 0) (hcycle : cycle = u.rd (tsnReg m 0x30))
  (hes : es = (List.range len).map fun e => u.rd (tsnReg m (0x400 + e * 4))) (hidle : u.rb (tsnReg m 0x20) 30 = false)
include hlen hcycle hes hidle

theorem gclApply_bad (hbad : len < 1 ∨ 64 < len ∨ cycle < 1000 ∨ 1000000000 < cycle ∨ ∃ e ∈ es, bits e 23 0 < 100) :
    exec (.gclApply dt r m) s = .next (u.wf (tsnReg m 0x20) 22 16 Status.badParam.code) := by
  have hfails : (decide (len < 1) || decide (64 < len) || decide (cycle < 1000) || decide (1000000000 < cycle) || es.any fun e => decide (bits e 23 0 < 100)) = true := by
    simp only [Bool.or_eq_true, decide_eq_true_eq, List.any_eq_true]
    tauto
  simp only [exec_gclApply, execGclApply, ← hu, tsnReach_free hp hclaim, Bool.not_true, Bool.false_eq_true, if_false, ← hlen, ← hcycle, ← hes, hidle, hfails,
    firstFail, if_true]

theorem gclApply_taken (hbase : base = u.rd64 (tsnReg m 0x28)) (hfew : 1 ≤ len) (hmany : len ≤ 64) (hshort : 1000 ≤ cycle) (hlong : cycle ≤ 1000000000) (hall : ∀ e ∈ es, 100 ≤ bits e 23 0) :
    exec (.gclApply dt r m) s = .next (((u.mMac m fun t => { t with next := some ⟨es, cycle, gclStart base cycle (u.gptp m + 1000000)⟩ }).wb
      (tsnReg m 0x20) 30 true).wf (tsnReg m 0x20) 22 16 0) := by
  have hpass : (decide (len < 1) || decide (64 < len) || decide (cycle < 1000) || decide (1000000000 < cycle) || es.any fun e => decide (bits e 23 0 < 100)) = false := by
    simp only [Bool.or_eq_false_iff, decide_eq_false_iff_not, Nat.not_lt, List.any_eq_false, decide_eq_true_eq]
    exact ⟨⟨⟨⟨hfew, hmany⟩, hshort⟩, hlong⟩, hall⟩
  simp only [exec_gclApply, execGclApply, ← hu, tsnReach_free hp hclaim, Bool.not_true, Bool.false_eq_true, if_false, ← hlen, ← hcycle, ← hes, ← hbase, hidle, hpass,
    firstFail, gclStart]

end

/-- A gate list that becomes operational. -/
def State.gclSwitched (s : State) (m : Nat) (g : GateList) : State :=
  ((((s.creditTick m).mMac m fun t => { t with next := none, oper := some g, entry := 0, cycleAt := g.at_, gates := bits (g.entries.headD 0) 31 24 }).wb
    (tsnReg m 0x20) 30 false).wb (tsnReg m 0x20) 29 true)

/-- A gate list that has moved on. -/
def State.gateMoved (s : State) (m : Nat) (g : GateList) (wrap : Prop) [Decidable wrap] : State :=
  (s.creditTick m).mMac m fun t => { t with
    entry := if wrap then 0 else min ((s.mac m).entry + 1) (g.entries.length - 1),
    gates := bits (g.entries.getD (if wrap then 0 else min ((s.mac m).entry + 1) (g.entries.length - 1)) 0) 31 24,
    cycleAt := if wrap then t.cycleAt + g.cycle else t.cycleAt }

section
variable {s u : State} {dt m : Nat} {g : GateList}

theorem tsnGclSwitch_due (hu : u = s.tick dt) (hnext : (u.mac m).next = some g) (hdue : g.at_ ≤ u.gptp m) :
    exec (.tsnGclSwitch dt m) s = .next ((u.gclSwitched m g).emitPf 0xCA .ok (m * 2 ^ 24 + g.entries.length)) := by
  simp only [exec_tsnGclSwitch, execTsnGclSwitch, ← hu, hnext, Nat.not_lt.mpr hdue, if_false, State.gclSwitched]

theorem tsnGclSwitch_early (hu : u = s.tick dt) (hnext : (u.mac m).next = some g) (hearly : u.gptp m < g.at_) : exec (.tsnGclSwitch dt m) s = .next u := by
  simp only [exec_tsnGclSwitch, execTsnGclSwitch, ← hu, hnext, hearly, if_true]

theorem creditTick_list (s : State) (m : Nat) : ((s.creditTick m).mac m).entry = (s.mac m).entry ∧ ((s.creditTick m).mac m).cycleAt = (s.mac m).cycleAt
    ∧ (s.creditTick m).gptp m = s.gptp m := by
  refine ⟨?_, ?_, rfl⟩
  · rw [State.creditTick, mMac_mac]
  · rw [State.creditTick, mMac_mac]

theorem gateControlEntry_moves (hu : u = (s.tick dt).tsnOwed m) (hoper : (u.mac m).oper = some g) :
    exec (.gateControlEntry dt m) s = .next (u.gateMoved m g ((u.mac m).cycleAt + g.cycle ≤ u.gptp m)) := by
  obtain ⟨hentry, hcycle, htime⟩ := creditTick_list u m
  simp only [exec_gateControlEntry, execGateControlEntry, ← hu, hoper, hentry, hcycle, htime, State.gateMoved]

end

/-! ### gPTP (R649, R653) -/

section
variable {s u : State} {dt m : Nat} (hu : u = (s.tick dt).tsnOwed m)
include hu

theorem ptpSyncLoss_off (hoff : u.rb (tsnReg m 0x34) 31 = false) : exec (.ptpSyncLoss dt m) s = .next u := by
  subst hu
  exact if_neg (by rw [hoff]; decide)

theorem ptpSyncLoss_on (hon : u.rb (tsnReg m 0x34) 31 = true) : exec (.ptpSyncLoss dt m) s =
    .next ((u.wb (tsnReg m 0x38) 28 true).ptpEvent m (u.rf (tsnReg m 0x38) 31 28)) := by
  subst hu
  exact if_pos hon

variable {msg : Bytes} {ptp : Option PtpIn}

theorem ptpInterval_off (hoff : u.rb (tsnReg m 0x34) 31 = false) : exec (.ptpInterval dt m msg ptp) s = .next u := by
  subst hu
  exact if_neg (by rw [hoff, Bool.false_and]; decide)

theorem ptpInterval_on (hon : u.rb (tsnReg m 0x34) 31 = true) (hup : u.rb (tsnReg m 8) 31 = true) : exec (.ptpInterval dt m msg ptp) s =
    .next (match ptp with | some q => (u.mMac m fun t => { t with gptp := t.gptp ++ [msg] }).ptpTake m q | none => u.mMac m fun t => { t with gptp := t.gptp ++ [msg] }) := by
  subst hu
  refine (if_pos (by rw [hon, hup]; rfl)).trans ?_
  cases ptp <;> rfl

theorem ppsPulse_eq : exec (.ppsPulse dt m) s = .next (if u.rb (tsnReg m 4) 31 then u.mMac m fun t => { t with pps := some (u.now + 10000000) } else u) := by
  rw [exec_ppsPulse, execPpsPulse, ← hu]

end

theorem b2n_bit (x i : Nat) : b2n (bit x i) = x / 2 ^ i % 2 := by
  rw [bit, Nat.testBit_eq_decide_div_mod_eq, b2n]
  obtain h | h := Nat.mod_two_eq_zero_or_one (x / 2 ^ i)
  · simp [h]
  · simp [h]

/-- Setting bit 28 of a word changes its high four bits exactly where it was clear. -/
theorem holdover_changes (s : State) (k : Nat) : (s.wb k 28 true).rf k 31 28 = s.rf k 31 28 ↔ s.rb k 28 = true := by
  have hsplit (t : State) : t.rf k 31 28 = 2 * t.rf k 31 29 + b2n (t.rb k 28) := by
    rw [State.rb, b2n_bit, State.rf, State.rf]
    unfold bits
    omega
  have hhigh : (s.wb k 28 true).rf k 31 29 = s.rf k 31 29 := rf_wb_ne _ _ _ (by decide) (.inl (by decide))
  rw [hsplit, hsplit s, hhigh, rb_wb_same _ _ _ (by decide)]
  cases s.rb k 28 <;> simp [b2n]

/-- Holdover is reported where it begins. -/
theorem ptpEvent_holdover (s : State) (m : Nat) : (s.wb (tsnReg m 0x38) 28 true).ptpEvent m (s.rf (tsnReg m 0x38) 31 28) =
    if s.rb (tsnReg m 0x38) 28 then s.wb (tsnReg m 0x38) 28 true
    else (s.wb (tsnReg m 0x38) 28 true).emitPf 0xC9 .ok (m * 2 ^ 24 + (s.wb (tsnReg m 0x38) 28 true).rf (tsnReg m 0x38) 31 28 * 2 ^ 20) := by
  unfold State.ptpEvent
  exact if_congr (holdover_changes ..) rfl rfl

/-! ### Rings (R655) -/

section
variable {s u : State} {dt m : Nat} {rx : Bool} {r : Req} {v : Word} (hp : ∀ x, r.path ≠ .vi x) (hclaim : u.claimedFor 0x81 m r = false)
include hp hclaim

theorem doorbell_taken (hu : u = (s.tick dt).tsnOwed m) :
    exec (if rx then .tsnRxrDoorbell dt r m v else .tsnTxrDoorbell dt r m v) s = .next (u.tsnDoorbell m rx v.toNat) := by
  cases rx with
  | false => simp only [Bool.false_eq_true, if_false, exec_tsnTxrDoorbell, execTsnTxrDoorbell, ← hu, tsnReach_free hp hclaim, if_true]
  | true => simp only [if_true, exec_tsnRxrDoorbell, execTsnRxrDoorbell, ← hu, tsnReach_free hp hclaim]

variable (hu : u = s.tick dt)
include hu

theorem tsnRingEnable_off (hbit : bit v.toNat 31 = false) (hon : u.rb (tsnCtrl m rx) 31 = true) :
    exec (.tsnRingEnable dt r m rx v) s = .next (u.tsnRingOff m rx) := by
  simp only [exec_tsnRingEnable, execTsnRingEnable, ← hu, tsnReach_free hp hclaim, Bool.not_true, Bool.false_eq_true, if_false, hbit, hon, if_true]

variable (hbit : bit v.toNat 31 = true) (hoff : u.rb (tsnCtrl m rx) 31 = false)
include hbit hoff

theorem tsnRingEnable_bad (hbad : bits v.toNat 3 0 < 4 ∨ 12 < bits v.toNat 3 0) : exec (.tsnRingEnable dt r m rx v) s =
    .next ((u.wr (tsnCtrl m rx) (bits v.toNat 3 0)).tsnRingFault m rx 3) := by
  have hno : ¬ (4 ≤ bits v.toNat 3 0 ∧ bits v.toNat 3 0 ≤ 12 ∧ (u.wr (tsnCtrl m rx) (bits v.toNat 3 0)).rd64 (tsnBase m rx) % max 4096 (2 ^ bits v.toNat 3 0 * 16) = 0) := by
    omega
  simp only [exec_tsnRingEnable, execTsnRingEnable, ← hu, tsnReach_free hp hclaim, Bool.not_true, Bool.false_eq_true, if_false, hbit, hoff, if_true, hno]

end

/-- A ring that is enabled, empty. -/
def State.ringOn (s : State) (m : Nat) (rx : Bool) (l : Nat) : State :=
  (((s.wr (tsnCtrl m rx) l).wb (tsnCtrl m rx) 31 true).wr (tsnHead m rx) 0).mMac m fun t =>
    if rx then { t with rxTail := 0 } else { t with txTail := 0, txNext := 0, txq := [], done := [] }

theorem tsnRingEnable_on {s u : State} {dt m : Nat} {rx : Bool} {r : Req} {v : Word} (hp : ∀ x, r.path ≠ .vi x) (hclaim : u.claimedFor 0x81 m r = false)
    (hu : u = s.tick dt) (hbit : bit v.toNat 31 = true) (hoff : u.rb (tsnCtrl m rx) 31 = false) (hfew : 4 ≤ bits v.toNat 3 0) (hmany : bits v.toNat 3 0 ≤ 12)
    (hbase : u.rd64 (tsnBase m rx) % max 4096 (2 ^ bits v.toNat 3 0 * 16) = 0) :
    exec (.tsnRingEnable dt r m rx v) s = .next (u.ringOn m rx (bits v.toNat 3 0)) := by
  have hne (o : Nat) (h50 : o = 0 ∨ o = 4) : tsnBase m rx + o ≠ tsnCtrl m rx := by
    unfold tsnBase tsnCtrl tsnReg
    omega
  have hkept : (u.wr (tsnCtrl m rx) (bits v.toNat 3 0)).rd64 (tsnBase m rx) = u.rd64 (tsnBase m rx) :=
    rd64_congr (State.rd_wr_ne _ (hne 0 (.inl rfl))) (State.rd_wr_ne _ (hne 4 (.inr rfl)))
  simp only [exec_tsnRingEnable, execTsnRingEnable, ← hu, tsnReach_free hp hclaim, Bool.not_true, Bool.false_eq_true, if_false, hbit, hoff, if_true, hkept,
    hfew, hmany, hbase, and_self, State.ringOn]

theorem ringOn_shown (s : State) (m : Nat) (rx : Bool) {l : Nat} (hl : l < 16) : (s.ringOn m rx l).rb (tsnCtrl m rx) 31 = true
    ∧ (s.ringOn m rx l).rf (tsnCtrl m rx) 3 0 = l ∧ (s.ringOn m rx l).rd (tsnHead m rx) = 0
    ∧ (if rx then ((s.ringOn m rx l).mac m).rxTail else ((s.ringOn m rx l).mac m).txTail) = 0
    ∧ Frame [.net] [tsnCtrl m rx, tsnHead m rx] s (s.ringOn m rx l) := by
  have hne : tsnCtrl m rx ≠ tsnHead m rx := tsnReg_ne (by omega)
  refine ⟨?_, ?_, ?_, ?_, (((Frame.refl ..).wr (by simp) _).wb (by simp) ..).wr (by simp) _ |>.mMac (by simp) ..⟩
  · rw [State.ringOn, rb_congr (mMac_rd ..), rb_congr (State.rd_wr_ne _ hne), rb_wb_same _ _ _ (by decide)]
  · rw [State.ringOn, rf_congr (mMac_rd ..), rf_congr (State.rd_wr_ne _ hne), rf_wb_ne _ _ _ (by decide) (.inr (by decide)), rf_wr_same,
      Nat.mod_eq_of_lt (by omega)]
    unfold bits
    omega
  · rw [State.ringOn, mMac_rd, State.rd_wr_same, Nat.zero_mod]
  · rw [State.ringOn, mMac_mac]
    cases rx <;> rfl

section
variable {s : State} {m : Nat} {rx : Bool} {v : Nat}

theorem doorbell_off (hoff : s.rb (tsnCtrl m rx) 31 = false) : s.tsnDoorbell m rx v = s := by
  rw [State.tsnDoorbell, hoff]
  rfl

variable (hon : s.rb (tsnCtrl m rx) 31 = true)
include hon

theorem doorbell_tail (hfits : (v + 2 ^ 32 - s.rd (tsnHead m rx)) % 2 ^ 32 ≤ 2 ^ s.rf (tsnCtrl m rx) 3 0) :
    s.tsnDoorbell m rx v = s.mMac m fun t => if rx then { t with rxTail := v } else { t with txTail := v } := by
  rw [State.tsnDoorbell, hon, Bool.not_true, if_neg Bool.false_ne_true]
  exact if_pos hfits

theorem doorbell_fault (hmany : 2 ^ s.rf (tsnCtrl m rx) 3 0 < (v + 2 ^ 32 - s.rd (tsnHead m rx)) % 2 ^ 32) :
    s.tsnDoorbell m rx v = s.tsnRingFault m rx (if (v + 2 ^ 32 - s.rd (tsnHead m rx)) % 2 ^ 32 < 2 ^ 31 then 0 else 1) := by
  rw [State.tsnDoorbell, hon, Bool.not_true, if_neg Bool.false_ne_true]
  exact if_neg (Nat.not_le.mpr hmany)

end

/-! ### Events of the rings that wait (R655) -/

/-- A ring's event that is due. -/
def State.ringTold (s : State) (m : Nat) (rx : Bool) : State :=
  s.mMac m fun t => if rx then { t with rxEvt := s.now + 1, rxOwed := false } else { t with txEvt := s.now + 1, txOwed := false }

/-- A ring's event that waits. -/
def State.ringOwes (s : State) (m : Nat) (rx : Bool) : State := s.mMac m fun t => if rx then { t with rxOwed := true } else { t with txOwed := true }

section
variable {s : State} {m : Nat} {rx : Bool}

/-- With one ring's event waiting, that ring alone is looked at. -/
theorem tsnOwed_one (htx : (s.mac m).txOwed = !rx) (hrx : (s.mac m).rxOwed = rx) (hkeep : rx = false → ((s.tsnAdvance m false).mac m).rxOwed = false) :
    s.tsnOwed m = s.tsnAdvance m rx := by
  unfold State.tsnOwed
  cases rx with
  | false =>
    have hon : (s.mac m).txOwed = true := htx
    rw [if_pos hon]
    exact if_neg (by rw [hkeep rfl]; decide)
  | true =>
    have hoff : (s.mac m).txOwed = false := htx
    rw [hoff, if_neg Bool.false_ne_true, if_pos hrx]

theorem tsnAdvance_due (hlate : (if rx then (s.mac m).rxEvt else (s.mac m).txEvt) - 1 + 10000 ≤ s.now) :
    s.tsnAdvance m rx = (s.ringTold m rx).tsnRing m rx .ok := if_neg fun hand => absurd hand.2 (Nat.not_lt.mpr hlate)

theorem tsnAdvance_early (hevt : (if rx then (s.mac m).rxEvt else (s.mac m).txEvt) ≠ 0)
    (hearly : s.now < (if rx then (s.mac m).rxEvt else (s.mac m).txEvt) - 1 + 10000) : s.tsnAdvance m rx = s.ringOwes m rx := if_pos ⟨hevt, hearly⟩

end

/-! ### MDIO (R661) -/

section
variable {s u : State} {dt m data : Nat} {r : Req} {v : Word}

theorem mdioDone_idle (hu : u = (s.tick dt).tsnOwed m) (hidle : u.rb (tsnReg m 0x84) 31 = false) : exec (.mdioDone dt m data) s = .next u := by
  simp only [exec_mdioDone, execMdioDone, ← hu, hidle, Bool.false_eq_true, if_false]

theorem mdioDone_ends (hu : u = (s.tick dt).tsnOwed m) (hbusy : u.rb (tsnReg m 0x84) 31 = true) : exec (.mdioDone dt m data) s =
    .next (u.wr (tsnReg m 0x84) (if bits (u.mac m).mdio 31 29 = 1 ∨ bits (u.mac m).mdio 31 29 = 4 then data % 2 ^ 16 else u.rf (tsnReg m 0x84) 15 0)) := by
  simp only [exec_mdioDone, execMdioDone, ← hu, hbusy, if_true]

variable (hu : u = s.tick dt) (hp : ∀ x, r.path ≠ .vi x) (hclaim : u.claimedFor 0x81 m r = false)
include hu hp hclaim

theorem tsnMdioCmd_busy (hbusy : u.rb (tsnReg m 0x84) 31 = true) : exec (.tsnMdioCmd dt r m v) s = .next u := by
  simp only [exec_tsnMdioCmd, execTsnMdioCmd, ← hu, tsnReach_free hp hclaim, Bool.not_true, Bool.false_or, hbusy, if_true]

variable (hidle : u.rb (tsnReg m 0x84) 31 = false)
include hidle

theorem tsnMdioCmd_bad (hop : 4 < bits v.toNat 31 29) : exec (.tsnMdioCmd dt r m v) s = .next (u.wf (tsnReg m 0x84) 22 16 Status.badParam.code) := by
  simp only [exec_tsnMdioCmd, execTsnMdioCmd, ← hu, tsnReach_free hp hclaim, Bool.not_true, Bool.false_or, hidle, Bool.false_eq_true, if_false, hop, if_true]

theorem tsnMdioCmd_taken (hop : bits v.toNat 31 29 ≤ 4) : exec (.tsnMdioCmd dt r m v) s =
    .next ((u.mMac m fun t => { t with mdio := v.toNat }).wr (tsnReg m 0x84) (2 ^ 31 + Status.pending.code * 2 ^ 16 + u.rf (tsnReg m 0x84) 15 0)) := by
  simp only [exec_tsnMdioCmd, execTsnMdioCmd, ← hu, tsnReach_free hp hclaim, Bool.not_true, Bool.false_or, hidle, Bool.false_eq_true, if_false, Nat.not_lt.mpr hop]

end

/-- An MDIO request's word: whether it runs, its result and its data. -/
theorem mdio_shown (s : State) (k : Nat) {st x : Nat} {busy : Bool} (hst : st < 2 ^ 7) (hx : x < 2 ^ 16) :
    (s.wr k (b2n busy * 2 ^ 31 + st * 2 ^ 16 + x)).rb k 31 = busy ∧ (s.wr k (b2n busy * 2 ^ 31 + st * 2 ^ 16 + x)).rf k 22 16 = st
    ∧ (s.wr k (b2n busy * 2 ^ 31 + st * 2 ^ 16 + x)).rf k 15 0 = x := by
  have hb : b2n busy < 2 := by cases busy <;> decide
  have hlt : b2n busy * 2 ^ 31 + st * 2 ^ 16 + x < 2 ^ 32 := by omega
  rw [State.rb, State.rf, State.rf, State.rd_wr_same, Nat.mod_eq_of_lt hlt]
  refine ⟨?_, ?_, ?_⟩
  · have hbit : b2n (bit (b2n busy * 2 ^ 31 + st * 2 ^ 16 + x) 31) = b2n busy := by
      rw [b2n_bit]
      omega
    revert hbit
    cases bit (b2n busy * 2 ^ 31 + st * 2 ^ 16 + x) 31 <;> cases busy <;> decide
  · unfold bits
    omega
  · unfold bits
    omega

section
variable {s u : State} {dt m rate x : Nat} (hu : u = s.tick dt) (hon : u.rb (tsnReg m 4) 31 = true) (hx : x = min rate (u.rf (tsnReg m 4) 30 28))
include hu hon hx

theorem exec_tsnLink_enabled (up : Bool) : exec (.tsnLink dt m up rate) s = .next (u.tsnLink m up x) := by
  rw [exec_tsnLink, execTsnLink, ← hu, hx]
  exact congrArg Host.Outcome.next (if_pos hon)

omit hu hon in
theorem linkRate_lt : x < 8 := by
  have hlt : u.rf (tsnReg m 4) 30 28 < 8 := Nat.mod_lt _ (by decide)
  omega

end

theorem tsnRingOff_shown (s : State) (m : Nat) (rx : Bool) : (s.tsnRingOff m rx).rb (tsnCtrl m rx) 31 = false
    ∧ Frame [.net] [tsnCtrl m rx] s (s.tsnRingOff m rx) := by
  unfold State.tsnRingOff
  cases rx with
  | false => exact ⟨(rb_congr (mMac_rd ..) _).trans (rb_wb_same _ _ _ (by decide)), ((Frame.refl ..).wb (by simp) ..).mMac (by simp) ..⟩
  | true => exact ⟨rb_wb_same _ _ _ (by decide), (Frame.refl ..).wb (by simp) ..⟩

/-- What a MAC holds of a ring's event that is due. -/
theorem ringTold_shown (s : State) (m : Nat) (rx : Bool) : (if rx then ((s.ringTold m rx).mac m).rxOwed else ((s.ringTold m rx).mac m).txOwed) = false
    ∧ (if rx then ((s.ringTold m rx).mac m).rxEvt else ((s.ringTold m rx).mac m).txEvt) = s.now + 1
    ∧ (rx = false → ((s.ringTold m rx).mac m).rxOwed = (s.mac m).rxOwed) := by
  rw [State.ringTold, mMac_mac]
  cases rx with
  | false => exact ⟨rfl, rfl, fun _ => rfl⟩
  | true => exact ⟨rfl, rfl, fun h => absurd h (by decide)⟩

theorem ringOwes_mac {s : State} {m : Nat} {rx : Bool} (htx : (s.mac m).txOwed = !rx) (hrx : (s.mac m).rxOwed = rx) : (s.ringOwes m rx).mac m = s.mac m := by
  rw [State.ringOwes, mMac_mac]
  cases rx with
  | false =>
    have hown : (s.mac m).txOwed = true := htx
    rw [if_neg Bool.false_ne_true, ← hown]
  | true => rw [if_pos rfl, ← hrx]

/-- Settles O56: each operation of a MAC by its own rule; the classes that `txPick` looked at before the one that sends were passed over (log
entry 48). -/
theorem tsnMacs : Obligations.TsnMacs := by
  unfold Obligations.TsnMacs
  refine ⟨fun dt m r v s u hu hp hm => ⟨fun hclaim => tsnEnable_claimed hu hp hclaim, fun hclaim hrate => tsnEnable_bad hu hp hclaim hrate,
      fun hclaim hrate => ⟨u.wr (tsnReg m 4) (v.toNat &&& 0xF0000000), (State.rd_wr_same ..).trans (portCtrl_word _), (Frame.refl ..).wr (by simp) _,
        tsnEnable_taken hu hp hclaim hrate⟩⟩,
    fun m u t hm ht => ?down, fun dt m rate x s u hu hm hon hx => ⟨fun hoff => ⟨u.linkSet m true x, ?up⟩, fun hup => ⟨u.wf (tsnReg m 8) 30 28 x, ?again⟩,
      fun hup => ⟨((u.linkSet m false x).emitPf 0xC8 .fault (m * 2 ^ 24)).macLinkLost m, ?lost⟩⟩,
    fun dt m hosts s u w hu hup hw => ⟨w.txHeld m (w.txPick m [7, 6, 5, 4, 3, 2, 1, 0] []).2, txHeld_held .., ((Frame.refl ..).wr (by simp) _).mMac (by simp) ..,
      fun c f held hpick => ?sends, fun held hpick => ?rests⟩,
    fun dt m hosts s u hu hdown => tsnFrameTx_down hu hdown, fun m c f held u hpick => ?pick,
    fun dt m b good frame ptp avtp hosts s u w hu hm hb hgood hw => ⟨fun hdown => tsnFrameRx_down hu hdown,
      fun hup hbad => tsnFrameRx_bad hu hb hgood hw hup hbad, fun hup hwhole hlen => ⟨fun htype => ?ptp, fun htype hnone => ?pf, fun a i ha havtp hi => ?listener⟩⟩,
    fun dt m len cycle base es r s u hu hp hclaim hlen hcycle hbase hes => ⟨fun hbusy => gclApply_busy hu hp hclaim hbusy,
      fun hidle hfew hmany hshort hlong hall => ⟨_, ⟨es, cycle, gclStart base cycle (u.gptp m + 1000000)⟩,
        gclApply_taken hu hp hclaim hlen hcycle hes hidle hbase hfew hmany hshort hlong hall, ?applied⟩,
      fun hidle hbad => gclApply_bad hu hp hclaim hlen hcycle hes hidle hbad⟩,
    fun dt m g s u hu hnext => ⟨fun hdue => ⟨u.gclSwitched m g, tsnGclSwitch_due hu hnext hdue, ?switched⟩, fun hearly => tsnGclSwitch_early hu hnext hearly⟩,
    fun dt m g s u hu hoper => ⟨_, gateControlEntry_moves hu hoper, ?gate⟩,
    fun dt m msg ptp s u hu => ⟨fun hon => ⟨u.wb (tsnReg m 0x38) 28 true, rb_wb_same _ _ _ (by decide), (Frame.refl ..).wb (by simp) .., ?holdover⟩,
      fun hoff => ⟨ptpSyncLoss_off hu hoff, ptpInterval_off hu hoff⟩,
      fun hon hup => ⟨u.mMac m fun t => { t with gptp := t.gptp ++ [msg] }, ?queued, (Frame.refl ..).mMac (by simp) .., ptpInterval_on hu hon hup⟩,
      fun hon => ⟨u.mMac m fun t => { t with pps := some (u.now + 10000000) }, ?pulse, ?pulsed, (Frame.refl ..).mMac (by simp) ..⟩, fun hoff => ?nopulse⟩,
    fun dt m rx r v i s u hu hm hp hclaim hi => ?doorbell,
    fun dt m rx r v s u hu hm hp hclaim => ⟨fun hbit hoff => ⟨fun hfew hmany hbase => ⟨_, tsnRingEnable_on hp hclaim hu hbit hoff hfew hmany hbase, ?ring⟩,
      fun hbad => tsnRingEnable_bad hp hclaim hu hbit hoff hbad⟩, fun hbit hon => ⟨_, tsnRingEnable_off hp hclaim hu hbit hon, ?off⟩⟩,
    fun m last rx u t ht hlast => ?owed,
    fun dt m data s u hu hm => ⟨fun hidle => mdioDone_idle hu hidle, fun hbusy => ⟨_, mdioDone_ends hu hbusy, ?read⟩⟩,
    fun dt m r v s u hu hm hp hclaim => ⟨fun hbusy => tsnMdioCmd_busy hu hp hclaim hbusy, fun hidle hop => tsnMdioCmd_bad hu hp hclaim hidle hop,
      fun hidle hop => ⟨_, tsnMdioCmd_taken hu hp hclaim hidle hop, ?mdio⟩⟩⟩
  case down =>
    obtain ⟨hrx, htx, hq⟩ := tsnEmptied_shown u m
    obtain ⟨hptp, htime⟩ := tsnOpened_time u m
    have hctrl (rx : Bool) : t.rd (tsnCtrl m rx) = (u.tsnEmptied m).rd (tsnCtrl m rx) := by
      rw [ht, tsnDown_eq, ← tsnOpened_ctrl, tsnCtrl_reg]
      exact ptpEvent_tsn _ _ _ hm (by cases rx <;> decide)
    have hmac := (show t.mac m = (u.tsnOpened m).mac m by rw [ht, tsnDown_eq, ptpEvent_mac]).trans (tsnOpened_mac u m)
    have hreg {o : Nat} (ho : o < 0x10000) : t.rd (tsnReg m o) = (u.tsnOpened m).rd (tsnReg m o) := by rw [ht, tsnDown_eq, ptpEvent_tsn _ _ _ hm ho]
    rw [hmac]
    exact ⟨(rb_congr (hctrl true) _).trans hrx, (rb_congr (hctrl false) _).trans htx, rfl, rfl, hq, rfl, (hreg (by decide)).trans hptp,
      (rd64_congr (hreg (by decide)) (hreg (o := 0x44) (by decide))).trans htime⟩
  case up =>
    obtain ⟨hlink, hrate⟩ := linkSet_shown (s := u) (m := m) true (linkRate_lt hx)
    exact ⟨by rw [exec_tsnLink_enabled hu hon hx, tsnLink_up hoff], hlink, hrate, ((Frame.refl ..).wb (by simp) ..).wf (by simp) ..⟩
  case again =>
    have hlt := linkRate_lt hx
    refine ⟨by rw [exec_tsnLink_enabled hu hon hx, tsnLink_again hup], ?_, (Frame.refl ..).wf (by simp) ..⟩
    rw [rf_wf_same _ _ _ (by decide) (by decide)]
    exact Nat.mod_eq_of_lt (by omega)
  case lost =>
    obtain ⟨hlink, hrate⟩ := linkSet_shown (s := u) (m := m) false (linkRate_lt hx)
    have hreg := (macLinkLost_link ((u.linkSet m false x).emitPf 0xC8 .fault (m * 2 ^ 24)) hm).trans (emitPf_tsn (u.linkSet m false x) m 0xC8 .fault (m * 2 ^ 24) hm (by decide))
    refine ⟨by rw [exec_tsnLink_enabled hu hon hx, tsnLink_lost hup], (rb_congr hreg _).trans hlink, (rf_congr hreg ..).trans hrate, fun hptp =>
      macLinkLost_holdover _ hm ?_⟩
    rw [rb_congr (emitPf_tsn _ _ _ _ _ hm (by decide)), State.linkSet, rb_congr (rd_wf_ne _ (tsnReg_ne (by decide))), rb_congr (rd_wb_ne _ (tsnReg_ne (by decide))), hptp]
  case sends => rw [tsnFrameTx_sends hu hup hw hpick, hpick]
  case rests => rw [tsnFrameTx_rests hu hup hw hpick, hpick]
  case pick =>
    obtain ⟨⟨hnext, hgate, hcredit, hfits⟩, hskips⟩ := txPick_highest hpick
    exact ⟨hnext, hgate, hcredit, hfits, fun d g hcd hd hg => hskips d hcd hd g hg⟩
  case ptp => exact tsnFrameRx_ptp hu hb hgood hw hup hwhole hlen htype
  case pf => exact tsnFrameRx_pf hu hb hgood hw hup hwhole hlen htype hnone
  case listener => exact tsnFrameRx_listener hu hb hgood hw hup hwhole hlen (by rw [havtp]; decide) ha havtp hi
  case applied =>
    obtain ⟨hsoon, hbase', hcycles, hfirst⟩ := gclStart_spec (base := base) (soon := u.gptp m + 1000000) (show 0 < cycle by omega)
    refine ⟨?_, rfl, rfl, hsoon, hbase', hcycles, hfirst, ?_, ?_, (((Frame.refl ..).mMac (by simp) ..).wb (by simp) ..).wf (by simp) ..⟩
    · rw [wf_mac, wb_mac, mMac_mac]
    · rw [rb_wf_ne _ _ _ (by decide) (by decide) (.inl (by decide)), rb_wb_same _ _ _ (by decide)]
    · rw [rf_wf_same _ _ _ (by decide) (by decide)]
      rfl
  case switched =>
    have hmac : (u.gclSwitched m g).mac m = { (u.creditTick m).mac m with
        next := none, oper := some g, entry := 0, cycleAt := g.at_, gates := bits (g.entries.headD 0) 31 24 } := by
      rw [State.gclSwitched, wb_mac, wb_mac, mMac_mac]
    rw [hmac]
    refine ⟨rfl, rfl, rfl, rfl, rfl, ?_, rb_wb_same _ _ _ (by decide), ((((Frame.refl ..).mMac (by simp) ..).mMac (by simp) ..).wb (by simp) ..).wb (by simp) ..⟩
    rw [State.gclSwitched, rb_wb_ne _ _ _ (by decide) (by decide), rb_wb_same _ _ _ (by decide)]
  case gate =>
    obtain ⟨-, hcycle, -⟩ := creditTick_list u m
    refine ⟨((Frame.refl ..).mMac (by simp) ..).mMac (by simp) .., ?_, fun hwrap => ⟨?_, ?_⟩, fun hgoes => ⟨?_, ?_⟩⟩
    · rw [State.gateMoved, mMac_mac]
    · rw [State.gateMoved, mMac_mac]
      exact if_pos hwrap
    · rw [State.gateMoved, mMac_mac, ← hcycle]
      exact if_pos (by rwa [hcycle])
    · rw [State.gateMoved, mMac_mac]
      exact if_neg (Nat.not_le.mpr hgoes)
    · rw [State.gateMoved, mMac_mac, ← hcycle]
      exact if_neg (by rw [hcycle]; exact Nat.not_le.mpr hgoes)
  case holdover => rw [ptpSyncLoss_on hu hon, ptpEvent_holdover]
  case queued => rw [mMac_mac]
  case pulse => rw [ppsPulse_eq hu, if_pos hon]
  case pulsed => rw [mMac_mac]
  case nopulse => rw [ppsPulse_eq hu, hoff, if_neg Bool.false_ne_true]
  case doorbell =>
    rw [hi, doorbell_taken hp hclaim hu]
    refine ⟨fun hoff => by rw [doorbell_off hoff], fun hon hfits => ⟨_, congrArg Host.Outcome.next (doorbell_tail hon hfits), ?_, (Frame.refl ..).mMac (by simp) ..⟩,
      fun hon hmany => by rw [doorbell_fault hon hmany]⟩
    rw [mMac_mac]
    cases rx <;> rfl
  case ring =>
    obtain h := ringOn_shown u m rx (l := bits v.toNat 3 0) (by omega)
    exact h
  case off => exact tsnRingOff_shown u m rx
  case owed =>
    subst ht hlast
    refine ⟨fun htx hrx => ?_, fun htx hrx hlate => ?_, fun htx hrx hevt hearly => ?_⟩
    · simp only [State.tsnOwed, htx, hrx, Bool.false_eq_true, if_false]
    · obtain ⟨howed, htold, hkeep⟩ := ringTold_shown u m rx
      refine ⟨u.ringTold m rx, ?_, howed, htold, (Frame.refl ..).mMac (by simp) ..⟩
      rw [tsnOwed_one htx hrx ?_, tsnAdvance_due hlate]
      rintro rfl
      rw [tsnAdvance_due hlate, State.tsnRing, emitPf_mac, hkeep rfl, hrx]
    · have hmac := ringOwes_mac htx hrx
      rw [tsnOwed_one htx hrx ?_, tsnAdvance_early hevt hearly]
      · exact ⟨hmac, (Frame.refl ..).mMac (by simp) ..⟩
      · rintro rfl
        rw [tsnAdvance_early hevt hearly, hmac, hrx]
  case read =>
    have hlt : (if bits (u.mac m).mdio 31 29 = 1 ∨ bits (u.mac m).mdio 31 29 = 4 then data % 2 ^ 16 else u.rf (tsnReg m 0x84) 15 0) < 2 ^ 16 := by
      split
      · exact Nat.mod_lt _ (by decide)
      · exact Nat.mod_lt _ (by decide)
    have hshown := mdio_shown u (tsnReg m 0x84) (st := 0) (busy := false) (by decide) hlt
    rw [b2n, if_neg Bool.false_ne_true, Nat.zero_mul, Nat.zero_mul, Nat.zero_add] at hshown
    exact ⟨hshown.1, hshown.2.1, hshown.2.2, (Frame.refl ..).wr (by simp) _⟩
  case mdio =>
    have hlt : u.rf (tsnReg m 0x84) 15 0 < 2 ^ 16 := Nat.mod_lt _ (by decide)
    have hshown := mdio_shown (u.mMac m fun t => { t with mdio := v.toNat }) (tsnReg m 0x84) (busy := true) Status.pending.code_lt hlt
    rw [b2n, if_pos rfl, Nat.one_mul] at hshown
    refine ⟨?_, hshown.1, hshown.2.1, hshown.2.2, ((Frame.refl ..).mMac (by simp) ..).wr (by simp) _⟩
    rw [wr_mac, mMac_mac]

end Sys2Proof.Machine
end

section
/-!
PROOFS. Hulls: creation, measurement, entry and exit, windows, reports and destruction (R516 to R526).
-/
namespace Sys2Proof.Machine

theorem exec_hullCreate (dt : Nat) (r : Req) (s : State) : exec (.hullCreate dt r) s = execHullCreate dt r s := rfl
theorem exec_hullAdd (dt : Nat) (r : Req) (s : State) : exec (.hullAdd dt r) s = execHullAdd dt r s := rfl
theorem exec_hullSeal (dt : Nat) (r : Req) (s : State) : exec (.hullSeal dt r) s = execHullSeal dt r s := rfl
theorem exec_hullEnter (dt ret : Nat) (r : Req) (s : State) : exec (.hullEnter dt r ret) s = execHullEnter dt r ret s := rfl
theorem exec_hullExit (dt x10 x11 : Nat) (r : Req) (s : State) : exec (.hullExit dt r x10 x11) s = execHullExit dt r x10 x11 s := rfl
theorem exec_hullAsyncExit (dt h cause pc : Nat) (xs : List Nat) (s : State) :
    exec (.hullAsyncExit dt h cause pc xs) s = execHullAsyncExit dt h cause pc xs s := rfl
theorem exec_hullWindowOpen (dt : Nat) (r : Req) (s : State) : exec (.hullWindowOpen dt r) s = execHullWindowOpen dt r s := rfl
theorem exec_hullWindowClose (dt : Nat) (r : Req) (s : State) : exec (.hullWindowClose dt r) s = execHullWindowClose dt r s := rfl
theorem exec_windowCloseDrained (dt c e : Nat) (s : State) : exec (.windowCloseDrained dt c e) s = execWindowCloseDrained dt c e s := rfl
theorem exec_hullReport (dt : Nat) (r : Req) (s : State) : exec (.hullReport dt r) s = execHullReport dt r s := rfl
theorem exec_hullDestroy (dt : Nat) (r : Req) (s : State) : exec (.hullDestroy dt r) s = execHullDestroy dt r s := rfl
theorem exec_hullDestroyDone (dt k : Nat) (s : State) : exec (.hullDestroyDone dt k) s = execHullDestroyDone dt k s := rfl

/-! ### Bytes -/

theorem tget_foldl_range {α : Type} [DecidableEq α] (d : α) (f : Nat → α) (m : Tbl α) (b n a : Nat) :
    tget d ((List.range n).foldl (fun t i => tset d t (b + i) (f i)) m) a = if b ≤ a ∧ a < b + n then f (a - b) else tget d m a := by
  induction n with
  | zero =>
    rw [List.range_zero, List.foldl_nil, if_neg (by omega)]
  | succ n ih =>
    rw [List.range_succ, List.foldl_append, List.foldl_cons, List.foldl_nil]
    obtain rfl | hne := eq_or_ne a (b + n)
    · rw [tget_tset_same, if_pos (by omega), Nat.add_sub_cancel_left]
    · rw [tget_tset_ne _ _ hne, ih]
      exact if_congr (by omega) rfl rfl

theorem length_readBytes (m : Tbl Byte) (a n : Nat) : (readBytes m a n).length = n := by
  induction n generalizing a with
  | zero => rfl
  | succ n ih => rw [readBytes, List.length_cons, ih]

theorem getD_readBytes (m : Tbl Byte) (a : Nat) {n j : Nat} (hj : j < n) : (readBytes m a n).getD j 0 = tget 0 m (a + j) := by
  induction n generalizing a j with
  | zero => exact absurd hj (Nat.not_lt_zero j)
  | succ n ih =>
    rw [readBytes]
    cases j with
    | zero => rfl
    | succ j => rw [List.getD_cons_succ, ih (a + 1) (by omega), Nat.add_assoc, Nat.add_comm 1 j]

/-- Bytes that stand in a memory one after another are read as they are. -/
theorem readBytes_eq {m : Tbl Byte} {a n : Nat} {bs : Bytes} (hlen : bs.length = n) (h : ∀ j, j < n → tget 0 m (a + j) = bs.getD j 0) :
    readBytes m a n = bs := by
  refine List.ext_getElem (by rw [length_readBytes, hlen]) fun j hj hj' => ?_
  rw [← List.getD_eq_getElem _ 0 hj, ← List.getD_eq_getElem _ 0 hj', getD_readBytes _ _ (by rwa [hlen] at hj'), h j (by rwa [hlen] at hj')]

theorem leNat_leBytes (v n : Nat) : leNat (leBytes v n) = v % 256 ^ n := by
  induction n generalizing v with
  | zero => rw [leBytes, leNat, pow_zero, Nat.mod_one]
  | succ n ih =>
    have hpow : 256 ^ (n + 1) = 256 * 256 ^ n := Nat.pow_succ'
    rw [leBytes, leNat, ih, BitVec.toNat_ofNat, hpow, Nat.mod_mul]

/-! ### Writes of whole words -/

/-- The words a write touches. -/
def wordsOf (pa n : Nat) : List Nat := (List.range ((pa + n + 7) / 8 - pa / 8)).map (pa / 8 + ·)

/-- A write from word to word holds every word it touches whole. -/
theorem wordsOf_whole {pa n k : Nat} (hpa : pa % 8 = 0) (hn : n % 8 = 0) (hk : k ∈ wordsOf pa n) : pa ≤ k * 8 ∧ k * 8 + 8 ≤ pa + n := by
  obtain ⟨i, hi, rfl⟩ := List.mem_map.mp hk
  have hlt := List.mem_range.mp hi
  omega

/-- A memory with bytes written. -/
def State.memWritten (s : State) (pa : Nat) (bs : Bytes) : State :=
  { s with mem := (List.range bs.length).foldl (fun m i => tset 0 m (pa + i) (bs.getD i 0)) s.mem }

/-- The poison marks of words that are written whole clear (R87). -/
def State.marksCleared (s : State) (l : List Nat) : State := s.mSeed fun m => { m with poison := l.foldl (fun t k => tset false t k false) m.poison }

section
variable {s : State} {pa : Nat} {bs : Bytes} (hpa : pa % 8 = 0) (hlen : bs.length % 8 = 0)
include hpa hlen

theorem pwrite_whole (cls w : Nat) : ∃ l, s.pwrite pa bs cls w = (s.marksCleared l).memWritten pa bs := by
  have hpart : ((wordsOf pa bs.length).filter fun k => tget false s.seed.poison k).filter (fun k => ¬ (pa ≤ k * 8 ∧ k * 8 + 8 ≤ pa + bs.length)) = [] := by
    refine List.filter_eq_nil_iff.mpr fun k hk => ?_
    simpa using wordsOf_whole hpa hlen (List.mem_of_mem_filter hk)
  refine ⟨((wordsOf pa bs.length).filter fun k => tget false s.seed.poison k).filter fun k => pa ≤ k * 8 ∧ k * 8 + 8 ≤ pa + bs.length, ?_⟩
  rw [wordsOf] at hpart ⊢
  simp only [State.pwrite, hpart, List.foldl_nil, List.contains_nil, Bool.false_eq_true, if_false]
  rfl

theorem pwrite_whole_mem (cls w a : Nat) : tget 0 (s.pwrite pa bs cls w).mem a = if pa ≤ a ∧ a < pa + bs.length then bs.getD (a - pa) 0 else tget 0 s.mem a := by
  obtain ⟨l, hl⟩ := pwrite_whole (s := s) hpa hlen cls w
  rw [hl]
  exact tget_foldl_range 0 (fun i => bs.getD i 0) s.mem pa bs.length a

theorem pwrite_whole_worlds (cls w : Nat) : (s.pwrite pa bs cls w).worlds = s.worlds := by
  obtain ⟨l, hl⟩ := pwrite_whole (s := s) hpa hlen cls w
  rw [hl]
  rfl

theorem pwrite_whole_frame {ps : List Part} {ks : List Nat} {ms hs : Nat → Prop} (hp : Part.seed ∈ ps) (hms : ∀ a, pa ≤ a → a < pa + bs.length → ms a)
    (cls w : Nat) : FrameM ps ks ms hs s (s.pwrite pa bs cls w) := by
  have hmem := pwrite_whole_mem (s := s) hpa hlen cls w
  obtain ⟨l, hl⟩ := pwrite_whole (s := s) hpa hlen cls w
  have hrest : FrameM ps ks ms hs s (s.marksCleared l) := (FrameM.refl ..).frame ((Frame.refl ..).mSeed hp _)
  refine ⟨fun q hq => ?_, fun k hk => ?_, fun a ha => ?_, fun a ha => ?_, ?_, ?_, ?_⟩
  · have hsame := hrest.parts q hq
    rw [hl]
    cases q <;> exact hsame
  · rw [hl]
    rfl
  · rw [hmem, if_neg fun h => ha (hms a h.1 h.2)]
  · rw [hl]
    rfl
  · rw [hl]
    rfl
  · rw [hl]
    rfl
  · rw [hl]
    rfl

end

/-! ### Harts, hulls and entries -/

theorem bits_setBits_ne {hi lo hi' lo' : Nat} (h : lo ≤ hi) (hd : hi' < lo ∨ hi < lo') (v x : Nat) : bits (setBits v hi lo x) hi' lo' = bits v hi' lo' := by
  refine Nat.eq_of_testBit_eq fun i => ?_
  rw [testBit_bits, testBit_bits]
  by_cases hi1 : i < hi' + 1 - lo'
  · rw [testBit_setBits h, if_neg (by omega)]
  · rw [decide_eq_false hi1, Bool.false_and, Bool.false_and]

section
variable (s : State)

theorem mHull_same (k : Nat) (f : Hull → Hull) : (s.mHull k f).hull k = f (s.hull k) := (tget_tmod ..).trans (if_pos rfl)
theorem mHull_hart (k h : Nat) (f : Hull → Hull) : (s.mHull k f).hart h = s.hart h := rfl
theorem mHull_rc (k c e : Nat) (f : Hull → Hull) : (s.mHull k f).rcEntry c e = s.rcEntry c e := rfl
theorem mHart_hull (h k : Nat) (f : HartSt → HartSt) : (s.mHart h f).hull k = s.hull k := rfl
theorem mHart_rc (h c e : Nat) (f : HartSt → HartSt) : (s.mHart h f).rcEntry c e = s.rcEntry c e := rfl
theorem setRc_hull (c e k : Nat) (x : RcEntry) : (s.setRc c e x).hull k = s.hull k := rfl
theorem mHart_mem (h : Nat) (f : HartSt → HartSt) : (s.mHart h f).mem = s.mem := rfl
theorem mHull_mem (k : Nat) (f : Hull → Hull) : (s.mHull k f).mem = s.mem := rfl
theorem setRc_mem (c e : Nat) (x : RcEntry) : (s.setRc c e x).mem = s.mem := rfl
theorem setRc_hart (c e h : Nat) (x : RcEntry) : (s.setRc c e x).hart h = s.hart h := rfl

theorem hullResult_hull (h k : Nat) (st : Status) : (s.hullResult h st).hull k = s.hull k := rfl
theorem hullResult_rc (h c e : Nat) (st : Status) : (s.hullResult h st).rcEntry c e = s.rcEntry c e := rfl
theorem hullResult_mem (h : Nat) (st : Status) : (s.hullResult h st).mem = s.mem := rfl

theorem hullResult_closing (h : Nat) (st : Status) : (s.hullResult h st).worlds.closing = s.worlds.closing := rfl

theorem hullResult_hart (h : Nat) (st : Status) : (s.hullResult h st).hart h = { s.hart h with status := setBits (s.hart h).status 22 16 st.code } := mHart_same ..

theorem hullResult_status (h : Nat) (st : Status) : bits ((s.hullResult h st).hart h).status 22 16 = st.code := by
  rw [hullResult_hart, bits_setBits (by decide)]
  exact Nat.mod_eq_of_lt st.code_lt

/-- The fields of HULL_STATUS below its result stay. -/
theorem hullResult_field (h : Nat) (st : Status) {hi lo : Nat} (hlow : hi < 16) :
    bits ((s.hullResult h st).hart h).status hi lo = bits (s.hart h).status hi lo := by
  rw [hullResult_hart, bits_setBits_ne (by decide) (.inl hlow)]

theorem hart_congr {s t : State} (h : t.worlds = s.worlds) (i : Nat) : t.hart i = s.hart i := by rw [State.hart, State.hart, h]
theorem hull_congr {s t : State} (h : t.worlds = s.worlds) (k : Nat) : t.hull k = s.hull k := by rw [State.hull, State.hull, h]
theorem rcEntry_congr {s t : State} (h : t.worlds = s.worlds) (c e : Nat) : t.rcEntry c e = s.rcEntry c e := by rw [State.rcEntry, State.rcEntry, h]

end

section
variable {s t : State} {ps : List Part} {ks : List Nat} (hf : Frame ps ks s t) (hp : Part.worlds ∈ ps)
include hf hp

theorem Frame.mHart (h : Nat) (f : HartSt → HartSt) : Frame ps ks s (t.mHart h f) := hf.mWorlds hp _
theorem Frame.mHull (k : Nat) (f : Hull → Hull) : Frame ps ks s (t.mHull k f) := hf.mWorlds hp _
theorem Frame.setRc (c e : Nat) (x : RcEntry) : Frame ps ks s (t.setRc c e x) := hf.mWorlds hp _
theorem Frame.hullResult (h : Nat) (st : Status) : Frame ps ks s (t.hullResult h st) := hf.mHart hp h _

end

/-! ### Creation, measurement and sealing (R520 to R522) -/

section
variable (s : State) (c base size : Nat)

theorem zeroRange_mem (a : Nat) : tget 0 (s.zeroRange c base size).mem a = if c * 2 ^ 60 + base ≤ a ∧ a < c * 2 ^ 60 + base + size then 0 else tget 0 s.mem a :=
  tget_tcut ..

theorem zeroRange_worlds : (s.zeroRange c base size).worlds = s.worlds := rfl

theorem zeroRange_frame {ps : List Part} {ks : List Nat} {hs : Nat → Prop} (hp : Part.seed ∈ ps) :
    FrameM ps ks (fun a => c * 2 ^ 60 + base ≤ a ∧ a < c * 2 ^ 60 + base + size) hs s (s.zeroRange c base size) := by
  have hrest : Frame ps ks s (s.mSeed fun m => { m with poison := tcut m.poison ((c * 2 ^ 60 + base) / 8) ((c * 2 ^ 60 + base + size) / 8) }) :=
    (Frame.refl ..).mSeed hp _
  refine ⟨fun q hq => ?_, fun _ _ => rfl, fun a ha => ?_, fun _ _ => rfl, rfl, rfl, rfl⟩
  · have hsame := hrest.parts q hq
    cases q <;> exact hsame
  · rw [zeroRange_mem, if_neg ha]

end

/-- The entry of a hull over its whole range. -/
def hullEntry (x : HartSt) (k : Nat) : RcEntry :=
  { en := true, hullHeld := true, sRwx := if x.normal then 0 else 7, nRwx := if x.normal then 7 else 0, classes := 0xFF, hullSel := 2,
    hull := k, limit := x.arg0 + x.arg1 - 1, base := x.arg0 }

/-- A hull that is BUILDING. -/
def hullBuilding (x : HartSt) (e : Nat) : Hull :=
  { state := 1, secure := !x.normal, debugOk := bit x.arg2 8, mem := bits x.arg2 1 0, base := x.arg0, size := x.arg1, entry := e, m := List.replicate 48 0 }

/-- The state with a new hull. -/
def State.hullMade (s : State) (h k e : Nat) (x : HartSt) : State :=
  (((((s.zeroRange (bits x.arg2 1 0) x.arg0 x.arg1).setRc (bits x.arg2 1 0) e (hullEntry x k)).mHull k fun _ => hullBuilding x e).mHart h fun t =>
    { t with status := setBits t.status 5 0 k }).hullResult h .ok)

section
variable {s u : State} {dt h k : Nat} {r : Req} (hu : u = s.tick dt) (hr : u.hartOf r = some h)
include hu hr

theorem hullCreate_made {e : Nat} {x : HartSt} (hx : x = u.hart h) (hst : u.createHullStatus h x.arg0 x.arg1 x.arg2 = .ok)
    (hk : ((List.range 64).find? fun k => (u.hull k).state == 0) = some k) (he : u.freeEntry (bits x.arg2 1 0) = some e) :
    exec (.hullCreate dt r) s = .next (u.hullMade h k e x) := by
  simp only [exec_hullCreate, execHullCreate, ← hu, hr, ← hx, hst, hk, he, State.hullMade, hullEntry, hullBuilding]

theorem hullAdd_added {c : Nat} {x : HartSt} {page : Bytes} (hx : x = u.hart h) (hk : k = u.lastHull h) (hc : c = bits x.arg2 1 0)
    (hst : u.addStatus h k x.arg0 x.arg1 c = .ok) (hpage : page = readBytes u.mem (c * 2 ^ 60 + x.arg1) 4096) :
    exec (.hullAdd dt r) s = .next ((((u.pwrite ((u.hull k).mem * 2 ^ 60 + (u.hull k).base + x.arg0) page 7 pfWin).mHull k fun y =>
      { y with m := sha384 (y.m ++ leBytes x.arg0 8 ++ page) }).hullResult h .ok)) := by
  simp only [exec_hullAdd, execHullAdd, ← hu, hr, ← hx, ← hk, ← hc, hst, ← hpage]

theorem hullSeal_sealed (hk : k = u.lastHull h) (hstate : (u.hull k).state = 1) (hworld : (u.hull k).secure = !(u.hart h).normal)
    (hoff : (u.hart h).arg0 < (u.hull k).size) : exec (.hullSeal dt r) s = .next ((u.mHull k fun x => { x with
      state := 2, start := (u.hart h).arg0, m := sha384 (x.m ++ leBytes (u.hart h).arg0 8 ++ leBytes (b2n x.debugOk) 8) }).hullResult h .ok) := by
  have hmine : ((u.hull k).secure == (u.hart h).normal) = false := by
    rw [hworld]
    cases (u.hart h).normal <;> rfl
  simp only [exec_hullSeal, execHullSeal, ← hu, hr, ← hk, hstate, hmine, firstFail, Nat.not_le.mpr hoff, Bool.and_false, bne_self_eq_false, decide_false,
    Bool.false_eq_true, if_false]

end

/-! ### Entry and exit (R520, R523) -/

theorem onlyArgs_at (x10 x11 i : Nat) : tget 0 (onlyArgs x10 x11) i = if i = 11 then x11 else if i = 10 then x10 else 0 := by
  rw [onlyArgs, tget_tset, tget_tset]
  rfl

/-- The registers a hart's slot takes. -/
def savedRegs (xs : List Nat) : Tbl Nat := (List.range 31).foldl (fun x i => tset 0 x (i + 1) (xs.getD i 0)) []

theorem regs_at (f : Nat → Nat) {i : Nat} (hi : i < 31) : tget 0 ((List.range 31).foldl (fun x i => tset 0 x (i + 1) (f i)) []) (i + 1) = f i := by
  have hshift : (List.range 31).foldl (fun x i => tset 0 x (i + 1) (f i)) [] = (List.range 31).foldl (fun x i => tset 0 x (1 + i) (f i)) [] := by
    simp only [Nat.add_comm _ 1]
  rw [hshift, tget_foldl_range, if_pos (by omega), Nat.add_sub_cancel]

theorem length_saveBytes (pc : Nat) (x : Tbl Nat) : (saveBytes pc x).length = 256 := by
  rw [saveBytes, List.length_append, length_leBytes, List.length_flatMap]
  simp only [length_leBytes]
  rfl

/-- The i-th word of a list of eight-byte words. -/
theorem flatMap_words (f : Nat → Nat) (n i j : Nat) (hi : i < n) (hj : j < 8) :
    ((List.range n).flatMap fun i => leBytes (f i) 8).getD (8 * i + j) 0 = (leBytes (f i) 8).getD j 0 := by
  induction n with
  | zero => exact absurd hi (Nat.not_lt_zero i)
  | succ n ih =>
    have hlen : ((List.range n).flatMap fun i => leBytes (f i) 8).length = 8 * n := by
      rw [List.length_flatMap]
      simp only [length_leBytes, List.map_const', List.length_range, List.sum_replicate, smul_eq_mul]
      omega
    rw [List.range_succ, List.flatMap_append, List.flatMap_singleton]
    obtain rfl | hlt := Nat.eq_or_lt_of_le (Nat.le_of_lt_succ hi)
    · rw [List.getD_append_right _ _ _ _ (by omega), hlen, Nat.add_sub_cancel_left]
    · rw [List.getD_append _ _ _ _ (by omega), ih hlt]

/-- A hart that leaves its hull at an interrupt or trap. -/
def State.hullLeft (s : State) (h k cause pc : Nat) (xs : List Nat) : State :=
  (s.pwrite (s.saveSlot k h) (saveBytes pc (savedRegs xs)) 7 pfWin).mHart h fun t =>
    { t with hull := none, x := [], trap := 2, status := setBits t.status 15 12 cause }

section
variable {s u : State} {dt h k ret x10 x11 : Nat} {r : Req} (hu : u = s.tick dt)
include hu

theorem hullAsyncExit_left (cause pc : Nat) (xs : List Nat) (hhull : (u.hart h).hull = some k) :
    exec (.hullAsyncExit dt h cause pc xs) s = .next (u.hullLeft h k cause pc xs) := by
  simp only [exec_hullAsyncExit, execHullAsyncExit, ← hu, hhull, State.hullLeft, savedRegs]

variable (hr : u.hartOf r = some h)
include hr

theorem hullExit_left (hhull : (u.hart h).hull = some k) : exec (.hullExit dt r x10 x11) s =
    .next ((u.mHart h fun t => { t with hull := none, pc := t.ret, x := onlyArgs x10 x11 }).hullResult h .ok) := by
  simp only [exec_hullExit, execHullExit, ← hu, hr, hhull]

theorem hullEnter_entered (hk : k = (u.hart h).arg0) (hlt : k < 64) (hout : (u.hart h).hull = none) (hready : (u.hull k).state = 2)
    (hworld : (u.hull k).secure = !(u.hart h).normal) : exec (.hullEnter dt r ret) s = .next ((u.mHart h fun t => { t with
      hull := some k, pc := if bit (u.hart h).arg1 0 then u.savedPc k h else (u.hull k).start,
      x := if bit (u.hart h).arg1 0 then u.savedX k h else onlyArgs (u.hart h).arg1 (u.hart h).arg2, ret := ret }).hullResult h .ok) := by
  have hmine : ((u.hull k).secure == (u.hart h).normal) = false := by
    rw [hworld]
    cases (u.hart h).normal <;> rfl
  simp only [exec_hullEnter, execHullEnter, ← hu, hr, ← hk, hready, hmine, hout, firstFail, Nat.not_le.mpr hlt, Bool.and_false, bne_self_eq_false, decide_false,
    Bool.false_eq_true, if_false, Option.isSome_none, Bool.or_self]

end

/-! ### Windows (R524) -/

/-- The entry of a window. -/
def windowEntry (x : HartSt) (y : Hull) (k : Nat) : RcEntry :=
  { en := true, hullHeld := true, sRwx := if bit x.arg2 2 then bits x.arg2 1 0 * 2 else 0, nRwx := if bit x.arg2 3 then bits x.arg2 1 0 * 2 else 0,
    classes := bits x.arg2 15 8, hullSel := 1, hull := k, viSel := bits x.arg2 17 16, vi := bits x.arg2 47 32,
    limit := y.base + x.arg0 + x.arg1 - 1, base := y.base + x.arg0 }

section
variable {s u : State} {dt h k : Nat} {r : Req} (hu : u = s.tick dt)
include hu

theorem windowCloseDrained_freed {c e : Nat} (hclosing : tget 0 u.worlds.closing (c * 64 + e) = h + 1) : exec (.windowCloseDrained dt c e) s =
    .next (((u.setRc c e {}).mWorlds fun w => { w with closing := tset 0 w.closing (c * 64 + e) 0 }).hullResult h .ok) := by
  simp only [exec_windowCloseDrained, execWindowCloseDrained, ← hu, hclosing]

variable (hr : u.hartOf r = some h)
include hr

theorem hullWindowOpen_opened {e : Nat} (hhull : (u.hart h).hull = some k) (hst : u.windowStatus h = .ok) (he : u.freeEntry (u.hull k).mem = some e) :
    exec (.hullWindowOpen dt r) s = .next (((u.setRc (u.hull k).mem e (windowEntry (u.hart h) (u.hull k) k)).mHart h fun t =>
      { t with status := setBits t.status 11 6 e }).hullResult h .ok) := by
  simp only [exec_hullWindowOpen, execHullWindowOpen, ← hu, hr, hhull, Option.getD_some, hst, he, windowEntry]

theorem hullWindowClose_closed (hhull : (u.hart h).hull = some k) (hopen : (u.hart h).arg0 ∈ u.windowsOpen k) : exec (.hullWindowClose dt r) s =
    .next ((u.closeWindow (u.hull k).mem (u.hart h).arg0 (h + 1)).hullResult h .pending) := by
  have hlt : (u.hart h).arg0 < 64 := List.mem_range.mp (List.mem_of_mem_filter (List.mem_of_mem_filter hopen))
  simp only [exec_hullWindowClose, execHullWindowClose, ← hu, hr, hhull, firstFail, List.contains_iff_mem.mpr hopen, Bool.not_true, Bool.and_false,
    Nat.not_le.mpr hlt, decide_false, Bool.false_eq_true, if_false]

/-! ### Reports and destruction (R525, R526) -/

theorem hullReport_written (hhull : (u.hart h).hull = some k) (hout : (u.hart h).arg0 + 240 ≤ (u.hull k).size) (hin : (u.hart h).arg1 + 64 ≤ (u.hull k).size)
    {head : Bytes} (hhead : head = u.reportHead k (readBytes u.mem ((u.hull k).mem * 2 ^ 60 + (u.hull k).base + (u.hart h).arg1) 64)) :
    exec (.hullReport dt r) s = .next ((u.pwrite ((u.hull k).mem * 2 ^ 60 + (u.hull k).base + (u.hart h).arg0)
      (head ++ (Config.attestSign (sha384 head)).toList) 7 pfWin).hullResult h .ok) := by
  simp only [exec_hullReport, execHullReport, ← hu, hr, hhull, Nat.not_lt.mpr hout, Nat.not_lt.mpr hin, decide_false, Bool.or_self, Bool.false_eq_true, if_false, ← hhead]

end

/-- Windows closed one after another. -/
def State.windowsShut (s : State) (c : Nat) (l : List Nat) : State := l.foldl (fun s e => s.setRc c e { s.rcEntry c e with en := false }) s

/-- The entries of windows freed one after another. -/
def State.windowsFreed (s : State) (c : Nat) (l : List Nat) : State :=
  l.foldl (fun s e => (s.setRc c e {}).mWorlds fun w => { w with closing := tset 0 w.closing (c * 64 + e) 0 }) s

theorem windowsShut_en {c e : Nat} {l : List Nat} {s : State} (h : e ∈ l ∨ (s.rcEntry c e).en = false) : ((s.windowsShut c l).rcEntry c e).en = false := by
  induction l generalizing s with
  | nil => exact h.resolve_left List.not_mem_nil
  | cons x l ih =>
    refine ih (s := s.setRc c x { s.rcEntry c x with en := false }) ?_
    obtain rfl | hne := eq_or_ne e x
    · exact .inr (by rw [setRc_same])
    · rw [setRc_ne s (show c * 64 + x ≠ c * 64 + e by omega)]
      exact h.imp_left fun hin => (List.mem_cons.mp hin).resolve_left hne

theorem windowsFreed_rc {c e : Nat} {l : List Nat} {s : State} (h : e ∈ l ∨ s.rcEntry c e = {}) : (s.windowsFreed c l).rcEntry c e = {} := by
  induction l generalizing s with
  | nil => exact h.resolve_left List.not_mem_nil
  | cons x l ih =>
    refine ih (s := (s.setRc c x {}).mWorlds fun w => { w with closing := tset 0 w.closing (c * 64 + x) 0 }) ?_
    obtain rfl | hne := eq_or_ne e x
    · exact .inr (setRc_same s c e {})
    · have hkeep : ((s.setRc c x {}).mWorlds fun w => { w with closing := tset 0 w.closing (c * 64 + x) 0 }).rcEntry c e = s.rcEntry c e := setRc_ne s (show c * 64 + x ≠ c * 64 + e by omega) {}
      rw [hkeep]
      exact h.imp_left fun hin => (List.mem_cons.mp hin).resolve_left hne

theorem Frame.windowsShut {s t : State} {ps : List Part} {ks : List Nat} (hf : Frame ps ks s t) (hp : Part.worlds ∈ ps) (c : Nat) (l : List Nat) :
    Frame ps ks s (t.windowsShut c l) := Frame.foldl (fun _ _ _ g => g.setRc hp ..) hf

theorem Frame.windowsFreed {s t : State} {ps : List Part} {ks : List Nat} (hf : Frame ps ks s t) (hp : Part.worlds ∈ ps) (c : Nat) (l : List Nat) :
    Frame ps ks s (t.windowsFreed c l) := Frame.foldl (fun _ _ _ g => (g.setRc hp ..).mWorlds hp _) hf

/-- A hull whose destruction has ended. -/
def State.hullGone (s : State) (k : Nat) (x : Hull) : State :=
  (((((s.zeroRange x.mem x.base x.size).windowsFreed x.mem (s.windowsOf k)).setRc x.mem x.entry {}).mHull k fun _ => {}).hullResult x.by_ .ok)

section
variable {s u : State} {dt h k : Nat} {r : Req} (hu : u = s.tick dt)
include hu

theorem hullDestroyDone_gone {x : Hull} (hx : x = u.hull k) (hstate : x.state = 3) : exec (.hullDestroyDone dt k) s = .next (u.hullGone k x) := by
  subst hu
  subst hx
  exact if_neg (not_not.mpr hstate)

variable (hr : u.hartOf r = some h) (hk : k = (u.hart h).arg0) (hlt : k < 64) (hout : (u.hart h).hull = none) (hready : (u.hull k).state = 2)
  (hworld : (u.hull k).secure = !(u.hart h).normal)
include hr hk hlt hout hready hworld

theorem hullDestroy_taken (hempty : u.hartsIn k = []) : exec (.hullDestroy dt r) s = .next (((u.windowsShut (u.hull k).mem (u.windowsOpen k)).mHull k fun x =>
    { x with state := 3, by_ := h }).hullResult h .pending) := by
  have hmine : ((u.hull k).secure == (u.hart h).normal) = false := by
    rw [hworld]
    cases (u.hart h).normal <;> rfl
  have hlives : ((2 : Nat) == 0 || (2 : Nat) == 3) = false := rfl
  simp only [exec_hullDestroy, execHullDestroy, ← hu, hr, ← hk, hready, hlives, hmine, hout, firstFail, hempty, Nat.not_le.mpr hlt, Bool.and_false, bne_self_eq_false,
    decide_false, Bool.false_eq_true, if_false, Option.isSome_none, Bool.or_self, State.windowsShut]

theorem hullDestroy_busy (hsome : u.hartsIn k ≠ []) : exec (.hullDestroy dt r) s = .next (u.hullResult h .busy) := by
  have hmine : ((u.hull k).secure == (u.hart h).normal) = false := by
    rw [hworld]
    cases (u.hart h).normal <;> rfl
  have hlives : ((2 : Nat) == 0 || (2 : Nat) == 3) = false := rfl
  simp only [exec_hullDestroy, execHullDestroy, ← hu, hr, ← hk, hready, hlives, hmine, hout, firstFail, bne_iff_ne.mpr hsome, Nat.not_le.mpr hlt, Bool.and_false,
    decide_false, Bool.false_eq_true, if_false, Option.isSome_none, Bool.or_self, if_true]

end

/-- A page is added at an offset of a page. -/
theorem addStatus_aligned {s : State} {h k off src c : Nat} (hok : s.addStatus h k off src c = .ok) : off % 4096 = 0 := by
  by_contra hoff
  have hbad : (c == 3 || off % 4096 != 0 || off == 0 || decide ((s.hull k).size < off + 4096) || decide (s.rcSize c < src + 4096)) = true := by
    simp only [Bool.or_eq_true, bne_iff_ne]
    tauto
  simp only [State.addStatus, firstFail, hbad, if_true] at hok
  split at hok
  · exact Status.noConfusion hok
  · split at hok <;> exact Status.noConfusion hok

section
variable {s : State} {h k cause pc : Nat} {xs : List Nat} (hbase : (s.hull k).base % 4096 = 0)
include hbase

theorem saveSlot_whole : s.saveSlot k h % 8 = 0 := by
  unfold State.saveSlot
  omega

theorem hullLeft_slot : (s.hullLeft h k cause pc xs).saveSlot k h = s.saveSlot k h := by
  have hworlds := pwrite_whole_worlds (s := s) (bs := saveBytes pc (savedRegs xs)) (saveSlot_whole (h := h) hbase) (by rw [length_saveBytes]) 7 pfWin
  have hhull : (s.hullLeft h k cause pc xs).hull k = s.hull k := by
    rw [State.hullLeft, mHart_hull, hull_congr hworlds]
  rw [State.saveSlot, State.saveSlot, hhull]

/-- The bytes of the slot. -/
theorem hullLeft_bytes {j : Nat} (hj : j < 256) : tget 0 (s.hullLeft h k cause pc xs).mem (s.saveSlot k h + j) = (saveBytes pc (savedRegs xs)).getD j 0 := by
  rw [State.hullLeft, mHart_mem, pwrite_whole_mem (saveSlot_whole hbase) (by rw [length_saveBytes]), length_saveBytes, if_pos (by omega),
    Nat.add_sub_cancel_left]

theorem hullLeft_pc : (s.hullLeft h k cause pc xs).savedPc k h = pc % 2 ^ 64 := by
  have hword : readBytes (s.hullLeft h k cause pc xs).mem (s.saveSlot k h) 8 = leBytes pc 8 := by
    refine readBytes_eq (length_leBytes ..) fun j hj => ?_
    rw [hullLeft_bytes hbase (by omega), saveBytes, List.getD_append _ _ _ _ (by rwa [length_leBytes])]
  rw [State.savedPc, hullLeft_slot hbase, hword, leNat_leBytes]
  norm_num

theorem hullLeft_reg {i : Nat} (hi : i < 31) : tget 0 ((s.hullLeft h k cause pc xs).savedX k h) (i + 1) = xs.getD i 0 % 2 ^ 64 := by
  have hword : readBytes (s.hullLeft h k cause pc xs).mem (s.saveSlot k h + 8 * (i + 1)) 8 = leBytes (xs.getD i 0) 8 := by
    refine readBytes_eq (length_leBytes ..) fun j hj => ?_
    have hplace : 8 * (i + 1) + j - (leBytes pc 8).length = 8 * i + j := by
      rw [length_leBytes]
      omega
    rw [Nat.add_assoc, hullLeft_bytes hbase (by omega), saveBytes, List.getD_append_right _ _ _ _ (by rw [length_leBytes]; omega), hplace,
      flatMap_words (fun i => tget 0 (savedRegs xs) (i + 1)) 31 i j hi hj, savedRegs, regs_at _ hi]
  rw [State.savedX, regs_at _ hi, hullLeft_slot hbase, hword, leNat_leBytes]
  norm_num

theorem hullLeft_frame : FrameM [.worlds, .seed] [] (fun a => s.saveSlot k h ≤ a ∧ a < s.saveSlot k h + 256) (fun _ => False) s (s.hullLeft h k cause pc xs) :=
  (pwrite_whole_frame (saveSlot_whole hbase) (by rw [length_saveBytes]) (by simp) (fun _ hlo hhi => ⟨hlo, by rwa [length_saveBytes] at hhi⟩) 7 pfWin).frame
    ((Frame.refl ..).mHart (by simp) ..)

end

/-- What is left of a hull that is gone. -/
theorem hullGone_shown (s : State) (k : Nat) (x : Hull) : (s.hullGone k x).hull k = {} ∧ (s.hullGone k x).rcEntry x.mem x.entry = {}
    ∧ (∀ e ∈ s.windowsOf k, (s.hullGone k x).rcEntry x.mem e = {}) := by
  refine ⟨?_, ?_, fun e he => ?_⟩
  · rw [State.hullGone, hullResult_hull, mHull_same]
  · rw [State.hullGone, hullResult_rc, mHull_rc, setRc_same]
  · rw [State.hullGone, hullResult_rc, mHull_rc]
    obtain rfl | hne := eq_or_ne e x.entry
    · rw [setRc_same]
    · rw [setRc_ne _ (by omega)]
      exact windowsFreed_rc (.inl he)

theorem hullGone_cleared (s : State) (k : Nat) (x : Hull) : Frame [.worlds, .seed] [] (s.zeroRange x.mem x.base x.size) (s.hullGone k x) := by
  unfold State.hullGone
  exact ((((Frame.refl ..).windowsFreed (by simp) ..).setRc (by simp) ..).mHull (by simp) ..).hullResult (by simp) ..

/-- Settles O41: each command by its own rule; the slot of a hart and the pages of a hull start at whole words, so what is written is what is
read (log entries 6 and 44). -/
theorem hulls : Obligations.Hulls := by
  unfold Obligations.Hulls
  refine ⟨fun dt h k e c r x s u hu hr hx hc hst hk he => ?made, fun dt h k c d r page x s u hu hr hx hk hc hst hbase hpage hd => ?added,
    fun dt h k r s u hu hr hk hstate hworld hoff => ⟨_, hullSeal_sealed hu hr hk hstate hworld hoff, ?sealed⟩,
    fun dt h k ret r s u hu hr hk hlt hout hready hworld => ⟨_, hullEnter_entered hu hr hk hlt hout hready hworld, ?enter⟩,
    fun dt h k x10 x11 r s u hu hr hhull => ⟨_, hullExit_left hu hr hhull, ?exit⟩,
    fun dt h k cause pc xs s u hu hhull hbase => ⟨_, hullAsyncExit_left hu cause pc xs hhull, ?async⟩,
    fun dt h k e r s u hu hr hhull hst he => ⟨_, hullWindowOpen_opened hu hr hhull hst he, ?opened⟩,
    fun dt h k e c r s u hu hr hhull he hc hopen => ?closed,
    fun dt c e h s u hu hclosing => ⟨_, windowCloseDrained_freed hu hclosing, ?drained⟩,
    fun dt h k r s u hu hr hhull hout hin => ⟨_, hullReport_written hu hr hhull hout hin rfl, rfl⟩,
    fun dt h k r s u hu hr hk hlt hout hready hworld => ⟨fun hempty => ⟨_, hullDestroy_taken hu hr hk hlt hout hready hworld hempty, ?destroy⟩,
      fun hsome => hullDestroy_busy hu hr hk hlt hout hready hworld hsome⟩,
    fun dt k x s u hu hx hstate => ⟨_, hullDestroyDone_gone hu hx hstate, ?gone⟩⟩
  case made =>
    subst hc
    have hk64 : k < 64 := List.mem_range.mp (List.mem_of_find?_eq_some hk)
    refine ⟨_, hullCreate_made hu hr hx hst hk he, ?_, ?_, ?_, ?_, fun a hlo hhi => ?_, ?_⟩
    · rw [State.hullMade, hullResult_hull, mHart_hull, mHull_same, hullBuilding]
    · rw [State.hullMade, hullResult_rc, mHart_rc, mHull_rc, setRc_same, hullEntry]
    · rw [State.hullMade, hullResult_field _ _ _ (by decide), mHart_same, bits_setBits (by decide)]
      exact Nat.mod_eq_of_lt hk64
    · rw [State.hullMade, hullResult_status]
    · rw [State.hullMade, hullResult_mem, mHart_mem, mHull_mem, setRc_mem, zeroRange_mem, if_pos ⟨hlo, hhi⟩]
    · unfold State.hullMade
      exact (zeroRange_frame u _ _ _ (by simp)).frame (((((Frame.refl ..).setRc (by simp) ..).mHull (by simp) ..).mHart (by simp) ..).hullResult (by simp) ..)
  case added =>
    have hoff := addStatus_aligned hst
    have hlen : page.length = 4096 := by rw [hpage, length_readBytes]
    have hpage8 : page.length % 8 = 0 := by rw [hlen]
    have hd8 : ((u.hull k).mem * 2 ^ 60 + (u.hull k).base + x.arg0) % 8 = 0 := by omega
    have hworlds := pwrite_whole_worlds (s := u) hd8 hpage8 7 pfWin
    subst hd
    refine ⟨_, hullAdd_added hu hr hx hk hc hst hpage, ?_, fun j hj => ?_, hullResult_status .., ?_⟩
    · rw [hullResult_hull, mHull_same, hull_congr hworlds]
    · rw [hullResult_mem, mHull_mem, pwrite_whole_mem hd8 hpage8, hlen, if_pos (by omega), Nat.add_sub_cancel_left, hpage, getD_readBytes _ _ hj]
    · exact (pwrite_whole_frame hd8 hpage8 (by simp) (fun _ hlo hhi => ⟨hlo, by rwa [hlen] at hhi⟩) 7 pfWin).frame
        (((Frame.refl ..).mHull (by simp) ..).hullResult (by simp) ..)
  case sealed =>
    refine ⟨?_, ?_, hullResult_status .., ?_, ((Frame.refl ..).mHull (by simp) ..).hullResult (by simp) ..⟩
    · rw [hullResult_hull, mHull_same]
    · rw [hullResult_hull, mHull_same]
    · rw [hullResult_hull, mHull_same]
  case enter =>
    rw [hullResult_hart, mHart_same]
    refine ⟨rfl, rfl, ?_, fun hfirst => ⟨?_, ?_⟩, fun hagain => ⟨if_pos hagain, if_pos hagain⟩, ((Frame.refl ..).mHart (by simp) ..).hullResult (by simp) ..⟩
    · rw [bits_setBits (by decide)]
      exact Nat.mod_eq_of_lt (Status.code_lt _)
    · exact if_neg (by rw [hfirst]; decide)
    · exact if_neg (by rw [hfirst]; decide)
  case exit =>
    rw [hullResult_hart, mHart_same]
    refine ⟨rfl, rfl, ?_, ?_, fun i h10 h11 => ?_, ((Frame.refl ..).mHart (by simp) ..).hullResult (by simp) ..⟩
    · exact onlyArgs_at ..
    · exact onlyArgs_at ..
    · exact (onlyArgs_at ..).trans ((if_neg h11).trans (if_neg h10))
  case async =>
    have hhart : (u.hullLeft h k cause pc xs).hart h = _ := mHart_same ..
    refine ⟨?_, ?_, ?_, ?_, hullLeft_pc hbase, fun i hi => hullLeft_reg hbase hi, hullLeft_frame hbase⟩
    · rw [hhart]
    · rw [hhart]
    · rw [hhart]
    · rw [hhart, bits_setBits (by decide)]
      rfl
  case opened =>
    have he64 : e < 64 := List.mem_range.mp (List.mem_reverse.mp (List.mem_of_find?_eq_some he))
    rw [hullResult_rc, mHart_rc, setRc_same, hullResult_field _ _ _ (by decide), mHart_same, bits_setBits (by decide)]
    exact ⟨rfl, rfl, rfl, rfl, rfl, Nat.mod_eq_of_lt he64, hullResult_status .., (((Frame.refl ..).setRc (by simp) ..).mHart (by simp) ..).hullResult (by simp) ..⟩
  case closed =>
    subst he hc
    refine ⟨_, hullWindowClose_closed hu hr hhull hopen, ?_, ?_, hullResult_status .., ?_⟩
    · exact congrArg RcEntry.en (setRc_same u _ _ { u.rcEntry (u.hull k).mem (u.hart h).arg0 with en := false })
    · rw [hullResult_closing, State.closeWindow, State.mWorlds_worlds, tget_tset_same]
    · exact (((Frame.refl ..).setRc (by simp) ..).mWorlds (by simp) _).hullResult (by simp) ..
  case drained =>
    refine ⟨setRc_same u c e {}, by rw [hullResult_closing, State.mWorlds_worlds, tget_tset_same], hullResult_status .., (((Frame.refl ..).setRc (by simp) ..).mWorlds (by simp) _).hullResult (by simp) ..⟩
  case destroy =>
    rw [hullResult_hull, mHull_same]
    exact ⟨rfl, rfl, fun e he => windowsShut_en (.inl he), hullResult_status .., (((Frame.refl ..).windowsShut (by simp) ..).mHull (by simp) ..).hullResult (by simp) ..⟩
  case gone =>
    obtain ⟨hempty, hentry, hfreed⟩ := hullGone_shown u k x
    have hcleared := hullGone_cleared u k x
    refine ⟨hempty, hentry, hfreed, by rw [State.hullGone, hullResult_status], fun a hlo hhi => ?_, (zeroRange_frame u _ _ _ (by simp)).frame hcleared⟩
    rw [hcleared.mem, zeroRange_mem, if_pos ⟨hlo, hhi⟩]

end Sys2Proof.Machine
end
